-- ==== Sys2Proof/Word.lean ====
section
/-! DEFINITION. The word types of the block and their plainest arithmetic. -/

namespace Sys2Proof

/-- One byte. -/
abbrev Byte := BitVec 8
/-- A 32-bit word. -/
abbrev W32 := BitVec 32
/-- A 64-bit word. -/
abbrev W64 := BitVec 64

/-- `v` capped at `cap`: the saturating counters of the manual. -/
def satAt (cap v : Nat) : Nat := if v ≤ cap then v else cap

/-- A 32-bit counter advanced by `k`, wrapping. -/
def wrap32 (v : Nat) : Nat := v % 4294967296

/-- The signed value of a `w`-bit two's complement pattern. -/
def toSigned (w v : Nat) : Int :=
  if v % 2 ^ w < 2 ^ (w - 1) then (v % 2 ^ w : Nat) else ((v % 2 ^ w : Nat) : Int) - (2 ^ w : Nat)

/-- The `w`-bit two's complement pattern of an integer. -/
def ofSigned (w : Nat) (i : Int) : Nat := (i % ((2 ^ w : Nat) : Int)).toNat

/-- An integer limited to the range `lo` to `hi`. -/
def clampInt (lo hi i : Int) : Int := if i < lo then lo else if hi < i then hi else i

/-- Integer quotient rounded toward zero. -/
def divTrunc (a b : Int) : Int := Int.tdiv a b

/-- Bits `hi` to `lo` of a number. -/
def bits (v hi lo : Nat) : Nat := v / 2 ^ lo % 2 ^ (hi + 1 - lo)

/-- Bit `i` of a number. -/
def bit (v i : Nat) : Bool := v / 2 ^ i % 2 == 1

/-- The least significant `n` bytes of a number, little-endian (R4, R776). -/
def leBytes : Nat → Nat → List Byte
  | 0, _ => []
  | n + 1, v => BitVec.ofNat 8 (v % 256) :: leBytes n (v / 256)

/-- The number a little-endian byte list spells (R4). -/
def ofLeBytes : List Byte → Nat
  | [] => 0
  | b :: bs => b.toNat + 256 * ofLeBytes bs

/-- One `Bool` as a bit. -/
def b2n (b : Bool) : Nat := if b then 1 else 0

/-- The `n` members of a list from position `o`, absent positions read as `d`. -/
def slice {α : Type} (d : α) (l : List α) (o n : Nat) : List α :=
  (List.range n).map (fun i => l.getD (o + i) d)

/-- A list with position `i` replaced, when it exists. -/
def setAt {α : Type} (l : List α) (i : Nat) (a : α) : List α := l.set i a

/-- A list with the `n` bytes from position `o` replaced. -/
def spliceAt {α : Type} (l : List α) (o : Nat) (new : List α) : List α :=
  l.take o ++ new ++ l.drop (o + new.length)

end Sys2Proof
end

