-- ==== Sys2Proof/Machine/RegTable.lean ====
section
/-! DEFINITION. The register map: every block, register and field of management space and of the partition windows,
with offsets, widths, reset domains, access codes and reset values (R29, R74, R109, R110, R150, R187, R188, R233, R297,
R328, R362, R442, R469, R498, R538, R563, R603, R646, R671, R702, R731, R754). -/

namespace Sys2Proof.Machine

/-- Access codes of Table 00.3 (R5). -/
inductive Acc where
  | rw | ro | w1c | w1s | wo | rz
  deriving DecidableEq, Repr

/-- Reset domains of Table 00.4 (R15); `none` is a location that holds no value. -/
inductive Dom where
  | aon | cold | warm | mrw | isl (n : Nat) | part (p : Nat) | link (k : Nat) | none
  deriving DecidableEq, Repr

/-- One bit field of one register: the key of the register and the bit range. -/
structure Fld where
  key : Nat
  hi  : Nat
  lo  : Nat
  deriving DecidableEq, Repr

/-- One row of a register table: `reset b i` is the reset value in block instance `b`, register index `i`, and
`legal` lists the defined encodings (empty: all, R8). -/
structure FieldDesc where
  name  : String
  hi    : Nat
  lo    : Nat
  acc   : Acc
  reset : Nat → Nat → Nat
  legal : List (Nat × Nat)

/-- One register, or an indexed family of registers of one block. -/
structure RegDesc where
  name   : String
  off    : Nat
  width  : Nat
  count  : Nat
  stride : Nat
  dom    : Nat → Nat → Dom
  fields : List FieldDesc

/-- One block of Table 20.12, or the sixteen partition windows, placed above management space. -/
structure BlockDesc where
  name   : String
  base   : Nat
  stride : Nat
  count  : Nat
  regs   : List RegDesc

/-- Reset ODIV of SYN_i (Table 04.1, R111). -/
def synResetOdiv (i : Nat) : Nat := if i = 9 then 10 else if i = 10 then 16 else if i = 11 then 2 else 4
/-- Reset NINT of SYN_i (Table 04.1, R111). -/
def synResetNint (i : Nat) : Nat := if i = 8 then 72 else if i = 9 then 53 else if i = 11 then 48 else 64
/-- Reset NFRAC of SYN_i (Table 04.9). -/
def synResetNfrac (i : Nat) : Nat := if i = 9 then 0x533333 else 0
/-- Class of raster context i (Table 16.3, R577). -/
def rasResetClass (i : Nat) : Nat := if i = 0 then 0 else if i = 1 then 1 else 2
/-- Reset value of word i of an MSI-X table: the vector control word has its mask bit set, as the PCIe base
specification gives it (R777). -/
def hifMsixReset (i : Nat) : Nat := if i % 4 = 3 then 1 else 0


namespace R

/-- GLB_ID (R29). -/
abbrev GLB_ID : Nat := 0x0
/-- GLB_REV (R29). -/
abbrev GLB_REV : Nat := 0x4
/-- GLB_FEATURE (R29). -/
abbrev GLB_FEATURE : Nat := 0x8
/-- GLB_UID (R29). -/
abbrev GLB_UID : Nat := 0x10
/-- GLB_STRAP (R74). -/
abbrev GLB_STRAP : Nat := 0x20
/-- SMB_CTRL (R538). -/
abbrev SMB_CTRL : Nat := 0x10000
/-- SMB_STATUS (R538). -/
abbrev SMB_STATUS : Nat := 0x10004
/-- SMB_REQ_LEN (R538). -/
abbrev SMB_REQ_LEN : Nat := 0x10008
/-- SMB_STATE (R538). -/
abbrev SMB_STATE : Nat := 0x10010
/-- SMB_LIFECYCLE (R538). -/
abbrev SMB_LIFECYCLE : Nat := 0x10014
/-- SMB_TDI (R538). -/
abbrev SMB_TDI : Nat := 0x10018
/-- SMB_SUPERSEDED (R538). -/
abbrev SMB_SUPERSEDED : Nat := 0x1001c
/-- SMB_SVN (R538). -/
abbrev SMB_SVN : Nat := 0x10020
/-- SMB_BUF (R538). -/
abbrev SMB_BUF (i : Nat) : Nat := 0x11000 + 4 * i
/-- CKR_SYN_CTL (R150). -/
abbrev CKR_SYN_CTL (i : Nat) : Nat := 0x20000 + 0x20 * i
/-- CKR_SYN_FRAC (R150). -/
abbrev CKR_SYN_FRAC (i : Nat) : Nat := 0x20004 + 0x20 * i
/-- CKR_SYN_LOCK (R150). -/
abbrev CKR_SYN_LOCK (i : Nat) : Nat := 0x20008 + 0x20 * i
/-- CKR_SYN_GUARD (R150). -/
abbrev CKR_SYN_GUARD (i : Nat) : Nat := 0x2000c + 0x20 * i
/-- CKR_SYN_STATUS (R150). -/
abbrev CKR_SYN_STATUS (i : Nat) : Nat := 0x20010 + 0x20 * i
/-- CKR_CLKOUT (R150). -/
abbrev CKR_CLKOUT (i : Nat) : Nat := 0x20400 + 0x10 * i
/-- CKR_RST_CAUSE (R109). -/
abbrev CKR_RST_CAUSE : Nat := 0x20800
/-- CKR_NODE_RST (R110). -/
abbrev CKR_NODE_RST : Nat := 0x20804
/-- CKR_ISL_RST (R110). -/
abbrev CKR_ISL_RST : Nat := 0x20808
/-- CKR_ISL_STATE (R110). -/
abbrev CKR_ISL_STATE : Nat := 0x2080c
/-- CKR_START_STAGE (R110). -/
abbrev CKR_START_STAGE : Nat := 0x20810
/-- CKR_INCARNATION (R110). -/
abbrev CKR_INCARNATION : Nat := 0x20818
/-- CKR_SYN_TRIP (R150). -/
abbrev CKR_SYN_TRIP : Nat := 0x20820
/-- CKR_ISL_CLK (R150). -/
abbrev CKR_ISL_CLK : Nat := 0x20824
/-- PWR_TEMP (R731). -/
abbrev PWR_TEMP (i : Nat) : Nat := 0x30000 + 4 * i
/-- PWR_THERM_CFG (R731). -/
abbrev PWR_THERM_CFG : Nat := 0x30040
/-- PWR_THERM_STATUS (R731). -/
abbrev PWR_THERM_STATUS : Nat := 0x30044
/-- PWR_AVS_STATUS (R110). -/
abbrev PWR_AVS_STATUS : Nat := 0x30100
/-- PWR_POWER (R731). -/
abbrev PWR_POWER : Nat := 0x30104
/-- EVT_ROUTE (R731). -/
abbrev EVT_ROUTE (i : Nat) : Nat := 0x40000 + 4 * i
/-- EVT_Q_BASE (R731). -/
abbrev EVT_Q_BASE : Nat := 0x40800
/-- EVT_Q_CFG (R731). -/
abbrev EVT_Q_CFG : Nat := 0x40808
/-- EVT_Q_TAIL (R731). -/
abbrev EVT_Q_TAIL : Nat := 0x4080c
/-- EVT_Q_HEAD (R731). -/
abbrev EVT_Q_HEAD : Nat := 0x40810
/-- EVT_Q_STATUS (R731). -/
abbrev EVT_Q_STATUS : Nat := 0x40814
/-- EVT_FAB_TGT (R731). -/
abbrev EVT_FAB_TGT : Nat := 0x40840
/-- EVT_FAB_DROP (R731). -/
abbrev EVT_FAB_DROP : Nat := 0x40844
/-- EVT_OCCURRED (R731). -/
abbrev EVT_OCCURRED (i : Nat) : Nat := 0x40900 + 4 * i
/-- MC_STATUS (R187). -/
abbrev MC_STATUS (b : Nat) : Nat := 0x100000 + 0x10000 * b
/-- MC_RETIRE (R187). -/
abbrev MC_RETIRE (b : Nat) : Nat := 0x100008 + 0x10000 * b
/-- MC_CMD (R187). -/
abbrev MC_CMD (b : Nat) : Nat := 0x100010 + 0x10000 * b
/-- MC_CE (R187). -/
abbrev MC_CE (b : Nat) : Nat := 0x100018 + 0x10000 * b
/-- MC_ERR_LOG (R188). -/
abbrev MC_ERR_LOG (b : Nat) : Nat := 0x100020 + 0x10000 * b
/-- MC_DEV (R187). -/
abbrev MC_DEV (b i : Nat) : Nat := 0x100100 + 0x10000 * b + 4 * i
/-- MEMG_CFG (R187). -/
abbrev MEMG_CFG : Nat := 0x300000
/-- MEMG_GRANULES (R187). -/
abbrev MEMG_GRANULES : Nat := 0x300004
/-- MEMG_THR (R187). -/
abbrev MEMG_THR : Nat := 0x300010
/-- MEMG_SCRUB (R187). -/
abbrev MEMG_SCRUB : Nat := 0x300014
/-- MEMG_SCRUB_STATUS (R187). -/
abbrev MEMG_SCRUB_STATUS : Nat := 0x300018
/-- MEMG_POISON (R187). -/
abbrev MEMG_POISON : Nat := 0x30001c
/-- MEMG_PPR_CMD (R187). -/
abbrev MEMG_PPR_CMD : Nat := 0x300030
/-- MEMG_PPR_STATUS (R187). -/
abbrev MEMG_PPR_STATUS : Nat := 0x300034
/-- XLT_GRAN_SEL (R233). -/
abbrev XLT_GRAN_SEL : Nat := 0x400000
/-- XLT_GRAN_VIEW (R233). -/
abbrev XLT_GRAN_VIEW : Nat := 0x400004
/-- XLT_SHR (R233). -/
abbrev XLT_SHR (i : Nat) : Nat := 0x400040 + 4 * i
/-- XLT_EPOCH_CUR (R233). -/
abbrev XLT_EPOCH_CUR (i : Nat) : Nat := 0x400100 + 4 * i
/-- XLT_EPOCH_ACK (R233). -/
abbrev XLT_EPOCH_ACK (i : Nat) : Nat := 0x400140 + 4 * i
/-- XLT_STATUS (R233). -/
abbrev XLT_STATUS : Nat := 0x400200
/-- FP_CTL (R297). -/
abbrev FP_CTL (b : Nat) : Nat := 0x500000 + 0x10000 * b
/-- FP_THR (R297). -/
abbrev FP_THR (b : Nat) : Nat := 0x500004 + 0x10000 * b
/-- FP_BUFW (R297). -/
abbrev FP_BUFW (b : Nat) : Nat := 0x500008 + 0x10000 * b
/-- FP_STATUS (R297). -/
abbrev FP_STATUS (b : Nat) : Nat := 0x500010 + 0x10000 * b
/-- FP_DOWN_CAUSE (R297). -/
abbrev FP_DOWN_CAUSE (b : Nat) : Nat := 0x500014 + 0x10000 * b
/-- FP_LANEMAP (R297). -/
abbrev FP_LANEMAP (b : Nat) : Nat := 0x500018 + 0x10000 * b
/-- FP_FLITS_RX (R297). -/
abbrev FP_FLITS_RX (b : Nat) : Nat := 0x500100 + 0x10000 * b
/-- FP_CRC_FAIL (R297). -/
abbrev FP_CRC_FAIL (b : Nat) : Nat := 0x500108 + 0x10000 * b
/-- FP_REPLAYS (R297). -/
abbrev FP_REPLAYS (b : Nat) : Nat := 0x500110 + 0x10000 * b
/-- FP_RETRAINS (R297). -/
abbrev FP_RETRAINS (b : Nat) : Nat := 0x500118 + 0x10000 * b
/-- FP_DOWNS (R297). -/
abbrev FP_DOWNS (b : Nat) : Nat := 0x50011c + 0x10000 * b
/-- FP_FEC_CORR (R297). -/
abbrev FP_FEC_CORR (b : Nat) : Nat := 0x500120 + 0x10000 * b
/-- FP_FEC_UNCORR (R297). -/
abbrev FP_FEC_UNCORR (b : Nat) : Nat := 0x500128 + 0x10000 * b
/-- FP_UNATT_DROP (R297). -/
abbrev FP_UNATT_DROP (b : Nat) : Nat := 0x500130 + 0x10000 * b
/-- FP_MALFORMED (R297). -/
abbrev FP_MALFORMED (b : Nat) : Nat := 0x500134 + 0x10000 * b
/-- FP_UNROUTABLE (R297). -/
abbrev FP_UNROUTABLE (b : Nat) : Nat := 0x500138 + 0x10000 * b
/-- FP_CREDIT_OVERRUN (R297). -/
abbrev FP_CREDIT_OVERRUN (b : Nat) : Nat := 0x50013c + 0x10000 * b
/-- FP_MEMO_CFG (R297). -/
abbrev FP_MEMO_CFG : Nat := 0x500800
/-- FP_MEMO_STAT (R297). -/
abbrev FP_MEMO_STAT : Nat := 0x500808
/-- FP_MEMO_USED (R297). -/
abbrev FP_MEMO_USED : Nat := 0x500810
/-- FP_APR_ROUTE (R297). -/
abbrev FP_APR_ROUTE (i : Nat) : Nat := 0x500900 + 8 * i
/-- FP_APR_DEFAULT (R297). -/
abbrev FP_APR_DEFAULT : Nat := 0x500980
/-- TOPO_CFG (R328). -/
abbrev TOPO_CFG : Nat := 0x580000
/-- TOPO_STATUS (R328). -/
abbrev TOPO_STATUS : Nat := 0x580004
/-- TOPO_SIZES (R328). -/
abbrev TOPO_SIZES : Nat := 0x580008
/-- TOPO_GEN (R328). -/
abbrev TOPO_GEN : Nat := 0x58000c
/-- TOPO_COORD (R328). -/
abbrev TOPO_COORD : Nat := 0x580010
/-- TOPO_PARENT (R328). -/
abbrev TOPO_PARENT : Nat := 0x580018
/-- TOPO_NODES (R328). -/
abbrev TOPO_NODES : Nat := 0x58001c
/-- TOPO_NBR_UID (R328). -/
abbrev TOPO_NBR_UID (i : Nat) : Nat := 0x580040 + 16 * i
/-- TOPO_NBR_INFO (R328). -/
abbrev TOPO_NBR_INFO (i : Nat) : Nat := 0x580048 + 16 * i
/-- TOPO_NBR_INC (R328). -/
abbrev TOPO_NBR_INC (i : Nat) : Nat := 0x58004c + 16 * i
/-- TOPO_SRL_TIME (R328). -/
abbrev TOPO_SRL_TIME : Nat := 0x580100
/-- TOPO_SRL_FRAC (R328). -/
abbrev TOPO_SRL_FRAC : Nat := 0x580108
/-- TOPO_SRL_SET (R328). -/
abbrev TOPO_SRL_SET : Nat := 0x580110
/-- TOPO_SRL_CFG (R328). -/
abbrev TOPO_SRL_CFG : Nat := 0x580118
/-- TOPO_SRL_STATUS (R328). -/
abbrev TOPO_SRL_STATUS : Nat := 0x58011c
/-- TOPO_SRL_OFFSET (R328). -/
abbrev TOPO_SRL_OFFSET : Nat := 0x580120
/-- TOPO_SRL_RATE (R328). -/
abbrev TOPO_SRL_RATE : Nat := 0x580124
/-- TOPO_SRL_DELAY (R328). -/
abbrev TOPO_SRL_DELAY (i : Nat) : Nat := 0x580140 + 4 * i
/-- RING_BIND (R362). -/
abbrev RING_BIND (b : Nat) : Nat := 0x600000 + 0x100 * b
/-- RING_STATE (R362). -/
abbrev RING_STATE (b : Nat) : Nat := 0x600004 + 0x100 * b
/-- RING_CTL (R362). -/
abbrev RING_CTL (b : Nat) : Nat := 0x600008 + 0x100 * b
/-- CC_HATCH (R442). -/
abbrev CC_HATCH (b : Nat) : Nat := 0x700000 + 0x40000 * b
/-- CC_STIPPLE_SVC (R442). -/
abbrev CC_STIPPLE_SVC (b : Nat) : Nat := 0x700004 + 0x40000 * b
/-- CC_STIPPLE_RET (R442). -/
abbrev CC_STIPPLE_RET (b : Nat) : Nat := 0x700008 + 0x40000 * b
/-- CC_CFG (R442). -/
abbrev CC_CFG (b : Nat) : Nat := 0x700010 + 0x40000 * b
/-- CC_TASKS (R442). -/
abbrev CC_TASKS (b : Nat) : Nat := 0x700040 + 0x40000 * b
/-- CC_RERUNS (R442). -/
abbrev CC_RERUNS (b : Nat) : Nat := 0x700048 + 0x40000 * b
/-- CC_HCHK (R442). -/
abbrev CC_HCHK (b i : Nat) : Nat := 0x700100 + 0x40000 * b + 4 * i
/-- CC_SMIS (R442). -/
abbrev CC_SMIS (b i : Nat) : Nat := 0x700140 + 0x40000 * b + 4 * i
/-- CC_STAGE_ECC (R442). -/
abbrev CC_STAGE_ECC (b : Nat) : Nat := 0x700200 + 0x40000 * b
/-- ATT_CFG (R469). -/
abbrev ATT_CFG : Nat := 0x800000
/-- ATT_JOBS (R469). -/
abbrev ATT_JOBS : Nat := 0x800010
/-- ATT_PAGES (R469). -/
abbrev ATT_PAGES : Nat := 0x800018
/-- ATT_CHUNKS (R469). -/
abbrev ATT_CHUNKS : Nat := 0x800020
/-- ATT_ROWS (R469). -/
abbrev ATT_ROWS : Nat := 0x800028
/-- ATT_INVOKES (R469). -/
abbrev ATT_INVOKES : Nat := 0x800030
/-- ATT_INV_MALF (R469). -/
abbrev ATT_INV_MALF : Nat := 0x800034
/-- ATT_POISONED (R469). -/
abbrev ATT_POISONED : Nat := 0x800038
/-- RAS_CTX_OWNER (R603). -/
abbrev RAS_CTX_OWNER (i : Nat) : Nat := 0x900000 + 4 * i
/-- RAS_CTX_STATE (R603). -/
abbrev RAS_CTX_STATE (i : Nat) : Nat := 0x900020 + 4 * i
/-- RAS_THR_SEL (R603). -/
abbrev RAS_THR_SEL : Nat := 0x900040
/-- RAS_THR_DATA (R603). -/
abbrev RAS_THR_DATA : Nat := 0x900044
/-- RAS_THR_STATUS (R603). -/
abbrev RAS_THR_STATUS : Nat := 0x900048
/-- RAS_SEAL_PAGES (R603). -/
abbrev RAS_SEAL_PAGES : Nat := 0x900050
/-- RAS_JOBS (R603). -/
abbrev RAS_JOBS : Nat := 0x900080
/-- RAS_TILES (R603). -/
abbrev RAS_TILES : Nat := 0x900088
/-- RAS_RETILES (R603). -/
abbrev RAS_RETILES : Nat := 0x900090
/-- DSP_CTL (R603). -/
abbrev DSP_CTL : Nat := 0x980000
/-- DSP_H (R603). -/
abbrev DSP_H : Nat := 0x980008
/-- DSP_V (R603). -/
abbrev DSP_V : Nat := 0x980010
/-- DSP_POL (R603). -/
abbrev DSP_POL : Nat := 0x980018
/-- DSP_PIXCLK (R603). -/
abbrev DSP_PIXCLK : Nat := 0x98001c
/-- DSP_PIXFRAC (R603). -/
abbrev DSP_PIXFRAC : Nat := 0x980020
/-- DSP_STATUS (R603). -/
abbrev DSP_STATUS : Nat := 0x980024
/-- DSP_FRAME_SEQ (R603). -/
abbrev DSP_FRAME_SEQ : Nat := 0x980028
/-- DSP_REPROJ (R603). -/
abbrev DSP_REPROJ : Nat := 0x980030
/-- DSP_DISPLACED (R603). -/
abbrev DSP_DISPLACED : Nat := 0x980034
/-- DSP_POISONED (R603). -/
abbrev DSP_POISONED : Nat := 0x980038
/-- DSP_HDCP_ALLOW (R603). -/
abbrev DSP_HDCP_ALLOW (i : Nat) : Nat := 0x980040 + 8 * i
/-- DSP_HDCP_RXID (R603). -/
abbrev DSP_HDCP_RXID : Nat := 0x980060
/-- DSP_AUX_CMD (R603). -/
abbrev DSP_AUX_CMD : Nat := 0x980080
/-- DSP_AUX_DATA (R603). -/
abbrev DSP_AUX_DATA (i : Nat) : Nat := 0x980090 + 4 * i
/-- PRS_CFG (R646). -/
abbrev PRS_CFG : Nat := 0xa00000
/-- PRS_STATUS (R646). -/
abbrev PRS_STATUS : Nat := 0xa00004
/-- PRS_PITCH (R646). -/
abbrev PRS_PITCH : Nat := 0xa00008
/-- PRS_READY_MASK (R646). -/
abbrev PRS_READY_MASK : Nat := 0xa0000c
/-- PRS_IMG (R646). -/
abbrev PRS_IMG : Nat := 0xa00010
/-- PRS_PURGE (R646). -/
abbrev PRS_PURGE : Nat := 0xa00018
/-- PRS_SNS_POL (R646). -/
abbrev PRS_SNS_POL : Nat := 0xa00020
/-- PRS_SNS_FILT (R646). -/
abbrev PRS_SNS_FILT : Nat := 0xa00024
/-- PRS_SNS_STATE (R646). -/
abbrev PRS_SNS_STATE : Nat := 0xa00028
/-- PRS_SHEET (R646). -/
abbrev PRS_SHEET : Nat := 0xa00030
/-- PRS_STN (R646). -/
abbrev PRS_STN (i : Nat) : Nat := 0xa00100 + 8 * i
/-- PRS_ACT (R646). -/
abbrev PRS_ACT (i : Nat) : Nat := 0xa00200 + 8 * i
/-- PRS_FUS (R646). -/
abbrev PRS_FUS : Nat := 0xa00300
/-- PRS_OT (R646). -/
abbrev PRS_OT (i : Nat) : Nat := 0xa00310 + 4 * i
/-- PRS_HV (R646). -/
abbrev PRS_HV (i : Nat) : Nat := 0xa00320 + 4 * i
/-- PRS_PAGES_OK (R646). -/
abbrev PRS_PAGES_OK : Nat := 0xa00380
/-- PRS_SPOILED (R646). -/
abbrev PRS_SPOILED : Nat := 0xa00388
/-- PRS_INTERRUPTED (R646). -/
abbrev PRS_INTERRUPTED : Nat := 0xa0038c
/-- PRS_HALTS (R646). -/
abbrev PRS_HALTS : Nat := 0xa00390
/-- PRS_HASH_MISMATCH (R646). -/
abbrev PRS_HASH_MISMATCH : Nat := 0xa00394
/-- DRY_CFG (R671). -/
abbrev DRY_CFG : Nat := 0xa80000
/-- DRY_PIXCLK (R671). -/
abbrev DRY_PIXCLK : Nat := 0xa80004
/-- DRY_PIXFRAC (R671). -/
abbrev DRY_PIXFRAC : Nat := 0xa80008
/-- DRY_SCAN (R671). -/
abbrev DRY_SCAN : Nat := 0xa80010
/-- DRY_BDWIN (R671). -/
abbrev DRY_BDWIN : Nat := 0xa80014
/-- DRY_STATUS (R671). -/
abbrev DRY_STATUS : Nat := 0xa80018
/-- DRY_EOS (R671). -/
abbrev DRY_EOS : Nat := 0xa8001c
/-- DRY_PWM (R671). -/
abbrev DRY_PWM : Nat := 0xa80020
/-- DRY_BEAM (R671). -/
abbrev DRY_BEAM (i : Nat) : Nat := 0xa80100 + 8 * i
/-- DRY_APC (R671). -/
abbrev DRY_APC (i : Nat) : Nat := 0xa80180 + 8 * i
/-- DRY_BOW (R671). -/
abbrev DRY_BOW (i : Nat) : Nat := 0xa80200 + 4 * i
/-- DRY_SCANS (R671). -/
abbrev DRY_SCANS : Nat := 0xa80300
/-- DRY_MISSED (R671). -/
abbrev DRY_MISSED : Nat := 0xa80308
/-- DRY_STRAY_BD (R671). -/
abbrev DRY_STRAY_BD : Nat := 0xa8030c
/-- DRY_LATE_LINES (R671). -/
abbrev DRY_LATE_LINES : Nat := 0xa80310
/-- TNS_SLOT_STATUS (R702). -/
abbrev TNS_SLOT_STATUS (i : Nat) : Nat := 0xb00000 + 0x20 * i
/-- TNS_SLOT_X (R702). -/
abbrev TNS_SLOT_X (i : Nat) : Nat := 0xb00004 + 0x20 * i
/-- TNS_SLOT_E (R702). -/
abbrev TNS_SLOT_E (i : Nat) : Nat := 0xb00008 + 0x20 * i
/-- TNS_SLOT_Q (R702). -/
abbrev TNS_SLOT_Q (i : Nat) : Nat := 0xb0000c + 0x20 * i
/-- TNS_SLOT_SP (R702). -/
abbrev TNS_SLOT_SP (i : Nat) : Nat := 0xb00010 + 0x20 * i
/-- TNS_SLOT_COUNTS (R702). -/
abbrev TNS_SLOT_COUNTS (i : Nat) : Nat := 0xb00014 + 0x20 * i
/-- TNS_ADC (R702). -/
abbrev TNS_ADC (i : Nat) : Nat := 0xb00400 + 4 * i
/-- TNS_ADC_BG_0 (R702). -/
abbrev TNS_ADC_BG_0 : Nat := 0xb00480
/-- TNS_ADC_BG_1 (R702). -/
abbrev TNS_ADC_BG_1 : Nat := 0xb00484
/-- TNS_STATUS (R702). -/
abbrev TNS_STATUS : Nat := 0xb00488
/-- TNS_PWM (R702). -/
abbrev TNS_PWM : Nat := 0xb00490
/-- LOG_STATUS (R563). -/
abbrev LOG_STATUS : Nat := 0xc00000
/-- LOG_SEQ (R563). -/
abbrev LOG_SEQ : Nat := 0xc00004
/-- LOG_RETIRED (R563). -/
abbrev LOG_RETIRED : Nat := 0xc00008
/-- LOG_CKPT (R563). -/
abbrev LOG_CKPT : Nat := 0xc0000c
/-- LOG_DRAIN_BASE (R563). -/
abbrev LOG_DRAIN_BASE : Nat := 0xc00010
/-- LOG_DRAIN_CFG (R563). -/
abbrev LOG_DRAIN_CFG : Nat := 0xc00018
/-- LOG_DRAIN_TAIL (R563). -/
abbrev LOG_DRAIN_TAIL : Nat := 0xc0001c
/-- LOG_DRAIN_HEAD (R563). -/
abbrev LOG_DRAIN_HEAD : Nat := 0xc00020
/-- LOG_DRAIN_STATUS (R563). -/
abbrev LOG_DRAIN_STATUS : Nat := 0xc00024
/-- LOG_ECC (R563). -/
abbrev LOG_ECC : Nat := 0xc00028
/-- LOG_TOMBSTONE (R557). -/
abbrev LOG_TOMBSTONE (i : Nat) : Nat := 0xc00100 + 4 * i
/-- TST_INFO (R754). -/
abbrev TST_INFO : Nat := 0xd00000
/-- TST_IDCODE (R754). -/
abbrev TST_IDCODE : Nat := 0xd00004
/-- TST_JOB_CFG (R754). -/
abbrev TST_JOB_CFG : Nat := 0xd00010
/-- TST_JOB_CMD (R754). -/
abbrev TST_JOB_CMD : Nat := 0xd00018
/-- TST_JOB_STATUS (R754). -/
abbrev TST_JOB_STATUS : Nat := 0xd0001c
/-- TST_JOB_BITS (R754). -/
abbrev TST_JOB_BITS : Nat := 0xd00020
/-- TST_JOB_ERRS (R754). -/
abbrev TST_JOB_ERRS : Nat := 0xd00028
/-- TST_FIXED (R754). -/
abbrev TST_FIXED : Nat := 0xd00030
/-- TST_ERR_THR (R754). -/
abbrev TST_ERR_THR : Nat := 0xd00038
/-- RPR_CFG (R498). -/
abbrev RPR_CFG : Nat := 0xe00000
/-- RPR_STATUS (R498). -/
abbrev RPR_STATUS : Nat := 0xe00004
/-- RPR_HMAP (R498). -/
abbrev RPR_HMAP (i : Nat) : Nat := 0xe00100 + 8 * i
/-- RPR_SMAP_LO (R498). -/
abbrev RPR_SMAP_LO (i : Nat) : Nat := 0xe00140 + 16 * i
/-- RPR_SMAP_HI (R498). -/
abbrev RPR_SMAP_HI (i : Nat) : Nat := 0xe00148 + 16 * i
/-- RPR_HOST (R498). -/
abbrev RPR_HOST (i : Nat) : Nat := 0xe00180 + 4 * i
/-- RPR_SPARE (R498). -/
abbrev RPR_SPARE (i : Nat) : Nat := 0xe001c0 + 4 * i
/-- RPR_ROWS (R498). -/
abbrev RPR_ROWS : Nat := 0xe00200
/-- HIF_MSIX (R731). -/
abbrev HIF_MSIX (i : Nat) : Nat := 0xf00000 + 4 * i
/-- HIF_PBA (R731). -/
abbrev HIF_PBA : Nat := 0xf00800
/-- HIF_LINK (R731). -/
abbrev HIF_LINK : Nat := 0xf01000
/-- PW_RING_SQ_BASE (R362). -/
abbrev PW_RING_SQ_BASE (b i : Nat) : Nat := 0x100000000 + 0x10000 * b + 0x100 * i
/-- PW_RING_CQ_BASE (R362). -/
abbrev PW_RING_CQ_BASE (b i : Nat) : Nat := 0x100000008 + 0x10000 * b + 0x100 * i
/-- PW_RING_CFG (R362). -/
abbrev PW_RING_CFG (b i : Nat) : Nat := 0x100000010 + 0x10000 * b + 0x100 * i
/-- PW_RING_CTL (R362). -/
abbrev PW_RING_CTL (b i : Nat) : Nat := 0x100000014 + 0x10000 * b + 0x100 * i
/-- PW_RING_STATUS (R362). -/
abbrev PW_RING_STATUS (b i : Nat) : Nat := 0x100000018 + 0x10000 * b + 0x100 * i
/-- PW_RING_SQ_TAIL (R362). -/
abbrev PW_RING_SQ_TAIL (b i : Nat) : Nat := 0x100000020 + 0x10000 * b + 0x100 * i
/-- PW_RING_SQ_HEAD (R362). -/
abbrev PW_RING_SQ_HEAD (b i : Nat) : Nat := 0x100000024 + 0x10000 * b + 0x100 * i
/-- PW_RING_CQ_TAIL (R362). -/
abbrev PW_RING_CQ_TAIL (b i : Nat) : Nat := 0x100000028 + 0x10000 * b + 0x100 * i
/-- PW_RING_CQ_HEAD (R362). -/
abbrev PW_RING_CQ_HEAD (b i : Nat) : Nat := 0x10000002c + 0x10000 * b + 0x100 * i
/-- PW_RING_DB (R362). -/
abbrev PW_RING_DB (b i : Nat) : Nat := 0x100000030 + 0x10000 * b + 0x100 * i
/-- PW_RING_IRQ (R362). -/
abbrev PW_RING_IRQ (b i : Nat) : Nat := 0x100000034 + 0x10000 * b + 0x100 * i
/-- PW_RING_INVQ (R362). -/
abbrev PW_RING_INVQ (b i : Nat) : Nat := 0x100000038 + 0x10000 * b + 0x100 * i
/-- PW_MSIX (R707). -/
abbrev PW_MSIX (b i : Nat) : Nat := 0x10000b000 + 0x10000 * b + 4 * i
/-- PW_PBA (R707). -/
abbrev PW_PBA (b : Nat) : Nat := 0x10000b800 + 0x10000 * b
/-- PW_EVT_Q_BASE (R731). -/
abbrev PW_EVT_Q_BASE (b : Nat) : Nat := 0x10000c000 + 0x10000 * b
/-- PW_EVT_Q_CFG (R731). -/
abbrev PW_EVT_Q_CFG (b : Nat) : Nat := 0x10000c008 + 0x10000 * b
/-- PW_EVT_Q_TAIL (R731). -/
abbrev PW_EVT_Q_TAIL (b : Nat) : Nat := 0x10000c00c + 0x10000 * b
/-- PW_EVT_Q_HEAD (R731). -/
abbrev PW_EVT_Q_HEAD (b : Nat) : Nat := 0x10000c010 + 0x10000 * b
/-- PW_EVT_Q_STATUS (R731). -/
abbrev PW_EVT_Q_STATUS (b : Nat) : Nat := 0x10000c014 + 0x10000 * b
/-- PW_DSP_STATUS (R603). -/
abbrev PW_DSP_STATUS (b : Nat) : Nat := 0x10000d000 + 0x10000 * b
/-- PW_DSP_MODE (R603). -/
abbrev PW_DSP_MODE (b : Nat) : Nat := 0x10000d004 + 0x10000 * b
/-- PW_DSP_FRAME (R603). -/
abbrev PW_DSP_FRAME (b : Nat) : Nat := 0x10000d008 + 0x10000 * b
/-- PW_PRS_STATUS (R646). -/
abbrev PW_PRS_STATUS (b : Nat) : Nat := 0x10000d100 + 0x10000 * b
/-- PW_PRS_SHEET (R646). -/
abbrev PW_PRS_SHEET (b : Nat) : Nat := 0x10000d104 + 0x10000 * b
/-- PW_TNS (R702). -/
abbrev PW_TNS (b i : Nat) : Nat := 0x10000d200 + 0x10000 * b + 4 * i
/-- PW_ADMIT_W0 (R538). -/
abbrev PW_ADMIT_W0 (b i : Nat) : Nat := 0x10000e000 + 0x10000 * b + 64 * i
/-- PW_ADMIT_W1 (R538). -/
abbrev PW_ADMIT_W1 (b i : Nat) : Nat := 0x10000e008 + 0x10000 * b + 64 * i
/-- PW_ADMIT_W2 (R538). -/
abbrev PW_ADMIT_W2 (b i : Nat) : Nat := 0x10000e010 + 0x10000 * b + 64 * i
/-- PW_ADMIT_W3 (R538). -/
abbrev PW_ADMIT_W3 (b i : Nat) : Nat := 0x10000e018 + 0x10000 * b + 64 * i
/-- PW_ADMIT_W4 (R538). -/
abbrev PW_ADMIT_W4 (b i : Nat) : Nat := 0x10000e020 + 0x10000 * b + 64 * i
/-- PW_ADMIT_W5 (R538). -/
abbrev PW_ADMIT_W5 (b i : Nat) : Nat := 0x10000e028 + 0x10000 * b + 64 * i
/-- PW_ADMIT_W6 (R538). -/
abbrev PW_ADMIT_W6 (b i : Nat) : Nat := 0x10000e030 + 0x10000 * b + 64 * i
/-- PW_TRUST (R538). -/
abbrev PW_TRUST (b : Nat) : Nat := 0x10000e400 + 0x10000 * b
/-- PW_ADMITTED (R538). -/
abbrev PW_ADMITTED (b : Nat) : Nat := 0x10000e404 + 0x10000 * b
/-- PW_XLT_CTX (R233). -/
abbrev PW_XLT_CTX (b : Nat) : Nat := 0x10000f000 + 0x10000 * b
/-- PW_INV (R233). -/
abbrev PW_INV (b i : Nat) : Nat := 0x10000f010 + 0x10000 * b + 8 * i
/-- PW_INV_ACK (R233). -/
abbrev PW_INV_ACK (b : Nat) : Nat := 0x10000f030 + 0x10000 * b
/-- PW_INV_STATUS (R233). -/
abbrev PW_INV_STATUS (b : Nat) : Nat := 0x10000f038 + 0x10000 * b
/-- PW_GRAN_SEL (R233). -/
abbrev PW_GRAN_SEL (b : Nat) : Nat := 0x10000f040 + 0x10000 * b
/-- PW_GRAN_VIEW (R233). -/
abbrev PW_GRAN_VIEW (b : Nat) : Nat := 0x10000f044 + 0x10000 * b
/-- PW_GRAN_COUNT (R233). -/
abbrev PW_GRAN_COUNT (b : Nat) : Nat := 0x10000f048 + 0x10000 * b

end R

namespace F

/-- GLB_ID.VENDOR, RO (R29). -/
abbrev GLB_ID_VENDOR : Fld := ⟨R.GLB_ID, 31, 16⟩
/-- GLB_ID.PART, RO (R29). -/
abbrev GLB_ID_PART : Fld := ⟨R.GLB_ID, 15, 0⟩
/-- GLB_REV.GRADE, RO (R29). -/
abbrev GLB_REV_GRADE : Fld := ⟨R.GLB_REV, 9, 8⟩
/-- GLB_REV.STEP, RO (R29). -/
abbrev GLB_REV_STEP : Fld := ⟨R.GLB_REV, 7, 0⟩
/-- GLB_FEATURE.PARTITIONS, RO (R29). -/
abbrev GLB_FEATURE_PARTITIONS : Fld := ⟨R.GLB_FEATURE, 31, 24⟩
/-- GLB_FEATURE.PORT_GROUPS, RO (R29). -/
abbrev GLB_FEATURE_PORT_GROUPS : Fld := ⟨R.GLB_FEATURE, 23, 16⟩
/-- GLB_FEATURE.CHANNELS, RO (R29). -/
abbrev GLB_FEATURE_CHANNELS : Fld := ⟨R.GLB_FEATURE, 15, 8⟩
/-- GLB_FEATURE.TANSY, RO (R29). -/
abbrev GLB_FEATURE_TANSY : Fld := ⟨R.GLB_FEATURE, 3, 3⟩
/-- GLB_FEATURE.RASTER, RO (R29). -/
abbrev GLB_FEATURE_RASTER : Fld := ⟨R.GLB_FEATURE, 2, 2⟩
/-- GLB_FEATURE.PROOF, RO (R29). -/
abbrev GLB_FEATURE_PROOF : Fld := ⟨R.GLB_FEATURE, 1, 1⟩
/-- GLB_FEATURE.PRESS, RO (R29). -/
abbrev GLB_FEATURE_PRESS : Fld := ⟨R.GLB_FEATURE, 0, 0⟩
/-- GLB_UID.UID, RO (R29). -/
abbrev GLB_UID_UID : Fld := ⟨R.GLB_UID, 63, 0⟩
/-- GLB_STRAP.TEST_MODE, RO (R74). -/
abbrev GLB_STRAP_TEST_MODE : Fld := ⟨R.GLB_STRAP, 4, 4⟩
/-- GLB_STRAP.I3C_ADDR, RO (R74). -/
abbrev GLB_STRAP_I3C_ADDR : Fld := ⟨R.GLB_STRAP, 3, 2⟩
/-- GLB_STRAP.FAB_MODE, RO (R74). -/
abbrev GLB_STRAP_FAB_MODE : Fld := ⟨R.GLB_STRAP, 1, 1⟩
/-- GLB_STRAP.BOOT_CS, RO (R74). -/
abbrev GLB_STRAP_BOOT_CS : Fld := ⟨R.GLB_STRAP, 0, 0⟩
/-- SMB_CTRL.ABORT, WO (R538). -/
abbrev SMB_CTRL_ABORT : Fld := ⟨R.SMB_CTRL, 1, 1⟩
/-- SMB_CTRL.GO, WO (R538). -/
abbrev SMB_CTRL_GO : Fld := ⟨R.SMB_CTRL, 0, 0⟩
/-- SMB_STATUS.BUSY, RO (R538). -/
abbrev SMB_STATUS_BUSY : Fld := ⟨R.SMB_STATUS, 31, 31⟩
/-- SMB_STATUS.RSP_READY, W1C (R538). -/
abbrev SMB_STATUS_RSP_READY : Fld := ⟨R.SMB_STATUS, 30, 30⟩
/-- SMB_STATUS.RSP_LEN, RO (R538). -/
abbrev SMB_STATUS_RSP_LEN : Fld := ⟨R.SMB_STATUS, 12, 0⟩
/-- SMB_REQ_LEN.LEN, RW (R538). -/
abbrev SMB_REQ_LEN_LEN : Fld := ⟨R.SMB_REQ_LEN, 12, 0⟩
/-- SMB_STATE.FLAGS, RO (R538). -/
abbrev SMB_STATE_FLAGS : Fld := ⟨R.SMB_STATE, 31, 25⟩
/-- SMB_STATE.MMIO_GRANTED, RO (R538). -/
abbrev SMB_STATE_MMIO_GRANTED : Fld := ⟨R.SMB_STATE, 24, 24⟩
/-- SMB_STATE.BOARD_SKIP, RO (R538). -/
abbrev SMB_STATE_BOARD_SKIP : Fld := ⟨R.SMB_STATE, 15, 0⟩
/-- SMB_LIFECYCLE.LC, RO (R538). -/
abbrev SMB_LIFECYCLE_LC : Fld := ⟨R.SMB_LIFECYCLE, 31, 0⟩
/-- SMB_TDI.TDI, RO (R538). -/
abbrev SMB_TDI_TDI : Fld := ⟨R.SMB_TDI, 31, 0⟩
/-- SMB_SUPERSEDED.COUNT, RO (R538). -/
abbrev SMB_SUPERSEDED_COUNT : Fld := ⟨R.SMB_SUPERSEDED, 31, 0⟩
/-- SMB_SVN.SVN_MIN, RO (R538). -/
abbrev SMB_SVN_SVN_MIN : Fld := ⟨R.SMB_SVN, 15, 8⟩
/-- SMB_SVN.SVN, RO (R538). -/
abbrev SMB_SVN_SVN : Fld := ⟨R.SMB_SVN, 7, 0⟩
/-- SMB_BUF.DATA, RW (R538). -/
abbrev SMB_BUF_DATA (i : Nat) : Fld := ⟨R.SMB_BUF i, 31, 0⟩
/-- CKR_SYN_CTL.EN, RW (R150). -/
abbrev CKR_SYN_CTL_EN (i : Nat) : Fld := ⟨R.CKR_SYN_CTL i, 31, 31⟩
/-- CKR_SYN_CTL.ODIV, RW (R150). -/
abbrev CKR_SYN_CTL_ODIV (i : Nat) : Fld := ⟨R.CKR_SYN_CTL i, 23, 16⟩
/-- CKR_SYN_CTL.NINT, RW (R150). -/
abbrev CKR_SYN_CTL_NINT (i : Nat) : Fld := ⟨R.CKR_SYN_CTL i, 15, 8⟩
/-- CKR_SYN_FRAC.NFRAC, RW (R150). -/
abbrev CKR_SYN_FRAC_NFRAC (i : Nat) : Fld := ⟨R.CKR_SYN_FRAC i, 23, 0⟩
/-- CKR_SYN_LOCK.LOCK_N, RW (R150). -/
abbrev CKR_SYN_LOCK_LOCK_N (i : Nat) : Fld := ⟨R.CKR_SYN_LOCK i, 31, 16⟩
/-- CKR_SYN_LOCK.LOCK_WIN, RW (R150). -/
abbrev CKR_SYN_LOCK_LOCK_WIN (i : Nat) : Fld := ⟨R.CKR_SYN_LOCK i, 7, 0⟩
/-- CKR_SYN_GUARD.GUARD_PPM, RW (R150). -/
abbrev CKR_SYN_GUARD_GUARD_PPM (i : Nat) : Fld := ⟨R.CKR_SYN_GUARD i, 15, 0⟩
/-- CKR_SYN_STATUS.STATE, RO (R150). -/
abbrev CKR_SYN_STATUS_STATE (i : Nat) : Fld := ⟨R.CKR_SYN_STATUS i, 31, 29⟩
/-- CKR_SYN_STATUS.REF_LOST, RO (R150). -/
abbrev CKR_SYN_STATUS_REF_LOST (i : Nat) : Fld := ⟨R.CKR_SYN_STATUS i, 28, 28⟩
/-- CKR_SYN_STATUS.REFUSED, W1C (R150). -/
abbrev CKR_SYN_STATUS_REFUSED (i : Nat) : Fld := ⟨R.CKR_SYN_STATUS i, 27, 27⟩
/-- CKR_SYN_STATUS.COAST_LIMIT, RO (R150). -/
abbrev CKR_SYN_STATUS_COAST_LIMIT (i : Nat) : Fld := ⟨R.CKR_SYN_STATUS i, 26, 26⟩
/-- CKR_SYN_STATUS.NOMREF, RO (R150). -/
abbrev CKR_SYN_STATUS_NOMREF (i : Nat) : Fld := ⟨R.CKR_SYN_STATUS i, 25, 25⟩
/-- CKR_SYN_STATUS.LOSS_COUNT, RO (R150). -/
abbrev CKR_SYN_STATUS_LOSS_COUNT (i : Nat) : Fld := ⟨R.CKR_SYN_STATUS i, 23, 16⟩
/-- CKR_SYN_STATUS.DRIFT, RO (R150). -/
abbrev CKR_SYN_STATUS_DRIFT (i : Nat) : Fld := ⟨R.CKR_SYN_STATUS i, 15, 0⟩
/-- CKR_CLKOUT.EN, RW (R150). -/
abbrev CKR_CLKOUT_EN (i : Nat) : Fld := ⟨R.CKR_CLKOUT i, 31, 31⟩
/-- CKR_CLKOUT.ERR, RO (R150). -/
abbrev CKR_CLKOUT_ERR (i : Nat) : Fld := ⟨R.CKR_CLKOUT i, 30, 30⟩
/-- CKR_CLKOUT.FORMAT, RW (R150). -/
abbrev CKR_CLKOUT_FORMAT (i : Nat) : Fld := ⟨R.CKR_CLKOUT i, 27, 26⟩
/-- CKR_CLKOUT.DRIVE, RW (R150). -/
abbrev CKR_CLKOUT_DRIVE (i : Nat) : Fld := ⟨R.CKR_CLKOUT i, 25, 24⟩
/-- CKR_CLKOUT.SRC, RW (R150). -/
abbrev CKR_CLKOUT_SRC (i : Nat) : Fld := ⟨R.CKR_CLKOUT i, 17, 16⟩
/-- CKR_CLKOUT.DIV, RW (R150). -/
abbrev CKR_CLKOUT_DIV (i : Nat) : Fld := ⟨R.CKR_CLKOUT i, 15, 0⟩
/-- CKR_RST_CAUSE.MRW_DEMOTED, W1C (R109). -/
abbrev CKR_RST_CAUSE_MRW_DEMOTED : Fld := ⟨R.CKR_RST_CAUSE, 12, 12⟩
/-- CKR_RST_CAUSE.THERMTRIP, W1C (R109). -/
abbrev CKR_RST_CAUSE_THERMTRIP : Fld := ⟨R.CKR_RST_CAUSE, 11, 11⟩
/-- CKR_RST_CAUSE.XTAL_STOP, W1C (R109). -/
abbrev CKR_RST_CAUSE_XTAL_STOP : Fld := ⟨R.CKR_RST_CAUSE, 10, 10⟩
/-- CKR_RST_CAUSE.UV, W1C (R109). -/
abbrev CKR_RST_CAUSE_UV : Fld := ⟨R.CKR_RST_CAUSE, 9, 6⟩
/-- CKR_RST_CAUSE.WATCHDOG, W1C (R109). -/
abbrev CKR_RST_CAUSE_WATCHDOG : Fld := ⟨R.CKR_RST_CAUSE, 5, 5⟩
/-- CKR_RST_CAUSE.MRW_REQ, W1C (R109). -/
abbrev CKR_RST_CAUSE_MRW_REQ : Fld := ⟨R.CKR_RST_CAUSE, 4, 4⟩
/-- CKR_RST_CAUSE.WARM_REQ, W1C (R109). -/
abbrev CKR_RST_CAUSE_WARM_REQ : Fld := ⟨R.CKR_RST_CAUSE, 3, 3⟩
/-- CKR_RST_CAUSE.MRW_PIN, W1C (R109). -/
abbrev CKR_RST_CAUSE_MRW_PIN : Fld := ⟨R.CKR_RST_CAUSE, 2, 2⟩
/-- CKR_RST_CAUSE.WARM_PIN, W1C (R109). -/
abbrev CKR_RST_CAUSE_WARM_PIN : Fld := ⟨R.CKR_RST_CAUSE, 1, 1⟩
/-- CKR_RST_CAUSE.POR, W1C (R109). -/
abbrev CKR_RST_CAUSE_POR : Fld := ⟨R.CKR_RST_CAUSE, 0, 0⟩
/-- CKR_NODE_RST.CODE, WO (R110). -/
abbrev CKR_NODE_RST_CODE : Fld := ⟨R.CKR_NODE_RST, 15, 0⟩
/-- CKR_ISL_RST.ISL, WO (R110). -/
abbrev CKR_ISL_RST_ISL : Fld := ⟨R.CKR_ISL_RST, 24, 0⟩
/-- CKR_ISL_STATE.IN_RESET, RO (R110). -/
abbrev CKR_ISL_STATE_IN_RESET : Fld := ⟨R.CKR_ISL_STATE, 24, 0⟩
/-- CKR_START_STAGE.MEM_FAIL, RO (R110). -/
abbrev CKR_START_STAGE_MEM_FAIL : Fld := ⟨R.CKR_START_STAGE, 9, 9⟩
/-- CKR_START_STAGE.MEM_READY, RO (R110). -/
abbrev CKR_START_STAGE_MEM_READY : Fld := ⟨R.CKR_START_STAGE, 8, 8⟩
/-- CKR_START_STAGE.STAGE, RO (R110). -/
abbrev CKR_START_STAGE_STAGE : Fld := ⟨R.CKR_START_STAGE, 7, 0⟩
/-- CKR_INCARNATION.COUNT, RO (R110). -/
abbrev CKR_INCARNATION_COUNT : Fld := ⟨R.CKR_INCARNATION, 31, 0⟩
/-- CKR_SYN_TRIP.TRIP, W1C (R150). -/
abbrev CKR_SYN_TRIP_TRIP : Fld := ⟨R.CKR_SYN_TRIP, 11, 0⟩
/-- CKR_ISL_CLK.RUNNING, RO (R150). -/
abbrev CKR_ISL_CLK_RUNNING : Fld := ⟨R.CKR_ISL_CLK, 24, 0⟩
/-- PWR_TEMP.VALID, RO (R731). -/
abbrev PWR_TEMP_VALID (i : Nat) : Fld := ⟨R.PWR_TEMP i, 31, 31⟩
/-- PWR_TEMP.TEMP, RO (R731). -/
abbrev PWR_TEMP_TEMP (i : Nat) : Fld := ⟨R.PWR_TEMP i, 11, 0⟩
/-- PWR_THERM_CFG.WARN_C, RW (R731). -/
abbrev PWR_THERM_CFG_WARN_C : Fld := ⟨R.PWR_THERM_CFG, 31, 24⟩
/-- PWR_THERM_CFG.THROTTLE_C, RW (R731). -/
abbrev PWR_THERM_CFG_THROTTLE_C : Fld := ⟨R.PWR_THERM_CFG, 23, 16⟩
/-- PWR_THERM_CFG.DUTY, RW (R731). -/
abbrev PWR_THERM_CFG_DUTY : Fld := ⟨R.PWR_THERM_CFG, 3, 0⟩
/-- PWR_THERM_STATUS.WARN, RO (R731). -/
abbrev PWR_THERM_STATUS_WARN : Fld := ⟨R.PWR_THERM_STATUS, 31, 31⟩
/-- PWR_THERM_STATUS.THROTTLING, RO (R731). -/
abbrev PWR_THERM_STATUS_THROTTLING : Fld := ⟨R.PWR_THERM_STATUS, 30, 30⟩
/-- PWR_THERM_STATUS.PROCHOT_IN, RO (R731). -/
abbrev PWR_THERM_STATUS_PROCHOT_IN : Fld := ⟨R.PWR_THERM_STATUS, 29, 29⟩
/-- PWR_THERM_STATUS.PEAK, RO (R731). -/
abbrev PWR_THERM_STATUS_PEAK : Fld := ⟨R.PWR_THERM_STATUS, 11, 0⟩
/-- PWR_AVS_STATUS.FAULT, RO (R110). -/
abbrev PWR_AVS_STATUS_FAULT : Fld := ⟨R.PWR_AVS_STATUS, 31, 31⟩
/-- PWR_AVS_STATUS.SM_OWNED, RO (R110). -/
abbrev PWR_AVS_STATUS_SM_OWNED : Fld := ⟨R.PWR_AVS_STATUS, 30, 30⟩
/-- PWR_AVS_STATUS.VCORE_MV, RO (R110). -/
abbrev PWR_AVS_STATUS_VCORE_MV : Fld := ⟨R.PWR_AVS_STATUS, 9, 0⟩
/-- PWR_POWER.CURRENT, RO (R731). -/
abbrev PWR_POWER_CURRENT : Fld := ⟨R.PWR_POWER, 31, 16⟩
/-- PWR_POWER.POWER, RO (R731). -/
abbrev PWR_POWER_POWER : Fld := ⟨R.PWR_POWER, 15, 0⟩
/-- EVT_ROUTE.EN, RW (R731). -/
abbrev EVT_ROUTE_EN (i : Nat) : Fld := ⟨R.EVT_ROUTE i, 31, 31⟩
/-- EVT_ROUTE.ALERT, RW (R731). -/
abbrev EVT_ROUTE_ALERT (i : Nat) : Fld := ⟨R.EVT_ROUTE i, 30, 30⟩
/-- EVT_ROUTE.FAB, RW (R731). -/
abbrev EVT_ROUTE_FAB (i : Nat) : Fld := ⟨R.EVT_ROUTE i, 29, 29⟩
/-- EVT_ROUTE.VECTOR, RW (R731). -/
abbrev EVT_ROUTE_VECTOR (i : Nat) : Fld := ⟨R.EVT_ROUTE i, 5, 0⟩
/-- EVT_Q_BASE.ADDR, RW (R731). -/
abbrev EVT_Q_BASE_ADDR : Fld := ⟨R.EVT_Q_BASE, 63, 12⟩
/-- EVT_Q_CFG.EN, RW (R731). -/
abbrev EVT_Q_CFG_EN : Fld := ⟨R.EVT_Q_CFG, 31, 31⟩
/-- EVT_Q_CFG.LOG2SIZE, RW (R731). -/
abbrev EVT_Q_CFG_LOG2SIZE : Fld := ⟨R.EVT_Q_CFG, 4, 0⟩
/-- EVT_Q_TAIL.TAIL, RO (R731). -/
abbrev EVT_Q_TAIL_TAIL : Fld := ⟨R.EVT_Q_TAIL, 31, 0⟩
/-- EVT_Q_HEAD.HEAD, RW (R731). -/
abbrev EVT_Q_HEAD_HEAD : Fld := ⟨R.EVT_Q_HEAD, 31, 0⟩
/-- EVT_Q_STATUS.OVERFLOW, W1C (R731). -/
abbrev EVT_Q_STATUS_OVERFLOW : Fld := ⟨R.EVT_Q_STATUS, 31, 31⟩
/-- EVT_Q_STATUS.HEAD_ERR, W1C (R731). -/
abbrev EVT_Q_STATUS_HEAD_ERR : Fld := ⟨R.EVT_Q_STATUS, 30, 30⟩
/-- EVT_Q_STATUS.Q_FAULT, W1C (R731). -/
abbrev EVT_Q_STATUS_Q_FAULT : Fld := ⟨R.EVT_Q_STATUS, 29, 29⟩
/-- EVT_Q_STATUS.DROPPED, RO (R731). -/
abbrev EVT_Q_STATUS_DROPPED : Fld := ⟨R.EVT_Q_STATUS, 15, 0⟩
/-- EVT_FAB_TGT.LINKS, RW (R731). -/
abbrev EVT_FAB_TGT_LINKS : Fld := ⟨R.EVT_FAB_TGT, 5, 0⟩
/-- EVT_FAB_DROP.COUNT, RO (R731). -/
abbrev EVT_FAB_DROP_COUNT : Fld := ⟨R.EVT_FAB_DROP, 31, 0⟩
/-- EVT_OCCURRED.BITS, W1C (R731). -/
abbrev EVT_OCCURRED_BITS (i : Nat) : Fld := ⟨R.EVT_OCCURRED i, 31, 0⟩
/-- MC_STATUS.STATE, RO (R187). -/
abbrev MC_STATUS_STATE (b : Nat) : Fld := ⟨R.MC_STATUS b, 31, 29⟩
/-- MC_STATUS.RETRAINS, RO (R187). -/
abbrev MC_STATUS_RETRAINS (b : Nat) : Fld := ⟨R.MC_STATUS b, 7, 0⟩
/-- MC_RETIRE.ENTRIES, RO (R187). -/
abbrev MC_RETIRE_ENTRIES (b : Nat) : Fld := ⟨R.MC_RETIRE b, 63, 0⟩
/-- MC_CMD.KEY, WO (R187). -/
abbrev MC_CMD_KEY (b : Nat) : Fld := ⟨R.MC_CMD b, 31, 16⟩
/-- MC_CMD.ENTRY, WO (R187). -/
abbrev MC_CMD_ENTRY (b : Nat) : Fld := ⟨R.MC_CMD b, 10, 8⟩
/-- MC_CMD.DEV, WO (R187). -/
abbrev MC_CMD_DEV (b : Nat) : Fld := ⟨R.MC_CMD b, 3, 0⟩
/-- MC_CE.COUNT, RO (R187). -/
abbrev MC_CE_COUNT (b : Nat) : Fld := ⟨R.MC_CE b, 31, 0⟩
/-- MC_ERR_LOG.VALID, W1C (R188). -/
abbrev MC_ERR_LOG_VALID (b : Nat) : Fld := ⟨R.MC_ERR_LOG b, 63, 63⟩
/-- MC_ERR_LOG.OUTCOME, RO (R188). -/
abbrev MC_ERR_LOG_OUTCOME (b : Nat) : Fld := ⟨R.MC_ERR_LOG b, 62, 60⟩
/-- MC_ERR_LOG.NSYM, RO (R188). -/
abbrev MC_ERR_LOG_NSYM (b : Nat) : Fld := ⟨R.MC_ERR_LOG b, 59, 56⟩
/-- MC_ERR_LOG.SUB, RO (R188). -/
abbrev MC_ERR_LOG_SUB (b : Nat) : Fld := ⟨R.MC_ERR_LOG b, 55, 55⟩
/-- MC_ERR_LOG.DEV, RO (R188). -/
abbrev MC_ERR_LOG_DEV (b : Nat) : Fld := ⟨R.MC_ERR_LOG b, 54, 50⟩
/-- MC_ERR_LOG.SLOT, RO (R188). -/
abbrev MC_ERR_LOG_SLOT (b : Nat) : Fld := ⟨R.MC_ERR_LOG b, 49, 49⟩
/-- MC_ERR_LOG.CS, RO (R188). -/
abbrev MC_ERR_LOG_CS (b : Nat) : Fld := ⟨R.MC_ERR_LOG b, 48, 48⟩
/-- MC_ERR_LOG.CID, RO (R188). -/
abbrev MC_ERR_LOG_CID (b : Nat) : Fld := ⟨R.MC_ERR_LOG b, 47, 45⟩
/-- MC_ERR_LOG.BG, RO (R188). -/
abbrev MC_ERR_LOG_BG (b : Nat) : Fld := ⟨R.MC_ERR_LOG b, 44, 42⟩
/-- MC_ERR_LOG.BA, RO (R188). -/
abbrev MC_ERR_LOG_BA (b : Nat) : Fld := ⟨R.MC_ERR_LOG b, 41, 40⟩
/-- MC_ERR_LOG.ROW, RO (R188). -/
abbrev MC_ERR_LOG_ROW (b : Nat) : Fld := ⟨R.MC_ERR_LOG b, 39, 22⟩
/-- MC_ERR_LOG.COL, RO (R188). -/
abbrev MC_ERR_LOG_COL (b : Nat) : Fld := ⟨R.MC_ERR_LOG b, 21, 11⟩
/-- MC_DEV.BURSTS, RO (R187). -/
abbrev MC_DEV_BURSTS (b i : Nat) : Fld := ⟨R.MC_DEV b i, 31, 16⟩
/-- MC_DEV.SYMBOLS, RO (R187). -/
abbrev MC_DEV_SYMBOLS (b i : Nat) : Fld := ⟨R.MC_DEV b i, 15, 0⟩
/-- MEMG_CFG.SPEED, RO (R187). -/
abbrev MEMG_CFG_SPEED : Fld := ⟨R.MEMG_CFG, 27, 24⟩
/-- MEMG_CFG.DPC, RO (R187). -/
abbrev MEMG_CFG_DPC : Fld := ⟨R.MEMG_CFG, 23, 22⟩
/-- MEMG_CFG.STACK, RO (R187). -/
abbrev MEMG_CFG_STACK : Fld := ⟨R.MEMG_CFG, 17, 16⟩
/-- MEMG_CFG.RANKS, RO (R187). -/
abbrev MEMG_CFG_RANKS : Fld := ⟨R.MEMG_CFG, 13, 12⟩
/-- MEMG_CFG.DIMM_GIB, RO (R187). -/
abbrev MEMG_CFG_DIMM_GIB : Fld := ⟨R.MEMG_CFG, 8, 0⟩
/-- MEMG_GRANULES.USABLE, RO (R187). -/
abbrev MEMG_GRANULES_USABLE : Fld := ⟨R.MEMG_GRANULES, 31, 16⟩
/-- MEMG_GRANULES.INSTALLED, RO (R187). -/
abbrev MEMG_GRANULES_INSTALLED : Fld := ⟨R.MEMG_GRANULES, 15, 0⟩
/-- MEMG_THR.ROW_THR, RW (R187). -/
abbrev MEMG_THR_ROW_THR : Fld := ⟨R.MEMG_THR, 15, 8⟩
/-- MEMG_THR.RETIRE_THR, RW (R187). -/
abbrev MEMG_THR_RETIRE_THR : Fld := ⟨R.MEMG_THR, 7, 0⟩
/-- MEMG_SCRUB.EN, RW (R187). -/
abbrev MEMG_SCRUB_EN : Fld := ⟨R.MEMG_SCRUB, 31, 31⟩
/-- MEMG_SCRUB.PERIOD, RW (R187). -/
abbrev MEMG_SCRUB_PERIOD : Fld := ⟨R.MEMG_SCRUB, 7, 0⟩
/-- MEMG_SCRUB_STATUS.LATE, RO (R187). -/
abbrev MEMG_SCRUB_STATUS_LATE : Fld := ⟨R.MEMG_SCRUB_STATUS, 31, 31⟩
/-- MEMG_SCRUB_STATUS.CLEAN_PENDING, RO (R187). -/
abbrev MEMG_SCRUB_STATUS_CLEAN_PENDING : Fld := ⟨R.MEMG_SCRUB_STATUS, 30, 16⟩
/-- MEMG_SCRUB_STATUS.PASSES, RO (R187). -/
abbrev MEMG_SCRUB_STATUS_PASSES : Fld := ⟨R.MEMG_SCRUB_STATUS, 15, 0⟩
/-- MEMG_POISON.META_UE, RO (R187). -/
abbrev MEMG_POISON_META_UE : Fld := ⟨R.MEMG_POISON, 31, 16⟩
/-- MEMG_POISON.DATA_UE, RO (R187). -/
abbrev MEMG_POISON_DATA_UE : Fld := ⟨R.MEMG_POISON, 15, 0⟩
/-- MEMG_PPR_CMD.KEY, WO (R187). -/
abbrev MEMG_PPR_CMD_KEY : Fld := ⟨R.MEMG_PPR_CMD, 31, 16⟩
/-- MEMG_PPR_CMD.CHANNEL, WO (R187). -/
abbrev MEMG_PPR_CMD_CHANNEL : Fld := ⟨R.MEMG_PPR_CMD, 4, 0⟩
/-- MEMG_PPR_STATUS.BUSY, RO (R187). -/
abbrev MEMG_PPR_STATUS_BUSY : Fld := ⟨R.MEMG_PPR_STATUS, 31, 31⟩
/-- MEMG_PPR_STATUS.ABORTED, W1C (R187). -/
abbrev MEMG_PPR_STATUS_ABORTED : Fld := ⟨R.MEMG_PPR_STATUS, 30, 30⟩
/-- MEMG_PPR_STATUS.URGENT, W1C (R187). -/
abbrev MEMG_PPR_STATUS_URGENT : Fld := ⟨R.MEMG_PPR_STATUS, 29, 29⟩
/-- MEMG_PPR_STATUS.SOFT, RO (R187). -/
abbrev MEMG_PPR_STATUS_SOFT : Fld := ⟨R.MEMG_PPR_STATUS, 23, 16⟩
/-- MEMG_PPR_STATUS.HARD, RO (R187). -/
abbrev MEMG_PPR_STATUS_HARD : Fld := ⟨R.MEMG_PPR_STATUS, 15, 8⟩
/-- MEMG_PPR_STATUS.EXHAUSTED, RO (R187). -/
abbrev MEMG_PPR_STATUS_EXHAUSTED : Fld := ⟨R.MEMG_PPR_STATUS, 7, 0⟩
/-- XLT_GRAN_SEL.GRANULE, RW (R233). -/
abbrev XLT_GRAN_SEL_GRANULE : Fld := ⟨R.XLT_GRAN_SEL, 13, 0⟩
/-- XLT_GRAN_VIEW.VALID, RO (R233). -/
abbrev XLT_GRAN_VIEW_VALID : Fld := ⟨R.XLT_GRAN_VIEW, 31, 31⟩
/-- XLT_GRAN_VIEW.ENTRY, RO (R233). -/
abbrev XLT_GRAN_VIEW_ENTRY : Fld := ⟨R.XLT_GRAN_VIEW, 15, 0⟩
/-- XLT_SHR.READERS, RO (R233). -/
abbrev XLT_SHR_READERS (i : Nat) : Fld := ⟨R.XLT_SHR i, 31, 16⟩
/-- XLT_SHR.STATE, RO (R233). -/
abbrev XLT_SHR_STATE (i : Nat) : Fld := ⟨R.XLT_SHR i, 15, 14⟩
/-- XLT_SHR.GRANULES, RO (R233). -/
abbrev XLT_SHR_GRANULES (i : Nat) : Fld := ⟨R.XLT_SHR i, 13, 0⟩
/-- XLT_EPOCH_CUR.EPOCH, RO (R233). -/
abbrev XLT_EPOCH_CUR_EPOCH (i : Nat) : Fld := ⟨R.XLT_EPOCH_CUR i, 31, 0⟩
/-- XLT_EPOCH_ACK.EPOCH, RO (R233). -/
abbrev XLT_EPOCH_ACK_EPOCH (i : Nat) : Fld := ⟨R.XLT_EPOCH_ACK i, 31, 0⟩
/-- XLT_STATUS.CACHE_ERR, RO (R233). -/
abbrev XLT_STATUS_CACHE_ERR : Fld := ⟨R.XLT_STATUS, 31, 16⟩
/-- XLT_STATUS.GT_UE, RO (R233). -/
abbrev XLT_STATUS_GT_UE : Fld := ⟨R.XLT_STATUS, 15, 0⟩
/-- FP_CTL.EN, RW (R297). -/
abbrev FP_CTL_EN (b : Nat) : Fld := ⟨R.FP_CTL b, 31, 31⟩
/-- FP_CTL.AUTO, RW (R297). -/
abbrev FP_CTL_AUTO (b : Nat) : Fld := ⟨R.FP_CTL b, 30, 30⟩
/-- FP_CTL.LRST, WO (R297). -/
abbrev FP_CTL_LRST (b : Nat) : Fld := ⟨R.FP_CTL b, 29, 29⟩
/-- FP_CTL.LINK, RW (R297). -/
abbrev FP_CTL_LINK (b : Nat) : Fld := ⟨R.FP_CTL b, 26, 24⟩
/-- FP_CTL.RATE, RW (R297). -/
abbrev FP_CTL_RATE (b : Nat) : Fld := ⟨R.FP_CTL b, 20, 20⟩
/-- FP_CTL.VCS, RW (R297). -/
abbrev FP_CTL_VCS (b : Nat) : Fld := ⟨R.FP_CTL b, 19, 16⟩
/-- FP_CTL.CHAN, RW (R297). -/
abbrev FP_CTL_CHAN (b : Nat) : Fld := ⟨R.FP_CTL b, 9, 8⟩
/-- FP_CTL.HOLDOFF, RW (R297). -/
abbrev FP_CTL_HOLDOFF (b : Nat) : Fld := ⟨R.FP_CTL b, 7, 0⟩
/-- FP_THR.RETRAIN_MAX, RW (R297). -/
abbrev FP_THR_RETRAIN_MAX (b : Nat) : Fld := ⟨R.FP_THR b, 23, 20⟩
/-- FP_THR.REPLAY_THR, RW (R297). -/
abbrev FP_THR_REPLAY_THR (b : Nat) : Fld := ⟨R.FP_THR b, 19, 16⟩
/-- FP_THR.ERR_WIN, RW (R297). -/
abbrev FP_THR_ERR_WIN (b : Nat) : Fld := ⟨R.FP_THR b, 12, 8⟩
/-- FP_THR.ERR_THR, RW (R297). -/
abbrev FP_THR_ERR_THR (b : Nat) : Fld := ⟨R.FP_THR b, 7, 0⟩
/-- FP_BUFW.W, RW (R297). -/
abbrev FP_BUFW_W (b : Nat) : Fld := ⟨R.FP_BUFW b, 31, 0⟩
/-- FP_STATUS.STATE, RO (R297). -/
abbrev FP_STATUS_STATE (b : Nat) : Fld := ⟨R.FP_STATUS b, 31, 28⟩
/-- FP_STATUS.SECURE, RO (R297). -/
abbrev FP_STATUS_SECURE (b : Nat) : Fld := ⟨R.FP_STATUS b, 27, 27⟩
/-- FP_STATUS.WIDTH, RO (R297). -/
abbrev FP_STATUS_WIDTH (b : Nat) : Fld := ⟨R.FP_STATUS b, 25, 24⟩
/-- FP_STATUS.GROUPS, RO (R297). -/
abbrev FP_STATUS_GROUPS (b : Nat) : Fld := ⟨R.FP_STATUS b, 23, 21⟩
/-- FP_STATUS.LABEL, RO (R297). -/
abbrev FP_STATUS_LABEL (b : Nat) : Fld := ⟨R.FP_STATUS b, 20, 18⟩
/-- FP_STATUS.VCS_NEG, RO (R297). -/
abbrev FP_STATUS_VCS_NEG (b : Nat) : Fld := ⟨R.FP_STATUS b, 17, 14⟩
/-- FP_STATUS.LANES, RO (R297). -/
abbrev FP_STATUS_LANES (b : Nat) : Fld := ⟨R.FP_STATUS b, 8, 0⟩
/-- FP_DOWN_CAUSE.CAUSE, W1C (R297). -/
abbrev FP_DOWN_CAUSE_CAUSE (b : Nat) : Fld := ⟨R.FP_DOWN_CAUSE b, 8, 0⟩
/-- FP_LANEMAP.PHYS, RO (R297). -/
abbrev FP_LANEMAP_PHYS (b : Nat) : Fld := ⟨R.FP_LANEMAP b, 31, 0⟩
/-- FP_FLITS_RX.COUNT, RO (R297). -/
abbrev FP_FLITS_RX_COUNT (b : Nat) : Fld := ⟨R.FP_FLITS_RX b, 63, 0⟩
/-- FP_CRC_FAIL.COUNT, RO (R297). -/
abbrev FP_CRC_FAIL_COUNT (b : Nat) : Fld := ⟨R.FP_CRC_FAIL b, 63, 0⟩
/-- FP_REPLAYS.COUNT, RO (R297). -/
abbrev FP_REPLAYS_COUNT (b : Nat) : Fld := ⟨R.FP_REPLAYS b, 63, 0⟩
/-- FP_RETRAINS.COUNT, RO (R297). -/
abbrev FP_RETRAINS_COUNT (b : Nat) : Fld := ⟨R.FP_RETRAINS b, 31, 0⟩
/-- FP_DOWNS.COUNT, RO (R297). -/
abbrev FP_DOWNS_COUNT (b : Nat) : Fld := ⟨R.FP_DOWNS b, 31, 0⟩
/-- FP_FEC_CORR.COUNT, RO (R297). -/
abbrev FP_FEC_CORR_COUNT (b : Nat) : Fld := ⟨R.FP_FEC_CORR b, 63, 0⟩
/-- FP_FEC_UNCORR.COUNT, RO (R297). -/
abbrev FP_FEC_UNCORR_COUNT (b : Nat) : Fld := ⟨R.FP_FEC_UNCORR b, 63, 0⟩
/-- FP_UNATT_DROP.COUNT, RO (R297). -/
abbrev FP_UNATT_DROP_COUNT (b : Nat) : Fld := ⟨R.FP_UNATT_DROP b, 31, 0⟩
/-- FP_MALFORMED.COUNT, RO (R297). -/
abbrev FP_MALFORMED_COUNT (b : Nat) : Fld := ⟨R.FP_MALFORMED b, 31, 0⟩
/-- FP_UNROUTABLE.COUNT, RO (R297). -/
abbrev FP_UNROUTABLE_COUNT (b : Nat) : Fld := ⟨R.FP_UNROUTABLE b, 31, 0⟩
/-- FP_CREDIT_OVERRUN.COUNT, RO (R297). -/
abbrev FP_CREDIT_OVERRUN_COUNT (b : Nat) : Fld := ⟨R.FP_CREDIT_OVERRUN b, 31, 0⟩
/-- FP_MEMO_CFG.HOLD_US, RW (R297). -/
abbrev FP_MEMO_CFG_HOLD_US : Fld := ⟨R.FP_MEMO_CFG, 15, 0⟩
/-- FP_MEMO_STAT.HITS, RO (R297). -/
abbrev FP_MEMO_STAT_HITS : Fld := ⟨R.FP_MEMO_STAT, 63, 32⟩
/-- FP_MEMO_STAT.FULL_DROP, RO (R297). -/
abbrev FP_MEMO_STAT_FULL_DROP : Fld := ⟨R.FP_MEMO_STAT, 31, 0⟩
/-- FP_MEMO_USED.USED, RO (R297). -/
abbrev FP_MEMO_USED_USED : Fld := ⟨R.FP_MEMO_USED, 16, 0⟩
/-- FP_APR_ROUTE.EN, RW (R297). -/
abbrev FP_APR_ROUTE_EN (i : Nat) : Fld := ⟨R.FP_APR_ROUTE i, 63, 63⟩
/-- FP_APR_ROUTE.LINK, RW (R297). -/
abbrev FP_APR_ROUTE_LINK (i : Nat) : Fld := ⟨R.FP_APR_ROUTE i, 50, 48⟩
/-- FP_APR_ROUTE.MASK, RW (R297). -/
abbrev FP_APR_ROUTE_MASK (i : Nat) : Fld := ⟨R.FP_APR_ROUTE i, 31, 16⟩
/-- FP_APR_ROUTE.ADDR, RW (R297). -/
abbrev FP_APR_ROUTE_ADDR (i : Nat) : Fld := ⟨R.FP_APR_ROUTE i, 15, 0⟩
/-- FP_APR_DEFAULT.EN, RW (R297). -/
abbrev FP_APR_DEFAULT_EN : Fld := ⟨R.FP_APR_DEFAULT, 31, 31⟩
/-- FP_APR_DEFAULT.LINK, RW (R297). -/
abbrev FP_APR_DEFAULT_LINK : Fld := ⟨R.FP_APR_DEFAULT, 2, 0⟩
/-- TOPO_CFG.SECURE_ONLY, RW (R328). -/
abbrev TOPO_CFG_SECURE_ONLY : Fld := ⟨R.TOPO_CFG, 31, 31⟩
/-- TOPO_CFG.SIZE_EN, RW (R328). -/
abbrev TOPO_CFG_SIZE_EN : Fld := ⟨R.TOPO_CFG, 23, 23⟩
/-- TOPO_CFG.SX, RW (R328). -/
abbrev TOPO_CFG_SX : Fld := ⟨R.TOPO_CFG, 22, 18⟩
/-- TOPO_CFG.SY, RW (R328). -/
abbrev TOPO_CFG_SY : Fld := ⟨R.TOPO_CFG, 17, 13⟩
/-- TOPO_CFG.SZ, RW (R328). -/
abbrev TOPO_CFG_SZ : Fld := ⟨R.TOPO_CFG, 12, 8⟩
/-- TOPO_CFG.PRIORITY, RW (R328). -/
abbrev TOPO_CFG_PRIORITY : Fld := ⟨R.TOPO_CFG, 7, 0⟩
/-- TOPO_STATUS.STATE, RO (R328). -/
abbrev TOPO_STATUS_STATE : Fld := ⟨R.TOPO_STATUS, 31, 29⟩
/-- TOPO_STATUS.COORD, RO (R328). -/
abbrev TOPO_STATUS_COORD : Fld := ⟨R.TOPO_STATUS, 28, 28⟩
/-- TOPO_STATUS.TORUS, RO (R328). -/
abbrev TOPO_STATUS_TORUS : Fld := ⟨R.TOPO_STATUS, 27, 27⟩
/-- TOPO_STATUS.STRAY, RO (R328). -/
abbrev TOPO_STATUS_STRAY : Fld := ⟨R.TOPO_STATUS, 26, 16⟩
/-- TOPO_STATUS.ADDR, RO (R328). -/
abbrev TOPO_STATUS_ADDR : Fld := ⟨R.TOPO_STATUS, 15, 0⟩
/-- TOPO_SIZES.SX, RO (R328). -/
abbrev TOPO_SIZES_SX : Fld := ⟨R.TOPO_SIZES, 14, 10⟩
/-- TOPO_SIZES.SY, RO (R328). -/
abbrev TOPO_SIZES_SY : Fld := ⟨R.TOPO_SIZES, 9, 5⟩
/-- TOPO_SIZES.SZ, RO (R328). -/
abbrev TOPO_SIZES_SZ : Fld := ⟨R.TOPO_SIZES, 4, 0⟩
/-- TOPO_GEN.GEN, RO (R328). -/
abbrev TOPO_GEN_GEN : Fld := ⟨R.TOPO_GEN, 31, 0⟩
/-- TOPO_COORD.UID, RO (R328). -/
abbrev TOPO_COORD_UID : Fld := ⟨R.TOPO_COORD, 63, 0⟩
/-- TOPO_PARENT.V, RO (R328). -/
abbrev TOPO_PARENT_V : Fld := ⟨R.TOPO_PARENT, 31, 31⟩
/-- TOPO_PARENT.HOPS, RO (R328). -/
abbrev TOPO_PARENT_HOPS : Fld := ⟨R.TOPO_PARENT, 23, 16⟩
/-- TOPO_PARENT.LINK, RO (R328). -/
abbrev TOPO_PARENT_LINK : Fld := ⟨R.TOPO_PARENT, 2, 0⟩
/-- TOPO_NODES.COUNT, RO (R328). -/
abbrev TOPO_NODES_COUNT : Fld := ⟨R.TOPO_NODES, 16, 0⟩
/-- TOPO_NBR_UID.UID, RO (R328). -/
abbrev TOPO_NBR_UID_UID (i : Nat) : Fld := ⟨R.TOPO_NBR_UID i, 63, 0⟩
/-- TOPO_NBR_INFO.V, RO (R328). -/
abbrev TOPO_NBR_INFO_V (i : Nat) : Fld := ⟨R.TOPO_NBR_INFO i, 31, 31⟩
/-- TOPO_NBR_INFO.EXCLUDED, RO (R328). -/
abbrev TOPO_NBR_INFO_EXCLUDED (i : Nat) : Fld := ⟨R.TOPO_NBR_INFO i, 30, 30⟩
/-- TOPO_NBR_INFO.CHILD, RO (R328). -/
abbrev TOPO_NBR_INFO_CHILD (i : Nat) : Fld := ⟨R.TOPO_NBR_INFO i, 29, 29⟩
/-- TOPO_NBR_INFO.LABEL, RO (R328). -/
abbrev TOPO_NBR_INFO_LABEL (i : Nat) : Fld := ⟨R.TOPO_NBR_INFO i, 26, 24⟩
/-- TOPO_NBR_INFO.ROLE, RO (R328). -/
abbrev TOPO_NBR_INFO_ROLE (i : Nat) : Fld := ⟨R.TOPO_NBR_INFO i, 23, 16⟩
/-- TOPO_NBR_INFO.PRIORITY, RO (R328). -/
abbrev TOPO_NBR_INFO_PRIORITY (i : Nat) : Fld := ⟨R.TOPO_NBR_INFO i, 7, 0⟩
/-- TOPO_NBR_INC.INC, RO (R328). -/
abbrev TOPO_NBR_INC_INC (i : Nat) : Fld := ⟨R.TOPO_NBR_INC i, 31, 0⟩
/-- TOPO_SRL_TIME.TIME_NS, RO (R328). -/
abbrev TOPO_SRL_TIME_TIME_NS : Fld := ⟨R.TOPO_SRL_TIME, 63, 0⟩
/-- TOPO_SRL_FRAC.FRAC, RO (R328). -/
abbrev TOPO_SRL_FRAC_FRAC : Fld := ⟨R.TOPO_SRL_FRAC, 23, 0⟩
/-- TOPO_SRL_SET.TIME_NS, WO (R328). -/
abbrev TOPO_SRL_SET_TIME_NS : Fld := ⟨R.TOPO_SRL_SET, 63, 0⟩
/-- TOPO_SRL_CFG.STEP_THR, RW (R328). -/
abbrev TOPO_SRL_CFG_STEP_THR : Fld := ⟨R.TOPO_SRL_CFG, 31, 16⟩
/-- TOPO_SRL_CFG.LOCK_THR, RW (R328). -/
abbrev TOPO_SRL_CFG_LOCK_THR : Fld := ⟨R.TOPO_SRL_CFG, 15, 8⟩
/-- TOPO_SRL_STATUS.STATE, RO (R328). -/
abbrev TOPO_SRL_STATUS_STATE : Fld := ⟨R.TOPO_SRL_STATUS, 31, 29⟩
/-- TOPO_SRL_STATUS.SET_REFUSED, W1C (R328). -/
abbrev TOPO_SRL_STATUS_SET_REFUSED : Fld := ⟨R.TOPO_SRL_STATUS, 28, 28⟩
/-- TOPO_SRL_STATUS.STEPS, RO (R328). -/
abbrev TOPO_SRL_STATUS_STEPS : Fld := ⟨R.TOPO_SRL_STATUS, 15, 0⟩
/-- TOPO_SRL_OFFSET.THETA, RO (R328). -/
abbrev TOPO_SRL_OFFSET_THETA : Fld := ⟨R.TOPO_SRL_OFFSET, 31, 0⟩
/-- TOPO_SRL_RATE.RATE, RO (R328). -/
abbrev TOPO_SRL_RATE_RATE : Fld := ⟨R.TOPO_SRL_RATE, 31, 0⟩
/-- TOPO_SRL_DELAY.DELAY, RO (R328). -/
abbrev TOPO_SRL_DELAY_DELAY (i : Nat) : Fld := ⟨R.TOPO_SRL_DELAY i, 31, 0⟩
/-- RING_BIND.CLUSTER, RW (R362). -/
abbrev RING_BIND_CLUSTER (b : Nat) : Fld := ⟨R.RING_BIND b, 5, 4⟩
/-- RING_BIND.CORE, RW (R362). -/
abbrev RING_BIND_CORE (b : Nat) : Fld := ⟨R.RING_BIND b, 3, 0⟩
/-- RING_STATE.STATE, RO (R362). -/
abbrev RING_STATE_STATE (b : Nat) : Fld := ⟨R.RING_STATE b, 31, 29⟩
/-- RING_STATE.CAUSE, RO (R362). -/
abbrev RING_STATE_CAUSE (b : Nat) : Fld := ⟨R.RING_STATE b, 28, 24⟩
/-- RING_STATE.OWNER, RO (R362). -/
abbrev RING_STATE_OWNER (b : Nat) : Fld := ⟨R.RING_STATE b, 19, 16⟩
/-- RING_CTL.RELEASE, WO (R362). -/
abbrev RING_CTL_RELEASE (b : Nat) : Fld := ⟨R.RING_CTL b, 1, 1⟩
/-- RING_CTL.HOLD, WO (R362). -/
abbrev RING_CTL_HOLD (b : Nat) : Fld := ⟨R.RING_CTL b, 0, 0⟩
/-- CC_HATCH.RETIRED, RO (R442). -/
abbrev CC_HATCH_RETIRED (b : Nat) : Fld := ⟨R.CC_HATCH b, 28, 16⟩
/-- CC_HATCH.IN_SERVICE, RO (R442). -/
abbrev CC_HATCH_IN_SERVICE (b : Nat) : Fld := ⟨R.CC_HATCH b, 12, 0⟩
/-- CC_STIPPLE_SVC.IN_SERVICE, RO (R442). -/
abbrev CC_STIPPLE_SVC_IN_SERVICE (b : Nat) : Fld := ⟨R.CC_STIPPLE_SVC b, 17, 0⟩
/-- CC_STIPPLE_RET.RETIRED, RO (R442). -/
abbrev CC_STIPPLE_RET_RETIRED (b : Nat) : Fld := ⟨R.CC_STIPPLE_RET b, 17, 0⟩
/-- CC_CFG.RERUN_MAX, RW (R442). -/
abbrev CC_CFG_RERUN_MAX (b : Nat) : Fld := ⟨R.CC_CFG b, 3, 0⟩
/-- CC_TASKS.COUNT, RO (R442). -/
abbrev CC_TASKS_COUNT (b : Nat) : Fld := ⟨R.CC_TASKS b, 63, 0⟩
/-- CC_RERUNS.COUNT, RO (R442). -/
abbrev CC_RERUNS_COUNT (b : Nat) : Fld := ⟨R.CC_RERUNS b, 31, 0⟩
/-- CC_HCHK.FAILS, RO (R442). -/
abbrev CC_HCHK_FAILS (b i : Nat) : Fld := ⟨R.CC_HCHK b i, 31, 0⟩
/-- CC_SMIS.MISMATCHES, RO (R442). -/
abbrev CC_SMIS_MISMATCHES (b i : Nat) : Fld := ⟨R.CC_SMIS b i, 31, 0⟩
/-- CC_STAGE_ECC.UE, RO (R442). -/
abbrev CC_STAGE_ECC_UE (b : Nat) : Fld := ⟨R.CC_STAGE_ECC b, 31, 16⟩
/-- CC_STAGE_ECC.CE, RO (R442). -/
abbrev CC_STAGE_ECC_CE (b : Nat) : Fld := ⟨R.CC_STAGE_ECC b, 15, 0⟩
/-- ATT_CFG.CLUSTERS, RW (R469). -/
abbrev ATT_CFG_CLUSTERS : Fld := ⟨R.ATT_CFG, 3, 0⟩
/-- ATT_JOBS.COUNT, RO (R469). -/
abbrev ATT_JOBS_COUNT : Fld := ⟨R.ATT_JOBS, 63, 0⟩
/-- ATT_PAGES.COUNT, RO (R469). -/
abbrev ATT_PAGES_COUNT : Fld := ⟨R.ATT_PAGES, 63, 0⟩
/-- ATT_CHUNKS.COUNT, RO (R469). -/
abbrev ATT_CHUNKS_COUNT : Fld := ⟨R.ATT_CHUNKS, 63, 0⟩
/-- ATT_ROWS.COUNT, RO (R469). -/
abbrev ATT_ROWS_COUNT : Fld := ⟨R.ATT_ROWS, 63, 0⟩
/-- ATT_INVOKES.COUNT, RO (R469). -/
abbrev ATT_INVOKES_COUNT : Fld := ⟨R.ATT_INVOKES, 31, 0⟩
/-- ATT_INV_MALF.COUNT, RO (R469). -/
abbrev ATT_INV_MALF_COUNT : Fld := ⟨R.ATT_INV_MALF, 31, 0⟩
/-- ATT_POISONED.COUNT, RO (R469). -/
abbrev ATT_POISONED_COUNT : Fld := ⟨R.ATT_POISONED, 31, 0⟩
/-- RAS_CTX_OWNER.OWNER, RW (R603). -/
abbrev RAS_CTX_OWNER_OWNER (i : Nat) : Fld := ⟨R.RAS_CTX_OWNER i, 7, 0⟩
/-- RAS_CTX_STATE.STATE, RO (R603). -/
abbrev RAS_CTX_STATE_STATE (i : Nat) : Fld := ⟨R.RAS_CTX_STATE i, 31, 30⟩
/-- RAS_CTX_STATE.CLASS, RO (R603). -/
abbrev RAS_CTX_STATE_CLASS (i : Nat) : Fld := ⟨R.RAS_CTX_STATE i, 29, 28⟩
/-- RAS_CTX_STATE.QUEUED, RO (R603). -/
abbrev RAS_CTX_STATE_QUEUED (i : Nat) : Fld := ⟨R.RAS_CTX_STATE i, 4, 0⟩
/-- RAS_THR_SEL.ARRAY, RW (R603). -/
abbrev RAS_THR_SEL_ARRAY : Fld := ⟨R.RAS_THR_SEL, 17, 14⟩
/-- RAS_THR_SEL.CELL, RW (R603). -/
abbrev RAS_THR_SEL_CELL : Fld := ⟨R.RAS_THR_SEL, 13, 0⟩
/-- RAS_THR_DATA.T, WO (R603). -/
abbrev RAS_THR_DATA_T : Fld := ⟨R.RAS_THR_DATA, 23, 0⟩
/-- RAS_THR_STATUS.BUSY_ERR, W1C (R603). -/
abbrev RAS_THR_STATUS_BUSY_ERR : Fld := ⟨R.RAS_THR_STATUS, 31, 31⟩
/-- RAS_THR_STATUS.IN_USE, RO (R603). -/
abbrev RAS_THR_STATUS_IN_USE : Fld := ⟨R.RAS_THR_STATUS, 15, 0⟩
/-- RAS_SEAL_PAGES.PAGES, RO (R603). -/
abbrev RAS_SEAL_PAGES_PAGES : Fld := ⟨R.RAS_SEAL_PAGES, 16, 0⟩
/-- RAS_JOBS.COUNT, RO (R603). -/
abbrev RAS_JOBS_COUNT : Fld := ⟨R.RAS_JOBS, 63, 0⟩
/-- RAS_TILES.COUNT, RO (R603). -/
abbrev RAS_TILES_COUNT : Fld := ⟨R.RAS_TILES, 63, 0⟩
/-- RAS_RETILES.COUNT, RO (R603). -/
abbrev RAS_RETILES_COUNT : Fld := ⟨R.RAS_RETILES, 31, 0⟩
/-- DSP_CTL.EN, RW (R603). -/
abbrev DSP_CTL_EN : Fld := ⟨R.DSP_CTL, 31, 31⟩
/-- DSP_CTL.LANES, RW (R603). -/
abbrev DSP_CTL_LANES : Fld := ⟨R.DSP_CTL, 5, 4⟩
/-- DSP_CTL.RATE, RW (R603). -/
abbrev DSP_CTL_RATE : Fld := ⟨R.DSP_CTL, 1, 0⟩
/-- DSP_H.ACTIVE, RW (R603). -/
abbrev DSP_H_ACTIVE : Fld := ⟨R.DSP_H, 15, 0⟩
/-- DSP_H.FP, RW (R603). -/
abbrev DSP_H_FP : Fld := ⟨R.DSP_H, 31, 16⟩
/-- DSP_H.SYNC, RW (R603). -/
abbrev DSP_H_SYNC : Fld := ⟨R.DSP_H, 47, 32⟩
/-- DSP_H.BP, RW (R603). -/
abbrev DSP_H_BP : Fld := ⟨R.DSP_H, 63, 48⟩
/-- DSP_V.ACTIVE, RW (R603). -/
abbrev DSP_V_ACTIVE : Fld := ⟨R.DSP_V, 15, 0⟩
/-- DSP_V.FP, RW (R603). -/
abbrev DSP_V_FP : Fld := ⟨R.DSP_V, 31, 16⟩
/-- DSP_V.SYNC, RW (R603). -/
abbrev DSP_V_SYNC : Fld := ⟨R.DSP_V, 47, 32⟩
/-- DSP_V.BP, RW (R603). -/
abbrev DSP_V_BP : Fld := ⟨R.DSP_V, 63, 48⟩
/-- DSP_POL.VSYNC_POS, RW (R603). -/
abbrev DSP_POL_VSYNC_POS : Fld := ⟨R.DSP_POL, 1, 1⟩
/-- DSP_POL.HSYNC_POS, RW (R603). -/
abbrev DSP_POL_HSYNC_POS : Fld := ⟨R.DSP_POL, 0, 0⟩
/-- DSP_PIXCLK.ODIV, RW (R603). -/
abbrev DSP_PIXCLK_ODIV : Fld := ⟨R.DSP_PIXCLK, 23, 16⟩
/-- DSP_PIXCLK.NINT, RW (R603). -/
abbrev DSP_PIXCLK_NINT : Fld := ⟨R.DSP_PIXCLK, 15, 8⟩
/-- DSP_PIXFRAC.NFRAC, RW (R603). -/
abbrev DSP_PIXFRAC_NFRAC : Fld := ⟨R.DSP_PIXFRAC, 23, 0⟩
/-- DSP_STATUS.STATE, RO (R603). -/
abbrev DSP_STATUS_STATE : Fld := ⟨R.DSP_STATUS, 31, 30⟩
/-- DSP_STATUS.MODE_ERR, W1C (R603). -/
abbrev DSP_STATUS_MODE_ERR : Fld := ⟨R.DSP_STATUS, 29, 29⟩
/-- DSP_STATUS.HPD, RO (R603). -/
abbrev DSP_STATUS_HPD : Fld := ⟨R.DSP_STATUS, 28, 28⟩
/-- DSP_STATUS.TRAINED, RO (R603). -/
abbrev DSP_STATUS_TRAINED : Fld := ⟨R.DSP_STATUS, 27, 27⟩
/-- DSP_STATUS.ADMITTED, RO (R603). -/
abbrev DSP_STATUS_ADMITTED : Fld := ⟨R.DSP_STATUS, 26, 26⟩
/-- DSP_FRAME_SEQ.SEQ, RO (R603). -/
abbrev DSP_FRAME_SEQ_SEQ : Fld := ⟨R.DSP_FRAME_SEQ, 31, 0⟩
/-- DSP_REPROJ.COUNT, RO (R603). -/
abbrev DSP_REPROJ_COUNT : Fld := ⟨R.DSP_REPROJ, 31, 0⟩
/-- DSP_DISPLACED.COUNT, RO (R603). -/
abbrev DSP_DISPLACED_COUNT : Fld := ⟨R.DSP_DISPLACED, 31, 0⟩
/-- DSP_POISONED.COUNT, RO (R603). -/
abbrev DSP_POISONED_COUNT : Fld := ⟨R.DSP_POISONED, 31, 0⟩
/-- DSP_HDCP_ALLOW.EN, RW (R603). -/
abbrev DSP_HDCP_ALLOW_EN (i : Nat) : Fld := ⟨R.DSP_HDCP_ALLOW i, 63, 63⟩
/-- DSP_HDCP_ALLOW.RXID, RW (R603). -/
abbrev DSP_HDCP_ALLOW_RXID (i : Nat) : Fld := ⟨R.DSP_HDCP_ALLOW i, 39, 0⟩
/-- DSP_HDCP_RXID.RXID, RO (R603). -/
abbrev DSP_HDCP_RXID_RXID : Fld := ⟨R.DSP_HDCP_RXID, 39, 0⟩
/-- DSP_AUX_CMD.GO, WO (R603). -/
abbrev DSP_AUX_CMD_GO : Fld := ⟨R.DSP_AUX_CMD, 31, 31⟩
/-- DSP_AUX_CMD.BUSY, RO (R603). -/
abbrev DSP_AUX_CMD_BUSY : Fld := ⟨R.DSP_AUX_CMD, 30, 30⟩
/-- DSP_AUX_CMD.AUX_ERR, W1C (R603). -/
abbrev DSP_AUX_CMD_AUX_ERR : Fld := ⟨R.DSP_AUX_CMD, 29, 29⟩
/-- DSP_AUX_CMD.I2C, RW (R603). -/
abbrev DSP_AUX_CMD_I2C : Fld := ⟨R.DSP_AUX_CMD, 28, 28⟩
/-- DSP_AUX_CMD.WRITE, RW (R603). -/
abbrev DSP_AUX_CMD_WRITE : Fld := ⟨R.DSP_AUX_CMD, 27, 27⟩
/-- DSP_AUX_CMD.LENM1, RW (R603). -/
abbrev DSP_AUX_CMD_LENM1 : Fld := ⟨R.DSP_AUX_CMD, 23, 20⟩
/-- DSP_AUX_CMD.ADDRESS, RW (R603). -/
abbrev DSP_AUX_CMD_ADDRESS : Fld := ⟨R.DSP_AUX_CMD, 19, 0⟩
/-- DSP_AUX_DATA.DATA, RW (R603). -/
abbrev DSP_AUX_DATA_DATA (i : Nat) : Fld := ⟨R.DSP_AUX_DATA i, 31, 0⟩
/-- PRS_CFG.MAX_WIDTH, RW (R646). -/
abbrev PRS_CFG_MAX_WIDTH : Fld := ⟨R.PRS_CFG, 31, 16⟩
/-- PRS_CFG.DPI, RW (R646). -/
abbrev PRS_CFG_DPI : Fld := ⟨R.PRS_CFG, 0, 0⟩
/-- PRS_STATUS.STATE, RO (R646). -/
abbrev PRS_STATUS_STATE : Fld := ⟨R.PRS_STATUS, 31, 29⟩
/-- PRS_STATUS.HALT_CAUSE, RO (R646). -/
abbrev PRS_STATUS_HALT_CAUSE : Fld := ⟨R.PRS_STATUS, 28, 25⟩
/-- PRS_STATUS.CFG_ERR, W1C (R646). -/
abbrev PRS_STATUS_CFG_ERR : Fld := ⟨R.PRS_STATUS, 24, 24⟩
/-- PRS_STATUS.OT_TRIP, W1C (R646). -/
abbrev PRS_STATUS_OT_TRIP : Fld := ⟨R.PRS_STATUS, 23, 20⟩
/-- PRS_STATUS.ILK, RO (R646). -/
abbrev PRS_STATUS_ILK : Fld := ⟨R.PRS_STATUS, 19, 19⟩
/-- PRS_STATUS.ERDY, RO (R646). -/
abbrev PRS_STATUS_ERDY : Fld := ⟨R.PRS_STATUS, 18, 18⟩
/-- PRS_STATUS.HBEAT, RO (R646). -/
abbrev PRS_STATUS_HBEAT : Fld := ⟨R.PRS_STATUS, 17, 17⟩
/-- PRS_STATUS.IN_PATH, RO (R646). -/
abbrev PRS_STATUS_IN_PATH : Fld := ⟨R.PRS_STATUS, 16, 12⟩
/-- PRS_STATUS.QUEUED, RO (R646). -/
abbrev PRS_STATUS_QUEUED : Fld := ⟨R.PRS_STATUS, 6, 0⟩
/-- PRS_PITCH.PITCH, RW (R646). -/
abbrev PRS_PITCH_PITCH : Fld := ⟨R.PRS_PITCH, 15, 0⟩
/-- PRS_READY_MASK.SLOTS, RW (R646). -/
abbrev PRS_READY_MASK_SLOTS : Fld := ⟨R.PRS_READY_MASK, 15, 0⟩
/-- PRS_IMG.FRONT_STN, RW (R646). -/
abbrev PRS_IMG_FRONT_STN : Fld := ⟨R.PRS_IMG, 3, 0⟩
/-- PRS_IMG.FRONT_DELAY, RW (R646). -/
abbrev PRS_IMG_FRONT_DELAY : Fld := ⟨R.PRS_IMG, 19, 4⟩
/-- PRS_IMG.BACK_STN, RW (R646). -/
abbrev PRS_IMG_BACK_STN : Fld := ⟨R.PRS_IMG, 35, 32⟩
/-- PRS_IMG.BACK_DELAY, RW (R646). -/
abbrev PRS_IMG_BACK_DELAY : Fld := ⟨R.PRS_IMG, 51, 36⟩
/-- PRS_PURGE.LATEST_S, RW (R646). -/
abbrev PRS_PURGE_LATEST_S : Fld := ⟨R.PRS_PURGE, 15, 0⟩
/-- PRS_PURGE.LATEST_D, RW (R646). -/
abbrev PRS_PURGE_LATEST_D : Fld := ⟨R.PRS_PURGE, 31, 16⟩
/-- PRS_SNS_POL.POL, RW (R646). -/
abbrev PRS_SNS_POL_POL : Fld := ⟨R.PRS_SNS_POL, 23, 0⟩
/-- PRS_SNS_FILT.FILT, RW (R646). -/
abbrev PRS_SNS_FILT_FILT : Fld := ⟨R.PRS_SNS_FILT, 7, 0⟩
/-- PRS_SNS_STATE.COVERED, RO (R646). -/
abbrev PRS_SNS_STATE_COVERED : Fld := ⟨R.PRS_SNS_STATE, 23, 0⟩
/-- PRS_SHEET.NEXT, RO (R646). -/
abbrev PRS_SHEET_NEXT : Fld := ⟨R.PRS_SHEET, 31, 0⟩
/-- PRS_STN.EN, RW (R646). -/
abbrev PRS_STN_EN (i : Nat) : Fld := ⟨R.PRS_STN i, 63, 63⟩
/-- PRS_STN.SENSOR, RW (R646). -/
abbrev PRS_STN_SENSOR (i : Nat) : Fld := ⟨R.PRS_STN i, 52, 48⟩
/-- PRS_STN.ROUTES, RW (R646). -/
abbrev PRS_STN_ROUTES (i : Nat) : Fld := ⟨R.PRS_STN i, 47, 44⟩
/-- PRS_STN.COVER_MAX, RW (R646). -/
abbrev PRS_STN_COVER_MAX (i : Nat) : Fld := ⟨R.PRS_STN i, 43, 32⟩
/-- PRS_STN.ARR_MAX, RW (R646). -/
abbrev PRS_STN_ARR_MAX (i : Nat) : Fld := ⟨R.PRS_STN i, 31, 16⟩
/-- PRS_STN.ARR_MIN, RW (R646). -/
abbrev PRS_STN_ARR_MIN (i : Nat) : Fld := ⟨R.PRS_STN i, 15, 0⟩
/-- PRS_ACT.EN, RW (R646). -/
abbrev PRS_ACT_EN (i : Nat) : Fld := ⟨R.PRS_ACT i, 63, 63⟩
/-- PRS_ACT.CLU, RW (R646). -/
abbrev PRS_ACT_CLU (i : Nat) : Fld := ⟨R.PRS_ACT i, 51, 48⟩
/-- PRS_ACT.ROUTES, RW (R646). -/
abbrev PRS_ACT_ROUTES (i : Nat) : Fld := ⟨R.PRS_ACT i, 47, 44⟩
/-- PRS_ACT.REF, RW (R646). -/
abbrev PRS_ACT_REF (i : Nat) : Fld := ⟨R.PRS_ACT i, 36, 32⟩
/-- PRS_ACT.OFF, RW (R646). -/
abbrev PRS_ACT_OFF (i : Nat) : Fld := ⟨R.PRS_ACT i, 31, 16⟩
/-- PRS_ACT.ON, RW (R646). -/
abbrev PRS_ACT_ON (i : Nat) : Fld := ⟨R.PRS_ACT i, 15, 0⟩
/-- PRS_FUS.GATE_US, RW (R646). -/
abbrev PRS_FUS_GATE_US : Fld := ⟨R.PRS_FUS, 31, 24⟩
/-- PRS_FUS.ZC_DELAY, RW (R646). -/
abbrev PRS_FUS_ZC_DELAY : Fld := ⟨R.PRS_FUS, 23, 8⟩
/-- PRS_FUS.SLOT_1, RW (R646). -/
abbrev PRS_FUS_SLOT_1 : Fld := ⟨R.PRS_FUS, 7, 4⟩
/-- PRS_FUS.SLOT_0, RW (R646). -/
abbrev PRS_FUS_SLOT_0 : Fld := ⟨R.PRS_FUS, 3, 0⟩
/-- PRS_OT.EN, RW (R646). -/
abbrev PRS_OT_EN (i : Nat) : Fld := ⟨R.PRS_OT i, 31, 31⟩
/-- PRS_OT.THR, RW (R646). -/
abbrev PRS_OT_THR (i : Nat) : Fld := ⟨R.PRS_OT i, 9, 0⟩
/-- PRS_HV.SLOT, RW (R646). -/
abbrev PRS_HV_SLOT (i : Nat) : Fld := ⟨R.PRS_HV i, 31, 28⟩
/-- PRS_HV.LIMIT, RW (R646). -/
abbrev PRS_HV_LIMIT (i : Nat) : Fld := ⟨R.PRS_HV i, 27, 16⟩
/-- PRS_HV.MAX, RW (R646). -/
abbrev PRS_HV_MAX (i : Nat) : Fld := ⟨R.PRS_HV i, 11, 0⟩
/-- PRS_PAGES_OK.COUNT, RO (R646). -/
abbrev PRS_PAGES_OK_COUNT : Fld := ⟨R.PRS_PAGES_OK, 63, 0⟩
/-- PRS_SPOILED.COUNT, RO (R646). -/
abbrev PRS_SPOILED_COUNT : Fld := ⟨R.PRS_SPOILED, 31, 0⟩
/-- PRS_INTERRUPTED.COUNT, RO (R646). -/
abbrev PRS_INTERRUPTED_COUNT : Fld := ⟨R.PRS_INTERRUPTED, 31, 0⟩
/-- PRS_HALTS.COUNT, RO (R646). -/
abbrev PRS_HALTS_COUNT : Fld := ⟨R.PRS_HALTS, 31, 0⟩
/-- PRS_HASH_MISMATCH.COUNT, RO (R646). -/
abbrev PRS_HASH_MISMATCH_COUNT : Fld := ⟨R.PRS_HASH_MISMATCH, 31, 0⟩
/-- DRY_CFG.BD_POL, RW (R671). -/
abbrev DRY_CFG_BD_POL : Fld := ⟨R.DRY_CFG, 7, 7⟩
/-- DRY_CFG.REVERSE, RW (R671). -/
abbrev DRY_CFG_REVERSE : Fld := ⟨R.DRY_CFG, 6, 6⟩
/-- DRY_CFG.EOS_EN, RW (R671). -/
abbrev DRY_CFG_EOS_EN : Fld := ⟨R.DRY_CFG, 5, 5⟩
/-- DRY_CFG.BD_SEL, RW (R671). -/
abbrev DRY_CFG_BD_SEL : Fld := ⟨R.DRY_CFG, 4, 4⟩
/-- DRY_CFG.BEAMS, RW (R671). -/
abbrev DRY_CFG_BEAMS : Fld := ⟨R.DRY_CFG, 2, 0⟩
/-- DRY_PIXCLK.ODIV, RW (R671). -/
abbrev DRY_PIXCLK_ODIV : Fld := ⟨R.DRY_PIXCLK, 23, 16⟩
/-- DRY_PIXCLK.NINT, RW (R671). -/
abbrev DRY_PIXCLK_NINT : Fld := ⟨R.DRY_PIXCLK, 15, 8⟩
/-- DRY_PIXFRAC.NFRAC, RW (R671). -/
abbrev DRY_PIXFRAC_NFRAC : Fld := ⟨R.DRY_PIXFRAC, 23, 0⟩
/-- DRY_SCAN.TOL, RW (R671). -/
abbrev DRY_SCAN_TOL : Fld := ⟨R.DRY_SCAN, 31, 20⟩
/-- DRY_SCAN.PERIOD, RW (R671). -/
abbrev DRY_SCAN_PERIOD : Fld := ⟨R.DRY_SCAN, 19, 0⟩
/-- DRY_BDWIN.REF, RW (R671). -/
abbrev DRY_BDWIN_REF : Fld := ⟨R.DRY_BDWIN, 18, 16⟩
/-- DRY_BDWIN.OPEN, RW (R671). -/
abbrev DRY_BDWIN_OPEN : Fld := ⟨R.DRY_BDWIN, 15, 0⟩
/-- DRY_STATUS.LOCK, RO (R671). -/
abbrev DRY_STATUS_LOCK : Fld := ⟨R.DRY_STATUS, 31, 31⟩
/-- DRY_STATUS.HUNTING, RO (R671). -/
abbrev DRY_STATUS_HUNTING : Fld := ⟨R.DRY_STATUS, 30, 30⟩
/-- DRY_STATUS.CFG_ERR, W1C (R671). -/
abbrev DRY_STATUS_CFG_ERR : Fld := ⟨R.DRY_STATUS, 29, 29⟩
/-- DRY_STATUS.LAST_PERIOD, RO (R671). -/
abbrev DRY_STATUS_LAST_PERIOD : Fld := ⟨R.DRY_STATUS, 19, 0⟩
/-- DRY_EOS.EOS, RO (R671). -/
abbrev DRY_EOS_EOS : Fld := ⟨R.DRY_EOS, 19, 0⟩
/-- DRY_PWM.ALIGN_3, RW (R671). -/
abbrev DRY_PWM_ALIGN_3 : Fld := ⟨R.DRY_PWM, 21, 20⟩
/-- DRY_PWM.ALIGN_2, RW (R671). -/
abbrev DRY_PWM_ALIGN_2 : Fld := ⟨R.DRY_PWM, 19, 18⟩
/-- DRY_PWM.ALIGN_1, RW (R671). -/
abbrev DRY_PWM_ALIGN_1 : Fld := ⟨R.DRY_PWM, 17, 16⟩
/-- DRY_PWM.W_3, RW (R671). -/
abbrev DRY_PWM_W_3 : Fld := ⟨R.DRY_PWM, 11, 8⟩
/-- DRY_PWM.W_2, RW (R671). -/
abbrev DRY_PWM_W_2 : Fld := ⟨R.DRY_PWM, 7, 4⟩
/-- DRY_PWM.W_1, RW (R671). -/
abbrev DRY_PWM_W_1 : Fld := ⟨R.DRY_PWM, 3, 0⟩
/-- DRY_BEAM.APC_LEN, RW (R671). -/
abbrev DRY_BEAM_APC_LEN (i : Nat) : Fld := ⟨R.DRY_BEAM i, 63, 48⟩
/-- DRY_BEAM.APC_START, RW (R671). -/
abbrev DRY_BEAM_APC_START (i : Nat) : Fld := ⟨R.DRY_BEAM i, 47, 32⟩
/-- DRY_BEAM.ROW_OFS, RW (R671). -/
abbrev DRY_BEAM_ROW_OFS (i : Nat) : Fld := ⟨R.DRY_BEAM i, 27, 24⟩
/-- DRY_BEAM.START, RW (R671). -/
abbrev DRY_BEAM_START (i : Nat) : Fld := ⟨R.DRY_BEAM i, 19, 0⟩
/-- DRY_APC.EN, RW (R671). -/
abbrev DRY_APC_EN (i : Nat) : Fld := ⟨R.DRY_APC i, 63, 63⟩
/-- DRY_APC.TSLOT, RW (R671). -/
abbrev DRY_APC_TSLOT (i : Nat) : Fld := ⟨R.DRY_APC i, 59, 56⟩
/-- DRY_APC.TSLOT_EN, RW (R671). -/
abbrev DRY_APC_TSLOT_EN (i : Nat) : Fld := ⟨R.DRY_APC i, 55, 55⟩
/-- DRY_APC.DAC, RO (R671). -/
abbrev DRY_APC_DAC (i : Nat) : Fld := ⟨R.DRY_APC i, 43, 32⟩
/-- DRY_APC.TOL, RW (R671). -/
abbrev DRY_APC_TOL (i : Nat) : Fld := ⟨R.DRY_APC i, 31, 24⟩
/-- DRY_APC.GAIN, RW (R671). -/
abbrev DRY_APC_GAIN (i : Nat) : Fld := ⟨R.DRY_APC i, 23, 16⟩
/-- DRY_APC.TARGET, RW (R671). -/
abbrev DRY_APC_TARGET (i : Nat) : Fld := ⟨R.DRY_APC i, 11, 0⟩
/-- DRY_BOW.EN, RW (R671). -/
abbrev DRY_BOW_EN (i : Nat) : Fld := ⟨R.DRY_BOW i, 31, 31⟩
/-- DRY_BOW.DIR, RW (R671). -/
abbrev DRY_BOW_DIR (i : Nat) : Fld := ⟨R.DRY_BOW i, 30, 30⟩
/-- DRY_BOW.X, RW (R671). -/
abbrev DRY_BOW_X (i : Nat) : Fld := ⟨R.DRY_BOW i, 15, 0⟩
/-- DRY_SCANS.COUNT, RO (R671). -/
abbrev DRY_SCANS_COUNT : Fld := ⟨R.DRY_SCANS, 63, 0⟩
/-- DRY_MISSED.COUNT, RO (R671). -/
abbrev DRY_MISSED_COUNT : Fld := ⟨R.DRY_MISSED, 31, 0⟩
/-- DRY_STRAY_BD.COUNT, RO (R671). -/
abbrev DRY_STRAY_BD_COUNT : Fld := ⟨R.DRY_STRAY_BD, 31, 0⟩
/-- DRY_LATE_LINES.COUNT, RO (R671). -/
abbrev DRY_LATE_LINES_COUNT : Fld := ⟨R.DRY_LATE_LINES, 31, 0⟩
/-- TNS_SLOT_STATUS.STATE, RO (R702). -/
abbrev TNS_SLOT_STATUS_STATE (i : Nat) : Fld := ⟨R.TNS_SLOT_STATUS i, 31, 30⟩
/-- TNS_SLOT_STATUS.IN_BAND, RO (R702). -/
abbrev TNS_SLOT_STATUS_IN_BAND (i : Nat) : Fld := ⟨R.TNS_SLOT_STATUS i, 29, 29⟩
/-- TNS_SLOT_STATUS.SAT, RO (R702). -/
abbrev TNS_SLOT_STATUS_SAT (i : Nat) : Fld := ⟨R.TNS_SLOT_STATUS i, 28, 28⟩
/-- TNS_SLOT_STATUS.FROZEN, RO (R702). -/
abbrev TNS_SLOT_STATUS_FROZEN (i : Nat) : Fld := ⟨R.TNS_SLOT_STATUS i, 27, 27⟩
/-- TNS_SLOT_STATUS.PROMPT, RO (R702). -/
abbrev TNS_SLOT_STATUS_PROMPT (i : Nat) : Fld := ⟨R.TNS_SLOT_STATUS i, 26, 26⟩
/-- TNS_SLOT_STATUS.LOADED, RO (R702). -/
abbrev TNS_SLOT_STATUS_LOADED (i : Nat) : Fld := ⟨R.TNS_SLOT_STATUS i, 25, 25⟩
/-- TNS_SLOT_STATUS.SCODE, RO (R702). -/
abbrev TNS_SLOT_STATUS_SCODE (i : Nat) : Fld := ⟨R.TNS_SLOT_STATUS i, 12, 0⟩
/-- TNS_SLOT_X.VALUE, RO (R702). -/
abbrev TNS_SLOT_X_VALUE (i : Nat) : Fld := ⟨R.TNS_SLOT_X i, 31, 0⟩
/-- TNS_SLOT_E.VALUE, RO (R702). -/
abbrev TNS_SLOT_E_VALUE (i : Nat) : Fld := ⟨R.TNS_SLOT_E i, 31, 0⟩
/-- TNS_SLOT_Q.VALUE, RO (R702). -/
abbrev TNS_SLOT_Q_VALUE (i : Nat) : Fld := ⟨R.TNS_SLOT_Q i, 31, 0⟩
/-- TNS_SLOT_SP.SETPOINT, RO (R702). -/
abbrev TNS_SLOT_SP_SETPOINT (i : Nat) : Fld := ⟨R.TNS_SLOT_SP i, 31, 0⟩
/-- TNS_SLOT_COUNTS.LATE, RO (R702). -/
abbrev TNS_SLOT_COUNTS_LATE (i : Nat) : Fld := ⟨R.TNS_SLOT_COUNTS i, 31, 20⟩
/-- TNS_SLOT_COUNTS.WAITS, RO (R702). -/
abbrev TNS_SLOT_COUNTS_WAITS (i : Nat) : Fld := ⟨R.TNS_SLOT_COUNTS i, 19, 8⟩
/-- TNS_SLOT_COUNTS.STEPS, RO (R702). -/
abbrev TNS_SLOT_COUNTS_STEPS (i : Nat) : Fld := ⟨R.TNS_SLOT_COUNTS i, 7, 0⟩
/-- TNS_ADC.SEQ, RO (R702). -/
abbrev TNS_ADC_SEQ (i : Nat) : Fld := ⟨R.TNS_ADC i, 31, 16⟩
/-- TNS_ADC.VALID, RO (R702). -/
abbrev TNS_ADC_VALID (i : Nat) : Fld := ⟨R.TNS_ADC i, 15, 15⟩
/-- TNS_ADC.CODE, RO (R702). -/
abbrev TNS_ADC_CODE (i : Nat) : Fld := ⟨R.TNS_ADC i, 11, 0⟩
/-- TNS_ADC_BG_0.MASK, RW (R702). -/
abbrev TNS_ADC_BG_0_MASK : Fld := ⟨R.TNS_ADC_BG_0, 15, 0⟩
/-- TNS_ADC_BG_1.MASK, RW (R702). -/
abbrev TNS_ADC_BG_1_MASK : Fld := ⟨R.TNS_ADC_BG_1, 10, 0⟩
/-- TNS_STATUS.CFG_ERR, W1C (R702). -/
abbrev TNS_STATUS_CFG_ERR : Fld := ⟨R.TNS_STATUS, 31, 31⟩
/-- TNS_STATUS.CAP_BUSY, RO (R702). -/
abbrev TNS_STATUS_CAP_BUSY : Fld := ⟨R.TNS_STATUS, 30, 30⟩
/-- TNS_STATUS.ADC_FAULT, W1C (R702). -/
abbrev TNS_STATUS_ADC_FAULT : Fld := ⟨R.TNS_STATUS, 1, 0⟩
/-- TNS_PWM.MOT_PER, RW (R702). -/
abbrev TNS_PWM_MOT_PER : Fld := ⟨R.TNS_PWM, 31, 16⟩
/-- TNS_PWM.POLY_PER, RW (R702). -/
abbrev TNS_PWM_POLY_PER : Fld := ⟨R.TNS_PWM, 15, 0⟩
/-- LOG_STATUS.BANKS, RO (R563). -/
abbrev LOG_STATUS_BANKS : Fld := ⟨R.LOG_STATUS, 31, 30⟩
/-- LOG_STATUS.FULL, RO (R563). -/
abbrev LOG_STATUS_FULL : Fld := ⟨R.LOG_STATUS, 29, 29⟩
/-- LOG_STATUS.RESERVED, RO (R563). -/
abbrev LOG_STATUS_RESERVED : Fld := ⟨R.LOG_STATUS, 25, 16⟩
/-- LOG_STATUS.UNRETIRED, RO (R563). -/
abbrev LOG_STATUS_UNRETIRED : Fld := ⟨R.LOG_STATUS, 12, 0⟩
/-- LOG_SEQ.NEXT, RO (R563). -/
abbrev LOG_SEQ_NEXT : Fld := ⟨R.LOG_SEQ, 31, 0⟩
/-- LOG_RETIRED.SEQ, RO (R563). -/
abbrev LOG_RETIRED_SEQ : Fld := ⟨R.LOG_RETIRED, 31, 0⟩
/-- LOG_CKPT.SIGNED_SEQ, RO (R563). -/
abbrev LOG_CKPT_SIGNED_SEQ : Fld := ⟨R.LOG_CKPT, 31, 0⟩
/-- LOG_DRAIN_BASE.ADDR, RW (R563). -/
abbrev LOG_DRAIN_BASE_ADDR : Fld := ⟨R.LOG_DRAIN_BASE, 63, 12⟩
/-- LOG_DRAIN_CFG.EN, RW (R563). -/
abbrev LOG_DRAIN_CFG_EN : Fld := ⟨R.LOG_DRAIN_CFG, 31, 31⟩
/-- LOG_DRAIN_CFG.LOG2SIZE, RW (R563). -/
abbrev LOG_DRAIN_CFG_LOG2SIZE : Fld := ⟨R.LOG_DRAIN_CFG, 4, 0⟩
/-- LOG_DRAIN_TAIL.TAIL, RO (R563). -/
abbrev LOG_DRAIN_TAIL_TAIL : Fld := ⟨R.LOG_DRAIN_TAIL, 31, 0⟩
/-- LOG_DRAIN_HEAD.HEAD, RW (R563). -/
abbrev LOG_DRAIN_HEAD_HEAD : Fld := ⟨R.LOG_DRAIN_HEAD, 31, 0⟩
/-- LOG_DRAIN_STATUS.DRAIN_ERR, W1C (R563). -/
abbrev LOG_DRAIN_STATUS_DRAIN_ERR : Fld := ⟨R.LOG_DRAIN_STATUS, 31, 31⟩
/-- LOG_DRAIN_STATUS.DMA_FAULT, W1C (R563). -/
abbrev LOG_DRAIN_STATUS_DMA_FAULT : Fld := ⟨R.LOG_DRAIN_STATUS, 30, 30⟩
/-- LOG_ECC.CE_B, RO (R563). -/
abbrev LOG_ECC_CE_B : Fld := ⟨R.LOG_ECC, 31, 16⟩
/-- LOG_ECC.CE_A, RO (R563). -/
abbrev LOG_ECC_CE_A : Fld := ⟨R.LOG_ECC, 15, 0⟩
/-- LOG_TOMBSTONE.DATA, RO (R557). -/
abbrev LOG_TOMBSTONE_DATA (i : Nat) : Fld := ⟨R.LOG_TOMBSTONE i, 31, 0⟩
/-- TST_INFO.IR_STATE, RO (R754). -/
abbrev TST_INFO_IR_STATE : Fld := ⟨R.TST_INFO, 31, 16⟩
/-- TST_INFO.BSR_LEN, RO (R754). -/
abbrev TST_INFO_BSR_LEN : Fld := ⟨R.TST_INFO, 15, 0⟩
/-- TST_IDCODE.IDCODE, RO (R754). -/
abbrev TST_IDCODE_IDCODE : Fld := ⟨R.TST_IDCODE, 31, 0⟩
/-- TST_JOB_CFG.KIND, RW (R754). -/
abbrev TST_JOB_CFG_KIND : Fld := ⟨R.TST_JOB_CFG, 3, 0⟩
/-- TST_JOB_CFG.PATTERN, RW (R754). -/
abbrev TST_JOB_CFG_PATTERN : Fld := ⟨R.TST_JOB_CFG, 7, 4⟩
/-- TST_JOB_CFG.LOOP, RW (R754). -/
abbrev TST_JOB_CFG_LOOP : Fld := ⟨R.TST_JOB_CFG, 9, 8⟩
/-- TST_JOB_CFG.INSTANCE, RW (R754). -/
abbrev TST_JOB_CFG_INSTANCE : Fld := ⟨R.TST_JOB_CFG, 31, 16⟩
/-- TST_JOB_CFG.ARRAY, RW (R754). -/
abbrev TST_JOB_CFG_ARRAY : Fld := ⟨R.TST_JOB_CFG, 39, 32⟩
/-- TST_JOB_CFG.DURATION, RW (R754). -/
abbrev TST_JOB_CFG_DURATION : Fld := ⟨R.TST_JOB_CFG, 63, 40⟩
/-- TST_JOB_CMD.KEY, WO (R754). -/
abbrev TST_JOB_CMD_KEY : Fld := ⟨R.TST_JOB_CMD, 31, 16⟩
/-- TST_JOB_STATUS.STATE, RO (R754). -/
abbrev TST_JOB_STATUS_STATE : Fld := ⟨R.TST_JOB_STATUS, 31, 30⟩
/-- TST_JOB_STATUS.RESULT, RO (R754). -/
abbrev TST_JOB_STATUS_RESULT : Fld := ⟨R.TST_JOB_STATUS, 29, 28⟩
/-- TST_JOB_STATUS.REASON, RO (R754). -/
abbrev TST_JOB_STATUS_REASON : Fld := ⟨R.TST_JOB_STATUS, 27, 24⟩
/-- TST_JOB_STATUS.LOCKED, RO (R754). -/
abbrev TST_JOB_STATUS_LOCKED : Fld := ⟨R.TST_JOB_STATUS, 8, 0⟩
/-- TST_JOB_BITS.COUNT, RO (R754). -/
abbrev TST_JOB_BITS_COUNT : Fld := ⟨R.TST_JOB_BITS, 63, 0⟩
/-- TST_JOB_ERRS.COUNT, RO (R754). -/
abbrev TST_JOB_ERRS_COUNT : Fld := ⟨R.TST_JOB_ERRS, 63, 0⟩
/-- TST_FIXED.PATTERN, RW (R754). -/
abbrev TST_FIXED_PATTERN : Fld := ⟨R.TST_FIXED, 63, 0⟩
/-- TST_ERR_THR.THR, RW (R754). -/
abbrev TST_ERR_THR_THR : Fld := ⟨R.TST_ERR_THR, 31, 0⟩
/-- RPR_CFG.SRAM_CE_THR, RW (R498). -/
abbrev RPR_CFG_SRAM_CE_THR : Fld := ⟨R.RPR_CFG, 15, 8⟩
/-- RPR_CFG.RETIRE_CHK, RW (R498). -/
abbrev RPR_CFG_RETIRE_CHK : Fld := ⟨R.RPR_CFG, 3, 0⟩
/-- RPR_STATUS.SOURCE, RO (R498). -/
abbrev RPR_STATUS_SOURCE : Fld := ⟨R.RPR_STATUS, 31, 30⟩
/-- RPR_STATUS.AUTH_FAIL, W1C (R498). -/
abbrev RPR_STATUS_AUTH_FAIL : Fld := ⟨R.RPR_STATUS, 29, 29⟩
/-- RPR_STATUS.FULL, RO (R498). -/
abbrev RPR_STATUS_FULL : Fld := ⟨R.RPR_STATUS, 28, 28⟩
/-- RPR_STATUS.ENTRIES, RO (R498). -/
abbrev RPR_STATUS_ENTRIES : Fld := ⟨R.RPR_STATUS, 26, 16⟩
/-- RPR_STATUS.PENDING, RO (R498). -/
abbrev RPR_STATUS_PENDING : Fld := ⟨R.RPR_STATUS, 8, 0⟩
/-- RPR_HMAP.PHYS, RO (R498). -/
abbrev RPR_HMAP_PHYS (i : Nat) : Fld := ⟨R.RPR_HMAP i, 47, 0⟩
/-- RPR_SMAP_LO.PHYS, RO (R498). -/
abbrev RPR_SMAP_LO_PHYS (i : Nat) : Fld := ⟨R.RPR_SMAP_LO i, 63, 0⟩
/-- RPR_SMAP_HI.PHYS, RO (R498). -/
abbrev RPR_SMAP_HI_PHYS (i : Nat) : Fld := ⟨R.RPR_SMAP_HI i, 63, 0⟩
/-- RPR_HOST.HOSTED, RO (R498). -/
abbrev RPR_HOST_HOSTED (i : Nat) : Fld := ⟨R.RPR_HOST i, 15, 0⟩
/-- RPR_SPARE.ATT_EXCLUDED, RO (R498). -/
abbrev RPR_SPARE_ATT_EXCLUDED (i : Nat) : Fld := ⟨R.RPR_SPARE i, 25, 25⟩
/-- RPR_SPARE.BLOCKS_RETIRED, RO (R498). -/
abbrev RPR_SPARE_BLOCKS_RETIRED (i : Nat) : Fld := ⟨R.RPR_SPARE i, 24, 16⟩
/-- RPR_SPARE.CORE_VACANT, RO (R498). -/
abbrev RPR_SPARE_CORE_VACANT (i : Nat) : Fld := ⟨R.RPR_SPARE i, 12, 8⟩
/-- RPR_SPARE.HATCH_VACANT, RO (R498). -/
abbrev RPR_SPARE_HATCH_VACANT (i : Nat) : Fld := ⟨R.RPR_SPARE i, 7, 4⟩
/-- RPR_SPARE.STIPPLE_SPARE, RO (R498). -/
abbrev RPR_SPARE_STIPPLE_SPARE (i : Nat) : Fld := ⟨R.RPR_SPARE i, 3, 2⟩
/-- RPR_SPARE.HATCH_SPARE, RO (R498). -/
abbrev RPR_SPARE_HATCH_SPARE (i : Nat) : Fld := ⟨R.RPR_SPARE i, 1, 0⟩
/-- RPR_ROWS.TESTS, RO (R498). -/
abbrev RPR_ROWS_TESTS : Fld := ⟨R.RPR_ROWS, 31, 16⟩
/-- RPR_ROWS.REPAIRED, RO (R498). -/
abbrev RPR_ROWS_REPAIRED : Fld := ⟨R.RPR_ROWS, 15, 0⟩
/-- HIF_MSIX.WORD, RW (R731). -/
abbrev HIF_MSIX_WORD (i : Nat) : Fld := ⟨R.HIF_MSIX i, 31, 0⟩
/-- HIF_PBA.BITS, RO (R731). -/
abbrev HIF_PBA_BITS : Fld := ⟨R.HIF_PBA, 63, 0⟩
/-- HIF_LINK.WIDTH, RO (R731). -/
abbrev HIF_LINK_WIDTH : Fld := ⟨R.HIF_LINK, 9, 4⟩
/-- HIF_LINK.SPEED, RO (R731). -/
abbrev HIF_LINK_SPEED : Fld := ⟨R.HIF_LINK, 3, 0⟩
/-- PW_RING_SQ_BASE.ADDR, RW (R362). -/
abbrev PW_RING_SQ_BASE_ADDR (b i : Nat) : Fld := ⟨R.PW_RING_SQ_BASE b i, 63, 12⟩
/-- PW_RING_SQ_BASE.LOC, RW (R362). -/
abbrev PW_RING_SQ_BASE_LOC (b i : Nat) : Fld := ⟨R.PW_RING_SQ_BASE b i, 0, 0⟩
/-- PW_RING_CQ_BASE.ADDR, RW (R362). -/
abbrev PW_RING_CQ_BASE_ADDR (b i : Nat) : Fld := ⟨R.PW_RING_CQ_BASE b i, 63, 12⟩
/-- PW_RING_CQ_BASE.LOC, RW (R362). -/
abbrev PW_RING_CQ_BASE_LOC (b i : Nat) : Fld := ⟨R.PW_RING_CQ_BASE b i, 0, 0⟩
/-- PW_RING_CFG.EN, RW (R362). -/
abbrev PW_RING_CFG_EN (b i : Nat) : Fld := ⟨R.PW_RING_CFG b i, 31, 31⟩
/-- PW_RING_CFG.CTX, RW (R362). -/
abbrev PW_RING_CFG_CTX (b i : Nat) : Fld := ⟨R.PW_RING_CFG b i, 27, 16⟩
/-- PW_RING_CFG.LOG2SIZE, RW (R362). -/
abbrev PW_RING_CFG_LOG2SIZE (b i : Nat) : Fld := ⟨R.PW_RING_CFG b i, 4, 0⟩
/-- PW_RING_CTL.RESUME, WO (R362). -/
abbrev PW_RING_CTL_RESUME (b i : Nat) : Fld := ⟨R.PW_RING_CTL b i, 31, 31⟩
/-- PW_RING_CTL.FLUSH, WO (R362). -/
abbrev PW_RING_CTL_FLUSH (b i : Nat) : Fld := ⟨R.PW_RING_CTL b i, 30, 30⟩
/-- PW_RING_STATUS.STATE, RO (R362). -/
abbrev PW_RING_STATUS_STATE (b i : Nat) : Fld := ⟨R.PW_RING_STATUS b i, 31, 29⟩
/-- PW_RING_STATUS.CAUSE, RO (R362). -/
abbrev PW_RING_STATUS_CAUSE (b i : Nat) : Fld := ⟨R.PW_RING_STATUS b i, 28, 24⟩
/-- PW_RING_STATUS.CFG_ERR, W1C (R362). -/
abbrev PW_RING_STATUS_CFG_ERR (b i : Nat) : Fld := ⟨R.PW_RING_STATUS b i, 23, 23⟩
/-- PW_RING_STATUS.CQ_FULL, RO (R362). -/
abbrev PW_RING_STATUS_CQ_FULL (b i : Nat) : Fld := ⟨R.PW_RING_STATUS b i, 22, 22⟩
/-- PW_RING_STATUS.DB_STALE, RO (R362). -/
abbrev PW_RING_STATUS_DB_STALE (b i : Nat) : Fld := ⟨R.PW_RING_STATUS b i, 15, 0⟩
/-- PW_RING_SQ_TAIL.TAIL, RO (R362). -/
abbrev PW_RING_SQ_TAIL_TAIL (b i : Nat) : Fld := ⟨R.PW_RING_SQ_TAIL b i, 31, 0⟩
/-- PW_RING_SQ_HEAD.HEAD, RO (R362). -/
abbrev PW_RING_SQ_HEAD_HEAD (b i : Nat) : Fld := ⟨R.PW_RING_SQ_HEAD b i, 31, 0⟩
/-- PW_RING_CQ_TAIL.TAIL, RO (R362). -/
abbrev PW_RING_CQ_TAIL_TAIL (b i : Nat) : Fld := ⟨R.PW_RING_CQ_TAIL b i, 31, 0⟩
/-- PW_RING_CQ_HEAD.HEAD, RW (R362). -/
abbrev PW_RING_CQ_HEAD_HEAD (b i : Nat) : Fld := ⟨R.PW_RING_CQ_HEAD b i, 31, 0⟩
/-- PW_RING_DB.TAIL, WO (R362). -/
abbrev PW_RING_DB_TAIL (b i : Nat) : Fld := ⟨R.PW_RING_DB b i, 31, 0⟩
/-- PW_RING_IRQ.GAP_US, RW (R362). -/
abbrev PW_RING_IRQ_GAP_US (b i : Nat) : Fld := ⟨R.PW_RING_IRQ b i, 15, 0⟩
/-- PW_RING_INVQ.QUEUED, RO (R362). -/
abbrev PW_RING_INVQ_QUEUED (b i : Nat) : Fld := ⟨R.PW_RING_INVQ b i, 6, 0⟩
/-- PW_MSIX.WORD, RW (R707). -/
abbrev PW_MSIX_WORD (b i : Nat) : Fld := ⟨R.PW_MSIX b i, 31, 0⟩
/-- PW_PBA.BITS, RO (R707). -/
abbrev PW_PBA_BITS (b : Nat) : Fld := ⟨R.PW_PBA b, 11, 0⟩
/-- PW_EVT_Q_BASE.ADDR, RW (R731). -/
abbrev PW_EVT_Q_BASE_ADDR (b : Nat) : Fld := ⟨R.PW_EVT_Q_BASE b, 63, 12⟩
/-- PW_EVT_Q_BASE.LOC, RW (R731). -/
abbrev PW_EVT_Q_BASE_LOC (b : Nat) : Fld := ⟨R.PW_EVT_Q_BASE b, 0, 0⟩
/-- PW_EVT_Q_CFG.EN, RW (R731). -/
abbrev PW_EVT_Q_CFG_EN (b : Nat) : Fld := ⟨R.PW_EVT_Q_CFG b, 31, 31⟩
/-- PW_EVT_Q_CFG.CTX, RW (R731). -/
abbrev PW_EVT_Q_CFG_CTX (b : Nat) : Fld := ⟨R.PW_EVT_Q_CFG b, 27, 16⟩
/-- PW_EVT_Q_CFG.LOG2SIZE, RW (R731). -/
abbrev PW_EVT_Q_CFG_LOG2SIZE (b : Nat) : Fld := ⟨R.PW_EVT_Q_CFG b, 4, 0⟩
/-- PW_EVT_Q_TAIL.TAIL, RO (R731). -/
abbrev PW_EVT_Q_TAIL_TAIL (b : Nat) : Fld := ⟨R.PW_EVT_Q_TAIL b, 31, 0⟩
/-- PW_EVT_Q_HEAD.HEAD, RW (R731). -/
abbrev PW_EVT_Q_HEAD_HEAD (b : Nat) : Fld := ⟨R.PW_EVT_Q_HEAD b, 31, 0⟩
/-- PW_EVT_Q_STATUS.OVERFLOW, W1C (R731). -/
abbrev PW_EVT_Q_STATUS_OVERFLOW (b : Nat) : Fld := ⟨R.PW_EVT_Q_STATUS b, 31, 31⟩
/-- PW_EVT_Q_STATUS.HEAD_ERR, W1C (R731). -/
abbrev PW_EVT_Q_STATUS_HEAD_ERR (b : Nat) : Fld := ⟨R.PW_EVT_Q_STATUS b, 30, 30⟩
/-- PW_EVT_Q_STATUS.Q_FAULT, W1C (R731). -/
abbrev PW_EVT_Q_STATUS_Q_FAULT (b : Nat) : Fld := ⟨R.PW_EVT_Q_STATUS b, 29, 29⟩
/-- PW_EVT_Q_STATUS.DROPPED, RO (R731). -/
abbrev PW_EVT_Q_STATUS_DROPPED (b : Nat) : Fld := ⟨R.PW_EVT_Q_STATUS b, 15, 0⟩
/-- PW_DSP_STATUS.STATE, RO (R603). -/
abbrev PW_DSP_STATUS_STATE (b : Nat) : Fld := ⟨R.PW_DSP_STATUS b, 31, 30⟩
/-- PW_DSP_MODE.H, RO (R603). -/
abbrev PW_DSP_MODE_H (b : Nat) : Fld := ⟨R.PW_DSP_MODE b, 15, 0⟩
/-- PW_DSP_MODE.V, RO (R603). -/
abbrev PW_DSP_MODE_V (b : Nat) : Fld := ⟨R.PW_DSP_MODE b, 31, 16⟩
/-- PW_DSP_FRAME.SEQ, RO (R603). -/
abbrev PW_DSP_FRAME_SEQ (b : Nat) : Fld := ⟨R.PW_DSP_FRAME b, 31, 0⟩
/-- PW_PRS_STATUS.PSTAT, RO (R646). -/
abbrev PW_PRS_STATUS_PSTAT (b : Nat) : Fld := ⟨R.PW_PRS_STATUS b, 31, 0⟩
/-- PW_PRS_SHEET.SHEET_ID, RO (R646). -/
abbrev PW_PRS_SHEET_SHEET_ID (b : Nat) : Fld := ⟨R.PW_PRS_SHEET b, 31, 0⟩
/-- PW_TNS.STATUS, RO (R702). -/
abbrev PW_TNS_STATUS (b i : Nat) : Fld := ⟨R.PW_TNS b i, 31, 0⟩
/-- PW_ADMIT_W0.DIGEST, RW (R538). -/
abbrev PW_ADMIT_W0_DIGEST (b i : Nat) : Fld := ⟨R.PW_ADMIT_W0 b i, 63, 0⟩
/-- PW_ADMIT_W1.DIGEST, RW (R538). -/
abbrev PW_ADMIT_W1_DIGEST (b i : Nat) : Fld := ⟨R.PW_ADMIT_W1 b i, 63, 0⟩
/-- PW_ADMIT_W2.DIGEST, RW (R538). -/
abbrev PW_ADMIT_W2_DIGEST (b i : Nat) : Fld := ⟨R.PW_ADMIT_W2 b i, 63, 0⟩
/-- PW_ADMIT_W3.DIGEST, RW (R538). -/
abbrev PW_ADMIT_W3_DIGEST (b i : Nat) : Fld := ⟨R.PW_ADMIT_W3 b i, 63, 0⟩
/-- PW_ADMIT_W4.DIGEST, RW (R538). -/
abbrev PW_ADMIT_W4_DIGEST (b i : Nat) : Fld := ⟨R.PW_ADMIT_W4 b i, 63, 0⟩
/-- PW_ADMIT_W5.DIGEST, RW (R538). -/
abbrev PW_ADMIT_W5_DIGEST (b i : Nat) : Fld := ⟨R.PW_ADMIT_W5 b i, 63, 0⟩
/-- PW_ADMIT_W6.EN, RW (R538). -/
abbrev PW_ADMIT_W6_EN (b i : Nat) : Fld := ⟨R.PW_ADMIT_W6 b i, 0, 0⟩
/-- PW_TRUST.LIFECYCLE, RO (R538). -/
abbrev PW_TRUST_LIFECYCLE (b : Nat) : Fld := ⟨R.PW_TRUST b, 31, 30⟩
/-- PW_TRUST.TDI, RO (R538). -/
abbrev PW_TRUST_TDI (b : Nat) : Fld := ⟨R.PW_TRUST b, 29, 28⟩
/-- PW_TRUST.PRESS, RO (R538). -/
abbrev PW_TRUST_PRESS (b : Nat) : Fld := ⟨R.PW_TRUST b, 27, 27⟩
/-- PW_TRUST.PROOF, RO (R538). -/
abbrev PW_TRUST_PROOF (b : Nat) : Fld := ⟨R.PW_TRUST b, 26, 26⟩
/-- PW_ADMITTED.LINKS, RO (R538). -/
abbrev PW_ADMITTED_LINKS (b : Nat) : Fld := ⟨R.PW_ADMITTED b, 5, 0⟩
/-- PW_XLT_CTX.BASE, RW (R233). -/
abbrev PW_XLT_CTX_BASE (b : Nat) : Fld := ⟨R.PW_XLT_CTX b, 43, 16⟩
/-- PW_XLT_CTX.DIRECT_EN, RW (R233). -/
abbrev PW_XLT_CTX_DIRECT_EN (b : Nat) : Fld := ⟨R.PW_XLT_CTX b, 1, 1⟩
/-- PW_XLT_CTX.EN, RW (R233). -/
abbrev PW_XLT_CTX_EN (b : Nat) : Fld := ⟨R.PW_XLT_CTX b, 0, 0⟩
/-- PW_INV.WORD, WO (R233). -/
abbrev PW_INV_WORD (b i : Nat) : Fld := ⟨R.PW_INV b i, 63, 0⟩
/-- PW_INV_ACK.TAG, RO (R233). -/
abbrev PW_INV_ACK_TAG (b : Nat) : Fld := ⟨R.PW_INV_ACK b, 63, 32⟩
/-- PW_INV_ACK.EPOCH, RO (R233). -/
abbrev PW_INV_ACK_EPOCH (b : Nat) : Fld := ⟨R.PW_INV_ACK b, 31, 0⟩
/-- PW_INV_STATUS.OVERFLOW, W1C (R233). -/
abbrev PW_INV_STATUS_OVERFLOW (b : Nat) : Fld := ⟨R.PW_INV_STATUS b, 31, 31⟩
/-- PW_INV_STATUS.ACK_STATUS, RO (R233). -/
abbrev PW_INV_STATUS_ACK_STATUS (b : Nat) : Fld := ⟨R.PW_INV_STATUS b, 23, 16⟩
/-- PW_INV_STATUS.PENDING, RO (R233). -/
abbrev PW_INV_STATUS_PENDING (b : Nat) : Fld := ⟨R.PW_INV_STATUS b, 4, 0⟩
/-- PW_GRAN_SEL.GRANULE, RW (R233). -/
abbrev PW_GRAN_SEL_GRANULE (b : Nat) : Fld := ⟨R.PW_GRAN_SEL b, 13, 0⟩
/-- PW_GRAN_VIEW.VALID, RO (R233). -/
abbrev PW_GRAN_VIEW_VALID (b : Nat) : Fld := ⟨R.PW_GRAN_VIEW b, 31, 31⟩
/-- PW_GRAN_VIEW.VIEW, RO (R233). -/
abbrev PW_GRAN_VIEW_VIEW (b : Nat) : Fld := ⟨R.PW_GRAN_VIEW b, 30, 28⟩
/-- PW_GRAN_VIEW.REGION, RO (R233). -/
abbrev PW_GRAN_VIEW_REGION (b : Nat) : Fld := ⟨R.PW_GRAN_VIEW b, 27, 24⟩
/-- PW_GRAN_COUNT.OWNED, RO (R233). -/
abbrev PW_GRAN_COUNT_OWNED (b : Nat) : Fld := ⟨R.PW_GRAN_COUNT b, 15, 0⟩

end F

/-- The GLB block's registers. -/
def regsGlb : List RegDesc := [
  ⟨"GLB_ID", 0x000, 32, 1, 0, (fun _ _ => .cold),
    [⟨"VENDOR", 31, 16, .ro, (fun _ _ => 0x5647), []⟩,
     ⟨"PART", 15, 0, .ro, (fun _ _ => 0x4B16), []⟩]⟩,
  ⟨"GLB_REV", 0x004, 32, 1, 0, (fun _ _ => .cold),
    [⟨"GRADE", 9, 8, .ro, (fun _ _ => 0), []⟩,
     ⟨"STEP", 7, 0, .ro, (fun _ _ => 0xB1), []⟩]⟩,
  ⟨"GLB_FEATURE", 0x008, 32, 1, 0, (fun _ _ => .cold),
    [⟨"PARTITIONS", 31, 24, .ro, (fun _ _ => 0x10), []⟩,
     ⟨"PORT_GROUPS", 23, 16, .ro, (fun _ _ => 0x06), []⟩,
     ⟨"CHANNELS", 15, 8, .ro, (fun _ _ => 0x18), []⟩,
     ⟨"TANSY", 3, 3, .ro, (fun _ _ => 1), []⟩,
     ⟨"RASTER", 2, 2, .ro, (fun _ _ => 1), []⟩,
     ⟨"PROOF", 1, 1, .ro, (fun _ _ => 1), []⟩,
     ⟨"PRESS", 0, 0, .ro, (fun _ _ => 1), []⟩]⟩,
  ⟨"GLB_UID", 0x010, 64, 1, 0, (fun _ _ => .cold),
    [⟨"UID", 63, 0, .ro, (fun _ _ => 0), []⟩]⟩,
  ⟨"GLB_STRAP", 0x020, 32, 1, 0, (fun _ _ => .cold),
    [⟨"TEST_MODE", 4, 4, .ro, (fun _ _ => 0), []⟩,
     ⟨"I3C_ADDR", 3, 2, .ro, (fun _ _ => 0), []⟩,
     ⟨"FAB_MODE", 1, 1, .ro, (fun _ _ => 0), []⟩,
     ⟨"BOOT_CS", 0, 0, .ro, (fun _ _ => 0), []⟩]⟩]

/-- The SMB block's registers. -/
def regsSmb : List RegDesc := [
  ⟨"SMB_CTRL", 0x000, 32, 1, 0, (fun _ _ => .warm),
    [⟨"ABORT", 1, 1, .wo, (fun _ _ => 0), []⟩,
     ⟨"GO", 0, 0, .wo, (fun _ _ => 0), []⟩]⟩,
  ⟨"SMB_STATUS", 0x004, 32, 1, 0, (fun _ _ => .warm),
    [⟨"BUSY", 31, 31, .ro, (fun _ _ => 0), []⟩,
     ⟨"RSP_READY", 30, 30, .w1c, (fun _ _ => 0), []⟩,
     ⟨"RSP_LEN", 12, 0, .ro, (fun _ _ => 0), []⟩]⟩,
  ⟨"SMB_REQ_LEN", 0x008, 32, 1, 0, (fun _ _ => .warm),
    [⟨"LEN", 12, 0, .rw, (fun _ _ => 0), [(1, 4096)]⟩]⟩,
  ⟨"SMB_STATE", 0x010, 32, 1, 0, (fun _ _ => .warm),
    [⟨"FLAGS", 31, 25, .ro, (fun _ _ => 0), []⟩,
     ⟨"MMIO_GRANTED", 24, 24, .ro, (fun _ _ => 0), []⟩,
     ⟨"BOARD_SKIP", 15, 0, .ro, (fun _ _ => 0), []⟩]⟩,
  ⟨"SMB_LIFECYCLE", 0x014, 32, 1, 0, (fun _ _ => .mrw),
    [⟨"LC", 31, 0, .ro, (fun _ _ => 0), []⟩]⟩,
  ⟨"SMB_TDI", 0x018, 32, 1, 0, (fun _ _ => .mrw),
    [⟨"TDI", 31, 0, .ro, (fun _ _ => 0), []⟩]⟩,
  ⟨"SMB_SUPERSEDED", 0x01C, 32, 1, 0, (fun _ _ => .warm),
    [⟨"COUNT", 31, 0, .ro, (fun _ _ => 0), []⟩]⟩,
  ⟨"SMB_SVN", 0x020, 32, 1, 0, (fun _ _ => .cold),
    [⟨"SVN_MIN", 15, 8, .ro, (fun _ _ => 0), []⟩,
     ⟨"SVN", 7, 0, .ro, (fun _ _ => 0), []⟩]⟩,
  ⟨"SMB_BUF", 0x1000, 32, 1024, 4, (fun _ _ => .warm),
    [⟨"DATA", 31, 0, .rw, (fun _ _ => 0), []⟩]⟩]

/-- The CKR block's registers. -/
def regsCkr : List RegDesc := [
  ⟨"CKR_SYN_CTL", 0x00, 32, 12, 0x20, (fun _ i => if i = 11 then .warm else .mrw),
    [⟨"EN", 31, 31, .rw, (fun _ _ => 0), []⟩,
     ⟨"ODIV", 23, 16, .rw, (fun _ i => synResetOdiv i), [(2, 255)]⟩,
     ⟨"NINT", 15, 8, .rw, (fun _ i => synResetNint i), [(40, 80)]⟩]⟩,
  ⟨"CKR_SYN_FRAC", 0x04, 32, 12, 0x20, (fun _ i => if i = 11 then .warm else .mrw),
    [⟨"NFRAC", 23, 0, .rw, (fun _ i => synResetNfrac i), []⟩]⟩,
  ⟨"CKR_SYN_LOCK", 0x08, 32, 12, 0x20, (fun _ i => if i = 11 then .warm else .mrw),
    [⟨"LOCK_N", 31, 16, .rw, (fun _ _ => 0x0100), [(16, 65535)]⟩,
     ⟨"LOCK_WIN", 7, 0, .rw, (fun _ _ => 0x0A), [(1, 255)]⟩]⟩,
  ⟨"CKR_SYN_GUARD", 0x0C, 32, 12, 0x20, (fun _ i => if i = 11 then .warm else .mrw),
    [⟨"GUARD_PPM", 15, 0, .rw, (fun _ _ => 1000), [(250, 2000)]⟩]⟩,
  ⟨"CKR_SYN_STATUS", 0x10, 32, 12, 0x20, (fun _ i => if i = 11 then .warm else .mrw),
    [⟨"STATE", 31, 29, .ro, (fun _ _ => 0), []⟩,
     ⟨"REF_LOST", 28, 28, .ro, (fun _ _ => 0), []⟩,
     ⟨"REFUSED", 27, 27, .w1c, (fun _ _ => 0), []⟩,
     ⟨"COAST_LIMIT", 26, 26, .ro, (fun _ _ => 0), []⟩,
     ⟨"NOMREF", 25, 25, .ro, (fun _ _ => 0), []⟩,
     ⟨"LOSS_COUNT", 23, 16, .ro, (fun _ _ => 0), []⟩,
     ⟨"DRIFT", 15, 0, .ro, (fun _ _ => 0), []⟩]⟩,
  ⟨"CKR_CLKOUT", 0x400, 32, 4, 0x10, (fun _ _ => .warm),
    [⟨"EN", 31, 31, .rw, (fun _ _ => 0), []⟩,
     ⟨"ERR", 30, 30, .ro, (fun _ _ => 0), []⟩,
     ⟨"FORMAT", 27, 26, .rw, (fun _ _ => 0), []⟩,
     ⟨"DRIVE", 25, 24, .rw, (fun _ _ => 1), []⟩,
     ⟨"SRC", 17, 16, .rw, (fun _ _ => 0), [(0, 2)]⟩,
     ⟨"DIV", 15, 0, .rw, (fun _ _ => 4), [(1, 65535)]⟩]⟩,
  ⟨"CKR_RST_CAUSE", 0x800, 32, 1, 0, (fun _ _ => .aon),
    [⟨"MRW_DEMOTED", 12, 12, .w1c, (fun _ _ => 0), []⟩,
     ⟨"THERMTRIP", 11, 11, .w1c, (fun _ _ => 0), []⟩,
     ⟨"XTAL_STOP", 10, 10, .w1c, (fun _ _ => 0), []⟩,
     ⟨"UV", 9, 6, .w1c, (fun _ _ => 0), []⟩,
     ⟨"WATCHDOG", 5, 5, .w1c, (fun _ _ => 0), []⟩,
     ⟨"MRW_REQ", 4, 4, .w1c, (fun _ _ => 0), []⟩,
     ⟨"WARM_REQ", 3, 3, .w1c, (fun _ _ => 0), []⟩,
     ⟨"MRW_PIN", 2, 2, .w1c, (fun _ _ => 0), []⟩,
     ⟨"WARM_PIN", 1, 1, .w1c, (fun _ _ => 0), []⟩,
     ⟨"POR", 0, 0, .w1c, (fun _ _ => 1), []⟩]⟩,
  ⟨"CKR_NODE_RST", 0x804, 32, 1, 0, (fun _ _ => .warm),
    [⟨"CODE", 15, 0, .wo, (fun _ _ => 0), []⟩]⟩,
  ⟨"CKR_ISL_RST", 0x808, 32, 1, 0, (fun _ _ => .warm),
    [⟨"ISL", 24, 0, .wo, (fun _ _ => 0), []⟩]⟩,
  ⟨"CKR_ISL_STATE", 0x80C, 32, 1, 0, (fun _ _ => .warm),
    [⟨"IN_RESET", 24, 0, .ro, (fun _ _ => 0x1FFFFFE), []⟩]⟩,
  ⟨"CKR_START_STAGE", 0x810, 32, 1, 0, (fun _ _ => .warm),
    [⟨"MEM_FAIL", 9, 9, .ro, (fun _ _ => 0), []⟩,
     ⟨"MEM_READY", 8, 8, .ro, (fun _ _ => 0), []⟩,
     ⟨"STAGE", 7, 0, .ro, (fun _ _ => 0), []⟩]⟩,
  ⟨"CKR_INCARNATION", 0x818, 32, 1, 0, (fun _ _ => .aon),
    [⟨"COUNT", 31, 0, .ro, (fun _ _ => 0), []⟩]⟩,
  ⟨"CKR_SYN_TRIP", 0x820, 32, 1, 0, (fun _ _ => .aon),
    [⟨"TRIP", 11, 0, .w1c, (fun _ _ => 0), []⟩]⟩,
  ⟨"CKR_ISL_CLK", 0x824, 32, 1, 0, (fun _ _ => .warm),
    [⟨"RUNNING", 24, 0, .ro, (fun _ _ => 1), []⟩]⟩]

/-- The PWR block's registers. -/
def regsPwr : List RegDesc := [
  ⟨"PWR_TEMP", 0x000, 32, 16, 4, (fun _ _ => .warm),
    [⟨"VALID", 31, 31, .ro, (fun _ _ => 0), []⟩,
     ⟨"TEMP", 11, 0, .ro, (fun _ _ => 0), []⟩]⟩,
  ⟨"PWR_THERM_CFG", 0x040, 32, 1, 0, (fun _ _ => .warm),
    [⟨"WARN_C", 31, 24, .rw, (fun _ _ => 95), [(0, 110)]⟩,
     ⟨"THROTTLE_C", 23, 16, .rw, (fun _ _ => 100), [(0, 110)]⟩,
     ⟨"DUTY", 3, 0, .rw, (fun _ _ => 8), [(1, 15)]⟩]⟩,
  ⟨"PWR_THERM_STATUS", 0x044, 32, 1, 0, (fun _ _ => .warm),
    [⟨"WARN", 31, 31, .ro, (fun _ _ => 0), []⟩,
     ⟨"THROTTLING", 30, 30, .ro, (fun _ _ => 0), []⟩,
     ⟨"PROCHOT_IN", 29, 29, .ro, (fun _ _ => 0), []⟩,
     ⟨"PEAK", 11, 0, .ro, (fun _ _ => 0), []⟩]⟩,
  ⟨"PWR_AVS_STATUS", 0x100, 32, 1, 0, (fun _ _ => .warm),
    [⟨"FAULT", 31, 31, .ro, (fun _ _ => 0), []⟩,
     ⟨"SM_OWNED", 30, 30, .ro, (fun _ _ => 0), []⟩,
     ⟨"VCORE_MV", 9, 0, .ro, (fun _ _ => 750), []⟩]⟩,
  ⟨"PWR_POWER", 0x104, 32, 1, 0, (fun _ _ => .warm),
    [⟨"CURRENT", 31, 16, .ro, (fun _ _ => 0), []⟩,
     ⟨"POWER", 15, 0, .ro, (fun _ _ => 0), []⟩]⟩]

/-- The EVT block's registers. -/
def regsEvt : List RegDesc := [
  ⟨"EVT_ROUTE", 0x000, 32, 256, 4, (fun _ _ => .warm),
    [⟨"EN", 31, 31, .rw, (fun _ _ => 0), []⟩,
     ⟨"ALERT", 30, 30, .rw, (fun _ _ => 0), []⟩,
     ⟨"FAB", 29, 29, .rw, (fun _ _ => 0), []⟩,
     ⟨"VECTOR", 5, 0, .rw, (fun _ _ => 0), []⟩]⟩,
  ⟨"EVT_Q_BASE", 0x800, 64, 1, 0, (fun _ _ => .warm),
    [⟨"ADDR", 63, 12, .rw, (fun _ _ => 0), []⟩]⟩,
  ⟨"EVT_Q_CFG", 0x808, 32, 1, 0, (fun _ _ => .warm),
    [⟨"EN", 31, 31, .rw, (fun _ _ => 0), []⟩,
     ⟨"LOG2SIZE", 4, 0, .rw, (fun _ _ => 6), [(6, 16)]⟩]⟩,
  ⟨"EVT_Q_TAIL", 0x80C, 32, 1, 0, (fun _ _ => .warm),
    [⟨"TAIL", 31, 0, .ro, (fun _ _ => 0), []⟩]⟩,
  ⟨"EVT_Q_HEAD", 0x810, 32, 1, 0, (fun _ _ => .warm),
    [⟨"HEAD", 31, 0, .rw, (fun _ _ => 0), []⟩]⟩,
  ⟨"EVT_Q_STATUS", 0x814, 32, 1, 0, (fun _ _ => .warm),
    [⟨"OVERFLOW", 31, 31, .w1c, (fun _ _ => 0), []⟩,
     ⟨"HEAD_ERR", 30, 30, .w1c, (fun _ _ => 0), []⟩,
     ⟨"Q_FAULT", 29, 29, .w1c, (fun _ _ => 0), []⟩,
     ⟨"DROPPED", 15, 0, .ro, (fun _ _ => 0), []⟩]⟩,
  ⟨"EVT_FAB_TGT", 0x840, 32, 1, 0, (fun _ _ => .warm),
    [⟨"LINKS", 5, 0, .rw, (fun _ _ => 0), []⟩]⟩,
  ⟨"EVT_FAB_DROP", 0x844, 32, 1, 0, (fun _ _ => .mrw),
    [⟨"COUNT", 31, 0, .ro, (fun _ _ => 0), []⟩]⟩,
  ⟨"EVT_OCCURRED", 0x900, 32, 8, 4, (fun _ _ => .warm),
    [⟨"BITS", 31, 0, .w1c, (fun _ _ => 0), []⟩]⟩]

/-- The MC block's registers. -/
def regsMc : List RegDesc := [
  ⟨"MC_STATUS", 0x000, 32, 1, 0, (fun _ _ => .mrw),
    [⟨"STATE", 31, 29, .ro, (fun _ _ => 0), []⟩,
     ⟨"RETRAINS", 7, 0, .ro, (fun _ _ => 0), []⟩]⟩,
  ⟨"MC_RETIRE", 0x008, 64, 1, 0, (fun _ _ => .cold),
    [⟨"ENTRIES", 63, 0, .ro, (fun _ _ => 0), []⟩]⟩,
  ⟨"MC_CMD", 0x010, 32, 1, 0, (fun _ _ => .warm),
    [⟨"KEY", 31, 16, .wo, (fun _ _ => 0), []⟩,
     ⟨"ENTRY", 10, 8, .wo, (fun _ _ => 0), []⟩,
     ⟨"DEV", 3, 0, .wo, (fun _ _ => 0), []⟩]⟩,
  ⟨"MC_CE", 0x018, 32, 1, 0, (fun _ _ => .mrw),
    [⟨"COUNT", 31, 0, .ro, (fun _ _ => 0), []⟩]⟩,
  ⟨"MC_ERR_LOG", 0x020, 64, 1, 0, (fun _ _ => .mrw),
    [⟨"VALID", 63, 63, .w1c, (fun _ _ => 0), []⟩,
     ⟨"OUTCOME", 62, 60, .ro, (fun _ _ => 0), []⟩,
     ⟨"NSYM", 59, 56, .ro, (fun _ _ => 0), []⟩,
     ⟨"SUB", 55, 55, .ro, (fun _ _ => 0), []⟩,
     ⟨"DEV", 54, 50, .ro, (fun _ _ => 0), []⟩,
     ⟨"SLOT", 49, 49, .ro, (fun _ _ => 0), []⟩,
     ⟨"CS", 48, 48, .ro, (fun _ _ => 0), []⟩,
     ⟨"CID", 47, 45, .ro, (fun _ _ => 0), []⟩,
     ⟨"BG", 44, 42, .ro, (fun _ _ => 0), []⟩,
     ⟨"BA", 41, 40, .ro, (fun _ _ => 0), []⟩,
     ⟨"ROW", 39, 22, .ro, (fun _ _ => 0), []⟩,
     ⟨"COL", 21, 11, .ro, (fun _ _ => 0), []⟩]⟩,
  ⟨"MC_DEV", 0x100, 32, 20, 4, (fun _ _ => .mrw),
    [⟨"BURSTS", 31, 16, .ro, (fun _ _ => 0), []⟩,
     ⟨"SYMBOLS", 15, 0, .ro, (fun _ _ => 0), []⟩]⟩]

/-- The MEMG block's registers. -/
def regsMemg : List RegDesc := [
  ⟨"MEMG_CFG", 0x000, 32, 1, 0, (fun _ _ => .mrw),
    [⟨"SPEED", 27, 24, .ro, (fun _ _ => 0), []⟩,
     ⟨"DPC", 23, 22, .ro, (fun _ _ => 0), []⟩,
     ⟨"STACK", 17, 16, .ro, (fun _ _ => 0), []⟩,
     ⟨"RANKS", 13, 12, .ro, (fun _ _ => 0), []⟩,
     ⟨"DIMM_GIB", 8, 0, .ro, (fun _ _ => 0), []⟩]⟩,
  ⟨"MEMG_GRANULES", 0x004, 32, 1, 0, (fun _ _ => .mrw),
    [⟨"USABLE", 31, 16, .ro, (fun _ _ => 0), []⟩,
     ⟨"INSTALLED", 15, 0, .ro, (fun _ _ => 0), []⟩]⟩,
  ⟨"MEMG_THR", 0x010, 32, 1, 0, (fun _ _ => .warm),
    [⟨"ROW_THR", 15, 8, .rw, (fun _ _ => 4), [(1, 255)]⟩,
     ⟨"RETIRE_THR", 7, 0, .rw, (fun _ _ => 8), [(1, 255)]⟩]⟩,
  ⟨"MEMG_SCRUB", 0x014, 32, 1, 0, (fun _ _ => .warm),
    [⟨"EN", 31, 31, .rw, (fun _ _ => 1), []⟩,
     ⟨"PERIOD", 7, 0, .rw, (fun _ _ => 24), [(1, 168)]⟩]⟩,
  ⟨"MEMG_SCRUB_STATUS", 0x018, 32, 1, 0, (fun _ _ => .mrw),
    [⟨"LATE", 31, 31, .ro, (fun _ _ => 0), []⟩,
     ⟨"CLEAN_PENDING", 30, 16, .ro, (fun _ _ => 0), []⟩,
     ⟨"PASSES", 15, 0, .ro, (fun _ _ => 0), []⟩]⟩,
  ⟨"MEMG_POISON", 0x01C, 32, 1, 0, (fun _ _ => .mrw),
    [⟨"META_UE", 31, 16, .ro, (fun _ _ => 0), []⟩,
     ⟨"DATA_UE", 15, 0, .ro, (fun _ _ => 0), []⟩]⟩,
  ⟨"MEMG_PPR_CMD", 0x030, 32, 1, 0, (fun _ _ => .warm),
    [⟨"KEY", 31, 16, .wo, (fun _ _ => 0), []⟩,
     ⟨"CHANNEL", 4, 0, .wo, (fun _ _ => 0), []⟩]⟩,
  ⟨"MEMG_PPR_STATUS", 0x034, 32, 1, 0, (fun _ _ => .mrw),
    [⟨"BUSY", 31, 31, .ro, (fun _ _ => 0), []⟩,
     ⟨"ABORTED", 30, 30, .w1c, (fun _ _ => 0), []⟩,
     ⟨"URGENT", 29, 29, .w1c, (fun _ _ => 0), []⟩,
     ⟨"SOFT", 23, 16, .ro, (fun _ _ => 0), []⟩,
     ⟨"HARD", 15, 8, .ro, (fun _ _ => 0), []⟩,
     ⟨"EXHAUSTED", 7, 0, .ro, (fun _ _ => 0), []⟩]⟩]

/-- The XLT block's registers. -/
def regsXlt : List RegDesc := [
  ⟨"XLT_GRAN_SEL", 0x000, 32, 1, 0, (fun _ _ => .warm),
    [⟨"GRANULE", 13, 0, .rw, (fun _ _ => 0), []⟩]⟩,
  ⟨"XLT_GRAN_VIEW", 0x004, 32, 1, 0, (fun _ _ => .warm),
    [⟨"VALID", 31, 31, .ro, (fun _ _ => 0), []⟩,
     ⟨"ENTRY", 15, 0, .ro, (fun _ _ => 0), []⟩]⟩,
  ⟨"XLT_SHR", 0x040, 32, 16, 4, (fun _ _ => .mrw),
    [⟨"READERS", 31, 16, .ro, (fun _ _ => 0), []⟩,
     ⟨"STATE", 15, 14, .ro, (fun _ _ => 0), []⟩,
     ⟨"GRANULES", 13, 0, .ro, (fun _ _ => 0), []⟩]⟩,
  ⟨"XLT_EPOCH_CUR", 0x100, 32, 16, 4, (fun _ _ => .mrw),
    [⟨"EPOCH", 31, 0, .ro, (fun _ _ => 0), []⟩]⟩,
  ⟨"XLT_EPOCH_ACK", 0x140, 32, 16, 4, (fun _ _ => .mrw),
    [⟨"EPOCH", 31, 0, .ro, (fun _ _ => 0), []⟩]⟩,
  ⟨"XLT_STATUS", 0x200, 32, 1, 0, (fun _ _ => .warm),
    [⟨"CACHE_ERR", 31, 16, .ro, (fun _ _ => 0), []⟩,
     ⟨"GT_UE", 15, 0, .ro, (fun _ _ => 0), []⟩]⟩]

/-- The FP block's registers. -/
def regsFp : List RegDesc := [
  ⟨"FP_CTL", 0x000, 32, 1, 0, (fun _ _ => .warm),
    [⟨"EN", 31, 31, .rw, (fun _ _ => 1), []⟩,
     ⟨"AUTO", 30, 30, .rw, (fun _ _ => 1), []⟩,
     ⟨"LRST", 29, 29, .wo, (fun _ _ => 0), []⟩,
     ⟨"LINK", 26, 24, .rw, (fun b _ => b), [(0, 5)]⟩,
     ⟨"RATE", 20, 20, .rw, (fun _ _ => 0), []⟩,
     ⟨"VCS", 19, 16, .rw, (fun _ _ => 8), [(2, 8)]⟩,
     ⟨"CHAN", 9, 8, .rw, (fun _ _ => 0), [(0, 1)]⟩,
     ⟨"HOLDOFF", 7, 0, .rw, (fun _ _ => 10), [(1, 255)]⟩]⟩,
  ⟨"FP_THR", 0x004, 32, 1, 0, (fun _ _ => .warm),
    [⟨"RETRAIN_MAX", 23, 20, .rw, (fun _ _ => 3), [(1, 15)]⟩,
     ⟨"REPLAY_THR", 19, 16, .rw, (fun _ _ => 8), [(2, 15)]⟩,
     ⟨"ERR_WIN", 12, 8, .rw, (fun _ _ => 24), [(16, 30)]⟩,
     ⟨"ERR_THR", 7, 0, .rw, (fun _ _ => 32), [(1, 255)]⟩]⟩,
  ⟨"FP_BUFW", 0x008, 32, 1, 0, (fun _ _ => .warm),
    [⟨"W", 31, 0, .rw, (fun _ _ => 0x22112233), []⟩]⟩,
  ⟨"FP_STATUS", 0x010, 32, 1, 0, (fun b _ => .link b),
    [⟨"STATE", 31, 28, .ro, (fun _ _ => 0), []⟩,
     ⟨"SECURE", 27, 27, .ro, (fun _ _ => 0), []⟩,
     ⟨"WIDTH", 25, 24, .ro, (fun _ _ => 0), []⟩,
     ⟨"GROUPS", 23, 21, .ro, (fun _ _ => 0), []⟩,
     ⟨"LABEL", 20, 18, .ro, (fun _ _ => 7), []⟩,
     ⟨"VCS_NEG", 17, 14, .ro, (fun _ _ => 0), []⟩,
     ⟨"LANES", 8, 0, .ro, (fun _ _ => 0), []⟩]⟩,
  ⟨"FP_DOWN_CAUSE", 0x014, 32, 1, 0, (fun _ _ => .mrw),
    [⟨"CAUSE", 8, 0, .w1c, (fun _ _ => 0), []⟩]⟩,
  ⟨"FP_LANEMAP", 0x018, 32, 1, 0, (fun b _ => .link b),
    [⟨"PHYS", 31, 0, .ro, (fun _ _ => 0x76543210), []⟩]⟩,
  ⟨"FP_FLITS_RX", 0x100, 64, 1, 0, (fun _ _ => .mrw),
    [⟨"COUNT", 63, 0, .ro, (fun _ _ => 0), []⟩]⟩,
  ⟨"FP_CRC_FAIL", 0x108, 64, 1, 0, (fun _ _ => .mrw),
    [⟨"COUNT", 63, 0, .ro, (fun _ _ => 0), []⟩]⟩,
  ⟨"FP_REPLAYS", 0x110, 64, 1, 0, (fun _ _ => .mrw),
    [⟨"COUNT", 63, 0, .ro, (fun _ _ => 0), []⟩]⟩,
  ⟨"FP_RETRAINS", 0x118, 32, 1, 0, (fun _ _ => .mrw),
    [⟨"COUNT", 31, 0, .ro, (fun _ _ => 0), []⟩]⟩,
  ⟨"FP_DOWNS", 0x11C, 32, 1, 0, (fun _ _ => .mrw),
    [⟨"COUNT", 31, 0, .ro, (fun _ _ => 0), []⟩]⟩,
  ⟨"FP_FEC_CORR", 0x120, 64, 1, 0, (fun _ _ => .mrw),
    [⟨"COUNT", 63, 0, .ro, (fun _ _ => 0), []⟩]⟩,
  ⟨"FP_FEC_UNCORR", 0x128, 64, 1, 0, (fun _ _ => .mrw),
    [⟨"COUNT", 63, 0, .ro, (fun _ _ => 0), []⟩]⟩,
  ⟨"FP_UNATT_DROP", 0x130, 32, 1, 0, (fun _ _ => .mrw),
    [⟨"COUNT", 31, 0, .ro, (fun _ _ => 0), []⟩]⟩,
  ⟨"FP_MALFORMED", 0x134, 32, 1, 0, (fun _ _ => .mrw),
    [⟨"COUNT", 31, 0, .ro, (fun _ _ => 0), []⟩]⟩,
  ⟨"FP_UNROUTABLE", 0x138, 32, 1, 0, (fun _ _ => .mrw),
    [⟨"COUNT", 31, 0, .ro, (fun _ _ => 0), []⟩]⟩,
  ⟨"FP_CREDIT_OVERRUN", 0x13C, 32, 1, 0, (fun _ _ => .mrw),
    [⟨"COUNT", 31, 0, .ro, (fun _ _ => 0), []⟩]⟩]

/-- The FPM block's registers. -/
def regsFpm : List RegDesc := [
  ⟨"FP_MEMO_CFG", 0x000, 32, 1, 0, (fun _ _ => .warm),
    [⟨"HOLD_US", 15, 0, .rw, (fun _ _ => 8000), [(1000, 65535)]⟩]⟩,
  ⟨"FP_MEMO_STAT", 0x008, 64, 1, 0, (fun _ _ => .mrw),
    [⟨"HITS", 63, 32, .ro, (fun _ _ => 0), []⟩,
     ⟨"FULL_DROP", 31, 0, .ro, (fun _ _ => 0), []⟩]⟩,
  ⟨"FP_MEMO_USED", 0x010, 32, 1, 0, (fun _ _ => .warm),
    [⟨"USED", 16, 0, .ro, (fun _ _ => 0), []⟩]⟩,
  ⟨"FP_APR_ROUTE", 0x100, 64, 16, 8, (fun _ _ => .warm),
    [⟨"EN", 63, 63, .rw, (fun _ _ => 0), []⟩,
     ⟨"LINK", 50, 48, .rw, (fun _ _ => 0), [(0, 5)]⟩,
     ⟨"MASK", 31, 16, .rw, (fun _ _ => 0), []⟩,
     ⟨"ADDR", 15, 0, .rw, (fun _ _ => 0), []⟩]⟩,
  ⟨"FP_APR_DEFAULT", 0x180, 32, 1, 0, (fun _ _ => .warm),
    [⟨"EN", 31, 31, .rw, (fun _ _ => 0), []⟩,
     ⟨"LINK", 2, 0, .rw, (fun _ _ => 0), [(0, 5)]⟩]⟩]

/-- The TOPO block's registers. -/
def regsTopo : List RegDesc := [
  ⟨"TOPO_CFG", 0x000, 32, 1, 0, (fun _ _ => .warm),
    [⟨"SECURE_ONLY", 31, 31, .rw, (fun _ _ => 0), []⟩,
     ⟨"SIZE_EN", 23, 23, .rw, (fun _ _ => 0), []⟩,
     ⟨"SX", 22, 18, .rw, (fun _ _ => 0), []⟩,
     ⟨"SY", 17, 13, .rw, (fun _ _ => 0), []⟩,
     ⟨"SZ", 12, 8, .rw, (fun _ _ => 0), []⟩,
     ⟨"PRIORITY", 7, 0, .rw, (fun _ _ => 0x80), []⟩]⟩,
  ⟨"TOPO_STATUS", 0x004, 32, 1, 0, (fun _ _ => .warm),
    [⟨"STATE", 31, 29, .ro, (fun _ _ => 0), []⟩,
     ⟨"COORD", 28, 28, .ro, (fun _ _ => 0), []⟩,
     ⟨"TORUS", 27, 27, .ro, (fun _ _ => 0), []⟩,
     ⟨"STRAY", 26, 16, .ro, (fun _ _ => 0), []⟩,
     ⟨"ADDR", 15, 0, .ro, (fun _ _ => 0xFFFF), []⟩]⟩,
  ⟨"TOPO_SIZES", 0x008, 32, 1, 0, (fun _ _ => .warm),
    [⟨"SX", 14, 10, .ro, (fun _ _ => 0), []⟩,
     ⟨"SY", 9, 5, .ro, (fun _ _ => 0), []⟩,
     ⟨"SZ", 4, 0, .ro, (fun _ _ => 0), []⟩]⟩,
  ⟨"TOPO_GEN", 0x00C, 32, 1, 0, (fun _ _ => .warm),
    [⟨"GEN", 31, 0, .ro, (fun _ _ => 0), []⟩]⟩,
  ⟨"TOPO_COORD", 0x010, 64, 1, 0, (fun _ _ => .warm),
    [⟨"UID", 63, 0, .ro, (fun _ _ => 0), []⟩]⟩,
  ⟨"TOPO_PARENT", 0x018, 32, 1, 0, (fun _ _ => .warm),
    [⟨"V", 31, 31, .ro, (fun _ _ => 0), []⟩,
     ⟨"HOPS", 23, 16, .ro, (fun _ _ => 0), []⟩,
     ⟨"LINK", 2, 0, .ro, (fun _ _ => 0), []⟩]⟩,
  ⟨"TOPO_NODES", 0x01C, 32, 1, 0, (fun _ _ => .warm),
    [⟨"COUNT", 16, 0, .ro, (fun _ _ => 0), []⟩]⟩,
  ⟨"TOPO_NBR_UID", 0x040, 64, 6, 16, (fun _ i => .link i),
    [⟨"UID", 63, 0, .ro, (fun _ _ => 0), []⟩]⟩,
  ⟨"TOPO_NBR_INFO", 0x048, 32, 6, 16, (fun _ i => .link i),
    [⟨"V", 31, 31, .ro, (fun _ _ => 0), []⟩,
     ⟨"EXCLUDED", 30, 30, .ro, (fun _ _ => 0), []⟩,
     ⟨"CHILD", 29, 29, .ro, (fun _ _ => 0), []⟩,
     ⟨"LABEL", 26, 24, .ro, (fun _ _ => 0), []⟩,
     ⟨"ROLE", 23, 16, .ro, (fun _ _ => 0), []⟩,
     ⟨"PRIORITY", 7, 0, .ro, (fun _ _ => 0), []⟩]⟩,
  ⟨"TOPO_NBR_INC", 0x04C, 32, 6, 16, (fun _ i => .link i),
    [⟨"INC", 31, 0, .ro, (fun _ _ => 0), []⟩]⟩,
  ⟨"TOPO_SRL_TIME", 0x100, 64, 1, 0, (fun _ _ => .mrw),
    [⟨"TIME_NS", 63, 0, .ro, (fun _ _ => 0), []⟩]⟩,
  ⟨"TOPO_SRL_FRAC", 0x108, 32, 1, 0, (fun _ _ => .mrw),
    [⟨"FRAC", 23, 0, .ro, (fun _ _ => 0), []⟩]⟩,
  ⟨"TOPO_SRL_SET", 0x110, 64, 1, 0, (fun _ _ => .warm),
    [⟨"TIME_NS", 63, 0, .wo, (fun _ _ => 0), []⟩]⟩,
  ⟨"TOPO_SRL_CFG", 0x118, 32, 1, 0, (fun _ _ => .warm),
    [⟨"STEP_THR", 31, 16, .rw, (fun _ _ => 1000), [(100, 65535)]⟩,
     ⟨"LOCK_THR", 15, 8, .rw, (fun _ _ => 20), [(1, 255)]⟩]⟩,
  ⟨"TOPO_SRL_STATUS", 0x11C, 32, 1, 0, (fun _ _ => .mrw),
    [⟨"STATE", 31, 29, .ro, (fun _ _ => 0), []⟩,
     ⟨"SET_REFUSED", 28, 28, .w1c, (fun _ _ => 0), []⟩,
     ⟨"STEPS", 15, 0, .ro, (fun _ _ => 0), []⟩]⟩,
  ⟨"TOPO_SRL_OFFSET", 0x120, 32, 1, 0, (fun _ _ => .mrw),
    [⟨"THETA", 31, 0, .ro, (fun _ _ => 0), []⟩]⟩,
  ⟨"TOPO_SRL_RATE", 0x124, 32, 1, 0, (fun _ _ => .mrw),
    [⟨"RATE", 31, 0, .ro, (fun _ _ => 0), []⟩]⟩,
  ⟨"TOPO_SRL_DELAY", 0x140, 32, 6, 4, (fun _ i => .link i),
    [⟨"DELAY", 31, 0, .ro, (fun _ _ => 0), []⟩]⟩]

/-- The RING block's registers. -/
def regsRing : List RegDesc := [
  ⟨"RING_BIND", 0x00, 32, 1, 0, (fun _ _ => .warm),
    [⟨"CLUSTER", 5, 4, .rw, (fun b _ => b % 4), []⟩,
     ⟨"CORE", 3, 0, .rw, (fun b _ => b / 4 % 16), []⟩]⟩,
  ⟨"RING_STATE", 0x04, 32, 1, 0, (fun _ _ => .warm),
    [⟨"STATE", 31, 29, .ro, (fun _ _ => 0), []⟩,
     ⟨"CAUSE", 28, 24, .ro, (fun _ _ => 0), []⟩,
     ⟨"OWNER", 19, 16, .ro, (fun b _ => b / 8), []⟩]⟩,
  ⟨"RING_CTL", 0x08, 32, 1, 0, (fun _ _ => .none),
    [⟨"RELEASE", 1, 1, .wo, (fun _ _ => 0), []⟩,
     ⟨"HOLD", 0, 0, .wo, (fun _ _ => 0), []⟩]⟩]

/-- The CC block's registers. -/
def regsCc : List RegDesc := [
  ⟨"CC_HATCH", 0x000, 32, 1, 0, (fun _ _ => .warm),
    [⟨"RETIRED", 28, 16, .ro, (fun _ _ => 0), []⟩,
     ⟨"IN_SERVICE", 12, 0, .ro, (fun _ _ => 0), []⟩]⟩,
  ⟨"CC_STIPPLE_SVC", 0x004, 32, 1, 0, (fun _ _ => .warm),
    [⟨"IN_SERVICE", 17, 0, .ro, (fun _ _ => 0), []⟩]⟩,
  ⟨"CC_STIPPLE_RET", 0x008, 32, 1, 0, (fun _ _ => .warm),
    [⟨"RETIRED", 17, 0, .ro, (fun _ _ => 0), []⟩]⟩,
  ⟨"CC_CFG", 0x010, 32, 1, 0, (fun _ _ => .warm),
    [⟨"RERUN_MAX", 3, 0, .rw, (fun _ _ => 4), [(1, 15)]⟩]⟩,
  ⟨"CC_TASKS", 0x040, 64, 1, 0, (fun _ _ => .mrw),
    [⟨"COUNT", 63, 0, .ro, (fun _ _ => 0), []⟩]⟩,
  ⟨"CC_RERUNS", 0x048, 32, 1, 0, (fun _ _ => .mrw),
    [⟨"COUNT", 31, 0, .ro, (fun _ _ => 0), []⟩]⟩,
  ⟨"CC_HCHK", 0x100, 32, 13, 4, (fun _ _ => .mrw),
    [⟨"FAILS", 31, 0, .ro, (fun _ _ => 0), []⟩]⟩,
  ⟨"CC_SMIS", 0x140, 32, 18, 4, (fun _ _ => .mrw),
    [⟨"MISMATCHES", 31, 0, .ro, (fun _ _ => 0), []⟩]⟩,
  ⟨"CC_STAGE_ECC", 0x200, 32, 1, 0, (fun _ _ => .mrw),
    [⟨"UE", 31, 16, .ro, (fun _ _ => 0), []⟩,
     ⟨"CE", 15, 0, .ro, (fun _ _ => 0), []⟩]⟩]

/-- The ATT block's registers. -/
def regsAtt : List RegDesc := [
  ⟨"ATT_CFG", 0x000, 32, 1, 0, (fun _ _ => .warm),
    [⟨"CLUSTERS", 3, 0, .rw, (fun _ _ => 0xF), [(1, 15)]⟩]⟩,
  ⟨"ATT_JOBS", 0x010, 64, 1, 0, (fun _ _ => .mrw),
    [⟨"COUNT", 63, 0, .ro, (fun _ _ => 0), []⟩]⟩,
  ⟨"ATT_PAGES", 0x018, 64, 1, 0, (fun _ _ => .mrw),
    [⟨"COUNT", 63, 0, .ro, (fun _ _ => 0), []⟩]⟩,
  ⟨"ATT_CHUNKS", 0x020, 64, 1, 0, (fun _ _ => .mrw),
    [⟨"COUNT", 63, 0, .ro, (fun _ _ => 0), []⟩]⟩,
  ⟨"ATT_ROWS", 0x028, 64, 1, 0, (fun _ _ => .mrw),
    [⟨"COUNT", 63, 0, .ro, (fun _ _ => 0), []⟩]⟩,
  ⟨"ATT_INVOKES", 0x030, 32, 1, 0, (fun _ _ => .mrw),
    [⟨"COUNT", 31, 0, .ro, (fun _ _ => 0), []⟩]⟩,
  ⟨"ATT_INV_MALF", 0x034, 32, 1, 0, (fun _ _ => .mrw),
    [⟨"COUNT", 31, 0, .ro, (fun _ _ => 0), []⟩]⟩,
  ⟨"ATT_POISONED", 0x038, 32, 1, 0, (fun _ _ => .mrw),
    [⟨"COUNT", 31, 0, .ro, (fun _ _ => 0), []⟩]⟩]

/-- The RAS block's registers. -/
def regsRas : List RegDesc := [
  ⟨"RAS_CTX_OWNER", 0x000, 32, 8, 4, (fun _ _ => .warm),
    [⟨"OWNER", 7, 0, .rw, (fun _ _ => 0xFF), [(0, 15), (255, 255)]⟩]⟩,
  ⟨"RAS_CTX_STATE", 0x020, 32, 8, 4, (fun _ _ => .isl 20),
    [⟨"STATE", 31, 30, .ro, (fun _ _ => 0), []⟩,
     ⟨"CLASS", 29, 28, .ro, (fun _ i => rasResetClass i), []⟩,
     ⟨"QUEUED", 4, 0, .ro, (fun _ _ => 0), []⟩]⟩,
  ⟨"RAS_THR_SEL", 0x040, 32, 1, 0, (fun _ _ => .isl 20),
    [⟨"ARRAY", 17, 14, .rw, (fun _ _ => 0), []⟩,
     ⟨"CELL", 13, 0, .rw, (fun _ _ => 0), []⟩]⟩,
  ⟨"RAS_THR_DATA", 0x044, 32, 1, 0, (fun _ _ => .none),
    [⟨"T", 23, 0, .wo, (fun _ _ => 0), []⟩]⟩,
  ⟨"RAS_THR_STATUS", 0x048, 32, 1, 0, (fun _ _ => .isl 20),
    [⟨"BUSY_ERR", 31, 31, .w1c, (fun _ _ => 0), []⟩,
     ⟨"IN_USE", 15, 0, .ro, (fun _ _ => 0), []⟩]⟩,
  ⟨"RAS_SEAL_PAGES", 0x050, 32, 1, 0, (fun _ _ => .warm),
    [⟨"PAGES", 16, 0, .ro, (fun _ _ => 0), []⟩]⟩,
  ⟨"RAS_JOBS", 0x080, 64, 1, 0, (fun _ _ => .mrw),
    [⟨"COUNT", 63, 0, .ro, (fun _ _ => 0), []⟩]⟩,
  ⟨"RAS_TILES", 0x088, 64, 1, 0, (fun _ _ => .mrw),
    [⟨"COUNT", 63, 0, .ro, (fun _ _ => 0), []⟩]⟩,
  ⟨"RAS_RETILES", 0x090, 32, 1, 0, (fun _ _ => .mrw),
    [⟨"COUNT", 31, 0, .ro, (fun _ _ => 0), []⟩]⟩]

/-- The DSP block's registers. -/
def regsDsp : List RegDesc := [
  ⟨"DSP_CTL", 0x000, 32, 1, 0, (fun _ _ => .warm),
    [⟨"EN", 31, 31, .rw, (fun _ _ => 0), []⟩,
     ⟨"LANES", 5, 4, .rw, (fun _ _ => 2), [(0, 2)]⟩,
     ⟨"RATE", 1, 0, .rw, (fun _ _ => 3), []⟩]⟩,
  ⟨"DSP_H", 0x008, 64, 1, 0, (fun _ _ => .warm),
    [⟨"ACTIVE", 15, 0, .rw, (fun _ _ => 3840), []⟩,
     ⟨"FP", 31, 16, .rw, (fun _ _ => 48), []⟩,
     ⟨"SYNC", 47, 32, .rw, (fun _ _ => 32), []⟩,
     ⟨"BP", 63, 48, .rw, (fun _ _ => 80), []⟩]⟩,
  ⟨"DSP_V", 0x010, 64, 1, 0, (fun _ _ => .warm),
    [⟨"ACTIVE", 15, 0, .rw, (fun _ _ => 2160), []⟩,
     ⟨"FP", 31, 16, .rw, (fun _ _ => 3), []⟩,
     ⟨"SYNC", 47, 32, .rw, (fun _ _ => 5), []⟩,
     ⟨"BP", 63, 48, .rw, (fun _ _ => 54), []⟩]⟩,
  ⟨"DSP_POL", 0x018, 32, 1, 0, (fun _ _ => .warm),
    [⟨"VSYNC_POS", 1, 1, .rw, (fun _ _ => 0), []⟩,
     ⟨"HSYNC_POS", 0, 0, .rw, (fun _ _ => 1), []⟩]⟩,
  ⟨"DSP_PIXCLK", 0x01C, 32, 1, 0, (fun _ _ => .warm),
    [⟨"ODIV", 23, 16, .rw, (fun _ _ => 10), [(2, 255)]⟩,
     ⟨"NINT", 15, 8, .rw, (fun _ _ => 53), [(40, 80)]⟩]⟩,
  ⟨"DSP_PIXFRAC", 0x020, 32, 1, 0, (fun _ _ => .warm),
    [⟨"NFRAC", 23, 0, .rw, (fun _ _ => 0x533333), []⟩]⟩,
  ⟨"DSP_STATUS", 0x024, 32, 1, 0, (fun _ _ => .warm),
    [⟨"STATE", 31, 30, .ro, (fun _ _ => 0), []⟩,
     ⟨"MODE_ERR", 29, 29, .w1c, (fun _ _ => 0), []⟩,
     ⟨"HPD", 28, 28, .ro, (fun _ _ => 0), []⟩,
     ⟨"TRAINED", 27, 27, .ro, (fun _ _ => 0), []⟩,
     ⟨"ADMITTED", 26, 26, .ro, (fun _ _ => 0), []⟩]⟩,
  ⟨"DSP_FRAME_SEQ", 0x028, 32, 1, 0, (fun _ _ => .warm),
    [⟨"SEQ", 31, 0, .ro, (fun _ _ => 0), []⟩]⟩,
  ⟨"DSP_REPROJ", 0x030, 32, 1, 0, (fun _ _ => .mrw),
    [⟨"COUNT", 31, 0, .ro, (fun _ _ => 0), []⟩]⟩,
  ⟨"DSP_DISPLACED", 0x034, 32, 1, 0, (fun _ _ => .mrw),
    [⟨"COUNT", 31, 0, .ro, (fun _ _ => 0), []⟩]⟩,
  ⟨"DSP_POISONED", 0x038, 32, 1, 0, (fun _ _ => .mrw),
    [⟨"COUNT", 31, 0, .ro, (fun _ _ => 0), []⟩]⟩,
  ⟨"DSP_HDCP_ALLOW", 0x040, 64, 4, 8, (fun _ _ => .warm),
    [⟨"EN", 63, 63, .rw, (fun _ _ => 0), []⟩,
     ⟨"RXID", 39, 0, .rw, (fun _ _ => 0), []⟩]⟩,
  ⟨"DSP_HDCP_RXID", 0x060, 64, 1, 0, (fun _ _ => .warm),
    [⟨"RXID", 39, 0, .ro, (fun _ _ => 0), []⟩]⟩,
  ⟨"DSP_AUX_CMD", 0x080, 32, 1, 0, (fun _ _ => .warm),
    [⟨"GO", 31, 31, .wo, (fun _ _ => 0), []⟩,
     ⟨"BUSY", 30, 30, .ro, (fun _ _ => 0), []⟩,
     ⟨"AUX_ERR", 29, 29, .w1c, (fun _ _ => 0), []⟩,
     ⟨"I2C", 28, 28, .rw, (fun _ _ => 0), []⟩,
     ⟨"WRITE", 27, 27, .rw, (fun _ _ => 0), []⟩,
     ⟨"LENM1", 23, 20, .rw, (fun _ _ => 0), []⟩,
     ⟨"ADDRESS", 19, 0, .rw, (fun _ _ => 0), []⟩]⟩,
  ⟨"DSP_AUX_DATA", 0x090, 32, 4, 4, (fun _ _ => .warm),
    [⟨"DATA", 31, 0, .rw, (fun _ _ => 0), []⟩]⟩]

/-- The PRS block's registers. -/
def regsPrs : List RegDesc := [
  ⟨"PRS_CFG", 0x000, 32, 1, 0, (fun _ _ => .warm),
    [⟨"MAX_WIDTH", 31, 16, .rw, (fun _ _ => 0), []⟩,
     ⟨"DPI", 0, 0, .rw, (fun _ _ => 0), []⟩]⟩,
  ⟨"PRS_STATUS", 0x004, 32, 1, 0, (fun _ _ => .warm),
    [⟨"STATE", 31, 29, .ro, (fun _ _ => 0), []⟩,
     ⟨"HALT_CAUSE", 28, 25, .ro, (fun _ _ => 0), []⟩,
     ⟨"CFG_ERR", 24, 24, .w1c, (fun _ _ => 0), []⟩,
     ⟨"OT_TRIP", 23, 20, .w1c, (fun _ _ => 0), []⟩,
     ⟨"ILK", 19, 19, .ro, (fun _ _ => 0), []⟩,
     ⟨"ERDY", 18, 18, .ro, (fun _ _ => 0), []⟩,
     ⟨"HBEAT", 17, 17, .ro, (fun _ _ => 0), []⟩,
     ⟨"IN_PATH", 16, 12, .ro, (fun _ _ => 0), []⟩,
     ⟨"QUEUED", 6, 0, .ro, (fun _ _ => 0), []⟩]⟩,
  ⟨"PRS_PITCH", 0x008, 32, 1, 0, (fun _ _ => .warm),
    [⟨"PITCH", 15, 0, .rw, (fun _ _ => 4000), [(4000, 65535)]⟩]⟩,
  ⟨"PRS_READY_MASK", 0x00C, 32, 1, 0, (fun _ _ => .warm),
    [⟨"SLOTS", 15, 0, .rw, (fun _ _ => 0), []⟩]⟩,
  ⟨"PRS_IMG", 0x010, 64, 1, 0, (fun _ _ => .warm),
    [⟨"FRONT_STN", 3, 0, .rw, (fun _ _ => 0), []⟩,
     ⟨"FRONT_DELAY", 19, 4, .rw, (fun _ _ => 0), []⟩,
     ⟨"BACK_STN", 35, 32, .rw, (fun _ _ => 0), []⟩,
     ⟨"BACK_DELAY", 51, 36, .rw, (fun _ _ => 0), []⟩]⟩,
  ⟨"PRS_PURGE", 0x018, 32, 1, 0, (fun _ _ => .warm),
    [⟨"LATEST_S", 15, 0, .rw, (fun _ _ => 0), []⟩,
     ⟨"LATEST_D", 31, 16, .rw, (fun _ _ => 0), []⟩]⟩,
  ⟨"PRS_SNS_POL", 0x020, 32, 1, 0, (fun _ _ => .warm),
    [⟨"POL", 23, 0, .rw, (fun _ _ => 0), []⟩]⟩,
  ⟨"PRS_SNS_FILT", 0x024, 32, 1, 0, (fun _ _ => .warm),
    [⟨"FILT", 7, 0, .rw, (fun _ _ => 10), []⟩]⟩,
  ⟨"PRS_SNS_STATE", 0x028, 32, 1, 0, (fun _ _ => .warm),
    [⟨"COVERED", 23, 0, .ro, (fun _ _ => 0), []⟩]⟩,
  ⟨"PRS_SHEET", 0x030, 32, 1, 0, (fun _ _ => .warm),
    [⟨"NEXT", 31, 0, .ro, (fun _ _ => 1), []⟩]⟩,
  ⟨"PRS_STN", 0x100, 64, 16, 8, (fun _ _ => .warm),
    [⟨"EN", 63, 63, .rw, (fun _ _ => 0), []⟩,
     ⟨"SENSOR", 52, 48, .rw, (fun _ _ => 0), [(0, 23)]⟩,
     ⟨"ROUTES", 47, 44, .rw, (fun _ _ => 0), []⟩,
     ⟨"COVER_MAX", 43, 32, .rw, (fun _ _ => 0), []⟩,
     ⟨"ARR_MAX", 31, 16, .rw, (fun _ _ => 0), []⟩,
     ⟨"ARR_MIN", 15, 0, .rw, (fun _ _ => 0), []⟩]⟩,
  ⟨"PRS_ACT", 0x200, 64, 32, 8, (fun _ _ => .warm),
    [⟨"EN", 63, 63, .rw, (fun _ _ => 0), []⟩,
     ⟨"CLU", 51, 48, .rw, (fun _ _ => 0), []⟩,
     ⟨"ROUTES", 47, 44, .rw, (fun _ _ => 0), []⟩,
     ⟨"REF", 36, 32, .rw, (fun _ _ => 0), [(0, 15), (31, 31)]⟩,
     ⟨"OFF", 31, 16, .rw, (fun _ _ => 0), []⟩,
     ⟨"ON", 15, 0, .rw, (fun _ _ => 0), []⟩]⟩,
  ⟨"PRS_FUS", 0x300, 32, 1, 0, (fun _ _ => .warm),
    [⟨"GATE_US", 31, 24, .rw, (fun _ _ => 100), []⟩,
     ⟨"ZC_DELAY", 23, 8, .rw, (fun _ _ => 500), []⟩,
     ⟨"SLOT_1", 7, 4, .rw, (fun _ _ => 0), []⟩,
     ⟨"SLOT_0", 3, 0, .rw, (fun _ _ => 0), []⟩]⟩,
  ⟨"PRS_OT", 0x310, 32, 4, 4, (fun _ _ => .warm),
    [⟨"EN", 31, 31, .rw, (fun _ _ => 0), []⟩,
     ⟨"THR", 9, 0, .rw, (fun _ _ => 0), []⟩]⟩,
  ⟨"PRS_HV", 0x320, 32, 4, 4, (fun _ _ => .warm),
    [⟨"SLOT", 31, 28, .rw, (fun _ _ => 0), []⟩,
     ⟨"LIMIT", 27, 16, .rw, (fun _ _ => 0), []⟩,
     ⟨"MAX", 11, 0, .rw, (fun _ _ => 0), []⟩]⟩,
  ⟨"PRS_PAGES_OK", 0x380, 64, 1, 0, (fun _ _ => .mrw),
    [⟨"COUNT", 63, 0, .ro, (fun _ _ => 0), []⟩]⟩,
  ⟨"PRS_SPOILED", 0x388, 32, 1, 0, (fun _ _ => .mrw),
    [⟨"COUNT", 31, 0, .ro, (fun _ _ => 0), []⟩]⟩,
  ⟨"PRS_INTERRUPTED", 0x38C, 32, 1, 0, (fun _ _ => .mrw),
    [⟨"COUNT", 31, 0, .ro, (fun _ _ => 0), []⟩]⟩,
  ⟨"PRS_HALTS", 0x390, 32, 1, 0, (fun _ _ => .mrw),
    [⟨"COUNT", 31, 0, .ro, (fun _ _ => 0), []⟩]⟩,
  ⟨"PRS_HASH_MISMATCH", 0x394, 32, 1, 0, (fun _ _ => .mrw),
    [⟨"COUNT", 31, 0, .ro, (fun _ _ => 0), []⟩]⟩]

/-- The DRY block's registers. -/
def regsDry : List RegDesc := [
  ⟨"DRY_CFG", 0x000, 32, 1, 0, (fun _ _ => .warm),
    [⟨"BD_POL", 7, 7, .rw, (fun _ _ => 0), []⟩,
     ⟨"REVERSE", 6, 6, .rw, (fun _ _ => 0), []⟩,
     ⟨"EOS_EN", 5, 5, .rw, (fun _ _ => 0), []⟩,
     ⟨"BD_SEL", 4, 4, .rw, (fun _ _ => 0), []⟩,
     ⟨"BEAMS", 2, 0, .rw, (fun _ _ => 0), []⟩]⟩,
  ⟨"DRY_PIXCLK", 0x004, 32, 1, 0, (fun _ _ => .warm),
    [⟨"ODIV", 23, 16, .rw, (fun _ _ => 16), [(2, 255)]⟩,
     ⟨"NINT", 15, 8, .rw, (fun _ _ => 64), [(40, 80)]⟩]⟩,
  ⟨"DRY_PIXFRAC", 0x008, 32, 1, 0, (fun _ _ => .warm),
    [⟨"NFRAC", 23, 0, .rw, (fun _ _ => 0), []⟩]⟩,
  ⟨"DRY_SCAN", 0x010, 32, 1, 0, (fun _ _ => .warm),
    [⟨"TOL", 31, 20, .rw, (fun _ _ => 64), []⟩,
     ⟨"PERIOD", 19, 0, .rw, (fun _ _ => 0), []⟩]⟩,
  ⟨"DRY_BDWIN", 0x014, 32, 1, 0, (fun _ _ => .warm),
    [⟨"REF", 18, 16, .rw, (fun _ _ => 0), []⟩,
     ⟨"OPEN", 15, 0, .rw, (fun _ _ => 400), []⟩]⟩,
  ⟨"DRY_STATUS", 0x018, 32, 1, 0, (fun _ _ => .warm),
    [⟨"LOCK", 31, 31, .ro, (fun _ _ => 0), []⟩,
     ⟨"HUNTING", 30, 30, .ro, (fun _ _ => 0), []⟩,
     ⟨"CFG_ERR", 29, 29, .w1c, (fun _ _ => 0), []⟩,
     ⟨"LAST_PERIOD", 19, 0, .ro, (fun _ _ => 0), []⟩]⟩,
  ⟨"DRY_EOS", 0x01C, 32, 1, 0, (fun _ _ => .warm),
    [⟨"EOS", 19, 0, .ro, (fun _ _ => 0), []⟩]⟩,
  ⟨"DRY_PWM", 0x020, 32, 1, 0, (fun _ _ => .warm),
    [⟨"ALIGN_3", 21, 20, .rw, (fun _ _ => 0), []⟩,
     ⟨"ALIGN_2", 19, 18, .rw, (fun _ _ => 0), []⟩,
     ⟨"ALIGN_1", 17, 16, .rw, (fun _ _ => 0), []⟩,
     ⟨"W_3", 11, 8, .rw, (fun _ _ => 8), [(0, 8)]⟩,
     ⟨"W_2", 7, 4, .rw, (fun _ _ => 5), [(0, 8)]⟩,
     ⟨"W_1", 3, 0, .rw, (fun _ _ => 3), [(0, 8)]⟩]⟩,
  ⟨"DRY_BEAM", 0x100, 64, 8, 8, (fun _ _ => .warm),
    [⟨"APC_LEN", 63, 48, .rw, (fun _ _ => 0), []⟩,
     ⟨"APC_START", 47, 32, .rw, (fun _ _ => 0), []⟩,
     ⟨"ROW_OFS", 27, 24, .rw, (fun _ _ => 0), []⟩,
     ⟨"START", 19, 0, .rw, (fun _ _ => 0), []⟩]⟩,
  ⟨"DRY_APC", 0x180, 64, 8, 8, (fun _ _ => .warm),
    [⟨"EN", 63, 63, .rw, (fun _ _ => 0), []⟩,
     ⟨"TSLOT", 59, 56, .rw, (fun _ _ => 0), []⟩,
     ⟨"TSLOT_EN", 55, 55, .rw, (fun _ _ => 0), []⟩,
     ⟨"DAC", 43, 32, .ro, (fun _ _ => 0), []⟩,
     ⟨"TOL", 31, 24, .rw, (fun _ _ => 16), []⟩,
     ⟨"GAIN", 23, 16, .rw, (fun _ _ => 32), []⟩,
     ⟨"TARGET", 11, 0, .rw, (fun _ _ => 2048), []⟩]⟩,
  ⟨"DRY_BOW", 0x200, 32, 16, 4, (fun _ _ => .warm),
    [⟨"EN", 31, 31, .rw, (fun _ _ => 0), []⟩,
     ⟨"DIR", 30, 30, .rw, (fun _ _ => 0), []⟩,
     ⟨"X", 15, 0, .rw, (fun _ _ => 0), []⟩]⟩,
  ⟨"DRY_SCANS", 0x300, 64, 1, 0, (fun _ _ => .mrw),
    [⟨"COUNT", 63, 0, .ro, (fun _ _ => 0), []⟩]⟩,
  ⟨"DRY_MISSED", 0x308, 32, 1, 0, (fun _ _ => .mrw),
    [⟨"COUNT", 31, 0, .ro, (fun _ _ => 0), []⟩]⟩,
  ⟨"DRY_STRAY_BD", 0x30C, 32, 1, 0, (fun _ _ => .mrw),
    [⟨"COUNT", 31, 0, .ro, (fun _ _ => 0), []⟩]⟩,
  ⟨"DRY_LATE_LINES", 0x310, 32, 1, 0, (fun _ _ => .mrw),
    [⟨"COUNT", 31, 0, .ro, (fun _ _ => 0), []⟩]⟩]

/-- The TNS block's registers. -/
def regsTns : List RegDesc := [
  ⟨"TNS_SLOT_STATUS", 0x000, 32, 16, 0x20, (fun _ _ => .isl 23),
    [⟨"STATE", 31, 30, .ro, (fun _ _ => 0), []⟩,
     ⟨"IN_BAND", 29, 29, .ro, (fun _ _ => 0), []⟩,
     ⟨"SAT", 28, 28, .ro, (fun _ _ => 0), []⟩,
     ⟨"FROZEN", 27, 27, .ro, (fun _ _ => 0), []⟩,
     ⟨"PROMPT", 26, 26, .ro, (fun _ _ => 0), []⟩,
     ⟨"LOADED", 25, 25, .ro, (fun _ _ => 0), []⟩,
     ⟨"SCODE", 12, 0, .ro, (fun _ _ => 0), []⟩]⟩,
  ⟨"TNS_SLOT_X", 0x004, 32, 16, 0x20, (fun _ _ => .isl 23),
    [⟨"VALUE", 31, 0, .ro, (fun _ _ => 0), []⟩]⟩,
  ⟨"TNS_SLOT_E", 0x008, 32, 16, 0x20, (fun _ _ => .isl 23),
    [⟨"VALUE", 31, 0, .ro, (fun _ _ => 0), []⟩]⟩,
  ⟨"TNS_SLOT_Q", 0x00C, 32, 16, 0x20, (fun _ _ => .isl 23),
    [⟨"VALUE", 31, 0, .ro, (fun _ _ => 0), []⟩]⟩,
  ⟨"TNS_SLOT_SP", 0x010, 32, 16, 0x20, (fun _ _ => .isl 23),
    [⟨"SETPOINT", 31, 0, .ro, (fun _ _ => 0), []⟩]⟩,
  ⟨"TNS_SLOT_COUNTS", 0x014, 32, 16, 0x20, (fun _ _ => .mrw),
    [⟨"LATE", 31, 20, .ro, (fun _ _ => 0), []⟩,
     ⟨"WAITS", 19, 8, .ro, (fun _ _ => 0), []⟩,
     ⟨"STEPS", 7, 0, .ro, (fun _ _ => 0), []⟩]⟩,
  ⟨"TNS_ADC", 0x400, 32, 32, 4, (fun _ _ => .isl 23),
    [⟨"SEQ", 31, 16, .ro, (fun _ _ => 0), []⟩,
     ⟨"VALID", 15, 15, .ro, (fun _ _ => 0), []⟩,
     ⟨"CODE", 11, 0, .ro, (fun _ _ => 0), []⟩]⟩,
  ⟨"TNS_ADC_BG_0", 0x480, 32, 1, 0, (fun _ _ => .warm),
    [⟨"MASK", 15, 0, .rw, (fun _ _ => 0xFF00), []⟩]⟩,
  ⟨"TNS_ADC_BG_1", 0x484, 32, 1, 0, (fun _ _ => .warm),
    [⟨"MASK", 10, 0, .rw, (fun _ _ => 0x01FF), []⟩]⟩,
  ⟨"TNS_STATUS", 0x488, 32, 1, 0, (fun _ _ => .warm),
    [⟨"CFG_ERR", 31, 31, .w1c, (fun _ _ => 0), []⟩,
     ⟨"CAP_BUSY", 30, 30, .ro, (fun _ _ => 0), []⟩,
     ⟨"ADC_FAULT", 1, 0, .w1c, (fun _ _ => 0), []⟩]⟩,
  ⟨"TNS_PWM", 0x490, 32, 1, 0, (fun _ _ => .warm),
    [⟨"MOT_PER", 31, 16, .rw, (fun _ _ => 16000), [(400, 65535)]⟩,
     ⟨"POLY_PER", 15, 0, .rw, (fun _ _ => 16000), [(400, 65535)]⟩]⟩]

/-- The LOG block's registers. -/
def regsLog : List RegDesc := [
  ⟨"LOG_STATUS", 0x000, 32, 1, 0, (fun _ _ => .warm),
    [⟨"BANKS", 31, 30, .ro, (fun _ _ => 0), []⟩,
     ⟨"FULL", 29, 29, .ro, (fun _ _ => 0), []⟩,
     ⟨"RESERVED", 25, 16, .ro, (fun _ _ => 0), []⟩,
     ⟨"UNRETIRED", 12, 0, .ro, (fun _ _ => 0), []⟩]⟩,
  ⟨"LOG_SEQ", 0x004, 32, 1, 0, (fun _ _ => .warm),
    [⟨"NEXT", 31, 0, .ro, (fun _ _ => 0), []⟩]⟩,
  ⟨"LOG_RETIRED", 0x008, 32, 1, 0, (fun _ _ => .warm),
    [⟨"SEQ", 31, 0, .ro, (fun _ _ => 0), []⟩]⟩,
  ⟨"LOG_CKPT", 0x00C, 32, 1, 0, (fun _ _ => .warm),
    [⟨"SIGNED_SEQ", 31, 0, .ro, (fun _ _ => 0), []⟩]⟩,
  ⟨"LOG_DRAIN_BASE", 0x010, 64, 1, 0, (fun _ _ => .warm),
    [⟨"ADDR", 63, 12, .rw, (fun _ _ => 0), []⟩]⟩,
  ⟨"LOG_DRAIN_CFG", 0x018, 32, 1, 0, (fun _ _ => .warm),
    [⟨"EN", 31, 31, .rw, (fun _ _ => 0), []⟩,
     ⟨"LOG2SIZE", 4, 0, .rw, (fun _ _ => 6), [(6, 16)]⟩]⟩,
  ⟨"LOG_DRAIN_TAIL", 0x01C, 32, 1, 0, (fun _ _ => .warm),
    [⟨"TAIL", 31, 0, .ro, (fun _ _ => 0), []⟩]⟩,
  ⟨"LOG_DRAIN_HEAD", 0x020, 32, 1, 0, (fun _ _ => .warm),
    [⟨"HEAD", 31, 0, .rw, (fun _ _ => 0), []⟩]⟩,
  ⟨"LOG_DRAIN_STATUS", 0x024, 32, 1, 0, (fun _ _ => .warm),
    [⟨"DRAIN_ERR", 31, 31, .w1c, (fun _ _ => 0), []⟩,
     ⟨"DMA_FAULT", 30, 30, .w1c, (fun _ _ => 0), []⟩]⟩,
  ⟨"LOG_ECC", 0x028, 32, 1, 0, (fun _ _ => .mrw),
    [⟨"CE_B", 31, 16, .ro, (fun _ _ => 0), []⟩,
     ⟨"CE_A", 15, 0, .ro, (fun _ _ => 0), []⟩]⟩,
  ⟨"LOG_TOMBSTONE", 0x100, 32, 16, 4, (fun _ _ => .aon),
    [⟨"DATA", 31, 0, .ro, (fun _ _ => 0), []⟩]⟩]

/-- The TST block's registers. -/
def regsTst : List RegDesc := [
  ⟨"TST_INFO", 0x000, 32, 1, 0, (fun _ _ => .cold),
    [⟨"IR_STATE", 31, 16, .ro, (fun _ _ => 0), []⟩,
     ⟨"BSR_LEN", 15, 0, .ro, (fun _ _ => 0), []⟩]⟩,
  ⟨"TST_IDCODE", 0x004, 32, 1, 0, (fun _ _ => .cold),
    [⟨"IDCODE", 31, 0, .ro, (fun _ _ => 0x14B165A7), []⟩]⟩,
  ⟨"TST_JOB_CFG", 0x010, 64, 1, 0, (fun _ _ => .warm),
    [⟨"KIND", 3, 0, .rw, (fun _ _ => 0), []⟩,
     ⟨"PATTERN", 7, 4, .rw, (fun _ _ => 0), []⟩,
     ⟨"LOOP", 9, 8, .rw, (fun _ _ => 0), []⟩,
     ⟨"INSTANCE", 31, 16, .rw, (fun _ _ => 0), []⟩,
     ⟨"ARRAY", 39, 32, .rw, (fun _ _ => 0), []⟩,
     ⟨"DURATION", 63, 40, .rw, (fun _ _ => 0), []⟩]⟩,
  ⟨"TST_JOB_CMD", 0x018, 32, 1, 0, (fun _ _ => .warm),
    [⟨"KEY", 31, 16, .wo, (fun _ _ => 0), []⟩]⟩,
  ⟨"TST_JOB_STATUS", 0x01C, 32, 1, 0, (fun _ _ => .warm),
    [⟨"STATE", 31, 30, .ro, (fun _ _ => 0), []⟩,
     ⟨"RESULT", 29, 28, .ro, (fun _ _ => 0), []⟩,
     ⟨"REASON", 27, 24, .ro, (fun _ _ => 0), []⟩,
     ⟨"LOCKED", 8, 0, .ro, (fun _ _ => 0), []⟩]⟩,
  ⟨"TST_JOB_BITS", 0x020, 64, 1, 0, (fun _ _ => .warm),
    [⟨"COUNT", 63, 0, .ro, (fun _ _ => 0), []⟩]⟩,
  ⟨"TST_JOB_ERRS", 0x028, 64, 1, 0, (fun _ _ => .warm),
    [⟨"COUNT", 63, 0, .ro, (fun _ _ => 0), []⟩]⟩,
  ⟨"TST_FIXED", 0x030, 64, 1, 0, (fun _ _ => .warm),
    [⟨"PATTERN", 63, 0, .rw, (fun _ _ => 0), []⟩]⟩,
  ⟨"TST_ERR_THR", 0x038, 32, 1, 0, (fun _ _ => .warm),
    [⟨"THR", 31, 0, .rw, (fun _ _ => 1), []⟩]⟩]

/-- The RPR block's registers. -/
def regsRpr : List RegDesc := [
  ⟨"RPR_CFG", 0x000, 32, 1, 0, (fun _ _ => .warm),
    [⟨"SRAM_CE_THR", 15, 8, .rw, (fun _ _ => 16), [(1, 255)]⟩,
     ⟨"RETIRE_CHK", 3, 0, .rw, (fun _ _ => 2), [(1, 15)]⟩]⟩,
  ⟨"RPR_STATUS", 0x004, 32, 1, 0, (fun _ _ => .warm),
    [⟨"SOURCE", 31, 30, .ro, (fun _ _ => 0), []⟩,
     ⟨"AUTH_FAIL", 29, 29, .w1c, (fun _ _ => 0), []⟩,
     ⟨"FULL", 28, 28, .ro, (fun _ _ => 0), []⟩,
     ⟨"ENTRIES", 26, 16, .ro, (fun _ _ => 0), []⟩,
     ⟨"PENDING", 8, 0, .ro, (fun _ _ => 0), []⟩]⟩,
  ⟨"RPR_HMAP", 0x100, 64, 4, 8, (fun _ _ => .warm),
    [⟨"PHYS", 47, 0, .ro, (fun _ _ => 0xBA9876543210), []⟩]⟩,
  ⟨"RPR_SMAP_LO", 0x140, 64, 4, 16, (fun _ _ => .warm),
    [⟨"PHYS", 63, 0, .ro, (fun _ _ => 0x0706050403020100), []⟩]⟩,
  ⟨"RPR_SMAP_HI", 0x148, 64, 4, 16, (fun _ _ => .warm),
    [⟨"PHYS", 63, 0, .ro, (fun _ _ => 0x0F0E0D0C0B0A0908), []⟩]⟩,
  ⟨"RPR_HOST", 0x180, 32, 4, 4, (fun _ _ => .warm),
    [⟨"HOSTED", 15, 0, .ro, (fun _ _ => 0), []⟩]⟩,
  ⟨"RPR_SPARE", 0x1C0, 32, 4, 4, (fun _ _ => .warm),
    [⟨"ATT_EXCLUDED", 25, 25, .ro, (fun _ _ => 0), []⟩,
     ⟨"BLOCKS_RETIRED", 24, 16, .ro, (fun _ _ => 0), []⟩,
     ⟨"CORE_VACANT", 12, 8, .ro, (fun _ _ => 0), []⟩,
     ⟨"HATCH_VACANT", 7, 4, .ro, (fun _ _ => 0), []⟩,
     ⟨"STIPPLE_SPARE", 3, 2, .ro, (fun _ _ => 2), []⟩,
     ⟨"HATCH_SPARE", 1, 0, .ro, (fun _ _ => 1), []⟩]⟩,
  ⟨"RPR_ROWS", 0x200, 32, 1, 0, (fun _ _ => .mrw),
    [⟨"TESTS", 31, 16, .ro, (fun _ _ => 0), []⟩,
     ⟨"REPAIRED", 15, 0, .ro, (fun _ _ => 0), []⟩]⟩]

/-- The HIF block's registers. -/
def regsHif : List RegDesc := [
  ⟨"HIF_MSIX", 0x0000, 32, 256, 4, (fun _ _ => .warm),
    [⟨"WORD", 31, 0, .rw, (fun _ i => hifMsixReset i), []⟩]⟩,
  ⟨"HIF_PBA", 0x0800, 64, 1, 0, (fun _ _ => .warm),
    [⟨"BITS", 63, 0, .ro, (fun _ _ => 0), []⟩]⟩,
  ⟨"HIF_LINK", 0x1000, 32, 1, 0, (fun _ _ => .none),
    [⟨"WIDTH", 9, 4, .ro, (fun _ _ => 0), []⟩,
     ⟨"SPEED", 3, 0, .ro, (fun _ _ => 0), []⟩]⟩]

/-- The PW block's registers. -/
def regsPw : List RegDesc := [
  ⟨"PW_RING_SQ_BASE", 0x00, 64, 8, 0x100, (fun _ _ => .warm),
    [⟨"ADDR", 63, 12, .rw, (fun _ _ => 0), []⟩,
     ⟨"LOC", 0, 0, .rw, (fun _ _ => 0), []⟩]⟩,
  ⟨"PW_RING_CQ_BASE", 0x08, 64, 8, 0x100, (fun _ _ => .warm),
    [⟨"ADDR", 63, 12, .rw, (fun _ _ => 0), []⟩,
     ⟨"LOC", 0, 0, .rw, (fun _ _ => 0), []⟩]⟩,
  ⟨"PW_RING_CFG", 0x10, 32, 8, 0x100, (fun _ _ => .warm),
    [⟨"EN", 31, 31, .rw, (fun _ _ => 0), []⟩,
     ⟨"CTX", 27, 16, .rw, (fun _ _ => 0), []⟩,
     ⟨"LOG2SIZE", 4, 0, .rw, (fun _ _ => 6), [(6, 16)]⟩]⟩,
  ⟨"PW_RING_CTL", 0x14, 32, 8, 0x100, (fun b _ => .part b),
    [⟨"RESUME", 31, 31, .wo, (fun _ _ => 0), []⟩,
     ⟨"FLUSH", 30, 30, .wo, (fun _ _ => 0), []⟩]⟩,
  ⟨"PW_RING_STATUS", 0x18, 32, 8, 0x100, (fun b _ => .part b),
    [⟨"STATE", 31, 29, .ro, (fun _ _ => 0), []⟩,
     ⟨"CAUSE", 28, 24, .ro, (fun _ _ => 0), []⟩,
     ⟨"CFG_ERR", 23, 23, .w1c, (fun _ _ => 0), []⟩,
     ⟨"CQ_FULL", 22, 22, .ro, (fun _ _ => 0), []⟩,
     ⟨"DB_STALE", 15, 0, .ro, (fun _ _ => 0), []⟩]⟩,
  ⟨"PW_RING_SQ_TAIL", 0x20, 32, 8, 0x100, (fun b _ => .part b),
    [⟨"TAIL", 31, 0, .ro, (fun _ _ => 0), []⟩]⟩,
  ⟨"PW_RING_SQ_HEAD", 0x24, 32, 8, 0x100, (fun b _ => .part b),
    [⟨"HEAD", 31, 0, .ro, (fun _ _ => 0), []⟩]⟩,
  ⟨"PW_RING_CQ_TAIL", 0x28, 32, 8, 0x100, (fun b _ => .part b),
    [⟨"TAIL", 31, 0, .ro, (fun _ _ => 0), []⟩]⟩,
  ⟨"PW_RING_CQ_HEAD", 0x2C, 32, 8, 0x100, (fun b _ => .part b),
    [⟨"HEAD", 31, 0, .rw, (fun _ _ => 0), []⟩]⟩,
  ⟨"PW_RING_DB", 0x30, 32, 8, 0x100, (fun _ _ => .none),
    [⟨"TAIL", 31, 0, .wo, (fun _ _ => 0), []⟩]⟩,
  ⟨"PW_RING_IRQ", 0x34, 32, 8, 0x100, (fun _ _ => .warm),
    [⟨"GAP_US", 15, 0, .rw, (fun _ _ => 0), []⟩]⟩,
  ⟨"PW_RING_INVQ", 0x38, 32, 8, 0x100, (fun b _ => .part b),
    [⟨"QUEUED", 6, 0, .ro, (fun _ _ => 0), []⟩]⟩,
  ⟨"PW_MSIX", 0xB000, 32, 48, 4, (fun _ _ => .warm),
    [⟨"WORD", 31, 0, .rw, (fun _ i => hifMsixReset i), []⟩]⟩,
  ⟨"PW_PBA", 0xB800, 64, 1, 0, (fun _ _ => .warm),
    [⟨"BITS", 11, 0, .ro, (fun _ _ => 0), []⟩]⟩,
  ⟨"PW_EVT_Q_BASE", 0xC000, 64, 1, 0, (fun _ _ => .warm),
    [⟨"ADDR", 63, 12, .rw, (fun _ _ => 0), []⟩,
     ⟨"LOC", 0, 0, .rw, (fun _ _ => 0), []⟩]⟩,
  ⟨"PW_EVT_Q_CFG", 0xC008, 32, 1, 0, (fun _ _ => .warm),
    [⟨"EN", 31, 31, .rw, (fun _ _ => 0), []⟩,
     ⟨"CTX", 27, 16, .rw, (fun _ _ => 0), []⟩,
     ⟨"LOG2SIZE", 4, 0, .rw, (fun _ _ => 6), [(6, 16)]⟩]⟩,
  ⟨"PW_EVT_Q_TAIL", 0xC00C, 32, 1, 0, (fun b _ => .part b),
    [⟨"TAIL", 31, 0, .ro, (fun _ _ => 0), []⟩]⟩,
  ⟨"PW_EVT_Q_HEAD", 0xC010, 32, 1, 0, (fun b _ => .part b),
    [⟨"HEAD", 31, 0, .rw, (fun _ _ => 0), []⟩]⟩,
  ⟨"PW_EVT_Q_STATUS", 0xC014, 32, 1, 0, (fun b _ => .part b),
    [⟨"OVERFLOW", 31, 31, .w1c, (fun _ _ => 0), []⟩,
     ⟨"HEAD_ERR", 30, 30, .w1c, (fun _ _ => 0), []⟩,
     ⟨"Q_FAULT", 29, 29, .w1c, (fun _ _ => 0), []⟩,
     ⟨"DROPPED", 15, 0, .ro, (fun _ _ => 0), []⟩]⟩,
  ⟨"PW_DSP_STATUS", 0xD000, 32, 1, 0, (fun _ _ => .warm),
    [⟨"STATE", 31, 30, .ro, (fun _ _ => 0), []⟩]⟩,
  ⟨"PW_DSP_MODE", 0xD004, 32, 1, 0, (fun _ _ => .warm),
    [⟨"H", 15, 0, .ro, (fun _ _ => 0), []⟩,
     ⟨"V", 31, 16, .ro, (fun _ _ => 0), []⟩]⟩,
  ⟨"PW_DSP_FRAME", 0xD008, 32, 1, 0, (fun _ _ => .warm),
    [⟨"SEQ", 31, 0, .ro, (fun _ _ => 0), []⟩]⟩,
  ⟨"PW_PRS_STATUS", 0xD100, 32, 1, 0, (fun _ _ => .warm),
    [⟨"PSTAT", 31, 0, .ro, (fun _ _ => 0), []⟩]⟩,
  ⟨"PW_PRS_SHEET", 0xD104, 32, 1, 0, (fun _ _ => .warm),
    [⟨"SHEET_ID", 31, 0, .ro, (fun _ _ => 0), []⟩]⟩,
  ⟨"PW_TNS", 0xD200, 32, 16, 4, (fun _ _ => .isl 23),
    [⟨"STATUS", 31, 0, .ro, (fun _ _ => 0), []⟩]⟩,
  ⟨"PW_ADMIT_W0", 0xE000, 64, 16, 64, (fun _ _ => .mrw),
    [⟨"DIGEST", 63, 0, .rw, (fun _ _ => 0), []⟩]⟩,
  ⟨"PW_ADMIT_W1", 0xE008, 64, 16, 64, (fun _ _ => .mrw),
    [⟨"DIGEST", 63, 0, .rw, (fun _ _ => 0), []⟩]⟩,
  ⟨"PW_ADMIT_W2", 0xE010, 64, 16, 64, (fun _ _ => .mrw),
    [⟨"DIGEST", 63, 0, .rw, (fun _ _ => 0), []⟩]⟩,
  ⟨"PW_ADMIT_W3", 0xE018, 64, 16, 64, (fun _ _ => .mrw),
    [⟨"DIGEST", 63, 0, .rw, (fun _ _ => 0), []⟩]⟩,
  ⟨"PW_ADMIT_W4", 0xE020, 64, 16, 64, (fun _ _ => .mrw),
    [⟨"DIGEST", 63, 0, .rw, (fun _ _ => 0), []⟩]⟩,
  ⟨"PW_ADMIT_W5", 0xE028, 64, 16, 64, (fun _ _ => .mrw),
    [⟨"DIGEST", 63, 0, .rw, (fun _ _ => 0), []⟩]⟩,
  ⟨"PW_ADMIT_W6", 0xE030, 64, 16, 64, (fun _ _ => .mrw),
    [⟨"EN", 0, 0, .rw, (fun _ _ => 0), []⟩]⟩,
  ⟨"PW_TRUST", 0xE400, 32, 1, 0, (fun _ _ => .mrw),
    [⟨"LIFECYCLE", 31, 30, .ro, (fun _ _ => 0), []⟩,
     ⟨"TDI", 29, 28, .ro, (fun _ _ => 0), []⟩,
     ⟨"PRESS", 27, 27, .ro, (fun _ _ => 0), []⟩,
     ⟨"PROOF", 26, 26, .ro, (fun _ _ => 0), []⟩]⟩,
  ⟨"PW_ADMITTED", 0xE404, 32, 1, 0, (fun _ _ => .mrw),
    [⟨"LINKS", 5, 0, .ro, (fun _ _ => 0), []⟩]⟩,
  ⟨"PW_XLT_CTX", 0xF000, 64, 1, 0, (fun _ _ => .mrw),
    [⟨"BASE", 43, 16, .rw, (fun _ _ => 0), []⟩,
     ⟨"DIRECT_EN", 1, 1, .rw, (fun _ _ => 0), []⟩,
     ⟨"EN", 0, 0, .rw, (fun _ _ => 0), []⟩]⟩,
  ⟨"PW_INV", 0xF010, 64, 4, 8, (fun b _ => .part b),
    [⟨"WORD", 63, 0, .wo, (fun _ _ => 0), []⟩]⟩,
  ⟨"PW_INV_ACK", 0xF030, 64, 1, 0, (fun b _ => .part b),
    [⟨"TAG", 63, 32, .ro, (fun _ _ => 0), []⟩,
     ⟨"EPOCH", 31, 0, .ro, (fun _ _ => 0), []⟩]⟩,
  ⟨"PW_INV_STATUS", 0xF038, 32, 1, 0, (fun b _ => .part b),
    [⟨"OVERFLOW", 31, 31, .w1c, (fun _ _ => 0), []⟩,
     ⟨"ACK_STATUS", 23, 16, .ro, (fun _ _ => 0), []⟩,
     ⟨"PENDING", 4, 0, .ro, (fun _ _ => 0), []⟩]⟩,
  ⟨"PW_GRAN_SEL", 0xF040, 32, 1, 0, (fun b _ => .part b),
    [⟨"GRANULE", 13, 0, .rw, (fun _ _ => 0), []⟩]⟩,
  ⟨"PW_GRAN_VIEW", 0xF044, 32, 1, 0, (fun b _ => .part b),
    [⟨"VALID", 31, 31, .ro, (fun _ _ => 0), []⟩,
     ⟨"VIEW", 30, 28, .ro, (fun _ _ => 0), []⟩,
     ⟨"REGION", 27, 24, .ro, (fun _ _ => 0), []⟩]⟩,
  ⟨"PW_GRAN_COUNT", 0xF048, 32, 1, 0, (fun b _ => .part b),
    [⟨"OWNED", 15, 0, .ro, (fun _ _ => 0), []⟩]⟩]

/-- Every block of Table 20.12 and the partition windows (R732, R707). -/
def regBlocks : List BlockDesc := [
  ⟨"GLB", 0x0, 0, 1, regsGlb⟩,
  ⟨"SMB", 0x10000, 0, 1, regsSmb⟩,
  ⟨"CKR", 0x20000, 0, 1, regsCkr⟩,
  ⟨"PWR", 0x30000, 0, 1, regsPwr⟩,
  ⟨"EVT", 0x40000, 0, 1, regsEvt⟩,
  ⟨"MC", 0x100000, 0x10000, 24, regsMc⟩,
  ⟨"MEMG", 0x300000, 0, 1, regsMemg⟩,
  ⟨"XLT", 0x400000, 0, 1, regsXlt⟩,
  ⟨"FP", 0x500000, 0x10000, 6, regsFp⟩,
  ⟨"FPM", 0x500800, 0, 1, regsFpm⟩,
  ⟨"TOPO", 0x580000, 0, 1, regsTopo⟩,
  ⟨"RING", 0x600000, 0x100, 128, regsRing⟩,
  ⟨"CC", 0x700000, 0x40000, 4, regsCc⟩,
  ⟨"ATT", 0x800000, 0, 1, regsAtt⟩,
  ⟨"RAS", 0x900000, 0, 1, regsRas⟩,
  ⟨"DSP", 0x980000, 0, 1, regsDsp⟩,
  ⟨"PRS", 0xA00000, 0, 1, regsPrs⟩,
  ⟨"DRY", 0xA80000, 0, 1, regsDry⟩,
  ⟨"TNS", 0xB00000, 0, 1, regsTns⟩,
  ⟨"LOG", 0xC00000, 0, 1, regsLog⟩,
  ⟨"TST", 0xD00000, 0, 1, regsTst⟩,
  ⟨"RPR", 0xE00000, 0, 1, regsRpr⟩,
  ⟨"HIF", 0xF00000, 0, 1, regsHif⟩,
  ⟨"PW", 0x100000000, 0x10000, 16, regsPw⟩]

end Sys2Proof.Machine
end

