-- ==== Sys2Proof/Machine/StateCore.lean ====
section
/-! DEFINITION. Plain-data containers and the state of power, clocks, pins, pool memory, translation and the event unit
(chapters 00 to 06 and 20). -/

namespace Sys2Proof.Machine

/-- A table of values by key, keys rising; an unlisted key holds the reader's default. -/
abbrev Tab (α : Type) := List (Nat × α)

/-- The value at a key, or the default. -/
def Tab.get {α : Type} (d : α) : Tab α → Nat → α
  | [], _ => d
  | (k, v) :: t, x => if k = x then v else if x < k then d else Tab.get d t x

/-- The table with one key set. -/
def Tab.set {α : Type} : Tab α → Nat → α → Tab α
  | [], x, a => [(x, a)]
  | (k, v) :: t, x, a => if x < k then (x, a) :: (k, v) :: t else if k = x then (x, a) :: t else (k, v) :: Tab.set t x a

/-- The table without one key. -/
def Tab.del {α : Type} (t : Tab α) (x : Nat) : Tab α := t.filter (fun e => e.1 != x)

/-- A set of numbers, rising. -/
abbrev NSet := List Nat

/-- The set with one member added. -/
def NSet.ins : NSet → Nat → NSet
  | [], x => [x]
  | k :: t, x => if x < k then x :: k :: t else if k = x then k :: t else k :: NSet.ins t x

/-- The set with one member removed. -/
def NSet.del (t : NSet) (x : Nat) : NSet := t.filter (· != x)

/-- The part the node is (R29, Table 22.13). -/
inductive Part where
  | kqn1600 | kqn1610
  deriving DecidableEq, Repr

/-- What the fuses of the die hold (R29, R126, R472, R501, R771). -/
structure Fuses where
  part       : Part      -- part code
  extended   : Bool      -- GRADE of GLB_REV
  uid        : Nat       -- GLB_UID
  maxMHz     : Tab Nat   -- fused maximum frequency of SYN_0–3 and SYN_8 (R126); unlisted: the top of Table 04.1
  badEngines : NSet      -- cluster × 16 + physical engine, defective from manufacture (R472)
  badCores   : NSet      -- cluster × 32 + physical core, defective from manufacture (R472)
  svnMin     : Nat       -- SVN_MIN counter (R501)
  revoked    : NSet      -- revoked signing key slots (R500)
  deriving DecidableEq, Repr

/-- Why FAULT_N is held low. -/
inductive FaultCause where
  | undervoltage | xtalStop | bootFail | xbarGated | syn11Gated | sealedHalt
  deriving DecidableEq, Repr

/-- The reset kinds of Table 03.2 that act on islands 1 to 24. -/
inductive ResetKind where
  | powerOn | warm | memoryRetaining
  deriving DecidableEq, Repr

/-- Levels of the press outputs (R59); every field low, zero or empty is the safe level. -/
structure PressPins where
  laserEn  : Bool       -- PRS_LASER_EN
  beamsLit : Bool       -- some BEAM pair is not in static off
  ilkOut   : Bool       -- PRS_ILK_OUT
  hbeat    : Bool       -- PRS_HBEAT level
  hvDuty   : Tab Nat    -- duty of PRS_HVREF_k in 4,000ths of its period (R636)
  fusGate  : NSet       -- fuser gates that are high
  clutch   : NSet       -- PRS_CLU_n outputs that are high
  pwm      : Tab Int    -- signed on-cycles of each polygon and motor PWM pin, by slot (R685, R686)
  apcDac   : Tab Nat    -- PRS_APC_b level in codes (R662)
  driven   : Bool       -- outputs are driven; false: undriven, the board pull-downs hold them low (R64, R774)
  deriving DecidableEq, Repr

/-- Every press output at its safe level (R59). -/
def PressPins.safe : PressPins :=
  { laserEn := false, beamsLit := false, ilkOut := false, hbeat := false, hvDuty := [], fusGate := [], clutch := [],
    pwm := [], apcDac := [], driven := true }

/-- Power, resets and the pins they use (chapters 02 and 03). -/
structure PwrState where
  aonUp        : Bool               -- VDD_AON within limits (R15, R774)
  io33Up       : Bool               -- VDD_IO33 present (R64)
  xtalRunning  : Bool               -- the 25 MHz crystal runs (R68)
  porstLow     : Bool               -- PORST_N is driven low
  held         : Bool               -- islands 1–24 stay in reset until PORST_N has fallen and risen (R108)
  prologue     : Option ResetKind   -- a reset prologue is running (R93)
  faultN       : List FaultCause    -- FAULT_N is low while this list is not empty
  thermtripLow : Bool               -- THERMTRIP_N (R108)
  drstLow      : Bool               -- Mnn_DRST_N level low (Table 02.10)
  pcieUp       : Bool               -- the PCIe link is up (R357)
  perstLow     : Bool               -- PCIE_PERST_N asserted (R66)
  afterReset   : Bool               -- a node reset has happened and FABRIC_READY has not yet been raised (R100)
  atomWindow   : Bool               -- fabric atomics are discarded (R100)
  prochotLow   : Bool               -- PROCHOT_N level (R723)
  prochotOn    : Bool               -- PROCHOT_N has been low for 10 µs (R723)
  deriving DecidableEq, Repr

/-- One synthesizer beside its registers (chapter 04). -/
structure Syn where
  pureWin  : Bool          -- the synthesizer has been in its present class of states since the monitor window began (R123)
  refCount : Option Nat    -- count of the last window completed entirely in LOCKED (R123)
  frozen   : Bool          -- the control word is frozen (Table 04.3)
  pendCtl  : Option W32    -- steward write of CTL passed to the SM and not yet applied (R126)
  deriving DecidableEq, Repr

/-- A synthesizer as reset leaves it. -/
def Syn.init : Syn := { pureWin := false, refCount := none, frozen := false, pendCtl := none }

/-- What a quadrant's controllers are doing (R136, R778). -/
inductive QuadMode where
  | running | quiescing | selfRefresh | expired | recentring
  deriving DecidableEq, Repr

/-- Clocks (chapter 04). -/
structure ClkState where
  refPresent : Bool            -- REFCLK_100 shows edges (R118)
  syn        : Tab Syn
  quad       : Tab QuadMode    -- Q_0 to Q_3
  quadOff    : NSet            -- quadrants whose quiesce leads to a synthesizer written EN = 0 (R778)
  syn11Lost  : Bool            -- SYN_11 has been gated and has not locked since (R140 to R142)
  deriving DecidableEq, Repr

/-- A request held at a quadrant, by line. -/
inductive MemOp where
  | read
  | write (data : List Byte)
  | part (mask : Nat) (data : List Byte)
  deriving DecidableEq, Repr

/-- One held line request (R84, R136, R166, R181). -/
structure HeldReq where
  line : Nat
  op   : MemOp
  deriving DecidableEq, Repr

/-- How a line request ended: OK with data, poison, or MEM_UNAVAILABLE. -/
inductive MemRes where
  | ok (data : List Byte)
  | poison
  | unavailable
  | held
  deriving DecidableEq, Repr

/-- One answered line request. -/
structure MemDone where
  line : Nat
  op   : MemOp
  res  : MemRes
  deriving DecidableEq, Repr

/-- Coordinates of one line (R156, R157). -/
structure DramAddr where
  ch   : Nat
  sub  : Nat
  slot : Nat
  cs   : Nat
  cid  : Nat
  bg   : Nat
  ba   : Nat
  row  : Nat
  col  : Nat
  deriving DecidableEq, Repr

/-- The population of one channel as its SPDs report it (R153). -/
structure DimmPop where
  dimms     : Nat     -- DIMMs on the channel
  gib       : Nat     -- capacity of each in GiB
  ranks     : Nat
  stack     : Nat
  rows      : Nat     -- rows per bank
  density   : Nat     -- device density code
  maxRate   : Nat     -- 1 DDR5-4800, 2 DDR5-5600, 3 DDR5-6400
  sppr      : Nat     -- soft-repair resources of each bank group (R181)
  ids       : List (List Byte)   -- SPD manufacturer ID and serial number bytes, by slot (R484)
  supported : Bool    -- registered, x4 devices with two check devices per subchannel (R152)
  deriving DecidableEq, Repr

/-- A soft or running row repair: the row, in one subchannel and rank, and the faulty device (R181). -/
structure RowRepair where
  addr : DramAddr     -- the column is zero
  dev  : Nat
  deriving DecidableEq, Repr

/-- Corrected columns of one device row in one Sorrel second (row fault, R181). -/
structure RowCount where
  row  : RowRepair
  sec  : Nat
  cols : NSet
  deriving DecidableEq, Repr

/-- Pool memory (chapter 05). -/
structure PoolState where
  cells     : List Host.Cell         -- line data by PPA, canonical: rising, no zero byte; an unlisted byte is zero
  sym       : Tab (List (Nat × Nat)) -- symbol differences of the stored codeword, by line (PPA >> 6)
  l2        : NSet                   -- L2 valid bits
  l1c       : NSet                   -- L1C flags
  opening   : NSet                   -- OPENING flags
  l1        : NSet                   -- L1 bits, by block PPA >> 16
  l0        : NSet                   -- L0 bits, by line PPA >> 6
  l2ue      : NSet                   -- uncorrectable L2 entries
  l2ueSeen  : NSet                   -- of these, already counted in META_UE
  held      : List HeldReq           -- requests held at the quadrants, oldest first
  done      : List MemDone           -- answered line requests, oldest first
  pop       : Option DimmPop         -- population in use, with its geometry
  training  : NSet                   -- channels whose training has not ended
  cleanPos  : Nat                    -- next granule the lazy cleaner visits
  scrubPos  : Nat                    -- next line the scrubber looks at
  scrubFrom : Nat                    -- tick at which the scrub pass began
  bursts    : Tab (Nat × Nat)        -- device-burst events: key of the device, Sorrel second and count (R178)
  rowCounts : List RowCount
  softRun   : List RowRepair         -- soft repairs in progress
  soft      : List RowRepair         -- soft repairs in force
  hardDone  : List RowRepair         -- hard repairs done
  hardCh    : Option Nat             -- channel whose hard-repair commit runs
  serials   : Tab Nat                -- SERIAL of each DIMM, by channel × 2 + slot (R484)
  lastCe    : Tab Nat                -- tick of the last MEM_CE, by channel (R177)
  replays   : Tab Nat                -- consecutive failed replays, by channel (R184)
  retrain   : Tab Nat                -- retrain attempts in progress, by channel (R184)
  saved     : Option (Nat × Nat × NSet)  -- retained over a memory-retaining warm reset: MEMG_CFG, MEMG_GRANULES and the channels that ran
  deriving DecidableEq, Repr

/-- Pool memory with nothing written. -/
def PoolState.init : PoolState :=
  { cells := [], sym := [], l2 := [], l1c := [], opening := [], l1 := [], l0 := [], l2ue := [], l2ueSeen := [],
    held := [], done := [], pop := none, training := [], cleanPos := 0, scrubPos := 0, scrubFrom := 0, bursts := [],
    rowCounts := [], softRun := [], soft := [], hardDone := [], hardCh := none, serials := [], lastCe := [], replays := [],
    retrain := [], saved := none }

/-- Who makes an access (R209, Table 06.5). -/
inductive Src where
  | fab (link : Nat) (addr : Nat) (vc0 : Bool)   -- a peer on the link led by group `link`; `vc0`: it arrived on VC 0
  | ring (r : Nat)                  -- a ring program or attention walker
  | window (p : Nat)                -- the partition's own window
  | sm                              -- the SM
  deriving DecidableEq, Repr

/-- The operation of an access (Table 06.5). -/
inductive AccOp where
  | rd | wr | at
  deriving DecidableEq, Repr

/-- Violation kinds (Table 06.4). -/
inductive Viol where
  | state | source | noContext | table | unmapped | misaligned | permission | range | sharedWrite | ownership | invalidate
  deriving DecidableEq, Repr

/-- Granule table entry states (Table 06.1). -/
inductive GState where
  | free | owned (p : Nat) | shared (r : Nat) | releasing (fromShared : Bool) (id : Nat) | reserved
  deriving DecidableEq, Repr

/-- A cached translation (R207): context, page base, page size exponent, target and permissions. -/
structure CachedLeaf where
  cid  : Nat
  base : Nat
  size : Nat
  ppa  : Nat
  r    : Bool
  w    : Bool
  a    : Bool
  deriving DecidableEq, Repr

/-- A cached context entry (R207). -/
structure CachedCtx where
  cid : Nat
  w0  : Nat
  w1  : Nat
  deriving DecidableEq, Repr

/-- A cached walk entry: the table of one level reached for a context and address range (R207). -/
structure CachedWalk where
  cid  : Nat
  lvl  : Nat
  base : Nat
  tbl  : Nat
  deriving DecidableEq, Repr

/-- Where an acknowledgement goes (R220). -/
inductive InvFrom where
  | fab (link : Nat) (addr : Nat) (tag : Nat)
  | window
  deriving DecidableEq, Repr

/-- An accepted invalidation awaiting its acknowledgement (R216, R217). -/
structure InvAck where
  p       : Nat
  from_   : InvFrom
  cid     : Nat
  epoch   : Nat
  tag     : Nat
  status  : Nat
  applied : Bool
  deriving DecidableEq, Repr

/-- Violation record of one partition (R211, Table 06.5). -/
structure VioRec where
  count  : Nat
  drains : Nat
  time   : Nat
  va     : Nat
  kind   : Nat
  op     : Nat
  cid    : Nat
  source : Nat
  inc    : Nat     -- increase of COUNT in the present Sorrel second (R213)
  deriving DecidableEq, Repr

/-- No violation yet. -/
def VioRec.init : VioRec :=
  { count := 0, drains := 0, time := 0, va := 0, kind := 0, op := 0, cid := 0, source := 0, inc := 0 }

/-- Translation, granules and regions (chapter 06). -/
structure XltState where
  gran    : Tab GState          -- granules below USABLE that are not FREE
  gtUe    : NSet                -- granules whose table entry is uncorrectable (R228)
  ctxC    : List CachedCtx
  walkC   : List CachedWalk
  leafC   : List CachedLeaf
  acks    : List InvAck         -- accepted invalidations, oldest first
  invWord : Tab Nat             -- descriptor words written to PW_INV_w, by 4p + w
  vio     : Tab VioRec          -- by partition
  withdrawing : NSet            -- regions being withdrawn (R197)
  partKeys   : NSet             -- CRYPTO slots that hold a partition key (Table 14.2)
  regionKeys : NSet             -- CRYPTO slots that hold a region key
  deriving DecidableEq, Repr

/-- Translation as a power-on or warm reset leaves it (R230). -/
def XltState.init : XltState :=
  { gran := [], gtUe := [], ctxC := [], walkC := [], leafC := [], acks := [], invWord := [], vio := [],
    withdrawing := [], partKeys := [], regionKeys := [] }

/-- A Yarrow packet (Table 07.5): the header fields, word 1 and the data slots as bytes. -/
structure Packet where
  opc    : Nat
  len    : Nat
  vc     : Nat
  dl     : Nat
  rev    : Nat
  poison : Bool
  dst    : Nat
  src    : Nat
  cid    : Nat
  w1     : Nat
  data   : List Byte
  rsv    : Bool := false   -- bit 15 of word 0, which must be zero
  deriving DecidableEq, Repr

/-- What the node sends to the host over PCIe. -/
inductive HostOut where
  | dma (addr : Nat) (data : List Byte) (ide : Option Nat := none)   -- a DMA write through PF0 or the partition's function, with its IDE stream
  | msix (fn : Nat) (vec : Nat)             -- one MSI-X message: function 0 is PF0, p + 1 the VF of partition p
  | data (v : Nat)                          -- what a register read returns
  deriving DecidableEq, Repr

/-- The event unit and sideband (chapter 20). -/
structure EvtState where
  seq        : Nat            -- SEQ of the steward queue
  seqP       : Tab Nat        -- SEQ of each partition queue
  stopped    : Bool           -- the steward queue takes no record until EN is rewritten (R727)
  stoppedP   : NSet           -- partition queues that take no record
  overflow   : Bool           -- the next steward record carries OVERFLOW
  overflowP  : NSet
  alertLow   : Bool           -- SMB_ALERT_N is low
  alertSrc   : Nat            -- source of the latest alert
  alertNew   : Bool           -- an alert has occurred since the last TELEMETRY response was sent (R719)
  ibi        : List Nat       -- in-band interrupts sent, by data byte
  msixEn     : NSet           -- functions whose MSI-X Enable is 1
  msixMask   : NSet           -- functions whose Function Mask is 1
  numVfs     : Nat
  vfMse      : Bool           -- VF Memory Space Enable
  i3cAddr    : Option Nat     -- dynamic address
  i3cIbiEn   : Bool           -- IBI enabled by ENEC
  eid        : Tab Nat        -- endpoint ID of each MCTP transport
  mctpOut    : List (Nat × Nat × List Byte)   -- transport, message type and body of each response sent
  deriving DecidableEq, Repr

/-- The event unit after reset. -/
def EvtState.init : EvtState :=
  { seq := 0, seqP := [], stopped := false, stoppedP := [], overflow := false, overflowP := [], alertLow := false,
    alertSrc := 0, alertNew := false, ibi := [], msixEn := [], msixMask := [], numVfs := 0, vfMse := false,
    i3cAddr := none, i3cIbiEn := false, eid := [], mctpOut := [] }

/-- One entry of the repair record (Table 13.4). -/
structure RepairEntry where
  type   : Nat
  flags  : Nat
  serial : Nat
  loc    : Nat
  time   : Nat
  deriving DecidableEq, Repr

/-- One copy of the repair record in the boot flash (R489, Table 13.3). -/
structure RepairCopy where
  seq     : Nat
  entries : List RepairEntry
  valid   : Bool               -- MAGIC, UID and tag verify (R490)
  deriving DecidableEq, Repr

/-- An SRAM row (Table 13.1): array code, instance, row. -/
structure SramRow where
  code : Nat
  inst : Nat
  row  : Nat
  deriving DecidableEq, Repr

/-- Where a staging word is uncorrectable (R439): the inputs of the task an engine runs, a committed accumulator, the
program store of a core, or a word in no use. -/
inductive StageWord where
  | input (eng : Fin 13)
  | acc (ring : Fin 132) (t : Fin 16) (tile : Nat)
  | part (ring : Fin 132) (t : Fin 16) (tile chunk : Nat)
  | store (core : Fin 16)
  | idle
  deriving DecidableEq, Repr

/-- Kinds of compute unit (R488). -/
inductive UnitKind where
  | hatch | stipple
  deriving DecidableEq, Repr

/-- A spare under its switch-in self-test for a vacant logical number (R476). -/
structure SpareTest where
  cl      : Nat
  kind    : UnitKind
  logical : Nat
  phys    : Nat
  deriving DecidableEq, Repr

/-- Sparing, retirement and the repair record (chapter 13). -/
structure RprState where
  copyA     : Option RepairCopy
  copyB     : Option RepairCopy
  record    : List RepairEntry      -- the record in force
  pending   : List RepairEntry      -- the pending area of the retention store, at most 256
  deleted   : List RepairEntry      -- entries the steward deleted, in force until the next start (R493)
  lastWrite : Option Nat            -- tick of the last flash write (R491)
  engRet    : NSet                  -- retired engines, cluster × 16 + physical
  coreRet   : NSet                  -- retired cores, cluster × 32 + physical
  tests     : List SpareTest
  blockRet  : NSet                  -- retired or withdrawn staging blocks, cluster × 384 + block
  clOut     : NSet                  -- clusters out of service (R480)
  rowsOut   : List SramRow          -- rows under run-time test (R481)
  spareRows : Tab Nat               -- spare rows used, by code × 65536 + instance
  rowCe     : Tab (Nat × Nat)       -- Sorrel hour and corrected words of a row, by its key (R481)
  dead      : List SramRow          -- rows whose cache entries are disabled (Table 13.1)
  retFail   : Bool                  -- the retention store is unrepairable (Table 13.1)
  deriving DecidableEq, Repr

/-- Repair state of a node whose flash holds no record. -/
def RprState.init : RprState :=
  { copyA := none, copyB := none, record := [], pending := [], deleted := [], lastWrite := none, engRet := [],
    coreRet := [], tests := [], blockRet := [], clOut := [], rowsOut := [], spareRows := [], rowCe := [], dead := [],
    retFail := false }

/-- A set of sealed 64 KiB pages of the pool and what holds it (R582). -/
structure Seal where
  id    : Nat
  pages : NSet         -- PPA >> 16
  press : Bool         -- held by the press queue; otherwise by the proof display
  deriving DecidableEq, Repr

end Sys2Proof.Machine
end

