-- ==== Sys2Proof/Machine/StateRing.lean ====
section
/-! DEFINITION. The state of rings, programs, tallies and cores (chapters 09 and 10). -/

namespace Sys2Proof.Machine

/-- The guard of an instruction word (Table 10.2): PR and PN. -/
structure Guard where
  pr : Fin 8
  pn : Bool
  deriving DecidableEq, Repr

/-- A tally (R379): state 0 IDLE, 1 BUSY, 2 DONE. -/
structure Tally where
  st     : Nat
  status : Nat
  detail : Nat
  order  : Nat     -- rank among the program's completions (R382)
  pc     : Nat     -- the instruction that issued it
  deriving DecidableEq, Repr

/-- An IDLE tally. -/
def Tally.idle : Tally := { st := 0, status := 0, detail := 0, order := 0, pc := 0 }

/-- What a program waits for at its PC. -/
inductive Stall where
  | no
  | wait (t : Nat) (noend : Bool) (a : Nat)
  | waitAny (mask a : Nat)
  | implicit (t : Nat)                    -- the WAIT of a kind A instruction (R380)
  | time (t : Nat)                        -- EVTIME
  | commit (a : Nat)                      -- RCOMMIT until its handshake (R399)
  | random (a : Nat)                      -- RANDOM until the DRBG is reseeded (R534)
  | atom (a : Nat)                        -- a remote access
  deriving DecidableEq, Repr

/-- A submission entry copied into the sequencer (R338). -/
structure EntryCopy where
  index : Nat
  words : List W64
  bad   : Option (Nat × Nat)   -- status and DETAIL with which it completes unstarted
  deriving DecidableEq, Repr

/-- An attention invoke as it arrived (R347). -/
structure Invoke where
  link : Nat
  pkt  : Packet
  deriving DecidableEq, Repr

/-- A program in progress and its registers (Table 10.1). -/
structure Prog where
  entry     : EntryCopy
  invoke    : Option Invoke
  words     : List W64          -- program store (R365)
  pc        : Nat
  ctx       : Nat
  s         : Tab W64
  p         : NSet              -- predicates p1 to p7 that are 1
  d         : Tab (List W64)
  t         : Tab Tally
  stall     : Stall
  fault     : Option (Nat × Nat × Nat)   -- status, DETAIL, FAULT_PC
  ended     : Bool              -- its last instruction has retired
  restarts  : Nat               -- times it has been restarted (R487)
  failed    : Bool              -- its core has failed; a restart waits for its tallies (R388)
  retries   : Option Nat        -- sum of the DETAILs of OK_RETRIED tallies
  orders    : Nat               -- completions so far
  core      : Nat               -- cluster × 16 + logical core
  deriving DecidableEq, Repr

/-- A completion entry (Table 09.2). -/
structure Completion where
  index     : Nat
  status    : Nat
  restarted : Bool
  pc        : Nat
  user      : Nat
  detail    : Nat
  ret       : Nat
  notify    : Bool
  pauses    : Bool    -- it pauses the ring with cause UNIT_FAULT (Table 09.4)
  deriving DecidableEq, Repr

/-- A ring beside its registers. -/
structure Ring where
  fetched : List EntryCopy      -- fetched and not started, oldest first
  invokes : List Invoke
  consec  : Nat                 -- invokes taken since the last submission entry (R347)
  prog    : Option Prog
  held    : Option Completion   -- a completion that could not be written
  lastIrq : Option Nat          -- tick of the last completion interrupt
  irqDue  : Bool                -- a NOTIFY completion waits for the end of the gap (R350)
  hold    : Bool                -- the steward's HOLD (R354)
  deriving DecidableEq, Repr

/-- A ring with nothing queued. -/
def Ring.init : Ring :=
  { fetched := [], invokes := [], consec := 0, prog := none, held := none, lastIrq := none, irqDue := false, hold := false }

/-- A Stipple core as rings see it: round-robin position, whose contents it holds, and its local store (R346, R364). -/
structure Core where
  last  : Nat
  part  : Option Nat
  store : List Host.Cell
  deriving DecidableEq, Repr

/-- A core just cleared. -/
def Core.init : Core := { last := 0, part := none, store := [] }

/-- A DMA task of COPY or FILL (Table 10.5), with a remote side's requests. -/
structure DmaTask where
  ring    : Nat
  t       : Nat
  fill    : Bool
  f       : List W64
  pos     : Nat                     -- bytes moved so far
  waits   : Bool                    -- a request of its remote side waits for its response
  deriving DecidableEq, Repr

/-- Rings, cores and DMA movers. -/
structure RingState where
  ring    : Tab Ring                -- rings 0–127, and the SM's rings 128–131
  core    : Tab Core                -- by cluster × 16 + logical core
  dma     : List DmaTask
  deriving DecidableEq, Repr

/-- Rings with nothing queued. -/
def RingState.init : RingState := { ring := [], core := [], dma := [] }

end Sys2Proof.Machine
end

