-- ==== Sys2Proof/Machine/StateFab.lean ====
section
/-! DEFINITION. The state of the fabric ports, of Campion and of Sorrel (chapters 07 and 08). -/

namespace Sys2Proof.Machine

/-- One flit (Table 07.3): its header fields and its 240-byte slot area. -/
structure Flit where
  seq      : Nat
  ack      : Nat
  ackV     : Bool
  nak      : Bool
  type     : Nat        -- 0 PAYLOAD, 1 NULL, 2 LCF, 3 TRAIN
  start    : Nat        -- START, bit k for slot k
  keyPhase : Bool
  cont     : Bool
  slots    : List Byte
  deriving DecidableEq, Repr

/-- A received position of the window in progress. -/
structure RxPos where
  flit : Flit
  good : Bool           -- the CRC and the FEC passed
  deriving DecidableEq, Repr

/-- A direction's key and salt (R278). -/
structure LinkKey where
  key  : List Byte
  salt : List Byte
  deriving DecidableEq, Repr

/-- What the TRAIN flits of the two ends say. -/
structure TrainMsg where
  lanes : List (BitVec 9)   -- lanes of each group the peer marked good, by group number
  vcs   : Nat               -- the peer's VCS, 2 to 8
  rate  : Bool              -- the peer's RATE
  agree : Bool              -- octet order and labels agree
  deriving DecidableEq, Repr

/-- One link beside its registers, kept under its lead group (R237, R265 to R281). -/
structure Link where
  bufw      : Nat                -- FP_n_BUFW as the last link reset applied it
  own       : Tab Nat            -- lanes of each group marked good here, by group
  rxWin     : List RxPos         -- positions of the window being received
  rxNext    : Nat                -- PAYLOAD flits released; modulo 4096, the sequence number released next
  nakSent   : Bool
  rxPart    : List Byte          -- slots of a packet whose end has not arrived
  txNext    : Nat                -- PAYLOAD flits sent; modulo 4096, the sequence number sent next
  unacked   : List Flit          -- replay buffer, oldest first
  resend    : List Flit          -- flits a NAK asks for
  resends   : Nat                -- resends of the oldest unacknowledged flit (R269)
  nakDue    : Bool               -- the next flit carries NAK
  txWins    : Nat                -- window counter of the transmitter
  rxWins    : Nat                -- window counter of the receiver
  txLcf     : List Byte          -- slot area of the LCF last sent
  rxLcf     : List Byte          -- slot area of the LCF last received
  errFails  : Nat                -- CRC-failed positions in the error window (R270)
  errPos    : Nat                -- positions in the error window
  retrains  : List Nat           -- ticks at which fast retrains began, newest first
  retrained : Option Nat         -- tick at which the last fast retrain completed
  given     : Tab Nat            -- cumulative credit given, by 2v + c
  taken     : Tab Nat            -- slots received against it
  peerGiven : Tab Nat            -- CREDIT counters last received
  used      : Tab Nat            -- slots sent against them
  txKey     : Option LinkKey
  rxKey     : Option LinkKey
  txNew     : Option LinkKey     -- key of an update that waits for a window boundary
  rxNew     : Option LinkKey
  txOn      : Bool               -- windows are sent encrypted
  rxOn      : Bool               -- windows are received encrypted
  txPhase   : Bool
  rxPhase   : Bool
  encNext   : Bool               -- the next LCF sent carries ENC_NEXT
  keyWins   : Nat                -- windows the sending key has covered
  unattAt   : Option Nat         -- tick of the last FAB_UNATT_DATA
  deriving DecidableEq, Repr

/-- A link just reset. -/
def Link.init : Link :=
  { bufw := 0, own := [], rxWin := [], rxNext := 0, nakSent := false, rxPart := [], txNext := 0, unacked := [],
    resend := [], resends := 0, nakDue := false, txWins := 0, rxWins := 0, txLcf := [], rxLcf := [], errFails := 0,
    errPos := 0, retrains := [], retrained := none, given := [], taken := [], peerGiven := [], used := [], txKey := none,
    rxKey := none, txNew := none, rxNew := none, txOn := false, rxOn := false, txPhase := false, rxPhase := false,
    encNext := false, keyWins := 0, unattAt := none }

/-- An entry of the atomic memo (R287, R288). -/
structure MemoEntry where
  src    : Nat
  uid    : Nat
  status : Nat
  old    : List Byte
  sent   : Nat          -- tick at which its response was sent
  deriving DecidableEq, Repr

/-- Whose request a node-originated request is. -/
inductive ReqOwner where
  | dma (ring t : Nat)       -- a COPY or FILL, or the return copy of an attention program (R462)
  deriving DecidableEq, Repr

/-- A node-originated request that waits for its response (R283, R284). -/
structure NodeReq where
  tag    : Nat
  owner  : ReqOwner
  pkt    : Packet
  tries  : Nat          -- attempts made
  budget : Nat
  retry  : Nat          -- ms
  deriving DecidableEq, Repr

/-- A CLAIM (Table 08.1). -/
structure Claim where
  hops   : Nat
  prio   : Nat
  inc    : Nat
  uid    : Nat
  nonce  : Nat
  gen    : Nat
  parent : Nat
  deriving DecidableEq, Repr

/-- A best claim (R303). -/
structure Best where
  prio  : Nat
  uid   : Nat
  inc   : Nat
  nonce : Nat
  gen   : Nat
  hops  : Nat
  link  : Option Nat     -- parent link
  deriving DecidableEq, Repr

/-- A REPORT as it was received (Table 08.1). -/
structure Report where
  child : Option Nat     -- link of the child it came through; none for the node's own
  data  : List Byte      -- the 112 bytes
  deriving DecidableEq, Repr

/-- What the node knows of the neighbour on a link, beside TOPO_NBR. -/
structure Nbr where
  claim : Option Claim
  done  : Option Nat     -- COUNT of its REPORT_DONE
  excl  : Bool           -- marked by an ASSIGN (R302)
  clash : Bool           -- its HELLO's MODE or LABEL does not match (R302)
  seq   : Nat            -- SEQ of the last SYNC_REQ sent
  open_ : Bool           -- its response has not been used
  deriving DecidableEq, Repr

/-- A neighbour not yet heard of. -/
def Nbr.init : Nbr := { claim := none, done := none, excl := false, clash := false, seq := 0, open_ := false }

/-- Campion beside its registers. -/
structure Campion where
  best       : Option Best
  barred     : NSet
  dead       : List (Nat × Nat)          -- UID and INCARNATION of dead marks
  dups       : NSet                      -- UIDs for which a DUP has been sent
  nbr        : Tab Nbr                   -- by lead group
  quiet      : Bool                      -- the quiet timer runs
  reports    : List Report
  reported   : Bool                      -- own REPORT and REPORT_DONE sent, or the walk done
  addrs      : List (Nat × Nat)          -- the coordinator's assignments: UID and address
  beaconSeq  : Nat
  topGen     : Nat                       -- highest TOPO_GEN held or received
  deriving DecidableEq, Repr

/-- Campion as reset leaves it. -/
def Campion.init : Campion :=
  { best := none, barred := [], dead := [], dups := [], nbr := [], quiet := false, reports := [], reported := false,
    addrs := [], beaconSeq := 0, topGen := 0 }

/-- Sorrel beside its registers: the servo of R317, in units of 2^-24 ns. -/
structure Sorrel where
  rem     : Nat        -- fraction below 2^-24 ns, in 50,000ths
  corr    : Int        -- correction spread over 50,000 TIMEBASE cycles
  integ   : Int
  first   : Bool       -- the next traceable exchange is the first since a master change
  goodRun : Nat        -- consecutive exchanges within LOCK_THR
  badRun  : Nat        -- consecutive exchanges outside 4 × LOCK_THR
  corrEnd : Nat        -- tick at which the correction ends
  deriving DecidableEq, Repr

/-- Sorrel as reset leaves it. -/
def Sorrel.init : Sorrel :=
  { rem := 0, corr := 0, integ := 0, first := true, goodRun := 0, badRun := 0, corrEnd := 0 }

/-- Fabric ports, Campion and Sorrel. -/
structure FabState where
  links    : Tab Link             -- by lead group
  applied  : Tab Nat              -- FP_n_CTL of each group as its link took it on leaving RESET
  peerAddr : Tab Nat              -- fabric address of the peer on each link
  digests  : Tab (List Nat)       -- SHA-384 digests of the peer's certificate chain, as 384-bit numbers (R525)
  memo     : List MemoEntry       -- oldest first
  memoFull : Option Nat           -- tick of the last FAB_MEMO_FULL
  waiting  : List (Nat × Packet)  -- received requests that wait for memory or an invoke queue, with their link
  reqs     : List NodeReq
  nextTag  : Nat
  flits    : List (Nat × Flit)    -- flits sent, with their link
  campion  : Campion
  sorrel   : Sorrel
  assigned : Bool                 -- an ASSIGN has been applied since the last reset (R781)
  deriving DecidableEq, Repr

/-- Fabric ports after reset. -/
def FabState.init : FabState :=
  { links := [], applied := [], peerAddr := [], digests := [], memo := [], memoFull := none, waiting := [], reqs := [], nextTag := 0,
    flits := [], campion := Campion.init, sorrel := Sorrel.init, assigned := false }

end Sys2Proof.Machine
end

