-- ==== Sys2Proof/Machine/StateIo.lean ====
section
/-! DEFINITION. The state of the audit log, of trust, and of the press side (chapters 14 to 19). -/

namespace Sys2Proof.Machine

/-- A response of the SM to a steward command (Table 14.8's response header). -/
structure SmResponse where
  sess    : Option Nat
  cmd     : Nat
  status  : Nat
  tag     : Nat
  detail  : Nat
  results : List Byte
  deriving DecidableEq, Repr

/-- What an ISSUANCE record says of a page (Table 15.2). -/
structure IssueInfo where
  part    : Nat
  hash    : List Byte     -- plate SHA-384
  job     : Nat
  page    : Nat
  sheet   : Nat
  attempt : Nat
  mode    : Nat           -- byte 62: side, streaming mode, 2400 dpi
  deriving DecidableEq, Repr

/-- What follows once a record is in the log. -/
inductive LogCont where
  | none
  | respond (r : SmResponse)                              -- a steward command completes (R530)
  | tally (ring t status detail : Nat)                    -- a tally completes
  | pageDone (id : Nat) (status : Nat) (requeue : Bool)   -- the record of a page is written (R629, R630)
  deriving DecidableEq, Repr

/-- Record classes (R546). -/
inductive LogClass where
  | reserved | internal | ordinary
  deriving DecidableEq, Repr

/-- A record that waits to enter the log. -/
structure LogRec where
  cls      : LogClass
  urgent   : Bool            -- CKPT and BANK_FAIL records, which come next (R544, R556)
  type     : Nat
  merged   : Bool
  subject  : Nat
  payload  : List Byte
  resv     : Option Nat      -- the reservation it fills
  accepted : Bool
  cont     : LogCont
  deriving DecidableEq, Repr

/-- A reservation (R545). -/
structure Reservation where
  id     : Nat
  info   : Option IssueInfo      -- the page it is for; none for a proof commit
  imaged : Bool                  -- its page is being imaged
  deriving DecidableEq, Repr

/-- A checkpoint whose signature is awaited (R544, R560). -/
structure Ckpt where
  k      : Nat
  signed : Nat       -- SEQ of the record it signs
  digest : List Byte
  deriving DecidableEq, Repr

/-- Who waits for a reservation: a page, or the commit of a ring. -/
inductive LogWant where
  | page (id : Nat)
  | commit (ring : Nat)
  deriving DecidableEq, Repr

/-- The audit log (chapter 15). -/
structure LogState where
  records   : List (Nat × List Byte)   -- records in the banks that are not retired: SEQ and the 128 bytes
  nextSeq   : Nat
  retired   : Nat
  chain     : List Byte                -- H of the last record
  failA     : Bool
  failB     : Bool
  waiting   : List LogRec
  resv      : List Reservation
  nextResv  : Nat
  wants     : List LogWant             -- who waits for a reservation, oldest first
  stepped   : Bool                     -- Sorrel has stepped since the previous record
  ckpt      : Option Ckpt
  lastCkpt  : Nat                      -- SIGNED_SEQ of the last checkpoint in the log
  carry     : Tab Nat                  -- violation counts carried into the next aggregate (R548)
  full      : Bool                     -- an ordinary record or a reservation waits
  nearFull  : Bool                     -- F is below 1,024
  lastEvent : Option Nat               -- tick of the last LOG_RECORDS
  recordsDue : Bool                    -- TAIL has advanced and LOG_RECORDS waits for its gap (R552)
  tombSeq   : Option Nat               -- SEQ of the TOMBSTONE record (R561)
  started   : Bool                     -- the first records of this start have been handed to it (R560)
  halted    : Bool                     -- no bank is left; SEALED-HALT (R531, R557)
  deriving DecidableEq, Repr

/-- An empty log before its first chain has started. -/
def LogState.init : LogState :=
  { records := [], nextSeq := 0, retired := 0, chain := [], failA := false, failB := false, waiting := [], resv := [],
    nextResv := 0, wants := [], stepped := false, ckpt := none, lastCkpt := 0, carry := [], full := false, nearFull := false,
    lastEvent := none, recordsDue := false, tombSeq := none, started := false, halted := false }

end Sys2Proof.Machine
end

