-- ==== Sys2Proof/Machine/StateTrust.lean ====
section
/-! DEFINITION. The state of the security monitor: boot images, keys, sessions, grants and steward commands, and the state
of the test island (chapters 14 and 21). -/

namespace Sys2Proof.Machine

/-- What one boot chip select holds: the image header, its body, and the board configuration record the header declares
(Table 14.1, R503). -/
structure Image where
  header : List Byte
  body   : List Byte
  board  : List Byte
  deriving DecidableEq, Repr

/-- An owner record (Table 14.7). -/
structure OwnerRec where
  seq    : Nat
  anchor : Nat           -- STEWARD_ANCHOR
  roots  : List Nat      -- FABRIC_ROOT_0–7; zero is unused
  deriving DecidableEq, Repr

/-- The keys ROM derives (R504): private keys as numbers, SEAL as bytes. -/
structure Keys where
  deviceId : Nat
  cdi      : List Byte
  alias_   : Nat
  log      : Nat
  sealKey  : List Byte
  deriving DecidableEq, Repr

/-- An SPDM session: its transport (0 PCIe DOE, 1 MCTP over VDM, 2 MCTP over I3C, 3 Yarrow, 4 SMB mailbox), whether it is
mutually authenticated, the SHA-384 of the root SPKI of the requester's chain, and the link of a Yarrow session. -/
structure Session where
  id        : Nat
  transport : Nat
  mutualAuth : Bool
  root      : Nat
  steward   : Bool
  link      : Nat
  deriving DecidableEq, Repr

/-- A selective IDE stream (R523): 0 keyed, 1 secure. -/
structure IdeStream where
  id     : Nat
  secure : Bool
  deriving DecidableEq, Repr

/-- The header of a steward command: its session and TAG; no session outside one. -/
structure StewReq where
  sess : Option Nat
  tag  : W32
  deriving DecidableEq, Repr

/-- A teardown in progress (R224): the partition, its initiator code, whether it writes records, and who waits for VOID. -/
structure Tear where
  part   : Nat
  init   : Nat
  record : Bool
  req    : Option StewReq
  ring   : Option (Nat × Nat)
  deriving DecidableEq, Repr

/-- A withdrawal in progress (R197), and who waits for its end. -/
structure Withdraw where
  region : Nat
  req    : Option StewReq
  ring   : Option (Nat × Nat)
  deriving DecidableEq, Repr

/-- A release of granules in progress (R193): the partition, the run of the order, the granules not yet FREE, and who waits
for the end. -/
structure Release where
  part  : Nat
  first : Nat
  count : Nat
  left  : NSet
  req   : Option StewReq
  ring  : Option (Nat × Nat)
  deriving DecidableEq, Repr

/-- What the SM sends: a steward response, measurement blocks, an interface report, a TDISP or IDE_KM answer (accepted or
not). -/
inductive SmOut where
  | steward (r : SmResponse)
  | measurements (blocks : List (Nat × List Byte))
  | report (part trust granules : Nat) (owned admits : List Byte)
  | answer (ok : Bool)
  deriving DecidableEq, Repr

/-- A CCC or dynamic address assignment that the I3C target supports (R716). -/
inductive I3cCcc where
  | rstdaa
  | setdasa (static dynamic : BitVec 7)
  | setaasa
  | entdaa (dynamic : BitVec 7)
  | enec (inBand : Bool)
  | disec (inBand : Bool)
  | getpid | getbcr | getdcr | getmwl | getmrl
  deriving DecidableEq, Repr

/-- An MCTP message: Set Endpoint ID, another control message, SPDM, a secured message, a vendor-defined command, or a type that is
not supported (R717). -/
inductive MctpMsg where
  | setEid (eid : Byte)
  | control
  | spdm (b : List Byte)
  | secured (b : List Byte)
  | vendor (vendorId : BitVec 16) (cmd : Byte)
  | other (type : Byte)
  deriving DecidableEq, Repr

/-- The way a register access takes: PF0's BAR0, with the IDE stream it arrives on, or a partition's window (R517, R704). -/
inductive RegPath where
  | pf0 (stream : Option Byte)
  | window (p : Fin 16)
  deriving DecidableEq, Repr

/-- What lies outside the node and decides what some register writes do: the session of a mailbox request, the receiver's answer on
AUX, the comparator inputs that are high, and the unfetched entries of a host queue. -/
structure RegEnv where
  sess  : Option Nat
  reply : Option (List Byte)
  high  : BitVec 4
  host  : List (List Byte)
  deriving DecidableEq, Repr

/-- A message being reassembled from a link (R511, R512): TYPE, MSG_SEQ and the bytes so far. -/
structure Reasm where
  type : Nat
  seq  : Nat
  data : List Byte
  deriving DecidableEq, Repr

/-- The security monitor beside its registers. -/
structure TrustState where
  flash     : Tab Image                  -- what the two boot chip selects hold
  running   : Option Image               -- the running image
  keys      : Option Keys                -- keys in AON (R504)
  udsLocked : Bool                       -- the UDS fuses are locked against reading
  retention : Nat                        -- number of the TRNG value that is RETENTION
  owner     : Option OwnerRec            -- owner record in force
  ownerA    : Option OwnerRec            -- valid flash copies
  ownerB    : Option OwnerRec
  sessions  : List Session
  grant     : Option (Nat × Nat)         -- granted IDE stream and the session that made the grant (R517)
  streams   : List IdeStream
  staged    : List Byte                  -- staging buffer of FW_STAGE
  mailbox   : Option (List Byte)         -- the request in progress in SMB_BUF
  trngFail  : Bool                       -- the TRNG health tests have failed
  drbg      : Nat                        -- DRBG requests since it was reseeded (R506)
  tears     : List Tear
  withdraws : List Withdraw
  releases  : List Release
  haltTear  : Bool                       -- SEALED-HALT: partitions are torn down once the page in progress is done (R531)
  halted    : Bool                       -- SEALED-HALT
  fresh     : Bool                       -- the last reset was a power-on or warm reset (R513, R537)
  reasm     : Tab Reasm                  -- messages in reassembly, by link
  msgs      : List (Nat × Nat × List Byte)   -- whole messages received: link, TYPE and bytes
  out       : List (Option Nat × SmOut)      -- what the SM has sent, with its session
  deriving DecidableEq, Repr

/-- The security monitor before its first boot. -/
def TrustState.init : TrustState :=
  { flash := [], running := none, keys := none, udsLocked := false, retention := 0, owner := none, ownerA := none,
    ownerB := none, sessions := [], grant := none, streams := [], staged := [], mailbox := none, trngFail := false, drbg := 0,
    tears := [], withdraws := [], releases := [], haltTear := false, halted := false, fresh := true, reasm := [], msgs := [], out := [] }

/-- A running test job (Table 21.3). -/
structure TestJob where
  kind     : Nat
  pattern  : Nat
  loop     : Nat
  inst     : Nat
  array    : Nat
  duration : Nat
  thrSent  : Bool     -- TST_ERR_THR has been raised for it
  deriving DecidableEq, Repr

/-- The test island beside its registers (chapter 21). -/
structure TestState where
  ir     : Nat                 -- instruction in the TAP
  pads   : Option Nat          -- the pad-control instruction in force
  wir    : Tab Nat             -- wrapper instructions, by island; WS_BYPASS unlisted
  job    : Option TestJob
  wiped  : Bool                -- a KIND 3 job has destroyed a channel's contents (R744)
  enDue  : NSet                -- groups whose EN is written 1 at the job's end (Table 21.7)
  deriving DecidableEq, Repr

/-- The test island after a reset: IDCODE in the TAP, every wrapper in WS_BYPASS. -/
def TestState.init : TestState := { ir := 1, pads := none, wir := [], job := none, wiped := false, enDue := [] }

end Sys2Proof.Machine
end

