-- ==== Sys2Proof/Syntax.lean ====
section
/-! DEFINITION. The commands of the block, one constructor per row of the command table, with the operands that come
from outside the node. -/

namespace Sys2Proof

open Sys2Proof.Machine


/-- The commands of the block: one constructor per row of the command table. -/
inductive Instr where
  /-- REGISTER_WRITE (R5). A register access: its way, offset, width, value, what its effect finds outside the node, and whether the SM wins the same cycle. -/
  | registerWrite (path : RegPath) (off : BitVec 24) (wide : Bool) (v : W64) (e : RegEnv) (lost : Bool)
  /-- LOWER_HALF_READ (R12). A register read: its way, offset and width. -/
  | lowerHalfRead (path : RegPath) (off : BitVec 24) (wide : Bool)
  /-- VDD_AON_APPLY (R15). -/
  | vddAonApply
  /-- PORST_N_FALL (R75). -/
  | porstNFall
  /-- PORST_N_RISE (R51). The levels of TEST_MODE and STRAP_3 to STRAP_0. -/
  | porstNRise (testMode : Bool) (strap : BitVec 4)
  /-- WRST_N_PULSE (R57). The length of the low pulse in AON cycles. -/
  | wrstNPulse (cycles : Nat)
  /-- MRST_N_PULSE (R57). The length of the low pulse in AON cycles. -/
  | mrstNPulse (cycles : Nat)
  /-- WARM_RESET_REQUEST (R110). `lost`: superseded in the same cycle (R526). -/
  | warmResetRequest (lost : Bool)
  /-- MRW_RESET_REQUEST (R110). `lost`: superseded in the same cycle (R526). -/
  | mrwResetRequest (lost : Bool)
  /-- PCIE_PERST_N_ASSERT (R66). -/
  | pciePerstNAssert
  /-- PRS_ILK_IN_FALL (R63). -/
  | prsIlkInFall
  /-- VDD_IO33_LOSS (R64). -/
  | vddIo33Loss
  /-- CRYSTAL_STOP (R68). -/
  | crystalStop
  /-- THERMAL_TRIP (R108). -/
  | thermalTrip
  /-- UNDERVOLTAGE (R103). The rail: VDD_CORE, VDD_SRAM, VDDQ_MEM, VDD_SER075. -/
  | undervoltage (rail : Fin 4)
  /-- SM_WATCHDOG_EXPIRY (R107). -/
  | smWatchdogExpiry
  /-- RESET_PROLOGUE_DONE (R93). -/
  | resetPrologueDone
  /-- MRW_PROLOGUE_TIMEOUT (R96). -/
  | mrwPrologueTimeout
  /-- ISLAND_RESET (R87). -/
  | islandReset (n : Fin 25)
  /-- PARTITION_RESET (R89). -/
  | partitionReset (p : Fin 16)
  /-- FIRMWARE_IMAGE_LOADED (R500). What a programmer has put into the two chip selects, whether it erased the records, and whether every wrapped key verifies. -/
  | firmwareImageLoaded (flash : Option (Image × Image)) (erase : Bool) (keysOk : Bool)
  /-- SELF_TEST_COMPLETE (R472). The units and SRAM rows that fail. -/
  | selfTestComplete (engines : List (Fin 4 × Fin 13)) (cores : List (Fin 4 × Fin 18)) (rows : List (Byte × BitVec 16 × BitVec 16))
  /-- FABRIC_READY (R83). Links, by lead group, whose peer cannot be admitted. -/
  | fabricReady (held : List Nat)
  /-- MEM_REQUEST_HOLD_EXPIRY (R84). The n-th held request. -/
  | memRequestHoldExpiry (n : Nat)
  /-- ATOM_WINDOW_END (R100). -/
  | atomWindowEnd
  /-- AVSBUS_ACK (R81). The next step of 5 mV, up or down. -/
  | avsbusAck (up : Bool)
  /-- AVS_COMMAND_TIMEOUT (R104). -/
  | avsCommandTimeout
  /-- SYN_ENABLE (R119). `sm`: the SM writes; otherwise the steward. -/
  | synEnable (sm : Bool) (n : Fin 12)
  /-- SYN_DISABLE (R119). -/
  | synDisable (sm : Bool) (n : Fin 12)
  /-- SYN_CONFIG_WRITE (R122). 0 CTL, 1 FRAC, 2 LOCK, 3 GUARD. -/
  | synConfigWrite (sm : Bool) (n : Fin 12) (reg : Fin 4) (v : W32)
  /-- SYN_CTL_STEWARD_WRITE (R126). -/
  | synCtlStewardWrite (n : Fin 12) (v : W32)
  /-- SYN_CTL_SM_APPLY (R126). -/
  | synCtlSmApply (n : Fin 12)
  /-- SYN_LOCK_DECLARED (R116). -/
  | synLockDeclared (n : Fin 12)
  /-- SYN_LOSS_OF_LOCK (R117). -/
  | synLossOfLock (n : Fin 12)
  /-- SYN_LOSS_OF_REFERENCE (R118). -/
  | synLossOfReference (n : Fin 12)
  /-- SYN_RELOCK (R119). -/
  | synRelock (n : Fin 12)
  /-- MONITOR_WINDOW_END (R123). The count of output cycles in the window; `lockSame`: lock is declared at the same instant. -/
  | monitorWindowEnd (n : Fin 12) (count : Nat) (lockSame : Bool)
  /-- SYN_COAST_LIMIT (R125). -/
  | synCoastLimit (n : Fin 12)
  /-- SYN11_LOCK_TIMEOUT (R142). -/
  | syn11LockTimeout
  /-- REFCLK_RETURN (R143). -/
  | refclkReturn
  /-- CLKOUT_WRITE (R131). -/
  | clkoutWrite (n : Fin 4) (v : W32)
  /-- QUADRANT_HOLD_EXPIRY (R136). -/
  | quadrantHoldExpiry (q : Fin 4)
  /-- QUADRANT_QUIESCED (R778). -/
  | quadrantQuiesced (q : Fin 4)
  /-- QUADRANT_RECENTRE_DONE (R136). -/
  | quadrantRecentreDone (q : Fin 4)
  /-- LINE_READ (R164). `line` is PPA >> 6; `errs` are symbol differences (line, position and difference) that have appeared in stored codewords, `l2bad` L2 entries that have become uncorrectable. -/
  | lineRead (line : Nat) (errs : List (Nat × List (Nat × Nat))) (l2bad : List Nat)
  /-- LINE_WRITE (R165). -/
  | lineWrite (line : Nat) (data : List Byte)
  /-- PARTIAL_LINE_WRITE (R167). Bit i of the mask enables byte i. -/
  | partialLineWrite (line : Nat) (mask : W64) (data : List Byte)
  /-- LAZY_CLEAN_VISIT (R169). -/
  | lazyCleanVisit
  /-- PATROL_SCRUB_READ (R170). -/
  | patrolScrubRead (errs : List (Nat × List (Nat × Nat)))
  /-- MC_CMD_RETIRE (R178). The steward's write to MC_n_CMD. -/
  | mcCmdRetire (ch : Fin 24) (v : W32)
  /-- SOFT_PPR_DONE (R181). The n-th soft repair in progress. -/
  | softPprDone (n : Nat)
  /-- HARD_PPR_CMD (R182). The steward's write to MEMG_PPR_CMD. -/
  | hardPprCmd (v : W32)
  /-- HARD_PPR_DONE (R182). -/
  | hardPprDone
  /-- RCD_ALERT (R184). Whether the replay succeeds, or training is lost, is the DIMM's. -/
  | rcdAlert (ch : Fin 24) (replayOk : Bool) (lostTraining : Bool)
  /-- CHANNEL_RETRAIN_DONE (R184). -/
  | channelRetrainDone (ch : Fin 24) (ok : Bool)
  /-- MEMORY_START (R185). The 24 channels' populations as their SPDs report them. -/
  | memoryStart (pops : List DimmPop)
  /-- CHANNEL_TRAINING_DONE (R106). -/
  | channelTrainingDone (ch : Fin 24) (ok : Bool)
  /-- GT_ENTRY_REWRITE (R228). `bad`: the entry has become uncorrectable; otherwise the SM rewrites it. -/
  | gtEntryRewrite (g : Fin 16384) (bad : Bool)
  /-- VIOLATION_AGGREGATE (R213). -/
  | violationAggregate
  /-- INV (R214). -/
  | inv (k : Fin 6) (p : Packet)
  /-- PW_INV_SUBMIT (R223). -/
  | pwInvSubmit (p : Fin 16) (w3 : W64)
  /-- INVALIDATION_ACK (R216). -/
  | invalidationAck (p : Fin 16)
  /-- PW_XLT_CTX_WRITE (R227). -/
  | pwXltCtxWrite (p : Fin 16) (v : W64)
  /-- GRANULE_RELEASE_COMPLETE (R193). -/
  | granuleReleaseComplete (g : Fin 16384)
  /-- TEARDOWN_DRAIN_COMPLETE (R224). -/
  | teardownDrainComplete (p : Fin 16)
  /-- REGION_WITHDRAW_COMPLETE (R197). -/
  | regionWithdrawComplete (r : Fin 16)
  /-- FLIT_RECEIVE (R266). The 256 bytes of one position; whether its FEC was correctable; the corrected symbols and uncorrectable codewords of its decoders, by group; where a Sorrel message's arrival lies in its TIMEBASE cycle and the time until an answer leaves, in 2^-24 ns. -/
  | flitReceive (k : Fin 6) (b : List Byte) (fecOk : Bool) (fec : List (Fin 6 × Byte × Byte)) (stamp : BitVec 26) (turn : BitVec 40)
  /-- NAK_RECEIVE (R268). -/
  | nakReceive (k : Fin 6) (ack : Option (BitVec 12))
  /-- FAST_RETRAIN_DONE (R271). -/
  | fastRetrainDone (k : Fin 6)
  /-- FAST_RETRAIN_TIMEOUT (R271). -/
  | fastRetrainTimeout (k : Fin 6)
  /-- ERROR_WINDOW_END (R270). CRC-failed positions among those of the window that no FLIT_RECEIVE delivered. -/
  | errorWindowEnd (k : Fin 6) (more : Nat)
  /-- PARTNER_LOSS (R273). `err`: the error-window limit is passed in the same cycle. -/
  | partnerLoss (k : Fin 6) (err : Bool)
  /-- HOLDOFF_EXPIRY (R274). -/
  | holdoffExpiry (k : Fin 6)
  /-- LRST (R274). -/
  | lrst (n : Fin 6)
  /-- GROUP_EN_CLEAR (R274). -/
  | groupEnClear (n : Fin 6)
  /-- LINK_DETECT (R275). Lanes with signal, by group. -/
  | linkDetect (k : Fin 6) (sig : List (BitVec 9))
  /-- EQUALIZATION_DONE (R275). -/
  | equalizationDone (k : Fin 6)
  /-- LANE_TEST_DONE (R275). Lanes that passed the test, by group. -/
  | laneTestDone (k : Fin 6) (good : List (BitVec 9))
  /-- TRAIN_CONFIG (R276). -/
  | trainConfig (k : Fin 6) (m : TrainMsg)
  /-- LCF_SEND (R245). -/
  | lcfSend (k : Fin 6)
  /-- LINK_KEYS_INSTALLED (R278). The session's export master secret. -/
  | linkKeysInstalled (k : Fin 6) (secret : List Byte)
  /-- KEY_UPDATE (R280). -/
  | keyUpdate (k : Fin 6) (secret : List Byte)
  /-- RD (R252). -/
  | rd (k : Fin 6) (p : Packet)
  /-- WR (R252). -/
  | wr (k : Fin 6) (p : Packet)
  /-- WRP (R167). -/
  | wrp (k : Fin 6) (p : Packet)
  /-- ATOM (R287). -/
  | atom (k : Fin 6) (p : Packet)
  /-- FORWARD_PACKET (R259). -/
  | forwardPacket (k : Fin 6) (p : Packet)
  /-- RSP_DATA (R284). -/
  | rspData (k : Fin 6) (p : Packet)
  /-- REQUEST_RETRY_TIMEOUT (R283). The request of this TAG. -/
  | requestRetryTimeout (tag : BitVec 12)
  /-- HELLO (R302). -/
  | hello (k : Fin 6) (p : Packet)
  /-- CLAIM (R303). -/
  | claim (k : Fin 6) (p : Packet)
  /-- DUP (R305). -/
  | dup (k : Fin 6) (p : Packet)
  /-- QUIET_EXPIRY (R307). -/
  | quietExpiry
  /-- REPORT (R307). -/
  | report (k : Fin 6) (p : Packet)
  /-- REPORT_DONE (R307). -/
  | reportDone (k : Fin 6) (p : Packet)
  /-- ASSIGN (R309). -/
  | assign (k : Fin 6) (p : Packet)
  /-- BEACON_TICK (R311). -/
  | beaconTick
  /-- BEACON (R311). -/
  | beacon (k : Fin 6) (p : Packet)
  /-- BEACON_TIMEOUT (R311). -/
  | beaconTimeout
  /-- DEAD_MARK_EXPIRY (R303). -/
  | deadMarkExpiry (u : W64)
  /-- PARENT_LINK_DOWN (R304). -/
  | parentLinkDown
  /-- PRIORITY_WRITE (R299). -/
  | priorityWrite (v : Byte)
  /-- SYNC_INT_TICK (R315). Where in the TIMEBASE cycle the header slots leave, in 2^-24 ns. -/
  | syncIntTick (stamp : BitVec 26)
  /-- SYNC_REQ (R315). -/
  | syncReq (k : Fin 6) (p : Packet) (stamp : BitVec 26) (turn : BitVec 40)
  /-- SYNC_RSP (R317). -/
  | syncRsp (k : Fin 6) (p : Packet) (stamp : BitVec 26)
  /-- SORREL_HOLDOVER_TIMEOUT (R317). -/
  | sorrelHoldoverTimeout
  /-- TOPO_SRL_SET (R318). -/
  | topoSrlSet (v : W64)
  /-- RING_ENABLE (R334). The write of PW_RING_k_CFG with EN = 1. -/
  | ringEnable (r : Fin 128) (ctx : BitVec 12) (size : BitVec 5)
  /-- RING_DISABLE (R334). -/
  | ringDisable (r : Fin 128)
  /-- RING_CONFIG_WRITE (R333). Register 0 SQ_BASE, 1 CQ_BASE, 2 CFG. -/
  | ringConfigWrite (r : Fin 128) (reg : Fin 3) (v : W64)
  /-- RING_BIND_WRITE (R345). -/
  | ringBindWrite (n : Fin 128) (v : W32)
  /-- DOORBELL (R341). -/
  | doorbell (r : Fin 128) (t : W32)
  /-- FABRIC_DOORBELL (R340). -/
  | fabricDoorbell (k : Fin 6) (p : Packet)
  /-- ENTRY_FETCH (R338). `host` is what DMA reads when the queue lies in host memory. -/
  | entryFetch (r : Fin 128) (host : List Byte)
  /-- PROGRAM_START (R344). `sm` is the program the SM gives one of its own rings. -/
  | programStart (r : Fin 132) (sm : List W64)
  /-- PROGRAM_END (R344). `dmaFail`: a host DMA of the completion fails. -/
  | programEnd (r : Fin 132) (dmaFail : Bool)
  /-- COMPLETION_INTERRUPT (R350). -/
  | completionInterrupt (r : Fin 128)
  /-- CQ_HEAD_WRITE (R352). -/
  | cqHeadWrite (r : Fin 128) (v : W32)
  /-- RING_RESUME (R354). -/
  | ringResume (r : Fin 128)
  /-- RING_FLUSH (R354). `host` holds the unfetched entries of a host queue. -/
  | ringFlush (r : Fin 128) (host : List (List Byte))
  /-- STEWARD_HOLD (R353). -/
  | stewardHold (n : Fin 128)
  /-- STEWARD_RELEASE (R354). -/
  | stewardRelease (n : Fin 128)
  /-- NOP (R372). -/
  | nop (r : Fin 132) (g : Guard)
  /-- END (R372). -/
  | kcsEnd (r : Fin 132) (g : Guard)
  /-- JMP (R372). -/
  | jmp (r : Fin 132) (g : Guard) (off : BitVec 32)
  /-- LOOP (R372). -/
  | loop (r : Fin 132) (g : Guard) (a : Fin 32) (off : BitVec 32)
  /-- JZ (R372). -/
  | jz (r : Fin 132) (g : Guard) (a : Fin 32) (off : BitVec 32)
  /-- JNZ (R372). -/
  | jnz (r : Fin 132) (g : Guard) (a : Fin 32) (off : BitVec 32)
  /-- ADD (R373). -/
  | add (r : Fin 132) (g : Guard) (a : Fin 32) (b : Fin 32) (c : Fin 32)
  /-- SUB (R373). -/
  | sub (r : Fin 132) (g : Guard) (a : Fin 32) (b : Fin 32) (c : Fin 32)
  /-- MUL (R373). -/
  | mul (r : Fin 132) (g : Guard) (a : Fin 32) (b : Fin 32) (c : Fin 32)
  /-- MULHU (R373). -/
  | mulhu (r : Fin 132) (g : Guard) (a : Fin 32) (b : Fin 32) (c : Fin 32)
  /-- DIVU (R373). -/
  | divu (r : Fin 132) (g : Guard) (a : Fin 32) (b : Fin 32) (c : Fin 32)
  /-- REMU (R373). -/
  | remu (r : Fin 132) (g : Guard) (a : Fin 32) (b : Fin 32) (c : Fin 32)
  /-- AND (R373). -/
  | and (r : Fin 132) (g : Guard) (a : Fin 32) (b : Fin 32) (c : Fin 32)
  /-- OR (R373). -/
  | or (r : Fin 132) (g : Guard) (a : Fin 32) (b : Fin 32) (c : Fin 32)
  /-- XOR (R373). -/
  | xor (r : Fin 132) (g : Guard) (a : Fin 32) (b : Fin 32) (c : Fin 32)
  /-- SHL (R373). -/
  | shl (r : Fin 132) (g : Guard) (a : Fin 32) (b : Fin 32) (c : Fin 32)
  /-- SHR (R373). -/
  | shr (r : Fin 132) (g : Guard) (a : Fin 32) (b : Fin 32) (c : Fin 32)
  /-- SRA (R373). -/
  | sra (r : Fin 132) (g : Guard) (a : Fin 32) (b : Fin 32) (c : Fin 32)
  /-- MINU (R373). -/
  | minu (r : Fin 132) (g : Guard) (a : Fin 32) (b : Fin 32) (c : Fin 32)
  /-- MAXU (R373). -/
  | maxu (r : Fin 132) (g : Guard) (a : Fin 32) (b : Fin 32) (c : Fin 32)
  /-- MIN (R373). -/
  | min (r : Fin 132) (g : Guard) (a : Fin 32) (b : Fin 32) (c : Fin 32)
  /-- MAX (R373). -/
  | max (r : Fin 132) (g : Guard) (a : Fin 32) (b : Fin 32) (c : Fin 32)
  /-- ADDI (R372). -/
  | addi (r : Fin 132) (g : Guard) (a : Fin 32) (b : Fin 32) (imm : BitVec 38)
  /-- ANDI (R372). -/
  | andi (r : Fin 132) (g : Guard) (a : Fin 32) (b : Fin 32) (imm : BitVec 38)
  /-- ORI (R372). -/
  | ori (r : Fin 132) (g : Guard) (a : Fin 32) (b : Fin 32) (imm : BitVec 38)
  /-- XORI (R372). -/
  | xori (r : Fin 132) (g : Guard) (a : Fin 32) (b : Fin 32) (imm : BitVec 38)
  /-- SHLI (R372). -/
  | shli (r : Fin 132) (g : Guard) (a : Fin 32) (b : Fin 32) (sh : Fin 64)
  /-- SHRI (R372). -/
  | shri (r : Fin 132) (g : Guard) (a : Fin 32) (b : Fin 32) (sh : Fin 64)
  /-- SRAI (R372). -/
  | srai (r : Fin 132) (g : Guard) (a : Fin 32) (b : Fin 32) (sh : Fin 64)
  /-- LI (R372). -/
  | li (r : Fin 132) (g : Guard) (a : Fin 32) (imm : BitVec 38)
  /-- LIX (R372). -/
  | lix (r : Fin 132) (g : Guard) (a : Fin 32) (w : W64)
  /-- SEL (R372). -/
  | sel (r : Fin 132) (g : Guard) (a : Fin 32) (b : Fin 32) (c : Fin 32) (x : Fin 8)
  /-- TIME (R372). -/
  | time (r : Fin 132) (g : Guard) (a : Fin 32)
  /-- RINFO (R406). -/
  | rinfo (r : Fin 132) (g : Guard) (a : Fin 32)
  /-- CEQ (R372). -/
  | ceq (r : Fin 132) (g : Guard) (a : Fin 8) (b : Fin 32) (c : Fin 32)
  /-- CNE (R372). -/
  | cne (r : Fin 132) (g : Guard) (a : Fin 8) (b : Fin 32) (c : Fin 32)
  /-- CLTU (R372). -/
  | cltu (r : Fin 132) (g : Guard) (a : Fin 8) (b : Fin 32) (c : Fin 32)
  /-- CLT (R372). -/
  | clt (r : Fin 132) (g : Guard) (a : Fin 8) (b : Fin 32) (c : Fin 32)
  /-- CGEU (R372). -/
  | cgeu (r : Fin 132) (g : Guard) (a : Fin 8) (b : Fin 32) (c : Fin 32)
  /-- CGE (R372). -/
  | cge (r : Fin 132) (g : Guard) (a : Fin 8) (b : Fin 32) (c : Fin 32)
  /-- CEQI (R372). -/
  | ceqi (r : Fin 132) (g : Guard) (a : Fin 8) (b : Fin 32) (imm : BitVec 38)
  /-- CLTUI (R372). -/
  | cltui (r : Fin 132) (g : Guard) (a : Fin 8) (b : Fin 32) (imm : BitVec 38)
  /-- PAND (R372). -/
  | pand (r : Fin 132) (g : Guard) (a : Fin 8) (b : Fin 8) (c : Fin 8)
  /-- POR (R372). -/
  | por (r : Fin 132) (g : Guard) (a : Fin 8) (b : Fin 8) (c : Fin 8)
  /-- PXOR (R372). -/
  | pxor (r : Fin 132) (g : Guard) (a : Fin 8) (b : Fin 8) (c : Fin 8)
  /-- PANDN (R372). -/
  | pandn (r : Fin 132) (g : Guard) (a : Fin 8) (b : Fin 8) (c : Fin 8)
  /-- PSET (R372). -/
  | pset (r : Fin 132) (g : Guard) (a : Fin 8) (b : Fin 32)
  /-- DLD (R372). -/
  | dld (r : Fin 132) (g : Guard) (a : Fin 16) (b : Fin 32)
  /-- DST (R372). -/
  | dst (r : Fin 132) (g : Guard) (a : Fin 16) (b : Fin 32)
  /-- DGET (R372). -/
  | dget (r : Fin 132) (g : Guard) (a : Fin 32) (b : Fin 16) (x : Fin 8)
  /-- DSET (R372). -/
  | dset (r : Fin 132) (g : Guard) (a : Fin 16) (b : Fin 32) (x : Fin 8)
  /-- DSETI (R372). -/
  | dseti (r : Fin 132) (g : Guard) (a : Fin 16) (b : Fin 8) (imm : BitVec 38)
  /-- DSETX (R372). -/
  | dsetx (r : Fin 132) (g : Guard) (a : Fin 16) (b : Fin 8) (ws : List W64)
  /-- DCLR (R372). -/
  | dclr (r : Fin 132) (g : Guard) (a : Fin 16)
  /-- DMOV (R372). -/
  | dmov (r : Fin 132) (g : Guard) (a : Fin 16) (b : Fin 16)
  /-- LD (R374). -/
  | ld (r : Fin 132) (g : Guard) (a : Fin 32) (b : Fin 32) (sz : Fin 4) (imm : BitVec 36)
  /-- LDS (R374). -/
  | lds (r : Fin 132) (g : Guard) (a : Fin 32) (b : Fin 32) (sz : Fin 4) (imm : BitVec 36)
  /-- ST (R374). -/
  | st (r : Fin 132) (g : Guard) (a : Fin 32) (b : Fin 32) (sz : Fin 4) (imm : BitVec 36)
  /-- KCS_ATOM (R374). -/
  | kcsAtom (r : Fin 132) (g : Guard) (a : Fin 32) (b : Fin 32) (c : Fin 32) (op : Fin 8) (wide : Bool)
  /-- COPY (R377). -/
  | copy (r : Fin 132) (g : Guard) (da : Fin 16) (t : Fin 16)
  /-- FILL (R377). -/
  | fill (r : Fin 132) (g : Guard) (da : Fin 16) (t : Fin 16)
  /-- LSLD (R372). -/
  | lsld (r : Fin 132) (g : Guard) (a : Fin 32) (b : Fin 32) (sz : Fin 4) (imm : BitVec 36)
  /-- LSST (R372). -/
  | lsst (r : Fin 132) (g : Guard) (a : Fin 32) (b : Fin 32) (sz : Fin 4) (imm : BitVec 36)
  /-- CTXSET (R372). -/
  | ctxset (r : Fin 132) (g : Guard) (b : Fin 32)
  /-- PLOPEN (R390). -/
  | plopen (r : Fin 132) (g : Guard) (da : Fin 16) (a : Fin 32)
  /-- PLREAD (R391). -/
  | plread (r : Fin 132) (g : Guard) (da : Fin 16) (a : Fin 32) (f : Fin 8)
  /-- PLSKIP (R391). -/
  | plskip (r : Fin 132) (g : Guard) (da : Fin 16) (a : Fin 32)
  /-- PLEMIT (R393). -/
  | plemit (r : Fin 132) (g : Guard) (t : Fin 16) (a : Fin 32) (b : Fin 32) (c : Fin 32)
  /-- PLEND (R394). -/
  | plend (r : Fin 132) (g : Guard) (t : Fin 16)
  /-- HGEMM (R424). -/
  | hgemm (r : Fin 132) (g : Guard) (da : Fin 16) (t : Fin 16)
  /-- HSMAX (R427). -/
  | hsmax (r : Fin 132) (g : Guard) (da : Fin 16) (t : Fin 16)
  /-- HELT (R428). -/
  | helt (r : Fin 132) (g : Guard) (da : Fin 16) (t : Fin 16)
  /-- ATTN (R395). -/
  | attn (r : Fin 132) (g : Guard) (da : Fin 16) (db : Fin 16) (t : Fin 16)
  /-- AMERGE (R455). -/
  | amerge (r : Fin 132) (g : Guard) (da : Fin 16) (t : Fin 16)
  /-- RDRAW (R568). `lost`: another order wins the same cycle (R355, R526). -/
  | rdraw (r : Fin 132) (g : Guard) (da : Fin 16) (t : Fin 16) (lost : Bool)
  /-- RCLEAR (R567). -/
  | rclear (r : Fin 132) (g : Guard) (da : Fin 16) (t : Fin 16) (lost : Bool)
  /-- RCOMMIT (R593). -/
  | rcommit (r : Fin 132) (g : Guard) (da : Fin 16) (a : Fin 32) (lost : Bool)
  /-- PQUEUE (R400). -/
  | pqueue (r : Fin 132) (g : Guard) (da : Fin 16) (t : Fin 16) (lost : Bool)
  /-- PCANCEL (R402). -/
  | pcancel (r : Fin 132) (g : Guard) (a : Fin 32) (lost : Bool)
  /-- PENGINE (R607). -/
  | pengine (r : Fin 132) (g : Guard) (a : Fin 32) (lost : Bool)
  /-- PSTAT (R605). -/
  | pstat (r : Fin 132) (g : Guard) (a : Fin 32)
  /-- TLOAD (R689). `lost`: the order lost arbitration in its cycle. -/
  | tload (r : Fin 132) (g : Guard) (da : Fin 16) (t : Fin 16) (a : Fin 32) (lost : Bool)
  /-- TSET (R691). -/
  | tset (r : Fin 132) (g : Guard) (a : Fin 32) (b : Fin 32) (lost : Bool)
  /-- TCTL (R692). -/
  | tctl (r : Fin 132) (g : Guard) (a : Fin 32) (b : Fin 32) (lost : Bool)
  /-- TCAP (R694). -/
  | tcap (r : Fin 132) (g : Guard) (da : Fin 16) (t : Fin 16) (lost : Bool)
  /-- WAIT (R381). -/
  | wait (r : Fin 132) (g : Guard) (t : Fin 16) (a : Fin 32) (noend : Bool)
  /-- WAITANY (R381). -/
  | waitany (r : Fin 132) (g : Guard) (a : Fin 32) (m : BitVec 16)
  /-- TST (R381). -/
  | tst (r : Fin 132) (g : Guard) (t : Fin 16) (a : Fin 32)
  /-- FENCE (R375). -/
  | fence (r : Fin 132) (g : Guard)
  /-- EVRAISE (R405). -/
  | evraise (r : Fin 132) (g : Guard) (n : Fin 16)
  /-- EVTIME (R405). -/
  | evtime (r : Fin 132) (g : Guard) (b : Fin 32)
  /-- EVTIME_REACHED (R405). -/
  | evtimeReached (r : Fin 132)
  /-- PFORM (R404). -/
  | pform (r : Fin 132) (g : Guard) (b : Fin 32)
  /-- PSEAL (R404). -/
  | pseal (r : Fin 132) (g : Guard) (b : Fin 32)
  /-- PRST (R404). -/
  | prst (r : Fin 132) (g : Guard) (b : Fin 32)
  /-- PTEAR (R404). -/
  | ptear (r : Fin 132) (g : Guard) (t : Fin 16) (a : Fin 32)
  /-- GASSIGN (R404). -/
  | gassign (r : Fin 132) (g : Guard) (b : Fin 32) (c : Fin 32)
  /-- GRELEASE (R404). -/
  | grelease (r : Fin 132) (g : Guard) (t : Fin 16) (a : Fin 32)
  /-- RCREATE (R404). -/
  | rcreate (r : Fin 132) (g : Guard) (b : Fin 32)
  /-- RADD (R404). -/
  | radd (r : Fin 132) (g : Guard) (b : Fin 32) (c : Fin 32)
  /-- RPUB (R404). -/
  | rpub (r : Fin 132) (g : Guard) (b : Fin 32) (c : Fin 32)
  /-- RREADERS (R404). -/
  | rreaders (r : Fin 132) (g : Guard) (b : Fin 32) (c : Fin 32)
  /-- RWDRAW (R404). -/
  | rwdraw (r : Fin 132) (g : Guard) (t : Fin 16) (a : Fin 32)
  /-- LEASE (R404). -/
  | lease (r : Fin 132) (g : Guard) (b : Fin 32) (c : Fin 32)
  /-- LOGAPP (R404). -/
  | logapp (r : Fin 132) (g : Guard) (da : Fin 16) (t : Fin 16) (a : Fin 32)
  /-- SIGN (R404). -/
  | sign (r : Fin 132) (g : Guard) (da : Fin 16) (t : Fin 16)
  /-- RANDOM (R404). -/
  | random (r : Fin 132) (g : Guard) (a : Fin 32)
  /-- TALLY_COMPLETE (R379). -/
  | tallyComplete (r : Fin 132) (t : Fin 16)
  /-- PROGRAM_RESTART (R388). -/
  | programRestart (r : Fin 128)
  /-- TASK_DISPATCH (R435). Physical engine `eng` of cluster `cl` is free. -/
  | taskDispatch (cl : Fin 4) (eng : Fin 13)
  /-- TILE_TASK_DONE (R433). `wrong`: accumulators a faulty engine holds in place of the HGEMM result; `differ`: its two datapaths disagree (R432). -/
  | tileTaskDone (cl : Fin 4) (eng : Fin 13) (wrong : Option (List Nat)) (differ : Bool)
  /-- LOCKSTEP_MISMATCH (R440). -/
  | lockstepMismatch (cl : Fin 4) (phys : Fin 18)
  /-- STAGING_ECC_UE (R439). -/
  | stagingEccUe (cl : Fin 4) (w : StageWord)
  /-- INVOKE (R461). -/
  | invoke (k : Fin 6) (p : Packet)
  /-- INVOKE_TAKEN (R462). -/
  | invokeTaken (r : Fin 128)
  /-- RESULT_SEND (R463). -/
  | resultSend (r : Fin 128)
  /-- SPARE_SWITCH_IN (R476). The oldest switch-in self-test of a kind of unit, and whether it passes. -/
  | spareSwitchIn (cl : Fin 4) (hatch : Bool) (pass : Bool)
  /-- CLUSTER_RETURN (R480). -/
  | clusterReturn (cl : Fin 4)
  /-- SRAM_ROW_TEST (R481). `ue`: the word is uncorrectable; otherwise it was corrected. -/
  | sramRowTest (code : BitVec 8) (inst : BitVec 16) (row : BitVec 16) (ue : Bool)
  /-- SRAM_ROW_TEST_DONE (R481). -/
  | sramRowTestDone (code : BitVec 8) (inst : BitVec 16) (row : BitVec 16) (pass : Bool)
  /-- REPAIR_RECORD_WRITE (R491). -/
  | repairRecordWrite (ok : Bool)
  /-- OWNER_CLAIM (R515). The session's digest, the roots, and whether the flash write succeeded. -/
  | ownerClaim (q : StewReq) (anchor : BitVec 384) (roots : List (BitVec 384)) (ok : Bool)
  /-- OWNER_SET (R515). -/
  | ownerSet (q : StewReq) (anchor : BitVec 384) (roots : List (BitVec 384)) (ok : Bool)
  /-- PART_FORM (R404). -/
  | partForm (q : StewReq) (p : Byte)
  /-- PART_SEAL (R404). -/
  | partSeal (q : StewReq) (p : Byte)
  /-- PART_RESET (R404). -/
  | partReset (q : StewReq) (p : Byte)
  /-- PART_TEAR (R224). -/
  | partTear (q : StewReq) (p : Byte)
  /-- GRAN_ASSIGN (R404). -/
  | granAssign (q : StewReq) (p : Byte) (first : BitVec 16) (count : BitVec 16)
  /-- GRAN_RELEASE (R404). -/
  | granRelease (q : StewReq) (first : BitVec 16) (count : BitVec 16)
  /-- REGION_CREATE (R404). -/
  | regionCreate (q : StewReq) (n : Byte)
  /-- REGION_ADD (R404). -/
  | regionAdd (q : StewReq) (n : Byte) (first : BitVec 16) (count : BitVec 16)
  /-- REGION_LOAD (R516). The source bytes read, or no bytes where the read failed. -/
  | regionLoad (q : StewReq) (n : Byte) (off : W64) (len : W64) (host : Bool) (data : Option (List Byte))
  /-- REGION_PUBLISH (R196). -/
  | regionPublish (q : StewReq) (n : Byte) (readers : BitVec 16)
  /-- REGION_READERS (R198). -/
  | regionReaders (q : StewReq) (n : Byte) (readers : BitVec 16)
  /-- REGION_WITHDRAW (R197). -/
  | regionWithdraw (q : StewReq) (n : Byte)
  /-- STEWARD_LEASE (R526). -/
  | stewardLease (q : StewReq) (res : Byte) (holder : Byte)
  /-- VIOL_READ (R212). -/
  | violRead (q : StewReq) (p : Byte)
  /-- VIOL_CLEAR (R212). -/
  | violClear (q : StewReq) (p : Byte)
  /-- REPAIR_READ (R493). -/
  | repairRead (q : StewReq) (first : W32)
  /-- REPAIR_DELETE (R493). -/
  | repairDelete (q : StewReq) (type : Byte) (loc : W64)
  /-- REG_READ (R516). -/
  | regRead (q : StewReq) (off : W32) (width : Byte)
  /-- REG_WRITE (R516). `lost`: the resource code when a same-cycle order of a higher class wins. -/
  | regWrite (q : StewReq) (off : W32) (width : Byte) (v : W64) (e : RegEnv) (lost : Option Byte)
  /-- MMIO_GRANT (R517). -/
  | mmioGrant (q : StewReq) (stream : BitVec 16)
  /-- FW_STAGE (R502). -/
  | fwStage (q : StewReq) (off : W32) (data : List Byte)
  /-- FW_COMMIT (R502). -/
  | fwCommit (q : StewReq) (second : Bool) (first : Bool)
  /-- FW_COMMIT_SVN (R501). -/
  | fwCommitSvn (q : StewReq)
  /-- TOMBSTONE_READ (R516). -/
  | tombstoneRead (q : StewReq)
  /-- TOMBSTONE_CLEAR (R561). -/
  | tombstoneClear (q : StewReq)
  /-- NODE_RESET (R110). -/
  | nodeReset (q : StewReq) (code : BitVec 16) (lost : Bool)
  /-- SMB_GO (R538). -/
  | smbGo (sess : Option Nat)
  /-- SMB_ABORT (R538). -/
  | smbAbort
  /-- GET_MEASUREMENTS (R509). -/
  | getMeasurements (sess : Option Nat)
  /-- SPDM_FRAGMENT (R512). -/
  | spdmFragment (k : Fin 6) (p : Packet)
  /-- SPDM_SESSION_ESTABLISHED (R524). -/
  | spdmSessionEstablished (id : W32) (transport : Fin 5) (link : Fin 6) (mutualAuth : Bool) (root : BitVec 384) (digests : List (BitVec 384))
  /-- SPDM_SESSION_END (R524). -/
  | spdmSessionEnd (id : W32)
  /-- LOCK_INTERFACE (R521). -/
  | lockInterface (sess : W32) (p : Fin 16)
  /-- GET_DEVICE_INTERFACE_REPORT (R521). -/
  | getDeviceInterfaceReport (sess : W32) (p : Fin 16)
  /-- START_INTERFACE (R521). -/
  | startInterface (sess : W32) (p : Fin 16)
  /-- STOP_INTERFACE (R522). -/
  | stopInterface (sess : W32) (p : Fin 16)
  /-- IDE_INTEGRITY_FAILURE (R522). -/
  | ideIntegrityFailure (p : Fin 16)
  /-- PW_ADMIT_WRITE (R525). -/
  | pwAdmitWrite (p : Fin 16) (n : Fin 16) (j : Fin 7) (v : W64)
  /-- TRNG_HEALTH_FAILURE (R534). -/
  | trngHealthFailure
  /-- KEY_SLOT_UE (R535). Slot p holds the key of partition p, slot 16 + n that of region n. -/
  | keySlotUe (slot : Fin 32)
  /-- LOG_RECORD_APPEND (R543). Corrected words met. The read-backs of LOG_A and LOG_B show no uncorrectable error. -/
  | logRecordAppend (okA : Bool) (okB : Bool) (ceA : Byte) (ceB : Byte)
  /-- CHECKPOINT_SIGNED (R544). -/
  | checkpointSigned
  /-- TOMBSTONE_FINAL (R558). -/
  | tombstoneFinal
  /-- DRAIN_COPY (R549). Corrected words met. The reads of LOG_A and LOG_B are correctable; the DMA succeeds. -/
  | drainCopy (okA : Bool) (okB : Bool) (dma : Bool) (ceA : Byte) (ceB : Byte)
  /-- LOG_DRAIN_HEAD_WRITE (R550). -/
  | logDrainHeadWrite (v : W32)
  /-- DRAIN_ENABLE (R551). LOG2SIZE. -/
  | drainEnable (size : BitVec 5)
  /-- DRAIN_DISABLE (R551). -/
  | drainDisable
  /-- LOG_RECORDS (R552). -/
  | logRecords
  /-- LOG_START_RECORDS (R560). Which banks pass their self-test, and whose chain of unretired records verifies. -/
  | logStartRecords (okA : Bool) (okB : Bool) (chainA : Bool) (chainB : Bool)
  /-- RASTER_TILE (R578). -/
  | rasterTile
  /-- BAND_REQUEST (R580). -/
  | bandRequest
  /-- TILE_BUFFER_UE (R599). -/
  | tileBufferUe
  /-- RAS_THR_DATA_WRITE (R576). -/
  | rasThrDataWrite (v : W32)
  /-- RAS_CTX_OWNER_WRITE (R579). -/
  | rasCtxOwnerWrite (n : Fin 8) (v : W32)
  /-- DSP_ENABLE (R584). The steward's write of DSP_CTL. -/
  | dspEnable (v : W32)
  /-- DSP_DISABLE (R595). -/
  | dspDisable
  /-- DP_LINK_TRAINED (R583). -/
  | dpLinkTrained (ok : Bool)
  /-- HDCP_AUTHENTICATION (R585). -/
  | hdcpAuthentication (ok : Bool) (rxid : BitVec 40) (repeater : Bool)
  /-- DSP_AUX_GO (R586). `reply` is the receiver's answer; none when it gives none. -/
  | dspAuxGo (v : W32) (reply : Option (List Byte))
  /-- HPD_UNPLUG (R583). -/
  | hpdUnplug
  /-- IRQ_HPD (R583). Whether the link still holds when the node looks at it. -/
  | irqHpd (linkOk : Bool)
  /-- DSP_RETRY_TIMER (R601). -/
  | dspRetryTimer
  /-- COMMIT_HANDSHAKE (R589). -/
  | commitHandshake (r : Fin 132)
  /-- VBLANK_LATCH (R588). -/
  | vblankLatch
  /-- ENGINE_CONDITIONS_MET (R608). -/
  | engineConditionsMet
  /-- ENGINE_CONDITION_LOST (R607). -/
  | engineConditionLost
  /-- PATH_EMPTY (R607). -/
  | pathEmpty
  /-- ENGINE_LOST (R613). -/
  | engineLost
  /-- PICK_LATCH (R620). -/
  | pickLatch
  /-- IMAGING_START (R623). -/
  | imagingStart
  /-- SENSOR_EDGE (R624). Sensor and its new level, held for FILT µs. -/
  | sensorEdge (n : Fin 24) (high : Bool)
  /-- JAM (R626). -/
  | jam
  /-- CLUTCH_ACTUATION (R627). -/
  | clutchActuation
  /-- SPOIL (R630). -/
  | spoil
  /-- SHEET_EXIT (R629). -/
  | sheetExit
  /-- HEARTBEAT_TICK (R610). Carries the level of PRS_ERDY, which has no row of its own. -/
  | heartbeatTick (erdy : Bool)
  /-- HVREF_PWM_PERIOD (R636). -/
  | hvrefPwmPeriod (k : Fin 4)
  /-- HV_LIMIT (R637). -/
  | hvLimit (k : Fin 4)
  /-- ZCD_EDGE (R638). -/
  | zcdEdge
  /-- FUSER_GATE_END (R638). -/
  | fuserGateEnd (k : Fin 2)
  /-- ZCD_LOST (R639). -/
  | zcdLost
  /-- OT_COMPARATOR_TRIP (R640). -/
  | otComparatorTrip (k : Fin 4)
  /-- OT_TRIP_CLEAR (R640). Bits written 1, and the inputs at least 20 mV above their threshold. -/
  | otTripClear (w : BitVec 4) (high : BitVec 4)
  /-- HASH_PASS_DONE (R617). -/
  | hashPassDone
  /-- PLATE_HASH_MISMATCH (R619). -/
  | plateHashMismatch
  /-- PRS_CONFIG_WRITE (R645). Offset in the PRS block and value. -/
  | prsConfigWrite (o : BitVec 12) (v : W64)
  /-- BD_EDGE (R648). Input, direction, the previous level held for 10 ns, PVID cycles since the last accepted edge. -/
  | bdEdge (k : Fin 2) (rising : Bool) (held : Bool) (cycles : Nat)
  /-- BD_WINDOW_CLOSE (R650). -/
  | bdWindowClose
  /-- EOS_EDGE (R652). PVID cycles since the accepted edge. -/
  | eosEdge (cycles : Nat)
  /-- LATE_LINE_DATA (R659). -/
  | lateLineData
  /-- APC_CAPTURE (R661). -/
  | apcCapture (b : Fin 8)
  /-- APC_UPDATE (R662). -/
  | apcUpdate (b : Fin 8)
  /-- DRY_CONFIG_WRITE (R670). Offset in the DRY block and value. -/
  | dryConfigWrite (o : BitVec 12) (v : W64)
  /-- ADC_CONVERSION_DONE (R674). Converter and code. -/
  | adcConversionDone (m : Fin 2) (v : BitVec 12)
  /-- ADC_CHECK (R677). Converter and the readings of VREF/2 and VSS. -/
  | adcCheck (m : Fin 2) (half : BitVec 12) (vss : BitVec 12)
  /-- TACH_EDGE (R678). Input 0 PRS_POLY_FG, 1 + k PRS_ENC_k. -/
  | tachEdge (n : Fin 9)
  /-- SAMPLE_INSTANT (R679). -/
  | sampleInstant (n : Fin 16)
  /-- SLOT_STROBE (R682). -/
  | slotStrobe (n : Fin 16)
  /-- OUTPUT_APPLY (R684). `late`: the computation ended after its application cycle. -/
  | outputApply (n : Fin 16) (late : Bool)
  /-- SLOT_STORAGE_UE (R700). -/
  | slotStorageUe (n : Fin 16)
  /-- EVT_Q_ENABLE (R713). -/
  | evtQEnable (part : Option (Fin 16)) (size : BitVec 5) (ctx : BitVec 12)
  /-- EVT_Q_HEAD_WRITE (R713). -/
  | evtQHeadWrite (part : Option (Fin 16)) (v : W32)
  /-- MSIX_UNMASK (R708). -/
  | msixUnmask (fn : Fin 17) (vec : Fin 64)
  /-- VF_FLR (R705). -/
  | vfFlr (p : Fin 16)
  /-- PF0_FLR (R705). -/
  | pf0Flr
  /-- I3C_CCC (R716). -/
  | i3cCcc (c : I3cCcc)
  /-- MCTP_MESSAGE (R717). -/
  | mctpMessage (t : Fin 3) (m : MctpMsg)
  /-- TELEMETRY (R718). -/
  | telemetry (t : Fin 3)
  /-- ALERT_ACK (R719). -/
  | alertAck (t : Fin 3)
  /-- AVS_CURRENT_READ (R720). -/
  | avsCurrentRead (current : BitVec 16)
  /-- SENSOR_UPDATE (R721). -/
  | sensorUpdate (rs : List (Option (BitVec 12)))
  /-- PROCHOT_N_CHANGE (R723). -/
  | prochotNChange (low : Bool) (held : Bool)
  /-- TAP_INSTRUCTION (R735). The opcode, and whether a PART_FORM is issued in the same AON cycle. -/
  | tapInstruction (op : Byte) (forming : Bool)
  /-- PAD_CONTROL_EXIT (R737). The instruction that is loaded instead. -/
  | padControlExit (op : Byte)
  /-- TRST_N_ASSERT (R753). -/
  | trstNAssert
  /-- TST_JOB_START (R741). -/
  | tstJobStart
  /-- TST_JOB_ABORT (R746). -/
  | tstJobAbort
  /-- TST_JOB_END (R746). What the checkers have counted. -/
  | tstJobEnd (locked : BitVec 9) (bitsN : W64) (errs : W64) (targetFailed : Bool)
  /-- SELF_TEST_JOB_DONE (R748). Failing rows of an array, and whether a unit passed. -/
  | selfTestJobDone (rows : List (BitVec 16)) (pass : Bool)
  /-- PRS_ILK_IN_RISE (R62). -/
  | prsIlkInRise
  /-- HPD_PLUG (R601). -/
  | hpdPlug
  /-- PCIE_LINK_UP (R357). -/
  | pcieLinkUp (width : BitVec 6) (speed : BitVec 4) (numVfs : Fin 17) (vfMse : Bool) (enabled : List (Fin 17)) (masked : List (Fin 17))
  /-- PCIE_LINK_DOWN (R357). -/
  | pcieLinkDown
  /-- BD_WINDOW_OPEN (R649). -/
  | bdWindowOpen
  /-- PWM_PERIOD (R686). Pin 0 PRS_POLY_PWM, 1 + k motor pair k. -/
  | pwmPeriod (k : Fin 9)
  /-- IDE_KM (R523). -/
  | ideKm (sess : W32) (op : Fin 3) (stream : Byte)
  /-- DRBG_RESEED (R534). -/
  | drbgReseed
  /-- VDD_AON_LOSS (R774). -/
  | vddAonLoss
  /-- TEST_LOGIC_RESET (R753). -/
  | testLogicReset
  /-- TST_ERR_THR_REACHED (R749). -/
  | tstErrThrReached (locked : BitVec 9) (bitsN : W64) (errs : W64)
  deriving DecidableEq, Repr

end Sys2Proof
end

