-- ==== Sys2Proof/Decode.lean ====
section
/-! DEFINITION. Reading a command from the bits of a command table row: no row of the table gives any bits. -/

namespace Sys2Proof

/-- The command that a word spells: the command table gives its rows no bits, so a word spells none. -/
def decodeTableWord (_nbits _w : Nat) : Option Instr := none

end Sys2Proof
end

