-- ==== Sys2Proof/Config.lean ====
section
/-! DEFINITION. What the manual leaves to the die or leaves open: free values and uninterpreted cryptography. Nothing
here has a body, so no proof can see a value. -/

namespace Sys2Proof

/-- The device MC_n_ERR_LOG.DEV names when several have the most symbols in error (R188 names none). -/
opaque Config.errLogTie : List Nat → Nat

/-- Whether a cached context entry, walk entry or translation is still in its cache at the n-th look (R207, R226: an
implementation may evict at any time). -/
opaque Config.cacheKept : Nat → Bool

/-- Whether the n-th look found an entry with a parity error, when the entry is not kept (R229). -/
opaque Config.cacheParity : Nat → Bool

/-- The byte scan-out takes at an address whose line is unavailable (R594 states none). -/
opaque Config.scanByte : Nat → Byte

/-- The sign of max(+0, −0), given the sign of the first operand (R428 states none). -/
opaque Config.zeroOfMax : Bool → Bool

/-- The sign of min(+0, −0), given the sign of the first operand (R428 states none). -/
opaque Config.zeroOfMin : Bool → Bool

/-- Whether a piece of an overlapping COPY reads its source before the pieces ahead of it were written (R377 states no
order). -/
opaque Config.copyEarly : Nat → Bool

/-- DETAIL of a COPY whose remote side answered MEM_UNAVAILABLE: the response names no channel (R252, Table 09.3). -/
opaque Config.remoteChannel : Nat → Nat

/-- RET of a completion whose entry never started: Table 09.2 gives s1 at the program's end, and no program ran. -/
opaque Config.unstartedRet : Nat → W64

/-- The NONCE of an incarnation: a TRNG value (R303). -/
opaque Config.campionNonce : Nat → W32

/-- The VDD_CORE in mV that the fused voltage-frequency table asks for at a frequency of SYN_n in kHz (R81). -/
opaque Config.vddFor : Nat → Nat → Nat

/-- Whether a reset pulse between 1 µs and 10 µs is accepted (R57: it may or may not be). -/
opaque Config.pulseAccepted : Nat → Bool

/-- The n-th random value the SM takes from its DRBG (R506). -/
opaque Config.trng : Nat → W64

/-- The ECDSA P-384 signature of a digest under a private key, 96 bytes, r then s: the per-signature secret is the n-th draw
(Table 10.12, R544). -/
opaque Config.ecdsaSign : Nat → List Byte → Nat → List Byte

/-- The SEQ a BANK_FAIL record names when the start-up self-test, and no record, revealed the failure (Table 15.2 names none). -/
opaque Config.selfTestSeq : Nat → W32

/-- Whether PWR_POWER is rounded up when current times voltage is no whole number of 0.1 W, by current and voltage (R720 states no
rounding). -/
opaque Config.powerUp : Nat → Nat → Bool

/-- ARG0 of THERMAL_THROTTLE: Table 20.4 puts both the temperature and 1 on entry, 0 on exit there. -/
opaque Config.throttleArg : Nat → Nat → W32

/-- Whether a signature verifies over a digest under the public key fused in a signing key slot (R500). -/
opaque Config.imageSigOk : Nat → List Byte → List Byte → Bool

/-- The 32 bytes of the unique device secret of a die (R504). -/
opaque Config.uds : Nat → List Byte

/-- The SHA-384 of ROM (Table 14.3). -/
opaque Config.romHash : List Byte

/-- REASON of a test job refused for its kind and loop mode (Table 21.8 lists none). -/
opaque Config.testReason : Nat → Nat → Nat

/-- Whether a test job of a kind whose precondition fails is refused with REASON 2, target in use, or 3, precondition (Table 21.8
draws no line). -/
opaque Config.testInUse : Nat → Bool

/-- The length of the boundary register (R739). -/
opaque Config.bsrLen : BitVec 16

/-- AES-256-GCM decryption: key, IV, AAD, ciphertext and tag to the plaintext, none when the tag fails. -/
opaque Config.gcmOpen : List Byte → List Byte → List Byte → List Byte → List Byte → Option (List Byte)

/-- AES-256-GCM encryption: key, IV, AAD and plaintext to the ciphertext and the tag. -/
opaque Config.gcmSeal : List Byte → List Byte → List Byte → List Byte → List Byte × List Byte

/-- HKDF-Expand with SHA-384 from a session's export master secret and a label: 32 bytes of key and 4 of salt (R278). -/
opaque Config.hkdfExpand : List Byte → List Byte → List Byte

end Sys2Proof
end

