-- ==== Sys2Proof/Machine/StateHatch.lean ====
section
/-! DEFINITION. The state of the Hatch dispatchers and of attention jobs (chapters 11 and 12). -/

namespace Sys2Proof.Machine

/-- Kinds of kind A work on the Hatch engines. -/
inductive JobKind where
  | hgemm | hsmax | helt | attn | merge
  deriving DecidableEq, Repr

/-- A tile task: output tile and K-step for HGEMM; row, chunk or range for the others. -/
structure Task where
  tile   : Nat
  step   : Nat
  cl     : Nat                       -- cluster that runs it
  prior  : List (Nat × List Nat)     -- results of the runs of R431, with their engines
  fails  : List Nat                  -- engines on which it has failed its check
  loaded : Option (List (List Nat))  -- staged inputs
  redo   : Bool                      -- a re-run, ahead of other ready tasks (R433)
  deriving DecidableEq, Repr

/-- One page of a sequence: page set number, first slot and slots covered (R448, R449). -/
structure KvPage where
  set   : Nat
  first : Nat
  count : Nat
  deriving DecidableEq, Repr

/-- How a sequence stands (R456). -/
inductive SeqStatus where
  | good | malformed (page : Nat) | poisoned (page : Nat)   -- with its first affected page
  deriving DecidableEq, Repr

/-- One sequence of an attention job. -/
structure Seq where
  base    : Nat               -- KV_BASE
  part    : Nat               -- PART_IDX
  len     : Nat               -- LEN, in list mode
  total   : Nat               -- P, in list mode
  pages   : List KvPage       -- pages read or emitted
  started : NSet              -- chunks of which a task has been dispatched (R393)
  dealt   : Nat               -- chunks whose tasks exist
  status  : SeqStatus
  deriving DecidableEq, Repr

/-- Kind A work that has been issued and whose tally is BUSY. -/
structure Job where
  id      : Nat
  ring    : Nat
  t       : Nat
  cl      : Nat                          -- issuing cluster
  kind    : JobKind
  d0      : List W64
  d1      : List W64
  ready   : List Task
  run     : List (Nat × Task)            -- running tasks, with cluster × 16 + physical engine
  fresh   : Nat                          -- first tile whose first task has not been made
  accs    : Tab (List Nat)               -- committed accumulators, by tile
  left    : Nat                          -- tiles, rows or ranges not finished
  retries : Nat
  bad     : Option (Nat × Nat)           -- status and DETAIL that stop the job
  seqs    : List Seq
  parts   : List (Nat × Nat × List Nat)  -- committed partials: tile, chunk and patterns
  open_   : Bool                         -- emission is open (R392)
  deal    : Nat                          -- tasks dealt so far
  first   : Nat                          -- cluster of its first task
  sel     : Nat                          -- ATT_CFG.CLUSTERS at issue
  deriving DecidableEq, Repr

/-- The dispatchers of the four clusters. -/
structure HatchState where
  jobs  : List Job        -- oldest first
  next  : Nat             -- identity of the next job
  rr    : Tab Nat         -- tally served last by each cluster, as ring × 16 + tally + 1
  last  : Nat             -- cluster that received the previous attention job's first task
  deriving DecidableEq, Repr

/-- Empty dispatchers; the first attention job starts at CC_0. -/
def HatchState.init : HatchState := { jobs := [], next := 0, rr := [], last := 3 }

end Sys2Proof.Machine
end

