-- ==== Sys2Proof/Machine/StatePress.lean ====
section
/-! DEFINITION. The state of Burin, the proof display, the press port, Drypoint and Tansy (chapters 16 to 19). -/

namespace Sys2Proof.Machine

/-- A surface (Table 10.10): address, size, format, stride, context and partition as CID. -/
structure Surf where
  va     : Nat
  w      : Nat
  h      : Nat
  fmt    : Nat
  stride : Nat
  cid    : Nat
  deriving DecidableEq, Repr

/-- A raster job (R578). -/
structure RasJob where
  ring    : Nat
  t       : Nat
  part    : Nat
  rctx    : Nat
  clear   : Bool
  f       : List W64
  started : Bool
  list    : List Byte   -- its display list, once read and checked
  next    : Nat         -- the next tile number
  retiles : Nat         -- renders repeated for a tile buffer error (R599)
  deriving DecidableEq, Repr

/-- Burin beside its registers. -/
structure RasState where
  queue : Tab (List RasJob)     -- by raster context; the first has started or starts next
  cur   : Option Nat            -- the context whose tile was rendered last, while its job runs
  rr    : Tab Nat               -- the context served last, by class
  bands : List (Nat × Nat)      -- bands requested by the press: page and band, oldest first
  thr   : Tab Nat               -- threshold cells, by array × 16384 + cell, T1 T2 T3 packed
  deriving DecidableEq, Repr

/-- Burin as a reset of RASTER leaves it. -/
def RasState.init : RasState := { queue := [], cur := none, rr := [], bands := [], thr := [] }

/-- Reset value of a threshold cell: 64, 128 and 192 (R602). -/
def thrReset : Nat := 64 + 128 * 256 + 192 * 65536

/-- A commit of RCOMMIT (Table 16.4). -/
structure Commit where
  ring  : Nat
  part  : Nat
  f     : List W64
  sealId : Option Nat
  hash  : List Byte
  resv  : Option Nat
  new   : Bool            -- its REVIEW record is not yet written
  deriving DecidableEq, Repr

/-- A transform: SCALE, TX and TY. -/
structure Xform where
  scale : Nat
  tx    : Int
  ty    : Int
  deriving DecidableEq, Repr

/-- The proof display beside its registers. -/
structure DispState where
  hand     : List Commit          -- commits that wait for their handshake
  frame    : Option Commit        -- pending FRAME commit
  xform    : Option Xform         -- pending transform
  shown    : Option Commit        -- the last latched frame
  cur      : Xform                -- its current transform
  black    : Bool                 -- black until a FRAME commit of the new holder is latched (R596)
  lastPix  : List Nat             -- the pixels of the last frame sent, in raster order
  blankEnd : Bool                 -- BLANK is entered at the end of the current frame (Table 04.7)
  hpd      : Bool                 -- level of DP_HPD
  failed   : Bool                 -- training or authentication failed and is retried (R601)
  aux      : List (Nat × Nat × List Byte)   -- AUX requests sent: command word, length and data
  deriving DecidableEq, Repr

/-- The proof display as a reset leaves it. -/
def DispState.init : DispState :=
  { hand := [], frame := none, xform := none, shown := none, cur := ⟨65536, 0, 0⟩, black := false, lastPix := [],
    blankEnd := false, hpd := false, failed := false, aux := [] }

/-- A stream record (Table 17.4). -/
structure Stream where
  listVa  : Nat
  listLen : Nat
  bandVa  : Nat
  fmt     : Nat
  thr     : Nat
  rctx    : Nat
  stride  : Nat
  cid     : Nat
  clear   : Nat
  nb      : Nat
  deriving DecidableEq, Repr

/-- A page in the press queue (R614). -/
structure Page where
  id     : Nat
  part   : Nat
  job    : Nat
  page   : Nat
  side   : Nat
  stream : Option Stream
  dpi    : Nat
  w      : Nat
  h      : Nat
  bpp    : Nat
  stride : Nat
  va     : Nat
  cid    : Nat
  ring   : Nat                  -- the ring that queued it
  sealId : Nat
  map    : Tab Nat              -- captured frames: VA >> 16 to PPA >> 16
  hash   : List Byte
  hashed : Bool
  resv   : Option Nat
  attempt : Nat
  tally  : Option (Nat × Nat)   -- ring and tally, until the first record
  picked : Bool
  deriving DecidableEq, Repr

/-- One page on a picked sheet. -/
structure SheetPage where
  page    : Nat
  info    : IssueInfo
  resv    : Nat
  imaging : Nat                -- 0 not started, 1 being imaged, 2 imaged
  blank   : Bool               -- the laser stays off for the rest of the page
  outcome : Option Nat         -- 0x40 or 0x41 once decided
  test    : Bool               -- SYN_10 coasted during its imaging and its last window is not evaluated (R139)
  noRec   : Bool               -- it receives no record (R635)
  deriving DecidableEq, Repr

/-- A sheet in the path (R604, R621). -/
structure Sheet where
  id      : Nat
  pages   : List SheetPage
  route   : Nat                -- 0 SIMPLEX, 1 DUPLEX, 2 PURGE_S, 3 PURGE_D
  picked  : Nat                -- tick of the pick
  switch  : Option Nat         -- tick of the switch to purge
  arrived : Tab Nat            -- tick at which the leading edge covered a station
  left    : NSet               -- stations its trailing edge has uncovered
  gone    : Bool               -- it has left the path and its records wait (R139)
  deriving DecidableEq, Repr

/-- The press port beside its registers. -/
structure PrsState where
  queue     : List Page             -- in queue order
  hashing   : List Page             -- checked and sealed, in their hash pass or waiting for a reservation
  nextPage  : Nat
  sheets    : List Sheet            -- in pick order
  lastPick  : Option (Nat × Nat)    -- tick of the last pick and pages on its sheet
  lastSheet : Nat                   -- SHEET_ID of the last pick
  coverAt   : Tab Nat               -- tick at which each covered sensor became covered
  coverBy   : Tab (Nat × Nat)       -- sheet and station of the cover
  acc       : Tab Nat               -- fuser accumulators in 4,096ths
  gateEnd   : Tab Nat               -- tick at which a fired gate ends
  lastZcd   : Option Nat            -- tick of the last zero-cross edge, or of the start of gating
  bandsDone : NSet              -- bands complete, by page × 65536 + band
  bandNext  : Tab Nat           -- the next band to request, by page
  aonSafe   : Bool                  -- AON has driven the outputs safe with PCTL's state kept (cause 8)
  final     : Option SheetPage      -- the page imaged at a SEALED-HALT, completed and not yet in the tombstone (R558)
  releasing : Bool                  -- the lease is released once the holder's picked pages are final (R91, R634)
  deriving DecidableEq, Repr

/-- The press port as a reset of PCTL leaves it. -/
def PrsState.init : PrsState :=
  { queue := [], hashing := [], nextPage := 0, sheets := [], lastPick := none, lastSheet := 0, coverAt := [], coverBy := [],
    acc := [], gateEnd := [], lastZcd := none, bandsDone := [], bandNext := [],
    aonSafe := false, final := none, releasing := false }

/-- The sample of an APC window (R661, R662): the values held for it and the converted code. -/
structure ApcSample where
  target : Nat
  gain   : Nat
  tol    : Nat
  code   : Option Nat
  deriving DecidableEq, Repr

/-- Drypoint beside its registers. -/
structure DryState where
  edge    : Bool                 -- an edge has been accepted since entry to WARMING
  edgeAt  : Option Nat           -- tick of the last accepted edge
  line    : Bool                 -- a line of the page being imaged is in progress
  window  : Bool                 -- the BD window is open
  good    : Nat                  -- consecutive in-tolerance edges, at most 64
  refOn   : Bool                 -- beam REF is driven for beam detect
  scan    : Int                  -- the scan being drawn
  first   : Int
  last    : Int
  taken   : List Byte            -- rows hashed as the beams take them (R619)
  takenTo : Nat                  -- rows taken so far
  inTol   : Tab Nat              -- consecutive APC samples within TOL, at most 16, by beam
  outTol  : Tab Nat              -- consecutive APC samples outside TOL, at most 16
  satRun  : Tab Nat              -- consecutive samples at a rail outside TOL, at most 256
  sample  : Tab ApcSample        -- captured and not yet applied
  pulses  : Tab (List (Nat × Nat))  -- the current line of each beam: first slice and length of each pulse
  deriving DecidableEq, Repr

/-- Drypoint as a reset of PVID leaves it. -/
def DryState.init : DryState :=
  { edge := false, edgeAt := none, line := false, window := false, good := 0, refOn := false, scan := 0, first := 0, last := 0, taken := [], takenTo := 0,
    inTol := [], outTol := [], satRun := [], sample := [], pulses := [] }

/-- One biquad's coefficients. -/
structure Biquad where
  b0 : Int
  b1 : Int
  b2 : Int
  a1 : Int
  a2 : Int
  deriving DecidableEq, Repr

/-- A slot record (Table 19.3). -/
structure SlotRec where
  nstage   : Nat
  flags    : Nat
  srcKind  : Nat
  srcIndex : Nat
  period   : Nat
  inShl    : Nat
  phase    : Nat
  inOfs    : Int
  setpoint : Int
  outMin   : Int
  outMax   : Int
  outOfs   : Int
  band     : Int
  bandN    : Nat
  dest     : Nat
  stages   : List Biquad
  deriving DecidableEq, Repr

/-- A loop slot: 0 STOPPED, 1 RUN, 2 HOLD. -/
structure Slot where
  st      : Nat
  loaded  : Bool
  rec_    : SlotRec
  s1      : List Int
  s2      : List Int
  x       : Int
  e       : Int
  u       : Int
  q       : Int                  -- the applied output
  pend    : Option (Int × Nat)   -- a computed output and when it applies: a tick (PROMPT) or a Sorrel time (DEFERRED)
  sat     : Bool
  frozen  : Bool
  runIn   : Nat                  -- consecutive samples within BAND
  inBand  : Bool
  nextAt  : Option Nat           -- Sorrel time of the next sample instant
  waiting : Bool                 -- its conversion is requested
  strobe  : Bool                 -- its sample strobe is due
  raw     : Nat                  -- code converted for this sample
  deriving DecidableEq, Repr

/-- A record of zeros. -/
def SlotRec.zero : SlotRec :=
  { nstage := 0, flags := 0, srcKind := 0, srcIndex := 0, period := 0, inShl := 0, phase := 0, inOfs := 0, setpoint := 0,
    outMin := 0, outMax := 0, outOfs := 0, band := 0, bandN := 0, dest := 0, stages := [] }

/-- A slot after reset. -/
def Slot.init : Slot :=
  { st := 0, loaded := false, rec_ := SlotRec.zero, s1 := [], s2 := [], x := 0, e := 0, u := 0, q := 0, pend := none,
    sat := false, frozen := false, runIn := 0, inBand := false, nextAt := none, waiting := false, strobe := false, raw := 0 }

/-- A capture or injection (Table 19.4). -/
structure Capture where
  ring  : Nat
  t     : Nat
  part  : Nat
  f     : List W64
  done  : Tab Nat          -- samples taken, by channel
  inj   : Nat              -- strobes injected
  phase : Nat              -- sine phase
  lfsr  : Nat              -- PRBS state
  buf   : List (Nat × Nat) -- samples taken and not yet written: address and value
  bad   : Option (Nat × Nat) -- status and DETAIL of the first write that failed
  deriving DecidableEq, Repr

/-- A converter (R675). -/
structure Conv where
  apc   : NSet             -- channels of pending APC requests
  slots : List Nat         -- slots whose conversion is requested, in order
  cur   : Option (Nat × Option Nat)   -- the channel converted now, and the slot it is for
  isApc : Bool             -- the conversion is an APC request
  bg    : Nat              -- the next background channel to look at, from its base
  fails : Nat              -- consecutive failed checks
  passes : Nat             -- consecutive passed checks since ADC_FAULT was written 1
  clearing : Bool          -- software has written 1 to ADC_FAULT
  deriving DecidableEq, Repr

/-- A converter with nothing pending. -/
def Conv.init : Conv :=
  { apc := [], slots := [], cur := none, isApc := false, bg := 0, fails := 0, passes := 0, clearing := false }

/-- Edges seen at a tach input. -/
structure Tach where
  last   : Nat             -- tick of the latest rising edge
  period : Option Nat      -- PCTL cycles between the two latest
  deriving DecidableEq, Repr

/-- Tansy beside its registers. -/
structure TnsState where
  slot    : Tab Slot
  conv    : Tab Conv
  tach    : Tab Tach
  cap     : Option Capture
  capWait : List Capture
  pinSign : Tab Int        -- sign of the code a motor pair drove in its last period
  hvRun   : Tab Nat        -- tick since which every reading of PRS_HVFB_k exceeds its limit
  deriving DecidableEq, Repr

/-- Tansy as a reset of PCTL leaves it. -/
def TnsState.init : TnsState :=
  { slot := [], conv := [], tach := [], cap := none, capWait := [], pinSign := [], hvRun := [] }

/-- Levels the print engine drives. -/
structure PressIn where
  ilk     : Bool           -- PRS_ILK_IN
  erdy    : Bool           -- PRS_ERDY
  deriving DecidableEq, Repr

/-- The press and proof leases (R526, Table 14.11). -/
structure Leases where
  press : Option Nat
  proof : Option Nat
  deriving DecidableEq, Repr

end Sys2Proof.Machine
end

