-- ==== Sys2Proof/Machine/State.lean ====
section
/-! DEFINITION. The state of the block, its faults and refusals, and the state after reset. -/

namespace Sys2Proof.Machine

/-- Faults. -/
inductive Fault where
  /-- Raised by a command that names a pool address at or above INSTALLED, which does not exist (R156). Safe: the
  block has no such line. -/
  | noSuchAddress
  deriving DecidableEq, Repr

/-- Refusals. -/
inductive Refusal where
  /-- A command that has no meaning yet. Safe. -/
  | notModelled (mnemonic : String)
  /-- A command whose operands no sender can form: a list of the wrong length, a number past the range its field
  holds. Safe: the hardware has no such command. -/
  | illFormed
  deriving DecidableEq, Repr

/-- The whole state of the block. -/
structure State where
  regs : Tab W64                   -- every register, by key; an unlisted one holds its reset value
  cap  : Tab Nat                   -- captured upper halves (R12), by register key
  capFrac : Option Nat             -- captured TOPO_SRL_FRAC
  heldLow : Tab Nat                -- held lower-half writes (R13), by register key
  ticks : Nat                      -- TIMEBASE cycles since reset was released: the model's elapsed time
  freeCtr : Nat                    -- the model's own counter of free values drawn
  fuses : Fuses
  pwr : PwrState
  clk : ClkState
  pool : PoolState
  xlt : XltState
  evt : EvtState
  press : PressPins
  seals : List Seal                -- sealed plates (R582)
  nextSeal : Nat                   -- identity of the next seal
  log : LogState
  rings : RingState
  hatch : HatchState
  ras : RasState
  dsp : DispState
  prs : PrsState
  dry : DryState
  tns : TnsState
  pressIn : PressIn
  leases : Leases
  rpr : RprState
  fab : FabState
  trust : TrustState
  tst : TestState
  fabOut : List (Nat × Packet)     -- packets handed to the links for transmission, with the link's lead group
  hostOut : List HostOut           -- what the node has sent to the host, oldest first
  pending : List Instr             -- commands that wait, first in, first out
  deriving DecidableEq, Repr

/-- The power state with every supply up and PORST_N low. -/
def PwrState.init : PwrState :=
  { aonUp := true, io33Up := true, xtalRunning := true, porstLow := true, held := false, prologue := none,
    faultN := [], thermtripLow := false, drstLow := true, pcieUp := false, perstLow := false, afterReset := true,
    atomWindow := false, prochotLow := false, prochotOn := false }

/-- Clocks with every synthesizer off. -/
def ClkState.init : ClkState :=
  { refPresent := true, syn := [], quad := [], quadOff := [], syn11Lost := false }

/-- The fuses of the modelled die. -/
def Fuses.init : Fuses :=
  { part := .kqn1600, extended := false, uid := 1, maxMHz := [], badEngines := [], badCores := [], svnMin := 0, revoked := [] }

/-- The machine right after reset. -/
def State.reset : State :=
  { regs := [], cap := [], capFrac := none, heldLow := [], ticks := 0, freeCtr := 0, fuses := Fuses.init,
    pwr := PwrState.init, clk := ClkState.init, pool := PoolState.init, xlt := XltState.init, evt := EvtState.init,
    press := PressPins.safe, seals := [], nextSeal := 0, log := LogState.init,
    rings := RingState.init, hatch := HatchState.init, ras := RasState.init, dsp := DispState.init, prs := PrsState.init, dry := DryState.init,
    tns := TnsState.init, pressIn := { ilk := false, erdy := false }, leases := { press := none, proof := none },
    rpr := RprState.init, fab := FabState.init, trust := TrustState.init, tst := TestState.init, fabOut := [], hostOut := [], pending := [] }

end Sys2Proof.Machine
end

