-- ==== Sys2Proof/Machine/Ops.lean ====
section
/-! DEFINITION. The register file: finding a register by its key, reading and writing registers and fields, saturating
counters, and reloading reset domains (R5, R15). -/

namespace Sys2Proof.Machine

/-- A register found in the map: its descriptor, block instance and index. -/
structure RegAt where
  desc : RegDesc
  b    : Nat
  i    : Nat

/-- The index of the register of a family that starts at block offset `off`, if one does. -/
def RegDesc.indexAt (r : RegDesc) (off : Nat) : Option Nat :=
  if off < r.off then none
  else if r.stride = 0 then (if off = r.off then some 0 else none)
  else if (off - r.off) % r.stride = 0 ∧ (off - r.off) / r.stride < r.count then some ((off - r.off) / r.stride)
  else none

/-- The register of a block instance at an offset. -/
def findInBlock (b off : Nat) : List RegDesc → Option RegAt
  | [] => none
  | r :: rs =>
    match r.indexAt off with
    | some i => some ⟨r, b, i⟩
    | none => findInBlock b off rs

/-- The register that starts at a key, in one block. -/
def BlockDesc.find (d : BlockDesc) (key : Nat) : Option RegAt :=
  if key < d.base then none
  else if d.stride = 0 then findInBlock 0 (key - d.base) d.regs
  else if (key - d.base) / d.stride < d.count then
    findInBlock ((key - d.base) / d.stride) ((key - d.base) % d.stride) d.regs
  else none

/-- The register that starts at a key. -/
def findReg (key : Nat) : Option RegAt := regBlocks.findSome? (fun d => d.find key)

/-- Reset value of a register of the map (R15). -/
def RegAt.resetNat (a : RegAt) : Nat :=
  a.desc.fields.foldl (fun n f => n + (f.reset a.b a.i) * 2 ^ f.lo) 0

/-- Reset value at a key; a location without a register reads zero (R6). -/
def resetNat (key : Nat) : Nat :=
  match findReg key with
  | some a => a.resetNat
  | none => 0

/-- The value of the register at a key. -/
def State.reg (s : State) (key : Nat) : W64 := Tab.get (BitVec.ofNat 64 (resetNat key)) s.regs key

/-- The state with one register replaced. -/
def State.setReg (s : State) (key : Nat) (v : W64) : State := { s with regs := Tab.set s.regs key v }

/-- The number of values a field can hold. -/
def Fld.size (f : Fld) : Nat := 2 ^ (f.hi + 1 - f.lo)

/-- The value of a field within a register value. -/
def Fld.of (f : Fld) (v : W64) : Nat := v.toNat / 2 ^ f.lo % f.size

/-- A register value with one field replaced. -/
def Fld.into (f : Fld) (x : Nat) (v : W64) : W64 :=
  BitVec.ofNat 64 (v.toNat / 2 ^ (f.hi + 1) * 2 ^ (f.hi + 1) + x % f.size * 2 ^ f.lo + v.toNat % 2 ^ f.lo)

/-- The value of a field. -/
def State.get (s : State) (f : Fld) : Nat := f.of (s.reg f.key)

/-- Whether a one-bit field is set. -/
def State.on (s : State) (f : Fld) : Bool := s.get f == 1

/-- The state with one field set. -/
def State.put (s : State) (f : Fld) (x : Nat) : State := s.setReg f.key (f.into x (s.reg f.key))

/-- The state with a one-bit field set to a Boolean. -/
def State.putB (s : State) (f : Fld) (x : Bool) : State := s.put f (b2n x)

/-- A saturating counter field advanced by `k`. -/
def State.bump (s : State) (f : Fld) (k : Nat) : State := s.put f (satAt (f.size - 1) (s.get f + k))

/-- A wrapping counter field advanced by `k`. -/
def State.incr (s : State) (f : Fld) (k : Nat) : State := s.put f (s.get f + k)

/-- The state with bits of a field set: a status field whose bits are causes. -/
def State.orBits (s : State) (f : Fld) (m : Nat) : State := s.put f (s.get f ||| m)

/-- The domain of the register at a key; `none` where there is no register. -/
def domainOf (key : Nat) : Dom :=
  match findReg key with
  | some a => a.desc.dom a.b a.i
  | none => .none

/-- The state with the reset values of every register whose domain `p` selects loaded; held lower halves of those
registers are discarded (R13, R15). -/
def State.loadDomains (s : State) (p : Dom → Bool) : State :=
  { s with regs := s.regs.filter (fun e => !p (domainOf e.1)),
           heldLow := s.heldLow.filter (fun e => !p (domainOf e.1)) }

/-- The domains a reset kind loads (Table 00.4). -/
def ResetKind.loads : ResetKind → Dom → Bool
  | _, .aon => false
  | _, .none => false
  | .powerOn, _ => true
  | .warm, .cold => false
  | .warm, _ => true
  | .memoryRetaining, .cold => false
  | .memoryRetaining, .warm => false
  | .memoryRetaining, _ => true

/-- Sorrel time in integer nanoseconds (R313). -/
def State.now (s : State) : Nat := s.get F.TOPO_SRL_TIME_TIME_NS

/-- The Sorrel second a time lies in. -/
def State.second (s : State) : Nat := s.now / 1000000000

/-- TIMEBASE cycles in one millisecond at 400 MHz (Table 04.2): the model's measure of elapsed time. -/
def ticksPerMs : Nat := 400000

/-- The state with one free value drawn. -/
def State.draw (s : State) : State := { s with freeCtr := s.freeCtr + 1 }

/-- A node that has the press port, Burin, the proof display and Tansy (R25 to R28). -/
def State.hasPress (s : State) : Bool := s.fuses.part == .kqn1600

/-- The state with a cause added to those that hold FAULT_N low. -/
def State.faultLow (s : State) (c : FaultCause) : State :=
  if s.pwr.faultN.contains c then s else { s with pwr := { s.pwr with faultN := s.pwr.faultN ++ [c] } }

/-- The state with a cause removed from those that hold FAULT_N low. -/
def State.faultRelease (s : State) (c : FaultCause) : State :=
  { s with pwr := { s.pwr with faultN := s.pwr.faultN.filter (fun x => x != c) } }

/-- A function applied to the state for each member of a list, in order. -/
def State.each {α : Type} (s : State) (l : List α) (f : α → State → State) : State := l.foldl (fun t a => f a t) s

/-- The state with one more output to the host. -/
def State.host (s : State) (o : HostOut) : State := { s with hostOut := s.hostOut ++ [o] }

/-- The state with one more packet handed to the link led by group `k`. -/
def State.send (s : State) (k : Nat) (p : Packet) : State := { s with fabOut := s.fabOut ++ [(k, p)] }

/-- A value lies in one of a field's defined encodings; an empty list defines all (R8). -/
def legalIn (legal : List (Nat × Nat)) (v : Nat) : Bool := legal.isEmpty || legal.any (fun r => r.1 ≤ v && v ≤ r.2)

/-- A register value with one field of a write applied: RW fields take a defined encoding, W1C bits clear, and the others
keep their value (R5, R8). -/
def FieldDesc.write (f : FieldDesc) (v old : Nat) : Nat :=
  let x := bits v f.hi f.lo
  let o := bits old f.hi f.lo
  let new := match f.acc with
    | .rw => if legalIn f.legal x then x else o
    | .w1c => o - (o &&& x)
    | _ => o
  old - o * 2 ^ f.lo + new * 2 ^ f.lo

/-- A register takes a write field by field (R5, R8). -/
def State.writeReg (s : State) (key v : Nat) : State :=
  match findReg key with
  | some a => s.setReg key (BitVec.ofNat 64 (a.desc.fields.foldl (fun old f => f.write v old) (s.reg key).toNat))
  | none => s

/-- A key at which a register starts. -/
def isReg (key : Nat) : Bool := (findReg key).isSome

/-- The outcome type of a command. -/
abbrev Out := Host.Outcome State Fault Refusal

end Sys2Proof.Machine
end

