-- ==== Sys2Proof/Machine/Events.lean ====
section
/-! DEFINITION. Event occurrences and their delivery to the steward queue, to vectors, to SMB_ALERT_N and to fabric
targets (R703 to R715, R719, R727), for sources that no partition receives. -/

namespace Sys2Proof.Machine

/-- One event occurrence (Table 20.4, Table 20.5). -/
structure Event where
  src  : Nat
  inst : Nat
  a0   : Nat
  a1   : Nat
  a2   : Nat
  deriving DecidableEq, Repr

namespace Ev
abbrev SYN_COAST : Nat := 0x01
abbrev SYN_REF_LOST : Nat := 0x02
abbrev SYN_RELOCK : Nat := 0x03
abbrev SYN_GATED : Nat := 0x04
abbrev SYN_COAST_LIMIT : Nat := 0x05
abbrev FABRIC_READY : Nat := 0x08
abbrev MEM_READY : Nat := 0x09
abbrev MEM_START_FAIL : Nat := 0x0A
abbrev AVS_FAULT : Nat := 0x0B
abbrev THERMAL_WARN : Nat := 0x0C
abbrev THERMAL_THROTTLE : Nat := 0x0D
abbrev PROCHOT : Nat := 0x0E
abbrev MEM_CE : Nat := 0x10
abbrev MEM_UE : Nat := 0x11
abbrev MEM_META_UE : Nat := 0x12
abbrev MEM_DEV_RETIRED : Nat := 0x13
abbrev MEM_REPLACE_DIMM : Nat := 0x14
abbrev MEM_PPR_DONE : Nat := 0x15
abbrev MEM_PPR_EXHAUSTED : Nat := 0x16
abbrev MEM_CHANNEL_FAULT : Nat := 0x17
abbrev XLT_GT_UE : Nat := 0x18
abbrev INV_ACK : Nat := 0x19
abbrev FAB_LINK_UP : Nat := 0x20
abbrev FAB_LINK_DOWN : Nat := 0x21
abbrev FAB_RETRAIN : Nat := 0x22
abbrev FAB_LANE_SPARED : Nat := 0x23
abbrev FAB_WIDTH_REDUCED : Nat := 0x24
abbrev FAB_AUTH_FAIL : Nat := 0x25
abbrev FAB_UNATT_DATA : Nat := 0x26
abbrev FAB_MEMO_FULL : Nat := 0x27
abbrev CAMPION_LINK_EXCLUDED : Nat := 0x28
abbrev DUPLICATE_IDENTITY : Nat := 0x29
abbrev CAMPION_ASSIGNED : Nat := 0x2A
abbrev CAMPION_COORD : Nat := 0x2B
abbrev FAB_ADDR_CHANGED : Nat := 0x2C
abbrev TOPO_INCONSISTENT : Nat := 0x2D
abbrev TOPO_FULL : Nat := 0x2E
abbrev SORREL_LOCK : Nat := 0x2F
abbrev SORREL_UNLOCK : Nat := 0x30
abbrev SORREL_HOLDOVER : Nat := 0x31
abbrev SORREL_STEP : Nat := 0x32
abbrev RING_PAUSE : Nat := 0x38
abbrev HATCH_CHECK_FAIL : Nat := 0x40
abbrev STIPPLE_MISMATCH : Nat := 0x41
abbrev UNIT_RETIRED : Nat := 0x42
abbrev SPARE_ONLINE : Nat := 0x43
abbrev SPARE_EXHAUSTED : Nat := 0x44
abbrev SRAM_ROW_REPAIRED : Nat := 0x45
abbrev SRAM_BLOCK_RETIRED : Nat := 0x46
abbrev REPAIR_RECORD_FAULT : Nat := 0x47
abbrev TRNG_FAIL : Nat := 0x50
abbrev KEY_FAULT : Nat := 0x51
abbrev LOG_RECORDS : Nat := 0x52
abbrev LOG_NEAR_FULL : Nat := 0x53
abbrev LOG_FULL : Nat := 0x54
abbrev LOG_BANK_FAIL : Nat := 0x55
abbrev LOG_HALT : Nat := 0x56
abbrev DSP_HPD : Nat := 0x60
abbrev DSP_LINK_FAIL : Nat := 0x61
abbrev DSP_HDCP_FAIL : Nat := 0x62
abbrev DSP_POISON : Nat := 0x63
abbrev PRS_STATE : Nat := 0x68
abbrev PRS_HALT : Nat := 0x69
abbrev PRS_SPOILED : Nat := 0x6A
abbrev PRS_HASH_MISMATCH : Nat := 0x6B
abbrev DRY_LOCK : Nat := 0x6C
abbrev DRY_UNLOCK : Nat := 0x6D
abbrev DRY_APC_FAULT : Nat := 0x6E
abbrev TNS_ADC_FAULT : Nat := 0x70
abbrev TNS_SLOT_FAULT : Nat := 0x71
abbrev TST_JOB_DONE : Nat := 0x80
abbrev TST_ERR_THR : Nat := 0x81
abbrev TAP_PAD_CONTROL : Nat := 0x82
abbrev TAP_BLOCKED : Nat := 0x83
abbrev PROGRAM : Nat := 0xF0
end Ev

/-- Sources delivered to a partition only (Table 20.4). -/
def pOnly (src : Nat) : Bool := src == 0x19 || (0xF0 ≤ src && src ≤ 0xFF)

/-- The press and proof sources, which never fire on KQN-1610 (R27). -/
def pressSource (src : Nat) : Bool := 0x60 ≤ src && src ≤ 0x71

/-- The 32 bytes of an event record (Table 20.5). -/
def eventBytes (e : Event) (overflow : Bool) (seq time : Nat) : List Byte :=
  leBytes 1 e.src ++ leBytes 1 (b2n overflow) ++ leBytes 2 e.inst ++ leBytes 4 seq ++ leBytes 8 time ++
    leBytes 4 e.a0 ++ leBytes 4 e.a1 ++ leBytes 8 e.a2

/-- Key of the MSI-X vector control word of a vector; function 0 is PF0, p + 1 the VF of partition p. -/
def msixCtl (fn vec : Nat) : Nat := if fn = 0 then R.HIF_MSIX (4 * vec + 3) else R.PW_MSIX (fn - 1) (4 * vec + 3)

/-- The pending bits of a function. -/
def msixPba (fn : Nat) : Fld := if fn = 0 then F.HIF_PBA_BITS else F.PW_PBA_BITS (fn - 1)

/-- A function exists: PF0 always, the VF of partition p when NumVFs covers it and Memory Space Enable is set (R704). -/
def State.fnPresent (s : State) (fn : Nat) : Bool := fn == 0 || (fn ≤ s.evt.numVfs && s.evt.vfMse)

/-- A vector is masked, by its own bit or by the Function Mask (R708, R777). -/
def State.vecMasked (s : State) (fn vec : Nat) : Bool :=
  s.evt.msixMask.contains fn || (s.reg (msixCtl fn vec)).toNat % 2 == 1

/-- One occurrence on a vector: a message, or the pending bit of a masked vector; nothing while MSI-X Enable is 0 or
the function is absent (R704, R708, R777). -/
def sendMsix (fn vec : Nat) (s : State) : State :=
  if !s.fnPresent fn || !s.evt.msixEn.contains fn then s
  else if s.vecMasked fn vec then s.orBits (msixPba fn) (2 ^ vec)
  else s.host (.msix fn vec)

/-- SMB_ALERT_N goes low, with an in-band interrupt at the transition when IBI is enabled (R719). -/
def raiseAlert (src : Nat) (s : State) : State :=
  let ibi := if s.evt.i3cIbiEn && !s.evt.alertLow then s.evt.ibi ++ [src] else s.evt.ibi
  { s with evt := { s.evt with alertLow := true, alertSrc := src, alertNew := true, ibi := ibi } }

/-- A record is offered to the steward queue: written, or dropped and counted; SEQ counts it either way (R713, R727).
A DMA to the host fails while the PCIe link is down. -/
def offerSteward (e : Event) (vec : Nat) (s : State) : State :=
  if !s.on F.EVT_Q_CFG_EN then s
  else
    let size := 2 ^ s.get F.EVT_Q_CFG_LOG2SIZE
    let tail := s.get F.EVT_Q_TAIL_TAIL
    let full := wrap32 (tail + 4294967296 - s.get F.EVT_Q_HEAD_HEAD) == size
    let seq := s.evt.seq
    let s := { s with evt := { s.evt with seq := wrap32 (seq + 1) } }
    if s.evt.stopped || full then
      let s := (s.bump F.EVT_Q_STATUS_DROPPED 1).put F.EVT_Q_STATUS_OVERFLOW 1
      { s with evt := { s.evt with overflow := true } }
    else if !s.pwr.pcieUp then
      let s := ((s.bump F.EVT_Q_STATUS_DROPPED 1).put F.EVT_Q_STATUS_OVERFLOW 1).put F.EVT_Q_STATUS_Q_FAULT 1
      { s with evt := { s.evt with overflow := true, stopped := true } }
    else
      let addr := s.get F.EVT_Q_BASE_ADDR * 4096 + tail % size * 32
      let s := s.host (.dma addr (eventBytes e s.evt.overflow seq s.now) (s.trust.grant.map (·.1)))
      let s := { s with evt := { s.evt with overflow := false } }
      sendMsix 0 vec (s.put F.EVT_Q_TAIL_TAIL (tail + 1))

/-- VC that carries the management role on a link (Table 07.8). -/
def State.mgmtVc (s : State) (k : Nat) : Nat :=
  let n := s.get (F.FP_STATUS_VCS_NEG k)
  if n = 0 ∨ 5 ≤ n then 4 else if 3 ≤ n then 2 else 1

/-- The event packet of an occurrence for one link (R715). -/
def eventPacket (e : Event) (link : Nat) (s : State) : Packet :=
  { opc := 8, len := 2, vc := s.mgmtVc link, dl := 0, rev := 0, poison := false, dst := Tab.get 0 s.fab.peerAddr link,
    src := s.get F.TOPO_STATUS_ADDR, cid := 0, w1 := 3, data := eventBytes e false 0 s.now }

/-- An event packet is sent on each target link that is SECURE, and counted as dropped on the others or while the node
uses no address (R715, R781). -/
def sendEventPackets (e : Event) (s : State) : State :=
  s.each (List.range 6) (fun k t =>
    if !bit (t.get F.EVT_FAB_TGT_LINKS) k then t
    else if t.on (F.FP_STATUS_SECURE k) && t.get (F.FP_STATUS_STATE k) == 5 && t.fab.assigned &&
        t.get F.TOPO_STATUS_STATE != 0 then
      t.send k (eventPacket e k t)
    else t.bump F.EVT_FAB_DROP_COUNT 1)

/-- Delivery of one occurrence to the steward's side: EVT_OCCURRED, the steward queue, PF0's vector, SMB_ALERT_N and
the fabric targets (R711). -/
def raiseNode (e : Event) (s : State) : State :=
  if pressSource e.src && !s.hasPress then s
  else if pOnly e.src then s
  else
    let s := s.orBits (F.EVT_OCCURRED_BITS (e.src / 32)) (2 ^ (e.src % 32))
    if !s.on (F.EVT_ROUTE_EN e.src) then s
    else
      let s := offerSteward e (s.get (F.EVT_ROUTE_VECTOR e.src)) s
      let s := if s.on (F.EVT_ROUTE_ALERT e.src) then raiseAlert e.src s else s
      if s.on (F.EVT_ROUTE_FAB e.src) then sendEventPackets e s else s

end Sys2Proof.Machine
end

