-- ==== Sys2Proof/Machine/RepairOps.lean ====
section
/-! DEFINITION. The repair record's pending area: entries, locations, serials and the merge (R484, R489 to R492). -/

namespace Sys2Proof.Machine

/-- One bit step of CRC-32, reflected form of the IEEE 802.3 polynomial. -/
def crc32Bits : Nat → Nat → Nat
  | 0, c => c
  | n + 1, c => crc32Bits n (if c % 2 = 1 then (c / 2) ^^^ 0xEDB88320 else c / 2)

/-- CRC-32 of a byte list, with the IEEE 802.3 polynomial (R484). -/
def crc32 (bs : List Byte) : Nat :=
  (bs.foldl (fun c b => crc32Bits 8 (c ^^^ b.toNat)) 0xFFFFFFFF) ^^^ 0xFFFFFFFF

/-- LOCATION of a HATCH entry. -/
def locHatch (cl phys : Nat) : Nat := cl + phys * 2 ^ 8
/-- LOCATION of a STIPPLE entry. -/
def locStipple (cl phys : Nat) : Nat := cl + phys * 2 ^ 8
/-- LOCATION of an SRAM_ROW entry. -/
def locSramRow (r : SramRow) : Nat := r.code + r.inst * 2 ^ 8 + r.row * 2 ^ 24
/-- LOCATION of a BLOCK entry. -/
def locBlock (cl blk : Nat) : Nat := cl + blk * 2 ^ 8
/-- LOCATION of a DRAM_DEV entry. -/
def locDramDev (ch e d : Nat) : Nat := ch + e * 2 ^ 5 + d * 2 ^ 8
/-- LOCATION of a DRAM_ROW entry. -/
def locDramRow (r : RowRepair) : Nat :=
  r.addr.ch + r.addr.sub * 2 ^ 5 + r.addr.slot * 2 ^ 6 + r.addr.cs * 2 ^ 7 + r.addr.cid * 2 ^ 8 + r.dev * 2 ^ 11 +
    r.addr.bg * 2 ^ 15 + r.addr.ba * 2 ^ 18 + r.addr.row * 2 ^ 20
/-- LOCATION of a LANE entry. -/
def locLane (g lane : Nat) : Nat := g + lane * 2 ^ 3

/-- The row a DRAM_ROW entry names. -/
def rowOfLoc (l : Nat) : RowRepair :=
  { addr := { ch := bits l 4 0, sub := bits l 5 5, slot := bits l 6 6, cs := bits l 7 7, cid := bits l 10 8,
              bg := bits l 17 15, ba := bits l 19 18, row := bits l 37 20, col := 0 },
    dev := bits l 14 11 }

/-- Channel and slot a DRAM entry names. -/
def dramSlotOf (e : RepairEntry) : Nat × Nat :=
  if e.type = 5 then (bits e.loc 4 0, bits (bits e.loc 7 5) 1 1) else (bits e.loc 4 0, bits e.loc 6 6)

/-- The same TYPE and LOCATION (R492). -/
def RepairEntry.same (a b : RepairEntry) : Bool := a.type == b.type && a.loc == b.loc

/-- A list of entries with one merged in: a repeat is not added, but a changed HARD replaces the older entry (R492). -/
def mergeEntry (l : List RepairEntry) (e : RepairEntry) : List RepairEntry :=
  match l.find? (·.same e) with
  | none => l ++ [e]
  | some o => if o.flags = e.flags then l else l.map (fun x => if x.same e then e else x)

/-- The record with the pending area merged in, at most 2,046 entries (R489, R492). -/
def mergedRecord (record pending : List RepairEntry) : List RepairEntry :=
  pending.foldl (fun r e => if r.length < 2046 ∨ r.any (·.same e) then mergeEntry r e else r) record

/-- A new entry is held in the pending area; with the record and the pending area both full it is dropped, FULL is
set and REPAIR_RECORD_FAULT raised (R491, R492); a deletion of the same entry that still waits is overtaken (R493). -/
def repairAdd (type flags serial loc : Nat) (s : State) : State :=
  let e : RepairEntry := { type := type, flags := flags, serial := serial, loc := loc, time := s.now }
  let s := { s with rpr := { s.rpr with deleted := s.rpr.deleted.filter (fun o => !o.same e) } }
  if s.rpr.record.any (fun o => o.same e && o.flags == flags) || s.rpr.pending.any (fun o => o.same e && o.flags == flags)
  then s
  else
  if 256 ≤ s.rpr.pending.length then
    if 2046 ≤ s.rpr.record.length then
      raiseNode ⟨Ev.REPAIR_RECORD_FAULT, 0, 0, 0, 0⟩ (s.put F.RPR_STATUS_FULL 1)
    else
      { s with rpr := { s.rpr with record := mergedRecord s.rpr.record s.rpr.pending, pending := [e] } }
  else { s with rpr := { s.rpr with pending := mergeEntry s.rpr.pending e } }

/-- ARG0 of the unit events: physical unit, logical unit, kind and spares left (Table 20.4). -/
def unitArg (phys logical kind spares : Nat) : Nat := phys + logical * 256 + kind * 65536 + spares * 1048576

end Sys2Proof.Machine
end

