-- ==== Sys2Proof/Machine/SymbolCode.lean ====
section
/-! DEFINITION. The symbol code of the pool: GF(2^8) arithmetic, the Reed–Solomon encoder (R158, R159), the device map
(R160) and bounded-distance decoding in normal and erasure mode (R161). -/

namespace Sys2Proof.Machine

/-- Doubling in GF(2^8) with field polynomial 0x11D. -/
def gfDouble (a : Nat) : Nat := if a < 128 then 2 * a else (2 * a) ^^^ 0x11D

/-- Product in GF(2^8), by the bits of the second factor from the most significant of `n`. -/
def gfMulBits (a b : Nat) : Nat → Nat
  | 0 => 0
  | n + 1 => gfDouble (gfMulBits a (b / 2) n) ^^^ (if b % 2 = 1 then a else 0)

/-- Product in GF(2^8). -/
def gfMul (a b : Nat) : Nat := if a = 0 ∨ b = 0 then 0 else gfMulBits a b 8

/-- Power in GF(2^8). -/
def gfPow (a : Nat) : Nat → Nat
  | 0 => 1
  | n + 1 => gfMul (gfPow a n) a

/-- Powers of the primitive element, α = 2 (R158). -/
def alphaPow (n : Nat) : Nat := gfPow 2 (n % 255)

/-- Inverse in GF(2^8): a^254. -/
def gfInv (a : Nat) : Nat :=
  let a2 := gfMul a a
  let a4 := gfMul a2 a2
  let a8 := gfMul a4 a4
  let a16 := gfMul a8 a8
  let a32 := gfMul a16 a16
  let a64 := gfMul a32 a32
  let a128 := gfMul a64 a64
  gfMul a2 (gfMul a4 (gfMul a8 (gfMul a16 (gfMul a32 (gfMul a64 a128)))))

/-- Product of two polynomials over GF(2^8), least significant coefficient first. -/
def gfPolyMul : List Nat → List Nat → List Nat
  | [], _ => []
  | a :: as, bs =>
    let hd := bs.map (gfMul a)
    let tl := 0 :: gfPolyMul as bs
    (List.range (max hd.length tl.length)).map (fun i => hd.getD i 0 ^^^ tl.getD i 0)

/-- Value of a polynomial at a point. -/
def gfEval (x : Nat) : List Nat → Nat
  | [] => 0
  | c :: cs => c ^^^ gfMul x (gfEval x cs)

/-- The generator polynomial of R158, as its sixteen low coefficients (the leading coefficient is 1). -/
def rsGenerator : List Nat :=
  ((List.range 16).foldl (fun g i => gfPolyMul g [alphaPow i, 1]) [1]).take 16

/-- One step of division by the generator: shift `m` in at the top of the remainder. -/
def rsShift (rem : List Nat) (m : Nat) : List Nat :=
  let fb := m ^^^ rem.getD 15 0
  (List.range 16).map (fun i => (if i = 0 then 0 else rem.getD (i - 1) 0) ^^^ gfMul fb (rsGenerator.getD i 0))

/-- The sixteen check symbols of a 64-byte line (R159). -/
def rsCheck (line : List Nat) : List Nat :=
  line.reverse.foldl rsShift (List.replicate 16 0)

/-- The 80-symbol codeword: check symbols at positions 0 to 15, line byte b at position 16 + b (R159). -/
def rsEncode (line : List Nat) : List Nat := rsCheck line ++ line

/-- The device (0 to 9) that carries codeword position p (R160). -/
def symbolDevice (p : Nat) : Nat := if p < 16 then 8 + p / 8 else (p - 16) / 8

/-- The eight codeword positions of device d (R160). -/
def deviceSymbols (d : Nat) : List Nat :=
  (List.range 8).map (fun s => if d < 8 then 16 + 8 * d + s else 8 * (d - 8) + s)

/-- A symbol error: codeword position and nonzero difference. -/
abbrev SymErr := Nat × Nat

/-- Syndrome i of an error pattern. -/
def syndrome (errs : List SymErr) (i : Nat) : Nat :=
  errs.foldl (fun a e => a ^^^ gfMul e.2 (alphaPow (i * e.1))) 0

/-- The sixteen syndromes of an error pattern. -/
def syndromes (errs : List SymErr) : List Nat := (List.range 16).map (syndrome errs)

/-- One elimination step: normalise row `r` on column `c` and clear the column in every other row. -/
def gfPivot (rows : List (List Nat)) (r c : Nat) : List (List Nat) :=
  let pr := rows.getD r []
  let inv := gfInv (pr.getD c 0)
  let pn := pr.map (gfMul inv)
  (List.range rows.length).map (fun i =>
    if i = r then pn
    else
      let ri := rows.getD i []
      let f := ri.getD c 0
      (List.range ri.length).map (fun j => ri.getD j 0 ^^^ gfMul f (pn.getD j 0)))

/-- Gauss–Jordan elimination on an augmented matrix with `n` unknowns; `none` when a column has no pivot. -/
def gfElim (n : Nat) (rows : List (List Nat)) : Nat → Option (List (List Nat))
  | 0 => some rows
  | k + 1 =>
    let c := n - (k + 1)
    match (List.range rows.length).find? (fun i => c ≤ i && (rows.getD i []).getD c 0 != 0) with
    | none => none
    | some i =>
      let swapped := (rows.set i (rows.getD c [])).set c (rows.getD i [])
      gfElim n (gfPivot swapped c c) k

/-- The solution of a linear system over GF(2^8) with `n` unknowns, when it is unique; rows past the n-th are left to
the caller's syndrome check. -/
def gfSolve (n : Nat) (rows : List (List Nat)) : Option (List Nat) :=
  (gfElim n rows n).map (fun m => (List.range n).map (fun i => (m.getD i []).getD n 0))

/-- Error values at known positions from the sixteen syndromes, checked against all of them. -/
def rsValues (pos : List Nat) (syn : List Nat) : Option (List SymErr) :=
  let rows := (List.range 16).map (fun i => pos.map (fun p => alphaPow (i * p)) ++ [syn.getD i 0])
  match gfSolve pos.length rows with
  | none => none
  | some v =>
    let e := (pos.zip v).filter (fun x => x.2 != 0)
    if syndromes e = syn then some e else none

/-- Positions whose locator is a root of the error locator with coefficients `lam` (Λ(x) = 1 + Σ lam_i x^(i+1)). -/
def rsRoots (lam : List Nat) : List Nat :=
  (List.range 80).filter (fun p => gfEval (alphaPow (255 - p)) (1 :: lam) == 0)

/-- Search for exactly `v` errors outside the erased positions, by the Peterson key equations on the syndromes
multiplied by the erasure locator. -/
def rsTry (erased : List Nat) (syn : List Nat) (v : Nat) : Option (List SymErr) :=
  let gam := erased.foldl (fun g p => gfPolyMul g [1, alphaPow p]) [1]
  let t := (List.range 16).map (fun i =>
    (List.range (i + 1)).foldl (fun a j => a ^^^ gfMul (gam.getD j 0) (syn.getD (i - j) 0)) 0)
  let f := erased.length
  if v = 0 then rsValues erased syn
  else
    let rows := (List.range v).map (fun r =>
      (List.range v).map (fun c => t.getD (f + r + v - 1 - c) 0) ++ [t.getD (f + r + v) 0])
    match gfSolve v rows with
    | none => none
    | some lam =>
      let pos := rsRoots lam
      if pos.length = v ∧ pos.all (fun p => !erased.contains p) then rsValues (erased ++ pos) syn else none

/-- Bounded-distance decoding of an error pattern: the correction the decoder applies, `none` when it reports the
codeword uncorrectable (R161). In erasure mode `erased` holds the retired device's positions. A pattern beyond the
limits may meet another codeword, and the correction then differs from the pattern. -/
def rsDecode (erased : List Nat) (errs : List SymErr) : Option (List SymErr) :=
  let syn := syndromes errs
  if syn.all (· == 0) then some []
  else
    let limit := if erased.isEmpty then 8 else 4
    (List.range (limit + 1)).findSome? (rsTry erased syn)

/-- Two error patterns combined: the differences add in GF(2^8), and a zero difference is no error. -/
def errAdd (a b : List SymErr) : List SymErr :=
  b.foldl (fun acc e =>
    match acc.find? (fun x => x.1 == e.1) with
    | none => if e.2 = 0 ∨ 80 ≤ e.1 ∨ 256 ≤ e.2 then acc else acc ++ [e]
    | some x =>
      let rest := acc.filter (fun y => y.1 != e.1)
      let v := x.2 ^^^ (e.2 % 256)
      if v = 0 then rest else rest ++ [(e.1, v)]) a

/-- The line bytes an error pattern changes. -/
def errApply (errs : List SymErr) (line : List Byte) : List Byte :=
  errs.foldl (fun l e =>
    if 16 ≤ e.1 then l.set (e.1 - 16) (l.getD (e.1 - 16) 0 ^^^ BitVec.ofNat 8 e.2) else l) line

end Sys2Proof.Machine
end

