-- ==== Sys2Proof/Machine/Pool.lean ====
section
/-! DEFINITION. Pool memory: placement, the symbol code at a line, the valid hierarchy, line reads and writes, error
accounting, device retirement and row repair (R151 to R186). -/

namespace Sys2Proof.Machine

/-- The byte at a pool address; an unlisted byte is zero. -/
def cellRead : List Host.Cell → Nat → Byte
  | [], _ => 0
  | (k, v) :: t, a => if k = a then v else if a < k then 0 else cellRead t a

/-- The cells with one byte written, in canonical form: addresses rising and no zero byte listed. -/
def cellWrite : List Host.Cell → Nat → Byte → List Host.Cell
  | [], a, b => if b = 0 then [] else [(a, b)]
  | (k, v) :: t, a, b =>
    if a < k then (if b = 0 then (k, v) :: t else (a, b) :: (k, v) :: t)
    else if k = a then (if b = 0 then t else (a, b) :: t)
    else (k, v) :: cellWrite t a b

/-- The canonical form: addresses strictly rising, no zero byte. -/
def cellsOk : List Host.Cell → Bool
  | [] => true
  | [(_, v)] => v != 0
  | (k, v) :: (k', v') :: t => v != 0 && k < k' && cellsOk ((k', v') :: t)

/-- A run of bytes read. -/
def cellsRead (m : List Host.Cell) (a n : Nat) : List Byte := (List.range n).map (fun i => cellRead m (a + i))

/-- A run of bytes written. -/
def cellsWrite (m : List Host.Cell) (a : Nat) : List Byte → List Host.Cell
  | [] => m
  | b :: bs => cellsWrite (cellWrite m a b) (a + 1) bs

/-- Granules installed. -/
def State.installed (s : State) : Nat := s.get F.MEMG_GRANULES_INSTALLED
/-- Granules software can assign (R151). -/
def State.usable (s : State) : Nat := s.get F.MEMG_GRANULES_USABLE

/-- R_META of R151. -/
def rMeta (installed : Nat) : Nat := (installed * 2099200 + 1073741823) / 1073741824

/-- XOR of the eleven 3-bit fields of a group number (R156). -/
def xorFold (h : Nat) : Nat := (List.range 11).foldl (fun f i => f ^^^ (h / 2 ^ (3 * i) % 8)) 0

/-- Channel of a pool address (R156). -/
def channelOf (ppa : Nat) : Nat := 8 * (ppa / 2048 % 3) + ((ppa / 256 % 8) ^^^ xorFold (ppa / 2048))

/-- Placement of a pool address under a population's geometry (R156, R157). -/
def place (g : DimmPop) (ppa : Nat) : DramAddr :=
  let k := ppa / 2048 / 3
  let li := 2 * k + ppa / 128 % 2
  let q := li / 4096
  let row := q % g.rows
  { ch := channelOf ppa, sub := ppa / 64 % 2, slot := q / (g.rows * g.stack * g.ranks),
    cs := q / (g.rows * g.stack) % g.ranks, cid := q / g.rows % g.stack, bg := (li % 8) ^^^ (row % 8),
    ba := li / 8 % 4, row := row, col := li / 32 % 128 * 16 }

/-- Placement of a line (PPA >> 6); with no population every field but the channel and subchannel is zero. -/
def State.placeLine (s : State) (line : Nat) : DramAddr :=
  match s.pool.pop with
  | some g => place g (line * 64)
  | none => { ch := channelOf (line * 64), sub := line % 2, slot := 0, cs := 0, cid := 0, bg := 0, ba := 0, row := 0, col := 0 }

/-- Entry e of MC_n_RETIRE of a location (Table 05.14). -/
def DramAddr.entry (a : DramAddr) : Nat := 4 * a.sub + 2 * (a.slot % 2) + a.cs % 2

/-- The retired device of an entry of MC_n_RETIRE. -/
def State.retiredDev (s : State) (ch e : Nat) : Option Nat :=
  let b := s.get (F.MC_RETIRE_ENTRIES ch) / 2 ^ (8 * e) % 256
  if 128 ≤ b then some (b % 16) else none

/-- Line index of the L1 byte of a block of a granule (Table 05.3). -/
def State.l1Line (s : State) (g b : Nat) : Nat :=
  (s.usable * 2 ^ 30 + s.installed * 2 ^ 21 + g * 2048 + b / 8) / 64

/-- Line index of the L0 byte of a line of a granule (Table 05.3). -/
def State.l0Line (s : State) (g i : Nat) : Nat := (s.usable * 2 ^ 30 + g * 2 ^ 21 + i / 8) / 64

/-- A channel serves requests: the pool is open, its state is ACTIVE and no hard repair runs on it. -/
def State.channelUp (s : State) (ch : Nat) : Bool := s.get (F.MC_STATUS_STATE ch) == 2

/-- The quadrant of a channel. -/
def quadOf (ch : Nat) : Nat := ch / 6

/-- What a quadrant's controllers do. -/
def State.quadMode (s : State) (q : Nat) : QuadMode := Tab.get .running s.clk.quad q

/-- A row repair covers a line (R181): the same subchannel, rank, chip ID, bank and row. -/
def RowRepair.covers (r : RowRepair) (a : DramAddr) : Bool :=
  r.addr.ch == a.ch && r.addr.sub == a.sub && r.addr.slot == a.slot && r.addr.cs == a.cs && r.addr.cid == a.cid &&
    r.addr.bg == a.bg && r.addr.ba == a.ba && r.addr.row == a.row

/-- Whether a request to a line is served, held or ended now (R84, R106, R136, R166, R181, R182, R184). -/
inductive Avail where
  | serve | hold | unavailable
  deriving DecidableEq, Repr

/-- Availability of a line. -/
def State.avail (s : State) (line : Nat) : Avail :=
  let ch := channelOf (line * 64)
  if s.on F.CKR_START_STAGE_MEM_FAIL then .unavailable
  else if !s.on F.CKR_START_STAGE_MEM_READY then .hold
  else
    match s.quadMode (quadOf ch) with
    | .expired => .unavailable
    | .quiescing => .hold
    | .selfRefresh => .hold
    | .recentring => .hold
    | .running =>
      if !s.channelUp ch then .unavailable
      else if s.pool.opening.contains (line / 16777216) then .hold
      else if s.pool.softRun.any (fun r => r.covers (s.placeLine line)) then .hold
      else .serve

/-- Erased positions of the mode a rank decodes in (R161). -/
def State.erasedOf (s : State) (a : DramAddr) : List Nat :=
  match s.retiredDev a.ch a.entry with
  | some d => deviceSymbols d
  | none => []

/-- MC_n_ERR_LOG takes a codeword with outcome 1 to 4, unless an outcome 1 or 2 would overwrite a valid outcome 3
or 4 (R188). -/
def errLog (outcome nsym dev : Nat) (a : DramAddr) (s : State) : State :=
  let old := s.get (F.MC_ERR_LOG_OUTCOME a.ch)
  if s.on (F.MC_ERR_LOG_VALID a.ch) && (old == 3 || old == 4) && (outcome == 1 || outcome == 2) then s
  else
    (((((((((((s.put (F.MC_ERR_LOG_VALID a.ch) 1).put (F.MC_ERR_LOG_OUTCOME a.ch) outcome).put
      (F.MC_ERR_LOG_NSYM a.ch) nsym).put (F.MC_ERR_LOG_SUB a.ch) a.sub).put (F.MC_ERR_LOG_DEV a.ch) dev).put
      (F.MC_ERR_LOG_SLOT a.ch) a.slot).put (F.MC_ERR_LOG_CS a.ch) a.cs).put (F.MC_ERR_LOG_CID a.ch) a.cid).put
      (F.MC_ERR_LOG_BG a.ch) a.bg).put (F.MC_ERR_LOG_BA a.ch) a.ba).put (F.MC_ERR_LOG_ROW a.ch) a.row).put
      (F.MC_ERR_LOG_COL a.ch) a.col

/-- A memory event of a location, with device code d and URGENT (Table 20.4). -/
def memEvent (src d : Nat) (urgent : Bool) (a : DramAddr) (s : State) : State :=
  let log := (s.reg (R.MC_ERR_LOG a.ch)).toNat
  raiseNode ⟨src, a.ch, d + a.entry * 16 + (a.slot % 2) * 128 + b2n urgent * 256, log / 4294967296, log⟩ s

/-- SERIAL of the DIMM at a location (R484). -/
def State.serialOf (s : State) (a : DramAddr) : Nat := Tab.get 0 s.pool.serials (a.ch * 2 + a.slot)

/-- A device position is retired: MC_n_RETIRE, the two events and a DRAM_DEV entry (R178, R180, R484). -/
def retireDevice (a : DramAddr) (d : Nat) (s : State) : State :=
  let e := a.entry
  let s := s.put (F.MC_RETIRE_ENTRIES a.ch)
    (s.get (F.MC_RETIRE_ENTRIES a.ch) / 2 ^ (8 * e + 8) * 2 ^ (8 * e + 8) + (128 + d) * 2 ^ (8 * e) +
      s.get (F.MC_RETIRE_ENTRIES a.ch) % 2 ^ (8 * e))
  let s := repairAdd 5 0 (s.serialOf a) (locDramDev a.ch e d) s
  memEvent Ev.MEM_REPLACE_DIMM d false a (memEvent Ev.MEM_DEV_RETIRED d false a s)

/-- Key of a device position for its burst count. -/
def burstKey (a : DramAddr) (d : Nat) : Nat := (a.ch * 8 + a.entry) * 16 + d

/-- A device-burst event is counted within the Sorrel second; at RETIRE_THR the device is retired, or its rank already
has a retired device and the DIMM is reported urgent (R178, R180). -/
def burstEvent (a : DramAddr) (d : Nat) (s : State) : State :=
  let key := burstKey a d
  let (sec, n) := Tab.get (0, 0) s.pool.bursts key
  let n := if sec = s.second then n + 1 else 1
  let s := { s with pool := { s.pool with bursts := Tab.set s.pool.bursts key (s.second, n) } }
  if n = s.get F.MEMG_THR_RETIRE_THR then
    match s.retiredDev a.ch a.entry with
    | none => retireDevice a d s
    | some r =>
      if r = d then s
      else memEvent Ev.MEM_REPLACE_DIMM d true a (s.put F.MEMG_PPR_STATUS_URGENT 1)
  else s

/-- Soft repairs used in a bank group of a device rank. -/
def State.softUsed (s : State) (r : RowRepair) : Nat :=
  ((s.pool.soft ++ s.pool.softRun ++ s.pool.hardDone).filter (fun x =>
    x.dev == r.dev && x.addr.ch == r.addr.ch && x.addr.sub == r.addr.sub && x.addr.slot == r.addr.slot &&
    x.addr.cs == r.addr.cs && x.addr.cid == r.addr.cid && x.addr.bg == r.addr.bg)).length

/-- A row fault: soft repair starts while the bank group has a resource, and otherwise the exhaustion is reported
(R181, R183). -/
def rowFault (r : RowRepair) (s : State) : State :=
  if s.pool.softRun.contains r || s.pool.soft.contains r then s
  else if s.softUsed r < (match s.pool.pop with | some g => g.sppr | none => 0) then
    { s with pool := { s.pool with softRun := s.pool.softRun ++ [r] } }
  else
    let s := s.bump F.MEMG_PPR_STATUS_EXHAUSTED 1
    memEvent Ev.MEM_REPLACE_DIMM r.dev false r.addr (memEvent Ev.MEM_PPR_EXHAUSTED r.dev false r.addr s)

/-- A corrected column of a device row is counted within the Sorrel second; at ROW_THR distinct columns it is a row
fault (R181). -/
def rowError (a : DramAddr) (d : Nat) (s : State) : State :=
  let r : RowRepair := { addr := { a with col := 0 }, dev := d }
  let cols := match s.pool.rowCounts.find? (fun x => x.row == r && x.sec == s.second) with
    | some x => x.cols
    | none => []
  let cols' := NSet.ins cols a.col
  let rest := s.pool.rowCounts.filter (fun x => !(x.row == r))
  let s := { s with pool := { s.pool with rowCounts := rest ++ [⟨r, s.second, cols'⟩] } }
  if cols'.length = s.get F.MEMG_THR_ROW_THR ∧ cols.length < cols'.length then rowFault r s else s

/-- Devices with a symbol in error, with how many. -/
def devErrors (e : List SymErr) : List (Nat × Nat) :=
  ((List.range 10).map (fun d => (d, (e.filter (fun x => symbolDevice x.1 == d)).length))).filter (fun x => x.2 != 0)

/-- Register index j of device d of a subchannel (R155). -/
def devIndex (a : DramAddr) (d : Nat) : Nat := 10 * a.sub + d

/-- Accounting of one corrected codeword: the channel and device counters, the error log, device-burst events, row
errors and MEM_CE no sooner than one second after the channel's last (R174, R177, R178, R181, R188). -/
def noteCorrected (outcome : Nat) (a : DramAddr) (e : List SymErr) (s : State) : State :=
  let ds := devErrors e
  let s := s.bump (F.MC_CE_COUNT a.ch) 1
  let s := s.each ds (fun x t => t.bump (F.MC_DEV_SYMBOLS a.ch (devIndex a x.1)) x.2)
  let s := s.each (ds.filter (fun x => 3 ≤ x.2)) (fun x t => t.bump (F.MC_DEV_BURSTS a.ch (devIndex a x.1)) 1)
  let most := ds.foldl (fun m x => max m x.2) 0
  let ties := (ds.filter (fun x => x.2 == most)).map (fun x => devIndex a x.1)
  let dev := match ties with
    | [j] => j
    | [] => 31
    | js => Config.errLogTie js
  let s := errLog outcome e.length dev a s
  let last := s.pool.lastCe.find? (fun x => x.1 == a.ch)
  let due := match last with
    | none => true
    | some x => x.2 + 1000 * ticksPerMs ≤ s.ticks
  let s := if due then
      memEvent Ev.MEM_CE 15 false a { s with pool := { s.pool with lastCe := Tab.set s.pool.lastCe a.ch s.ticks } }
    else s
  let s := s.each (ds.filter (fun x => 3 ≤ x.2)) (fun x t => burstEvent a x.1 t)
  s.each ds (fun x t => rowError a x.1 t)

/-- One codeword is read and decoded: the differences that remain in what is delivered, or none when it is
uncorrectable. A corrected codeword is written back (R161, R171, R174). -/
def codewordRead (isMeta : Bool) (line : Nat) (s : State) : Option (List SymErr) × State :=
  let errs := Tab.get [] s.pool.sym line
  if errs.isEmpty then (some [], s)
  else
    let a := s.placeLine line
    let erased := s.erasedOf a
    match rsDecode erased errs with
    | none =>
      if isMeta then
        (none, memEvent Ev.MEM_META_UE 15 false a (errLog 4 15 31 a (s.bump F.MEMG_POISON_META_UE 1)))
      else (none, memEvent Ev.MEM_UE 15 false a (errLog 3 15 31 a (s.bump F.MEMG_POISON_DATA_UE 1)))
    | some [] => (some errs, s)
    | some e =>
      let left := errAdd errs e
      let further := e.filter (fun x => !erased.contains x.1)
      let s := if erased.isEmpty || !further.isEmpty then
          { s with pool := { s.pool with sym := if left.isEmpty then s.pool.sym.del line else Tab.set s.pool.sym line left } }
        else s
      (some left, noteCorrected (if erased.isEmpty then 1 else 2) a e s)

/-- An uncorrectable L2 entry is counted once when first found (Table 05.12). -/
def noteL2Ue (g : Nat) (s : State) : State :=
  if s.pool.l2ueSeen.contains g then s
  else { s with pool := { s.pool with l2ueSeen := NSet.ins s.pool.l2ueSeen g } }.bump F.MEMG_POISON_META_UE 1

/-- What the valid hierarchy says of a line (R164). -/
inductive Valid where
  | zero | poison | stored
  deriving DecidableEq, Repr

/-- The valid hierarchy consulted for a line, reading its metadata lines (R164). -/
def hierarchy (line : Nat) (s : State) : Valid × State :=
  let g := line / 16777216
  if s.pool.l2ue.contains g then (.poison, noteL2Ue g s)
  else if !s.pool.l2.contains g then (.zero, s)
  else
    match codewordRead true (s.l1Line g (line / 1024 % 16384)) s with
    | (none, s) => (.poison, s)
    | (some _, s) =>
      if !s.pool.l1.contains (line / 1024) then (.zero, s)
      else
        match codewordRead true (s.l0Line g (line % 16777216)) s with
        | (none, s) => (.poison, s)
        | (some _, s) => if s.pool.l0.contains line then (.stored, s) else (.zero, s)

/-- A line that the metadata region holds, which the hierarchy does not cover (R163, Table 05.3). -/
def State.isMeta (s : State) (line : Nat) : Bool := s.usable * 16777216 ≤ line

/-- A served line read (R164, R175). -/
def readServed (line : Nat) (s : State) : MemRes × State :=
  match hierarchy line s with
  | (.poison, s) => (.poison, s)
  | (.zero, s) => (.ok (List.replicate 64 0), s)
  | (.stored, s) =>
    match codewordRead false line s with
    | (none, s) => (.poison, s)
    | (some left, s) => (.ok (errApply left (cellsRead s.pool.cells (line * 64) 64)), s)

/-- The L1 array of a granule is written with zeros and L1C set (R165, R169). -/
def cleanL1 (g : Nat) (s : State) : State :=
  let first := s.l1Line g 0
  { s with pool := { s.pool with l1 := s.pool.l1.filter (fun b => b / 16384 != g),
                                 sym := s.pool.sym.filter (fun e => e.1 < first || first + 32 ≤ e.1),
                                 l1c := NSet.ins s.pool.l1c g } }

/-- A granule is opened for its first write: OPENING set, the L1 array cleaned when it is not known to be zero, L2 set
and OPENING cleared (R165). -/
def openGranule (g : Nat) (s : State) : State :=
  if s.pool.l2.contains g then s
  else
    let s := { s with pool := { s.pool with opening := NSet.ins s.pool.opening g } }
    let s := if s.pool.l1c.contains g then s else cleanL1 g s
    { s with pool := { s.pool with l2 := NSet.ins s.pool.l2 g, opening := NSet.del s.pool.opening g } }

/-- The valid bits of a line are set (R165). -/
def setValid (line : Nat) (s : State) : State :=
  let g := line / 16777216
  let s := openGranule g s
  let b := line / 1024
  if s.pool.l1.contains b then { s with pool := { s.pool with l0 := NSet.ins s.pool.l0 line } }
  else
    let first := s.l0Line g (line % 16777216 / 1024 * 1024)
    { s with pool := { s.pool with l0 := NSet.ins (s.pool.l0.filter (fun x => x / 1024 != b)) line,
                                   sym := s.pool.sym.filter (fun e => e.1 < first || first + 2 ≤ e.1),
                                   l1 := NSet.ins s.pool.l1 b } }

/-- A full line is stored: valid bits, codeword and data (R159, R165). -/
def storeLine (line : Nat) (data : List Byte) (s : State) : State :=
  let s := setValid line s
  { s with pool := { s.pool with cells := cellsWrite s.pool.cells (line * 64) (slice 0 data 0 64),
                                 sym := s.pool.sym.del line } }

/-- A served full-line write; a line under an uncorrectable metadata line takes nothing (Table 05.6). -/
def writeServed (line : Nat) (data : List Byte) (s : State) : MemRes × State :=
  match hierarchy line s with
  | (.poison, s) => (.poison, s)
  | (_, s) => (.ok [], storeLine line data s)

/-- A line with the bytes a mask enables taken from `new` (bit i enables byte i). -/
def mergeLine (mask : Nat) (new old : List Byte) : List Byte :=
  (List.range 64).map (fun i => if bit mask i then new.getD i 0 else old.getD i 0)

/-- A served partial write: merged with zeros over a ZERO line, with the decoded line otherwise; with no byte enabled
it reads and writes nothing (R167). -/
def partServed (line mask : Nat) (data : List Byte) (s : State) : MemRes × State :=
  if mask % 2 ^ 64 = 0 then (.ok [], s)
  else
    match readServed line s with
    | (.ok old, s) => (.ok [], storeLine line (mergeLine mask data old) s)
    | (r, s) => (r, s)

/-- One served request. -/
def opServed (line : Nat) : MemOp → State → MemRes × State
  | .read, s => readServed line s
  | .write d, s => writeServed line d s
  | .part m d, s => partServed line m d s

/-- One line request of an engine: answered, or held without an effect. -/
def lineOp (line : Nat) (op : MemOp) (s : State) : MemRes × State :=
  match s.avail line with
  | .unavailable => (.unavailable, s)
  | .hold => (.held, s)
  | .serve => opServed line op s

/-- One line request that waits at its quadrant when it cannot be served now; its answer joins the answered requests
(R84, R136). -/
def lineRequest (line : Nat) (op : MemOp) (s : State) : State :=
  match lineOp line op s with
  | (.held, s) => { s with pool := { s.pool with held := s.pool.held ++ [⟨line, op⟩] } }
  | (r, s) => { s with pool := { s.pool with done := s.pool.done ++ [⟨line, op, r⟩] } }

/-- Held requests are offered again, oldest first: those that can be served or end now leave the queue. -/
def serveHeld (s : State) : State :=
  let reqs := s.pool.held
  { s with pool := { s.pool with held := [] } }.each reqs (fun r t => lineRequest r.line r.op t)

/-- A granule is freed: L2, L1C and every error mark of its hierarchy are cleared (R168, R176, R193). -/
def freeGranuleBits (g : Nat) (s : State) : State :=
  { s with pool := { s.pool with l2 := NSet.del s.pool.l2 g, l1c := NSet.del s.pool.l1c g,
                                 l2ue := NSet.del s.pool.l2ue g, l2ueSeen := NSet.del s.pool.l2ueSeen g } }

/-- New symbol differences appear in stored codewords: the outside world's part of a read. -/
def addErrors (l : List (Nat × List SymErr)) (s : State) : State :=
  s.each l (fun x t =>
    let e := errAdd (Tab.get [] t.pool.sym x.1) x.2
    { t with pool := { t.pool with sym := if e.isEmpty then t.pool.sym.del x.1 else Tab.set t.pool.sym x.1 e } })

/-- L2 entries that become uncorrectable. -/
def addL2Ue (l : List Nat) (s : State) : State :=
  s.each l (fun g t => { t with pool := { t.pool with l2ue := NSet.ins t.pool.l2ue g } })

end Sys2Proof.Machine
end

