-- ==== Sys2Proof/Machine/Xlt.lean ====
section
/-! DEFINITION. Partitions' granules, translation, violations, accesses by virtual address, and invalidation (R189 to
R232, R505 to R529 where they bear on an access). -/

namespace Sys2Proof.Machine

/-- Lifecycle of a partition: 0 VOID, 1 FORMING, 2 SEALED, 3 DRAINING (Table 14.14). -/
def State.lc (s : State) (p : Nat) : Nat := s.get F.SMB_LIFECYCLE_LC / 4 ^ p % 4
/-- TDI state of a partition: 0 CONFIG_UNLOCKED, 1 CONFIG_LOCKED, 2 RUN, 3 ERROR (Table 14.14). -/
def State.tdi (s : State) (p : Nat) : Nat := s.get F.SMB_TDI_TDI / 4 ^ p % 4

/-- A packed two-bit entry replaced. -/
def pack2 (w p v : Nat) : Nat := w / 4 ^ (p + 1) * 4 ^ (p + 1) + v % 4 * 4 ^ p + w % 4 ^ p

/-- The state with a partition's lifecycle set. -/
def State.setLc (s : State) (p v : Nat) : State := s.put F.SMB_LIFECYCLE_LC (pack2 (s.get F.SMB_LIFECYCLE_LC) p v)
/-- The state with a partition's TDI state set. -/
def State.setTdi (s : State) (p v : Nat) : State := s.put F.SMB_TDI_TDI (pack2 (s.get F.SMB_TDI_TDI) p v)

/-- A partition is live when it is SEALED and its TDI is in RUN (R519). -/
def State.live (s : State) (p : Nat) : Bool := s.lc p == 2 && s.tdi p == 2

/-- DIGEST of an admission entry as one 384-bit number (Table 14.15). -/
def State.admitDigest (s : State) (p i : Nat) : Nat :=
  s.get (F.PW_ADMIT_W0_DIGEST p i) + s.get (F.PW_ADMIT_W1_DIGEST p i) * 2 ^ 64 + s.get (F.PW_ADMIT_W2_DIGEST p i) * 2 ^ 128 +
    s.get (F.PW_ADMIT_W3_DIGEST p i) * 2 ^ 192 + s.get (F.PW_ADMIT_W4_DIGEST p i) * 2 ^ 256 + s.get (F.PW_ADMIT_W5_DIGEST p i) * 2 ^ 320

/-- The peer on a link is admitted for a partition (R525). -/
def State.admitted (s : State) (p link : Nat) : Bool :=
  s.on (F.FP_STATUS_SECURE link) &&
    (List.range 16).any (fun i => s.on (F.PW_ADMIT_W6_EN p i) &&
      (Tab.get [] s.fab.digests link).contains (s.admitDigest p i))

/-- State of a granule's table entry (R189, R191). -/
def State.gran (s : State) (g : Nat) : GState := if s.usable ≤ g then .reserved else Tab.get .free s.xlt.gran g

/-- The state with one granule's entry set; a FREE granule is not listed. -/
def State.setGran (s : State) (g : Nat) (x : GState) : State :=
  { s with xlt := { s.xlt with gran := if x = .free then s.xlt.gran.del g else Tab.set s.xlt.gran g x } }

/-- Table entry of a granule state (Table 06.1). -/
def GState.encode : GState → Nat
  | .free => 0
  | .owned p => 1 * 8192 + p
  | .shared r => 2 * 8192 + r
  | .releasing f i => 3 * 8192 + b2n f * 16 + i
  | .reserved => 4 * 8192

/-- A granule becomes FREE, with L2 and L1C cleared (R193). -/
def freeGranule (g : Nat) (s : State) : State := freeGranuleBits g (s.setGran g .free)

/-- A partition owns the granule of a pool address. -/
def State.ownedBy (s : State) (p ppa : Nat) : Bool := s.gran (ppa / 2 ^ 30) == .owned p

/-- Numeric code of a violation kind (Table 06.4). -/
def Viol.code : Viol → Nat
  | .state => 1 | .source => 2 | .noContext => 3 | .table => 4 | .unmapped => 5 | .misaligned => 6 | .permission => 7
  | .range => 8 | .sharedWrite => 9 | .ownership => 10 | .invalidate => 11

/-- SOURCE of a violation record (Table 06.5). -/
def Src.code : Src → Nat
  | .fab _ a _ => a % 32768
  | .ring r => 32768 + r
  | .window p => 49152 + p
  | .sm => 0

/-- OP of a violation record (Table 06.5). -/
def AccOp.code : AccOp → Nat
  | .rd => 0 | .wr => 1 | .at => 2

/-- The violation record of a partition. -/
def State.vio (s : State) (p : Nat) : VioRec := Tab.get VioRec.init s.xlt.vio p

/-- A violated access is counted: DRAIN_DISCARDS while the partition is DRAINING, COUNT otherwise, with the first
violation's record captured while COUNT was zero (R211, R225). -/
def recordViolation (p : Nat) (kind : Viol) (op va cid : Nat) (src : Src) (s : State) : State :=
  let v := s.vio p
  let v' :=
    if s.lc p = 3 then { v with drains := satAt 4294967295 (v.drains + 1) }
    else if v.count = 0 then
      { v with count := 1, inc := satAt 4294967295 (v.inc + 1), time := s.now, va := va % 2 ^ 52, kind := kind.code, op := op, cid := cid, source := src.code }
    else if v.count = 4294967295 then v
    else { v with count := v.count + 1, inc := satAt 4294967295 (v.inc + 1) }
  { s with xlt := { s.xlt with vio := Tab.set s.xlt.vio p v' } }

/-- How a translation ends. -/
inductive XRes where
  | ok (ppa : Nat)
  | viol (k : Viol)
  | poison
  | unavailable (ppa : Nat)
  | held
  deriving DecidableEq, Repr

/-- Bytes of a naturally aligned datum within its line, read for the node's own use. -/
def readAt (ppa n : Nat) (s : State) : MemRes × State :=
  match lineOp (ppa / 64) .read s with
  | (.ok d, s) => (.ok (slice 0 d (ppa % 64) n), s)
  | r => r

/-- Partition entitlement of a source (R209, step 2). -/
def State.partEntitled (s : State) (src : Src) (p c : Nat) : Bool :=
  match src with
  | .fab link _ vc0 => vc0 && s.admitted p link && c != 4095
  | .ring r => r / 8 == p
  | .window q => q == p
  | .sm => true

/-- Context entitlement of a source (R209, step 6). -/
def ctxEntitled (src : Src) (w1 : Nat) : Bool :=
  match src with
  | .fab _ a _ => bit w1 17 && (!bit w1 16 || bits w1 15 0 == a)
  | .ring _ => bit w1 18
  | .window _ => true
  | .sm => true

/-- A look into a cache: whether the entry found is still there (R207). One that is gone may have met a parity error, which only
CACHE_ERR records (R229). -/
def cacheLook {α : Type} (o : Option α) (s : State) : Option α × State :=
  match o with
  | none => (none, s)
  | some a =>
    if Config.cacheKept s.freeCtr then (some a, s.draw)
    else (none, (if Config.cacheParity s.freeCtr then s.bump F.XLT_STATUS_CACHE_ERR 1 else s).draw)

/-- The context entry of a tabled context: cached, or read from the context table (R200, R205 steps 4 and 5). -/
def contextEntry (cid : Nat) (s : State) : Except XRes CachedCtx × State :=
  let p := cid / 4096
  match cacheLook (s.xlt.ctxC.find? (fun e => e.cid == cid)) s with
  | (some e, s) => (.ok e, s)
  | (none, s) =>
    let base := s.get (F.PW_XLT_CTX_BASE p) * 65536
    if !s.ownedBy p base then (.error (.viol .table), s)
    else
      match readAt (base + 16 * (cid % 4096)) 16 s with
      | (.ok d, s) =>
        let e : CachedCtx := { cid := cid, w0 := ofLeBytes (d.take 8), w1 := ofLeBytes (d.drop 8) }
        if bit e.w0 0 then
          (.ok e, { s with xlt := { s.xlt with ctxC := s.xlt.ctxC.filter (fun x => x.cid != cid) ++ [e] } })
        else (.error (.viol .noContext), s)
      | (.poison, s) => (.error .poison, s)
      | (.unavailable, s) => (.error (.unavailable (base + 16 * (cid % 4096))), s)
      | (.held, s) => (.error .held, s)

/-- Page size exponent of a level (R203). -/
def lvlBits (lvl : Nat) : Nat := 16 + 12 * (lvl - 1)

/-- A page-table walk from a level's table, by R205 (steps 7 to 9), filling the walk cache. -/
def walk (p cid va : Nat) : Nat → Nat → State → Except XRes CachedLeaf × State
  | 0, _, s => (.error (.viol .unmapped), s)
  | lvl + 1, t, s =>
    if !s.ownedBy p t then (.error (.viol .table), s)
    else
      match readAt (t + 8 * (va / 2 ^ lvlBits (lvl + 1) % 4096)) 8 s with
      | (.ok d, s) =>
        let e := ofLeBytes d
        let addr := bits e 43 15 * 32768
        if !bit e 0 then (.error (.viol .unmapped), s)
        else if lvl = 0 || bit e 1 then
          let size := lvlBits (lvl + 1)
          if addr % 2 ^ size ≠ 0 then (.error (.viol .misaligned), s)
          else
            (.ok { cid := cid, base := va / 2 ^ size * 2 ^ size, size := size, ppa := addr, r := bit e 2, w := bit e 3, a := bit e 4 }, s)
        else
          let wk : CachedWalk := { cid := cid, lvl := lvl, base := va / 2 ^ lvlBits (lvl + 1), tbl := addr }
          let rest := s.xlt.walkC.filter (fun x => !(x.cid == cid && x.lvl == lvl && x.base == wk.base))
          walk p cid va lvl addr { s with xlt := { s.xlt with walkC := rest ++ [wk] } }
      | (.poison, s) => (.error .poison, s)
      | (.unavailable, s) => (.error (.unavailable (t + 8 * (va / 2 ^ lvlBits (lvl + 1) % 4096))), s)
      | (.held, s) => (.error .held, s)

/-- The leaf of an address: a cached translation, or a walk from the deepest cached table or the root (R205, R207). -/
def leafOf (ce : CachedCtx) (va : Nat) (s : State) : Except XRes CachedLeaf × State :=
  let cid := ce.cid
  let p := cid / 4096
  match cacheLook (s.xlt.leafC.find? (fun l => l.cid == cid && l.base == va / 2 ^ l.size * 2 ^ l.size)) s with
  | (some l, s) => (.ok l, s)
  | (none, s) =>
    let hit := fun (lvl : Nat) (w : CachedWalk) => w.cid == cid && w.lvl == lvl && w.base == va / 2 ^ lvlBits (lvl + 1)
    let (r, s) :=
      match cacheLook (s.xlt.walkC.find? (hit 1)) s with
      | (some w, s) => walk p cid va 1 w.tbl s
      | (none, s) =>
        match cacheLook (s.xlt.walkC.find? (hit 2)) s with
        | (some w, s) => walk p cid va 2 w.tbl s
        | (none, s) => walk p cid va 3 (bits ce.w0 43 15 * 32768) s
    match r with
    | .ok l =>
      let rest := s.xlt.leafC.filter (fun x => !(x.cid == cid && x.base == va / 2 ^ x.size * 2 ^ x.size))
      (.ok l, { s with xlt := { s.xlt with leafC := rest ++ [l] } })
    | .error e => (.error e, s)

/-- A page is sealed against a writer; `own` names the seal whose band buffer the writer is (R582). -/
def State.sealedPage (s : State) (own : Option Nat) (ppa : Nat) : Bool :=
  s.seals.any (fun x => x.pages.contains (ppa / 65536) && own != some x.id)

/-- The granule check, steps 11 to 14 (R205). -/
def granuleCheck (own : Option Nat) (p : Nat) (shrOk : Bool) (op : AccOp) (ppa : Nat) (s : State) : XRes :=
  let g := ppa / 2 ^ 30
  if s.usable ≤ g then .viol .range
  else if s.xlt.gtUe.contains g then .poison
  else
    match s.gran g with
    | .owned q =>
      if q = p then (if op ≠ .rd ∧ s.sealedPage own ppa then .viol .permission else .ok ppa) else .viol .ownership
    | .shared r =>
      if s.get (F.XLT_SHR_STATE r) = 2 ∧ bit (s.get (F.XLT_SHR_READERS r)) p ∧ shrOk then
        (if op = .rd then .ok ppa else .viol .sharedWrite)
      else .viol .ownership
    | _ => .viol .ownership

/-- Effective permission of an operation through a context entry and leaf (R205, step 10). -/
def permits (op : AccOp) (w0 : Nat) (l : CachedLeaf) : Bool :=
  match op with
  | .rd => l.r && bit w0 1
  | .wr => l.w && bit w0 2
  | .at => l.a && bit w0 3 && bit w0 1 && bit w0 2 && l.r && l.w

/-- The clock of XBAR is gated: SYN_8 is ACQUIRING or GATED, and every transfer through XBAR waits (R115, R122,
Table 04.7). -/
def State.xbarStopped (s : State) : Bool :=
  let st := s.get (F.CKR_SYN_STATUS_STATE 8)
  st == 1 || st == 4

/-- The translation of one access to one line (R205), with the writer's own seal. -/
def translateBy (own : Option Nat) (src : Src) (cid va : Nat) (op : AccOp) (s : State) : XRes × State :=
  let p := cid / 4096 % 16
  let c := cid % 4096
  if s.xbarStopped then (.held, s)
  else if !s.live p then (.viol .state, s)
  else if !s.partEntitled src p c then (.viol .source, s)
  else if c = 4095 then
    if !s.on (F.PW_XLT_CTX_DIRECT_EN p) then (.viol .noContext, s)
    else if va / 2 ^ 44 ≠ 0 then (.viol .unmapped, s)
    else (granuleCheck own p true op va s, s)
  else if !s.on (F.PW_XLT_CTX_EN p) then (.viol .noContext, s)
  else
    match contextEntry (p * 4096 + c) s with
    | (.error e, s) => (e, s)
    | (.ok ce, s) =>
      if !ctxEntitled src ce.w1 then (.viol .source, s)
      else
        match leafOf ce va s with
        | (.error e, s) => (e, s)
        | (.ok l, s) =>
          if !permits op ce.w0 l then (.viol .permission, s)
          else (granuleCheck own p (bit ce.w0 4) op (l.ppa + va % 2 ^ l.size) s, s)

/-- The translation of one access to one line (R205). -/
def translate (src : Src) (cid va : Nat) (op : AccOp) (s : State) : XRes × State := translateBy none src cid va op s

/-- How an access by virtual address ended: the bytes read (zeros on a violated line), the first violation, and the
worst of what its lines met. -/
structure AccRes where
  data    : List Byte
  viol    : Option (Viol × Nat)
  poison  : Bool
  unavail : Option Nat   -- channel of the first line that was unavailable
  held    : Bool
  deriving DecidableEq, Repr

/-- An access with nothing yet. -/
def AccRes.empty : AccRes := { data := [], viol := none, poison := false, unavail := none, held := false }

/-- Pieces of a run of `n` bytes from an address, cut at line boundaries: address and length. -/
def linePieces (va n : Nat) : List (Nat × Nat) :=
  if n = 0 then [] else
  (List.range ((va + n - 1) / 64 - va / 64 + 1)).map (fun i =>
    let lo := max va ((va / 64 + i) * 64)
    let hi := min (va + n) ((va / 64 + i + 1) * 64)
    (lo, hi - lo))

/-- One piece of a read. -/
def readPiece (src : Src) (cid : Nat) (pc : Nat × Nat) (rs : AccRes × State) : AccRes × State :=
  let (r, s) := rs
  let zeros := List.replicate pc.2 (0 : Byte)
  match translate src cid pc.1 .rd s with
  | (.ok ppa, s) =>
    match readAt ppa pc.2 s with
    | (.ok d, s) => ({ r with data := r.data ++ d }, s)
    | (.poison, s) => ({ r with data := r.data ++ zeros, poison := true }, s)
    | (.unavailable, s) => ({ r with data := r.data ++ zeros, unavail := r.unavail.or (some (channelOf ppa)) }, s)
    | (.held, s) => ({ r with data := r.data ++ zeros, held := true }, s)
  | (.viol k, s) => ({ r with data := r.data ++ zeros, viol := r.viol.or (some (k, pc.1)) }, s)
  | (.poison, s) => ({ r with data := r.data ++ zeros, poison := true }, s)
  | (.unavailable a, s) => ({ r with data := r.data ++ zeros, unavail := r.unavail.or (some (channelOf a)) }, s)
  | (.held, s) => ({ r with data := r.data ++ zeros, held := true }, s)

/-- The violation of an access is counted once (R211). -/
def countAccess (src : Src) (cid : Nat) (op : AccOp) (rs : AccRes × State) : AccRes × State :=
  match rs.1.viol with
  | none => rs
  | some (k, va) => (rs.1, if rs.1.held then rs.2 else recordViolation (cid / 4096 % 16) k op.code va cid src rs.2)

/-- A read of `n` bytes at a virtual address: each line is checked separately, a violated line reads zeros (R208,
R210). -/
def readVA (src : Src) (cid va n : Nat) (s : State) : AccRes × State :=
  countAccess src cid .rd ((linePieces va n).foldl (fun rs pc => readPiece src cid pc rs) (AccRes.empty, s))

/-- The line operation that stores a piece: a full line, or a partial line under a mask. -/
def pieceOp (a : Nat) (d : List Byte) : MemOp :=
  if d.length = 64 then .write d
  else .part ((2 ^ d.length - 1) * 2 ^ (a % 64)) (List.replicate (a % 64) 0 ++ d ++ List.replicate (64 - a % 64 - d.length) 0)

/-- One piece of a write. -/
def writePiece (own : Option Nat) (src : Src) (cid base : Nat) (data : List Byte) (pc : Nat × Nat) (rs : AccRes × State) :
    AccRes × State :=
  let (r, s) := rs
  match translateBy own src cid pc.1 .wr s with
  | (.ok ppa, s) =>
    match lineOp (ppa / 64) (pieceOp ppa (slice 0 data (pc.1 - base) pc.2)) s with
    | (.ok _, s) => (r, s)
    | (.poison, s) => ({ r with poison := true }, s)
    | (.unavailable, s) => ({ r with unavail := r.unavail.or (some (channelOf ppa)) }, s)
    | (.held, s) => ({ r with held := true }, s)
  | (.viol k, s) => ({ r with viol := r.viol.or (some (k, pc.1)) }, s)
  | (.poison, s) => ({ r with poison := true }, s)
  | (.unavailable a, s) => ({ r with unavail := r.unavail.or (some (channelOf a)) }, s)
  | (.held, s) => ({ r with held := true }, s)

/-- A write of bytes at a virtual address by a writer with its own seal: a violated line is discarded (R210). -/
def writeVABy (own : Option Nat) (src : Src) (cid va : Nat) (data : List Byte) (s : State) : AccRes × State :=
  countAccess src cid .wr
    ((linePieces va data.length).foldl (fun rs pc => writePiece own src cid va data pc rs) (AccRes.empty, s))

/-- A write of bytes at a virtual address. -/
def writeVA (src : Src) (cid va : Nat) (data : List Byte) (s : State) : AccRes × State := writeVABy none src cid va data s

/-- Operations of an atomic (Table 07.7). -/
def atomicResult (op sz old a b : Nat) : Nat :=
  let m := if sz = 0 then 2 ^ 32 else 2 ^ 64
  let a := a % m
  let b := b % m
  if op = 0 then (old + a) % m
  else if op = 1 then a
  else if op = 2 then (if old = a then b else old)
  else if op = 3 then old &&& a
  else if op = 4 then old ||| a
  else if op = 5 then old ^^^ a
  else if op = 6 then max old a
  else min old a

/-- An atomic at a virtual address: one indivisible read and write of its naturally aligned value (R253). The old
value is the answer's data; a violated atomic is not applied and returns zero (R210). -/
def atomicVA (src : Src) (cid va op sz a b : Nat) (s : State) : AccRes × State :=
  let n := if sz = 0 then 4 else 8
  countAccess src cid .at
    (match translate src cid va .at s with
    | (.ok ppa, s) =>
      match readAt ppa n s with
      | (.ok d, s) =>
        let old := ofLeBytes d
        (match lineOp (ppa / 64) (pieceOp ppa (leBytes n (atomicResult op sz old a b))) s with
        | (.ok _, s) => ({ AccRes.empty with data := leBytes 8 old }, s)
        | (.poison, s) => ({ AccRes.empty with poison := true }, s)
        | (.unavailable, s) => ({ AccRes.empty with unavail := some (channelOf ppa) }, s)
        | (.held, s) => ({ AccRes.empty with held := true }, s))
      | (.poison, s) => ({ AccRes.empty with poison := true }, s)
      | (.unavailable, s) => ({ AccRes.empty with unavail := some (channelOf ppa) }, s)
      | (.held, s) => ({ AccRes.empty with held := true }, s)
    | (.viol k, s) => ({ AccRes.empty with data := List.replicate 8 0, viol := some (k, va) }, s)
    | (.poison, s) => ({ AccRes.empty with poison := true }, s)
    | (.unavailable a, s) => ({ AccRes.empty with unavail := some (channelOf a) }, s)
    | (.held, s) => ({ AccRes.empty with held := true }, s))

/-- Every cached entry of a partition is dropped. -/
def dropCaches (p : Nat) (s : State) : State :=
  { s with xlt := { s.xlt with ctxC := s.xlt.ctxC.filter (fun e => e.cid / 4096 != p),
                               walkC := s.xlt.walkC.filter (fun e => e.cid / 4096 != p),
                               leafC := s.xlt.leafC.filter (fun e => e.cid / 4096 != p) } }

/-- The words of an invalidation descriptor (Table 06.6). -/
structure InvDesc where
  w0 : Nat
  w1 : Nat
  w2 : Nat
  w3 : Nat
  deriving DecidableEq, Repr

/-- CID of a descriptor. -/
def InvDesc.cid (d : InvDesc) : Nat := bits d.w0 15 0
/-- SCOPE of a descriptor. -/
def InvDesc.scope (d : InvDesc) : Nat := bits d.w0 17 16
/-- LEVEL of a descriptor. -/
def InvDesc.level (d : InvDesc) : Nat := bits d.w0 19 18
/-- EPOCH of a descriptor. -/
def InvDesc.epoch (d : InvDesc) : Nat := bits d.w0 63 32

/-- A descriptor is malformed (R219). -/
def InvDesc.malformed (d : InvDesc) : Bool :=
  d.scope == 3 || bits d.w0 31 20 != 0 || bits d.w1 63 52 != 0 || bits d.w2 63 32 != 0 || bits d.w3 63 32 != 0 ||
    (d.scope == 2 && (d.level == 3 || bits d.w2 31 0 == 0))

/-- What an applied invalidation drops (R215). -/
def applyInvalidation (d : InvDesc) (s : State) : State :=
  let cid := d.cid
  let p := cid / 4096
  if d.scope = 0 then dropCaches p s
  else if d.scope = 1 then
    { s with xlt := { s.xlt with ctxC := s.xlt.ctxC.filter (fun e => e.cid != cid),
                                 walkC := s.xlt.walkC.filter (fun e => e.cid != cid),
                                 leafC := s.xlt.leafC.filter (fun e => e.cid != cid) } }
  else
    let size := 2 ^ (16 + 12 * d.level)
    let lo := bits d.w1 51 0 / size * size
    let hi := lo + bits d.w2 31 0 * size
    { s with xlt := { s.xlt with walkC := s.xlt.walkC.filter (fun e => e.cid != cid),
                                 leafC := s.xlt.leafC.filter (fun e =>
                                   !(e.cid == cid && e.base < hi && lo < e.base + 2 ^ e.size)) } }

/-- An epoch is ahead of a register's (R221). -/
def epochAhead (epoch cur : Nat) : Bool :=
  1 ≤ (epoch + 2 ^ 32 - cur) % 2 ^ 32 && (epoch + 2 ^ 32 - cur) % 2 ^ 32 ≤ 2 ^ 31 - 1

/-- An epoch register takes an epoch that is ahead of it (R221). -/
def takeEpoch (f : Fld) (epoch : Nat) (s : State) : State := if epochAhead epoch (s.get f) then s.put f epoch else s

/-- An invalidation is accepted: entitlement first, then form, then the DRAINING rule; its acknowledgement joins the
queue (R214 to R219, R225). -/
def acceptInvalidation (fr : InvFrom) (src : Src) (entitled : Bool) (d : InvDesc) (s : State) : State :=
  let p := d.cid / 4096
  let ack := fun (st : Nat) (ap : Bool) (t : State) =>
    { t with xlt := { t.xlt with acks := t.xlt.acks ++ [⟨p, fr, d.cid, d.epoch, bits d.w3 31 0, st, ap⟩] } }
  if !entitled then ack 0 false (recordViolation p .invalidate 3 0 d.cid src s)
  else if s.lc p = 3 then ack 0 false s
  else if d.malformed then ack 0x50 false s
  else ack 0 true (takeEpoch (F.XLT_EPOCH_CUR_EPOCH p) d.epoch (applyInvalidation d s))

/-- A write to PW_INV_3 submits the four words, or sets OVERFLOW while 16 are occupied (R223). -/
def windowInvalidate (p : Nat) (w3 : Nat) (s : State) : State :=
  if 16 ≤ s.get (F.PW_INV_STATUS_PENDING p) then s.put (F.PW_INV_STATUS_OVERFLOW p) 1
  else
    let w := fun i => Tab.get 0 s.xlt.invWord (4 * p + i)
    let d : InvDesc := { w0 := w 0, w1 := w 1, w2 := w 2, w3 := w3 }
    acceptInvalidation .window (.window p) (d.cid / 4096 == p) d (s.incr (F.PW_INV_STATUS_PENDING p) 1)

end Sys2Proof.Machine
end

