-- ==== Sys2Proof/Machine/PartEvents.lean ====
section
/-! DEFINITION. Delivery of partition-scoped events to the partition's queue and vectors (R711, R713, R714, R727,
Table 20.3). -/

namespace Sys2Proof.Machine

/-- A partition's window takes accesses: the partition is live and its VF is present (R520, R704). -/
def State.window (s : State) (p : Nat) : Bool := s.live p && s.fnPresent (p + 1)

/-- VF vector of an event source (Table 20.3). -/
def vfVector (src : Nat) : Nat :=
  if src = Ev.INV_ACK then 8 else if src = Ev.RING_PAUSE then 9 else if Ev.PROGRAM ≤ src then 10 else 11

/-- A partition record could not be written: it is counted, and the queue takes no more (R727). -/
def partQFault (p : Nat) (s : State) : State :=
  let s := ((s.bump (F.PW_EVT_Q_STATUS_DROPPED p) 1).put (F.PW_EVT_Q_STATUS_OVERFLOW p) 1).put (F.PW_EVT_Q_STATUS_Q_FAULT p) 1
  { s with evt := { s.evt with overflowP := NSet.ins s.evt.overflowP p, stoppedP := NSet.ins s.evt.stoppedP p } }

/-- A record is offered to a partition's queue (R713, R714, R727). A queue in pool memory is written as the partition's
ring accesses are (R331, R332); one in host memory fails while the PCIe link is down. -/
def offerPart (p : Nat) (e : Event) (s : State) : State :=
  if !s.on (F.PW_EVT_Q_CFG_EN p) then s
  else
    let size := 2 ^ s.get (F.PW_EVT_Q_CFG_LOG2SIZE p)
    let tail := s.get (F.PW_EVT_Q_TAIL_TAIL p)
    let full := wrap32 (tail + 4294967296 - s.get (F.PW_EVT_Q_HEAD_HEAD p)) == size
    let seq := Tab.get 0 s.evt.seqP p
    let ovf := s.evt.overflowP.contains p
    let s := { s with evt := { s.evt with seqP := Tab.set s.evt.seqP p (wrap32 (seq + 1)) } }
    if s.evt.stoppedP.contains p || full then
      let s := (s.bump (F.PW_EVT_Q_STATUS_DROPPED p) 1).put (F.PW_EVT_Q_STATUS_OVERFLOW p) 1
      { s with evt := { s.evt with overflowP := NSet.ins s.evt.overflowP p } }
    else
      let addr := s.get (F.PW_EVT_Q_BASE_ADDR p) * 4096 + tail % size * 32
      let rec_ := eventBytes e ovf seq s.now
      let done := fun (t : State) =>
        let t := { t with evt := { t.evt with overflowP := NSet.del t.evt.overflowP p } }
        sendMsix (p + 1) (vfVector e.src) (t.put (F.PW_EVT_Q_TAIL_TAIL p) (tail + 1))
      if s.on (F.PW_EVT_Q_BASE_LOC p) then
        if s.pwr.pcieUp then done (s.host (.dma addr rec_)) else partQFault p s
      else
        let (r, s) := writeVA (.ring (8 * p)) (p * 4096 + s.get (F.PW_EVT_Q_CFG_CTX p)) addr rec_ s
        if r.poison || r.unavail.isSome || r.held then partQFault p s else done s

/-- Delivery of an occurrence that names a partition: the steward's side, then the partition's queue (R711). -/
def raisePart (p : Nat) (e : Event) (s : State) : State :=
  if pressSource e.src && !s.hasPress then s else offerPart p e (raiseNode e s)

/-- Delivery of an occurrence to the node and to a lease holder, when there is one; INSTANCE is the holder, or 0xFF. -/
def raiseHolder (holder : Option Nat) (src a0 a1 a2 : Nat) (s : State) : State :=
  match holder with
  | some p => raisePart p ⟨src, p, a0, a1, a2⟩ s
  | none => raiseNode ⟨src, 0xFF, a0, a1, a2⟩ s

end Sys2Proof.Machine
end

