-- ==== Sys2Proof/Machine/Sha.lean ====
section
/-! DEFINITION. SHA-384 and HMAC-SHA-384, the hash the manual names for plates, chains, measurements and records
(FIPS 180-4 and FIPS 198-1). -/

namespace Sys2Proof.Machine

/-- Round constants. -/
def shaK : List Nat :=
  [0x428a2f98d728ae22, 0x7137449123ef65cd, 0xb5c0fbcfec4d3b2f, 0xe9b5dba58189dbbc,
   0x3956c25bf348b538, 0x59f111f1b605d019, 0x923f82a4af194f9b, 0xab1c5ed5da6d8118,
   0xd807aa98a3030242, 0x12835b0145706fbe, 0x243185be4ee4b28c, 0x550c7dc3d5ffb4e2,
   0x72be5d74f27b896f, 0x80deb1fe3b1696b1, 0x9bdc06a725c71235, 0xc19bf174cf692694,
   0xe49b69c19ef14ad2, 0xefbe4786384f25e3, 0xfc19dc68b8cd5b5, 0x240ca1cc77ac9c65,
   0x2de92c6f592b0275, 0x4a7484aa6ea6e483, 0x5cb0a9dcbd41fbd4, 0x76f988da831153b5,
   0x983e5152ee66dfab, 0xa831c66d2db43210, 0xb00327c898fb213f, 0xbf597fc7beef0ee4,
   0xc6e00bf33da88fc2, 0xd5a79147930aa725, 0x6ca6351e003826f, 0x142929670a0e6e70,
   0x27b70a8546d22ffc, 0x2e1b21385c26c926, 0x4d2c6dfc5ac42aed, 0x53380d139d95b3df,
   0x650a73548baf63de, 0x766a0abb3c77b2a8, 0x81c2c92e47edaee6, 0x92722c851482353b] ++
  [0xa2bfe8a14cf10364, 0xa81a664bbc423001, 0xc24b8b70d0f89791, 0xc76c51a30654be30,
   0xd192e819d6ef5218, 0xd69906245565a910, 0xf40e35855771202a, 0x106aa07032bbd1b8,
   0x19a4c116b8d2d0c8, 0x1e376c085141ab53, 0x2748774cdf8eeb99, 0x34b0bcb5e19b48a8,
   0x391c0cb3c5c95a63, 0x4ed8aa4ae3418acb, 0x5b9cca4f7763e373, 0x682e6ff3d6b2b8a3,
   0x748f82ee5defb2fc, 0x78a5636f43172f60, 0x84c87814a1f0ab72, 0x8cc702081a6439ec,
   0x90befffa23631e28, 0xa4506cebde82bde9, 0xbef9a3f7b2c67915, 0xc67178f2e372532b,
   0xca273eceea26619c, 0xd186b8c721c0c207, 0xeada7dd6cde0eb1e, 0xf57d4f7fee6ed178,
   0x6f067aa72176fba, 0xa637dc5a2c898a6, 0x113f9804bef90dae, 0x1b710b35131c471b,
   0x28db77f523047d84, 0x32caab7b40c72493, 0x3c9ebe0a15c9bebc, 0x431d67c49c100d4c,
   0x4cc5d4becb3e42b6, 0x597f299cfc657e2a, 0x5fcb6fab3ad6faec, 0x6c44198c4a475817]

/-- Initial value of SHA-384. -/
def shaIV : List Nat :=
  [0xcbbb9d5dc1059ed8, 0x629a292a367cd507, 0x9159015a3070dd17, 0x152fecd8f70e5939,
   0x67332667ffc00b31, 0x8eb44a8768581511, 0xdb0c2e0d64f98fa7, 0x47b5481dbefa4fa4]

/-- Rotation of a 64-bit word to the right. -/
def ror64 (n x : Nat) : Nat := x / 2 ^ n + x % 2 ^ n * 2 ^ (64 - n)

/-- Sum modulo 2^64. -/
def add64 (a b : Nat) : Nat := (a + b) % 2 ^ 64

/-- Schedule word i from the reversed schedule so far. -/
def shaNext (w : List Nat) : Nat :=
  let a := w.getD 14 0
  let b := w.getD 1 0
  let s0 := ror64 1 a ^^^ ror64 8 a ^^^ (a / 2 ^ 7)
  let s1 := ror64 19 b ^^^ ror64 61 b ^^^ (b / 2 ^ 6)
  add64 (add64 (w.getD 15 0) s0) (add64 (w.getD 6 0) s1)

/-- The 80 schedule words of a block of sixteen, in order. -/
def shaSchedule (blk : List Nat) : List Nat :=
  ((List.range 64).foldl (fun w _ => shaNext w :: w) blk.reverse).reverse

/-- One round on the eight working words. -/
def shaRound (v : List Nat) (kw : Nat × Nat) : List Nat :=
  match v with
  | [a, b, c, d, e, f, g, h] =>
    let s1 := ror64 14 e ^^^ ror64 18 e ^^^ ror64 41 e
    let ch := (e &&& f) ^^^ ((2 ^ 64 - 1 - e) &&& g)
    let t1 := add64 (add64 (add64 h s1) (add64 ch kw.1)) kw.2
    let s0 := ror64 28 a ^^^ ror64 34 a ^^^ ror64 39 a
    let mj := (a &&& b) ^^^ (a &&& c) ^^^ (b &&& c)
    [add64 t1 (add64 s0 mj), a, b, c, add64 d t1, e, f, g]
  | _ => v

/-- One block compressed into the hash value. -/
def shaBlock (h blk : List Nat) : List Nat :=
  let v := (shaK.zip (shaSchedule blk)).foldl shaRound h
  (h.zip v).map (fun x => add64 x.1 x.2)

/-- The number a big-endian byte list spells. -/
def ofBeBytes (l : List Byte) : Nat := l.foldl (fun n b => n * 256 + b.toNat) 0

/-- The most significant byte first, `n` bytes. -/
def beBytes (n v : Nat) : List Byte := (leBytes n v).reverse

/-- Successive groups of `n`, by count of groups. -/
def chunksOf {α : Type} (n : Nat) (l : List α) : Nat → List (List α)
  | 0 => []
  | k + 1 => l.take n :: chunksOf n (l.drop n) k

/-- SHA-384 of a byte list, 48 bytes. -/
def sha384 (m : List Byte) : List Byte :=
  let pad := (128 - (m.length + 17) % 128) % 128
  let full := m ++ [0x80] ++ List.replicate pad 0 ++ beBytes 16 (8 * m.length)
  let blocks := (chunksOf 128 full (full.length / 128)).map (fun b => (chunksOf 8 b 16).map ofBeBytes)
  ((blocks.foldl shaBlock shaIV).take 6).flatMap (beBytes 8)

/-- HMAC-SHA-384. -/
def hmac384 (key msg : List Byte) : List Byte :=
  let k := if 128 < key.length then sha384 key else key
  let k := k ++ List.replicate (128 - k.length) 0
  sha384 (k.map (· ^^^ 0x5C) ++ sha384 (k.map (· ^^^ 0x36) ++ msg))

/-- ASCII bytes of a label (R776). -/
def ascii (t : String) : List Byte := t.toList.map (fun c => BitVec.ofNat 8 c.toNat)

end Sys2Proof.Machine
end

