-- ==== Sys2Proof/Machine/Audit.lean ====
section
/-! DEFINITION. The audit log's own operations: records, the chain, acceptance, reservations, banks and the tombstone
(R539 to R562). -/

namespace Sys2Proof.Machine

/-- GLB_UID as 8 bytes. -/
def State.uidBytes (s : State) : List Byte := leBytes 8 s.fuses.uid

/-- H before SEQ 0 (R541). -/
def State.chainSeed (s : State) : List Byte :=
  sha384 (ascii "kqn log" ++ s.uidBytes ++ leBytes 4 (s.get F.CKR_INCARNATION_COUNT))

/-- Unretired records, those accepted and not yet written included. -/
def State.logUsed (s : State) : Nat :=
  wrap32 (s.log.nextSeq + 4294967296 - s.log.retired) + (s.log.waiting.filter (fun r => r.accepted && r.cls != .reserved)).length

/-- F: free slots (R545). -/
def State.logFree (s : State) : Nat := 4096 - s.logUsed

/-- RES: reservations held. -/
def State.logRes (s : State) : Nat := s.log.resv.length

/-- The log accepts a record of a class (R546). -/
def State.logAccepts (s : State) (c : LogClass) : Bool :=
  match c with
  | .reserved => true
  | .internal => s.logRes + 1 ≤ s.logFree
  | .ordinary => s.logRes + 5 ≤ s.logFree

/-- A reservation can be granted (R545). -/
def State.canReserve (s : State) : Bool := s.logRes + 5 ≤ s.logFree && s.logRes < 256

/-- A log event (Table 20.4). -/
def logEvent (src inst : Nat) (s : State) : State := raiseNode ⟨src, inst, s.log.nextSeq, 0, 0⟩ s

/-- Something has to wait for the log: FULL and LOG_FULL (R552). -/
def logWaits (s : State) : State := logEvent Ev.LOG_FULL 0 { s with log := { s.log with full := true } }

/-- LOG_NEAR_FULL when F falls below 1,024 (R552). -/
def checkNearFull (s : State) : State :=
  if s.logFree < 1024 then
    (if s.log.nearFull then s else logEvent Ev.LOG_NEAR_FULL 0 { s with log := { s.log with nearFull := true } })
  else { s with log := { s.log with nearFull := false } }

/-- A record is handed to the log: accepted, or waiting for space; nothing is written after the last bank has failed
(R546, R557). -/
def logSubmit (cls : LogClass) (urgent : Bool) (type : Nat) (merged : Bool) (subject : Nat) (payload : List Byte)
    (resv : Option Nat) (cont : LogCont) (s : State) : State :=
  if s.log.halted then s
  else
    let ok := s.logAccepts cls
    let r : LogRec := { cls := cls, urgent := urgent, type := type, merged := merged, subject := subject,
                        payload := slice 0 payload 0 64, resv := resv, accepted := ok, cont := cont }
    let w := if urgent && type == 0x40 then r :: s.log.waiting
      else if urgent then
        s.log.waiting.takeWhile (·.urgent) ++ [r] ++ s.log.waiting.dropWhile (·.urgent)
      else s.log.waiting ++ [r]
    let s := { s with log := { s.log with waiting := w } }
    if ok then checkNearFull s else if cls = .ordinary then logWaits s else s

/-- An ordinary record of an SM action (R530). -/
def logOrdinary (type subject : Nat) (payload : List Byte) (cont : LogCont) (s : State) : State :=
  logSubmit .ordinary false type false subject payload none cont s

/-- Payload of an ISSUANCE record (Table 15.2). -/
def issuancePayload (i : IssueInfo) (outcome : Nat) : List Byte :=
  slice 0 i.hash 0 48 ++ leBytes 4 i.job ++ leBytes 4 i.page ++ leBytes 4 i.sheet ++ leBytes 1 outcome ++
    leBytes 1 i.attempt ++ leBytes 1 i.mode ++ leBytes 1 0

/-- The ISSUANCE record of a page goes into its reservation (R546). -/
def logIssuance (i : IssueInfo) (outcome : Nat) (resv : Nat) (cont : LogCont) (s : State) : State :=
  logSubmit .reserved false 0x10 false i.part (issuancePayload i outcome) (some resv) cont s

/-- A reservation is taken, whatever the free space is; its identity is the answer. -/
def takeReservation (info : Option IssueInfo) (s : State) : Nat × State :=
  (s.log.nextResv,
   { s with log := { s.log with resv := s.log.resv ++ [⟨s.log.nextResv, info, false⟩], nextResv := s.log.nextResv + 1 } })

/-- A reservation is released without a record (R402). -/
def releaseReservation (id : Nat) (s : State) : State :=
  { s with log := { s.log with resv := s.log.resv.filter (fun r => r.id != id) } }

/-- A reservation's page information and imaging mark. -/
def updateReservation (id : Nat) (f : Reservation → Reservation) (s : State) : State :=
  { s with log := { s.log with resv := s.log.resv.map (fun r => if r.id = id then f r else r) } }

/-- Records that wait are accepted in order while there is space (R546, R548). -/
def acceptWaiting (s : State) : State :=
  let s := s.each (List.range s.log.waiting.length) (fun i t =>
    match t.log.waiting[i]? with
    | some r => if !r.accepted && t.logAccepts r.cls then
        { t with log := { t.log with waiting := t.log.waiting.set i { r with accepted := true } } } else t
    | none => t)
  { s with log := { s.log with full := s.log.waiting.any (fun r => !r.accepted && r.cls == .ordinary) } }

/-- The position of the record that enters the log next: CKPT and BANK_FAIL records, then reserved ones, then the
others in order; nothing but a checkpoint passes the hold of a checkpoint being signed (R544, R546, R554, R560). -/
def State.logNext (s : State) : Option Nat :=
  let acc := fun (f : LogRec → Bool) => s.log.waiting.findIdx? (fun r => r.accepted && f r)
  match acc (·.urgent) with
  | some i => some i
  | none =>
    let blocked := match s.log.ckpt with
      | some c => c.k == 0xFFFFFFFF || 1024 * (c.k + 1) ≤ s.log.nextSeq
      | none => false
    if blocked then none
    else
      match acc (fun r => r.cls == .reserved) with
      | some i => some i
      | none => acc (fun _ => true)

/-- Bytes 0 to 79 of a record (Table 15.1). -/
def recordHead (r : LogRec) (single stepped unsynced : Bool) (seq time : Nat) : List Byte :=
  leBytes 1 r.type ++ leBytes 1 (b2n single + 2 * b2n r.merged + 4 * b2n stepped + 8 * b2n unsynced) ++ leBytes 1 r.subject ++
    leBytes 1 0 ++ leBytes 4 seq ++ leBytes 8 time ++ slice 0 r.payload 0 64

/-- Sorrel is neither LOCKED nor MASTER (Table 15.1). -/
def State.unsynced (s : State) : Bool :=
  let st := s.get F.TOPO_SRL_STATUS_STATE
  st != 3 && st != 1

/-- The record at a position enters the log (R540, R541, R543). -/
def enterLog (i : Nat) (r : LogRec) (s : State) : State :=
  let head := recordHead r (s.log.failA || s.log.failB) s.log.stepped s.unsynced s.log.nextSeq s.now
  let h := sha384 (s.log.chain ++ head)
  let seq := s.log.nextSeq
  let resv := match r.resv with
    | some id => s.log.resv.filter (fun x => x.id != id)
    | none => s.log.resv
  let s := { s with log := { s.log with records := s.log.records ++ [(seq, head ++ h)], nextSeq := wrap32 (seq + 1),
                                        chain := h, stepped := false, resv := resv,
                                        waiting := s.log.waiting.eraseIdx i } }
  -- record 1024k − 1 and the START record are signed (R544, R560)
  let k := if r.type = 1 then some 0xFFFFFFFF else if (seq + 1) % 1024 = 0 then some ((seq + 1) / 1024) else none
  let s := match k with
    | some k =>
      let d := sha384 (ascii "kqn ckpt" ++ s.uidBytes ++ leBytes 4 seq ++ h)
      { s with log := { s.log with ckpt := some ⟨k, seq, d⟩ } }
    | none => s
  let s := if r.type = 0x04 then
      { s with log := { s.log with ckpt := none, lastCkpt := ofLeBytes (slice 0 r.payload 48 4) } } else s
  if r.type = 0x41 then { s with log := { s.log with tombSeq := some seq } } else s

/-- A word of LOG_TOMBSTONE. -/
def State.tombWord (s : State) (i : Nat) : Nat := s.get (F.LOG_TOMBSTONE_DATA i)

/-- The 64 bytes of LOG_TOMBSTONE. -/
def State.tombBytes (s : State) : List Byte := (List.range 16).flatMap (fun i => leBytes 4 (s.tombWord i))

/-- LOG_TOMBSTONE takes 64 bytes. -/
def writeTomb (b : List Byte) (s : State) : State :=
  s.each (List.range 16) (fun i t => t.put (F.LOG_TOMBSTONE_DATA i) (ofLeBytes (slice 0 b (4 * i) 4)))

/-- STATE of the tombstone (Table 15.6). -/
def State.tombState (s : State) : Nat := bits (s.tombWord 0) 23 16

/-- The tombstone's bytes (Table 15.6). -/
def tombOf (st : Nat) (inc time seq retired part outcome released job page sheet : Nat) (hash : List Byte) : List Byte :=
  leBytes 2 0x5453 ++ leBytes 1 st ++ leBytes 1 0 ++ leBytes 4 inc ++ leBytes 8 time ++ leBytes 4 seq ++ leBytes 4 retired ++
    leBytes 1 part ++ leBytes 1 outcome ++ leBytes 1 (satAt 255 released) ++ leBytes 1 0 ++ leBytes 4 job ++ leBytes 4 page ++
    leBytes 4 sheet ++ slice 0 hash 0 24

/-- The reservation of the page being imaged (R604). -/
def State.imagedResv (s : State) : Option Nat :=
  (s.prs.sheets.flatMap (·.pages)).findSome? (fun p => if p.imaging = 1 then some p.resv else none)

/-- No bank is left: the tombstone is written, LOG_HALT raised, SEALED-HALT entered, and every reservation but that of
the page being imaged released (R557). The last record in the log has the SEQ before the next one. -/
def logHalt (s : State) : State :=
  let img := s.log.resv.find? (fun r => some r.id == s.imagedResv)
  let rel := s.log.resv.length - b2n img.isSome
  let last := wrap32 (s.log.nextSeq + 4294967295)
  let inc := s.get F.CKR_INCARNATION_COUNT
  let b := match img.bind (·.info) with
    | some i => tombOf 1 inc s.now last s.log.retired i.part 0xFF rel i.job i.page i.sheet i.hash
    | none => tombOf 2 inc s.now last s.log.retired 0xFF 0xFF rel 0 0 0 []
  let s := writeTomb b s
  let s := { s with log := { s.log with halted := true, waiting := [], ckpt := none, failA := true, failB := true,
                                        resv := img.toList } }
  (logEvent Ev.LOG_HALT 0 s).faultLow .sealedHalt

/-- A bank fails while the other stands: BANK_FAIL is the next record, and LOG_BANK_FAIL is raised (R556). -/
def bankFails (bank cause : Nat) (seq : Nat) (s : State) : State :=
  let s := if bank = 0 then { s with log := { s.log with failA := true } } else { s with log := { s.log with failB := true } }
  let s := logSubmit .internal true 0x40 false 0xFF (leBytes 1 bank ++ leBytes 1 cause ++ leBytes 2 0 ++ leBytes 4 seq) none .none s
  logEvent Ev.LOG_BANK_FAIL bank s

/-- A record is written to every live bank and read back: `okA` and `okB` say whether the read-back is free of
uncorrectable errors (R543, R555 to R557). The answer is the record that entered the log. -/
def logAppend (okA okB : Bool) (s : State) : Option LogRec × State :=
  match s.logNext with
  | none => (none, s)
  | some i =>
    match s.log.waiting[i]? with
    | none => (none, s)
    | some r =>
      let liveA := !s.log.failA
      let liveB := !s.log.failB
      let goodA := liveA && okA
      let goodB := liveB && okB
      if !goodA && !goodB then (none, logHalt s)
      else
        let seq := s.log.nextSeq
        let s := enterLog i r s
        let s := if liveA && !okA then bankFails 0 0 seq s else s
        let s := if liveB && !okB then bankFails 1 0 seq s else s
        (some r, checkNearFull s)

end Sys2Proof.Machine
end

