-- ==== Sys2Proof/Machine/RingOps.lean ====
section
/-! DEFINITION. Rings and their registers, programs and tallies, and a program's own memory accesses (R329 to R389). -/

namespace Sys2Proof.Machine

/-- A ring. -/
def State.ring (s : State) (r : Nat) : Ring := Tab.get Ring.init s.rings.ring r

/-- The state with one ring replaced. -/
def State.setRing (s : State) (r : Nat) (x : Ring) : State :=
  { s with rings := { s.rings with ring := Tab.set s.rings.ring r x } }

/-- The program in progress on a ring. -/
def State.prog (s : State) (r : Nat) : Option Prog := (s.ring r).prog

/-- The state with a ring's program replaced. -/
def State.setProg (s : State) (r : Nat) (p : Prog) : State := s.setRing r { s.ring r with prog := some p }

/-- A function applied to a ring's program, when one is in progress. -/
def onProg (r : Nat) (f : Prog → Prog) (s : State) : State :=
  match s.prog r with
  | some p => s.setProg r (f p)
  | none => s

/-- A ring of the SM (R330). -/
def smRing (r : Nat) : Bool := 128 ≤ r

/-- Partition that owns a ring (R329). -/
def ringPart (r : Nat) : Nat := r / 8

/-- A scalar register; s0 reads zero (Table 10.1). -/
def Prog.sreg (p : Prog) (a : Nat) : W64 := if a = 0 then 0 else Tab.get 0 p.s a

/-- A scalar register written; writes to s0 are ignored (Table 10.1). -/
def Prog.setS (p : Prog) (a : Nat) (v : W64) : Prog := if a = 0 then p else { p with s := Tab.set p.s a v }

/-- A predicate; p0 reads 1 (Table 10.1). -/
def Prog.preg (p : Prog) (a : Nat) : Bool := a == 0 || p.p.contains a

/-- A predicate written; writes to p0 are ignored (Table 10.1). -/
def Prog.setP (p : Prog) (a : Nat) (v : Bool) : Prog :=
  if a = 0 then p else { p with p := if v then NSet.ins p.p a else NSet.del p.p a }

/-- A descriptor slot: eight fields. -/
def Prog.dreg (p : Prog) (a : Nat) : List W64 := Tab.get (List.replicate 8 0) p.d a

/-- A descriptor slot written. -/
def Prog.setD (p : Prog) (a : Nat) (v : List W64) : Prog := { p with d := Tab.set p.d a v }

/-- A tally. -/
def Prog.tally (p : Prog) (t : Nat) : Tally := Tab.get Tally.idle p.t t

/-- A tally written. -/
def Prog.setT (p : Prog) (t : Nat) (v : Tally) : Prog := { p with t := Tab.set p.t t v }

/-- Field i of a descriptor. -/
def fld (d : List W64) (i : Nat) : Nat := (d.getD i 0).toNat

/-- Table 10.7's value of a tally. -/
def Tally.value (t : Tally) : Nat := t.st + t.status * 256 + t.detail * 2 ^ 32

/-- The program moves on by `n` words. -/
def Prog.next (p : Prog) (n : Nat) : Prog := { p with pc := p.pc + n, stall := .no }

/-- A fault ends the program at its instruction (R385, R386). -/
def Prog.faultAt (p : Prog) (status detail : Nat) : Prog :=
  { p with fault := some (status, detail, p.pc), ended := true, stall := .no }

/-- A tally is consumed by a WAIT at the program's PC: the tally becomes IDLE, and a status of 0x10 or above ends the
program unless NOEND is set (R381). -/
def Prog.consume (p : Prog) (t : Nat) (noend : Bool) (a : Nat) : Prog :=
  let x := p.tally t
  let p := p.setT t Tally.idle
  if noend then (p.setS a (BitVec.ofNat 64 x.value)).next 1
  else if 16 ≤ x.status then p.faultAt x.status x.detail
  else p.next 1

/-- The lowest DONE tally of a mask. -/
def Prog.doneOf (p : Prog) (mask : Nat) : Option Nat := (List.range 16).find? (fun t => bit mask t && (p.tally t).st == 2)

/-- A stalled program looks again at what it waits for. -/
def Prog.wake (p : Prog) : Prog :=
  match p.stall with
  | .wait t noend a => if (p.tally t).st = 2 then p.consume t noend a else p
  | .waitAny mask a =>
    match p.doneOf mask with
    | some t =>
      let x := p.tally t
      let q := p.setT t Tally.idle
      if 16 ≤ x.status then q.faultAt x.status x.detail else (q.setS a (BitVec.ofNat 64 t)).next 1
    | none => p
  | .implicit t =>
    let x := p.tally t
    if x.st ≠ 2 then p
    else if 16 ≤ x.status then (p.setT t Tally.idle).faultAt x.status x.detail
    else { p.setT t Tally.idle with stall := .no }
  | _ => p

/-- A tally becomes DONE with a status and DETAIL; retried work is summed and a waiter goes on (R379, R382). -/
def Prog.done (p : Prog) (t status detail : Nat) : Prog :=
  let x := p.tally t
  let p := p.setT t { x with st := 2, status := status, detail := detail, order := p.orders }
  let p := { p with orders := p.orders + 1,
                    retries := if status = 1 then some (satAt 4294967295 (p.retries.getD 0 + detail)) else p.retries }
  p.wake

/-- A tally of a ring's program becomes DONE; nothing happens when it is not BUSY. -/
def tallyDone (r t status detail : Nat) (s : State) : State :=
  onProg r (fun p => if (p.tally t).st = 1 then p.done t status detail else p) s

/-- Some tally of the program is BUSY. -/
def Prog.busy (p : Prog) : Bool := (List.range 16).any (fun t => (p.tally t).st == 1)

/-- STATE of a ring: 0 DISABLED, 1 RUNNING, 2 PAUSED, 3 STOPPING (Table 09.7). -/
def State.ringState (s : State) (r : Nat) : Nat := if smRing r then 1 else s.get (F.PW_RING_STATUS_STATE (r / 8) (r % 8))

/-- A ring takes a STATE; CAUSE is zero unless it is PAUSED. -/
def setRingState (r st : Nat) (s : State) : State :=
  if smRing r then s
  else
    let s := s.put (F.PW_RING_STATUS_STATE (r / 8) (r % 8)) st
    if st = 2 then s else s.put (F.PW_RING_STATUS_CAUSE (r / 8) (r % 8)) 0

/-- A ring pauses with a cause and raises RING_PAUSE (R353, R354). -/
def pauseRing (r cause : Nat) (s : State) : State :=
  if smRing r then s
  else
    let s := s.put (F.PW_RING_STATUS_STATE (r / 8) (r % 8)) 2
    let s := s.put (F.PW_RING_STATUS_CAUSE (r / 8) (r % 8)) cause
    raisePart (r / 8) ⟨Ev.RING_PAUSE, r, cause, r / 8, 0⟩ s

/-- The core a ring is bound to, as cluster × 16 + logical core (R345). -/
def State.ringCore (s : State) (r : Nat) : Nat :=
  if smRing r then r - 128 else s.get (F.RING_BIND_CLUSTER r) * 16 + s.get (F.RING_BIND_CORE r)

/-- A core. -/
def State.core (s : State) (c : Nat) : Core := Tab.get Core.init s.rings.core c

/-- The state with a core replaced. -/
def State.setCore (s : State) (c : Nat) (x : Core) : State :=
  { s with rings := { s.rings with core := Tab.set s.rings.core c x } }

/-- The source of a ring's accesses (R209, R383). -/
def ringSrc (r : Nat) : Src := if smRing r then .sm else .ring r

/-- CID of a ring's access in a context. -/
def ringCid (r ctx : Nat) : Nat := r / 8 * 4096 + ctx

/-- One piece of an SM program's read: checked for RANGE only (R383). -/
def smReadPiece (pc : Nat × Nat) (rs : AccRes × State) : AccRes × State :=
  let (r, s) := rs
  let zeros := List.replicate pc.2 (0 : Byte)
  if s.usable ≤ pc.1 / 2 ^ 30 then ({ r with data := r.data ++ zeros }, s)
  else
    match readAt pc.1 pc.2 s with
    | (.ok d, s) => ({ r with data := r.data ++ d }, s)
    | (.poison, s) => ({ r with data := r.data ++ zeros, poison := true }, s)
    | (.unavailable, s) => ({ r with data := r.data ++ zeros, unavail := r.unavail.or (some (channelOf pc.1)) }, s)
    | (.held, s) => ({ r with data := r.data ++ zeros, held := true }, s)

/-- One piece of an SM program's write: checked for RANGE and against seals, discarded without a violation (R383,
R582). -/
def smWritePiece (base : Nat) (data : List Byte) (pc : Nat × Nat) (rs : AccRes × State) : AccRes × State :=
  let (r, s) := rs
  if s.usable ≤ pc.1 / 2 ^ 30 || s.sealedPage none pc.1 then (r, s)
  else
    match lineOp (pc.1 / 64) (pieceOp pc.1 (slice 0 data (pc.1 - base) pc.2)) s with
    | (.ok _, s) => (r, s)
    | (.poison, s) => ({ r with poison := true }, s)
    | (.unavailable, s) => ({ r with unavail := r.unavail.or (some (channelOf pc.1)) }, s)
    | (.held, s) => ({ r with held := true }, s)

/-- A read by a ring's program or the units that work for it (R374, R383). -/
def ringRead (r ctx va n : Nat) (s : State) : AccRes × State :=
  if smRing r then (linePieces va n).foldl (fun rs pc => smReadPiece pc rs) (AccRes.empty, s)
  else readVA (.ring r) (ringCid r ctx) va n s

/-- A write by a ring's program or the units that work for it. -/
def ringWrite (r ctx va : Nat) (data : List Byte) (s : State) : AccRes × State :=
  if smRing r then (linePieces va data.length).foldl (fun rs pc => smWritePiece va data pc rs) (AccRes.empty, s)
  else writeVA (.ring r) (ringCid r ctx) va data s

/-- An atomic by a ring's program; one by an SM program is checked for RANGE and seals and returns zero when refused. -/
def ringAtomic (r ctx va op sz a b : Nat) (s : State) : AccRes × State :=
  if smRing r then
    let n := if sz = 0 then 4 else 8
    let (rd, s') := ringRead r ctx va n s
    if rd.poison || rd.unavail.isSome || rd.held then (rd, s')
    else if s.usable ≤ va / 2 ^ 30 || s.sealedPage none va then ({ rd with data := List.replicate 8 0 }, s')
    else
      let old := ofLeBytes rd.data
      let (wr, s') := ringWrite r ctx va (leBytes n (atomicResult op sz old a b)) s'
      ({ wr with data := leBytes 8 old }, s')
  else atomicVA (.ring r) (ringCid r ctx) va op sz a b s

/-- Status and DETAIL of an access that met poison or an unavailable line (R376); none when it met neither. -/
def AccRes.bad (r : AccRes) : Option (Nat × Nat) :=
  if r.poison then some (0x20, 0) else r.unavail.map (fun c => (0x21, c))

/-- A violation of a ring's order or request that is not a translation (R529, R779). -/
def orderViolation (r : Nat) (k : Viol) (op va cid : Nat) (s : State) : State :=
  recordViolation (r / 8) k op va cid (.ring r) s

/-- The press lease holder, or none. -/
def State.pressHolder (s : State) : Option Nat := s.leases.press
/-- The proof lease holder, or none. -/
def State.proofHolder (s : State) : Option Nat := s.leases.proof

end Sys2Proof.Machine
end

