-- ==== Sys2Proof/Machine/Surface.lean ====
section
/-! DEFINITION. Surfaces as readers see them, display lists, coverage, colour and screening, the plate hash, and seals
(R564 to R582). -/

namespace Sys2Proof.Machine

/-- Bits per pixel of a format (Table 16.1). -/
def fmtBits (fmt : Nat) : Nat := if fmt = 0 then 1 else if fmt = 1 then 2 else 24

/-- Row bytes of a width (Table 16.1). -/
def rowBytes (fmt w : Nat) : Nat := (w * fmtBits fmt + 7) / 8

/-- Tiles across and down (R565). -/
def Surf.tx (f : Surf) : Nat := (f.w + 63) / 64
def Surf.ty (f : Surf) : Nat := (f.h + 63) / 64

/-- FLAG_VA and the size of the flag area (R565). -/
def Surf.flagVa (f : Surf) : Nat := f.va + (f.stride * f.h + 4095) / 4096 * 4096
def Surf.flagSize (f : Surf) : Nat := (64 + (f.tx * f.ty + 7) / 8 + 63) / 64 * 64

/-- Pixels packed into bytes (Table 16.1). -/
def packPx (fmt : Nat) (px : List Nat) : List Byte :=
  if fmt = 2 then px.flatMap (fun c => leBytes 3 c)
  else
    let b := fmtBits fmt
    let per := 8 / b
    (List.range ((px.length + per - 1) / per)).map (fun i =>
      BitVec.ofNat 8 ((List.range per).foldl (fun n j => n + px.getD (i * per + j) 0 % 2 ^ b * 2 ^ (b * j)) 0))

/-- The first `n` pixels of row bytes (Table 16.1). -/
def unpackPx (fmt n : Nat) (bs : List Byte) : List Nat :=
  (List.range n).map (fun x =>
    if fmt = 2 then ofLeBytes (slice 0 bs (3 * x) 3)
    else
      let b := fmtBits fmt
      let per := 8 / b
      (bs.getD (x / per) 0).toNat / 2 ^ (b * (x % per)) % 2 ^ b)

/-- A reader of bytes by virtual address. -/
abbrev Rd := Nat → Nat → State → AccRes × State

/-- Two parts of one transfer joined. -/
def AccRes.add (a b : AccRes) : AccRes :=
  { data := a.data ++ b.data, viol := a.viol.or b.viol, poison := a.poison || b.poison, unavail := a.unavail.or b.unavail,
    held := a.held || b.held }

/-- A list of reads, one after the other. -/
def rdMany (rd : Rd) (l : List (Nat × Nat)) (s : State) : AccRes × State :=
  l.foldl (fun rs x => let (r, t) := rd x.1 x.2 rs.2; (rs.1.add r, t)) (AccRes.empty, s)

/-- A surface's flag area: CLEAR and the flag bits. -/
structure Flags where
  clear : Nat
  bits_ : List Byte

/-- CLEAR of a header for a format (R565). -/
def clearOf (fmt : Nat) (hdr : List Byte) : Nat :=
  let v := ofLeBytes (hdr.take 3)
  if fmt = 2 then v else v % 2 ^ fmtBits fmt

/-- The flag of a tile. -/
def Flags.on (f : Flags) (t : Nat) : Bool := bit (f.bits_.getD (t / 8) 0).toNat (t % 8)

/-- The flag area read whole. -/
def readFlags (rd : Rd) (f : Surf) (s : State) : Flags × AccRes × State :=
  let (r, s) := rd f.flagVa f.flagSize s
  (⟨clearOf f.fmt r.data, r.data.drop 64⟩, r, s)

/-- The bytes of one row of one tile, as surface readers see them: CLEAR where the tile is flagged (R566). -/
def tileRow (rd : Rd) (f : Surf) (fl : Flags) (y tx : Nat) (s : State) : AccRes × State :=
  let n := min 64 (f.w - tx * 64)
  if fl.on (y / 64 * f.tx + tx) then
    ({ AccRes.empty with data := packPx f.fmt (List.replicate n fl.clear) }, s)
  else rd (f.va + y * f.stride + tx * 8 * fmtBits f.fmt) (rowBytes f.fmt n) s

/-- One row as surface readers see it (R566). -/
def rowSeen (rd : Rd) (f : Surf) (fl : Flags) (y : Nat) (s : State) : AccRes × State :=
  (List.range f.tx).foldl (fun rs tx => let (r, t) := tileRow rd f fl y tx rs.2; (rs.1.add r, t)) (AccRes.empty, s)

/-- The bytes the plate hash is taken over (R581). -/
def plateBytes (rd : Rd) (f : Surf) (s : State) : AccRes × State :=
  let (fl, r0, s) := readFlags rd f s
  let (r, s) := (List.range f.h).foldl (fun rs y => let (r, t) := rowSeen rd f fl y rs.2; (rs.1.add r, t)) (AccRes.empty, s)
  ({ r with poison := r.poison || r0.poison, unavail := r0.unavail.or r.unavail, held := r.held || r0.held }, s)

/-! ### Display lists -/

/-- A display-list command (Table 16.2). -/
inductive DCmd where
  | nop
  | tri (color : Nat) (x0 y0 x1 y1 x2 y2 : Int)
  | quad (ifmt color va iw ih stride : Nat) (px py ux uy vx vy : Int)
  | clip (x0 y0 x1 y1 : Nat)
  deriving DecidableEq, Repr

/-- Row bytes of an image (R569). -/
def imageRow (ifmt iw : Nat) : Nat := if ifmt = 0 then iw else if ifmt = 1 then 3 * iw else (iw + 7) / 8

/-- Every byte of a run is zero. -/
def allZero (b : List Byte) : Bool := b.all (· == 0)

/-- One command from the bytes that follow, with its length; none when it is malformed (R570). -/
def dcmdOf (b : List Byte) : Option (DCmd × Nat) :=
  let u := fun o n => ofLeBytes (slice 0 b o n)
  let z := fun o n => allZero (slice 0 b o n)
  let i := fun o => toSigned 32 (ofLeBytes (slice 0 b o 4))
  let op := u 0 1
  if op = 0 then (if b.length < 16 || !z 1 15 then none else some (.nop, 16))
  else if op = 1 then
    (if b.length < 32 || !z 1 3 || !z 7 1 then none
     else some (.tri (u 4 3) (i 8) (i 12) (i 16) (i 20) (i 24) (i 28), 32))
  else if op = 2 then
    (if b.length < 64 || !z 2 2 || !z 7 1 || !z 48 16 || 2 ^ 52 ≤ u 8 8 || 3 ≤ u 1 1 || u 16 2 = 0 || u 18 2 = 0 ||
        u 20 4 < imageRow (u 1 1) (u 16 2) then none
     else some (.quad (u 1 1) (u 4 3) (u 8 8) (u 16 2) (u 18 2) (u 20 4) (i 24) (i 28) (i 32) (i 36) (i 40) (i 44), 64))
  else if op = 3 then
    (if b.length < 16 || !z 1 3 || !z 12 4 then none else some (.clip (u 4 2) (u 6 2) (u 8 2) (u 10 2), 16))
  else none

/-- A whole list checked: its commands, or the byte offset of the first malformed one (R570). -/
def parseList : Nat → Nat → List Byte → Except Nat (List DCmd)
  | 0, _, _ => .ok []
  | fuel + 1, off, b =>
    if b.isEmpty then .ok []
    else
      match dcmdOf b with
      | none => .error off
      | some (c, n) => (parseList fuel (off + n) (b.drop n)).map (fun l => c :: l)

/-- An edge of a triangle decides a point (R571). -/
def edgeIn (ax ay bx b_y px py : Int) : Bool :=
  let dx := bx - ax
  let dy := b_y - ay
  let e := dx * (py - ay) - dy * (px - ax)
  !(e < 0 || (e == 0 && !(dy < 0 || (dy == 0 && dx > 0))))

/-- TRI coverage (R571). -/
def triCovers (x0 y0 x1 y1 x2 y2 px py : Int) : Bool :=
  let a := (x1 - x0) * (y2 - y0) - (y1 - y0) * (x2 - x0)
  if a = 0 then false
  else if a < 0 then edgeIn x0 y0 x2 y2 px py && edgeIn x2 y2 x1 y1 px py && edgeIn x1 y1 x0 y0 px py
  else edgeIn x0 y0 x1 y1 px py && edgeIn x1 y1 x2 y2 px py && edgeIn x2 y2 x0 y0 px py

/-- The texel of a QUAD under a point (R571). -/
def quadTexel (iw ih : Nat) (p0x p0y ux uy vx vy px py : Int) : Option (Nat × Nat) :=
  let d := ux * vy - uy * vx
  if d = 0 then none
  else
    let qx := px - p0x
    let qy := py - p0y
    let sn := qx * vy - qy * vx
    let tn := ux * qy - uy * qx
    let (d, sn, tn) := if d < 0 then (-d, -sn, -tn) else (d, sn, tn)
    if sn < 0 || d ≤ sn || tn < 0 || d ≤ tn then none
    else some ((sn * iw / d).toNat, (tn * ih / d).toNat)

/-- A colour: COLOR or an RGB texel as 24 bits, or a gray8 texel. -/
inductive Col where
  | rgb (c : Nat)
  | gray (l : Nat)
  deriving DecidableEq, Repr

/-- Ink of a colour (R572). -/
def Col.ink : Col → Nat
  | .rgb c => 255 - (77 * (c % 256) + 150 * (c / 256 % 256) + 29 * (c / 65536 % 256) + 128) / 256
  | .gray l => 255 - l

/-- A colour on an RGB surface (R573). -/
def Col.pixel : Col → Nat
  | .rgb c => c
  | .gray l => l * 0x010101

/-- SCREEN of an ink through a cell's thresholds (R575). -/
def screen (fmt cell g : Nat) : Nat :=
  let t1 := cell % 256
  let t2 := cell / 256 % 256
  let t3 := cell / 65536 % 256
  if fmt = 0 then b2n (t2 < g) else b2n (t1 < g) + b2n (t2 < g) + b2n (t3 < g)

/-- A command with the clip in force and, for a QUAD, the image rows read for the tile. -/
structure RCmd where
  cmd  : DCmd
  cx0  : Nat
  cy0  : Nat
  cx1  : Nat
  cy1  : Nat
  rows : Tab (List Byte)

/-- Every drawing command with its clip; the clip starts as the whole surface (R571). -/
def withClips (w h : Nat) (l : List DCmd) : List RCmd :=
  (l.foldl (fun (acc : List RCmd × (Nat × Nat × Nat × Nat)) c =>
    match c with
    | .clip x0 y0 x1 y1 => (acc.1, (x0, y0, min x1 w, min y1 h))
    | .nop => acc
    | c => (acc.1 ++ [⟨c, acc.2.1, acc.2.2.1, acc.2.2.2.1, acc.2.2.2.2, []⟩], acc.2)) ([], (0, 0, w, h))).1

/-- A sample point lies inside the clip. -/
def RCmd.inClip (c : RCmd) (px py : Int) : Bool :=
  decide ((c.cx0 : Int) * 256 ≤ px) && decide (px < (c.cx1 : Int) * 256) && decide ((c.cy0 : Int) * 256 ≤ py) &&
    decide (py < (c.cy1 : Int) * 256)

/-- The texel row a QUAD needs at a point. -/
def RCmd.rowAt (c : RCmd) (px py : Int) : Option Nat :=
  match c.cmd with
  | .quad _ _ _ iw ih _ p0x p0y ux uy vx vy =>
    if c.inClip px py then (quadTexel iw ih p0x p0y ux uy vx vy px py).map (·.2) else none
  | _ => none

/-- The colour a command gives a sample point, when it covers it (R571 to R573). -/
def RCmd.at (c : RCmd) (px py : Int) : Option Col :=
  if !c.inClip px py then none
  else
    match c.cmd with
    | .tri color x0 y0 x1 y1 x2 y2 => if triCovers x0 y0 x1 y1 x2 y2 px py then some (.rgb color) else none
    | .quad ifmt color _ iw ih _ p0x p0y ux uy vx vy =>
      match quadTexel iw ih p0x p0y ux uy vx vy px py with
      | none => none
      | some (tx, ty) =>
        let row := Tab.get [] c.rows ty
        if ifmt = 0 then some (.gray (row.getD tx 0).toNat)
        else if ifmt = 1 then some (.rgb (ofLeBytes (slice 0 row (3 * tx) 3)))
        else if bit (row.getD (tx / 8) 0).toNat (tx % 8) then some (.rgb color) else none
    | _ => none

/-- The last covering command decides a sample (R572, R573). -/
def lastAt (l : List RCmd) (px py : Int) : Option Col :=
  l.foldl (fun c x => (x.at px py).or c) none

/-- Sample points of pixel (x, y) (R571). -/
def samplePoints (fmt x y : Nat) : List (Int × Int) :=
  if fmt = 2 then
    (List.range 16).map (fun k => ((256 * x + 32 + 64 * (k % 4) : Nat), (256 * y + 32 + 64 * (k / 4) : Nat)))
  else [((256 * x + 128 : Nat), (256 * y + 128 : Nat))]

/-- One finished pixel from its stored value, and whether a command covered one of its sample points (R572, R573). -/
def pixelOf (fmt : Nat) (cell : Nat → Nat → Nat) (l : List RCmd) (base x y : Nat) : Bool × Nat :=
  let cs := (samplePoints fmt x y).map (fun p => lastAt l p.1 p.2)
  let hit := cs.any (·.isSome)
  if fmt = 2 then
    let ch := fun k => (cs.foldl (fun n c => n + (match c with | some c => c.pixel | none => base) / 256 ^ k % 256) 0 + 8) / 16
    (hit, ch 0 + 256 * ch 1 + 65536 * ch 2)
  else
    match cs with
    | [some c] => (true, screen fmt (cell (x % 128) (y % 128)) c.ink)
    | _ => (false, base)

/-- The image rows that QUADs need for a block of pixels are read, each row as one access. -/
def readImages (rd : Rd) (fmt x0 x1 y0 y1 : Nat) (l : List RCmd) (s : State) : List RCmd × AccRes × State :=
  let pts := (List.range (y1 - y0)).flatMap (fun j => (List.range (x1 - x0)).flatMap (fun i => samplePoints fmt (x0 + i) (y0 + j)))
  l.foldl (fun acc c =>
    match c.cmd with
    | .quad ifmt _ va iw _ stride _ _ _ _ _ _ =>
      let need := pts.foldl (fun (n : NSet) p => match c.rowAt p.1 p.2 with | some r => NSet.ins n r | none => n) []
      let (rows, r, t) := need.foldl (fun (a : Tab (List Byte) × AccRes × State) row =>
        let (x, t) := rd (va + row * stride) (imageRow ifmt iw) a.2.2
        (Tab.set a.1 row x.data, a.2.1.add { x with data := [] }, t)) ([], acc.2.1, acc.2.2)
      (acc.1 ++ [{ c with rows := rows }], r, t)
    | _ => (acc.1 ++ [c], acc.2)) ([], AccRes.empty, s)

/-- The image rows that a list reads over a block of pixels: address and length (R615). -/
def imageNeeds (fmt x0 x1 y0 y1 : Nat) (l : List RCmd) : List (Nat × Nat) :=
  let pts := (List.range (y1 - y0)).flatMap (fun j => (List.range (x1 - x0)).flatMap (fun i => samplePoints fmt (x0 + i) (y0 + j)))
  l.flatMap (fun c =>
    match c.cmd with
    | .quad ifmt _ va iw _ stride _ _ _ _ _ _ =>
      (pts.foldl (fun (n : NSet) p => match c.rowAt p.1 p.2 with | some r => NSet.ins n r | none => n) []).map
        (fun row => (va + row * stride, imageRow ifmt iw))
    | _ => [])

/-- A threshold cell of an array (R575). -/
def State.thrCell (s : State) (arr x y : Nat) : Nat := Tab.get thrReset s.ras.thr (arr * 16384 + y * 128 + x)

/-- A block of finished pixels, row by row, with whether anything covered it. -/
def renderBlock (fmt : Nat) (cell : Nat → Nat → Nat) (l : List RCmd) (base : Nat → Nat → Nat) (x0 x1 y0 y1 : Nat) :
    Bool × List (List Nat) :=
  (List.range (y1 - y0)).foldl (fun acc j =>
    let row := (List.range (x1 - x0)).map (fun i => pixelOf fmt cell l (base (x0 + i) (y0 + j)) (x0 + i) (y0 + j))
    (acc.1 || row.any (·.1), acc.2 ++ [row.map (·.2)])) (false, [])

/-! ### Seals -/

/-- A run of captured frames: VA >> 16 to PPA >> 16, with what their translations met. -/
abbrev Captured := Tab Nat × AccRes × State

/-- The 64 KiB frames that back a run of addresses, for those that translate; each violated frame is counted (R210,
R582). -/
def captureFrames (r cid va n : Nat) (x : Captured) : Captured :=
  if n = 0 then x
  else
    (List.range ((va + n - 1) / 65536 - va / 65536 + 1)).foldl (fun (acc : Captured) i =>
      let f := va / 65536 + i
      let a := max va (f * 65536)
      let (m, z, s) := acc
      match translate (.ring r) cid a .rd s with
      | (.ok ppa, t) => (Tab.set m f (ppa / 65536), z, t)
      | (.viol k, t) => (m, z, recordViolation (cid / 4096 % 16) k 0 a cid (.ring r) t)
      | (.poison, t) => (m, { z with poison := true }, t)
      | (.unavailable p, t) => (m, { z with unavail := z.unavail.or (some (channelOf p)) }, t)
      | (.held, t) => (m, { z with held := true }, t)) x

/-- Pages sealed at this moment. -/
def State.sealedPages (s : State) : NSet := s.seals.foldl (fun n x => x.pages.foldl NSet.ins n) []

/-- A seal of these pages fits (R582). -/
def State.sealFits (s : State) (pages : NSet) : Bool := (pages.foldl NSet.ins s.sealedPages).length ≤ 65536

/-- A seal is taken; its identity is the answer (R582). -/
def takeSeal (pages : NSet) (press : Bool) (s : State) : Nat × State :=
  (s.nextSeal, { s with seals := s.seals ++ [⟨s.nextSeal, pages, press⟩], nextSeal := s.nextSeal + 1 })

/-- A seal ends. -/
def dropSeal (id : Nat) (s : State) : State := { s with seals := s.seals.filter (fun x => x.id != id) }

/-- The PPA pages of captured frames. -/
def framePages (m : Tab Nat) : NSet := m.foldl (fun n e => NSet.ins n e.2) []

/-- Frames of a surface's pixel rows and flag area (R582). -/
def captureSurf (r : Nat) (f : Surf) (s : State) : Captured :=
  captureFrames r f.cid f.flagVa f.flagSize
    (captureFrames r f.cid f.va (f.stride * (f.h - 1) + rowBytes f.fmt f.w) ([], AccRes.empty, s))

/-- A reader through captured frames (R658): no translation is made again. -/
def mapRd (m : Tab Nat) : Rd := fun va n s =>
  (linePieces va n).foldl (fun rs pc =>
    let (r, s) := rs
    let zeros := List.replicate pc.2 (0 : Byte)
    match m.find? (fun e => e.1 == pc.1 / 65536) with
    | none => ({ r with data := r.data ++ zeros }, s)
    | some e =>
      match readAt (e.2 * 65536 + pc.1 % 65536) pc.2 s with
      | (.ok d, s) => ({ r with data := r.data ++ d }, s)
      | (.poison, s) => ({ r with data := r.data ++ zeros, poison := true }, s)
      | (.unavailable, s) => ({ r with data := r.data ++ zeros, unavail := r.unavail.or (some (channelOf pc.1)) }, s)
      | (.held, s) => ({ r with data := r.data ++ zeros, held := true }, s)) (AccRes.empty, s)

/-- A reader for a ring in a context named by CID. -/
def ringRd (r cid : Nat) : Rd := fun va n s => readVA (.ring r) cid va n s

end Sys2Proof.Machine
end

