-- ==== Sys2Proof/Machine/Kcs.lean ====
section
/-! DEFINITION. KCS instruction words, the program check, and what every instruction has in common: its guard, its place
in the program, its tally and its order (R366 to R371, R379 to R387). -/

namespace Sys2Proof.Machine

/-- The header of an instruction word (Table 10.2). -/
def hdr (opc : Nat) (g : Guard) (ext : Nat) : Nat := opc + g.pr.val * 2 ^ 8 + b2n g.pn * 2 ^ 11 + ext * 2 ^ 12

/-- Format R (Table 10.3). -/
def encR (opc : Nat) (g : Guard) (a b c x : Nat) : W64 :=
  BitVec.ofNat 64 (hdr opc g 0 + a * 2 ^ 16 + b * 2 ^ 21 + c * 2 ^ 26 + x * 2 ^ 31)

/-- Format I. -/
def encI (opc : Nat) (g : Guard) (ext a b : Nat) (imm : BitVec 38) : W64 :=
  BitVec.ofNat 64 (hdr opc g ext + a * 2 ^ 16 + b * 2 ^ 21 + imm.toNat * 2 ^ 26)

/-- Format M. -/
def encM (opc : Nat) (g : Guard) (a b sz : Nat) (imm : BitVec 36) : W64 :=
  BitVec.ofNat 64 (hdr opc g 0 + a * 2 ^ 16 + b * 2 ^ 21 + sz * 2 ^ 26 + imm.toNat * 2 ^ 28)

/-- Format B. -/
def encB (opc : Nat) (g : Guard) (a : Nat) (off : BitVec 32) : W64 :=
  BitVec.ofNat 64 (hdr opc g 0 + a * 2 ^ 16 + off.toNat * 2 ^ 32)

/-- Format U. -/
def encU (opc : Nat) (g : Guard) (da db t a b c f : Nat) : W64 :=
  BitVec.ofNat 64 (hdr opc g 0 + da * 2 ^ 16 + db * 2 ^ 20 + t * 2 ^ 24 + a * 2 ^ 32 + b * 2 ^ 37 + c * 2 ^ 42 + f * 2 ^ 47)

/-- The program stands at an instruction and can run it. -/
def Prog.at (p : Prog) (w : W64) (ext : List W64) : Bool :=
  !p.ended && p.stall == .no && !p.failed && p.words[p.pc]? == some w &&
    slice 0 p.words (p.pc + 1) ext.length == ext

/-- The guard of an instruction holds (R368). -/
def Prog.runs (p : Prog) (g : Guard) : Bool := p.preg g.pr.val != g.pn

/-- One instruction of a ring's program: nothing happens unless the program stands at this word and can run it; a guard
that does not hold passes over the instruction (R368). -/
def kcs (r : Fin 132) (g : Guard) (w : W64) (ext : List W64) (body : Prog → State → State) (s : State) : Out :=
  match s.prog r.val with
  | none => .next s
  | some p =>
    if !p.at w ext then .next s
    else if p.runs g then .next (body p s)
    else .next (s.setProg r.val (p.next (1 + ext.length)))

/-- An instruction that changes registers only. -/
def kcsReg (r : Fin 132) (g : Guard) (w : W64) (ext : List W64) (f : Prog → Prog) (s : State) : Out :=
  kcs r g w ext (fun p s => s.setProg r.val ((f p).next (1 + ext.length))) s

/-- The program ends at this instruction for a fault. -/
def endAt (r status detail : Nat) (p : Prog) (s : State) : State := s.setProg r (p.faultAt status detail)

/-- The tally of a kind A instruction becomes BUSY and the program goes on. -/
def Prog.issue (p : Prog) (t : Nat) : Prog := (p.setT t { Tally.idle with st := 1, pc := p.pc }).next 1

/-- A kind A instruction: it first waits for a tally that is not IDLE, and then issues (R380). -/
def kindA (r t : Nat) (p : Prog) (s : State) (issue : Prog → State → State) : State :=
  let x := p.tally t
  if x.st = 1 then s.setProg r { p with stall := .implicit t }
  else if x.st = 2 ∧ 16 ≤ x.status then endAt r x.status x.detail (p.setT t Tally.idle) s
  else issue (p.setT t Tally.idle) s

/-- An order that loses arbitration ends its program SUPERSEDED with the resource code (R355, R384, R527). -/
def orderOf (r code : Nat) (lost : Bool) (p : Prog) (s : State) (run : Prog → State → State) : State :=
  if lost then endAt r 0x10 code p s else run p s

/-- A tally that completes in the step that issues it. -/
def issueDone (r t status detail : Nat) (p : Prog) (s : State) : State :=
  tallyDone r t status detail (s.setProg r (p.issue t))

/-- An access by the program at its instruction: a held line leaves everything as it was, poison and an unavailable line
end the program (R376), and otherwise `k` goes on with the data. -/
def access (r : Nat) (p : Prog) (s0 : State) (x : AccRes × State) (k : List Byte → State → State) : State :=
  if x.1.held then s0
  else
    match x.1.bad with
    | some (st, d) => endAt r st d p x.2
    | none => k x.1.data x.2

/-- A descriptor has zeros outside the bits its table lists. -/
def onlyBits (d : List W64) (m : List Nat) : Bool :=
  (List.range 8).all (fun i => fld d i &&& (2 ^ 64 - 1 - m.getD i 0) == 0)

/-- A mask of bits `hi` to `lo`. -/
def mask (hi lo : Nat) : Nat := 2 ^ (hi + 1) - 2 ^ lo

/-! ### The program check -/

/-- An opcode's row for the check: bits that may be nonzero above the header, EXT's range, and its class: 1 privileged,
2 raster, 3 press, 4 Tansy, 5 CTXSET, 6 forbidden in a RESTARTABLE program, 7 RCOMMIT (R370, R387). -/
structure OpRow where
  opc  : Nat
  bits : Nat
  ext0 : Nat
  ext1 : Nat
  cls  : Nat

namespace M
abbrev a : Nat := mask 20 16
abbrev a3 : Nat := mask 18 16
abbrev a4 : Nat := mask 19 16
abbrev b : Nat := mask 25 21
abbrev b3 : Nat := mask 23 21
abbrev b4 : Nat := mask 24 21
abbrev c : Nat := mask 30 26
abbrev c3 : Nat := mask 28 26
abbrev x3 : Nat := mask 33 31
abbrev imm : Nat := mask 63 26
abbrev mem : Nat := mask 63 16
abbrev off : Nat := mask 63 32
abbrev da : Nat := mask 19 16
abbrev db : Nat := mask 23 20
abbrev t : Nat := mask 27 24
abbrev ua : Nat := mask 36 32
abbrev ub : Nat := mask 41 37
abbrev uc : Nat := mask 46 42
end M

/-- Consecutive opcodes with one row. -/
def opRun (lo n bits cls : Nat) : List OpRow := (List.range n).map (fun i => ⟨lo + i, bits, 0, 0, cls⟩)

/-- The opcodes of Table 10.4 with the fields each one uses. -/
def opRows : List OpRow :=
  opRun 0x00 2 0 0 ++ opRun 0x02 1 M.off 0 ++ opRun 0x03 3 (M.a ||| M.off) 0 ++ opRun 0x10 16 (M.a ||| M.b ||| M.c) 0 ++
  opRun 0x20 4 (M.a ||| M.b ||| M.imm) 0 ++ opRun 0x24 3 (M.a ||| M.b ||| mask 31 26) 0 ++ opRun 0x27 1 (M.a ||| M.imm) 0 ++
  [⟨0x28, M.a, 1, 1, 0⟩] ++ opRun 0x29 1 (M.a ||| M.b ||| M.c ||| M.x3) 0 ++ opRun 0x2A 2 M.a 0 ++
  opRun 0x30 6 (M.a3 ||| M.b ||| M.c) 0 ++ opRun 0x36 2 (M.a3 ||| M.b ||| M.imm) 0 ++ opRun 0x38 4 (M.a3 ||| M.b3 ||| M.c3) 0 ++
  opRun 0x3C 1 (M.a3 ||| M.b) 0 ++ opRun 0x40 2 (M.a4 ||| M.b) 0 ++ opRun 0x42 1 (M.a ||| M.b4 ||| M.x3) 0 ++
  opRun 0x43 1 (M.a4 ||| M.b ||| M.x3) 0 ++ opRun 0x44 1 (M.a4 ||| M.b3 ||| M.imm) 0 ++ [⟨0x45, M.a4 ||| M.b3, 1, 3, 0⟩] ++
  opRun 0x46 1 M.a4 0 ++ opRun 0x47 1 (M.a4 ||| M.b4) 0 ++ opRun 0x50 3 M.mem 0 ++
  opRun 0x53 1 (M.a ||| M.b ||| M.c ||| mask 33 31 ||| mask 35 35) 6 ++ opRun 0x54 2 (M.da ||| M.t) 0 ++ opRun 0x56 2 M.mem 0 ++
  opRun 0x58 1 M.b 5 ++ opRun 0x60 1 (M.da ||| M.ua) 0 ++ opRun 0x61 1 (M.da ||| M.ua ||| mask 49 47) 0 ++
  opRun 0x62 1 (M.da ||| M.ua) 0 ++ opRun 0x63 1 (M.t ||| M.ua ||| M.ub ||| M.uc) 0 ++ opRun 0x64 1 M.t 0 ++
  opRun 0x68 3 (M.da ||| M.t) 0 ++ opRun 0x70 1 (M.da ||| M.db ||| M.t) 0 ++ opRun 0x71 1 (M.da ||| M.t) 0 ++
  opRun 0x78 2 (M.da ||| M.t) 2 ++ opRun 0x7A 1 (M.da ||| M.ua) 7 ++ opRun 0x80 1 (M.da ||| M.t) 3 ++ opRun 0x81 3 M.ua 3 ++
  opRun 0x88 1 (M.da ||| M.t ||| M.ua) 4 ++ opRun 0x89 2 (M.ua ||| M.ub) 4 ++ opRun 0x8B 1 (M.da ||| M.t) 4 ++
  opRun 0x90 1 (M.t ||| M.ua ||| mask 47 47) 0 ++ opRun 0x91 1 (M.ua ||| mask 62 47) 0 ++ opRun 0x92 1 (M.t ||| M.ua) 0 ++
  opRun 0x93 1 0 0 ++ opRun 0x98 1 (mask 29 26) 6 ++ opRun 0x99 1 M.b 0 ++
  opRun 0xA0 3 M.b 1 ++ opRun 0xA3 1 (M.t ||| M.ua) 1 ++ opRun 0xA4 1 (M.b ||| M.c) 1 ++ opRun 0xA5 1 (M.t ||| M.ua) 1 ++
  opRun 0xA6 1 M.b 1 ++ opRun 0xA7 3 (M.b ||| M.c) 1 ++ opRun 0xAA 1 (M.t ||| M.ua) 1 ++ opRun 0xAB 1 (M.b ||| M.c) 1 ++
  opRun 0xAC 1 (M.da ||| M.t ||| M.ua) 1 ++ opRun 0xAD 1 (M.da ||| M.t) 1 ++ opRun 0xAE 1 M.a 1

/-- What the check of a program depends on beside its words. -/
structure CheckCtx where
  inline  : Bool
  restart : Bool
  sm      : Bool
  press   : Bool        -- the node has the press side (R28)

/-- EXT of a word. -/
def wordExt (w : W64) : Nat := bits w.toNat 13 12

/-- A class may stand in the program (R28, R370, R387). -/
def classOk (c : CheckCtx) (cls : Nat) : Bool :=
  if cls = 0 then true
  else if cls = 1 then c.sm
  else if cls = 5 then !c.sm
  else if cls = 6 then !c.restart
  else if cls = 2 then c.press
  else c.press && !c.restart

/-- Target of a branch word: the word index, when it is not negative. -/
def branchTarget (pc : Nat) (w : W64) : Int := (pc : Int) + toSigned 32 (w.toNat / 2 ^ 32)

/-- One instruction word is well formed in its program of `n` words, whose instructions start at `starts` (R370). -/
def wordOk (c : CheckCtx) (starts : List Nat) (n pc : Nat) (w : W64) : Bool :=
  match opRows.find? (fun r => r.opc == w.toNat % 256) with
  | none => false
  | some r =>
    let e := wordExt w
    bits w.toNat 15 14 == 0 && r.ext0 ≤ e && e ≤ r.ext1 && w.toNat / 65536 * 65536 &&& (2 ^ 64 - 1 - r.bits) == 0 &&
      classOk c r.cls && (r.opc != 0x45 || bits w.toNat 25 21 + e ≤ 8) &&
      (!(2 ≤ r.opc && r.opc ≤ 5) ||
        (decide (0 ≤ branchTarget pc w) && decide (branchTarget pc w < (n : Int)) && starts.contains (branchTarget pc w).toNat))

/-- Word indices at which instructions start. -/
def instrStarts : Nat → Nat → List W64 → List Nat
  | 0, _, _ => []
  | fuel + 1, i, ws =>
    match ws with
    | [] => []
    | w :: rest => i :: instrStarts fuel (i + 1 + wordExt w) (rest.drop (wordExt w))

/-- The first offending word of a program; none when it is well formed (R370, R371). -/
def checkProgram (c : CheckCtx) (ws : List W64) : Option Nat :=
  let starts := instrStarts ws.length 0 ws
  if c.inline then
    match starts.find? (fun i => ws.getD i 0 == 1) with
    | none => some ((starts.find? (fun i => !wordOk c starts ws.length i (ws.getD i 0))).getD (ws.length - 1))
    | some e =>
      let own := starts.filter (fun i => i ≤ e)
      (own.find? (fun i => !wordOk c own (e + 1) i (ws.getD i 0))).or
        ((List.range ws.length).find? (fun i => e < i && ws.getD i 0 != 0))
  else
    (starts.find? (fun i => !wordOk c starts ws.length i (ws.getD i 0))).or
      (if starts.contains (ws.length - 1) && ws.getD (ws.length - 1) 0 == 1 then none else some (ws.length - 1))

end Sys2Proof.Machine
end

