-- ==== Sys2Proof/Machine/Burin.lean ====
section
/-! DEFINITION. Burin: raster contexts and their queues, the tiles of a job, and a band of a streaming page (R567 to
R580, R599, R600, R617, R618). -/

namespace Sys2Proof.Machine

/-- Class of a raster context: 0 PRESS, 1 PROOF, 2 NORMAL (Table 16.3). -/
def rasClass (n : Nat) : Nat := if n < 2 then 0 else if n = 2 then 1 else 2

/-- Owner of a raster context (Table 16.3). -/
def State.rasOwner (s : State) (n : Nat) : Option Nat :=
  if n < 2 then s.leases.press
  else if n = 2 then s.leases.proof
  else if s.get (F.RAS_CTX_OWNER_OWNER n) < 16 then some (s.get (F.RAS_CTX_OWNER_OWNER n)) else none

/-- The jobs of a raster context. -/
def State.rasQueue (s : State) (n : Nat) : List RasJob := Tab.get [] s.ras.queue n

/-- The state with a context's jobs replaced. -/
def State.setRasQueue (s : State) (n : Nat) (l : List RasJob) : State :=
  { s with ras := { s.ras with queue := if l.isEmpty then s.ras.queue.del n else Tab.set s.ras.queue n l } }

/-- The surface of a descriptor (Table 10.10). -/
def surfOf (part : Nat) (f : List W64) : Surf :=
  { va := bits (fld f 2) 51 0, w := bits (fld f 3) 15 0, h := bits (fld f 3) 31 16, fmt := bits (fld f 3) 35 32,
    stride := bits (fld f 4) 31 0, cid := part * 4096 + bits (fld f 5) 11 0 }

/-- A surface descriptor is a runtime MALFORMED (R567, R570). -/
def surfBad (clear : Bool) (f : List W64) : Bool :=
  let x := surfOf 0 f
  let v := fld f 6 % 2 ^ 24
  3 ≤ x.fmt || x.w == 0 || x.h == 0 || x.va % 4096 != 0 ||
    (x.fmt == 2 && bits (fld f 3) 40 36 != 0) || x.stride % 64 != 0 || x.stride < rowBytes x.fmt x.w ||
    (if clear then bits (fld f 0) 51 0 != 0 else
      bits (fld f 0) 51 0 % 16 != 0 || bits (fld f 1) 31 0 % 16 != 0 || bits (fld f 1) 31 0 == 0) ||
    fld f 7 != 0 || (clear && x.fmt == 0 && 2 ≤ v) || (clear && x.fmt == 1 && 4 ≤ v)

/-- Threshold array of a descriptor. -/
def thrOf (f : List W64) : Nat := bits (fld f 3) 39 36

/-- A threshold array is in use (R576). -/
def State.thrInUse (s : State) (arr : Nat) : Bool :=
  (List.range 8).any (fun n => (s.rasQueue n).any (fun j => bits (fld j.f 3) 35 32 < 2 && thrOf j.f == arr)) ||
    (s.prs.queue ++ s.prs.hashing).any (fun p => match p.stream with | some x => x.thr == arr | none => false)

/-- Bit mask of the arrays in use. -/
def State.thrMask (s : State) : Nat := (List.range 16).foldl (fun m a => m + b2n (s.thrInUse a) * 2 ^ a) 0

/-- The unstarted jobs of a context are dropped, their tallies SUPERSEDED with DETAIL 0x04; a running job completes
(R579). -/
def dropQueuedJobs (n : Nat) (s : State) : State :=
  let l := s.rasQueue n
  let s := s.setRasQueue n (l.filter (·.started))
  s.each (l.filter (fun j => !j.started)) (fun j t => tallyDone j.ring j.t 0x10 0x04 t)

/-- A partition's raster jobs are cancelled without a completion (R579). -/
def cancelJobs (p : Nat) (s : State) : State :=
  s.each (List.range 8) (fun n t => t.setRasQueue n ((t.rasQueue n).filter (fun j => j.part != p)))

/-- An order of RDRAW or RCLEAR is issued (R384, R398, R577, R578). -/
def rasIssue (r t : Nat) (clear : Bool) (f : List W64) (p : Prog) (s0 s : State) : State :=
  if surfBad clear f then endAt r 0x50 0 p s
  else
    let n := bits (fld f 3) 43 41
    if smRing r then issueDone r t 0 0 p s
    else if s.rasOwner n ≠ some (r / 8) then
      issueDone r t 0 0 p (orderViolation r .permission 1 0 (ringCid r p.ctx) s)
    else if 16 ≤ (s.rasQueue n).length then s0
    else
      let j : RasJob := { ring := r, t := t, part := r / 8, rctx := n, clear := clear, f := f, started := false, list := [],
                          next := 0, retiles := 0 }
      (s.setRasQueue n (s.rasQueue n ++ [j])).setProg r (p.issue t)

/-- RDRAW: orders Burin to render a display list into a surface. -/
def execRdraw (r : Fin 132) (g : Guard) (da t : Fin 16) (lost : Bool) (s : State) : Out :=
  kcs r g (encU 0x78 g da.val 0 t.val 0 0 0 0) [] (fun p s =>
    kindA r.val t.val p s (fun q s' => orderOf r.val 4 lost q s' (fun q s' =>
      rasIssue r.val t.val false (q.dreg da.val) q s s'))) s

/-- RCLEAR: orders a fast clear of every tile of a surface. -/
def execRclear (r : Fin 132) (g : Guard) (da t : Fin 16) (lost : Bool) (s : State) : Out :=
  kcs r g (encU 0x79 g da.val 0 t.val 0 0 0 0) [] (fun p s =>
    kindA r.val t.val p s (fun q s' => orderOf r.val 4 lost q s' (fun q s' =>
      rasIssue r.val t.val true (q.dreg da.val) q s s'))) s

/-- The running job of a context ends with a status. -/
def endJob (n status detail : Nat) (s : State) : State :=
  match s.rasQueue n with
  | [] => s
  | j :: rest =>
    let s := { s.setRasQueue n rest with ras := { (s.setRasQueue n rest).ras with cur := none } }
    tallyDone j.ring j.t status detail (s.bump F.RAS_JOBS_COUNT 1)

/-- Status of a job that completed: OK, or OK_RETRIED with the renders repeated (R599). -/
def jobStatus (j : RasJob) : Nat × Nat := if j.retiles = 0 then (0, 0) else (1, j.retiles)

/-- The flag area RCLEAR writes: CLEAR in the header and a set flag for every tile (R567). -/
def clearArea (f : Surf) (v : Nat) : List Byte :=
  leBytes 64 v ++ (List.range (f.flagSize - 64)).map (fun i =>
    BitVec.ofNat 8 ((List.range 8).foldl (fun n k => n + b2n (8 * i + k < f.tx * f.ty) * 2 ^ k) 0))

/-- What an attempt at a step of a job found. -/
inductive TileRes where
  | held
  | ended (status detail : Nat)
  | tile (t : Nat)             -- this tile was written
  | none                       -- no touched tile is left

/-- An access of a job: held, ended by what it met, or its data. -/
def jobAcc (tile : Nat) (r : AccRes) : Option TileRes :=
  if r.held then some .held
  else if r.poison then some (.ended 0x20 (2 ^ 31 + tile))
  else r.unavail.map (fun c => .ended 0x21 c)

/-- Bounds of a tile: first and end column and row. -/
def tileBox (f : Surf) (t : Nat) : Nat × Nat × Nat × Nat :=
  let x := t % f.tx * 64
  let y := t / f.tx * 64
  (x, min (x + 64) f.w, y, min (y + 64) f.h)

/-- Writes, one after the other. -/
def wrMany (wr : Nat → List Byte → State → AccRes × State) (l : List (Nat × List Byte)) (s : State) : AccRes × State :=
  l.foldl (fun rs x => let (r, t) := wr x.1 x.2 rs.2; (rs.1.add r, t)) (AccRes.empty, s)

/-- Renders the first touched tile from number `t` on (R568, R571 to R573). -/
def renderFrom (j : RasJob) (f : Surf) (cmds : List RCmd) : Nat → Nat → State → TileRes × State
  | 0, _, s => (.none, s)
  | fuel + 1, t, s =>
    if f.tx * f.ty ≤ t then (.none, s)
    else
      let rd := ringRd j.ring f.cid
      let (x0, x1, y0, y1) := tileBox f t
      let (cs, r, s) := readImages rd f.fmt x0 x1 y0 y1 cmds s
      match jobAcc t r with
      | some e => (e, s)
      | none =>
        let cell := s.thrCell (thrOf j.f)
        if !(renderBlock f.fmt cell cs (fun _ _ => 0) x0 x1 y0 y1).1 then renderFrom j f cmds fuel (t + 1) s
        else
          let (hd, s) := rdMany rd [(f.flagVa, 64), (f.flagVa + 64 + t / 8, 1)] s
          match jobAcc t hd with
          | some e => (e, s)
          | none =>
            let clear := clearOf f.fmt (hd.data.take 64)
            let fb := (hd.data.getD 64 0).toNat
            let n := rowBytes f.fmt (x1 - x0)
            let at_ := fun y => f.va + y * f.stride + x0 / 8 * fmtBits f.fmt
            let (old, s) := if bit fb (t % 8) then (AccRes.empty, s)
              else rdMany rd ((List.range (y1 - y0)).map (fun i => (at_ (y0 + i), n))) s
            match jobAcc t old with
            | some e => (e, s)
            | none =>
              let base := fun x y =>
                if bit fb (t % 8) then clear
                else (unpackPx f.fmt (x1 - x0) (slice 0 old.data ((y - y0) * n) n)).getD (x - x0) 0
              let rows := (renderBlock f.fmt cell cs base x0 x1 y0 y1).2
              let wr := fun va d s => writeVA (.ring j.ring) f.cid va d s
              let (w, s) := wrMany wr ((List.range rows.length).map (fun i => (at_ (y0 + i), packPx f.fmt (rows.getD i []))) ++
                (if bit fb (t % 8) then [(f.flagVa + 64 + t / 8, [BitVec.ofNat 8 (fb - 2 ^ (t % 8))])] else [])) s
              match jobAcc t w with
              | some e => (e, s)
              | none => (.tile t, s.bump F.RAS_TILES_COUNT 1)

/-- The context whose job runs next: the highest class with a job; within it a job that has started, else round-robin
(R578). -/
def State.rasPick (s : State) : Option Nat :=
  (List.range 3).findSome? (fun c =>
    let ctxs := (List.range 8).filter (fun n => rasClass n == c && !(s.rasQueue n).isEmpty)
    let started := ctxs.find? (fun n => (s.rasQueue n).any (·.started))
    let last := Tab.get 7 s.ras.rr c
    started.or ((ctxs.find? (fun n => last < n)).or ctxs.head?))

/-- The head job of a context with a function applied. -/
def onJob (n : Nat) (f : RasJob → RasJob) (s : State) : State :=
  match s.rasQueue n with
  | [] => s
  | j :: rest => s.setRasQueue n (f j :: rest)

/-- One step of the job that runs next: its list is read and checked before its first tile, then its next touched tile
is rendered (R568, R570, R578). A held access leaves everything as it was. -/
def jobStep (s0 : State) : State :=
  match s0.rasPick with
  | none => s0
  | some n =>
    match s0.rasQueue n with
    | [] => s0
    | j :: _ =>
      let f := surfOf j.part j.f
      let s := { s0 with ras := { s0.ras with cur := some n, rr := Tab.set s0.ras.rr (rasClass n) n } }
      if j.clear then
        let (r, s) := writeVA (.ring j.ring) f.cid f.flagVa (clearArea f (fld j.f 6 % 2 ^ 24)) s
        match jobAcc 0 r with
        | some (.ended a b) => endJob n a b s
        | some _ => s0
        | none => endJob n (jobStatus j).1 (jobStatus j).2 s
      else
        let (r, s) := if j.started then (AccRes.empty, s)
          else readVA (.ring j.ring) f.cid (bits (fld j.f 0) 51 0) (bits (fld j.f 1) 31 0) s
        match jobAcc 0 r with
        | some (.ended a b) => endJob n a b s
        | some _ => s0
        | none =>
          let list := if j.started then j.list else r.data
          match parseList list.length 0 list with
          | .error off => endJob n 0x50 off s
          | .ok l =>
            let s := onJob n (fun j => { j with started := true, list := list }) s
            match renderFrom j f (withClips f.w f.h l) (f.tx * f.ty) j.next s with
            | (.held, _) => s0
            | (.ended a b, s) => endJob n a b s
            | (.tile t, s) =>
              if f.tx * f.ty ≤ t + 1 then endJob n (jobStatus j).1 (jobStatus j).2 s
              else onJob n (fun j => { j with next := t + 1 }) s
            | (.none, s) => endJob n (jobStatus j).1 (jobStatus j).2 s

/-- The rows of one band of a streaming page, as bytes: every pixel starts as CLEAR (R617, R618). -/
def bandRows (s : State) (x : Stream) (w h : Nat) (k : Nat) (cmds : List RCmd) : List (List Byte) :=
  let y0 := 64 * k
  let rows := (renderBlock x.fmt (s.thrCell x.thr) cmds (fun _ _ => x.clear % 2 ^ fmtBits x.fmt) 0 w y0 (min (y0 + 64) h)).2
  rows.map (packPx x.fmt)

/-- VA of a row in the band buffer (R618). -/
def Stream.rowVa (x : Stream) (r : Nat) : Nat := x.bandVa + r / 64 % x.nb * 64 * x.stride + r % 64 * x.stride

/-- One band is rendered into its slot of the band buffer, through the page's own seal (R580, R582, R618): what the
reads and writes met, and the band's rows. -/
def renderBand (p : Page) (x : Stream) (k : Nat) (s : State) : Except Nat (AccRes × List (List Byte)) × State :=
  let rd := ringRd p.ring x.cid
  let (r, s) := rd x.listVa x.listLen s
  if r.held || r.bad.isSome then (.ok (r, []), s)
  else
    match parseList r.data.length 0 r.data with
    | .error off => (.error off, s)
    | .ok l =>
      let (cs, r, s) := readImages rd x.fmt 0 p.w (64 * k) (min (64 * k + 64) p.h) (withClips p.w p.h l) s
      if r.held || r.bad.isSome then (.ok (r, []), s)
      else
        let rows := bandRows s x p.w p.h k cs
        let wr := fun va d s => writeVABy (some p.sealId) (.ring p.ring) x.cid va d s
        let (w, s) := wrMany wr ((List.range rows.length).map (fun i => (x.rowVa (64 * k + i), rows.getD i []))) s
        (.ok (w, rows), s)

/-- A write of RAS_THR_DATA: a cell of the selected array is loaded and CELL moves on, or the array is in use (R576). -/
def thrDataWrite (v : Nat) (s : State) : State :=
  if !s.hasPress then s
  else
    let arr := s.get F.RAS_THR_SEL_ARRAY
    let cell := s.get F.RAS_THR_SEL_CELL
    if s.thrInUse arr then s.put F.RAS_THR_STATUS_BUSY_ERR 1
    else
      let t := v % 2 ^ 24
      let k := arr * 16384 + cell
      let s := { s with ras := { s.ras with thr := if t = thrReset then s.ras.thr.del k else Tab.set s.ras.thr k t } }
      s.put F.RAS_THR_SEL_CELL ((cell + 1) % 16384)

/-- RAS_THR_DATA_WRITE. -/
def execRasThrDataWrite (v : W32) (s : State) : Out := .next (thrDataWrite v.toNat s)

/-- A write of RAS_CTX_n_OWNER: contexts 3 to 7 take an owner; a change drops the former owner's queued jobs (R577, R579). -/
def ctxOwnerWrite (n v : Nat) (s : State) : State :=
  let o := v % 256
  if !s.hasPress || n < 3 || !(o < 16 || o == 255) then s
  else if o = s.get (F.RAS_CTX_OWNER_OWNER n) then s
  else dropQueuedJobs n (s.put (F.RAS_CTX_OWNER_OWNER n) o)

/-- RAS_CTX_OWNER_WRITE. -/
def execRasCtxOwnerWrite (n : Fin 8) (v : W32) (s : State) : Out := .next (ctxOwnerWrite n.val v.toNat s)

/-- TILE_BUFFER_UE: the tile is rendered again from the list; the bytes written are unchanged (R599). -/
def execTileBufferUe (s : State) : Out :=
  match s.ras.cur with
  | some n => .next (onJob n (fun j => { j with retiles := j.retiles + 1 }) (s.bump F.RAS_RETILES_COUNT 1))
  | none => .next s

end Sys2Proof.Machine
end

