-- ==== Sys2Proof/Machine/ClockOps.lean ====
section
/-! DEFINITION. Synthesizers, the frequency monitor, gating of island clocks and the quadrants' response (R111 to R150,
R778). -/

namespace Sys2Proof.Machine

/-- Synthesizer states of CKR_SYN_n_STATUS (Table 04.12). -/
abbrev synOff : Nat := 0
abbrev synAcquiring : Nat := 1
abbrev synLocked : Nat := 2
abbrev synCoasting : Nat := 3
abbrev synGated : Nat := 4

/-- Mask of the islands SYN_n feeds (Table 04.1, Table 01.2). -/
def synIslands (n : Nat) : Nat :=
  if n < 4 then 2 ^ (6 + n)
  else if n < 8 then 2 ^ (10 + (n - 4))
  else if n = 8 then 2 ^ 5
  else if n = 9 then 2 ^ 21
  else if n = 10 then 2 ^ 22
  else 2 ^ 1 + 2 ^ 2 + 2 ^ 3 + 2 ^ 4 + 2 ^ 20 + 2 ^ 23

/-- Output range of SYN_n in MHz (Table 04.1). -/
def synRange (n : Nat) : Nat × Nat :=
  if n < 4 then (400, 1600) else if n < 8 then (1200, 1600) else if n = 8 then (900, 1800)
  else if n = 9 then (25, 600) else if n = 10 then (100, 800) else (2400, 2400)

/-- VCO frequency in units of 2^-24 MHz: 100 MHz × (NINT + NFRAC / 2^24). -/
def vco24 (nint nfrac : Nat) : Nat := 100 * (nint * 2 ^ 24 + nfrac)

/-- A setting keeps the VCO within 4,000 to 8,000 MHz and the output within the synthesizer's range (R129). -/
def synSettingOk (n nint nfrac odiv : Nat) : Bool :=
  let v := vco24 nint nfrac
  let (lo, hi) := synRange n
  4000 * 2 ^ 24 ≤ v && v ≤ 8000 * 2 ^ 24 && lo * 2 ^ 24 * odiv ≤ v && v ≤ hi * 2 ^ 24 * odiv

/-- The fused maximum frequency of SYN_0–3 and SYN_8 in MHz (R126). -/
def State.synFusedMax (s : State) (n : Nat) : Nat := min (synRange n).2 (Tab.get (synRange n).2 s.fuses.maxMHz n)

/-- A setting lies above the fused maximum (R126). -/
def State.overFused (s : State) (n nint nfrac odiv : Nat) : Bool :=
  s.synFusedMax n * 2 ^ 24 * odiv < vco24 nint nfrac

/-- The synthesizer beside its registers. -/
def State.syn (s : State) (n : Nat) : Syn := Tab.get Syn.init s.clk.syn n

/-- The state with one synthesizer replaced. -/
def State.setSyn (s : State) (n : Nat) (x : Syn) : State := { s with clk := { s.clk with syn := Tab.set s.clk.syn n x } }

/-- State of a synthesizer. -/
def State.synState (s : State) (n : Nat) : Nat := s.get (F.CKR_SYN_STATUS_STATE n)

/-- Class of a state for the monitor: LOCKED, or COASTING and GATED, or neither (R123). -/
def synClass (st : Nat) : Nat := if st = synLocked then 1 else if st = synCoasting ∨ st = synGated then 2 else 0

/-- The islands of a synthesizer run or stop: CKR_ISL_CLK (Table 04.15). -/
def setIslandClock (mask : Nat) (run : Bool) (s : State) : State :=
  let r := s.get F.CKR_ISL_CLK_RUNNING
  s.put F.CKR_ISL_CLK_RUNNING (if run then r ||| mask else r - (r &&& mask))

/-- A synthesizer enters a state: the present monitor window is no longer entirely in one class, the reference count
is forgotten in OFF and ACQUIRING, DRIFT reads zero in LOCKED, and the island clocks run in LOCKED and COASTING. -/
def setSynState (n st : Nat) (s : State) : State :=
  let old := s.synState n
  let x := s.syn n
  let x := { x with pureWin := x.pureWin && synClass old == synClass st && synClass st != 0,
                    refCount := if synClass st = 0 then none else x.refCount,
                    frozen := st = synCoasting ∨ st = synGated }
  let s := (s.setSyn n x).put (F.CKR_SYN_STATUS_STATE n) st
  let s := if st = synLocked then s.put (F.CKR_SYN_STATUS_DRIFT n) 0 else s
  setIslandClock (synIslands n) (st = synLocked || st = synCoasting) s

/-- A synthesizer event (Table 20.4). -/
def synEvent (src n : Nat) (s : State) : State :=
  raiseNode ⟨src, n, synIslands n, s.get (F.CKR_SYN_STATUS_DRIFT n), 0⟩ s

/-- Who writes a synthesizer register (R126 to R128). -/
inductive SynWriter where
  | sm | steward | block
  deriving DecidableEq, Repr

/-- A writer may write CTL and FRAC of SYN_n (R122, R126 to R128). -/
def mayWriteCtl (w : SynWriter) (n : Nat) : Bool :=
  match w with
  | .sm => n != 9 && n != 10
  | .steward => n < 4 || n == 8
  | .block => n == 9 || n == 10

/-- A writer may write LOCK of SYN_n. -/
def mayWriteLock (w : SynWriter) (n : Nat) : Bool :=
  match w with
  | .sm => n != 9 && n != 10
  | .steward => n < 9
  | .block => false

/-- A writer may write GUARD of SYN_n. -/
def mayWriteGuard (w : SynWriter) (n : Nat) : Bool :=
  match w with
  | .sm => true
  | .steward => n != 11
  | .block => false

/-- The quadrant fed by SYN_n. -/
def synQuad (n : Nat) : Option Nat := if 4 ≤ n ∧ n < 8 then some (n - 4) else none

/-- The channels of a quadrant. -/
def quadChannels (q : Nat) : List Nat := (List.range 6).map (fun i => 6 * q + i)

/-- A quadrant takes a mode. -/
def setQuad (q : Nat) (m : QuadMode) (s : State) : State := { s with clk := { s.clk with quad := Tab.set s.clk.quad q m } }

/-- The channels of a quadrant that are in one state take another. -/
def moveChannels (q old new : Nat) (s : State) : State :=
  s.each (quadChannels q) (fun c t => if t.get (F.MC_STATUS_STATE c) = old then t.put (F.MC_STATUS_STATE c) new else t)

/-- A quadrant finishes its bursts, abandons a running hard-repair commit and places its channels in self-refresh,
holding requests (R136, Table 05.6). -/
def quadSelfRefresh (q : Nat) (s : State) : State :=
  let s := match s.pool.hardCh with
    | some c => if quadOf c = q then
        ({ s with pool := { s.pool with hardCh := none } }.put F.MEMG_PPR_STATUS_BUSY 0).put F.MEMG_PPR_STATUS_ABORTED 1
          |>.put (F.MC_STATUS_STATE c) 2
      else s
    | none => s
  setQuad q .selfRefresh (moveChannels q 2 3 s)

/-- Self-refresh exit and re-centring begin on relock, once the boundary register has left the pads (R136, R737). -/
def quadRelock (q : Nat) (s : State) : State :=
  if s.tst.pads.isSome then s
  else match s.quadMode q with
  | .running => s
  | .quiescing => s
  | _ => setQuad q .recentring s

/-- A quadrant serves again: its channels are ACTIVE and the held requests are served (R136). -/
def quadServe (q : Nat) (s : State) : State := serveHeld (setQuad q .running (moveChannels q 3 2 s))

/-- Memory start has happened: a rate has been selected (R778). -/
def State.memStarted (s : State) : Bool := s.get F.MEMG_CFG_SPEED != 0

/-- The output is gated and acquisition restarts, or the synthesizer goes to OFF (Table 04.3). -/
def gateAndRestart (n : Nat) (off : Bool) (s : State) : State :=
  if off then setSynState n synOff (s.put (F.CKR_SYN_STATUS_REF_LOST n) 0)
  else
    let s := setSynState n synAcquiring s
    if s.clk.refPresent then s else s.put (F.CKR_SYN_STATUS_REF_LOST n) 1

/-- What an applied configuration write does: it leaves OFF when EN is set, goes to OFF when EN is cleared, and gates
and restarts acquisition otherwise; a quadrant is quiesced first after memory start (R119, R122, R778). -/
def applySynWrite (n : Nat) (s : State) : State :=
  let en := s.on (F.CKR_SYN_CTL_EN n)
  if s.synState n = synOff then (if en then gateAndRestart n false s else s)
  else
    match synQuad n with
    | some q =>
      if s.memStarted && (s.quadMode q == .running || s.quadMode q == .recentring) then
        let offs := if en then NSet.del s.clk.quadOff q else NSet.ins s.clk.quadOff q
        setQuad q .quiescing { s with clk := { s.clk with quadOff := offs } }
      else gateAndRestart n (!en) s
    | none => gateAndRestart n (!en) s

/-- CTL fields of a write, with an undefined encoding keeping the field (R8). -/
def ctlOf (n : Nat) (v : W32) (s : State) : Bool × Nat × Nat :=
  let odiv := bits v.toNat 23 16
  let nint := bits v.toNat 15 8
  (bit v.toNat 31, if legalIn [(2, 255)] odiv then odiv else s.get (F.CKR_SYN_CTL_ODIV n),
    if legalIn [(40, 80)] nint then nint else s.get (F.CKR_SYN_CTL_NINT n))

/-- A write of CTL and NFRAC by a writer allowed to make it: refused outside the ranges, applied otherwise (R129). -/
def writeCtl (n : Nat) (en : Bool) (odiv nint nfrac : Nat) (s : State) : State :=
  if synSettingOk n nint nfrac odiv then
    let s := ((s.putB (F.CKR_SYN_CTL_EN n) en).put (F.CKR_SYN_CTL_ODIV n) odiv).put (F.CKR_SYN_CTL_NINT n) nint
    applySynWrite n (s.put (F.CKR_SYN_FRAC_NFRAC n) nfrac)
  else s.put (F.CKR_SYN_STATUS_REFUSED n) 1

/-- A steward write of CTL of SYN_0–3 or SYN_8 is passed to the SM; a later one replaces it; one above the fused
maximum or outside the ranges is refused (R126, R129). -/
def stewardCtl (n : Nat) (v : W32) (s : State) : State :=
  let (_, odiv, nint) := ctlOf n v s
  let nfrac := s.get (F.CKR_SYN_FRAC_NFRAC n)
  if !synSettingOk n nint nfrac odiv || s.overFused n nint nfrac odiv then s.put (F.CKR_SYN_STATUS_REFUSED n) 1
  else s.setSyn n { s.syn n with pendCtl := some v }

/-- CKR_SYN_9 and CKR_SYN_10 do not exist on KQN-1610 (R26, R148). -/
def State.synAbsent (s : State) (n : Nat) : Bool := !s.hasPress && (n == 9 || n == 10)

/-- A write of CKR_SYN_n_CTL (R122, R126 to R129). -/
def synCtlWrite (w : SynWriter) (n : Nat) (v : W32) (s : State) : State :=
  if s.synAbsent n || !mayWriteCtl w n then s
  else if w = .steward then stewardCtl n v s
  else
    let (en, odiv, nint) := ctlOf n v s
    writeCtl n en odiv nint (s.get (F.CKR_SYN_FRAC_NFRAC n)) s

/-- A write of CKR_SYN_n_LOCK (R122). -/
def synLockWrite (w : SynWriter) (n : Nat) (v : W32) (s : State) : State :=
  if s.synAbsent n || !mayWriteLock w n then s
  else
    let ln := bits v.toNat 31 16
    let lw := bits v.toNat 7 0
    let s := if legalIn [(16, 65535)] ln then s.put (F.CKR_SYN_LOCK_LOCK_N n) ln else s
    let s := if legalIn [(1, 255)] lw then s.put (F.CKR_SYN_LOCK_LOCK_WIN n) lw else s
    if s.synState n = synOff then s else applySynWrite n s

/-- A write of CKR_SYN_n_GUARD, which never restarts acquisition (R122). -/
def synGuardWrite (w : SynWriter) (n : Nat) (v : W32) (s : State) : State :=
  if s.synAbsent n || !mayWriteGuard w n then s
  else if legalIn [(250, 2000)] (bits v.toNat 15 0) then s.put (F.CKR_SYN_GUARD_GUARD_PPM n) (bits v.toNat 15 0) else s

/-- CTL as a word with EN replaced. -/
def State.ctlWithEn (s : State) (n : Nat) (en : Bool) : W32 :=
  BitVec.ofNat 32 (b2n en * 2 ^ 31 + s.get (F.CKR_SYN_CTL_ODIV n) * 2 ^ 16 + s.get (F.CKR_SYN_CTL_NINT n) * 2 ^ 8)

/-- Entry to LOCKED: REF_LOST and COAST_LIMIT clear (Table 04.3, R125). -/
def enterLocked (n : Nat) (s : State) : State :=
  let s := setSynState n synLocked ((s.put (F.CKR_SYN_STATUS_REF_LOST n) 0).put (F.CKR_SYN_STATUS_COAST_LIMIT n) 0)
  let s := match synQuad n with
    | some q => quadRelock q s
    | none => s
  let s := if n = 8 then s.faultRelease .xbarGated else s
  if n = 11 then s.faultRelease .syn11Gated else s

/-- The reference count of a coast as a fraction of cycles per window: the last window entirely in LOCKED, or the
programmed frequency times 1 ms (R123). -/
def State.refCycles (s : State) (n : Nat) : Nat × Nat :=
  match (s.syn n).refCount with
  | some c => (c, 1)
  | none => (vco24 (s.get (F.CKR_SYN_CTL_NINT n)) (s.get (F.CKR_SYN_FRAC_NFRAC n)) * 1000,
             2 ^ 24 * s.get (F.CKR_SYN_CTL_ODIV n))

/-- DRIFT of a window: (count − reference) × 10^6 / reference, toward zero, saturated (R123). -/
def driftOf (count num den : Nat) : Int :=
  clampInt (-32768) 32767 (divTrunc ((Int.ofNat (count * den) - Int.ofNat num) * 1000000) (Int.ofNat num))

/-- A LOCKED synthesizer starts to coast: the control word is frozen, the coast is counted, and a coast with no
reference window is marked NOMREF (Table 04.3, R123); its quadrant goes to self-refresh (R136). -/
def startCoast (n : Nat) (s : State) : State :=
  let s := s.bump (F.CKR_SYN_STATUS_LOSS_COUNT n) 1
  let s := if (s.syn n).refCount.isNone then s.put (F.CKR_SYN_STATUS_NOMREF n) 1 else s
  let s := synEvent Ev.SYN_COAST n (setSynState n synCoasting s)
  match synQuad n with
  | some q => if s.quadMode q = .running ∨ s.quadMode q = .recentring then quadSelfRefresh q s else s
  | none => s

/-- Source frequency of a CLKOUT in kHz: REFCLK_100, the crystal, or SYN_11 as programmed (R130). -/
def State.clkoutSource (s : State) (src : Nat) : Nat :=
  if src = 0 then 100000 else if src = 1 then 25000
  else s.get (F.CKR_SYN_CTL_NINT 11) * 100000 / s.get (F.CKR_SYN_CTL_ODIV 11)

/-- Maximum CLKOUT frequency of a format in kHz (Table 04.5). -/
def clkoutMax (fmt : Nat) : Nat := if fmt = 0 then 125000 else if fmt = 1 then 100000 else 400000

/-- A write of CKR_CLKOUT_n: undefined encodings keep their fields, a frequency over the format's maximum changes
nothing and sets ERR, and an accepted write clears ERR (R8, R131, R132). -/
def clkoutWrite (n : Nat) (v : W32) (s : State) : State :=
  let src := if bits v.toNat 17 16 = 3 then s.get (F.CKR_CLKOUT_SRC n) else bits v.toNat 17 16
  let div := if bits v.toNat 15 0 = 0 then s.get (F.CKR_CLKOUT_DIV n) else bits v.toNat 15 0
  let fmt := bits v.toNat 27 26
  if clkoutMax fmt * div < s.clkoutSource src then s.put (F.CKR_CLKOUT_ERR n) 1
  else
    (((((s.put (F.CKR_CLKOUT_EN n) (bits v.toNat 31 31)).put (F.CKR_CLKOUT_ERR n) 0).put (F.CKR_CLKOUT_FORMAT n) fmt).put
      (F.CKR_CLKOUT_DRIVE n) (bits v.toNat 25 24)).put (F.CKR_CLKOUT_SRC n) src).put (F.CKR_CLKOUT_DIV n) div

end Sys2Proof.Machine
end

