-- ==== Sys2Proof/Machine/TestOps.lean ====
section
/-! DEFINITION. The end of a test job, shared by the commands that can abort one (R741, R746, R749, R751). -/

namespace Sys2Proof.Machine

/-- RESULT of a job (Table 21.8). -/
abbrev resPass : Nat := 0
abbrev resFail : Nat := 1
abbrev resAborted : Nat := 2
abbrev resRefused : Nat := 3

/-- TST_JOB_DONE (Table 21.4). -/
def testDone (inst result reason : Nat) (s : State) : State :=
  raiseNode ⟨Ev.TST_JOB_DONE, inst, result + reason * 256, wrap32 (s.get F.TST_JOB_ERRS_COUNT), s.get F.TST_JOB_BITS_COUNT⟩ s

/-- The running job ends with a RESULT. A group whose EN was written 1 during a KIND 2 job is enabled now (Table 21.7). -/
def endTest (result : Nat) (s : State) : State :=
  match s.tst.job with
  | none => s
  | some j =>
    let due := s.tst.enDue
    let s := { s with tst := { s.tst with job := none, enDue := [] } }
    let s := ((s.put F.TST_JOB_STATUS_STATE 2).put F.TST_JOB_STATUS_RESULT result).put F.TST_JOB_STATUS_REASON 0
    (testDone j.inst result 0 s).each due (fun g t => t.put (F.FP_CTL_EN g) 1)

/-- The running job is aborted if it is one of a set (Table 21.7). -/
def abortJobIf (f : TestJob → Bool) (s : State) : State := if s.tst.job.any f then endTest resAborted s else s

/-- A job of a kind runs. -/
def State.jobRuns (s : State) (kind : Nat) : Bool := s.tst.job.any (fun j => j.kind == kind)

end Sys2Proof.Machine
end

