-- ==== Sys2Proof/Machine/Display.lean ====
section
/-! DEFINITION. The proof display: link and receiver, commits, latches, scan-out and review records (R583 to R596, R601,
R602). -/

namespace Sys2Proof.Machine

/-- Scan-out state: 0 DISABLED, 1 BLANK, 2 ACTIVE (R587). -/
def State.dspState (s : State) : Nat :=
  if !s.on F.DSP_CTL_EN then 0
  else if s.on F.DSP_STATUS_TRAINED && s.on F.DSP_STATUS_ADMITTED && (s.synState 9 == synLocked || s.dsp.blankEnd) then 2
  else 1

/-- DSP_STATUS as it reads. -/
def State.dspStatus (s : State) : Nat :=
  s.dspState * 2 ^ 30 + s.get F.DSP_STATUS_MODE_ERR * 2 ^ 29 + b2n s.dsp.hpd * 2 ^ 28 + s.get F.DSP_STATUS_TRAINED * 2 ^ 27 +
    s.get F.DSP_STATUS_ADMITTED * 2 ^ 26

/-- A proof event (Table 20.4). -/
def dspEvent (src : Nat) (s : State) : State :=
  raiseHolder s.leases.proof src s.dspStatus (s.get F.DSP_FRAME_SEQ_SEQ) 0 s

/-- The FRAME_SEQ after one (R588). -/
def nextFrame (n : Nat) : Nat := if n = 0xFFFFFFFF then 1 else n + 1

/-! ### Enabling and the link -/

/-- Lanes and link rate in Mb/s of a code (Table 16.8). -/
def dspLanes (code : Nat) : Nat := 2 ^ code
def dspRate (code : Nat) : Nat := if code = 0 then 1620 else if code = 1 then 2700 else if code = 2 then 5400 else 8100

/-- A mode is refused (R584): the link is too slow, the active area too large, or the pixel clock out of range. -/
def State.dspModeBad (s : State) : Bool :=
  let nint := s.get F.DSP_PIXCLK_NINT
  let odiv := s.get F.DSP_PIXCLK_ODIV
  let nfrac := s.get F.DSP_PIXFRAC_NFRAC
  let v := vco24 nint nfrac
  dspLanes (s.get F.DSP_CTL_LANES) * dspRate (s.get F.DSP_CTL_RATE) * 8 * 2 ^ 24 * odiv < v * 24 * 10 ||
    3840 < s.get F.DSP_H_ACTIVE || 2160 < s.get F.DSP_V_ACTIVE || !synSettingOk 9 nint nfrac odiv

/-- LANES and RATE of a write, taken while EN is 0; an undefined LANES keeps its field (R8, R584). -/
def dspCtlFields (v : W32) (s : State) : State :=
  let l := bits v.toNat 5 4
  (if l = 3 then s else s.put F.DSP_CTL_LANES l).put F.DSP_CTL_RATE (bits v.toNat 1 0)

/-- A write of DSP_CTL with EN = 1 (R584), ignored while a KIND 4 job runs (Table 21.7). -/
def dspEnable (v : W32) (s : State) : State :=
  if !s.hasPress || s.on F.DSP_CTL_EN || s.jobRuns 4 then s
  else
    let s := dspCtlFields v s
    if s.dspModeBad then s.put F.DSP_STATUS_MODE_ERR 1
    else
      writeCtl 9 true (s.get F.DSP_PIXCLK_ODIV) (s.get F.DSP_PIXCLK_NINT) (s.get F.DSP_PIXFRAC_NFRAC) (s.put F.DSP_CTL_EN 1)

/-- DSP_ENABLE. -/
def execDspEnable (v : W32) (s : State) : Out := .next (dspEnable v s)

/-! ### Commits -/

/-- KIND of a commit is XFORM. -/
def commitXform (f : List W64) : Bool := bit (fld f 1) 48
/-- PLATE of a commit. -/
def commitPlate (f : List W64) : Bool := bit (fld f 1) 49
/-- The transform of a commit. -/
def xformOf (f : List W64) : Xform :=
  { scale := bits (fld f 2) 63 32, tx := toSigned 32 (fld f 3), ty := toSigned 32 (fld f 3 / 2 ^ 32) }
/-- The plate of a commit. -/
def commitPlateSurf (part : Nat) (f : List W64) : Surf :=
  { va := bits (fld f 4) 51 0, w := bits (fld f 5) 15 0, h := bits (fld f 5) 31 16, fmt := bits (fld f 4) 52 52,
    stride := bits (fld f 5) 47 32 * 64, cid := part * 4096 + bits (fld f 0) 63 52 }
/-- The base surface of a commit. -/
def commitBase (part : Nat) (f : List W64) : Surf :=
  { va := bits (fld f 0) 51 0, w := bits (fld f 1) 15 0, h := bits (fld f 1) 31 16, fmt := 2,
    stride := bits (fld f 1) 47 32 * 64, cid := part * 4096 + bits (fld f 0) 63 52 }

/-- A commit descriptor is a runtime MALFORMED (R592, R593). -/
def commitBad (f : List W64) : Bool :=
  let x := xformOf f
  let scaleBad := x.scale < 0x1000 || 0x100000 < x.scale
  if commitXform f then
    !onlyBits f [0, mask 48 48, mask 63 32, mask 63 0] || scaleBad
  else
    let b := commitBase 0 f
    let q := commitPlateSurf 0 f
    let win := fld f 6
    scaleBad || b.w == 0 || b.h == 0 || b.stride == 0 ||
      (if commitPlate f then
        !onlyBits f [mask 63 0, mask 49 0, mask 63 0, mask 63 0, mask 52 0, mask 47 0, mask 63 0, mask 63 0] ||
          q.w == 0 || q.h == 0 || q.stride == 0 || bits win 47 32 == 0 || bits win 63 48 == 0 ||
          q.w < bits (fld f 7) 15 0 + bits win 47 32 || q.h < bits (fld f 7) 31 16 + bits win 63 48
       else !onlyBits f [mask 63 0, mask 49 0, mask 63 0, mask 63 0])

/-- A commit's seal ends and its reservation, when its record is not written, is released (R595). -/
def releaseCommit (c : Commit) (s : State) : State :=
  let s := match c.sealId with | some i => dropSeal i s | none => s
  if c.new then (match c.resv with | some i => releaseReservation i s | none => s) else s

/-- A pending FRAME commit is displaced (R590). -/
def displaceFrame (s : State) : State :=
  match s.dsp.frame with
  | some c => (releaseCommit c { s with dsp := { s.dsp with frame := none } }).bump F.DSP_DISPLACED_COUNT 1
  | none => s

/-- Every pending commit is displaced (R595, R596). -/
def displaceAll (s : State) : State :=
  let s := displaceFrame s
  { s with dsp := { s.dsp with xform := none } }

/-- The seal of the shown PLATE commit ends (R595). -/
def endShownSeal (s : State) : State :=
  match s.dsp.shown with
  | some c => let s := releaseCommit c s
              { s with dsp := { s.dsp with shown := some { c with sealId := none, new := false } } }
  | none => s

/-- The seals of PLATE commits end: the shown one's, and a pending one is displaced (R595). -/
def endCommitSeals (s : State) : State :=
  let s := endShownSeal s
  match s.dsp.frame with
  | some c => if c.sealId.isSome then displaceFrame s else s
  | none => s

/-- Reservations wanted are granted in order while the log has room (R545, R552). -/
def grantCommit (ring : Nat) (id : Nat) (s : State) : State :=
  { s with dsp := { s.dsp with hand := s.dsp.hand.map (fun c => if c.ring = ring then { c with resv := some id } else c) } }

/-- A reservation is wanted by a commit: taken now, or waited for (R545, Table 15.3). -/
def wantCommit (c : Commit) (s : State) : State :=
  if s.canReserve && s.log.wants.isEmpty then
    let (id, s) := takeReservation none s
    checkNearFull { s with dsp := { s.dsp with hand := s.dsp.hand ++ [{ c with resv := some id }] } }
  else
    logWaits { s with dsp := { s.dsp with hand := s.dsp.hand ++ [c] }, log := { s.log with wants := s.log.wants ++ [.commit c.ring] } }

/-- RCOMMIT's own steps before the handshake (R593). -/
def rcommit (r a : Nat) (f : List W64) (p : Prog) (s0 s : State) : State :=
  let give := fun (v : Nat) (s : State) => s.setProg r ((p.setS a (BitVec.ofNat 64 v)).next 1)
  if commitBad f then endAt r 0x50 0 p s
  else if smRing r || s.leases.proof ≠ some (r / 8) then
    give 0 (if smRing r then s else orderViolation r .permission 1 0 (ringCid r p.ctx) s)
  else
    let c : Commit := { ring := r, part := r / 8, f := f, sealId := none, hash := [], resv := none, new := false }
    let stall := fun (s : State) => s.setProg r { p with stall := .commit a }
    if commitXform f || !commitPlate f then stall { s with dsp := { s.dsp with hand := s.dsp.hand ++ [c] } }
    else
      let q := commitPlateSurf (r / 8) f
      let (m, z, s) := captureSurf r q s
      let pages := framePages m
      if z.held || !s.sealFits pages then s0
      else
        let (id, s) := takeSeal pages false s
        let (b, s) := plateBytes (mapRd m) q s
        let b := z.add b
        if b.held then s0
        else
          match b.bad with
          | some (st, d) => endAt r st d p (dropSeal id s)
          | none =>
            if s.log.halted then give 0 (dropSeal id s)
            else stall (wantCommit { c with sealId := some id, hash := sha384 b.data, new := true } s)

/-- RCOMMIT: commits a proof frame or transform (R399, R593). -/
def execRcommit (r : Fin 132) (g : Guard) (da : Fin 16) (a : Fin 32) (lost : Bool) (s : State) : Out :=
  kcs r g (encU 0x7A g da.val 0 0 a.val 0 0 0) [] (fun p s' =>
    orderOf r.val 3 lost p s' (fun p s' => rcommit r.val a.val (p.dreg da.val) p s s')) s

/-- A commit's handshake ends: the program goes on with sA. -/
def finishCommit (r v : Nat) (s : State) : State :=
  onProg r (fun p =>
    match p.stall with
    | .commit a => (p.setS a (BitVec.ofNat 64 v)).next 1
    | _ => p) s

/-- COMMIT_HANDSHAKE: a ring's commit reaches DISPLAY and joins the pending set, or finds the lease gone (R589, R590,
R593). -/
def execCommitHandshake (r : Fin 132) (s : State) : Out :=
  match s.dsp.hand.find? (fun c => c.ring == r.val) with
  | none => .next s
  | some c =>
    if c.new && c.resv.isNone then .next s
    else
      let s := { s with dsp := { s.dsp with hand := s.dsp.hand.filter (fun x => x.ring != r.val) } }
      if s.leases.proof ≠ some c.part then .next (finishCommit r.val 0 (releaseCommit c s))
      else
        let s := if commitXform c.f then { s with dsp := { s.dsp with xform := some (xformOf c.f) } }
          else
            let s := displaceFrame s
            { s with dsp := { s.dsp with frame := some c, xform := none } }
        .next (finishCommit r.val (nextFrame (s.get F.DSP_FRAME_SEQ_SEQ)) s)

/-! ### Scan-out -/

/-- One byte as scan-out gets it: none where its line is poison. -/
abbrev ScanByte := Option Byte

/-- A run of bytes read for scan-out: a violated line gives zeros, a poisoned one nothing, an unavailable one a free
value; each poisoned line is counted and reported (R594). -/
def scanRead (ring cid va n : Nat) (s : State) : List ScanByte × State :=
  let src := Src.ring ring
  let (out, acc, s) := (linePieces va n).foldl (fun (x : List ScanByte × AccRes × State) pc =>
    let (r, t) := readPiece src cid pc (AccRes.empty, x.2.2)
    if r.poison then (x.1 ++ List.replicate pc.2 none, x.2.1, dspEvent Ev.DSP_POISON (t.bump F.DSP_POISONED_COUNT 1))
    else if r.unavail.isSome || r.held then
      (x.1 ++ (List.range pc.2).map (fun i => some (Config.scanByte (pc.1 + i))), x.2.1, t)
    else (x.1 ++ r.data.map some, { x.2.1 with viol := x.2.1.viol.or r.viol }, t)) ([], AccRes.empty, s)
  (out, (countAccess src cid .rd (acc, s)).2)

/-- Bytes of a scan-out read with poison as zeros. -/
def scanPlain (l : List ScanByte) : List Byte := l.map (fun b => b.getD 0)

/-- One row of a surface for scan-out: its pixels, none where poison supplies them. -/
def scanRow (ring : Nat) (f : Surf) (fl : Flags) (y : Nat) (s : State) : List (Option Nat) × State :=
  (List.range f.tx).foldl (fun (x : List (Option Nat) × State) tx =>
    let n := min 64 (f.w - tx * 64)
    if fl.on (y / 64 * f.tx + tx) then (x.1 ++ List.replicate n (some fl.clear), x.2)
    else
      let (b, t) := scanRead ring f.cid (f.va + y * f.stride + tx * 8 * fmtBits f.fmt) (rowBytes f.fmt n) x.2
      let px := unpackPx f.fmt n (scanPlain b)
      let bad := fun i => (slice none b (i * fmtBits f.fmt / 8) ((fmtBits f.fmt + 7) / 8)).any (·.isNone)
      (x.1 ++ (List.range n).map (fun i => if bad i then none else some (px.getD i 0)), t)) ([], s)

/-- The flag area for scan-out. -/
def scanFlags (ring : Nat) (f : Surf) (s : State) : Flags × State :=
  let (b, s) := scanRead ring f.cid f.flagVa f.flagSize s
  let d := scanPlain b
  (⟨clearOf f.fmt d, d.drop 64⟩, s)

/-- A pixel that poison supplies shows (128, 128, 128). -/
def poisonGray : Nat := 0x808080

/-- Gray of a plate level (R594). -/
def plateGray (fmt k : Nat) : Nat := (if fmt = 0 then 255 - k * 255 else 255 - 85 * k) * 0x010101

/-- The base coordinate a display coordinate shows (R594). -/
def baseCoord (u : Nat) (t : Int) (scale : Nat) : Int := Int.fdiv ((2 * (u : Int) + 1) * 32768 - t) (scale : Int)

/-- One display row of a frame (R594). -/
def composeRow (c : Commit) (x : Xform) (bfl pfl : Flags) (w v : Nat) (s : State) : List Nat × State :=
  let b := commitBase c.part c.f
  let q := commitPlateSurf c.part c.f
  let win := fld c.f 6
  let wx : Int := (bits win 15 0 : Nat) + Int.fdiv x.tx 65536
  let wy : Int := (bits win 31 16 : Nat) + Int.fdiv x.ty 65536
  let inRow := commitPlate c.f && decide (wy ≤ v) && decide ((v : Int) < wy + (bits win 63 48 : Nat))
  let by_ := baseCoord v x.ty x.scale
  let (base, s) := if decide (0 ≤ by_) && decide (by_ < b.h) then scanRow c.ring b bfl by_.toNat s else ([], s)
  let (plate, s) := if inRow then scanRow c.ring q pfl (bits (fld c.f 7) 31 16 + ((v : Int) - wy).toNat) s else ([], s)
  ((List.range w).map (fun (u : Nat) =>
    if inRow && decide (wx ≤ (u : Int)) && decide ((u : Int) < wx + (bits win 47 32 : Nat)) then
      match plate.getD (bits (fld c.f 7) 15 0 + ((u : Int) - wx).toNat) none with
      | some k => plateGray q.fmt k
      | none => poisonGray
    else
      let bx := baseCoord u x.tx x.scale
      if decide (0 ≤ bx) && decide (bx < b.w) then
        (if base.isEmpty then 0 else match base.getD bx.toNat none with | some k => k | none => poisonGray)
      else 0), s)

/-- The frame that follows a latch, in raster order: black before the first FRAME commit and after a lease move (R594,
R596). -/
def scanFrame (s : State) : State :=
  let w := s.get F.DSP_H_ACTIVE
  let h := s.get F.DSP_V_ACTIVE
  match s.dsp.shown with
  | none => { s with dsp := { s.dsp with lastPix := List.replicate (w * h) 0 } }
  | some c =>
    if s.dsp.black then { s with dsp := { s.dsp with lastPix := List.replicate (w * h) 0 } }
    else
      let x := s.dsp.cur
      let (bfl, s) := scanFlags c.ring (commitBase c.part c.f) s
      let (pfl, s) := if commitPlate c.f then scanFlags c.ring (commitPlateSurf c.part c.f) s else (⟨0, []⟩, s)
      let (px, s) := (List.range h).foldl (fun (a : List Nat × State) v =>
        let (row, t) := composeRow c x bfl pfl w v a.2
        (a.1 ++ row, t)) ([], s)
      { s with dsp := { s.dsp with lastPix := px } }

/-- The REVIEW record of a PLATE commit shown for the first time (R595, Table 15.2). -/
def reviewRecord (c : Commit) (s : State) : State :=
  if c.new then
    logSubmit .reserved false 0x11 false c.part
      (slice 0 c.hash 0 48 ++ leBytes 4 (bits (fld c.f 2) 31 0) ++ leBytes 4 (bits (fld c.f 7) 63 32) ++
        leBytes 4 (s.get F.DSP_FRAME_SEQ_SEQ)) c.resv .none s
  else s

/-- VBLANK_LATCH: at vertical blank in ACTIVE the pending frame and transform are latched, FRAME_SEQ moves on, and the
frame is scanned out; a frame that ends during a SYN_9 coast is the last before BLANK (R587, R588, R590, R591, R594,
R595). -/
def execVblankLatch (s : State) : Out :=
  let ended := s.dsp.blankEnd
  let s := { s with dsp := { s.dsp with blankEnd := false } }
  if (ended && s.synState 9 != synLocked) || s.dspState ≠ 2 then .next s
  else
    let s := s.put F.DSP_FRAME_SEQ_SEQ (nextFrame (s.get F.DSP_FRAME_SEQ_SEQ))
    let s := match s.dsp.frame with
      | some c =>
        let s := endShownSeal s
        let s := reviewRecord c s
        { s with dsp := { s.dsp with shown := some { c with new := false }, frame := none, black := false,
                                     cur := s.dsp.xform.getD (xformOf c.f), xform := none } }
      | none =>
        { s.bump F.DSP_REPROJ_COUNT 1 with
            dsp := { (s.bump F.DSP_REPROJ_COUNT 1).dsp with cur := s.dsp.xform.getD s.dsp.cur, xform := none } }
    .next (scanFrame s)

/-- The proof lease moves: pending commits are displaced, the shown plate's seal ends and scan-out is black from the
next latch (R595, R596). -/
def proofMoved (s : State) : State :=
  let s := endShownSeal (displaceAll s)
  { s with dsp := { s.dsp with black := true } }

/-- EN of DSP_CTL is written 0: scan-out is DISABLED and the seals of PLATE commits end (R587, R595). -/
def dspDisable (s : State) : State :=
  if !s.hasPress || !s.on F.DSP_CTL_EN then s
  else
    let s := ((s.put F.DSP_CTL_EN 0).put F.DSP_STATUS_TRAINED 0).put F.DSP_STATUS_ADMITTED 0
    endCommitSeals { s with dsp := { s.dsp with blankEnd := false, failed := false } }

/-- DSP_DISABLE. -/
def execDspDisable (s : State) : Out := .next (dspDisable s)

/-- A write of DSP_CTL: EN as above, and LANES and RATE while EN is 0 (R584). -/
def dspCtlWrite (v : W32) (s : State) : State :=
  if bit v.toNat 31 then dspEnable v s
  else if s.on F.DSP_CTL_EN then dspDisable s
  else if s.hasPress then dspCtlFields v s
  else s

/-- A write of a display register that R584 governs. -/
def dspModeWrite (key v : Nat) (s : State) : State := if s.on F.DSP_CTL_EN then s else s.writeReg key v

/-- DP_LINK_TRAINED: training ends, and authentication follows (R583, R585, R601). -/
def execDpLinkTrained (ok : Bool) (s : State) : Out :=
  if !s.on F.DSP_CTL_EN || !s.dsp.hpd then .next s
  else
    let s := (s.putB F.DSP_STATUS_TRAINED ok).put F.DSP_STATUS_ADMITTED 0
    if ok then .next { s with dsp := { s.dsp with failed := false } }
    else .next (dspEvent Ev.DSP_LINK_FAIL { s with dsp := { s.dsp with failed := true } })

/-- A Receiver ID is on the allow list (R585). -/
def State.rxAllowed (s : State) (id : Nat) : Bool :=
  (List.range 4).any (fun i => s.on (F.DSP_HDCP_ALLOW_EN i) && s.get (F.DSP_HDCP_ALLOW_RXID i) == id)

/-- HDCP_AUTHENTICATION: an authenticated receiver on the allow list that is no repeater is admitted; any other is
refused (R585, R601). -/
def execHdcpAuthentication (ok : Bool) (rxid : BitVec 40) (repeater : Bool) (s : State) : Out :=
  if !s.on F.DSP_CTL_EN || !s.on F.DSP_STATUS_TRAINED then .next s
  else
    let s := if ok then s.put F.DSP_HDCP_RXID_RXID rxid.toNat else s
    if ok && s.rxAllowed rxid.toNat && !repeater then
      .next { s.put F.DSP_STATUS_ADMITTED 1 with dsp := { (s.put F.DSP_STATUS_ADMITTED 1).dsp with failed := false } }
    else
      let s := s.put F.DSP_STATUS_ADMITTED 0
      .next (dspEvent Ev.DSP_HDCP_FAIL { s with dsp := { s.dsp with failed := true } })

/-- GO of DSP_AUX_CMD is written 1: an AUX transaction is sent unless it touches HDCP DPCD space; `reply` is the receiver's answer
(R586). -/
def auxGo (v : W32) (reply : Option (List Byte)) (s : State) : State :=
  if !s.hasPress then s
  else
    let n := bits v.toNat 23 20 + 1
    let addr := bits v.toNat 19 0
    let i2c := bit v.toNat 28
    let wr := bit v.toNat 27
    let s := (((s.putB F.DSP_AUX_CMD_I2C i2c).putB F.DSP_AUX_CMD_WRITE wr).put F.DSP_AUX_CMD_LENM1 (n - 1)).put F.DSP_AUX_CMD_ADDRESS addr
    if !i2c && addr ≤ 0x69FFF && 0x68000 ≤ addr + n - 1 then s.put F.DSP_AUX_CMD_AUX_ERR 1
    else
      let data := if wr then slice 0 ((List.range 4).flatMap (fun i => leBytes 4 (s.get (F.DSP_AUX_DATA_DATA i)))) 0 n else []
      let s := { s with dsp := { s.dsp with aux := s.dsp.aux ++ [(v.toNat % 2 ^ 31, n, data)] } }
      match reply with
      | none => s.put F.DSP_AUX_CMD_AUX_ERR 1
      | some d =>
        if wr then s
        else
          let old := (List.range 4).flatMap (fun i => leBytes 4 (s.get (F.DSP_AUX_DATA_DATA i)))
          let new := slice 0 d 0 n ++ old.drop n
          s.each (List.range 4) (fun i t => t.put (F.DSP_AUX_DATA_DATA i) (ofLeBytes (slice 0 new (4 * i) 4)))

/-- DSP_AUX_GO. -/
def execDspAuxGo (v : W32) (reply : Option (List Byte)) (s : State) : Out := .next (auxGo v reply s)

/-- HPD_UNPLUG: an unplug blanks scan-out (R583, R587). -/
def execHpdUnplug (s : State) : Out :=
  if !s.hasPress then .next s
  else
    let s := { s with dsp := { s.dsp with hpd := false, blankEnd := false } }
    .next (dspEvent Ev.DSP_HPD ((s.put F.DSP_STATUS_TRAINED 0).put F.DSP_STATUS_ADMITTED 0))

/-- IRQ_HPD: the node looks at the link and authenticates again (R583, R585, R601). -/
def execIrqHpd (linkOk : Bool) (s : State) : Out :=
  if !s.hasPress || !s.dsp.hpd then .next s
  else
    let s := if linkOk then s else s.put F.DSP_STATUS_TRAINED 0
    .next (dspEvent Ev.DSP_HPD (s.put F.DSP_STATUS_ADMITTED 0))

/-- HPD_PLUG: after an unplug the node trains the link and authenticates again (R601). -/
def execHpdPlug (s : State) : Out :=
  if !s.hasPress || s.dsp.hpd then .next s
  else .next (dspEvent Ev.DSP_HPD { s with dsp := { s.dsp with hpd := true, failed := false } })

/-- DSP_RETRY_TIMER: a failed training or authentication is tried again while HPD is high (R601). -/
def execDspRetryTimer (s : State) : Out :=
  if s.dsp.hpd && s.dsp.failed then .next { s with dsp := { s.dsp with failed := false } } else .next s

end Sys2Proof.Machine
end

