-- ==== Sys2Proof/Machine/Press.lean ====
section
/-! DEFINITION. The press port's own operations: engine states, outputs, halts, the page queue, picks, spoils, purges and
outcomes (R604 to R635). -/

namespace Sys2Proof.Machine

/-- Engine states (Table 17.2). -/
abbrev engOff : Nat := 0
abbrev engStandby : Nat := 1
abbrev engWarming : Nat := 2
abbrev engReady : Nat := 3
abbrev engStopping : Nat := 4
abbrev engHalted : Nat := 5

/-- PCTL cycles in 0.1 ms, and in one microsecond (R672). -/
def tenthMs : Nat := 40000
def microsec : Nat := 400

/-- STATE of the engine. -/
def State.eng (s : State) : Nat := s.get F.PRS_STATUS_STATE

/-- The engine runs: STANDBY to STOPPING. -/
def State.engRuns (s : State) : Bool := 1 ≤ s.eng && s.eng ≤ 4

/-- WARMING, READY or STOPPING. -/
def State.engHot (s : State) : Bool := 2 ≤ s.eng && s.eng ≤ 4

/-- Sheets in the path (R604). -/
def State.path (s : State) : List Sheet := s.prs.sheets.filter (fun x => !x.gone)

/-- Fuser gating is permitted (R638). -/
def State.gating (s : State) : Bool :=
  s.engRuns && !s.prs.aonSafe && (List.range 4).any (fun k => s.on (F.PRS_OT_EN k))

/-- The heartbeat runs (R610). -/
def State.hbeatRuns (s : State) : Bool := s.eng != engOff && !s.prs.aonSafe

/-- PRS_STATUS as it reads (Table 17.8). -/
def State.prsStatus (s : State) : Nat :=
  s.eng * 2 ^ 29 + s.get F.PRS_STATUS_HALT_CAUSE * 2 ^ 25 + s.get F.PRS_STATUS_CFG_ERR * 2 ^ 24 +
    s.get F.PRS_STATUS_OT_TRIP * 2 ^ 20 + b2n s.pressIn.ilk * 2 ^ 19 + b2n s.pressIn.erdy * 2 ^ 18 + b2n s.hbeatRuns * 2 ^ 17 +
    s.path.length % 32 * 2 ^ 12 + s.prs.queue.length % 128

/-- The press status word of PSTAT (Table 17.1). -/
def State.pstat (s : State) : Nat :=
  s.eng + b2n s.pressIn.ilk * 2 ^ 3 + b2n s.pressIn.erdy * 2 ^ 4 + s.get F.PRS_STATUS_HALT_CAUSE * 2 ^ 8 +
    s.prs.queue.length % 128 * 2 ^ 12 + s.path.length % 32 * 2 ^ 19 + s.prs.lastSheet * 2 ^ 32

/-- A press event (Table 20.4). -/
def prsEvent (src page job : Nat) (s : State) : State := raiseHolder s.leases.press src s.prsStatus page job s

/-- A Drypoint event (Table 20.4). -/
def dryEvent (src beam : Nat) (s : State) : State :=
  raiseHolder s.leases.press src beam (s.reg R.DRY_STATUS).toNat 0 s

/-- DRY_STATUS.LOCK clears, with DRY_UNLOCK when it was set (R651). -/
def unlock (s : State) : State :=
  if s.on F.DRY_STATUS_LOCK then dryEvent Ev.DRY_UNLOCK 0 (s.put F.DRY_STATUS_LOCK 0) else s

/-- Beam lock is lost, and its 64 edges are counted anew (R651). -/
def lockLost (s : State) : State := unlock { s with dry := { s.dry with good := 0 } }

/-- Every beam goes to static off; a line in progress ends (R660, R664). -/
def beamsOff (s : State) : State :=
  { s with dry := { s.dry with pulses := [], refOn := false, line := false }, press := { s.press with beamsLit := false } }

/-- The line in progress ends; beam REF keeps its window (R660). -/
def linesOff (s : State) : State :=
  { s with dry := { s.dry with pulses := [], line := false }, press := { s.press with beamsLit := s.dry.refOn } }

/-- The press outputs follow the engine state, the interlock and AON (R62, R63, R607, Table 17.2). -/
def drive (s : State) : State :=
  let hot := s.engHot && s.pressIn.ilk && !s.prs.aonSafe
  let was := s.press.laserEn
  let s := { s with press := { s.press with laserEn := hot, ilkOut := s.engRuns && s.pressIn.ilk && !s.prs.aonSafe,
                                            hvDuty := if hot then s.press.hvDuty else [] } }
  if hot then s else if was then lockLost (beamsOff s) else beamsOff s

/-- Hunting begins: the BD window is open until the next accepted edge (R649). -/
def startHunting (s : State) : State :=
  let s := s.put F.DRY_STATUS_HUNTING 1
  { s with dry := { s.dry with edge := false, window := true, refOn := s.press.laserEn },
           press := { s.press with beamsLit := s.press.beamsLit || s.press.laserEn } }

/-- The engine enters a state (R607, R649). -/
def enterEng (st : Nat) (s : State) : State :=
  let s := if s.engRuns then s else { s with prs := { s.prs with lastZcd := some s.ticks } }
  let s := s.put F.PRS_STATUS_STATE st
  let s := if st = engHalted then s else s.put F.PRS_STATUS_HALT_CAUSE 0
  let s := drive s
  if st = engWarming then
    let dacs : Tab Nat := (List.range 8).map (fun b => (b, s.get (F.DRY_APC_DAC b)))
    startHunting { s with press := { s.press with apcDac := dacs.filter (fun e => e.2 != 0) } }
  else s

/-- The engine conditions (R608). -/
def State.engConditions (s : State) : Bool :=
  s.pressIn.ilk && s.pressIn.erdy && s.synState 10 == synLocked && s.on F.DRY_STATUS_LOCK &&
    (List.range 16).all (fun n => !bit (s.get F.PRS_READY_MASK_SLOTS) n || (Tab.get Slot.init s.tns.slot n).inBand) &&
    (List.range 4).any (fun k => s.on (F.PRS_OT_EN k)) &&
    bit (s.get F.CKR_ISL_CLK_RUNNING) 4 && !bit (s.get F.CKR_ISL_STATE_IN_RESET) 4 && !s.log.halted

/-! ### The page queue -/

/-- What an ISSUANCE record says of a page (R631, Table 15.2). -/
def Page.info (p : Page) (sheet : Nat) : IssueInfo :=
  { part := p.part, hash := p.hash, job := p.job, page := p.page, sheet := sheet, attempt := p.attempt,
    mode := p.side + b2n p.stream.isSome * 4 + p.dpi * 8 }

/-- The page of an identity. -/
def State.pageOf (s : State) (id : Nat) : Option Page := s.prs.queue.find? (fun p => p.id == id)

/-- The page queue with a function applied to one page. -/
def onPage (id : Nat) (f : Page → Page) (s : State) : State :=
  { s with prs := { s.prs with queue := s.prs.queue.map (fun p => if p.id = id then f p else p) } }

/-- A page leaves the queue and its seal ends (R615). -/
def removePage (id : Nat) (s : State) : State :=
  match s.pageOf id with
  | none => s
  | some p =>
    let s := dropSeal p.sealId s
    { s with prs := { s.prs with queue := s.prs.queue.filter (fun x => x.id != id),
                                 bandsDone := s.prs.bandsDone.filter (fun k => k / 65536 != id),
                                 bandNext := s.prs.bandNext.del id },
             ras := { s.ras with bands := s.ras.bands.filter (fun b => b.1 != id) } }

/-- The tally of a page completes (R401, R402). -/
def pageTally (p : Page) (status detail : Nat) (s : State) : State :=
  match p.tally with
  | some (r, t) => tallyDone r t status detail s
  | none => s

/-- A page that is not picked is dropped: no record, its reservation released, its tally SUPERSEDED (R402). -/
def dropPage (id : Nat) (s : State) : State :=
  match s.pageOf id with
  | none => s
  | some p =>
    let s := match p.resv with | some i => releaseReservation i s | none => s
    pageTally p 0x10 0x01 (removePage id s)

/-- A page in its hash pass, or waiting for its reservation, is dropped. -/
def dropHashing (id : Nat) (s : State) : State :=
  match s.prs.hashing.find? (fun p => p.id == id) with
  | none => s
  | some p =>
    let s := dropSeal p.sealId s
    let s := { s with prs := { s.prs with hashing := s.prs.hashing.filter (fun x => x.id != id) },
                      log := { s.log with wants := s.log.wants.filter (fun w => w != .page id) } }
    pageTally p 0x10 0x01 s

/-- The unpicked pages a test selects are dropped; those still in their hash pass are included. -/
def dropPages (f : Page → Bool) (s : State) : State :=
  let s := s.each (s.prs.queue.filter (fun p => !p.picked && f p)) (fun p t => dropPage p.id t)
  s.each (s.prs.hashing.filter f) (fun p t => dropHashing p.id t)

/-- A hashed page takes its reservation and joins the tail of the queue (R400). -/
def queuePage (id resv : Nat) (s : State) : State :=
  match s.prs.hashing.find? (fun p => p.id == id) with
  | none => s
  | some p =>
    let s := { s with prs := { s.prs with hashing := s.prs.hashing.filter (fun x => x.id != id),
                                          queue := s.prs.queue ++ [{ p with resv := some resv }] } }
    updateReservation resv (fun x => { x with info := some (p.info 0) }) s

/-- A hashed page asks for its reservation: granted at once, or waited for (R545, R552, Table 15.3). -/
def wantPage (id : Nat) (s : State) : State :=
  if s.canReserve && s.log.wants.isEmpty then
    let (r, s) := takeReservation none s
    checkNearFull (queuePage id r s)
  else logWaits { s with log := { s.log with wants := s.log.wants ++ [.page id] } }

/-- Those who wait for a reservation get one, in order, while the log has room (R545). -/
def grantWants (s : State) : State :=
  let s := s.each s.log.wants (fun w t =>
    if t.canReserve && t.log.wants.head? == some w then
      let (r, t) := takeReservation none t
      let t := { t with log := { t.log with wants := t.log.wants.tail } }
      match w with
      | .page id => queuePage id r t
      | .commit ring => grantCommit ring r t
    else t)
  { s with log := { s.log with full := s.log.full || !s.log.wants.isEmpty } }

/-! ### Outcomes -/

/-- The final outcome of a page on its sheet: its record, or, in SEALED-HALT, the tombstone's (R557, R558, R631). -/
def recordPage (sp : SheetPage) (o : Nat) (requeue : Bool) (s : State) : State :=
  if sp.noRec then removePage sp.page s
  else if s.log.halted then { s with prs := { s.prs with final := some { sp with outcome := some o } } }
  else logIssuance sp.info o sp.resv (.pageDone sp.page o requeue) s

/-- A page that a spoil had returned to the queue is final after all: it is not picked again (R630). -/
def unrequeue (id : Nat) (s : State) : State := onPage id (fun p => { p with picked := true }) s

/-- Every page on every sheet in the path is INTERRUPTED, its record written at once, and those sheets leave the path
(R613, R633). -/
def interruptPath (s : State) : State :=
  let gone := s.path
  let s := s.each (gone.flatMap (·.pages)) (fun sp t => recordPage sp 0x41 false (unrequeue sp.page t))
  { s with prs := { s.prs with sheets := s.prs.sheets.filter (·.gone) } }

/-- Slots behave as in HOLD in OFF and HALTED, so none is in band (R687, R688). -/
def bandLost (s : State) : State :=
  { s with tns := { s.tns with slot := s.tns.slot.map (fun e => (e.1, { e.2 with runIn := 0, inBand := false })) } }

/-- A halt: outputs safe but for the heartbeat, every page in the path INTERRUPTED, HALTED, PRS_HALT (R613). -/
def halt (cause : Nat) (s : State) : State :=
  if !s.engRuns then s
  else
    let s := { s with press := { PressPins.safe with hbeat := s.press.hbeat, driven := s.press.driven } }
    let s := bandLost (interruptPath (lockLost (beamsOff s)))
    let s := { s with prs := { s.prs with gateEnd := [] } }
    let s := ((s.put F.PRS_STATUS_STATE engHalted).put F.PRS_STATUS_HALT_CAUSE cause).bump F.PRS_HALTS_COUNT 1
    prsEvent Ev.PRS_HALT 0 0 s

/-- The sheets with a function applied to one. -/
def onSheet (id : Nat) (f : Sheet → Sheet) (s : State) : State :=
  { s with prs := { s.prs with sheets := s.prs.sheets.map (fun x => if x.id = id then f x else x) } }

/-- LATEST of a route (R628). -/
def State.latestOf (s : State) (route : Nat) : Nat :=
  (if route = 0 then s.get F.PRS_PURGE_LATEST_S else s.get F.PRS_PURGE_LATEST_D) * tenthMs

/-- A sheet is switched to purge; past its route's LATEST the engine halts (R628). -/
def purgeSheet (id : Nat) (s : State) : State :=
  match s.path.find? (fun x => x.id == id) with
  | none => s
  | some sh =>
    if 2 ≤ sh.route then s
    else if s.latestOf sh.route < s.ticks - sh.picked then halt 7 s
    else onSheet id (fun x => { x with route := x.route + 2, switch := some s.ticks }) s

/-- The page being imaged, with its sheet. -/
def State.imagedPage (s : State) : Option (Nat × SheetPage) :=
  s.prs.sheets.findSome? (fun sh => (sh.pages.find? (fun p => p.imaging == 1)).map (fun p => (sh.id, p)))

/-- The pages of a sheet take an outcome and stay blank from here on (R630). -/
def blankSheet (id o : Nat) (s : State) : State :=
  let s := if s.imagedPage.any (fun x => x.1 == id) then linesOff s else s
  onSheet id (fun sh => { sh with pages := sh.pages.map (fun p =>
    { p with outcome := some o, blank := true, imaging := if p.imaging = 1 then 2 else p.imaging, test := false }) }) s

/-- A sheet's pages are INTERRUPTED while the engine keeps running (R630). -/
def interruptSheet (id : Nat) (s : State) : State :=
  match s.prs.sheets.find? (fun x => x.id == id) with
  | none => s
  | some sh =>
    if sh.pages.any (fun p => p.outcome == some 0x41) then s
    else
      let s := s.each sh.pages (fun p t => unrequeue p.page t)
      purgeSheet id (blankSheet id 0x41 s)

/-- The pages of a spoiled sheet return to the head of the queue in their order (R632). -/
def requeuePages (ids : List Nat) (s : State) : State :=
  let own := s.prs.queue.filter (fun p => ids.contains p.id)
  let rest := s.prs.queue.filter (fun p => !ids.contains p.id)
  { s with prs := { s.prs with queue := own.map (fun p => { p with picked := false, resv := none, attempt := p.attempt + 1 }) ++ rest,
                               bandsDone := s.prs.bandsDone.filter (fun k => !ids.contains (k / 65536)),
                               bandNext := s.prs.bandNext.filter (fun e => !ids.contains e.1) },
           ras := { s.ras with bands := s.ras.bands.filter (fun b => !ids.contains b.1) } }

/-- A sheet is spoiled for a cause of Table 17.5: the laser blanks, the sheet goes to purge, its pages return to the head
of the queue; a page at ATTEMPT 255 makes it an interruption (R630, R632). -/
def spoilSheet (id : Nat) (at_ : IssueInfo) (s : State) : State :=
  match s.prs.sheets.find? (fun x => x.id == id) with
  | none => s
  | some sh =>
    if sh.pages.any (fun p => p.outcome.isSome) then s
    else if sh.pages.any (fun p => 255 ≤ p.info.attempt) then interruptSheet id s
    else
      let s := requeuePages (sh.pages.map (·.page)) (blankSheet id 0x40 s)
      purgeSheet id (prsEvent Ev.PRS_SPOILED at_.page at_.job s)

/-- The page being imaged is spoiled, when there is one. -/
def spoilImaged (s : State) : State :=
  match s.imagedPage with
  | some (id, p) => spoilSheet id p.info s
  | none => s

/-- The page being imaged is INTERRUPTED, when there is one (Table 17.5). -/
def interruptImaged (s : State) : State :=
  match s.imagedPage with
  | some (id, _) => interruptSheet id s
  | none => s

/-- The spoil test of every page of a sheet is final (R139, R604). -/
def Sheet.final (sh : Sheet) : Bool := sh.pages.all (fun p => !p.test)

/-- A sheet that has left the path is finished: its pages' records, front before back (R630, R631). -/
def finishSheet (id : Nat) (s : State) : State :=
  match s.prs.sheets.find? (fun x => x.id == id) with
  | none => s
  | some sh =>
    let s := { s with prs := { s.prs with sheets := s.prs.sheets.filter (fun x => x.id != id) } }
    s.each sh.pages (fun p t =>
      match p.outcome with
      | some 0x40 => recordPage p 0x40 true t
      | some o => recordPage p o false t
      | none => recordPage p 0x00 false t)

/-- A sheet leaves the path; its records wait for a spoil test that is not final (R139, R629). -/
def sheetLeaves (id : Nat) (s : State) : State :=
  let s := onSheet id (fun x => { x with gone := true, pages := x.pages.map (fun p => { p with imaging := if p.imaging = 1 ∧ !p.test then 2 else p.imaging }) }) s
  match s.prs.sheets.find? (fun x => x.id == id) with
  | some sh => if sh.final then finishSheet id s else s
  | none => s

/-- Sheets that have left the path and whose spoil tests have become final are finished, in pick order. -/
def finishTested (s : State) : State :=
  s.each (s.prs.sheets.filter (fun x => x.gone && x.final)) (fun sh t => finishSheet sh.id t)

/-- What follows once the record of a page is in the log: its counter and tally, and its new reservation or its end (R401,
R547, R614). -/
def pageDone (id status : Nat) (requeue : Bool) (s : State) : State :=
  let s := if status = 0 then s.bump F.PRS_PAGES_OK_COUNT 1
    else if status = 0x40 then s.bump F.PRS_SPOILED_COUNT 1 else s.bump F.PRS_INTERRUPTED_COUNT 1
  match s.pageOf id with
  | none => s
  | some p =>
    let s := onPage id (fun p => { p with tally := none }) (pageTally p status p.page s)
    if requeue && !p.picked then
      let (r, s) := takeReservation (some (p.info 0)) s
      checkNearFull (onPage id (fun p => { p with resv := some r }) s)
    else if requeue then s
    else removePage id s

/-! ### Picks -/

/-- The pages a pick would take now: the head page, with its back behind it (R620). -/
def State.pickPages (s : State) : Option (List Page) :=
  match s.prs.queue.filter (fun p => !p.picked) with
  | [] => none
  | p :: rest =>
    if p.resv.isNone then none
    else if p.side = 0 then some [p]
    else if p.side = 1 then
      match rest.head? with
      | some q => if q.side = 2 && q.part == p.part && q.job == p.job && q.resv.isSome then some [p, q] else none
      | none => none
    else some [p]

/-- The pitch since the last pick has elapsed (R620). -/
def State.pitchOver (s : State) : Bool :=
  match s.prs.lastPick with
  | none => true
  | some (t, n) => t + s.get F.PRS_PITCH_PITCH * tenthMs * n ≤ s.ticks

/-- Every pick condition holds (R608, R620). -/
def State.pickReady (s : State) : Bool :=
  s.eng == engReady && s.engConditions && s.pitchOver && s.path.length < 16

/-- The reservation of a picked page is marked, in pick order (R633). -/
def markImaged (id : Nat) (info : IssueInfo) (s : State) : State :=
  let own := (s.log.resv.filter (fun r => r.id == id)).map (fun r => { r with info := some info, imaged := true })
  { s with log := { s.log with resv := s.log.resv.filter (fun r => r.id != id) ++ own } }

/-- A sheet is picked for these pages (R621, R633). -/
def pickSheet (ps : List Page) (s : State) : State :=
  let id := s.get F.PRS_SHEET_NEXT
  let s := s.put F.PRS_SHEET_NEXT (if id = 0xFFFFFFFF then 1 else id + 1)
  let sps := ps.map (fun p =>
    ({ page := p.id, info := p.info id, resv := p.resv.getD 0, imaging := 0, blank := false, outcome := none, test := false,
       noRec := false } : SheetPage))
  let sh : Sheet := { id := id, pages := sps, route := if ps.length = 1 then 0 else 1, picked := s.ticks, switch := none,
                      arrived := [], left := [], gone := false }
  let s := s.each ps (fun p t => onPage p.id (fun p => { p with picked := true }) t)
  let s := s.each sps (fun p t => markImaged p.resv p.info t)
  { s with prs := { s.prs with sheets := s.prs.sheets ++ [sh], lastPick := some (s.ticks, ps.length), lastSheet := id } }

/-- The press lease moves: the former holder's unpicked pages are dropped, a move to no holder stops a hot engine, and
the press contexts change owner (R402, R579, R606). -/
def pressMoved (old new : Option Nat) (s : State) : State :=
  let s := match old with
    | some p => if new = old then s else dropPages (fun x => x.part == p) s
    | none => s
  let s := if new.isNone ∧ (s.eng = engWarming ∨ s.eng = engReady) then enterEng engStopping s else s
  if new = old then s else dropQueuedJobs 1 (dropQueuedJobs 0 s)

/-- The AON sequencer drives every press output to its safe level with PCTL's state kept (R140). -/
def aonSafe (s : State) : State :=
  let s := { s with press := { PressPins.safe with driven := s.press.driven }, prs := { s.prs with aonSafe := true } }
  lockLost (beamsOff s)

/-- SEALED-HALT at the press: sheets other than that of the page being imaged go to purge with their pages blanked and
unrecorded, and the engine stops (R557, R635). -/
def pressSealedHalt (s : State) : State :=
  let img := s.imagedPage
  let s := s.each s.prs.sheets (fun sh t =>
    let own := img.any (fun x => x.1 == sh.id)
    let keep := fun (p : SheetPage) => own && p.imaging == 1
    let t := t.each (sh.pages.filter (fun p => !keep p)) (fun p u =>
      match u.pageOf p.page with
      | some q => onPage q.id (fun q => { q with tally := none }) (pageTally q 0x10 0x01 u)
      | none => u)
    let t := onSheet sh.id (fun x => { x with pages := x.pages.map (fun p =>
      if keep p then p else { p with noRec := true, blank := p.imaging != 2 || p.blank }) }) t
    if own && sh.pages.all (fun p => p.imaging != 0) then t else purgeSheet sh.id t)
  let s := dropPages (fun _ => true) s
  if s.eng = engWarming ∨ s.eng = engReady then enterEng engStopping s else s

end Sys2Proof.Machine
end

