-- ==== Sys2Proof/Machine/TansyOps.lean ====
section
/-! DEFINITION. Tansy's own operations: the arithmetic of a slot, its codes, its sources and instants, the converters'
queues, and captures (R672 to R702). -/

namespace Sys2Proof.Machine

/-- An integer limited to a signed width (R681). -/
def satS (w : Nat) (i : Int) : Int := clampInt (-(2 ^ (w - 1) : Int)) ((2 ^ (w - 1) : Int) - 1) i

/-- A product of a coefficient and a signal, rounded (R681). -/
def prodQ (c v : Int) : Int := Int.fdiv (c * v + 2 ^ 27) (2 ^ 28)

/-- A loop slot. -/
def State.slot (s : State) (n : Nat) : Slot := Tab.get Slot.init s.tns.slot n

/-- The state with a slot replaced. -/
def State.setSlot (s : State) (n : Nat) (x : Slot) : State := { s with tns := { s.tns with slot := Tab.set s.tns.slot n x } }

/-- Converter of a channel (Table 19.1). -/
def convOf (ch : Nat) : Nat := ch / 16

/-- The slot's converter has failed its checks (R677). -/
def State.slotAdcFault (s : State) (n : Nat) : Bool :=
  (s.slot n).rec_.srcKind == 0 && (s.slot n).loaded && bit (s.get F.TNS_STATUS_ADC_FAULT) (convOf (s.slot n).rec_.srcIndex)

/-- The slot computes outputs: RUN, in a press state that lets it, with a converter that passes its checks (R677,
R687). -/
def State.slotRuns (s : State) (n : Nat) : Bool := (s.slot n).st == 1 && s.engRuns && !s.slotAdcFault n

/-- The applied output of a slot: zero when STOPPED or while its converter has failed (R677, R683). -/
def State.slotQ (s : State) (n : Nat) : Int := if (s.slot n).st = 0 ∨ s.slotAdcFault n then 0 else (s.slot n).q

/-- SCODE and CODE of a slot (R683). -/
def State.scode (s : State) (n : Nat) : Int := clampInt (-4095) 4095 (Int.fdiv (s.slotQ n) 65536)
def State.code (s : State) (n : Nat) : Nat := (s.scode n).toNat

/-- TNS_SLOT_n_STATUS (Table 19.7). -/
def State.slotStatus (s : State) (n : Nat) : Nat :=
  let x := s.slot n
  x.st * 2 ^ 30 + b2n x.inBand * 2 ^ 29 + b2n x.sat * 2 ^ 28 + b2n x.frozen * 2 ^ 27 + x.rec_.flags % 2 * 2 ^ 26 +
    b2n x.loaded * 2 ^ 25 + ofSigned 13 (s.scode n)

/-- The first sample instant strictly after a Sorrel time (R679). -/
def SlotRec.instantAfter (r : SlotRec) (now : Nat) : Nat :=
  let p := r.period * 1000
  if p = 0 then now + 1 else now + p - (now + p - r.phase) % p

/-- The tach measurement of an input (Table 19.2). -/
def State.tachPeriod (s : State) (i : Nat) : Nat :=
  match s.tns.tach.find? (fun e => e.1 == i) with
  | some (_, x) =>
    match x.period with
    | some p => min 0xFFFFFFFF (max p (s.ticks - x.last))
    | none => 0xFFFFFFFF
  | none => 0xFFFFFFFF

/-- The raw input of a slot at its strobe (R678). -/
def State.slotRaw (s : State) (n : Nat) : Int :=
  let r := (s.slot n).rec_
  if r.srcKind = 0 then (s.slot n).raw
  else if r.srcKind = 1 then s.tachPeriod r.srcIndex
  else if r.srcKind = 2 then
    (if s.on F.DRY_STATUS_LOCK then s.get F.DRY_STATUS_LAST_PERIOD else 0xFFFFFFFF : Nat)
  else s.slotQ r.srcIndex

/-- One stage of the cascade: its output and candidate states (R682). -/
def Biquad.step (b : Biquad) (y s1 s2 : Int) : Int × Int × Int :=
  let w := satS 32 (prodQ b.b0 y + s1)
  (w, satS 48 (prodQ b.b1 y - prodQ b.a1 w + s2), satS 48 (prodQ b.b2 y - prodQ b.a2 w))

/-- The cascade: the last output and the candidate states, stage by stage. -/
def cascade : List Biquad → List Int → List Int → Int → Int × List Int × List Int
  | [], _, _, y => (y, [], [])
  | b :: bs, s1, s2, y =>
    let (w, t1, t2) := b.step y (s1.headD 0) (s2.headD 0)
    let (z, l1, l2) := cascade bs s1.tail s2.tail w
    (z, t1 :: l1, t2 :: l2)

/-- The results of one strobe of a slot (R682). -/
structure Sample where
  x : Int
  e : Int
  u : Int
  q : Int
  frozen : Bool
  s1 : List Int
  s2 : List Int
  deriving DecidableEq, Repr

/-- The arithmetic of R682, from the raw input and an injected value at a node (0 input, 1 error, 2 output). -/
def Slot.sample (k : Slot) (raw : Int) (inj : Option (Nat × Int)) : Sample :=
  let r := k.rec_
  let v := fun node => match inj with | some (m, v) => if m = node then v else 0 | none => 0
  let x := satS 32 (satS 32 ((raw - r.inOfs) * 2 ^ r.inShl) + v 0)
  let e := satS 32 (satS 32 (r.setpoint - x) + v 1)
  let (y, t1, t2) := cascade r.stages k.s1 k.s2 e
  let u := satS 32 (satS 32 (y + r.outOfs) + v 2)
  let q := clampInt r.outMin r.outMax u
  let ds : Int := if bit r.flags 1 then -1 else 1
  let frozen := (r.outMax < u && 0 < e * ds) || (u < r.outMin && e * ds < 0)
  { x := x, e := e, u := u, q := q, frozen := frozen, s1 := if frozen then k.s1 else t1, s2 := if frozen then k.s2 else t2 }

/-! ### Injected waveforms -/

/-- π in units of 2^-96. -/
def piQ : Nat := 248902613312231085230521944622

/-- The alternating series of the sine, in units of 2^-96: `t` is the current term's size. -/
def sinSeries : Nat → Nat → Int → Nat → Nat → Int
  | 0, _, acc, _, _ => acc
  | fuel + 1, k, acc, t, x2 =>
    let t' : Nat := t * x2 / 2 ^ 96 / ((2 * k) * (2 * k + 1))
    sinSeries fuel (k + 1) (if k % 2 = 1 then acc - Int.ofNat t' else acc + Int.ofNat t') t' x2

/-- The S3.28 value nearest sin(2π × k / 4,096) for k in the first quadrant. -/
def sinQuarter (k : Nat) : Int :=
  let x := piQ * k / 2048
  Int.fdiv (sinSeries 24 1 x x (x * x / 2 ^ 96) + 2 ^ 67) (2 ^ 68)

/-- SIN(φ) of a phase's twelve upper bits (R695). -/
def sinTable (k : Nat) : Int :=
  let j := k % 4096
  if j ≤ 1024 then sinQuarter j
  else if j ≤ 2048 then sinQuarter (2048 - j)
  else if j ≤ 3072 then -sinQuarter (j - 2048)
  else -sinQuarter (4096 - j)

/-- Fields of a TCAP descriptor (Table 19.4). -/
def capCount (f : List W64) : Nat := bits (fld f 2) 13 0
def capKind (f : List W64) : Nat := bits (fld f 3) 7 6
def capNode (f : List W64) : Nat := bits (fld f 3) 5 4
def capSlot (f : List W64) : Nat := bits (fld f 3) 3 0
/-- Byte c of f1. -/
def capChan (f : List W64) (c : Nat) : Nat := fld f 1 / 2 ^ (8 * c) % 256
/-- The channel is enabled. -/
def capOn (f : List W64) (c : Nat) : Bool := 128 ≤ capChan f c

/-- The slots a capture names. -/
def capSlots (f : List W64) : List Nat :=
  ((List.range 4).filter (capOn f)).map (fun c => capChan f c % 16) ++ (if capKind f = 0 then [] else [capSlot f])

/-- The injected value of the next strobe, and the capture after it (R695). -/
def Capture.inject (c : Capture) : Int × Capture :=
  let amp := toSigned 32 (bits (fld c.f 4) 31 0)
  let k := capKind c.f
  let next := { c with inj := c.inj + 1 }
  if k = 1 then (amp, next)
  else if k = 2 then
    (prodQ amp (sinTable (c.phase / 2 ^ 20)), { next with phase := (c.phase + bits (fld c.f 4) 63 32) % 2 ^ 32 })
  else
    let b := (c.lfsr / 2 ^ 14 + c.lfsr / 2 ^ 13) % 2
    (if b = 1 then amp else -amp, { next with lfsr := (c.lfsr * 2 + b) % 2 ^ 15 })

/-- The injection of a strobe of slot n. -/
def capInject (n : Nat) (s : State) : Option (Nat × Int) × State :=
  match s.tns.cap with
  | none => (none, s)
  | some c =>
    if capKind c.f = 0 || capSlot c.f != n || capCount c.f ≤ c.inj then (none, s)
    else
      let (v, c') := c.inject
      (some (capNode c.f, v), { s with tns := { s.tns with cap := some c' } })

/-- Samples taken are written to the buffer; those whose line is held stay. -/
def capFlush (s : State) : State :=
  match s.tns.cap with
  | none => s
  | some c =>
    let cid := c.part * 4096 + bits (fld c.f 0) 63 52
    let (left, bad, s) := c.buf.foldl (fun (x : List (Nat × Nat) × Option (Nat × Nat) × State) w =>
      let (r, t) := writeVA (.ring c.ring) cid w.1 (leBytes 4 w.2) x.2.2
      if r.held then (x.1 ++ [w], x.2.1, x.2.2) else (x.1, x.2.1.or r.bad, t)) ([], c.bad, s)
    { s with tns := { s.tns with cap := some { c with buf := left, bad := bad } } }

/-- A capture may start: no slot it names is STOPPED (R694). -/
def State.capSlotsOk (s : State) (f : List W64) : Bool := (capSlots f).all (fun n => (s.slot n).st != 0)

/-- The next waiting capture starts; one whose slot has stopped meanwhile ends at once (R696, R697). -/
def capNext (s : State) : State :=
  s.each s.tns.capWait (fun c t =>
    if t.tns.cap.isSome then t
    else
      let t := { t with tns := { t.tns with capWait := t.tns.capWait.filter (fun x => x != c) } }
      if t.capSlotsOk c.f then { t with tns := { t.tns with cap := some c } } else tallyDone c.ring c.t 0x10 0x02 t)

/-- The capture ends with a status, its samples written; the next one starts. -/
def capEnd (status detail : Nat) (s : State) : State :=
  let s := capFlush s
  match s.tns.cap with
  | none => s
  | some c => capNext (tallyDone c.ring c.t status detail { s with tns := { s.tns with cap := none } })

/-- A capture has every sample it asked for, its injection has ended and its writes are done (R696). -/
def Capture.complete (c : Capture) : Bool :=
  (List.range 4).all (fun k => !capOn c.f k || Tab.get 0 c.done k == capCount c.f) &&
    (capKind c.f == 0 || c.inj == capCount c.f) && c.buf.isEmpty

/-- A complete capture ends. -/
def capFinish (s : State) : State :=
  match s.tns.cap with
  | some c => if c.complete then (match c.bad with | some (a, b) => capEnd a b s | none => capEnd 0 0 s) else s
  | none => s

/-- Channels take their samples at a strobe of slot n (R696). -/
def capSample (n : Nat) (x e q u : Int) (s : State) : State :=
  match s.tns.cap with
  | none => s
  | some c =>
    let c := (List.range 4).foldl (fun (c : Capture) k =>
      let i := Tab.get 0 c.done k
      if !capOn c.f k || capChan c.f k % 16 != n || capCount c.f ≤ i then c
      else
        let node := bits (capChan c.f k) 5 4
        let v := if node = 0 then x else if node = 1 then e else if node = 2 then q else u
        { c with done := Tab.set c.done k (i + 1), buf := c.buf ++ [(bits (fld c.f 0) 51 0 + 16 * i + 4 * k, ofSigned 32 v)] }) c
    capFinish (capFlush { s with tns := { s.tns with cap := some c } })

/-- A slot has left RUN and HOLD: a capture that names it ends (R697). -/
def slotLeft (n : Nat) (s : State) : State :=
  match s.tns.cap with
  | some c => if (capSlots c.f).contains n then capEnd 0x10 0x02 s else s
  | none => s

/-- The press lease moves: every capture ends (R697). -/
def capLeaseMoved (s : State) : State :=
  let s := s.each s.tns.capWait (fun c t => tallyDone c.ring c.t 0x10 0x02 t)
  capEnd 0x10 0x02 { s with tns := { s.tns with capWait := [] } }

/-! ### Converters -/

/-- A converter. -/
def State.conv (s : State) (m : Nat) : Conv := Tab.get Conv.init s.tns.conv m

/-- The state with a converter replaced. -/
def State.setConv (s : State) (m : Nat) (x : Conv) : State := { s with tns := { s.tns with conv := Tab.set s.tns.conv m x } }

/-- The background mask of a converter. -/
def State.bgMask (s : State) (m : Nat) : Nat := if m = 0 then s.get F.TNS_ADC_BG_0_MASK else s.get F.TNS_ADC_BG_1_MASK

/-- The next background channel of a converter, round-robin in ascending order (R675). -/
def State.bgNext (s : State) (m : Nat) : Option Nat :=
  let b := (s.conv m).bg
  ((List.range 16).map (fun i => (b + i) % 16)).find? (fun k => bit (s.bgMask m) k)

/-- A converter with no conversion takes its next request: APC in beam order, then slots in order, then background
(R675). -/
def convStart (m : Nat) (s : State) : State :=
  let c := s.conv m
  if c.cur.isSome then s
  else
    match c.apc with
    | a :: rest => s.setConv m { c with apc := rest, cur := some (a, none), isApc := true }
    | [] =>
      match c.slots with
      | n :: rest => s.setConv m { c with slots := rest, cur := some ((s.slot n).rec_.srcIndex, some n), isApc := false }
      | [] =>
        match s.bgNext m with
        | some k => s.setConv m { c with cur := some (16 * m + k, none), isApc := false, bg := (k + 1) % 16 }
        | none => s

/-- Another request is pending or in conversion on a converter. -/
def Conv.busy (c : Conv) : Bool := !c.apc.isEmpty || !c.slots.isEmpty || c.isApc || (c.cur.any (fun x => x.2.isSome))

/-- A slot requests its conversion (R675, R679). -/
def requestConv (n : Nat) (s : State) : State :=
  let k := s.slot n
  if k.waiting then s
  else
    let m := convOf k.rec_.srcIndex
    let c := s.conv m
    let s := if c.busy then s.bump (F.TNS_SLOT_COUNTS_WAITS n) 1 else s
    convStart m ((s.setConv m { c with slots := c.slots ++ [n] }).setSlot n { k with waiting := true })

/-- An APC capture of beam b requests its conversion (R661, R675). -/
def requestApc (b : Nat) (s : State) : State :=
  convStart 0 (s.setConv 0 { s.conv 0 with apc := NSet.ins (s.conv 0).apc b })

/-- A slot takes its sample: a conversion is requested, or its strobe is due (R679). -/
def takeSample (n : Nat) (s : State) : State :=
  if (s.slot n).rec_.srcKind = 0 then requestConv n s else s.setSlot n { s.slot n with strobe := true }

/-- A Sorrel step at every slot that samples: STEPS counts, a slot whose next instant was passed samples at once, and
the next instant is the first one strictly after the new time (R680). -/
def stepSlots (s : State) : State :=
  s.each (List.range 16) (fun n t =>
    let k := t.slot n
    if k.st = 0 then t
    else
      let t := t.bump (F.TNS_SLOT_COUNTS_STEPS n) 1
      let passed := k.nextAt.any (fun a => a ≤ t.now)
      let t := t.setSlot n { k with nextAt := some (k.rec_.instantAfter t.now) }
      if passed then takeSample n t else t)

/-- A slot becomes STOPPED with zero states (R692); its conversion request is dropped. -/
def stopSlot (n : Nat) (s : State) : State :=
  let k := s.slot n
  let m := convOf k.rec_.srcIndex
  let c := s.conv m
  let s := if k.waiting then
      s.setConv m { c with slots := c.slots.filter (· != n),
                           cur := c.cur.map (fun x => if x.2 = some n then (x.1, none) else x) } else s
  slotLeft n (s.setSlot n { Slot.init with loaded := k.loaded, rec_ := k.rec_ })

end Sys2Proof.Machine
end

