-- ==== Sys2Proof/Machine/Tansy.lean ====
section
/-! DEFINITION. Tansy's commands: the orders of a ring, the converters, tachs, sample instants and strobes, and the pins
that slots drive; the high-voltage and fuser duties of the press that read them (R636 to R639, R672 to R702). -/

namespace Sys2Proof.Machine

/-- A press or Tansy order: without the lease it is a violation with no effect (R384, R529). `refused` says how it ends. -/
def pressOrder (r : Nat) (p : Prog) (s : State) (refused run : State → State) : State :=
  if smRing r then refused s
  else if s.leases.press = some (r / 8) then run s
  else refused (orderViolation r .permission 1 0 (ringCid r p.ctx) s)

/-- An unsigned or signed little-endian field of a record. -/
def recU (b : List Byte) (o n : Nat) : Nat := ofLeBytes (slice 0 b o n)
def recS (b : List Byte) (o : Nat) : Int := toSigned 32 (recU b o 4)

/-- A slot record from its 320 bytes (Table 19.3). -/
def slotRecOf (b : List Byte) : SlotRec :=
  { nstage := recU b 0 1, flags := recU b 1 1, srcKind := recU b 2 1, srcIndex := recU b 3 1, period := recU b 4 2,
    inShl := recU b 6 2, phase := recU b 8 4, inOfs := recS b 12, setpoint := recS b 16, outMin := recS b 20,
    outMax := recS b 24, outOfs := recS b 28, band := recS b 32, bandN := recU b 36 2, dest := recU b 38 1,
    stages := (List.range (min 8 (recU b 0 1))).map (fun i =>
      ⟨recS b (64 + 32 * i), recS b (68 + 32 * i), recS b (72 + 32 * i), recS b (76 + 32 * i), recS b (80 + 32 * i)⟩) }

/-- A source is one of Table 19.2. -/
def sourceOk (n kind idx : Nat) : Bool :=
  if kind = 0 then idx ≤ 26 else if kind = 1 then idx ≤ 8 else if kind = 2 then idx == 0
  else kind == 3 && idx < 16 && idx != n

/-- A record is MALFORMED for slot n (R689). -/
def slotRecBad (n : Nat) (b : List Byte) (r : SlotRec) (s : State) : Bool :=
  !(1 ≤ r.nstage && r.nstage ≤ 8) || !sourceOk n r.srcKind r.srcIndex || r.period == 0 || r.period * 1000 ≤ r.phase ||
    31 < r.inShl || decide (r.outMax < r.outMin) || decide (r.band < 0) || 9 < r.dest ||
    (r.dest != 0 && (List.range 16).any (fun m => m != n && (s.slot m).loaded && (s.slot m).rec_.dest == r.dest)) ||
    4 ≤ r.flags || !allZero (slice 0 b 39 25) ||
    (List.range 8).any (fun i => !allZero (slice 0 b (84 + 32 * i) 12) || (r.nstage ≤ i && !allZero (slice 0 b (64 + 32 * i) 20)))

/-- A record would change what a running slot keeps (R690). -/
def slotRecFixed (a b : SlotRec) : Bool :=
  a.nstage == b.nstage && a.srcKind == b.srcKind && a.srcIndex == b.srcIndex && a.period == b.period && a.phase == b.phase &&
    a.flags == b.flags && a.dest == b.dest

/-- TLOAD's own steps (R689, R690). -/
def tload (r t : Nat) (f : List W64) (n : Nat) (p : Prog) (s0 s : State) : State :=
  if 16 ≤ n || bits (fld f 0) 51 0 % 64 != 0 || !onlyBits f [mask 63 0] then endAt r 0x50 0 p s
  else
    pressOrder r p s (fun s => issueDone r t 0 0 p s) (fun s =>
      let (a, s) := ringRead r (bits (fld f 0) 63 52) (bits (fld f 0) 51 0) 320 s
      if a.held then s0
      else
        match a.bad with
        | some (st, d) => issueDone r t st d p s
        | none =>
          let x := slotRecOf a.data
          let k := s.slot n
          if slotRecBad n a.data x s || (k.st != 0 && !slotRecFixed k.rec_ x) then issueDone r t 0x50 0 p s
          else issueDone r t 0 0 p (s.setSlot n { k with rec_ := x, loaded := true }))

/-- TLOAD: loads a slot record (R689). -/
def execTload (r : Fin 132) (g : Guard) (da t : Fin 16) (a : Fin 32) (lost : Bool) (s : State) : Out :=
  kcs r g (encU 0x88 g da.val 0 t.val a.val 0 0 0) [] (fun p s' =>
    kindA r.val t.val p s' (fun q s' => orderOf r.val 2 lost q s' (fun q s' =>
      tload r.val t.val (q.dreg da.val) (q.sreg a.val).toNat q s s'))) s

/-- TSET: sets SETPOINT of a slot (R691). -/
def execTset (r : Fin 132) (g : Guard) (a b : Fin 32) (lost : Bool) (s : State) : Out :=
  kcs r g (encU 0x89 g 0 0 0 a.val b.val 0 0) [] (fun p s =>
    orderOf r.val 2 lost p s (fun p s =>
      let n := (p.sreg a.val).toNat
      if 16 ≤ n then endAt r.val 0x50 0 p s
      else
        pressOrder r.val p s (fun s => s.setProg r.val (p.next 1)) (fun s =>
          let k := s.slot n
          let v := toSigned 32 ((p.sreg b.val).toNat % 2 ^ 32)
          (s.setSlot n { k with rec_ := { k.rec_ with setpoint := v } }).setProg r.val (p.next 1)))) s

/-- The slot energises an output, so that a run or an injection waits for the interlock (R693). -/
def State.slotEnergises (s : State) (n : Nat) : Bool :=
  ((s.slot n).loaded && (s.slot n).rec_.dest != 0) || (List.range 4).any (fun k => s.get (F.PRS_HV_SLOT k) == n) ||
    s.get F.PRS_FUS_SLOT_0 == n || s.get F.PRS_FUS_SLOT_1 == n ||
    (List.range 8).any (fun b => s.on (F.DRY_APC_TSLOT_EN b) && s.get (F.DRY_APC_TSLOT b) == n)

/-- TCTL's effect on a slot (R692). -/
def tctl (n code : Nat) (s : State) : State :=
  let k := s.slot n
  if code = 0 then stopSlot n s
  else if code = 1 then
    (if k.st = 0 then
      s.setSlot n { Slot.init with loaded := k.loaded, rec_ := k.rec_, st := 1, nextAt := some (k.rec_.instantAfter s.now) }
     else s.setSlot n { k with st := 1 })
  else if k.st = 1 then s.setSlot n { k with st := 2, runIn := 0, inBand := false }
  else s

/-- TCTL: stops, runs or holds a slot (R403, R692, R693). -/
def execTctl (r : Fin 132) (g : Guard) (a b : Fin 32) (lost : Bool) (s : State) : Out :=
  kcs r g (encU 0x8A g 0 0 0 a.val b.val 0 0) [] (fun p s =>
    orderOf r.val 2 lost p s (fun p s =>
      let n := (p.sreg a.val).toNat
      let code := (p.sreg b.val).toNat
      if 16 ≤ n || 2 < code then endAt r.val 0x50 0 p s
      else
        pressOrder r.val p s (fun s => s.setProg r.val (p.next 1)) (fun s =>
          if code == 1 && !(s.slot n).loaded then endAt r.val 0x50 0 p s
          else if code == 1 && !s.pressIn.ilk && s.slotEnergises n then endAt r.val 0x10 2 p s
          else (tctl n code s).setProg r.val (p.next 1)))) s

/-- A TCAP descriptor is MALFORMED (R694). -/
def tcapBad (f : List W64) (s : State) : Bool :=
  let chans := (List.range 4).filter (capOn f)
  !(1 ≤ capCount f && capCount f ≤ 8192) || (chans.isEmpty && capKind f == 0) || capNode f == 3 ||
    (capKind f == 3 && bits (fld f 5) 14 0 == 0) || !s.capSlotsOk f || bits (fld f 0) 51 0 % 64 != 0 ||
    !onlyBits f [mask 63 0, mask 31 0, mask 13 0, mask 7 0, mask 63 0, mask 14 0] ||
    (List.range 4).any (fun c => bit (capChan f c) 6)

/-- TCAP: starts a capture or injection (R693 to R697). -/
def execTcap (r : Fin 132) (g : Guard) (da t : Fin 16) (lost : Bool) (s : State) : Out :=
  kcs r g (encU 0x8B g da.val 0 t.val 0 0 0 0) [] (fun p s =>
    kindA r.val t.val p s (fun q s => orderOf r.val 2 lost q s (fun q s =>
      pressOrder r.val q s (fun s => issueDone r.val t.val 0 0 q s) (fun s =>
        let f := q.dreg da.val
        if tcapBad f s then issueDone r.val t.val 0x50 0 q s
        else if capKind f != 0 && !s.pressIn.ilk && s.slotEnergises (capSlot f) then endAt r.val 0x10 2 q s
        else
          let c : Capture := { ring := r.val, t := t.val, part := r.val / 8, f := f, done := [], inj := 0, phase := 0,
                               lfsr := bits (fld f 5) 14 0, buf := [], bad := none }
          let s := s.setProg r.val (q.issue t.val)
          if s.tns.cap.isSome then { s with tns := { s.tns with capWait := s.tns.capWait ++ [c] } }
          else { s with tns := { s.tns with cap := some c } })))) s

/-! ### Converters and tachs -/

/-- A reading of high-voltage feedback k against its limit (R637). -/
def hvReading (ch code : Nat) (s : State) : State :=
  let k := if 8 ≤ ch ∧ ch < 12 then some (ch - 8) else if 20 ≤ ch ∧ ch < 24 then some (ch - 20) else none
  match k with
  | none => s
  | some k =>
      let run : Tab Nat := s.tns.hvRun
    let run := if s.get (F.PRS_HV_LIMIT k) < code then (if run.any (fun e => e.1 == k) then run else Tab.set run k s.ticks)
      else run.del k
    { s with tns := { s.tns with hvRun := run } }

/-- ADC_CONVERSION_DONE: the conversion in progress ends with a code; its channel's register is updated, a slot's strobe
becomes due or an APC sample is held, and the next request starts (R674 to R676). -/
def execAdcConversionDone (m : Fin 2) (v : BitVec 12) (s : State) : Out :=
  if !s.hasPress then .next s
  else
    let s := convStart m.val s
    let c := s.conv m.val
    match c.cur with
    | none => .next s
    | some (ch, who) =>
      let s := if ch < 27 then
          ((s.incr (F.TNS_ADC_SEQ ch) 1).put (F.TNS_ADC_VALID ch) 1).put (F.TNS_ADC_CODE ch) v.toNat else s
      let s := hvReading ch v.toNat s
      let s : State := match who with
        | some n =>
          let k := s.slot n
          s.setSlot n { k with raw := v.toNat, waiting := false, strobe := true }
        | none =>
          if c.isApc then
            match s.dry.sample.find? (fun e => e.1 == ch) with
            | some (_, x) => { s with dry := { s.dry with sample := Tab.set s.dry.sample ch { x with code := some v.toNat } } }
            | none => s
          else s
      .next (convStart m.val (s.setConv m.val { s.conv m.val with cur := none, isApc := false }))

/-- A Tansy event (Table 20.4). -/
def tnsEvent (src n : Nat) (s : State) : State := raiseHolder s.leases.press src n 0 0 s

/-- Slots whose converter has failed are not in band (R677). -/
def adcFaultBand (s : State) : State :=
  s.each (List.range 16) (fun n t =>
    if t.slotAdcFault n then t.setSlot n { t.slot n with runIn := 0, inBand := false } else t)

/-- ADC_CHECK: a converter's check of VREF/2 and VSS; four failures in a row set ADC_FAULT, and after software has written
1 to it four passes clear it (R677). -/
def execAdcCheck (m : Fin 2) (half vss : BitVec 12) (s : State) : Out :=
  if !s.hasPress then .next s
  else
    let ok := 2032 ≤ half.toNat && half.toNat ≤ 2064 && vss.toNat ≤ 16
    let c := s.conv m.val
    if ok then
      let n := c.passes + 1
      if c.clearing && n == 4 then
        let s := s.setConv m.val { c with fails := 0, passes := 0, clearing := false }
        let f := s.get F.TNS_STATUS_ADC_FAULT
        .next (s.put F.TNS_STATUS_ADC_FAULT (if bit f m.val then f - 2 ^ m.val else f))
      else .next (s.setConv m.val { c with fails := 0, passes := if c.clearing then n else 0 })
    else
      let s := s.setConv m.val { c with fails := min 4 (c.fails + 1), passes := 0, clearing := false }
      if c.fails = 3 ∧ !bit (s.get F.TNS_STATUS_ADC_FAULT) m.val then
        .next (tnsEvent Ev.TNS_ADC_FAULT m.val (adcFaultBand (s.orBits F.TNS_STATUS_ADC_FAULT (2 ^ m.val))))
      else .next s

/-- TACH_EDGE: a filtered rising edge of a tach input updates its period (R678). -/
def execTachEdge (i : Fin 9) (s : State) : Out :=
  if !s.hasPress then .next s
  else
    let old := s.tns.tach.find? (fun e => e.1 == i.val)
    let x : Tach := { last := s.ticks, period := old.map (fun (e : Nat × Tach) => s.ticks - e.2.last) }
    .next { s with tns := { s.tns with tach := Tab.set s.tns.tach i.val x } }

/-! ### Samples -/

/-- SAMPLE_INSTANT: Sorrel time has reached a slot's sample instant (R679). -/
def execSampleInstant (n : Fin 16) (s : State) : Out :=
  let k := s.slot n.val
  match k.nextAt with
  | none => .next s
  | some a =>
    if k.st = 0 ∨ s.now < a then .next s
    else .next (takeSample n.val (s.setSlot n.val { k with nextAt := some (k.rec_.instantAfter s.now) }))

/-- SLOT_STROBE: a slot computes R682, and its output waits for its application; one that only holds keeps its output and
states (R682, R684, R687, R688, R692, R695, R696). -/
def execSlotStrobe (n : Fin 16) (s : State) : Out :=
  let k := s.slot n.val
  if k.st = 0 || !k.strobe then .next s
  else
    let (inj, s) := capInject n.val s
    let y := k.sample (s.slotRaw n.val) inj
    let k := { k with x := y.x, e := y.e, strobe := false }
    let k := if s.slotRuns n.val then
        let run := if y.e ≤ k.rec_.band ∧ -k.rec_.band ≤ y.e then min (max 1 k.rec_.bandN) (k.runIn + 1) else 0
        let due := if bit k.rec_.flags 0 then s.ticks + 64 else k.nextAt.getD s.now
        { k with u := y.u, s1 := y.s1, s2 := y.s2, frozen := y.frozen, sat := y.q != y.u, runIn := run,
                 inBand := run == max 1 k.rec_.bandN, pend := some (y.q, due) }
      else { k with runIn := 0, inBand := false }
    let q := match k.pend with | some (q, _) => q | none => k.q
    .next (capSample n.val k.x k.e q k.u (s.setSlot n.val k))

/-- OUTPUT_APPLY: a slot's new output is applied at its time; `late` says that its computation ended after that time
(R684). -/
def execOutputApply (n : Fin 16) (late : Bool) (s : State) : Out :=
  let k := s.slot n.val
  match k.pend with
  | none => .next s
  | some (q, due) =>
    if (if bit k.rec_.flags 0 then s.ticks else s.now) < due then .next s
    else
      let s := s.setSlot n.val { k with q := q, pend := none }
      .next (if late then s.bump (F.TNS_SLOT_COUNTS_LATE n.val) 1 else s)

/-- SLOT_STORAGE_UE: the slot stops, LOADED clears and TNS_SLOT_FAULT is raised (R700). -/
def execSlotStorageUe (n : Fin 16) (s : State) : Out :=
  if !s.hasPress then .next s
  else
    let s := stopSlot n.val s
    .next (tnsEvent Ev.TNS_SLOT_FAULT n.val (s.setSlot n.val { s.slot n.val with loaded := false }))

/-- PWM_PERIOD: pin 0 is PRS_POLY_PWM and pin 1 + k motor pair k; the period takes the applied output of the slot that
drives it, and a change of sign takes one period with both legs low (R685 to R687). -/
def execPwmPeriod (k : Fin 9) (s : State) : Out :=
  if !s.hasPress then .next s
  else
    let n := (List.range 16).find? (fun m => (s.slot m).loaded && (s.slot m).rec_.dest == k.val + 1)
    let raw : Int := match n with | some m => (if k.val = 0 then (s.code m : Int) else s.scode m) | none => 0
    let code := if s.engRuns && !s.prs.aonSafe then raw else 0
    let last := Tab.get 0 s.tns.pinSign k.val
    let flip := (0 < code ∧ last < 0) ∨ (code < 0 ∧ 0 < last)
    let per := if k.val = 0 then s.get F.TNS_PWM_POLY_PER else s.get F.TNS_PWM_MOT_PER
    let cyc : Int := if flip then 0 else if code < 0 then -((code.natAbs * per / 4096 : Nat) : Int) else ((code.natAbs * per / 4096 : Nat) : Int)
    let sign : Int := if flip then 0 else code
    .next { s with press := { s.press with pwm := if cyc = 0 then s.press.pwm.del k.val else Tab.set s.press.pwm k.val cyc },
                   tns := { s.tns with pinSign := if sign = 0 then s.tns.pinSign.del k.val else Tab.set s.tns.pinSign k.val sign } }

/-! ### High voltage and fuser -/

/-- HVREF_PWM_PERIOD: a reference takes the lower of its slot's CODE and MAX (R636). -/
def execHvrefPwmPeriod (k : Fin 4) (s : State) : Out :=
  let duty := if s.engHot && s.pressIn.ilk && !s.prs.aonSafe then
      min (s.code (s.get (F.PRS_HV_SLOT k.val))) (s.get (F.PRS_HV_MAX k.val)) * 4000 / 4096 else 0
  .next { s with press := { s.press with hvDuty := if duty = 0 then s.press.hvDuty.del k.val
                                                   else Tab.set s.press.hvDuty k.val duty } }

/-- HV_LIMIT: every reading of PRS_HVFB_k has exceeded LIMIT for 1 ms, and the engine halts (R637). -/
def execHvLimit (k : Fin 4) (s : State) : Out :=
  match s.tns.hvRun.find? (fun e => e.1 == k.val) with
  | some (_, t) => .next (if t + ticksPerMs ≤ s.ticks then halt 6 s else s)
  | none => .next s

/-- One accumulator at a zero-cross edge (R638). -/
def zcdGate (k slot : Nat) (s : State) : State :=
  let a := Tab.get 0 s.prs.acc k + s.code slot
  let acc := fun (v : Nat) => if v = 0 then s.prs.acc.del k else Tab.set s.prs.acc k v
  if a < 4096 then { s with prs := { s.prs with acc := acc a } }
  else
    let s := { s with prs := { s.prs with acc := acc (a - 4096) } }
    if !s.gating then s
    else
      let ends := s.ticks + (s.get F.PRS_FUS_ZC_DELAY + s.get F.PRS_FUS_GATE_US) * microsec
      { s with prs := { s.prs with gateEnd := Tab.set s.prs.gateEnd k ends },
               press := { s.press with fusGate := NSet.ins s.press.fusGate k } }

/-- ZCD_EDGE: both accumulators take their slot's output, and a gate whose accumulator reaches 1 fires (R638). -/
def execZcdEdge (s : State) : Out :=
  if !s.hasPress then .next s
  else
    let s := { s with prs := { s.prs with lastZcd := some s.ticks } }
    .next (zcdGate 1 (s.get F.PRS_FUS_SLOT_1) (zcdGate 0 (s.get F.PRS_FUS_SLOT_0) s))

/-- FUSER_GATE_END: a fired gate ends (R638). -/
def execFuserGateEnd (k : Fin 2) (s : State) : Out :=
  match s.prs.gateEnd.find? (fun e => e.1 == k.val) with
  | some (_, t) =>
    if s.ticks < t then .next s
    else .next { s with prs := { s.prs with gateEnd := s.prs.gateEnd.del k.val },
                        press := { s.press with fusGate := NSet.del s.press.fusGate k.val } }
  | none => .next s

/-- ZCD_LOST: no edge for 25 ms while gating is permitted (R639). -/
def execZcdLost (s : State) : Out :=
  match s.prs.lastZcd with
  | some t => .next (if s.gating && t + 25 * ticksPerMs ≤ s.ticks then halt 5 s else s)
  | none => .next s

end Sys2Proof.Machine
end

