-- ==== Sys2Proof/Machine/PressCmds.lean ====
section
/-! DEFINITION. The press port's commands: the press instructions, the engine's events, picks, bands, sheet tracking,
clutches, comparators and the interlock (R604 to R646). -/

namespace Sys2Proof.Machine

/-! ### Queueing a page -/

/-- The plate descriptor as a page (Table 10.11). -/
def pageOfDesc (r t id : Nat) (f : List W64) : Page :=
  { id := id, part := r / 8, job := bits (fld f 4) 31 0, page := bits (fld f 4) 63 32, side := bits (fld f 1) 38 37,
    stream := none, dpi := bits (fld f 1) 36 36, w := bits (fld f 1) 15 0, h := bits (fld f 1) 31 16,
    bpp := bits (fld f 1) 35 32, stride := bits (fld f 2) 31 0, va := bits (fld f 0) 51 0,
    cid := r / 8 * 4096 + bits (fld f 3) 11 0, ring := r, sealId := 0, map := [], hash := [], hashed := false,
    resv := none, attempt := 1, tally := some (r, t), picked := false }

/-- The surface of a full-render page. -/
def Page.surf (p : Page) : Surf :=
  { va := p.va, w := p.w, h := p.h, fmt := p.bpp - 1, stride := p.stride, cid := p.cid }

/-- Every page that has passed PQUEUE and not left the queue. -/
def State.allPages (s : State) : List Page := s.prs.queue ++ s.prs.hashing

/-- The partition's last queued page (R615). -/
def State.lastQueued (s : State) (p : Nat) : Option Page :=
  (s.allPages.filter (fun x => x.part == p)).foldl (fun m x =>
    match m with
    | some y => if y.id < x.id then some x else some y
    | none => some x) none

/-- The plate descriptor is a runtime MALFORMED (R615, Table 10.11). -/
def plateBad (f : List W64) (x : Page) (s : State) : Bool :=
  let last := s.lastQueued x.part
  !onlyBits f [mask 51 0, mask 39 0, mask 31 0, mask 11 0, mask 63 0] || !(x.bpp == 1 || x.bpp == 2) || x.side == 3 ||
    x.dpi != s.get F.PRS_CFG_DPI || s.get F.PRS_CFG_MAX_WIDTH < x.w || x.w == 0 || x.h == 0 || x.va % 4096 != 0 ||
    x.stride % 64 != 0 || x.stride < rowBytes (x.bpp - 1) x.w ||
    (if x.side = 2 then !(last.any (fun y => y.side == 1 && y.job == x.job)) else last.any (fun y => y.side == 1))

/-- The stream record of 64 bytes (Table 17.4). -/
def streamOf (part : Nat) (b : List Byte) : Stream :=
  let q := fun i => ofLeBytes (slice 0 b (8 * i) 8)
  { listVa := bits (q 0) 51 0, listLen := bits (q 1) 31 0, bandVa := bits (q 2) 51 0, fmt := bits (q 3) 35 32,
    thr := bits (q 3) 39 36, rctx := bits (q 3) 43 41, stride := bits (q 4) 31 0, cid := part * 4096 + bits (q 5) 11 0,
    clear := bits (q 6) 23 0, nb := 2 ^ (bits (q 7) 1 0 + 1) }

/-- Two band buffers overlap (R616). -/
def Stream.overlaps (a b : Stream) : Bool :=
  a.cid == b.cid && a.bandVa < b.bandVa + b.nb * 64 * b.stride && b.bandVa < a.bandVa + a.nb * 64 * a.stride

/-- A stream record is a runtime MALFORMED for a page (R616). -/
def streamBad (b : List Byte) (x : Page) (st : Stream) (s : State) : Bool :=
  let q := (List.range 8).map (fun i => BitVec.ofNat 64 (ofLeBytes (slice 0 b (8 * i) 8)))
  !onlyBits q [mask 51 0, mask 31 0, mask 51 0, mask 43 0, mask 31 0, mask 11 0, mask 23 0, mask 1 0] ||
    bits (fld q 3) 15 0 != x.w || bits (fld q 3) 31 16 != x.h || st.fmt + 1 != x.bpp || bits (fld q 3) 40 40 != x.dpi ||
    1 < st.rctx || st.listVa % 16 != 0 || st.listLen % 16 != 0 || st.listLen == 0 || st.bandVa % 4096 != 0 ||
    st.stride % 64 != 0 || st.stride < rowBytes st.fmt x.w || 2 ^ fmtBits st.fmt ≤ st.clear ||
    s.allPages.any (fun y => y.stream.any (fun z => z.overlaps st))

/-- A page whose inputs are sealed joins the press's work: a plate is hashed, and a streaming page waits for its hash
pass. -/
def admitPage (x : Page) (cap : Captured) (t : Nat) (p : Prog) (s0 : State) : State :=
  let (m, z, s) := cap
  let r := x.ring
  let pages := framePages m
  if z.held || !s.sealFits pages then s0
  else
    match z.bad with
    | some (st, d) => issueDone r t st d p s
    | none =>
      let (id, s) := takeSeal pages true s
      let x := { x with sealId := id, map := m }
      if x.stream.isSome then
        { s.setProg r (p.issue t) with prs := { s.prs with nextPage := s.prs.nextPage + 1, hashing := s.prs.hashing ++ [x] } }
      else
        let (b, s) := plateBytes (mapRd m) x.surf s
        if b.held then s0
        else
          match b.bad with
          | some (st, d) => issueDone r t st d p (dropSeal id s)
          | none =>
            let x := { x with hash := sha384 b.data, hashed := true }
            let s := s.setProg r (p.issue t)
            wantPage x.id { s with prs := { s.prs with nextPage := s.prs.nextPage + 1, hashing := s.prs.hashing ++ [x] } }

/-- PQUEUE's own steps (R400, R614 to R617). -/
def pqueue (r t : Nat) (f : List W64) (p : Prog) (s0 s : State) : State :=
  pressOrder r p s (fun s => issueDone r t 0 0 p s) (fun s =>
    let x := pageOfDesc r t s.prs.nextPage f
    if plateBad f x s then endAt r 0x50 0 p s
    else if s.log.halted then issueDone r t 0x10 0x01 p s
    else if 64 ≤ s.allPages.length then s0
    else if !bit (fld f 1) 39 then admitPage x (captureSurf r x.surf s) t p s0
    else
      let (a, s) := ringRead r (x.cid % 4096) x.va 64 s
      if a.held then s0
      else
        match a.bad with
        | some (st, d) => issueDone r t st d p s
        | none =>
          let st := streamOf x.part a.data
          if streamBad a.data x st s then endAt r 0x50 0 p s
          else
            let (l, s) := ringRead r (st.cid % 4096) st.listVa st.listLen s
            if l.held then s0
            else
              match l.bad with
              | some (e, d) => issueDone r t e d p s
              | none =>
                match parseList l.data.length 0 l.data with
                | .error off => issueDone r t 0x50 off p s
                | .ok cmds =>
                  let imgs := imageNeeds st.fmt 0 x.w 0 x.h (withClips x.w x.h cmds)
                  let c := captureFrames r x.cid x.va 64 ([], AccRes.empty, s)
                  let c := captureFrames r st.cid st.listVa st.listLen c
                  let c := imgs.foldl (fun c i => captureFrames r st.cid i.1 i.2 c) c
                  let c := captureFrames r st.cid st.bandVa (st.nb * 64 * st.stride) c
                  admitPage { x with stream := some st } c t p s0)

/-- PQUEUE: checks, seals and hashes a plate, reserves its record and queues it (R400). -/
def execPqueue (r : Fin 132) (g : Guard) (da t : Fin 16) (lost : Bool) (s : State) : Out :=
  kcs r g (encU 0x80 g da.val 0 t.val 0 0 0 0) [] (fun p s' =>
    kindA r.val t.val p s' (fun q s' => orderOf r.val 1 lost q s' (fun q s' =>
      pqueue r.val t.val (q.dreg da.val) q s s'))) s

/-- Every band of a page rendered in order, and the bytes its hash is taken over; or what ended the pass. -/
def hashBands (p : Page) (x : Stream) : Nat → Nat → List Byte → State → (Except (Option (Nat × Nat)) (List Byte)) × State
  | 0, _, acc, s => (.ok acc, s)
  | n + 1, k, acc, s =>
    match renderBand p x k s with
    | (.error off, s) => (.error (some (0x50, off)), s)
    | (.ok (r, rows), s) =>
      if r.held then (.error none, s)
      else
        match r.bad with
        | some e => (.error (some e), s)
        | none => hashBands p x n (k + 1) (acc ++ rows.flatten) s

/-- Bands of a page. -/
def Page.bands (p : Page) : Nat := (p.h + 63) / 64

/-- HASH_PASS_DONE: the hash pass of the oldest streaming page ends: the page takes its hash and asks for its
reservation, or PQUEUE ends with what the pass met (R617). -/
def execHashPassDone (s0 : State) : Out :=
  match s0.prs.hashing.find? (fun p => !p.hashed) with
  | none => .next s0
  | some p =>
    match p.stream with
    | none => .next s0
    | some x =>
      match hashBands p x p.bands 0 [] s0 with
      | (.error none, _) => .next s0
      | (.error (some (st, d)), s) =>
        let s := dropSeal p.sealId s
        let s := { s with prs := { s.prs with hashing := s.prs.hashing.filter (fun y => y.id != p.id) } }
        .next (match p.tally with | some (r, t) => tallyDone r t st d s | none => s)
      | (.ok b, s) =>
        .next (wantPage p.id { s with prs := { s.prs with hashing := s.prs.hashing.map (fun y =>
          if y.id = p.id then { y with hash := sha384 b, hashed := true } else y) } })

/-- PCANCEL: drops the partition's unpicked pages of a job (R402, R615). -/
def execPcancel (r : Fin 132) (g : Guard) (a : Fin 32) (lost : Bool) (s : State) : Out :=
  kcs r g (encU 0x81 g 0 0 0 a.val 0 0 0) [] (fun p s =>
    orderOf r.val 1 lost p s (fun p s =>
      let s := s.setProg r.val (p.next 1)
      pressOrder r.val p s id (fun s =>
        dropPages (fun x => x.part == r.val / 8 && x.job == (p.sreg a.val).toNat % 2 ^ 32) s))) s

/-- The first PENGINE order starts SYN_10 from DRY_PIXCLK and DRY_PIXFRAC (R85, R128). -/
def startSyn10 (s : State) : State :=
  if s.synState 10 ≠ synOff then s
  else writeCtl 10 true (s.get F.DRY_PIXCLK_ODIV) (s.get F.DRY_PIXCLK_NINT) (s.get F.DRY_PIXFRAC_NFRAC) s

/-- The engine takes a PENGINE order (R607). -/
def pengine (mode : Nat) (s : State) : State :=
  let goal := if mode = 1 then engWarming else engStandby
  if s.eng = engOff then enterEng goal (startSyn10 s)
  else if s.eng = engHalted then
    (if s.pressIn.ilk && s.pressIn.erdy && s.get F.PRS_STATUS_OT_TRIP == 0 then enterEng goal s else s)
  else if mode = 1 then (if s.eng = engStandby ∨ s.eng = engStopping then enterEng engWarming s else s)
  else if s.eng = engWarming ∨ s.eng = engReady then enterEng engStopping s
  else s

/-- PENGINE: orders the engine to standby or run (R607, R609, R528); it waits while a KIND 5 test job runs (Table 21.7). -/
def execPengine (r : Fin 132) (g : Guard) (a : Fin 32) (lost : Bool) (s : State) : Out :=
  if s.jobRuns 5 then .next s
  else kcs r g (encU 0x82 g 0 0 0 a.val 0 0 0) [] (fun p s =>
    orderOf r.val 1 lost p s (fun p s =>
      let mode := (p.sreg a.val).toNat
      if 1 < mode then endAt r.val 0x50 0 p s
      else
        pressOrder r.val p s (fun s => s.setProg r.val (p.next 1)) (fun s =>
          if mode == 1 && !s.pressIn.ilk then endAt r.val 0x10 1 p s
          else pengine mode (s.setProg r.val (p.next 1))))) s

/-- PSTAT: the press status word, zero for any partition but the lease holder (R605). -/
def execPstat (r : Fin 132) (g : Guard) (a : Fin 32) (s : State) : Out :=
  kcs r g (encU 0x83 g 0 0 0 a.val 0 0 0) [] (fun p s =>
    let v := if !smRing r.val && s.leases.press == some (r.val / 8) then s.pstat else 0
    s.setProg r.val ((p.setS a.val (BitVec.ofNat 64 v)).next 1)) s

/-! ### Bands -/

/-- The picked pages of sheets in the path that are still to be imaged or are being imaged, in pick order. -/
def State.livePages (s : State) : List SheetPage :=
  (s.path.flatMap (·.pages)).filter (fun p => p.outcome.isNone && !p.blank && p.imaging != 2)

/-- RASTER_TILE: the press's next band comes first, then the next tile of a job (R578, R580, R618). -/
def execRasterTile (s : State) : Out :=
  match s.ras.bands with
  | [] => .next (jobStep s)
  | (id, k) :: rest =>
    let drop := fun (t : State) => { t with ras := { t.ras with bands := rest } }
    match s.pageOf id with
    | none => .next (drop s)
    | some p =>
      match p.stream with
      | none => .next (drop s)
      | some x =>
        match renderBand p x k s with
        | (.error _, t) => .next (drop t)
        | (.ok (r, _), t) =>
          if r.held then .next s
          else if r.poison then
            let t := drop t
            .next (match t.path.find? (fun sh => sh.pages.any (fun q => q.page == id)) with
              | some sh => interruptSheet sh.id t
              | none => t)
          else if r.unavail.isSome then .next (drop t)
          else .next (drop { t with prs := { t.prs with bandsDone := NSet.ins t.prs.bandsDone (id * 65536 + k) } })

/-- Rows a beam adds to N × s, over the beams and the plate's columns (R655): the row offsets. -/
def State.rowOfs (s : State) (b : Nat) : Int := toSigned 4 (s.get (F.DRY_BEAM_ROW_OFS b))

/-- SHIFT at a plate column (R655). -/
def State.shiftAt (s : State) (x : Nat) : Int :=
  clampInt (-8) 8 ((List.range 16).foldl (fun (n : Int) i =>
    if s.on (F.DRY_BOW_EN i) && s.get (F.DRY_BOW_X i) ≤ x then (if s.on (F.DRY_BOW_DIR i) then n - 1 else n + 1) else n) 0)

/-- N: enabled beams. -/
def State.beams (s : State) : Nat := s.get F.DRY_CFG_BEAMS + 1

/-- The row numbers relative to N × s that one scan of a plate of width w reads. -/
def State.scanOffsets (s : State) (w : Nat) : List Int :=
  let cols : List Nat := 0 :: ((List.range 16).map (fun i => s.get (F.DRY_BOW_X i))).filter (fun x => x < w)
  ((List.range s.beams).flatMap (fun b => cols.map (fun x => Int.ofNat b + s.rowOfs b + s.shiftAt x))).eraseDups

/-- The last scan that reads a row up to `y` (R658). -/
def State.lastScanOf (s : State) (w y : Nat) : Int :=
  (s.scanOffsets w).foldl (fun (m : Int) c => max m (Int.fdiv ((y : Int) - c) s.beams)) (-65536)

/-- Band k of the page being imaged has been imaged (R658). -/
def State.bandImaged (s : State) (p : Page) (k : Nat) : Bool :=
  match s.imagedPage with
  | some (_, q) =>
    let l := s.lastScanOf p.w (min (64 * k + 63) (p.h - 1))
    q.page == p.id && (decide (l < s.dry.scan) || (l == s.dry.scan && !s.dry.line))
  | none => false

/-- BAND_REQUEST: the next band of the first streaming page that may ask for one is requested (R580, R618). -/
def execBandRequest (s : State) : Out :=
  let want := s.livePages.findSome? (fun q =>
    match s.pageOf q.page with
    | none => none
    | some p =>
      match p.stream with
      | none => none
      | some x =>
        let k := Tab.get 0 s.prs.bandNext p.id
        if k < p.bands && (k < x.nb || s.bandImaged p (k - x.nb)) then some (p.id, k) else none)
  match want with
  | none => .next s
  | some (id, k) =>
    .next { s with ras := { s.ras with bands := s.ras.bands ++ [(id, k)] },
                   prs := { s.prs with bandNext := Tab.set s.prs.bandNext id (k + 1) } }

/-! ### The engine -/

/-- ENGINE_CONDITIONS_MET: WARMING becomes READY when every engine condition holds (R607, R608). -/
def execEngineConditionsMet (s : State) : Out :=
  if s.eng = engWarming ∧ s.engConditions then .next (prsEvent Ev.PRS_STATE 0 0 (enterEng engReady s)) else .next s

/-- ENGINE_CONDITION_LOST: READY returns to WARMING when a condition fails (R607). -/
def execEngineConditionLost (s : State) : Out :=
  if s.eng = engReady ∧ !s.engConditions then .next (enterEng engWarming s) else .next s

/-- PATH_EMPTY: STOPPING becomes STANDBY when no sheet is in the path (R607). -/
def execPathEmpty (s : State) : Out :=
  if s.eng = engStopping ∧ s.path = [] then .next (enterEng engStandby s) else .next s

/-- ENGINE_LOST: PRS_ERDY is low for 10 µs; a hot engine halts (R613, Table 17.3). -/
def execEngineLost (s : State) : Out :=
  let s := { s with pressIn := { s.pressIn with erdy := false } }
  .next (if s.engHot then halt 2 s else s)

/-- The bands that follow a pick: 0 to NB − 1 of each streaming page (R618). -/
def firstBands (ids : List Nat) (s : State) : State :=
  s.each ids (fun id t =>
    match t.pageOf id with
    | none => t
    | some p =>
      match p.stream with
      | none => t
      | some x =>
        let n := min x.nb p.bands
        { t with ras := { t.ras with bands := t.ras.bands ++ (List.range n).map (fun k => (id, k)) },
                 prs := { t.prs with bandNext := Tab.set t.prs.bandNext id n } })

/-- PICK_LATCH: every pick condition holding, a sheet is picked for the head page (R620 to R622). -/
def execPickLatch (s : State) : Out :=
  match s.pickPages with
  | some ps => .next (if s.pickReady then firstBands (ps.map (·.id)) (pickSheet ps s) else s)
  | none => .next s

/-- HEARTBEAT_TICK: PRS_HBEAT toggles while it runs; the command carries the level of PRS_ERDY (R610). -/
def execHeartbeatTick (erdy : Bool) (s : State) : Out :=
  .next { s with pressIn := { s.pressIn with erdy := erdy },
                 press := { s.press with hbeat := if s.hbeatRuns && s.hasPress then !s.press.hbeat else false } }

/-! ### Sheets -/

/-- The station is enabled on a route (R625). -/
def State.onRoute (s : State) (route i : Nat) : Bool := s.on (F.PRS_STN_EN i) && bit (s.get (F.PRS_STN_ROUTES i)) route

/-- A number put into a list that ascends in a key, before its equals. -/
def insertBy (key : Nat → Nat) (x : Nat) : List Nat → List Nat
  | [] => [x]
  | y :: l => if key x ≤ key y then x :: y :: l else y :: insertBy key x l

/-- The stations a sheet expects, in ascending ARR_MIN; after a switch, those whose ARR_MIN lies after it (R625, R628). -/
def State.stations (s : State) (sh : Sheet) : List Nat :=
  let on := (List.range 16).filter (fun i => s.onRoute sh.route i &&
    (match sh.switch with
     | some t => decide (t < sh.picked + s.get (F.PRS_STN_ARR_MIN i) * tenthMs)
     | none => true))
  on.foldr (insertBy (fun i => s.get (F.PRS_STN_ARR_MIN i))) []

/-- The next station a sheet expects. -/
def State.nextStation (s : State) (sh : Sheet) : Option Nat :=
  (s.stations sh).find? (fun i => !sh.arrived.any (fun e => e.1 == i))

/-- The sheet and station that expect a cover of a sensor now (R625, R626). -/
def State.expecting (s : State) (n : Nat) : Option (Nat × Nat) :=
  s.path.findSome? (fun sh =>
    match s.nextStation sh with
    | none => none
    | some i =>
      let t := s.ticks - sh.picked
      if s.get (F.PRS_STN_SENSOR i) = n ∧ s.get (F.PRS_STN_ARR_MIN i) * tenthMs ≤ t ∧ t ≤ s.get (F.PRS_STN_ARR_MAX i) * tenthMs
      then some (sh.id, i) else none)

/-- SENSOR_EDGE: a sheet sensor has held a new level for FILT µs: a cover is matched to the sheet that expects it or is a
jam, and an uncover is noted (R624 to R626). -/
def execSensorEdge (n : Fin 24) (high : Bool) (s : State) : Out :=
  if !s.hasPress then .next s
  else
    let covered := high != bit (s.get F.PRS_SNS_POL_POL) n.val
    let old := s.get F.PRS_SNS_STATE_COVERED
    if covered == bit old n.val then .next s
    else if covered then
      let s := s.put F.PRS_SNS_STATE_COVERED (old + 2 ^ n.val)
      let s := { s with prs := { s.prs with coverAt := Tab.set s.prs.coverAt n.val s.ticks } }
      match s.expecting n.val with
      | some (id, i) =>
        .next (onSheet id (fun sh => { sh with arrived := Tab.set sh.arrived i s.ticks })
          { s with prs := { s.prs with coverBy := Tab.set s.prs.coverBy n.val (id, i) } })
      | none => .next (halt 3 s)
    else
      let s := s.put F.PRS_SNS_STATE_COVERED (old - 2 ^ n.val)
      let by_ := s.prs.coverBy.find? (fun e => e.1 == n.val)
      let s := { s with prs := { s.prs with coverAt := s.prs.coverAt.del n.val, coverBy := s.prs.coverBy.del n.val } }
      match by_ with
      | some (_, id, i) => .next (onSheet id (fun sh => { sh with left := NSet.ins sh.left i }) s)
      | none => .next s

/-- A sheet has missed a station's window. -/
def State.missed (s : State) (sh : Sheet) : Bool :=
  match s.nextStation sh with
  | some i => decide (sh.picked + s.get (F.PRS_STN_ARR_MAX i) * tenthMs < s.ticks)
  | none => false

/-- A sensor has been covered longer than COVER_MAX of the station it was covered for. -/
def State.longCover (s : State) (e : Nat × Nat) : Bool :=
  match s.prs.coverBy.find? (fun x => x.1 == e.1) with
  | some (_, _, i) => decide (e.2 + s.get (F.PRS_STN_COVER_MAX i) * tenthMs < s.ticks)
  | none => false

/-- JAM: a sheet-tracking check fails: a missed window or a long cover (R626). -/
def execJam (s : State) : Out :=
  if s.path.any s.missed || s.prs.coverAt.any s.longCover then .next (halt 3 s) else .next s

/-- An entry of PRS_ACT drives its output for a sheet now (R627, R628). -/
def State.actDrives (s : State) (sh : Sheet) (j : Nat) : Bool :=
  if !s.on (F.PRS_ACT_EN j) || !bit (s.get (F.PRS_ACT_ROUTES j)) sh.route then false
  else
    let ref := if s.get (F.PRS_ACT_REF j) = 31 then some sh.picked
      else (sh.arrived.find? (fun e => e.1 == s.get (F.PRS_ACT_REF j))).map (·.2)
    match ref with
    | none => false
    | some t =>
      let on := t + s.get (F.PRS_ACT_ON j) * tenthMs
      let off := t + s.get (F.PRS_ACT_OFF j) * tenthMs
      decide (on ≤ s.ticks) && decide (s.ticks < off) && (match sh.switch with | some w => decide (w < on) | none => true)

/-- CLUTCH_ACTUATION: every clutch output follows the entries and sheets that request it (R627). -/
def execClutchActuation (s : State) : Out :=
  let on := if s.engRuns && !s.prs.aonSafe then
      (List.range 32).foldl (fun (c : NSet) j =>
        if s.path.any (fun sh => s.actDrives sh j) then NSet.ins c (s.get (F.PRS_ACT_CLU j)) else c) []
    else []
  .next { s with press := { s.press with clutch := on } }

/-- SPOIL: a cause of Table 17.5 spoils the page being imaged (R630, R632). -/
def execSpoil (s : State) : Out := .next (spoilImaged s)

/-- The station of a sheet's route with the highest ARR_MIN (R629). -/
def State.lastStation (s : State) (route : Nat) : Option Nat :=
  ((List.range 16).filter (s.onRoute route)).foldl (fun (m : Option Nat) i =>
    match m with
    | none => some i
    | some j => if s.get (F.PRS_STN_ARR_MIN j) ≤ s.get (F.PRS_STN_ARR_MIN i) then some i else some j) none

/-- SHEET_EXIT: the oldest sheet whose trailing edge has uncovered the last station of its route leaves the path
(R629, R631). -/
def execSheetExit (s : State) : Out :=
  match s.path.find? (fun sh => (s.lastStation sh.route).any (fun i => sh.left.contains i)) with
  | some sh => .next (sheetLeaves sh.id s)
  | none => .next s

/-! ### Comparators, the interlock and configuration -/

/-- OT_COMPARATOR_TRIP: an enabled comparator drives the gates low, latches its bit and halts the engine (R640). -/
def execOtComparatorTrip (k : Fin 4) (s : State) : Out :=
  if !s.on (F.PRS_OT_EN k.val) then .next s
  else
    let s := { s with press := { s.press with fusGate := [] }, prs := { s.prs with gateEnd := [] } }
    .next (halt 4 (s.orBits F.PRS_STATUS_OT_TRIP (2 ^ k.val)))

/-- 1 is written to bits of OT_TRIP; `high` says which inputs are at least 20 mV above their threshold (R640). -/
def otTripClear (w high : Nat) (s : State) : State :=
  let t := s.get F.PRS_STATUS_OT_TRIP
  s.put F.PRS_STATUS_OT_TRIP (t - (t &&& w &&& high))

/-- OT_TRIP_CLEAR. -/
def execOtTripClear (w high : BitVec 4) (s : State) : Out := .next (otTripClear w.toNat high.toNat s)

/-- Offsets of the registers R645 governs. -/
def prsCfgOffset (o : Nat) : Bool :=
  o == 0x000 || o == 0x008 || o == 0x00C || o == 0x010 || o == 0x018 || o == 0x020 || o == 0x024 ||
    (0x100 ≤ o && o < 0x300) || o == 0x300 || (0x310 ≤ o && o < 0x330)

/-- The press states in which configuration may be written (R645, R670, R702). -/
def State.prsCfgOpen (s : State) : Bool := s.eng == engOff || s.eng == engStandby || s.eng == engHalted

/-- A change of polarity changes which sensors read covered (R624). -/
def repolarise (old : Nat) (s : State) : State :=
  s.each (List.range 24) (fun n t =>
    if bit old n == bit (t.get F.PRS_SNS_POL_POL) n then t
    else
      let c := t.get F.PRS_SNS_STATE_COVERED
      if bit c n then
        { t.put F.PRS_SNS_STATE_COVERED (c - 2 ^ n) with prs := { t.prs with coverAt := t.prs.coverAt.del n } }
      else
        { t.put F.PRS_SNS_STATE_COVERED (c + 2 ^ n) with prs := { t.prs with coverAt := Tab.set t.prs.coverAt n t.ticks } })

/-- A write to press configuration (R645). -/
def prsConfigWrite (o v : Nat) (s : State) : State :=
  if !s.hasPress || !prsCfgOffset o || !isReg (R.PRS_CFG + o) then s
  else if !s.prsCfgOpen then s.put F.PRS_STATUS_CFG_ERR 1
  else
    let was := s.gating
    let pol := s.get F.PRS_SNS_POL_POL
    let s := repolarise pol (s.writeReg (R.PRS_CFG + o) v)
    if s.gating && !was then { s with prs := { s.prs with lastZcd := some s.ticks } } else s

/-- PRS_CONFIG_WRITE: a write to the register at an offset of the PRS block (R645). -/
def execPrsConfigWrite (o : BitVec 12) (v : W64) (s : State) : Out := .next (prsConfigWrite o.toNat v.toNat s)

/-- The interlock opens: the hardware path first, then the halt (R62, R63, Table 17.3). -/
def ilkFalls (s : State) : State :=
  let s := drive { s with pressIn := { s.pressIn with ilk := false } }
  halt 1 s

/-- PRS_ILK_IN_FALL: laser, video and high voltage are cut in hardware and the engine halts (R62, R63, R613). -/
def execPrsIlkInFall (s : State) : Out := .next (ilkFalls s)

/-- PRS_ILK_IN_RISE: PRS_ILK_OUT goes high again when the press is permitted to run (R62). -/
def execPrsIlkInRise (s : State) : Out :=
  let s := { s with pressIn := { s.pressIn with ilk := true } }
  .next { s with press := { s.press with ilkOut := s.engRuns && !s.prs.aonSafe && s.hasPress } }

/-- VDD_IO33_LOSS: as the interlock opening, and the press outputs are undriven (R64). -/
def execVddIo33Loss (s : State) : Out :=
  let s := ilkFalls s
  .next { s with pwr := { s.pwr with io33Up := false }, press := { PressPins.safe with driven := false } }

end Sys2Proof.Machine
end

