-- ==== Sys2Proof/Machine/Dry.lean ====
section
/-! DEFINITION. Drypoint: beam detect and lock, scans and their rows, pulses, imaging of a page, laser power control, and
its configuration (R647 to R671). -/

namespace Sys2Proof.Machine

/-! ### Lock -/

/-- Every enabled beam has had sixteen samples within TOL (R651). -/
def State.apcSettled (s : State) : Bool :=
  (List.range 8).all (fun b => !s.on (F.DRY_APC_EN b) || 16 ≤ Tab.get 0 s.dry.inTol b)

/-- Beam lock is declared when both conditions hold (R651). -/
def declareLock (s : State) : State :=
  if s.on F.DRY_STATUS_LOCK || s.dry.good != 64 || !s.apcSettled || !s.press.laserEn || s.get F.DRY_SCAN_PERIOD == 0 then s
  else dryEvent Ev.DRY_LOCK 0 (s.put F.DRY_STATUS_LOCK 1)

/-! ### Pulses -/

/-- First slice and length of a pixel's pulse within the pixel, from its level and its neighbours in drawn order (R657). -/
def State.pulseOf (s : State) (bpp level prev next : Nat) : Option (Nat × Nat) :=
  if level = 0 then none
  else if bpp = 1 then some (0, 8)
  else
    let w := if level = 1 then s.get F.DRY_PWM_W_1 else if level = 2 then s.get F.DRY_PWM_W_2 else s.get F.DRY_PWM_W_3
    let a := if level = 1 then s.get F.DRY_PWM_ALIGN_1 else if level = 2 then s.get F.DRY_PWM_ALIGN_2 else s.get F.DRY_PWM_ALIGN_3
    if w = 0 then none
    else if a = 0 then some ((8 - w) / 2, w)
    else if a = 1 then some (0, w)
    else if a = 2 then some (8 - w, w)
    else if next ≤ prev then some (0, w) else some (8 - w, w)

/-- Pulses that touch form one pulse (R657). -/
def joinPulses (l : List (Nat × Nat)) : List (Nat × Nat) :=
  (l.foldl (fun (acc : List (Nat × Nat)) p =>
    match acc with
    | (a, n) :: rest => if a + n = p.1 then (a, n + p.2) :: rest else p :: acc
    | [] => [p]) []).reverse

/-- The pulses of a line from its levels in drawn order; slices count from the BD edge (R653, R654). -/
def State.linePulses (s : State) (bpp start : Nat) (levels : List Nat) : List (Nat × Nat) :=
  joinPulses ((List.range levels.length).filterMap (fun j =>
    let prev := if j = 0 then 0 else levels.getD (j - 1) 0
    (s.pulseOf bpp (levels.getD j 0) prev (levels.getD (j + 1) 0)).map (fun p => (start + 8 * j + p.1, p.2))))

/-- The levels a beam draws in scan k, in drawn order (R654, R655). -/
def State.beamLevels (s : State) (p : Page) (k : Int) (b : Nat) (rows : Tab (List Nat)) : List Nat :=
  (List.range p.w).map (fun j =>
    let x := if s.on F.DRY_CFG_REVERSE then p.w - 1 - j else j
    let r := (s.beams : Int) * k + b + s.rowOfs b + s.shiftAt x
    if r < 0 ∨ (p.h : Int) ≤ r then 0 else (Tab.get [] rows r.toNat).getD x 0)

/-! ### Line data -/

/-- What reading a row met. -/
inductive RowRes where
  | ok (b : List Byte)
  | late
  | poison

/-- The bytes of a plate row, through the captured frames (R658). -/
def readRow (p : Page) (r : Nat) (s : State) : RowRes × State :=
  let of_ := fun (x : AccRes × State) =>
    if x.1.poison then (RowRes.poison, x.2)
    else if x.1.held || x.1.unavail.isSome then (RowRes.late, x.2) else (RowRes.ok x.1.data, x.2)
  match p.stream with
  | some x =>
    if !s.prs.bandsDone.contains (p.id * 65536 + r / 64) then (.late, s)
    else of_ (mapRd p.map (x.rowVa r) (rowBytes x.fmt p.w) s)
  | none =>
    let (fl, a, s) := readFlags (mapRd p.map) p.surf s
    if a.poison then (.poison, s)
    else if a.held || a.unavail.isSome then (.late, s)
    else of_ (rowSeen (mapRd p.map) p.surf fl r s)

/-- Several rows; the first failure is the answer. -/
def readRows (p : Page) : List Nat → Tab (List Byte) → State → Except Bool (Tab (List Byte)) × State
  | [], acc, s => (.ok acc, s)
  | r :: rs, acc, s =>
    match readRow p r s with
    | (.ok b, s) => readRows p rs (Tab.set acc r b) s
    | (.late, s) => (.error false, s)
    | (.poison, s) => (.error true, s)

/-- Plate rows that scan k reads (R655). -/
def State.scanRows (s : State) (p : Page) (k : Int) : List Nat :=
  (s.scanOffsets p.w).filterMap (fun c =>
    let r := (s.beams : Int) * k + c
    if r < 0 ∨ (p.h : Int) ≤ r then none else some r.toNat)

/-- The first and last scans of a page (R656); the first exceeds the last when no scan reads a row. -/
def State.scanRange (s : State) (p : Page) : Int × Int :=
  let n : Int := s.beams
  (s.scanOffsets p.w).foldl (fun (m : Int × Int) c =>
    let lo := -(Int.fdiv c n)
    let hi := Int.fdiv ((p.h : Int) - 1 - c) n
    if hi < lo then m else (min m.1 lo, max m.2 hi)) (65536, -65536)

/-- The page being imaged that still draws. -/
def State.drawing (s : State) : Option (Nat × SheetPage × Page) :=
  match s.imagedPage with
  | some (id, q) =>
    if q.blank || q.outcome.isSome then none else (s.pageOf q.page).map (fun p => (id, q, p))
  | none => none

/-- Late line data: counted, and the page spoils (R659). -/
def lateLine (s : State) : State := spoilImaged (s.bump F.DRY_LATE_LINES_COUNT 1)

/-- The rows of a streaming page taken by a scan join its running hash, in row order (R619). -/
def takeRows (p : Page) (k : Int) (s : State) : Except Bool State :=
  if p.stream.isNone then .ok s
  else
    let top := if s.dry.last ≤ k then p.h else (s.scanRows p k).foldl (fun m r => max m (r + 1)) s.dry.takenTo
    let rs := (List.range top).filter (fun r => s.dry.takenTo ≤ r)
    match readRows p rs [] s with
    | (.error e, _) => .error e
    | (.ok t, s) =>
      .ok { s with dry := { s.dry with taken := s.dry.taken ++ rs.flatMap (fun r => Tab.get [] t r), takenTo := max top s.dry.takenTo } }

/-- The scan in progress draws its line on every beam, or its data is late or poisoned (R653 to R660). -/
def drawScan (s0 : State) : State :=
  match s0.drawing with
  | none => s0
  | some (id, _, p) =>
    let k := s0.dry.scan
    if s0.dry.last < k || !s0.press.laserEn then s0
    else
      match readRows p (s0.scanRows p k) [] s0 with
      | (.error true, s) => interruptSheet id s
      | (.error false, s) => lateLine s
      | (.ok rows, s) =>
        match takeRows p k s with
        | .error true => interruptSheet id s
        | .error false => lateLine s
        | .ok s =>
          let lv := rows.map (fun e => (e.1, unpackPx (p.bpp - 1) p.w e.2))
          let pulses := (List.range s.beams).map (fun b =>
            (b, s.linePulses p.bpp (s.get (F.DRY_BEAM_START b)) (s.beamLevels p k b lv)))
          { s with dry := { s.dry with line := true, pulses := pulses.filter (fun e => !e.2.isEmpty) },
                   press := { s.press with beamsLit := s.dry.refOn || pulses.any (fun e => !e.2.isEmpty) } }

/-- The imaged image of a streaming page differs from its plate hash (R619). -/
def State.hashDiffers (s : State) (p : Page) : Bool := p.stream.isSome && sha384 s.dry.taken != p.hash

/-- A hash mismatch: counted, raised, and the page spoils (R619). -/
def hashMismatch (p : Page) (s : State) : State :=
  spoilImaged (prsEvent Ev.PRS_HASH_MISMATCH p.page p.job (s.bump F.PRS_HASH_MISMATCH_COUNT 1))

/-- Imaging of a page ends with its last line: the hash is checked, and the page counts as imaged once its spoil test is
final (R604, R619, R656). -/
def pageDrawn (s : State) : State :=
  match s.drawing with
  | none => s
  | some (id, _, p) =>
    let s := { s with dry := { s.dry with scan := s.dry.last + 1 } }
    if s.hashDiffers p then hashMismatch p s
    else onSheet id (fun sh => { sh with pages := sh.pages.map (fun q =>
      if q.imaging = 1 ∧ !q.test then { q with imaging := 2 } else q) }) s

/-- The line in progress has ended (R656, R664). -/
def endLine (s : State) : State :=
  if !s.dry.line then s
  else
    let s := linesOff s
    if s.dry.last ≤ s.dry.scan then pageDrawn s else s

/-! ### Commands -/

/-- BD_EDGE: an edge on PRS_BD_k, rising or falling; `held` says that the previous level held for 10 ns, and `cycles` are
the PVID cycles since the last accepted edge (R648 to R660). -/
def execBdEdge (k : Fin 2) (rising held : Bool) (cycles : Nat) (s : State) : Out :=
  if !s.hasPress || s.get F.DRY_CFG_BD_SEL != k.val || rising == s.on F.DRY_CFG_BD_POL then .next s
  else if !held || !s.dry.window then .next (s.bump F.DRY_STRAY_BD_COUNT 1)
  else
    let s := endLine s
    let per := s.get F.DRY_SCAN_PERIOD
    let early := s.dry.edge && cycles + s.get F.DRY_SCAN_TOL < per
    let hunted := s.on F.DRY_STATUS_HUNTING
    let s := s.bump F.DRY_SCANS_COUNT 1
    let s := if s.dry.edge then s.put F.DRY_STATUS_LAST_PERIOD (min cycles 0xFFFFF) else s
    let s := s.putB F.DRY_STATUS_HUNTING (per == 0)
    let s := linesOff { s with dry := { s.dry with edge := true, edgeAt := some s.ticks, window := per == 0, refOn := false } }
    if early then .next (spoilImaged (lockLost s))
    else
      let s := declareLock { s with dry := { s.dry with good := if hunted then 0 else min 64 (s.dry.good + 1) } }
      .next (if s.drawing.isSome then drawScan { s with dry := { s.dry with scan := s.dry.scan + 1 } } else s)

/-- IMAGING_START: the page whose sheet has reached its station, DELAY ago, starts at the last accepted edge (R604, R623,
R656). -/
def execImagingStart (s : State) : Out :=
  match s.dry.edgeAt with
  | none => .next s
  | some e =>
    if s.imagedPage.isSome || s.on F.DRY_STATUS_HUNTING || !s.press.laserEn then .next s
    else
      let ready := fun (sh : Sheet) (i : Nat) =>
        let stn := if i = 0 then s.get F.PRS_IMG_FRONT_STN else s.get F.PRS_IMG_BACK_STN
        let del := if i = 0 then s.get F.PRS_IMG_FRONT_DELAY else s.get F.PRS_IMG_BACK_DELAY
        (match sh.pages[i]? with
          | some q => q.imaging == 0 && !q.blank && q.outcome.isNone
          | none => false) &&
        (match sh.arrived.find? (fun a => a.1 == stn) with
          | some (_, t) => decide (t + del * microsec ≤ e)
          | none => false)
      match s.path.findSome? (fun sh => ([0, 1].find? (fun i => ready sh i)).map (fun i => (sh, i))) with
      | none => .next s
      | some (sh, i) =>
        let coasting := s.synState 10 == synCoasting
        let s := onSheet sh.id (fun x => { x with pages := (List.range x.pages.length).zip x.pages |>.map (fun e =>
          if e.1 = i then { e.2 with imaging := 1, test := coasting } else e.2) }) s
        match s.drawing with
        | none => .next s
        | some (_, _, p) =>
          let (lo, hi) := s.scanRange p
          let s := { s with dry := { s.dry with scan := lo, first := lo, last := hi, taken := [], takenTo := 0 } }
          .next (if hi < lo then pageDrawn s else drawScan s)

/-- BD_WINDOW_OPEN: PERIOD − OPEN cycles after an accepted edge the window opens and beam REF is driven (R649). -/
def execBdWindowOpen (s : State) : Out :=
  if !s.hasPress || !s.dry.edge || s.on F.DRY_STATUS_HUNTING then .next s
  else
    let s := endLine s
    .next { s with dry := { s.dry with window := true, refOn := s.press.laserEn },
                   press := { s.press with beamsLit := s.press.beamsLit || s.press.laserEn } }

/-- BD_WINDOW_CLOSE: a window that closes without an accepted edge is a missed scan: no lock, hunting, and the page being
imaged spoils (R650, R651, R659). -/
def execBdWindowClose (s : State) : Out :=
  if !s.hasPress || !s.dry.window || s.on F.DRY_STATUS_HUNTING then .next s
  else
    let s := endLine s
    let s := (s.bump F.DRY_MISSED_COUNT 1).put F.DRY_STATUS_HUNTING 1
    .next (spoilImaged (lockLost s))

/-- EOS_EDGE: the first active edge of the end-of-scan input after the line end (R652). -/
def execEosEdge (cycles : Nat) (s : State) : Out :=
  if s.hasPress && s.on F.DRY_CFG_EOS_EN && s.dry.edge then .next (s.put F.DRY_EOS_EOS (min cycles 0xFFFFF)) else .next s

/-- LATE_LINE_DATA: a row the scan needs is not in the line buffer at the line's first slice (R659). -/
def execLateLineData (s : State) : Out := .next (if s.drawing.isSome then lateLine s else s)

/-- PLATE_HASH_MISMATCH: at the last line of a streaming page the hash of the rows taken differs from its plate hash
(R619). -/
def execPlateHashMismatch (s : State) : Out :=
  match s.drawing with
  | some (_, _, p) =>
    if s.dry.last ≤ s.dry.scan && s.dry.takenTo == p.h && s.hashDiffers p then .next (hashMismatch p s) else .next s
  | none => .next s

/-- TARGET of a beam's window: its own, or the CODE of a Tansy slot (R663). -/
def State.apcTarget (s : State) (b : Nat) : Nat :=
  if s.on (F.DRY_APC_TSLOT_EN b) then s.code (s.get (F.DRY_APC_TSLOT b)) else s.get (F.DRY_APC_TARGET b)

/-- APC_CAPTURE: at the end of beam b's window its power monitor is captured and a conversion asked for (R661, R675). -/
def execApcCapture (b : Fin 8) (s : State) : Out :=
  if !s.hasPress || !s.press.laserEn || !s.on (F.DRY_APC_EN b.val) || s.beams ≤ b.val ||
      s.get (F.DRY_BEAM_APC_LEN b.val) == 0 || s.on F.DRY_STATUS_HUNTING then .next s
  else
    let s := endLine s
    let x : ApcSample := { target := s.apcTarget b.val, gain := s.get (F.DRY_APC_GAIN b.val),
                           tol := s.get (F.DRY_APC_TOL b.val), code := none }
    .next (requestApc b.val { s with dry := { s.dry with sample := Tab.set s.dry.sample b.val x } })

/-- A count in a table that stops at `cap`. -/
def countUp (t : Tab Nat) (b cap : Nat) : Tab Nat := Tab.set t b (min cap (Tab.get 0 t b + 1))

/-- APC_UPDATE: beam b's DAC takes its sample; sixteen samples outside TOL lose lock, and 256 at a rail raise
DRY_APC_FAULT (R651, R662, R668). -/
def execApcUpdate (b : Fin 8) (s : State) : Out :=
  match s.dry.sample.find? (fun e => e.1 == b.val) with
  | none => .next s
  | some (_, x) =>
    match x.code with
    | none => .next s
    | some code =>
      let err : Int := (x.target : Int) - code
      let dac := (clampInt 0 4095 ((s.get (F.DRY_APC_DAC b.val) : Int) + Int.fdiv (err * x.gain) 256)).toNat
      let inside := decide (err.natAbs ≤ x.tol)
      let d := { s.dry with sample := s.dry.sample.del b.val }
      let d := if inside then
          { d with inTol := countUp d.inTol b.val 16, outTol := d.outTol.del b.val, satRun := d.satRun.del b.val }
        else
          { d with inTol := d.inTol.del b.val, outTol := countUp d.outTol b.val 16,
                   satRun := if dac = 0 ∨ dac = 4095 then countUp d.satRun b.val 256 else d.satRun.del b.val }
      let fault := Tab.get 0 d.satRun b.val == 256 && Tab.get 0 s.dry.satRun b.val == 255
      let s : State := { s with dry := d }.put (F.DRY_APC_DAC b.val) dac
      let s : State := if s.engHot && !s.prs.aonSafe then { s with press := { s.press with apcDac := Tab.set s.press.apcDac b.val dac } } else s
      let s := if Tab.get (0 : Nat) s.dry.outTol b.val == 16 then unlock s else s
      let s := if fault then dryEvent Ev.DRY_APC_FAULT b.val s else s
      .next (declareLock s)

/-- Offsets of the registers R670 governs whole. -/
def dryCfgOffset (o : Nat) : Bool :=
  o == 0x000 || o == 0x004 || o == 0x008 || o == 0x010 || o == 0x014 || o == 0x020 || (0x100 ≤ o && o < 0x140) ||
    (0x200 ≤ o && o < 0x240)

/-- A write to Drypoint configuration; the pixel clock's registers reconfigure a running SYN_10 (R122, R128, R670). -/
def dryConfigWrite (o v : Nat) (s : State) : State :=
  if !s.hasPress || !isReg (R.DRY_CFG + o) then s
  else if 0x180 ≤ o ∧ o < 0x1C0 then
    let b := (o - 0x180) / 8
    let en := s.on (F.DRY_APC_EN b)
    let t := s.writeReg (R.DRY_CFG + o) v
    if t.on (F.DRY_APC_EN b) == en || s.prsCfgOpen then t else (t.putB (F.DRY_APC_EN b) en).put F.DRY_STATUS_CFG_ERR 1
  else if !dryCfgOffset o then s
  else if !s.prsCfgOpen then s.put F.DRY_STATUS_CFG_ERR 1
  else
    let s := s.writeReg (R.DRY_CFG + o) v
    if (o == 4 || o == 8) && s.synState 10 != synOff then
      let t := writeCtl 10 true (s.get F.DRY_PIXCLK_ODIV) (s.get F.DRY_PIXCLK_NINT) (s.get F.DRY_PIXFRAC_NFRAC) s
      if t.synState 10 = synLocked then t else lockLost t
    else s

/-- DRY_CONFIG_WRITE: a write to the register at an offset of the DRY block (R670). -/
def execDryConfigWrite (o : BitVec 12) (v : W64) (s : State) : Out := .next (dryConfigWrite o.toNat v.toNat s)

end Sys2Proof.Machine
end

