-- ==== Sys2Proof/Machine/FabOps.lean ====
section
/-! DEFINITION. Links and their groups, the route of a packet, and the node as a requester (R234 to R238, R254, R259 to
R263, R283, R284, R781). -/

namespace Sys2Proof.Machine

/-- Torus mode (Table 02.6's strap). -/
def State.torus (s : State) : Bool := !s.on F.GLB_STRAP_FAB_MODE

/-- FP_n_CTL as it is in force: LINK, RATE, VCS, CHAN and the group's part in its link as the link took them on leaving
RESET (Table 07.11). -/
def State.ctlApplied (s : State) (g : Nat) : Nat :=
  if s.get (F.FP_STATUS_STATE g) = 0 then (s.reg (R.FP_CTL g)).toNat else Tab.get (s.reg (R.FP_CTL g)).toNat s.fab.applied g

/-- Link number of a group: itself in torus mode, its LINK field otherwise (R235, R237). -/
def State.linkNo (s : State) (g : Nat) : Nat := if s.torus then g else bits (s.ctlApplied g) 26 24

/-- The groups of a link number: the four lowest-numbered that are enabled, and once the link trains, those that train
(R237). -/
def State.groupsOf (s : State) (l : Nat) : List Nat :=
  let all := (List.range 6).filter (fun g => bit (s.ctlApplied g) 31 && s.linkNo g == l)
  let on := all.filter (fun g => s.get (F.FP_STATUS_STATE g) != 0)
  (if on.isEmpty then all else on).take 4

/-- The lead group of a group's link; none when the group takes no part (R237). -/
def State.leadOf (s : State) (g : Nat) : Option Nat :=
  if (s.groupsOf (s.linkNo g)).contains g then (s.groupsOf (s.linkNo g)).head? else none

/-- The groups of the link led by a group. -/
def State.linkGroups (s : State) (k : Nat) : List Nat := s.groupsOf (s.linkNo k)

/-- The lead groups. -/
def State.leads (s : State) : List Nat := (List.range 6).filter (fun g => s.leadOf g == some g)

/-- A link. -/
def State.link (s : State) (k : Nat) : Link := Tab.get Link.init s.fab.links k

/-- The state with a link replaced. -/
def State.setLink (s : State) (k : Nat) (x : Link) : State := { s with fab := { s.fab with links := Tab.set s.fab.links k x } }

/-- STATE of a link (Table 07.14). -/
def State.linkState (s : State) (k : Nat) : Nat := s.get (F.FP_STATUS_STATE k)

/-- The link is ACTIVE. -/
def State.linkUp (s : State) (k : Nat) : Bool := s.linkState k == 5

/-- The link is SECURE (R279). -/
def State.secure (s : State) (k : Nat) : Bool := s.on (F.FP_STATUS_SECURE k)

/-- The link on a lead group is excluded (R302). -/
def State.excluded (s : State) (k : Nat) : Bool := s.on (F.TOPO_NBR_INFO_EXCLUDED k)

/-- The link can carry packets of users: ACTIVE, SECURE and not excluded (R261, R302). -/
def State.routable (s : State) (k : Nat) : Bool := s.linkUp k && s.secure k && !s.excluded k

/-- VCs of a link (R254): the negotiated count, 8 before it is known. -/
def State.vcs (s : State) (k : Nat) : Nat :=
  if s.get (F.FP_STATUS_VCS_NEG k) = 0 then 8 else s.get (F.FP_STATUS_VCS_NEG k)

/-- Roles of packets (Table 07.8). -/
inductive Role where
  | request | response | invoke | result | mgmt | inval | bulk
  deriving DecidableEq, Repr

/-- VCs that carry a role at a VC count (Table 07.8). -/
def roleVcs (r : Role) (n : Nat) : List Nat :=
  match r with
  | .request => [0]
  | .response => [1]
  | .invoke => if 5 ≤ n then [2] else [0]
  | .result => if 5 ≤ n then [3] else [1]
  | .mgmt => if 5 ≤ n then [4] else if 3 ≤ n then [2] else [1]
  | .inval => if 6 ≤ n then [5] else if n = 5 then [4] else if n = 4 then [3] else if n = 3 then [2] else [1]
  | .bulk => if n = 8 then [6, 7] else if n = 7 then [6] else [0]

/-- Roles of an opcode (Table 07.6). -/
def opcRoles (opc : Nat) : List Role :=
  if opc ≤ 3 then [.request, .bulk]
  else if opc ≤ 5 then [.response]
  else if opc = 6 then [.invoke]
  else if opc = 7 then [.result]
  else if opc = 8 then [.mgmt]
  else if opc ≤ 10 then [.inval]
  else []

/-- VC on which the node sends a role on a link (R252, R254). -/
def State.vcFor (s : State) (r : Role) (k : Nat) : Nat := (roleVcs r (s.vcs k)).headD 0

/-- The node uses its fabric address (R781): an ASSIGN has been applied since the last reset, and Campion is not IDLE. -/
def State.addrUsed (s : State) : Bool := s.fab.assigned && s.get F.TOPO_STATUS_STATE != 0

/-- The node's own fabric address. -/
def State.ownAddr (s : State) : Nat := s.get F.TOPO_STATUS_ADDR

/-- Coordinate of an address in dimension d: x, y, z for 0, 1, 2 (R308). -/
def coordOf (addr d : Nat) : Nat := addr / 2 ^ (10 - 5 * d) % 32

/-- Ring size of a dimension in force. -/
def State.sizeOf (s : State) (d : Nat) : Nat :=
  1 + (if d = 0 then s.get F.TOPO_SIZES_SX else if d = 1 then s.get F.TOPO_SIZES_SY else s.get F.TOPO_SIZES_SZ)

/-- An address lies in the coordinate ranges. -/
def State.inRange (s : State) (addr : Nat) : Bool :=
  addr < 32768 && (List.range 3).all (fun d => coordOf addr d < s.sizeOf d)

/-- The packet as it leaves on group `g` in dimension `g / 2`: DL is set when it crosses between the ends of the ring
(R260). -/
def State.crosses (s : State) (g : Nat) : Bool :=
  let d := g / 2
  let c := coordOf s.ownAddr d
  if g % 2 = 0 then c + 1 == s.sizeOf d else c == 0

/-- The way of a packet in torus mode: the group it leaves on and the packet as it leaves (R259 to R261). `inp` is the
group it arrived on. -/
def State.torusHop (s : State) (inp : Option Nat) (p : Packet) : Option (Nat × Packet) :=
  if !s.inRange p.dst then none
  else
    match (List.range 3).find? (fun d => coordOf p.dst d != coordOf s.ownAddr d) with
    | none => none
    | some d =>
      let same := match inp with
        | some g => g / 2 == d
        | none => false
      let p := if same then p else { p with dl := 0, rev := 0 }
      let f := (coordOf p.dst d + s.sizeOf d - coordOf s.ownAddr d) % s.sizeOf d
      let short := if f ≤ s.sizeOf d - f then 2 * d else 2 * d + 1
      let leave := fun (g : Nat) (q : Packet) => (g, { q with dl := if s.crosses g then 1 else q.dl })
      if p.rev = 1 then
        -- a reversed packet keeps its direction
        let g := match inp with
          | some i => if i % 2 = 0 then i + 1 else i - 1
          | none => short
        if s.routable g then some (leave g p) else none
      else if s.routable short then some (leave short p)
      else
        let back := if short % 2 = 0 then short + 1 else short - 1
        if s.routable back then some (back, { p with rev := 1, dl := 1 }) else none

/-- The lead group of an apportioned link number that is ACTIVE and SECURE. -/
def State.usableLink (s : State) (l : Nat) : Option Nat :=
  match (s.groupsOf l).head? with
  | some k => if s.routable k then some k else none
  | none => none

/-- The link on which an originated packet leaves in apportioned mode (R263). -/
def State.apportionedHop (s : State) (dst : Nat) : Option Nat :=
  ((List.range 16).findSome? (fun i =>
    if s.on (F.FP_APR_ROUTE_EN i) && ((dst ^^^ s.get (F.FP_APR_ROUTE_ADDR i)) &&& s.get (F.FP_APR_ROUTE_MASK i)) == 0
    then s.usableLink (s.get (F.FP_APR_ROUTE_LINK i)) else none)).or
    (if s.on F.FP_APR_DEFAULT_EN then s.usableLink (s.get F.FP_APR_DEFAULT_LINK) else none)

/-- A packet the node originates is handed to its link, or lost and counted (R259, R261, R263, R781). -/
def originate (role : Role) (p : Packet) (s : State) : State :=
  if !s.addrUsed then s
  else
    let p := { p with src := s.ownAddr, dl := 0, rev := 0 }
    let hop := if s.torus then s.torusHop none p else (s.apportionedHop p.dst).map (fun k => (k, p))
    match hop with
    | some (k, q) => s.send k { q with vc := s.vcFor role k }
    | none => s.bump (F.FP_UNROUTABLE_COUNT 0) 1

/-- A response, result or INV_ACK leaves for its requester: by the route in torus mode, on the arrival link otherwise
(R252, R259, R262). -/
def respond (k : Nat) (role : Role) (p : Packet) (s : State) : State :=
  if s.torus then originate role p s
  else if !s.addrUsed then s
  else if s.linkState k = 5 ∨ s.linkState k = 6 then
    s.send k { p with src := s.ownAddr, dl := 0, rev := 0, vc := s.vcFor role k }
  else s

/-- A packet with nothing in it. -/
def Packet.empty : Packet :=
  { opc := 0, len := 0, vc := 0, dl := 0, rev := 0, poison := false, dst := 0, src := 0, cid := 0, w1 := 0, data := [] }

/-- A packet's fields fit the widths of their places, and its data fills its slots (Table 07.6). -/
def Packet.wf (p : Packet) : Bool :=
  p.opc < 16 && p.len < 32 && p.vc < 8 && p.dl < 2 && p.rev < 2 && p.dst < 65536 && p.src < 65536 && p.cid < 65536 && p.w1 < 2 ^ 64 &&
    p.data.length == 16 * p.len

/-! ### The node as a requester -/

/-- The tag of the next request: the first after the last that no request holds (R284). -/
def State.freeTag (s : State) : Nat :=
  ((List.range 4096).map (fun i => (s.fab.nextTag + i) % 4096)).find? (fun t => !s.fab.reqs.any (fun q => q.tag == t)) |>.getD 0

/-- A request of one line is sent, its attempt counted; one that cannot be sent counts as lost (R263, R283). -/
def startRequest (owner : ReqOwner) (opc dst cid va : Nat) (data : List Byte) (retry budget : Nat) (s : State) : State :=
  let t := s.freeTag
  let p := { Packet.empty with opc := opc, len := data.length / 16, dst := dst, cid := cid,
                               w1 := va % 2 ^ 52 / 64 * 64 + t * 2 ^ 52, data := data }
  let s := { s with fab := { s.fab with nextTag := (t + 1) % 4096,
                                        reqs := s.fab.reqs ++ [⟨t, owner, p, 1, budget, retry⟩] } }
  originate .request p s

/-- A read or write request for the bytes of one piece of a line of another node: RD, WR, or WRP with the mask of its
bytes (Table 07.6). -/
def startRead (owner : ReqOwner) (dst cid va retry budget : Nat) (s : State) : State :=
  startRequest owner 0 dst cid va [] retry budget s

/-- A write request for the bytes of one piece of a line. -/
def startWrite (owner : ReqOwner) (dst cid va : Nat) (d : List Byte) (retry budget : Nat) (s : State) : State :=
  if d.length = 64 then startRequest owner 1 dst cid va d retry budget s
  else
    let off := va % 64
    let m := (2 ^ d.length - 1) * 2 ^ off
    startRequest owner 2 dst cid va
      (leBytes 8 m ++ leBytes 8 0 ++ (List.replicate off 0 ++ d ++ List.replicate (64 - off - d.length) 0)) retry budget s

/-- The requests without one tag. -/
def dropReq (tag : Nat) (s : State) : State := { s with fab := { s.fab with reqs := s.fab.reqs.filter (fun q => q.tag != tag) } }

end Sys2Proof.Machine
end

