-- ==== Sys2Proof/Machine/Dma.lean ====
section
/-! DEFINITION. COPY and FILL: the descriptor, the movement of the data, and the requests of a remote side (R377, R378). -/

namespace Sys2Proof.Machine

/-- Source VA of a task. -/
def DmaTask.src (x : DmaTask) : Nat := bits (fld x.f 0) 51 0
/-- Destination VA. -/
def DmaTask.dst (x : DmaTask) : Nat := bits (fld x.f 1) 51 0
/-- Length in bytes. -/
def DmaTask.len (x : DmaTask) : Nat := bits (fld x.f 2) 39 0
/-- Source context. -/
def DmaTask.sctx (x : DmaTask) : Nat := bits (fld x.f 3) 11 0
/-- Destination context. -/
def DmaTask.dctx (x : DmaTask) : Nat := bits (fld x.f 3) 27 16
/-- SRC_REMOTE; a FILL has no source. -/
def DmaTask.srcRemote (x : DmaTask) : Bool := bit (fld x.f 3) 28 && !x.fill
/-- DST_REMOTE. -/
def DmaTask.dstRemote (x : DmaTask) : Bool := bit (fld x.f 3) 29
/-- Remote fabric address. -/
def DmaTask.raddr (x : DmaTask) : Nat := bits (fld x.f 3) 47 32
/-- Remote CID. -/
def DmaTask.rcid (x : DmaTask) : Nat := bits (fld x.f 3) 63 48
/-- Retry timeout in ms; 0 means 2. -/
def DmaTask.retry (x : DmaTask) : Nat := if bits (fld x.f 4) 7 0 = 0 then 2 else bits (fld x.f 4) 7 0
/-- Attempts; 0 means 4. -/
def DmaTask.budget (x : DmaTask) : Nat := if bits (fld x.f 4) 11 8 = 0 then 4 else bits (fld x.f 4) 11 8
/-- One side is remote. -/
def DmaTask.remote (x : DmaTask) : Bool := x.srcRemote || x.dstRemote

/-- A COPY or FILL descriptor is malformed (R377, R378). -/
def dmaBad (fill : Bool) (f : List W64) : Bool :=
  bits (fld f 2) 39 0 == 0 || (bit (fld f 3) 28 && bit (fld f 3) 29) || (fill && fld f 0 != 0) ||
    !onlyBits f [mask 51 0, mask 51 0, mask 39 0, mask 11 0 ||| mask 29 16 ||| mask 63 32, mask 11 0, mask 63 0, 0, 0]

/-- How a piece of a transfer ended. -/
inductive DmaRes where
  | ok (d : List Byte)
  | bad (status detail : Nat)
  | held
  deriving DecidableEq, Repr

/-- Result of an access to one line; DETAIL of poison is the line's index from the start of the transfer. -/
def dmaLine (base va : Nat) (r : AccRes) : DmaRes :=
  if r.held then .held
  else if r.poison then .bad 0x20 (va / 64 - base / 64)
  else match r.unavail with
    | some c => .bad 0x21 c
    | none => .ok r.data

/-- Source bytes at a position, line by line. `early` is the state before the transfer. -/
def dmaRead (x : DmaTask) (early : State) (pos n : Nat) (s : State) : DmaRes × State :=
  if x.fill then (.ok ((List.range n).map (fun i => (leBytes 8 (fld x.f 5)).getD ((pos + i) % 8) 0)), s)
  else
    (linePieces (x.src + pos) n).foldl (fun a pc =>
      match a with
      | (.ok d, s) =>
        let (r, s') := ringRead x.ring x.sctx (pc.1 % 2 ^ 52) pc.2 s
        let r := if Config.copyEarly s'.freeCtr then { r with data := (ringRead x.ring x.sctx (pc.1 % 2 ^ 52) pc.2 early).1.data } else r
        (match dmaLine x.src pc.1 r with
        | .ok e => (.ok (d ++ e), s'.draw)
        | z => (z, s'.draw))
      | z => z) (.ok [], s)

/-- Bytes of the piece at a position, cut at a line boundary of one side. -/
def DmaTask.piece (x : DmaTask) (va pos : Nat) : Nat := min (64 - (va + pos) % 64) (x.len - pos)

/-- The end of a transfer: its tally completes and its requests are dropped. -/
def dmaFinish (x : DmaTask) (status detail : Nat) (s : State) : State :=
  let s := { s with rings := { s.rings with dma := s.rings.dma.filter (fun y => !(y.ring == x.ring && y.t == x.t)) },
                    fab := { s.fab with reqs := s.fab.reqs.filter (fun q => !(q.owner == .dma x.ring x.t)) } }
  tallyDone x.ring x.t status detail s

/-- A transfer replaced in the list. -/
def dmaPut (x : DmaTask) (s : State) : State :=
  { s with rings := { s.rings with dma := s.rings.dma.map (fun y => if y.ring == x.ring && y.t == x.t then x else y) } }

/-- A transfer with no remote side, from a position to its end; a held line leaves the state as it was. -/
def dmaLocal (x : DmaTask) (s0 : State) : Nat → Nat → State → State
  | 0, _, s => dmaFinish x 0 0 s
  | fuel + 1, pos, s =>
    if x.len ≤ pos then dmaFinish x 0 0 s
    else
      let n := x.piece x.dst pos
      match dmaRead x s0 pos n s with
      | (.held, _) => s0
      | (.bad st d, s) => dmaFinish x st d s
      | (.ok data, s) =>
        let (w, s) := ringWrite x.ring x.dctx ((x.dst + pos) % 2 ^ 52) data s
        match dmaLine x.dst (x.dst + pos) w with
        | .held => s0
        | .bad st d => dmaFinish x st d s
        | .ok _ => dmaLocal x s0 fuel (pos + n) s

/-- A transfer with a remote side goes on: its next request is sent, or it ends. A held line waits. -/
def dmaAdvance (x : DmaTask) (s : State) : State :=
  if x.waits then s
  else if x.len ≤ x.pos then dmaFinish x 0 0 s
  else if x.srcRemote then
    startRead (.dma x.ring x.t) x.raddr x.rcid ((x.src + x.pos) % 2 ^ 52) x.retry x.budget (dmaPut { x with waits := true } s)
  else
    match dmaRead x s x.pos (x.piece x.dst x.pos) s with
    | (.held, _) => s
    | (.bad st d, s) => dmaFinish x st d s
    | (.ok data, s) =>
      startWrite (.dma x.ring x.t) x.raddr x.rcid ((x.dst + x.pos) % 2 ^ 52) data x.retry x.budget (dmaPut { x with waits := true } s)

/-- The response to a transfer's request: its data are written, or its status ends the transfer, and the transfer goes
on. The answer is none while a line is held. -/
def dmaResponse (x : DmaTask) (status : Nat) (data : List Byte) (s : State) : Option State :=
  let idx := if x.srcRemote then (x.src + x.pos) / 64 - x.src / 64 else (x.dst + x.pos) / 64 - x.dst / 64
  if status = 0x20 then some (dmaFinish x 0x20 idx s)
  else if status = 0x21 then some (dmaFinish x 0x21 (Config.remoteChannel s.freeCtr % 2 ^ 32) s.draw)
  else if status ≠ 0 then some (dmaFinish x status 0 s)
  else if x.srcRemote then
    let n := x.piece x.src x.pos
    let (w, s') := ringWrite x.ring x.dctx ((x.dst + x.pos) % 2 ^ 52) (slice 0 data ((x.src + x.pos) % 64) n) s
    match dmaLine x.dst (x.dst + x.pos) w with
    | .held => none
    | .bad st d => some (dmaFinish x st d s')
    | .ok _ =>
      let y := { x with pos := x.pos + n, waits := false }
      some (dmaAdvance y (dmaPut y s'))
  else
    let y := { x with pos := x.pos + x.piece x.dst x.pos, waits := false }
    some (dmaAdvance y (dmaPut y s))

/-- A transfer is taken on. -/
def dmaStart (x : DmaTask) (s : State) : State :=
  let s := { s with rings := { s.rings with dma := s.rings.dma ++ [x] } }
  if x.remote then dmaAdvance x s else s

/-- COPY and FILL at their instruction: a malformed descriptor ends the program, and otherwise the transfer is taken
on. -/
def dmaIssue (r t : Nat) (fill : Bool) (f : List W64) (p : Prog) (s : State) : State :=
  if dmaBad fill f then endAt r 0x50 0 p s
  else dmaStart ⟨r, t, fill, f, 0, false⟩ (s.setProg r (p.issue t))

/-- COPY. -/
def execCopy (r : Fin 132) (g : Guard) (da t : Fin 16) (s : State) : Out :=
  kcs r g (encU 0x54 g da.val 0 t.val 0 0 0 0) [] (fun p s =>
    kindA r.val t.val p s (fun q s => dmaIssue r.val t.val false (q.dreg da.val) q s)) s

/-- FILL. -/
def execFill (r : Fin 132) (g : Guard) (da t : Fin 16) (s : State) : Out :=
  kcs r g (encU 0x55 g da.val 0 t.val 0 0 0 0) [] (fun p s =>
    kindA r.val t.val p s (fun q s => dmaIssue r.val t.val true (q.dreg da.val) q s)) s

/-- REQUEST_RETRY_TIMEOUT: the request is resent unchanged, or its attempts are used up and TARGET_ABSENT is reported
with the fabric address (R283, R378). -/
def execRequestRetryTimeout (tag : BitVec 12) (s : State) : Out :=
  match s.fab.reqs.find? (fun q => q.tag == tag.toNat) with
  | none => .next s
  | some q =>
    if q.tries < q.budget then
      .next (originate .request q.pkt
        { s with fab := { s.fab with reqs := s.fab.reqs.map (fun y => if y.tag == q.tag then { y with tries := y.tries + 1 } else y) } })
    else
      match q.owner with
      | .dma r t =>
        match s.rings.dma.find? (fun x => x.ring == r && x.t == t) with
        | some x => .next (dmaFinish x 0x31 x.raddr (dropReq q.tag s))
        | none => .next (dropReq q.tag s)

end Sys2Proof.Machine
end

