-- ==== Sys2Proof/Machine/Numeric.lean ====
section
/-! DEFINITION. The arithmetic of Hatch: formats, exact sums and products, rounding, conversion and the functions EXP, RCP
and RSQRT (R416 to R422). -/

namespace Sys2Proof.Machine

/-- A value: NaN, an infinity, or (−1)^neg × m × 2^e exactly. -/
inductive Fp where
  | nan
  | inf (neg : Bool)
  | fin (neg : Bool) (m : Nat) (e : Int)
  deriving DecidableEq, Repr

/-- A floating format: exponent and fraction bits, bias, and whether it has infinities. -/
structure Fmt where
  eb   : Nat
  mb   : Nat
  bias : Nat
  infs : Bool

/-- FP8 E4M3. -/
def fmtE4M3 : Fmt := ⟨4, 3, 7, false⟩
/-- FP8 E5M2. -/
def fmtE5M2 : Fmt := ⟨5, 2, 15, true⟩
/-- BF16. -/
def fmtBF16 : Fmt := ⟨8, 7, 127, true⟩
/-- FP16. -/
def fmtFP16 : Fmt := ⟨5, 10, 15, true⟩
/-- FP32. -/
def fmtFP32 : Fmt := ⟨8, 23, 127, true⟩

/-- Format of a type code; INT8 and INT32 are integers (Table 11.2). -/
def fmtOf (code : Nat) : Fmt :=
  if code = 0 then fmtE4M3 else if code = 1 then fmtE5M2 else if code = 2 then fmtBF16 else if code = 3 then fmtFP16 else fmtFP32

/-- Bytes of an element of a type code (Table 11.2). -/
def typeBytes (code : Nat) : Nat := if code = 2 ∨ code = 3 then 2 else if code = 5 ∨ code = 6 then 4 else 1

/-- Value of a bit pattern of a format (R417). -/
def Fmt.value (f : Fmt) (v : Nat) : Fp :=
  let man := v % 2 ^ f.mb
  let exp := v / 2 ^ f.mb % 2 ^ f.eb
  let neg := bit v (f.mb + f.eb)
  let top := 2 ^ f.eb - 1
  if exp = top ∧ (if f.infs then True else man = 2 ^ f.mb - 1) then
    (if f.infs ∧ man = 0 then .inf neg else .nan)
  else if exp = 0 then .fin neg man (1 - (f.bias : Int) - f.mb)
  else .fin neg (man + 2 ^ f.mb) ((exp : Int) - f.bias - f.mb)

/-- Value of an element of a type code. -/
def typeValue (code v : Nat) : Fp :=
  if code = 4 then (let i := toSigned 8 v; .fin (i < 0) i.natAbs 0)
  else if code = 6 then (let i := toSigned 32 v; .fin (i < 0) i.natAbs 0)
  else (fmtOf code).value v

/-- A magnitude m × 2^e, with more below it when `more`, rounded to nearest even at `prec` bits and no finer than
2^emin. -/
def rneMag (prec : Nat) (emin : Int) (m : Nat) (e : Int) (more : Bool) : Nat × Int :=
  let ulp := max (e + (Nat.log2 m + 1 : Nat) - prec) emin
  if ulp ≤ e then (m * 2 ^ (e - ulp).toNat, ulp)
  else
    let k := (ulp - e).toNat
    let q := m / 2 ^ k
    let r := m % 2 ^ k
    let half := 2 ^ (k - 1)
    let up := half < r || (r == half && (more || q % 2 == 1))
    (if up then q + 1 else q, ulp)

/-- Smallest exponent of a format's last place. -/
def Fmt.emin (f : Fmt) : Int := 1 - (f.bias : Int) - f.mb

/-- Largest finite magnitude as m × 2^e. -/
def Fmt.maxFin (f : Fmt) : Nat × Int :=
  if f.infs then (2 ^ (f.mb + 1) - 1, (2 ^ f.eb - 2 : Nat) - (f.bias : Int) - f.mb)
  else (2 ^ (f.mb + 1) - 2, (2 ^ f.eb - 1 : Nat) - (f.bias : Int) - f.mb)

/-- Whether m × 2^e is above the largest finite magnitude (R421). -/
def Fmt.over (f : Fmt) (m : Nat) (e : Int) : Bool :=
  let (M, E) := f.maxFin
  let lo := min e E
  decide (M * 2 ^ (E - lo).toNat < m * 2 ^ (e - lo).toNat)

/-- A finite value rounded to a format's precision; an overflow gives an infinity. -/
def Fmt.round (f : Fmt) (neg : Bool) (m : Nat) (e : Int) (more : Bool) : Fp :=
  if m = 0 then .fin neg 0 f.emin
  else
    let (q, u) := rneMag (f.mb + 1) f.emin m e more
    if f.over q u then .inf neg else .fin neg q u

/-- RNE_FP32. -/
def rne32 : Fp → Fp
  | .nan => .nan
  | .inf n => .inf n
  | .fin n m e => fmtFP32.round n m e false

/-- Bit pattern of a value that the format holds exactly; a NaN is `nan`. -/
def Fmt.pattern (f : Fmt) (nan : Nat) : Fp → Nat
  | .nan => nan
  | .inf n => b2n n * 2 ^ (f.mb + f.eb) + (2 ^ f.eb - 1) * 2 ^ f.mb
  | .fin n m e =>
    let s := b2n n * 2 ^ (f.mb + f.eb)
    if m = 0 then s
    else
      -- normalise to exactly mb + 1 bits, or to the smallest exponent
      let l := Nat.log2 m
      let sh : Int := max (e + (l : Int) - f.mb) f.emin
      let q := if sh ≤ e then m * 2 ^ (e - sh).toNat else m / 2 ^ (sh - e).toNat
      if q < 2 ^ f.mb then s + q
      else s + (sh + f.mb + f.bias).toNat * 2 ^ f.mb + (q - 2 ^ f.mb)

/-- FP32 pattern of a value; a NaN is the canonical one (R419). -/
def bits32 (x : Fp) : Nat := fmtFP32.pattern 0x7FC00000 x

/-- Value of an FP32 pattern. -/
def val32 (v : Nat) : Fp := fmtFP32.value v

/-- A finite magnitude rounded to nearest even to an integer. -/
def rneInt (m : Nat) (e : Int) : Nat :=
  if 0 ≤ e then m * 2 ^ e.toNat
  else
    let k := (-e).toNat
    let q := m / 2 ^ k
    let r := m % 2 ^ k
    if 2 ^ (k - 1) < r ∨ (r = 2 ^ (k - 1) ∧ q % 2 = 1) then q + 1 else q

/-- NaN pattern of an output type (Table 11.3). -/
def nanOf (code : Nat) : Nat :=
  if code = 0 ∨ code = 1 then 0x7F else if code = 2 then 0x7FC0 else if code = 3 then 0x7E00 else if code = 4 then 0 else 0x7FC00000

/-- A value converted to an output type (R421, Table 11.3). -/
def convertTo (code : Nat) (sat : Bool) (x : Fp) : Nat :=
  let f := fmtOf code
  let sgn := fun (n : Bool) => b2n n * 2 ^ (f.mb + f.eb)
  let overflow := fun (n : Bool) =>
    if code ≠ 5 ∧ sat then f.pattern 0 (.fin n f.maxFin.1 f.maxFin.2)
    else if code = 0 then 0x7F + sgn n
    else f.pattern 0 (.inf n)
  if code = 4 then
    match x with
    | .nan => 0
    | .inf n => if n then 0x80 else 0x7F
    | .fin n m e =>
      let i := if 9 ≤ e + (Nat.log2 m : Int) then 256 else rneInt m e
      if n then (if 128 ≤ i then 0x80 else (256 - i) % 256) else (if 128 ≤ i then 0x7F else i)
  else
    match x with
    | .nan => nanOf code
    | .inf n => if code = 0 then overflow n else f.pattern 0 (.inf n)
    | .fin n m e =>
      if m = 0 then sgn n
      else
        let (q, u) := rneMag (f.mb + 1) f.emin m e false
        if f.over q u then overflow n else f.pattern 0 (.fin n q u)

/-- Exact product (R418, R419). -/
def mulFp : Fp → Fp → Fp
  | .nan, _ => .nan
  | _, .nan => .nan
  | .inf a, .inf b => .inf (a != b)
  | .inf a, .fin b m _ => if m = 0 then .nan else .inf (a != b)
  | .fin a m _, .inf b => if m = 0 then .nan else .inf (a != b)
  | .fin a m e, .fin b n f => .fin (a != b) (m * n) (e + f)

/-- The opposite value. -/
def negFp : Fp → Fp
  | .nan => .nan
  | .inf n => .inf (!n)
  | .fin n m e => .fin (!n) m e

/-- Smallest exponent of the finite members of a list. -/
def minExp (l : List Fp) : Int :=
  l.foldl (fun a x => match x with | .fin _ m e => if m = 0 then a else min a e | _ => a) 1024

/-- Exact sum of a list: an exact zero is +0 unless every addend is −0 (R418, R419). -/
def sumFp (l : List Fp) : Fp :=
  if l.contains .nan then .nan
  else if l.contains (.inf true) && l.contains (.inf false) then .nan
  else if l.contains (.inf true) then .inf true
  else if l.contains (.inf false) then .inf false
  else
    let e := minExp l
    let t : Int := l.foldl (fun a x => match x with
      | .fin n m f => if m = 0 then a else if n then a - ((m * 2 ^ (f - e).toNat : Nat) : Int) else a + ((m * 2 ^ (f - e).toNat : Nat) : Int)
      | _ => a) 0
    if t = 0 then .fin (!l.isEmpty && l.all (fun x => match x with | .fin n _ _ => n | _ => false)) 0 0
    else .fin (t < 0) t.natAbs e

/-- Exact sum of two values. -/
def addFp (a b : Fp) : Fp := sumFp [a, b]

/-- Exact difference. -/
def subFp (a b : Fp) : Fp := sumFp [a, negFp b]

/-- Whether one value is below another; false for a NaN. -/
def ltFp (a b : Fp) : Bool :=
  match subFp a b with
  | .fin n m _ => n && m != 0
  | .inf n => n
  | .nan => match a, b with
    | .inf x, .inf y => x && !y
    | _, _ => false

/-- A zero. -/
def Fp.isZero : Fp → Bool
  | .fin _ m _ => m == 0
  | _ => false

/-- Sign of a value. -/
def Fp.neg : Fp → Bool
  | .fin n _ _ => n
  | .inf n => n
  | .nan => false

/-- Greater of two values; a NaN gives NaN, and the sign of the greater of two zeros of opposite signs is free. -/
def maxFp (a b : Fp) : Fp :=
  match a, b with
  | .nan, _ => .nan
  | _, .nan => .nan
  | a, b =>
    if a.isZero && b.isZero then (if a.neg = b.neg then a else .fin (Config.zeroOfMax a.neg) 0 0)
    else if ltFp a b then b else a

/-- Lesser of two values, likewise. -/
def minFp (a b : Fp) : Fp :=
  match a, b with
  | .nan, _ => .nan
  | _, .nan => .nan
  | a, b =>
    if a.isZero && b.isZero then (if a.neg = b.neg then a else .fin (Config.zeroOfMin a.neg) 0 0)
    else if ltFp b a then b else a

/-- Greatest value of a list; −infinity for none. -/
def maxOf (l : List Fp) : Fp :=
  match l with
  | [] => .inf true
  | x :: xs => xs.foldl maxFp x

/-- a / b correctly rounded to FP32 (R422). -/
def divFp (a b : Fp) : Fp :=
  match a, b with
  | .nan, _ => .nan
  | _, .nan => .nan
  | .inf _, .inf _ => .nan
  | .inf n, .fin k _ _ => .inf (n != k)
  | .fin n _ _, .inf k => .fin (n != k) 0 0
  | .fin n m e, .fin k d f =>
    if d = 0 then (if m = 0 then .nan else .inf (n != k))
    else if m = 0 then .fin (n != k) 0 0
    else
      let sh := 64 + Nat.log2 d
      fmtFP32.round (n != k) (m * 2 ^ sh / d) (e - f - sh) (m * 2 ^ sh % d != 0)

/-- Bits of an integer square root, from a power of two downward. -/
def isqrtGo (x : Nat) : Nat → Nat → Nat
  | 0, r => r
  | k + 1, r => if (r + 2 ^ k) * (r + 2 ^ k) ≤ x then isqrtGo x k (r + 2 ^ k) else isqrtGo x k r

/-- Integer square root. -/
def isqrt (x : Nat) : Nat := isqrtGo x (Nat.log2 x / 2 + 1) 0

/-- RSQRT (R422). -/
def rsqrtFp : Fp → Fp
  | .nan => .nan
  | .inf n => if n then .nan else .fin false 0 0
  | .fin n m e =>
    if m = 0 then .inf n
    else if n then .nan
    else
      let (m, e) := if e % 2 = 0 then (m, e) else (2 * m, e - 1)
      let k := 48 + Nat.log2 m
      let q := isqrt (2 ^ (2 * k) / m)
      fmtFP32.round false q (-(e / 2) - k) (q * q * m != 2 ^ (2 * k))

/-- ln 2 in units of 2^-256, rounded down. -/
def ln2Fix : Nat := 80260960185991308862233904206310070533990667611589946606122867505419956976171

/-- Terms of the exponential series of y in units of 2^-256: `term` is the n-th. -/
def expSeries (y : Nat) : Nat → Nat → Nat → Nat → Nat
  | 0, _, _, sum => sum
  | k + 1, n, term, sum =>
    let t := term * y / (n * 2 ^ 256)
    expSeries y k (n + 1) t (sum + t)

/-- 2^t rounded to FP32 nearest even, t a finite FP32 value (R422). -/
def exp2Fp (neg : Bool) (m : Nat) (e : Int) : Fp :=
  if m = 0 then .fin false 1 0
  else if !neg && 8 ≤ e + (Nat.log2 m : Int) then .inf false
  else if neg && 8 ≤ e + (Nat.log2 m : Int) then .fin false 0 0
  else
    -- t in units of 2^-160, exact
    let t : Int := if neg then -((m * 2 ^ (e + 160).toNat : Nat) : Int) else ((m * 2 ^ (e + 160).toNat : Nat) : Int)
    let whole := t / (2 ^ 160 : Nat)
    let frac := (t % (2 ^ 160 : Nat)).toNat
    if frac = 0 then fmtFP32.round false 1 whole false
    else
      let y := frac * 2 ^ 96 * ln2Fix / 2 ^ 256
      fmtFP32.round false (expSeries y 64 1 (2 ^ 256) (2 ^ 256)) (whole - 256) true

/-- EXP (R422). -/
def expFp (x : Fp) : Fp :=
  match x with
  | .nan => .nan
  | .inf n => if n then .fin false 0 0 else .inf false
  | x =>
    match rne32 (mulFp x (val32 0x3FB8AA3B)) with
    | .nan => .nan
    | .inf n => if n then .fin false 0 0 else .inf false
    | .fin n m e => exp2Fp n m e

/-- A list's exact dot product with another. -/
def dotFp (a b : List Fp) : Fp := sumFp (List.zipWith mulFp a b)

end Sys2Proof.Machine
end

