-- ==== Sys2Proof/Machine/UnitOps.lean ====
section
/-! DEFINITION. Logical and physical units: the maps, hosting, retirement and spares (R411, R470 to R480, R488). -/

namespace Sys2Proof.Machine

/-- Physical engine of a logical one; 0xF when vacant (R470). -/
def State.physEngine (s : State) (cl i : Nat) : Nat := s.get (F.RPR_HMAP_PHYS cl) / 16 ^ i % 16

/-- Physical core of a logical one; 0x1F when vacant (R470). -/
def State.physCore (s : State) (cl i : Nat) : Nat :=
  if i < 8 then s.get (F.RPR_SMAP_LO_PHYS cl) / 256 ^ i % 32 else s.get (F.RPR_SMAP_HI_PHYS cl) / 256 ^ (i - 8) % 32

/-- A number with one digit of a base replaced. -/
def setDigit (base v i x : Nat) : Nat := v / base ^ (i + 1) * base ^ (i + 1) + x * base ^ i + v % base ^ i

/-- The map with a logical engine placed. -/
def setPhysEngine (cl i p : Nat) (s : State) : State :=
  s.put (F.RPR_HMAP_PHYS cl) (setDigit 16 (s.get (F.RPR_HMAP_PHYS cl)) i p)

/-- The map with a logical core placed. -/
def setPhysCore (cl i p : Nat) (s : State) : State :=
  if i < 8 then s.put (F.RPR_SMAP_LO_PHYS cl) (setDigit 256 (s.get (F.RPR_SMAP_LO_PHYS cl)) i p)
  else s.put (F.RPR_SMAP_HI_PHYS cl) (setDigit 256 (s.get (F.RPR_SMAP_HI_PHYS cl)) (i - 8) p)

/-- Logical units of a kind in a cluster. -/
def unitCount (k : UnitKind) : Nat := if k = .hatch then 12 else 16
/-- Physical units of a kind in a cluster. -/
def physCount (k : UnitKind) : Nat := if k = .hatch then 13 else 18
/-- The mark of a vacant number. -/
def vacantMark (k : UnitKind) : Nat := if k = .hatch then 15 else 31
/-- Code of a kind in the unit events (Table 20.4). -/
def unitCode (k : UnitKind) : Nat := if k = .hatch then 0 else 1

/-- Physical unit of a logical one. -/
def State.physUnit (s : State) (k : UnitKind) (cl i : Nat) : Nat := if k = .hatch then s.physEngine cl i else s.physCore cl i
/-- The map with a logical unit placed. -/
def setPhysUnit (k : UnitKind) (cl i p : Nat) (s : State) : State := if k = .hatch then setPhysEngine cl i p s else setPhysCore cl i p s

/-- The logical number of a physical unit. -/
def State.logicalOf (s : State) (k : UnitKind) (cl p : Nat) : Option Nat :=
  (List.range (unitCount k)).find? (fun i => s.physUnit k cl i == p)

/-- A physical unit is retired (R471). -/
def State.unitRetired (s : State) (k : UnitKind) (cl p : Nat) : Bool :=
  if k = .hatch then s.rpr.engRet.contains (cl * 16 + p) else s.rpr.coreRet.contains (cl * 32 + p)

/-- Spares of a kind: neither retired nor holding a logical number. -/
def State.sparesOf (s : State) (k : UnitKind) (cl : Nat) : List Nat :=
  (List.range (physCount k)).filter (fun p => !s.unitRetired k cl p && (s.logicalOf k cl p).isNone)

/-- Vacant logical numbers of a kind. -/
def State.vacantOf (s : State) (k : UnitKind) (cl : Nat) : List Nat :=
  (List.range (unitCount k)).filter (fun i => s.physUnit k cl i == vacantMark k)

/-- Bits of the numbers below `n` that a predicate selects. -/
def maskOf (n : Nat) (f : Nat → Bool) : Nat := (List.range n).foldl (fun m i => if f i then m + 2 ^ i else m) 0

/-- A logical core of a cluster is in service there. -/
def State.coreIn (s : State) (cl i : Nat) : Bool := s.physCore cl i != 31 && !s.rpr.clOut.contains cl

/-- Where a logical core that is not in service is hosted within its cluster (R479). -/
def State.hostIn (s : State) (cl i : Nat) : Option Nat :=
  if s.rpr.clOut.contains cl then none
  else if s.physCore cl i != 31 then some (cl * 16 + i)
  else if s.physCore cl (i ^^^ 1) != 31 then some (cl * 16 + (i ^^^ 1))
  else ((List.range 16).find? (fun j => s.physCore cl j != 31)).map (fun j => cl * 16 + j)

/-- The core, as cluster × 16 + logical core, on which the rings of a core run (R479, R480). -/
def State.hostOf (s : State) (c : Nat) : Option Nat :=
  let cl := c / 16
  if s.rpr.clOut.contains cl then
    ((List.range 3).map (fun d => (cl + 1 + d) % 4)).findSome? (fun q => s.hostIn q (c % 16))
  else s.hostIn cl (c % 16)

/-- A staging block of a cluster is retired. -/
def State.blockOut (s : State) (cl b : Nat) : Bool := s.rpr.blockRet.contains (cl * 384 + b)

/-- A logical number that a retired block makes vacant, which no spare fills (R474): task-slot blocks 128 to 319, sixteen
to an engine, and program-store blocks 0 to 127, eight to a core (Table 11.1). -/
def State.blockVacant (s : State) (k : UnitKind) (cl l : Nat) : Bool :=
  if k = .hatch then (List.range 16).any (fun i => s.blockOut cl (128 + 16 * l + i))
  else (List.range 8).any (fun i => s.blockOut cl (8 * l + i))

/-- A row of the task slots of an engine, given as cluster × 16 + physical engine, is under test (R481). -/
def State.engineTested (s : State) (e : Nat) : Bool :=
  match s.logicalOf .hatch (e / 16) (e % 16) with
  | some l => s.rpr.rowsOut.any (fun r => r.code == 1 && r.inst / 384 == e / 16 && 128 ≤ r.inst % 384 &&
      (r.inst % 384 - 128) / 16 == l)
  | none => false

/-- A row of the program store or local store of a core, given as cluster × 16 + logical core, is under test (R481). -/
def State.coreTested (s : State) (c : Nat) : Bool :=
  s.rpr.rowsOut.any (fun r => (r.code == 1 && r.inst / 384 == c / 16 && r.inst % 384 / 8 == c % 16) ||
    (r.code == 2 && r.inst == c / 16 * 18 + s.physCore (c / 16) (c % 16)))

/-- The unit registers of a cluster follow its maps: IN_SERVICE, RETIRED, HOSTED and the spare counts. -/
def syncUnits (cl : Nat) (s : State) : State :=
  let s := s.put (F.CC_HATCH_RETIRED cl) (maskOf 13 (fun p => s.unitRetired .hatch cl p))
  let s := s.put (F.CC_HATCH_IN_SERVICE cl) (maskOf 13 (fun p => (s.logicalOf .hatch cl p).isSome))
  let s := s.put (F.CC_STIPPLE_RET_RETIRED cl) (maskOf 18 (fun p => s.unitRetired .stipple cl p))
  let s := s.put (F.CC_STIPPLE_SVC_IN_SERVICE cl) (maskOf 18 (fun p => (s.logicalOf .stipple cl p).isSome))
  let s := s.put (F.RPR_HOST_HOSTED cl) (maskOf 16 (fun i => s.hostOf (cl * 16 + i) != some (cl * 16 + i)))
  let s := s.put (F.RPR_SPARE_HATCH_SPARE cl) (s.sparesOf .hatch cl).length
  let s := s.put (F.RPR_SPARE_STIPPLE_SPARE cl) (s.sparesOf .stipple cl).length
  let s := s.put (F.RPR_SPARE_HATCH_VACANT cl) (s.vacantOf .hatch cl).length
  let s := s.put (F.RPR_SPARE_CORE_VACANT cl) (s.vacantOf .stipple cl).length
  let mine := s.rpr.blockRet.filter (fun b => b / 384 == cl)
  let s := s.put (F.RPR_SPARE_BLOCKS_RETIRED cl) mine.length
  s.putB (F.RPR_SPARE_ATT_EXCLUDED cl) (8 < (mine.filter (fun b => 320 ≤ b % 384)).length)

/-- Every cluster's unit registers follow the maps. -/
def syncAllUnits (s : State) : State := s.each [0, 1, 2, 3] syncUnits

/-- LOCATION and TYPE of a unit's repair entry (Table 13.4). -/
def unitEntry (k : UnitKind) (cl p : Nat) (s : State) : State :=
  if k = .hatch then repairAdd 1 0 0 (locHatch cl p) s else repairAdd 2 0 0 (locStipple cl p) s

/-- A unit event (Table 20.4, R488). -/
def unitEvent (src : Nat) (k : UnitKind) (cl p l ring : Nat) (s : State) : State :=
  raiseNode ⟨src, cl, unitArg p l (unitCode k) (s.sparesOf k cl).length, ring, 0⟩ s

/-- A vacant number looks for a spare: the lowest that no test holds starts its self-test, and otherwise the exhaustion
is reported (R476, R477). A test job on that spare is aborted (Table 21.7). -/
def seekSpare (k : UnitKind) (cl l : Nat) (s : State) : State :=
  match (s.sparesOf k cl).find? (fun p => !s.rpr.tests.any (fun t => t.kind == k && t.cl == cl && t.phys == p)) with
  | some p =>
    let s := abortJobIf (fun j => if k = .hatch then j.kind == 7 && j.inst == cl * 16 + p else j.kind == 8 && j.inst == cl * 32 + p) s
    { s with rpr := { s.rpr with tests := s.rpr.tests ++ [⟨cl, k, l, p⟩] } }
  | none => unitEvent Ev.SPARE_EXHAUSTED k cl 0xFF l 0 s

/-- A physical unit is marked retired. -/
def markRetired (k : UnitKind) (cl p : Nat) (s : State) : State :=
  if k = .hatch then { s with rpr := { s.rpr with engRet := NSet.ins s.rpr.engRet (cl * 16 + p) } }
  else { s with rpr := { s.rpr with coreRet := NSet.ins s.rpr.coreRet (cl * 32 + p) } }

/-- A physical unit is retired at run time: its number becomes vacant, the event and the repair entry are made, and a
spare is sought (R475, R478, R488). -/
def retireUnit (k : UnitKind) (cl p ring : Nat) (s : State) : State :=
  if s.unitRetired k cl p then s
  else
    let l := s.logicalOf k cl p
    let s := markRetired k cl p s
    let s := match l with
      | some i => setPhysUnit k cl i (vacantMark k) s
      | none => s
    let s := syncUnits cl (unitEntry k cl p (unitEvent Ev.UNIT_RETIRED k cl p (l.getD 0xFF) ring s))
    match l with
    | some i => seekSpare k cl i s
    | none => s

/-- A spare's switch-in self-test ends: it takes the vacant number, or is retired in turn and the number looks for
another (R476). -/
def spareTested (x : SpareTest) (pass : Bool) (s : State) : State :=
  let s := { s with rpr := { s.rpr with tests := s.rpr.tests.filter (fun y => !(y == x)) } }
  if pass then
    if s.physUnit x.kind x.cl x.logical = vacantMark x.kind ∧ !s.blockVacant x.kind x.cl x.logical then
      unitEvent Ev.SPARE_ONLINE x.kind x.cl x.phys x.logical 0 (syncUnits x.cl (setPhysUnit x.kind x.cl x.logical x.phys s))
    else s
  else
    let s := markRetired x.kind x.cl x.phys s
    let s := syncUnits x.cl (unitEntry x.kind x.cl x.phys (unitEvent Ev.UNIT_RETIRED x.kind x.cl x.phys 0xFF 0 s))
    seekSpare x.kind x.cl x.logical s

end Sys2Proof.Machine
end

