-- ==== Sys2Proof/Machine/Hatch.lean ====
section
/-! DEFINITION. HGEMM, HSMAX and HELT: descriptors, tile tasks, what each task computes and how it is checked (R416 to
R436). -/

namespace Sys2Proof.Machine

/-- The state with one job replaced. -/
def putJob (j : Job) (s : State) : State :=
  { s with hatch := { s.hatch with jobs := s.hatch.jobs.map (fun x => if x.id == j.id then j else x) } }

/-- A physical engine of a cluster holds a logical number, and its cluster is in service. -/
def State.engineIn (s : State) (cl p : Nat) : Bool := (s.logicalOf .hatch cl p).isSome && !s.rpr.clOut.contains cl

/-- Some engine of a cluster is in service. -/
def State.anyEngine (s : State) (cl : Nat) : Bool := (List.range 13).any (fun p => s.engineIn cl p)

/-- An engine runs no task. -/
def State.engineFree (s : State) (e : Nat) : Bool := !s.engineTested e && !s.hatch.jobs.any (fun j => j.run.any (fun x => x.1 == e))

/-- Island number of a cluster. -/
def clusterIsland (cl : Nat) : Nat := 6 + cl

/-- A status that stops a job: UNIT_FAULT comes before MEM_UNAVAILABLE, and that before the rest (R457). -/
def Job.stop (j : Job) (st d : Nat) : Job :=
  let rank := fun (x : Nat) => if x = 0x30 then 0 else if x = 0x21 then 1 else 2
  match j.bad with
  | none => { j with bad := some (st, d) }
  | some (o, _) => if rank st < rank o then { j with bad := some (st, d) } else j

/-- How the loads of a task ended. -/
inductive LoadRes where
  | ok (l : List (List Nat))
  | bad (status detail : Nat)
  | held
  deriving DecidableEq, Repr

/-- Little-endian elements of `n` bytes. -/
def elemsOf (n : Nat) (b : List Byte) : List Nat := (List.range (b.length / n)).map (fun i => ofLeBytes (slice 0 b (n * i) n))

/-- A run of an operand loaded line by line; DETAIL is the operand and the line offset from its base (R436). -/
def loadRun (r ctx opnd base va n : Nat) (s : State) : Except (Option (Nat × Nat)) (List Byte) × State :=
  (linePieces va n).foldl (fun a pc =>
    match a with
    | (.ok d, s) =>
      let (x, s) := ringRead r ctx (pc.1 % 2 ^ 52) pc.2 s
      if x.held then (.error none, s)
      else
        let off := (pc.1 / 64 - base / 64) % 2 ^ 30 + opnd * 2 ^ 30
        if x.poison then (.error (some (0x20, off)), s)
        else match x.unavail with
          | some c => (.error (some (0x21, c)), s)
          | none => (.ok (d ++ x.data), s)
    | z => z) (.ok [], s)

/-- Runs of one operand loaded in order. -/
def loadRuns (r ctx opnd base n : Nat) (vas : List Nat) (s : State) : Except (Option (Nat × Nat)) (List (List Byte)) × State :=
  vas.foldl (fun a va =>
    match a with
    | (.ok l, s) => (match loadRun r ctx opnd base va n s with
      | (.ok d, s) => (.ok (l ++ [d]), s)
      | (.error e, s) => (.error e, s))
    | z => z) (.ok [], s)

/-- The bytes of rows written in order; the answer is held, or what ended a write. -/
def storeRows (r ctx : Nat) (rows : List (Nat × List Byte)) (s : State) : Except (Option (Nat × Nat)) Unit × State :=
  rows.foldl (fun a x =>
    match a with
    | (.ok (), s) =>
      let (w, s) := ringWrite r ctx (x.1 % 2 ^ 52) x.2 s
      if w.held then (.error none, s)
      else match w.bad with
        | some (st, d) => (.error (some (st, d)), s)
        | none => (.ok (), s)
    | z => z) (.ok (), s)

/-! ### HGEMM -/

/-- A HGEMM descriptor (Table 11.4). -/
structure Gemm where
  a : Nat
  ctx : Nat
  b : Nat
  ta : Nat
  tb : Nat
  td : Nat
  d : Nat
  acc : Bool
  sat : Bool
  trA : Bool
  trB : Bool
  m : Nat
  n : Nat
  k : Nat
  sa : Nat
  sb : Nat
  sd : Nat
  scale : Nat
  bias : Nat

/-- The descriptor of eight fields. -/
def gemmOf (f : List W64) : Gemm :=
  { a := bits (fld f 0) 51 0, ctx := bits (fld f 0) 63 52, b := bits (fld f 1) 51 0, ta := bits (fld f 1) 55 52,
    tb := bits (fld f 1) 59 56, td := bits (fld f 1) 63 60, d := bits (fld f 2) 51 0, acc := bit (fld f 2) 52,
    sat := bit (fld f 2) 53, trA := bit (fld f 2) 54, trB := bit (fld f 2) 55, m := bits (fld f 3) 23 0,
    n := bits (fld f 3) 47 24, k := bits (fld f 3) 63 48, sa := bits (fld f 4) 31 0, sb := bits (fld f 4) 63 32,
    sd := bits (fld f 5) 31 0, scale := bits (fld f 5) 63 32, bias := bits (fld f 6) 51 0 }

/-- INT8 operands. -/
def Gemm.int (g : Gemm) : Bool := g.ta == 4
/-- Bytes of an input element. -/
def Gemm.ein (g : Gemm) : Nat := typeBytes g.ta
/-- Bytes of an output element. -/
def Gemm.eout (g : Gemm) : Nat := typeBytes g.td
/-- KSTEP (R425). -/
def Gemm.kstep (g : Gemm) : Nat := if g.ein = 1 then 1024 else 512
/-- K-steps of a chain. -/
def Gemm.steps (g : Gemm) : Nat := (g.k + g.kstep - 1) / g.kstep
/-- Tile columns. -/
def Gemm.tcols (g : Gemm) : Nat := (g.n + 255) / 256
/-- Output tiles. -/
def Gemm.tiles (g : Gemm) : Nat := (g.m + 127) / 128 * g.tcols

/-- A HGEMM descriptor is malformed (R426). -/
def gemmBad (f : List W64) : Bool :=
  let g := gemmOf f
  let pair := (g.ta ≤ 1 && g.tb ≤ 1) || (g.ta == g.tb && (g.ta == 2 || g.ta == 3 || g.ta == 4))
  !pair || 6 < g.td || (g.td == 6 && !g.int) ||
    ((g.td == 6 || g.acc) && (g.scale != 0x3F800000 || g.bias != 0)) ||
    (g.acc && g.td != (if g.int then 6 else 5)) ||
    g.m == 0 || g.n == 0 || g.k == 0 ||
    g.sa < (if g.trA then g.m else g.k) * g.ein || g.sb < (if g.trB then g.k else g.n) * g.ein || g.sd < g.n * g.eout ||
    g.a % g.ein != 0 || g.b % g.ein != 0 || g.d % g.eout != 0 || g.bias % 4 != 0 ||
    bits (fld f 2) 63 56 != 0 || bits (fld f 6) 63 52 != 0 || fld f 7 != 0

/-- Rows, columns and k of a tile task: first and count of each. -/
structure TileBox where
  i0 : Nat
  ni : Nat
  j0 : Nat
  nj : Nat
  k0 : Nat
  nk : Nat

/-- The box of a tile task (R425). -/
def Gemm.box (g : Gemm) (tile step : Nat) : TileBox :=
  let i0 := tile / g.tcols * 128
  let j0 := tile % g.tcols * 256
  let k0 := step * g.kstep
  { i0 := i0, ni := min 128 (g.m - i0), j0 := j0, nj := min 256 (g.n - j0), k0 := k0, nk := min g.kstep (g.k - k0) }

/-- Rows of a list of equal rows as columns. -/
def transpose (n : Nat) (l : List (List Nat)) : List (List Nat) := (List.range n).map (fun j => l.map (fun r => r.getD j 0))

/-- The loads of a HGEMM task: A by rows, B by columns, BIAS on the last step, and D on the first under ACC (R424 to
R426, R436). -/
def gemmLoad (r : Nat) (f : List W64) (tile step : Nat) (s : State) : LoadRes × State :=
  let g := gemmOf f
  let x := g.box tile step
  let run := fun (opnd base n : Nat) (vas : List Nat) (s : State) => loadRuns r g.ctx opnd base n vas s
  let aVas := if g.trA then (List.range x.nk).map (fun k => g.a + (x.k0 + k) * g.sa + x.i0 * g.ein)
    else (List.range x.ni).map (fun i => g.a + (x.i0 + i) * g.sa + x.k0 * g.ein)
  let bVas := if g.trB then (List.range x.nj).map (fun j => g.b + (x.j0 + j) * g.sb + x.k0 * g.ein)
    else (List.range x.nk).map (fun k => g.b + (x.k0 + k) * g.sb + x.j0 * g.ein)
  let fail := fun (e : Option (Nat × Nat)) => match e with | none => LoadRes.held | some (a, b) => LoadRes.bad a b
  match run 0 g.a ((if g.trA then x.ni else x.nk) * g.ein) aVas s with
  | (.error e, s) => (fail e, s)
  | (.ok al, s) =>
    match run 1 g.b ((if g.trB then x.nk else x.nj) * g.ein) bVas s with
    | (.error e, s) => (fail e, s)
    | (.ok bl, s) =>
      match run 2 g.bias (x.nj * 4) (if g.bias ≠ 0 ∧ step + 1 = g.steps then [g.bias + x.j0 * 4] else []) s with
      | (.error e, s) => (fail e, s)
      | (.ok cl, s) =>
        match run 3 g.d (x.nj * g.eout)
            (if g.acc ∧ step = 0 then (List.range x.ni).map (fun i => g.d + (x.i0 + i) * g.sd + x.j0 * g.eout) else []) s with
        | (.error e, s) => (fail e, s)
        | (.ok dl, s) =>
          let rowsOf := fun (l : List (List Byte)) => l.map (elemsOf g.ein)
          let am := if g.trA then transpose x.ni (rowsOf al) else rowsOf al
          let bm := if g.trB then rowsOf bl else transpose x.nj (rowsOf bl)
          (.ok [am.flatten, bm.flatten, (cl.map (elemsOf 4)).flatten, (dl.map (elemsOf g.eout)).flatten], s)

/-- Starting accumulator patterns of a task. -/
def gemmStart (x : TileBox) (step : Nat) (loaded : List (List Nat)) (acc : List Nat) : List Nat :=
  if step = 0 then (let d := loaded.getD 3 []; if d.isEmpty then List.replicate (x.ni * x.nj) 0 else d) else acc

/-- Groups of 32 of a list. -/
def groups32 {α : Type} (l : List α) : List (List α) := (List.range ((l.length + 31) / 32)).map (fun g => (l.drop (32 * g)).take 32)

/-- One accumulator of a floating HGEMM after the groups of a K-step (R418). -/
def accFloat (acc : Nat) (prods : List Fp) : Nat :=
  bits32 ((groups32 prods).foldl (fun a g => rne32 (sumFp (a :: g))) (val32 acc))

/-- One accumulator of an INT8 HGEMM (R420). -/
def accInt (acc : Nat) (a b : List Nat) : Nat :=
  ofSigned 32 (toSigned 32 acc + (List.zipWith (fun x y => toSigned 8 x * toSigned 8 y) a b).foldl (· + ·) 0)

/-- Result of a HGEMM task: its accumulators, row by row (R418 to R420). -/
def gemmResult (g : Gemm) (x : TileBox) (step : Nat) (loaded : List (List Nat)) (acc : List Nat) : List Nat :=
  let am := loaded.getD 0 []
  let bm := loaded.getD 1 []
  let start := gemmStart x step loaded acc
  (List.range (x.ni * x.nj)).map (fun q =>
    let a := slice 0 am (q / x.nj * x.nk) x.nk
    let b := slice 0 bm (q % x.nj * x.nk) x.nk
    if g.int then accInt (start.getD q 0) a b
    else accFloat (start.getD q 0) (List.zipWith (fun u v => mulFp (typeValue g.ta u) (typeValue g.tb v)) a b))

/-- A NaN or an infinity. -/
def Fp.special : Fp → Bool
  | .fin _ _ _ => false
  | _ => true

/-- A task is checked by repetition: a special input or accumulator (R431). -/
def gemmSpecial (g : Gemm) (loaded : List (List Nat)) (start res : List Nat) : Bool :=
  !g.int && ((loaded.getD 0 []).any (fun v => (typeValue g.ta v).special) || (loaded.getD 1 []).any (fun v => (typeValue g.tb v).special) ||
    start.any (fun v => (val32 v).special) || res.any (fun v => (val32 v).special))

/-- Magnitude. -/
def absFp : Fp → Fp
  | .fin _ m e => .fin false m e
  | .inf _ => .inf false
  | .nan => .nan

/-- The check of one row or column of a task: its (starting, result, products) cells (R429). -/
def lineOk (groups : Nat) (cells : List (Fp × Fp × List Fp)) : Bool :=
  let ref := sumFp (cells.flatMap (fun c => c.2.2))
  let mag := sumFp (cells.flatMap (fun c => absFp c.1 :: c.2.2.map absFp))
  let delta := sumFp (negFp ref :: cells.flatMap (fun c => [c.2.1, negFp c.1]))
  !ltFp (mulFp (.fin false (groups + 1) (-24)) mag) (absFp delta)

/-- The check of a HGEMM task with finite values or INT8 inputs (R429, R430). -/
def gemmCheck (g : Gemm) (x : TileBox) (step : Nat) (loaded : List (List Nat)) (acc res : List Nat) : Bool :=
  let am := loaded.getD 0 []
  let bm := loaded.getD 1 []
  let start := gemmStart x step loaded acc
  let a := fun i => slice 0 am (i * x.nk) x.nk
  let b := fun j => slice 0 bm (j * x.nk) x.nk
  if g.int then
    let sum := fun (qs : List (Nat × Nat)) => qs.foldl (fun (t : Int) q =>
      t + toSigned 32 (res.getD (q.1 * x.nj + q.2) 0) - toSigned 32 (start.getD (q.1 * x.nj + q.2) 0) -
        (List.zipWith (fun u v => toSigned 8 u * toSigned 8 v) (a q.1) (b q.2)).foldl (· + ·) 0) 0
    (List.range x.nj).all (fun j => sum ((List.range x.ni).map (fun i => (i, j))) % 4294967296 == 0) &&
      (List.range x.ni).all (fun i => sum ((List.range x.nj).map (fun j => (i, j))) % 4294967296 == 0)
  else
    let cell := fun i j => (val32 (start.getD (i * x.nj + j) 0), val32 (res.getD (i * x.nj + j) 0),
      List.zipWith (fun u v => mulFp (typeValue g.ta u) (typeValue g.tb v)) (a i) (b j))
    let n := (x.nk + 31) / 32
    (List.range x.nj).all (fun j => lineOk n ((List.range x.ni).map (fun i => cell i j))) &&
      (List.range x.ni).all (fun i => lineOk n ((List.range x.nj).map (fun j => cell i j)))

/-- Epilogue of one element (R426). -/
def gemmEpilogue (g : Gemm) (bias : Option Nat) (acc : Nat) : Nat :=
  if g.td = 6 then acc
  else
    let v := if g.int then rne32 (typeValue 6 acc) else val32 acc
    let v := rne32 (mulFp (val32 g.scale) v)
    let v := match bias with
      | some b => rne32 (addFp v (val32 b))
      | none => v
    convertTo g.td g.sat v

/-- Rows that a finished tile writes. -/
def gemmRows (g : Gemm) (x : TileBox) (loaded : List (List Nat)) (res : List Nat) : List (Nat × List Byte) :=
  let bias := loaded.getD 2 []
  (List.range x.ni).map (fun i =>
    (g.d + (x.i0 + i) * g.sd + x.j0 * g.eout,
     (List.range x.nj).flatMap (fun j => leBytes g.eout (gemmEpilogue g bias[j]? (res.getD (i * x.nj + j) 0)))))

/-! ### HSMAX and HELT -/

/-- A HSMAX descriptor is malformed (R427, Table 11.5). -/
def hsmaxBad (f : List W64) : Bool :=
  let tx := bits (fld f 1) 55 52
  let tp := bits (fld f 1) 59 56
  !(tx == 2 || tx == 3 || tx == 5) || !(tp ≤ 3 || tp == 5) || (bit (fld f 1) 60 && bits (fld f 2) 51 0 == 0) ||
    !onlyBits f [mask 63 0, mask 60 0, mask 51 0, mask 39 0, mask 63 0, mask 31 0, 0, 0]

/-- The load of a HSMAX row. -/
def hsmaxLoad (r : Nat) (f : List W64) (row : Nat) (s : State) : LoadRes × State :=
  let e := typeBytes (bits (fld f 1) 55 52)
  let base := bits (fld f 0) 51 0
  match loadRun r (bits (fld f 0) 63 52) 0 base (base + row * bits (fld f 4) 31 0) (bits (fld f 3) 39 24 * e) s with
  | (.ok d, s) => (.ok [elemsOf e d], s)
  | (.error none, s) => (.held, s)
  | (.error (some (a, b)), s) => (.bad a b, s)

/-- One HSMAX row: P patterns, m and l (R427). -/
def hsmaxRow (f : List W64) (xs : List Nat) : List Nat × Nat × Nat :=
  let tp := bits (fld f 1) 59 56
  let scale := val32 (bits (fld f 5) 31 0)
  let y := xs.map (fun v => rne32 (mulFp scale (typeValue (bits (fld f 1) 55 52) v)))
  let m := maxOf y
  match m with
  | .nan => (xs.map (fun _ => convertTo tp false .nan), 0x7FC00000, 0x7FC00000)
  | .inf true => (xs.map (fun _ => 0), bits32 (.inf true), 0)
  | m =>
    let e := y.map (fun v => expFp (rne32 (subFp v m)))
    let l := rne32 (sumFp e)
    let p := if bit (fld f 1) 60 then e else e.map (fun v => divFp v l)
    (p.map (convertTo tp false), bits32 m, bits32 l)

/-- Rows that a finished HSMAX task writes. -/
def hsmaxRows (f : List W64) (row : Nat) (loaded : List (List Nat)) : List (Nat × List Byte) :=
  let (p, m, l) := hsmaxRow f (loaded.getD 0 [])
  let tp := bits (fld f 1) 59 56
  let ml := bits (fld f 2) 51 0
  (bits (fld f 1) 51 0 + row * bits (fld f 4) 63 32, p.flatMap (leBytes (typeBytes tp))) ::
    (if ml = 0 then [] else [(ml + 8 * row, leBytes 4 m ++ leBytes 4 l)])

/-- A HELT descriptor is malformed (R428, Table 11.6). -/
def heltBad (f : List W64) : Bool :=
  let op := bits (fld f 2) 63 56
  8 < op || bits (fld f 0) 51 0 == 0 || (op == 3 && bits (fld f 2) 51 0 == 0) ||
    5 < bits (fld f 1) 55 52 || 5 < bits (fld f 1) 59 56 || 5 < bits (fld f 1) 63 60 || 5 < bits (fld f 2) 55 52 ||
    bits (fld f 4) 39 0 == 0 ||
    !onlyBits f [mask 63 0, mask 63 0, mask 63 0, mask 52 0, mask 39 0, mask 31 0, 0, 0]

/-- Elements of one HELT task (R425 gives HELT no tile). -/
def heltTile : Nat := 256

/-- Elements of a HELT task. -/
def heltCount (f : List W64) (tile : Nat) : Nat := min heltTile (bits (fld f 4) 39 0 - tile * heltTile)

/-- An OP of HELT uses its second source. -/
def heltUsesB (op : Nat) : Bool := 1 ≤ op && op ≤ 5

/-- The loads of a HELT task: the sources its OP needs. -/
def heltLoad (r : Nat) (f : List W64) (tile : Nat) (s : State) : LoadRes × State :=
  let ctx := bits (fld f 0) 63 52
  let op := bits (fld f 2) 63 56
  let n := heltCount f tile
  let src := fun (opnd base ty : Nat) (use : Bool) (s : State) =>
    if use then loadRun r ctx opnd base (base + tile * heltTile * typeBytes ty) (n * typeBytes ty) s else (.ok [], s)
  let ta := bits (fld f 1) 55 52
  let tb := bits (fld f 1) 59 56
  let tc := bits (fld f 2) 55 52
  let fail := fun (e : Option (Nat × Nat)) => match e with | none => LoadRes.held | some (a, b) => LoadRes.bad a b
  match src 0 (bits (fld f 0) 51 0) ta true s with
  | (.error e, s) => (fail e, s)
  | (.ok a, s) =>
    match src 1 (bits (fld f 1) 51 0) tb (heltUsesB op && bits (fld f 1) 51 0 != 0) s with
    | (.error e, s) => (fail e, s)
    | (.ok b, s) =>
      match src 2 (bits (fld f 2) 51 0) tc (op == 3) s with
      | (.error e, s) => (fail e, s)
      | (.ok c, s) => (.ok [elemsOf (typeBytes ta) a, elemsOf (typeBytes tb) b, elemsOf (typeBytes tc) c], s)

/-- One HELT element (Table 11.6). -/
def heltOp (op : Nat) (a b c : Fp) : Fp :=
  if op = 0 then a
  else if op = 1 then rne32 (addFp a b)
  else if op = 2 then rne32 (mulFp a b)
  else if op = 3 then rne32 (addFp (mulFp a b) c)
  else if op = 4 then maxFp a b
  else if op = 5 then minFp a b
  else if op = 6 then expFp a
  else if op = 7 then divFp (.fin false 1 0) a
  else rsqrtFp a

/-- The row that a finished HELT task writes. -/
def heltRows (f : List W64) (tile : Nat) (loaded : List (List Nat)) : List (Nat × List Byte) :=
  let td := bits (fld f 1) 63 60
  let imm := val32 (bits (fld f 5) 31 0)
  let out := (List.range (heltCount f tile)).map (fun i =>
    let a := typeValue (bits (fld f 1) 55 52) ((loaded.getD 0 []).getD i 0)
    let b := match (loaded.getD 1 [])[i]? with
      | some v => typeValue (bits (fld f 1) 59 56) v
      | none => imm
    let c := typeValue (bits (fld f 2) 55 52) ((loaded.getD 2 []).getD i 0)
    convertTo td (bit (fld f 3) 52) (heltOp (bits (fld f 2) 63 56) a b c))
  [(bits (fld f 3) 51 0 + tile * heltTile * typeBytes td, out.flatMap (leBytes (typeBytes td)))]

/-! ### Jobs -/

/-- A task with nothing yet. -/
def Task.new (tile step cl : Nat) : Task :=
  { tile := tile, step := step, cl := cl, prior := [], fails := [], loaded := none, redo := false }

/-- A job just issued. -/
def newJob (id r t cl : Nat) (kind : JobKind) (d0 d1 : List W64) (left : Nat) : Job :=
  { id := id, ring := r, t := t, cl := cl, kind := kind, d0 := d0, d1 := d1, ready := [], run := [], fresh := 0, accs := [],
    left := left, retries := 0, bad := none, seqs := [], parts := [], open_ := false, deal := 0, first := cl, sel := 0 }

/-- A job joins the dispatchers. -/
def addJob (j : Job) (s : State) : State :=
  { s with hatch := { s.hatch with jobs := s.hatch.jobs ++ [j], next := s.hatch.next + 1 } }

/-- Cluster of the core that runs a ring's program; the SM's rings use CC_0. -/
def Prog.cluster (p : Prog) : Nat := p.core / 16 % 4

/-- HGEMM, HSMAX or HELT at its instruction: a malformed descriptor ends the program; with no engine in the cluster the
tally completes UNIT_FAULT at once; otherwise the job is issued (R386, Table 11.9). -/
def hatchIssue (r t : Nat) (kind : JobKind) (f : List W64) (badDesc : Bool) (tiles : Nat) (p : Prog) (s : State) : State :=
  if badDesc then endAt r 0x50 0 p s
  else if !s.anyEngine p.cluster then issueDone r t 0x30 (clusterIsland p.cluster) p s
  else addJob (newJob s.hatch.next r t p.cluster kind f [] tiles) (s.setProg r (p.issue t))

/-- HGEMM. -/
def execHgemm (r : Fin 132) (g : Guard) (da t : Fin 16) (s : State) : Out :=
  kcs r g (encU 0x68 g da.val 0 t.val 0 0 0 0) [] (fun p s => kindA r.val t.val p s (fun q s =>
    hatchIssue r.val t.val .hgemm (q.dreg da.val) (gemmBad (q.dreg da.val)) (gemmOf (q.dreg da.val)).tiles q s)) s

/-- HSMAX. -/
def execHsmax (r : Fin 132) (g : Guard) (da t : Fin 16) (s : State) : Out :=
  kcs r g (encU 0x69 g da.val 0 t.val 0 0 0 0) [] (fun p s => kindA r.val t.val p s (fun q s =>
    hatchIssue r.val t.val .hsmax (q.dreg da.val) (hsmaxBad (q.dreg da.val)) (bits (fld (q.dreg da.val) 3) 23 0) q s)) s

/-- HELT. -/
def execHelt (r : Fin 132) (g : Guard) (da t : Fin 16) (s : State) : Out :=
  kcs r g (encU 0x6A g da.val 0 t.val 0 0 0 0) [] (fun p s => kindA r.val t.val p s (fun q s =>
    hatchIssue r.val t.val .helt (q.dreg da.val) (heltBad (q.dreg da.val))
      ((bits (fld (q.dreg da.val) 4) 39 0 + heltTile - 1) / heltTile) q s)) s

end Sys2Proof.Machine
end

