-- ==== Sys2Proof/Machine/Attn.lean ====
section
/-! DEFINITION. Decode attention over KV pages: descriptors, the walk, chunk tasks, merges, partial records, and AMERGE
(R395, R396, R443 to R459). -/

namespace Sys2Proof.Machine

/-- An ATTN job's descriptors (Table 10.9). -/
structure AttnDesc where
  batch    : Nat
  group    : Nat
  code     : Nat
  kv       : Nat
  q        : Nat
  o        : Nat
  emit     : Bool
  partials : Bool
  split    : Nat
  scale    : Nat
  heads    : Nat
  table    : Nat
  qva      : Nat
  ova      : Nat
  pva      : Nat
  ctx      : Nat

/-- Type code of a query or output type (Table 10.9). -/
def qoType (c : Nat) : Nat := if c = 0 then 2 else if c = 1 then 3 else 5

/-- The two descriptors as one. -/
def attnOf (f d : List W64) : AttnDesc :=
  { batch := bits (fld f 0) 9 0 + 1, group := bits (fld f 0) 13 10 + 1, code := bits (fld f 0) 18 16, kv := bits (fld f 0) 22 20,
    q := qoType (bits (fld f 0) 25 24), o := qoType (bits (fld f 0) 27 26), emit := bit (fld f 0) 28,
    partials := bit (fld f 0) 29, split := bits (fld f 0) 47 32, scale := bits (fld f 1) 31 0, heads := bits (fld f 2) 5 0 + 1,
    table := bits (fld d 0) 51 0, qva := bits (fld d 1) 51 0, ova := bits (fld d 2) 51 0, pva := bits (fld d 3) 51 0,
    ctx := bits (fld d 4) 11 0 }

/-- HEAD_DIM of a code. -/
def headDim (code : Nat) : Nat := 32 * (code + 2)
/-- HEAD_DIM. -/
def AttnDesc.dim (a : AttnDesc) : Nat := headDim a.code
/-- Token slots of a page (R443). -/
def AttnDesc.slots (a : AttnDesc) : Nat := 16 * (2048 / (a.dim * typeBytes a.kv))
/-- Query heads of a sequence (R447). -/
def AttnDesc.qh (a : AttnDesc) : Nat := a.heads * a.group
/-- Bytes of a query row. -/
def AttnDesc.qrow (a : AttnDesc) : Nat := a.dim * typeBytes a.q
/-- Bytes of an output row. -/
def AttnDesc.orow (a : AttnDesc) : Nat := a.dim * typeBytes a.o
/-- Chunks of `p` pages (R450). -/
def AttnDesc.chunks (a : AttnDesc) (p : Nat) : Nat :=
  if a.split = 0 then (if p = 0 then 0 else 1) else (p + a.split - 1) / a.split
/-- Chunk of page j. -/
def AttnDesc.chunkOf (a : AttnDesc) (j : Nat) : Nat := if a.split = 0 then 0 else j / a.split
/-- First page of a chunk. -/
def AttnDesc.chunkFirst (a : AttnDesc) (c : Nat) : Nat := c * a.split

/-- ATTN descriptors are malformed (R395, R447, Table 10.9). -/
def attnBad (f d : List W64) : Bool :=
  let a := attnOf f d
  a.code == 7 || 4 ≤ a.kv || bits (fld f 0) 25 24 == 3 || bits (fld f 0) 27 26 == 3 ||
    !onlyBits f [mask 13 0 ||| mask 18 16 ||| mask 22 20 ||| mask 29 24 ||| mask 47 32, mask 31 0, mask 5 0, 0, 0, 0, 0, 0] ||
    !onlyBits d [mask 51 0, mask 51 0, mask 51 0, mask 51 0, mask 11 0, 0, 0, 0] ||
    a.table % 32 != 0 || a.qva % 64 != 0 || a.ova % 64 != 0 || a.pva % 64 != 0

/-- Clusters that may run an attention job's tasks: selected, with an engine in service and not ATT_EXCLUDED (R459,
R474). -/
def State.attnClusters (s : State) (sel : Nat) : List Nat :=
  (List.range 4).filter (fun c => bit sel c && s.anyEngine c && !s.on (F.RPR_SPARE_ATT_EXCLUDED c))

/-- The clusters in the order of dealing, starting after a cluster (R459). -/
def State.dealOrder (s : State) (sel after : Nat) : List Nat :=
  ((List.range 4).map (fun i => (after + 1 + i) % 4)).filter (fun c => (s.attnClusters sel).contains c)

/-- The cluster of the n-th dealt task. -/
def dealTo (order : List Nat) (n : Nat) : Nat := order.getD (n % max 1 order.length) 0

/-! ### The walk -/

/-- How a read of the walker ended: bytes; poison; the channel of an unavailable line; or held. -/
inductive WalkRes where
  | ok (d : List Byte)
  | poison
  | unavail (c : Nat)
  | held
  deriving DecidableEq, Repr

/-- A read of the walker. -/
def walkRead (r ctx va n : Nat) (s : State) : WalkRes × State :=
  let (x, s) := ringRead r ctx (va % 2 ^ 52) n s
  if x.held then (.held, s)
  else if x.poison then (.poison, s)
  else match x.unavail with
    | some c => (.unavail c, s)
    | none => (.ok x.data, s)

/-- Segment header bytes break the format (R445). -/
def segmentBad (h : List Byte) : Bool :=
  let count := ofLeBytes (slice 0 h 0 2)
  let next := ofLeBytes (slice 0 h 8 8)
  count == 0 || 4096 < count || ofLeBytes (slice 0 h 2 6) != 0 || 2 ^ 52 ≤ next || next % 64 != 0

/-- What a list walk found: entries, and how it ended early. -/
inductive ListEnd where
  | all | malformed | poison | unavail (c : Nat) | held
  deriving DecidableEq, Repr

/-- Entries of a segment read one line at a time. -/
def readEntries (r ctx va n : Nat) (s : State) : List Nat × ListEnd × State :=
  (linePieces va (4 * n)).foldl (fun a pc =>
    match a with
    | (l, .all, s) => (match walkRead r ctx pc.1 pc.2 s with
      | (.ok d, s) => (l ++ elemsOf 4 d, .all, s)
      | (.poison, s) => (l, .poison, s)
      | (.unavail c, s) => (l, .unavail c, s)
      | (.held, s) => (l, .held, s))
    | z => z) ([], .all, s)

/-- The first `need` entries of a list from a segment (R445, R448). -/
def walkList (r ctx : Nat) : Nat → Nat → Nat → List Nat → State → List Nat × ListEnd × State
  | 0, _, _, acc, s => (acc, .malformed, s)
  | fuel + 1, va, need, acc, s =>
    if need ≤ acc.length then (acc, .all, s)
    else if va % 64 ≠ 0 then (acc, .malformed, s)
    else
      match walkRead r ctx va 16 s with
      | (.poison, s) => (acc, .poison, s)
      | (.unavail c, s) => (acc, .unavail c, s)
      | (.held, s) => (acc, .held, s)
      | (.ok h, s) =>
        if segmentBad h then (acc, .malformed, s)
        else
          let n := min (ofLeBytes (slice 0 h 0 2)) (need - acc.length)
          match readEntries r ctx (va + 16) n s with
          | (l, .all, s) =>
            let acc := acc ++ l
            if need ≤ acc.length then (acc, .all, s)
            else
              let next := ofLeBytes (slice 0 h 8 8)
              if next = 0 then (acc, .malformed, s) else walkList r ctx fuel next need acc s
          | (l, e, s) => (acc ++ l, e, s)

/-- A run read for poison only, line by line. -/
def probeRun (r ctx va n : Nat) (s : State) : WalkRes × State :=
  (linePieces va n).foldl (fun a pc =>
    match a with
    | (.ok _, s) => walkRead r ctx pc.1 pc.2 s
    | z => z) (.ok [], s)

/-- Plan of one sequence: its table entry, its queries and, in list mode, its list (R446, R448, R456). The channel of an
unavailable line stops the job; a held line leaves the plan undone. -/
def planSeq (r : Nat) (a : AttnDesc) (i : Nat) (s : State) : Except (Option Nat) Seq × State :=
  let blank : Seq := { base := 0, part := 0, len := 0, total := 0, pages := [], started := [], dealt := 0, status := .good }
  match walkRead r a.ctx (a.table + 32 * i) 32 s with
  | (.held, s) => (.error none, s)
  | (.unavail c, s) => (.error (some c), s)
  | (.poison, s) => (.ok { blank with status := .poisoned 0 }, s)
  | (.ok e, s) =>
    let w := fun k => ofLeBytes (slice 0 e (8 * k) 8)
    let len := if a.emit then 0 else w 2 % 2 ^ 32
    let total := (len + a.slots - 1) / a.slots
    let q : Seq := { blank with base := w 1 % 2 ^ 52, part := w 3 % 2 ^ 32, len := len, total := total }
    if 2 ^ 52 ≤ w 0 || 2 ^ 52 ≤ w 1 || w 1 % 65536 != 0 || 2 ^ 32 ≤ w 2 || 2 ^ 32 ≤ w 3 || 4194304 < total then
      (.ok { q with status := .malformed 0 }, s)
    else
      match probeRun r a.ctx (a.qva + i * a.qh * a.qrow) (a.qh * a.qrow) s with
      | (.held, s) => (.error none, s)
      | (.unavail c, s) => (.error (some c), s)
      | (qr, s) =>
        let q := match qr with
          | .poison => { q with status := .poisoned 0 }
          | _ => q
        if a.emit then (.ok q, s)
        else
          match walkList r a.ctx (total + 1) (w 0 % 2 ^ 52) total [] s with
          | (_, .held, s) => (.error none, s)
          | (_, .unavail c, s) => (.error (some c), s)
          | (l, e, s) =>
            let page := fun (j : Nat) => ({ set := l.getD j 0, first := 0, count := min a.slots (len - j * a.slots) } : KvPage)
            let q := { q with pages := (List.range l.length).map page }
            match e, q.status with
            | .poison, .good => (.ok { q with status := .poisoned l.length }, s)
            | .malformed, .good => (.ok { q with status := .malformed l.length }, s)
            | .malformed, _ => (.ok { q with status := .malformed 0 }, s)
            | _, _ => (.ok q, s)

/-! ### Arithmetic -/

/-- The partial of one query head over tokens: m, l and o as FP32 patterns (R451). -/
def chunkPartial (a : AttnDesc) (q : List Nat) (ks vs : List (List Nat)) : List Nat :=
  let scale := val32 a.scale
  let qv := q.map (typeValue a.q)
  let y := ks.map (fun k => rne32 (mulFp scale (dotFp qv (k.map (typeValue a.kv)))))
  let m := maxOf y
  match m with
  | .nan => List.replicate (a.dim + 2) 0x7FC00000
  | .inf false => List.replicate (a.dim + 2) 0x7FC00000
  | .inf true => bits32 (.inf true) :: List.replicate (a.dim + 1) 0
  | m =>
    let e := y.map (fun v => expFp (rne32 (subFp v m)))
    bits32 m :: bits32 (rne32 (sumFp e)) ::
      (List.range a.dim).map (fun d => bits32 (rne32 (sumFp (List.zipWith (fun w v => mulFp w (typeValue a.kv (v.getD d 0))) e vs))))

/-- The output row that merges partials, each m, l and o (R452). -/
def mergeRow (dim o : Nat) (parts : List (List Nat)) : List Nat :=
  if parts.isEmpty then List.replicate dim 0
  else if parts.any (fun p => p.any (fun v => val32 v == .nan)) then List.replicate dim (convertTo o false .nan)
  else
    let ms := parts.map (fun p => val32 (p.getD 0 0))
    let M := maxOf ms
    if M = .inf true then List.replicate dim 0
    else
      let w := ms.map (fun m => expFp (rne32 (subFp m M)))
      let L := sumFp (List.zipWith (fun x p => mulFp x (val32 (p.getD 1 0))) w parts)
      (List.range dim).map (fun d =>
        convertTo o false (rne32 (divFp (sumFp (List.zipWith (fun x p => mulFp x (val32 (p.getD (d + 2) 0))) w parts)) L)))

/-- A partial record (Table 12.4). -/
def partialRecord (code : Nat) (part : List Nat) (poison : Bool) (chunk tokens : Nat) : List Byte :=
  slice 0 ((part.drop 2).flatMap (leBytes 4)) 0 1024 ++ leBytes 4 (part.getD 0 0) ++ leBytes 4 (part.getD 1 0) ++
    leBytes 1 code ++ leBytes 1 (b2n poison) ++ leBytes 2 0 ++ leBytes 4 chunk ++ leBytes 4 tokens ++ List.replicate 44 0

/-! ### Tasks of an ATTN job -/

/-- Tile number of a sequence and KV head. -/
def attnTile (sq h : Nat) : Nat := sq * 64 + h

/-- Step number that marks a merge. -/
def mergeStep : Nat := 2 ^ 40

/-- The sequence at a position. -/
def Job.seq (j : Job) (i : Nat) : Seq :=
  j.seqs.getD i { base := 0, part := 0, len := 0, total := 0, pages := [], started := [], dealt := 0, status := .good }

/-- A job with one sequence replaced. -/
def Job.setSeq (j : Job) (i : Nat) (q : Seq) : Job := { j with seqs := j.seqs.set i q }

/-- Descriptors of an ATTN job. -/
def Job.attn (j : Job) : AttnDesc := attnOf j.d0 j.d1

/-- A task is dealt to the next cluster in order (R459). -/
def Job.dealTask (j : Job) (order : List Nat) (tile step : Nat) : Job :=
  { j with ready := j.ready ++ [Task.new tile step (dealTo order j.deal)], deal := j.deal + 1 }

/-- The chunks below `upTo` of a sequence get their tasks, one for each KV head. -/
def Job.dealChunks (j : Job) (order : List Nat) (sq upTo : Nat) : Job :=
  let q := j.seq sq
  let new := (List.range upTo).filter (fun c => q.dealt ≤ c)
  let j := new.foldl (fun j c => (List.range j.attn.heads).foldl (fun j h => j.dealTask order (attnTile sq h) c) j) j
  j.setSeq sq { q with dealt := max q.dealt upTo }

/-- Pages of a sequence: emitted so far, or P in list mode. -/
def Job.pageCount (j : Job) (sq : Nat) : Nat := if j.attn.emit then (j.seq sq).pages.length else (j.seq sq).total

/-- Chunks of a sequence whose tasks run: all of a good one; of a bad one, under PARTIALS, those before the first
affected page (R456). -/
def Job.liveChunks (j : Job) (sq : Nat) : Nat :=
  let a := j.attn
  match (j.seq sq).status with
  | .good => a.chunks (j.pageCount sq)
  | .malformed p => if a.partials then a.chunkOf p else 0
  | .poisoned p => if a.partials then a.chunkOf p else 0

/-- The merges that have become possible are dealt: emission closed, the sequence good, every chunk of the KV head
committed; each goes to the cluster of the last chunk (R459). -/
def Job.dealMerges (j : Job) (order : List Nat) (cl : Nat) : Job :=
  let a := j.attn
  if a.partials || j.open_ then j
  else
    ((List.range a.batch).flatMap (fun sq => (List.range a.heads).map (fun h => (sq, h)))).foldl (fun j x =>
      let tile := attnTile x.1 x.2
      let c := a.chunks (j.pageCount x.1)
      let done := (j.parts.filter (fun p => p.1 == tile)).length
      if (j.seq x.1).status == .good && done == c && !j.accs.any (fun e => e.1 == tile) then
        let j := { j with accs := Tab.set j.accs tile [] }
        if c = 0 then j.dealTask order tile mergeStep else { j with ready := j.ready ++ [Task.new tile mergeStep cl] }
      else j) j

/-- Pages of a chunk with their indices. -/
def Job.chunkPages (j : Job) (sq c : Nat) : List (Nat × KvPage) :=
  let a := j.attn
  let ps := (j.seq sq).pages
  ((List.range ps.length).filter (fun i => a.chunkOf i == c)).map (fun i => (i, ps.getD i ⟨0, 0, 0⟩))

/-- Tokens of a chunk. -/
def Job.chunkTokens (j : Job) (sq c : Nat) : Nat :=
  let a := j.attn
  if a.emit then (j.chunkPages sq c).foldl (fun n p => n + p.2.count) 0
  else
    let lo := a.chunkFirst c * a.slots
    let hi := if a.split = 0 then (j.seq sq).len else min ((a.chunkFirst c + a.split) * a.slots) (j.seq sq).len
    hi - lo

/-- How the load of a chunk task ended. -/
inductive ChunkLoad where
  | ok (l : List (List Nat))
  | poison (page : Nat)
  | unavail (c : Nat)
  | held

/-- The loads of a chunk task: its query rows, and the K and V slots of its pages (R443, R444, R447, R449). -/
def chunkLoad (j : Job) (sq h c : Nat) (s : State) : ChunkLoad × State :=
  let a := j.attn
  let e := typeBytes a.kv
  match walkRead j.ring a.ctx (a.qva + (sq * a.qh + h * a.group) * a.qrow) (a.group * a.qrow) s with
  | (.held, s) => (.held, s)
  | (.unavail k, s) => (.unavail k, s)
  | (.poison, s) => (.poison 0, s)
  | (.ok qs, s) =>
    (j.chunkPages sq c).foldl (fun acc pg =>
      match acc with
      | (.ok l, s) =>
        let va := (j.seq sq).base + (pg.2.set + h) * 65536
        let off := pg.2.first * a.dim * e
        let n := pg.2.count * a.dim * e
        (match walkRead j.ring a.ctx (va + off) n s with
        | (.held, s) => (.held, s)
        | (.unavail k, s) => (.unavail k, s)
        | (.poison, s) => (.poison pg.1, s)
        | (.ok k, s) =>
          match walkRead j.ring a.ctx (va + 32768 + off) n s with
          | (.held, s) => (.held, s)
          | (.unavail k, s) => (.unavail k, s)
          | (.poison, s) => (.poison pg.1, s)
          | (.ok v, s) => (.ok [l.getD 0 [], l.getD 1 [] ++ elemsOf e k, l.getD 2 [] ++ elemsOf e v], s))
      | z => z) (.ok [elemsOf (typeBytes a.q) qs, [], []], s)

/-- Rows of `n` elements of a list. -/
def rowsOfLen (n : Nat) (l : List Nat) : List (List Nat) := (List.range (l.length / n)).map (fun i => slice 0 l (i * n) n)

/-- The partials of a chunk task: m, l and o of each query head of its KV head. -/
def chunkPartials (a : AttnDesc) (loaded : List (List Nat)) : List (List Nat) :=
  (rowsOfLen a.dim (loaded.getD 0 [])).map (fun q => chunkPartial a q (rowsOfLen a.dim (loaded.getD 1 [])) (rowsOfLen a.dim (loaded.getD 2 [])))

/-- VA of the partial record of a chunk and query head (R454). -/
def AttnDesc.recordVa (a : AttnDesc) (part c q : Nat) : Nat := a.pva + (part + c * a.qh + q) * 1088

/-- VA of an output row (R447). -/
def AttnDesc.outVa (a : AttnDesc) (sq q : Nat) : Nat := a.ova + (sq * a.qh + q) * a.orow

/-- The output rows of a merge task. -/
def mergeRows (j : Job) (sq h : Nat) : List (Nat × List Byte) :=
  let a := j.attn
  let parts := (j.parts.filter (fun p => p.1 == attnTile sq h)).map (fun p => rowsOfLen (a.dim + 2) p.2.2)
  (List.range a.group).map (fun g =>
    (a.outVa sq (h * a.group + g), (mergeRow a.dim a.o (parts.map (fun p => p.getD g []))).flatMap (leBytes (typeBytes a.o))))

/-- What the end of a job writes for its malformed and poisoned sequences: NaN rows, or NaN records from the chunk of
the first affected page onward (R456). -/
def badRows (j : Job) : List (Nat × List Byte) :=
  let a := j.attn
  (List.range j.seqs.length).flatMap (fun sq =>
    let q := j.seq sq
    let page := match q.status with
      | .good => none
      | .malformed p => some p
      | .poisoned p => some p
    match page with
    | none => []
    | some p =>
      if a.partials then
        ((List.range (a.chunks (j.pageCount sq))).filter (fun c => a.chunkOf p ≤ c)).flatMap (fun c =>
          (List.range a.qh).map (fun i => (a.recordVa q.part c i,
            partialRecord a.code (List.replicate (a.dim + 2) 0x7FC00000) true c (j.chunkTokens sq c))))
      else
        (List.range a.qh).map (fun i => (a.outVa sq i, (List.replicate a.dim (convertTo a.o false .nan)).flatMap (leBytes (typeBytes a.o)))))

/-- Status of an ATTN job that ran to its end (R396, R457). -/
def attnStatus (j : Job) : Nat × Nat :=
  let idx := List.range j.seqs.length
  match idx.find? (fun i => match (j.seq i).status with | .malformed _ => true | _ => false) with
  | some i => (0x50, i * 2 ^ 22)
  | none =>
    match idx.findSome? (fun i => match (j.seq i).status with | .poisoned p => some (i * 2 ^ 22 + p % 2 ^ 22) | _ => none) with
    | some d => (0x20, d)
    | none => if j.retries = 0 then (0, 0) else (1, j.retries)

/-- An ATTN job is made and planned; the answer is none while a line is held. A line that is unavailable stops it. -/
def attnStart (r t cl : Nat) (f d : List W64) (s : State) : Option State :=
  let sel := s.get F.ATT_CFG_CLUSTERS
  let a := attnOf f d
  let order := s.dealOrder sel s.hatch.last
  let j := { newJob s.hatch.next r t cl .attn f d 0 with open_ := a.emit, sel := sel, first := order.headD cl }
  let step := fun (acc : Option (Job × State)) (i : Nat) =>
    match acc with
    | none => none
    | some (j, s) =>
      if j.bad.isSome then some (j, s)
      else match planSeq r a i s with
        | (.error none, _) => none
        | (.error (some c), s) => some (j.stop 0x21 c, s)
        | (.ok q, s) => some ({ j with seqs := j.seqs ++ [q] }, s)
  match (List.range a.batch).foldl step (some (j, s)) with
  | none => none
  | some (j, s) =>
    let j := if a.emit then j else (List.range j.seqs.length).foldl (fun j i => j.dealChunks order i (j.liveChunks i)) j
    let j := j.dealMerges order j.cl
    some (addJob j { s with hatch := { s.hatch with last := j.first } })

/-- ATTN at its instruction (R395, R459). -/
def attnIssue (r t : Nat) (f d : List W64) (p : Prog) (s : State) : State :=
  if attnBad f d then endAt r 0x50 0 p s
  else if (s.attnClusters (s.get F.ATT_CFG_CLUSTERS)).isEmpty then
    (issueDone r t 0x30 (clusterIsland p.cluster) p s).bump F.ATT_JOBS_COUNT 1
  else
    match attnStart r t p.cluster f d (s.setProg r (p.issue t)) with
    | some s' => s'
    | none => s

/-- ATTN. -/
def execAttn (r : Fin 132) (g : Guard) (da db t : Fin 16) (s : State) : Out :=
  kcs r g (encU 0x70 g da.val db.val t.val 0 0 0 0) [] (fun p s =>
    kindA r.val t.val p s (fun q s => attnIssue r.val t.val (q.dreg da.val) (q.dreg db.val) q s)) s

/-! ### AMERGE -/

/-- Sets of an AMERGE. -/
def mergeSets (f : List W64) : Nat := bits (fld f 2) 3 0 + 1
/-- Rows of an AMERGE. -/
def mergeCount (f : List W64) : Nat := bits (fld f 2) 23 8

/-- An AMERGE descriptor is malformed (Table 10.9). -/
def amergeBad (f : List W64) : Bool :=
  mergeCount f == 0 || bits (fld f 3) 13 12 == 3 ||
    !onlyBits f [mask 51 0, mask 51 0, mask 3 0 ||| mask 23 8, mask 13 0, 0, 0, 0, 0]

/-- A record has a nonzero field that must be zero, or an undefined HEAD_DIM code (Table 12.4). -/
def recordBad (b : List Byte) : Bool :=
  let code := ofLeBytes (slice 0 b 1032 1)
  7 ≤ code || (slice 0 b (4 * headDim code) (1024 - 4 * headDim code)).any (· != 0) || 2 ≤ ofLeBytes (slice 0 b 1033 1) ||
    (slice 0 b 1034 2).any (· != 0) || (slice 0 b 1044 44).any (· != 0)

/-- One record of a row: its bytes, or none when it is poisoned in memory. -/
def mergeLoad (j : Job) (row : Nat) (s : State) : Except (Option Nat) (List (Option (List Byte))) × State :=
  let f := j.d0
  (List.range (mergeSets f)).foldl (fun a k =>
    match a with
    | (.ok l, s) => (match walkRead j.ring (bits (fld f 3) 11 0) (bits (fld f 0) 51 0 + (k * mergeCount f + row) * 1088) 1088 s with
      | (.held, s) => (.error none, s)
      | (.unavail c, s) => (.error (some c), s)
      | (.poison, s) => (.ok (l ++ [none]), s)
      | (.ok b, s) => (.ok (l ++ [some b]), s))
    | z => z) (.ok [], s)

/-- What a row of AMERGE gives (R455). -/
inductive MergeOut where
  | malformed
  | row (data : List Nat) (poisoned : Option Nat)

/-- A row merged from its records. -/
def amergeRow (o : Nat) (recs : List (Option (List Byte))) : MergeOut :=
  let got := recs.filterMap id
  let codes := got.map (fun b => ofLeBytes (slice 0 b 1032 1))
  let code := codes.headD 0
  if got.any recordBad || codes.any (fun c => c != code) then .malformed
  else
    let dim := headDim code
    let bad := recs.findIdx? (fun r => match r with
      | none => true
      | some b => ofLeBytes (slice 0 b 1033 1) == 1)
    match bad with
    | some k => .row (if got.isEmpty then [] else List.replicate dim (convertTo o false .nan)) (some k)
    | none =>
      .row (mergeRow dim o (got.map (fun b => ofLeBytes (slice 0 b 1024 4) :: ofLeBytes (slice 0 b 1028 4) :: elemsOf 4 (slice 0 b 0 (4 * dim))))) none

/-- AMERGE at its instruction. -/
def amergeIssue (r t : Nat) (f : List W64) (p : Prog) (s : State) : State :=
  let sel := s.get F.ATT_CFG_CLUSTERS
  if amergeBad f then endAt r 0x50 0 p s
  else if (s.attnClusters sel).isEmpty then
    (issueDone r t 0x30 (clusterIsland p.cluster) p s).bump F.ATT_JOBS_COUNT 1
  else
    let order := s.dealOrder sel s.hatch.last
    let j := { newJob s.hatch.next r t p.cluster .merge f [] (mergeCount f) with sel := sel, first := order.headD p.cluster }
    let j := (List.range (mergeCount f)).foldl (fun j i => j.dealTask order i 0) j
    let s := addJob j (s.setProg r (p.issue t))
    { s with hatch := { s.hatch with last := j.first } }

/-- AMERGE. -/
def execAmerge (r : Fin 132) (g : Guard) (da t : Fin 16) (s : State) : Out :=
  kcs r g (encU 0x71 g da.val 0 t.val 0 0 0 0) [] (fun p s =>
    kindA r.val t.val p s (fun q s => amergeIssue r.val t.val (q.dreg da.val) q s)) s

/-! ### Page-list instructions -/

/-- A page-list access at an instruction: held leaves the program where it is; poison and unavailable lines end it
(R376, R391). -/
def plAccess (r : Nat) (p : Prog) (s0 : State) (x : WalkRes × State) (k : List Byte → State → State) : State :=
  match x with
  | (.held, _) => s0
  | (.poison, s) => endAt r 0x20 0 p s
  | (.unavail c, s) => endAt r 0x21 c p s
  | (.ok d, s) => k d s

/-- The cursor at the start of a segment (Table 10.8). -/
def cursorAt (va ctx : Nat) (h : List Byte) : List W64 :=
  [BitVec.ofNat 64 va, BitVec.ofNat 64 (ofLeBytes (slice 0 h 0 2) * 65536), BitVec.ofNat 64 (ofLeBytes (slice 0 h 8 8)),
   BitVec.ofNat 64 ctx, 0, 0, 0, 0]

/-- PLOPEN (R390). -/
def execPlopen (r : Fin 132) (g : Guard) (da : Fin 16) (a : Fin 32) (s : State) : Out :=
  kcs r g (encU 0x60 g da.val 0 0 a.val 0 0 0) [] (fun p s =>
    let va := bits (p.sreg a.val).toNat 51 0
    if va % 64 ≠ 0 then endAt r.val 0x50 0 p s
    else plAccess r.val p s (walkRead r.val p.ctx va 16 s) (fun h s =>
      if segmentBad h then endAt r.val 0x50 0 p s
      else s.setProg r.val ((p.setD da.val (cursorAt va p.ctx h)).next 1))) s

/-- A cursor that stands past the last entry of its segment moves to the next one; none when the list has ended, or the
segment's format is broken. -/
inductive CurRes where
  | at (c : List W64) | done | malformed | stop (x : WalkRes)
  deriving DecidableEq, Repr

/-- The cursor with its segment loaded, following links (R391). -/
def cursorLoad (r : Nat) (c : List W64) (s : State) : CurRes × State :=
  let idx := bits (fld c 1) 15 0
  let n := bits (fld c 1) 31 16
  if idx < n then (.at c, s)
  else
    let next := bits (fld c 2) 51 0
    if next = 0 then (.done, s)
    else if next % 64 ≠ 0 then (.malformed, s)
    else
      match walkRead r (bits (fld c 3) 11 0) next 16 s with
      | (.ok h, s) => if segmentBad h then (.malformed, s) else (.at (cursorAt next (bits (fld c 3) 11 0) h), s)
      | (x, s) => (.stop x, s)

/-- A cursor advanced by `k` entries within its segment. -/
def cursorMove (c : List W64) (k : Nat) : List W64 :=
  c.set 1 (BitVec.ofNat 64 (fld c 1 / 65536 * 65536 + (bits (fld c 1) 15 0 + k) % 65536))

/-- A cursor advanced by `k` entries: one that reaches the entry count loads the next segment (R391). -/
def cursorStep (r : Nat) (c : List W64) (k : Nat) (s : State) : CurRes × State :=
  match cursorLoad r (cursorMove c k) s with
  | (.done, s) => (.at (cursorMove c k), s)
  | x => x

/-- PLREAD (R391). -/
def execPlread (r : Fin 132) (g : Guard) (da : Fin 16) (a : Fin 32) (f : Fin 8) (s : State) : Out :=
  kcs r g (encU 0x61 g da.val 0 0 a.val 0 0 f.val) [] (fun p s =>
    match cursorLoad r.val (p.dreg da.val) s with
    | (.done, s) => s.setProg r.val (((p.setS a.val 0).setP f.val true).next 1)
    | (.malformed, s) => endAt r.val 0x50 0 p s
    | (.stop x, s') => plAccess r.val p s (x, s') (fun _ s => s)
    | (.at c, s') =>
      plAccess r.val p s (walkRead r.val (bits (fld c 3) 11 0) (fld c 0 + 16 + 4 * bits (fld c 1) 15 0) 4 s') (fun d s2 =>
        match cursorStep r.val c 1 s2 with
        | (.at n, s3) =>
          s3.setProg r.val ((((p.setS a.val (BitVec.ofNat 64 (ofLeBytes d))).setP f.val false).setD da.val n).next 1)
        | (.stop x, s3) => plAccess r.val p s (x, s3) (fun _ s => s)
        | (_, s3) => endAt r.val 0x50 0 p s3)) s

/-- A cursor skipped forward, segment by segment; at the end of the list it stands still. -/
def cursorSkip (r : Nat) : Nat → List W64 → Nat → State → CurRes × State
  | 0, c, _, s => (.at c, s)
  | fuel + 1, c, k, s =>
    if k = 0 then (.at c, s)
    else
      match cursorLoad r c s with
      | (.done, s) => (.at c, s)
      | (.at d, s) =>
        let here := min k (bits (fld d 1) 31 16 - bits (fld d 1) 15 0)
        match cursorStep r d here s with
        | (.at n, s) => cursorSkip r fuel n (k - here) s
        | x => x
      | x => x

/-- PLSKIP (R391). -/
def execPlskip (r : Fin 132) (g : Guard) (da : Fin 16) (a : Fin 32) (s : State) : Out :=
  kcs r g (encU 0x62 g da.val 0 0 a.val 0 0 0) [] (fun p s =>
    match cursorSkip r.val ((p.sreg a.val).toNat + 1) (p.dreg da.val) (p.sreg a.val).toNat s with
    | (.at c, s) => s.setProg r.val ((p.setD da.val c).next 1)
    | (.done, s) => s.setProg r.val (p.next 1)
    | (.malformed, s) => endAt r.val 0x50 0 p s
    | (.stop x, s') => plAccess r.val p s (x, s') (fun _ s => s)) s

/-- The open emit job on a tally of a ring (R392). -/
def State.emitJob (s : State) (r t : Nat) : Option Job :=
  s.hatch.jobs.find? (fun j => j.ring == r && j.t == t && j.kind == .attn && j.open_)

/-- Emissions not yet taken by a task: none for a sequence or a job of which no further task runs (R393). -/
def Job.unconsumed (j : Job) : Nat :=
  if j.bad.isSome then 0
  else j.seqs.foldl (fun n q => if q.status == .good then
    n + ((List.range q.pages.length).filter (fun i => !q.started.contains (j.attn.chunkOf i))).length else n) 0

/-- PLEMIT (R393). -/
def execPlemit (r : Fin 132) (g : Guard) (t : Fin 16) (a b c : Fin 32) (s : State) : Out :=
  kcs r g (encU 0x63 g 0 0 t.val a.val b.val c.val 0) [] (fun p s =>
    match s.emitJob r.val t.val with
    | none => endAt r.val 0x50 0 p s
    | some j =>
      let sq := (p.sreg a.val).toNat
      let first := bits (p.sreg c.val).toNat 15 0
      let count := bits (p.sreg c.val).toNat 31 16
      if j.attn.batch ≤ sq ∨ count = 0 ∨ j.attn.slots < first + count then endAt r.val 0x50 0 p s
      else if 256 ≤ j.unconsumed then s
      else
        let q := j.seq sq
        let j := j.setSeq sq { q with pages := q.pages ++ [⟨bits (p.sreg b.val).toNat 31 0, first, count⟩] }
        let upTo := match q.status with
          | .good => j.attn.chunkOf q.pages.length + 1
          | _ => 0
        let order := s.dealOrder j.sel ((j.first + 3) % 4)
        (putJob (if j.bad.isSome then j else j.dealChunks order sq upTo) s).setProg r.val (p.next 1)) s

/-- Emission of a job is closed, and the merges that waited for it are dealt (R394). -/
def closeEmit (j : Job) (s : State) : State :=
  let j := { j with open_ := false }
  putJob (if j.bad.isSome then j else j.dealMerges (s.dealOrder j.sel ((j.first + 3) % 4)) j.cl) s

/-- PLEND (R394). -/
def execPlend (r : Fin 132) (g : Guard) (t : Fin 16) (s : State) : Out :=
  kcs r g (encU 0x64 g 0 0 t.val 0 0 0 0) [] (fun p s =>
    match s.emitJob r.val t.val with
    | none => endAt r.val 0x50 0 p s
    | some j => (closeEmit j s).setProg r.val (p.next 1)) s

end Sys2Proof.Machine
end

