-- ==== Sys2Proof/Machine/HatchRun.lean ====
section
/-! DEFINITION. The dispatchers: placing tasks on engines, the end of a task with its check, re-runs, and the end of a job
(R425, R429 to R436, R439, R457, R459). -/

namespace Sys2Proof.Machine

/-- First tiles of a job; attention jobs have none. -/
def Job.tiles (j : Job) : Nat :=
  match j.kind with
  | .hgemm => (gemmOf j.d0).tiles
  | .hsmax => bits (fld j.d0 3) 23 0
  | .helt => (bits (fld j.d0 4) 39 0 + heltTile - 1) / heltTile
  | _ => 0

/-- Tile order. -/
def taskLt (a b : Task) : Bool := a.tile < b.tile || (a.tile == b.tile && a.step < b.step)

/-- A task may run on an engine: one that has not run it for R431, and another than the one on which it failed last,
unless no other engine of the cluster is in service (R431, R433). -/
def State.mayRun (s : State) (t : Task) (cl p : Nat) : Bool :=
  t.cl == cl && !t.prior.any (fun x => x.1 == cl * 16 + p) &&
    (t.fails.getLast? != some (cl * 16 + p) || !(List.range 13).any (fun q => q != p && s.engineIn cl q))

/-- The lowest of the ready tasks that an engine may run. -/
def State.lowest (s : State) (cl p : Nat) (l : List Task) : Option Task :=
  (l.filter (fun t => s.mayRun t cl p)).foldl (fun a t => match a with
    | none => some t
    | some b => if taskLt t b then some t else some b) none

/-- The task of a job that an engine takes next; true when it is the first task of a fresh tile. -/
def State.nextOf (s : State) (j : Job) (cl p : Nat) : Option (Task × Bool) :=
  if j.bad.isSome then none
  else
    let fresh := if j.fresh < j.tiles ∧ j.cl = cl then some (Task.new j.fresh 0 cl) else none
    match s.lowest cl p j.ready, fresh with
    | some t, some f => if taskLt f t then some (f, true) else some (t, false)
    | some t, none => some (t, false)
    | none, some f => some (f, true)
    | none, none => none

/-- Rank of a tally for the round-robin order. -/
def Job.key (j : Job) : Nat := j.ring * 16 + j.t + 1

/-- The job served next: a re-run of the cluster first, then the tally next in round-robin order (R433, R435). -/
def State.pickTask (s : State) (cl p : Nat) : Option (Job × Task × Bool) :=
  let redo := s.hatch.jobs.findSome? (fun j =>
    if j.bad.isSome then none else (s.lowest cl p (j.ready.filter (·.redo))).map (fun t => (j, t, false)))
  match redo with
  | some x => some x
  | none =>
    let last := Tab.get 0 s.hatch.rr cl
    let cands := s.hatch.jobs.filterMap (fun j => (s.nextOf j cl p).map (fun x => (j, x.1, x.2)))
    let best := fun (l : List (Job × Task × Bool)) => l.foldl (fun a x => match a with
      | none => some x
      | some (y : Job × Task × Bool) => if x.1.key < y.1.key then some x else some y) (none : Option (Job × Task × Bool))
    (best (cands.filter (fun x => last < x.1.key))).or (best cands)

/-- A job without one ready task. -/
def Job.dropReady (j : Job) (t : Task) : Job := { j with ready := j.ready.filter (fun x => !(x.tile == t.tile && x.step == t.step)) }

/-- Loads of a task other than an attention task. -/
def loadTask (j : Job) (t : Task) (s : State) : LoadRes × State :=
  match j.kind with
  | .hgemm => gemmLoad j.ring j.d0 t.tile t.step s
  | .hsmax => hsmaxLoad j.ring j.d0 t.tile s
  | .helt => heltLoad j.ring j.d0 t.tile s
  | _ => (.ok [], s)

/-- A task is placed on an engine with its inputs loaded; a poisoned or unavailable load stops the job (R435, R436). -/
def placeTask (j : Job) (t : Task) (fresh : Bool) (e : Nat) (s : State) : State :=
  let j := if fresh then { j with fresh := j.fresh + 1 } else j.dropReady t
  let j := if j.kind = .attn ∧ t.step ≠ mergeStep then
      (let q := j.seq (t.tile / 64); j.setSeq (t.tile / 64) { q with started := NSet.ins q.started t.step }) else j
  let s := { s with hatch := { s.hatch with rr := Tab.set s.hatch.rr (e / 16) j.key } }
  match t.loaded with
  | some _ => putJob { j with run := j.run ++ [(e, { t with redo := false })] } s
  | none =>
    match loadTask j t s with
    | (.held, s) => s
    | (.bad st d, s) => putJob (j.stop st d) s
    | (.ok l, s) =>
      let l := if j.kind = .attn ∨ j.kind = .merge then none else some l
      putJob { j with run := j.run ++ [(e, { t with loaded := l, redo := false })] } s

/-- A held load leaves everything as it was. -/
def State.loadHeld (s : State) (j : Job) (t : Task) : Bool :=
  t.loaded.isNone && (match (loadTask j t s).1 with | .held => true | _ => false)

/-- TASK_DISPATCH: a physical engine that is in service and free takes the next ready task. -/
def execTaskDispatch (cl : Fin 4) (eng : Fin 13) (s : State) : Out :=
  let e := cl.val * 16 + eng.val
  if !s.engineIn cl.val eng.val || !s.engineFree e then .next s
  else
    match s.pickTask cl.val eng.val with
    | none => .next s
    | some (j, t, fresh) => if s.loadHeld j t then .next s else .next (placeTask j t fresh e s)

/-! ### The end of a task -/

/-- A check failure is counted against its engine, which is retired at RETIRE_CHK (R433, R475). -/
def countFail (e ring : Nat) (s : State) : State :=
  let cl := e / 16
  let p := e % 16
  let s := s.bump (F.CC_HCHK_FAILS cl p) 1
  let s := unitEvent Ev.HATCH_CHECK_FAIL .hatch cl p ((s.logicalOf .hatch cl p).getD 0xFF) ring s
  if s.get F.RPR_CFG_RETIRE_CHK ≤ s.get (F.CC_HCHK_FAILS cl p) then retireUnit .hatch cl p ring s else s

/-- A job counts a re-run. -/
def countRerun (j : Job) (cl : Nat) (s : State) : Job × State :=
  ({ j with retries := j.retries + 1 }, s.bump (F.CC_RERUNS_COUNT cl) 1)

/-- A job as the state holds it. -/
def State.job (s : State) (id : Nat) : Option Job := s.hatch.jobs.find? (fun j => j.id == id)

/-- A task has failed its check: it runs again first, on another engine, until it has failed on RERUN_MAX engines, when
its tally will complete UNIT_FAULT (R433). `j` no longer runs the task. -/
def failTask (j : Job) (t : Task) (e : Nat) (s : State) : State :=
  let cl := e / 16
  let t := { t with fails := NSet.ins (t.fails.filter (· != e)) e, prior := [] }
  let t := { t with fails := t.fails.filter (· != e) ++ [e] }
  if s.get (F.CC_CFG_RERUN_MAX cl) ≤ t.fails.length then
    countFail e j.ring (putJob (j.stop 0x30 (clusterIsland cl)) s)
  else if j.bad.isSome then countFail e j.ring (putJob j s)
  else
    let (j, s) := countRerun j cl s
    countFail e j.ring (putJob { j with ready := j.ready ++ [{ t with redo := true }] } s)

/-- A job takes the result of writing a task's rows: none while a line is held. -/
def writeRows (j : Job) (ctx : Nat) (rows : List (Nat × List Byte)) (s : State) : Option (Job × State) :=
  match storeRows j.ring ctx rows s with
  | (.error none, _) => none
  | (.error (some (st, d)), s) => some (j.stop st d, s)
  | (.ok (), s) => some (j, s)

/-- A committed task is counted. -/
def countTask (cl : Nat) (s : State) : State := s.bump (F.CC_TASKS_COUNT cl) 1

/-- A HGEMM task commits its accumulators: the next task of its chain becomes ready, or the tile is written (R425,
R426). -/
def commitGemm (j : Job) (t : Task) (res : List Nat) (s : State) : Option State :=
  let g := gemmOf j.d0
  let s := countTask t.cl s
  if t.step + 1 < g.steps then
    some (putJob { j with accs := Tab.set j.accs t.tile res, ready := j.ready ++ [Task.new t.tile (t.step + 1) t.cl] } s)
  else
    (writeRows { j with accs := j.accs.del t.tile, left := j.left - 1 } g.ctx (gemmRows g (g.box t.tile t.step) (t.loaded.getD []) res) s).map
      (fun x => putJob x.1 x.2)

/-- Two of three results agree: the result, and the engine that dissents. -/
def twoOfThree (l : List (Nat × List Nat)) : Option (List Nat × Nat) :=
  match l with
  | [(a, x), (b, y), (c, z)] =>
    if x = y then some (x, c) else if x = z then some (x, b) else if y = z then some (y, a) else none
  | _ => none

/-- The end of a HGEMM task: `wrong` is what a faulty engine holds instead of the result, and `differ` says that its two
epilogue datapaths disagree (R429 to R433). -/
def gemmDone (j : Job) (t : Task) (e : Nat) (wrong : Option (List Nat)) (differ : Bool) (s : State) : Option State :=
  let g := gemmOf j.d0
  let x := g.box t.tile t.step
  let loaded := t.loaded.getD []
  let acc := Tab.get [] j.accs t.tile
  let res := match wrong with
    | some w => (List.range (x.ni * x.nj)).map (fun q => w.getD q 0 % 2 ^ 32)
    | none => gemmResult g x t.step loaded acc
  let epi := differ && t.step + 1 == g.steps
  if t.prior.isEmpty && !gemmSpecial g loaded (gemmStart x t.step loaded acc) res then
    if gemmCheck g x t.step loaded acc res && !epi then commitGemm j t res s else some (failTask j t e s)
  else if epi then some (failTask j t e s)
  else
    let prior := t.prior ++ [(e, res)]
    let again := some (putJob { j with ready := j.ready ++ [{ t with prior := prior }] } s)
    if prior.length < 2 then again
    else if prior.length = 2 then
      (if (prior.getD 0 (0, [])).2 = res then commitGemm j { t with prior := [] } res s else again)
    else
      match twoOfThree prior with
      | some (r, bad) =>
        (match commitGemm j { t with prior := [] } r s with
        | none => none
        | some s => some (countFail bad j.ring (match s.job j.id with
          | some k => (let (k, s) := countRerun k t.cl s; putJob k s)
          | none => s)))
      | none =>
        let (j, s) := countRerun j t.cl s
        some (putJob { j with ready := j.ready ++ [{ t with prior := [], redo := true }] } s)

/-- The end of a HSMAX or HELT task that passed its check. -/
def rowsDone (j : Job) (t : Task) (s : State) : Option State :=
  let loaded := t.loaded.getD []
  let rows := if j.kind = .hsmax then hsmaxRows j.d0 t.tile loaded else heltRows j.d0 t.tile loaded
  (writeRows { j with left := j.left - 1 } (bits (fld j.d0 0) 63 52) rows (countTask t.cl s)).map (fun x => putJob x.1 x.2)

/-- The merges that a job's state allows are dealt. -/
def mergeNow (j : Job) (cl : Nat) (s : State) : Job := j.dealMerges (s.dealOrder j.sel ((j.first + 3) % 4)) cl

/-- A sequence met poison at a page; the lowest page counts (R396, R456). -/
def SeqStatus.poison (st : SeqStatus) (page : Nat) : SeqStatus :=
  match st with
  | .good => .poisoned page
  | .poisoned p => .poisoned (min p page)
  | x => x

/-- The end of a chunk task: its pages are read, and its partials are kept, or written as records under PARTIALS (R451,
R454, R456, R459). -/
def chunkDone (j : Job) (t : Task) (e : Nat) (differ : Bool) (s0 : State) : Option State :=
  let a := j.attn
  let sq := t.tile / 64
  let h := t.tile % 64
  if j.open_ ∧ (a.split = 0 ∨ (j.seq sq).pages.length < (t.step + 1) * a.split) then none
  else
    let (l, s) := match t.loaded with
      | some l => (ChunkLoad.ok l, s0)
      | none => chunkLoad j sq h t.step s0
    match l with
    | .held => none
    | .unavail c => some (putJob (j.stop 0x21 c) s)
    | .poison p =>
      let q := j.seq sq
      some (putJob (j.setSeq sq { q with status := q.status.poison p }) (s.bump F.ATT_PAGES_COUNT (p + 1 - a.chunkFirst t.step)))
    | .ok l =>
      let s := if t.loaded.isNone then s.bump F.ATT_PAGES_COUNT (j.chunkPages sq t.step).length else s
      if differ then some (failTask j { t with loaded := some l } e s)
      else
        let parts := chunkPartials a l
        let s := (countTask t.cl s).bump F.ATT_CHUNKS_COUNT 1
        if a.partials then
          (writeRows j a.ctx ((List.range a.group).map (fun g =>
            (a.recordVa (j.seq sq).part t.step (h * a.group + g),
             partialRecord a.code (parts.getD g []) false t.step (j.chunkTokens sq t.step)))) s).map (fun x => putJob x.1 x.2)
        else
          let keep := (j.parts.filter (fun p => p.1 < t.tile || (p.1 == t.tile && p.2.1 < t.step)))
          let rest := (j.parts.filter (fun p => t.tile < p.1 || (p.1 == t.tile && t.step < p.2.1)))
          let j := { j with parts := keep ++ [(t.tile, t.step, parts.flatten)] ++ rest }
          some (putJob (mergeNow j t.cl s) s)

/-- The end of a merge task: the rows are written (R452). -/
def mergeDone (j : Job) (t : Task) (e : Nat) (differ : Bool) (s : State) : Option State :=
  if differ then some (failTask j t e s)
  else
    let a := j.attn
    let s := (countTask t.cl s).bump F.ATT_ROWS_COUNT a.group
    (writeRows j a.ctx (mergeRows j (t.tile / 64) (t.tile % 64)) s).map (fun x => putJob x.1 x.2)

/-- The end of an AMERGE task: its row is written; a malformed record stops the job (R455). -/
def amergeDone (j : Job) (t : Task) (e : Nat) (differ : Bool) (s : State) : Option State :=
  let f := j.d0
  let o := qoType (bits (fld f 3) 13 12)
  match mergeLoad j t.tile s with
  | (.error none, _) => none
  | (.error (some c), s) => some (putJob (j.stop 0x21 c) s)
  | (.ok recs, s) =>
    if differ then some (failTask j t e s)
    else
      match amergeRow o recs with
      | .malformed => some (putJob (j.stop 0x50 0) s)
      | .row d bad =>
        let s := (countTask t.cl s).bump F.ATT_ROWS_COUNT 1
        let j := match bad with
          | some k => { j with parts := j.parts ++ [(t.tile, k, [])] }
          | none => j
        let e := typeBytes o
        (writeRows { j with left := j.left - 1 } (bits (fld f 3) 11 0)
          [(bits (fld f 1) 51 0 + t.tile * d.length * e, d.flatMap (leBytes e))] s).map (fun x => putJob x.1 x.2)

/-- TILE_TASK_DONE: the task on an engine ends; it is checked and commits, or is discarded and runs again. A held line
leaves it running. -/
def execTileTaskDone (cl : Fin 4) (eng : Fin 13) (wrong : Option (List Nat)) (differ : Bool) (s : State) : Out :=
  let e := cl.val * 16 + eng.val
  match s.hatch.jobs.find? (fun j => j.run.any (fun x => x.1 == e)) with
  | none => .next s
  | some j =>
    match j.run.find? (fun x => x.1 == e) with
    | none => .next s
    | some (_, t) =>
      let j := { j with run := j.run.filter (fun x => x.1 != e) }
      let s' := match j.kind with
        | .hgemm => gemmDone j t e wrong differ s
        | .merge => amergeDone j t e differ s
        | .attn => if t.step = mergeStep then mergeDone j t e differ s else chunkDone j t e differ s
        | _ => if differ then some (failTask j t e s) else rowsDone j t s
      .next (s'.getD s)

/-! ### The end of a job -/

/-- No further task of a job will run. -/
def Job.ended (j : Job) : Bool :=
  j.run.isEmpty && !j.open_ && (j.bad.isSome || (match j.kind with
    | .attn => j.ready.isEmpty
    | .merge => j.ready.isEmpty
    | _ => j.left == 0))

/-- A job is taken from the dispatchers. -/
def dropJob (id : Nat) (s : State) : State := { s with hatch := { s.hatch with jobs := s.hatch.jobs.filter (fun j => j.id != id) } }

/-- Status of an AMERGE that ran to its end: the lowest poisoned row and set (R455, R457). -/
def amergeStatus (j : Job) : Nat × Nat :=
  match j.parts.foldl (fun a p => match a with
    | none => some (p.1, p.2.1)
    | some b => if p.1 < b.1 ∨ (p.1 = b.1 ∧ p.2.1 < b.2) then some (p.1, p.2.1) else some b) (none : Option (Nat × Nat)) with
  | some (row, k) => (0x20, row * 16 + k)
  | none => if j.retries = 0 then (0, 0) else (1, j.retries)

/-- A job that no engine in service can go on with ends with UNIT_FAULT (R459, Table 11.9). -/
def State.stranded (s : State) (j : Job) : Job :=
  let none_ := if j.kind = .attn ∨ j.kind = .merge then (s.attnClusters j.sel).isEmpty else !s.anyEngine j.cl
  if none_ && !j.ended then j.stop 0x30 (clusterIsland j.cl) else j

/-- A job completes: the rows of its bad sequences are written, it is counted, and its tally becomes DONE. The answer
is none while it has not ended or a line is held. -/
def finishJob (j : Job) (s : State) : Option State :=
  let j := s.stranded j
  if !j.ended then none
  else
    let attn := j.kind == .attn || j.kind == .merge
    let w := if j.kind == .attn && j.bad.isNone then writeRows j j.attn.ctx (badRows j) s else some (j, s)
    match w with
    | none => none
    | some (j, s) =>
      let (st, d) := match j.bad with
        | some x => x
        | none => match j.kind with
          | .attn => attnStatus j
          | .merge => amergeStatus j
          | _ => if j.retries = 0 then (0, 0) else (1, j.retries)
      let s := if attn then s.bump F.ATT_JOBS_COUNT 1 else s
      let bad := if j.kind == .attn then (j.seqs.filter (fun q => match q.status with | .poisoned _ => true | _ => false)).length
        else if j.kind == .merge then j.parts.length else 0
      some (tallyDone j.ring j.t st (satAt 4294967295 d) (dropJob j.id (s.bump F.ATT_POISONED_COUNT bad)))

/-- The jobs of a partition are cancelled (R89). -/
def cancelHatch (f : Nat → Bool) (s : State) : State :=
  { s with hatch := { s.hatch with jobs := s.hatch.jobs.filter (fun j => !f j.ring) } }

/-- A task that runs on an engine taken away is discarded and runs again: on the same cluster, or on another selected
cluster when its own is out of service (R475, Table 11.9). -/
def redoOn (e : Nat) (s : State) : State :=
  s.each s.hatch.jobs (fun j s =>
    match j.run.find? (fun x => x.1 == e) with
    | none => s
    | some (_, t) =>
      let order := s.dealOrder j.sel ((j.first + 3) % 4)
      let cl := if s.anyEngine t.cl then t.cl else dealTo order j.deal
      let (k, s) := countRerun { j with run := j.run.filter (fun x => x.1 != e) } t.cl s
      putJob { k with ready := k.ready ++ [{ t with cl := cl, redo := true, prior := [] }] } s)

end Sys2Proof.Machine
end

