-- ==== Sys2Proof/Machine/Rings.lean ====
section
/-! DEFINITION. Ring configuration, doorbells, entries, completions, pauses, and the programs that start and end on a
ring (R329 to R361, R382, R388). -/

namespace Sys2Proof.Machine

/-- 32-bit difference of two ring indices. -/
def sub32 (a b : Nat) : Nat := (a + 4294967296 - b % 4294967296) % 4294967296

/-- SIZE of a ring (Table 09.7). -/
def State.ringSize (s : State) (r : Nat) : Nat := 2 ^ s.get (F.PW_RING_CFG_LOG2SIZE (r / 8) (r % 8))
/-- SQ_TAIL. -/
def State.sqTail (s : State) (r : Nat) : Nat := s.get (F.PW_RING_SQ_TAIL_TAIL (r / 8) (r % 8))
/-- SQ_HEAD. -/
def State.sqHead (s : State) (r : Nat) : Nat := s.get (F.PW_RING_SQ_HEAD_HEAD (r / 8) (r % 8))
/-- CQ_TAIL. -/
def State.cqTail (s : State) (r : Nat) : Nat := s.get (F.PW_RING_CQ_TAIL_TAIL (r / 8) (r % 8))
/-- CQ_HEAD. -/
def State.cqHead (s : State) (r : Nat) : Nat := s.get (F.PW_RING_CQ_HEAD_HEAD (r / 8) (r % 8))

/-- The completion queue is full (R351). -/
def State.cqFull (s : State) (r : Nat) : Bool := sub32 (s.cqTail r) (s.cqHead r) == s.ringSize r

/-- CQ_FULL follows the indices (R351). -/
def syncCqFull (r : Nat) (s : State) : State := s.putB (F.PW_RING_STATUS_CQ_FULL (r / 8) (r % 8)) (s.cqFull r)

/-- All four indices are zero (R334, R359). -/
def zeroIndices (r : Nat) (s : State) : State :=
  let p := r / 8
  let k := r % 8
  syncCqFull r ((((s.put (F.PW_RING_SQ_HEAD_HEAD p k) 0).put (F.PW_RING_SQ_TAIL_TAIL p k) 0).put (F.PW_RING_CQ_TAIL_TAIL p k) 0).put
    (F.PW_RING_CQ_HEAD_HEAD p k) 0)

/-- CFG_ERR is set. -/
def cfgErr (r : Nat) (s : State) : State := s.put (F.PW_RING_STATUS_CFG_ERR (r / 8) (r % 8)) 1

/-- A STOPPING ring with no program left and no completion to write becomes DISABLED (R334). -/
def settleRing (r : Nat) (s : State) : State :=
  if s.ringState r = 3 ∧ (s.ring r).prog.isNone ∧ (s.ring r).held.isNone then setRingState r 0 s else s

/-- The ring's EN changes from 0 to 1: its indices are zeroed and it becomes RUNNING, or PAUSED while the steward holds
it (R334, R354). Entries still in the sequencer from before are dropped. -/
def enableRing (r : Nat) (s : State) : State :=
  let s := zeroIndices r (s.put (F.PW_RING_CFG_EN (r / 8) (r % 8)) 1)
  let s := setRingState r 1 (s.setRing r { s.ring r with fetched := [] })
  if (s.ring r).hold then pauseRing r 4 s else s

/-- The ring's EN changes from 1 to 0 (R334). -/
def disableRing (r : Nat) (s : State) : State :=
  settleRing r (setRingState r 3 (s.put (F.PW_RING_CFG_EN (r / 8) (r % 8)) 0))

/-- A write to a ring base (R333). -/
def ringBaseWrite (r : Nat) (cq : Bool) (v : Nat) (s : State) : State :=
  if s.ringState r ≠ 0 then cfgErr r s
  else if cq then (s.put (F.PW_RING_CQ_BASE_ADDR (r / 8) (r % 8)) (bits v 63 12)).put (F.PW_RING_CQ_BASE_LOC (r / 8) (r % 8)) (v % 2)
  else (s.put (F.PW_RING_SQ_BASE_ADDR (r / 8) (r % 8)) (bits v 63 12)).put (F.PW_RING_SQ_BASE_LOC (r / 8) (r % 8)) (v % 2)

/-- A doorbell of tail T (R341, R342). -/
def applyDoorbell (r t : Nat) (s : State) : State :=
  if s.ringState r ≠ 1 ∧ s.ringState r ≠ 2 then s
  else
    let d := sub32 t (s.sqTail r)
    if d = 0 then s
    else if 2147483648 ≤ d then s.bump (F.PW_RING_STATUS_DB_STALE (r / 8) (r % 8)) 1
    else if sub32 t (s.sqHead r) ≤ s.ringSize r then s.put (F.PW_RING_SQ_TAIL_TAIL (r / 8) (r % 8)) t
    else pauseRing r 2 s

/-! ### Completions -/

/-- A ring's completion interrupt: sent, or due at the end of the gap (R350). Ring k uses vector k of its VF
(Table 20.3). -/
def notifyRing (r : Nat) (s : State) : State :=
  let gap := s.get (F.PW_RING_IRQ_GAP_US (r / 8) (r % 8)) * 400
  let x := s.ring r
  let early := match x.lastIrq with
    | some t => decide (s.ticks < t + gap)
    | none => false
  if early then s.setRing r { x with irqDue := true }
  else sendMsix (r / 8 + 1) (r % 8) (s.setRing r { x with lastIrq := some s.ticks, irqDue := false })

/-- The 32 bytes of a completion entry (Table 09.2). -/
def completionBytes (size time : Nat) (c : Completion) : List Byte :=
  let phase := (c.index / size + 1) % 2
  leBytes 8 (c.index + c.status * 2 ^ 32 + phase * 2 ^ 40 + b2n c.restarted * 2 ^ 41 + c.pc * 2 ^ 48) ++
    leBytes 8 (c.user + c.detail * 2 ^ 32) ++ leBytes 8 c.ret ++ leBytes 8 time

/-- A completion has been written: CQ_TAIL advances, and the ring signals it and pauses as it says (R350, Table 09.4). -/
def completionWritten (r : Nat) (c : Completion) (s : State) : State :=
  let s := s.setRing r { s.ring r with held := none }
  let s := syncCqFull r (s.incr (F.PW_RING_CQ_TAIL_TAIL (r / 8) (r % 8)) 1)
  let s := if c.notify then notifyRing r s else s
  settleRing r (if c.pauses && s.ringState r == 1 then pauseRing r 3 s else s)

/-- A completion entry is written at CQ_TAIL, or held: while the queue is full, while a host queue's link is down, and
while a line is held. Poison, an unavailable line or a failed host DMA pauses the ring; a violation is discarded
silently (R349 to R351, R358, Table 09.6). -/
def postCompletion (r : Nat) (c : Completion) (dmaFail : Bool) (s : State) : State :=
  let p := r / 8
  let k := r % 8
  let hold := fun (t : State) => t.setRing r { t.ring r with held := some c }
  if s.cqFull r then syncCqFull r (hold s)
  else
    let addr := s.get (F.PW_RING_CQ_BASE_ADDR p k) * 4096 + s.cqTail r % s.ringSize r * 32
    let b := completionBytes (s.ringSize r) s.now c
    if s.on (F.PW_RING_CQ_BASE_LOC p k) then
      if !s.pwr.pcieUp then hold s
      else if dmaFail then pauseRing r 5 (hold s)
      else completionWritten r c (s.host (.dma addr b))
    else
      let (w, s') := ringWrite r (s.get (F.PW_RING_CFG_CTX p k)) (addr % 2 ^ 52) b s
      if w.held then hold s
      else if w.poison || w.unavail.isSome then pauseRing r 5 (hold s')
      else completionWritten r c s'

/-- USER and NOTIFY of an entry. -/
def EntryCopy.w0 (e : EntryCopy) : Nat := fld e.words 0

/-- RESTARTABLE. -/
def EntryCopy.restartable (e : EntryCopy) : Bool := bit e.w0 8

/-- The completion of an entry whose program never started. -/
def unstarted (e : EntryCopy) (status detail pc : Nat) (s : State) : Completion :=
  { index := e.index, status := status, restarted := false, pc := pc, user := bits e.w0 63 32, detail := detail,
    ret := (Config.unstartedRet s.freeCtr).toNat, notify := bit e.w0 9, pauses := false }

/-- The oldest fetched entry completes without having started. -/
def completeUnstarted (r : Nat) (e : EntryCopy) (status detail pc : Nat) (s : State) : State :=
  let x := s.ring r
  postCompletion r (unstarted e status detail pc s) false
    ((s.setRing r { x with fetched := x.fetched.drop 1, consec := 0 }).draw)

/-! ### Entries and programs -/

/-- Bytes of a list as 64-bit words. -/
def wordsOf (b : List Byte) : List W64 :=
  (List.range (b.length / 8)).map (fun i => BitVec.ofNat 64 (ofLeBytes (slice 0 b (8 * i) 8)))

/-- An entry has been copied: SQ_HEAD passes it (R338). -/
def addEntry (r : Nat) (e : EntryCopy) (s : State) : State :=
  let x := s.ring r
  (s.setRing r { x with fetched := x.fetched ++ [e] }).incr (F.PW_RING_SQ_HEAD_HEAD (r / 8) (r % 8)) 1

/-- The next entry is fetched; `host` is its content when the queue lies in host memory. Nothing is fetched while the
link or a line is held (R331, R338, Table 09.6). -/
def fetchEntry (r : Nat) (host : List Byte) (s : State) : State :=
  let p := r / 8
  let k := r % 8
  let i := s.sqHead r
  let addr := s.get (F.PW_RING_SQ_BASE_ADDR p k) * 4096 + i % s.ringSize r * 64
  if i = s.sqTail r then s
  else if s.on (F.PW_RING_SQ_BASE_LOC p k) then
    if s.pwr.pcieUp then addEntry r ⟨i, wordsOf (slice 0 host 0 64), none⟩ s else s
  else
    let (a, s') := ringRead r (s.get (F.PW_RING_CFG_CTX p k)) (addr % 2 ^ 52) 64 s
    if a.held then s else addEntry r ⟨i, wordsOf a.data, a.bad⟩ s'

/-- An entry is malformed by R337. -/
def EntryCopy.malformed (e : EntryCopy) : Bool :=
  let w := e.w0
  bits w 15 10 != 0 || bits w 31 28 != 0 ||
    (if bits w 7 0 = 1 then false
     else if bits w 7 0 = 2 then
       fld e.words 1 / 2 ^ 52 != 0 || fld e.words 1 % 8 != 0 || bits (fld e.words 2) 15 0 == 0 || fld e.words 2 / 2 ^ 16 != 0
     else true)

/-- The entry is INLINE. -/
def EntryCopy.inline (e : EntryCopy) : Bool := bits e.w0 7 0 == 1

/-- CTX of an entry. -/
def EntryCopy.ctx (e : EntryCopy) : Nat := bits e.w0 27 16

/-- What the program check of an entry depends on. -/
def State.checkOf (s : State) (e : EntryCopy) : CheckCtx := ⟨e.inline, e.restartable, false, s.hasPress⟩

/-- How the copy of a program into the program store ended. -/
inductive CopyRes where
  | words (ws : List W64)
  | bad (status detail pc : Nat)
  | held
  deriving DecidableEq, Repr

/-- An entry's program is copied and checked (R336, R337, R365, R370, R371). -/
def copyProgram (r : Nat) (e : EntryCopy) (s : State) : CopyRes × State :=
  if e.malformed then (.bad 0x50 0 0, s)
  else
    let (ws, bad, s') :=
      if e.inline then (e.words.drop 1, none, s)
      else
        let (a, s') := ringRead r e.ctx (fld e.words 1) (8 * bits (fld e.words 2) 15 0) s
        (wordsOf a.data, (if a.held then some none else a.bad.map some), s')
    match bad with
    | some none => (.held, s)
    | some (some (st, d)) => (.bad st d 0, s')
    | none =>
      match checkProgram (s.checkOf e) ws with
      | some i => (.bad 0x50 0 i, s')
      | none => (.words ws, s')

/-- s1 to s5 at a program's start (R335, R336). -/
def EntryCopy.args (e : EntryCopy) : Tab W64 :=
  if e.inline then [] else (List.range 5).map (fun i => (i + 1, e.words.getD (3 + i) 0))

/-- A program at its first instruction (R363). -/
def Prog.start (e : EntryCopy) (inv : Option Invoke) (ws : List W64) (core : Nat) : Prog :=
  { entry := e, invoke := inv, words := ws, pc := 0, ctx := e.ctx, s := e.args, p := [], d := [], t := [], stall := .no,
    fault := none, ended := false, restarts := 0, failed := false, retries := none, orders := 0, core := core }

/-- A ring has work that may start (R344, R347, R351, R353). -/
def State.ringReady (s : State) (r : Nat) : Bool :=
  let x := s.ring r
  s.ringState r == 1 && x.prog.isNone && x.held.isNone && !s.cqFull r && (!x.invokes.isEmpty || !x.fetched.isEmpty)

/-- The next piece of work of a ring is an invoke (R347). -/
def Ring.invokeNext (x : Ring) : Bool := !x.invokes.isEmpty && (x.consec < 4 || x.fetched.isEmpty)

/-- A core runs no program, and none of its rows is under test (R481). -/
def State.coreIdle (s : State) (c : Nat) : Bool :=
  !s.coreTested c && (List.range 128).all (fun q => match (s.ring q).prog with | some p => p.core != c || p.failed | none => true)

/-- The core on which a ring's work starts now: the host of its bound core, idle, with the ring next in the core's
round-robin order (R345, R346, R479). -/
def State.startCore (s : State) (r : Nat) : Option Nat :=
  match s.hostOf (s.ringCore r) with
  | none => none
  | some c =>
    -- a program that waits for its restart comes first
    if !s.coreIdle c || (List.range 128).any (fun q => (s.prog q).any (·.failed) && s.hostOf (s.ringCore q) == some c) then none
    else
      let order := (List.range 128).map (fun i => ((s.core c).last + 1 + i) % 128)
      if order.find? (fun q => s.ringReady q && s.hostOf (s.ringCore q) == some c) = some r then some c else none

/-- A core turns to a ring: its local store is cleared when the partition changes (R346). -/
def takeCore (c r : Nat) (s : State) : State :=
  let x := s.core c
  if x.part = some (r / 8) then s.setCore c { x with last := r } else s.setCore c ⟨r, some (r / 8), []⟩

/-- A ring's next submission entry starts, or completes without starting. -/
def startEntry (r : Nat) (e : EntryCopy) (s : State) : State :=
  match e.bad with
  | some (st, d) => completeUnstarted r e st d 0 s
  | none =>
    match s.startCore r with
    | none => s
    | some c =>
      match copyProgram r e s with
      | (.held, _) => s
      | (.bad st d pc, s') => completeUnstarted r e st d pc (takeCore c r s')
      | (.words ws, s') =>
        let s' := takeCore c r s'
        let x := s'.ring r
        s'.setRing r { x with fetched := x.fetched.drop 1, consec := 0, prog := some (Prog.start e none ws c) }

/-- A program of the SM starts on one of its rings (R330, R370). -/
def startSm (r : Nat) (ws : List W64) (s : State) : State :=
  let x := s.ring r
  if x.prog.isSome || (checkProgram ⟨false, false, true, s.hasPress⟩ ws).isSome then s
  else s.setRing r { x with prog := some (Prog.start ⟨0, [], none⟩ none ws (r - 64)) }

/-- Emission of a ring's open jobs is closed (R385, Table 12.6). -/
def closeJobs (r : Nat) (s : State) : State :=
  s.each (s.hatch.jobs.filter (fun j => j.ring == r && j.open_)) closeEmit

/-- Status, DETAIL and FAULT_PC of a program that has ended (R382). -/
def Prog.result (p : Prog) : Nat × Nat × Nat :=
  match p.fault with
  | some x => x
  | none =>
    let bad := (List.range 16).filter (fun t => (p.tally t).st == 2 && 16 ≤ (p.tally t).status)
    match bad.foldl (fun (b : Option Nat) t => match b with
        | none => some t
        | some u => if (p.tally t).order < (p.tally u).order then some t else b) none with
    | some t => ((p.tally t).status, (p.tally t).detail, (p.tally t).pc)
    | none => match p.retries with
      | some n => (1, n, 0)
      | none => (0, 0, 0)

/-- The completion of a program that has ended (Table 09.2, Table 09.4). -/
def Prog.completion (p : Prog) : Completion :=
  let (st, d, pc) := p.result
  { index := p.entry.index, status := st, restarted := p.restarts != 0, pc := pc, user := bits p.entry.w0 63 32, detail := d,
    ret := (p.sreg 1).toNat, notify := bit p.entry.w0 9, pauses := st == 0x30 && !p.entry.restartable }

/-- A program that has ended leaves the ring. -/
def endProgram (r : Nat) (p : Prog) (dmaFail : Bool) (s : State) : State :=
  let s := s.setRing r { s.ring r with prog := none }
  if smRing r then s else postCompletion r p.completion dmaFail s

/-- A ring whose completion is held writes it, unless it is paused for that completion (R351, R358). -/
def retryHeld (r : Nat) (dmaFail : Bool) (s : State) : State :=
  match (s.ring r).held with
  | none => s
  | some c =>
    if s.ringState r = 2 ∧ s.get (F.PW_RING_STATUS_CAUSE (r / 8) (r % 8)) = 5 then s else postCompletion r c dmaFail s

/-- A write to PW_RING_k_CFG: one that would change CTX or LOG2SIZE while the ring is not DISABLED leaves the register unchanged and
sets CFG_ERR; otherwise EN takes effect (R333, R334). A ring enabled while STOPPING is RUNNING at once and writes the completion
it holds. -/
def ringCfgWrite (r : Nat) (en : Bool) (ctx size : Nat) (s : State) : State :=
  let p := r / 8
  let k := r % 8
  let log := if 6 ≤ size ∧ size ≤ 16 then size else s.get (F.PW_RING_CFG_LOG2SIZE p k)
  let was := s.on (F.PW_RING_CFG_EN p k)
  if s.ringState r = 0 then
    let s := (s.put (F.PW_RING_CFG_CTX p k) ctx).put (F.PW_RING_CFG_LOG2SIZE p k) log
    if en && !was then enableRing r s else if !en && was then disableRing r s else s
  else if ctx % 4096 ≠ s.get (F.PW_RING_CFG_CTX p k) ∨ log ≠ s.get (F.PW_RING_CFG_LOG2SIZE p k) then cfgErr r s
  else if en && !was then retryHeld r false (enableRing r s)
  else if !en && was then disableRing r s
  else s

/-- Flushed entries complete in order while nothing stands before them (R354). -/
def drainFlushed (r : Nat) : Nat → State → State
  | 0, s => s
  | fuel + 1, s =>
    let x := s.ring r
    match x.fetched with
    | e :: _ =>
      if x.prog.isSome || x.held.isSome || s.cqFull r || e.bad.isNone then s
      else
        let (st, d) := e.bad.getD (0, 0)
        drainFlushed r fuel (completeUnstarted r e st d 0 s)
    | [] => s

end Sys2Proof.Machine
end

