-- ==== Sys2Proof/Machine/Links.lean ====
section
/-! DEFINITION. Links: going down and resetting, training, credit, windows, sequencing and replay, encryption (R234 to
R282). -/

namespace Sys2Proof.Machine

/-- Bits of FP_n_DOWN_CAUSE (Table 07.14). -/
inductive Cause where
  | errWin | replayAfterRetrain | retrainRate | partnerLoss | retrainTimeout | authFail | lrst | enCleared | trainFail
  deriving DecidableEq, Repr

/-- The mask of a cause. -/
def Cause.mask : Cause → Nat
  | .errWin => 1 | .replayAfterRetrain => 2 | .retrainRate => 4 | .partnerLoss => 8 | .retrainTimeout => 16
  | .authFail => 32 | .lrst => 64 | .enCleared => 128 | .trainFail => 256

/-- An event of a link: its lead group and FP_n_STATUS (Table 20.4). -/
def linkEvent (src k : Nat) (s : State) : State := raiseNode ⟨src, k, (s.reg (R.FP_STATUS k)).toNat, 0, 0⟩ s

/-- Every group of a link takes a STATE. -/
def setLinkState (k st : Nat) (s : State) : State :=
  s.each (s.linkGroups k) (fun g t => t.put (F.FP_STATUS_STATE g) st)

/-- SECURE of every group of a link. -/
def setSecure (k : Nat) (v : Bool) (s : State) : State :=
  s.each (s.linkGroups k) (fun g t => t.putB (F.FP_STATUS_SECURE g) v)

/-- Packets of others that wait for a link that has gone take the opposite direction of the same dimension with REV set,
or are discarded when REV is set already or that link is unusable (R261, R274, Table 07.11). -/
def reroute (k : Nat) (ps : List Packet) (s : State) : State :=
  s.each ps (fun p t =>
    let back := if k % 2 = 0 then k + 1 else k - 1
    if t.torus && p.rev == 0 && t.routable back then t.send back { p with rev := 1, dl := 1 }
    else t.bump (F.FP_UNROUTABLE_COUNT k) 1)

/-- Campion has no link left: it falls back to IDLE and to its own claim; the address is kept and not used (Table 08.2).
Only a reset leaves DUPLICATE (R305). -/
def campionIdle (s : State) : State :=
  if (List.range 6).any (fun k => s.linkState k == 5 || s.linkState k == 6) || s.get F.TOPO_STATUS_STATE == 4 then s
  else
    let s := s.put F.TOPO_STATUS_STATE 0
    let s := { s with fab := { s.fab with campion := { s.fab.campion with best := none, reports := [], reported := false, quiet := false } } }
    let st := s.get F.TOPO_SRL_STATUS_STATE
    if st = 1 then s.put F.TOPO_SRL_STATUS_STATE 0 else s

/-- Sessions end, and with the session that made it the grant (R517). -/
def endSessions (f : Session → Bool) (s : State) : State :=
  let live := s.trust.sessions.filter (fun x => !f x)
  { s with trust := { s.trust with sessions := live,
                                   grant := s.trust.grant.filter (fun g => live.any (fun x => x.id == g.2)) } }

/-- A link carries no session any more, and no message is in reassembly on it (R512, R524). -/
def endLinkSessions (k : Nat) (s : State) : State :=
  let s := endSessions (fun x => x.transport == 3 && x.link == k) s
  { s with trust := { s.trust with reasm := Tab.del s.trust.reasm k } }

/-- A link goes DOWN (R274): its lanes idle, its replay buffer, held packets and keys are lost, queued packets of others
are routed again, and the cause is recorded. -/
def linkDown (k : Nat) (causes : List Cause) (s : State) : State :=
  let mine := s.fabOut.filter (fun x => x.1 == k)
  let own := s.ownAddr
  let s := endLinkSessions k s
  let s := { s with fabOut := s.fabOut.filter (fun x => x.1 != k),
                    fab := { s.fab with waiting := s.fab.waiting.filter (fun x => x.1 != k) } }
  let bufw := (s.link k).bufw
  let s := setSecure k false (setLinkState k 7 (s.setLink k { Link.init with bufw := bufw }))
  let s := s.orBits (F.FP_DOWN_CAUSE_CAUSE k) (causes.foldl (fun m c => m ||| c.mask) 0)
  let s := s.bump (F.FP_DOWNS_COUNT k) 1
  let s := raiseNode ⟨Ev.FAB_LINK_DOWN, k, (s.reg (R.FP_DOWN_CAUSE k)).toNat, 0, 0⟩ s
  campionIdle (reroute k ((mine.filter (fun x => x.2.src != own && x.2.opc != 8)).map (·.2)) s)

/-- A full link reset: LINK-domain registers of the link's groups take their reset values, the neighbour record goes, and
the link is in RESET (R274, R296, R327). A KIND 1 job on a lane of the link is aborted (Table 21.7). -/
def fullReset (k : Nat) (s : State) : State :=
  let gs := s.linkGroups k
  let s := abortJobIf (fun j => j.kind == 1 && gs.contains (j.inst / 16)) s
  let s := s.each gs (fun g t => t.loadDomains (fun d => d == .link g))
  let c := s.fab.campion
  { s with fab := { s.fab with links := Tab.set s.fab.links k { Link.init with bufw := (s.reg (R.FP_BUFW k)).toNat },
                               applied := s.fab.applied.filter (fun e => !gs.contains e.1),
                               digests := Tab.del s.fab.digests k, peerAddr := Tab.del s.fab.peerAddr k,
                               campion := { c with nbr := Tab.del c.nbr k } } }

/-- A full link reset with a cause: one that reaches an ACTIVE or retraining link takes it down first (R274). -/
def resetLink (k : Nat) (c : Cause) (s : State) : State :=
  fullReset k (if s.linkState k = 5 ∨ s.linkState k = 6 then linkDown k [c] s else s)

/-- The SPDM session of a link ends: a link that is up takes a full link reset with cause LRST (R524, R310). -/
def endLinkSession (k : Nat) (s : State) : State :=
  if s.linkState k = 5 ∨ s.linkState k = 6 then resetLink k .lrst s else s

/-! ### Credit -/

/-- Slots of a pool (R256): VC v, class c, of a link of n octets. -/
def poolSize (n vcs bufw v c : Nat) : Nat :=
  let rem := 4096 * n - 256 * vcs
  let w := fun i => bits bufw (4 * i + 3) (4 * i)
  let sum := (List.range vcs).foldl (fun a i => a + w i) 0
  let total := 256 + (if sum = 0 then rem / vcs else rem * w v / sum)
  if c = 0 then (total + 1) / 2 else total / 2

/-- Octets in use on a link. -/
def State.octets (s : State) (k : Nat) : Nat := s.get (F.FP_STATUS_GROUPS k)

/-- The pools of some VCs are advertised. -/
def givePools (k : Nat) (vs : List Nat) (s : State) : State :=
  let x := s.link k
  let given := vs.foldl (fun g v => [0, 1].foldl (fun g c =>
    Tab.set g (2 * v + c) (poolSize (s.octets k) (s.vcs k) x.bufw v c)) g) x.given
  s.setLink k { x with given := given }

/-- Credit of a pool that the peer has not used, in slots (R257). -/
def Link.creditLeft (x : Link) (v c : Nat) : Nat :=
  (Tab.get 0 x.given (2 * v + c) + 65536 - Tab.get 0 x.taken (2 * v + c)) % 65536

/-- A packet takes its credit. -/
def takeCredit (k : Nat) (p : Packet) (s : State) : State :=
  let x := s.link k
  let i := 2 * p.vc + p.dl
  s.setLink k { x with taken := Tab.set x.taken i ((Tab.get 0 x.taken i + 1 + p.len) % 65536) }

/-- A packet's credit is returned (R257). -/
def giveCredit (k : Nat) (p : Packet) (s : State) : State :=
  let x := s.link k
  let i := 2 * p.vc + p.dl
  s.setLink k { x with given := Tab.set x.given i ((Tab.get 0 x.given i + 1 + p.len) % 65536) }

/-! ### Training -/

/-- The group's replay buffer is beyond repair: it stays in electrical idle (Table 13.1). -/
def State.groupDead (s : State) (g : Nat) : Bool := s.rpr.dead.any (fun r => r.code == 6 && r.inst == g)

/-- Lanes of a mask, ascending. -/
def lanesOf (m : Nat) : List Nat := (List.range 9).filter (fun l => bit m l)

/-- LANEMAP of a group that uses some lanes: absent logical lanes read 0xF. -/
def laneMap (ls : List Nat) : Nat := (List.range 8).foldl (fun m i => m + ls.getD i 15 * 16 ^ i) 0

/-- The groups a link uses, and their lanes (R276, R277). -/
def State.trainGroups (s : State) (k : Nat) (m : TrainMsg) : List (Nat × List Nat) :=
  let use := fun g => (g, lanesOf (Tab.get 0 (s.link k).own g &&& (m.lanes.getD g 0).toNat))
  let all := ((s.linkGroups k).filter (fun g => !s.groupDead g)).map use
  let x8 := all.filter (fun e => 8 ≤ e.2.length)
  if x8.isEmpty then (all.filter (fun e => 4 ≤ e.2.length)).map (fun e => (e.1, e.2.take 4))
  else x8.map (fun e => (e.1, e.2.take 8))

/-- The label of a group's link (Table 07.1, Table 07.14). -/
def State.labelOf (s : State) (g : Nat) : Nat := if s.torus then g else 6

/-- A group in use takes its lane map and width. -/
def useGroup (e : Nat × List Nat) (s : State) : State :=
  let s := s.put (F.FP_STATUS_WIDTH e.1) (if e.2.length = 8 then 2 else 1)
  let s := s.put (F.FP_STATUS_LANES e.1) (maskOf 9 (fun l => e.2.contains l))
  s.put (F.FP_LANEMAP_PHYS e.1) (laneMap e.2)

/-- The link's configuration is fixed and it becomes ACTIVE, not SECURE, with credit for the management VC only (R254,
R256, R275 to R277, R282). -/
def linkActive (k : Nat) (m : TrainMsg) (use : List (Nat × List Nat)) (s : State) : State :=
  let gs := s.linkGroups k
  let vcs := min (bits (s.ctlApplied k) 19 16) m.vcs
  let s := s.each gs (fun g t => (t.put (F.FP_STATUS_LABEL g) (t.labelOf g)).put (F.FP_STATUS_VCS_NEG g) vcs)
  let s := (s.each use useGroup).put (F.FP_STATUS_GROUPS k) use.length
  let s := givePools k [s.mgmtVc k] (setLinkState k 5 s)
  let s := linkEvent Ev.FAB_LINK_UP k s
  let s := if use.any (fun e => e.2 != List.range e.2.length) then linkEvent Ev.FAB_LANE_SPARED k s else s
  if use.length < gs.length || use.any (fun e => e.2.length < 8) then linkEvent Ev.FAB_WIDTH_REDUCED k s else s

/-! ### Replay and retraining -/

/-- TIMEBASE cycles of 100 ms and 10 s. -/
def ticks100ms : Nat := 40000000
/-- TIMEBASE cycles of 10 s. -/
def ticks10s : Nat := 4000000000

/-- A fast retrain begins, or the link goes DOWN: the retrain would be one too many in 10 s (R269, R271, R272). -/
def startRetrain (k : Nat) (s : State) : State :=
  let x := s.link k
  let recent := x.retrains.filter (fun t => s.ticks < t + ticks10s)
  if s.get (F.FP_THR_RETRAIN_MAX k) ≤ recent.length then linkDown k [.retrainRate] s
  else
    let s := setLinkState k 6 (s.setLink k { x with retrains := s.ticks :: recent, resends := 0 })
    linkEvent Ev.FAB_RETRAIN k (s.bump (F.FP_RETRAINS_COUNT k) 1)

/-- The replay limit is reached (R269, R272). -/
def replayLimit (k : Nat) (s : State) : State :=
  match (s.link k).retrained with
  | some t => if s.ticks < t + ticks100ms then linkDown k [.replayAfterRetrain] s else startRetrain k s
  | none => startRetrain k s

/-- Flits up to and with a sequence number are acknowledged (R265). -/
def Link.acked (x : Link) (ack : Nat) : Link :=
  if x.unacked.any (fun f => f.seq == ack) then
    let rest := (x.unacked.dropWhile (fun f => f.seq != ack)).drop 1
    { x with unacked := rest, resends := 0, resend := x.resend.filter (fun f => rest.contains f) }
  else x

/-- A NAK: the flits from ACK + 1 are sent again, and the resends of the oldest are counted (R268, R269). `ack` is none
when nothing has been released yet. -/
def nakReceived (k : Nat) (ack : Option Nat) (s : State) : State :=
  let x := match ack with
    | some a => (s.link k).acked a
    | none => s.link k
  let s := s.bump (F.FP_REPLAYS_COUNT k) 1
  if x.unacked.isEmpty then s.setLink k x
  else
    let n := x.resends + 1
    let s := s.setLink k { x with resend := x.unacked, resends := n }
    if s.get (F.FP_THR_REPLAY_THR k) ≤ n then replayLimit k s else s

/-! ### Flits and packets as bytes -/

/-- CRC-64 of R244, bit by bit. -/
def crc64Bits : Nat → Nat → Nat
  | 0, c => c
  | n + 1, c => crc64Bits n (if bit c 63 then (2 * c % 2 ^ 64) ^^^ 0x42F0E1EBA9EA3693 else 2 * c % 2 ^ 64)

/-- CRC-64 of R244 over bytes. -/
def crc64 (bs : List Byte) : Nat :=
  bs.foldl (fun c b => crc64Bits 8 (c ^^^ (b.toNat * 2 ^ 56))) (2 ^ 64 - 1) ^^^ (2 ^ 64 - 1)

/-- The header word of a flit (Table 07.3). -/
def Flit.header (f : Flit) : Nat :=
  f.seq + f.ack * 2 ^ 12 + b2n f.ackV * 2 ^ 24 + b2n f.nak * 2 ^ 25 + f.type * 2 ^ 26 + f.start * 2 ^ 28 +
    b2n f.keyPhase * 2 ^ 43 + b2n f.cont * 2 ^ 44

/-- The flit that 248 bytes spell (R243). -/
def flitOf (b : List Byte) : Flit :=
  let h := ofLeBytes (slice 0 b 0 8)
  { seq := bits h 11 0, ack := bits h 23 12, ackV := bit h 24, nak := bit h 25, type := bits h 27 26, start := bits h 42 28,
    keyPhase := bit h 43, cont := bit h 44, slots := slice 0 b 8 240 }

/-- A received flit's CRC is good: the CRC follows bytes 0 to 247, most significant byte first (R243, R244). -/
def crcGood (b : List Byte) : Bool := ofLeBytes (slice 0 b 248 8).reverse == crc64 (slice 0 b 0 248)

/-- The packet that a header slot and its data slots spell (Table 07.5). -/
def packetOf (b : List Byte) : Packet :=
  let h := ofLeBytes (slice 0 b 0 8)
  { opc := bits h 3 0, len := bits h 8 4, vc := bits h 11 9, dl := bits h 12 12, rev := bits h 13 13, poison := bit h 14,
    dst := bits h 31 16, src := bits h 47 32, cid := bits h 63 48, w1 := ofLeBytes (slice 0 b 8 8),
    data := b.drop 16, rsv := bit h 15 }

/-- The slots of a packet (R247, R248). -/
def Packet.bytes (p : Packet) : List Byte :=
  leBytes 8 (p.opc + p.len * 2 ^ 4 + p.vc * 2 ^ 9 + p.dl * 2 ^ 12 + p.rev * 2 ^ 13 + b2n p.poison * 2 ^ 14 + b2n p.rsv * 2 ^ 15 +
    p.dst * 2 ^ 16 + p.src * 2 ^ 32 + p.cid * 2 ^ 48) ++ leBytes 8 p.w1 ++ slice 0 p.data 0 (16 * p.len)

/-- Slots of a released flit join the packet in progress: a slot with START begins one, others continue it, and the rest
is padding (R247). The answer is the packets that are complete, and what is left. -/
def takeSlots (start : Nat) (slots : List Byte) (part : List Byte) : List Packet × List Byte :=
  (List.range 15).foldl (fun (x : List Packet × List Byte) i =>
    let b := slice 0 slots (16 * i) 16
    let cur := if bit start i then b else if x.2.isEmpty then [] else x.2 ++ b
    if cur.isEmpty then x
    else if 16 * (1 + bits (ofLeBytes (slice 0 cur 0 8)) 8 4) ≤ cur.length then (x.1 ++ [packetOf cur], [])
    else (x.1, cur)) ([], part)

/-! ### Windows -/

/-- AAD of a window: the headers of positions 0 to 62 and the slot area of the previous LCF (R279). -/
def windowAad (fs : List Flit) (lcf : List Byte) : List Byte := fs.flatMap (fun f => leBytes 8 f.header) ++ lcf

/-- The IV of a window (R279). -/
def windowIv (key : LinkKey) (n : Nat) : List Byte := key.salt ++ leBytes 8 n

/-- The verification of a received window (R266, R279, R281). -/
inductive WinRes where
  | crcFailed
  | tagFailed
  | good (fs : List Flit)   -- positions 0 to 62 with their slot areas in the clear

/-- The key a window is under: the new one once its phase shows (R280). -/
def Link.rxKeyFor (x : Link) (phase : Bool) : Option LinkKey :=
  if phase != x.rxPhase && x.rxNew.isSome then x.rxNew else x.rxKey

/-- A window of 64 received positions is verified. -/
def Link.verify (x : Link) : WinRes :=
  if x.rxWin.any (fun p => !p.good) then .crcFailed
  else
    let fs := (x.rxWin.take 63).map (·.flit)
    if !x.rxOn then .good fs
    else
      let lcf := match x.rxWin[63]? with
        | some p => p.flit.slots
        | none => []
      match x.rxKeyFor (fs.any (·.keyPhase)) with
      | none => .tagFailed
      | some key =>
        match Config.gcmOpen key.key (windowIv key x.rxWins) (windowAad fs x.rxLcf) (fs.flatMap (·.slots)) (slice 0 lcf 0 16) with
        | none => .tagFailed
        | some pt => .good ((List.range fs.length).map (fun i =>
            let f := fs.getD i ⟨0, 0, false, false, 1, 0, false, false, []⟩
            { f with slots := slice 0 pt (240 * i) 240 }))

/-- Credits and flags of a received LCF (Table 07.4). -/
def takeLcf (k : Nat) (slots : List Byte) (s : State) : State :=
  let x := s.link k
  let peer := (List.range 16).foldl (fun t i => Tab.set t i (ofLeBytes (slice 0 slots (24 + 2 * i) 2))) x.peerGiven
  let on := x.rxOn || (bit (ofLeBytes (slice 0 slots 56 1)) 0 && x.rxKey.isSome)
  s.setLink k { x with peerGiven := peer, rxLcf := slots, rxOn := on }

/-- The link becomes SECURE once both directions are encrypted: every VC's credit is given (R279, R282). -/
def secureNow (k : Nat) (s : State) : State :=
  let x := s.link k
  if x.txOn && x.rxOn && !s.secure k then
    setSecure k true (givePools k ((List.range (s.vcs k)).filter (fun v => v != s.mgmtVc k)) s)
  else s

/-- PAYLOAD flits of a verified window are released in sequence (R266); the answer is the packets they complete. -/
def releaseFlits (x : Link) (fs : List Flit) : Link × List Packet :=
  fs.foldl (fun (a : Link × List Packet) f =>
    if f.type = 0 ∧ f.seq = a.1.rxNext % 4096 then
      let (ps, part) := takeSlots f.start f.slots a.1.rxPart
      ({ a.1 with rxNext := a.1.rxNext + 1, rxPart := part, nakSent := false }, a.2 ++ ps)
    else a) (x, [])

/-- A window of the receiver is complete. The answer is the packets it releases. -/
def closeWindow (k : Nat) (s : State) : List Packet × State :=
  let x := s.link k
  match x.verify with
  | .crcFailed =>
    -- one NAK, and none again until the missing flit arrives (R267)
    ([], s.setLink k { x with rxWin := [], rxWins := x.rxWins + 1, nakDue := x.nakDue || !x.nakSent, nakSent := true })
  | .tagFailed => ([], linkEvent Ev.FAB_AUTH_FAIL k (linkDown k [.authFail] s))
  | .good fs =>
    let phase := fs.any (·.keyPhase)
    let x := if x.rxOn && phase != x.rxPhase && x.rxNew.isSome then { x with rxKey := x.rxNew, rxNew := none, rxPhase := phase } else x
    let lcf := match x.rxWin[63]? with
      | some p => p.flit.slots
      | none => []
    let (y, ps) := releaseFlits { x with rxWin := [], rxWins := x.rxWins + 1 } fs
    (ps, secureNow k (takeLcf k lcf (s.setLink k y)))

/-- One received position: counted, its acknowledgement and NAK taken, and the window closed at position 63. The link
goes DOWN at once when the error window's limit is exceeded (R266 to R270). -/
def receiveFlit (k : Nat) (b : List Byte) (fecOk : Bool) (s : State) : List Packet × State :=
  let good := fecOk && crcGood b
  let f := flitOf b
  let x := s.link k
  let s := s.bump (F.FP_FLITS_RX_COUNT k) 1
  let s := if good then s else s.bump (F.FP_CRC_FAIL_COUNT k) 1
  let fails := x.errFails + b2n (!good)
  let wrapPos := 2 ^ s.get (F.FP_THR_ERR_WIN k) ≤ x.errPos + 1
  let s := s.setLink k { x with rxWin := x.rxWin ++ [⟨f, good⟩], errPos := if wrapPos then 0 else x.errPos + 1,
                                errFails := if wrapPos then 0 else fails }
  if s.get (F.FP_THR_ERR_THR k) < fails then ([], linkDown k [.errWin] s)
  else
    let s := if good && f.nak then nakReceived k (if f.ackV then some f.ack else none) s
      else if good && f.ackV then s.setLink k ((s.link k).acked f.ack) else s
    if s.linkState k ≠ 5 then ([], s)
    else
      let retrain := good && f.type == 2 && bit (ofLeBytes (slice 0 f.slots 56 1)) 1
      let (ps, s) := if (s.link k).rxWin.length = 64 then closeWindow k s else ([], s)
      if retrain && s.linkUp k then (ps, startRetrain k s) else (ps, s)

/-! ### Transmission -/

/-- A flit with nothing in it. -/
def Flit.null : Flit := { seq := 0, ack := 0, ackV := false, nak := false, type := 1, start := 0, keyPhase := false, cont := false,
                          slots := List.replicate 240 0 }

/-- The packets of a link that may be sent now, in order: on a link that is not SECURE only management packets, and each
only while its pool holds credit for all its slots and no packet of its VC waits before it (R257, R264, R282). -/
def State.sendable (s : State) (k : Nat) : List (Nat × Packet) × List (Nat × Packet) × Link :=
  (s.fabOut.foldl (fun (a : List (Nat × Packet) × List (Nat × Packet) × Link) e =>
    let (go, stay, x) := a
    let p := e.2
    if e.1 ≠ k then (go, stay ++ [e], x)
    else
      let i := 2 * p.vc + p.dl
      let left := (Tab.get 0 x.peerGiven i + 65536 - Tab.get 0 x.used i) % 65536
      let room := (go.foldl (fun n q => n + 1 + q.2.len) 0) + 1 + p.len ≤ 945
      if stay.any (fun q => q.1 == k && q.2.vc == p.vc) || left < 1 + p.len || !room || (!s.secure k && p.opc != 8) then
        (go, stay ++ [e], x)
      else (go ++ [e], stay, { x with used := Tab.set x.used i ((Tab.get 0 x.used i + 1 + p.len) % 65536) }))
    ([], [], s.link k))

/-- The slot areas of the flits that carry some packets: slots, the START bits and whether slot 0 continues a packet. -/
def packSlots (ps : List Packet) : List (List Byte × Nat × Bool) :=
  let slots := ps.flatMap (fun p =>
    (List.range (1 + p.len)).map (fun i => (slice 0 p.bytes (16 * i) 16, i == 0)))
  (List.range ((slots.length + 14) / 15)).map (fun j =>
    let l := (slots.drop (15 * j)).take 15
    (slice 0 (l.flatMap (·.1)) 0 240, maskOf 15 (fun i => (l.getD i ([], false)).2), !(l.getD 0 ([], true)).2))

/-- One window is sent: flits to be sent again, new PAYLOAD flits while the replay buffer has room, NULL flits, and the
LCF at position 63 with its tag, credits and flags (R245, R246, R257, R265, R268, R279, R280). -/
def sendWindow (k : Nat) (s : State) : State :=
  let (go, stay, x) := s.sendable k
  let again := x.resend.take 63
  let fresh := packSlots (go.map (·.2))
  let room := 63 - again.length
  let fits := fresh.length ≤ room && x.unacked.length + fresh.length ≤ 1024
  let x := if fits then x else { x with used := (s.link k).used }
  let fresh := if fits then fresh else []
  -- a key update takes effect at this window's start
  let x := match x.txNew with
    | some n => { x with txKey := some n, txNew := none, txPhase := !x.txPhase, keyWins := 0 }
    | none => x
  let new := (List.range fresh.length).map (fun i =>
    let e := fresh.getD i ([], 0, false)
    { Flit.null with seq := (x.txNext + i) % 4096, type := 0, start := e.2.1, cont := e.2.2, slots := e.1 })
  let body := again ++ new
  let fs := body ++ List.replicate (63 - body.length) Flit.null
  let mark := fun (i : Nat) (f : Flit) => { f with ack := (x.rxNext + 4095) % 4096, ackV := x.rxNext != 0,
                                                   nak := x.nakDue && i == 0, keyPhase := x.txPhase && x.txOn }
  let fs := (List.range 63).map (fun i => mark i (fs.getD i Flit.null))
  let (fs, tag) := match x.txOn, x.txKey with
    | true, some key =>
      let (ct, tag) := Config.gcmSeal key.key (windowIv key x.txWins) (windowAad fs x.txLcf) (fs.flatMap (·.slots))
      ((List.range 63).map (fun i => { fs.getD i Flit.null with slots := slice 0 ct (240 * i) 240 }), slice 0 tag 0 16)
    | _, _ => (fs, List.replicate 16 0)
  let credits := (List.range 16).flatMap (fun i => leBytes 2 (Tab.get 0 x.given i))
  let req := s.linkState k == 6
  let lcf := slice 0 (tag ++ leBytes 8 x.txWins ++ credits ++ leBytes 1 (b2n x.encNext + 2 * b2n req)) 0 240
  let last := mark 63 { Flit.null with type := 2, slots := lcf }
  let y := { x with resend := x.resend.drop 63, unacked := x.unacked ++ new, txNext := x.txNext + new.length,
                    nakDue := false, txWins := x.txWins + 1, txLcf := lcf, txOn := x.txOn || x.encNext, encNext := false,
                    keyWins := x.keyWins + b2n x.txOn }
  let s := { s with fabOut := if fits then stay else s.fabOut,
                    fab := { s.fab with flits := s.fab.flits ++ (fs ++ [last]).map (fun f => (k, f)) } }
  secureNow k (s.setLink k y)

end Sys2Proof.Machine
end

