-- ==== Sys2Proof/Machine/Campion.lean ====
section
/-! DEFINITION. Campion: messages, the claim tree, reports, the walk and assignment; and Sorrel: the counter, exchanges
and the servo (R298 to R327). -/

namespace Sys2Proof.Machine

/-- STATE of Campion (Table 08.2). -/
def State.campState (s : State) : Nat := s.get F.TOPO_STATUS_STATE
abbrev campIdle : Nat := 0
abbrev campElecting : Nat := 1
abbrev campReporting : Nat := 2
abbrev campAssigned : Nat := 3
abbrev campDuplicate : Nat := 4

/-- The node's UID. -/
def State.uid (s : State) : Nat := s.fuses.uid
/-- The node's INCARNATION. -/
def State.incarnation (s : State) : Nat := s.get F.CKR_INCARNATION_COUNT
/-- The node's NONCE, drawn once per incarnation. -/
def State.nonce (s : State) : Nat := (Config.campionNonce s.incarnation).toNat
/-- The node's PRIORITY. -/
def State.priority (s : State) : Nat := s.get F.TOPO_CFG_PRIORITY

/-- A neighbour. -/
def State.nbr (s : State) (k : Nat) : Nbr := Tab.get Nbr.init s.fab.campion.nbr k
/-- The state with a neighbour replaced. -/
def State.setNbr (s : State) (k : Nat) (x : Nbr) : State :=
  { s with fab := { s.fab with campion := { s.fab.campion with nbr := Tab.set s.fab.campion.nbr k x } } }
/-- A neighbour's UID. -/
def State.nbrUid (s : State) (k : Nat) : Nat := s.get (F.TOPO_NBR_UID_UID k)

/-- A function applied to Campion. -/
def onCampion (f : Campion → Campion) (s : State) : State := { s with fab := { s.fab with campion := f s.fab.campion } }

/-- newer(a, b) of R303. -/
def newer (a b : Nat) : Bool := 1 ≤ (a + 2 ^ 32 - b) % 2 ^ 32 && (a + 2 ^ 32 - b) % 2 ^ 32 ≤ 2 ^ 31 - 1

/-- A Campion event: the lead group where a link applies, the address, TOPO_GEN and the UID concerned (Table 20.4). -/
def campEvent (src link uid : Nat) (s : State) : State :=
  raiseNode ⟨src, link, s.ownAddr, s.get F.TOPO_GEN_GEN, uid⟩ s

/-- A link carries management packets: ACTIVE, or queued during a fast retrain. -/
def State.carries (s : State) (k : Nat) : Bool := s.linkState k == 5 || s.linkState k == 6

/-- The links on which Campion acts and sends: up, not excluded, and SECURE when SECURE_ONLY is set (R300, R302). -/
def State.campLinks (s : State) : List Nat :=
  (List.range 6).filter (fun k => s.carries k && !s.excluded k)

/-- A Campion or Sorrel packet on one link (R298). -/
def sendMgmt (k subtype : Nat) (data : List Byte) (s : State) : State :=
  s.send k { Packet.empty with opc := 8, len := data.length / 16, vc := s.mgmtVc k, dst := 0xFFFF,
                               src := if s.addrUsed then s.ownAddr else 0xFFFF, w1 := subtype, data := data }

/-- HELLO on a link (Table 08.1). -/
def sendHello (k : Nat) (s : State) : State :=
  let groups := maskOf 6 (fun g => (s.linkGroups k).contains g)
  sendMgmt k 0 (leBytes 1 1 ++ leBytes 1 1 ++ leBytes 1 0 ++ leBytes 1 s.priority ++ leBytes 1 (s.labelOf k) ++
    leBytes 1 (groups + b2n (!s.torus) * 64) ++ leBytes 2 0 ++ leBytes 8 s.uid ++ leBytes 4 s.incarnation ++
    leBytes 4 (s.get F.TOPO_GEN_GEN) ++ leBytes 8 0) s

/-- The node's own claim, when it is a candidate (R299, R303). -/
def State.ownClaim (s : State) : Option Best :=
  if s.priority = 0xFF ∨ s.fab.campion.barred.contains s.uid ∨ s.campState = campDuplicate then none
  else some ⟨s.priority, s.uid, s.incarnation, s.nonce, s.get F.TOPO_GEN_GEN, 0, none⟩

/-- The best claim; the node's own carries its present PRIORITY (R299, Table 08.6). -/
def State.best (s : State) : Option Best :=
  s.fab.campion.best.map (fun b => if b.uid = s.uid then { b with prio := if s.priority = 0xFF then b.prio else s.priority } else b)

/-- The best claim is the node's own. -/
def State.leads? (s : State) : Bool := s.best.any (fun b => b.uid == s.uid)

/-- The current CLAIM on one link (Table 08.1). -/
def sendClaim (k : Nat) (s : State) : State :=
  match s.best with
  | none => s
  | some b =>
    let parent := match b.link with
      | some l => s.nbrUid l
      | none => s.uid
    sendMgmt k 0 (leBytes 1 2 ++ leBytes 1 b.hops ++ leBytes 1 b.prio ++ leBytes 1 0 ++ leBytes 4 b.inc ++ leBytes 8 b.uid ++
      leBytes 4 b.nonce ++ leBytes 4 b.gen ++ leBytes 8 parent ++ leBytes 16 0) s

/-- The current CLAIM on every link that is not excluded. -/
def floodClaim (s : State) : State := s.each s.campLinks sendClaim

/-- A claim names the candidate of the best claim. -/
def sameCandidate (c : Claim) (b : Best) : Bool := c.uid == b.uid && c.inc == b.inc && c.nonce == b.nonce

/-- The neighbour on a link is a child (R304). -/
def State.isChild (s : State) (k : Nat) : Bool :=
  s.carries k && !s.excluded k &&
    match (s.nbr k).claim, s.best with
    | some c, some b => sameCandidate c b && c.parent == s.uid
    | _, _ => false

/-- The children, by link. -/
def State.children (s : State) : List Nat := (List.range 6).filter s.isChild

/-- TOPO_PARENT and the CHILD bits follow the tree (Table 08.7). -/
def syncTree (s : State) : State :=
  let s := match s.best.bind (fun b => b.link.map (fun l => (b.hops, l))) with
    | some (h, l) => ((s.put F.TOPO_PARENT_V 1).put F.TOPO_PARENT_HOPS h).put F.TOPO_PARENT_LINK l
    | none => ((s.put F.TOPO_PARENT_V 0).put F.TOPO_PARENT_HOPS 0).put F.TOPO_PARENT_LINK 0
  s.each (List.range 6) (fun k t => t.putB (F.TOPO_NBR_INFO_CHILD k) (t.isChild k))

/-! ### Sorrel's part in Campion's states -/

/-- A Sorrel event; the UID concerned is the master's (Table 20.4). -/
def srlEvent (src : Nat) (s : State) : State := campEvent src 0 (s.get F.TOPO_COORD_UID) s

/-- State of the servo (Table 08.4). -/
def State.srl (s : State) : Nat := s.get F.TOPO_SRL_STATUS_STATE

/-- A function applied to Sorrel. -/
def onSorrel (f : Sorrel → Sorrel) (s : State) : State := { s with fab := { s.fab with sorrel := f s.fab.sorrel } }

/-- TOPO_SRL_RATE: a correction over 50,000 cycles in units of 0.001 ppm. -/
def rateOf (corr : Int) : Nat := ofSigned 32 (corr * 8000 / 16777216)

/-- The rate is frozen and the servo holds over (Table 08.4). -/
def sorrelHoldover (s : State) : State :=
  if s.srl = 2 ∨ s.srl = 3 then
    srlEvent Ev.SORREL_HOLDOVER ((s.put F.TOPO_SRL_STATUS_STATE 4).put F.TOPO_SRL_RATE_RATE (rateOf s.fab.sorrel.integ))
  else s

/-- Campion has left ASSIGNED: a master's counter runs free, and a servo holds over (Table 08.4). -/
def sorrelUnassigned (s : State) : State := if s.srl = 1 then s.put F.TOPO_SRL_STATUS_STATE 0 else sorrelHoldover s

/-- The node is ASSIGNED under a master; `old` is the master before (Table 08.4). -/
def sorrelAssigned (old master : Nat) (s : State) : State :=
  let restart := fun (t : State) => onSorrel (fun x => { x with integ := 0, corr := 0, first := true, goodRun := 0, badRun := 0 }) t
  if master = s.uid then s.put F.TOPO_SRL_STATUS_STATE 1
  else if s.srl = 2 ∨ s.srl = 3 then
    if old = master then s
    else
      let s := if s.srl = 3 then srlEvent Ev.SORREL_UNLOCK s else s
      restart (s.put F.TOPO_SRL_STATUS_STATE 2)
  else if s.srl = 4 ∧ old = master then s
  else restart (s.put F.TOPO_SRL_STATUS_STATE 2)

/-! ### Election -/

/-- Campion enters ELECTING with its quiet timer restarted and its reports withheld. -/
def enterElecting (s : State) : State :=
  let s := onCampion (fun c => { c with quiet := true, reports := [], reported := false }) s
  let s := sorrelUnassigned (s.put F.TOPO_STATUS_STATE campElecting)
  (s.put F.TOPO_STATUS_COORD 0)

/-- The best claim or the parent has changed: the quiet timer restarts, and REPORTING returns to ELECTING (R306,
Table 08.2). -/
def bestChanged (s : State) : State :=
  let s := onCampion (fun c => { c with quiet := true }) s
  syncTree (if s.campState = campReporting then enterElecting s else s)

/-- A link that counts as entering ACTIVE: HELLO and the current CLAIM go out and the quiet timer restarts (R300, R301,
R306, Table 08.2). -/
def campLinkUp (k : Nat) (s : State) : State :=
  let s := if s.campState = campIdle then
      enterElecting (onCampion (fun c => { c with best := s.ownClaim }) s) else s
  let s := sendHello k s
  let s := if s.excluded k || s.campState == campDuplicate then s else sendClaim k s
  syncTree (if s.excluded k then s else onCampion (fun c => { c with quiet := true }) s)

/-- A link becomes ACTIVE. -/
def campActive (k : Nat) (s : State) : State :=
  if s.on F.TOPO_CFG_SECURE_ONLY then
    -- only the HELLO goes out before the link is SECURE
    sendHello k (if s.campState = campIdle then enterElecting (onCampion (fun c => { c with best := s.ownClaim }) s) else s)
  else campLinkUp k s

/-- A link has become SECURE (R300). -/
def campSecure (k : Nat) (s : State) : State := if s.on F.TOPO_CFG_SECURE_ONLY then campLinkUp k s else s

/-- A link is excluded, or no longer: a HELLO that does not match, or an ASSIGN, marks it (R302). -/
def setExcluded (k : Nat) (s : State) : State :=
  let x := s.nbr k
  let v := x.excl || x.clash
  if v = s.excluded k then s
  else
    let s := s.putB (F.TOPO_NBR_INFO_EXCLUDED k) v
    if v then campEvent Ev.CAMPION_LINK_EXCLUDED k (s.nbrUid k) s else s

/-- The highest TOPO_GEN seen. -/
def noteGen (g : Nat) (s : State) : State := onCampion (fun c => { c with topGen := max c.topGen g }) s

/-- A DUP for a UID goes out on every link that is not excluded, once (R305). -/
def sendDup (u : Nat) (s : State) : State :=
  if s.fab.campion.dups.contains u then s
  else
    let s := onCampion (fun c => { c with dups := NSet.ins c.dups u }) s
    s.each s.campLinks (fun k t => sendMgmt k 0 (leBytes 1 7 ++ leBytes 7 0 ++ leBytes 8 u) t)

/-- The key of a claim (R299). -/
def rankKey (prio uid : Nat) : Nat := prio * 2 ^ 64 + uid

/-- A claim is better than the best one (R303). -/
def State.betterClaim (s : State) (k : Nat) (c : Claim) : Bool :=
  match s.best with
  | none => true
  | some b =>
    rankKey c.prio c.uid < rankKey b.prio b.uid || (c.uid == b.uid && newer c.inc b.inc) ||
      (sameCandidate c b && (c.hops + 1 < b.hops ||
        (c.hops + 1 == b.hops && (match b.link with | some l => s.nbrUid k < s.nbrUid l | none => false))))

/-- A CLAIM received on a link (R303, Table 08.2). -/
def takeClaim (k : Nat) (c : Claim) (s : State) : State :=
  let s := syncTree (s.setNbr k { s.nbr k with claim := some c })
  if s.fab.campion.barred.contains c.uid || s.fab.campion.dead.contains (c.uid, c.inc) || s.campState == campDuplicate then s
  else if c.uid = s.uid then
    if c.inc = s.incarnation ∧ c.nonce = s.nonce then s
    else if newer c.inc s.incarnation || c.inc == s.incarnation then sendDup s.uid s
    else s
  else if s.best.any (fun b => c.uid == b.uid && c.inc == b.inc && c.nonce != b.nonce) then sendDup c.uid s
  else if !s.betterClaim k c then s
  else
    let other := !s.best.any (fun b => sameCandidate c b)
    let s := onCampion (fun x => { x with best := some ⟨c.prio, c.uid, c.inc, c.nonce, c.gen, c.hops + 1, some k⟩ }) s
    let s := if s.campState = campAssigned ∧ other then enterElecting s else s
    floodClaim (bestChanged s)

/-- The node falls back to its own claim and elects again. -/
def fallBack (s : State) : State :=
  floodClaim (bestChanged (enterElecting (onCampion (fun c => { c with best := s.ownClaim }) s)))

/-- A DUP received (R305). -/
def takeDup (u : Nat) (s : State) : State :=
  let s := sendDup u s
  if u = s.uid then
    if s.campState = campDuplicate then s
    else
      let s := (s.put F.TOPO_STATUS_STATE campDuplicate).put F.TOPO_STATUS_COORD 0
      let s := sorrelUnassigned (onCampion (fun c => { c with best := none, quiet := false, reports := [], barred := NSet.ins c.barred u }) s)
      let s := s.each (List.range 6) endLinkSession
      campEvent Ev.DUPLICATE_IDENTITY 0 u (syncTree s)
  else
    let s := onCampion (fun c => { c with barred := NSet.ins c.barred u }) s
    if s.best.any (fun b => b.uid == u) then fallBack s else s

/-! ### Reports, the walk and assignment -/

/-- The prior address (R307 to R310, R327). -/
def State.priorAddr (s : State) : Nat := s.ownAddr

/-- The node's own REPORT (Table 08.1). -/
def State.ownReport (s : State) : List Byte :=
  let entry := fun (k : Nat) =>
    if s.leadOf k != some k || !s.on (F.TOPO_NBR_INFO_V k) || !s.carries k then leBytes 12 0
    else leBytes 1 (128 + b2n (s.excluded k) * 64 + s.labelOf k) ++ leBytes 1 k ++ leBytes 2 0 ++ leBytes 8 (s.nbrUid k)
  leBytes 1 3 ++ leBytes 1 0 ++ leBytes 1 s.priority ++ leBytes 1 (b2n (!s.torus)) ++ leBytes 4 s.incarnation ++
    leBytes 8 s.uid ++ leBytes 2 s.priorAddr ++ leBytes 4 (max s.fab.campion.topGen (s.get F.TOPO_GEN_GEN)) ++ leBytes 2 0 ++
    leBytes 8 (s.get F.TOPO_COORD_UID) ++ slice 0 ((List.range 6).flatMap entry) 0 80

/-- UID of a REPORT. -/
def repUid (d : List Byte) : Nat := ofLeBytes (slice 0 d 8 8)
/-- Prior ADDR of a REPORT. -/
def repPrior (d : List Byte) : Nat := ofLeBytes (slice 0 d 16 2)
/-- TOPO_GEN of a REPORT. -/
def repGen (d : List Byte) : Nat := ofLeBytes (slice 0 d 18 4)
/-- Prior coordinator of a REPORT. -/
def repCoord (d : List Byte) : Nat := ofLeBytes (slice 0 d 24 8)
/-- A link entry of a REPORT: its label and neighbour, when it is valid and not excluded; entries are in lead-group
order. -/
def repLink (d : List Byte) (j : Nat) : Option (Nat × Nat × Nat) :=
  let e := slice 0 d (32 + 12 * j) 12
  let b := ofLeBytes (slice 0 e 0 1)
  if bit b 7 && !bit b 6 then some (bits b 2 0, ofLeBytes (slice 0 e 1 1), ofLeBytes (slice 0 e 4 8)) else none

/-- The reported graph: one REPORT for each UID, the latest. -/
def latestReports (l : List (List Byte)) : List (List Byte) :=
  l.foldl (fun a d => a.filter (fun e => repUid e != repUid d) ++ [d]) []

/-- What the walk has so far: participants in order with their addresses, and the links marked excluded. -/
structure Walk where
  nodes : List (Nat × Nat)     -- UID and address
  bad   : List (Nat × Nat)     -- UID and lead group

/-- The neighbour of a participant over a label. -/
def stepOver (reps : List (List Byte)) (uid label : Nat) : Option Nat :=
  match reps.find? (fun d => repUid d == uid) with
  | none => none
  | some d => (List.range 6).findSome? (fun j => match repLink d j with
    | some (l, _, n) => if l = label ∧ reps.any (fun e => repUid e == n) then some n else none
    | none => none)

/-- Participants met by following a label from the coordinator, and whether the walk returned to it (R308). -/
def followRing (reps : List (List Byte)) (start label : Nat) : Nat → Nat → Nat → Nat × Bool
  | 0, _, n => (n, false)
  | fuel + 1, cur, n =>
    match stepOver reps cur label with
    | none => (n, false)
    | some m => if m = start then (n, true) else followRing reps start label fuel m (n + 1)

/-- SIZE_d, and whether its ring was broken (R308): a coordinator with no link in a dimension is a ring of one. -/
def torusSize (reps : List (List Byte)) (start d : Nat) : Nat × Bool :=
  let (n, closed) := followRing reps start (2 * d) reps.length start 0
  if closed then (min 32 (n + 1), false)
  else if (stepOver reps start (2 * d)).isNone && (stepOver reps start (2 * d + 1)).isNone then (1, false)
  else (min 32 (n + (followRing reps start (2 * d + 1) reps.length start 0).1 + 1), true)

/-- The address over a label from an address (R308). -/
def torusStep (sizes : List Nat) (addr label : Nat) : Nat :=
  let d := label / 2
  let size := max 1 (sizes.getD d 1)
  let c := coordOf addr d
  let c' := if label % 2 = 0 then (c + 1) % size else (c + size - 1) % size
  addr + c' * 2 ^ (10 - 5 * d) - c * 2 ^ (10 - 5 * d)

/-- The lowest free address. -/
def freeAddr (used : List Nat) : Option Nat := (List.range (used.length + 1)).find? (fun a => !used.contains a && a < 32768)

/-- One participant's links in the walk (R308). -/
def walkNode (torus : Bool) (sizes : List Nat) (coord : Nat) (reps : List (List Byte)) (d : List Byte) (w : Walk) : Walk :=
  (List.range 6).foldl (fun w j =>
    match repLink d j with
    | none => w
    | some (label, g, n) =>
      match reps.find? (fun e => repUid e == n) with
      | none => w
      | some e =>
        let addr := ((w.nodes.find? (fun x => x.1 == repUid d)).map (·.2)).getD 0
        let have_ := (w.nodes.find? (fun x => x.1 == n)).map (·.2)
        if torus then
          let a := torusStep sizes addr label
          match have_ with
          | some b => if a = b then w else { w with bad := w.bad ++ [(repUid d, g)] }
          | none =>
            if w.nodes.any (fun x => x.2 == a) then { w with bad := w.bad ++ [(repUid d, g)] }
            else { w with nodes := w.nodes ++ [(n, a)] }
        else if have_.isSome then w
        else
          let used := w.nodes.map (·.2)
          let prior := repPrior e
          if repCoord e = coord ∧ prior < 32768 ∧ !used.contains prior then { w with nodes := w.nodes ++ [(n, prior)] }
          else match freeAddr used with
            | some a => { w with nodes := w.nodes ++ [(n, a)] }
            | none => { w with nodes := w.nodes ++ [(n, 0xFFFF)] }) w

/-- The breadth-first walk from position `i` of its order. -/
def walkFrom (torus : Bool) (sizes : List Nat) (coord : Nat) (reps : List (List Byte)) : Nat → Nat → Walk → Walk
  | 0, _, w => w
  | fuel + 1, i, w =>
    match w.nodes[i]? with
    | none => w
    | some (u, _) =>
      match reps.find? (fun d => repUid d == u) with
      | some d => walkFrom torus sizes coord reps fuel (i + 1) (walkNode torus sizes coord reps d w)
      | none => walkFrom torus sizes coord reps fuel (i + 1) w

/-- An ASSIGN's bytes (Table 08.1). -/
def assignBytes (torus : Bool) (sizes : List Nat) (addr excl uid coord gen : Nat) : List Byte :=
  leBytes 1 5 ++ leBytes 1 (b2n torus) ++ leBytes 2 addr ++ leBytes 1 (sizes.getD 0 1 - 1) ++ leBytes 1 (sizes.getD 1 1 - 1) ++
    leBytes 1 (sizes.getD 2 1 - 1) ++ leBytes 1 excl ++ leBytes 8 uid ++ leBytes 8 coord ++ leBytes 4 gen ++ leBytes 4 0

/-- The node takes an ASSIGN for itself (R309, R310). -/
def applyAssign (d : List Byte) (s : State) : State :=
  let addr := ofLeBytes (slice 0 d 2 2)
  let coord := ofLeBytes (slice 0 d 16 8)
  let gen := ofLeBytes (slice 0 d 24 4)
  let excl := ofLeBytes (slice 0 d 7 1)
  let old := s.ownAddr
  let oldCoord := s.get F.TOPO_COORD_UID
  let s := (((s.put F.TOPO_STATUS_STATE campAssigned).putB F.TOPO_STATUS_COORD (coord == s.uid)).put F.TOPO_STATUS_TORUS
    (ofLeBytes (slice 0 d 1 1) % 2)).put F.TOPO_STATUS_ADDR addr
  let s := ((s.put F.TOPO_SIZES_SX (ofLeBytes (slice 0 d 4 1))).put F.TOPO_SIZES_SY (ofLeBytes (slice 0 d 5 1))).put F.TOPO_SIZES_SZ
    (ofLeBytes (slice 0 d 6 1))
  let genNew := s.get F.TOPO_GEN_GEN != gen
  let s := noteGen gen ((s.put F.TOPO_GEN_GEN gen).put F.TOPO_COORD_UID coord)
  let s := { s with fab := { s.fab with assigned := true } }
  let s := onCampion (fun c => { c with quiet := false }) s
  let s := s.each (List.range 6) (fun k t => if t.carries k then setExcluded k (t.setNbr k { t.nbr k with excl := bit excl k }) else t)
  let s := if genNew then s.each ((List.range 6).filter s.carries) sendHello else s
  let s := syncTree (sorrelAssigned oldCoord coord s)
  let s := campEvent Ev.CAMPION_ASSIGNED 0 s.uid s
  let s := if oldCoord = coord then s else campEvent Ev.CAMPION_COORD 0 coord s
  if old ≠ 0xFFFF ∧ old ≠ addr then
    let s := campEvent Ev.FAB_ADDR_CHANGED 0 s.uid s
    s.each (List.range 6) endLinkSession
  else s

/-- The ASSIGN of one participant leaves by the link its REPORT arrived on, or is applied here. -/
def giveAssign (uid : Nat) (d : List Byte) (s : State) : State :=
  if uid = s.uid then applyAssign d s
  else
    match (s.fab.campion.reports.reverse.find? (fun r => repUid r.data == uid)).bind (·.child) with
    | some k => sendMgmt k 0 d s
    | none => s

/-- The coordinator walks the graph and assigns every participant (R308, R309). -/
def coordinate (s : State) : State :=
  let reps := latestReports (s.fab.campion.reports.map (·.data) ++ [s.ownReport])
  let torus := s.torus
  let sized := (List.range 3).map (torusSize reps s.uid)
  let sizes := if !torus then [1, 1, 1]
    else if s.on F.TOPO_CFG_SIZE_EN then [s.get F.TOPO_CFG_SX + 1, s.get F.TOPO_CFG_SY + 1, s.get F.TOPO_CFG_SZ + 1]
    else sized.map (·.1)
  let broken := torus && !s.on F.TOPO_CFG_SIZE_EN && sized.any (·.2)
  let w := walkFrom torus sizes s.uid reps reps.length 0 ⟨[(s.uid, 0)], []⟩
  let gen := wrap32 (1 + reps.foldl (fun m d => max m (repGen d)) s.fab.campion.topGen)
  let given := w.nodes.filter (fun x => x.2 != 0xFFFF)
  let s := onCampion (fun c => { c with addrs := given, reported := true }) s
  let s := s.put F.TOPO_NODES_COUNT given.length
  let s := if broken then campEvent Ev.TOPO_INCONSISTENT 0 s.uid s else s
  let s := if given.length < w.nodes.length then campEvent Ev.TOPO_FULL 0 s.uid s else s
  let excl := fun (u : Nat) => maskOf 6 (fun g => w.bad.contains (u, g))
  -- the others first: applying its own ASSIGN may close links
  let s := s.each (given.filter (fun x => x.1 != s.uid)) (fun x t =>
    giveAssign x.1 (assignBytes torus sizes x.2 (excl x.1) x.1 t.uid gen) t)
  giveAssign s.uid (assignBytes torus sizes 0 (excl s.uid) s.uid s.uid gen) s

/-- A REPORT or REPORT_DONE goes to the parent. -/
def toParent (d : List Byte) (s : State) : State :=
  match s.best.bind (·.link) with
  | some k => sendMgmt k 0 d s
  | none => s

/-- Every current child has reported: the node reports, or coordinates (R307). -/
def tryReport (s : State) : State :=
  if s.campState ≠ campReporting ∨ s.fab.campion.reported ∨ s.children.any (fun k => (s.nbr k).done.isNone) then s
  else if s.leads? then coordinate s
  else
    let count := s.children.foldl (fun n k => n + ((s.nbr k).done.getD 0)) 1
    let s := toParent s.ownReport (onCampion (fun c => { c with reported := true }) s)
    toParent (leBytes 1 4 ++ leBytes 3 0 ++ leBytes 4 count ++ leBytes 8 s.uid) s

/-- The coordinator gives addresses to the participants a late REPORT_DONE brings (R312). -/
def joinReports (s : State) : State :=
  let reps := latestReports (s.fab.campion.reports.map (·.data) ++ [s.ownReport])
  let sizes := [s.sizeOf 0, s.sizeOf 1, s.sizeOf 2]
  let known := s.fab.campion.addrs
  let present := known.filter (fun x => reps.any (fun d => repUid d == x.1))
  let gen := s.get F.TOPO_GEN_GEN
  -- in apportioned mode a UID keeps the address it had in this TOPO_GEN, when it is free
  let w := walkFrom s.torus sizes s.uid reps reps.length 0 ⟨present, []⟩
  let joined := (w.nodes.drop present.length).map (fun x =>
    match known.find? (fun y => y.1 == x.1) with
    | some y => if !s.torus && !(w.nodes.any (fun z => z.2 == y.2 && z.1 != x.1)) then y else x
    | none => x)
  let fresh := joined.filter (fun x => x.2 != 0xFFFF)
  let s := onCampion (fun c => { c with addrs := c.addrs.filter (fun x => !fresh.any (fun y => y.1 == x.1)) ++ fresh }) s
  let s := s.put F.TOPO_NODES_COUNT s.fab.campion.addrs.length
  let s := if fresh.length < joined.length then campEvent Ev.TOPO_FULL 0 s.uid s else s
  let excl := fun (u : Nat) => maskOf 6 (fun g => w.bad.contains (u, g))
  s.each fresh (fun x t => giveAssign x.1 (assignBytes t.torus sizes x.2 (excl x.1) x.1 t.uid gen) t)

/-- The quiet timer expires (R307, R325). -/
def quietExpires (s : State) : State :=
  if !s.fab.campion.quiet then s
  else
    let s := onCampion (fun c => { c with quiet := false }) s
    if s.campState ≠ campElecting ∨ s.best.isNone then s
    else
      let s := s.put F.TOPO_STATUS_STATE campReporting
      let s := if s.leads? then s else s.each s.fab.campion.reports (fun r t => toParent r.data t)
      tryReport s

/-- A stray message is counted (R324). -/
def stray (s : State) : State := s.bump F.TOPO_STATUS_STRAY 1

/-- A REPORT received (R307, R324). -/
def takeReport (k : Nat) (d : List Byte) (s : State) : State :=
  if !s.isChild k then stray s
  else
    let s := noteGen (repGen d) (onCampion (fun c => { c with reports := c.reports ++ [⟨some k, d⟩] }) s)
    if (s.campState = campReporting ∨ s.campState = campAssigned) ∧ !s.leads? then toParent d s else s

/-- A REPORT_DONE received (R307, R312, R324, Table 08.2). -/
def takeReportDone (k count : Nat) (d : List Byte) (s : State) : State :=
  if !s.isChild k then stray s
  else
    let s := s.setNbr k { s.nbr k with done := some count }
    if s.campState = campAssigned then (if s.leads? then joinReports s else toParent d s) else tryReport s

/-- An ASSIGN received from the parent (R309, R324). -/
def takeAssign (k : Nat) (d : List Byte) (s : State) : State :=
  let uid := ofLeBytes (slice 0 d 8 8)
  if s.best.bind (·.link) ≠ some k then stray s
  else
    let s := noteGen (ofLeBytes (slice 0 d 24 4)) s
    if uid = s.uid then (if s.campState = campReporting ∨ s.campState = campAssigned then applyAssign d s else s)
    else giveAssign uid d s

/-- BEACON relayed to the children (R311). -/
def takeBeacon (d : List Byte) (s : State) : State :=
  let s := noteGen (ofLeBytes (slice 0 d 4 4)) s
  s.each s.children (fun k t => sendMgmt k 0 d t)

/-- The coordinator's BEACON (R311). -/
def beaconTick (s : State) : State :=
  if s.campState ≠ campAssigned ∨ !s.on F.TOPO_STATUS_COORD then s
  else
    let s := onCampion (fun c => { c with beaconSeq := (c.beaconSeq + 1) % 65536 }) s
    let d := leBytes 1 6 ++ leBytes 1 0 ++ leBytes 2 s.fab.campion.beaconSeq ++ leBytes 4 (s.get F.TOPO_GEN_GEN) ++ leBytes 8 s.uid
    s.each s.children (fun k t => sendMgmt k 0 d t)

/-- No BEACON for BEACON_TMO: the coordinator is marked dead and the node elects again (Table 08.2). -/
def beaconLost (s : State) : State :=
  if (s.campState ≠ campAssigned ∧ s.campState ≠ campReporting) ∨ s.leads? then s
  else
    match s.best with
    | none => s
    | some b =>
      fallBack (onCampion (fun c => { c with dead := c.dead.filter (fun x => x != (b.uid, b.inc)) ++ [(b.uid, b.inc)] }) s)

/-- The parent link is down: the node takes the best neighbour that is not a child and whose claim names the same
candidate, and sends its CLAIM (Table 08.2, Table 08.6). The servo holds over (Table 08.4). -/
def reparent (s : State) : State :=
  match s.best with
  | none => s
  | some b =>
    match b.link with
    | none => s
    | some l =>
      if s.carries l && !s.excluded l then s
      else
        let s := sorrelHoldover s
        let cands := (List.range 6).filterMap (fun k =>
          if k = l || !s.carries k || s.excluded k || s.isChild k then none
          else (s.nbr k).claim.bind (fun c => if sameCandidate c b then some (c.hops, s.nbrUid k, k) else none))
        let pick := cands.foldl (fun (m : Option (Nat × Nat × Nat)) c => match m with
          | none => some c
          | some d => if c.1 < d.1 ∨ (c.1 = d.1 ∧ c.2.1 < d.2.1) then some c else some d) none
        match pick with
        | none => syncTree (onCampion (fun c => { c with best := some { b with link := none } }) s)
        | some (h, _, k) =>
          floodClaim (bestChanged (onCampion (fun c => { c with best := some { b with link := some k, hops := h + 1 } }) s))

/-- PRIORITY is written (R299, R301). -/
def priorityWrite (v : Nat) (s : State) : State :=
  let self := s.leads?
  let old := s.priority
  let s := s.put F.TOPO_CFG_PRIORITY v
  let s := if old = v % 256 then s else s.each ((List.range 6).filter s.carries) sendHello
  if v % 256 = 0xFF ∧ self ∧ (s.campState = campElecting ∨ s.campState = campReporting) then
    bestChanged (enterElecting (onCampion (fun c => { c with best := none }) s))
  else s

/-! ### The Sorrel counter -/

/-- Sorrel time in units of 2^-24 ns. -/
def State.sorrelTime (s : State) : Nat := s.now * 2 ^ 24 + s.get F.TOPO_SRL_FRAC_FRAC

/-- The counter takes a value, modulo its 88 bits. -/
def setSorrelTime (t : Nat) (s : State) : State :=
  (s.put F.TOPO_SRL_TIME_TIME_NS (t / 2 ^ 24)).put F.TOPO_SRL_FRAC_FRAC (t % 2 ^ 24)

/-- The correction in force: the servo's for its 50,000 cycles, the frozen one in HOLDOVER, else none (R313, R317). -/
def State.sorrelCorr (s : State) : Int :=
  if s.srl = 4 then s.fab.sorrel.integ
  else if (s.srl = 2 ∨ s.srl = 3) ∧ s.ticks < s.fab.sorrel.corrEnd then s.fab.sorrel.corr
  else 0

/-- One TIMEBASE cycle of the counter: INC is 2.5 ns plus the correction's share (R313, R317). -/
def sorrelTick (s : State) : State :=
  let x := s.fab.sorrel
  let acc : Int := (x.rem : Int) + 41943040 * 50000 + s.sorrelCorr
  onSorrel (fun x => { x with rem := (acc % 50000).toNat }) (setSorrelTime (s.sorrelTime + (acc / 50000).toNat) s)

/-- The counter steps by a signed amount (R317, R318): counted, noted by the log and by every slot, and reported. -/
def sorrelStep (d : Int) (s : State) : State :=
  let t := (((s.sorrelTime : Int) + d) % ((2 ^ 88 : Nat) : Int)).toNat
  let s := (setSorrelTime t s).bump F.TOPO_SRL_STATUS_STEPS 1
  let s := stepSlots { s with log := { s.log with stepped := true } }
  raiseNode ⟨Ev.SORREL_STEP, 0, s.ownAddr, s.get F.TOPO_GEN_GEN, ofSigned 64 (d / 16777216)⟩ s

/-- SYNC_REQ on every ACTIVE link that is not excluded (R315). `d` is how far into the TIMEBASE cycle each header slot
leaves, in units of 2^-24 ns. -/
def syncTick (d : Nat) (s : State) : State :=
  s.each ((List.range 6).filter (fun k => s.linkUp k && !s.excluded k)) (fun k t =>
    let x := t.nbr k
    let seq := (x.seq + 1) % 65536
    let t1 := t.sorrelTime + d
    sendMgmt k 1 (leBytes 1 1 ++ leBytes 1 0 ++ leBytes 2 seq ++ leBytes 4 (t.get F.TOPO_GEN_GEN) ++ leBytes 8 (t.get F.TOPO_COORD_UID) ++
      leBytes 8 (t1 / 2 ^ 24) ++ leBytes 4 (t1 % 2 ^ 24) ++ leBytes 4 0) (t.setNbr k { x with seq := seq, open_ := true }))

/-- The node may answer as traceable (R316). -/
def State.traceable (s : State) : Bool := s.srl == 1 || s.srl == 2 || s.srl == 3

/-- A SYNC_REQ is answered (R315, R316); `d2` places its arrival in the cycle and `turn` is the time until the answer
leaves. -/
def takeSyncReq (k : Nat) (b : List Byte) (d2 turn : Nat) (s : State) : State :=
  let t2 := s.sorrelTime + d2
  let t3 := t2 + turn
  sendMgmt k 1 (leBytes 1 2 ++ leBytes 1 (b2n s.traceable) ++ slice 0 b 2 2 ++ leBytes 4 (s.get F.TOPO_GEN_GEN) ++
    leBytes 8 (s.get F.TOPO_COORD_UID) ++ slice 0 b 16 12 ++ leBytes 4 0 ++ leBytes 8 (t2 / 2 ^ 24) ++ leBytes 4 (t2 % 2 ^ 24) ++
    leBytes 4 0 ++ leBytes 8 (t3 / 2 ^ 24) ++ leBytes 4 (t3 % 2 ^ 24) ++ leBytes 4 0) s

/-- A stamp of an exchange: nanoseconds and fraction at an offset. -/
def stampAt (b : List Byte) (o : Nat) : Int := (ofLeBytes (slice 0 b o 8) * 2 ^ 24 + ofLeBytes (slice 0 b (o + 8) 4) % 2 ^ 24 : Nat)

/-- A number in units of 2^-24 ns from whole nanoseconds. -/
def ns24 (n : Nat) : Int := (n * 2 ^ 24 : Nat)

/-- The servo takes a traceable offset (R317, Table 08.4). -/
def servo (theta : Int) (s : State) : State :=
  let lock := ns24 (s.get F.TOPO_SRL_CFG_LOCK_THR)
  let step := ns24 (s.get F.TOPO_SRL_CFG_STEP_THR)
  let mag := (theta.natAbs : Int)
  let s := if s.srl = 4 then
      onSorrel (fun x => { x with goodRun := 0, badRun := 0, first := false }) (s.put F.TOPO_SRL_STATUS_STATE 2) else s
  let x := s.fab.sorrel
  let good := if mag ≤ lock then x.goodRun + 1 else 0
  let bad := if 4 * lock < mag then x.badRun + 1 else 0
  if (if x.first then lock < mag else step < mag) then
    let s := if s.srl = 3 then srlEvent Ev.SORREL_UNLOCK (s.put F.TOPO_SRL_STATUS_STATE 2) else s
    sorrelStep theta (onSorrel (fun x => { x with integ := 0, first := false, goodRun := 0, badRun := 0 }) s)
  else
    let integ := x.integ + theta / 64
    let corr := clampInt (-1048576000) 1048576000 (theta / 4 + integ)
    let s := onSorrel (fun x => { x with integ := integ, corr := corr, corrEnd := s.ticks + 50000, first := false,
                                         goodRun := good, badRun := bad }) s
    let s := s.put F.TOPO_SRL_RATE_RATE (rateOf corr)
    if s.srl = 2 ∧ 64 ≤ good then srlEvent Ev.SORREL_LOCK (s.put F.TOPO_SRL_STATUS_STATE 3)
    else if s.srl = 3 ∧ 4 ≤ bad then
      srlEvent Ev.SORREL_UNLOCK (onSorrel (fun x => { x with goodRun := 0, badRun := 0 }) (s.put F.TOPO_SRL_STATUS_STATE 2))
    else s

/-- A SYNC_RSP (R315, R317): measured, and on the parent link given to the servo when it is traceable to the node's
master. `d4` places its arrival in the cycle. -/
def takeSyncRsp (k : Nat) (b : List Byte) (d4 : Nat) (s : State) : State :=
  let x := s.nbr k
  if !x.open_ || ofLeBytes (slice 0 b 2 2) ≠ x.seq then s
  else
    let s := s.setNbr k { x with open_ := false }
    let t1 := stampAt b 16
    let t2 := stampAt b 32
    let t3 := stampAt b 48
    let t4 : Int := ((s.sorrelTime + d4 : Nat) : Int)
    let theta := ((t2 - t1) - (t4 - t3)) / 2
    let delay := ((t2 - t1) + (t4 - t3)) / 2
    let s := s.put (F.TOPO_SRL_DELAY_DELAY k) (ofSigned 32 (delay / 65536))
    if s.best.bind (·.link) ≠ some k ∨ s.srl = 0 ∨ s.srl = 1 then s
    else
      let s := s.put F.TOPO_SRL_OFFSET_THETA (ofSigned 32 (clampInt (-2147483648) 2147483647 (theta / 65536)))
      let traceable := bit (ofLeBytes (slice 0 b 1 1)) 0
      if s.campState = campAssigned && traceable && ofLeBytes (slice 0 b 8 8) == s.get F.TOPO_COORD_UID then servo theta s else s

/-- TOPO_SRL_SET (R318). -/
def sorrelSet (v : Nat) (s : State) : State :=
  if s.on F.TOPO_STATUS_COORD && s.campState == campAssigned then sorrelStep ((v * 2 ^ 24 : Nat) - (s.sorrelTime : Int)) s
  else s.put F.TOPO_SRL_STATUS_SET_REFUSED 1

end Sys2Proof.Machine
end

