-- ==== Sys2Proof/Machine/RingCmds.lean ====
section
/-! DEFINITION. Commands on rings: configuration, doorbells, entries, programs, completions, pauses, tallies and the
attention invokes a ring runs (R329 to R361, R379, R388, R462, R463). -/

namespace Sys2Proof.Machine

/-- A write into a partition's window acts only while the window takes accesses (R520, R704). -/
def inWindow (r : Nat) (f : State → State) (s : State) : Out := if s.window (r / 8) then .next (f s) else .next s

/-- RING_ENABLE: CFG is written with EN = 1 (R334). -/
def execRingEnable (r : Fin 128) (ctx : BitVec 12) (size : BitVec 5) (s : State) : Out :=
  inWindow r.val (ringCfgWrite r.val true ctx.toNat size.toNat) s

/-- RING_DISABLE: CFG is written with EN = 0 and its other fields as they are (R334). -/
def execRingDisable (r : Fin 128) (s : State) : Out :=
  inWindow r.val (ringCfgWrite r.val false (s.get (F.PW_RING_CFG_CTX (r.val / 8) (r.val % 8)))
    (s.get (F.PW_RING_CFG_LOG2SIZE (r.val / 8) (r.val % 8)))) s

/-- RING_CONFIG_WRITE: SQ_BASE, CQ_BASE or CFG is written (R333). -/
def execRingConfigWrite (r : Fin 128) (reg : Fin 3) (v : W64) (s : State) : Out :=
  inWindow r.val (fun s =>
    if reg.val = 2 then ringCfgWrite r.val (bit v.toNat 31) (bits v.toNat 27 16) (bits v.toNat 4 0) s
    else ringBaseWrite r.val (reg.val == 1) v.toNat s) s

/-- The steward rebinds a DISABLED ring (R345). -/
def bindRing (n v : Nat) (s : State) : State :=
  if s.ringState n = 0 then (s.put (F.RING_BIND_CLUSTER n) (bits v 5 4)).put (F.RING_BIND_CORE n) (bits v 3 0) else s

/-- RING_BIND_WRITE. -/
def execRingBindWrite (n : Fin 128) (v : W32) (s : State) : Out := .next (bindRing n.val v.toNat s)

/-- DOORBELL: a write to PW_RING_k_DB (R339, R341). -/
def execDoorbell (r : Fin 128) (t : W32) (s : State) : Out := inWindow r.val (applyDoorbell r.val t.toNat) s

/-- ENTRY_FETCH: a RUNNING ring fetches its next entry (R338). -/
def execEntryFetch (r : Fin 128) (host : List Byte) (s : State) : Out :=
  if s.ringState r.val = 1 then .next (fetchEntry r.val host s) else .next s

/-- PROGRAM_START: the ring's next submission entry starts, or a program of the SM does (R344, R365). -/
def execProgramStart (r : Fin 132) (sm : List W64) (s : State) : Out :=
  if smRing r.val then .next (startSm r.val sm s)
  else
    let x := s.ring r.val
    match x.fetched with
    | e :: _ => if s.ringReady r.val && !x.invokeNext then .next (startEntry r.val e s) else .next s
    | [] => .next s

/-- PROGRAM_END: a held completion is written; or a program whose last instruction has retired closes its emission and,
once no tally is BUSY, completes (R344, R351, R382). -/
def execProgramEnd (r : Fin 132) (dmaFail : Bool) (s : State) : Out :=
  match s.prog r.val with
  | none => .next (retryHeld r.val dmaFail s)
  | some p =>
    if !p.ended || p.failed || p.invoke.isSome then .next s
    else if p.busy then .next (closeJobs r.val s)
    else .next (endProgram r.val p dmaFail s)

/-- COMPLETION_INTERRUPT: a NOTIFY completion within the gap is signalled at its end (R350). -/
def execCompletionInterrupt (r : Fin 128) (s : State) : Out :=
  if (s.ring r.val).irqDue then .next (notifyRing r.val s) else .next s

/-- A write of PW_RING_k_CQ_HEAD: completion space is freed, or CFG_ERR set (R352). -/
def cqHeadWrite (r v : Nat) (s : State) : State :=
  if s.ringSize r < sub32 (s.cqTail r) v then cfgErr r s
  else retryHeld r false (syncCqFull r (s.put (F.PW_RING_CQ_HEAD_HEAD (r / 8) (r % 8)) v))

/-- CQ_HEAD_WRITE. -/
def execCqHeadWrite (r : Fin 128) (v : W32) (s : State) : Out := inWindow r.val (cqHeadWrite r.val v.toNat) s

/-- A PAUSED ring the steward does not hold returns to RUNNING; a ring whose EN is 0 returns to STOPPING. A completion
that was lost is written again (R354, R358). -/
def resumeRing (r : Nat) (s : State) : State :=
  if s.ringState r ≠ 2 ∨ (s.ring r).hold then s
  else
    let s := setRingState r (if s.on (F.PW_RING_CFG_EN (r / 8) (r % 8)) then 1 else 3) s
    settleRing r (retryHeld r false s)

/-- RING_RESUME: RESUME = 1 is written to PW_RING_k_CTL (R354). -/
def execRingResume (r : Fin 128) (s : State) : Out := inWindow r.val (resumeRing r.val) s

/-- Every unfetched entry is fetched; `host` holds those of a host queue. The answer is none while one cannot be. -/
def fetchAll (r : Nat) : Nat → List (List Byte) → State → Option State
  | 0, _, s => some s
  | n + 1, host, s =>
    if s.sqHead r = s.sqTail r then some s
    else
      let t := fetchEntry r (host.headD []) s
      if t.sqHead r = s.sqHead r then none else fetchAll r n (host.drop 1) t

/-- FLUSH is written with RESUME: every entry that has not started completes RING_PAUSED, and then the ring resumes (R354). -/
def flushRing (r : Nat) (host : List (List Byte)) (s : State) : State :=
  if s.ringState r ≠ 2 ∨ (s.ring r).hold then s
  else
    match fetchAll r 65536 host s with
    | none => s
    | some t =>
      let x := t.ring r
      let t := t.setRing r { x with fetched := x.fetched.map (fun e => { e with bad := some (0x51, 0) }) }
      resumeRing r (drainFlushed r x.fetched.length t)

/-- RING_FLUSH. -/
def execRingFlush (r : Fin 128) (host : List (List Byte)) (s : State) : Out := inWindow r.val (flushRing r.val host) s

/-- The steward pauses the ring with cause STEWARD (R353, R354). -/
def holdRing (n : Nat) (s : State) : State :=
  let s := s.setRing n { s.ring n with hold := true }
  if s.ringState n = 1 ∨ s.ringState n = 2 then pauseRing n 4 s else s

/-- The steward's hold ends; the ring stays PAUSED until RESUME (R354). -/
def releaseRing (n : Nat) (s : State) : State := s.setRing n { s.ring n with hold := false }

/-- STEWARD_HOLD. -/
def execStewardHold (n : Fin 128) (s : State) : Out := .next (holdRing n.val s)

/-- STEWARD_RELEASE. -/
def execStewardRelease (n : Fin 128) (s : State) : Out := .next (releaseRing n.val s)

/-- END: the program's last instruction retires, and its open emission closes (R372). -/
def execKcsEnd (r : Fin 132) (g : Guard) (s : State) : Out :=
  kcs r g (encB 0x01 g 0 0) [] (fun p s => closeJobs r.val (s.setProg r.val { p with ended := true, stall := .no })) s

/-- PROGRAM_RESTART: a RESTARTABLE program whose core has failed starts again at word 0 on the core that hosts its ring,
once its tallies are done. The store's copy serves in the same cluster; otherwise the program is fetched and checked
again (R388). -/
def execProgramRestart (r : Fin 128) (s : State) : Out :=
  match s.prog r.val with
  | none => .next s
  | some p =>
    if !p.failed || p.busy then .next s
    else
      match s.hostOf (s.ringCore r.val) with
      | none => .next s
      | some c =>
        if !s.coreIdle c then .next s
        else
          let begin_ := fun (ws : List W64) (t : State) =>
            (t.setCore c ⟨r.val, some (r.val / 8), []⟩).setRing r.val
              { t.ring r.val with prog := some { Prog.start p.entry none ws c with restarts := p.restarts + 1 } }
          if c / 16 = p.core / 16 then .next (begin_ p.words s)
          else
            match copyProgram r.val p.entry s with
            | (.held, _) => .next s
            | (.words ws, t) => .next (begin_ ws t)
            | (.bad st d pc, t) =>
              .next (endProgram r.val { p with fault := some (st, d, pc), failed := false, restarts := p.restarts + 1 } false t)

/-! ### Attention invokes on a ring -/

/-- RET_VA of an invoke (R460). -/
def Invoke.retVa (i : Invoke) : Nat := bits (ofLeBytes (slice 0 i.pkt.data 128 8)) 51 0
/-- RET_CID. -/
def Invoke.retCid (i : Invoke) : Nat := ofLeBytes (slice 0 i.pkt.data 136 2)
/-- The job descriptor. -/
def Invoke.job (i : Invoke) : List W64 := wordsOf (slice 0 i.pkt.data 0 64)
/-- The data descriptor. -/
def Invoke.data (i : Invoke) : List W64 := wordsOf (slice 0 i.pkt.data 64 64)

/-- An invoke's RESULT (R463). -/
def sendResult (i : Invoke) (status detail : Nat) (s : State) : State :=
  let s := if status = 0x50 then s.bump F.ATT_INV_MALF_COUNT 1 else s
  let d := leBytes 4 detail ++ leBytes 4 0 ++ leBytes 8 s.now
  let w1 := bits i.pkt.w1 63 52 + status * 2 ^ 12
  respond i.link .result { Packet.empty with opc := 7, len := 1, dst := i.pkt.src, cid := i.pkt.cid, w1 := w1, data := d } s

/-- INVOKE_TAKEN: at a program boundary the ring takes its oldest invoke and issues its ATTN (R346, R347, R462). -/
def execInvokeTaken (r : Fin 128) (s : State) : Out :=
  let x := s.ring r.val
  match x.invokes with
  | [] => .next s
  | i :: rest =>
    if !s.ringReady r.val || !x.invokeNext then .next s
    else
      match s.startCore r.val with
      | none => .next s
      | some c =>
        let p := Prog.start ⟨0, [], none⟩ (some i) [] c
        let t := (takeCore c r.val s).setRing r.val { x with invokes := rest, consec := x.consec + 1, prog := some { p with ended := true } }
        let f := i.job
        let d := i.data
        if attnBad f d then
          .next (t.setRing r.val { t.ring r.val with prog := some { p with ended := true, fault := some (0x50, 0, 0) } })
        else if (s.attnClusters (s.get F.ATT_CFG_CLUSTERS)).isEmpty then
          .next ((issueDone r.val 0 0x30 (clusterIsland p.cluster) { p with ended := true } t).bump F.ATT_JOBS_COUNT 1)
        else
          match attnStart r.val 0 p.cluster f d (t.setProg r.val ({ p with ended := true }.issue 0)) with
          | some u => .next u
          | none => .next s

/-- Bytes of an attention job's outputs that a return copies (R462). -/
def Job.returnBytes (j : Job) : Nat :=
  let a := j.attn
  if a.partials then
    (List.range j.seqs.length).foldl (fun m i => max m ((j.seq i).part + a.chunks (j.pageCount i) * a.qh)) 0 * 1088
  else a.batch * a.qh * a.orow

/-- The return copy of an invoke starts once its job is done (R462, Table 10.5). -/
def startReturn (r : Nat) (j : Job) (s : State) : State :=
  match s.prog r with
  | none => s
  | some p =>
    match p.invoke with
    | none => s
    | some i =>
      let x := p.tally 0
      let a := j.attn
      if x.st ≠ 2 || i.retVa == 0 || !(x.status == 0 || x.status == 1 || x.status == 0x20) || (p.tally 1).st != 0 then s
      else if j.returnBytes = 0 then s.setProg r (p.setT 1 { Tally.idle with st := 2 })
      else
        let w3 := a.ctx + 2 ^ 29 + i.pkt.src * 2 ^ 32 + i.retCid * 2 ^ 48
        let f := [if a.partials then a.pva else a.ova, i.retVa, j.returnBytes, w3, 0, 0, 0, 0].map (BitVec.ofNat 64)
        dmaStart ⟨r, 1, false, f, 0, false⟩ (s.setProg r (p.setT 1 { Tally.idle with st := 1 }))

/-- RESULT_SEND: the job and its return copy are done, and the RESULT is sent; a return copy that exhausted its attempts
sends none (R382, R463). -/
def execResultSend (r : Fin 128) (s : State) : Out :=
  match s.prog r.val with
  | none => .next s
  | some p =>
    match p.invoke with
    | none => .next s
    | some i =>
      let job := p.tally 0
      let copy := p.tally 1
      let wants := i.retVa != 0 && p.fault.isNone && (job.status == 0 || job.status == 1 || job.status == 0x20)
      if p.busy || (p.fault.isNone && job.st != 2) || (wants && copy.st != 2) then .next s
      else
        let t := settleRing r.val (s.setRing r.val { s.ring r.val with prog := none })
        if wants && copy.status == 0x31 then .next t
        else
          match p.fault with
          | some (st, d, _) => .next (sendResult i st d t)
          | none =>
            if wants && 16 ≤ copy.status && job.status < 16 then .next (sendResult i copy.status copy.detail t)
            else .next (sendResult i job.status job.detail t)

/-! ### Unit work that ends -/

/-- TALLY_COMPLETE: the unit work of a tally ends, when it can, and the tally becomes DONE (R379). -/
def execTallyComplete (r : Fin 132) (t : Fin 16) (s : State) : Out :=
  match s.hatch.jobs.find? (fun j => j.ring == r.val && j.t == t.val) with
  | some j =>
    match finishJob j s with
    | some u => .next (startReturn r.val j u)
    | none => .next s
  | none =>
    match s.rings.dma.find? (fun x => x.ring == r.val && x.t == t.val) with
    | some x => if x.remote then .next (dmaAdvance x s) else .next (dmaLocal x s (x.len + 1) 0 s)
    | none =>
      match s.tns.cap with
      | some c => if c.ring = r.val ∧ c.t = t.val then .next (capFinish (capFlush s)) else .next s
      | none => .next s

end Sys2Proof.Machine
end

