-- ==== Sys2Proof/Machine/XltCmds.lean ====
section
/-! DEFINITION. Translation commands: granule table repair, window invalidations and acknowledgements and the context
base (R189 to R232). -/

namespace Sys2Proof.Machine

/-- GT_ENTRY_REWRITE: an entry becomes uncorrectable, or the SM rewrites it from its copy and reports it (R228). -/
def execGtEntryRewrite (g : Fin 16384) (bad : Bool) (s : State) : Out :=
  if bad then .next { s with xlt := { s.xlt with gtUe := NSet.ins s.xlt.gtUe g.val } }
  else if s.xlt.gtUe.contains g.val then
    let s := { s with xlt := { s.xlt with gtUe := NSet.del s.xlt.gtUe g.val } }
    .next (raiseNode ⟨Ev.XLT_GT_UE, g.val, 0, 0, 0⟩ (s.bump F.XLT_STATUS_GT_UE 1))
  else .next s

/-- PW_INV_SUBMIT: the partition's write to PW_INV_3 (R223); ignored while its window takes no access (R520, R704). -/
def execPwInvSubmit (p : Fin 16) (w3 : W64) (s : State) : Out :=
  if s.window p.val then .next (windowInvalidate p.val w3.toNat s) else .next s

/-- The INV_ACK packet of an acknowledgement (R220, R252, Table 07.6). -/
def invAckPacket (addr : Nat) (a : InvAck) (s : State) : Packet :=
  { opc := 0xA, len := 1, vc := 5, dl := 0, rev := 0, poison := false, dst := addr, src := s.get F.TOPO_STATUS_ADDR,
    cid := a.cid, w1 := 0, data := leBytes 4 a.epoch ++ leBytes 4 a.tag ++ leBytes 2 a.cid ++ leBytes 1 a.status ++ leBytes 5 0 }

/-- One acknowledgement is given: on the fabric to its issuer, or through the window with INV_ACK (R216, R217, R220,
R221, R223). -/
def giveInvAck (a : InvAck) (s : State) : State :=
  let s := if a.applied then takeEpoch (F.XLT_EPOCH_ACK_EPOCH a.p) a.epoch s else s
  match a.from_ with
  | .fab link addr _ => respond link .inval (invAckPacket addr a s) s
  | .window =>
    let s := ((s.put (F.PW_INV_ACK_TAG a.p) a.tag).put (F.PW_INV_ACK_EPOCH a.p) a.epoch).put (F.PW_INV_STATUS_ACK_STATUS a.p) a.status
    let s := s.put (F.PW_INV_STATUS_PENDING a.p) (s.get (F.PW_INV_STATUS_PENDING a.p) - 1)
    raisePart a.p ⟨Ev.INV_ACK, a.p, a.epoch, a.tag, a.status⟩ s

/-- The oldest acknowledgement of a partition, with the rest of the queue. -/
def takeAck (p : Nat) : List InvAck → Option (InvAck × List InvAck)
  | [] => none
  | a :: l => if a.p = p then some (a, l) else (takeAck p l).map (fun x => (x.1, a :: x.2))

/-- INVALIDATION_ACK: every access translated before the partition's oldest accepted invalidation has completed, and
its acknowledgement is sent (R216, R217). -/
def execInvalidationAck (p : Fin 16) (s : State) : Out :=
  match takeAck p.val s.xlt.acks with
  | some (a, rest) => .next (giveInvAck a { s with xlt := { s.xlt with acks := rest } })
  | none => .next s

/-- A write to PW_XLT_CTX: the base and enables change and every cached entry of the partition is dropped (R227). -/
def xltCtxWrite (p : Nat) (v : Nat) (s : State) : State :=
  dropCaches p (((s.put (F.PW_XLT_CTX_BASE p) (bits v 43 16)).put (F.PW_XLT_CTX_DIRECT_EN p) (bits v 1 1)).put
    (F.PW_XLT_CTX_EN p) (bits v 0 0))

/-- PW_XLT_CTX_WRITE. -/
def execPwXltCtxWrite (p : Fin 16) (v : W64) (s : State) : Out :=
  if s.window p.val then .next (xltCtxWrite p.val v.toNat s) else .next s

/-- The granules whose entries satisfy a test. -/
def State.granulesWhere (s : State) (f : GState → Bool) : List Nat :=
  (s.xlt.gran.filter (fun e => f e.2)).map (·.1)

end Sys2Proof.Machine
end

