-- ==== Sys2Proof/Machine/Fabric.lean ====
section
/-! DEFINITION. A received packet: credit, form, destination, and what requests, responses, invokes, doorbells, atomics and
management packets do (R209, R249 to R263, R282 to R288, R298 to R302, R339, R340, R461, R462, R780, R781). -/

namespace Sys2Proof.Machine

/-! ### Form -/

/-- LINES of a request. -/
def Packet.lines (p : Packet) : Nat := bits p.w1 5 4 + 1
/-- Line address of a request. -/
def Packet.va (p : Packet) : Nat := bits p.w1 51 6 * 64
/-- TAG of a request. -/
def Packet.reqTag (p : Packet) : Nat := bits p.w1 63 52
/-- Byte i of the data slots. -/
def Packet.byte (p : Packet) (i : Nat) : Nat := (p.data.getD i 0).toNat

/-- Bytes of the data slots are zero. -/
def Packet.zeros (p : Packet) (o n : Nat) : Bool := allZero (slice 0 p.data o n)

/-- A Campion message follows R298 and Table 08.1. -/
def campionOk (p : Packet) : Bool :=
  let ty := p.byte 0
  if ty = 1 then
    p.len == 2 && p.byte 1 == 1 && p.byte 2 ≤ 3 && p.byte 4 ≤ 6 && p.byte 5 / 64 ≤ 1 && p.zeros 6 2 && p.zeros 24 8
  else if ty = 2 then p.len == 3 && p.zeros 3 1 && p.zeros 32 16
  else if ty = 3 then
    p.len == 7 && p.byte 1 ≤ 3 && p.byte 3 ≤ 1 && p.zeros 22 2 && p.zeros 104 8 &&
      (List.range 6).all (fun j => bits (p.byte (32 + 12 * j)) 5 3 == 0 && p.byte (32 + 12 * j) % 8 ≤ 6 && p.zeros (34 + 12 * j) 2)
  else if ty = 4 then p.len == 1 && p.zeros 1 3
  else if ty = 5 then p.len == 2 && p.byte 1 ≤ 1 && p.byte 7 / 64 == 0 && p.zeros 28 4
  else if ty = 6 then p.len == 1 && p.zeros 1 1
  else if ty = 7 then p.len == 1 && p.zeros 1 7
  else false

/-- A Sorrel message follows R298 and Table 08.3. -/
def sorrelOk (p : Packet) : Bool :=
  let ty := p.byte 0
  if ty = 1 then p.len == 2 && p.zeros 1 1 && p.zeros 27 5
  else if ty = 2 then p.len == 4 && p.byte 1 ≤ 1 && p.zeros 27 5 && p.zeros 43 5 && p.zeros 59 5
  else false

/-- An SPDM fragment has the framing of Table 14.6 (R511). -/
def spdmOk (p : Packet) : Bool :=
  let n := ofLeBytes (slice 0 p.data 4 2)
  (p.byte 0 == 1 || p.byte 0 == 2) && p.byte 1 ≤ 3 && 1 ≤ n && n ≤ 240 && p.len == 1 + (n + 15) / 16 && p.zeros 6 10

/-- A management packet is well formed (R250, R298, R511, R715). -/
def mgmtOk (p : Packet) : Bool :=
  let sub := p.w1 % 256
  p.w1 / 256 == 0 && p.dl == 0 && p.rev == 0 &&
    (if sub = 0 then p.dst == 0xFFFF && p.cid == 0 && campionOk p
     else if sub = 1 then p.dst == 0xFFFF && p.cid == 0 && sorrelOk p
     else if sub = 3 then p.len == 2
     else sub == 2 && p.dst == 0xFFFF && p.cid == 0 && spdmOk p)

/-- A packet is well formed (R250): its opcode, length, VC and zero fields. -/
def State.packetOk (s : State) (k : Nat) (p : Packet) : Bool :=
  !p.rsv && p.len ≤ 16 && (opcRoles p.opc).any (fun r => (roleVcs r (s.vcs k)).contains p.vc) &&
    (if p.opc = 0 then p.len == 0 && p.w1 % 16 == 0
     else if p.opc = 1 then p.len == 4 * p.lines && p.w1 % 16 == 0
     else if p.opc = 2 then p.len == 5 && p.w1 % 64 == 0 && p.zeros 8 8
     else if p.opc = 3 then p.len == 2 && p.zeros 2 6 && (7 < p.byte 0 || p.byte 0 == 2 || p.zeros 16 8)
     else if p.opc = 4 then (p.len == 1 || p.len == 4 || p.len == 8 || p.len == 12 || p.len == 16) && p.w1 / 2 ^ 20 == 0
     else if p.opc = 5 then p.len == 0 && p.w1 / 2 ^ 20 == 0
     else if p.opc = 6 then true
     else if p.opc = 7 then p.w1 / 2 ^ 20 == 0
     else if p.opc = 8 then mgmtOk p
     else if p.opc = 9 then p.len == 2 && p.w1 == 0
     else if p.opc = 10 then p.len == 1 && p.w1 == 0 && p.zeros 11 5
     else false)

/-! ### Requests -/

/-- The source of a request: entitled only on the VC of its role (R209, R461). -/
def fabSrc (k : Nat) (p : Packet) (role : Role) (s : State) : Src := .fab k p.src ((roleVcs role (s.vcs k)).contains p.vc)

/-- A response without data (R252). -/
def reply (k : Nat) (p : Packet) (status : Nat) (s : State) : State :=
  respond k .response { Packet.empty with opc := 5, dst := p.src, cid := p.cid, poison := status == 0x20,
                                          w1 := p.reqTag + status * 2 ^ 12 } s

/-- A response with data (R252). -/
def replyData (k : Nat) (p : Packet) (data : List Byte) (s : State) : State :=
  respond k .response { Packet.empty with opc := 4, len := data.length / 16, dst := p.src, cid := p.cid, w1 := p.reqTag, data := data } s

/-- The status of an access, MEM_UNAVAILABLE before poison (R252). -/
def AccRes.fabStatus (r : AccRes) : Nat := if r.unavail.isSome then 0x21 else if r.poison then 0x20 else 0

/-- An RD, WR or WRP crosses a 256 B boundary (R249, R251). -/
def Packet.crosses256 (p : Packet) : Bool := 4 < p.va % 256 / 64 + p.lines

/-- A write of the enabled bytes of one line at a virtual address (R167, R210). -/
def writeMasked (src : Src) (cid va mask : Nat) (data : List Byte) (s : State) : AccRes × State :=
  countAccess src cid .wr
    (match translate src cid va .wr s with
    | (.ok ppa, s) =>
      (match lineOp (ppa / 64) (.part mask data) s with
      | (.ok _, s) => (AccRes.empty, s)
      | (.poison, s) => ({ AccRes.empty with poison := true }, s)
      | (.unavailable, s) => ({ AccRes.empty with unavail := some (channelOf ppa) }, s)
      | (.held, s) => ({ AccRes.empty with held := true }, s))
    | (.viol v, s) => ({ AccRes.empty with viol := some (v, va) }, s)
    | (.poison, s) => ({ AccRes.empty with poison := true }, s)
    | (.unavailable a, s) => ({ AccRes.empty with unavail := some (channelOf a) }, s)
    | (.held, s) => ({ AccRes.empty with held := true }, s))

/-- Steps 1 to 6 of Table 06.4 for a source and context: the context entry's words (R340, R461). -/
def sourceSteps (src : Src) (cid : Nat) (s : State) : Except XRes CachedCtx × State :=
  let p := cid / 4096 % 16
  let c := cid % 4096
  if !s.live p then (.error (.viol .state), s)
  else if !s.partEntitled src p c then (.error (.viol .source), s)
  else if c = 4095 ∨ !s.on (F.PW_XLT_CTX_EN p) then (.error (.viol .noContext), s)
  else
    match contextEntry (p * 4096 + c) s with
    | (.error e, s) => (.error e, s)
    | (.ok ce, s) => if ctxEntitled src ce.w1 then (.ok ce, s) else (.error (.viol .source), s)

/-- The doorbell aperture (R339). -/
def inAperture (va : Nat) : Bool := 0xFFFFFFFFF0000 ≤ va && va < 0xFFFFFFFFF0200

/-- A fabric write into the doorbell aperture (R339, R340, R779). -/
def fabricDoorbell (k : Nat) (p : Packet) (s : State) : Option State :=
  let src := fabSrc k p .request s
  let part := p.cid / 4096 % 16
  let bad := fun (v : Viol) (t : State) => some (reply k p 0 (recordViolation part v 1 p.va p.cid src t))
  match sourceSteps src p.cid s with
  | (.error (.viol v), t) => bad v t
  | (.error .poison, t) => some (reply k p 0x20 t)
  | (.error (.unavailable _), t) => some (reply k p 0x21 t)
  | (.error _, _) => none
  | (.ok ce, t) =>
    if !bit ce.w0 2 || (p.opc == 2 && ofLeBytes (slice 0 p.data 0 8) != 0xF) then bad .permission t
    else
      let o := if p.opc = 2 then 16 else 0
      let t := t.each (List.range (if p.opc = 2 then 1 else p.lines)) (fun i u =>
        applyDoorbell (8 * part + (p.va / 64 + i) % 8) (ofLeBytes (slice 0 p.data (o + 64 * i) 4)) u)
      some (reply k p 0 t)

/-! ### The atomic memo -/

/-- TIMEBASE cycles an entry is kept after its response (R288). -/
def State.memoHold (s : State) : Nat := s.get F.FP_MEMO_CFG_HOLD_US * 400

/-- TIMEBASE cycles of one second. -/
def ticksPerSec : Nat := 400000000

/-- Room for one more entry: the oldest is given up when the memo is full and its hold is over (R287, R288). -/
def memoRoom (s : State) : Option State :=
  if s.fab.memo.length < 65536 then some s
  else
    match s.fab.memo with
    | e :: rest => if e.sent + s.memoHold ≤ s.ticks then some { s with fab := { s.fab with memo := rest } } else none
    | [] => some s

/-- FAB_MEMO_FULL, at most once a second (R288). -/
def memoFullEvent (k : Nat) (s : State) : State :=
  let s := s.bump F.FP_MEMO_STAT_FULL_DROP 1
  if s.fab.memoFull.any (fun t => s.ticks < t + ticksPerSec) then s
  else linkEvent Ev.FAB_MEMO_FULL k { s with fab := { s.fab with memoFull := some s.ticks } }

/-- The response of an atomic. -/
def atomReply (k : Nat) (p : Packet) (status : Nat) (old : List Byte) (s : State) : State :=
  if status = 0 then replyData k p (slice 0 old 0 8 ++ List.replicate 8 0) s else reply k p status s

/-- A fabric ATOM (R100, R251, R253, R287, R288). -/
def serveAtom (k : Nat) (p : Packet) (s : State) : Option State :=
  let op := p.byte 0
  let sz := p.byte 1
  let va := bits p.w1 51 0
  let uid := ofLeBytes (slice 0 p.data 24 8)
  if s.pwr.atomWindow then some s
  else if 7 < op || 1 < sz || va % (if sz = 0 then 4 else 8) != 0 then some (reply k p 0x50 s)
  else
    match s.fab.memo.find? (fun e => e.src == p.src && e.uid == uid) with
    | some e => some (atomReply k p e.status e.old (s.bump F.FP_MEMO_STAT_HITS 1))
    | none =>
      match memoRoom s with
      | none => some (memoFullEvent k s)
      | some t =>
        let (r, u) := atomicVA (fabSrc k p .request s) p.cid va op sz (ofLeBytes (slice 0 p.data 8 8)) (ofLeBytes (slice 0 p.data 16 8)) t
        if r.held then none
        else
          let st := r.fabStatus
          let u := { u with fab := { u.fab with memo := u.fab.memo ++ [⟨p.src, uid, st, slice 0 r.data 0 8, u.ticks⟩] } }
          some (atomReply k p st r.data u)

/-! ### Invokes -/

/-- An INVOKE whose form R462 refuses. -/
def invokeBad (p : Packet) : Bool :=
  p.len != 9 || bits p.w1 51 3 != 0 || ofLeBytes (slice 0 p.data 128 8) / 2 ^ 52 != 0 || !p.zeros 138 6 ||
    bit (ofLeBytes (slice 0 p.data 0 8)) 28

/-- A fabric INVOKE: its form, its entitlement, and its place in the ring's queue (R348, R461, R462, R779). The answer is
none while the queue is full or a line is held. -/
def serveInvoke (k : Nat) (p : Packet) (s : State) : Option State :=
  let i : Invoke := ⟨k, p⟩
  if invokeBad p then some (sendResult i 0x50 0 s)
  else
    let part := p.cid / 4096 % 16
    let src := fabSrc k p .invoke s
    let bad := fun (v : Viol) (t : State) => some (sendResult i 0 0 (recordViolation part v 0 0 p.cid src t))
    let r := 8 * part + p.w1 % 8
    match sourceSteps src p.cid s with
    | (.error (.viol v), t) => bad v t
    | (.error .poison, t) => some (sendResult i 0x20 0 t)
    | (.error (.unavailable a), t) => some (sendResult i 0x21 (channelOf a) t)
    | (.error _, _) => none
    | (.ok ce, t) =>
      if !bit ce.w0 1 then bad .permission t
      else
        match sourceSteps (.ring r) (part * 4096 + bits (fld i.data 4) 11 0) t with
        | (.error (.viol _), u) => bad .permission u
        | (.error .poison, u) => some (sendResult i 0x20 0 u)
        | (.error (.unavailable a), u) => some (sendResult i 0x21 (channelOf a) u)
        | (.error _, _) => none
        | (.ok _, u) =>
          if u.ringState r ≠ 1 then some (sendResult i 0x51 0 u)
          else if 64 ≤ (u.ring r).invokes.length then none
          else some ((u.setRing r { u.ring r with invokes := (u.ring r).invokes ++ [i] }).bump F.ATT_INVOKES_COUNT 1)

/-! ### Packets for the node -/

/-- A packet for the node that is not management; the answer is none while it must wait. -/
def serve (k : Nat) (p : Packet) (s : State) : Option State :=
  let src := fabSrc k p .request s
  if s.xbarStopped then none
  else if p.opc ≤ 2 ∧ p.crosses256 then some (reply k p 0x50 s)
  else if (p.opc = 1 ∨ p.opc = 2) ∧ inAperture p.va then fabricDoorbell k p s
  else if p.opc = 0 then
    let (r, t) := readVA src p.cid p.va (64 * p.lines) s
    if r.held then none else if r.fabStatus = 0 then some (replyData k p r.data t) else some (reply k p r.fabStatus t)
  else if p.opc = 1 then
    let (r, t) := writeVA src p.cid p.va (slice 0 p.data 0 (64 * p.lines)) s
    if r.held then none else some (reply k p r.fabStatus t)
  else if p.opc = 2 then
    let (r, t) := writeMasked src p.cid p.va (ofLeBytes (slice 0 p.data 0 8)) (slice 0 p.data 16 64) s
    if r.held then none else some (reply k p r.fabStatus t)
  else if p.opc = 3 then serveAtom k p s
  else if p.opc = 4 ∨ p.opc = 5 then
    match s.fab.reqs.find? (fun q => q.tag == p.w1 % 4096) with
    | none => some s
    | some q =>
      match q.owner with
      | .dma r t =>
        match s.rings.dma.find? (fun x => x.ring == r && x.t == t) with
        | some x => dmaResponse x (bits p.w1 19 12) p.data (dropReq q.tag s)
        | none => some (dropReq q.tag s)
  else if p.opc = 6 then serveInvoke k p s
  else if p.opc = 9 then
    let w := fun i => ofLeBytes (slice 0 p.data (8 * i) 8)
    let d : InvDesc := { w0 := w 0, w1 := w 1, w2 := w 2, w3 := w 3 }
    let ok := (roleVcs .inval (s.vcs k)).contains p.vc && s.admitted (d.cid / 4096) k
    some (acceptInvalidation (.fab k p.src (bits d.w3 31 0)) (.fab k p.src true) ok d s)
  else some s

/-! ### Management packets -/

/-- A HELLO is recorded, and the link is excluded when its MODE or LABEL does not match (R302). -/
def takeHello (k : Nat) (p : Packet) (s : State) : State :=
  let mode := p.byte 5 / 64 == 1
  let clash := mode == s.torus || (s.torus && p.byte 4 != (s.labelOf k ^^^ 1))
  let s := s.put (F.TOPO_NBR_UID_UID k) (ofLeBytes (slice 0 p.data 8 8))
  let s := (((s.put (F.TOPO_NBR_INFO_V k) 1).put (F.TOPO_NBR_INFO_LABEL k) (p.byte 4)).put (F.TOPO_NBR_INFO_ROLE k) (p.byte 2)).put
    (F.TOPO_NBR_INFO_PRIORITY k) (p.byte 3)
  let s := s.put (F.TOPO_NBR_INC_INC k) (ofLeBytes (slice 0 p.data 16 4))
  let s := noteGen (ofLeBytes (slice 0 p.data 20 4)) (s.setNbr k { s.nbr k with clash := clash })
  syncTree (setExcluded k s)

/-- A Campion message (R300, R302, R303 to R312). -/
def takeCampion (k : Nat) (p : Packet) (s : State) : State :=
  let d := p.data
  let ty := p.byte 0
  if ty = 1 then takeHello k p s
  else if s.excluded k || (s.on F.TOPO_CFG_SECURE_ONLY && !s.secure k) then s
  else if ty = 2 then
    takeClaim k ⟨p.byte 1, p.byte 2, ofLeBytes (slice 0 d 4 4), ofLeBytes (slice 0 d 8 8), ofLeBytes (slice 0 d 16 4),
      ofLeBytes (slice 0 d 20 4), ofLeBytes (slice 0 d 24 8)⟩ (noteGen (ofLeBytes (slice 0 d 20 4)) s)
  else if ty = 3 then takeReport k (slice 0 d 0 112) s
  else if ty = 4 then takeReportDone k (ofLeBytes (slice 0 d 4 4)) (slice 0 d 0 16) s
  else if ty = 5 then takeAssign k (slice 0 d 0 32) s
  else if ty = 6 then takeBeacon (slice 0 d 0 16) s
  else takeDup (ofLeBytes (slice 0 d 8 8)) s

/-- A fragment joins the message in reassembly on its link, or discards it; a message of more than 4,096 bytes is discarded (R511,
R512). -/
def takeFragment (k : Nat) (p : Packet) (s : State) : State :=
  let seq := ofLeBytes (slice 0 p.data 2 2)
  let part := slice 0 p.data 16 (ofLeBytes (slice 0 p.data 4 2))
  let old := (s.trust.reasm.find? (fun e => e.1 == k)).map (·.2)
  let gone := { s with trust := { s.trust with reasm := Tab.del s.trust.reasm k } }
  let so : Option (List Byte) := if bit (p.byte 1) 0 then some []
    else (old.filter (fun r => r.seq == seq && r.type == p.byte 0)).map (·.data)
  match so with
  | none => gone
  | some b =>
    let d := b ++ part
    if 4096 < d.length then gone
    else if bit (p.byte 1) 1 then { gone with trust := { gone.trust with msgs := gone.trust.msgs ++ [(k, p.byte 0, d)] } }
    else { s with trust := { s.trust with reasm := Tab.set s.trust.reasm k ⟨p.byte 0, seq, d⟩ } }

/-- A management packet: Campion and Sorrel messages act, SPDM fragments are reassembled, and event packets are not used by the
node. The peer's address is noted. -/
def takeMgmt (k : Nat) (p : Packet) (stamp turn : Nat) (s : State) : State :=
  let sub := p.w1 % 256
  let s := if sub ≤ 1 ∧ p.src ≠ 0xFFFF then { s with fab := { s.fab with peerAddr := Tab.set s.fab.peerAddr k p.src } } else s
  if sub = 0 then takeCampion k p s
  else if sub = 1 then
    if s.excluded k || (s.on F.TOPO_CFG_SECURE_ONLY && !s.secure k) then s
    else if p.byte 0 = 1 then takeSyncReq k p.data stamp turn s
    else takeSyncRsp k p.data stamp s
  else if sub = 2 then takeFragment k p s
  else s

/-! ### Reception -/

/-- A packet of an unattested peer is counted, with FAB_UNATT_DATA at most once a second (R282). -/
def unattested (k : Nat) (s : State) : State :=
  let s := s.bump (F.FP_UNATT_DROP_COUNT k) 1
  let x := s.link k
  if x.unattAt.any (fun t => s.ticks < t + ticksPerSec) then s
  else linkEvent Ev.FAB_UNATT_DATA k (s.setLink k { x with unattAt := some s.ticks })

/-- A duplicate of an ATOM that still waits is discarded (R287). -/
def State.atomInProgress (s : State) (p : Packet) : Bool :=
  p.opc == 3 && s.fab.waiting.any (fun w => w.2.opc == 3 && w.2.src == p.src && slice 0 w.2.data 24 8 == slice 0 p.data 24 8)

/-- A packet received on the link led by group `k`, in the order of R780. `stamp` places a Sorrel message's arrival within
its TIMEBASE cycle and `turn` is the time until a SYNC_RSP leaves, in units of 2^-24 ns. -/
def receivePacket (k : Nat) (p : Packet) (stamp turn : Nat) (s : State) : State :=
  if !s.linkUp k then s
  else if s.vcs k ≤ p.vc then s.bump (F.FP_MALFORMED_COUNT k) 1
  else if !s.secure k && p.vc != s.mgmtVc k then unattested k s
  else if (s.link k).creditLeft p.vc p.dl < 1 + p.len then s.bump (F.FP_CREDIT_OVERRUN_COUNT k) 1
  else
    let s := takeCredit k p s
    if !s.secure k && p.opc != 8 then unattested k (giveCredit k p s)
    else if !s.packetOk k p then (giveCredit k p s).bump (F.FP_MALFORMED_COUNT k) 1
    else if p.opc = 8 then takeMgmt k p stamp turn (giveCredit k p s)
    else if !s.addrUsed then (giveCredit k p s).bump (F.FP_UNROUTABLE_COUNT k) 1
    else if p.dst ≠ s.ownAddr then
      let s := giveCredit k p s
      if !s.torus then s.bump (F.FP_UNROUTABLE_COUNT k) 1
      else match s.torusHop (some k) p with
        | some (g, q) => s.send g q
        | none => s.bump (F.FP_UNROUTABLE_COUNT k) 1
    else if s.atomInProgress p then giveCredit k p s
    else
      match serve k p s with
      | some t => giveCredit k p t
      | none => { s with fab := { s.fab with waiting := s.fab.waiting ++ [(k, p)] } }

/-- Requests that wait are looked at again, oldest first. -/
def retryWaiting (s : State) : State :=
  s.each s.fab.waiting (fun w t =>
    match serve w.1 w.2 t with
    | some u => giveCredit w.1 w.2 { u with fab := { u.fab with waiting := u.fab.waiting.erase w } }
    | none => t)

end Sys2Proof.Machine
end

