-- ==== Sys2Proof/Machine/FabCmds.lean ====
section
/-! DEFINITION. Fabric commands: flits, training, encryption, packets by kind, Campion and Sorrel (chapters 07 and 08). -/

namespace Sys2Proof.Machine

/-! ### Links -/

/-- Packets released by a window are received in order. -/
def receiveAll (k : Nat) (ps : List Packet) (stamp turn : Nat) (s : State) : State :=
  s.each ps (fun p t => receivePacket k p stamp turn t)

/-- A link that was not SECURE and now is. -/
def noteSecure (k : Nat) (before : State) (s : State) : State :=
  if s.secure k && !before.secure k then campSecure k s else s

/-- The FEC decoders of some groups have corrected symbols and met uncorrectable codewords (Table 07.15). -/
def countFec (fec : List (Fin 6 × Byte × Byte)) (s : State) : State :=
  s.each fec (fun x t => (t.bump (F.FP_FEC_CORR_COUNT x.1.val) x.2.1.toNat).bump (F.FP_FEC_UNCORR_COUNT x.1.val) x.2.2.toNat)

/-- FLIT_RECEIVE: one position of 256 bytes arrives on an ACTIVE link (R242 to R247, R266, R267). -/
def execFlitReceive (k : Fin 6) (b : List Byte) (fecOk : Bool) (fec : List (Fin 6 × Byte × Byte)) (stamp : BitVec 26)
    (turn : BitVec 40) (s : State) : Out :=
  if b.length ≠ 256 then .refused .illFormed
  else if !s.linkUp k.val then .next s
  else
    let (ps, t) := receiveFlit k.val b fecOk (countFec fec s)
    .next (receiveAll k.val ps stamp.toNat turn.toNat (noteSecure k.val s t))

/-- NAK_RECEIVE: a NAK with the last sequence number the peer released, or none before the first (R268, R269). -/
def execNakReceive (k : Fin 6) (ack : Option (BitVec 12)) (s : State) : Out :=
  if s.linkUp k.val then .next (nakReceived k.val (ack.map (·.toNat)) s) else .next s

/-- FAST_RETRAIN_DONE: the link is ACTIVE again and sends a NAK from the last released number (R271). -/
def execFastRetrainDone (k : Fin 6) (s : State) : Out :=
  if s.linkState k.val = 6 then
    let x := s.link k.val
    .next (setLinkState k.val 5 (s.setLink k.val { x with retrained := some s.ticks, nakDue := true, nakSent := true, rxWin := [] }))
  else .next s

/-- FAST_RETRAIN_TIMEOUT: 2 ms have passed (R271). -/
def execFastRetrainTimeout (k : Fin 6) (s : State) : Out :=
  if s.linkState k.val = 6 then .next (linkDown k.val [.retrainTimeout] s) else .next s

/-- ERROR_WINDOW_END: the rest of the error window's positions arrived, `more` of them failing their CRC; the link goes
DOWN when the window's count exceeds ERR_THR, and otherwise the next window begins (R270). -/
def execErrorWindowEnd (k : Fin 6) (more : Nat) (s : State) : Out :=
  if !s.linkUp k.val then .next s
  else
    let x := s.link k.val
    let rest := 2 ^ s.get (F.FP_THR_ERR_WIN k.val) - x.errPos
    let more := min more rest
    let s := (s.bump (F.FP_FLITS_RX_COUNT k.val) rest).bump (F.FP_CRC_FAIL_COUNT k.val) more
    if s.get (F.FP_THR_ERR_THR k.val) < x.errFails + more then .next (linkDown k.val [.errWin] s)
    else .next (s.setLink k.val { x with errPos := 0, errFails := 0 })

/-- PARTNER_LOSS: no CRC-good flit for 4 µs outside a fast retrain; `err`: the error window's limit is passed in the same
cycle (R273, Table 07.11). -/
def execPartnerLoss (k : Fin 6) (err : Bool) (s : State) : Out :=
  if s.linkUp k.val then .next (linkDown k.val (if err then [.partnerLoss, .errWin] else [.partnerLoss]) s) else .next s

/-- HOLDOFF_EXPIRY: a link that is DOWN with AUTO = 1 takes a full link reset (R274, R275). -/
def execHoldoffExpiry (k : Fin 6) (s : State) : Out :=
  if s.linkState k.val = 7 ∧ s.on (F.FP_CTL_AUTO k.val) then .next (fullReset k.val s) else .next s

/-- A full link reset of a group's link (R274). -/
def groupReset (n : Nat) (c : Cause) (s : State) : State :=
  match s.leadOf n with
  | some k => resetLink k c s
  | none => s

/-- LRST: FP_n_CTL.LRST is written 1 (R274). -/
def execLrst (n : Fin 6) (s : State) : Out := .next (groupReset n.val .lrst s)

/-- EN of a group is written 0: its link takes a full link reset without it (R274). -/
def clearGroup (n : Nat) (s : State) : State :=
  if s.on (F.FP_CTL_EN n) then (groupReset n .enCleared s).put (F.FP_CTL_EN n) 0 else s

/-- GROUP_EN_CLEAR. -/
def execGroupEnClear (n : Fin 6) (s : State) : Out := .next (clearGroup n.val s)

/-- LINK_DETECT: a link in RESET or DETECT has signal on some lanes, or 10 ms have passed; lanes without signal are bad
(R275). The groups' CTL fields are those of this training. -/
def execLinkDetect (k : Fin 6) (sig : List (BitVec 9)) (s : State) : Out :=
  if s.leadOf k.val = some k.val ∧ s.linkState k.val ≤ 1 then
    let gs := s.linkGroups k.val
    let own := gs.foldl (fun t g => Tab.set t g (sig.getD g 0).toNat) []
    let applied := gs.foldl (fun t g => Tab.set t g (s.reg (R.FP_CTL g)).toNat) s.fab.applied
    let s := { s with fab := { s.fab with applied := applied } }
    let s := s.setLink k.val { s.link k.val with own := own, bufw := (s.reg (R.FP_BUFW k.val)).toNat }
    .next (s.each gs (fun g t => t.put (F.FP_STATUS_STATE g) 2))
  else .next s

/-- EQUALIZATION_DONE (R234, R275): polarity is corrected (R45). -/
def execEqualizationDone (k : Fin 6) (s : State) : Out :=
  if s.linkState k.val = 2 then .next (setLinkState k.val 3 s) else .next s

/-- LANE_TEST_DONE: each lane is marked good or bad, and bad ones are noted in the repair record (R275, R483). -/
def execLaneTestDone (k : Fin 6) (good : List (BitVec 9)) (s : State) : Out :=
  if s.linkState k.val = 3 then
    let gs := s.linkGroups k.val
    let own := gs.foldl (fun t g => Tab.set t g (Tab.get 0 (s.link k.val).own g &&& (good.getD g 0).toNat)) []
    let s := setLinkState k.val 4 (s.setLink k.val { s.link k.val with own := own })
    .next (s.each gs (fun g t =>
      t.each ((List.range 9).filter (fun l => !bit (Tab.get 0 own g) l)) (fun l u => repairAdd 7 0 0 (locLane g l) u)))
  else .next s

/-- TRAIN_CONFIG: the TRAIN flits of the two ends agree and the link becomes ACTIVE, or it goes DOWN with TRAIN_FAIL
(R275 to R277, R292). -/
def execTrainConfig (k : Fin 6) (m : TrainMsg) (s : State) : Out :=
  if s.linkState k.val = 4 then
    let use := s.trainGroups k.val m
    if !m.agree || m.rate != bit (s.ctlApplied k.val) 20 || m.vcs < 2 || use.isEmpty then .next (linkDown k.val [.trainFail] s)
    else .next (campActive k.val (linkActive k.val m use s))
  else .next s

/-- LCF_SEND: a window of 64 positions is sent (R245, R246). -/
def execLcfSend (k : Fin 6) (s : State) : Out :=
  if s.linkUp k.val then .next (noteSecure k.val s (sendWindow k.val s)) else .next s

/-- A direction's key and salt (R278): from the end with the lower UID it is "yarrow lo". -/
def linkKey (secret : List Byte) (fromLow : Bool) : LinkKey :=
  let d := Config.hkdfExpand secret (ascii (if fromLow then "yarrow lo" else "yarrow hi"))
  ⟨slice 0 d 0 32, slice 0 d 32 4⟩

/-- The link has a mutually authenticated session whose chain root is one of the node's fabric roots (R515, R524). -/
def State.linkAdmitted (s : State) (k : Nat) : Bool :=
  s.trust.sessions.any (fun x => x.transport == 3 && x.link == k && x.mutualAuth && x.root != 0 &&
    s.trust.owner.any (fun o => o.roots.contains x.root))

/-- LINK_KEYS_INSTALLED: each end derives its keys from the session's secret, and the next LCF turns encryption on (R278,
R280). -/
def execLinkKeysInstalled (k : Fin 6) (secret : List Byte) (s : State) : Out :=
  if s.linkUp k.val ∧ s.campState ≠ campDuplicate ∧ s.linkAdmitted k.val then
    let low := decide (s.uid < s.nbrUid k.val)
    let x := s.link k.val
    .next (s.setLink k.val { x with txKey := some (linkKey secret low), rxKey := some (linkKey secret (!low)), encNext := true })
  else .next s

/-- KEY_UPDATE: new keys wait for a window boundary, where KEY_PHASE toggles (R280). -/
def execKeyUpdate (k : Fin 6) (secret : List Byte) (s : State) : Out :=
  if s.secure k.val then
    let low := decide (s.uid < s.nbrUid k.val)
    let x := s.link k.val
    .next (s.setLink k.val { x with txNew := some (linkKey secret low), rxNew := some (linkKey secret (!low)) })
  else .next s

/-! ### Packets -/

/-- A packet of the kind a command names is received; a packet of another kind, or of no form, is not that command. -/
def pktCmd (ok : Bool) (k : Nat) (p : Packet) (stamp turn : Nat) (s : State) : Out :=
  if ok && p.wf then .next (receivePacket k p stamp turn (retryWaiting s)) else .refused .illFormed

/-- A Campion message of a type. -/
def isCampion (ty : Nat) (p : Packet) : Bool := p.opc == 8 && p.w1 % 256 == 0 && p.byte 0 == ty
/-- A Sorrel message of a type. -/
def isSorrel (ty : Nat) (p : Packet) : Bool := p.opc == 8 && p.w1 % 256 == 1 && p.byte 0 == ty

/-- INV: a fabric invalidation (R214). -/
def execInv (k : Fin 6) (p : Packet) (s : State) : Out := pktCmd (p.opc == 9) k.val p 0 0 s
/-- RD (R252). -/
def execRd (k : Fin 6) (p : Packet) (s : State) : Out := pktCmd (p.opc == 0) k.val p 0 0 s
/-- WR (R252). -/
def execWr (k : Fin 6) (p : Packet) (s : State) : Out := pktCmd (p.opc == 1) k.val p 0 0 s
/-- WRP (R167, R252). -/
def execWrp (k : Fin 6) (p : Packet) (s : State) : Out := pktCmd (p.opc == 2) k.val p 0 0 s
/-- ATOM (R287). -/
def execAtom (k : Fin 6) (p : Packet) (s : State) : Out := pktCmd (p.opc == 3) k.val p 0 0 s
/-- FORWARD_PACKET: a packet for another node (R259 to R262); one for this node is received as its kind is. -/
def execForwardPacket (k : Fin 6) (p : Packet) (s : State) : Out := pktCmd (p.opc != 8) k.val p 0 0 s
/-- RSP_DATA: a response to a request of the node, with or without data (R284). -/
def execRspData (k : Fin 6) (p : Packet) (s : State) : Out := pktCmd (p.opc == 4 || p.opc == 5) k.val p 0 0 s
/-- FABRIC_DOORBELL: a WR or WRP into the doorbell aperture (R339, R340). -/
def execFabricDoorbell (k : Fin 6) (p : Packet) (s : State) : Out :=
  pktCmd ((p.opc == 1 || p.opc == 2) && inAperture p.va) k.val p 0 0 s
/-- INVOKE (R461). -/
def execInvoke (k : Fin 6) (p : Packet) (s : State) : Out := pktCmd (p.opc == 6) k.val p 0 0 s

/-- HELLO (R302). -/
def execHello (k : Fin 6) (p : Packet) (s : State) : Out := pktCmd (isCampion 1 p) k.val p 0 0 s
/-- CLAIM (R303). -/
def execClaim (k : Fin 6) (p : Packet) (s : State) : Out := pktCmd (isCampion 2 p) k.val p 0 0 s
/-- REPORT (R307). -/
def execReport (k : Fin 6) (p : Packet) (s : State) : Out := pktCmd (isCampion 3 p) k.val p 0 0 s
/-- REPORT_DONE (R307). -/
def execReportDone (k : Fin 6) (p : Packet) (s : State) : Out := pktCmd (isCampion 4 p) k.val p 0 0 s
/-- ASSIGN (R309). -/
def execAssign (k : Fin 6) (p : Packet) (s : State) : Out := pktCmd (isCampion 5 p) k.val p 0 0 s
/-- BEACON (R311). -/
def execBeacon (k : Fin 6) (p : Packet) (s : State) : Out := pktCmd (isCampion 6 p) k.val p 0 0 s
/-- DUP (R305). -/
def execDup (k : Fin 6) (p : Packet) (s : State) : Out := pktCmd (isCampion 7 p) k.val p 0 0 s
/-- SYNC_REQ: `stamp` places its arrival in the cycle, `turn` is the time until the answer leaves (R315). -/
def execSyncReq (k : Fin 6) (p : Packet) (stamp : BitVec 26) (turn : BitVec 40) (s : State) : Out :=
  pktCmd (isSorrel 1 p) k.val p stamp.toNat turn.toNat s
/-- SYNC_RSP (R317). -/
def execSyncRsp (k : Fin 6) (p : Packet) (stamp : BitVec 26) (s : State) : Out :=
  pktCmd (isSorrel 2 p) k.val p stamp.toNat 0 s

/-! ### Campion and Sorrel timers and writes -/

/-- QUIET_EXPIRY (R307). -/
def execQuietExpiry (s : State) : Out := .next (quietExpires s)
/-- BEACON_TICK (R311). -/
def execBeaconTick (s : State) : Out := .next (beaconTick s)
/-- BEACON_TIMEOUT (Table 08.2). -/
def execBeaconTimeout (s : State) : Out := .next (beaconLost s)
/-- DEAD_MARK_EXPIRY: the dead marks of a UID end (R303, Table 08.6). -/
def execDeadMarkExpiry (u : W64) (s : State) : Out :=
  .next (onCampion (fun c => { c with dead := c.dead.filter (fun x => x.1 != u.toNat) }) s)
/-- PARENT_LINK_DOWN (Table 08.2). -/
def execParentLinkDown (s : State) : Out := .next (reparent s)
/-- PRIORITY_WRITE: the steward writes TOPO_CFG.PRIORITY (R299). -/
def execPriorityWrite (v : Byte) (s : State) : Out := .next (priorityWrite v.toNat s)
/-- SYNC_INT_TICK: 125 µs have passed (R315). -/
def execSyncIntTick (stamp : BitVec 26) (s : State) : Out := .next (syncTick stamp.toNat s)
/-- SORREL_HOLDOVER_TIMEOUT: no traceable response for 1 ms (Table 08.4). -/
def execSorrelHoldoverTimeout (s : State) : Out := .next (sorrelHoldover s)
/-- TOPO_SRL_SET (R318). -/
def execTopoSrlSet (v : W64) (s : State) : Out := .next (sorrelSet v.toNat s)

end Sys2Proof.Machine
end

