-- ==== Sys2Proof/Machine/UnitRun.lean ====
section
/-! DEFINITION. Work after the failure of a unit: core faults, clusters out of service, staging errors, row tests and the
repair record's writes (R409, R439, R440, R474 to R481, R486 to R496). -/

namespace Sys2Proof.Machine

/-- A ring's program meets a core fault: a RESTARTABLE entry waits for its restart, at most three times, and any other
program ends UNIT_FAULT with the island (R388, R440, R486, R487). -/
def coreFault (r island : Nat) (s : State) : State :=
  match s.prog r with
  | none => s
  | some p =>
    if p.ended || p.failed then s
    else
      let again := p.invoke.isNone && !smRing r && p.entry.restartable && p.restarts < 3
      closeJobs r (s.setProg r (if again then { p with failed := true, stall := .no } else p.faultAt 0x30 island))

/-- The rings whose programs run on a set of cores. -/
def State.ringsOn (s : State) (f : Nat → Bool) : List Nat :=
  (List.range 128).filter (fun r => match s.prog r with | some p => f p.core | none => false)

/-- The programs on a set of cores meet core faults. -/
def coresFail (f : Nat → Bool) (island : Nat) (s : State) : State := s.each (s.ringsOn f) (fun r t => coreFault r island t)

/-- A gated cluster leaves service: its Hatch tasks run again and its ring programs meet core faults (Table 04.7, R480). -/
def clusterOut (cl : Nat) (s : State) : State :=
  let s := { s with rpr := { s.rpr with clOut := NSet.ins s.rpr.clOut cl } }
  let s := s.each (List.range 13) (fun e t => redoOn (cl * 16 + e) t)
  syncAllUnits (coresFail (fun c => c / 16 == cl) (clusterIsland cl) s)

/-- CLUSTER_RETURN: once its clock runs again a cluster is back in service; hosted rings go back at their next program
boundary (Table 04.7, R480). -/
def execClusterReturn (cl : Fin 4) (s : State) : Out :=
  if s.rpr.clOut.contains cl.val && s.synState cl.val == synLocked then
    .next (syncAllUnits { s with rpr := { s.rpr with clOut := NSet.del s.rpr.clOut cl.val } })
  else .next s

/-- LOCKSTEP_MISMATCH: the physical core leaves service, and the program it was running restarts or ends (R412, R440,
R478). -/
def execLockstepMismatch (cl : Fin 4) (phys : Fin 18) (s : State) : Out :=
  match s.logicalOf .stipple cl.val phys.val with
  | none => .next s
  | some l =>
    let rings := s.ringsOn (fun c => c == cl.val * 16 + l)
    let ring := rings.headD 0
    let s := s.bump (F.CC_SMIS_MISMATCHES cl.val phys.val) 1
    let s := unitEvent Ev.STIPPLE_MISMATCH .stipple cl.val phys.val l ring s
    let s := s.each rings (fun r t => coreFault r (clusterIsland cl.val) t)
    .next (retireUnit .stipple cl.val phys.val ring s)

/-- SPARE_SWITCH_IN: the oldest switch-in self-test of a kind in a cluster ends (R476). -/
def execSpareSwitchIn (cl : Fin 4) (hatch : Bool) (pass : Bool) (s : State) : Out :=
  let kind : UnitKind := if hatch then .hatch else .stipple
  match s.rpr.tests.find? (fun x => x.cl == cl.val && x.kind == kind) with
  | none => .next s
  | some x => .next (spareTested x pass s)

/-- Key of an array instance. -/
def arrayKey (code inst : Nat) : Nat := code * 65536 + inst

/-- Instances, rows and spare rows of an array, and whether it is repaired at run time (Table 13.1). -/
def arrayShape (code : Nat) : Option (Nat × Nat × Nat × Bool) :=
  match code with
  | 1 => some (1536, 64, 2, true)
  | 2 => some (72, 64, 2, true)
  | 3 => some (1, 32, 4, false)
  | 4 => some (16, 64, 4, true)
  | 5 => some (4, 128, 4, true)
  | 6 => some (6, 256, 8, true)
  | 7 => some (2, 512, 8, false)
  | 8 => some (1, 64, 2, false)
  | _ => none

/-- Cluster an SRAM event names. -/
def arrayCluster (code inst : Nat) : Nat := if code = 1 then inst / 384 else if code = 2 then inst / 18 else 0

/-- An SRAM event (Table 20.4). -/
def sramEvent (src : Nat) (x : SramRow) (s : State) : State :=
  raiseNode ⟨src, arrayCluster x.code x.inst, unitArg 0 0 2 0, x.code, x.inst + x.row * 2 ^ 32⟩ s

/-- The partial of a chunk is lost in the staging of a cluster while its merge has not ended: its chunk task runs again
from its pages, and the merge waits for it (R467). -/
def redoChunk (r t cl tile chunk : Nat) (s : State) : State :=
  match s.hatch.jobs.find? (fun j => j.ring == r && j.t == t && j.kind == .attn) with
  | none => s
  | some j =>
    let isMerge := fun (x : Task) => x.tile == tile && x.step == mergeStep
    let merging := j.accs.any (fun a => a.1 == tile)
    let waits := j.ready.any isMerge || j.run.any (fun x => isMerge x.2)
    if !j.parts.any (fun p => p.1 == tile && p.2.1 == chunk) || (merging && !waits) then s
    else
      let home := if s.anyEngine cl then cl else dealTo (s.dealOrder j.sel ((j.first + 3) % 4)) j.deal
      let (k, s) := countRerun { j with parts := j.parts.filter (fun p => !(p.1 == tile && p.2.1 == chunk)),
                                        accs := j.accs.del tile, run := j.run.filter (fun x => !isMerge x.2),
                                        ready := j.ready.filter (fun x => !isMerge x) } cl s
      putJob { k with ready := k.ready ++ [{ Task.new tile chunk home with redo := true }] } s

/-- STAGING_ECC_UE: an uncorrectable staging word: inputs are loaded again and their task runs again, a chain restarts
from its first K-step, a partial's chunk task runs again, and a program store's program meets a core fault (R409, R439,
R467). -/
def execStagingEccUe (cl : Fin 4) (w : StageWord) (s : State) : Out :=
  let s := s.bump (F.CC_STAGE_ECC_UE cl.val) 1
  match w with
  | .idle => .next s
  | .store c => .next (coresFail (fun x => x == cl.val * 16 + c.val) (clusterIsland cl.val) s)
  | .input e =>
    let e := cl.val * 16 + e.val
    let jobs := s.hatch.jobs.map (fun j => { j with run := j.run.map (fun x => if x.1 = e then (x.1, { x.2 with loaded := none }) else x) })
    .next (redoOn e { s with hatch := { s.hatch with jobs := jobs } })
  | .acc r t tile =>
    match s.hatch.jobs.find? (fun j => j.ring == r.val && j.t == t.val && j.kind == .hgemm && j.cl == cl.val) with
    | none => .next s
    | some j =>
      if (j.accs.find? (fun a => a.1 == tile)).isNone then .next s
      else
        let (k, s) := countRerun { j with accs := j.accs.del tile, run := j.run.filter (fun x => x.2.tile != tile),
                                          ready := j.ready.filter (fun x => x.tile != tile) } cl.val s
        .next (putJob { k with ready := k.ready ++ [{ Task.new tile 0 cl.val with redo := true }] } s)
  | .part r t tile chunk => .next (redoChunk r.val t.val cl.val tile chunk s)

/-- A retired staging block's number becomes vacant for good, or the shared area shrinks (R474). -/
def blockRetired (cl b : Nat) (s : State) : State :=
  let s := { s with rpr := { s.rpr with blockRet := NSet.ins s.rpr.blockRet (cl * 384 + b) } }
  let vacate := fun (k : UnitKind) (l : Nat) (t : State) =>
    if t.physUnit k cl l = vacantMark k then t
    else unitEvent Ev.SPARE_EXHAUSTED k cl 0xFF l 0 (setPhysUnit k cl l (vacantMark k) t)
  let s := if 320 ≤ b then s
    else if 128 ≤ b then
      let l := (b - 128) / 16
      let e := cl * 16 + s.physEngine cl l
      redoOn e (vacate .hatch l s)
    else vacate .stipple (b / 8) s
  syncUnits cl s

/-- An array instance that no spare row can repair (R473, Table 13.1). -/
def arrayDead (x : SramRow) (s : State) : State :=
  let s := sramEvent Ev.SRAM_BLOCK_RETIRED x s
  if x.code = 1 then blockRetired (x.inst / 384) (x.inst % 384) (repairAdd 4 0 0 (locBlock (x.inst / 384) (x.inst % 384)) s)
  else if x.code = 2 then retireUnit .stipple (x.inst / 18) (x.inst % 18) 0 s
  else
    let s := { s with rpr := { s.rpr with dead := s.rpr.dead ++ [x] } }
    if x.code = 6 then linkEvent Ev.FAB_WIDTH_REDUCED (((s.leadOf x.inst).getD x.inst)) (groupReset x.inst .enCleared s) else s

/-- A row of an array that is repaired at run time. -/
def SramRow.ok (x : SramRow) : Bool :=
  match arrayShape x.code with
  | some (n, rows, _, rt) => rt && x.inst < n && x.row < rows
  | none => false

/-- Work on a row that goes out of use (R409, R481). -/
def rowWork (x : SramRow) (ue : Bool) (s : State) : State :=
  if x.code = 1 ∧ 128 ≤ x.inst % 384 ∧ x.inst % 384 < 320 then
    let cl := x.inst / 384
    redoOn (cl * 16 + s.physEngine cl ((x.inst % 384 - 128) / 16)) s
  else if x.code = 2 ∧ ue then
    let cl := x.inst / 18
    match s.logicalOf .stipple cl (x.inst % 18) with
    | some l => coresFail (fun c => c == cl * 16 + l) (clusterIsland cl) s
    | none => s
  else s

/-- Sorrel hours. -/
def State.hour (s : State) : Nat := s.now / 3600000000000

/-- SRAM_ROW_TEST: an uncorrectable word, or the corrected word that reaches SRAM_CE_THR in one Sorrel hour, takes the row
out of use for a march test (R481). -/
def execSramRowTest (code : BitVec 8) (inst : BitVec 16) (row : BitVec 16) (ue : Bool) (s : State) : Out :=
  let x : SramRow := ⟨code.toNat, inst.toNat, row.toNat⟩
  if !x.ok || s.rpr.rowsOut.contains x then .next s
  else
    let key := locSramRow x
    let n := match s.rpr.rowCe.find? (fun e => e.1 == key) with
      | some (_, h, c) => if h = s.hour then c + 1 else 1
      | none => 1
    let s := if ue then s else { s with rpr := { s.rpr with rowCe := Tab.set s.rpr.rowCe key (s.hour, n) } }
    let s := if !ue && x.code == 1 then s.bump (F.CC_STAGE_ECC_CE (x.inst / 384)) 1 else s
    if !ue && n < s.get F.RPR_CFG_SRAM_CE_THR then .next s
    else
      let s := { s with rpr := { s.rpr with rowsOut := s.rpr.rowsOut ++ [x] } }
      .next (rowWork x ue (s.bump F.RPR_ROWS_TESTS 1))

/-- The core whose current program a row test waits for. -/
def rowCore (x : SramRow) (s : State) : Option Nat :=
  if x.code = 1 ∧ x.inst % 384 < 128 then some (x.inst / 384 * 16 + x.inst % 384 / 8)
  else if x.code = 2 then (s.logicalOf .stipple (x.inst / 18) (x.inst % 18)).map (fun l => x.inst / 18 * 16 + l)
  else none

/-- SRAM_ROW_TEST_DONE: the march test of a row ends; a core's program has ended first (R481). -/
def execSramRowTestDone (code : BitVec 8) (inst : BitVec 16) (row : BitVec 16) (pass : Bool) (s : State) : Out :=
  let x : SramRow := ⟨code.toNat, inst.toNat, row.toNat⟩
  let busy := (rowCore x s).any (fun c => !(s.ringsOn (fun y => y == c)).isEmpty)
  if !s.rpr.rowsOut.contains x || busy then .next s
  else
    let s := { s with rpr := { s.rpr with rowsOut := s.rpr.rowsOut.filter (fun y => y != x), rowCe := s.rpr.rowCe.del (locSramRow x) } }
    if pass then .next s
    else
      let key := arrayKey x.code x.inst
      let used := Tab.get 0 s.rpr.spareRows key
      let spares := match arrayShape x.code with | some (_, _, n, _) => n | none => 0
      if used < spares then
        let s := { s with rpr := { s.rpr with spareRows := Tab.set s.rpr.spareRows key (used + 1) } }
        .next (sramEvent Ev.SRAM_ROW_REPAIRED x (repairAdd 3 0 0 (locSramRow x) (s.bump F.RPR_ROWS_REPAIRED 1)))
      else .next (arrayDead x s)

/-- SEQ `a` is later than `b`, modulo 2^32 (R490). -/
def seqAfter (a b : Nat) : Bool := sub32 a b != 0 && sub32 a b < 2147483648

/-- The copy a start uses, with its code in RPR_STATUS.SOURCE (R490). -/
def State.repairCopy (s : State) : Nat × Option RepairCopy :=
  let ok := fun (c : Option RepairCopy) => c.filter (·.valid)
  match ok s.rpr.copyA, ok s.rpr.copyB with
  | some a, some b => if seqAfter b.seq a.seq then (2, some b) else (1, some a)
  | some a, none => (1, some a)
  | none, some b => (2, some b)
  | none, none => (0, none)

/-- TIMEBASE cycles in 10 s, the gap between writes of the record (R491). -/
def repairGap : Nat := 4000000000

/-- REPAIR_RECORD_WRITE: the record with its pending entries goes to the copy that is not in use, no sooner than 10 s after
the last write; `ok` says whether the write, retried once, reads back right (R491, R492, R496). -/
def execRepairRecordWrite (ok : Bool) (s : State) : Out :=
  let soon := s.rpr.lastWrite.any (fun t => s.ticks < t + repairGap)
  let (src, cur) := s.repairCopy
  let gone := ((cur.map (·.entries)).getD []).any (fun e => s.rpr.deleted.any (·.same e))
  if soon || (s.rpr.pending.isEmpty && !gone) then .next s
  else
    let toB := src == 1
    let full := mergedRecord s.rpr.record s.rpr.pending
    let kept := full.filter (fun e => !s.rpr.deleted.any (·.same e))
    let new : RepairCopy := { seq := wrap32 ((cur.map (·.seq)).getD 0 + 1), entries := kept, valid := ok }
    let s := { s with rpr := { s.rpr with lastWrite := some s.ticks,
                                          copyA := if toB then s.rpr.copyA else some new,
                                          copyB := if toB then some new else s.rpr.copyB } }
    if ok then .next ({ s with rpr := { s.rpr with record := full, pending := [] } }.put F.RPR_STATUS_FULL 0)
    else .next (raiseNode ⟨Ev.REPAIR_RECORD_FAULT, 0, 0, 0, 0⟩ s)

end Sys2Proof.Machine
end

