-- ==== Sys2Proof/Machine/ClockCmds.lean ====
section
/-! DEFINITION. The commands of the synthesizers, the frequency monitor, the CLKOUT outputs and the quadrants (R111 to R150,
R778). -/

namespace Sys2Proof.Machine

/-- Start-up goes on while PORST_N is high and no trip or crystal stop holds the islands (R68, R108). -/
def State.starting (s : State) : Bool := !s.pwr.porstLow && !s.pwr.held && s.pwr.prologue.isNone

/-- Islands leave reset (CKR_ISL_STATE). -/
def releaseIslands (mask : Nat) (s : State) : State :=
  let r := s.get F.CKR_ISL_STATE_IN_RESET
  s.put F.CKR_ISL_STATE_IN_RESET (r - (r &&& mask))

/-- What the SM's start of a synthesizer is in the order of Table 03.4: SYN_11 with stage FUSES, and SYN_0 to SYN_8 with
islands 5 to 24 and stage MBIST once the last of them has been started; islands 20 to 23 of a KQN-1610 stay in reset
(R25). -/
def startStage (n : Nat) (s : State) : State :=
  let stage := s.get F.CKR_START_STAGE_STAGE
  if !s.starting then s
  else if n = 11 ∧ stage = 0 then s.put F.CKR_START_STAGE_STAGE 1
  else if stage = 3 ∧ (List.range 9).all (fun i => s.on (F.CKR_SYN_CTL_EN i)) then
    releaseIslands (if s.hasPress then 0x1FFFFE0 else 0x10FFFE0) (s.put F.CKR_START_STAGE_STAGE 4)
  else s

/-- SYN_ENABLE: the SM or the steward writes EN = 1 (R119, R122, R126). A SYN_11 that ran through a
memory-retaining warm reset is left running, and start-up goes on (R146). -/
def execSynEnable (sm : Bool) (n : Fin 12) (s : State) : Out :=
  if sm && n.val == 11 && s.starting && s.get F.CKR_START_STAGE_STAGE == 0 && s.synState 11 == synLocked then
    .next (releaseIslands 0x1E (s.put F.CKR_START_STAGE_STAGE 2))
  else
  let t := synCtlWrite (if sm then .sm else .steward) n.val (s.ctlWithEn n.val true) s
  .next (if sm then startStage n.val t else t)

/-- SYN_DISABLE: the SM or the steward writes EN = 0. -/
def execSynDisable (sm : Bool) (n : Fin 12) (s : State) : Out :=
  .next (synCtlWrite (if sm then .sm else .steward) n.val (s.ctlWithEn n.val false) s)

/-- A write of a configuration register of a synthesizer: 0 CTL, 1 FRAC, 2 LOCK, 3 GUARD (R122, R126 to R129). -/
def synRegWrite (w : SynWriter) (n reg : Nat) (v : W32) (s : State) : State :=
  if reg = 0 then synCtlWrite w n v s
  else if reg = 2 then synLockWrite w n v s
  else if reg = 3 then synGuardWrite w n v s
  else s

/-- SYN_CONFIG_WRITE. -/
def execSynConfigWrite (sm : Bool) (n : Fin 12) (reg : Fin 4) (v : W32) (s : State) : Out :=
  .next (synRegWrite (if sm then .sm else .steward) n.val reg.val v s)

/-- SYN_CTL_STEWARD_WRITE (R126). -/
def execSynCtlStewardWrite (n : Fin 12) (v : W32) (s : State) : Out := .next (synCtlWrite .steward n.val v s)

/-- Frequency of a setting in kHz, rounded up. -/
def settingKhz (odiv nint nfrac : Nat) : Nat := (vco24 nint nfrac * 1000 + 2 ^ 24 * odiv - 1) / (2 ^ 24 * odiv)

/-- The present setting of a synthesizer in kHz. -/
def State.synKhz (s : State) (n : Nat) : Nat :=
  settingKhz (s.get (F.CKR_SYN_CTL_ODIV n)) (s.get (F.CKR_SYN_CTL_NINT n)) (s.get (F.CKR_SYN_FRAC_NFRAC n))

/-- A setting raises the frequency beyond what the acknowledged VDD_CORE allows (R81). -/
def State.needsVolts (s : State) (n odiv nint : Nat) : Bool :=
  let f := settingKhz odiv nint (s.get (F.CKR_SYN_FRAC_NFRAC n))
  s.synKhz n < f && s.get F.PWR_AVS_STATUS_VCORE_MV < Config.vddFor n f

/-- SYN_CTL_SM_APPLY: the SM applies a passed write, once the acknowledged VDD_CORE allows the new frequency (R81, R122,
R126). -/
def execSynCtlSmApply (n : Fin 12) (s : State) : Out :=
  match (s.syn n.val).pendCtl with
  | none => .next s
  | some v =>
    let (en, odiv, nint) := ctlOf n.val v s
    if s.needsVolts n.val odiv nint then .next s
    else
      let s := s.setSyn n.val { s.syn n.val with pendCtl := none }
      .next (writeCtl n.val en odiv nint (s.get (F.CKR_SYN_FRAC_NFRAC n.val)) s)

/-- AVSBUS_ACK: the regulator acknowledges the next 5 mV step, up or down, within 650 to 850 mV; the SM lowers VDD_CORE no
further than the running frequencies allow (R81, R82). -/
def execAvsbusAck (up : Bool) (s : State) : Out :=
  let mv := s.get F.PWR_AVS_STATUS_VCORE_MV
  let new := if up then mv + 5 else mv - 5
  let low := !up && [0, 1, 2, 3, 8].any (fun n => s.synState n != synOff && decide (new < Config.vddFor n (s.synKhz n)))
  if !s.on F.PWR_AVS_STATUS_SM_OWNED || new < 650 || 850 < new || low then .next s
  else .next ((s.put F.PWR_AVS_STATUS_VCORE_MV new).put F.PWR_AVS_STATUS_FAULT 0)

/-- A pending CTL write that needs more voltage than the SM could set is refused (R126). -/
def refuseRaise (n : Nat) (s : State) : State :=
  match (s.syn n).pendCtl with
  | none => s
  | some v =>
    let (_, odiv, nint) := ctlOf n v s
    if s.needsVolts n odiv nint then (s.setSyn n { s.syn n with pendCtl := none }).put (F.CKR_SYN_STATUS_REFUSED n) 1 else s

/-- AVS_COMMAND_TIMEOUT: three retries have failed (R104, R126). -/
def execAvsCommandTimeout (s : State) : Out :=
  if !s.on F.PWR_AVS_STATUS_SM_OWNED then .next s
  else
    let s := s.each [0, 1, 2, 3, 8] refuseRaise
    .next (raiseNode ⟨Ev.AVS_FAULT, 0, s.get F.PWR_AVS_STATUS_VCORE_MV, 0, 0⟩ (s.put F.PWR_AVS_STATUS_FAULT 1))

/-- SYN_11 runs again after it had been gated: PCTL resumes from the outputs AON drove safe, and the page being imaged is
INTERRUPTED (R141, Table 17.3). -/
def syn11Back (s : State) : State :=
  if !s.clk.syn11Lost then s
  else
    let s := halt 8 { s with clk := { s.clk with syn11Lost := false } }
    { s with prs := { s.prs with aonSafe := s.tst.pads.isSome } }

/-- SYN_LOCK_DECLARED: an ACQUIRING synthesizer declares lock; SYN_11's first lock releases TIMEBASE, MGMT, CRYPTO and LOG,
and the SM loads the image (R116, R119, R141, Table 03.4). -/
def execSynLockDeclared (n : Fin 12) (s : State) : Out :=
  if s.synState n.val != synAcquiring || !s.clk.refPresent then .next s
  else
    let s := enterLocked n.val s
    if n.val = 11 then
      let s := syn11Back s
      .next (if s.starting && s.get F.CKR_START_STAGE_STAGE == 1 then
        releaseIslands 0x1E (s.put F.CKR_START_STAGE_STAGE 2) else s)
    else .next s

/-- A synthesizer starts to coast, with what that means for DISPLAY and PVID (Table 04.7, R139). -/
def coast (n : Nat) (s : State) : State :=
  let active := n == 9 && s.dspState == 2
  let s := startCoast n s
  if n = 9 then { s with dsp := { s.dsp with blankEnd := active } }
  else if n = 10 then
    { s with prs := { s.prs with sheets := s.prs.sheets.map (fun sh =>
      { sh with pages := sh.pages.map (fun p => if p.imaging = 1 then { p with test := true } else p) }) } }
  else s

/-- SYN_LOSS_OF_LOCK (R117, R119). -/
def execSynLossOfLock (n : Fin 12) (s : State) : Out :=
  if s.synState n.val = synLocked then .next (coast n.val s) else .next s

/-- SYN_LOSS_OF_REFERENCE: the synthesizer sees no REFCLK_100 edge for 40 ns (R70, R118, R119). -/
def execSynLossOfReference (n : Fin 12) (s : State) : Out :=
  let st := s.synState n.val
  let s := { s with clk := { s.clk with refPresent := false } }
  if st = synOff then .next s
  else if st = synLocked then
    .next (synEvent Ev.SYN_REF_LOST n.val ((coast n.val s).put (F.CKR_SYN_STATUS_REF_LOST n.val) 1))
  else .next (s.put (F.CKR_SYN_STATUS_REF_LOST n.val) 1)

/-- A COASTING or GATED synthesizer locks through its shadow loop (R119, R136, Table 04.7). -/
def relock (n : Nat) (s : State) : State :=
  let st := s.synState n
  if st = synCoasting ∨ st = synGated then
    let s := synEvent Ev.SYN_RELOCK n (enterLocked n s)
    if n = 9 then { s with dsp := { s.dsp with blankEnd := false } } else s
  else s

/-- SYN_RELOCK. -/
def execSynRelock (n : Fin 12) (s : State) : Out := if s.clk.refPresent then .next (relock n.val s) else .next s

/-- A guard trip: the output is gated, and the islands it feeds follow Table 04.7 and R140; the SM rewrites SYN_11's
configuration at once. -/
def guardTrip (n : Nat) (s : State) : State :=
  let s := setSynState n synGated (s.orBits F.CKR_SYN_TRIP_TRIP (2 ^ n))
  let s := synEvent Ev.SYN_GATED n s
  if n < 4 then clusterOut n s
  else if n < 8 then serveHeld (setQuad (n - 4) .expired s)
  else if n = 8 then s.faultLow .xbarGated
  else if n = 9 then { s with dsp := { s.dsp with blankEnd := false } }
  else if n = 10 then spoilImaged s
  else
    let s := aonSafe (s.faultLow .syn11Gated)
    applySynWrite 11 { s with clk := { s.clk with syn11Lost := true } }

/-- DRIFT as a signed number of ppm. -/
def State.drift (s : State) (n : Nat) : Int := toSigned 16 (s.get (F.CKR_SYN_STATUS_DRIFT n))

/-- E of a window exceeds 1/8 pixel: |DRIFT| × 10^-6 × L, with L the page's active pixels per line (R137, R138). -/
def State.spoilsAt (s : State) (w : Nat) : Bool := 1000000 < (s.drift 10).natAbs * w * 8

/-- The spoil test of the pages SYN_10 coasted under, at a window end: pages wholly drawn are final, and with SYN_10 in lock
every page is (R138, R139). -/
def spoilTest (evaluated : Bool) (s : State) : State :=
  let bad := evaluated && (match s.imagedPage with
    | some (_, p) => (s.pageOf p.page).any (fun q => s.spoilsAt q.w)
    | none => false)
  let s := if bad then spoilImaged s else s
  let locked := s.synState 10 != synCoasting && s.synState 10 != synGated
  let drawn := s.dry.last < s.dry.scan
  let s := { s with prs := { s.prs with sheets := s.prs.sheets.map (fun sh => { sh with pages := sh.pages.map (fun p =>
    if !p.test then p
    else if p.imaging != 1 || drawn || sh.gone then { p with test := false, imaging := if p.imaging = 1 then 2 else p.imaging }
    else if locked then { p with test := false } else p) }) } }
  finishTested s

/-- MONITOR_WINDOW_END: a monitor window ends with a count of output cycles; `lockSame` says that the shadow loop declares
lock at the same instant, which wins over a guard trip (R123, R124, R137, Table 04.6). -/
def execMonitorWindowEnd (n : Fin 12) (count : Nat) (lockSame : Bool) (s : State) : Out :=
  let st := s.synState n.val
  let x := s.syn n.val
  let pure_ := x.pureWin
  let s := s.setSyn n.val { x with pureWin := true, refCount := if pure_ && st == synLocked then some count else x.refCount }
  if st = synLocked then
    let s := if pure_ then s.put (F.CKR_SYN_STATUS_NOMREF n.val) 0 else s
    .next (if n.val = 10 then spoilTest false s else s)
  else if st = synCoasting ∨ st = synGated then
    let (num, den) := s.refCycles n.val
    let s := if pure_ then s.put (F.CKR_SYN_STATUS_DRIFT n.val) (ofSigned 16 (driftOf count num den)) else s
    let s := if n.val = 10 then spoilTest pure_ s else s
    let trip := pure_ && st == synCoasting && decide (s.get (F.CKR_SYN_GUARD_GUARD_PPM n.val) < (s.drift n.val).natAbs)
    if lockSame && s.clk.refPresent then .next (relock n.val s)
    else .next (if trip then guardTrip n.val s else s)
  else .next s

/-- SYN_COAST_LIMIT: 10 ms in COASTING or GATED since coast entry (R125). -/
def execSynCoastLimit (n : Fin 12) (s : State) : Out :=
  let st := s.synState n.val
  if (st = synCoasting ∨ st = synGated) ∧ !s.on (F.CKR_SYN_STATUS_COAST_LIMIT n.val) then
    .next (synEvent Ev.SYN_COAST_LIMIT n.val (s.put (F.CKR_SYN_STATUS_COAST_LIMIT n.val) 1))
  else .next s

/-- REFCLK_RETURN: the reference shows edges again; each synthesizer then acquires lock by itself (R143). -/
def execRefclkReturn (s : State) : Out := .next { s with clk := { s.clk with refPresent := true } }

/-- CLKOUT_WRITE (R130 to R132). -/
def execClkoutWrite (n : Fin 4) (v : W32) (s : State) : Out := .next (clkoutWrite n.val v s)

/-- QUADRANT_HOLD_EXPIRY: 10 ms after its clock coasted or was gated, requests to the quadrant end MEM_UNAVAILABLE (R136,
R778). -/
def execQuadrantHoldExpiry (q : Fin 4) (s : State) : Out :=
  if s.quadMode q.val == .selfRefresh && s.synState (4 + q.val) != synLocked then .next (serveHeld (setQuad q.val .expired s))
  else .next s

/-- QUADRANT_QUIESCED: the quadrant of a written synthesizer has reached self-refresh, and only then is the synthesizer
gated and restarted, or turned off (R778). -/
def execQuadrantQuiesced (q : Fin 4) (s : State) : Out :=
  if s.quadMode q.val != .quiescing then .next s
  else
    let off := s.clk.quadOff.contains q.val
    let s := quadSelfRefresh q.val s
    .next (gateAndRestart (4 + q.val) off { s with clk := { s.clk with quadOff := NSet.del s.clk.quadOff q.val } })

/-- QUADRANT_RECENTRE_DONE: the quadrant has left self-refresh and re-centred, and serves its held requests (R136). -/
def execQuadrantRecentreDone (q : Fin 4) (s : State) : Out :=
  if s.quadMode q.val == .recentring then .next (quadServe q.val s) else .next s

end Sys2Proof.Machine
end

