-- ==== Sys2Proof/Machine/Reset.lean ====
section
/-! DEFINITION. Node resets: initiators, prologues, what each reset kind keeps, and the supply, crystal and trip events (R51,
R57, R66 to R69, R75, R76, R93 to R99, R102, R103, R107 to R110, R142, R145, R146, R230, R231, R295, R327, R361, R441, R468, R497,
R537, R559, R602, R644, R669, R701, R729, R774). -/

namespace Sys2Proof.Machine

/-- Registers in a range of keys take their reset values. -/
def loadRange (lo hi : Nat) (s : State) : State :=
  { s with regs := s.regs.filter (fun e => e.1 < lo || hi ≤ e.1), heldLow := s.heldLow.filter (fun e => e.1 < lo || hi ≤ e.1) }

/-- A register of a partition window at an offset. -/
def winKey (p off : Nat) : Nat := 0x100000000 + 0x10000 * p + off

/-- The window registers that take reset values when a partition becomes VOID: PW_RING, PW_EVT and PW_XLT (R224, R360,
R730). -/
def loadVoidWindow (p : Nat) (s : State) : State :=
  loadRange (winKey p 0xF000) (winKey p 0xF040) (loadRange (winKey p 0xC000) (winKey p 0xC018) (loadRange (winKey p 0) (winKey p 0x800) s))

/-- Partitions that return from a memory-retaining warm reset (R97). -/
def State.returning (s : State) : List Nat := (List.range 16).filter (fun p => s.lc p == 2)

/-- A granule that keeps its contents through a memory-retaining warm reset (R231). -/
def keptGranule (back : List Nat) : GState → Bool
  | .owned p => back.contains p
  | _ => false

/-- What a memory-retaining warm reset saves for the return: the trained parameters and geometry, or those of an earlier
reset whose memory was never brought back (R97, R537). -/
def State.savedMemory (s : State) : Option (Nat × Nat × NSet) :=
  if s.memStarted then
    some ((s.reg R.MEMG_CFG).toNat, (s.reg R.MEMG_GRANULES).toNat,
      (List.range 24).filter (fun c => let st := s.get (F.MC_STATUS_STATE c); st == 2 || st == 3))
  else s.pool.saved

/-- Pool memory after a reset of a kind (R95, R97, R185, R186, R231). -/
def keptPool (kind : ResetKind) (s : State) : PoolState :=
  if kind = .memoryRetaining then
    let back := s.returning
    let l2 := s.pool.l2.filter (fun g => keptGranule back (Tab.get .free s.xlt.gran g))
    { PoolState.init with cells := s.pool.cells, sym := s.pool.sym, l2 := l2, l1c := l2, l1 := s.pool.l1, l0 := s.pool.l0,
                          cleanPos := s.pool.cleanPos, scrubPos := s.pool.scrubPos, soft := s.pool.soft,
                          hardDone := s.pool.hardDone, serials := s.pool.serials, pop := s.pool.pop, saved := s.savedMemory }
  else { PoolState.init with hardDone := s.pool.hardDone }

/-- Translation state after a reset of a kind: the granules of returning partitions stay owned, every other granule is FREE, and
violation records of returning partitions survive (R230, R231). -/
def keptXlt (kind : ResetKind) (s : State) : XltState :=
  if kind = .memoryRetaining then
    let back := s.returning
    { XltState.init with gran := s.xlt.gran.filter (fun e => keptGranule back e.2),
                         vio := s.xlt.vio.filter (fun e => back.contains e.1),
                         partKeys := s.xlt.partKeys.filter (fun p => back.contains p) }
  else XltState.init

/-- What the boot flash and the retention store hold of the repair record (R489, R491). -/
def keptRpr (s : State) : RprState :=
  { RprState.init with copyA := s.rpr.copyA, copyB := s.rpr.copyB, pending := s.rpr.pending, deleted := s.rpr.deleted,
                       lastWrite := s.rpr.lastWrite, retFail := s.rpr.retFail }

/-- The event unit after a reset: what has left the node stays sent; the I3C target keeps responding, and the steward's
queue goes on, through a memory-retaining warm reset (Table 02.10, R729). -/
def keptEvt (kind : ResetKind) (s : State) : EvtState :=
  let e := { EvtState.init with ibi := s.evt.ibi, mctpOut := s.evt.mctpOut }
  if kind = .memoryRetaining then
    { e with i3cAddr := s.evt.i3cAddr, i3cIbiEn := s.evt.i3cIbiEn, eid := s.evt.eid, seq := s.evt.seq,
             stopped := s.evt.stopped, overflow := s.evt.overflow }
  else e

/-- The log after a reset: the reservation table with its marks always; the chain and the banks unless power was lost; failed banks
stay marked until the log starts again (R555, R559, R560). -/
def keptLog (kind : ResetKind) (s : State) : LogState :=
  let l := { LogState.init with resv := s.log.resv.filter (·.imaged), nextResv := s.log.nextResv }
  if kind = .powerOn then l
  else
    { l with records := s.log.records, nextSeq := s.log.nextSeq, retired := s.log.retired, chain := s.log.chain,
             tombSeq := s.log.tombSeq, failA := s.log.failA, failB := s.log.failB,
             lastCkpt := if kind = .memoryRetaining then s.log.lastCkpt else 0 }

/-- The security monitor after a reset: the flash always; RETENTION and the owner record through a memory-retaining warm reset
(R537). -/
def keptTrust (kind : ResetKind) (s : State) : TrustState :=
  let t := { TrustState.init with flash := s.trust.flash, ownerA := s.trust.ownerA, ownerB := s.trust.ownerB, out := s.trust.out,
                                  retention := s.trust.retention }
  if kind = .memoryRetaining then { t with owner := s.trust.owner, fresh := false } else t

/-- Power and pins after a reset of islands 1 to 24 (R59, R75, R76, Table 02.10). -/
def keptPwr (kind : ResetKind) (s : State) : PwrState :=
  { s.pwr with prologue := none, faultN := [], pcieUp := false, afterReset := true, atomWindow := false,
               drstLow := if kind = .memoryRetaining then s.pwr.drstLow else true }

/-- The clocks after a reset: SYN_11 runs on through a memory-retaining warm reset (R145, R146). -/
def keptClk (kind : ResetKind) (s : State) : ClkState :=
  let c := { ClkState.init with refPresent := s.clk.refPresent }
  if kind = .memoryRetaining then { c with syn := [(11, s.syn 11)], syn11Lost := s.clk.syn11Lost } else c

/-- Rings after a reset: a steward's hold stays on the rings of returning partitions (R354, R361). -/
def keptRings (kind : ResetKind) (s : State) : RingState :=
  if kind = .memoryRetaining then
    let held := s.rings.ring.filter (fun e => e.1 < 128 && s.lc (e.1 / 8) == 2 && e.2.hold)
    { RingState.init with ring := held.map (fun e => (e.1, { Ring.init with hold := true })) }
  else RingState.init

/-- The registers that a memory-retaining warm reset sets although their domain is kept, because they show state that the
islands lost: start-up stage, islands, clocks, Campion, the press, the display, the mailbox, the test job and the AVSBus (R93,
R146, R327, R602, R644, R669, R701). -/
def mrwRegs (s : State) : State :=
  let s := ((s.put F.CKR_START_STAGE_STAGE 0).put F.CKR_START_STAGE_MEM_READY 0).put F.CKR_START_STAGE_MEM_FAIL 0
  let s := s.put F.CKR_ISL_STATE_IN_RESET 0x1FFFFFE
  let runs := s.synState 11 = synLocked ∨ s.synState 11 = synCoasting
  let s := s.put F.CKR_ISL_CLK_RUNNING (if runs then 1 + synIslands 11 else 1)
  let s := ((s.put F.TOPO_STATUS_STATE 0).put F.TOPO_STATUS_COORD 0).put F.TOPO_STATUS_TORUS 0
  let s := ((s.put F.PRS_STATUS_STATE 0).put F.PRS_STATUS_OT_TRIP 0).put F.PRS_STATUS_HALT_CAUSE 0
  let s := ((s.put F.DRY_STATUS_LOCK 0).put F.DRY_STATUS_HUNTING 0).put F.TNS_STATUS_ADC_FAULT 0
  let s := ((s.put F.DSP_STATUS_TRAINED 0).put F.DSP_STATUS_ADMITTED 0).put F.DSP_AUX_CMD_BUSY 0
  (s.put F.SMB_STATUS_BUSY 0).put F.PWR_AVS_STATUS_SM_OWNED 0

/-- A returning partition: SEALED, with its rings paused where they were enabled (R97, R361). -/
def returnPartition (p : Nat) (s : State) : State :=
  (s.setLc p 2).each (List.range 8) (fun k t =>
    if t.on (F.PW_RING_CFG_EN p k) then (t.put (F.PW_RING_STATUS_STATE p k) 2).put (F.PW_RING_STATUS_CAUSE p k) 1 else t)

/-- The state after a reset of islands 1 to 24; any test job is aborted, and a memory-retaining warm reset leaves the TAP unchanged
(R753). -/
def nodeReset (kind : ResetKind) (s : State) : State :=
  let s := if kind = .memoryRetaining then endTest resAborted s else s
  let back := if kind = .memoryRetaining then s.returning else []
  let strap := s.reg R.GLB_STRAP
  let t : State :=
    { State.reset with
      regs := (s.loadDomains kind.loads).regs, heldLow := (s.loadDomains kind.loads).heldLow, ticks := s.ticks,
      freeCtr := s.freeCtr, fuses := s.fuses, pwr := keptPwr kind s, clk := keptClk kind s, pool := keptPool kind s,
      xlt := keptXlt kind s, evt := keptEvt kind s, nextSeal := s.nextSeal, log := keptLog kind s, rings := keptRings kind s,
      dsp := { DispState.init with hpd := s.dsp.hpd, aux := s.dsp.aux },
      press := { PressPins.safe with driven := s.press.driven },
      pressIn := s.pressIn, rpr := keptRpr s, trust := keptTrust kind s, fabOut := s.fabOut, hostOut := s.hostOut,
      fab := { FabState.init with flits := s.fab.flits }, pending := s.pending,
      tst := if kind = .memoryRetaining then { TestState.init with ir := s.tst.ir, pads := s.tst.pads, wir := s.tst.wir } else TestState.init }
  let t := t.setReg R.GLB_STRAP strap
  let t := if kind = .memoryRetaining then mrwRegs t else t
  let t := t.each ((List.range 16).filter (fun p => !back.contains p)) loadVoidWindow
  t.each back returnPartition

/-- The node starts: CKR_INCARNATION increments, and the SM starts from ROM at stage ROM (R76, Table 03.4). -/
def startUp (s : State) : State := s.incr F.CKR_INCARNATION_COUNT 1

/-- A power-on reset taken at once: the press outputs are safe, and any prologue is abandoned (R93, R103, Table 03.8). -/
def powerReset (s : State) : State := nodeReset .powerOn s

/-- The pages in the path are INTERRUPTED in a prologue: the page being imaged first, then the others in pick order (R94,
R633). -/
def interruptPrologue (s : State) : State :=
  let img := s.imagedPage.map (fun x => x.2.page)
  let all := s.path.flatMap (·.pages)
  let s := s.each (all.filter (fun p => some p.page == img) ++ all.filter (fun p => some p.page != img)) (fun sp t =>
    recordPage sp 0x41 false (unrequeue sp.page t))
  { s with prs := { s.prs with sheets := s.prs.sheets.filter (·.gone) } }

/-- A reset prologue starts: the press outputs are safe, the pages in the path INTERRUPTED, and the RESET record follows
(R93, R94). The records are the SM firmware's. -/
def startPrologue (kind : ResetKind) (s : State) : State :=
  let s := interruptPrologue (aonSafe s)
  let s := if s.trust.running.isSome then
      logSubmit .internal false 0x02 false 0xFF
        (leBytes 1 (if kind = .warm then 1 else 2) ++ leBytes 3 0 ++ leBytes 4 (s.reg R.CKR_RST_CAUSE).toNat) none .none s
    else s
  { s with pwr := { s.pwr with prologue := some kind } }

/-- Islands 1 to 24 are held: PORST_N is low, or a trip, a crystal stop or the loss of VDD_AON waits for PORST_N. -/
def State.isHeld (s : State) : Bool := s.pwr.porstLow || s.pwr.held || !s.pwr.aonUp

/-- A warm or memory-retaining warm reset is accepted: its cause is set; during a prologue only a warm reset changes anything, by
demoting a memory-retaining one (R93, R102, R109, Table 03.8). -/
def acceptReset (kind : ResetKind) (cause : Fld) (s : State) : State :=
  if s.isHeld then s
  else
    let s := s.put cause 1
    match s.pwr.prologue with
    | none => startPrologue kind s
    | some .memoryRetaining =>
      if kind = .warm then startPrologue .warm (s.put F.CKR_RST_CAUSE_MRW_DEMOTED 1) else s
    | some _ => s

/-- Whether a low pulse on WRST_N or MRST_N of this many AON cycles is accepted (R57). -/
def pulseAccepted (cycles : Nat) (s : State) : Bool × State :=
  if 250 ≤ cycles then (true, s)
  else if cycles < 25 then (false, s)
  else (Config.pulseAccepted s.freeCtr, s.draw)

/-- WRST_N_PULSE (R57, R93). -/
def execWrstNPulse (cycles : Nat) (s : State) : Out :=
  let (ok, s) := pulseAccepted cycles s
  .next (if ok then acceptReset .warm F.CKR_RST_CAUSE_WARM_PIN s else s)

/-- MRST_N_PULSE (R57, R93). -/
def execMrstNPulse (cycles : Nat) (s : State) : Out :=
  let (ok, s) := pulseAccepted cycles s
  .next (if ok then acceptReset .memoryRetaining F.CKR_RST_CAUSE_MRW_PIN s else s)

/-- WARM_RESET_REQUEST: the steward's order 0x5752 (R110); a same-cycle order of the SM supersedes it (R526, R527). -/
def execWarmResetRequest (lost : Bool) (s : State) : Out :=
  if lost then .next (s.bump F.SMB_SUPERSEDED_COUNT 1) else .next (acceptReset .warm F.CKR_RST_CAUSE_WARM_REQ s)

/-- MRW_RESET_REQUEST: the steward's order 0x4D52 (R110). -/
def execMrwResetRequest (lost : Bool) (s : State) : Out :=
  if lost then .next (s.bump F.SMB_SUPERSEDED_COUNT 1) else .next (acceptReset .memoryRetaining F.CKR_RST_CAUSE_MRW_REQ s)

/-- SM_WATCHDOG_EXPIRY: the firmware, which arms the watchdog, does not service it (R107). -/
def execSmWatchdogExpiry (s : State) : Out :=
  if s.trust.running.isSome then .next (acceptReset .warm F.CKR_RST_CAUSE_WATCHDOG s) else .next s

/-- SYN11_LOCK_TIMEOUT: SYN_11 has not locked 100 ms after it was gated (R142). -/
def execSyn11LockTimeout (s : State) : Out :=
  if s.clk.syn11Lost && s.synState 11 != synLocked then .next (acceptReset .warm F.CKR_RST_CAUSE_WARM_REQ s) else .next s

/-- A record of the prologue has not entered the log, and LOG runs (R94). -/
def State.prologueBusy (s : State) : Bool :=
  bit (s.get F.CKR_ISL_CLK_RUNNING) 4 && !s.clk.syn11Lost && s.log.started &&
    s.log.waiting.any (fun r => r.accepted && (r.type == 0x02 || r.type == 0x10))

/-- A memory-retaining warm reset cannot keep memory: the retention store is unrepairable, or a test wrote the DIMMs (R96,
Table 13.1, R744). -/
def State.mrwLost (s : State) : Bool := s.rpr.retFail || s.tst.wiped

/-- RESET_PROLOGUE_DONE: the prologue ends, its records written; islands 1 to 24 enter reset and the node starts anew (R76, R93,
R94, R96). -/
def execResetPrologueDone (s : State) : Out :=
  match s.pwr.prologue with
  | none => .next s
  | some kind =>
    if s.prologueBusy then .next s
    else if kind = .memoryRetaining ∧ s.mrwLost then
      .next (startUp (nodeReset .warm (s.put F.CKR_RST_CAUSE_MRW_DEMOTED 1)))
    else .next (startUp (nodeReset kind s))

/-- MRW_PROLOGUE_TIMEOUT: the prologue takes more than 5 ms, or the retention store fails its read-back; a warm reset follows
(R96). -/
def execMrwPrologueTimeout (s : State) : Out :=
  if s.pwr.prologue = some .memoryRetaining then
    .next (startUp (nodeReset .warm (s.put F.CKR_RST_CAUSE_MRW_DEMOTED 1)))
  else .next s

/-- PORST_N_FALL: a power-on reset at once; THERMTRIP_N is released (R75, R108, Table 03.8). -/
def execPorstNFall (s : State) : Out :=
  if s.pwr.porstLow || !s.pwr.aonUp then .next s
  else
    let faults := if s.pwr.xtalRunning then [] else [FaultCause.xtalStop]
    let s := powerReset (s.put F.CKR_RST_CAUSE_POR 1)
    .next { s with pwr := { s.pwr with porstLow := true, held := false, thermtripLow := false, faultN := faults } }

/-- PORST_N_RISE: the straps are sampled and the node starts; the board has brought every rail and the crystal up (R51 to R53,
R76, R77, R79, Table 03.4). -/
def execPorstNRise (testMode : Bool) (strap : BitVec 4) (s : State) : Out :=
  if !s.pwr.porstLow || !s.pwr.aonUp then .next s
  else
    let s := { s with pwr := { s.pwr with porstLow := false, held := false, xtalRunning := true, io33Up := true, faultN := [] },
                      press := PressPins.safe }
    let s := (s.putB F.GLB_STRAP_TEST_MODE testMode).put F.GLB_STRAP_I3C_ADDR (bits strap.toNat 3 2)
    .next (startUp ((s.put F.GLB_STRAP_FAB_MODE (bits strap.toNat 1 1)).put F.GLB_STRAP_BOOT_CS (bits strap.toNat 0 0)))

/-- UNDERVOLTAGE: a monitored rail, as its bit of UV, stays below its threshold for more than 2 µs (R103). -/
def execUndervoltage (rail : Fin 4) (s : State) : Out :=
  if !s.pwr.aonUp then .next s
  else
    let s := s.orBits F.CKR_RST_CAUSE_UV (2 ^ rail.val)
    if s.isHeld then .next (s.faultLow .undervoltage) else .next ((startUp (powerReset s)).faultLow .undervoltage)

/-- CRYSTAL_STOP: every island but AON is held in reset, the press is safe and FAULT_N low; the crystal runs again at the next
power-up of PORST_N (R68, R75, Table 03.3). -/
def execCrystalStop (s : State) : Out :=
  if !s.pwr.aonUp || !s.pwr.xtalRunning then .next s
  else
    let s := s.put F.CKR_RST_CAUSE_XTAL_STOP 1
    let t := if s.isHeld then s else startUp (powerReset s)
    .next ({ t with pwr := { t.pwr with xtalRunning := false, held := true } }.faultLow .xtalStop)

/-- The trip of R108: THERMTRIP_N low, and islands 1 to 24 held until PORST_N has fallen and risen (R69, R724). -/
def thermalTrip (s : State) : State :=
  if !s.pwr.aonUp || s.pwr.thermtripLow then s
  else
    let s := s.put F.CKR_RST_CAUSE_THERMTRIP 1
    let t := if s.isHeld then s else startUp (powerReset s)
    { t with pwr := { t.pwr with thermtripLow := !t.pwr.porstLow, held := !t.pwr.porstLow } }

/-- THERMAL_TRIP. -/
def execThermalTrip (s : State) : Out := .next (thermalTrip s)

/-- VDD_AON_LOSS: the AON domain is lost with everything else, and every press output is undriven (R15, R774). The flash keeps its
contents. -/
def execVddAonLoss (s : State) : Out :=
  if !s.pwr.aonUp then .next s
  else
    let t := powerReset s
    .next { t with regs := [], heldLow := [], log := LogState.init, rpr := { RprState.init with copyA := s.rpr.copyA, copyB := s.rpr.copyB },
                   trust := { (keptTrust .powerOn s) with retention := 0 },
                   press := { PressPins.safe with driven := false },
                   pwr := { t.pwr with aonUp := false, held := true, thermtripLow := false, faultN := [] } }

/-- VDD_AON_APPLY: VDD_AON rises from below its threshold; every AON register has its reset value, and the node waits for
PORST_N (R15, R77, R79). -/
def execVddAonApply (s : State) : Out :=
  if s.pwr.aonUp then .next s
  else .next { s with pwr := { s.pwr with aonUp := true, xtalRunning := true } }

/-- ATOM_WINDOW_END: 2 s after FABRIC_READY fabric atomics are served again (R100). -/
def execAtomWindowEnd (s : State) : Out := .next { s with pwr := { s.pwr with atomWindow := false } }

/-- Every trained link is admitted, or held at VC 4 only (R83): a link that can still be admitted needs an owned node and a
peer that attests, which `held` of the command says it has not. -/
def State.linksReady (held : NSet) (s : State) : Bool :=
  s.leads.all (fun k => s.get (F.FP_STATUS_STATE k) != 5 || s.secure k || s.trust.owner.isNone || held.contains k)

/-- FABRIC_READY: coordinates assigned, Sorrel in lock, links admitted or held (R83, R100). -/
def execFabricReady (held : List Nat) (s : State) : Out :=
  let srl := s.get F.TOPO_SRL_STATUS_STATE
  if s.get F.CKR_START_STAGE_STAGE = 6 ∧ s.fab.assigned ∧ s.get F.TOPO_STATUS_STATE = 3 ∧ (srl = 3 ∨ srl = 1) ∧
      s.linksReady held then
    let s := { s with pwr := { s.pwr with atomWindow := s.pwr.afterReset, afterReset := false } }
    .next (raiseNode ⟨Ev.FABRIC_READY, 0, 0, 0, 0⟩ (s.put F.CKR_START_STAGE_STAGE 7))
  else .next s

end Sys2Proof.Machine
end

