-- ==== Sys2Proof/Machine/Parts.lean ====
section
/-! DEFINITION. Partitions as the SM handles them: partition resets, leases, teardown, releases of granules, withdrawal of
regions, what the SM answers, and the privileged instructions of SM programs (R89 to R91, R192 to R198, R224, R225, R359, R360,
R404, R506, R522, R526, R530, R531, R534, R606, R634, R730, Table 10.12). -/

namespace Sys2Proof.Machine

/-! ### Answers -/

/-- The bytes of a steward response (R516). -/
def SmResponse.bytes (r : SmResponse) : List Byte :=
  leBytes 2 r.cmd ++ leBytes 1 r.status ++ leBytes 1 0 ++ leBytes 4 r.tag ++ leBytes 4 r.detail ++ r.results

/-- A request came through the SMB mailbox: outside a session, or in one whose transport is the mailbox. -/
def State.byMailbox (s : State) (sess : Option Nat) : Bool :=
  match sess with
  | none => true
  | some i => s.trust.sessions.any (fun x => x.id == i && x.transport == 4)

/-- Bytes go into SMB_BUF from its start. -/
def writeBuf (b : List Byte) (s : State) : State :=
  s.each (List.range ((min b.length 4096 + 3) / 4)) (fun i t => t.put (F.SMB_BUF_DATA i) (ofLeBytes (slice 0 b (4 * i) 4)))

/-- The SM answers a steward command: to its session, and through SMB_BUF while the mailbox waits for it; an answer to a request
that was aborted is not sent (R516, Table 14.14). -/
def smAnswer (r : SmResponse) (s : State) : State :=
  let out := { s with trust := { s.trust with out := s.trust.out ++ [(r.sess, .steward r)] } }
  if !s.byMailbox r.sess then out
  else if !s.on F.SMB_STATUS_BUSY then s
  else
    let s := (writeBuf r.bytes out).put F.SMB_STATUS_RSP_LEN (min r.bytes.length 4096)
    let s := (s.put F.SMB_STATUS_RSP_READY 1).put F.SMB_STATUS_BUSY 0
    { s with trust := { s.trust with mailbox := none } }

/-- A steward command's answer. -/
def answer (q : StewReq) (cmd status detail : Nat) (results : List Byte) (s : State) : State :=
  smAnswer { sess := q.sess, cmd := cmd, status := status, tag := q.tag.toNat, detail := detail, results := results } s

/-- The answer OK that follows a command's record. -/
def okCont (q : Option StewReq) (cmd : Nat) : LogCont :=
  match q with
  | some q => .respond { sess := q.sess, cmd := cmd, status := 0, tag := q.tag.toNat, detail := 0, results := [] }
  | none => .none

/-- What follows the last record of work that a steward command or an instruction of an SM program waits for. -/
def endCont (q : Option StewReq) (ring : Option (Nat × Nat)) (cmd : Nat) : LogCont :=
  match ring with
  | some (r, t) => .tally r t 0 0
  | none => okCont q cmd

/-- Work ends whose record cannot be written any more: the command is refused with reason 3 and the tally completes (R531). -/
def endUnlogged (q : Option StewReq) (ring : Option (Nat × Nat)) (cmd : Nat) (s : State) : State :=
  let s := match q with | some q => answer q cmd 0x50 3 [] s | none => s
  match ring with
  | some (r, t) => tallyDone r t 0 0 s
  | none => s

/-! ### Records of R530 -/

/-- A LIFECYCLE record. -/
def logLifecycle (p new old init : Nat) (cont : LogCont) (s : State) : State :=
  logOrdinary 0x30 p (leBytes 1 new ++ leBytes 1 old ++ leBytes 1 init) cont s

/-- A GRANULE record. -/
def logGranule (p op first count : Nat) (cont : LogCont) (s : State) : State :=
  logOrdinary 0x31 p (leBytes 1 op ++ leBytes 3 0 ++ leBytes 2 first ++ leBytes 2 count) cont s

/-- A REGION record. -/
def logRegion (n op readers first count off len : Nat) (cont : LogCont) (s : State) : State :=
  logOrdinary 0x32 0xFF (leBytes 1 n ++ leBytes 1 op ++ leBytes 2 readers ++ leBytes 2 first ++ leBytes 2 count ++ leBytes 8 off ++
    leBytes 8 len) cont s

/-- Code of a lease holder; 0xFF for none. -/
def holderCode (h : Option Nat) : Nat := h.getD 0xFF

/-! ### Leases -/

/-- The holder of a lease: 0 press, 1 proof. -/
def State.lease (s : State) (res : Nat) : Option Nat := if res = 0 then s.leases.press else s.leases.proof

/-- A lease moves, with what its loss means for the resource, and the LEASE record follows (R402, R530, R596, R606, Table
10.12). -/
def setLease (res : Nat) (new : Option Nat) (cont : LogCont) (s : State) : State :=
  let old := s.lease res
  let s :=
    if new = old then s
    else if res = 0 then
      let s := pressMoved old new (capLeaseMoved s)
      { s with leases := { s.leases with press := new }, prs := { s.prs with releasing := false } }
    else
      let s := proofMoved s
      { s with leases := { s.leases with proof := new } }
  logOrdinary 0x33 (holderCode new) (leBytes 1 res ++ leBytes 1 (holderCode old) ++ leBytes 1 (holderCode new)) cont s

/-- A page of the partition is in the press queue, picked, its record not yet written. -/
def State.pagesLeft (s : State) (p : Nat) : Bool := s.prs.queue.any (fun x => x.part == p)

/-- The press lease that a partition reset gives up goes once the last picked page of its holder has its record (R91, R634). -/
def releaseAfterPages (s : State) : State :=
  match s.leases.press with
  | some p => if s.prs.releasing && !s.pagesLeft p then setLease 0 none .none s else s
  | none => s

/-- A partition's leases are given up (R89, R91). -/
def releaseLeases (p : Nat) (s : State) : State :=
  let s := if s.leases.proof = some p then setLease 1 none .none s else s
  if s.leases.press = some p then
    (if s.pagesLeft p then { s with prs := { s.prs with releasing := true } } else setLease 0 none .none s)
  else s

/-! ### Partition reset -/

/-- A ring forgets its programs, fetched entries, invokes and completions; the steward's hold stays (R89, R90, R354). -/
def emptyRing (r : Nat) (s : State) : State := s.setRing r { Ring.init with hold := (s.ring r).hold }

/-- A program core serving partition `p` is freed (R89). -/
def coreFreed (p : Nat) (e : Nat × Core) : Nat × Core :=
  (e.1, if e.2.part = some p then { Core.init with last := e.2.last } else e.2)

/-- The work of a partition's programs is cancelled and its outputs discarded: COPY and FILL, Hatch and attention jobs, raster
jobs, captures, commits that wait, and pages not yet picked (R89, R90, R402, R410, R441, R634). -/
def cancelWork (p : Nat) (s : State) : State :=
  let s := s.each (List.range 8) (fun k t => emptyRing (8 * p + k) t)
  let mine := fun (r : Nat) => r < 128 && r / 8 == p
  let s := { s with rings := { s.rings with dma := s.rings.dma.filter (fun d => !mine d.ring),
                                            core := s.rings.core.map (coreFreed p) } }
  let s := { s with fab := { s.fab with reqs := s.fab.reqs.filter (fun q => match q.owner with | .dma r _ => !mine r) } }
  let s := cancelJobs p (cancelHatch mine s)
  let s := { s with tns := { s.tns with cap := s.tns.cap.filter (fun c => c.part != p),
                                        capWait := s.tns.capWait.filter (fun c => c.part != p) } }
  let s := capNext s
  let hand := s.dsp.hand.filter (fun c => mine c.ring)
  let s := { s with dsp := { s.dsp with hand := s.dsp.hand.filter (fun c => !mine c.ring) },
                    log := { s.log with wants := s.log.wants.filter (fun w => match w with | .commit r => !mine r | _ => true) } }
  let s := s.each hand (fun c t => releaseCommit c t)
  let s := dropPages (fun x => x.part == p) s
  { s with prs := { s.prs with queue := s.prs.queue.map (fun x => if x.part = p then { x with tally := none } else x) } }

/-- A partition's event queue starts anew, its base and CFG kept (R730). -/
def emptyEvents (p : Nat) (s : State) : State :=
  { s with evt := { s.evt with seqP := s.evt.seqP.del p, stoppedP := NSet.del s.evt.stoppedP p, overflowP := NSet.del s.evt.overflowP p } }

/-- A partition reset (R89 to R91, R232, R359, R522, R730). -/
def partitionReset (p : Nat) (s : State) : State :=
  let s := cancelWork p s
  let s := emptyEvents p (s.loadDomains (fun d => d == .part p))
  let s := { s with xlt := { s.xlt with invWord := s.xlt.invWord.filter (fun e => e.1 / 4 != p) } }
  let s := s.each (List.range 8) (fun k t => if t.on (F.PW_RING_CFG_EN p k) then pauseRing (8 * p + k) 1 t else t)
  releaseLeases p (s.setTdi p 0)

/-- PARTITION_RESET: an order for a partition that has state to reset. -/
def execPartitionReset (p : Fin 16) (s : State) : Out :=
  if s.lc p.val = 0 then .next s else .next (partitionReset p.val s)

/-! ### Teardown -/

/-- The granules a partition owns, rising. -/
def State.ownedBy? (s : State) (p : Nat) : List Nat := s.granulesWhere (fun x => x == .owned p)

/-- The first three steps of a teardown, with the record of DRAINING (R224, R530). -/
def startTear (x : Tear) (s : State) : State :=
  let p := x.part
  let old := s.lc p
  let s := s.setLc p 3
  let s := if x.record then logLifecycle p 3 old x.init .none s else s
  let s := partitionReset p s
  let s := s.each (s.ownedBy? p) (fun g t => t.setGran g (.releasing false p))
  { s with trust := { s.trust with tears := s.trust.tears ++ [x] } }

/-- A partition becomes VOID: its caches, window registers, ring holds and event state are gone (R224, R360, R730). -/
def makeVoid (p : Nat) (s : State) : State :=
  let s := { s with xlt := { s.xlt with partKeys := NSet.del s.xlt.partKeys p } }
  let s := s.each (s.granulesWhere (fun x => x == .releasing false p)) freeGranule
  let s := emptyEvents p (loadVoidWindow p (dropCaches p s))
  let s := (s.put (F.XLT_EPOCH_CUR_EPOCH p) 0).put (F.XLT_EPOCH_ACK_EPOCH p) 0
  let s := s.each (List.range 8) (fun k t => t.setRing (8 * p + k) Ring.init)
  (s.setLc p 0).setTdi p 0

/-- The page that was imaged at the halt has no final outcome yet (R558). -/
def State.haltPage (s : State) : Bool := s.prs.final.isSome || s.prs.sheets.any (fun x => x.pages.any (fun p => !p.noRec))

/-- The next partition of a SEALED-HALT's teardowns, which follow in ascending number and write no record (R531). -/
def nextHaltTear (s : State) : State :=
  if s.trust.haltTear && !s.haltPage && s.trust.tears.isEmpty then
    match (List.range 16).find? (fun p => s.lc p == 1 || s.lc p == 2) with
    | some p => startTear { part := p, init := 1, record := false, req := none, ring := none } s
    | none => { s with trust := { s.trust with haltTear := false } }
  else s

/-- TEARDOWN_DRAIN_COMPLETE: every access of the partition and to its granules has completed, and its pages' records are
written; the teardown ends at VOID (R224). -/
def execTeardownDrainComplete (p : Fin 16) (s : State) : Out :=
  match s.trust.tears.find? (fun x => x.part == p.val) with
  | none => .next s
  | some x =>
    if s.pagesLeft p.val || s.leases.press == some p.val then .next s
    else
      let s := { s with trust := { s.trust with tears := s.trust.tears.filter (fun y => y.part != p.val) } }
      let s := makeVoid p.val s
      let s := { s with trust := { s.trust with releases := s.trust.releases.filter (fun y => y.part != p.val) } }
      if x.record && !s.log.halted then .next (nextHaltTear (logLifecycle p.val 0 3 x.init (endCont x.req x.ring 0x13) s))
      else .next (nextHaltTear (endUnlogged x.req x.ring 0x13 s))

/-! ### Granules and regions -/

/-- Granules of a partition start to be released, as one order (R192, R193). -/
def startRelease (x : Release) (s : State) : State :=
  let s := s.each x.left (fun g t => t.setGran g (.releasing false x.part))
  { s with trust := { s.trust with releases := s.trust.releases ++ [x] } }

/-- The record and the end of a release whose last granule is FREE. -/
def endRelease (x : Release) (s : State) : State :=
  if s.log.halted then endUnlogged x.req x.ring 0x15 s
  else logGranule x.part 1 x.first x.count (endCont x.req x.ring 0x15) s

/-- GRANULE_RELEASE_COMPLETE: every request to a RELEASING granule has completed, and it becomes FREE; those of a withdrawn region
or of a draining partition wait for their own completion (R193, R197, R224). -/
def execGranuleReleaseComplete (g : Fin 16384) (s : State) : Out :=
  match s.gran g.val with
  | .releasing false p =>
    if s.lc p = 3 then .next s
    else
      let s := freeGranule g.val s
      let now := s.trust.releases.map (fun x => { x with left := NSet.del x.left g.val })
      let s := { s with trust := { s.trust with releases := now.filter (fun x => !x.left.isEmpty) } }
      .next (s.each (now.filter (fun x => x.left.isEmpty)) endRelease)
  | _ => .next s

/-- A region's withdrawal starts: every granule of it is RELEASING (R197). -/
def startWithdraw (x : Withdraw) (s : State) : State :=
  let s := s.each (s.granulesWhere (fun e => e == .shared x.region)) (fun g t => t.setGran g (.releasing true x.region))
  { s with xlt := { s.xlt with withdrawing := NSet.ins s.xlt.withdrawing x.region },
           trust := { s.trust with withdraws := s.trust.withdraws ++ [x] } }

/-- REGION_WITHDRAW_COMPLETE: the region key is destroyed, its granules become FREE and the region NONE (R197). -/
def execRegionWithdrawComplete (r : Fin 16) (s : State) : Out :=
  if !s.xlt.withdrawing.contains r.val then .next s
  else
    let gs := s.granulesWhere (fun x => x == .releasing true r.val)
    let ws := s.trust.withdraws.filter (fun x => x.region == r.val)
    let s := { s with xlt := { s.xlt with withdrawing := NSet.del s.xlt.withdrawing r.val,
                                          regionKeys := NSet.del s.xlt.regionKeys r.val },
                      trust := { s.trust with withdraws := s.trust.withdraws.filter (fun x => x.region != r.val) } }
    let s := s.each gs freeGranule
    let s := ((s.put (F.XLT_SHR_READERS r.val) 0).put (F.XLT_SHR_STATE r.val) 0).put (F.XLT_SHR_GRANULES r.val) 0
    .next (s.each ws (fun x t =>
      if t.log.halted then endUnlogged x.req x.ring 0x25 t
      else logRegion r.val 5 0 0 0 0 0 (endCont x.req x.ring 0x25) t))

/-- State of a region: 0 NONE, 1 LOADING, 2 PUBLISHED. -/
def State.region (s : State) (n : Nat) : Nat := s.get (F.XLT_SHR_STATE n)

/-- A request to the DRBG, which is reseeded every 2^20 requests (R506). -/
def drbgDraw (s : State) : State := { s with trust := { s.trust with drbg := (s.trust.drbg + 1) % 1048576 } }

/-- A partition may be formed: the node is owned, in mission mode and its TRNG healthy (R53, R515, R534). -/
def State.mayForm (s : State) : Bool := s.trust.owner.isSome && !s.on F.GLB_STRAP_TEST_MODE && !s.trust.trngFail

/-- A partition is formed: its key is generated in CRYPTO (Table 10.12, Table 14.2). -/
def formPart (p init : Nat) (cont : LogCont) (s : State) : State :=
  let s := drbgDraw { s with xlt := { s.xlt with partKeys := NSet.ins s.xlt.partKeys p } }
  logLifecycle p 1 0 init cont (s.setLc p 1)

/-- A partition is sealed. -/
def sealPart (p init : Nat) (cont : LogCont) (s : State) : State := logLifecycle p 2 1 init cont (s.setLc p 2)

/-- Granules are assigned to a partition (R192). -/
def assignGranules (p first count : Nat) (cont : LogCont) (s : State) : State :=
  let s := s.each (List.range count) (fun i t => t.setGran (first + i) (.owned p))
  logGranule p 0 first count cont s

/-- A region is created, its key generated (R194). -/
def createRegion (n : Nat) (cont : LogCont) (s : State) : State :=
  let s := drbgDraw { s with xlt := { s.xlt with regionKeys := NSet.ins s.xlt.regionKeys n } }
  logRegion n 0 0 0 0 0 0 cont ((s.put (F.XLT_SHR_STATE n) 1).put (F.XLT_SHR_GRANULES n) 0)

/-- Granules are added to a LOADING region. -/
def addRegion (n first count : Nat) (cont : LogCont) (s : State) : State :=
  let s := s.each (List.range count) (fun i t => t.setGran (first + i) (.shared n))
  logRegion n 1 0 first count 0 0 cont (s.incr (F.XLT_SHR_GRANULES n) count)

/-- A region is published, or its readers change (R196, R198). -/
def setReaders (n readers op : Nat) (cont : LogCont) (s : State) : State :=
  logRegion n op readers 0 0 0 0 cont ((s.put (F.XLT_SHR_STATE n) 2).put (F.XLT_SHR_READERS n) readers)

/-! ### Privileged instructions (Table 10.12) -/

/-- A privileged instruction of an SM program; no other program holds one (R370, R404). -/
def smKcs (r : Fin 132) (g : Guard) (w : W64) (body : Prog → State → State) (s : State) : Out :=
  if smRing r.val then kcs r g w [] body s else .next s

/-- A privileged instruction whose precondition does not hold is a runtime MALFORMED, and has its effect otherwise (R404). -/
def smDo (r : Nat) (ok : Bool) (p : Prog) (s : State) (run : State → State) : State :=
  if ok then run (s.setProg r (p.next 1)) else endAt r 0x50 0 p s

/-- PFORM; it waits while the boundary register has the pads (Table 21.7). -/
def execPform (r : Fin 132) (g : Guard) (b : Fin 32) (s : State) : Out :=
  smKcs r g (encR 0xA0 g 0 b.val 0 0) (fun p s =>
    let n := (p.sreg b.val).toNat
    if n < 16 && s.lc n == 0 && s.mayForm && s.tst.pads.isSome then s
    else smDo r.val (n < 16 && s.lc n == 0 && s.mayForm) p s (formPart n 1 .none)) s

/-- PSEAL. -/
def execPseal (r : Fin 132) (g : Guard) (b : Fin 32) (s : State) : Out :=
  smKcs r g (encR 0xA1 g 0 b.val 0 0) (fun p s =>
    let n := (p.sreg b.val).toNat
    smDo r.val (n < 16 && s.lc n == 1) p s (sealPart n 1 .none)) s

/-- PRST. -/
def execPrst (r : Fin 132) (g : Guard) (b : Fin 32) (s : State) : Out :=
  smKcs r g (encR 0xA2 g 0 b.val 0 0) (fun p s =>
    let n := (p.sreg b.val).toNat
    smDo r.val (n < 16 && (s.lc n == 1 || s.lc n == 2)) p s (partitionReset n)) s

/-- PTEAR: its tally completes at VOID. -/
def execPtear (r : Fin 132) (g : Guard) (t : Fin 16) (a : Fin 32) (s : State) : Out :=
  smKcs r g (encU 0xA3 g 0 0 t.val a.val 0 0 0) (fun p s => kindA r.val t.val p s (fun q s =>
    let n := (q.sreg a.val).toNat
    if n < 16 && (s.lc n == 1 || s.lc n == 2) then
      startTear { part := n, init := 1, record := !s.log.halted, req := none, ring := some (r.val, t.val) } (s.setProg r.val (q.issue t.val))
    else endAt r.val 0x50 0 q s)) s

/-- GASSIGN. -/
def execGassign (r : Fin 132) (g : Guard) (b c : Fin 32) (s : State) : Out :=
  smKcs r g (encR 0xA4 g 0 b.val c.val 0) (fun p s =>
    let x := (p.sreg b.val).toNat
    let n := (p.sreg c.val).toNat
    smDo r.val (n < 16 && s.gran x == .free && (s.lc n == 1 || s.lc n == 2)) p s (assignGranules n x 1 .none)) s

/-- GRELEASE: its tally completes at FREE. -/
def execGrelease (r : Fin 132) (g : Guard) (t : Fin 16) (a : Fin 32) (s : State) : Out :=
  smKcs r g (encU 0xA5 g 0 0 t.val a.val 0 0 0) (fun p s => kindA r.val t.val p s (fun q s =>
    let x := (q.sreg a.val).toNat
    match s.gran x with
    | .owned n => startRelease { part := n, first := x, count := 1, left := [x], req := none, ring := some (r.val, t.val) }
        (s.setProg r.val (q.issue t.val))
    | _ => endAt r.val 0x50 0 q s)) s

/-- RCREATE. -/
def execRcreate (r : Fin 132) (g : Guard) (b : Fin 32) (s : State) : Out :=
  smKcs r g (encR 0xA6 g 0 b.val 0 0) (fun p s =>
    let n := (p.sreg b.val).toNat
    smDo r.val (n < 16 && s.region n == 0 && !s.trust.trngFail) p s (createRegion n .none)) s

/-- RADD. -/
def execRadd (r : Fin 132) (g : Guard) (b c : Fin 32) (s : State) : Out :=
  smKcs r g (encR 0xA7 g 0 b.val c.val 0) (fun p s =>
    let x := (p.sreg b.val).toNat
    let n := (p.sreg c.val).toNat
    smDo r.val (n < 16 && s.gran x == .free && s.region n == 1) p s (addRegion n x 1 .none)) s

/-- RPUB. -/
def execRpub (r : Fin 132) (g : Guard) (b c : Fin 32) (s : State) : Out :=
  smKcs r g (encR 0xA8 g 0 b.val c.val 0) (fun p s =>
    let n := (p.sreg b.val).toNat
    smDo r.val (n < 16 && s.region n == 1) p s (setReaders n (bits (p.sreg c.val).toNat 15 0) 3 .none)) s

/-- RREADERS. -/
def execRreaders (r : Fin 132) (g : Guard) (b c : Fin 32) (s : State) : Out :=
  smKcs r g (encR 0xA9 g 0 b.val c.val 0) (fun p s =>
    let n := (p.sreg b.val).toNat
    smDo r.val (n < 16 && s.region n == 2) p s (setReaders n (bits (p.sreg c.val).toNat 15 0) 4 .none)) s

/-- RWDRAW: its tally completes at NONE. -/
def execRwdraw (r : Fin 132) (g : Guard) (t : Fin 16) (a : Fin 32) (s : State) : Out :=
  smKcs r g (encU 0xAA g 0 0 t.val a.val 0 0 0) (fun p s => kindA r.val t.val p s (fun q s =>
    let n := (q.sreg a.val).toNat
    if n < 16 && s.region n == 2 && !s.xlt.withdrawing.contains n then
      startWithdraw { region := n, req := none, ring := some (r.val, t.val) } (s.setProg r.val (q.issue t.val))
    else endAt r.val 0x50 0 q s)) s

/-- The holder an order names: a SEALED partition, or none; no answer where it names neither (Table 10.12). -/
def State.newHolder (s : State) (h : Nat) : Option (Option Nat) :=
  if h = 0xFF then some none else if h < 16 && s.lc h == 2 then some (some h) else none

/-- LEASE. -/
def execLease (r : Fin 132) (g : Guard) (b c : Fin 32) (s : State) : Out :=
  smKcs r g (encR 0xAB g 0 b.val c.val 0) (fun p s =>
    let res := (p.sreg b.val).toNat
    match s.newHolder (bits (p.sreg c.val).toNat 7 0) with
    | some h => smDo r.val (res < 2) p s (setLease res h .none)
    | none => endAt r.val 0x50 0 p s) s

/-- Record types that LOGAPP may write: those marked SM (Table 15.2, R542). -/
def smRecord (t : Nat) : Bool :=
  [0x01, 0x02, 0x20, 0x30, 0x31, 0x32, 0x33, 0x34, 0x35, 0x36, 0x41, 0x42].contains t || (0x80 ≤ t && t ≤ 0xFE)

/-- Class of a record type (R545). -/
def recordClass (t : Nat) : LogClass := if [0x01, 0x02, 0x41].contains t then .internal else .ordinary

/-- LOGAPP: its tally completes when the record is in the log; a node in SEALED-HALT writes none (R542, R543, R557). -/
def execLogapp (r : Fin 132) (g : Guard) (da t : Fin 16) (a : Fin 32) (s : State) : Out :=
  smKcs r g (encU 0xAC g da.val 0 t.val a.val 0 0 0) (fun p s => kindA r.val t.val p s (fun q s =>
    let ty := bits (q.sreg a.val).toNat 7 0
    if !smRecord ty then endAt r.val 0x50 0 q s
    else if s.log.halted then s.setProg r.val (q.issue t.val)
    else
      logSubmit (recordClass ty) false ty false 0xFF ((q.dreg da.val).flatMap (fun w => leBytes 8 w.toNat)) none
        (.tally r.val t.val 0 0) (s.setProg r.val (q.issue t.val)))) s

/-- The private key a selector of SIGN names: DeviceID, Alias, LOG. -/
def Keys.pick (k : Keys) (sel : Nat) : Nat := if sel = 0 then k.deviceId else if sel = 1 then k.alias_ else k.log

/-- SIGN: the signature of a digest goes to a pool address (Table 10.12). -/
def execSign (r : Fin 132) (g : Guard) (da t : Fin 16) (s : State) : Out :=
  smKcs r g (encU 0xAD g da.val 0 t.val 0 0 0 0) (fun p s => kindA r.val t.val p s (fun q s =>
    let d := q.dreg da.val
    match s.trust.keys with
    | none => endAt r.val 0x50 0 q s
    | some k =>
      if 2 < fld d 6 then endAt r.val 0x50 0 q s
      else
        let digest := (List.range 6).flatMap (fun i => leBytes 8 (fld d i))
        let sig := slice 0 (Config.ecdsaSign (k.pick (fld d 6)) digest s.freeCtr) 0 96
        let x := ringWrite r.val 0 (fld d 7) sig s.draw
        if x.1.held then s
        else
          let (st, dt) := x.1.bad.getD (0, 0)
          issueDone r.val t.val st dt q x.2)) s

/-- RANDOM: 64 bits from the DRBG, or a stall until it is reseeded from healthy entropy (R506, R534). -/
def execRandom (r : Fin 132) (g : Guard) (a : Fin 32) (s : State) : Out :=
  smKcs r g (encR 0xAE g a.val 0 0 0) (fun p s =>
    if s.trust.trngFail then s.setProg r.val { p with stall := .random a.val }
    else (drbgDraw (s.setProg r.val ((p.setS a.val (Config.trng s.freeCtr)).next 1))).draw) s

/-- A program that stalls in RANDOM gets its value. -/
def wakeRandom (r : Nat) (s : State) : State :=
  match s.prog r with
  | some p =>
    match p.stall with
    | .random a => (drbgDraw (s.setProg r ((p.setS a (Config.trng s.freeCtr)).next 1))).draw
    | _ => s
  | none => s

/-- DRBG_RESEED: the DRBG is reseeded from healthy entropy; stalled programs go on (R506, R534). -/
def execDrbgReseed (s : State) : Out :=
  let s := { s with trust := { s.trust with trngFail := false, drbg := 0 } }
  .next (s.each [128, 129, 130, 131] wakeRandom)

/-- TRNG_HEALTH_FAILURE: TRNG_FAIL is set and its event raised (R534). -/
def execTrngHealthFailure (s : State) : Out :=
  .next (logEvent Ev.TRNG_FAIL 0 { s with trust := { s.trust with trngFail := true } })

/-- KEY_SLOT_UE: an uncorrectable error in a CRYPTO key slot raises KEY_FAULT, and its partition is torn down or its region
withdrawn (R535). -/
def execKeySlotUe (slot : Fin 32) (s : State) : Out :=
  let s := logEvent Ev.KEY_FAULT slot.val s
  let n := slot.val % 16
  if slot.val < 16 then
    if s.lc n == 1 || s.lc n == 2 then
      .next (startTear { part := n, init := 1, record := !s.log.halted, req := none, ring := none } s)
    else .next s
  else if s.region n != 0 && !s.xlt.withdrawing.contains n then .next (startWithdraw { region := n, req := none, ring := none } s)
  else .next s

end Sys2Proof.Machine
end

