-- ==== Sys2Proof/Machine/LogCmds.lean ====
section
/-! DEFINITION. The audit log's commands: records entering the log, checkpoints, the drain, bank failures, SEALED-HALT and the log's
start (R213, R531, R539 to R562). -/

namespace Sys2Proof.Machine

/-- The log takes and writes records: it has started, a bank is left, and LOG has its clock (R142, R554). -/
def State.logRuns (s : State) : Bool := s.log.started && !s.log.halted && !s.clk.syn11Lost

/-- What follows a record once it is in the log (R530, R543). -/
def runCont (c : LogCont) (s : State) : State :=
  match c with
  | .none => s
  | .respond r => smAnswer r s
  | .tally ring t st d => tallyDone ring t st d s
  | .pageDone id st rq => pageDone id st rq s

/-- What follows a record that can no longer be written: its command is refused with reason 3, and its page ends SUPERSEDED (R531,
R557); a tally stays BUSY, since it completes only with its record in the log (R543). -/
def haltCont (c : LogCont) (s : State) : State :=
  match c with
  | .respond r => smAnswer { r with status := 0x50, detail := 3, results := [] } s
  | .pageDone id _ _ =>
    match s.pageOf id with
    | some p => pageTally p 0x10 0x01 (removePage id s)
    | none => s
  | _ => s

/-- Space has been freed, or a record is in the log: records that wait are accepted, and then reservations granted (R545, R546). -/
def logSpace (s : State) : State := grantWants (acceptWaiting s)

/-- The node enters SEALED-HALT (R531, R557). -/
def sealedHalt (waits : List LogRec) (s : State) : State :=
  let s := s.each waits (fun r t => haltCont r.cont t) |> pressSealedHalt
  nextHaltTear { s with trust := { s.trust with halted := true, haltTear := true } }

/-- Words of the banks that have not failed were corrected on the way (Table 15.7). -/
def bankCorrected (ceA ceB : Byte) (s : State) : State :=
  let s := if s.log.failA then s else s.bump F.LOG_ECC_CE_A ceA.toNat
  if s.log.failB then s else s.bump F.LOG_ECC_CE_B ceB.toNat

/-- LOG_RECORD_APPEND: the next record is written to every live bank and read back; `okA` and `okB` say whether the read-backs are
free of uncorrectable errors (R543, R546, R556, R557). -/
def execLogRecordAppend (okA okB : Bool) (ceA ceB : Byte) (s : State) : Out :=
  if !s.logRuns then .next s
  else
    let x := logAppend okA okB (bankCorrected ceA ceB s)
    match x.1 with
    | some r => .next (releaseAfterPages (logSpace (runCont r.cont x.2)))
    | none => .next (if x.2.log.halted then sealedHalt s.log.waiting x.2 else x.2)

/-- Payload of a CKPT_R or CKPT_S record (Table 15.2). -/
def ckptPayload (half : List Byte) (c : Ckpt) : List Byte := half ++ leBytes 4 c.signed ++ leBytes 4 c.k

/-- CHECKPOINT_SIGNED: the SM has signed the digest of the checkpoint with the LOG key; CKPT_R and CKPT_S are the next two records
(R544). -/
def execCheckpointSigned (s : State) : Out :=
  match s.log.ckpt, s.trust.keys with
  | some c, some k =>
    if s.log.waiting.any (fun r => r.type == 3 || r.type == 4) then .next s
    else
      let sig := Config.ecdsaSign k.log c.digest s.freeCtr
      let s := logSubmit .internal true 3 false 0xFF (ckptPayload (slice 0 sig 0 48) c) none .none s.draw
      .next (logSubmit .internal true 4 false 0xFF (ckptPayload (slice 0 sig 48 48) c) none .none s)
  | _, _ => .next s

/-- TOMBSTONE_FINAL: the page imaged at the halt has its outcome, which goes into the tombstone with its SHEET_ID, and its tally
completes with it (R558). -/
def execTombstoneFinal (s : State) : Out :=
  match s.prs.final with
  | none => .next s
  | some sp =>
    let o := sp.outcome.getD 0
    let b := spliceAt (spliceAt (spliceAt s.tombBytes 2 (leBytes 1 2)) 25 (leBytes 1 o)) 36 (leBytes 4 sp.info.sheet)
    let s := writeTomb b s
    let s := releaseReservation sp.resv (pageDone sp.page o false { s with prs := { s.prs with final := none } })
    .next (nextHaltTear (releaseAfterPages s))

/-! ### The drain -/

/-- TAIL has advanced: LOG_RECORDS is raised, or waits for the end of its gap (R552). -/
def recordsEvent (s : State) : State :=
  match s.log.lastEvent with
  | some t =>
    if t + ticksPerMs ≤ s.ticks then logEvent Ev.LOG_RECORDS 0 { s with log := { s.log with lastEvent := some s.ticks, recordsDue := false } }
    else { s with log := { s.log with recordsDue := true } }
  | none => logEvent Ev.LOG_RECORDS 0 { s with log := { s.log with lastEvent := some s.ticks, recordsDue := false } }

/-- LOG_RECORDS: the event that waited for its gap (R552). -/
def execLogRecords (s : State) : Out := .next (if s.log.recordsDue then recordsEvent s else s)

/-- A bank of two fails a read for the drain: the other goes on, or the node enters SEALED-HALT (R555 to R557). -/
def drainBankFails (bank seq : Nat) (s : State) : State :=
  if (if bank = 0 then s.log.failB else s.log.failA) then sealedHalt s.log.waiting (logHalt s) else bankFails bank 1 seq s

/-- The drain reads a record from the first bank that has not failed; a bank whose record has an uncorrectable error fails. -/
def drainRead (okA okB : Bool) (seq : Nat) (s : State) : State :=
  let s := if !s.log.failA && !okA then drainBankFails 0 seq s else s
  if !s.log.halted && s.log.failA && !s.log.failB && !okB then drainBankFails 1 seq s else s

/-- A record is due to be copied (R549). -/
def State.drainDue (s : State) : Bool :=
  s.logRuns && s.on F.LOG_DRAIN_CFG_EN && s.get F.LOG_DRAIN_TAIL_TAIL != s.log.nextSeq &&
    sub32 (s.get F.LOG_DRAIN_TAIL_TAIL) (s.get F.LOG_DRAIN_HEAD_HEAD) < 2 ^ s.get F.LOG_DRAIN_CFG_LOG2SIZE

/-- DRAIN_COPY: the next record goes to the host by DMA through PF0; `okA` and `okB` say whether the banks' reads are correctable,
`dma` whether the DMA succeeds (R549, R554 to R557). -/
def execDrainCopy (okA okB dma : Bool) (ceA ceB : Byte) (s : State) : Out :=
  let tail := s.get F.LOG_DRAIN_TAIL_TAIL
  match s.log.records.find? (fun e => e.1 == tail) with
  | none => .next s
  | some e =>
    if !s.drainDue then .next s
    else
      let s := drainRead okA okB tail (bankCorrected ceA ceB s)
      if s.log.halted then .next s
      else if !dma || !s.pwr.pcieUp then .next (s.put F.LOG_DRAIN_STATUS_DMA_FAULT 1)
      else
        let addr := s.get F.LOG_DRAIN_BASE_ADDR * 4096 + tail % 2 ^ s.get F.LOG_DRAIN_CFG_LOG2SIZE * 128
        let s := s.host (.dma addr e.2 (s.trust.grant.map (·.1)))
        .next (recordsEvent (s.put F.LOG_DRAIN_TAIL_TAIL (tail + 1)))

/-- Records below a sequence number are retired, and their slots become free (R550). -/
def retireTo (h : Nat) (s : State) : State :=
  let n := sub32 h s.log.retired
  if sub32 s.log.nextSeq s.log.retired < n then s
  else logSpace (checkNearFull { s with log := { s.log with retired := h, records := s.log.records.drop n } })

/-- A write of LOG_DRAIN_HEAD: applied when the new value lies between HEAD and TAIL; nothing is retired while EN is 0 (R550,
R551). -/
def drainHeadWrite (v : Nat) (s : State) : State :=
  let h := s.get F.LOG_DRAIN_HEAD_HEAD
  if sub32 (s.get F.LOG_DRAIN_TAIL_TAIL) h < sub32 v h then s.put F.LOG_DRAIN_STATUS_DRAIN_ERR 1
  else
    let on := s.on F.LOG_DRAIN_CFG_EN
    let s := s.put F.LOG_DRAIN_HEAD_HEAD v
    if on then retireTo v s else s

/-- LOG_DRAIN_HEAD_WRITE. -/
def execLogDrainHeadWrite (v : W32) (s : State) : Out := .next (drainHeadWrite v.toNat s)

/-- A write of LOG_DRAIN_CFG (R551, Table 15.7). -/
def drainCfgWrite (v : Nat) (s : State) : State :=
  let was := s.on F.LOG_DRAIN_CFG_EN
  let s := s.writeReg R.LOG_DRAIN_CFG v
  if !was && s.on F.LOG_DRAIN_CFG_EN then
    (s.put F.LOG_DRAIN_HEAD_HEAD s.log.retired).put F.LOG_DRAIN_TAIL_TAIL s.log.retired
  else s

/-- DRAIN_ENABLE: EN is written 1 with a LOG2SIZE. -/
def execDrainEnable (size : BitVec 5) (s : State) : Out := .next (drainCfgWrite (2 ^ 31 + size.toNat) s)

/-- DRAIN_DISABLE: EN is written 0, LOG2SIZE unchanged. -/
def execDrainDisable (s : State) : Out := .next (drainCfgWrite (s.get F.LOG_DRAIN_CFG_LOG2SIZE) s)

/-! ### Violation aggregates and the start of the log -/

/-- The increase of COUNT of a partition in the second that ends, and with it what earlier aggregates left (R213, R548). -/
def State.vioSum (s : State) (p : Nat) : Nat := satAt 4294967295 ((s.vio p).inc + Tab.get 0 s.log.carry p)

/-- VIOLATION_AGGREGATE: a Sorrel second ends in which COUNT increased; the aggregate is written, or its counts are carried into the
next (R213, R548). -/
def execViolationAggregate (s : State) : Out :=
  if (List.range 16).all (fun p => (s.vio p).inc == 0) || !s.log.started || s.log.halted then .next s
  else
    let sums := (List.range 16).map s.vioSum
    let merged := !s.log.carry.isEmpty
    let vio := s.xlt.vio.map (fun (e : Nat × VioRec) => (e.1, { e.2 with inc := 0 }))
    let t := { s with xlt := { s.xlt with vio := vio } }
    if s.logAccepts .ordinary then
      .next (logSubmit .ordinary false 0x20 merged 0xFF (sums.flatMap (leBytes 4)) none .none
        { t with log := { t.log with carry := [] } })
    else
      let carry := (List.range 16).map (fun p => (p, sums.getD p 0))
      .next { t with log := { t.log with carry := carry } }

/-- The digest of measurement 2: SHA-384 of bytes 0–111 of the running image's header (Table 14.3). -/
def State.meas2 (s : State) : List Byte :=
  match s.trust.running with
  | some i => sha384 (i.header.take 112)
  | none => []

/-- No bank passes its self-test at the start: SEALED-HALT, with the tombstone kept when it holds one (R562). -/
def startHalt (s : State) : State :=
  let keep := s.tombBytes
  let had := s.tombState != 0
  let t := logHalt { s with log := { s.log with resv := [] } }
  let t := { t with log := { t.log with started := true } }
  sealedHalt [] (if had then writeTomb keep t else t)

/-- The first records of a start (R560), the banks that fail their self-test reported behind them. -/
def startRecords (newA newB : Bool) (s : State) : State :=
  let hit := s.log.resv.filter (fun r => r.imaged && r.info.isSome)
  let s := { s with log := { s.log with resv := hit, started := true } }
  let s := s.each hit (fun r t => match r.info with
    | some i => logIssuance i 0x41 r.id .none t
    | none => t)
  let s := logSubmit .internal false 0x01 false 0xFF
    (leBytes 4 (s.get F.CKR_INCARNATION_COUNT) ++ leBytes 4 (s.reg R.CKR_RST_CAUSE).toNat ++ s.uidBytes ++ s.meas2) none .none s
  let s := if s.tombState != 0 then logSubmit .internal false 0x41 false 0xFF s.tombBytes none .none s else s
  let s := s.each ((if newA then [0] else []) ++ if newB then [1] else []) (fun b t =>
    let t := logEvent Ev.LOG_BANK_FAIL b t
    logSubmit .internal false 0x40 false 0xFF
      (leBytes 1 b ++ leBytes 1 2 ++ leBytes 2 0 ++ leBytes 4 (Config.selfTestSeq t.freeCtr).toNat) none .none t.draw)
  checkNearFull s

/-- LOG_START_RECORDS: at FW_VERIFIED the banks that pass their self-test (`okA`, `okB`) are checked (`chainA`, `chainB`: the chain of
the unretired records verifies); the chain goes on, or a new one starts at SEQ 0, and the first records are handed to the log (R559,
R560, R562). -/
def execLogStartRecords (okA okB chainA chainB : Bool) (s : State) : Out :=
  if s.log.started || s.trust.running.isNone || s.get F.CKR_START_STAGE_STAGE < 3 then .next s
  else
    let had := !s.log.chain.isEmpty
    let goesOn := had && ((okA && !s.log.failA && chainA) || (okB && !s.log.failB && chainB))
    let newA := !okA && !(had && s.log.failA)
    let newB := !okB && !(had && s.log.failB)
    let s := if goesOn then s
      else { s with log := { s.log with records := [], nextSeq := 0, retired := 0, chain := s.chainSeed, tombSeq := none, lastCkpt := 0 } }
    let s := { s with log := { s.log with failA := !okA, failB := !okB } }
    .next (if !okA && !okB then startHalt s else startRecords newA newB s)

end Sys2Proof.Machine
end

