-- ==== Sys2Proof/Machine/Steward.lean ====
section
/-! DEFINITION. Steward commands but for register accesses: sessions, reason codes, and each command's effect (R110, R193 to R198,
R212, R493, R500 to R502, R514 to R518, R530, R531, R534, R536, R561). -/

namespace Sys2Proof.Machine

/-! ### Images (R500) -/

/-- A little-endian field of a header. -/
def hfield (b : List Byte) (o n : Nat) : Nat := ofLeBytes (slice 0 b o n)

/-- The digest a header's signature covers. -/
def Image.digest (i : Image) : List Byte := sha384 (i.header.take 112)

/-- SVN of an image. -/
def Image.svn (i : Image) : Nat := hfield i.header 8 4

/-- An image meets every condition of R500. -/
def State.imageGood (s : State) (i : Image) : Bool :=
  let h := i.header
  h.length == 256 && hfield h 0 4 == 0x4649514B && hfield h 4 4 == 1 && allZero (slice 0 h 49 15) && allZero (slice 0 h 208 48) &&
    hfield h 48 1 ≤ 3 && !s.fuses.revoked.contains (hfield h 48 1) &&
    Config.imageSigOk (hfield h 48 1) i.digest (slice 0 h 112 96) &&
    s.fuses.svnMin ≤ i.svn && 1 ≤ i.svn && i.svn ≤ 64 &&
    1 ≤ i.body.length && i.body.length ≤ 8388608 && hfield h 12 4 == i.body.length && slice 0 h 64 48 == sha384 i.body

/-- The chip selects in boot order: first and second (R500, Table 02.9). -/
def State.bootOrder (s : State) : Nat × Nat := let c := s.get F.GLB_STRAP_BOOT_CS; (c, 1 - c)

/-! ### Acceptance of commands -/

/-- The session of a command exists; none is the recovery mailbox without a session. -/
def State.session (s : State) (i : Nat) : Option Session := s.trust.sessions.find? (fun x => x.id == i)

/-- A request that came through the mailbox is the one that waits there (R516). -/
def State.inMailbox (s : State) (q : StewReq) (cmd : Nat) : Bool :=
  !s.byMailbox q.sess || s.trust.mailbox.any (fun b => hfield b 0 2 == cmd && hfield b 4 4 == q.tag.toNat)

/-- A steward command of a session: refused outside a steward session (1) and in SEALED-HALT (3) where it is not one of those that
go on; otherwise its own checks, each refusal with STATUS and DETAIL, or its effect (R514, R516, R531, Table 14.9). -/
def steward (q : StewReq) (cmd : Nat) (haltOk : Bool) (body : State → Except (Nat × Nat) State) (s : State) : Out :=
  if s.trust.running.isNone || !s.inMailbox q cmd then .next s
  else
    match q.sess with
    | none => .next (answer q cmd 0x50 1 [] s)
    | some i =>
      match s.session i with
      | none => .next s
      | some x =>
        let claim := cmd == 1 && s.trust.owner.isNone
        if !(if claim then x.mutualAuth else x.steward) then .next (answer q cmd 0x50 1 [] s)
        else if s.trust.halted && !haltOk then .next (answer q cmd 0x50 3 [] s)
        else
          match body s with
          | .ok t => .next t
          | .error e => .next (answer q cmd e.1 e.2 [] s)

/-- A command ends MALFORMED with a reason. -/
def malformed {α : Type} (reason : Nat) : Except (Nat × Nat) α := .error (0x50, reason)

/-- A command that writes a record starts once the log accepts the record; until then the SM holds it unstarted (R546, R548). -/
def logged (run : State → State) (s : State) : Except (Nat × Nat) State :=
  if !s.log.started then .ok s
  else if s.logAccepts .ordinary then .ok (run s)
  else .ok (logWaits s)

/-- A command answers OK with results. -/
def okNow (q : StewReq) (cmd : Nat) (results : List Byte) (s : State) : Except (Nat × Nat) State := .ok (answer q cmd 0 0 results s)

/-! ### Owner record (R513, R515, R536) -/

/-- Bytes 16 to 447 of an owner record: the fields that measurement 6 covers. -/
def OwnerRec.fields (o : OwnerRec) : List Byte := leBytes 48 o.anchor ++ (slice 0 o.roots 0 8).flatMap (leBytes 48)

/-- The digest of measurement 6; SHA-384 of zero bytes while the node is unclaimed (Table 14.3). -/
def ownerDigest (o : Option OwnerRec) : List Byte :=
  match o with
  | some r => sha384 r.fields
  | none => sha384 []

/-- The owner record in force at a start: the valid copy with the higher SEQ (R490, R513). -/
def State.flashOwner (s : State) : Option OwnerRec :=
  match s.trust.ownerA, s.trust.ownerB with
  | some a, some b => if seqAfter b.seq a.seq then some b else some a
  | some a, none => some a
  | none, b => b

/-- A new owner record is in force, and its record follows (R530, Table 15.2). -/
def takeOwner (o : OwnerRec) (cont : LogCont) (s : State) : State :=
  logOrdinary 0x34 0xFF (ownerDigest (some o) ++ leBytes 4 o.seq) cont { s with trust := { s.trust with owner := some o } }

/-- OWNER_CLAIM: on an unclaimed node both copies are written with SEQ 1; `ok` says whether each write, retried once, reads back
right (R515, R536). -/
def execOwnerClaim (q : StewReq) (anchor : BitVec 384) (roots : List (BitVec 384)) (ok : Bool) (s : State) : Out :=
  if roots.length ≠ 8 then .refused .illFormed
  else steward q 0x01 false (fun s =>
    let o : OwnerRec := { seq := 1, anchor := anchor.toNat, roots := roots.map (·.toNat) }
    if s.trust.owner.isSome then malformed 7
    else if s.on F.GLB_STRAP_TEST_MODE then malformed 4
    else if !ok then malformed 8
    else logged (fun s => takeOwner o (okCont (some q) 0x01) { s with trust := { s.trust with ownerA := some o, ownerB := some o } }) s) s

/-- OWNER_SET: a record with SEQ incremented goes to the copy that is not in use (R515, R536). -/
def execOwnerSet (q : StewReq) (anchor : BitVec 384) (roots : List (BitVec 384)) (ok : Bool) (s : State) : Out :=
  if roots.length ≠ 8 then .refused .illFormed
  else steward q 0x02 false (fun s =>
    match s.trust.owner with
    | none => malformed 7
    | some old =>
      if !ok then malformed 8
      else
        let o : OwnerRec := { seq := wrap32 (old.seq + 1), anchor := anchor.toNat, roots := roots.map (·.toNat) }
        let useA := s.trust.ownerA == some old
        logged (fun s =>
          takeOwner o (okCont (some q) 0x02)
            { s with trust := { s.trust with ownerA := if useA then s.trust.ownerA else some o,
                                             ownerB := if useA then some o else s.trust.ownerB } }) s) s

/-! ### Partitions and granules -/

/-- PART_FORM (R515, R534, Table 14.13); it waits while the boundary register has the pads (Table 21.7). -/
def execPartForm (q : StewReq) (p : Byte) (s : State) : Out :=
  steward q 0x10 false (fun s =>
    if 16 ≤ p.toNat then malformed 6
    else if s.on F.GLB_STRAP_TEST_MODE then malformed 4
    else if s.trust.trngFail then malformed 5
    else if s.lc p.toNat ≠ 0 then malformed 2
    else if s.tst.pads.isSome then .ok s
    else logged (formPart p.toNat 0 (okCont (some q) 0x10)) s) s

/-- PART_SEAL: the partition needs at least one OWNED granule. -/
def execPartSeal (q : StewReq) (p : Byte) (s : State) : Out :=
  steward q 0x11 false (fun s =>
    if 16 ≤ p.toNat then malformed 6
    else if s.lc p.toNat ≠ 1 || (s.ownedBy? p.toNat).isEmpty then malformed 2
    else logged (sealPart p.toNat 0 (okCont (some q) 0x11)) s) s

/-- PART_RESET. -/
def execPartReset (q : StewReq) (p : Byte) (s : State) : Out :=
  steward q 0x12 false (fun s =>
    if 16 ≤ p.toNat then malformed 6
    else if s.lc p.toNat = 1 ∨ s.lc p.toNat = 2 then okNow q 0x12 [] (partitionReset p.toNat s)
    else malformed 2) s

/-- PART_TEAR: the response follows VOID (R224). -/
def execPartTear (q : StewReq) (p : Byte) (s : State) : Out :=
  steward q 0x13 false (fun s =>
    if 16 ≤ p.toNat then malformed 6
    else if s.lc p.toNat = 1 ∨ s.lc p.toNat = 2 then
      logged (startTear { part := p.toNat, init := 0, record := true, req := some q, ring := none }) s
    else malformed 2) s

/-- A run of granules lies within the installed ones. -/
def State.runOk (s : State) (first count : Nat) : Bool := 1 ≤ count && first + count ≤ s.installed

/-- Every granule of a run has a state. -/
def State.runIs (s : State) (first count : Nat) (x : GState) : Bool := (List.range count).all (fun i => s.gran (first + i) == x)

/-- GRAN_ASSIGN, all or nothing (R192). -/
def execGranAssign (q : StewReq) (p : Byte) (first count : BitVec 16) (s : State) : Out :=
  steward q 0x14 false (fun s =>
    if 16 ≤ p.toNat || !s.runOk first.toNat count.toNat then malformed 6
    else if (s.lc p.toNat = 1 ∨ s.lc p.toNat = 2) ∧ s.runIs first.toNat count.toNat .free then
      logged (assignGranules p.toNat first.toNat count.toNat (okCont (some q) 0x14)) s
    else malformed 2) s

/-- GRAN_RELEASE, all or nothing: every granule is OWNED by one partition; the response follows FREE (R192, R193). -/
def execGranRelease (q : StewReq) (first count : BitVec 16) (s : State) : Out :=
  steward q 0x15 false (fun s =>
    if !s.runOk first.toNat count.toNat then malformed 6
    else
      match s.gran first.toNat with
      | .owned p =>
        if s.runIs first.toNat count.toNat (.owned p) then
          logged (startRelease { part := p, first := first.toNat, count := count.toNat,
                                 left := (List.range count.toNat).map (fun i => first.toNat + i), req := some q, ring := none }) s
        else malformed 2
      | _ => malformed 2) s

/-! ### Regions and leases -/

/-- REGION_CREATE (R194, R534). -/
def execRegionCreate (q : StewReq) (n : Byte) (s : State) : Out :=
  steward q 0x20 false (fun s =>
    if 16 ≤ n.toNat then malformed 6
    else if s.trust.trngFail then malformed 5
    else if s.region n.toNat ≠ 0 then malformed 2
    else logged (createRegion n.toNat (okCont (some q) 0x20)) s) s

/-- REGION_ADD, all or nothing (R192). -/
def execRegionAdd (q : StewReq) (n : Byte) (first count : BitVec 16) (s : State) : Out :=
  steward q 0x21 false (fun s =>
    if 16 ≤ n.toNat || !s.runOk first.toNat count.toNat then malformed 6
    else if s.region n.toNat = 1 ∧ s.runIs first.toNat count.toNat .free then
      logged (addRegion n.toNat first.toNat count.toNat (okCont (some q) 0x21)) s
    else malformed 2) s

/-- Data goes into the granules of a region, which follow each other in ascending number; a store that does not complete ends
it. -/
def loadRegion (gs : List Nat) : Nat → Nat → List Byte → State → MemRes × State
  | 0, _, _, s => (.ok [], s)
  | k + 1, off, data, s =>
    if data.isEmpty then (.ok [], s)
    else
      let n := min data.length (2 ^ 30 - off % 2 ^ 30)
      let x := ringWrite 128 0 (gs.getD (off / 2 ^ 30) 0 * 2 ^ 30 + off % 2 ^ 30) (data.take n) s
      if x.1.held then (.held, x.2)
      else if x.1.bad.isSome then (.unavailable, x.2)
      else loadRegion gs k (off + n) (data.drop n) x.2

/-- REGION_LOAD: data from the host under the granted stream, or from an admitted peer's VA and CID, goes into a LOADING region;
`data` is what the source gave, none when a read of it failed (R195, R516, Table 14.8). -/
def execRegionLoad (q : StewReq) (n : Byte) (off len : W64) (host : Bool) (data : Option (List Byte)) (s : State) : Out :=
  if data.any (fun d => d.length != len.toNat) then .refused .illFormed
  else steward q 0x22 false (fun s0 =>
    let gs := s0.granulesWhere (fun x => x == .shared n.toNat)
    if 16 ≤ n.toNat then malformed 6
    else if s0.region n.toNat ≠ 1 then malformed 2
    else if len = 0 || gs.length * 2 ^ 30 < off.toNat + len.toNat then malformed 6
    else if host && s0.trust.grant.isNone then malformed 2
    else
      match data with
      | none => malformed 2
      | some d =>
        if !s0.log.started || !s0.logAccepts .ordinary then logged id s0
        else
          match loadRegion gs (gs.length + 1) off.toNat d s0 with
          | (.held, _) => .ok s0
          | (.ok _, s) => .ok (logRegion n.toNat 2 0 (gs.headD 0) gs.length off.toNat len.toNat (okCont (some q) 0x22) s)
          | (_, s) => .ok (answer q 0x22 0x50 2 [] s)) s

/-- REGION_PUBLISH (R196). -/
def execRegionPublish (q : StewReq) (n : Byte) (readers : BitVec 16) (s : State) : Out :=
  steward q 0x23 false (fun s =>
    if 16 ≤ n.toNat then malformed 6
    else if s.region n.toNat ≠ 1 then malformed 2
    else logged (setReaders n.toNat readers.toNat 3 (okCont (some q) 0x23)) s) s

/-- REGION_READERS (R198). -/
def execRegionReaders (q : StewReq) (n : Byte) (readers : BitVec 16) (s : State) : Out :=
  steward q 0x24 false (fun s =>
    if 16 ≤ n.toNat then malformed 6
    else if s.region n.toNat ≠ 2 then malformed 2
    else logged (setReaders n.toNat readers.toNat 4 (okCont (some q) 0x24)) s) s

/-- REGION_WITHDRAW: the response follows NONE (R197). -/
def execRegionWithdraw (q : StewReq) (n : Byte) (s : State) : Out :=
  steward q 0x25 false (fun s =>
    if 16 ≤ n.toNat then malformed 6
    else if s.region n.toNat ≠ 2 || s.xlt.withdrawing.contains n.toNat then malformed 2
    else logged (startWithdraw { region := n.toNat, req := some q, ring := none }) s) s

/-- STEWARD_LEASE: LEASE of a resource, 0 press or 1 proof, to a SEALED partition or to none (0xFF). -/
def execStewardLease (q : StewReq) (res holder : Byte) (s : State) : Out :=
  steward q 0x30 false (fun s =>
    if 2 ≤ res.toNat || (16 ≤ holder.toNat && holder.toNat != 0xFF) then malformed 6
    else
      match s.newHolder holder.toNat with
      | some h => logged (setLease res.toNat h (okCont (some q) 0x30)) s
      | none => malformed 2) s

/-! ### Hidden records -/

/-- The 32 bytes of a violation record (Table 06.5). -/
def VioRec.bytes (v : VioRec) : List Byte :=
  leBytes 4 v.count ++ leBytes 4 v.drains ++ leBytes 8 v.time ++ leBytes 8 (v.va + v.kind * 2 ^ 52 + v.op * 2 ^ 56) ++
    leBytes 2 v.cid ++ leBytes 2 v.source ++ leBytes 4 0

/-- VIOL_READ (R212). -/
def execViolRead (q : StewReq) (p : Byte) (s : State) : Out :=
  steward q 0x40 true (fun s => if 16 ≤ p.toNat then malformed 6 else okNow q 0x40 (s.vio p.toNat).bytes s) s

/-- VIOL_CLEAR: the record is zeroed; what the running second has counted still goes into its aggregate (R212, R213). -/
def execViolClear (q : StewReq) (p : Byte) (s : State) : Out :=
  steward q 0x41 false (fun s =>
    if 16 ≤ p.toNat then malformed 6
    else
      let v := { VioRec.init with inc := (s.vio p.toNat).inc }
      okNow q 0x41 [] { s with xlt := { s.xlt with vio := Tab.set s.xlt.vio p.toNat v } }) s

/-- The 32 bytes of a repair entry (Table 13.4). -/
def RepairEntry.bytes (e : RepairEntry) : List Byte :=
  leBytes 1 e.type ++ leBytes 1 e.flags ++ leBytes 2 0 ++ leBytes 4 e.serial ++ leBytes 8 e.loc ++ leBytes 8 e.time ++ leBytes 8 0

/-- The entries the steward sees: the record and the pending area, without those it has deleted (R493). -/
def State.repairEntries (s : State) : List RepairEntry :=
  (s.rpr.record ++ s.rpr.pending).filter (fun e => !s.rpr.deleted.any (·.same e))

/-- REPAIR_READ: up to 64 entries from a first one. -/
def execRepairRead (q : StewReq) (first : W32) (s : State) : Out :=
  steward q 0x50 true (fun s => okNow q 0x50 (((s.repairEntries.drop first.toNat).take 64).flatMap (·.bytes)) s) s

/-- REPAIR_DELETE: the entry goes with the next write of the record, and its repair ends at the next start (R493). -/
def execRepairDelete (q : StewReq) (type : Byte) (loc : W64) (s : State) : Out :=
  steward q 0x51 false (fun s =>
    match s.repairEntries.find? (fun e => e.type == type.toNat && e.loc == loc.toNat) with
    | none => malformed 2
    | some e => okNow q 0x51 [] { s with rpr := { s.rpr with deleted := s.rpr.deleted ++ [e] } }) s

/-! ### Grants, firmware, tombstone and resets -/

/-- MMIO_GRANT: an IDE stream, or 0xFFFF to revoke (R517). -/
def execMmioGrant (q : StewReq) (stream : BitVec 16) (s : State) : Out :=
  steward q 0x62 false (fun s =>
    if stream.toNat = 0xFFFF then okNow q 0x62 [] { s with trust := { s.trust with grant := none } }
    else if 256 ≤ stream.toNat then malformed 6
    else okNow q 0x62 [] { s with trust := { s.trust with grant := some (stream.toNat, q.sess.getD 0) } }) s

/-- A firmware command: a steward command, or in the recovery of BOOT_FAIL one that any requester may send without a session
(R105, R502). -/
def firmware (q : StewReq) (cmd : Nat) (body : State → Except (Nat × Nat) State) (s : State) : Out :=
  if s.get F.CKR_START_STAGE_STAGE = 0xE0 then
    if q.sess.isSome || !s.inMailbox q cmd then .next s
    else
      match body s with
      | .ok t => .next t
      | .error e => .next (answer q cmd e.1 e.2 [] s)
  else steward q cmd false body s

/-- Largest image: its header and body. -/
def maxImage : Nat := 256 + 8388608

/-- FW_STAGE: a chunk goes into the staging buffer (R502). -/
def execFwStage (q : StewReq) (off : W32) (data : List Byte) (s : State) : Out :=
  firmware q 0x70 (fun s =>
    if maxImage < off.toNat + data.length then malformed 6
    else
      let b := slice 0 s.trust.staged 0 (max s.trust.staged.length off.toNat)
      okNow q 0x70 [] { s with trust := { s.trust with staged := spliceAt b off.toNat data } }) s

/-- The staged image, for a chip select whose board record stays. -/
def State.stagedImage (s : State) (board : List Byte) : Image :=
  let h := s.trust.staged.take 256
  { header := h, body := (s.trust.staged.drop 256).take (hfield h 12 4), board := board }

/-- A chip select takes the staged image. -/
def writeFlash (cs : Nat) (s : State) : State :=
  let old := Tab.get ({ header := [], body := [], board := [] } : Image) s.trust.flash cs
  { s with trust := { s.trust with flash := Tab.set s.trust.flash cs (s.stagedImage old.board) } }

/-- FW_COMMIT: the staged image is verified and goes to the second chip select in boot order and then to the first; `second` and
`first` say whether each write reads back and verifies. A step that fails leaves its chip select as it was. In the recovery of
BOOT_FAIL there is no log to write the record to (R105, R502, R530). -/
def execFwCommit (q : StewReq) (second first : Bool) (s : State) : Out :=
  firmware q 0x71 (fun s =>
    let img := s.stagedImage []
    let (a, b) := s.bootOrder
    if !s.imageGood img then malformed 2
    else if !second then malformed 8
    else if s.trust.running.isSome && !(s.log.started && s.logAccepts .ordinary) then logged id s
    else if !first then .ok (answer q 0x71 0x50 8 [] (writeFlash b s))
    else
      let s := writeFlash a (writeFlash b s)
      if s.trust.running.isNone then okNow q 0x71 [] s
      else .ok (logOrdinary 0x35 0xFF (img.digest ++ leBytes 4 img.svn) (okCont (some q) 0x71) s)) s

/-- FW_COMMIT_SVN: SVN_MIN rises to the SVN of the running image (R501). -/
def execFwCommitSvn (q : StewReq) (s : State) : Out :=
  steward q 0x72 false (fun s =>
    let svn := (s.trust.running.map Image.svn).getD 0
    let m := max s.fuses.svnMin svn
    logged (fun s => logOrdinary 0x36 0xFF (leBytes 1 m) (okCont (some q) 0x72) { s with fuses := { s.fuses with svnMin := m } }) s) s

/-- TOMBSTONE_READ. -/
def execTombstoneRead (q : StewReq) (s : State) : Out := steward q 0x80 true (fun s => okNow q 0x80 s.tombBytes s) s

/-- TOMBSTONE_CLEAR: only after the TOMBSTONE record has been retired (R561). -/
def execTombstoneClear (q : StewReq) (s : State) : Out :=
  steward q 0x81 false (fun s =>
    match s.log.tombSeq with
    | none => malformed 2
    | some n =>
      if s.tombState = 0 || !seqAfter s.log.retired n then malformed 2
      else logged (fun s =>
        let inc := slice 0 s.tombBytes 4 4
        let s := writeTomb [] { s with log := { s.log with tombSeq := none } }
        logOrdinary 0x42 0xFF inc (okCont (some q) 0x81) s) s) s

/-- NODE_RESET: an order as a write of CKR_NODE_RST; `lost` says that a same-cycle order of the SM supersedes it (R110, R527). -/
def execNodeReset (q : StewReq) (code : BitVec 16) (lost : Bool) (s : State) : Out :=
  steward q 0x90 true (fun s =>
    if code.toNat ≠ 0x5752 ∧ code.toNat ≠ 0x4D52 then malformed 6
    else if lost then .error (0x10, 8)
    else
      let s := answer q 0x90 0 0 [] s
      .ok (if code.toNat = 0x5752 then acceptReset .warm F.CKR_RST_CAUSE_WARM_REQ s
        else acceptReset .memoryRetaining F.CKR_RST_CAUSE_MRW_REQ s)) s

end Sys2Proof.Machine
end

