-- ==== Sys2Proof/Machine/Sessions.lean ====
section
/-! DEFINITION. The SMB mailbox, SPDM sessions and measurements, TDISP, IDE streams and peer admission (R66, R505, R509 to R512, R514,
R516, R517, R519 to R525, R538). -/

namespace Sys2Proof.Machine

/-! ### The mailbox (Table 14.14) -/

/-- The commands of Table 14.8. -/
def stewardCmds : List Nat :=
  [0x01, 0x02, 0x10, 0x11, 0x12, 0x13, 0x14, 0x15, 0x20, 0x21, 0x22, 0x23, 0x24, 0x25, 0x30, 0x40, 0x41, 0x50, 0x51, 0x60, 0x61, 0x62,
    0x70, 0x71, 0x72, 0x80, 0x81, 0x90]

/-- The first bytes of SMB_BUF. -/
def State.smbBuf (s : State) (n : Nat) : List Byte := slice 0 ((List.range ((n + 3) / 4)).flatMap (fun i => leBytes 4 (s.get (F.SMB_BUF_DATA i)))) 0 n

/-- SMB_CTRL.GO: REQ_LEN bytes of SMB_BUF are submitted, unless a request is in progress; `sess` is the session they came in. A request
without a header, or with an undefined CMD, is answered with reason 6 (R516, R538). -/
def smbGo (sess : Option Nat) (s : State) : State :=
  if s.on F.SMB_STATUS_BUSY then s
  else
    let b := s.smbBuf (s.get F.SMB_REQ_LEN_LEN)
    let s := { s.put F.SMB_STATUS_BUSY 1 with trust := { s.trust with mailbox := some b } }
    if s.trust.running.isSome && (b.length < 8 || hfield b 2 2 != 0 || !stewardCmds.contains (hfield b 0 2)) then
      answer ⟨sess.filter (fun i => s.byMailbox (some i)), BitVec.ofNat 32 (hfield b 4 4)⟩ (hfield b 0 2) 0x50 6 [] s
    else s

/-- SMB_CTRL.ABORT: the request in progress is discarded. -/
def smbAbort (s : State) : State := { s.put F.SMB_STATUS_BUSY 0 with trust := { s.trust with mailbox := none } }

/-- SMB_GO. -/
def execSmbGo (sess : Option Nat) (s : State) : Out := .next (smbGo sess s)

/-- SMB_ABORT. -/
def execSmbAbort (s : State) : Out := .next (smbAbort s)

/-! ### Measurements -/

/-- GLB_ID (Table 01.7). -/
def State.glbId (s : State) : Nat := 0x5647 * 65536 + (if s.fuses.part = .kqn1600 then 0x4B16 else 0x4B17)

/-- GLB_REV (Table 01.8). -/
def State.glbRev (s : State) : Nat := b2n s.fuses.extended * 256 + 0xB1

/-- GLB_FEATURE (Table 01.9). -/
def State.glbFeature (s : State) : Nat := 0x10061800 + (if s.fuses.part = .kqn1600 then 15 else 0)

/-- The node state flags of Table 14.4. -/
def State.flags (s : State) : Nat :=
  s.get F.GLB_STRAP_TEST_MODE + 2 * b2n (s.log.started && s.log.failA != s.log.failB) + 4 * b2n s.trust.halted +
    8 * s.get F.RPR_STATUS_AUTH_FAIL + 16 * b2n s.trust.owner.isNone + 32 * b2n (s.campState == campDuplicate) + 64 * b2n s.trust.trngFail

/-- The measurement blocks of Table 14.3. -/
def State.measurements (s : State) : List (Nat × List Byte) :=
  [(1, Config.romHash), (2, s.meas2), (3, sha384 ((s.trust.running.map (·.board)).getD [])),
   (4, leBytes 4 s.glbId ++ leBytes 4 s.glbRev ++ leBytes 4 s.glbFeature ++
      leBytes 4 (s.fuses.svnMin + s.fuses.revoked.foldl (fun m k => m + 2 ^ (8 + k)) 0)),
   (5, s.uidBytes ++ leBytes 4 s.incarnation ++ leBytes 4 s.flags),
   (6, ownerDigest s.trust.owner), (7, leBytes 4 (s.get F.SMB_LIFECYCLE_LC))]

/-- What the SM sends to a session. -/
def smSend (sess : Option Nat) (o : SmOut) (s : State) : State := { s with trust := { s.trust with out := s.trust.out ++ [(sess, o)] } }

/-- GET_MEASUREMENTS: the blocks go to the requester, in a session or outside one (R509, Table 14.5). -/
def execGetMeasurements (sess : Option Nat) (s : State) : Out :=
  if s.trust.running.isSome then .next (smSend sess (.measurements s.measurements) s) else .next s

/-! ### Sessions -/

/-- SPDM_FRAGMENT: a Yarrow MGMT packet of SUBTYPE 2 (R511, R512). -/
def execSpdmFragment (k : Fin 6) (p : Packet) (s : State) : Out := pktCmd (p.opc == 8 && p.w1 % 256 == 2) k.val p 0 0 s

/-- The transport of a session can carry it: PCIe while its link is up, Yarrow while the link is up and the node is no DUPLICATE
(R305). -/
def State.carriesSession (s : State) (transport link : Nat) : Bool :=
  if transport < 2 then s.pwr.pcieUp
  else if transport = 3 then s.linkUp link && s.campState != campDuplicate
  else true

/-- SPDM_SESSION_ESTABLISHED: a session completes, at most 32 of them; `root` is the digest of the root key of the requester's chain and
`digests` are those of every key in the peer's slot-0 chain. A mutually authenticated one under the steward's anchor is a steward session
(R514, R515, R524, R525, Table 14.5). -/
def execSpdmSessionEstablished (id : W32) (transport : Fin 5) (link : Fin 6) (mutualAuth : Bool) (root : BitVec 384)
    (digests : List (BitVec 384)) (s : State) : Out :=
  if s.trust.running.isNone || 32 ≤ s.trust.sessions.length || (s.session id.toNat).isSome ||
      !s.carriesSession transport.val link.val then .next s
  else
    let x : Session := { id := id.toNat, transport := transport.val, mutualAuth := mutualAuth, root := root.toNat,
                         steward := mutualAuth && s.trust.owner.any (fun o => o.anchor == root.toNat), link := link.val }
    let s := { s with trust := { s.trust with sessions := s.trust.sessions ++ [x] } }
    if transport.val = 3 then
      .next { s with fab := { s.fab with digests := Tab.set s.fab.digests link.val (digests.map (·.toNat)) } }
    else .next s

/-- SPDM_SESSION_END: the session ends or misses its heartbeat; a Yarrow session takes its link down, and the grant of a steward
session ends with it (R517, R524). -/
def execSpdmSessionEnd (id : W32) (s : State) : Out :=
  match s.session id.toNat with
  | none => .next s
  | some x =>
    let s := endSessions (fun y => y.id == x.id) s
    .next (if x.transport = 3 then endLinkSession x.link s else s)

/-! ### TDISP (R519 to R522) -/

/-- A TDISP message comes in a secured session on PF0's DOE, and is answered. -/
def tdisp (sess : W32) (body : State → Bool × State) (s : State) : Out :=
  match s.session sess.toNat with
  | none => .next s
  | some x =>
    if x.transport ≠ 0 then .next s
    else
      let (ok, t) := body s
      .next (smSend (some x.id) (.answer ok) t)

/-- LOCK_INTERFACE: an UNLOCKED TDI of a SEALED partition is CONFIG_LOCKED. -/
def execLockInterface (sess : W32) (p : Fin 16) (s : State) : Out :=
  tdisp sess (fun s => if s.lc p.val = 2 ∧ s.tdi p.val = 0 then (true, s.setTdi p.val 1) else (false, s)) s

/-- START_INTERFACE: a CONFIG_LOCKED TDI of a SEALED partition goes to RUN, and the partition is live. -/
def execStartInterface (sess : W32) (p : Fin 16) (s : State) : Out :=
  tdisp sess (fun s => if s.lc p.val = 2 ∧ s.tdi p.val = 1 then (true, s.setTdi p.val 2) else (false, s)) s

/-- STOP_INTERFACE: the TDI is CONFIG_UNLOCKED; one that leaves RUN causes a partition reset. -/
def execStopInterface (sess : W32) (p : Fin 16) (s : State) : Out :=
  tdisp sess (fun s =>
    if s.lc p.val ≠ 2 then (false, s)
    else if s.tdi p.val = 2 then (true, partitionReset p.val s)
    else (true, s.setTdi p.val 0)) s

/-- PW_TRUST (Table 14.15). -/
def State.pwTrust (s : State) (p : Nat) : Nat :=
  s.lc p * 2 ^ 30 + s.tdi p * 2 ^ 28 + b2n (s.leases.press == some p) * 2 ^ 27 + b2n (s.leases.proof == some p) * 2 ^ 26

/-- The digest of a partition's admission table: 48 DIGEST bytes and EN for each entry (R521). -/
def State.admitTable (s : State) (p : Nat) : List Byte :=
  (List.range 16).flatMap (fun i => leBytes 48 (s.admitDigest p i) ++ leBytes 1 (s.get (F.PW_ADMIT_W6_EN p i)))

/-- GET_DEVICE_INTERFACE_REPORT (R521). -/
def execGetDeviceInterfaceReport (sess : W32) (p : Fin 16) (s : State) : Out :=
  match s.session sess.toNat with
  | none => .next s
  | some x =>
    if x.transport ≠ 0 then .next s
    else if s.lc p.val ≠ 2 then .next (smSend (some x.id) (.answer false) s)
    else
      let gs := s.ownedBy? p.val
      .next (smSend (some x.id)
        (.report p.val (s.pwTrust p.val) gs.length (sha384 (gs.flatMap (leBytes 2))) (sha384 (s.admitTable p.val))) s)

/-- IDE_INTEGRITY_FAILURE: a TDI in RUN goes to ERROR; that causes a partition reset, which leaves it CONFIG_UNLOCKED (R522). -/
def execIdeIntegrityFailure (p : Fin 16) (s : State) : Out :=
  if s.tdi p.val = 2 then .next (partitionReset p.val (s.setTdi p.val 3)) else .next s

/-! ### IDE streams and admission -/

/-- IDE streams end, and with its stream the grant (R517). -/
def endStreams (f : IdeStream → Bool) (s : State) : State :=
  let gone := (s.trust.streams.filter f).map (·.id)
  { s with trust := { s.trust with streams := s.trust.streams.filter (fun x => !f x),
                                   grant := s.trust.grant.filter (fun g => !gone.contains g.1) } }

/-- IDE_KM: in a secured session on PF0's DOE a selective stream is keyed (0), started (1) or stopped (2), at most 32 of them (R523). -/
def execIdeKm (sess : W32) (op : Fin 3) (stream : Byte) (s : State) : Out :=
  tdisp sess (fun s =>
    let has := s.trust.streams.any (fun x => x.id == stream.toNat)
    if op = 0 then
      if has then (true, s)
      else if 32 ≤ s.trust.streams.length then (false, s)
      else (true, { s with trust := { s.trust with streams := s.trust.streams ++ [⟨stream.toNat, false⟩] } })
    else if op = 1 then
      (has, { s with trust := { s.trust with streams := s.trust.streams.map (fun x => if x.id = stream.toNat then ⟨x.id, true⟩ else x) } })
    else (has, endStreams (fun x => x.id == stream.toNat) s)) s

/-- Key of a word of an admission entry. -/
def admitKey (p i j : Nat) : Nat := winKey p (0xE000 + 64 * i + 8 * j)

/-- A write of word j of an admission entry: the digest words take nothing while EN is 1 (Table 14.15). -/
def admitWrite (p i j v : Nat) (s : State) : State :=
  if j = 6 then s.put (F.PW_ADMIT_W6_EN p i) (v % 2)
  else if s.on (F.PW_ADMIT_W6_EN p i) then s
  else s.setReg (admitKey p i j) (BitVec.ofNat 64 v)

/-- PW_ADMIT_WRITE: through the partition's window while it takes accesses (R520, R525). -/
def execPwAdmitWrite (p i : Fin 16) (j : Fin 7) (v : W64) (s : State) : Out :=
  if s.window p.val then .next (admitWrite p.val i.val j.val v.toNat s) else .next s

end Sys2Proof.Machine
end

