-- ==== Sys2Proof/Machine/Mgmt.lean ====
section
/-! DEFINITION. The host side and the sideband: PCIe link and functions, MSI-X, event queues, I3C and MCTP, power and temperature (R66,
R69, R357, R704, R705, R708, R711 to R724, R727, R728, R732, R777). -/

namespace Sys2Proof.Machine

/-! ### Event queues -/

/-- A write of EVT_Q_CFG: enabling the queue starts it anew (R713, R727). -/
def evtCfgWrite (v : Nat) (s : State) : State :=
  let was := s.on F.EVT_Q_CFG_EN
  let s := s.writeReg R.EVT_Q_CFG v
  if !was && s.on F.EVT_Q_CFG_EN then
    let s := (s.put F.EVT_Q_HEAD_HEAD 0).put F.EVT_Q_TAIL_TAIL 0
    { s with evt := { s.evt with seq := 0, stopped := false, overflow := false } }
  else s

/-- A write of PW_EVT_Q_CFG. -/
def partEvtCfgWrite (p v : Nat) (s : State) : State :=
  let was := s.on (F.PW_EVT_Q_CFG_EN p)
  let s := s.writeReg (R.PW_EVT_Q_CFG p) v
  if !was && s.on (F.PW_EVT_Q_CFG_EN p) then
    emptyEvents p ((s.put (F.PW_EVT_Q_HEAD_HEAD p) 0).put (F.PW_EVT_Q_TAIL_TAIL p) 0)
  else s

/-- A write of an event queue's HEAD: applied within TAIL − HEAD, HEAD_ERR otherwise (R713). -/
def queueHead (head tail err : Fld) (v : Nat) (s : State) : State :=
  let h := s.get head
  if sub32 v h ≤ sub32 (s.get tail) h then s.put head v else s.put err 1

/-- A write of EVT_Q_HEAD. -/
def evtHeadWrite (v : Nat) (s : State) : State := queueHead F.EVT_Q_HEAD_HEAD F.EVT_Q_TAIL_TAIL F.EVT_Q_STATUS_HEAD_ERR v s

/-- A write of PW_EVT_Q_HEAD. -/
def partEvtHeadWrite (p v : Nat) (s : State) : State :=
  queueHead (F.PW_EVT_Q_HEAD_HEAD p) (F.PW_EVT_Q_TAIL_TAIL p) (F.PW_EVT_Q_STATUS_HEAD_ERR p) v s

/-- EVT_Q_ENABLE: EN is written 1, for the steward queue or through a partition's window. -/
def execEvtQEnable (part : Option (Fin 16)) (size : BitVec 5) (ctx : BitVec 12) (s : State) : Out :=
  match part with
  | none => .next (evtCfgWrite (2 ^ 31 + size.toNat) s)
  | some p =>
    if s.window p.val then .next (partEvtCfgWrite p.val (2 ^ 31 + ctx.toNat * 65536 + size.toNat) s) else .next s

/-- EVT_Q_HEAD_WRITE. -/
def execEvtQHeadWrite (part : Option (Fin 16)) (v : W32) (s : State) : Out :=
  match part with
  | none => .next (evtHeadWrite v.toNat s)
  | some p => if s.window p.val then .next (partEvtHeadWrite p.val v.toNat s) else .next s

/-! ### MSI-X -/

/-- Vectors of a function. -/
def vectors (fn : Nat) : Nat := if fn = 0 then 64 else 12

/-- A pending vector that is masked no longer sends its one message (R708). -/
def flushVector (fn vec : Nat) (s : State) : State :=
  if bit (s.get (msixPba fn)) vec && !s.vecMasked fn vec && s.fnPresent fn && s.evt.msixEn.contains fn then
    (s.put (msixPba fn) (s.get (msixPba fn) - 2 ^ vec)).host (.msix fn vec)
  else s

/-- Every vector of every function. -/
def flushVectors (s : State) : State := s.each (List.range 17) (fun fn t => t.each (List.range (vectors fn)) (fun v u => flushVector fn v u))

/-- A write of a word of a function's MSI-X table: a vector whose mask bit is cleared may send its message (R708). -/
def msixWrite (fn word v : Nat) (s : State) : State :=
  let key := if fn = 0 then R.HIF_MSIX word else R.PW_MSIX (fn - 1) word
  flushVector fn (word / 4) (s.setReg key (BitVec.ofNat 64 v))

/-- MSIX_UNMASK: the mask bit of a vector is written 0; a VF's table lies in its partition's window. -/
def execMsixUnmask (fn : Fin 17) (vec : Fin 64) (s : State) : Out :=
  if vectors fn.val ≤ vec.val then .refused .illFormed
  else if fn.val ≠ 0 ∧ !s.window (fn.val - 1) then .next s
  else .next (msixWrite fn.val (4 * vec.val + 3) ((s.reg (msixCtl fn.val vec.val)).toNat / 2 * 2) s)

/-! ### The PCIe link and function resets -/

/-- A function's MSI-X state takes its reset values: Enable and Function Mask, and for PF0 the table and the pending bits (R705). -/
def resetFunction (fn : Nat) (s : State) : State :=
  let lo := if fn = 0 then R.HIF_MSIX 0 else R.PW_MSIX (fn - 1) 0
  let hi := (if fn = 0 then R.HIF_PBA else R.PW_PBA (fn - 1)) + 8
  let s := loadRange lo hi s
  { s with evt := { s.evt with msixEn := NSet.del s.evt.msixEn fn, msixMask := NSet.del s.evt.msixMask fn } }

/-- PF0's configuration space takes its reset values: with NumVFs zero no VF is present (R704, R705). -/
def resetPf0 (s : State) : State :=
  let s := resetFunction 0 s
  { s with evt := { s.evt with numVfs := 0, vfMse := false }, trust := { s.trust with grant := none } }

/-- PCIE_PERST_N_ASSERT: only the endpoint logic resets: its functions, its MSI-X state and its IDE streams (R66, Table 14.2). -/
def execPciePerstNAssert (s : State) : Out :=
  let s := endStreams (fun _ => true) (resetPf0 (s.each (List.range 17) resetFunction))
  .next { s with pwr := { s.pwr with perstLow := true, pcieUp := false } }

/-- PCIE_LINK_UP: the link is up at a width and speed, and the host has configured the functions: NumVFs, VF Memory Space Enable, MSI-X
Enable and Function Mask. Functions are configured from stage ISLANDS on, and PF0 in BOOT_FAIL (R105, R357, R704, R777, Table 03.4). -/
def execPcieLinkUp (width : BitVec 6) (speed : BitVec 4) (numVfs : Fin 17) (vfMse : Bool) (enabled masked : List (Fin 17)) (s : State) : Out :=
  if s.isHeld then .next s
  else
    let st := s.get F.CKR_START_STAGE_STAGE
    let s := (s.put F.HIF_LINK_WIDTH width.toNat).put F.HIF_LINK_SPEED speed.toNat
    let s := { s with pwr := { s.pwr with pcieUp := true, perstLow := false } }
    if st < 5 then .next s
    else
      let vfs := if st = 0xE0 then 0 else numVfs.val
      let ok := fun (l : List (Fin 17)) => (l.map (·.val)).foldl NSet.ins ([] : NSet)
      let s := { s with evt := { s.evt with numVfs := vfs, vfMse := vfMse, msixEn := ok enabled, msixMask := ok masked } }
      .next (flushVectors s)

/-- PCIE_LINK_DOWN: what needs the link waits (R357). -/
def execPcieLinkDown (s : State) : Out := .next { s with pwr := { s.pwr with pcieUp := false } }

/-- VF_FLR: a partition reset of the partition its VF serves (R705, R732). -/
def execVfFlr (p : Fin 16) (s : State) : Out :=
  if s.evt.numVfs ≤ p.val || s.lc p.val = 0 then .next s else .next (partitionReset p.val s)

/-- PF0_FLR (R517, R705). -/
def execPf0Flr (s : State) : Out := .next (resetPf0 s)

/-! ### Sideband -/

/-- The static address of the I3C target (R52). -/
def State.i3cStatic (s : State) : Nat := 0x58 + s.get F.GLB_STRAP_I3C_ADDR

/-- I3C_CCC: dynamic address assignment, in-band interrupts, and queries, whose answers change nothing (R716). -/
def execI3cCcc (c : I3cCcc) (s : State) : Out :=
  let addr := fun (a : Option Nat) (s : State) => { s with evt := { s.evt with i3cAddr := a } }
  match c with
  | .rstdaa => .next (addr none s)
  | .setdasa st dyn => .next (if s.evt.i3cAddr.isNone && st.toNat == s.i3cStatic then addr (some dyn.toNat) s else s)
  | .setaasa => .next (if s.evt.i3cAddr.isNone then addr (some s.i3cStatic) s else s)
  | .entdaa dyn => .next (if s.evt.i3cAddr.isNone then addr (some dyn.toNat) s else s)
  | .enec on => .next (if on then { s with evt := { s.evt with i3cIbiEn := true } } else s)
  | .disec on => .next (if on then { s with evt := { s.evt with i3cIbiEn := false } } else s)
  | .getpid | .getbcr | .getdcr | .getmwl | .getmrl => .next s

/-- A response leaves on an MCTP transport. -/
def mctpSend (transport type : Nat) (b : List Byte) (s : State) : State :=
  { s with evt := { s.evt with mctpOut := s.evt.mctpOut ++ [(transport, type, b)] } }

/-- The body of a TELEMETRY response (Table 20.6). -/
def State.telemetry (s : State) : List Byte :=
  leBytes 1 0 ++ leBytes 2 (s.get (F.PWR_TEMP_TEMP 15)) ++
    leBytes 1 (s.get F.PWR_THERM_STATUS_THROTTLING + 2 * s.get F.PWR_THERM_STATUS_PROCHOT_IN + 4 * s.get F.PWR_THERM_STATUS_WARN +
      8 * b2n s.evt.alertLow + 16 * b2n (!s.pwr.faultN.isEmpty)) ++
    leBytes 2 (s.get F.PWR_POWER_POWER) ++ leBytes 2 (s.get F.PWR_AVS_STATUS_VCORE_MV) ++
    leBytes 4 (s.reg R.CKR_START_STAGE).toNat ++ leBytes 4 s.incarnation ++ leBytes 4 s.glbId ++
    leBytes 4 (s.reg R.CKR_RST_CAUSE).toNat ++ leBytes 1 s.evt.alertSrc ++ List.replicate 7 0

/-- TELEMETRY: the response is sent, and alerts from now on count as new (R718, R719). -/
def telemetry (transport : Nat) (s : State) : State :=
  let s := mctpSend transport 0x7E s.telemetry s
  { s with evt := { s.evt with alertNew := false } }

/-- ALERT_ACK: SMB_ALERT_N is released unless an alert has occurred since the last TELEMETRY response (R719). -/
def alertAck (transport : Nat) (s : State) : State :=
  let s := if s.evt.alertNew then s else { s with evt := { s.evt with alertLow := false } }
  mctpSend transport 0x7E (leBytes 1 0) s

/-- The transports: MCTP over I3C, over I²C, and over PCIe VDM, which needs its link (R717). -/
def onTransport (t : Fin 3) (f : State → State) (s : State) : Out := if t = 2 ∧ !s.pwr.pcieUp then .next s else .next (f s)

/-- TELEMETRY. -/
def execTelemetry (t : Fin 3) (s : State) : Out := onTransport t (telemetry t.val) s

/-- ALERT_ACK. -/
def execAlertAck (t : Fin 3) (s : State) : Out := onTransport t (alertAck t.val) s

/-- MCTP_MESSAGE: control messages set the EID, SPDM and secured messages go to the SM, vendor commands are answered, those that Table
20.6 does not list with completion code 1 (R717, R718). -/
def execMctpMessage (t : Fin 3) (m : MctpMsg) (s : State) : Out :=
  onTransport t (fun s =>
    match m with
    | .setEid e => { s with evt := { s.evt with eid := Tab.set s.evt.eid t.val e.toNat } }
    | .control => s
    | .spdm b => { s with trust := { s.trust with msgs := s.trust.msgs ++ [(8 + t.val, 1, b)] } }
    | .secured b => { s with trust := { s.trust with msgs := s.trust.msgs ++ [(8 + t.val, 2, b)] } }
    | .vendor v c =>
      if v.toNat ≠ 0x1FC7 then s
      else if c.toNat = 1 then telemetry t.val s
      else if c.toNat = 2 then alertAck t.val s
      else mctpSend t.val 0x7E (leBytes 1 1) s
    | .other _ => s) s

/-! ### Power and temperature -/

/-- AVS_CURRENT_READ: the current in units of 0.1 A and the power it makes at the acknowledged voltage (R720). -/
def execAvsCurrentRead (current : BitVec 16) (s : State) : Out :=
  if !s.on F.PWR_AVS_STATUS_SM_OWNED then .next s
  else
    let mv := s.get F.PWR_AVS_STATUS_VCORE_MV
    let x := current.toNat * mv
    let up := x % 1000 != 0 && Config.powerUp current.toNat mv
    .next ((s.put F.PWR_POWER_CURRENT current.toNat).put F.PWR_POWER_POWER (satAt 65535 (x / 1000 + b2n up)))

/-- PWR_TEMP_15 as a temperature in units of 0.125 °C; none while no sensor is valid. -/
def State.peakTemp (s : State) : Option Int := if s.on (F.PWR_TEMP_VALID 15) then some (toSigned 12 (s.get (F.PWR_TEMP_TEMP 15))) else none

/-- The sensor of the highest valid reading, the lowest number among equals; 0xF with none. -/
def State.hottest (s : State) : Nat :=
  ((List.range 15).find? (fun i => s.on (F.PWR_TEMP_VALID i) && s.on (F.PWR_TEMP_VALID 15) &&
    s.get (F.PWR_TEMP_TEMP i) == s.get (F.PWR_TEMP_TEMP 15))).getD 0xF

/-- Throttling starts, or ends when both of its conditions have cleared; each is reported (R723, R728). -/
def evalThrottle (s : State) : State :=
  let hot := s.peakTemp.all (fun t => decide ((8 * s.get F.PWR_THERM_CFG_THROTTLE_C : Int) ≤ t))
  let cool := s.peakTemp.any (fun t => decide (t < 8 * ((s.get F.PWR_THERM_CFG_THROTTLE_C : Int) - 5)))
  let was := s.on F.PWR_THERM_STATUS_THROTTLING
  let now := if was then !(cool && !s.pwr.prochotLow) else hot || s.pwr.prochotOn
  if was = now then s
  else
    let s := s.putB F.PWR_THERM_STATUS_THROTTLING now
    raiseNode ⟨Ev.THERMAL_THROTTLE, s.hottest, (Config.throttleArg (s.reg (R.PWR_TEMP 15)).toNat (b2n now)).toNat, 0, 0⟩ s

/-- WARN is set at WARN_C, with SMB_ALERT_N at its entry, and clears 2 °C below; with no valid sensor THERMAL_WARN is raised once (R719,
R722, R728). -/
def evalWarn (hadValid : Bool) (s : State) : State :=
  let warn := fun (s : State) => raiseNode ⟨Ev.THERMAL_WARN, s.hottest, (s.reg (R.PWR_TEMP 15)).toNat, 0, 0⟩ s
  match s.peakTemp with
  | none => if hadValid then warn s else s
  | some t =>
    let w : Int := 8 * s.get F.PWR_THERM_CFG_WARN_C
    if s.on F.PWR_THERM_STATUS_WARN then (if t < w - 16 then s.put F.PWR_THERM_STATUS_WARN 0 else s)
    else if w ≤ t then raiseAlert Ev.THERMAL_WARN (warn (s.put F.PWR_THERM_STATUS_WARN 1))
    else s

/-- The readings of the 15 sensors; one that fails its self-check is not valid. -/
def takeReadings (rs : List (Option (BitVec 12))) (s : State) : State :=
  let s := s.each ((List.range 15).zip rs) (fun x t =>
    match x.2 with
    | some v => (t.put (F.PWR_TEMP_VALID x.1) 1).put (F.PWR_TEMP_TEMP x.1) v.toNat
    | none => t.put (F.PWR_TEMP_VALID x.1) 0)
  let good := rs.filterMap (fun r => r.map (fun v => toSigned 12 v.toNat))
  match good with
  | [] => s.put (F.PWR_TEMP_VALID 15) 0
  | t :: ts =>
    let m := ts.foldl max t
    let s := (s.put (F.PWR_TEMP_VALID 15) 1).put (F.PWR_TEMP_TEMP 15) (ofSigned 12 m)
    s.put F.PWR_THERM_STATUS_PEAK (ofSigned 12 (max m (toSigned 12 (s.get F.PWR_THERM_STATUS_PEAK))))

/-- SENSOR_UPDATE: the sensors are read, WARN and throttling evaluated, and a reading above 115 °C trips (R69, R721 to R724, R728). -/
def execSensorUpdate (rs : List (Option (BitVec 12))) (s : State) : Out :=
  if rs.length ≠ 15 then .refused .illFormed
  else if s.isHeld then .next s
  else
    let hadValid := s.on (F.PWR_TEMP_VALID 15) || s.get F.PWR_THERM_STATUS_THROTTLING == 0
    let s := evalThrottle (evalWarn hadValid (takeReadings rs s))
    .next (if rs.any (fun r => r.any (fun v => decide (920 < toSigned 12 v.toNat))) then thermalTrip s else s)

/-- PROCHOT_N_CHANGE: the level of PROCHOT_N, and whether it has been low for 10 µs; PROCHOT is raised at each transition (R723). -/
def execProchotNChange (low held : Bool) (s : State) : Out :=
  let s :=
    if low = s.pwr.prochotLow then s
    else
      let s := { s.putB F.PWR_THERM_STATUS_PROCHOT_IN low with pwr := { s.pwr with prochotLow := low } }
      raiseNode ⟨Ev.PROCHOT, 0, b2n low, 0, 0⟩ s
  .next (evalThrottle { s with pwr := { s.pwr with prochotOn := low && (held || s.pwr.prochotOn) } })

end Sys2Proof.Machine
end

