-- ==== Sys2Proof/Machine/Test.lean ====
section
/-! DEFINITION. The test island: the TAP and pad control, and test jobs (R733 to R754, Tables 21.1 to 21.8). -/

namespace Sys2Proof.Machine

/-! ### The TAP -/

/-- A pad-control instruction (Table 21.1). -/
def padControl (op : Nat) : Bool := 3 ≤ op && op ≤ 7

/-- An instruction of the wrappers and scan chains, which only test mode accepts. -/
def testOnly (op : Nat) : Bool := op == 0x10 || op == 0x11 || op == 0x12

/-- BYPASS. -/
abbrev tapBypass : Nat := 0xFF

/-- The instruction register holds an instruction. -/
def setIr (op : Nat) (s : State) : State := { s with tst := { s.tst with ir := op } }

/-- TAP_PAD_CONTROL: 1 on entry, 0 on exit. -/
def padEvent (op enter : Nat) (s : State) : State := raiseNode ⟨Ev.TAP_PAD_CONTROL, 0, op, enter, 0⟩ s

/-- The DisplayPort link has lost its partner: it trains and authenticates anew. -/
def dpLost (s : State) : State :=
  if s.hasPress then (s.put F.DSP_STATUS_TRAINED 0).put F.DSP_STATUS_ADMITTED 0 else s

/-- The boundary register takes the pads: the press outputs are at their safe levels first, the DIMMs in self-refresh, and every
fabric, PCIe and DisplayPort link loses its partner (R737). -/
def enterPads (op : Nat) (s : State) : State :=
  let s := (aonSafe s).put F.PRS_STATUS_STATE engOff
  let s := s.put F.PRS_STATUS_HALT_CAUSE 0
  let s := { s with tst := { s.tst with pads := some op } }
  let s := s.each [0, 1, 2, 3] (fun q t => if t.quadMode q = .running ∨ t.quadMode q = .recentring then quadSelfRefresh q t else t)
  let s := s.each (List.range 6) (fun k t => if t.leadOf k = some k ∧ t.linkUp k then linkDown k [.partnerLoss] t else t)
  let s := { s with pwr := { s.pwr with pcieUp := false } }
  padEvent op 1 (dpLost s)

/-- The pads return to the islands, and the quadrants leave self-refresh and re-centre; the press stays OFF (R737). -/
def leavePads (s : State) : State :=
  match s.tst.pads with
  | none => s
  | some op =>
    let s := { s with tst := { s.tst with pads := none }, prs := { s.prs with aonSafe := s.clk.syn11Lost } }
    padEvent op 0 (s.each [0, 1, 2, 3] (fun q t => if t.synState (4 + q) = synLocked then quadRelock q t else t))

/-- No partition is FORMING, SEALED or DRAINING (R735). -/
def State.allVoid (s : State) : Bool := (List.range 16).all (fun p => s.lc p == 0)

/-- TAP_INSTRUCTION: an instruction is applied, or refused as BYPASS; an opcode that Table 21.1 does not list is BYPASS. `forming` says
that a PART_FORM is issued in the same AON cycle (R734, R735, R737, Table 21.7). -/
def execTapInstruction (op : Byte) (forming : Bool) (s : State) : Out :=
  let o := op.toNat
  let refused := (padControl o && (!s.allVoid || forming)) || (testOnly o && !s.on F.GLB_STRAP_TEST_MODE)
  if refused then .next (raiseNode ⟨Ev.TAP_BLOCKED, 0, o, 0, 0⟩ (leavePads (setIr tapBypass s)))
  else if padControl o then
    let s := setIr o s
    .next (if s.tst.pads.isSome then { s with tst := { s.tst with pads := some o } } else enterPads o s)
  else .next (leavePads (setIr (if o = 1 ∨ o = 2 ∨ testOnly o then o else tapBypass) s))

/-- PAD_CONTROL_EXIT: the pad-control instruction in force is left for another instruction (R737). -/
def execPadControlExit (op : Byte) (s : State) : Out :=
  if s.tst.pads.isNone || padControl op.toNat then .next s else execTapInstruction op false s

/-- The TAP holds IDCODE and every wrapper WS_BYPASS; the pads return (R737, R753). -/
def tapReset (s : State) : State := leavePads { s with tst := { s.tst with ir := 1, wir := [] } }

/-- TRST_N_ASSERT (R753). -/
def execTrstNAssert (s : State) : Out := .next (tapReset s)

/-- TEST_LOGIC_RESET: the TAP's reset also aborts any job (R753). -/
def execTestLogicReset (s : State) : Out := .next (tapReset (endTest resAborted s))

/-! ### Starting a job -/

/-- Kinds that a pattern serves (Table 21.5). -/
def patternKinds (p : Nat) : List Nat :=
  match p with
  | 0 => [1, 2, 4, 5]
  | 1 => [1, 2]
  | 2 => [1, 2]
  | 3 => [1, 2]
  | 4 => [3, 5]
  | 5 => [1, 2, 3, 4, 5]
  | 6 => [1, 2, 4, 5]
  | 7 => [4]
  | 8 => [4]
  | _ => []

/-- Loop modes of a kind (Table 21.3). -/
def kindLoops (k : Nat) : List Nat := if k ≤ 2 then [0, 1, 2] else if k ≤ 4 then [0] else if k = 5 then [1] else [0, 1, 2, 3]

/-- The instance a job names exists (Table 21.3). -/
def State.jobInstance (s : State) (j : TestJob) : Bool :=
  match j.kind with
  | 1 => j.inst / 16 < 6 && j.inst % 16 < 9
  | 2 => j.inst < 6
  | 3 => j.inst < 24
  | 4 => j.inst == 0 && s.hasPress
  | 5 => j.inst < 256 && s.hasPress
  | 6 => (arrayShape j.array).any (fun a => j.inst < a.1)
  | 7 => j.inst / 16 < 4 && j.inst % 16 < 13
  | _ => j.inst / 32 < 4 && j.inst % 32 < 18

/-- The precondition of a job (Table 21.3). -/
def State.jobAllowed (s : State) (j : TestJob) : Bool :=
  match j.kind with
  | 1 => !bit (s.get (F.FP_STATUS_LANES (j.inst / 16))) (j.inst % 16) || !s.on (F.FP_CTL_EN (j.inst / 16))
  | 2 => !s.on (F.FP_CTL_EN j.inst)
  | 3 => s.get (F.MC_STATUS_STATE j.inst) == 4 && Tab.get 0 s.pool.retrain j.inst == 0
  | 4 => !s.on F.DSP_CTL_EN
  | 5 => s.eng == engOff && !s.pressIn.erdy
  | 6 =>
    if j.array = 1 then s.blockOut (j.inst / 384) (j.inst % 384)
    else if j.array = 2 then (s.logicalOf .stipple (j.inst / 18) (j.inst % 18)).isNone
    else j.array == 6 && !s.on (F.FP_CTL_EN j.inst)
  | 7 => (s.logicalOf .hatch (j.inst / 16) (j.inst % 16)).isNone
  | _ => (s.logicalOf .stipple (j.inst / 32) (j.inst % 32)).isNone

/-- The job that TST_JOB_CFG describes. -/
def State.jobCfg (s : State) : TestJob :=
  { kind := s.get F.TST_JOB_CFG_KIND, pattern := s.get F.TST_JOB_CFG_PATTERN, loop := s.get F.TST_JOB_CFG_LOOP,
    inst := s.get F.TST_JOB_CFG_INSTANCE, array := s.get F.TST_JOB_CFG_ARRAY, duration := s.get F.TST_JOB_CFG_DURATION,
    thrSent := false }

/-- The REASON with which a job is refused, if it is: the kind and loop, pattern and instance first, then the precondition, which test
mode does not ask for (R741, R742). The manual assigns no code to an undefined kind or loop mode, nor says which failed
preconditions are "target in use". -/
def State.jobReason (s : State) (j : TestJob) : Option Nat :=
  if j.kind = 0 ∨ 8 < j.kind ∨ !(kindLoops j.kind).contains j.loop then some (Config.testReason j.kind j.loop % 16)
  else if j.kind ≤ 5 ∧ !(patternKinds j.pattern).contains j.kind then some 4
  else if !s.jobInstance j then some 5
  else if s.on F.GLB_STRAP_TEST_MODE || s.jobAllowed j then none
  else some (if Config.testInUse j.kind then 2 else 3)

/-- What a job does to its target when it starts (R744, R745). -/
def jobTarget (j : TestJob) (s : State) : State :=
  if j.kind = 3 then { s with tst := { s.tst with wiped := true } }
  else if j.kind = 5 then { s with press := { s.press with laserEn := false } }
  else s

/-- A start command: one that comes while a job runs is refused and reported, and leaves the running job's status; one whose job fails a
check ends REFUSED at once (R741, Table 21.7). -/
def jobStart (s : State) : State :=
  let j := s.jobCfg
  if s.tst.job.isSome then testDone j.inst resRefused 1 s
  else
    match s.jobReason j with
    | some r =>
      let s := ((s.put F.TST_JOB_STATUS_STATE 2).put F.TST_JOB_STATUS_RESULT resRefused).put F.TST_JOB_STATUS_REASON r
      testDone j.inst resRefused r s
    | none =>
      let s := (((s.put F.TST_JOB_STATUS_STATE 1).put F.TST_JOB_STATUS_RESULT 0).put F.TST_JOB_STATUS_REASON 0).put F.TST_JOB_STATUS_LOCKED 0
      let s := (s.put F.TST_JOB_BITS_COUNT 0).put F.TST_JOB_ERRS_COUNT 0
      jobTarget j { s with tst := { s.tst with job := some j } }

/-- An abort command (R746). -/
def jobAbort (s : State) : State := endTest resAborted s

/-- A write of TST_JOB_CMD (Table 21.8). -/
def jobCmd (key : Nat) (s : State) : State :=
  if key = 0x5445 then jobStart s else if key = 0x4142 then jobAbort s else s

/-- TST_JOB_START. -/
def execTstJobStart (s : State) : Out := .next (jobStart s)

/-- TST_JOB_ABORT. -/
def execTstJobAbort (s : State) : Out := .next (jobAbort s)

/-! ### Running and ending -/

/-- Bits of LOCKED that a job's checkers have; a far-end loop has none (R743, R746). -/
def State.jobCheckers (s : State) (j : TestJob) : Nat :=
  if j.loop = 2 then 0
  else
    match j.kind with
    | 1 => 2 ^ (j.inst % 16)
    | 2 => 511
    | 3 => 1
    | 4 => 2 ^ dspLanes (s.get F.DSP_CTL_LANES) - 1
    | 5 => j.inst % 256
    | _ => 0

/-- What the checkers have counted: they count only after they have locked (R746). -/
def jobCounts (j : TestJob) (locked bitsN errs : Nat) (s : State) : State :=
  let l := locked &&& s.jobCheckers j
  let s := s.put F.TST_JOB_STATUS_LOCKED l
  if l = 0 then s else (s.put F.TST_JOB_BITS_COUNT bitsN).put F.TST_JOB_ERRS_COUNT errs

/-- TST_ERR_THR is raised once per job when the errors reach the threshold (R749). -/
def jobThreshold (s : State) : State :=
  match s.tst.job with
  | none => s
  | some j =>
    let thr := s.get F.TST_ERR_THR_THR
    let errs := s.get F.TST_JOB_ERRS_COUNT
    if j.thrSent || errs < thr then s
    else
      raiseNode ⟨Ev.TST_ERR_THR, j.inst, thr, wrap32 errs, s.get F.TST_JOB_BITS_COUNT⟩
        { s with tst := { s.tst with job := some { j with thrSent := true } } }

/-- TST_ERR_THR_REACHED: the checkers have counted so many bits and errors (R749). -/
def execTstErrThrReached (locked : BitVec 9) (bitsN errs : W64) (s : State) : Out :=
  match s.tst.job with
  | none => .next s
  | some j => if 5 < j.kind then .next s else .next (jobThreshold (jobCounts j locked.toNat bitsN.toNat errs.toNat s))

/-- TST_JOB_END: DURATION has passed, or the target of the job has failed, and the job reports its RESULT (R746, R752). -/
def execTstJobEnd (locked : BitVec 9) (bitsN errs : W64) (targetFailed : Bool) (s : State) : Out :=
  match s.tst.job with
  | none => .next s
  | some j =>
    if 5 < j.kind then .next s
    else
      let s := jobThreshold (jobCounts j locked.toNat bitsN.toNat errs.toNat s)
      let all := s.get F.TST_JOB_STATUS_LOCKED == s.jobCheckers j
      let pass := !targetFailed && all && s.get F.TST_JOB_ERRS_COUNT == 0
      .next (endTest (if pass then resPass else resFail) s)

/-- A failing row of an array takes a spare row, or the array is unrepairable (R481, R747, Table 13.1). -/
def testRow (x : SramRow) (s : State) : State :=
  let key := arrayKey x.code x.inst
  let used := Tab.get 0 s.rpr.spareRows key
  let spares := match arrayShape x.code with | some (_, _, n, _) => n | none => 0
  if used < spares then
    let s := { s with rpr := { s.rpr with spareRows := Tab.set s.rpr.spareRows key (used + 1) } }
    sramEvent Ev.SRAM_ROW_REPAIRED x (repairAdd 3 0 0 (locSramRow x) (s.bump F.RPR_ROWS_REPAIRED 1))
  else arrayDead x s

/-- SELF_TEST_JOB_DONE: a self-test of an array, an engine or a core ends; failing rows, among those the array has, are repaired, and
a failing unit is retired (R746 to R748). -/
def execSelfTestJobDone (rows : List (BitVec 16)) (pass : Bool) (s : State) : Out :=
  match s.tst.job with
  | none => .next s
  | some j =>
    if j.kind = 6 then
      let bad := rows.filter (fun r => (arrayShape j.array).any (fun a => r.toNat < a.2.1))
      let s := s.each bad (fun r t => testRow ⟨j.array, j.inst, r.toNat⟩ t)
      .next (endTest (if bad.isEmpty then resPass else resFail) s)
    else if j.kind = 7 ∨ j.kind = 8 then
      let s := if pass then s
        else if j.kind = 7 then retireUnit .hatch (j.inst / 16) (j.inst % 16) 0 s
        else retireUnit .stipple (j.inst / 32) (j.inst % 32) 0 s
      .next (endTest (if pass then resPass else resFail) s)
    else .next s

end Sys2Proof.Machine
end

