-- ==== Sys2Proof/Machine/Island.lean ====
section
/-! DEFINITION. Island resets: CKR_ISL_RST (R25, R84, R87, R88, R274, R602, R633, R644, R669, R701, R751, R753, Table 03.6). -/

namespace Sys2Proof.Machine

/-- Registers of an island's domain take their reset values. -/
def loadIsland (n : Nat) (s : State) : State := s.loadDomains (fun d => d == .isl n)

/-- A streaming-mode page on a sheet in the path whose bands are not all rendered: RASTER feeds it. -/
def State.fedByRaster (s : State) (p : SheetPage) : Bool :=
  p.outcome.isNone && !p.blank && p.imaging != 2 &&
    match s.pageOf p.page with
    | some q => q.stream.isSome && (List.range ((q.h + 63) / 64)).any (fun k => !s.prs.bandsDone.contains (q.id * 65536 + k))
    | none => false

/-- A reset of RASTER: every job ends UNIT_FAULT, streaming pages it feeds are spoiled, and the threshold cells are reloaded (Table 03.6,
R602). -/
def resetRaster (s : State) : State :=
  let jobs := (List.range 8).flatMap (fun n => s.rasQueue n)
  let s := s.each jobs (fun j t => tallyDone j.ring j.t 0x30 20 t)
  let s := s.each s.path (fun sh t =>
    match sh.pages.find? s.fedByRaster with
    | some p => spoilSheet sh.id p.info t
    | none => t)
  loadIsland 20 { s with ras := RasState.init }

/-- A reset of DISPLAY: no pending commit, no shown frame and no seal of theirs; the link trains and authenticates again. Commits that
DISPLAY has not yet acknowledged still reach it (Table 03.6, R602). -/
def resetDisplay (s : State) : State :=
  let s := s.each (s.dsp.frame.toList ++ s.dsp.shown.toList) releaseCommit
  let s := { s with dsp := { DispState.init with hand := s.dsp.hand, hpd := s.dsp.hpd, aux := s.dsp.aux } }
  loadIsland 21 (dpLost s)

/-- A reset of PVID: the laser blanks for the rest of the page, whose sheet is spoiled; the line buffer is discarded and lock lost
(Table 03.6, R669). -/
def resetPvid (s : State) : State :=
  let s := spoilImaged (lockLost (beamsOff s))
  let s := s.put F.DRY_STATUS_HUNTING 0
  loadIsland 22 { s with dry := DryState.init }

/-- A reset of PCTL: outputs safe, every page in the path INTERRUPTED, the queue empty and its seals released, Tansy's slots and
captures gone (Table 03.6, R633, R644, R701). -/
def resetPctl (s : State) : State :=
  let s := { s with press := { PressPins.safe with driven := s.press.driven } }
  let s := lockLost (beamsOff s)
  let s := dropPages (fun _ => true) (interruptPath s)
  let s := s.each (s.tns.cap.toList ++ s.tns.capWait) (fun c t => tallyDone c.ring c.t 0x30 23 t)
  let s := (((s.put F.PRS_STATUS_STATE engOff).put F.PRS_STATUS_HALT_CAUSE 0).put F.PRS_STATUS_OT_TRIP 0).put F.TNS_STATUS_ADC_FAULT 0
  let s := s.put F.DRY_STATUS_HUNTING 0
  let p := s.prs
  loadIsland 23 { s with tns := TnsState.init,
                         prs := { PrsState.init with queue := p.queue, nextPage := p.nextPage, sheets := p.sheets, lastSheet := p.lastSheet,
                                                     coverAt := p.coverAt, bandsDone := p.bandsDone, bandNext := p.bandNext,
                                                     aonSafe := p.aonSafe, final := p.final, releasing := p.releasing } }

/-- A reset of TEST: any job is aborted, the TAP and the wrappers are reset, and the pads return (Table 21.7, R753). -/
def resetTest (s : State) : State := loadIsland 24 (tapReset (endTest resAborted s))

/-- An island that Table 03.6 lists is reset; a reset of any other, and of the press islands on KQN-1610, has no effect (R87, R88). -/
def islandReset (n : Nat) (s : State) : State :=
  if 14 ≤ n ∧ n ≤ 19 then groupReset (n - 14) .lrst s
  else if n = 24 then resetTest s
  else if !s.hasPress then s
  else if n = 20 then resetRaster s
  else if n = 21 then resetDisplay s
  else if n = 22 then resetPvid s
  else if n = 23 then resetPctl s
  else s

/-- A write of CKR_ISL_RST: the islands of its bits are reset, lowest first. -/
def islRstWrite (v : Nat) (s : State) : State := s.each ((List.range 25).filter (fun n => bit v n)) islandReset

/-- ISLAND_RESET: 1 is written to bit n of CKR_ISL_RST. -/
def execIslandReset (n : Fin 25) (s : State) : Out := .next (islandReset n.val s)

end Sys2Proof.Machine
end

