-- ==== Sys2Proof/Machine/MemCmds.lean ====
section
/-! DEFINITION. The memory commands: line requests, lazy clean and scrub, device retirement, row repair, channel faults
and memory start (R151 to R188). -/

namespace Sys2Proof.Machine

/-- A line that a request can name. -/
def State.lineExists (s : State) (line : Nat) : Bool := line < s.usable * 16777216

/-- LINE_READ. -/
def execLineRead (line : Nat) (errs : List (Nat × List (Nat × Nat))) (l2bad : List Nat) (s : State) : Out :=
  if s.lineExists line then .next (lineRequest line .read (addL2Ue l2bad (addErrors errs s))) else .fault .noSuchAddress

/-- LINE_WRITE. -/
def execLineWrite (line : Nat) (data : List Byte) (s : State) : Out :=
  if data.length ≠ 64 then .refused .illFormed
  else if s.lineExists line then .next (lineRequest line (.write data) s) else .fault .noSuchAddress

/-- PARTIAL_LINE_WRITE. -/
def execPartialLineWrite (line : Nat) (mask : W64) (data : List Byte) (s : State) : Out :=
  if data.length ≠ 64 then .refused .illFormed
  else if s.lineExists line then .next (lineRequest line (.part mask.toNat data) s) else .fault .noSuchAddress

/-- LAZY_CLEAN_VISIT: the next granule in ascending order, wrapping; never a RESERVED one (R169). -/
def execLazyCleanVisit (s : State) : Out :=
  if s.usable = 0 || !s.on F.CKR_START_STAGE_MEM_READY then .next s
  else
    let g := if s.pool.cleanPos < s.usable then s.pool.cleanPos else 0
    let s := { s with pool := { s.pool with cleanPos := (g + 1) % s.usable } }
    if s.pool.l2.contains g || s.pool.l1c.contains g || s.pool.l2ue.contains g then .next s else .next (cleanL1 g s)

/-- A line the scrubber reads: its L0, L1 and L2 bits are all set (R170). -/
def State.scrubable (s : State) (line : Nat) : Bool :=
  s.pool.l2.contains (line / 16777216) && s.pool.l1.contains (line / 1024)

/-- The end of a scrub pass: PASSES counts it and LATE says whether it took longer than PERIOD (Table 05.11). -/
def endPass (s : State) : State :=
  let late := s.get F.MEMG_SCRUB_PERIOD * 3600000 * ticksPerMs < s.ticks - s.pool.scrubFrom
  let s := (s.incr F.MEMG_SCRUB_STATUS_PASSES 1).putB F.MEMG_SCRUB_STATUS_LATE late
  { s with pool := { s.pool with scrubPos := 0, scrubFrom := s.ticks } }

/-- PATROL_SCRUB_READ: the next valid line, or the end of the pass when none is left; a held or unavailable line
pauses the scrubber (R170, R171, Table 04.7). -/
def execPatrolScrubRead (errs : List (Nat × List (Nat × Nat))) (s : State) : Out :=
  if !s.on F.MEMG_SCRUB_EN then .next s
  else
    let s := addErrors errs s
    match s.pool.l0.find? (fun x => s.pool.scrubPos ≤ x && s.scrubable x) with
    | none => .next (endPass s)
    | some line =>
      match s.avail line with
      | .serve =>
        let (_, s) := readServed line s
        .next { s with pool := { s.pool with scrubPos := line + 1 } }
      | _ => .next s

/-- The effect of a write to MC_n_CMD (Table 05.14). -/
def mcCmdWrite (ch : Nat) (v : W32) (s : State) : State :=
  let e := bits v.toNat 10 8
  let d := bits v.toNat 3 0
  if bits v.toNat 31 16 = 0x5254 ∧ d < 10 ∧ (s.retiredDev ch e).isNone then
    retireDevice { ch := ch, sub := e / 4, slot := e / 2 % 2, cs := e % 2, cid := 0, bg := 0, ba := 0, row := 0, col := 0 } d s
  else s

/-- MC_CMD_RETIRE. -/
def execMcCmdRetire (ch : Fin 24) (v : W32) (s : State) : Out := .next (mcCmdWrite ch.val v s)

/-- SOFT_PPR_DONE: the lines of the row are written back, the held requests released, MEM_PPR_DONE raised and a
DRAM_ROW entry appended (R181, R484). A line that decodes is written back corrected, an uncorrectable one verbatim. -/
def softPprDone (r : RowRepair) (s : State) : State :=
  let keep := fun (e : Nat × List SymErr) =>
    if r.covers (s.placeLine e.1) then
      match rsDecode (s.erasedOf (s.placeLine e.1)) e.2 with
      | some fix => (e.1, errAdd e.2 fix)
      | none => e
    else e
  let s := { s with pool := { s.pool with sym := (s.pool.sym.map keep).filter (fun e => !e.2.isEmpty),
                                          softRun := s.pool.softRun.erase r, soft := s.pool.soft ++ [r] } }
  let s := s.bump F.MEMG_PPR_STATUS_SOFT 1
  let s := repairAdd 6 0 (s.serialOf r.addr) (locDramRow r) s
  serveHeld (memEvent Ev.MEM_PPR_DONE r.dev false r.addr s)

/-- SOFT_PPR_DONE. -/
def execSoftPprDone (i : Nat) (s : State) : Out :=
  match s.pool.softRun[i]? with
  | some r => if s.quadMode (quadOf r.addr.ch) = .running then .next (softPprDone r s) else .next s
  | none => .next s

/-- The effect of a write to MEMG_PPR_CMD (R182, Table 05.13). -/
def pprCmdWrite (v : W32) (s : State) : State :=
  let ch := bits v.toNat 4 0
  if bits v.toNat 31 16 = 0x4850 ∧ ch < 24 ∧ ¬ s.on F.MEMG_PPR_STATUS_BUSY then
    ({ s with pool := { s.pool with hardCh := some ch } }.put F.MEMG_PPR_STATUS_BUSY 1).put (F.MC_STATUS_STATE ch) 5
  else s

/-- HARD_PPR_CMD. -/
def execHardPprCmd (v : W32) (s : State) : Out := .next (pprCmdWrite v s)

/-- HARD_PPR_DONE: every soft repair of the channel is a hard repair, and the channel serves again (R182, R485). -/
def hardPprDone (ch : Nat) (s : State) : State :=
  let mine := s.pool.soft.filter (fun r => r.addr.ch == ch)
  let s := { s with pool := { s.pool with hardCh := none, soft := s.pool.soft.filter (fun r => r.addr.ch != ch),
                                          hardDone := s.pool.hardDone ++ mine } }
  let s := s.put F.MEMG_PPR_STATUS_SOFT (s.get F.MEMG_PPR_STATUS_SOFT - mine.length)
  let s := (s.bump F.MEMG_PPR_STATUS_HARD mine.length).put F.MEMG_PPR_STATUS_BUSY 0
  let s := s.each mine (fun r t => repairAdd 6 1 (t.serialOf r.addr) (locDramRow r) t)
  serveHeld (s.put (F.MC_STATUS_STATE ch) 2)

/-- HARD_PPR_DONE. -/
def execHardPprDone (s : State) : Out :=
  match s.pool.hardCh with
  | some ch => .next (hardPprDone ch s)
  | none => .next s

/-- A channel fault: MEM_CHANNEL_FAULT and the first retrain (R184). -/
def channelFault (ch : Nat) (s : State) : State :=
  let s := { s with pool := { s.pool with replays := s.pool.replays.del ch, retrain := Tab.set s.pool.retrain ch 1 } }
  let s := (s.put (F.MC_STATUS_STATE ch) 4).bump (F.MC_STATUS_RETRAINS ch) 1
  let log := (s.reg (R.MC_ERR_LOG ch)).toNat
  raiseNode ⟨Ev.MEM_CHANNEL_FAULT, ch, 15, log / 4294967296, log⟩ s

/-- RCD_ALERT: the replay succeeds, or fails; the third consecutive failure, or a loss of training, is a channel
fault (R184). -/
def execRcdAlert (ch : Fin 24) (replayOk : Bool) (lostTraining : Bool) (s : State) : Out :=
  let n := Tab.get 0 s.pool.replays ch.val
  if 0 < Tab.get 0 s.pool.retrain ch.val then .next s
  else if lostTraining || (!replayOk && 2 ≤ n) then .next (channelFault ch.val s)
  else .next { s with pool := { s.pool with replays := if replayOk then s.pool.replays.del ch.val
                                                        else Tab.set s.pool.replays ch.val (n + 1) } }

/-- CHANNEL_RETRAIN_DONE: back in service, a further retrain, or out of service after the third (R184). -/
def execChannelRetrainDone (ch : Fin 24) (ok : Bool) (s : State) : Out :=
  let n := Tab.get 0 s.pool.retrain ch.val
  if n = 0 then .next s
  else if ok then
    let s := { s with pool := { s.pool with retrain := s.pool.retrain.del ch.val } }
    .next (serveHeld (s.put (F.MC_STATUS_STATE ch.val) 2))
  else if n < 3 then
    .next ({ s with pool := { s.pool with retrain := Tab.set s.pool.retrain ch.val (n + 1) } }.bump (F.MC_STATUS_RETRAINS ch.val) 1)
  else .next { s with pool := { s.pool with retrain := s.pool.retrain.del ch.val } }

/-- A population is one of Table 05.1 (R152). -/
def DimmPop.inTable (p : DimmPop) : Bool :=
  p.supported && (p.dimms == 1 || p.dimms == 2) && 32 ≤ p.gib && p.gib ≤ 256 && (p.ranks == 1 || p.ranks == 2) &&
    (p.stack == 1 || p.stack == 2 || p.stack == 4 || p.stack == 8) && 1 ≤ p.maxRate

/-- The same number of DIMMs with the same capacity, ranks, stack and density (R153). -/
def DimmPop.sameAs (a b : DimmPop) : Bool :=
  a.dimms == b.dimms && a.gib == b.gib && a.ranks == b.ranks && a.stack == b.stack && a.density == b.density

/-- The highest rate the population and every DIMM's SPD allow, as a MEMG_CFG.SPEED code (R154). -/
def selectRate (pops : List DimmPop) : Nat :=
  pops.foldl (fun m p => min m (min p.maxRate (if p.dimms = 2 then 2 else 3))) 3

/-- NINT of SYN_4–SYN_7 for a rate with ODIV 4: one quarter of the DDR5 data rate (R154). -/
def rateNint (rate : Nat) : Nat := if rate = 1 then 48 else if rate = 2 then 56 else 64

/-- MEMG_CFG.STACK of a stack height (Table 05.7). -/
def stackCode (n : Nat) : Nat := if n = 1 then 0 else if n = 2 then 1 else if n = 4 then 2 else 3

/-- The SM writes SYN_4–SYN_7 for a rate where they are OFF or differ (R154). -/
def smSetRate (rate : Nat) (s : State) : State :=
  s.each [4, 5, 6, 7] (fun n t =>
    if t.synState n = synOff || t.get (F.CKR_SYN_CTL_NINT n) != rateNint rate || t.get (F.CKR_SYN_CTL_ODIV n) != 4 then
      writeCtl n true 4 (rateNint rate) 0 t
    else t)

/-- The DRAM entries of the repair record whose DIMM is no longer in its slot are dropped, MC_n_RETIRE is loaded from
the rest, and rows not yet hard-repaired are (R485). -/
def loadDramRecord (s : State) : State :=
  let ok := fun (e : RepairEntry) =>
    if e.type = 5 ∨ e.type = 6 then
      let (ch, slot) := dramSlotOf e
      s.pool.serials.any (fun x => x.1 == ch * 2 + slot && x.2 == e.serial)
    else true
  let all := (mergedRecord s.rpr.record s.rpr.pending).filter ok
  let s := s.each (all.filter (fun e => e.type == 5)) (fun e t =>
    let ch := bits e.loc 4 0
    let n := bits e.loc 7 5
    if (t.retiredDev ch n).isSome then t
    else t.put (F.MC_RETIRE_ENTRIES ch) (t.get (F.MC_RETIRE_ENTRIES ch) + (128 + bits e.loc 11 8) * 2 ^ (8 * n)))
  let rows := (all.filter (fun e => e.type == 6 && e.flags == 0)).map (fun e => rowOfLoc e.loc)
  let hard := fun (e : RepairEntry) => if e.type = 6 then { e with flags := 1 } else e
  let s := { s with rpr := { s.rpr with record := (s.rpr.record.filter ok).map hard,
                                        pending := (s.rpr.pending.filter ok).map hard },
                    pool := { s.pool with hardDone := s.pool.hardDone ++ rows } }
  s.bump F.MEMG_PPR_STATUS_HARD rows.length

/-- A channel that failed its check or its training (R106). -/
def channelStartFail (ch : Nat) (s : State) : State :=
  raiseNode ⟨Ev.MEM_START_FAIL, ch, 0, 0, 0⟩ (s.put (F.MC_STATUS_STATE ch) 4)

/-- Every channel has trained: valid bits clear after a power-on or warm reset, cleaner and scrubber start, and
MEM_READY is raised (R185, R186). -/
def openPool (s : State) : State :=
  let s := if s.pool.saved.isSome then s
    else { s with pool := { s.pool with l2 := [], l1c := [], opening := [], cleanPos := 0, scrubPos := 0 } }
  let s := { s with pool := { s.pool with scrubFrom := s.ticks } }
  serveHeld (raiseNode ⟨Ev.MEM_READY, 0, 0, 0, 0⟩ (s.put F.CKR_START_STAGE_MEM_READY 1))

/-- Training has ended on every channel: the pool opens, or stays closed with MEM_FAIL (R106). -/
def trainingEnd (s : State) : State :=
  if s.pool.training ≠ [] then s
  else if (List.range 24).all (fun c => s.get (F.MC_STATUS_STATE c) == 2) then openPool s
  else serveHeld (s.put F.CKR_START_STAGE_MEM_FAIL 1)

/-- The memory start of a population list (R106, R153, R154, R185). -/
def memoryStart (pops : List DimmPop) (s : State) : State :=
  let p0 := pops.getD 0 { dimms := 0, gib := 0, ranks := 0, stack := 0, rows := 1, density := 0, maxRate := 0, sppr := 0, ids := [], supported := false }
  let good := (List.range 24).filter (fun c =>
    match pops[c]? with
    | some p => p0.inTable && p.inTable && p.sameAs p0
    | none => false)
  let s := if s.get F.CKR_START_STAGE_STAGE = 5 then s.put F.CKR_START_STAGE_STAGE 6 else s
  let s := { s with pwr := { s.pwr with drstLow := false } }
  let s := s.each ((List.range 24).filter (fun c => !good.contains c)) (fun c t => channelStartFail c t)
  if good.isEmpty then trainingEnd s
  else
    let rate := selectRate (good.map (fun c => pops.getD c p0))
    let inst := 24 * p0.dimms * p0.gib
    let s := ((((s.put F.MEMG_CFG_SPEED rate).put F.MEMG_CFG_DPC p0.dimms).put F.MEMG_CFG_STACK (stackCode p0.stack)).put
      F.MEMG_CFG_RANKS p0.ranks).put F.MEMG_CFG_DIMM_GIB p0.gib
    let s := (s.put F.MEMG_GRANULES_INSTALLED inst).put F.MEMG_GRANULES_USABLE (inst - rMeta inst)
    let serials : List (Nat × Nat) :=
      (good.map (fun c => ((pops.getD c p0).ids.zipIdx).map (fun x => (c * 2 + x.2, crc32 x.1)))).flatten
    let s := { s with pool := { s.pool with pop := some p0, training := good,
                                            serials := serials.foldl (fun (t : Tab Nat) (x : Nat × Nat) => Tab.set t x.1 x.2) [] } }
    let s := s.each good (fun c t => t.put (F.MC_STATUS_STATE c) 1)
    -- the SM's writes come before training and need no self-refresh (R778)
    loadDramRecord ((smSetRate rate (s.put F.MEMG_CFG_SPEED 0)).put F.MEMG_CFG_SPEED rate)

/-- Memory returns from self-refresh with its trained parameters and re-centres (R97, R186). -/
def memoryReturn (cfg gran : Nat) (up : NSet) (s : State) : State :=
  let s := if s.get F.CKR_START_STAGE_STAGE = 5 then s.put F.CKR_START_STAGE_STAGE 6 else s
  let s := (s.setReg R.MEMG_CFG (BitVec.ofNat 64 cfg)).setReg R.MEMG_GRANULES (BitVec.ofNat 64 gran)
  let s := s.each ((List.range 24).filter (fun c => !up.contains c)) (fun c t => channelStartFail c t)
  let s := s.each up (fun c t => t.put (F.MC_STATUS_STATE c) 3)
  let s := { s with pool := { s.pool with training := up } }
  if up = [] then trainingEnd s else s

/-- MEMORY_START. A return from a memory-retaining warm reset restores the trained parameters and reads no SPD. -/
def execMemoryStart (pops : List DimmPop) (s : State) : Out :=
  if pops.length ≠ 24 || pops.any (fun p => p.rows == 0) then .refused .illFormed
  else if s.memStarted || s.get F.CKR_START_STAGE_STAGE < 5 || s.get F.CKR_START_STAGE_STAGE == 0xE0 then .next s
  else
    match s.pool.saved with
    | some (cfg, gran, up) => .next (memoryReturn cfg gran up s)
    | none => .next (memoryStart pops s)

/-- CHANNEL_TRAINING_DONE: training, or re-centring after a memory-retaining warm reset, ends on a channel (R106). -/
def execChannelTrainingDone (ch : Fin 24) (ok : Bool) (s : State) : Out :=
  if !s.pool.training.contains ch.val then .next s
  else
    let s := { s with pool := { s.pool with training := NSet.del s.pool.training ch.val } }
    let s := if ok then s.put (F.MC_STATUS_STATE ch.val) 2 else channelStartFail ch.val s
    .next (trainingEnd s)

/-- MEM_REQUEST_HOLD_EXPIRY: a held request that was not served in time ends MEM_UNAVAILABLE (R84). -/
def execMemRequestHoldExpiry (i : Nat) (s : State) : Out :=
  match s.pool.held[i]? with
  | some r => .next { s with pool := { s.pool with held := s.pool.held.eraseIdx i,
                                                   done := s.pool.done ++ [⟨r.line, r.op, .unavailable⟩] } }
  | none => .next s

end Sys2Proof.Machine
end

