-- ==== Sys2Proof/Machine/RegAccess.lean ====
section
/-! DEFINITION. Register accesses: what each register reads as, what a write of it does, half-width accesses, who reaches what, and
the steward's REG_READ and REG_WRITE (R5 to R14, R27, R148, R297, R511, R516, R517, R520, R526, R527, R706, R707, R775, and the
register tables of every chapter). -/

namespace Sys2Proof.Machine

/-! ### Reads -/

/-- Registers that KQN-1610 lacks: the press and proof blocks, and those of SYN_9 and SYN_10 (R27, R148). -/
def State.regAbsent (s : State) (key : Nat) : Bool :=
  !s.hasPress && ((0x900000 ≤ key && key < 0xC00000) || (R.CKR_SYN_CTL 9 ≤ key && key < R.CKR_SYN_CTL 11))

/-- The fields of a register value that a read returns (Table 00.3). -/
def RegDesc.readable (d : RegDesc) (v : Nat) : Nat :=
  d.fields.foldl (fun n f => if f.acc = .wo ∨ f.acc = .rz then n else n + bits v f.hi f.lo * 2 ^ f.lo) 0

/-- XLT_GRAN_VIEW (Table 06.9). -/
def State.granView (s : State) : Nat :=
  let g := s.get F.XLT_GRAN_SEL_GRANULE
  if g < s.installed then 2 ^ 31 + (s.gran g).encode else 0

/-- PW_GRAN_VIEW (Table 06.11). -/
def State.partGranView (s : State) (p : Nat) : Nat :=
  let g := s.get (F.PW_GRAN_SEL_GRANULE p)
  if s.installed ≤ g then 0
  else
    match s.gran g with
    | .owned q => 2 ^ 31 + (if q = p then 1 * 2 ^ 28 else 0)
    | .shared r => 2 ^ 31 + (if s.region r = 2 ∧ bit (s.get (F.XLT_SHR_READERS r)) p then 2 * 2 ^ 28 + r * 2 ^ 24 else 0)
    | .releasing false q => 2 ^ 31 + (if q = p then 3 * 2 ^ 28 else 0)
    | _ => 2 ^ 31

/-- CLEAN_PENDING: granules below USABLE with neither L2 nor L1C (R169). -/
def State.cleanPending (s : State) : Nat :=
  let touched := (s.pool.l2 ++ s.pool.l1c.filter (fun g => !s.pool.l2.contains g)).filter (fun g => decide (g < s.usable))
  satAt 32767 (s.usable - touched.length)

/-- RAS_CTX_n_STATE (Table 16.7). -/
def State.ctxState (s : State) (n : Nat) : Nat :=
  let q := s.rasQueue n
  (if q.any (·.started) then (if s.ras.cur = some n then 1 else 2) else 0) * 2 ^ 30 + rasResetClass n * 2 ^ 28 + q.length % 32

/-- LOG_STATUS (Table 15.7). -/
def State.logStatus (s : State) : Nat :=
  (b2n s.log.failB + 2 * b2n s.log.failA) * 2 ^ 30 + b2n s.log.full * 2 ^ 29 + s.logRes * 2 ^ 16 +
    satAt 4096 (sub32 s.log.nextSeq s.log.retired)

/-- RPR_STATUS (Table 13.6): the copy in use once the SM has read the record. -/
def State.rprStatus (s : State) : Nat :=
  let x := if s.trust.running.isSome then s.repairCopy else (0, none)
  x.1 * 2 ^ 30 + s.get F.RPR_STATUS_AUTH_FAIL * 2 ^ 29 + s.get F.RPR_STATUS_FULL * 2 ^ 28 +
    ((x.2.map (fun c => c.entries.length)).getD 0) * 2 ^ 16 + s.rpr.pending.length

/-- TST_IDCODE (R736). -/
def State.idcode (s : State) : Nat := if s.fuses.part = .kqn1600 then 0x14B165A7 else 0x14B175A7

/-- Link-scoped registers of a port group read zero outside its link's lead group (Tables 07.13 to 07.15). -/
def linkScoped (name : String) : Bool :=
  ["FP_THR", "FP_BUFW", "FP_DOWN_CAUSE", "FP_FLITS_RX", "FP_CRC_FAIL", "FP_REPLAYS", "FP_RETRAINS", "FP_DOWNS", "FP_UNATT_DROP",
    "FP_MALFORMED", "FP_UNROUTABLE", "FP_CREDIT_OVERRUN"].contains name

/-- A port group leads its link. -/
def State.leadsLink (s : State) (g : Nat) : Bool := s.leadOf g == some g

/-- What a register shows of the state beside the register file: the register tables' read-only views. -/
def State.regView (s : State) (name : String) (b i v : Nat) : Nat :=
  match name with
  | "GLB_ID" => s.glbId
  | "GLB_REV" => s.glbRev
  | "GLB_FEATURE" => s.glbFeature
  | "GLB_UID" => s.fuses.uid
  | "SMB_STATE" => s.flags * 2 ^ 25 + b2n s.trust.grant.isSome * 2 ^ 24 + s.get F.SMB_STATE_BOARD_SKIP
  | "SMB_SVN" => s.fuses.svnMin * 256 + ((s.trust.running.map Image.svn).getD 0)
  | "XLT_GRAN_VIEW" => s.granView
  | "MEMG_SCRUB_STATUS" => v + s.cleanPending * 2 ^ 16
  | "FP_STATUS" => if s.leadsLink b then v else v - bits v 23 21 * 2 ^ 21
  | "FP_MEMO_USED" => s.fab.memo.length
  | "RING_STATE" =>
    s.get (F.PW_RING_STATUS_STATE (b / 8) (b % 8)) * 2 ^ 29 + s.get (F.PW_RING_STATUS_CAUSE (b / 8) (b % 8)) * 2 ^ 24 + b / 8 * 2 ^ 16
  | "RAS_CTX_STATE" => s.ctxState i
  | "RAS_THR_STATUS" => v + s.thrMask
  | "RAS_SEAL_PAGES" => s.sealedPages.length
  | "DSP_STATUS" => s.dspStatus
  | "PRS_STATUS" => s.prsStatus
  | "TNS_SLOT_STATUS" => s.slotStatus i
  | "TNS_SLOT_X" => ofSigned 32 (s.slot i).x
  | "TNS_SLOT_E" => ofSigned 32 (s.slot i).e
  | "TNS_SLOT_Q" => ofSigned 32 (s.slotQ i)
  | "TNS_SLOT_SP" => ofSigned 32 (s.slot i).rec_.setpoint
  | "TNS_STATUS" => v + b2n s.tns.cap.isSome * 2 ^ 30
  | "LOG_STATUS" => s.logStatus
  | "LOG_SEQ" => s.log.nextSeq
  | "LOG_RETIRED" => s.log.retired
  | "LOG_CKPT" => s.log.lastCkpt
  | "TST_INFO" => s.tst.ir * 2 ^ 16 + Config.bsrLen.toNat
  | "TST_IDCODE" => s.idcode
  | "RPR_STATUS" => s.rprStatus
  | "HIF_LINK" => if s.pwr.pcieUp then v else 0
  | "PW_RING_INVQ" => (s.ring (8 * b + i)).invokes.length
  | "PW_DSP_STATUS" => if s.leases.proof = some b then s.dspState * 2 ^ 30 else 0
  | "PW_DSP_MODE" => if s.leases.proof = some b then s.get F.DSP_H_ACTIVE + s.get F.DSP_V_ACTIVE * 2 ^ 16 else 0
  | "PW_DSP_FRAME" => if s.leases.proof = some b then s.get F.DSP_FRAME_SEQ_SEQ else 0
  | "PW_PRS_STATUS" => if s.leases.press = some b then s.pstat % 2 ^ 32 else 0
  | "PW_PRS_SHEET" => if s.leases.press = some b then s.pstat / 2 ^ 32 else 0
  | "PW_TNS" => if s.leases.press = some b then s.slotStatus i else 0
  | "PW_TRUST" => s.pwTrust b
  | "PW_ADMITTED" => maskOf 6 (fun k => s.leadsLink k && s.admitted b k)
  | "PW_GRAN_VIEW" => s.partGranView b
  | "PW_GRAN_COUNT" => (s.ownedBy? b).length
  | _ => if linkScoped name && !s.leadsLink b then 0 else v

/-- What a register reads as; a location without one reads zero (R6). -/
def State.readReg (s : State) (key : Nat) : Nat :=
  match findReg key with
  | none => 0
  | some a =>
    if s.regAbsent key then 0
    else s.regView a.desc.name a.b a.i (a.desc.readable (s.reg key).toNat)

/-! ### Writes -/

/-- A write of FP_n_CTL: EN as GROUP_EN_CLEAR, or held for the end of a KIND 2 job, or set; the other fields as they are; LRST last
(R274, Tables 07.11, 07.12, 21.7). -/
def fpCtlWrite (n v : Nat) (s : State) : State :=
  let en := s.on (F.FP_CTL_EN n)
  let s := (s.writeReg (R.FP_CTL n) v).putB (F.FP_CTL_EN n) en
  let s :=
    if !bit v 31 then clearGroup n { s with tst := { s.tst with enDue := NSet.del s.tst.enDue n } }
    else if en then s
    else if s.tst.job.any (fun j => j.kind == 2 && j.inst == n) then { s with tst := { s.tst with enDue := NSet.ins s.tst.enDue n } }
    else s.put (F.FP_CTL_EN n) 1
  if bit v 29 then groupReset n .lrst s else s

/-- A write of TNS_STATUS: CFG_ERR clears, and an ADC_FAULT written 1 clears once four checks have passed (R677). -/
def tnsStatusWrite (v : Nat) (s : State) : State :=
  let s := if bit v 31 then s.put F.TNS_STATUS_CFG_ERR 0 else s
  s.each [0, 1] (fun m t =>
    if bit v m && bit (t.get F.TNS_STATUS_ADC_FAULT) m then t.setConv m { t.conv m with clearing := true, passes := 0 } else t)

/-- A write of a register that takes it only while a queue is disabled. -/
def whileOff (en : Fld) (key v : Nat) (s : State) : State := if s.on en then s else s.writeReg key v

/-- A write of CKR_NODE_RST (R110). -/
def nodeRstWrite (code : Nat) (s : State) : State :=
  if code = 0x5752 then acceptReset .warm F.CKR_RST_CAUSE_WARM_REQ s
  else if code = 0x4D52 then acceptReset .memoryRetaining F.CKR_RST_CAUSE_MRW_REQ s
  else s

/-- A whole write of a register of management space. -/
def mgmtWrite (name : String) (key b i v : Nat) (e : RegEnv) (s : State) : State :=
  let w : W32 := BitVec.ofNat 32 v
  match name with
  | "SMB_CTRL" =>
    let s := if bit v 1 then smbAbort s else s
    if bit v 0 then smbGo e.sess s else s
  | "CKR_SYN_CTL" => synRegWrite .steward i 0 w s
  | "CKR_SYN_FRAC" => synRegWrite .steward i 1 w s
  | "CKR_SYN_LOCK" => synRegWrite .steward i 2 w s
  | "CKR_SYN_GUARD" => synRegWrite .steward i 3 w s
  | "CKR_CLKOUT" => clkoutWrite i w s
  | "CKR_NODE_RST" => nodeRstWrite (bits v 31 16) s
  | "CKR_ISL_RST" => islRstWrite v s
  | "EVT_ROUTE" => if pOnly i then s else s.writeReg key v
  | "EVT_Q_BASE" => whileOff F.EVT_Q_CFG_EN key v s
  | "EVT_Q_CFG" => evtCfgWrite v s
  | "EVT_Q_HEAD" => evtHeadWrite v s
  | "MC_CMD" => mcCmdWrite b w s
  | "MEMG_PPR_CMD" => pprCmdWrite w s
  | "FP_CTL" => fpCtlWrite b v s
  | "TOPO_CFG" => priorityWrite (v % 256) ((s.writeReg key v).put F.TOPO_CFG_PRIORITY (s.get F.TOPO_CFG_PRIORITY))
  | "TOPO_SRL_SET" => sorrelSet v s
  | "RING_BIND" => bindRing b v s
  | "RING_CTL" =>
    let s := if bit v 1 then releaseRing b s else s
    if bit v 0 then holdRing b s else s
  | "RAS_CTX_OWNER" => ctxOwnerWrite i v s
  | "RAS_THR_DATA" => thrDataWrite v s
  | "DSP_CTL" => dspCtlWrite w s
  | "DSP_H" => dspModeWrite key v s
  | "DSP_V" => dspModeWrite key v s
  | "DSP_POL" => dspModeWrite key v s
  | "DSP_PIXCLK" => dspModeWrite key v s
  | "DSP_PIXFRAC" => dspModeWrite key v s
  | "DSP_AUX_CMD" =>
    let s := s.writeReg key v
    if bit v 31 then auxGo w e.reply s else s
  | "PRS_STATUS" => otTripClear (bits v 23 20) e.high.toNat (s.writeReg key (v - bits v 23 20 * 2 ^ 20))
  | "DRY_STATUS" => s.writeReg key v
  | "TNS_STATUS" => tnsStatusWrite v s
  | "TNS_PWM" => if s.prsCfgOpen then s.writeReg key v else s.put F.TNS_STATUS_CFG_ERR 1
  | "LOG_DRAIN_BASE" => whileOff F.LOG_DRAIN_CFG_EN key v s
  | "LOG_DRAIN_CFG" => drainCfgWrite v s
  | "LOG_DRAIN_HEAD" => drainHeadWrite v s
  | "TST_JOB_CFG" => if s.tst.job.isSome then s else s.writeReg key v
  | "TST_JOB_CMD" => jobCmd (bits v 31 16) s
  | "HIF_MSIX" => msixWrite 0 i v s
  | _ =>
    if R.PRS_CFG ≤ key ∧ key < R.DRY_CFG then (if prsCfgOffset (key - R.PRS_CFG) then prsConfigWrite (key - R.PRS_CFG) v s else s.writeReg key v)
    else if R.DRY_CFG ≤ key ∧ key < 0xB00000 then dryConfigWrite (key - R.DRY_CFG) v s
    else s.writeReg key v

/-- A whole write of a register of a partition's window. -/
def windowWrite (name : String) (key p i v : Nat) (e : RegEnv) (s : State) : State :=
  let r := 8 * p + i
  match name with
  | "PW_RING_SQ_BASE" => ringBaseWrite r false v s
  | "PW_RING_CQ_BASE" => ringBaseWrite r true v s
  | "PW_RING_CFG" => ringCfgWrite r (bit v 31) (bits v 27 16) (bits v 4 0) s
  | "PW_RING_CTL" => if bit v 31 then (if bit v 30 then flushRing r e.host s else resumeRing r s) else s
  | "PW_RING_CQ_HEAD" => cqHeadWrite r v s
  | "PW_RING_DB" => applyDoorbell r v s
  | "PW_MSIX" => msixWrite (p + 1) i v s
  | "PW_EVT_Q_BASE" => whileOff (F.PW_EVT_Q_CFG_EN p) key v s
  | "PW_EVT_Q_CFG" => partEvtCfgWrite p v s
  | "PW_EVT_Q_HEAD" => partEvtHeadWrite p v s
  | "PW_ADMIT_W0" => admitWrite p i 0 v s
  | "PW_ADMIT_W1" => admitWrite p i 1 v s
  | "PW_ADMIT_W2" => admitWrite p i 2 v s
  | "PW_ADMIT_W3" => admitWrite p i 3 v s
  | "PW_ADMIT_W4" => admitWrite p i 4 v s
  | "PW_ADMIT_W5" => admitWrite p i 5 v s
  | "PW_ADMIT_W6" => admitWrite p i 6 v s
  | "PW_XLT_CTX" => xltCtxWrite p v s
  | "PW_INV" =>
    if i = 3 then windowInvalidate p v s
    else { s with xlt := { s.xlt with invWord := Tab.set s.xlt.invWord (4 * p + i) v } }
  | _ => s.writeReg key v

/-- A whole write of the register at a key. -/
def regWrite (key v : Nat) (e : RegEnv) (s : State) : State :=
  match findReg key with
  | none => s
  | some a =>
    if s.regAbsent key then s
    else if key < 0x100000000 then mgmtWrite a.desc.name key a.b a.i v e s
    else windowWrite a.desc.name key a.b a.i v e s

/-! ### Half accesses (R11 to R14, R775) -/

/-- Width in bits of the register that starts at a key; zero where none does. -/
def regWidth (key : Nat) : Nat :=
  match findReg key with
  | some a => a.desc.width
  | none => 0

/-- The lower half of a register with every bit as a write that leaves it untouched has it: W1C, W1S and WO bits zero (R14). -/
def RegDesc.untouched (d : RegDesc) (v : Nat) : Nat :=
  d.fields.foldl (fun n f => if f.acc = .rw then n + bits v f.hi f.lo * 2 ^ f.lo else n) 0 % 2 ^ 32

/-- A register one of whose write-only fields lies in both halves: half of it alone triggers nothing. -/
def RegDesc.splitAction (d : RegDesc) : Bool := d.fields.any (fun f => f.acc == .wo && f.lo < 32 && 32 ≤ f.hi)

/-- A 32-bit write: of a 32-bit register, held for the lower half of a 64-bit one, or of its upper half with the held half, or of the
fields of the upper half alone (R13, R14). -/
def write32 (key v : Nat) (e : RegEnv) (s : State) : State :=
  if regWidth key = 32 then regWrite key v e s
  else if regWidth key = 64 then { s with heldLow := Tab.set s.heldLow key v }
  else if 4 ≤ key ∧ regWidth (key - 4) = 64 then
    let k := key - 4
    match s.heldLow.find? (fun x => x.1 == k), findReg k with
    | some x, _ => regWrite k (v * 2 ^ 32 + x.2) e { s with heldLow := s.heldLow.del k }
    | none, some a =>
      if a.desc.splitAction then s else regWrite k (v * 2 ^ 32 + a.desc.untouched (s.reg k).toNat) e s
    | none, none => s
  else s

/-- A 64-bit write: whole to a 64-bit register, whose held half is discarded, and otherwise as two 32-bit writes (R13, R775). -/
def write64 (key v : Nat) (e : RegEnv) (s : State) : State :=
  if regWidth key = 64 then regWrite key v e { s with heldLow := s.heldLow.del key }
  else write32 (key + 4) (v / 2 ^ 32) e (write32 key (v % 2 ^ 32) e s)

/-- A 32-bit read: a lower half captures the upper one, with TOPO_SRL_FRAC for TOPO_SRL_TIME; an upper half and the fraction return
what was captured, once (R12, Table 08.7). -/
def read32 (key : Nat) (s : State) : Nat × State :=
  if key = R.TOPO_SRL_FRAC then
    match s.capFrac with
    | some f => (f, { s with capFrac := none })
    | none => (s.readReg key, s)
  else if regWidth key = 32 then (s.readReg key, s)
  else if regWidth key = 64 then
    let v := s.readReg key
    let s := { s with cap := Tab.set s.cap key (v / 2 ^ 32) }
    (v % 2 ^ 32, if key = R.TOPO_SRL_TIME then { s with capFrac := some (s.readReg R.TOPO_SRL_FRAC) } else s)
  else if 4 ≤ key ∧ regWidth (key - 4) = 64 then
    match s.cap.find? (fun x => x.1 == key - 4) with
    | some x => (x.2, { s with cap := s.cap.del (key - 4) })
    | none => (s.readReg (key - 4) / 2 ^ 32, s)
  else (0, s)

/-- A 64-bit read: whole, or as two 32-bit reads. -/
def read64 (key : Nat) (s : State) : Nat × State :=
  if regWidth key = 64 then (s.readReg key, s)
  else
    let a := read32 key s
    let b := read32 (key + 4) a.2
    (a.1 + b.1 * 2 ^ 32, b.2)

/-! ### Who reaches what -/

/-- A PF0 request is a steward access: it arrives on the granted stream, which is secure (R517). -/
def State.granted (s : State) (stream : Option Byte) : Bool :=
  match stream, s.trust.grant with
  | some x, some g => x.toNat == g.1 && s.trust.streams.any (fun i => i.id == g.1 && i.secure)
  | _, _ => false

/-- The SMB and HIF blocks. -/
def transportBlock (off : Nat) : Bool := (0x10000 ≤ off && off < 0x20000) || (0xF00000 ≤ off && off < 0x1000000)

/-- The key a naturally aligned access reaches, if it reaches anything (R517, R520, R704, R706, R707). -/
def State.reach (s : State) (path : RegPath) (off : Nat) (wide : Bool) : Option Nat :=
  if off % (if wide then 8 else 4) ≠ 0 then none
  else
    match path with
    | .pf0 stream => if transportBlock off || s.granted stream then some off else none
    | .window p => if s.window p.val then some (winKey p.val off) else none

/-- An offset lies within the BAR of its path (Table 20.1). -/
def inBar (path : RegPath) (off : Nat) : Bool :=
  match path with
  | .pf0 _ => decide (off < 0x1000000)
  | .window _ => decide (off < 0x10000)

/-- REGISTER_WRITE: a write of 32 or 64 bits through PF0 or a partition's window; `lost` says that the SM writes the same register in
the same cycle (R527, Table 14.13). -/
def execRegisterWrite (path : RegPath) (off : BitVec 24) (wide : Bool) (v : W64) (e : RegEnv) (lost : Bool) (s : State) : Out :=
  if !inBar path off.toNat then .refused .illFormed
  else
    match s.reach path off.toNat wide with
    | none => .next s
    | some key =>
      let steward := match path with | .pf0 _ => true | .window _ => false
      if lost && steward then .next (s.bump F.SMB_SUPERSEDED_COUNT 1)
      else if wide then .next (write64 key v.toNat e s)
      else .next (write32 key (v.toNat % 2 ^ 32) e s)

/-- LOWER_HALF_READ: a read of 32 or 64 bits, of which a 32-bit read of a 64-bit register's lower half captures the upper one; what it
returns goes to the host (R11, R12). -/
def execLowerHalfRead (path : RegPath) (off : BitVec 24) (wide : Bool) (s : State) : Out :=
  if !inBar path off.toNat then .refused .illFormed
  else
    match s.reach path off.toNat wide with
    | none => .next (s.host (.data 0))
    | some key =>
      let x := if wide then read64 key s else read32 key s
      .next (x.2.host (.data x.1))

/-! ### Through the mailbox -/

/-- An offset and width that a steward command may name: naturally aligned, within management space. -/
def mgmtAccess (off : W32) (width : Byte) : Bool :=
  (width.toNat == 4 || width.toNat == 8) && off.toNat % width.toNat == 0 && decide (off.toNat < 0x1000000)

/-- REG_READ: a management-space value, which SEALED-HALT still gives (R516, R531). -/
def execRegRead (q : StewReq) (off : W32) (width : Byte) (s : State) : Out :=
  steward q 0x60 true (fun s =>
    if !mgmtAccess off width then malformed 6
    else
      let x := if width.toNat = 8 then read64 off.toNat s else read32 off.toNat s
      okNow q 0x60 (leBytes width.toNat x.1) x.2) s

/-- REG_WRITE: a steward write to management space; `lost` is the resource code when a same-cycle order of a higher class wins (R516,
R527). -/
def execRegWrite (q : StewReq) (off : W32) (width : Byte) (v : W64) (e : RegEnv) (lost : Option Byte) (s : State) : Out :=
  steward q 0x61 false (fun s =>
    if !mgmtAccess off width then malformed 6
    else
      match lost with
      | some c => .error (0x10, c.toNat)
      | none =>
        let s := if width.toNat = 8 then write64 off.toNat v.toNat e s else write32 off.toNat (v.toNat % 2 ^ 32) e s
        okNow q 0x61 [] s) s

end Sys2Proof.Machine
end

