-- ==== Sys2Proof/Machine/Boot.lean ====
section
/-! DEFINITION. The stages of start-up that end with a verified firmware image and with built-in self-test: keys, the board and repair
records, and the maps of logical onto physical units (R105, R472 to R474, R490, R497, R500, R503 to R505, R508, Table 03.4). -/

namespace Sys2Proof.Machine

/-! ### Keys (R504, R505) -/

/-- HKDF-Expand with SHA-384 of at most 48 bytes: one block (RFC 5869). -/
def expandBlock (prk : List Byte) (label : String) (n : Nat) : List Byte := (hmac384 prk (ascii label ++ [1])).take n

/-- The order of the P-384 base point (PRESUMED: the value of FIPS 186-5). -/
def p384Order : Nat := 0xffffffffffffffffffffffffffffffffffffffffffffffffc7634d81f4372ddf581a0db248b0a77aecec196accc52973

/-- The first candidate that does not exceed n − 2, plus 1; zero when none of the 2^32 candidates does. -/
def keyFrom (seed : List Byte) : Nat → Nat → Nat
  | 0, _ => 0
  | k + 1, i =>
    let c := ofBeBytes (sha384 (seed ++ leBytes 4 i))
    if c ≤ p384Order - 2 then c + 1 else keyFrom seed k (i + 1)

/-- The private key of a 48-byte seed. -/
def privateKey (seed : List Byte) : Nat := keyFrom seed 4294967296 0

/-- What ROM reads as UDS: the fused secret, or 32 zero bytes with TEST_MODE set. -/
def State.readUds (s : State) : List Byte := if s.on F.GLB_STRAP_TEST_MODE then List.replicate 32 0 else Config.uds s.fuses.uid

/-- The keys of a start with an image. -/
def State.deriveKeys (s : State) (i : Image) : Keys :=
  let uds := s.readUds
  let prk := hmac384 (List.replicate 48 0) uds
  let mode : Byte := if s.on F.GLB_STRAP_TEST_MODE then 2 else 1
  let cdi := hmac384 uds (i.digest ++ leBytes 4 i.svn ++ [mode])
  { deviceId := privateKey (expandBlock prk "kqn device id" 48), cdi := cdi, alias_ := privateKey (expandBlock cdi "kqn alias" 48),
    log := privateKey (expandBlock cdi "kqn log" 48), sealKey := expandBlock prk "kqn record" 32 }

/-! ### Records in the flash -/

/-- The registers that a board configuration record may write (R503). -/
def boardRegs : List String :=
  ["FP_CTL", "FP_THR", "FP_BUFW", "FP_MEMO_CFG", "FP_APR_ROUTE", "FP_APR_DEFAULT", "TOPO_CFG", "TOPO_SRL_CFG", "CKR_CLKOUT"]

/-- The register that a 32-bit access at an offset reaches, as itself or as the upper half of a 64-bit register. -/
def regOfWord (off : Nat) : Option RegAt :=
  if regWidth off ≠ 0 then findReg off else if 4 ≤ off ∧ regWidth (off - 4) = 64 then findReg (off - 4) else none

/-- One entry of a board configuration record (R503). -/
def boardEntry (e : Nat × Nat) (s : State) : State :=
  if (regOfWord e.1).any (fun a => boardRegs.contains a.desc.name) then write32 e.1 e.2 ⟨none, none, 0, []⟩ s
  else s.bump F.SMB_STATE_BOARD_SKIP 1

/-- The entries of a board configuration record; none where its header is wrong or the image declares no record (R503). -/
def Image.boardEntries (i : Image) : List (Nat × Nat) :=
  let b := i.board
  if hfield i.header 36 4 = 0 ∨ hfield b 0 2 ≠ 0x4252 ∨ !allZero (slice 0 b 4 12) then []
  else ((List.range (hfield b 2 2)).filter (fun k => 24 + 8 * k ≤ b.length)).map (fun k => (hfield b (16 + 8 * k) 4, hfield b (20 + 8 * k) 4))

/-- The repair record of this start: the valid copy with the higher SEQ, without the entries the steward deleted; a deletion that has
not reached the flash waits on (R490, R491, R493). -/
def takeRepairRecord (s : State) : State :=
  let c := s.repairCopy.2
  let s := if c.isNone then raiseNode ⟨Ev.REPAIR_RECORD_FAULT, 0, 0, 0, 0⟩ (s.put F.RPR_STATUS_AUTH_FAIL 1) else s
  let held := (c.map (·.entries)).getD []
  let stays := fun (e : RepairEntry) => !s.rpr.deleted.any (·.same e)
  { s with rpr := { s.rpr with record := held.filter stays, pending := s.rpr.pending.filter stays,
                               deleted := s.rpr.deleted.filter (fun d => held.any (·.same d)) } }

/-- Wrapped keys that fail their tag on return: every partition is VOID and its granules FREE (R508). -/
def demoteReturn (s : State) : State :=
  let s := s.each s.returning makeVoid
  let s := s.each (s.granulesWhere (fun g => match g with | .owned _ => true | _ => false)) freeGranule
  s.put F.CKR_RST_CAUSE_MRW_DEMOTED 1

/-- The start stops at BOOT_FAIL with FAULT_N low; no island but AON, TIMEBASE, MGMT, CRYPTO and LOG is released (R105). -/
def bootFail (s : State) : State :=
  let s := s.orBits F.CKR_ISL_STATE_IN_RESET 0x1FFFFE0
  let s := { s with trust := { s.trust with running := none, keys := none, sessions := [] } }
  (s.put F.CKR_START_STAGE_STAGE 0xE0).faultLow .bootFail

/-- Firmware starts from an image: keys, the records it declares, the owner record and RETENTION of a power-on or warm start, the
AVSBus; stage FW_VERIFIED (R490, R503 to R505, R513, R537, Tables 03.4 and 14.2). -/
def startImage (i : Image) (s : State) : State :=
  let s := { s with trust := { s.trust with running := some i, keys := some (s.deriveKeys i) } }
  let s := if s.trust.fresh then
      { s with trust := { s.trust with owner := s.flashOwner, retention := s.freeCtr } }.draw
    else s
  let s := s.each i.boardEntries boardEntry
  (takeRepairRecord s).put F.PWR_AVS_STATUS_SM_OWNED 1 |>.put F.CKR_START_STAGE_STAGE 3

/-- FIRMWARE_IMAGE_LOADED: at stage FW_LOAD the SM boots the first image, in boot order, that meets every condition. `flash` and
`erase` are what a programmer outside the node has put into the two chip selects since they were last read, and whether it erased
the records there; `keysOk` says that every wrapped partition key verifies (R105, R500, R508). -/
def execFirmwareImageLoaded (flash : Option (Image × Image)) (erase keysOk : Bool) (s : State) : Out :=
  if s.get F.CKR_START_STAGE_STAGE ≠ 2 || s.trust.udsLocked || !s.starting then .next s
  else
    let s := match flash with
      | some (a, b) => { s with trust := { s.trust with flash := Tab.set (Tab.set s.trust.flash 0 a) 1 b } }
      | none => s
    let s := if erase then
        { s with trust := { s.trust with ownerA := none, ownerB := none }, rpr := { s.rpr with copyA := none, copyB := none } }
      else s
    let s := { s with trust := { s.trust with udsLocked := true } }
    let at_ := fun (c : Nat) => (s.trust.flash.find? (fun x => x.1 == c)).map (·.2)
    match [s.bootOrder.1, s.bootOrder.2].findSome? (fun c => (at_ c).filter s.imageGood) with
    | none => .next (bootFail s)
    | some i =>
      let s := startImage i s
      .next (if s.trust.fresh || keysOk then s else demoteReturn s)

/-! ### Self-test and the unit maps (R472, R473) -/

/-- The entries that a start applies (R497). -/
def State.startEntries (s : State) : List RepairEntry := s.rpr.record ++ s.rpr.pending

/-- The SRAM row that an SRAM_ROW entry names. -/
def rowOfEntry (e : RepairEntry) : SramRow := ⟨bits e.loc 7 0, bits e.loc 23 8, bits e.loc 47 24⟩

/-- A row, or a spare row numbered after the rows, that an array instance has (Table 13.1). -/
def SramRow.exists_ (x : SramRow) : Bool :=
  match arrayShape x.code with
  | some (n, rows, spares, _) => x.inst < n && x.row < rows + spares
  | none => false

/-- A failing row takes the next unused spare row of its array; the array is listed as unrepairable when it has none left (R473). -/
def startRow (t : List SramRow × State) (x : SramRow) : List SramRow × State :=
  let key := arrayKey x.code x.inst
  let used := Tab.get 0 t.2.rpr.spareRows key
  let spares := match arrayShape x.code with | some (_, _, n, _) => n | none => 0
  if !x.exists_ then t
  else if used < spares then (t.1, { t.2 with rpr := { t.2.rpr with spareRows := Tab.set t.2.rpr.spareRows key (used + 1) } })
  else (if t.1.any (fun y => y.code == x.code && y.inst == x.inst) && x.code != 4 && x.code != 5 then t.1 else t.1 ++ [x], t.2)

/-- What unrepairable arrays cost, but for the maps and the granule table (Table 13.1). -/
def startDead (dead : List SramRow) (s : State) : State :=
  let s := { s with rpr := { s.rpr with dead := dead.filter (fun x => x.code == 4 || x.code == 5 || x.code == 6),
                                        retFail := dead.any (fun x => x.code == 8) } }
  s.each (dead.filter (fun x => x.code == 6)) (fun x t => linkEvent Ev.FAB_WIDTH_REDUCED ((t.leadOf x.inst).getD x.inst) t)

/-- Identity of a physical unit in its retired set. -/
def unitId (k : UnitKind) (cl p : Nat) : Nat := cl * (if k = .hatch then 16 else 32) + p

/-- The defective units that the fuses remap, each on the lowest spare that is not itself defective nor taken (R472 step 2). -/
def fuseRemaps (bad : Nat → Bool) (n m : Nat) : List (Nat × Nat) :=
  ((List.range n).filter bad).foldl (fun (l : List (Nat × Nat)) i =>
    match ((List.range m).drop n).find? (fun p => !bad p && !l.any (fun x => x.2 == p)) with
    | some p => l ++ [(i, p)]
    | none => l) []

/-- The map of a kind of unit in a cluster, in the five steps of R472; a number that a retired block makes vacant stays vacant
(R474). -/
def buildMap (k : UnitKind) (fused failed : Nat → Bool) (cl : Nat) (s : State) : State :=
  let n := unitCount k
  let m := physCount k
  let s := s.each (List.range n) (fun i t => setPhysUnit k cl i i t)
  let s := s.each (fuseRemaps fused n m) (fun x t => setPhysUnit k cl x.1 x.2 t)
  let s := s.each ((List.range m).filter (fun p => fused p || failed p)) (fun p t =>
    let t := markRetired k cl p t
    match t.logicalOf k cl p with
    | some i => setPhysUnit k cl i (vacantMark k) t
    | none => t)
  let s := s.each ((List.range n).filter (fun i => s.blockVacant k cl i)) (fun i t => setPhysUnit k cl i (vacantMark k) t)
  s.each ((s.vacantOf k cl).filter (fun i => !s.blockVacant k cl i)) (fun i t =>
    match (t.sparesOf k cl).head? with
    | some p => setPhysUnit k cl i p t
    | none => t)

/-- The maps of every cluster, from the fuses, the repair record and self-test (R472, R497). -/
def buildMaps (engines cores blocks : List Nat) (s : State) : State :=
  let rec_ := s.startEntries
  let recE := (rec_.filter (fun e => e.type == 1)).map (fun e => unitId .hatch (bits e.loc 1 0) (bits e.loc 11 8))
  let recC := (rec_.filter (fun e => e.type == 2)).map (fun e => unitId .stipple (bits e.loc 1 0) (bits e.loc 12 8))
  let recB := (rec_.filter (fun e => e.type == 4)).map (fun e => bits e.loc 1 0 * 384 + bits e.loc 16 8)
  let s := { s with rpr := { s.rpr with blockRet := (recB ++ blocks).foldl NSet.ins [] } }
  let s := s.each [0, 1, 2, 3] (fun cl t =>
    buildMap .stipple (fun p => t.fuses.badCores.contains (unitId .stipple cl p))
      (fun p => (recC ++ cores).contains (unitId .stipple cl p)) cl
      (buildMap .hatch (fun p => t.fuses.badEngines.contains (unitId .hatch cl p))
        (fun p => (recE ++ engines).contains (unitId .hatch cl p)) cl t))
  syncAllUnits s

/-- SELF_TEST_COMPLETE: built-in self-test of islands 5 to 24 ends, with the units and the SRAM rows that fail it after the row repairs
of the fuses and the repair record; the maps are built and start-up goes on to stage ISLANDS. A granule table that cannot be
repaired ends start-up at BOOT_FAIL; the log banks' own self-test ends at LOG_START_RECORDS (R105, R472 to R474, Table 13.1). -/
def execSelfTestComplete (engines : List (Fin 4 × Fin 13)) (cores : List (Fin 4 × Fin 18))
    (rows : List (Byte × BitVec 16 × BitVec 16)) (s : State) : Out :=
  if s.get F.CKR_START_STAGE_STAGE ≠ 4 || !s.starting || (List.range 9).any (fun n => s.synState n != synLocked) then .next s
  else
    let recorded := (s.startEntries.filter (fun e => e.type == 3)).map rowOfEntry
    let failing := rows.map (fun x => (⟨x.1.toNat, x.2.1.toNat, x.2.2.toNat⟩ : SramRow))
    let (dead, s) := (recorded ++ failing).foldl startRow ([], s)
    match dead.find? (fun x => x.code == 3) with
    | some x => .next (bootFail (sramEvent Ev.SRAM_BLOCK_RETIRED x s))
    | none =>
      let stores := (dead.filter (fun x => x.code == 2)).map (fun x => unitId .stipple (x.inst / 18) (x.inst % 18))
      let blocks := (dead.filter (fun x => x.code == 1)).map (·.inst)
      let s := buildMaps (engines.map (fun x => unitId .hatch x.1.val x.2.val))
        (cores.map (fun x => unitId .stipple x.1.val x.2.val) ++ stores) blocks (startDead dead s)
      .next (s.put F.CKR_START_STAGE_STAGE 5)

end Sys2Proof.Machine
end

