-- ==== Sys2Proof/Machine/KcsScalar.lean ====
section
/-! DEFINITION. KCS instructions that a core runs itself: control, scalar arithmetic, predicates, descriptor assembly,
scalar memory access and the local store (Table 10.4, R373 to R376). -/

namespace Sys2Proof.Machine

/-- MUL's upper half (Table 10.4). -/
def mulHi (x y : W64) : W64 := BitVec.ofNat 64 (x.toNat * y.toNat / 2 ^ 64)
/-- DIVU; division by zero gives all ones (R373). -/
def divU (x y : W64) : W64 := if y = 0 then BitVec.allOnes 64 else x / y
/-- REMU; by zero it gives the dividend (R373). -/
def remU (x y : W64) : W64 := if y = 0 then x else x % y
/-- Shift amount: the low six bits (R373). -/
def shAmt (y : W64) : Nat := y.toNat % 64
/-- SHL, SHR and SRA. -/
def shl (x y : W64) : W64 := x <<< shAmt y
def shr (x y : W64) : W64 := x >>> shAmt y
def sra (x y : W64) : W64 := x.sshiftRight (shAmt y)
/-- Unsigned and signed minimum and maximum (R373). -/
def minU (x y : W64) : W64 := if x.ult y then x else y
def maxU (x y : W64) : W64 := if x.ult y then y else x
def minS (x y : W64) : W64 := if x.slt y then x else y
def maxS (x y : W64) : W64 := if x.slt y then y else x
/-- IMM of format I, sign-extended. -/
def immI (i : BitVec 38) : W64 := i.signExtend 64
/-- IMM of format M, sign-extended. -/
def immM (i : BitVec 36) : W64 := i.signExtend 64
/-- A virtual address from a register; an SM program's address is a PPA. -/
def vaOf (r : Nat) (v : W64) : Nat := if smRing r then v.toNat else v.toNat % 2 ^ 52
/-- The PC after a branch by OFF words. -/
def branch (p : Prog) (off : BitVec 32) : Prog := { p with pc := ((p.pc : Int) + off.toInt).toNat, stall := .no }

/-- NOP: it does nothing. -/
def execNop (r : Fin 132) (g : Guard) (s : State) : Out :=
  kcsReg r g (encR 0x00 g 0 0 0 0) [] id s

/-- JMP: PC moves by OFF. -/
def execJmp (r : Fin 132) (g : Guard) (off : BitVec 32) (s : State) : Out :=
  kcs r g (encB 0x02 g 0 off) [] (fun p s => s.setProg r.val (branch p off)) s

/-- LOOP: sA counts down and PC moves by OFF while the result is not zero. -/
def execLoop (r : Fin 132) (g : Guard) (a : Fin 32) (off : BitVec 32) (s : State) : Out :=
  kcs r g (encB 0x03 g a.val off) [] (fun p s =>
    let v := p.sreg a.val - 1
    let q := p.setS a.val v
    s.setProg r.val (if v ≠ 0 then branch q off else q.next 1)) s

/-- JZ: PC moves by OFF when sA is zero. -/
def execJz (r : Fin 132) (g : Guard) (a : Fin 32) (off : BitVec 32) (s : State) : Out :=
  kcs r g (encB 0x04 g a.val off) [] (fun p s =>
    s.setProg r.val (if p.sreg a.val = 0 then branch p off else p.next 1)) s

/-- JNZ: PC moves by OFF when sA is not zero. -/
def execJnz (r : Fin 132) (g : Guard) (a : Fin 32) (off : BitVec 32) (s : State) : Out :=
  kcs r g (encB 0x05 g a.val off) [] (fun p s =>
    s.setProg r.val (if p.sreg a.val ≠ 0 then branch p off else p.next 1)) s

/-- ADD: sA takes its operation on sB and sC (R373). -/
def execAdd (r : Fin 132) (g : Guard) (a b c : Fin 32) (s : State) : Out :=
  kcsReg r g (encR 0x10 g a.val b.val c.val 0) [] (fun p => p.setS a.val (p.sreg b.val + p.sreg c.val)) s

/-- SUB: sA takes its operation on sB and sC (R373). -/
def execSub (r : Fin 132) (g : Guard) (a b c : Fin 32) (s : State) : Out :=
  kcsReg r g (encR 0x11 g a.val b.val c.val 0) [] (fun p => p.setS a.val (p.sreg b.val - p.sreg c.val)) s

/-- MUL: sA takes its operation on sB and sC (R373). -/
def execMul (r : Fin 132) (g : Guard) (a b c : Fin 32) (s : State) : Out :=
  kcsReg r g (encR 0x12 g a.val b.val c.val 0) [] (fun p => p.setS a.val (p.sreg b.val * p.sreg c.val)) s

/-- MULHU: sA takes its operation on sB and sC (R373). -/
def execMulhu (r : Fin 132) (g : Guard) (a b c : Fin 32) (s : State) : Out :=
  kcsReg r g (encR 0x13 g a.val b.val c.val 0) [] (fun p => p.setS a.val (mulHi (p.sreg b.val) (p.sreg c.val))) s

/-- DIVU: sA takes its operation on sB and sC (R373). -/
def execDivu (r : Fin 132) (g : Guard) (a b c : Fin 32) (s : State) : Out :=
  kcsReg r g (encR 0x14 g a.val b.val c.val 0) [] (fun p => p.setS a.val (divU (p.sreg b.val) (p.sreg c.val))) s

/-- REMU: sA takes its operation on sB and sC (R373). -/
def execRemu (r : Fin 132) (g : Guard) (a b c : Fin 32) (s : State) : Out :=
  kcsReg r g (encR 0x15 g a.val b.val c.val 0) [] (fun p => p.setS a.val (remU (p.sreg b.val) (p.sreg c.val))) s

/-- AND: sA takes its operation on sB and sC (R373). -/
def execAnd (r : Fin 132) (g : Guard) (a b c : Fin 32) (s : State) : Out :=
  kcsReg r g (encR 0x16 g a.val b.val c.val 0) [] (fun p => p.setS a.val (p.sreg b.val &&& p.sreg c.val)) s

/-- OR: sA takes its operation on sB and sC (R373). -/
def execOr (r : Fin 132) (g : Guard) (a b c : Fin 32) (s : State) : Out :=
  kcsReg r g (encR 0x17 g a.val b.val c.val 0) [] (fun p => p.setS a.val (p.sreg b.val ||| p.sreg c.val)) s

/-- XOR: sA takes its operation on sB and sC (R373). -/
def execXor (r : Fin 132) (g : Guard) (a b c : Fin 32) (s : State) : Out :=
  kcsReg r g (encR 0x18 g a.val b.val c.val 0) [] (fun p => p.setS a.val (p.sreg b.val ^^^ p.sreg c.val)) s

/-- SHL: sA takes its operation on sB and sC (R373). -/
def execShl (r : Fin 132) (g : Guard) (a b c : Fin 32) (s : State) : Out :=
  kcsReg r g (encR 0x19 g a.val b.val c.val 0) [] (fun p => p.setS a.val (shl (p.sreg b.val) (p.sreg c.val))) s

/-- SHR: sA takes its operation on sB and sC (R373). -/
def execShr (r : Fin 132) (g : Guard) (a b c : Fin 32) (s : State) : Out :=
  kcsReg r g (encR 0x1A g a.val b.val c.val 0) [] (fun p => p.setS a.val (shr (p.sreg b.val) (p.sreg c.val))) s

/-- SRA: sA takes its operation on sB and sC (R373). -/
def execSra (r : Fin 132) (g : Guard) (a b c : Fin 32) (s : State) : Out :=
  kcsReg r g (encR 0x1B g a.val b.val c.val 0) [] (fun p => p.setS a.val (sra (p.sreg b.val) (p.sreg c.val))) s

/-- MINU: sA takes its operation on sB and sC (R373). -/
def execMinu (r : Fin 132) (g : Guard) (a b c : Fin 32) (s : State) : Out :=
  kcsReg r g (encR 0x1C g a.val b.val c.val 0) [] (fun p => p.setS a.val (minU (p.sreg b.val) (p.sreg c.val))) s

/-- MAXU: sA takes its operation on sB and sC (R373). -/
def execMaxu (r : Fin 132) (g : Guard) (a b c : Fin 32) (s : State) : Out :=
  kcsReg r g (encR 0x1D g a.val b.val c.val 0) [] (fun p => p.setS a.val (maxU (p.sreg b.val) (p.sreg c.val))) s

/-- MIN: sA takes its operation on sB and sC (R373). -/
def execMin (r : Fin 132) (g : Guard) (a b c : Fin 32) (s : State) : Out :=
  kcsReg r g (encR 0x1E g a.val b.val c.val 0) [] (fun p => p.setS a.val (minS (p.sreg b.val) (p.sreg c.val))) s

/-- MAX: sA takes its operation on sB and sC (R373). -/
def execMax (r : Fin 132) (g : Guard) (a b c : Fin 32) (s : State) : Out :=
  kcsReg r g (encR 0x1F g a.val b.val c.val 0) [] (fun p => p.setS a.val (maxS (p.sreg b.val) (p.sreg c.val))) s

/-- ADDI: sA takes its operation on sB and IMM. -/
def execAddi (r : Fin 132) (g : Guard) (a b : Fin 32) (imm : BitVec 38) (s : State) : Out :=
  kcsReg r g (encI 0x20 g 0 a.val b.val imm) [] (fun p => p.setS a.val (p.sreg b.val + immI imm)) s

/-- ANDI: sA takes its operation on sB and IMM. -/
def execAndi (r : Fin 132) (g : Guard) (a b : Fin 32) (imm : BitVec 38) (s : State) : Out :=
  kcsReg r g (encI 0x21 g 0 a.val b.val imm) [] (fun p => p.setS a.val (p.sreg b.val &&& immI imm)) s

/-- ORI: sA takes its operation on sB and IMM. -/
def execOri (r : Fin 132) (g : Guard) (a b : Fin 32) (imm : BitVec 38) (s : State) : Out :=
  kcsReg r g (encI 0x22 g 0 a.val b.val imm) [] (fun p => p.setS a.val (p.sreg b.val ||| immI imm)) s

/-- XORI: sA takes its operation on sB and IMM. -/
def execXori (r : Fin 132) (g : Guard) (a b : Fin 32) (imm : BitVec 38) (s : State) : Out :=
  kcsReg r g (encI 0x23 g 0 a.val b.val imm) [] (fun p => p.setS a.val (p.sreg b.val ^^^ immI imm)) s

/-- SHLI: sA takes sB shifted by IMM[5:0]. -/
def execShli (r : Fin 132) (g : Guard) (a b : Fin 32) (sh : Fin 64) (s : State) : Out :=
  kcsReg r g (encI 0x24 g 0 a.val b.val (BitVec.ofNat 38 sh.val)) [] (fun p => p.setS a.val (p.sreg b.val <<< sh.val)) s

/-- SHRI: sA takes sB shifted by IMM[5:0]. -/
def execShri (r : Fin 132) (g : Guard) (a b : Fin 32) (sh : Fin 64) (s : State) : Out :=
  kcsReg r g (encI 0x25 g 0 a.val b.val (BitVec.ofNat 38 sh.val)) [] (fun p => p.setS a.val (p.sreg b.val >>> sh.val)) s

/-- SRAI: sA takes sB shifted by IMM[5:0]. -/
def execSrai (r : Fin 132) (g : Guard) (a b : Fin 32) (sh : Fin 64) (s : State) : Out :=
  kcsReg r g (encI 0x26 g 0 a.val b.val (BitVec.ofNat 38 sh.val)) [] (fun p => p.setS a.val ((p.sreg b.val).sshiftRight sh.val)) s

/-- LI: sA takes IMM. -/
def execLi (r : Fin 132) (g : Guard) (a : Fin 32) (imm : BitVec 38) (s : State) : Out :=
  kcsReg r g (encI 0x27 g 0 a.val 0 imm) [] (fun p => p.setS a.val (immI imm)) s

/-- LIX: sA takes extension word 0. -/
def execLix (r : Fin 132) (g : Guard) (a : Fin 32) (w : W64) (s : State) : Out :=
  kcsReg r g (encI 0x28 g 1 a.val 0 0) [w] (fun p => p.setS a.val w) s

/-- SEL: sA takes sB when p[X] is 1, and sC otherwise. -/
def execSel (r : Fin 132) (g : Guard) (a b c : Fin 32) (x : Fin 8) (s : State) : Out :=
  kcsReg r g (encR 0x29 g a.val b.val c.val x.val) [] (fun p => p.setS a.val (if p.preg x.val then p.sreg b.val else p.sreg c.val)) s

/-- TIME: sA takes Sorrel TIME_NS. -/
def execTime (r : Fin 132) (g : Guard) (a : Fin 32) (s : State) : Out :=
  kcsReg r g (encR 0x2A g a.val 0 0 0) [] (fun p => p.setS a.val (BitVec.ofNat 64 s.now)) s

/-- RINFO's value (Table 10.6): the bound logical core, wherever the program runs (R479). -/
def rinfo (r : Nat) (p : Prog) (s : State) : Nat :=
  let sm := smRing r
  (if sm then r - 128 else r) + (if sm then 0 else r / 8) * 2 ^ 7 + s.ringCore r / 16 % 4 * 2 ^ 11 + s.ringCore r % 16 * 2 ^ 13 +
    b2n (p.restarts != 0) * 2 ^ 17 + b2n sm * 2 ^ 18 + p.ctx * 2 ^ 20 + p.entry.index * 2 ^ 32

/-- RINFO: sA takes the value of Table 10.6. -/
def execRinfo (r : Fin 132) (g : Guard) (a : Fin 32) (s : State) : Out :=
  kcs r g (encR 0x2B g a.val 0 0 0) [] (fun p s => s.setProg r.val ((p.setS a.val (BitVec.ofNat 64 (rinfo r.val p s))).next 1)) s

/-- CEQ: p[A] takes the relation of sB and sC. -/
def execCeq (r : Fin 132) (g : Guard) (a : Fin 8) (b c : Fin 32) (s : State) : Out :=
  kcsReg r g (encR 0x30 g a.val b.val c.val 0) [] (fun p => p.setP a.val (p.sreg b.val == p.sreg c.val)) s

/-- CNE: p[A] takes the relation of sB and sC. -/
def execCne (r : Fin 132) (g : Guard) (a : Fin 8) (b c : Fin 32) (s : State) : Out :=
  kcsReg r g (encR 0x31 g a.val b.val c.val 0) [] (fun p => p.setP a.val (p.sreg b.val != p.sreg c.val)) s

/-- CLTU: p[A] takes the relation of sB and sC. -/
def execCltu (r : Fin 132) (g : Guard) (a : Fin 8) (b c : Fin 32) (s : State) : Out :=
  kcsReg r g (encR 0x32 g a.val b.val c.val 0) [] (fun p => p.setP a.val ((p.sreg b.val).ult (p.sreg c.val))) s

/-- CLT: p[A] takes the relation of sB and sC. -/
def execClt (r : Fin 132) (g : Guard) (a : Fin 8) (b c : Fin 32) (s : State) : Out :=
  kcsReg r g (encR 0x33 g a.val b.val c.val 0) [] (fun p => p.setP a.val ((p.sreg b.val).slt (p.sreg c.val))) s

/-- CGEU: p[A] takes the relation of sB and sC. -/
def execCgeu (r : Fin 132) (g : Guard) (a : Fin 8) (b c : Fin 32) (s : State) : Out :=
  kcsReg r g (encR 0x34 g a.val b.val c.val 0) [] (fun p => p.setP a.val (!(p.sreg b.val).ult (p.sreg c.val))) s

/-- CGE: p[A] takes the relation of sB and sC. -/
def execCge (r : Fin 132) (g : Guard) (a : Fin 8) (b c : Fin 32) (s : State) : Out :=
  kcsReg r g (encR 0x35 g a.val b.val c.val 0) [] (fun p => p.setP a.val (!(p.sreg b.val).slt (p.sreg c.val))) s

/-- CEQI: p[A] takes the relation of sB and IMM. -/
def execCeqi (r : Fin 132) (g : Guard) (a : Fin 8) (b : Fin 32) (imm : BitVec 38) (s : State) : Out :=
  kcsReg r g (encI 0x36 g 0 a.val b.val imm) [] (fun p => p.setP a.val (p.sreg b.val == immI imm)) s

/-- CLTUI: p[A] takes the relation of sB and IMM. -/
def execCltui (r : Fin 132) (g : Guard) (a : Fin 8) (b : Fin 32) (imm : BitVec 38) (s : State) : Out :=
  kcsReg r g (encI 0x37 g 0 a.val b.val imm) [] (fun p => p.setP a.val ((p.sreg b.val).ult (immI imm))) s

/-- PAND: p[A] takes its operation on p[B] and p[C]. -/
def execPand (r : Fin 132) (g : Guard) (a b c : Fin 8) (s : State) : Out :=
  kcsReg r g (encR 0x38 g a.val b.val c.val 0) [] (fun p => p.setP a.val (p.preg b.val && p.preg c.val)) s

/-- POR: p[A] takes its operation on p[B] and p[C]. -/
def execPor (r : Fin 132) (g : Guard) (a b c : Fin 8) (s : State) : Out :=
  kcsReg r g (encR 0x39 g a.val b.val c.val 0) [] (fun p => p.setP a.val (p.preg b.val || p.preg c.val)) s

/-- PXOR: p[A] takes its operation on p[B] and p[C]. -/
def execPxor (r : Fin 132) (g : Guard) (a b c : Fin 8) (s : State) : Out :=
  kcsReg r g (encR 0x3A g a.val b.val c.val 0) [] (fun p => p.setP a.val (p.preg b.val != p.preg c.val)) s

/-- PANDN: p[A] takes its operation on p[B] and p[C]. -/
def execPandn (r : Fin 132) (g : Guard) (a b c : Fin 8) (s : State) : Out :=
  kcsReg r g (encR 0x3B g a.val b.val c.val 0) [] (fun p => p.setP a.val (p.preg b.val && !p.preg c.val)) s

/-- PSET: p[A] says whether sB is not zero. -/
def execPset (r : Fin 132) (g : Guard) (a : Fin 8) (b : Fin 32) (s : State) : Out :=
  kcsReg r g (encR 0x3C g a.val b.val 0 0) [] (fun p => p.setP a.val (p.sreg b.val != 0)) s

/-- DLD: dA takes the 64 bytes at VA sB; a misaligned address is a runtime MALFORMED. -/
def execDld (r : Fin 132) (g : Guard) (a : Fin 16) (b : Fin 32) (s : State) : Out :=
  kcs r g (encR 0x40 g a.val b.val 0 0) [] (fun p s =>
    let va := vaOf r.val (p.sreg b.val)
    if va % 64 ≠ 0 then endAt r.val 0x50 0 p s
    else access r.val p s (ringRead r.val p.ctx va 64 s) (fun d s =>
      s.setProg r.val ((p.setD a.val ((List.range 8).map (fun i => BitVec.ofNat 64 (ofLeBytes (slice 0 d (8 * i) 8))))).next 1))) s

/-- DST: the 64 bytes at VA sB take dA. -/
def execDst (r : Fin 132) (g : Guard) (a : Fin 16) (b : Fin 32) (s : State) : Out :=
  kcs r g (encR 0x41 g a.val b.val 0 0) [] (fun p s =>
    let va := vaOf r.val (p.sreg b.val)
    if va % 64 ≠ 0 then endAt r.val 0x50 0 p s
    else access r.val p s (ringWrite r.val p.ctx va ((p.dreg a.val).flatMap (fun w => leBytes 8 w.toNat)) s)
      (fun _ s => s.setProg r.val (p.next 1))) s

/-- DGET: sA takes field X of dB. -/
def execDget (r : Fin 132) (g : Guard) (a : Fin 32) (b : Fin 16) (x : Fin 8) (s : State) : Out :=
  kcsReg r g (encR 0x42 g a.val b.val 0 x.val) [] (fun p => p.setS a.val ((p.dreg b.val).getD x.val 0)) s

/-- DSET: field X of dA takes sB. -/
def execDset (r : Fin 132) (g : Guard) (a : Fin 16) (b : Fin 32) (x : Fin 8) (s : State) : Out :=
  kcsReg r g (encR 0x43 g a.val b.val 0 x.val) [] (fun p => p.setD a.val ((p.dreg a.val).set x.val (p.sreg b.val))) s

/-- DSETI: field B of dA takes IMM. -/
def execDseti (r : Fin 132) (g : Guard) (a : Fin 16) (b : Fin 8) (imm : BitVec 38) (s : State) : Out :=
  kcsReg r g (encI 0x44 g 0 a.val b.val imm) [] (fun p => p.setD a.val ((p.dreg a.val).set b.val (immI imm))) s

/-- DSETX: fields B to B + EXT − 1 of dA take the extension words, one to three of them. -/
def execDsetx (r : Fin 132) (g : Guard) (a : Fin 16) (b : Fin 8) (ws : List W64) (s : State) : Out :=
  if ws.length = 0 ∨ 3 < ws.length ∨ 8 < b.val + ws.length then .refused .illFormed
  else kcsReg r g (encI 0x45 g ws.length a.val b.val 0) ws (fun p =>
    p.setD a.val ((p.dreg a.val).take b.val ++ ws ++ (p.dreg a.val).drop (b.val + ws.length))) s

/-- DCLR: dA becomes zero. -/
def execDclr (r : Fin 132) (g : Guard) (a : Fin 16) (s : State) : Out :=
  kcsReg r g (encR 0x46 g a.val 0 0 0) [] (fun p => p.setD a.val (List.replicate 8 0)) s

/-- DMOV: dA takes dB. -/
def execDmov (r : Fin 132) (g : Guard) (a b : Fin 16) (s : State) : Out :=
  kcsReg r g (encR 0x47 g a.val b.val 0 0) [] (fun p => p.setD a.val (p.dreg b.val)) s

/-- A load of SZ bytes at VA sB + IMM: misaligned, it is a runtime MALFORMED (R374). -/
def loadOp (r : Fin 132) (g : Guard) (opc : Nat) (signed : Bool) (a b : Fin 32) (sz : Fin 4) (imm : BitVec 36) (s : State) : Out :=
  kcs r g (encM opc g a.val b.val sz.val imm) [] (fun p s =>
    let n := 2 ^ sz.val
    let va := vaOf r.val (p.sreg b.val + immM imm)
    if va % n ≠ 0 then endAt r.val 0x50 0 p s
    else access r.val p s (ringRead r.val p.ctx va n s) (fun d s =>
      let v := ofLeBytes d
      let v := if signed && bit v (8 * n - 1) then v + (2 ^ 64 - 2 ^ (8 * n)) else v
      s.setProg r.val ((p.setS a.val (BitVec.ofNat 64 v)).next 1))) s

/-- LD: sA takes SZ bytes at VA sB + IMM, zero-extended. -/
def execLd (r : Fin 132) (g : Guard) (a b : Fin 32) (sz : Fin 4) (imm : BitVec 36) (s : State) : Out :=
  loadOp r g 0x50 false a b sz imm s

/-- LDS: as LD, sign-extended. -/
def execLds (r : Fin 132) (g : Guard) (a b : Fin 32) (sz : Fin 4) (imm : BitVec 36) (s : State) : Out :=
  loadOp r g 0x51 true a b sz imm s

/-- ST: SZ bytes at VA sB + IMM take the low bytes of sA. -/
def execSt (r : Fin 132) (g : Guard) (a b : Fin 32) (sz : Fin 4) (imm : BitVec 36) (s : State) : Out :=
  kcs r g (encM 0x52 g a.val b.val sz.val imm) [] (fun p s =>
    let n := 2 ^ sz.val
    let va := vaOf r.val (p.sreg b.val + immM imm)
    if va % n ≠ 0 then endAt r.val 0x50 0 p s
    else access r.val p s (ringWrite r.val p.ctx va (leBytes n (p.sreg a.val).toNat) s)
      (fun _ s => s.setProg r.val (p.next 1))) s

/-- KCS_ATOM: an atomic at VA sB with operand sC; CAS compares with sA; sA takes the old value (R374). -/
def execKcsAtom (r : Fin 132) (g : Guard) (a b c : Fin 32) (op : Fin 8) (wide : Bool) (s : State) : Out :=
  kcs r g (encR 0x53 g a.val b.val c.val (op.val + b2n wide * 16)) [] (fun p s =>
    let n := if wide then 8 else 4
    let va := vaOf r.val (p.sreg b.val)
    if va % n ≠ 0 then endAt r.val 0x50 0 p s
    else
      let x := (p.sreg c.val).toNat
      let (m1, m2) := if op.val = 2 then ((p.sreg a.val).toNat, x) else (x, 0)
      access r.val p s (ringAtomic r.val p.ctx va op.val (b2n wide) m1 m2 s) (fun d s =>
        s.setProg r.val ((p.setS a.val (BitVec.ofNat 64 (ofLeBytes d))).next 1))) s

/-- Bytes of a core's local store; an unlisted byte is zero (R364). -/
def storeRead (m : List Host.Cell) (a n : Nat) : Nat :=
  ofLeBytes ((List.range n).map (fun i => cellRead m ((a + i) % 65536)))

/-- Bytes written to a core's local store. -/
def storeWrite (m : List Host.Cell) (a n v : Nat) : List Host.Cell :=
  (List.range n).foldl (fun m i => cellWrite m ((a + i) % 65536) (BitVec.ofNat 8 (v / 256 ^ i % 256))) m

/-- LSLD: sA takes SZ bytes of local store at (sB + IMM) mod 65,536. -/
def execLsld (r : Fin 132) (g : Guard) (a b : Fin 32) (sz : Fin 4) (imm : BitVec 36) (s : State) : Out :=
  kcs r g (encM 0x56 g a.val b.val sz.val imm) [] (fun p s =>
    let v := storeRead (s.core p.core).store ((p.sreg b.val + immM imm).toNat % 65536) (2 ^ sz.val)
    s.setProg r.val ((p.setS a.val (BitVec.ofNat 64 v)).next 1)) s

/-- LSST: SZ bytes of local store take sA. -/
def execLsst (r : Fin 132) (g : Guard) (a b : Fin 32) (sz : Fin 4) (imm : BitVec 36) (s : State) : Out :=
  kcs r g (encM 0x57 g a.val b.val sz.val imm) [] (fun p s =>
    let c := s.core p.core
    let m := storeWrite c.store ((p.sreg b.val + immM imm).toNat % 65536) (2 ^ sz.val) (p.sreg a.val).toNat
    (s.setCore p.core { c with store := m }).setProg r.val (p.next 1)) s

/-- CTXSET: CTX takes sB[11:0]. -/
def execCtxset (r : Fin 132) (g : Guard) (b : Fin 32) (s : State) : Out :=
  kcsReg r g (encR 0x58 g 0 b.val 0 0) [] (fun p => { p with ctx := (p.sreg b.val).toNat % 4096 }) s

/-- WAIT: it stalls until tally T is DONE and consumes it; an IDLE tally lets it return at once (R381). -/
def execWait (r : Fin 132) (g : Guard) (t : Fin 16) (a : Fin 32) (noend : Bool) (s : State) : Out :=
  kcs r g (encU 0x90 g 0 0 t.val a.val 0 0 (b2n noend)) [] (fun p s =>
    let x := p.tally t.val
    s.setProg r.val
      (if x.st = 0 then (if noend then p.setS a.val (BitVec.ofNat 64 x.value) else p).next 1
       else { p with stall := .wait t.val noend a.val }.wake)) s

/-- WAITANY: it stalls until a tally of the mask is DONE, consumes the lowest and gives its number (R381). -/
def execWaitany (r : Fin 132) (g : Guard) (a : Fin 32) (m : BitVec 16) (s : State) : Out :=
  kcs r g (encU 0x91 g 0 0 0 a.val 0 0 m.toNat) [] (fun p s =>
    s.setProg r.val { p with stall := .waitAny m.toNat a.val }.wake) s

/-- TST: sA takes the status of tally T, which is not consumed. -/
def execTst (r : Fin 132) (g : Guard) (t : Fin 16) (a : Fin 32) (s : State) : Out :=
  kcsReg r g (encU 0x92 g 0 0 t.val a.val 0 0 0) [] (fun p => p.setS a.val (BitVec.ofNat 64 (p.tally t.val).value)) s

/-- FENCE: every earlier synchronous access has performed, since each one performs in its own step (R375). -/
def execFence (r : Fin 132) (g : Guard) (s : State) : Out :=
  kcsReg r g (encR 0x93 g 0 0 0 0) [] id s

/-- EVRAISE: it raises program event n of the ring (R405). -/
def execEvraise (r : Fin 132) (g : Guard) (n : Fin 16) (s : State) : Out :=
  kcs r g (encI 0x98 g 0 0 0 (BitVec.ofNat 38 n.val)) [] (fun p s =>
    (if smRing r.val then id else raisePart (r.val / 8) ⟨Ev.PROGRAM + n.val, r.val / 8, r.val, p.entry.index, 0⟩)
      (s.setProg r.val (p.next 1))) s

/-- EVTIME: it waits until Sorrel time reaches sB (R405). -/
def execEvtime (r : Fin 132) (g : Guard) (b : Fin 32) (s : State) : Out :=
  kcs r g (encR 0x99 g 0 b.val 0 0) [] (fun p s =>
    let t := (p.sreg b.val).toNat
    s.setProg r.val (if t ≤ s.now then p.next 1 else { p with stall := .time t })) s

/-- EVTIME_REACHED: the program goes on once Sorrel time has reached the awaited value (R405). -/
def execEvtimeReached (r : Fin 132) (s : State) : Out :=
  .next (onProg r.val (fun p =>
    match p.stall with
    | .time t => if t ≤ s.now then p.next 1 else p
    | _ => p) s)

end Sys2Proof.Machine
end

