-- ==== Sys2Proof/Machine/Dispatch.lean ====
section
/-! DEFINITION. The one match from a command to its meaning. -/

namespace Sys2Proof.Machine

/-- The effect of one command on everything but the queue: one arm per row of the command table. -/
def exec (i : Instr) (s : State) : Host.Outcome State Fault Refusal :=
  match i with
  | .registerWrite path off wide v e lost => Sys2Proof.Machine.execRegisterWrite path off wide v e lost s
  | .lowerHalfRead path off wide => Sys2Proof.Machine.execLowerHalfRead path off wide s
  | .vddAonApply => Sys2Proof.Machine.execVddAonApply s
  | .porstNFall => Sys2Proof.Machine.execPorstNFall s
  | .porstNRise testMode strap => Sys2Proof.Machine.execPorstNRise testMode strap s
  | .wrstNPulse cycles => Sys2Proof.Machine.execWrstNPulse cycles s
  | .mrstNPulse cycles => Sys2Proof.Machine.execMrstNPulse cycles s
  | .warmResetRequest lost => Sys2Proof.Machine.execWarmResetRequest lost s
  | .mrwResetRequest lost => Sys2Proof.Machine.execMrwResetRequest lost s
  | .pciePerstNAssert => Sys2Proof.Machine.execPciePerstNAssert s
  | .prsIlkInFall => Sys2Proof.Machine.execPrsIlkInFall s
  | .vddIo33Loss => Sys2Proof.Machine.execVddIo33Loss s
  | .crystalStop => Sys2Proof.Machine.execCrystalStop s
  | .thermalTrip => Sys2Proof.Machine.execThermalTrip s
  | .undervoltage rail => Sys2Proof.Machine.execUndervoltage rail s
  | .smWatchdogExpiry => Sys2Proof.Machine.execSmWatchdogExpiry s
  | .resetPrologueDone => Sys2Proof.Machine.execResetPrologueDone s
  | .mrwPrologueTimeout => Sys2Proof.Machine.execMrwPrologueTimeout s
  | .islandReset n => Sys2Proof.Machine.execIslandReset n s
  | .partitionReset p => Sys2Proof.Machine.execPartitionReset p s
  | .firmwareImageLoaded flash erase keysOk => Sys2Proof.Machine.execFirmwareImageLoaded flash erase keysOk s
  | .selfTestComplete engines cores rows => Sys2Proof.Machine.execSelfTestComplete engines cores rows s
  | .fabricReady held => Sys2Proof.Machine.execFabricReady held s
  | .memRequestHoldExpiry n => Sys2Proof.Machine.execMemRequestHoldExpiry n s
  | .atomWindowEnd => Sys2Proof.Machine.execAtomWindowEnd s
  | .avsbusAck up => Sys2Proof.Machine.execAvsbusAck up s
  | .avsCommandTimeout => Sys2Proof.Machine.execAvsCommandTimeout s
  | .synEnable sm n => Sys2Proof.Machine.execSynEnable sm n s
  | .synDisable sm n => Sys2Proof.Machine.execSynDisable sm n s
  | .synConfigWrite sm n reg v => Sys2Proof.Machine.execSynConfigWrite sm n reg v s
  | .synCtlStewardWrite n v => Sys2Proof.Machine.execSynCtlStewardWrite n v s
  | .synCtlSmApply n => Sys2Proof.Machine.execSynCtlSmApply n s
  | .synLockDeclared n => Sys2Proof.Machine.execSynLockDeclared n s
  | .synLossOfLock n => Sys2Proof.Machine.execSynLossOfLock n s
  | .synLossOfReference n => Sys2Proof.Machine.execSynLossOfReference n s
  | .synRelock n => Sys2Proof.Machine.execSynRelock n s
  | .monitorWindowEnd n count lockSame => Sys2Proof.Machine.execMonitorWindowEnd n count lockSame s
  | .synCoastLimit n => Sys2Proof.Machine.execSynCoastLimit n s
  | .syn11LockTimeout => Sys2Proof.Machine.execSyn11LockTimeout s
  | .refclkReturn => Sys2Proof.Machine.execRefclkReturn s
  | .clkoutWrite n v => Sys2Proof.Machine.execClkoutWrite n v s
  | .quadrantHoldExpiry q => Sys2Proof.Machine.execQuadrantHoldExpiry q s
  | .quadrantQuiesced q => Sys2Proof.Machine.execQuadrantQuiesced q s
  | .quadrantRecentreDone q => Sys2Proof.Machine.execQuadrantRecentreDone q s
  | .lineRead line errs l2bad => Sys2Proof.Machine.execLineRead line errs l2bad s
  | .lineWrite line data => Sys2Proof.Machine.execLineWrite line data s
  | .partialLineWrite line mask data => Sys2Proof.Machine.execPartialLineWrite line mask data s
  | .lazyCleanVisit => Sys2Proof.Machine.execLazyCleanVisit s
  | .patrolScrubRead errs => Sys2Proof.Machine.execPatrolScrubRead errs s
  | .mcCmdRetire ch v => Sys2Proof.Machine.execMcCmdRetire ch v s
  | .softPprDone n => Sys2Proof.Machine.execSoftPprDone n s
  | .hardPprCmd v => Sys2Proof.Machine.execHardPprCmd v s
  | .hardPprDone => Sys2Proof.Machine.execHardPprDone s
  | .rcdAlert ch replayOk lostTraining => Sys2Proof.Machine.execRcdAlert ch replayOk lostTraining s
  | .channelRetrainDone ch ok => Sys2Proof.Machine.execChannelRetrainDone ch ok s
  | .memoryStart pops => Sys2Proof.Machine.execMemoryStart pops s
  | .channelTrainingDone ch ok => Sys2Proof.Machine.execChannelTrainingDone ch ok s
  | .gtEntryRewrite g bad => Sys2Proof.Machine.execGtEntryRewrite g bad s
  | .violationAggregate => Sys2Proof.Machine.execViolationAggregate s
  | .inv k p => Sys2Proof.Machine.execInv k p s
  | .pwInvSubmit p w3 => Sys2Proof.Machine.execPwInvSubmit p w3 s
  | .invalidationAck p => Sys2Proof.Machine.execInvalidationAck p s
  | .pwXltCtxWrite p v => Sys2Proof.Machine.execPwXltCtxWrite p v s
  | .granuleReleaseComplete g => Sys2Proof.Machine.execGranuleReleaseComplete g s
  | .teardownDrainComplete p => Sys2Proof.Machine.execTeardownDrainComplete p s
  | .regionWithdrawComplete r => Sys2Proof.Machine.execRegionWithdrawComplete r s
  | .flitReceive k b fecOk fec stamp turn => Sys2Proof.Machine.execFlitReceive k b fecOk fec stamp turn s
  | .nakReceive k ack => Sys2Proof.Machine.execNakReceive k ack s
  | .fastRetrainDone k => Sys2Proof.Machine.execFastRetrainDone k s
  | .fastRetrainTimeout k => Sys2Proof.Machine.execFastRetrainTimeout k s
  | .errorWindowEnd k more => Sys2Proof.Machine.execErrorWindowEnd k more s
  | .partnerLoss k err => Sys2Proof.Machine.execPartnerLoss k err s
  | .holdoffExpiry k => Sys2Proof.Machine.execHoldoffExpiry k s
  | .lrst n => Sys2Proof.Machine.execLrst n s
  | .groupEnClear n => Sys2Proof.Machine.execGroupEnClear n s
  | .linkDetect k sig => Sys2Proof.Machine.execLinkDetect k sig s
  | .equalizationDone k => Sys2Proof.Machine.execEqualizationDone k s
  | .laneTestDone k good => Sys2Proof.Machine.execLaneTestDone k good s
  | .trainConfig k m => Sys2Proof.Machine.execTrainConfig k m s
  | .lcfSend k => Sys2Proof.Machine.execLcfSend k s
  | .linkKeysInstalled k secret => Sys2Proof.Machine.execLinkKeysInstalled k secret s
  | .keyUpdate k secret => Sys2Proof.Machine.execKeyUpdate k secret s
  | .rd k p => Sys2Proof.Machine.execRd k p s
  | .wr k p => Sys2Proof.Machine.execWr k p s
  | .wrp k p => Sys2Proof.Machine.execWrp k p s
  | .atom k p => Sys2Proof.Machine.execAtom k p s
  | .forwardPacket k p => Sys2Proof.Machine.execForwardPacket k p s
  | .rspData k p => Sys2Proof.Machine.execRspData k p s
  | .requestRetryTimeout tag => Sys2Proof.Machine.execRequestRetryTimeout tag s
  | .hello k p => Sys2Proof.Machine.execHello k p s
  | .claim k p => Sys2Proof.Machine.execClaim k p s
  | .dup k p => Sys2Proof.Machine.execDup k p s
  | .quietExpiry => Sys2Proof.Machine.execQuietExpiry s
  | .report k p => Sys2Proof.Machine.execReport k p s
  | .reportDone k p => Sys2Proof.Machine.execReportDone k p s
  | .assign k p => Sys2Proof.Machine.execAssign k p s
  | .beaconTick => Sys2Proof.Machine.execBeaconTick s
  | .beacon k p => Sys2Proof.Machine.execBeacon k p s
  | .beaconTimeout => Sys2Proof.Machine.execBeaconTimeout s
  | .deadMarkExpiry u => Sys2Proof.Machine.execDeadMarkExpiry u s
  | .parentLinkDown => Sys2Proof.Machine.execParentLinkDown s
  | .priorityWrite v => Sys2Proof.Machine.execPriorityWrite v s
  | .syncIntTick stamp => Sys2Proof.Machine.execSyncIntTick stamp s
  | .syncReq k p stamp turn => Sys2Proof.Machine.execSyncReq k p stamp turn s
  | .syncRsp k p stamp => Sys2Proof.Machine.execSyncRsp k p stamp s
  | .sorrelHoldoverTimeout => Sys2Proof.Machine.execSorrelHoldoverTimeout s
  | .topoSrlSet v => Sys2Proof.Machine.execTopoSrlSet v s
  | .ringEnable r ctx size => Sys2Proof.Machine.execRingEnable r ctx size s
  | .ringDisable r => Sys2Proof.Machine.execRingDisable r s
  | .ringConfigWrite r reg v => Sys2Proof.Machine.execRingConfigWrite r reg v s
  | .ringBindWrite n v => Sys2Proof.Machine.execRingBindWrite n v s
  | .doorbell r t => Sys2Proof.Machine.execDoorbell r t s
  | .fabricDoorbell k p => Sys2Proof.Machine.execFabricDoorbell k p s
  | .entryFetch r host => Sys2Proof.Machine.execEntryFetch r host s
  | .programStart r sm => Sys2Proof.Machine.execProgramStart r sm s
  | .programEnd r dmaFail => Sys2Proof.Machine.execProgramEnd r dmaFail s
  | .completionInterrupt r => Sys2Proof.Machine.execCompletionInterrupt r s
  | .cqHeadWrite r v => Sys2Proof.Machine.execCqHeadWrite r v s
  | .ringResume r => Sys2Proof.Machine.execRingResume r s
  | .ringFlush r host => Sys2Proof.Machine.execRingFlush r host s
  | .stewardHold n => Sys2Proof.Machine.execStewardHold n s
  | .stewardRelease n => Sys2Proof.Machine.execStewardRelease n s
  | .nop r g => Sys2Proof.Machine.execNop r g s
  | .kcsEnd r g => Sys2Proof.Machine.execKcsEnd r g s
  | .jmp r g off => Sys2Proof.Machine.execJmp r g off s
  | .loop r g a off => Sys2Proof.Machine.execLoop r g a off s
  | .jz r g a off => Sys2Proof.Machine.execJz r g a off s
  | .jnz r g a off => Sys2Proof.Machine.execJnz r g a off s
  | .add r g a b c => Sys2Proof.Machine.execAdd r g a b c s
  | .sub r g a b c => Sys2Proof.Machine.execSub r g a b c s
  | .mul r g a b c => Sys2Proof.Machine.execMul r g a b c s
  | .mulhu r g a b c => Sys2Proof.Machine.execMulhu r g a b c s
  | .divu r g a b c => Sys2Proof.Machine.execDivu r g a b c s
  | .remu r g a b c => Sys2Proof.Machine.execRemu r g a b c s
  | .and r g a b c => Sys2Proof.Machine.execAnd r g a b c s
  | .or r g a b c => Sys2Proof.Machine.execOr r g a b c s
  | .xor r g a b c => Sys2Proof.Machine.execXor r g a b c s
  | .shl r g a b c => Sys2Proof.Machine.execShl r g a b c s
  | .shr r g a b c => Sys2Proof.Machine.execShr r g a b c s
  | .sra r g a b c => Sys2Proof.Machine.execSra r g a b c s
  | .minu r g a b c => Sys2Proof.Machine.execMinu r g a b c s
  | .maxu r g a b c => Sys2Proof.Machine.execMaxu r g a b c s
  | .min r g a b c => Sys2Proof.Machine.execMin r g a b c s
  | .max r g a b c => Sys2Proof.Machine.execMax r g a b c s
  | .addi r g a b imm => Sys2Proof.Machine.execAddi r g a b imm s
  | .andi r g a b imm => Sys2Proof.Machine.execAndi r g a b imm s
  | .ori r g a b imm => Sys2Proof.Machine.execOri r g a b imm s
  | .xori r g a b imm => Sys2Proof.Machine.execXori r g a b imm s
  | .shli r g a b sh => Sys2Proof.Machine.execShli r g a b sh s
  | .shri r g a b sh => Sys2Proof.Machine.execShri r g a b sh s
  | .srai r g a b sh => Sys2Proof.Machine.execSrai r g a b sh s
  | .li r g a imm => Sys2Proof.Machine.execLi r g a imm s
  | .lix r g a w => Sys2Proof.Machine.execLix r g a w s
  | .sel r g a b c x => Sys2Proof.Machine.execSel r g a b c x s
  | .time r g a => Sys2Proof.Machine.execTime r g a s
  | .rinfo r g a => Sys2Proof.Machine.execRinfo r g a s
  | .ceq r g a b c => Sys2Proof.Machine.execCeq r g a b c s
  | .cne r g a b c => Sys2Proof.Machine.execCne r g a b c s
  | .cltu r g a b c => Sys2Proof.Machine.execCltu r g a b c s
  | .clt r g a b c => Sys2Proof.Machine.execClt r g a b c s
  | .cgeu r g a b c => Sys2Proof.Machine.execCgeu r g a b c s
  | .cge r g a b c => Sys2Proof.Machine.execCge r g a b c s
  | .ceqi r g a b imm => Sys2Proof.Machine.execCeqi r g a b imm s
  | .cltui r g a b imm => Sys2Proof.Machine.execCltui r g a b imm s
  | .pand r g a b c => Sys2Proof.Machine.execPand r g a b c s
  | .por r g a b c => Sys2Proof.Machine.execPor r g a b c s
  | .pxor r g a b c => Sys2Proof.Machine.execPxor r g a b c s
  | .pandn r g a b c => Sys2Proof.Machine.execPandn r g a b c s
  | .pset r g a b => Sys2Proof.Machine.execPset r g a b s
  | .dld r g a b => Sys2Proof.Machine.execDld r g a b s
  | .dst r g a b => Sys2Proof.Machine.execDst r g a b s
  | .dget r g a b x => Sys2Proof.Machine.execDget r g a b x s
  | .dset r g a b x => Sys2Proof.Machine.execDset r g a b x s
  | .dseti r g a b imm => Sys2Proof.Machine.execDseti r g a b imm s
  | .dsetx r g a b ws => Sys2Proof.Machine.execDsetx r g a b ws s
  | .dclr r g a => Sys2Proof.Machine.execDclr r g a s
  | .dmov r g a b => Sys2Proof.Machine.execDmov r g a b s
  | .ld r g a b sz imm => Sys2Proof.Machine.execLd r g a b sz imm s
  | .lds r g a b sz imm => Sys2Proof.Machine.execLds r g a b sz imm s
  | .st r g a b sz imm => Sys2Proof.Machine.execSt r g a b sz imm s
  | .kcsAtom r g a b c op wide => Sys2Proof.Machine.execKcsAtom r g a b c op wide s
  | .copy r g da t => Sys2Proof.Machine.execCopy r g da t s
  | .fill r g da t => Sys2Proof.Machine.execFill r g da t s
  | .lsld r g a b sz imm => Sys2Proof.Machine.execLsld r g a b sz imm s
  | .lsst r g a b sz imm => Sys2Proof.Machine.execLsst r g a b sz imm s
  | .ctxset r g b => Sys2Proof.Machine.execCtxset r g b s
  | .plopen r g da a => Sys2Proof.Machine.execPlopen r g da a s
  | .plread r g da a f => Sys2Proof.Machine.execPlread r g da a f s
  | .plskip r g da a => Sys2Proof.Machine.execPlskip r g da a s
  | .plemit r g t a b c => Sys2Proof.Machine.execPlemit r g t a b c s
  | .plend r g t => Sys2Proof.Machine.execPlend r g t s
  | .hgemm r g da t => Sys2Proof.Machine.execHgemm r g da t s
  | .hsmax r g da t => Sys2Proof.Machine.execHsmax r g da t s
  | .helt r g da t => Sys2Proof.Machine.execHelt r g da t s
  | .attn r g da db t => Sys2Proof.Machine.execAttn r g da db t s
  | .amerge r g da t => Sys2Proof.Machine.execAmerge r g da t s
  | .rdraw r g da t lost => Sys2Proof.Machine.execRdraw r g da t lost s
  | .rclear r g da t lost => Sys2Proof.Machine.execRclear r g da t lost s
  | .rcommit r g da a lost => Sys2Proof.Machine.execRcommit r g da a lost s
  | .pqueue r g da t lost => Sys2Proof.Machine.execPqueue r g da t lost s
  | .pcancel r g a lost => Sys2Proof.Machine.execPcancel r g a lost s
  | .pengine r g a lost => Sys2Proof.Machine.execPengine r g a lost s
  | .pstat r g a => Sys2Proof.Machine.execPstat r g a s
  | .tload r g da t a lost => Sys2Proof.Machine.execTload r g da t a lost s
  | .tset r g a b lost => Sys2Proof.Machine.execTset r g a b lost s
  | .tctl r g a b lost => Sys2Proof.Machine.execTctl r g a b lost s
  | .tcap r g da t lost => Sys2Proof.Machine.execTcap r g da t lost s
  | .wait r g t a noend => Sys2Proof.Machine.execWait r g t a noend s
  | .waitany r g a m => Sys2Proof.Machine.execWaitany r g a m s
  | .tst r g t a => Sys2Proof.Machine.execTst r g t a s
  | .fence r g => Sys2Proof.Machine.execFence r g s
  | .evraise r g n => Sys2Proof.Machine.execEvraise r g n s
  | .evtime r g b => Sys2Proof.Machine.execEvtime r g b s
  | .evtimeReached r => Sys2Proof.Machine.execEvtimeReached r s
  | .pform r g b => Sys2Proof.Machine.execPform r g b s
  | .pseal r g b => Sys2Proof.Machine.execPseal r g b s
  | .prst r g b => Sys2Proof.Machine.execPrst r g b s
  | .ptear r g t a => Sys2Proof.Machine.execPtear r g t a s
  | .gassign r g b c => Sys2Proof.Machine.execGassign r g b c s
  | .grelease r g t a => Sys2Proof.Machine.execGrelease r g t a s
  | .rcreate r g b => Sys2Proof.Machine.execRcreate r g b s
  | .radd r g b c => Sys2Proof.Machine.execRadd r g b c s
  | .rpub r g b c => Sys2Proof.Machine.execRpub r g b c s
  | .rreaders r g b c => Sys2Proof.Machine.execRreaders r g b c s
  | .rwdraw r g t a => Sys2Proof.Machine.execRwdraw r g t a s
  | .lease r g b c => Sys2Proof.Machine.execLease r g b c s
  | .logapp r g da t a => Sys2Proof.Machine.execLogapp r g da t a s
  | .sign r g da t => Sys2Proof.Machine.execSign r g da t s
  | .random r g a => Sys2Proof.Machine.execRandom r g a s
  | .tallyComplete r t => Sys2Proof.Machine.execTallyComplete r t s
  | .programRestart r => Sys2Proof.Machine.execProgramRestart r s
  | .taskDispatch cl eng => Sys2Proof.Machine.execTaskDispatch cl eng s
  | .tileTaskDone cl eng wrong differ => Sys2Proof.Machine.execTileTaskDone cl eng wrong differ s
  | .lockstepMismatch cl phys => Sys2Proof.Machine.execLockstepMismatch cl phys s
  | .stagingEccUe cl w => Sys2Proof.Machine.execStagingEccUe cl w s
  | .invoke k p => Sys2Proof.Machine.execInvoke k p s
  | .invokeTaken r => Sys2Proof.Machine.execInvokeTaken r s
  | .resultSend r => Sys2Proof.Machine.execResultSend r s
  | .spareSwitchIn cl hatch pass => Sys2Proof.Machine.execSpareSwitchIn cl hatch pass s
  | .clusterReturn cl => Sys2Proof.Machine.execClusterReturn cl s
  | .sramRowTest code inst row ue => Sys2Proof.Machine.execSramRowTest code inst row ue s
  | .sramRowTestDone code inst row pass => Sys2Proof.Machine.execSramRowTestDone code inst row pass s
  | .repairRecordWrite ok => Sys2Proof.Machine.execRepairRecordWrite ok s
  | .ownerClaim q anchor roots ok => Sys2Proof.Machine.execOwnerClaim q anchor roots ok s
  | .ownerSet q anchor roots ok => Sys2Proof.Machine.execOwnerSet q anchor roots ok s
  | .partForm q p => Sys2Proof.Machine.execPartForm q p s
  | .partSeal q p => Sys2Proof.Machine.execPartSeal q p s
  | .partReset q p => Sys2Proof.Machine.execPartReset q p s
  | .partTear q p => Sys2Proof.Machine.execPartTear q p s
  | .granAssign q p first count => Sys2Proof.Machine.execGranAssign q p first count s
  | .granRelease q first count => Sys2Proof.Machine.execGranRelease q first count s
  | .regionCreate q n => Sys2Proof.Machine.execRegionCreate q n s
  | .regionAdd q n first count => Sys2Proof.Machine.execRegionAdd q n first count s
  | .regionLoad q n off len host data => Sys2Proof.Machine.execRegionLoad q n off len host data s
  | .regionPublish q n readers => Sys2Proof.Machine.execRegionPublish q n readers s
  | .regionReaders q n readers => Sys2Proof.Machine.execRegionReaders q n readers s
  | .regionWithdraw q n => Sys2Proof.Machine.execRegionWithdraw q n s
  | .stewardLease q res holder => Sys2Proof.Machine.execStewardLease q res holder s
  | .violRead q p => Sys2Proof.Machine.execViolRead q p s
  | .violClear q p => Sys2Proof.Machine.execViolClear q p s
  | .repairRead q first => Sys2Proof.Machine.execRepairRead q first s
  | .repairDelete q type loc => Sys2Proof.Machine.execRepairDelete q type loc s
  | .regRead q off width => Sys2Proof.Machine.execRegRead q off width s
  | .regWrite q off width v e lost => Sys2Proof.Machine.execRegWrite q off width v e lost s
  | .mmioGrant q stream => Sys2Proof.Machine.execMmioGrant q stream s
  | .fwStage q off data => Sys2Proof.Machine.execFwStage q off data s
  | .fwCommit q second first => Sys2Proof.Machine.execFwCommit q second first s
  | .fwCommitSvn q => Sys2Proof.Machine.execFwCommitSvn q s
  | .tombstoneRead q => Sys2Proof.Machine.execTombstoneRead q s
  | .tombstoneClear q => Sys2Proof.Machine.execTombstoneClear q s
  | .nodeReset q code lost => Sys2Proof.Machine.execNodeReset q code lost s
  | .smbGo sess => Sys2Proof.Machine.execSmbGo sess s
  | .smbAbort => Sys2Proof.Machine.execSmbAbort s
  | .getMeasurements sess => Sys2Proof.Machine.execGetMeasurements sess s
  | .spdmFragment k p => Sys2Proof.Machine.execSpdmFragment k p s
  | .spdmSessionEstablished id transport link mutualAuth root digests => Sys2Proof.Machine.execSpdmSessionEstablished id transport link mutualAuth root digests s
  | .spdmSessionEnd id => Sys2Proof.Machine.execSpdmSessionEnd id s
  | .lockInterface sess p => Sys2Proof.Machine.execLockInterface sess p s
  | .getDeviceInterfaceReport sess p => Sys2Proof.Machine.execGetDeviceInterfaceReport sess p s
  | .startInterface sess p => Sys2Proof.Machine.execStartInterface sess p s
  | .stopInterface sess p => Sys2Proof.Machine.execStopInterface sess p s
  | .ideIntegrityFailure p => Sys2Proof.Machine.execIdeIntegrityFailure p s
  | .pwAdmitWrite p n j v => Sys2Proof.Machine.execPwAdmitWrite p n j v s
  | .trngHealthFailure => Sys2Proof.Machine.execTrngHealthFailure s
  | .keySlotUe slot => Sys2Proof.Machine.execKeySlotUe slot s
  | .logRecordAppend okA okB ceA ceB => Sys2Proof.Machine.execLogRecordAppend okA okB ceA ceB s
  | .checkpointSigned => Sys2Proof.Machine.execCheckpointSigned s
  | .tombstoneFinal => Sys2Proof.Machine.execTombstoneFinal s
  | .drainCopy okA okB dma ceA ceB => Sys2Proof.Machine.execDrainCopy okA okB dma ceA ceB s
  | .logDrainHeadWrite v => Sys2Proof.Machine.execLogDrainHeadWrite v s
  | .drainEnable size => Sys2Proof.Machine.execDrainEnable size s
  | .drainDisable => Sys2Proof.Machine.execDrainDisable s
  | .logRecords => Sys2Proof.Machine.execLogRecords s
  | .logStartRecords okA okB chainA chainB => Sys2Proof.Machine.execLogStartRecords okA okB chainA chainB s
  | .rasterTile => Sys2Proof.Machine.execRasterTile s
  | .bandRequest => Sys2Proof.Machine.execBandRequest s
  | .tileBufferUe => Sys2Proof.Machine.execTileBufferUe s
  | .rasThrDataWrite v => Sys2Proof.Machine.execRasThrDataWrite v s
  | .rasCtxOwnerWrite n v => Sys2Proof.Machine.execRasCtxOwnerWrite n v s
  | .dspEnable v => Sys2Proof.Machine.execDspEnable v s
  | .dspDisable => Sys2Proof.Machine.execDspDisable s
  | .dpLinkTrained ok => Sys2Proof.Machine.execDpLinkTrained ok s
  | .hdcpAuthentication ok rxid repeater => Sys2Proof.Machine.execHdcpAuthentication ok rxid repeater s
  | .dspAuxGo v reply => Sys2Proof.Machine.execDspAuxGo v reply s
  | .hpdUnplug => Sys2Proof.Machine.execHpdUnplug s
  | .irqHpd linkOk => Sys2Proof.Machine.execIrqHpd linkOk s
  | .dspRetryTimer => Sys2Proof.Machine.execDspRetryTimer s
  | .commitHandshake r => Sys2Proof.Machine.execCommitHandshake r s
  | .vblankLatch => Sys2Proof.Machine.execVblankLatch s
  | .engineConditionsMet => Sys2Proof.Machine.execEngineConditionsMet s
  | .engineConditionLost => Sys2Proof.Machine.execEngineConditionLost s
  | .pathEmpty => Sys2Proof.Machine.execPathEmpty s
  | .engineLost => Sys2Proof.Machine.execEngineLost s
  | .pickLatch => Sys2Proof.Machine.execPickLatch s
  | .imagingStart => Sys2Proof.Machine.execImagingStart s
  | .sensorEdge n high => Sys2Proof.Machine.execSensorEdge n high s
  | .jam => Sys2Proof.Machine.execJam s
  | .clutchActuation => Sys2Proof.Machine.execClutchActuation s
  | .spoil => Sys2Proof.Machine.execSpoil s
  | .sheetExit => Sys2Proof.Machine.execSheetExit s
  | .heartbeatTick erdy => Sys2Proof.Machine.execHeartbeatTick erdy s
  | .hvrefPwmPeriod k => Sys2Proof.Machine.execHvrefPwmPeriod k s
  | .hvLimit k => Sys2Proof.Machine.execHvLimit k s
  | .zcdEdge => Sys2Proof.Machine.execZcdEdge s
  | .fuserGateEnd k => Sys2Proof.Machine.execFuserGateEnd k s
  | .zcdLost => Sys2Proof.Machine.execZcdLost s
  | .otComparatorTrip k => Sys2Proof.Machine.execOtComparatorTrip k s
  | .otTripClear w high => Sys2Proof.Machine.execOtTripClear w high s
  | .hashPassDone => Sys2Proof.Machine.execHashPassDone s
  | .plateHashMismatch => Sys2Proof.Machine.execPlateHashMismatch s
  | .prsConfigWrite o v => Sys2Proof.Machine.execPrsConfigWrite o v s
  | .bdEdge k rising held cycles => Sys2Proof.Machine.execBdEdge k rising held cycles s
  | .bdWindowClose => Sys2Proof.Machine.execBdWindowClose s
  | .eosEdge cycles => Sys2Proof.Machine.execEosEdge cycles s
  | .lateLineData => Sys2Proof.Machine.execLateLineData s
  | .apcCapture b => Sys2Proof.Machine.execApcCapture b s
  | .apcUpdate b => Sys2Proof.Machine.execApcUpdate b s
  | .dryConfigWrite o v => Sys2Proof.Machine.execDryConfigWrite o v s
  | .adcConversionDone m v => Sys2Proof.Machine.execAdcConversionDone m v s
  | .adcCheck m half vss => Sys2Proof.Machine.execAdcCheck m half vss s
  | .tachEdge n => Sys2Proof.Machine.execTachEdge n s
  | .sampleInstant n => Sys2Proof.Machine.execSampleInstant n s
  | .slotStrobe n => Sys2Proof.Machine.execSlotStrobe n s
  | .outputApply n late => Sys2Proof.Machine.execOutputApply n late s
  | .slotStorageUe n => Sys2Proof.Machine.execSlotStorageUe n s
  | .evtQEnable part size ctx => Sys2Proof.Machine.execEvtQEnable part size ctx s
  | .evtQHeadWrite part v => Sys2Proof.Machine.execEvtQHeadWrite part v s
  | .msixUnmask fn vec => Sys2Proof.Machine.execMsixUnmask fn vec s
  | .vfFlr p => Sys2Proof.Machine.execVfFlr p s
  | .pf0Flr => Sys2Proof.Machine.execPf0Flr s
  | .i3cCcc c => Sys2Proof.Machine.execI3cCcc c s
  | .mctpMessage t m => Sys2Proof.Machine.execMctpMessage t m s
  | .telemetry t => Sys2Proof.Machine.execTelemetry t s
  | .alertAck t => Sys2Proof.Machine.execAlertAck t s
  | .avsCurrentRead current => Sys2Proof.Machine.execAvsCurrentRead current s
  | .sensorUpdate rs => Sys2Proof.Machine.execSensorUpdate rs s
  | .prochotNChange low held => Sys2Proof.Machine.execProchotNChange low held s
  | .tapInstruction op forming => Sys2Proof.Machine.execTapInstruction op forming s
  | .padControlExit op => Sys2Proof.Machine.execPadControlExit op s
  | .trstNAssert => Sys2Proof.Machine.execTrstNAssert s
  | .tstJobStart => Sys2Proof.Machine.execTstJobStart s
  | .tstJobAbort => Sys2Proof.Machine.execTstJobAbort s
  | .tstJobEnd locked bitsN errs targetFailed => Sys2Proof.Machine.execTstJobEnd locked bitsN errs targetFailed s
  | .selfTestJobDone rows pass => Sys2Proof.Machine.execSelfTestJobDone rows pass s
  | .prsIlkInRise => Sys2Proof.Machine.execPrsIlkInRise s
  | .hpdPlug => Sys2Proof.Machine.execHpdPlug s
  | .pcieLinkUp width speed numVfs vfMse enabled masked => Sys2Proof.Machine.execPcieLinkUp width speed numVfs vfMse enabled masked s
  | .pcieLinkDown => Sys2Proof.Machine.execPcieLinkDown s
  | .bdWindowOpen => Sys2Proof.Machine.execBdWindowOpen s
  | .pwmPeriod k => Sys2Proof.Machine.execPwmPeriod k s
  | .ideKm sess op stream => Sys2Proof.Machine.execIdeKm sess op stream s
  | .drbgReseed => Sys2Proof.Machine.execDrbgReseed s
  | .vddAonLoss => Sys2Proof.Machine.execVddAonLoss s
  | .testLogicReset => Sys2Proof.Machine.execTestLogicReset s
  | .tstErrThrReached locked bitsN errs => Sys2Proof.Machine.execTstErrThrReached locked bitsN errs s

end Sys2Proof.Machine
end

