-- ==== Sys2Proof/Machine/Tick.lean ====
section
/-! DEFINITION. What one TIMEBASE cycle without a command does (R84, R193, R287, R313). -/

namespace Sys2Proof.Machine

/-- TIMEBASE is out of reset with its clock running. -/
def State.timebaseRuns (s : State) : Bool :=
  !bit (s.get F.CKR_ISL_STATE_IN_RESET) 1 && bit (s.get F.CKR_ISL_CLK_RUNNING) 1

/-- One TIMEBASE cycle: elapsed time and Sorrel time advance, and the requests of other nodes that wait are tried again. -/
def tick (s : State) : State :=
  let s := { s with ticks := s.ticks + 1 }
  retryWaiting (if s.timebaseRuns then sorrelTick s else s)

end Sys2Proof.Machine
end

