-- ==== Sys2Proof/Machine/Frames.lean ====
section
/-! DEFINITION. What each command may change: the parts of the state and the registers outside which it changes nothing. The table
is no rule of the spec: the statements that use it say that the meanings keep within it. -/

namespace Sys2Proof.Machine

/-- A part of the state beside its registers; `bytes` is the stored bytes of the pool, `memory` the rest of pool memory. -/
inductive Comp where
  | captures | heldLow | ticks | free | fuses | power | clocks | bytes | memory | translation | events | pins | seals |
  log | rings | hatch | raster | display | path | drypoint | tansy | inputs | leases | repair | fabric | trust | test |
  sent | toHost | queue
  deriving DecidableEq, Repr

/-- The two states agree in a part. -/
def Comp.same : Comp → State → State → Prop
  | .captures, s, t => t.cap = s.cap ∧ t.capFrac = s.capFrac
  | .heldLow, s, t => t.heldLow = s.heldLow
  | .ticks, s, t => t.ticks = s.ticks
  | .free, s, t => t.freeCtr = s.freeCtr
  | .fuses, s, t => t.fuses = s.fuses
  | .power, s, t => t.pwr = s.pwr
  | .clocks, s, t => t.clk = s.clk
  | .bytes, s, t => t.pool.cells = s.pool.cells
  | .memory, s, t => { t.pool with cells := [] } = { s.pool with cells := [] }
  | .translation, s, t => t.xlt = s.xlt
  | .events, s, t => t.evt = s.evt
  | .pins, s, t => t.press = s.press
  | .seals, s, t => t.seals = s.seals ∧ t.nextSeal = s.nextSeal
  | .log, s, t => t.log = s.log
  | .rings, s, t => t.rings = s.rings
  | .hatch, s, t => t.hatch = s.hatch
  | .raster, s, t => t.ras = s.ras
  | .display, s, t => t.dsp = s.dsp
  | .path, s, t => t.prs = s.prs
  | .drypoint, s, t => t.dry = s.dry
  | .tansy, s, t => t.tns = s.tns
  | .inputs, s, t => t.pressIn = s.pressIn
  | .leases, s, t => t.leases = s.leases
  | .repair, s, t => t.rpr = s.rpr
  | .fabric, s, t => t.fab = s.fab
  | .trust, s, t => t.trust = s.trust
  | .test, s, t => t.tst = s.tst
  | .sent, s, t => t.fabOut = s.fabOut
  | .toHost, s, t => t.hostOut = s.hostOut
  | .queue, s, t => t.pending = s.pending

/-- The registers a frame names, as families of keys by block instance and index. -/
abbrev RegFam := Nat → Nat → Nat
/-- A register that stands alone. -/
def one (k : Nat) : RegFam := fun _ _ => k
/-- A register of a block with several instances, or an indexed one. -/
def many (f : Nat → Nat) : RegFam := fun b _ => f b

/-- What a command may change: parts of the state, and families of registers (`none`: any register). -/
structure Frame where
  parts : List Comp
  regs  : Option (List RegFam)

/-- Outside the frame the two states agree. -/
def Frame.holds (f : Frame) (s t : State) : Prop :=
  (∀ x : Comp, x ∉ f.parts → x.same s t) ∧
  (∀ l, f.regs = some l → ∀ key, (∀ g ∈ l, ∀ b i, g b i ≠ key) → t.reg key = s.reg key)

/-- Registers that raising an event may change (R713 to R717). -/
def evRegs : List RegFam :=
  [one R.EVT_FAB_DROP, many R.EVT_OCCURRED, one R.EVT_Q_STATUS, one R.EVT_Q_TAIL, one R.HIF_PBA, many R.PW_PBA]
/-- Registers that a pool memory access may change: those of an event and the error records of chapter 05. -/
def memRegs : List RegFam :=
  evRegs ++ [many R.MC_CE, R.MC_DEV, many R.MC_ERR_LOG, many R.MC_RETIRE, one R.MEMG_POISON, one R.MEMG_PPR_STATUS,
   one R.RPR_STATUS]
/-- Registers that a translated access may change. -/
def accRegs : List RegFam := memRegs ++ [one R.XLT_STATUS]
/-- Registers that an event to a partition's queue may change. -/
def pevRegs : List RegFam := accRegs ++ [many R.PW_EVT_Q_STATUS, many R.PW_EVT_Q_TAIL]

/-- Parts that raising an event may change. -/
def evParts : List Comp := [.events, .sent, .toHost]
/-- Parts that a pool memory access may change. -/
def memParts : List Comp := [.bytes, .memory, .repair] ++ evParts
/-- Parts that a translated access may change. -/
def accParts : List Comp := [.free, .translation] ++ memParts

/-- No part. -/
def noParts : List Comp := []
/-- No register. -/
def noRegs : List RegFam := []
/-- The frame of these parts and more, and of these registers and more. -/
def within (p q : List Comp) (r l : List RegFam) : Frame := { parts := p ++ q, regs := some (r ++ l) }
/-- The frame of these parts and more, and of any register. -/
def anyReg (p q : List Comp) : Frame := { parts := p ++ q, regs := none }

/-- The frame of every command. -/
def frameOf : Instr → Frame
  | .registerWrite .. | .firmwareImageLoaded .. | .regWrite .. =>
      anyReg accParts [.heldLow, .power, .clocks, .pins, .seals, .log, .rings, .raster, .display, .path, .drypoint, .tansy,
        .fabric, .trust, .test]
  | .lowerHalfRead .. =>
      within noParts [.captures, .toHost] noRegs []
  | .vddAonApply | .atomWindowEnd | .pcieLinkDown =>
      within noParts [.power] noRegs []
  | .porstNFall | .crystalStop | .thermalTrip | .undervoltage .. | .resetPrologueDone | .mrwPrologueTimeout
  | .sensorUpdate .. | .vddAonLoss =>
      anyReg memParts [.captures, .heldLow, .power, .clocks, .translation, .pins, .seals, .log, .rings, .hatch, .raster,
        .display, .path, .drypoint, .tansy, .leases, .fabric, .trust, .test]
  | .porstNRise .. =>
      within noParts [.power, .pins] noRegs [one R.CKR_INCARNATION, one R.GLB_STRAP]
  | .wrstNPulse .. | .mrstNPulse .. | .smWatchdogExpiry | .syn11LockTimeout =>
      within accParts [.power, .pins, .seals, .log, .raster, .path, .drypoint] pevRegs [one R.CKR_RST_CAUSE, one R.DRY_STATUS]
  | .warmResetRequest .. | .mrwResetRequest .. =>
      within accParts [.power, .pins, .seals, .log, .raster, .path, .drypoint] pevRegs [one R.CKR_RST_CAUSE, one R.DRY_STATUS,
        one R.SMB_SUPERSEDED]
  | .pciePerstNAssert =>
      anyReg noParts [.heldLow, .power, .events, .trust]
  | .prsIlkInFall | .engineLost =>
      within accParts [.pins, .seals, .log, .raster, .path, .drypoint, .tansy, .inputs] pevRegs [one R.DRY_STATUS,
        one R.PRS_HALTS, one R.PRS_STATUS]
  | .vddIo33Loss =>
      within accParts [.power, .pins, .seals, .log, .raster, .path, .drypoint, .tansy, .inputs] pevRegs [one R.DRY_STATUS,
        one R.PRS_HALTS, one R.PRS_STATUS]
  | .islandReset .. =>
      anyReg accParts [.heldLow, .clocks, .pins, .seals, .log, .rings, .raster, .display, .path, .drypoint, .tansy, .fabric,
        .trust, .test]
  | .partitionReset .. | .prst .. | .ideIntegrityFailure .. | .vfFlr .. =>
      anyReg accParts [.heldLow, .pins, .seals, .log, .rings, .hatch, .raster, .display, .path, .drypoint, .tansy, .leases,
        .fabric]
  | .selfTestComplete .. =>
      within evParts [.power, .repair, .trust] evRegs [many R.CC_HATCH, many R.CC_STIPPLE_RET, many R.CC_STIPPLE_SVC,
        one R.CKR_ISL_STATE, one R.CKR_START_STAGE, many R.RPR_HMAP, many R.RPR_HOST, many R.RPR_SMAP_HI,
        many R.RPR_SMAP_LO, many R.RPR_SPARE]
  | .fabricReady .. =>
      within evParts [.power] evRegs [one R.CKR_START_STAGE]
  | .memRequestHoldExpiry .. | .lazyCleanVisit =>
      within noParts [.memory] noRegs []
  | .avsbusAck .. =>
      within noParts [] noRegs [one R.PWR_AVS_STATUS]
  | .avsCommandTimeout =>
      within evParts [.clocks] evRegs [many R.CKR_SYN_STATUS, one R.PWR_AVS_STATUS]
  | .synEnable .. =>
      within noParts [.clocks] noRegs [one R.CKR_ISL_CLK, one R.CKR_ISL_STATE, one R.CKR_START_STAGE, many R.CKR_SYN_CTL,
        many R.CKR_SYN_FRAC, many R.CKR_SYN_STATUS]
  | .synDisable .. | .synCtlStewardWrite .. | .synCtlSmApply .. =>
      within noParts [.clocks] noRegs [one R.CKR_ISL_CLK, many R.CKR_SYN_CTL, many R.CKR_SYN_FRAC, many R.CKR_SYN_STATUS]
  | .synConfigWrite .. =>
      within noParts [.clocks] noRegs [one R.CKR_ISL_CLK, many R.CKR_SYN_CTL, many R.CKR_SYN_FRAC, many R.CKR_SYN_GUARD,
        many R.CKR_SYN_LOCK, many R.CKR_SYN_STATUS]
  | .synLockDeclared .. =>
      within accParts [.power, .clocks, .pins, .seals, .log, .raster, .path, .drypoint, .tansy] pevRegs [one R.CKR_ISL_CLK,
        one R.CKR_ISL_STATE, one R.CKR_START_STAGE, many R.CKR_SYN_STATUS, one R.DRY_STATUS, one R.PRS_HALTS,
        one R.PRS_STATUS]
  | .synLossOfLock .. | .synLossOfReference .. =>
      within evParts [.clocks, .memory, .display, .path] evRegs [one R.CKR_ISL_CLK, many R.CKR_SYN_STATUS, many R.MC_STATUS,
        one R.MEMG_PPR_STATUS]
  | .synRelock .. =>
      within evParts [.power, .clocks, .display] evRegs [one R.CKR_ISL_CLK, many R.CKR_SYN_STATUS]
  | .monitorWindowEnd .. =>
      within accParts [.power, .clocks, .pins, .seals, .log, .rings, .hatch, .raster, .display, .path, .drypoint, .tansy]
        pevRegs [many R.CC_HATCH, many R.CC_RERUNS, many R.CC_STIPPLE_RET, many R.CC_STIPPLE_SVC, one R.CKR_ISL_CLK,
        many R.CKR_SYN_STATUS, one R.CKR_SYN_TRIP, one R.DRY_STATUS, one R.PRS_HALTS, one R.PRS_STATUS, many R.RPR_HOST,
        many R.RPR_SPARE]
  | .synCoastLimit .. =>
      within evParts [] evRegs [many R.CKR_SYN_STATUS]
  | .refclkReturn =>
      within noParts [.clocks] noRegs []
  | .clkoutWrite .. =>
      within noParts [] noRegs [many R.CKR_CLKOUT]
  | .quadrantHoldExpiry .. =>
      within memParts [.clocks] memRegs []
  | .quadrantQuiesced .. =>
      within noParts [.clocks, .memory] noRegs [one R.CKR_ISL_CLK, many R.CKR_SYN_STATUS, many R.MC_STATUS,
        one R.MEMG_PPR_STATUS]
  | .quadrantRecentreDone .. =>
      within memParts [.clocks] memRegs [many R.MC_STATUS]
  | .lineRead .. | .lineWrite .. | .partialLineWrite .. | .softPprDone .. =>
      within memParts [] memRegs []
  | .patrolScrubRead .. =>
      within evParts [.memory, .repair] memRegs [one R.MEMG_SCRUB_STATUS]
  | .mcCmdRetire .. =>
      within evParts [.repair] evRegs [many R.MC_RETIRE, one R.RPR_STATUS]
  | .hardPprCmd .. =>
      within noParts [.memory] noRegs [many R.MC_STATUS, one R.MEMG_PPR_STATUS]
  | .hardPprDone | .channelRetrainDone .. =>
      within memParts [] memRegs [many R.MC_STATUS]
  | .rcdAlert .. =>
      within evParts [.memory] evRegs [many R.MC_STATUS]
  | .memoryStart .. =>
      anyReg memParts [.power, .clocks]
  | .channelTrainingDone .. =>
      within memParts [] memRegs [one R.CKR_START_STAGE, many R.MC_STATUS]
  | .gtEntryRewrite .. =>
      within evParts [.translation] evRegs [one R.XLT_STATUS]
  | .violationAggregate =>
      within evParts [.translation, .log] evRegs []
  | .inv .. | .flitReceive .. | .rd .. | .wr .. | .wrp .. | .atom .. | .forwardPacket .. | .rspData .. | .hello ..
  | .claim .. | .dup .. | .report .. | .reportDone .. | .assign .. | .beacon .. | .syncReq .. | .syncRsp ..
  | .fabricDoorbell .. | .invoke .. | .spdmFragment .. =>
      anyReg accParts [.heldLow, .log, .rings, .tansy, .fabric, .trust, .test]
  | .pwInvSubmit .. =>
      within noParts [.translation] noRegs [many R.PW_INV_STATUS, many R.XLT_EPOCH_CUR]
  | .invalidationAck .. =>
      within accParts [] pevRegs [many R.FP_UNROUTABLE, many R.PW_INV_ACK, many R.PW_INV_STATUS, many R.XLT_EPOCH_ACK]
  | .pwXltCtxWrite .. =>
      within noParts [.translation] noRegs [many R.PW_XLT_CTX]
  | .granuleReleaseComplete .. =>
      within evParts [.memory, .translation, .log, .rings, .trust] evRegs [many R.SMB_BUF, one R.SMB_STATUS]
  | .teardownDrainComplete .. | .ptear .. | .partReset .. | .partTear .. | .stopInterface .. | .keySlotUe ..
  | .tombstoneFinal =>
      anyReg accParts [.heldLow, .pins, .seals, .log, .rings, .hatch, .raster, .display, .path, .drypoint, .tansy, .leases,
        .fabric, .trust]
  | .regionWithdrawComplete .. =>
      within evParts [.memory, .translation, .log, .rings, .trust] evRegs [many R.SMB_BUF, one R.SMB_STATUS, many R.XLT_SHR]
  | .nakReceive .. =>
      within evParts [.fabric, .trust] evRegs [many R.FP_DOWNS, many R.FP_DOWN_CAUSE, many R.FP_REPLAYS, many R.FP_RETRAINS,
        many R.FP_STATUS, many R.FP_UNROUTABLE, one R.TOPO_SRL_STATUS, one R.TOPO_STATUS]
  | .fastRetrainDone .. | .linkDetect .. =>
      within noParts [.fabric] noRegs [many R.FP_STATUS]
  | .fastRetrainTimeout .. | .partnerLoss .. =>
      within evParts [.fabric, .trust] evRegs [many R.FP_DOWNS, many R.FP_DOWN_CAUSE, many R.FP_STATUS, many R.FP_UNROUTABLE,
        one R.TOPO_SRL_STATUS, one R.TOPO_STATUS]
  | .errorWindowEnd .. =>
      within evParts [.fabric, .trust] evRegs [many R.FP_CRC_FAIL, many R.FP_DOWNS, many R.FP_DOWN_CAUSE, many R.FP_FLITS_RX,
        many R.FP_STATUS, many R.FP_UNROUTABLE, one R.TOPO_SRL_STATUS, one R.TOPO_STATUS]
  | .holdoffExpiry .. =>
      anyReg evParts [.heldLow, .fabric, .test]
  | .lrst .. | .groupEnClear .. | .quietExpiry | .spdmSessionEnd .. =>
      anyReg evParts [.heldLow, .fabric, .trust, .test]
  | .equalizationDone .. =>
      within noParts [] noRegs [many R.FP_STATUS]
  | .laneTestDone .. =>
      within evParts [.repair, .fabric] evRegs [many R.FP_STATUS, one R.RPR_STATUS]
  | .trainConfig .. =>
      within evParts [.fabric, .trust] evRegs [many R.FP_DOWNS, many R.FP_DOWN_CAUSE, many R.FP_LANEMAP, many R.FP_STATUS,
        many R.FP_UNROUTABLE, many R.TOPO_NBR_INFO, one R.TOPO_PARENT, one R.TOPO_SRL_RATE, one R.TOPO_SRL_STATUS,
        one R.TOPO_STATUS]
  | .lcfSend .. =>
      within evParts [.fabric] evRegs [many R.FP_STATUS, many R.TOPO_NBR_INFO, one R.TOPO_PARENT, one R.TOPO_SRL_RATE,
        one R.TOPO_SRL_STATUS, one R.TOPO_STATUS]
  | .linkKeysInstalled .. | .keyUpdate .. | .deadMarkExpiry .. =>
      within noParts [.fabric] noRegs []
  | .requestRetryTimeout .. =>
      within noParts [.rings, .fabric, .sent] noRegs [many R.FP_UNROUTABLE]
  | .beaconTick | .syncIntTick .. =>
      within noParts [.fabric, .sent] noRegs []
  | .beaconTimeout | .parentLinkDown =>
      within evParts [.fabric] evRegs [many R.TOPO_NBR_INFO, one R.TOPO_PARENT, one R.TOPO_SRL_RATE, one R.TOPO_SRL_STATUS,
        one R.TOPO_STATUS]
  | .priorityWrite .. =>
      within evParts [.fabric] evRegs [one R.TOPO_CFG, many R.TOPO_NBR_INFO, one R.TOPO_PARENT, one R.TOPO_SRL_RATE,
        one R.TOPO_SRL_STATUS, one R.TOPO_STATUS]
  | .sorrelHoldoverTimeout =>
      within evParts [] evRegs [one R.TOPO_SRL_RATE, one R.TOPO_SRL_STATUS]
  | .topoSrlSet .. =>
      within evParts [.log, .tansy] evRegs [many R.TNS_SLOT_COUNTS, one R.TOPO_SRL_FRAC, one R.TOPO_SRL_STATUS,
        one R.TOPO_SRL_TIME]
  | .ringEnable .. | .ringDisable .. =>
      within accParts [.rings] pevRegs [R.PW_RING_CFG, R.PW_RING_CQ_HEAD, R.PW_RING_CQ_TAIL, R.PW_RING_SQ_HEAD,
        R.PW_RING_SQ_TAIL, R.PW_RING_STATUS]
  | .ringConfigWrite .. =>
      within accParts [.rings] pevRegs [R.PW_RING_CFG, R.PW_RING_CQ_BASE, R.PW_RING_CQ_HEAD, R.PW_RING_CQ_TAIL,
        R.PW_RING_SQ_BASE, R.PW_RING_SQ_HEAD, R.PW_RING_SQ_TAIL, R.PW_RING_STATUS]
  | .ringBindWrite .. =>
      within noParts [] noRegs [many R.RING_BIND]
  | .doorbell .. =>
      within accParts [] pevRegs [R.PW_RING_SQ_TAIL, R.PW_RING_STATUS]
  | .entryFetch .. =>
      within accParts [.rings] accRegs [R.PW_RING_SQ_HEAD]
  | .programStart .. | .ringResume .. | .programRestart .. =>
      within accParts [.rings] pevRegs [R.PW_RING_CQ_TAIL, R.PW_RING_STATUS]
  | .programEnd .. =>
      within accParts [.rings, .hatch] pevRegs [R.PW_RING_CQ_TAIL, R.PW_RING_STATUS]
  | .completionInterrupt .. =>
      within noParts [.rings, .toHost] noRegs [one R.HIF_PBA, many R.PW_PBA]
  | .cqHeadWrite .. =>
      within accParts [.rings] pevRegs [R.PW_RING_CQ_HEAD, R.PW_RING_CQ_TAIL, R.PW_RING_STATUS]
  | .ringFlush .. =>
      within accParts [.rings] pevRegs [R.PW_RING_CQ_TAIL, R.PW_RING_SQ_HEAD, R.PW_RING_STATUS]
  | .stewardHold .. =>
      within accParts [.rings] pevRegs [R.PW_RING_STATUS]
  | .stewardRelease .. | .nop .. | .jmp .. | .loop .. | .jz .. | .jnz .. | .add .. | .sub .. | .mul .. | .mulhu ..
  | .divu .. | .remu .. | .and .. | .or .. | .xor .. | .shl .. | .shr .. | .sra .. | .minu .. | .maxu .. | .min ..
  | .max .. | .addi .. | .andi .. | .ori .. | .xori .. | .shli .. | .shri .. | .srai .. | .li .. | .lix .. | .sel ..
  | .time .. | .rinfo .. | .ceq .. | .cne .. | .cltu .. | .clt .. | .cgeu .. | .cge .. | .ceqi .. | .cltui .. | .pand ..
  | .por .. | .pxor .. | .pandn .. | .pset .. | .dget .. | .dset .. | .dseti .. | .dsetx .. | .dclr .. | .dmov ..
  | .lsld .. | .lsst .. | .ctxset .. | .pstat .. | .wait .. | .waitany .. | .tst .. | .fence .. | .evtime ..
  | .evtimeReached .. =>
      within noParts [.rings] noRegs []
  | .kcsEnd .. | .plemit .. | .plend .. | .hgemm .. | .hsmax .. | .helt .. =>
      within noParts [.rings, .hatch] noRegs []
  | .dld .. | .dst .. | .ld .. | .lds .. | .st .. | .kcsAtom .. | .plopen .. | .plread .. | .plskip .. | .sign .. =>
      within accParts [.rings] accRegs []
  | .copy .. | .fill .. =>
      within accParts [.rings, .fabric] accRegs [many R.FP_UNROUTABLE]
  | .attn .. | .invokeTaken .. =>
      within accParts [.rings, .hatch] accRegs [one R.ATT_JOBS]
  | .amerge .. =>
      within noParts [.rings, .hatch] noRegs [one R.ATT_JOBS]
  | .rdraw .. | .rclear .. =>
      within noParts [.translation, .rings, .raster] noRegs []
  | .rcommit .. =>
      within accParts [.seals, .log, .rings, .display] accRegs []
  | .pqueue .. | .hashPassDone =>
      within accParts [.seals, .log, .rings, .path] accRegs []
  | .pcancel .. =>
      within noParts [.translation, .seals, .log, .rings, .raster, .path] noRegs []
  | .pengine .. =>
      within accParts [.clocks, .pins, .rings, .path, .drypoint] pevRegs [one R.CKR_ISL_CLK, many R.CKR_SYN_CTL,
        many R.CKR_SYN_FRAC, many R.CKR_SYN_STATUS, one R.DRY_STATUS, one R.PRS_STATUS]
  | .tload .. | .tctl .. | .slotStrobe .. =>
      within accParts [.rings, .tansy] accRegs []
  | .tset .. | .tcap .. =>
      within noParts [.translation, .rings, .tansy] noRegs []
  | .evraise .. =>
      within accParts [.rings] pevRegs []
  | .pform .. =>
      within evParts [.translation, .log, .rings, .trust] evRegs [one R.SMB_LIFECYCLE]
  | .pseal .. =>
      within evParts [.log, .rings] evRegs [one R.SMB_LIFECYCLE]
  | .gassign .. =>
      within evParts [.translation, .log, .rings] evRegs []
  | .grelease .. | .rwdraw .. =>
      within noParts [.translation, .rings, .trust] noRegs []
  | .rcreate .. =>
      within evParts [.translation, .log, .rings, .trust] evRegs [many R.XLT_SHR]
  | .radd .. =>
      within evParts [.translation, .log, .rings] evRegs [many R.XLT_SHR]
  | .rpub .. | .rreaders .. =>
      within evParts [.log, .rings] evRegs [many R.XLT_SHR]
  | .lease .. =>
      within accParts [.pins, .seals, .log, .rings, .raster, .display, .path, .drypoint, .tansy, .leases] pevRegs
        [one R.DRY_STATUS, one R.DSP_DISPLACED, one R.PRS_STATUS]
  | .logapp .. =>
      within evParts [.log, .rings] evRegs []
  | .random .. | .drbgReseed =>
      within noParts [.free, .rings, .trust] noRegs []
  | .tallyComplete .. =>
      within accParts [.rings, .hatch, .tansy, .fabric] accRegs [one R.ATT_JOBS, one R.ATT_POISONED, many R.FP_UNROUTABLE]
  | .taskDispatch .. =>
      within accParts [.hatch] accRegs []
  | .tileTaskDone .. =>
      within accParts [.hatch, .test] accRegs [one R.ATT_CHUNKS, one R.ATT_PAGES, one R.ATT_ROWS, many R.CC_HATCH, R.CC_HCHK,
        many R.CC_RERUNS, many R.CC_STIPPLE_RET, many R.CC_STIPPLE_SVC, many R.CC_TASKS, many R.FP_CTL, many R.RPR_HMAP,
        many R.RPR_HOST, many R.RPR_SMAP_HI, many R.RPR_SMAP_LO, many R.RPR_SPARE, one R.TST_JOB_STATUS]
  | .lockstepMismatch .. =>
      within evParts [.rings, .hatch, .repair, .test] evRegs [many R.CC_HATCH, R.CC_SMIS, many R.CC_STIPPLE_RET,
        many R.CC_STIPPLE_SVC, many R.FP_CTL, many R.RPR_HMAP, many R.RPR_HOST, many R.RPR_SMAP_HI, many R.RPR_SMAP_LO,
        many R.RPR_SPARE, one R.RPR_STATUS, one R.TST_JOB_STATUS]
  | .stagingEccUe .. =>
      within noParts [.rings, .hatch] noRegs [many R.CC_RERUNS, many R.CC_STAGE_ECC]
  | .resultSend .. =>
      within noParts [.rings, .sent] noRegs [one R.ATT_INV_MALF, many R.FP_UNROUTABLE, R.PW_RING_STATUS]
  | .spareSwitchIn .. =>
      within evParts [.repair, .test] evRegs [many R.CC_HATCH, many R.CC_STIPPLE_RET, many R.CC_STIPPLE_SVC, many R.FP_CTL,
        many R.RPR_HMAP, many R.RPR_HOST, many R.RPR_SMAP_HI, many R.RPR_SMAP_LO, many R.RPR_SPARE, one R.RPR_STATUS,
        one R.TST_JOB_STATUS]
  | .clusterReturn .. =>
      within noParts [.repair] noRegs [many R.CC_HATCH, many R.CC_STIPPLE_RET, many R.CC_STIPPLE_SVC, many R.RPR_HOST,
        many R.RPR_SPARE]
  | .sramRowTest .. =>
      within noParts [.rings, .hatch, .repair] noRegs [many R.CC_RERUNS, many R.CC_STAGE_ECC, one R.RPR_ROWS]
  | .sramRowTestDone .. | .selfTestJobDone .. =>
      anyReg evParts [.heldLow, .hatch, .repair, .fabric, .trust, .test]
  | .repairRecordWrite .. =>
      within evParts [.repair] evRegs [one R.RPR_STATUS]
  | .ownerClaim .. | .ownerSet .. | .fwCommit .. =>
      within evParts [.log, .trust] evRegs [many R.SMB_BUF, one R.SMB_STATUS]
  | .partForm .. =>
      within evParts [.translation, .log, .trust] evRegs [many R.SMB_BUF, one R.SMB_LIFECYCLE, one R.SMB_STATUS]
  | .partSeal .. =>
      within evParts [.log, .trust] evRegs [many R.SMB_BUF, one R.SMB_LIFECYCLE, one R.SMB_STATUS]
  | .granAssign .. | .granRelease .. | .regionWithdraw .. =>
      within evParts [.translation, .log, .trust] evRegs [many R.SMB_BUF, one R.SMB_STATUS]
  | .regionCreate .. | .regionAdd .. =>
      within evParts [.translation, .log, .trust] evRegs [many R.SMB_BUF, one R.SMB_STATUS, many R.XLT_SHR]
  | .regionLoad .. =>
      within accParts [.log, .trust] accRegs [many R.SMB_BUF, one R.SMB_STATUS]
  | .regionPublish .. | .regionReaders .. =>
      within evParts [.log, .trust] evRegs [many R.SMB_BUF, one R.SMB_STATUS, many R.XLT_SHR]
  | .stewardLease .. =>
      within accParts [.pins, .seals, .log, .rings, .raster, .display, .path, .drypoint, .tansy, .leases, .trust] pevRegs
        [one R.DRY_STATUS, one R.DSP_DISPLACED, one R.PRS_STATUS, many R.SMB_BUF, one R.SMB_STATUS]
  | .violRead .. | .repairRead .. | .mmioGrant .. | .fwStage .. | .tombstoneRead .. | .smbGo .. =>
      within noParts [.trust] noRegs [many R.SMB_BUF, one R.SMB_STATUS]
  | .violClear .. =>
      within noParts [.translation, .trust] noRegs [many R.SMB_BUF, one R.SMB_STATUS]
  | .repairDelete .. =>
      within noParts [.repair, .trust] noRegs [many R.SMB_BUF, one R.SMB_STATUS]
  | .regRead .. =>
      within noParts [.captures, .trust] noRegs [many R.SMB_BUF, one R.SMB_STATUS]
  | .fwCommitSvn .. =>
      within evParts [.fuses, .log, .trust] evRegs [many R.SMB_BUF, one R.SMB_STATUS]
  | .tombstoneClear .. =>
      within evParts [.log, .trust] evRegs [many R.LOG_TOMBSTONE, many R.SMB_BUF, one R.SMB_STATUS]
  | .nodeReset .. =>
      within accParts [.power, .pins, .seals, .log, .raster, .path, .drypoint, .trust] pevRegs [one R.CKR_RST_CAUSE,
        one R.DRY_STATUS, many R.SMB_BUF, one R.SMB_STATUS]
  | .smbAbort =>
      within noParts [.trust] noRegs [one R.SMB_STATUS]
  | .getMeasurements .. | .getDeviceInterfaceReport .. | .ideKm .. =>
      within noParts [.trust] noRegs []
  | .spdmSessionEstablished .. =>
      within noParts [.fabric, .trust] noRegs []
  | .lockInterface .. | .startInterface .. =>
      within noParts [.trust] noRegs [one R.SMB_TDI]
  | .pwAdmitWrite .. | .drainEnable .. | .drainDisable =>
      anyReg noParts []
  | .trngHealthFailure =>
      within evParts [.trust] evRegs []
  | .logRecordAppend .. | .drainCopy .. | .logStartRecords .. =>
      anyReg accParts [.heldLow, .power, .pins, .seals, .log, .rings, .hatch, .raster, .display, .path, .drypoint, .tansy,
        .leases, .fabric, .trust]
  | .checkpointSigned =>
      within evParts [.free, .log] evRegs []
  | .logDrainHeadWrite .. =>
      within evParts [.log, .display, .path] evRegs [one R.LOG_DRAIN_HEAD, one R.LOG_DRAIN_STATUS]
  | .logRecords =>
      within evParts [.log] evRegs []
  | .rasterTile =>
      within accParts [.pins, .seals, .log, .rings, .raster, .path, .drypoint, .tansy] pevRegs [one R.DRY_STATUS,
        one R.PRS_HALTS, one R.PRS_STATUS, one R.RAS_JOBS, one R.RAS_TILES]
  | .bandRequest =>
      within noParts [.raster, .path] noRegs []
  | .tileBufferUe =>
      within noParts [.raster] noRegs [one R.RAS_RETILES]
  | .rasThrDataWrite .. =>
      within noParts [.raster] noRegs [one R.RAS_THR_SEL, one R.RAS_THR_STATUS]
  | .rasCtxOwnerWrite .. =>
      within noParts [.rings, .raster] noRegs [many R.RAS_CTX_OWNER]
  | .dspEnable .. =>
      within noParts [.clocks] noRegs [one R.CKR_ISL_CLK, many R.CKR_SYN_CTL, many R.CKR_SYN_FRAC, many R.CKR_SYN_STATUS,
        one R.DSP_CTL, one R.DSP_STATUS]
  | .dspDisable =>
      within noParts [.seals, .log, .display] noRegs [one R.DSP_CTL, one R.DSP_DISPLACED, one R.DSP_STATUS]
  | .dpLinkTrained .. | .hpdUnplug =>
      within accParts [.display] pevRegs [one R.DSP_STATUS]
  | .hdcpAuthentication .. =>
      within accParts [.display] pevRegs [one R.DSP_HDCP_RXID, one R.DSP_STATUS]
  | .dspAuxGo .. =>
      within noParts [.display] noRegs [one R.DSP_AUX_CMD, many R.DSP_AUX_DATA]
  | .irqHpd .. =>
      within accParts [] pevRegs [one R.DSP_STATUS]
  | .dspRetryTimer =>
      within noParts [.display] noRegs []
  | .commitHandshake .. =>
      within noParts [.seals, .log, .rings, .display] noRegs [one R.DSP_DISPLACED]
  | .vblankLatch =>
      within accParts [.seals, .log, .display] pevRegs [one R.DSP_FRAME_SEQ, one R.DSP_POISONED, one R.DSP_REPROJ]
  | .engineConditionsMet | .engineConditionLost | .pathEmpty =>
      within accParts [.pins, .path, .drypoint] pevRegs [one R.DRY_STATUS, one R.PRS_STATUS]
  | .pickLatch =>
      within noParts [.log, .raster, .path] noRegs [one R.PRS_SHEET]
  | .imagingStart =>
      within accParts [.pins, .seals, .log, .raster, .path, .drypoint, .tansy] pevRegs [one R.DRY_LATE_LINES,
        one R.DRY_STATUS, one R.PRS_HALTS, one R.PRS_HASH_MISMATCH, one R.PRS_STATUS]
  | .sensorEdge .. =>
      within accParts [.pins, .seals, .log, .raster, .path, .drypoint, .tansy] pevRegs [one R.DRY_STATUS, one R.PRS_HALTS,
        one R.PRS_SNS_STATE, one R.PRS_STATUS]
  | .jam | .spoil | .hvLimit .. | .zcdLost | .otComparatorTrip .. =>
      within accParts [.pins, .seals, .log, .raster, .path, .drypoint, .tansy] pevRegs [one R.DRY_STATUS, one R.PRS_HALTS,
        one R.PRS_STATUS]
  | .clutchActuation | .hvrefPwmPeriod .. =>
      within noParts [.pins] noRegs []
  | .sheetExit =>
      within evParts [.seals, .log, .raster, .path] evRegs []
  | .heartbeatTick .. | .prsIlkInRise =>
      within noParts [.pins, .inputs] noRegs []
  | .zcdEdge | .fuserGateEnd .. =>
      within noParts [.pins, .path] noRegs []
  | .otTripClear .. =>
      within noParts [] noRegs [one R.PRS_STATUS]
  | .plateHashMismatch | .apcCapture .. | .bdWindowOpen =>
      within accParts [.pins, .seals, .log, .raster, .path, .drypoint, .tansy] pevRegs [one R.DRY_STATUS, one R.PRS_HALTS,
        one R.PRS_HASH_MISMATCH, one R.PRS_STATUS]
  | .prsConfigWrite .. =>
      anyReg noParts [.path]
  | .bdEdge .. =>
      within accParts [.pins, .seals, .log, .raster, .path, .drypoint, .tansy] pevRegs [one R.DRY_LATE_LINES, one R.DRY_SCANS,
        one R.DRY_STATUS, one R.DRY_STRAY_BD, one R.PRS_HALTS, one R.PRS_HASH_MISMATCH, one R.PRS_STATUS]
  | .bdWindowClose =>
      within accParts [.pins, .seals, .log, .raster, .path, .drypoint, .tansy] pevRegs [one R.DRY_MISSED, one R.DRY_STATUS,
        one R.PRS_HALTS, one R.PRS_HASH_MISMATCH, one R.PRS_STATUS]
  | .eosEdge .. =>
      within noParts [] noRegs [one R.DRY_EOS]
  | .lateLineData =>
      within accParts [.pins, .seals, .log, .raster, .path, .drypoint, .tansy] pevRegs [one R.DRY_LATE_LINES,
        one R.DRY_STATUS, one R.PRS_HALTS, one R.PRS_STATUS]
  | .apcUpdate .. =>
      within accParts [.pins, .drypoint] pevRegs [many R.DRY_APC, one R.DRY_STATUS]
  | .dryConfigWrite .. =>
      anyReg accParts [.clocks, .drypoint]
  | .adcConversionDone .. =>
      within noParts [.drypoint, .tansy] noRegs [many R.TNS_ADC]
  | .adcCheck .. =>
      within accParts [.tansy] pevRegs [one R.TNS_STATUS]
  | .tachEdge .. =>
      within noParts [.tansy] noRegs []
  | .sampleInstant .. | .outputApply .. =>
      within noParts [.tansy] noRegs [many R.TNS_SLOT_COUNTS]
  | .slotStorageUe .. =>
      within accParts [.rings, .tansy] pevRegs []
  | .evtQEnable .. =>
      anyReg noParts [.events]
  | .evtQHeadWrite .. =>
      within noParts [] noRegs [one R.EVT_Q_HEAD, one R.EVT_Q_STATUS, one R.EVT_Q_TAIL, many R.PW_EVT_Q_HEAD,
        many R.PW_EVT_Q_STATUS, many R.PW_EVT_Q_TAIL]
  | .msixUnmask .. =>
      anyReg noParts [.toHost]
  | .pf0Flr =>
      anyReg noParts [.heldLow, .events, .trust]
  | .i3cCcc .. | .telemetry .. | .alertAck .. =>
      within noParts [.events] noRegs []
  | .mctpMessage .. =>
      within noParts [.events, .trust] noRegs []
  | .avsCurrentRead .. =>
      within noParts [] noRegs [one R.PWR_POWER]
  | .prochotNChange .. =>
      within evParts [.power] evRegs [one R.PWR_THERM_STATUS]
  | .tapInstruction .. | .padControlExit .. =>
      within accParts [.power, .clocks, .pins, .path, .drypoint, .fabric, .trust, .test] pevRegs [one R.DRY_STATUS,
        one R.DSP_STATUS, many R.FP_DOWNS, many R.FP_DOWN_CAUSE, many R.FP_STATUS, many R.FP_UNROUTABLE,
        many R.MC_STATUS, one R.PRS_STATUS, one R.TOPO_SRL_STATUS, one R.TOPO_STATUS]
  | .trstNAssert =>
      within evParts [.clocks, .path, .test] evRegs []
  | .tstJobStart =>
      within evParts [.pins, .test] evRegs [one R.TST_JOB_BITS, one R.TST_JOB_ERRS, one R.TST_JOB_STATUS]
  | .tstJobAbort =>
      within evParts [.test] evRegs [many R.FP_CTL, one R.TST_JOB_STATUS]
  | .tstJobEnd .. =>
      within evParts [.test] evRegs [many R.FP_CTL, one R.TST_JOB_BITS, one R.TST_JOB_ERRS, one R.TST_JOB_STATUS]
  | .hpdPlug =>
      within accParts [.display] pevRegs []
  | .pcieLinkUp .. =>
      within noParts [.power, .events, .toHost] noRegs [one R.HIF_LINK, one R.HIF_PBA, many R.PW_PBA]
  | .pwmPeriod .. =>
      within noParts [.pins, .tansy] noRegs []
  | .testLogicReset =>
      within evParts [.clocks, .path, .test] evRegs [many R.FP_CTL, one R.TST_JOB_STATUS]
  | .tstErrThrReached .. =>
      within evParts [.test] evRegs [one R.TST_JOB_BITS, one R.TST_JOB_ERRS, one R.TST_JOB_STATUS]

end Sys2Proof.Machine
end

