-- ==== Sys2Proof/WellFormed.lean ====
section
/-! DEFINITION. Which commands a sender can form: the lengths, ranges and packet kinds that the operands' types do not say. -/

namespace Sys2Proof

open Sys2Proof.Machine

/-- A command that some sender can form. Every other command is refused as ill-formed. -/
def Instr.wf (i : Instr) : Bool :=
  match i with
  | .registerWrite path off _ _ _ _ => inBar path off.toNat
  | .lowerHalfRead path off _ => inBar path off.toNat
  | .lineWrite _ data => data.length == 64
  | .partialLineWrite _ _ data => data.length == 64
  | .memoryStart pops => pops.length == 24 && pops.all (fun p => p.rows != 0)
  | .inv _ p => p.opc == 9 && p.wf
  | .flitReceive _ b _ _ _ _ => b.length == 256
  | .rd _ p => p.opc == 0 && p.wf
  | .wr _ p => p.opc == 1 && p.wf
  | .wrp _ p => p.opc == 2 && p.wf
  | .atom _ p => p.opc == 3 && p.wf
  | .forwardPacket _ p => p.opc != 8 && p.wf
  | .rspData _ p => (p.opc == 4 || p.opc == 5) && p.wf
  | .hello _ p => isCampion 1 p && p.wf
  | .claim _ p => isCampion 2 p && p.wf
  | .dup _ p => isCampion 7 p && p.wf
  | .report _ p => isCampion 3 p && p.wf
  | .reportDone _ p => isCampion 4 p && p.wf
  | .assign _ p => isCampion 5 p && p.wf
  | .beacon _ p => isCampion 6 p && p.wf
  | .syncReq _ p _ _ => isSorrel 1 p && p.wf
  | .syncRsp _ p _ => isSorrel 2 p && p.wf
  | .fabricDoorbell _ p => (p.opc == 1 || p.opc == 2) && inAperture p.va && p.wf
  | .dsetx _ _ _ b ws => ws.length != 0 && ws.length ≤ 3 && b.val + ws.length ≤ 8
  | .invoke _ p => p.opc == 6 && p.wf
  | .ownerClaim _ _ roots _ => roots.length == 8
  | .ownerSet _ _ roots _ => roots.length == 8
  | .regionLoad _ _ _ len _ data => !data.any (fun d => d.length != len.toNat)
  | .spdmFragment _ p => p.opc == 8 && p.w1 % 256 == 2 && p.wf
  | .msixUnmask fn vec => decide (vec.val < vectors fn.val)
  | .sensorUpdate rs => rs.length == 15
  | .vddAonApply | .porstNFall | .porstNRise .. | .wrstNPulse .. | .mrstNPulse .. | .warmResetRequest ..
  | .mrwResetRequest .. | .pciePerstNAssert | .prsIlkInFall | .vddIo33Loss | .crystalStop | .thermalTrip | .undervoltage ..
  | .smWatchdogExpiry | .resetPrologueDone | .mrwPrologueTimeout | .islandReset .. | .partitionReset ..
  | .firmwareImageLoaded .. | .selfTestComplete .. | .fabricReady .. | .memRequestHoldExpiry .. | .atomWindowEnd
  | .avsbusAck .. | .avsCommandTimeout | .synEnable .. | .synDisable .. | .synConfigWrite .. | .synCtlStewardWrite ..
  | .synCtlSmApply .. | .synLockDeclared .. | .synLossOfLock .. | .synLossOfReference .. | .synRelock ..
  | .monitorWindowEnd .. | .synCoastLimit .. | .syn11LockTimeout | .refclkReturn | .clkoutWrite .. | .quadrantHoldExpiry ..
  | .quadrantQuiesced .. | .quadrantRecentreDone .. | .lineRead .. | .lazyCleanVisit | .patrolScrubRead .. | .mcCmdRetire ..
  | .softPprDone .. | .hardPprCmd .. | .hardPprDone | .rcdAlert .. | .channelRetrainDone .. | .channelTrainingDone ..
  | .gtEntryRewrite .. | .violationAggregate | .pwInvSubmit .. | .invalidationAck .. | .pwXltCtxWrite ..
  | .granuleReleaseComplete .. | .teardownDrainComplete .. | .regionWithdrawComplete .. | .nakReceive ..
  | .fastRetrainDone .. | .fastRetrainTimeout .. | .errorWindowEnd .. | .partnerLoss .. | .holdoffExpiry .. | .lrst ..
  | .groupEnClear .. | .linkDetect .. | .equalizationDone .. | .laneTestDone .. | .trainConfig .. | .lcfSend ..
  | .linkKeysInstalled .. | .keyUpdate .. | .requestRetryTimeout .. | .quietExpiry | .beaconTick | .beaconTimeout
  | .deadMarkExpiry .. | .parentLinkDown | .priorityWrite .. | .syncIntTick .. | .sorrelHoldoverTimeout | .topoSrlSet ..
  | .ringEnable .. | .ringDisable .. | .ringConfigWrite .. | .ringBindWrite .. | .doorbell .. | .entryFetch ..
  | .programStart .. | .programEnd .. | .completionInterrupt .. | .cqHeadWrite .. | .ringResume .. | .ringFlush ..
  | .stewardHold .. | .stewardRelease .. | .nop .. | .kcsEnd .. | .jmp .. | .loop .. | .jz .. | .jnz .. | .add .. | .sub ..
  | .mul .. | .mulhu .. | .divu .. | .remu .. | .and .. | .or .. | .xor .. | .shl .. | .shr .. | .sra .. | .minu ..
  | .maxu .. | .min .. | .max .. | .addi .. | .andi .. | .ori .. | .xori .. | .shli .. | .shri .. | .srai .. | .li ..
  | .lix .. | .sel .. | .time .. | .rinfo .. | .ceq .. | .cne .. | .cltu .. | .clt .. | .cgeu .. | .cge .. | .ceqi ..
  | .cltui .. | .pand .. | .por .. | .pxor .. | .pandn .. | .pset .. | .dld .. | .dst .. | .dget .. | .dset .. | .dseti ..
  | .dclr .. | .dmov .. | .ld .. | .lds .. | .st .. | .kcsAtom .. | .copy .. | .fill .. | .lsld .. | .lsst .. | .ctxset ..
  | .plopen .. | .plread .. | .plskip .. | .plemit .. | .plend .. | .hgemm .. | .hsmax .. | .helt .. | .attn .. | .amerge ..
  | .rdraw .. | .rclear .. | .rcommit .. | .pqueue .. | .pcancel .. | .pengine .. | .pstat .. | .tload .. | .tset ..
  | .tctl .. | .tcap .. | .wait .. | .waitany .. | .tst .. | .fence .. | .evraise .. | .evtime .. | .evtimeReached ..
  | .pform .. | .pseal .. | .prst .. | .ptear .. | .gassign .. | .grelease .. | .rcreate .. | .radd .. | .rpub ..
  | .rreaders .. | .rwdraw .. | .lease .. | .logapp .. | .sign .. | .random .. | .tallyComplete .. | .programRestart ..
  | .taskDispatch .. | .tileTaskDone .. | .lockstepMismatch .. | .stagingEccUe .. | .invokeTaken .. | .resultSend ..
  | .spareSwitchIn .. | .clusterReturn .. | .sramRowTest .. | .sramRowTestDone .. | .repairRecordWrite .. | .partForm ..
  | .partSeal .. | .partReset .. | .partTear .. | .granAssign .. | .granRelease .. | .regionCreate .. | .regionAdd ..
  | .regionPublish .. | .regionReaders .. | .regionWithdraw .. | .stewardLease .. | .violRead .. | .violClear ..
  | .repairRead .. | .repairDelete .. | .regRead .. | .regWrite .. | .mmioGrant .. | .fwStage .. | .fwCommit ..
  | .fwCommitSvn .. | .tombstoneRead .. | .tombstoneClear .. | .nodeReset .. | .smbGo .. | .smbAbort | .getMeasurements ..
  | .spdmSessionEstablished .. | .spdmSessionEnd .. | .lockInterface .. | .getDeviceInterfaceReport .. | .startInterface ..
  | .stopInterface .. | .ideIntegrityFailure .. | .pwAdmitWrite .. | .trngHealthFailure | .keySlotUe ..
  | .logRecordAppend .. | .checkpointSigned | .tombstoneFinal | .drainCopy .. | .logDrainHeadWrite .. | .drainEnable ..
  | .drainDisable | .logRecords | .logStartRecords .. | .rasterTile | .bandRequest | .tileBufferUe | .rasThrDataWrite ..
  | .rasCtxOwnerWrite .. | .dspEnable .. | .dspDisable | .dpLinkTrained .. | .hdcpAuthentication .. | .dspAuxGo ..
  | .hpdUnplug | .irqHpd .. | .dspRetryTimer | .commitHandshake .. | .vblankLatch | .engineConditionsMet
  | .engineConditionLost | .pathEmpty | .engineLost | .pickLatch | .imagingStart | .sensorEdge .. | .jam | .clutchActuation
  | .spoil | .sheetExit | .heartbeatTick .. | .hvrefPwmPeriod .. | .hvLimit .. | .zcdEdge | .fuserGateEnd .. | .zcdLost
  | .otComparatorTrip .. | .otTripClear .. | .hashPassDone | .plateHashMismatch | .prsConfigWrite .. | .bdEdge ..
  | .bdWindowClose | .eosEdge .. | .lateLineData | .apcCapture .. | .apcUpdate .. | .dryConfigWrite ..
  | .adcConversionDone .. | .adcCheck .. | .tachEdge .. | .sampleInstant .. | .slotStrobe .. | .outputApply ..
  | .slotStorageUe .. | .evtQEnable .. | .evtQHeadWrite .. | .vfFlr .. | .pf0Flr | .i3cCcc .. | .mctpMessage ..
  | .telemetry .. | .alertAck .. | .avsCurrentRead .. | .prochotNChange .. | .tapInstruction .. | .padControlExit ..
  | .trstNAssert | .tstJobStart | .tstJobAbort | .tstJobEnd .. | .selfTestJobDone .. | .prsIlkInRise | .hpdPlug
  | .pcieLinkUp .. | .pcieLinkDown | .bdWindowOpen | .pwmPeriod .. | .ideKm .. | .drbgReseed | .vddAonLoss | .testLogicReset
  | .tstErrThrReached .. => true

end Sys2Proof
end

