-- ==== Sys2Proof/Safety.lean ====
section
/-! DEFINITION. The terms in which statements speak of the block: what it is for a command to complete, and what a well-kept
state is. -/

namespace Sys2Proof.Machine

/-- The command runs: it answers a next state, and that state has the property. -/
def completes (c : Instr) (s : State) (P : State → Prop) : Prop := ∃ t, exec c s = .next t ∧ P t

/-- The program `p` of a ring stands at the instruction with these words and can run it, and its guard holds (R368). -/
def State.runsAt (s : State) (r : Fin 132) (g : Guard) (w : W64) (ext : List W64) (p : Prog) : Bool :=
  s.prog r.val == some p && p.at w ext && p.runs g

/-- The link led by group `k` takes a packet of a VC and class (R780): it is up, the VC exists, and the packet's credit was given. -/
def State.takesOn (s : State) (k : Nat) (p : Packet) : Bool :=
  p.wf && s.fab.waiting.isEmpty && s.linkUp k && decide (p.vc < s.vcs k) &&
    decide (1 + p.len ≤ (s.link k).creditLeft p.vc p.dl) && s.packetOk k p

/-- A packet that is no management packet and is well formed arrives for this node on a SECURE link while the crossbar runs, and no
earlier one waits (R780, R781). -/
def State.takesPacket (s : State) (k : Nat) (p : Packet) : Bool :=
  s.takesOn k p && p.opc != 8 && s.secure k && s.addrUsed && p.dst == s.ownAddr && !s.xbarStopped

/-- A well-formed management packet of a subtype arrives from a peer without an address (R282, R298, R780). -/
def State.takesMessage (s : State) (k sub ty : Nat) (p : Packet) : Bool :=
  s.takesOn k p && p.opc == 8 && p.w1 % 256 == sub && p.byte 0 == ty && p.src == 0xFFFF && (s.secure k || p.vc == s.mgmtVc k)

/-- The state in which a packet's credit was taken and given back. -/
def State.credited (s : State) (k : Nat) (p : Packet) : State := giveCredit k p (takeCredit k p s)

/-- A steward command comes in a steward session while firmware runs and the log is not sealed, and the SM takes it (R514, R516, R531). -/
def State.asks (s : State) (q : StewReq) (cmd : Nat) : Bool :=
  s.trust.running.isSome && s.inMailbox q cmd && (q.sess.bind s.session).any (·.steward) && !s.trust.halted

/-- The log has started and accepts an ordinary record at once (R546, R548). -/
def State.logsNow (s : State) : Bool := s.log.started && s.logAccepts .ordinary

/-- Pool contents are in canonical form. -/
def State.poolOk (s : State) : Bool := cellsOk s.pool.cells

/-- An instruction of a ring's program, as a command names it: the ring, the guard, and the instruction's words (Table 10.2, Table
10.3). -/
structure ProgWord where
  ring  : Fin 132
  guard : Guard
  word  : W64
  ext   : List W64
  deriving DecidableEq, Repr

/-- The instruction that a command executes, for the commands that are instructions of Table 10.4. -/
def instructionOf : Instr → Option ProgWord
  | .pform r g b => some ⟨r, g, encR 0xA0 g 0 b 0 0, []⟩
  | .pseal r g b => some ⟨r, g, encR 0xA1 g 0 b 0 0, []⟩
  | .prst r g b => some ⟨r, g, encR 0xA2 g 0 b 0 0, []⟩
  | .ptear r g t a => some ⟨r, g, encU 0xA3 g 0 0 t a 0 0 0, []⟩
  | .gassign r g b c => some ⟨r, g, encR 0xA4 g 0 b c 0, []⟩
  | .grelease r g t a => some ⟨r, g, encU 0xA5 g 0 0 t a 0 0 0, []⟩
  | .lease r g b c => some ⟨r, g, encR 0xAB g 0 b c 0, []⟩
  | .rcreate r g b => some ⟨r, g, encR 0xA6 g 0 b 0 0, []⟩
  | .radd r g b c => some ⟨r, g, encR 0xA7 g 0 b c 0, []⟩
  | .rpub r g b c => some ⟨r, g, encR 0xA8 g 0 b c 0, []⟩
  | .rreaders r g b c => some ⟨r, g, encR 0xA9 g 0 b c 0, []⟩
  | .rwdraw r g t a => some ⟨r, g, encU 0xAA g 0 0 t a 0 0 0, []⟩
  | .logapp r g da t a => some ⟨r, g, encU 0xAC g da 0 t a 0 0 0, []⟩
  | .random r g a => some ⟨r, g, encR 0xAE g a 0 0 0, []⟩
  | .sign r g da t => some ⟨r, g, encU 0xAD g da 0 t 0 0 0 0, []⟩
  | .pqueue r g da t _ => some ⟨r, g, encU 0x80 g da 0 t 0 0 0 0, []⟩
  | .pcancel r g a _ => some ⟨r, g, encU 0x81 g 0 0 0 a 0 0 0, []⟩
  | .pengine r g a _ => some ⟨r, g, encU 0x82 g 0 0 0 a 0 0 0, []⟩
  | .pstat r g a => some ⟨r, g, encU 0x83 g 0 0 0 a 0 0 0, []⟩
  | .add r g a b c => some ⟨r, g, encR 0x10 g a b c 0, []⟩
  | .sub r g a b c => some ⟨r, g, encR 0x11 g a b c 0, []⟩
  | .mul r g a b c => some ⟨r, g, encR 0x12 g a b c 0, []⟩
  | .mulhu r g a b c => some ⟨r, g, encR 0x13 g a b c 0, []⟩
  | .divu r g a b c => some ⟨r, g, encR 0x14 g a b c 0, []⟩
  | .remu r g a b c => some ⟨r, g, encR 0x15 g a b c 0, []⟩
  | .and r g a b c => some ⟨r, g, encR 0x16 g a b c 0, []⟩
  | .or r g a b c => some ⟨r, g, encR 0x17 g a b c 0, []⟩
  | .xor r g a b c => some ⟨r, g, encR 0x18 g a b c 0, []⟩
  | .shl r g a b c => some ⟨r, g, encR 0x19 g a b c 0, []⟩
  | .shr r g a b c => some ⟨r, g, encR 0x1A g a b c 0, []⟩
  | .sra r g a b c => some ⟨r, g, encR 0x1B g a b c 0, []⟩
  | .minu r g a b c => some ⟨r, g, encR 0x1C g a b c 0, []⟩
  | .maxu r g a b c => some ⟨r, g, encR 0x1D g a b c 0, []⟩
  | .min r g a b c => some ⟨r, g, encR 0x1E g a b c 0, []⟩
  | .max r g a b c => some ⟨r, g, encR 0x1F g a b c 0, []⟩
  | .addi r g a b imm => some ⟨r, g, encI 0x20 g 0 a b imm, []⟩
  | .andi r g a b imm => some ⟨r, g, encI 0x21 g 0 a b imm, []⟩
  | .ori r g a b imm => some ⟨r, g, encI 0x22 g 0 a b imm, []⟩
  | .xori r g a b imm => some ⟨r, g, encI 0x23 g 0 a b imm, []⟩
  | .shli r g a b sh => some ⟨r, g, encI 0x24 g 0 a b (BitVec.ofNat 38 sh), []⟩
  | .shri r g a b sh => some ⟨r, g, encI 0x25 g 0 a b (BitVec.ofNat 38 sh), []⟩
  | .srai r g a b sh => some ⟨r, g, encI 0x26 g 0 a b (BitVec.ofNat 38 sh), []⟩
  | .li r g a imm => some ⟨r, g, encI 0x27 g 0 a 0 imm, []⟩
  | .lix r g a w => some ⟨r, g, encI 0x28 g 1 a 0 0, [w]⟩
  | .sel r g a b c x => some ⟨r, g, encR 0x29 g a b c x, []⟩
  | .time r g a => some ⟨r, g, encR 0x2A g a 0 0 0, []⟩
  | .rinfo r g a => some ⟨r, g, encR 0x2B g a 0 0 0, []⟩
  | .ceq r g a b c => some ⟨r, g, encR 0x30 g a b c 0, []⟩
  | .cne r g a b c => some ⟨r, g, encR 0x31 g a b c 0, []⟩
  | .cltu r g a b c => some ⟨r, g, encR 0x32 g a b c 0, []⟩
  | .clt r g a b c => some ⟨r, g, encR 0x33 g a b c 0, []⟩
  | .cgeu r g a b c => some ⟨r, g, encR 0x34 g a b c 0, []⟩
  | .cge r g a b c => some ⟨r, g, encR 0x35 g a b c 0, []⟩
  | .ceqi r g a b imm => some ⟨r, g, encI 0x36 g 0 a b imm, []⟩
  | .cltui r g a b imm => some ⟨r, g, encI 0x37 g 0 a b imm, []⟩
  | .pand r g a b c => some ⟨r, g, encR 0x38 g a b c 0, []⟩
  | .por r g a b c => some ⟨r, g, encR 0x39 g a b c 0, []⟩
  | .pxor r g a b c => some ⟨r, g, encR 0x3A g a b c 0, []⟩
  | .pandn r g a b c => some ⟨r, g, encR 0x3B g a b c 0, []⟩
  | .pset r g a b => some ⟨r, g, encR 0x3C g a b 0 0, []⟩
  | .dget r g a b x => some ⟨r, g, encR 0x42 g a b 0 x, []⟩
  | .dset r g a b x => some ⟨r, g, encR 0x43 g a b 0 x, []⟩
  | .dseti r g a b imm => some ⟨r, g, encI 0x44 g 0 a b imm, []⟩
  | .dsetx r g a b ws => some ⟨r, g, encI 0x45 g ws.length a b 0, ws⟩
  | .dclr r g a => some ⟨r, g, encR 0x46 g a 0 0 0, []⟩
  | .dmov r g a b => some ⟨r, g, encR 0x47 g a b 0 0, []⟩
  | .ctxset r g b => some ⟨r, g, encR 0x58 g 0 b 0 0, []⟩
  | .nop r g => some ⟨r, g, encR 0x00 g 0 0 0 0, []⟩
  | .fence r g => some ⟨r, g, encR 0x93 g 0 0 0 0, []⟩
  | .jmp r g off => some ⟨r, g, encB 0x02 g 0 off, []⟩
  | .jz r g a off => some ⟨r, g, encB 0x04 g a off, []⟩
  | .jnz r g a off => some ⟨r, g, encB 0x05 g a off, []⟩
  | .loop r g a off => some ⟨r, g, encB 0x03 g a off, []⟩
  | .tst r g t a => some ⟨r, g, encU 0x92 g 0 0 t a 0 0 0, []⟩
  | .wait r g t a noend => some ⟨r, g, encU 0x90 g 0 0 t a 0 0 (b2n noend), []⟩
  | .waitany r g a m => some ⟨r, g, encU 0x91 g 0 0 0 a 0 0 m.toNat, []⟩
  | .evraise r g n => some ⟨r, g, encI 0x98 g 0 0 0 (BitVec.ofNat 38 n), []⟩
  | .evtime r g b => some ⟨r, g, encR 0x99 g 0 b 0 0, []⟩
  | .dld r g a b => some ⟨r, g, encR 0x40 g a b 0 0, []⟩
  | .dst r g a b => some ⟨r, g, encR 0x41 g a b 0 0, []⟩
  | .ld r g a b sz imm => some ⟨r, g, encM 0x50 g a b sz imm, []⟩
  | .lds r g a b sz imm => some ⟨r, g, encM 0x51 g a b sz imm, []⟩
  | .st r g a b sz imm => some ⟨r, g, encM 0x52 g a b sz imm, []⟩
  | .kcsAtom r g a b c op wide => some ⟨r, g, encR 0x53 g a b c (op.val + b2n wide * 16), []⟩
  | .lsld r g a b sz imm => some ⟨r, g, encM 0x56 g a b sz imm, []⟩
  | .lsst r g a b sz imm => some ⟨r, g, encM 0x57 g a b sz imm, []⟩
  | .kcsEnd r g => some ⟨r, g, encB 0x01 g 0 0, []⟩
  | .copy r g da t => some ⟨r, g, encU 0x54 g da 0 t 0 0 0 0, []⟩
  | .fill r g da t => some ⟨r, g, encU 0x55 g da 0 t 0 0 0 0, []⟩
  | .hgemm r g da t => some ⟨r, g, encU 0x68 g da 0 t 0 0 0 0, []⟩
  | .hsmax r g da t => some ⟨r, g, encU 0x69 g da 0 t 0 0 0 0, []⟩
  | .helt r g da t => some ⟨r, g, encU 0x6A g da 0 t 0 0 0 0, []⟩
  | .attn r g da db t => some ⟨r, g, encU 0x70 g da db t 0 0 0 0, []⟩
  | .amerge r g da t => some ⟨r, g, encU 0x71 g da 0 t 0 0 0 0, []⟩
  | .plopen r g da a => some ⟨r, g, encU 0x60 g da 0 0 a 0 0 0, []⟩
  | .plread r g da a f => some ⟨r, g, encU 0x61 g da 0 0 a 0 0 f, []⟩
  | .plskip r g da a => some ⟨r, g, encU 0x62 g da 0 0 a 0 0 0, []⟩
  | .plemit r g t a b c => some ⟨r, g, encU 0x63 g 0 0 t a b c 0, []⟩
  | .plend r g t => some ⟨r, g, encU 0x64 g 0 0 t 0 0 0 0, []⟩
  | .rdraw r g da t _ => some ⟨r, g, encU 0x78 g da 0 t 0 0 0 0, []⟩
  | .rclear r g da t _ => some ⟨r, g, encU 0x79 g da 0 t 0 0 0 0, []⟩
  | .rcommit r g da a _ => some ⟨r, g, encU 0x7A g da 0 0 a 0 0 0, []⟩
  | .tload r g da t a _ => some ⟨r, g, encU 0x88 g da 0 t a 0 0 0, []⟩
  | .tset r g a b _ => some ⟨r, g, encU 0x89 g 0 0 0 a b 0 0, []⟩
  | .tctl r g a b _ => some ⟨r, g, encU 0x8A g 0 0 0 a b 0 0, []⟩
  | .tcap r g da t _ => some ⟨r, g, encU 0x8B g da 0 t 0 0 0 0, []⟩
  | _ => none

/-- The line of the pool to which a ring's write or atomic of at most one line at a VA goes: the VA's own line for a program of the SM,
and the line of the translated address for another; none when the access is violated. -/
def State.lineOf (s : State) (r ctx va : Nat) (op : AccOp) : Option Nat :=
  if smRing r then some (va / 64)
  else
    match (translate (.ring r) (ringCid r ctx) va op s).1 with
    | .ok ppa => some (ppa / 64)
    | _ => none

/-- The two states hold the same byte at every address of the pool outside a line. -/
def State.sameBytesBut (s t : State) (line : Option Nat) : Prop :=
  ∀ a : Nat, some (a / 64) ≠ line → cellRead t.pool.cells a = cellRead s.pool.cells a

/-- What no command but a fuse commit changes in the fuses, and that never falls (R501). -/
def State.identity (s : State) : Part × Nat := (s.fuses.part, s.fuses.uid)

end Sys2Proof.Machine
end

