-- ==== Sys2Proof/Certificates/Slice0/Obligations.lean ====
section
/-! DEFINITION. The statements for the provers: what a step does, the numbered rules that say what the block does, what each command's
completion leaves, and what each command leaves unchanged. -/

open Sys2Proof Sys2Proof.Machine

/-- For every command c and every state, a step of that state with c put in front of its queue is exec of c at the state
with the rest of the queue. The queue of commands is the model's (log entry 1). -/
def Obligations.StepRunsFront : Prop :=
  ∀ (c : Instr) (s : State), step { s with pending := c :: s.pending } = exec c s

/-- Whatever a command does, the queue after its step is the queue without it, and elapsed time stands. A step on an
empty queue answers a next state whose queue is empty and whose elapsed time is one cycle more. With no fabric request
waiting that is all it does while TIMEBASE does not run; while TIMEBASE is out of reset with its clock running, the
Sorrel counter advances by 41,943,040 units of 2^-24 ns plus the servo's correction, of which a fraction in 50,000ths is
carried, and pool memory, the log, rings, trust, the pins and the power state are as they were. That a step on an empty
queue is one TIMEBASE cycle is the model's choice (log entry 1). -/
def Obligations.QueueAndElapsedTime : Prop :=
  (∀ (s t : State) (c : Instr) (rest : List Instr), s.pending = c :: rest → step s = .next t → t.pending = rest ∧ t.ticks =
   s.ticks) ∧
  (∀ (s : State), s.pending = [] → ∃ t, step s = .next t ∧ t.pending = [] ∧ t.ticks = s.ticks + 1) ∧
  (∀ (s : State), s.pending = [] → s.fab.waiting = [] → s.timebaseRuns = false → step s = .next
   { s with ticks := s.ticks + 1 }) ∧
  (∀ (s : State), s.pending = [] → s.fab.waiting = [] → s.timebaseRuns = true → ∃ t, step s = .next t ∧ t.sorrelTime =
   (s.sorrelTime + ((s.fab.sorrel.rem + 41943040 * 50000 + s.sorrelCorr) / 50000).toNat) % 2 ^ 88 ∧ t.fab.sorrel.rem =
   ((s.fab.sorrel.rem + 41943040 * 50000 + s.sorrelCorr) % 50000).toNat ∧ t.pool = s.pool ∧ t.log = s.log ∧ t.rings =
   s.rings ∧ t.trust = s.trust ∧ t.press = s.press ∧ t.pwr = s.pwr)

/-- In the state after reset every register reads the reset value of its table; islands 1 to 24 are in reset; no
partition, granule, session, record, program or packet exists; the press outputs are at their safe levels; and the
pool's bytes are in canonical form. What the spec gives no value for (the die's UID, part and fuses, and the pins'
levels, log entries 2 and 3) is the model's choice and no part of this statement. -/
def Obligations.StateAfterReset : Prop :=
  (∀ (key : Nat), State.reset.reg key = BitVec.ofNat 64 (resetNat key)) ∧
  (State.reset.get F.CKR_ISL_STATE_IN_RESET = 0x1FFFFFE ∧ State.reset.poolOk = true ∧ State.reset.pool.cells = [] ∧ (∀ p :
   Fin 16, State.reset.lc p.val = 0) ∧ (∀ r : Fin 128, State.reset.ringState r.val = 0) ∧ State.reset.press =
   PressPins.safe ∧ State.reset.log.started = false ∧ State.reset.trust.running = none ∧ State.reset.trust.sessions = []
   ∧ State.reset.leases.press = none ∧ State.reset.pending = [] ∧ State.reset.fabOut = [] ∧ State.reset.hostOut = [])

/-- A command that is not well formed is refused as ill-formed. A well-formed command answers a next state in every
state, except that LINE_READ, LINE_WRITE and PARTIAL_LINE_WRITE of a line at or beyond the usable granules fault with
noSuchAddress. -/
def Obligations.OnlyIllFormedCommandsStop : Prop :=
  (∀ (s : State) (c : Instr), c.wf = false → exec c s = .refused .illFormed) ∧
  (∀ (s : State) (c : Instr), c.wf = true → (∃ t, exec c s = .next t) ∨ (exec c s = .fault .noSuchAddress ∧ ∃ line,
   s.lineExists line = false ∧ ((∃ e b, c = .lineRead line e b) ∨ (∃ d, c = .lineWrite line d) ∨ ∃ m d, c =
   .partialLineWrite line m d)))

/-- In every step of every state SVN_MIN keeps its value, or the command in front is FW_COMMIT_SVN, SVN_MIN rises, and
its new value is the SVN of the running image. While SVN_MIN and the running image's SVN fit 64 bits, SVN_MIN fits 64
bits after the step. An idle step changes nothing of it. -/
def Obligations.SvnRisesOnlyByCommit : Prop :=
  ∀ (s t : State), step s = .next t → (t.fuses.svnMin = s.fuses.svnMin ∨ (s.fuses.svnMin < t.fuses.svnMin ∧ ∃ q rest g,
  s.pending = .fwCommitSvn q :: rest ∧ s.trust.running = some g ∧ t.fuses.svnMin = g.svn)) ∧ (s.fuses.svnMin < 2 ^ 64 →
  (∀ g, s.trust.running = some g → g.svn < 2 ^ 64) → t.fuses.svnMin < 2 ^ 64)

/-- From every state whose pool bytes are in canonical form (addresses strictly rising, no entry equal to the zero that
an unlisted address reads as), a step that answers a next state leaves them in canonical form. That an unlisted byte is
zero is the model's choice (log entry 4). -/
def Obligations.PoolFormKept : Prop :=
  ∀ (s t : State), s.poolOk = true → step s = .next t → t.poolOk = true

/-- In every step of every state the part code, the grade, the UID, the fused frequencies and the fused defects of the
die are as before, SVN_MIN has not fallen, and a revoked key slot stays revoked. -/
def Obligations.DieIdentityKept : Prop :=
  ∀ (s t : State), step s = .next t → t.fuses.part = s.fuses.part ∧ t.fuses.extended = s.fuses.extended ∧ t.fuses.uid =
  s.fuses.uid ∧ t.fuses.maxMHz = s.fuses.maxMHz ∧ t.fuses.badEngines = s.fuses.badEngines ∧ t.fuses.badCores =
  s.fuses.badCores ∧ s.fuses.svnMin ≤ t.fuses.svnMin ∧ ∀ k, k ∈ s.fuses.revoked → k ∈ t.fuses.revoked

/-- For every command that is an instruction of a ring's program: when the ring's program stands at the instruction's
words and can run, and p[PR] XOR PN is 0, the command's whole effect is that the program goes on behind the words (so
its tallies, registers and memory are as they were). The guard holds exactly when p[PR] XOR PN is 1, and an unpredicated
instruction's guard holds in every program. The effects of the instructions whose guard holds are the other statements'
subject. -/
def Obligations.GuardedInstructions : Prop :=
  (∀ (s : State) (c : Instr) (w : ProgWord) (p : Prog), c.wf = true → instructionOf c = some w → s.prog w.ring.val = some p
   → p.at w.word w.ext = true → p.runs w.guard = false → exec c s = .next (s.setProg w.ring.val (p.next (1 +
   w.ext.length)))) ∧
  (∀ (p : Prog) (g : Guard), p.runs g = (p.preg g.pr.val ^^ g.pn) ∧ p.runs ⟨0, false⟩ = true)

/-- For every command that is an instruction of a ring's program: when the ring runs no program, or its program does not
stand at the instruction's words, has ended or failed, or waits, the command changes nothing. That the sender names the
words it executes is the model's choice (log entry 12). -/
def Obligations.InstructionsWaitForTheirProgram : Prop :=
  (∀ (s : State) (c : Instr) (w : ProgWord), c.wf = true → instructionOf c = some w → s.prog w.ring.val = none → exec c s =
   .next s) ∧
  (∀ (s : State) (c : Instr) (w : ProgWord) (p : Prog), c.wf = true → instructionOf c = some w → s.prog w.ring.val = some p
   → p.at w.word w.ext = false → exec c s = .next s)

/-- In every state, and after every change of another granule's entry, the state of a granule numbered USABLE or above
is RESERVED. -/
def Obligations.ReservedGranules : Prop :=
  ∀ (s : State) (g h : Nat) (x : GState), s.usable ≤ g → s.gran g = .reserved ∧ (s.setGran h x).gran g = .reserved

/-- The one operation that takes a doorbell, from whichever side it comes, leaves the whole state as it was when the
ring's STATE is DISABLED or STOPPING; so does the command DOORBELL. -/
def Obligations.DoorbellsOfStoppedRings : Prop :=
  ∀ (s : State) (r : Fin 128) (t : W32), s.ringState r.val = 0 ∨ s.ringState r.val = 3 → applyDoorbell r.val t.toNat s = s
  ∧ exec (.doorbell r t) s = .next s

/-- On a link that is up, SECURE and not excluded, whose neighbour is neither a child of the node nor its parent, a
well-formed REPORT, REPORT_DONE or ASSIGN that arrives with its credit changes nothing but the credit and
TOPO_STATUS.STRAY, which counts it and saturates. -/
def Obligations.StrayMessages : Prop :=
  ∀ (s : State) (k : Fin 6) (p q a : Packet), s.takesMessage k.val 0 3 p = true → s.takesMessage k.val 0 4 q = true →
  s.takesMessage k.val 0 5 a = true → s.excluded k.val = false → s.secure k.val = true → s.isChild k.val = false →
  s.best.bind (·.link) ≠ some k.val → exec (.report k p) s = .next ((s.credited k.val p).bump F.TOPO_STATUS_STRAY 1) ∧
  exec (.reportDone k q) s = .next ((s.credited k.val q).bump F.TOPO_STATUS_STRAY 1) ∧ exec (.assign k a) s = .next
  ((s.credited k.val a).bump F.TOPO_STATUS_STRAY 1)

/-- At the coordinator (COORD is 1 and the node is ASSIGNED) TOPO_SRL_SET leaves TIME_NS at the written value and FRAC
at 0, and SORREL_STEP has occurred. At every other node its whole effect is that SET_REFUSED reads 1. -/
def Obligations.SorrelTimeIsSetAtTheCoordinator : Prop :=
  (∀ (s : State) (v : W64), s.on F.TOPO_STATUS_COORD = true → s.campState = campAssigned → completes (.topoSrlSet v) s (fun
   t => t.get F.TOPO_SRL_TIME_TIME_NS = v.toNat ∧ t.get F.TOPO_SRL_FRAC_FRAC = 0 ∧ bit (t.get (F.EVT_OCCURRED_BITS 1))
   18 = true)) ∧
  (∀ (s : State) (v : W64), s.on F.TOPO_STATUS_COORD = false ∨ s.campState ≠ campAssigned → exec (.topoSrlSet v) s = .next
   (s.put F.TOPO_SRL_STATUS_SET_REFUSED 1))

/-- When the steward commands TOMBSTONE_CLEAR in its session and the log accepts a record: once the TOMBSTONE record has
a sequence number below the retired one and LOG_TOMBSTONE holds one, a TOMBSTONE_CLEARED record is handed to the log,
accepted, and all sixteen words of LOG_TOMBSTONE read zero; in every other case the whole effect is the answer MALFORMED
with reason 2. -/
def Obligations.TombstoneClearing : Prop :=
  (∀ (s : State) (q : StewReq) (n : Nat) (i : Fin 16), s.asks q 0x81 = true → s.logsNow = true → s.log.halted = false →
   s.log.tombSeq = some n → s.tombState ≠ 0 → seqAfter s.log.retired n = true → completes (.tombstoneClear q) s (fun t
   => t.get (F.LOG_TOMBSTONE_DATA i.val) = 0 ∧ t.log.waiting.any (fun r => r.type == 0x42 && r.accepted) = true ∧
   t.log.tombSeq = none)) ∧
  (∀ (s : State) (q : StewReq), s.asks q 0x81 = true → s.log.tombSeq.all (fun n => s.tombState == 0 || !seqAfter
   s.log.retired n) = true → exec (.tombstoneClear q) s = .next (answer q 0x81 0x50 2 [] s))

/-- With the drain enabled, a write of HEAD whose distance from HEAD modulo 2^32 is at most TAIL's leaves HEAD at the
written value, and the records below it are retired: the first retired sequence number is the written one, the records
held are those after as many as the advance, and the log's free slots grow by the advance. A write further than TAIL
leaves HEAD, the records and everything else and sets DRAIN_ERR. The premises beside the rule's say that the records
retired so far are those below HEAD and that HEAD does not pass the next sequence number, as in every state a run
reaches. -/
def Obligations.DrainHead : Prop :=
  (∀ (s : State) (v : W32), s.on F.LOG_DRAIN_CFG_EN = true → s.log.retired = s.get F.LOG_DRAIN_HEAD_HEAD → sub32 v.toNat
   (s.get F.LOG_DRAIN_HEAD_HEAD) ≤ sub32 (s.get F.LOG_DRAIN_TAIL_TAIL) (s.get F.LOG_DRAIN_HEAD_HEAD) → sub32 v.toNat
   s.log.retired ≤ sub32 s.log.nextSeq s.log.retired → s.log.waiting = [] → s.log.nextSeq < 2 ^ 32 → s.logUsed ≤ 4096 →
   completes (.logDrainHeadWrite v) s (fun t => t.get F.LOG_DRAIN_HEAD_HEAD = v.toNat ∧ t.log.retired = v.toNat ∧
   t.log.records = s.log.records.drop (sub32 v.toNat s.log.retired) ∧ t.logFree = s.logFree + sub32 v.toNat
   s.log.retired ∧ t.reg R.LOG_DRAIN_STATUS = s.reg R.LOG_DRAIN_STATUS)) ∧
  (∀ (s : State) (v : W32), sub32 (s.get F.LOG_DRAIN_TAIL_TAIL) (s.get F.LOG_DRAIN_HEAD_HEAD) < sub32 v.toNat (s.get
   F.LOG_DRAIN_HEAD_HEAD) → exec (.logDrainHeadWrite v) s = .next (s.put F.LOG_DRAIN_STATUS_DRAIN_ERR 1))

/-- A pad-control instruction (opcodes 3 to 7) that is shifted in while some partition is FORMING, SEALED or DRAINING,
or as one is formed in the same cycle, is refused, and so is an instruction 0x10 to 0x12 while TEST_MODE is 0: the
instruction register then holds BYPASS and TAP_BLOCKED has occurred. A pad-control instruction holds the instruction
register afterwards only if no partition was FORMING, SEALED or DRAINING. -/
def Obligations.PadControlRefusals : Prop :=
  (∀ (s : State) (op : Byte) (f : Bool), (padControl op.toNat = true ∧ ((∃ p : Fin 16, s.lc p.val ≠ 0) ∨ f = true)) ∨
   (testOnly op.toNat = true ∧ s.on F.GLB_STRAP_TEST_MODE = false) → completes (.tapInstruction op f) s (fun t =>
   t.tst.ir = 0xFF ∧ bit (t.get (F.EVT_OCCURRED_BITS 4)) 3 = true)) ∧
  (∀ (s : State) (op : Byte) (f : Bool), padControl op.toNat = true → completes (.tapInstruction op f) s (fun t => t.tst.ir
   = op.toNat → ∀ p : Fin 16, s.lc p.val = 0))

/-- From a state whose pool bytes are in canonical form, an ST, DST or ATOM that completes leaves every byte of the pool
outside the line its VA goes to (that of the translated address; none when the access is violated) as it was; so does a
line write outside its line. An aligned ST, DST or ATOM lies in one line, and one that is not aligned stores nothing. -/
def Obligations.StoresReachOneLine : Prop :=
  (∀ (s t : State) (r : Fin 132) (g : Guard) (a b : Fin 32) (sz : Fin 4) (imm : BitVec 36) (p : Prog), s.poolOk = true →
   s.runsAt r g (encM 0x52 g a b sz imm) [] p = true → exec (.st r g a b sz imm) s = .next t → s.sameBytesBut t (if vaOf
   r (p.sreg b + imm.signExtend 64) % 2 ^ sz.val = 0 then s.lineOf r p.ctx (vaOf r (p.sreg b + imm.signExtend 64)) .wr
   else none)) ∧
  (∀ (s t : State) (r : Fin 132) (g : Guard) (a : Fin 16) (b : Fin 32) (p : Prog), s.poolOk = true → s.runsAt r g (encR
   0x41 g a b 0 0) [] p = true → exec (.dst r g a b) s = .next t → s.sameBytesBut t (if vaOf r (p.sreg b) % 64 = 0 then
   s.lineOf r p.ctx (vaOf r (p.sreg b)) .wr else none)) ∧
  (∀ (s t : State) (r : Fin 132) (g : Guard) (a b c : Fin 32) (op : Fin 8) (wide : Bool) (p : Prog), s.poolOk = true →
   s.runsAt r g (encR 0x53 g a b c (op.val + b2n wide * 16)) [] p = true → exec (.kcsAtom r g a b c op wide) s = .next t
   → s.sameBytesBut t (if vaOf r (p.sreg b) % (if wide then 8 else 4) = 0 then s.lineOf r p.ctx (vaOf r (p.sreg b)) .at
   else none)) ∧
  (∀ (s t u : State) (line : Nat) (m : W64) (data : List Byte), s.poolOk = true → exec (.lineWrite line data) s = .next t →
   exec (.partialLineWrite line m data) s = .next u → s.sameBytesBut t (some line) ∧ s.sameBytesBut u (some line))

/-- For the commands whose frame is the rings alone (NOP, the branches, scalar arithmetic, comparisons, predicates,
descriptor slots, local store, CTXSET, WAIT, WAITANY, TST, FENCE, EVTIME, TIME, RINFO, LI, LIX, SEL, DGET and their
like), a next state has every register, all memory, every other part of the state and the queue as they were. -/
def Obligations.FramesOfPlainInstructions : Prop :=
  ∀ (s t : State) (c : Instr), (frameOf c).parts = [.rings] → (frameOf c).regs.any (·.isEmpty) = true → exec c s = .next t
  → (frameOf c).holds s t

/-- For every command whose frame holds no event state and names its registers, a next state agrees with the state
before in every part outside the frame (the pool's bytes among them where the frame holds none) and in every register
that no family of the frame's registers contains. -/
def Obligations.FramesWithoutEvents : Prop :=
  ∀ (s t : State) (c : Instr), (frameOf c).parts.contains .events = false → (frameOf c).regs.isSome = true → exec c s =
  .next t → (frameOf c).holds s t

/-- For every command whose frame holds event state and no memory and names its registers, a next state agrees with the
state before in every part outside the frame, every byte of the pool among them, and in every register that no family of
the frame's registers contains. -/
def Obligations.FramesWithEvents : Prop :=
  ∀ (s t : State) (c : Instr), (frameOf c).parts.contains .events = true → (frameOf c).parts.contains .memory = false →
  (frameOf c).regs.isSome = true → exec c s = .next t → (frameOf c).holds s t

/-- For every command whose frame holds memory and event state and names its registers, a next state agrees with the
state before in every part outside the frame and in every register that no family of the frame's registers contains. -/
def Obligations.FramesWithMemory : Prop :=
  ∀ (s t : State) (c : Instr), (frameOf c).parts.contains .memory = true → (frameOf c).regs.isSome = true → exec c s =
  .next t → (frameOf c).holds s t

/-- For every command that may change any register (resets, partition resets and teardown, packets, firmware start,
register writes and their like), a next state agrees with the state before in every part outside the command's frame:
the fuses, elapsed time and the queue always, and the others as the frame says. -/
def Obligations.FramesOfResetsAndPackets : Prop :=
  ∀ (s t : State) (c : Instr), (frameOf c).regs.isNone = true → exec c s = .next t → (frameOf c).holds s t

/-- PORST_N low resets islands 1 to 24 at once with cause POR, empties pool memory and makes the press outputs safe;
PORST_N high samples the straps and starts the node with a new incarnation; an accepted WRST_N or MRST_N pulse, a WARM
or MRW request, the watchdog and a SYN_11 that does not lock start a prologue with their cause set, and a short pulse
changes nothing; a warm request demotes a memory-retaining prologue; an order that loses to the SM in the same cycle is
only counted; undervoltage, a stopped crystal and a thermal trip reset the node with their cause and pin; VDD_AON's loss
clears every register and undrives the press outputs, and its return brings AON up. -/
def Obligations.ResetInputs : Prop :=
  (∀ (s : State), s.pwr.porstLow = false → s.pwr.aonUp = true → completes .porstNFall s (fun t => t.pwr.porstLow = true ∧
   t.on F.CKR_RST_CAUSE_POR = true ∧ t.get F.CKR_ISL_STATE_IN_RESET = 0x1FFFFFE ∧ t.pool.cells = [] ∧ t.press =
   { PressPins.safe with driven := s.press.driven } ∧ t.pwr.thermtripLow = false ∧ t.pwr.held = false)) ∧
  (∀ (s : State) (testMode : Bool) (strap : BitVec 4), s.pwr.porstLow = true → s.pwr.aonUp = true → completes (.porstNRise
   testMode strap) s (fun t => t.pwr.porstLow = false ∧ t.pwr.faultN = [] ∧ t.on F.GLB_STRAP_TEST_MODE = testMode ∧
   t.get F.GLB_STRAP_I3C_ADDR = strap.toNat / 4 ∧ t.get F.GLB_STRAP_FAB_MODE = strap.toNat / 2 % 2 ∧ t.get
   F.GLB_STRAP_BOOT_CS = strap.toNat % 2 ∧ t.get F.CKR_INCARNATION_COUNT = (s.get F.CKR_INCARNATION_COUNT + 1) %
   F.CKR_INCARNATION_COUNT.size)) ∧
  (∀ (s : State) (cycles : Nat), 250 ≤ cycles → s.isHeld = false → s.pwr.prologue = none → completes (.wrstNPulse cycles) s
   (fun t => t.pwr.prologue = some .warm ∧ t.on F.CKR_RST_CAUSE_WARM_PIN = true ∧ t.press.driven = s.press.driven ∧
   t.prs.aonSafe = true)) ∧
  (∀ (s : State) (cycles : Nat), cycles < 25 → exec (.wrstNPulse cycles) s = .next s ∧ exec (.mrstNPulse cycles) s = .next
   s) ∧
  (∀ (s : State) (cycles : Nat), 250 ≤ cycles → s.isHeld = false → s.pwr.prologue = none → completes (.mrstNPulse cycles) s
   (fun t => t.pwr.prologue = some .memoryRetaining ∧ t.on F.CKR_RST_CAUSE_MRW_PIN = true)) ∧
  (∀ (s : State), s.isHeld = false → s.pwr.prologue = none → completes (.warmResetRequest false) s (fun t => t.pwr.prologue
   = some .warm ∧ t.on F.CKR_RST_CAUSE_WARM_REQ = true)) ∧
  (∀ (s : State), s.isHeld = false → s.pwr.prologue = some .memoryRetaining → completes (.warmResetRequest false) s (fun t
   => t.pwr.prologue = some .warm ∧ t.on F.CKR_RST_CAUSE_WARM_REQ = true ∧ t.on F.CKR_RST_CAUSE_MRW_DEMOTED = true)) ∧
  (∀ (s : State), completes (.warmResetRequest true) s (fun t => t.get F.SMB_SUPERSEDED_COUNT = min
   (F.SMB_SUPERSEDED_COUNT.size - 1) (s.get F.SMB_SUPERSEDED_COUNT + 1) ∧ t.pwr = s.pwr) ∧ completes (.mrwResetRequest
   true) s (fun t => t.get F.SMB_SUPERSEDED_COUNT = min (F.SMB_SUPERSEDED_COUNT.size - 1) (s.get F.SMB_SUPERSEDED_COUNT
   + 1) ∧ t.pwr = s.pwr)) ∧
  (∀ (s : State), s.isHeld = false → s.pwr.prologue = none → completes (.mrwResetRequest false) s (fun t => t.pwr.prologue
   = some .memoryRetaining ∧ t.on F.CKR_RST_CAUSE_MRW_REQ = true)) ∧
  (∀ (s : State), s.trust.running.isSome = true → s.isHeld = false → s.pwr.prologue = none → completes .smWatchdogExpiry s
   (fun t => t.pwr.prologue = some .warm ∧ t.on F.CKR_RST_CAUSE_WATCHDOG = true)) ∧
  (∀ (s : State), s.clk.syn11Lost = true → s.synState 11 ≠ synLocked → s.isHeld = false → s.pwr.prologue = none → completes
   .syn11LockTimeout s (fun t => t.pwr.prologue = some .warm)) ∧
  (∀ (s : State) (rail : Fin 4), s.isHeld = false → completes (.undervoltage rail) s (fun t => bit (t.get
   F.CKR_RST_CAUSE_UV) rail = true ∧ t.pwr.faultN.contains .undervoltage = true ∧ t.get F.CKR_ISL_STATE_IN_RESET =
   0x1FFFFFE ∧ t.pool.cells = [])) ∧
  (∀ (s : State), s.pwr.aonUp = true → s.pwr.xtalRunning = true → completes .crystalStop s (fun t => t.on
   F.CKR_RST_CAUSE_XTAL_STOP = true ∧ t.pwr.held = true ∧ t.pwr.xtalRunning = false ∧ t.pwr.faultN.contains .xtalStop =
   true)) ∧
  (∀ (s : State), s.isHeld = false → s.pwr.thermtripLow = false → completes .thermalTrip s (fun t => t.on
   F.CKR_RST_CAUSE_THERMTRIP = true ∧ t.pwr.thermtripLow = true ∧ t.pwr.held = true ∧ t.get F.CKR_ISL_STATE_IN_RESET =
   0x1FFFFFE)) ∧
  (∀ (s : State), s.pwr.aonUp = true → completes .vddAonLoss s (fun t => t.regs = [] ∧ t.pwr.aonUp = false ∧ t.press.driven
   = false ∧ t.trust.flash = s.trust.flash)) ∧
  (∀ (s : State), s.pwr.aonUp = false → completes .vddAonApply s (fun t => t.pwr.aonUp = true ∧ t.pwr.xtalRunning = true ∧
   t.regs = s.regs))

/-- A finished warm prologue resets islands 1 to 24, empties pool memory and starts a new incarnation; a finished
memory-retaining one keeps pool memory; one that takes too long becomes a warm reset with MRW_DEMOTED; fabric atomics
are served again at the window's end; FABRIC_READY is reached from stage 6 when the coordinates are assigned, Sorrel is
in lock and every trained link is admitted or held; an image that no check passes ends start-up at BOOT_FAIL with
FAULT_N low; built-in self-test with nothing failing goes on to stage 5 and with a granule table beyond repair to
BOOT_FAIL; an island reset by CKR_ISL_RST resets TEST, and does nothing on the press islands of a KQN-1610. -/
def Obligations.ResetAndStartUpProgress : Prop :=
  (∀ (s : State), s.pwr.prologue = some .warm → s.prologueBusy = false → completes .resetPrologueDone s (fun t =>
   t.pwr.prologue = none ∧ t.pool.cells = [] ∧ t.get F.CKR_ISL_STATE_IN_RESET = 0x1FFFFFE ∧ t.get
   F.CKR_INCARNATION_COUNT = (s.get F.CKR_INCARNATION_COUNT + 1) % F.CKR_INCARNATION_COUNT.size)) ∧
  (∀ (s : State), s.pwr.prologue = some .memoryRetaining → s.prologueBusy = false → s.mrwLost = false → completes
   .resetPrologueDone s (fun t => t.pwr.prologue = none ∧ t.pool.cells = s.pool.cells ∧ t.get F.CKR_ISL_STATE_IN_RESET =
   0x1FFFFFE ∧ t.get F.CKR_INCARNATION_COUNT = (s.get F.CKR_INCARNATION_COUNT + 1) % F.CKR_INCARNATION_COUNT.size)) ∧
  (∀ (s : State), s.pwr.prologue = some .memoryRetaining → completes .mrwPrologueTimeout s (fun t => t.pwr.prologue = none
   ∧ t.pool.cells = [] ∧ t.on F.CKR_RST_CAUSE_MRW_DEMOTED = true)) ∧
  (∀ (s : State), completes .atomWindowEnd s (fun t => t.pwr.atomWindow = false ∧ t.regs = s.regs ∧ t.pool = s.pool)) ∧
  (∀ (s : State) (held : List Nat), s.get F.CKR_START_STAGE_STAGE = 6 → s.fab.assigned = true → s.get F.TOPO_STATUS_STATE =
   3 → s.get F.TOPO_SRL_STATUS_STATE = 3 → s.linksReady held = true → completes (.fabricReady held) s (fun t => t.get
   F.CKR_START_STAGE_STAGE = 7 ∧ t.pwr.atomWindow = s.pwr.afterReset)) ∧
  (∀ (s : State) (keysOk : Bool), s.get F.CKR_START_STAGE_STAGE = 2 → s.trust.udsLocked = false → s.starting = true →
   s.trust.flash = [] → completes (.firmwareImageLoaded none false keysOk) s (fun t => t.get F.CKR_START_STAGE_STAGE =
   0xE0 ∧ t.pwr.faultN.contains .bootFail = true ∧ t.trust.running = none ∧ t.trust.udsLocked = true)) ∧
  (∀ (s : State) (a b : Image) (keysOk : Bool), s.get F.CKR_START_STAGE_STAGE = 2 → s.trust.udsLocked = false → s.starting
   = true → s.trust.fresh = true → completes (.firmwareImageLoaded (some (a, b)) false keysOk) s (fun t =>
   t.trust.udsLocked = true ∧ t.get F.CKR_START_STAGE_STAGE = (if s.imageGood a = true ∨ s.imageGood b = true then 3
   else 0xE0) ∧ (s.imageGood a = true → s.imageGood b = true → t.trust.owner = s.flashOwner ∧ t.on
   F.PWR_AVS_STATUS_SM_OWNED = true ∧ t.trust.running = some (if s.get F.GLB_STRAP_BOOT_CS = 0 then a else b)))) ∧
  (∀ (s : State), s.get F.CKR_START_STAGE_STAGE = 4 → s.starting = true → (List.range 9).all (fun n => s.synState n ==
   synLocked) = true → s.startEntries = [] → completes (.selfTestComplete [] [] []) s (fun t => t.get
   F.CKR_START_STAGE_STAGE = 5 ∧ t.rpr.dead = [])) ∧
  (∀ (s : State), completes (.islandReset 24) s (fun t => t.tst.ir = TestState.init.ir ∧ t.tst.pads = none)) ∧
  (∀ (s : State) (n : Fin 25), s.hasPress = false → n.val < 14 ∨ (20 ≤ n.val ∧ n.val < 24) → exec (.islandReset n) s =
   .next s)

/-- SYN_ENABLE by the SM takes a synthesizer in OFF to ACQUIRING with EN set; SYN_DISABLE takes one that runs to OFF
(SYN_4 to SYN_7 when nothing keeps their quadrant) or begins the quadrant's quiescing; SYN_CONFIG_WRITE by the SM
changes GUARD without a restart, refuses CTL out of the ranges, and changes nothing for FRAC of the synthesizers whose
NFRAC reads zero; a steward write of CTL of SYN_0 to SYN_3 or SYN_8 within the fused maximum is kept for the SM and is
refused above it; SYN_CTL_SM_APPLY applies a kept write once no more voltage is needed. -/
def Obligations.SynthesizerConfiguration : Prop :=
  (∀ (s : State) (n : Fin 12), n.val ≠ 9 → n.val ≠ 10 → s.synState n = synOff → synSettingOk n (s.get (F.CKR_SYN_CTL_NINT
   n)) (s.get (F.CKR_SYN_FRAC_NFRAC n)) (s.get (F.CKR_SYN_CTL_ODIV n)) = true → completes (.synEnable true n) s (fun t
   => t.on (F.CKR_SYN_CTL_EN n) = true ∧ t.synState n = synAcquiring)) ∧
  (∀ (s : State) (n : Fin 12), n.val < 4 ∨ n.val = 8 → synSettingOk n (s.get (F.CKR_SYN_CTL_NINT n)) (s.get
   (F.CKR_SYN_FRAC_NFRAC n)) (s.get (F.CKR_SYN_CTL_ODIV n)) = true → s.overFused n (s.get (F.CKR_SYN_CTL_NINT n)) (s.get
   (F.CKR_SYN_FRAC_NFRAC n)) (s.get (F.CKR_SYN_CTL_ODIV n)) = false → completes (.synEnable false n) s (fun t => (t.syn
   n).pendCtl = some (s.ctlWithEn n true) ∧ t.regs = s.regs)) ∧
  (∀ (s : State) (n : Fin 12), n.val ≠ 9 → n.val ≠ 10 → s.synState n ≠ synOff → synSettingOk n (s.get (F.CKR_SYN_CTL_NINT
   n)) (s.get (F.CKR_SYN_FRAC_NFRAC n)) (s.get (F.CKR_SYN_CTL_ODIV n)) = true → (synQuad n).all (fun q => !s.memStarted
   || s.quadMode q == .selfRefresh || s.quadMode q == .expired) = true → completes (.synDisable true n) s (fun t => t.on
   (F.CKR_SYN_CTL_EN n) = false ∧ t.synState n = synOff)) ∧
  (∀ (s : State) (q : Fin 4), s.synState (4 + q.val) ≠ synOff → synSettingOk (4 + q.val) (s.get (F.CKR_SYN_CTL_NINT (4 +
   q.val))) (s.get (F.CKR_SYN_FRAC_NFRAC (4 + q.val))) (s.get (F.CKR_SYN_CTL_ODIV (4 + q.val))) = true → s.memStarted =
   true → s.quadMode q = .running → completes (.synDisable true ⟨4 + q.val, by omega⟩) s (fun t => t.quadMode q =
   .quiescing ∧ t.synState (4 + q.val) = s.synState (4 + q.val) ∧ t.on (F.CKR_SYN_CTL_EN (4 + q.val)) = false)) ∧
  (∀ (s : State) (n : Fin 12) (v : W32), n.val ≠ 9 → n.val ≠ 10 → 250 ≤ v.toNat % 65536 → v.toNat % 65536 ≤ 2000 →
   completes (.synConfigWrite true n 3 v) s (fun t => t.get (F.CKR_SYN_GUARD_GUARD_PPM n) = v.toNat % 65536 ∧ t.synState
   n = s.synState n)) ∧
  (∀ (s : State) (sm : Bool) (n : Fin 12) (v : W32), exec (.synConfigWrite sm n 1 v) s = .next s) ∧
  (∀ (s : State) (n : Fin 12) (v : W32), n.val ≠ 9 → n.val ≠ 10 → 16 ≤ v.toNat / 65536 → 1 ≤ v.toNat % 256 → s.synState n =
   synOff → completes (.synConfigWrite true n 2 v) s (fun t => t.get (F.CKR_SYN_LOCK_LOCK_N n) = v.toNat / 65536 ∧ t.get
   (F.CKR_SYN_LOCK_LOCK_WIN n) = v.toNat % 256)) ∧
  (∀ (s : State) (n : Fin 12) (v : W32), n.val ≠ 9 → n.val ≠ 10 → synSettingOk n (ctlOf n v s).2.2 (s.get
   (F.CKR_SYN_FRAC_NFRAC n)) (ctlOf n v s).2.1 = true → completes (.synConfigWrite true n 0 v) s (fun t => t.on
   (F.CKR_SYN_CTL_EN n) = bit v.toNat 31 ∧ t.get (F.CKR_SYN_CTL_ODIV n) = (ctlOf n v s).2.1 ∧ t.get (F.CKR_SYN_CTL_NINT
   n) = (ctlOf n v s).2.2)) ∧
  (∀ (s : State) (n : Fin 12) (v : W32), n.val ≠ 9 → n.val ≠ 10 → synSettingOk n (ctlOf n v s).2.2 (s.get
   (F.CKR_SYN_FRAC_NFRAC n)) (ctlOf n v s).2.1 = false → completes (.synConfigWrite true n 0 v) s (fun t => t.on
   (F.CKR_SYN_STATUS_REFUSED n) = true ∧ t.synState n = s.synState n ∧ t.reg (R.CKR_SYN_CTL n) = s.reg (R.CKR_SYN_CTL n)
   ∧ t.reg (R.CKR_SYN_FRAC n) = s.reg (R.CKR_SYN_FRAC n))) ∧
  (∀ (s : State) (n : Fin 12) (v : W32), n.val < 4 ∨ n.val = 8 → synSettingOk n (ctlOf n v s).2.2 (s.get
   (F.CKR_SYN_FRAC_NFRAC n)) (ctlOf n v s).2.1 = true → s.overFused n (ctlOf n v s).2.2 (s.get (F.CKR_SYN_FRAC_NFRAC n))
   (ctlOf n v s).2.1 = false → completes (.synCtlStewardWrite n v) s (fun t => (t.syn n).pendCtl = some v ∧ t.regs =
   s.regs)) ∧
  (∀ (s : State) (n : Fin 12) (v : W32), n.val < 4 ∨ n.val = 8 → s.overFused n (ctlOf n v s).2.2 (s.get
   (F.CKR_SYN_FRAC_NFRAC n)) (ctlOf n v s).2.1 = true → completes (.synCtlStewardWrite n v) s (fun t => t.on
   (F.CKR_SYN_STATUS_REFUSED n) = true ∧ t.clk = s.clk ∧ ∀ k, k ≠ R.CKR_SYN_STATUS n → t.reg k = s.reg k)) ∧
  (∀ (s : State) (n : Fin 12) (v : W32), (s.syn n).pendCtl = some v → s.needsVolts n (ctlOf n v s).2.1 (ctlOf n v s).2.2 =
   false → synSettingOk n (ctlOf n v s).2.2 (s.get (F.CKR_SYN_FRAC_NFRAC n)) (ctlOf n v s).2.1 = true → completes
   (.synCtlSmApply n) s (fun t => (t.syn n).pendCtl = none ∧ t.on (F.CKR_SYN_CTL_EN n) = bit v.toNat 31 ∧ t.get
   (F.CKR_SYN_CTL_ODIV n) = (ctlOf n v s).2.1 ∧ t.get (F.CKR_SYN_CTL_NINT n) = (ctlOf n v s).2.2)) ∧
  (∀ (s : State), s.on F.PWR_AVS_STATUS_SM_OWNED = true → 650 ≤ s.get F.PWR_AVS_STATUS_VCORE_MV → s.get
   F.PWR_AVS_STATUS_VCORE_MV + 5 ≤ 850 → completes (.avsbusAck true) s (fun t => t.get F.PWR_AVS_STATUS_VCORE_MV = s.get
   F.PWR_AVS_STATUS_VCORE_MV + 5 ∧ t.on F.PWR_AVS_STATUS_FAULT = false)) ∧
  (∀ (s : State), s.on F.PWR_AVS_STATUS_SM_OWNED = true → 655 ≤ s.get F.PWR_AVS_STATUS_VCORE_MV → s.get
   F.PWR_AVS_STATUS_VCORE_MV ≤ 855 → [0, 1, 2, 3, 8].all (fun n => s.synState n == synOff) = true → completes
   (.avsbusAck false) s (fun t => t.get F.PWR_AVS_STATUS_VCORE_MV + 5 = s.get F.PWR_AVS_STATUS_VCORE_MV ∧ t.on
   F.PWR_AVS_STATUS_FAULT = false)) ∧
  (∀ (s : State), s.on F.PWR_AVS_STATUS_SM_OWNED = true → completes .avsCommandTimeout s (fun t => t.on
   F.PWR_AVS_STATUS_FAULT = true ∧ t.get F.PWR_AVS_STATUS_VCORE_MV = s.get F.PWR_AVS_STATUS_VCORE_MV))

/-- An ACQUIRING synthesizer that sees its reference locks and clears REF_LOST and COAST_LIMIT; a LOCKED one that loses
lock coasts and counts the coast; one that loses its reference coasts with REF_LOST set; a COASTING or GATED one
relocks; a window whose drift exceeds GUARD gates a coasting one (SYN_0 to SYN_3 shown, with no relock at the same
instant); ten milliseconds of coasting set COAST_LIMIT; the reference's return is seen; a CLKOUT write within the
format's maximum is taken and one above it only sets ERR; the quadrant commands expire, quiesce and serve a quadrant. -/
def Obligations.SynthesizerLockAndCoast : Prop :=
  (∀ (s : State) (n : Fin 12), s.synState n = synAcquiring → s.clk.refPresent = true → n.val ≠ 11 → completes
   (.synLockDeclared n) s (fun t => t.synState n = synLocked ∧ t.on (F.CKR_SYN_STATUS_REF_LOST n) = false ∧ t.on
   (F.CKR_SYN_STATUS_COAST_LIMIT n) = false)) ∧
  (∀ (s : State), s.synState 11 = synAcquiring → s.clk.refPresent = true → s.starting = true → s.get
   F.CKR_START_STAGE_STAGE = 1 → s.clk.syn11Lost = false → completes (.synLockDeclared 11) s (fun t => t.synState 11 =
   synLocked ∧ t.get F.CKR_START_STAGE_STAGE = 2 ∧ t.get F.CKR_ISL_STATE_IN_RESET &&& 0x1E = 0)) ∧
  (∀ (s : State) (n : Fin 12), s.synState n = synLocked → completes (.synLossOfLock n) s (fun t => t.synState n =
   synCoasting ∧ t.get (F.CKR_SYN_STATUS_LOSS_COUNT n) = min 255 (s.get (F.CKR_SYN_STATUS_LOSS_COUNT n) + 1))) ∧
  (∀ (s : State) (n : Fin 12), s.synState n = synLocked → completes (.synLossOfReference n) s (fun t => t.synState n =
   synCoasting ∧ t.on (F.CKR_SYN_STATUS_REF_LOST n) = true ∧ t.clk.refPresent = false)) ∧
  (∀ (s : State) (n : Fin 12), s.synState n = synCoasting ∨ s.synState n = synGated → s.clk.refPresent = true → completes
   (.synRelock n) s (fun t => t.synState n = synLocked ∧ t.on (F.CKR_SYN_STATUS_COAST_LIMIT n) = false ∧ t.get
   (F.CKR_SYN_STATUS_DRIFT n) = 0)) ∧
  (∀ (s : State) (n : Fin 12) (count : Nat) (same : Bool), s.synState n = synLocked → (s.syn n).pureWin = true → n.val ≠ 10
   → completes (.monitorWindowEnd n count same) s (fun t => (t.syn n).refCount = some count ∧ t.on
   (F.CKR_SYN_STATUS_NOMREF n) = false)) ∧
  (∀ (s : State) (n : Fin 12) (count c : Nat), n.val < 4 → s.synState n = synCoasting → (s.syn n).pureWin = true → (s.syn
   n).refCount = some c → s.get (F.CKR_SYN_GUARD_GUARD_PPM n) < (driftOf count c 1).natAbs → completes
   (.monitorWindowEnd n count false) s (fun t => t.synState n = synGated ∧ bit (t.get F.CKR_SYN_TRIP_TRIP) n = true)) ∧
  (∀ (s : State) (n : Fin 12), s.synState n = synCoasting ∨ s.synState n = synGated → s.on (F.CKR_SYN_STATUS_COAST_LIMIT n)
   = false → completes (.synCoastLimit n) s (fun t => t.on (F.CKR_SYN_STATUS_COAST_LIMIT n) = true ∧ t.synState n =
   s.synState n)) ∧
  (∀ (s : State), completes .refclkReturn s (fun t => t.clk.refPresent = true ∧ t.regs = s.regs)) ∧
  (∀ (s : State) (n : Fin 4) (v : W32), bits v.toNat 17 16 ≠ 3 → bits v.toNat 15 0 ≠ 0 → s.clkoutSource (bits v.toNat 17
   16) ≤ clkoutMax (bits v.toNat 27 26) * bits v.toNat 15 0 → completes (.clkoutWrite n v) s (fun t => t.get
   (F.CKR_CLKOUT_EN n) = bits v.toNat 31 31 ∧ t.get (F.CKR_CLKOUT_ERR n) = 0 ∧ t.get (F.CKR_CLKOUT_FORMAT n) = bits
   v.toNat 27 26 ∧ t.get (F.CKR_CLKOUT_DRIVE n) = bits v.toNat 25 24 ∧ t.get (F.CKR_CLKOUT_SRC n) = bits v.toNat 17 16 ∧
   t.get (F.CKR_CLKOUT_DIV n) = bits v.toNat 15 0)) ∧
  (∀ (s : State) (n : Fin 4) (v : W32), bits v.toNat 17 16 ≠ 3 → bits v.toNat 15 0 ≠ 0 → clkoutMax (bits v.toNat 27 26) *
   bits v.toNat 15 0 < s.clkoutSource (bits v.toNat 17 16) → completes (.clkoutWrite n v) s (fun t => t.get
   (F.CKR_CLKOUT_ERR n) = 1 ∧ t.get (F.CKR_CLKOUT_EN n) = s.get (F.CKR_CLKOUT_EN n) ∧ t.get (F.CKR_CLKOUT_DIV n) = s.get
   (F.CKR_CLKOUT_DIV n))) ∧
  (∀ (s : State) (q : Fin 4), s.quadMode q = .selfRefresh → s.synState (4 + q) ≠ synLocked → s.pool.held = [] → completes
   (.quadrantHoldExpiry q) s (fun t => t.quadMode q = .expired ∧ t.regs = s.regs)) ∧
  (∀ (s : State) (q : Fin 4), s.quadMode q = .quiescing → completes (.quadrantQuiesced q) s (fun t => t.quadMode q =
   .selfRefresh ∧ t.synState (4 + q) = (if s.clk.quadOff.contains q.val then synOff else synAcquiring) ∧
   t.clk.quadOff.contains q.val = false)) ∧
  (∀ (s : State) (q : Fin 4), s.quadMode q = .recentring → s.pool.held = [] → completes (.quadrantRecentreDone q) s (fun t
   => t.quadMode q = .running))

/-- PERST_N_ASSERT takes the link down, removes every VF and every MSI-X enable and leaves partitions, pool and rings as
they are; LINK_UP takes width, speed and the host's configuration; LINK_DOWN only takes the link down; a VF FLR is a
partition reset; a PF0 FLR withdraws the grant and the VFs; enabling an event queue empties it; a HEAD within TAIL minus
HEAD is taken and any other sets HEAD_ERR; unmasking a pending vector sends its one message. -/
def Obligations.HostLinkAndFunctions : Prop :=
  (∀ (s : State), completes .pciePerstNAssert s (fun t => t.pwr.pcieUp = false ∧ t.evt.numVfs = 0 ∧ t.evt.vfMse = false ∧
   t.evt.msixEn = [] ∧ t.trust.grant = none ∧ t.pool = s.pool ∧ t.rings = s.rings ∧ t.log = s.log)) ∧
  (∀ (s : State) (w : BitVec 6) (x : BitVec 4) (n : Fin 17) (mse : Bool), s.isHeld = false → 5 ≤ s.get
   F.CKR_START_STAGE_STAGE → s.get F.CKR_START_STAGE_STAGE ≠ 0xE0 → completes (.pcieLinkUp w x n mse [] []) s (fun t =>
   t.pwr.pcieUp = true ∧ t.get F.HIF_LINK_WIDTH = w.toNat ∧ t.get F.HIF_LINK_SPEED = x.toNat ∧ t.evt.numVfs = n.val ∧
   t.evt.vfMse = mse ∧ t.hostOut = s.hostOut)) ∧
  (∀ (s : State) (w : BitVec 6) (x : BitVec 4) (n : Fin 17) (mse : Bool), s.isHeld = false → s.get F.CKR_START_STAGE_STAGE
   = 0xE0 → completes (.pcieLinkUp w x n mse [] []) s (fun t => t.pwr.pcieUp = true ∧ t.evt.numVfs = 0)) ∧
  (∀ (s : State) (w : BitVec 6) (x : BitVec 4) (n : Fin 17) (mse : Bool) (en ms : List (Fin 17)), s.isHeld = false → s.get
   F.CKR_START_STAGE_STAGE < 5 → completes (.pcieLinkUp w x n mse en ms) s (fun t => t.pwr.pcieUp = true ∧ t.evt = s.evt
   ∧ t.hostOut = s.hostOut)) ∧
  (∀ (s : State), exec .pcieLinkDown s = .next { s with pwr := { s.pwr with pcieUp := false } }) ∧
  (∀ (s : State) (p : Fin 16), p.val < s.evt.numVfs → s.lc p.val ≠ 0 → exec (.vfFlr p) s = .next (partitionReset p.val s)) ∧
  (∀ (s : State) (p : Fin 16), s.lc p.val = 0 → exec (.vfFlr p) s = .next s) ∧
  (∀ (s : State) (p : Fin 16), s.evt.numVfs ≤ p.val → exec (.vfFlr p) s = .next s) ∧
  (∀ (s : State), completes .pf0Flr s (fun t => t.evt.numVfs = 0 ∧ t.evt.vfMse = false ∧ t.evt.msixEn.contains 0 = false ∧
   t.trust.grant = none ∧ t.trust.sessions = s.trust.sessions ∧ t.pool = s.pool ∧ t.rings = s.rings ∧ t.pwr = s.pwr)) ∧
  (∀ (s : State) (size : BitVec 5) (ctx : BitVec 12), s.on F.EVT_Q_CFG_EN = false → completes (.evtQEnable none size ctx) s
   (fun t => t.on F.EVT_Q_CFG_EN = true ∧ t.get F.EVT_Q_CFG_LOG2SIZE = (if 6 ≤ size.toNat ∧ size.toNat ≤ 16 then
   size.toNat else s.get F.EVT_Q_CFG_LOG2SIZE) ∧ t.get F.EVT_Q_HEAD_HEAD = 0 ∧ t.get F.EVT_Q_TAIL_TAIL = 0 ∧ t.evt.seq =
   0 ∧ t.evt.overflow = false)) ∧
  (∀ (s : State) (p : Fin 16) (size : BitVec 5) (ctx : BitVec 12), s.window p.val = true → s.on (F.PW_EVT_Q_CFG_EN p.val) =
   false → completes (.evtQEnable (some p) size ctx) s (fun t => t.on (F.PW_EVT_Q_CFG_EN p.val) = true ∧ t.get
   (F.PW_EVT_Q_HEAD_HEAD p.val) = 0 ∧ t.get (F.PW_EVT_Q_TAIL_TAIL p.val) = 0 ∧ t.get (F.PW_EVT_Q_CFG_LOG2SIZE p.val) =
   (if 6 ≤ size.toNat ∧ size.toNat ≤ 16 then size.toNat else s.get (F.PW_EVT_Q_CFG_LOG2SIZE p.val)) ∧ t.get
   (F.PW_EVT_Q_CFG_CTX p.val) = ctx.toNat)) ∧
  (∀ (s : State) (p : Fin 16) (size : BitVec 5) (ctx : BitVec 12) (v : W32), s.window p.val = false → exec (.evtQEnable
   (some p) size ctx) s = .next s ∧ exec (.evtQHeadWrite (some p) v) s = .next s) ∧
  (∀ (s : State) (v : W32), sub32 v.toNat (s.get F.EVT_Q_HEAD_HEAD) ≤ sub32 (s.get F.EVT_Q_TAIL_TAIL) (s.get
   F.EVT_Q_HEAD_HEAD) → exec (.evtQHeadWrite none v) s = .next (s.put F.EVT_Q_HEAD_HEAD v.toNat)) ∧
  (∀ (s : State) (v : W32), sub32 (s.get F.EVT_Q_TAIL_TAIL) (s.get F.EVT_Q_HEAD_HEAD) < sub32 v.toNat (s.get
   F.EVT_Q_HEAD_HEAD) → exec (.evtQHeadWrite none v) s = .next (s.put F.EVT_Q_STATUS_HEAD_ERR 1)) ∧
  (∀ (s : State) (p : Fin 16) (v : W32), s.window p.val = true → sub32 v.toNat (s.get (F.PW_EVT_Q_HEAD_HEAD p.val)) ≤ sub32
   (s.get (F.PW_EVT_Q_TAIL_TAIL p.val)) (s.get (F.PW_EVT_Q_HEAD_HEAD p.val)) → exec (.evtQHeadWrite (some p) v) s =
   .next (s.put (F.PW_EVT_Q_HEAD_HEAD p.val) v.toNat)) ∧
  (∀ (s : State) (vec : Fin 64), bit (s.get (msixPba 0)) vec.val = true → s.evt.msixEn.contains 0 = true →
   s.evt.msixMask.contains 0 = false → s.fnPresent 0 = true → completes (.msixUnmask 0 vec) s (fun t => t.hostOut =
   s.hostOut ++ [.msix 0 vec.val] ∧ bit (t.get (msixPba 0)) vec.val = false)) ∧
  (∀ (s : State) (vec : Fin 64), bit (s.get (msixPba 0)) vec.val = false → completes (.msixUnmask 0 vec) s (fun t =>
   t.hostOut = s.hostOut ∧ bit ((t.reg (msixCtl 0 vec.val)).toNat) 0 = false)) ∧
  (∀ (s : State) (fn : Fin 17) (vec : Fin 64), 0 < fn.val → vec.val < 12 → s.window (fn.val - 1) = false → exec
   (.msixUnmask fn vec) s = .next s)

/-- The I3C common command codes assign and drop the dynamic address and switch in-band interrupts, and the queries
change nothing; an MCTP message sets its transport's EID, reaches the SM's queue or is answered; a TELEMETRY response
makes later alerts count as new and ALERT_ACK releases SMB_ALERT_N only with no alert since; over PCIe VDM nothing
happens while the link is down; CURRENT_READ stores the current and its power at VCORE_MV; PROCHOT_N is mirrored and
reported at each transition; a sensor reading above 115 degrees trips the node. -/
def Obligations.SidebandPowerAndTemperature : Prop :=
  (∀ (s : State) (x y : BitVec 7), s.evt.i3cAddr = none → exec (.i3cCcc (.entdaa x)) s = .next
   { s with evt := { s.evt with i3cAddr := some x.toNat } } ∧ exec (.i3cCcc .setaasa) s = .next
   { s with evt := { s.evt with i3cAddr := some (0x58 + s.get F.GLB_STRAP_I3C_ADDR) } } ∧ (y.toNat ≠ 0x58 + s.get
   F.GLB_STRAP_I3C_ADDR → exec (.i3cCcc (.setdasa y x)) s = .next s)) ∧
  (∀ (s : State), exec (.i3cCcc .getpid) s = .next s ∧ exec (.i3cCcc .getbcr) s = .next s ∧ exec (.i3cCcc .getdcr) s =
   .next s ∧ exec (.i3cCcc .getmwl) s = .next s ∧ exec (.i3cCcc .getmrl) s = .next s ∧ exec (.i3cCcc .rstdaa) s = .next
   { s with evt := { s.evt with i3cAddr := none } } ∧ exec (.i3cCcc (.enec true)) s = .next
   { s with evt := { s.evt with i3cIbiEn := true } } ∧ exec (.i3cCcc (.disec true)) s = .next
   { s with evt := { s.evt with i3cIbiEn := false } }) ∧
  (∀ (s : State) (t : Fin 3) (e : Byte), t.val < 2 → completes (.mctpMessage t (.setEid e)) s (fun u => Tab.get 0 u.evt.eid
   t.val = e.toNat ∧ u.trust = s.trust ∧ u.evt.mctpOut = s.evt.mctpOut)) ∧
  (∀ (s : State) (t : Fin 3) (b : List Byte), t.val < 2 → exec (.mctpMessage t (.spdm b)) s = .next
   { s with trust := { s.trust with msgs := s.trust.msgs ++ [(8 + t.val, 1, b)] } }) ∧
  (∀ (s : State) (m : MctpMsg), s.pwr.pcieUp = false → exec (.mctpMessage 2 m) s = .next s ∧ exec (.telemetry 2) s = .next
   s ∧ exec (.alertAck 2) s = .next s) ∧
  (∀ (s : State) (t : Fin 3), t.val < 2 → completes (.telemetry t) s (fun u => u.evt.mctpOut = s.evt.mctpOut ++ [(t.val,
   0x7E, s.telemetry)] ∧ u.evt.alertNew = false ∧ u.regs = s.regs ∧ u.evt.alertLow = s.evt.alertLow) ∧
   s.telemetry.length = 32) ∧
  (∀ (s : State) (t : Fin 3), t.val < 2 → completes (.alertAck t) s (fun u => u.evt.mctpOut = s.evt.mctpOut ++ [(t.val,
   0x7E, [0])] ∧ u.evt.alertLow = (s.evt.alertLow && s.evt.alertNew) ∧ u.regs = s.regs)) ∧
  (∀ (s : State) (c : BitVec 16), s.on F.PWR_AVS_STATUS_SM_OWNED = true → c.toNat * s.get F.PWR_AVS_STATUS_VCORE_MV % 1000
   = 0 → completes (.avsCurrentRead c) s (fun u => u.get F.PWR_POWER_CURRENT = c.toNat ∧ u.get F.PWR_POWER_POWER = min
   65535 (c.toNat * s.get F.PWR_AVS_STATUS_VCORE_MV / 1000) ∧ u.evt = s.evt)) ∧
  (∀ (s : State) (c : BitVec 16), s.on F.PWR_AVS_STATUS_SM_OWNED = false → exec (.avsCurrentRead c) s = .next s) ∧
  (∀ (s : State) (rs : List (Option (BitVec 12))), rs.length = 15 → s.isHeld = false → rs.any (fun r => r.any (fun v =>
   decide (920 < toSigned 12 v.toNat))) = false → completes (.sensorUpdate rs) s (fun u => ∀ k : Fin 15, u.on
   (F.PWR_TEMP_VALID k.val) = ((rs[k.val]?).getD none).isSome ∧ u.pool = s.pool ∧ u.rings = s.rings)) ∧
  (∀ (s : State) (rs : List (Option (BitVec 12))), rs.length = 15 → s.isHeld = false → rs.any (fun r => r.any (fun v =>
   decide (920 < toSigned 12 v.toNat))) = true → completes (.sensorUpdate rs) s (fun u => u.pwr.thermtripLow = true)) ∧
  (∀ (s : State) (rs : List (Option (BitVec 12))), rs.length = 15 → s.isHeld = true → exec (.sensorUpdate rs) s = .next s) ∧
  (∀ (s : State) (low held : Bool), completes (.prochotNChange low held) s (fun u => u.pwr.prochotLow = low ∧
   u.pwr.prochotOn = (low && (held || s.pwr.prochotOn)) ∧ u.pool = s.pool))

/-- A LINE_READ of a line of a granule never opened answers 64 zero bytes and one of a stored line with no symbol in
error answers its bytes, and neither changes registers or contents; a LINE_WRITE makes the line readable with its data;
a PARTIAL_LINE_WRITE with no byte enabled changes no content, and one with bytes enabled merges them with what the line
read as; a request to a held quadrant waits, one to an unavailable one ends MEM_UNAVAILABLE, and one beyond the
installed memory faults; a held request whose time is up ends MEM_UNAVAILABLE. -/
def Obligations.LineRequests : Prop :=
  (∀ (s : State) (line : Nat), s.lineExists line = true → s.avail line = .serve → s.pool.l2ue = [] → s.pool.l2.contains
   (line / 16777216) = false → completes (.lineRead line [] []) s (fun t => t.pool =
   { s.pool with done := s.pool.done ++ [⟨line, .read, .ok (List.replicate 64 0)⟩] } ∧ t.regs = s.regs)) ∧
  (∀ (s : State) (line : Nat), s.lineExists line = true → s.avail line = .serve → s.pool.l2ue = [] → s.pool.sym = [] →
   s.pool.l2.contains (line / 16777216) = true → s.pool.l1.contains (line / 1024) = true → s.pool.l0.contains line =
   true → completes (.lineRead line [] []) s (fun t => t.pool =
   { s.pool with done := s.pool.done ++ [⟨line, .read, .ok (cellsRead s.pool.cells (line * 64) 64)⟩] } ∧ t.regs =
   s.regs)) ∧
  (∀ (s : State) (line : Nat) (data : List Byte), s.lineExists line = true → s.avail line = .serve → s.pool.l2ue = [] →
   s.pool.sym = [] → s.poolOk = true → data.length = 64 → completes (.lineWrite line data) s (fun t =>
   t.pool.l2.contains (line / 16777216) = true ∧ t.pool.l1.contains (line / 1024) = true ∧ t.pool.l0.contains line =
   true ∧ cellsRead t.pool.cells (line * 64) 64 = data ∧ t.pool.done = s.pool.done ++ [⟨line, .write data, .ok []⟩] ∧
   t.regs = s.regs)) ∧
  (∀ (s : State) (line : Nat) (m : W64) (data : List Byte), s.lineExists line = true → s.avail line = .serve → s.pool.l2ue
   = [] → s.pool.sym = [] → s.poolOk = true → data.length = 64 → m ≠ 0 → s.pool.l2.contains (line / 16777216) = false →
   completes (.partialLineWrite line m data) s (fun t => cellsRead t.pool.cells (line * 64) 64 = (List.range 64).map
   (fun i => if m.toNat.testBit i then data.getD i 0 else 0) ∧ t.pool.l0.contains line = true ∧ t.regs = s.regs)) ∧
  (∀ (s : State) (line : Nat) (data : List Byte), s.lineExists line = true → s.avail line = .serve → data.length = 64 →
   completes (.partialLineWrite line 0 data) s (fun t => t.pool =
   { s.pool with done := s.pool.done ++ [⟨line, .part 0 data, .ok []⟩] } ∧ t.regs = s.regs)) ∧
  (∀ (s : State) (line : Nat) (data : List Byte), s.lineExists line = true → s.avail line = .hold → data.length = 64 →
   completes (.lineWrite line data) s (fun t => t.pool = { s.pool with held := s.pool.held ++ [⟨line, .write data⟩] } ∧
   t.regs = s.regs)) ∧
  (∀ (s : State) (line : Nat), s.lineExists line = true → s.avail line = .unavailable → completes (.lineRead line [] []) s
   (fun t => t.pool = { s.pool with done := s.pool.done ++ [⟨line, .read, .unavailable⟩] } ∧ t.regs = s.regs)) ∧
  (∀ (s : State) (line : Nat) (errs : List (Nat × List (Nat × Nat))) (bad : List Nat) (m : W64) (data : List Byte),
   s.usable * 16777216 ≤ line → data.length = 64 → exec (.lineRead line errs bad) s = .fault .noSuchAddress ∧ exec
   (.lineWrite line data) s = .fault .noSuchAddress ∧ exec (.partialLineWrite line m data) s = .fault .noSuchAddress) ∧
  (∀ (s : State) (k : Nat) (x : HeldReq), s.pool.held[k]? = some x → completes (.memRequestHoldExpiry k) s (fun t => t.pool
   = { s.pool with held := s.pool.held.eraseIdx k, done := s.pool.done ++ [⟨x.line, x.op, .unavailable⟩] } ∧ t.regs =
   s.regs))

/-- MEMORY_START with 24 equal populations of Table 05.1 puts every channel in training and sets the installed capacity;
a trained channel is ACTIVE, and the last one opens the pool; a lazy-clean visit marks the next granule; a scrub read
goes on to the next line or counts the pass; MC_n_CMD retires a device position; the row-repair commands start, finish
and count repairs; a replayed alert is forgotten, a channel that loses training faults, and a retrain ends in service,
in a further retrain or out of service. -/
def Obligations.MemoryUpkeep : Prop :=
  (∀ (s : State) (x : DimmPop), x.inTable = true → x.rows ≠ 0 → s.memStarted = false → s.get F.CKR_START_STAGE_STAGE = 5 →
   s.pool.saved = none → completes (.memoryStart (List.replicate 24 x)) s (fun t => t.pool.training = List.range 24 ∧
   t.get F.CKR_START_STAGE_STAGE = 6 ∧ t.memStarted = true ∧ t.installed = 24 * x.dimms * x.gib ∧ t.usable = t.installed
   - rMeta t.installed)) ∧
  (∀ (s : State) (ch : Fin 24), s.pool.training.contains ch.val = true → 2 ≤ (NSet.del s.pool.training ch.val).length →
   completes (.channelTrainingDone ch true) s (fun t => t.get (F.MC_STATUS_STATE ch) = 2 ∧ t.pool.training.contains
   ch.val = false)) ∧
  (∀ (s : State) (ch : Fin 24), s.pool.training = [ch.val] → (List.range 24).all (fun c => c == ch.val || s.get
   (F.MC_STATUS_STATE c) == 2) = true → s.pool.held = [] → completes (.channelTrainingDone ch true) s (fun t => t.on
   F.CKR_START_STAGE_MEM_READY = true ∧ t.pool.training = [])) ∧
  (∀ (s : State) (ch : Fin 24), s.pool.training = [ch.val] → s.pool.held = [] → completes (.channelTrainingDone ch false) s
   (fun t => t.get (F.MC_STATUS_STATE ch) = 4 ∧ t.on F.CKR_START_STAGE_MEM_FAIL = true)) ∧
  (∀ (s : State), s.pool.cleanPos < s.usable → s.on F.CKR_START_STAGE_MEM_READY = true → s.pool.l2.contains s.pool.cleanPos
   = false → s.pool.l2ue = [] → completes .lazyCleanVisit s (fun t => t.pool.l1c.contains s.pool.cleanPos = true ∧
   t.pool.cleanPos = (s.pool.cleanPos + 1) % s.usable ∧ t.pool.cells = s.pool.cells ∧ t.regs = s.regs)) ∧
  (∀ (s : State), s.on F.MEMG_SCRUB_EN = true → s.pool.l0 = [] → completes (.patrolScrubRead []) s (fun t => t.get
   F.MEMG_SCRUB_STATUS_PASSES = (s.get F.MEMG_SCRUB_STATUS_PASSES + 1) % F.MEMG_SCRUB_STATUS_PASSES.size ∧
   t.pool.scrubPos = 0 ∧ t.pool.cells = s.pool.cells)) ∧
  (∀ (s : State) (line : Nat), s.on F.MEMG_SCRUB_EN = true → s.pool.l0 = [line] → s.pool.scrubPos ≤ line → s.scrubable line
   = true → s.avail line = .serve → s.pool.sym = [] → completes (.patrolScrubRead []) s (fun t => t.pool.scrubPos = line
   + 1 ∧ t.pool.cells = s.pool.cells)) ∧
  (∀ (s : State) (ch : Fin 24) (e : Fin 8) (d : Fin 10), s.retiredDev ch e = none → completes (.mcCmdRetire ch
   (BitVec.ofNat 32 (0x52540000 + e.val * 256 + d.val))) s (fun t => t.retiredDev ch e = some d.val ∧ t.pool = s.pool)) ∧
  (∀ (s : State) (k : Nat) (x : RowRepair), s.pool.softRun[k]? = some x → s.quadMode (quadOf x.addr.ch) = .running →
   s.pool.held = [] → completes (.softPprDone k) s (fun t => t.pool.soft = s.pool.soft ++ [x] ∧ t.pool.softRun =
   s.pool.softRun.erase x ∧ t.get F.MEMG_PPR_STATUS_SOFT = min (F.MEMG_PPR_STATUS_SOFT.size - 1) (s.get
   F.MEMG_PPR_STATUS_SOFT + 1) ∧ t.pool.cells = s.pool.cells)) ∧
  (∀ (s : State) (ch : Fin 24), s.on F.MEMG_PPR_STATUS_BUSY = false → completes (.hardPprCmd (BitVec.ofNat 32 (0x48500000 +
   ch.val))) s (fun t => t.pool.hardCh = some ch.val ∧ t.on F.MEMG_PPR_STATUS_BUSY = true ∧ t.get (F.MC_STATUS_STATE ch)
   = 5)) ∧
  (∀ (s : State) (ch : Fin 24), s.pool.hardCh = some ch.val → s.pool.held = [] → completes .hardPprDone s (fun t =>
   t.pool.hardCh = none ∧ t.on F.MEMG_PPR_STATUS_BUSY = false ∧ t.get (F.MC_STATUS_STATE ch) = 2 ∧ t.pool.soft =
   s.pool.soft.filter (fun r => r.addr.ch != ch.val))) ∧
  (∀ (s : State) (ch : Fin 24), Tab.get 0 s.pool.retrain ch = 0 → completes (.rcdAlert ch true false) s (fun t => Tab.get 0
   t.pool.replays ch = 0 ∧ t.regs = s.regs) ∧ completes (.rcdAlert ch true true) s (fun t => t.get (F.MC_STATUS_STATE
   ch) = 4 ∧ Tab.get 0 t.pool.retrain ch = 1)) ∧
  (∀ (s : State) (ch : Fin 24), 0 < Tab.get 0 s.pool.retrain ch → s.pool.held = [] → completes (.channelRetrainDone ch
   true) s (fun t => t.get (F.MC_STATUS_STATE ch) = 2 ∧ Tab.get 0 t.pool.retrain ch = 0) ∧ completes
   (.channelRetrainDone ch false) s (fun t => Tab.get 0 t.pool.retrain ch = (if Tab.get 0 s.pool.retrain ch < 3 then
   Tab.get 0 s.pool.retrain ch + 1 else 0) ∧ t.get (F.MC_STATUS_STATE ch) = s.get (F.MC_STATUS_STATE ch)))

/-- GT_ENTRY_REWRITE marks an entry uncorrectable, and rewrites it, counts it and forgets the mark; a PW_INV_3 write
with sixteen pending sets OVERFLOW and otherwise adds one pending invalidation while the partition's window takes
accesses; the oldest acknowledgement of a window invalidation is written to the window's registers and no longer
pending; a PW_XLT_CTX write sets the base and both enables. -/
def Obligations.TranslationCommands : Prop :=
  (∀ (s : State) (x : Fin 16384), completes (.gtEntryRewrite x true) s (fun t => t.xlt.gtUe.contains x.val = true ∧ t.regs
   = s.regs ∧ t.pool = s.pool)) ∧
  (∀ (s : State) (x : Fin 16384), s.xlt.gtUe.contains x.val = true → completes (.gtEntryRewrite x false) s (fun t =>
   t.xlt.gtUe.contains x.val = false ∧ t.get F.XLT_STATUS_GT_UE = min (F.XLT_STATUS_GT_UE.size - 1) (s.get
   F.XLT_STATUS_GT_UE + 1))) ∧
  (∀ (s : State) (n : Fin 16) (w3 : W64), s.window n = true → 16 ≤ s.get (F.PW_INV_STATUS_PENDING n) → completes
   (.pwInvSubmit n w3) s (fun t => t.on (F.PW_INV_STATUS_OVERFLOW n) = true ∧ t.xlt = s.xlt)) ∧
  (∀ (s : State) (n : Fin 16) (w3 : W64), s.window n = true → s.get (F.PW_INV_STATUS_PENDING n) < 16 → s.xlt.acks = [] →
   completes (.pwInvSubmit n w3) s (fun t => t.get (F.PW_INV_STATUS_PENDING n) = s.get (F.PW_INV_STATUS_PENDING n) + 1 ∧
   t.xlt.acks.length = 1)) ∧
  (∀ (s : State) (n : Fin 16) (a : InvAck) (rest : List InvAck), takeAck n s.xlt.acks = some (a, rest) → a.from_ = .window
   → 0 < s.get (F.PW_INV_STATUS_PENDING n) → completes (.invalidationAck n) s (fun t => t.xlt.acks = rest ∧ t.get
   (F.PW_INV_ACK_TAG n) = a.tag % 2 ^ 32 ∧ t.get (F.PW_INV_STATUS_PENDING n) = s.get (F.PW_INV_STATUS_PENDING n) - 1)) ∧
  (∀ (s : State) (n : Fin 16) (v : W64), s.window n = true → completes (.pwXltCtxWrite n v) s (fun t => t.get
   (F.PW_XLT_CTX_BASE n) = v.toNat / 65536 % 2 ^ 28 ∧ t.on (F.PW_XLT_CTX_DIRECT_EN n) = bit v.toNat 1 ∧ t.on
   (F.PW_XLT_CTX_EN n) = bit v.toNat 0))

/-- When a program of the SM stands at PFORM, PSEAL, PRST, PTEAR, GASSIGN, GRELEASE or LEASE, its guard holds and the
precondition of Table 10.12 holds, the partition named by the register becomes FORMING, SEALED or DRAINING or is reset,
the granule becomes owned or RELEASING, or the lease moves to the holder. -/
def Obligations.PartitionInstructions : Prop :=
  (∀ (s : State) (r : Fin 132) (g : Guard) (b : Fin 32) (p : Prog), s.runsAt r g (encR 0xA0 g 0 b 0 0) [] p = true → 128 ≤
   r.val → (p.sreg b).toNat < 16 → s.lc (p.sreg b).toNat = 0 → s.mayForm = true → s.tst.pads = none → completes (.pform
   r g b) s (fun t => t.lc (p.sreg b).toNat = 1 ∧ t.xlt.partKeys.contains (p.sreg b).toNat = true ∧ t.pool = s.pool)) ∧
  (∀ (s : State) (r : Fin 132) (g : Guard) (b : Fin 32) (p : Prog), s.runsAt r g (encR 0xA1 g 0 b 0 0) [] p = true → 128 ≤
   r.val → (p.sreg b).toNat < 16 → s.lc (p.sreg b).toNat = 1 → completes (.pseal r g b) s (fun t => t.lc (p.sreg
   b).toNat = 2 ∧ t.pool = s.pool)) ∧
  (∀ (s : State) (r : Fin 132) (g : Guard) (b : Fin 32) (p : Prog), s.runsAt r g (encR 0xA2 g 0 b 0 0) [] p = true → 128 ≤
   r.val → (p.sreg b).toNat < 16 → s.lc (p.sreg b).toNat = 2 → completes (.prst r g b) s (fun t => t.lc (p.sreg b).toNat
   = 2 ∧ t.pool.cells = s.pool.cells ∧ ∀ k : Fin 8, (t.ring (8 * (p.sreg b).toNat + k)).prog = none)) ∧
  (∀ (s : State) (r : Fin 132) (g : Guard) (t : Fin 16) (a : Fin 32) (p : Prog), s.runsAt r g (encU 0xA3 g 0 0 t a 0 0 0)
   [] p = true → 128 ≤ r.val → (p.sreg a).toNat < 16 → s.lc (p.sreg a).toNat = 2 → (p.tally t).st = 0 → completes
   (.ptear r g t a) s (fun u => u.lc (p.sreg a).toNat = 3 ∧ u.trust.tears.any (fun x => x.part == (p.sreg a).toNat) =
   true)) ∧
  (∀ (s : State) (r : Fin 132) (g : Guard) (b : Fin 32) (c : Fin 32) (p : Prog), s.runsAt r g (encR 0xA4 g 0 b c 0) [] p =
   true → 128 ≤ r.val → (p.sreg c).toNat < 16 → s.lc (p.sreg c).toNat = 2 → s.gran (p.sreg b).toNat = .free → completes
   (.gassign r g b c) s (fun t => t.gran (p.sreg b).toNat = .owned (p.sreg c).toNat ∧ t.pool = s.pool)) ∧
  (∀ (s : State) (r : Fin 132) (g : Guard) (t : Fin 16) (a : Fin 32) (p : Prog), s.runsAt r g (encU 0xA5 g 0 0 t a 0 0 0)
   [] p = true → 128 ≤ r.val → s.gran (p.sreg a).toNat = .owned 7 → (p.tally t).st = 0 → completes (.grelease r g t a) s
   (fun u => u.gran (p.sreg a).toNat = .releasing false 7 ∧ u.pool = s.pool)) ∧
  (∀ (s : State) (r : Fin 132) (g : Guard) (b : Fin 32) (c : Fin 32) (p : Prog), s.runsAt r g (encR 0xAB g 0 b c 0) [] p =
   true → 128 ≤ r.val → (p.sreg b).toNat < 2 → (p.sreg c).toNat % 256 = 255 → completes (.lease r g b c) s (fun t =>
   t.lease (p.sreg b).toNat = none ∧ t.pool = s.pool))

/-- When a program of the SM stands at RCREATE, RADD, RPUB, RREADERS, RWDRAW, LOGAPP, SIGN or RANDOM, its guard holds
and the precondition of Table 10.12 holds, the region is created, takes the granule, is published, takes its readers or
begins to withdraw, the record is handed to the log, a signature that cannot be made ends the program MALFORMED, or the
register takes the next random number. -/
def Obligations.RegionAndMonitorInstructions : Prop :=
  (∀ (s : State) (r : Fin 132) (g : Guard) (b : Fin 32) (p : Prog), s.runsAt r g (encR 0xA6 g 0 b 0 0) [] p = true → 128 ≤
   r.val → (p.sreg b).toNat < 16 → s.region (p.sreg b).toNat = 0 → s.trust.trngFail = false → completes (.rcreate r g b)
   s (fun t => t.region (p.sreg b).toNat = 1 ∧ t.xlt.regionKeys.contains (p.sreg b).toNat = true)) ∧
  (∀ (s : State) (r : Fin 132) (g : Guard) (b : Fin 32) (c : Fin 32) (p : Prog), s.runsAt r g (encR 0xA7 g 0 b c 0) [] p =
   true → 128 ≤ r.val → (p.sreg c).toNat < 16 → s.region (p.sreg c).toNat = 1 → s.gran (p.sreg b).toNat = .free →
   completes (.radd r g b c) s (fun t => t.gran (p.sreg b).toNat = .shared (p.sreg c).toNat ∧ t.get (F.XLT_SHR_GRANULES
   (p.sreg c).toNat) = (s.get (F.XLT_SHR_GRANULES (p.sreg c).toNat) + 1) % (F.XLT_SHR_GRANULES (p.sreg c).toNat).size)) ∧
  (∀ (s : State) (r : Fin 132) (g : Guard) (b : Fin 32) (c : Fin 32) (p : Prog), s.runsAt r g (encR 0xA8 g 0 b c 0) [] p =
   true → 128 ≤ r.val → (p.sreg b).toNat < 16 → s.region (p.sreg b).toNat = 1 → completes (.rpub r g b c) s (fun t =>
   t.region (p.sreg b).toNat = 2 ∧ t.get (F.XLT_SHR_READERS (p.sreg b).toNat) = (p.sreg c).toNat % 65536)) ∧
  (∀ (s : State) (r : Fin 132) (g : Guard) (b : Fin 32) (c : Fin 32) (p : Prog), s.runsAt r g (encR 0xA9 g 0 b c 0) [] p =
   true → 128 ≤ r.val → (p.sreg b).toNat < 16 → s.region (p.sreg b).toNat = 2 → completes (.rreaders r g b c) s (fun t
   => t.region (p.sreg b).toNat = 2 ∧ t.get (F.XLT_SHR_READERS (p.sreg b).toNat) = (p.sreg c).toNat % 65536)) ∧
  (∀ (s : State) (r : Fin 132) (g : Guard) (t : Fin 16) (a : Fin 32) (p : Prog), s.runsAt r g (encU 0xAA g 0 0 t a 0 0 0)
   [] p = true → 128 ≤ r.val → (p.sreg a).toNat < 16 → s.region (p.sreg a).toNat = 2 → s.xlt.withdrawing.contains
   (p.sreg a).toNat = false → (p.tally t).st = 0 → completes (.rwdraw r g t a) s (fun u => u.xlt.withdrawing.contains
   (p.sreg a).toNat = true ∧ u.trust.withdraws.any (fun x => x.region == (p.sreg a).toNat) = true)) ∧
  (∀ (s : State) (r : Fin 132) (g : Guard) (da : Fin 16) (t : Fin 16) (a : Fin 32) (p : Prog), s.runsAt r g (encU 0xAC g da
   0 t a 0 0 0) [] p = true → 128 ≤ r.val → smRecord ((p.sreg a).toNat % 256) = true → s.log.halted = false → (p.tally
   t).st = 0 → completes (.logapp r g da t a) s (fun u => u.log.waiting.length = s.log.waiting.length + 1 ∧
   u.log.waiting.any (fun x => x.type == (p.sreg a).toNat % 256) = true ∧ u.pool = s.pool)) ∧
  (∀ (s : State) (r : Fin 132) (g : Guard) (a : Fin 32) (p : Prog), s.runsAt r g (encR 0xAE g a 0 0 0) [] p = true → 128 ≤
   r.val → s.trust.trngFail = false → a.val ≠ 0 → completes (.random r g a) s (fun t => (t.prog r).map (fun q => (q.sreg
   a, q.pc)) = some (Config.trng s.freeCtr, p.pc + 1) ∧ t.freeCtr = s.freeCtr + 1)) ∧
  (∀ (s : State) (r : Fin 132) (g : Guard) (da : Fin 16) (t : Fin 16) (p : Prog) (k : Keys), s.runsAt r g (encU 0xAD g da 0
   t 0 0 0 0) [] p = true → 128 ≤ r.val → (p.tally t).st = 0 → fld (p.dreg da) 6 ≤ 2 → s.trust.keys = some k →
   (ringWrite r 0 (fld (p.dreg da) 7) (slice 0 (Config.ecdsaSign (k.pick (fld (p.dreg da) 6)) ((List.range 6).flatMap
   (fun i => leBytes 8 (fld (p.dreg da) i))) s.freeCtr) 0 96) s.draw).1.held = false → completes (.sign r g da t) s (fun
   u => u.freeCtr = s.freeCtr + 1 ∧ (u.prog r).map (fun q => (q.pc, (q.tally t).st)) = some (p.pc + 1, 2)))

/-- A partition reset cancels the rings of a partition that is not VOID and leaves its memory; a finished drain makes
the partition VOID once its pages have their records; a finished release makes the granule FREE; a finished withdrawal
frees the region; a reseed of the DRBG clears TRNG_FAIL, a failed health test sets it, and an uncorrectable error in a
key slot begins the teardown of a partition that lives or the withdrawal of a region that is not NONE. -/
def Obligations.PartitionCompletions : Prop :=
  (∀ (s : State) (n : Fin 16), s.lc n ≠ 0 → completes (.partitionReset n) s (fun t => t.lc n = s.lc n ∧ t.pool.cells =
   s.pool.cells ∧ ∀ k : Fin 8, (t.ring (8 * n.val + k)).prog = none)) ∧
  (∀ (s : State) (n : Fin 16), s.trust.tears.any (fun x => x.part == n.val) = true → s.pagesLeft n = false → s.leases.press
   ≠ some n.val → s.trust.haltTear = false → completes (.teardownDrainComplete n) s (fun t => t.lc n = 0 ∧
   t.xlt.partKeys.contains n.val = false ∧ t.trust.tears.any (fun x => x.part == n.val) = false)) ∧
  (∀ (s : State) (g : Fin 16384) (n : Fin 16), s.gran g = .releasing false n → s.lc n = 2 → completes
   (.granuleReleaseComplete g) s (fun t => t.gran g = .free ∧ t.pool.cells = s.pool.cells)) ∧
  (∀ (s : State) (n : Fin 16), s.xlt.withdrawing.contains n.val = true → completes (.regionWithdrawComplete n) s (fun t =>
   t.region n = 0 ∧ t.xlt.withdrawing.contains n.val = false ∧ t.xlt.regionKeys.contains n.val = false ∧ t.get
   (F.XLT_SHR_READERS n) = 0 ∧ t.get (F.XLT_SHR_GRANULES n) = 0)) ∧
  (∀ (s : State), completes .drbgReseed s (fun t => t.trust.trngFail = false ∧ t.pool = s.pool ∧ t.regs = s.regs)) ∧
  (∀ (s : State), completes .trngHealthFailure s (fun t => t.trust.trngFail = true ∧ bit (t.get (F.EVT_OCCURRED_BITS 2)) 16
   = true)) ∧
  (∀ (s : State) (n : Fin 16), s.lc n = 1 ∨ s.lc n = 2 → completes (.keySlotUe ⟨n.val, by omega⟩) s (fun t => t.lc n = 3 ∧
   t.trust.tears.any (fun x => x.part == n.val) = true)) ∧
  (∀ (s : State) (n : Fin 16), s.region n ≠ 0 → s.xlt.withdrawing.contains n.val = false → completes (.keySlotUe ⟨16 +
   n.val, by omega⟩) s (fun t => t.xlt.withdrawing.contains n.val = true))

/-- Enabling a DISABLED ring zeroes its four indices and makes it RUNNING, or PAUSED with cause 4 while the steward
holds it; disabling an idle ring makes it DISABLED; bases and CTX are written only while DISABLED and otherwise set
CFG_ERR; a doorbell ahead of SQ_TAIL within the queue moves it, one behind is counted stale, one past the queue pauses
the ring with cause 2; CQ_HEAD frees space or sets CFG_ERR; the steward's hold pauses and its release does not resume;
RESUME returns an unheld paused ring to RUNNING; FLUSH completes what has not started; a partition whose window takes no
accesses changes nothing. -/
def Obligations.RingControl : Prop :=
  (∀ (s : State) (r : Fin 128) (ctx : BitVec 12) (size : BitVec 5) (x : Fin 3) (v : W64) (t : W32), s.window (r.val / 8) =
   false → exec (.ringEnable r ctx size) s = .next s ∧ exec (.ringDisable r) s = .next s ∧ exec (.ringConfigWrite r x v)
   s = .next s ∧ exec (.doorbell r t) s = .next s ∧ exec (.cqHeadWrite r t) s = .next s ∧ exec (.ringResume r) s = .next
   s ∧ exec (.ringFlush r []) s = .next s) ∧
  (∀ (s : State) (r : Fin 128) (ctx : BitVec 12) (size : BitVec 5), s.window (r.val / 8) = true → s.ringState r.val = 0 →
   s.on (F.PW_RING_CFG_EN (r.val / 8) (r.val % 8)) = false → (s.ring r.val).hold = false → 6 ≤ size.toNat → size.toNat ≤
   16 → completes (.ringEnable r ctx size) s (fun t => t.ringState r.val = 1 ∧ t.sqHead r.val = 0 ∧ t.sqTail r.val = 0 ∧
   t.cqHead r.val = 0 ∧ t.cqTail r.val = 0 ∧ t.ringSize r.val = 2 ^ size.toNat ∧ t.get (F.PW_RING_CFG_CTX (r.val / 8)
   (r.val % 8)) = ctx.toNat ∧ t.on (F.PW_RING_CFG_EN (r.val / 8) (r.val % 8)) = true ∧ (t.ring r.val).fetched = [] ∧
   t.pool = s.pool)) ∧
  (∀ (s : State) (r : Fin 128) (ctx : BitVec 12) (size : BitVec 5), s.window (r.val / 8) = true → s.ringState r.val = 0 →
   s.on (F.PW_RING_CFG_EN (r.val / 8) (r.val % 8)) = false → (s.ring r.val).hold = true → completes (.ringEnable r ctx
   size) s (fun t => t.ringState r.val = 2 ∧ t.get (F.PW_RING_STATUS_CAUSE (r.val / 8) (r.val % 8)) = 4 ∧ t.sqTail r.val
   = 0)) ∧
  (∀ (s : State) (r : Fin 128), s.window (r.val / 8) = true → s.ringState r.val = 1 → s.on (F.PW_RING_CFG_EN (r.val / 8)
   (r.val % 8)) = true → 6 ≤ s.get (F.PW_RING_CFG_LOG2SIZE (r.val / 8) (r.val % 8)) → s.get (F.PW_RING_CFG_LOG2SIZE
   (r.val / 8) (r.val % 8)) ≤ 16 → completes (.ringDisable r) s (fun t => t.on (F.PW_RING_CFG_EN (r.val / 8) (r.val %
   8)) = false ∧ t.ringState r.val = (if (s.ring r.val).prog.isNone ∧ (s.ring r.val).held.isNone then 0 else 3) ∧
   t.rings = s.rings ∧ t.sqTail r.val = s.sqTail r.val)) ∧
  (∀ (s : State) (r : Fin 128) (v : W64), s.window (r.val / 8) = true → s.ringState r.val = 0 → completes (.ringConfigWrite
   r 0 v) s (fun t => t.get (F.PW_RING_SQ_BASE_ADDR (r.val / 8) (r.val % 8)) = v.toNat / 4096 ∧ t.get
   (F.PW_RING_SQ_BASE_LOC (r.val / 8) (r.val % 8)) = v.toNat % 2 ∧ t.rings = s.rings) ∧ completes (.ringConfigWrite r 1
   v) s (fun t => t.get (F.PW_RING_CQ_BASE_ADDR (r.val / 8) (r.val % 8)) = v.toNat / 4096 ∧ t.get (F.PW_RING_CQ_BASE_LOC
   (r.val / 8) (r.val % 8)) = v.toNat % 2)) ∧
  (∀ (s : State) (r : Fin 128) (v : W64), s.window (r.val / 8) = true → s.ringState r.val ≠ 0 → exec (.ringConfigWrite r 0
   v) s = .next (cfgErr r.val s) ∧ exec (.ringConfigWrite r 1 v) s = .next (cfgErr r.val s)) ∧
  (∀ (s : State) (n : Fin 128) (v : W32), s.ringState n.val = 0 → completes (.ringBindWrite n v) s (fun t => t.get
   (F.RING_BIND_CLUSTER n.val) = bits v.toNat 5 4 ∧ t.get (F.RING_BIND_CORE n.val) = bits v.toNat 3 0 ∧ t.rings =
   s.rings)) ∧
  (∀ (s : State) (n : Fin 128) (v : W32), s.ringState n.val ≠ 0 → exec (.ringBindWrite n v) s = .next s) ∧
  (∀ (s : State) (r : Fin 128) (t : W32), s.window (r.val / 8) = true → s.ringState r.val = 1 → sub32 t.toNat (s.sqTail
   r.val) ≠ 0 → sub32 t.toNat (s.sqTail r.val) < 2147483648 → sub32 t.toNat (s.sqHead r.val) ≤ s.ringSize r.val →
   completes (.doorbell r t) s (fun u => u.sqTail r.val = t.toNat ∧ u.sqHead r.val = s.sqHead r.val ∧ u.ringState r.val
   = 1 ∧ u.rings = s.rings ∧ u.evt = s.evt)) ∧
  (∀ (s : State) (r : Fin 128) (t : W32), s.window (r.val / 8) = true → s.ringState r.val = 1 → 2147483648 ≤ sub32 t.toNat
   (s.sqTail r.val) → exec (.doorbell r t) s = .next (s.bump (F.PW_RING_STATUS_DB_STALE (r.val / 8) (r.val % 8)) 1)) ∧
  (∀ (s : State) (r : Fin 128) (t : W32), s.window (r.val / 8) = true → s.ringState r.val = 1 → sub32 t.toNat (s.sqTail
   r.val) ≠ 0 → sub32 t.toNat (s.sqTail r.val) < 2147483648 → s.ringSize r.val < sub32 t.toNat (s.sqHead r.val) →
   completes (.doorbell r t) s (fun u => u.sqTail r.val = s.sqTail r.val ∧ u.ringState r.val = 2 ∧ u.get
   (F.PW_RING_STATUS_CAUSE (r.val / 8) (r.val % 8)) = 2)) ∧
  (∀ (s : State) (r : Fin 128) (t : W32), s.window (r.val / 8) = true → s.ringState r.val = 0 ∨ s.ringState r.val = 3 →
   exec (.doorbell r t) s = .next s) ∧
  (∀ (s : State) (n : Fin 128), s.ringState n.val = 1 → completes (.stewardHold n) s (fun t => (t.ring n.val).hold = true ∧
   t.ringState n.val = 2 ∧ t.get (F.PW_RING_STATUS_CAUSE (n.val / 8) (n.val % 8)) = 4 ∧ t.prog n.val = s.prog n.val)) ∧
  (∀ (s : State) (n : Fin 128), completes (.stewardRelease n) s (fun t => (t.ring n.val).hold = false ∧ t.ringState n.val =
   s.ringState n.val ∧ t.prog n.val = s.prog n.val ∧ t.regs = s.regs)) ∧
  (∀ (s : State) (r : Fin 128), s.window (r.val / 8) = true → s.ringState r.val = 2 → (s.ring r.val).hold = false → (s.ring
   r.val).held = none → s.on (F.PW_RING_CFG_EN (r.val / 8) (r.val % 8)) = true → completes (.ringResume r) s (fun t =>
   t.ringState r.val = 1 ∧ t.get (F.PW_RING_STATUS_CAUSE (r.val / 8) (r.val % 8)) = 0 ∧ t.rings = s.rings ∧ t.evt =
   s.evt)) ∧
  (∀ (s : State) (r : Fin 128), s.window (r.val / 8) = true → s.ringState r.val ≠ 2 ∨ (s.ring r.val).hold = true → exec
   (.ringResume r) s = .next s ∧ exec (.ringFlush r []) s = .next s) ∧
  (∀ (s : State) (r : Fin 128), s.window (r.val / 8) = true → s.ringState r.val = 2 → (s.ring r.val).hold = false → (s.ring
   r.val).held = none → (s.ring r.val).fetched = [] → s.sqHead r.val = s.sqTail r.val → s.on (F.PW_RING_CFG_EN (r.val /
   8) (r.val % 8)) = true → completes (.ringFlush r []) s (fun t => t.ringState r.val = 1 ∧ t.cqTail r.val = s.cqTail
   r.val ∧ t.hostOut = s.hostOut)) ∧
  (∀ (s : State) (r : Fin 128) (e : EntryCopy), s.window (r.val / 8) = true → s.ringState r.val = 2 → (s.ring r.val).hold =
   false → (s.ring r.val).held = none → (s.ring r.val).prog = none → (s.ring r.val).fetched = [e] → s.sqHead r.val =
   s.sqTail r.val → s.cqFull r.val = false → s.on (F.PW_RING_CFG_EN (r.val / 8) (r.val % 8)) = true → s.on
   (F.PW_RING_CQ_BASE_LOC (r.val / 8) (r.val % 8)) = true → s.pwr.pcieUp = true → bit e.w0 9 = false → completes
   (.ringFlush r []) s (fun t => t.ringState r.val = 1 ∧ (t.ring r.val).fetched = [] ∧ t.cqTail r.val = (s.cqTail r.val
   + 1) % 2 ^ 32 ∧ t.hostOut = s.hostOut ++ [.dma (s.get (F.PW_RING_CQ_BASE_ADDR (r.val / 8) (r.val % 8)) * 4096 +
   s.cqTail r.val % s.ringSize r.val * 32) (completionBytes (s.ringSize r.val) s.now (unstarted e 0x51 0 0 s)) none])) ∧
  (∀ (s : State) (r : Fin 128) (v : W32), s.window (r.val / 8) = true → sub32 (s.cqTail r.val) v.toNat ≤ s.ringSize r.val →
   (s.ring r.val).held = none → completes (.cqHeadWrite r v) s (fun t => t.cqHead r.val = v.toNat ∧ t.on
   (F.PW_RING_STATUS_CQ_FULL (r.val / 8) (r.val % 8)) = (sub32 (s.cqTail r.val) v.toNat == s.ringSize r.val) ∧ t.rings =
   s.rings)) ∧
  (∀ (s : State) (r : Fin 128) (v : W32), s.window (r.val / 8) = true → s.ringSize r.val < sub32 (s.cqTail r.val) v.toNat →
   exec (.cqHeadWrite r v) s = .next (cfgErr r.val s))

/-- A RUNNING ring fetches the entry at SQ_HEAD and advances it; a ready ring's entry starts its program at word 0 on
its core, and a malformed one completes without starting; END retires a program, which then completes once no tally is
BUSY, with one completion and CQ_TAIL one further; an interrupt that the gap held back is sent; a program whose core
failed restarts at word 0; an invoke is taken at a program boundary and answered with a RESULT; COPY and FILL make the
tally BUSY or end the program malformed, and the transfer's end makes the tally DONE; a request out of attempts ends its
transfer TARGET_ABSENT and one with attempts left is sent again. -/
def Obligations.EntriesProgramsAndInvokes : Prop :=
  (∀ (s : State) (r : Fin 128) (host : List Byte), s.ringState r.val = 1 → s.sqHead r.val ≠ s.sqTail r.val → s.on
   (F.PW_RING_SQ_BASE_LOC (r.val / 8) (r.val % 8)) = true → s.pwr.pcieUp = true → completes (.entryFetch r host) s (fun
   t => (t.ring r.val).fetched = (s.ring r.val).fetched ++ [⟨s.sqHead r.val, wordsOf (slice 0 host 0 64), none⟩] ∧
   t.sqHead r.val = (s.sqHead r.val + 1) % 2 ^ 32 ∧ t.sqTail r.val = s.sqTail r.val)) ∧
  (∀ (s : State) (r : Fin 128) (host : List Byte), s.ringState r.val ≠ 1 ∨ s.sqHead r.val = s.sqTail r.val → exec
   (.entryFetch r host) s = .next s) ∧
  (∀ (s : State) (r : Fin 128) (e : EntryCopy) (rest : List EntryCopy) (c : Nat) (ws : List W64), s.ringReady r.val = true
   → (s.ring r.val).invokeNext = false → (s.ring r.val).fetched = e :: rest → e.bad = none → s.startCore r.val = some c
   → e.malformed = false → e.inline = true → ws = e.words.drop 1 → checkProgram (s.checkOf e) ws = none → completes
   (.programStart (r.castLE (by omega)) []) s (fun t => t.prog r.val = some (Prog.start e none ws c) ∧ (t.ring
   r.val).fetched = rest ∧ (t.core c).last = r.val ∧ (t.core c).part = some (r.val / 8) ∧ t.regs = s.regs)) ∧
  (∀ (s : State) (r : Fin 128) (e : EntryCopy) (rest : List EntryCopy) (c : Nat), s.ringReady r.val = true → (s.ring
   r.val).invokeNext = false → (s.ring r.val).fetched = e :: rest → e.bad = none → s.startCore r.val = some c →
   e.malformed = true → exec (.programStart (r.castLE (by omega)) []) s = .next (completeUnstarted r.val e 0x50 0 0
   (takeCore c r.val s))) ∧
  (∀ (s : State) (r : Fin 132) (ws : List W64), smRing r.val = true → s.prog r.val = none → checkProgram ⟨false, false,
   true, s.hasPress⟩ ws = none → completes (.programStart r ws) s (fun t => t.prog r.val = some (Prog.start ⟨0, [],
   none⟩ none ws (r.val - 64)) ∧ t.regs = s.regs ∧ t.pool = s.pool)) ∧
  (∀ (s : State) (r : Fin 132) (g : Guard) (p : Prog), s.runsAt r g (encB 0x01 g 0 0) [] p = true → (s.hatch.jobs.any (fun
   j => j.ring == r.val && j.open_)) = false → exec (.kcsEnd r g) s = .next (s.setProg r.val
   { p with ended := true, stall := .no })) ∧
  (∀ (s : State) (r : Fin 128) (p : Prog), s.prog r.val = some p → p.ended = true → p.failed = false → p.invoke = none →
   p.busy = false → s.ringState r.val = 1 → s.cqFull r.val = false → s.on (F.PW_RING_CQ_BASE_LOC (r.val / 8) (r.val %
   8)) = true → s.pwr.pcieUp = true → p.completion.notify = false → completes (.programEnd (r.castLE (by omega)) false)
   s (fun t => t.prog r.val = none ∧ t.cqTail r.val = (s.cqTail r.val + 1) % 2 ^ 32 ∧ t.hostOut = s.hostOut ++ [.dma
   (s.get (F.PW_RING_CQ_BASE_ADDR (r.val / 8) (r.val % 8)) * 4096 + s.cqTail r.val % s.ringSize r.val * 32)
   (completionBytes (s.ringSize r.val) s.now p.completion) none] ∧ t.ringState r.val = (if p.completion.pauses then 2
   else 1))) ∧
  (∀ (s : State) (r : Fin 128) (p : Prog), s.prog r.val = some p → p.ended = true → p.failed = false → p.invoke = none →
   p.busy = false → s.cqFull r.val = true → completes (.programEnd (r.castLE (by omega)) false) s (fun t => t.prog r.val
   = none ∧ (t.ring r.val).held = some p.completion ∧ t.cqTail r.val = s.cqTail r.val ∧ t.hostOut = s.hostOut)) ∧
  (∀ (s : State) (r : Fin 132) (d : Bool) (p : Prog), s.prog r.val = some p → p.ended = false → exec (.programEnd r d) s =
   .next s) ∧
  (∀ (s : State) (r : Fin 128), (s.ring r.val).irqDue = false → exec (.completionInterrupt r) s = .next s) ∧
  (∀ (s : State) (r : Fin 128) (x : Ring), x = s.ring r.val → x.irqDue = true → x.lastIrq = none → completes
   (.completionInterrupt r) s (fun t => (t.ring r.val).irqDue = false ∧ (t.ring r.val).lastIrq = some s.ticks ∧ t.pool =
   s.pool)) ∧
  (∀ (s : State) (r : Fin 128) (p : Prog) (c : Nat), s.prog r.val = some p → p.failed = true → p.busy = false → s.hostOf
   (s.ringCore r.val) = some c → s.coreIdle c = true → c / 16 = p.core / 16 → completes (.programRestart r) s (fun t =>
   t.prog r.val = some { Prog.start p.entry none p.words c with restarts := p.restarts + 1 } ∧ (t.core c).store = [] ∧
   t.regs = s.regs)) ∧
  (∀ (s : State) (r : Fin 128) (p : Prog), s.prog r.val = some p → p.failed = false ∨ p.busy = true → exec (.programRestart
   r) s = .next s) ∧
  (∀ (s : State) (r : Fin 128) (x : Invoke) (rest : List Invoke) (c : Nat), (s.ring r.val).invokes = x :: rest →
   s.ringReady r.val = true → (s.ring r.val).invokeNext = true → s.startCore r.val = some c → attnBad x.job x.data =
   true → completes (.invokeTaken r) s (fun t => (t.ring r.val).invokes = rest ∧ (t.prog r.val).map (fun p => (p.ended,
   p.fault, p.invoke)) = some (true, some (0x50, 0, 0), some x) ∧ (t.ring r.val).consec = (s.ring r.val).consec + 1 ∧
   (t.core c).last = r.val)) ∧
  (∀ (s : State) (r : Fin 128), (s.ring r.val).invokes = [] → exec (.invokeTaken r) s = .next s) ∧
  (∀ (s : State) (r : Fin 128) (p : Prog) (x : Invoke) (st_ d pc : Nat), s.prog r.val = some p → p.invoke = some x → p.busy
   = false → p.fault = some (st_, d, pc) → exec (.resultSend r) s = .next (sendResult x st_ d (settleRing r.val
   (s.setRing r.val { s.ring r.val with prog := none })))) ∧
  (∀ (s : State) (r : Fin 128) (p : Prog), s.prog r.val = some p → p.busy = true → exec (.resultSend r) s = .next s) ∧
  (∀ (s : State) (r : Fin 132) (g : Guard) (da t : Fin 16) (p : Prog), s.runsAt r g (encU 0x54 g da.val 0 t.val 0 0 0 0) []
   p = true → (p.tally t.val).st = 0 → dmaBad false (p.dreg da.val) = false → bit (fld (p.dreg da.val) 3) 28 = false →
   bit (fld (p.dreg da.val) 3) 29 = false → completes (.copy r g da t) s (fun u => u.rings.dma = s.rings.dma ++ [⟨r.val,
   t.val, false, p.dreg da.val, 0, false⟩] ∧ (u.prog r.val).map (fun q => (q.pc, (q.tally t.val).st)) = some (p.pc + 1,
   1) ∧ u.pool = s.pool ∧ u.regs = s.regs)) ∧
  (∀ (s : State) (r : Fin 132) (g : Guard) (da t : Fin 16) (p : Prog), s.runsAt r g (encU 0x55 g da.val 0 t.val 0 0 0 0) []
   p = true → (p.tally t.val).st = 0 → dmaBad true (p.dreg da.val) = false → bit (fld (p.dreg da.val) 3) 29 = false →
   completes (.fill r g da t) s (fun u => u.rings.dma = s.rings.dma ++ [⟨r.val, t.val, true, p.dreg da.val, 0, false⟩] ∧
   (u.prog r.val).map (fun q => (q.pc, (q.tally t.val).st)) = some (p.pc + 1, 1) ∧ u.pool = s.pool ∧ u.regs = s.regs)) ∧
  (∀ (s : State) (r : Fin 132) (g : Guard) (da t : Fin 16) (p : Prog), s.runsAt r g (encU 0x54 g da.val 0 t.val 0 0 0 0) []
   p = true → (p.tally t.val).st = 0 → dmaBad false (p.dreg da.val) = true → exec (.copy r g da t) s = .next (endAt
   r.val 0x50 0 (p.setT t.val Tally.idle) s)) ∧
  (∀ (s : State) (r : Fin 132) (g : Guard) (da t : Fin 16) (p : Prog), s.runsAt r g (encU 0x54 g da.val 0 t.val 0 0 0 0) []
   p = true → (p.tally t.val).st = 1 → exec (.copy r g da t) s = .next (s.setProg r.val
   { p with stall := .implicit t.val })) ∧
  (∀ (s u : State) (r : Fin 132) (t : Fin 16) (x : DmaTask) (w : AccRes), s.hatch.jobs.find? (fun j => j.ring == r.val &&
   j.t == t.val) = none → s.rings.dma.find? (fun y => y.ring == r.val && y.t == t.val) = some x → x.remote = false →
   x.fill = true → 0 < x.len → x.dst % 64 + x.len ≤ 64 → ringWrite r.val x.dctx x.dst ((List.range x.len).map (fun k =>
   (leBytes 8 (fld x.f 5)).getD (k % 8) 0)) s = (w, u) → w.held = false → w.poison = false → w.unavail = none →
   completes (.tallyComplete r t) s (fun v => v.rings.dma.any (fun y => y.ring == r.val && y.t == t.val) = false ∧
   v.pool = u.pool ∧ ((s.prog r.val).any (fun p => (p.tally t.val).st == 1 && p.stall == .no) = true → (v.prog
   r.val).map (fun p => ((p.tally t.val).st, (p.tally t.val).status)) = some (2, 0)))) ∧
  (∀ (s : State) (r : Fin 132) (t : Fin 16), s.hatch.jobs = [] → s.rings.dma = [] → s.tns.cap = none → exec (.tallyComplete
   r t) s = .next s) ∧
  (∀ (s : State) (tag : BitVec 12) (q : NodeReq), s.fab.reqs.find? (fun y => y.tag == tag.toNat) = some q → q.tries <
   q.budget → exec (.requestRetryTimeout tag) s = .next (originate .request q.pkt
   { s with fab := { s.fab with reqs := s.fab.reqs.map (fun y => if y.tag == q.tag then { y with tries := y.tries + 1 } else y) } })) ∧
  (∀ (s : State) (tag : BitVec 12), s.fab.reqs = [] → exec (.requestRetryTimeout tag) s = .next s) ∧
  (∀ (s : State) (tag : BitVec 12) (q : NodeReq) (r t : Nat) (x : DmaTask), s.fab.reqs.find? (fun y => y.tag == tag.toNat)
   = some q → q.budget ≤ q.tries → q.owner = .dma r t → s.rings.dma.find? (fun y => y.ring == r && y.t == t) = some x →
   completes (.requestRetryTimeout tag) s (fun u => u.fab.reqs.any (fun y => y.tag == q.tag) = false ∧ u.rings.dma.any
   (fun y => y.ring == r && y.t == t) = false ∧ u.pool = s.pool))

/-- When a ring program stands at ADD, SUB, MUL, MULHU, DIVU, REMU, AND, OR, XOR, SHL, SHR, SRA, MINU, MAXU, MIN or MAX
and its guard holds, sA takes the operation on sB and sC: sums, differences and products modulo 2^64, the upper half of
the product, the unsigned quotient with all ones for a zero divisor, the unsigned remainder with the dividend for a zero
divisor, the bitwise operations, shifts by sC[5:0], and unsigned and signed minimum and maximum; the PC goes to the next
word, and no other part of the state changes. -/
def Obligations.ScalarArithmetic : Prop :=
  (∀ (s : State) (r : Fin 132) (g : Guard) (a : Fin 32) (b : Fin 32) (c : Fin 32) (p : Prog), s.runsAt r g (encR 0x10 g a b
   c 0) [] p = true → exec (.add r g a b c) s = .next (s.setProg r ((p.setS a (p.sreg b + p.sreg c)).next 1))) ∧
  (∀ (s : State) (r : Fin 132) (g : Guard) (a : Fin 32) (b : Fin 32) (c : Fin 32) (p : Prog), s.runsAt r g (encR 0x11 g a b
   c 0) [] p = true → exec (.sub r g a b c) s = .next (s.setProg r ((p.setS a (p.sreg b - p.sreg c)).next 1))) ∧
  (∀ (s : State) (r : Fin 132) (g : Guard) (a : Fin 32) (b : Fin 32) (c : Fin 32) (p : Prog), s.runsAt r g (encR 0x12 g a b
   c 0) [] p = true → exec (.mul r g a b c) s = .next (s.setProg r ((p.setS a (p.sreg b * p.sreg c)).next 1))) ∧
  (∀ (s : State) (r : Fin 132) (g : Guard) (a : Fin 32) (b : Fin 32) (c : Fin 32) (p : Prog), s.runsAt r g (encR 0x13 g a b
   c 0) [] p = true → exec (.mulhu r g a b c) s = .next (s.setProg r ((p.setS a (BitVec.ofNat 64 ((p.sreg b).toNat *
   (p.sreg c).toNat / 2 ^ 64))).next 1))) ∧
  (∀ (s : State) (r : Fin 132) (g : Guard) (a : Fin 32) (b : Fin 32) (c : Fin 32) (p : Prog), s.runsAt r g (encR 0x14 g a b
   c 0) [] p = true → exec (.divu r g a b c) s = .next (s.setProg r ((p.setS a (if p.sreg c = 0 then BitVec.allOnes 64
   else p.sreg b / p.sreg c)).next 1))) ∧
  (∀ (s : State) (r : Fin 132) (g : Guard) (a : Fin 32) (b : Fin 32) (c : Fin 32) (p : Prog), s.runsAt r g (encR 0x15 g a b
   c 0) [] p = true → exec (.remu r g a b c) s = .next (s.setProg r ((p.setS a (if p.sreg c = 0 then p.sreg b else
   p.sreg b % p.sreg c)).next 1))) ∧
  (∀ (s : State) (r : Fin 132) (g : Guard) (a : Fin 32) (b : Fin 32) (c : Fin 32) (p : Prog), s.runsAt r g (encR 0x16 g a b
   c 0) [] p = true → exec (.and r g a b c) s = .next (s.setProg r ((p.setS a (p.sreg b &&& p.sreg c)).next 1))) ∧
  (∀ (s : State) (r : Fin 132) (g : Guard) (a : Fin 32) (b : Fin 32) (c : Fin 32) (p : Prog), s.runsAt r g (encR 0x17 g a b
   c 0) [] p = true → exec (.or r g a b c) s = .next (s.setProg r ((p.setS a (p.sreg b ||| p.sreg c)).next 1))) ∧
  (∀ (s : State) (r : Fin 132) (g : Guard) (a : Fin 32) (b : Fin 32) (c : Fin 32) (p : Prog), s.runsAt r g (encR 0x18 g a b
   c 0) [] p = true → exec (.xor r g a b c) s = .next (s.setProg r ((p.setS a (p.sreg b ^^^ p.sreg c)).next 1))) ∧
  (∀ (s : State) (r : Fin 132) (g : Guard) (a : Fin 32) (b : Fin 32) (c : Fin 32) (p : Prog), s.runsAt r g (encR 0x19 g a b
   c 0) [] p = true → exec (.shl r g a b c) s = .next (s.setProg r ((p.setS a (p.sreg b <<< ((p.sreg c).toNat %
   64))).next 1))) ∧
  (∀ (s : State) (r : Fin 132) (g : Guard) (a : Fin 32) (b : Fin 32) (c : Fin 32) (p : Prog), s.runsAt r g (encR 0x1A g a b
   c 0) [] p = true → exec (.shr r g a b c) s = .next (s.setProg r ((p.setS a (p.sreg b >>> ((p.sreg c).toNat %
   64))).next 1))) ∧
  (∀ (s : State) (r : Fin 132) (g : Guard) (a : Fin 32) (b : Fin 32) (c : Fin 32) (p : Prog), s.runsAt r g (encR 0x1B g a b
   c 0) [] p = true → exec (.sra r g a b c) s = .next (s.setProg r ((p.setS a ((p.sreg b).sshiftRight ((p.sreg c).toNat
   % 64))).next 1))) ∧
  (∀ (s : State) (r : Fin 132) (g : Guard) (a : Fin 32) (b : Fin 32) (c : Fin 32) (p : Prog), s.runsAt r g (encR 0x1C g a b
   c 0) [] p = true → exec (.minu r g a b c) s = .next (s.setProg r ((p.setS a (if (p.sreg b).ult (p.sreg c) then p.sreg
   b else p.sreg c)).next 1))) ∧
  (∀ (s : State) (r : Fin 132) (g : Guard) (a : Fin 32) (b : Fin 32) (c : Fin 32) (p : Prog), s.runsAt r g (encR 0x1D g a b
   c 0) [] p = true → exec (.maxu r g a b c) s = .next (s.setProg r ((p.setS a (if (p.sreg b).ult (p.sreg c) then p.sreg
   c else p.sreg b)).next 1))) ∧
  (∀ (s : State) (r : Fin 132) (g : Guard) (a : Fin 32) (b : Fin 32) (c : Fin 32) (p : Prog), s.runsAt r g (encR 0x1E g a b
   c 0) [] p = true → exec (.min r g a b c) s = .next (s.setProg r ((p.setS a (if (p.sreg b).slt (p.sreg c) then p.sreg
   b else p.sreg c)).next 1))) ∧
  (∀ (s : State) (r : Fin 132) (g : Guard) (a : Fin 32) (b : Fin 32) (c : Fin 32) (p : Prog), s.runsAt r g (encR 0x1F g a b
   c 0) [] p = true → exec (.max r g a b c) s = .next (s.setProg r ((p.setS a (if (p.sreg b).slt (p.sreg c) then p.sreg
   c else p.sreg b)).next 1)))

/-- When a ring program stands at ADDI, ANDI, ORI, XORI, SHLI, SHRI, SRAI, LI, LIX, SEL, TIME or RINFO and its guard
holds, sA takes the operation on sB and the sign-extended IMM, sB shifted by IMM[5:0], the sign-extended IMM, the
extension word, sB or sC as p[X] is 1 or 0, Sorrel TIME_NS, or the word of Table 10.6; the PC goes past the instruction
and its extension word, and no other part of the state changes. -/
def Obligations.ImmediateArithmeticAndMoves : Prop :=
  (∀ (s : State) (r : Fin 132) (g : Guard) (a : Fin 32) (b : Fin 32) (imm : BitVec 38) (p : Prog), s.runsAt r g (encI 0x20
   g 0 a b imm) [] p = true → exec (.addi r g a b imm) s = .next (s.setProg r ((p.setS a (p.sreg b + imm.signExtend
   64)).next 1))) ∧
  (∀ (s : State) (r : Fin 132) (g : Guard) (a : Fin 32) (b : Fin 32) (imm : BitVec 38) (p : Prog), s.runsAt r g (encI 0x21
   g 0 a b imm) [] p = true → exec (.andi r g a b imm) s = .next (s.setProg r ((p.setS a (p.sreg b &&& imm.signExtend
   64)).next 1))) ∧
  (∀ (s : State) (r : Fin 132) (g : Guard) (a : Fin 32) (b : Fin 32) (imm : BitVec 38) (p : Prog), s.runsAt r g (encI 0x22
   g 0 a b imm) [] p = true → exec (.ori r g a b imm) s = .next (s.setProg r ((p.setS a (p.sreg b ||| imm.signExtend
   64)).next 1))) ∧
  (∀ (s : State) (r : Fin 132) (g : Guard) (a : Fin 32) (b : Fin 32) (imm : BitVec 38) (p : Prog), s.runsAt r g (encI 0x23
   g 0 a b imm) [] p = true → exec (.xori r g a b imm) s = .next (s.setProg r ((p.setS a (p.sreg b ^^^ imm.signExtend
   64)).next 1))) ∧
  (∀ (s : State) (r : Fin 132) (g : Guard) (a : Fin 32) (b : Fin 32) (sh : Fin 64) (p : Prog), s.runsAt r g (encI 0x24 g 0
   a b (BitVec.ofNat 38 sh)) [] p = true → exec (.shli r g a b sh) s = .next (s.setProg r ((p.setS a (p.sreg b <<<
   sh.val)).next 1))) ∧
  (∀ (s : State) (r : Fin 132) (g : Guard) (a : Fin 32) (b : Fin 32) (sh : Fin 64) (p : Prog), s.runsAt r g (encI 0x25 g 0
   a b (BitVec.ofNat 38 sh)) [] p = true → exec (.shri r g a b sh) s = .next (s.setProg r ((p.setS a (p.sreg b >>>
   sh.val)).next 1))) ∧
  (∀ (s : State) (r : Fin 132) (g : Guard) (a : Fin 32) (b : Fin 32) (sh : Fin 64) (p : Prog), s.runsAt r g (encI 0x26 g 0
   a b (BitVec.ofNat 38 sh)) [] p = true → exec (.srai r g a b sh) s = .next (s.setProg r ((p.setS a ((p.sreg
   b).sshiftRight sh.val)).next 1))) ∧
  (∀ (s : State) (r : Fin 132) (g : Guard) (a : Fin 32) (imm : BitVec 38) (p : Prog), s.runsAt r g (encI 0x27 g 0 a 0 imm)
   [] p = true → exec (.li r g a imm) s = .next (s.setProg r ((p.setS a (imm.signExtend 64)).next 1))) ∧
  (∀ (s : State) (r : Fin 132) (g : Guard) (a : Fin 32) (w : W64) (p : Prog), s.runsAt r g (encI 0x28 g 1 a 0 0) [w] p =
   true → exec (.lix r g a w) s = .next (s.setProg r ((p.setS a w).next 2))) ∧
  (∀ (s : State) (r : Fin 132) (g : Guard) (a : Fin 32) (b : Fin 32) (c : Fin 32) (x : Fin 8) (p : Prog), s.runsAt r g
   (encR 0x29 g a b c x) [] p = true → exec (.sel r g a b c x) s = .next (s.setProg r ((p.setS a (if p.preg x then
   p.sreg b else p.sreg c)).next 1))) ∧
  (∀ (s : State) (r : Fin 132) (g : Guard) (a : Fin 32) (p : Prog), s.runsAt r g (encR 0x2A g a 0 0 0) [] p = true → exec
   (.time r g a) s = .next (s.setProg r ((p.setS a (BitVec.ofNat 64 (s.get F.TOPO_SRL_TIME_TIME_NS))).next 1))) ∧
  (∀ (s : State) (r : Fin 132) (g : Guard) (a : Fin 32) (p : Prog), s.runsAt r g (encR 0x2B g a 0 0 0) [] p = true → exec
   (.rinfo r g a) s = .next (s.setProg r ((p.setS a (BitVec.ofNat 64 (rinfo r p s))).next 1)))

/-- When a ring program stands at CEQ, CNE, CLTU, CLT, CGEU, CGE, CEQI, CLTUI, PAND, POR, PXOR, PANDN or PSET and its
guard holds, p[A] takes the relation of sB and sC, unsigned or signed, of sB and the sign-extended IMM, the operation on
p[B] and p[C], or whether sB is not zero; the PC goes to the next word, and no other part of the state changes. -/
def Obligations.PredicatesAndComparisons : Prop :=
  (∀ (s : State) (r : Fin 132) (g : Guard) (a : Fin 8) (b : Fin 32) (c : Fin 32) (p : Prog), s.runsAt r g (encR 0x30 g a b
   c 0) [] p = true → exec (.ceq r g a b c) s = .next (s.setProg r ((p.setP a (p.sreg b == p.sreg c)).next 1))) ∧
  (∀ (s : State) (r : Fin 132) (g : Guard) (a : Fin 8) (b : Fin 32) (c : Fin 32) (p : Prog), s.runsAt r g (encR 0x31 g a b
   c 0) [] p = true → exec (.cne r g a b c) s = .next (s.setProg r ((p.setP a (p.sreg b != p.sreg c)).next 1))) ∧
  (∀ (s : State) (r : Fin 132) (g : Guard) (a : Fin 8) (b : Fin 32) (c : Fin 32) (p : Prog), s.runsAt r g (encR 0x32 g a b
   c 0) [] p = true → exec (.cltu r g a b c) s = .next (s.setProg r ((p.setP a ((p.sreg b).ult (p.sreg c))).next 1))) ∧
  (∀ (s : State) (r : Fin 132) (g : Guard) (a : Fin 8) (b : Fin 32) (c : Fin 32) (p : Prog), s.runsAt r g (encR 0x33 g a b
   c 0) [] p = true → exec (.clt r g a b c) s = .next (s.setProg r ((p.setP a ((p.sreg b).slt (p.sreg c))).next 1))) ∧
  (∀ (s : State) (r : Fin 132) (g : Guard) (a : Fin 8) (b : Fin 32) (c : Fin 32) (p : Prog), s.runsAt r g (encR 0x34 g a b
   c 0) [] p = true → exec (.cgeu r g a b c) s = .next (s.setProg r ((p.setP a (!(p.sreg b).ult (p.sreg c))).next 1))) ∧
  (∀ (s : State) (r : Fin 132) (g : Guard) (a : Fin 8) (b : Fin 32) (c : Fin 32) (p : Prog), s.runsAt r g (encR 0x35 g a b
   c 0) [] p = true → exec (.cge r g a b c) s = .next (s.setProg r ((p.setP a (!(p.sreg b).slt (p.sreg c))).next 1))) ∧
  (∀ (s : State) (r : Fin 132) (g : Guard) (a : Fin 8) (b : Fin 32) (imm : BitVec 38) (p : Prog), s.runsAt r g (encI 0x36 g
   0 a b imm) [] p = true → exec (.ceqi r g a b imm) s = .next (s.setProg r ((p.setP a (p.sreg b == imm.signExtend
   64)).next 1))) ∧
  (∀ (s : State) (r : Fin 132) (g : Guard) (a : Fin 8) (b : Fin 32) (imm : BitVec 38) (p : Prog), s.runsAt r g (encI 0x37 g
   0 a b imm) [] p = true → exec (.cltui r g a b imm) s = .next (s.setProg r ((p.setP a ((p.sreg b).ult (imm.signExtend
   64))).next 1))) ∧
  (∀ (s : State) (r : Fin 132) (g : Guard) (a : Fin 8) (b : Fin 8) (c : Fin 8) (p : Prog), s.runsAt r g (encR 0x38 g a b c
   0) [] p = true → exec (.pand r g a b c) s = .next (s.setProg r ((p.setP a (p.preg b && p.preg c)).next 1))) ∧
  (∀ (s : State) (r : Fin 132) (g : Guard) (a : Fin 8) (b : Fin 8) (c : Fin 8) (p : Prog), s.runsAt r g (encR 0x39 g a b c
   0) [] p = true → exec (.por r g a b c) s = .next (s.setProg r ((p.setP a (p.preg b || p.preg c)).next 1))) ∧
  (∀ (s : State) (r : Fin 132) (g : Guard) (a : Fin 8) (b : Fin 8) (c : Fin 8) (p : Prog), s.runsAt r g (encR 0x3A g a b c
   0) [] p = true → exec (.pxor r g a b c) s = .next (s.setProg r ((p.setP a (p.preg b != p.preg c)).next 1))) ∧
  (∀ (s : State) (r : Fin 132) (g : Guard) (a : Fin 8) (b : Fin 8) (c : Fin 8) (p : Prog), s.runsAt r g (encR 0x3B g a b c
   0) [] p = true → exec (.pandn r g a b c) s = .next (s.setProg r ((p.setP a (p.preg b && !p.preg c)).next 1))) ∧
  (∀ (s : State) (r : Fin 132) (g : Guard) (a : Fin 8) (b : Fin 32) (p : Prog), s.runsAt r g (encR 0x3C g a b 0 0) [] p =
   true → exec (.pset r g a b) s = .next (s.setProg r ((p.setP a (p.sreg b != 0)).next 1)))

/-- A scalar register other than s0 reads what was written and s0 zero; a predicate other than p0 reads what was written
and p0 one; a write changes no other register. When a ring program stands at DGET, DSET, DSETI, DSETX, DCLR, DMOV or
CTXSET and its guard holds, sA takes field X of dB, a field of dA takes sB, the sign-extended IMM or the extension
words, dA becomes zero or takes dB, or CTX takes sB[11:0]; the PC goes past the instruction and its extension words, and
no other part of the state changes. -/
def Obligations.DescriptorSlotsAndContext : Prop :=
  (∀ (p : Prog) (a b : Fin 32) (v : W64), (p.setS a.val v).sreg b.val = (if b = 0 then 0 else if a = b then v else p.sreg
   b.val) ∧ (p.setS a.val v).pc = p.pc ∧ (p.setS a.val v).p = p.p ∧ (p.setS a.val v).t = p.t ∧ (p.setS a.val v).d = p.d
   ∧ (p.setS a.val v).ctx = p.ctx) ∧
  (∀ (p : Prog) (a b : Fin 8) (v : Bool), (p.setP a.val v).preg b.val = (if b = 0 then true else if a = b then v else
   p.preg b.val) ∧ (p.setP a.val v).s = p.s ∧ (p.setP a.val v).pc = p.pc) ∧
  (∀ (s : State) (r : Fin 132) (g : Guard) (a : Fin 32) (b : Fin 16) (x : Fin 8) (p : Prog), s.runsAt r g (encR 0x42 g a b
   0 x) [] p = true → exec (.dget r g a b x) s = .next (s.setProg r ((p.setS a ((p.dreg b).getD x 0)).next 1))) ∧
  (∀ (s : State) (r : Fin 132) (g : Guard) (a : Fin 16) (b : Fin 32) (x : Fin 8) (p : Prog), s.runsAt r g (encR 0x43 g a b
   0 x) [] p = true → exec (.dset r g a b x) s = .next (s.setProg r ((p.setD a ((p.dreg a).set x (p.sreg b))).next 1))) ∧
  (∀ (s : State) (r : Fin 132) (g : Guard) (a : Fin 16) (b : Fin 8) (imm : BitVec 38) (p : Prog), s.runsAt r g (encI 0x44 g
   0 a b imm) [] p = true → exec (.dseti r g a b imm) s = .next (s.setProg r ((p.setD a ((p.dreg a).set b
   (imm.signExtend 64))).next 1))) ∧
  (∀ (s : State) (r : Fin 132) (g : Guard) (a : Fin 16) (b : Fin 8) (ws : List W64) (p : Prog), s.runsAt r g (encI 0x45 g
   ws.length a b 0) ws p = true → 0 < ws.length → ws.length ≤ 3 → b.val + ws.length ≤ 8 → exec (.dsetx r g a b ws) s =
   .next (s.setProg r ((p.setD a ((p.dreg a).take b ++ ws ++ (p.dreg a).drop (b.val + ws.length))).next (1 +
   ws.length)))) ∧
  (∀ (s : State) (r : Fin 132) (g : Guard) (a : Fin 16) (p : Prog), s.runsAt r g (encR 0x46 g a 0 0 0) [] p = true → exec
   (.dclr r g a) s = .next (s.setProg r ((p.setD a (List.replicate 8 0)).next 1))) ∧
  (∀ (s : State) (r : Fin 132) (g : Guard) (a : Fin 16) (b : Fin 16) (p : Prog), s.runsAt r g (encR 0x47 g a b 0 0) [] p =
   true → exec (.dmov r g a b) s = .next (s.setProg r ((p.setD a (p.dreg b)).next 1))) ∧
  (∀ (s : State) (r : Fin 132) (g : Guard) (b : Fin 32) (p : Prog), s.runsAt r g (encR 0x58 g 0 b 0 0) [] p = true → exec
   (.ctxset r g b) s = .next (s.setProg r (({ p with ctx := (p.sreg b).toNat % 4096 }).next 1)))

/-- When a ring program stands at NOP, JMP, LOOP, JZ, JNZ, FENCE, TST, WAIT, WAITANY, EVRAISE or EVTIME and its guard
holds: NOP and FENCE go on; JMP moves the PC by OFF, LOOP counts sA down and moves it while the result is not zero, JZ
and JNZ as sA is zero or not; TST gives sA the status of tally T; WAIT on an IDLE tally goes on, on a DONE one consumes
it and goes on or ends the program with its status, and on a BUSY one stalls; WAITANY with no DONE tally in its mask
stalls; EVRAISE of the SM's rings goes on; EVTIME goes on when the time has come and stalls before, and EVTIME_REACHED
lets it go on. -/
def Obligations.ControlFlowAndWaits : Prop :=
  (∀ (s : State) (r : Fin 132) (g : Guard)  (p : Prog), s.runsAt r g (encR 0x00 g 0 0 0 0) [] p = true → exec (.nop r g ) s
   = .next (s.setProg r ((p).next 1))) ∧
  (∀ (s : State) (r : Fin 132) (g : Guard)  (p : Prog), s.runsAt r g (encR 0x93 g 0 0 0 0) [] p = true → exec (.fence r g )
   s = .next (s.setProg r ((p).next 1))) ∧
  (∀ (s : State) (r : Fin 132) (g : Guard) (off : BitVec 32) (p : Prog), s.runsAt r g (encB 0x02 g 0 off) [] p = true →
   exec (.jmp r g off) s = .next (s.setProg r { p with pc := ((p.pc : Int) + off.toInt).toNat, stall := .no })) ∧
  (∀ (s : State) (r : Fin 132) (g : Guard) (a : Fin 32) (off : BitVec 32) (p : Prog), s.runsAt r g (encB 0x04 g a off) [] p
   = true → exec (.jz r g a off) s = .next (s.setProg r
   { p with pc := if p.sreg a = 0 then ((p.pc : Int) + off.toInt).toNat else p.pc + 1, stall := .no })) ∧
  (∀ (s : State) (r : Fin 132) (g : Guard) (a : Fin 32) (off : BitVec 32) (p : Prog), s.runsAt r g (encB 0x05 g a off) [] p
   = true → exec (.jnz r g a off) s = .next (s.setProg r
   { p with pc := if p.sreg a = 0 then p.pc + 1 else ((p.pc : Int) + off.toInt).toNat, stall := .no })) ∧
  (∀ (s : State) (r : Fin 132) (g : Guard) (a : Fin 32) (off : BitVec 32) (p : Prog), s.runsAt r g (encB 0x03 g a off) [] p
   = true → exec (.loop r g a off) s = .next (s.setProg r
   { p.setS a (p.sreg a - 1) with pc := if p.sreg a - 1 = 0 then p.pc + 1 else ((p.pc : Int) + off.toInt).toNat, stall := .no })) ∧
  (∀ (s : State) (r : Fin 132) (g : Guard) (t : Fin 16) (a : Fin 32) (p : Prog), s.runsAt r g (encU 0x92 g 0 0 t a 0 0 0)
   [] p = true → exec (.tst r g t a) s = .next (s.setProg r ((p.setS a (BitVec.ofNat 64 (p.tally t).value)).next 1))) ∧
  (∀ (s : State) (r : Fin 132) (g : Guard) (t : Fin 16) (a : Fin 32) (noend : Bool) (p : Prog), s.runsAt r g (encU 0x90 g 0
   0 t a 0 0 (b2n noend)) [] p = true → (p.tally t).st = 0 → exec (.wait r g t a noend) s = .next (s.setProg r ((if
   noend then p.setS a (BitVec.ofNat 64 (p.tally t).value) else p).next 1))) ∧
  (∀ (s : State) (r : Fin 132) (g : Guard) (t : Fin 16) (a : Fin 32) (noend : Bool) (p : Prog), s.runsAt r g (encU 0x90 g 0
   0 t a 0 0 (b2n noend)) [] p = true → (p.tally t).st = 1 → exec (.wait r g t a noend) s = .next (s.setProg r
   { p with stall := .wait t noend a })) ∧
  (∀ (s : State) (r : Fin 132) (g : Guard) (t : Fin 16) (a : Fin 32) (noend : Bool) (p : Prog), s.runsAt r g (encU 0x90 g 0
   0 t a 0 0 (b2n noend)) [] p = true → (p.tally t).st = 2 → exec (.wait r g t a noend) s = .next (s.setProg r (if noend
   then ((p.setT t Tally.idle).setS a (BitVec.ofNat 64 (p.tally t).value)).next 1 else if 16 ≤ (p.tally t).status then
   { p.setT t Tally.idle with fault := some ((p.tally t).status, (p.tally t).detail, p.pc), ended := true, stall := .no }
   else (p.setT t Tally.idle).next 1))) ∧
  (∀ (s : State) (r : Fin 132) (g : Guard) (a : Fin 32) (m : BitVec 16) (p : Prog), s.runsAt r g (encU 0x91 g 0 0 0 a 0 0
   m.toNat) [] p = true → p.doneOf m.toNat = none → exec (.waitany r g a m) s = .next (s.setProg r
   { p with stall := .waitAny m.toNat a })) ∧
  (∀ (s : State) (r : Fin 132) (g : Guard) (a : Fin 32) (m : BitVec 16) (t : Nat) (p : Prog), s.runsAt r g (encU 0x91 g 0 0
   0 a 0 0 m.toNat) [] p = true → p.doneOf m.toNat = some t → exec (.waitany r g a m) s = .next (s.setProg r
   (({ p.setT t Tally.idle with stall := .no }.setS a (BitVec.ofNat 64 t)).next 1))) ∧
  (∀ (s : State) (r : Fin 132) (g : Guard) (n : Fin 16) (p : Prog), s.runsAt r g (encI 0x98 g 0 0 0 (BitVec.ofNat 38 n)) []
   p = true → completes (.evraise r g n) s (fun t => t.prog r = some (p.next 1) ∧ (128 ≤ r.val → t = s.setProg r (p.next
   1)))) ∧
  (∀ (s : State) (r : Fin 132) (g : Guard) (b : Fin 32) (p : Prog), s.runsAt r g (encR 0x99 g 0 b 0 0) [] p = true → exec
   (.evtime r g b) s = .next (s.setProg r (if (p.sreg b).toNat ≤ s.get F.TOPO_SRL_TIME_TIME_NS then p.next 1 else
   { p with stall := .time (p.sreg b).toNat }))) ∧
  (∀ (s : State) (r : Fin 132) (p : Prog) (n : Nat), s.prog r = some p → p.stall = .time n → n ≤ s.get
   F.TOPO_SRL_TIME_TIME_NS → exec (.evtimeReached r) s = .next (s.setProg r (p.next 1)))

/-- When a ring program stands at DLD, DST, LD, LDS, ST, ATOM, LSLD or LSST, its guard holds, the address is aligned and
the access is neither held nor ended by poison or an unavailable line: the loads give dA or sA the bytes read, zero- or
sign-extended; the stores write the bytes of dA or sA and the atomic performs its operation and gives sA the old value;
the state after the access is the one the ring access gives, with the PC at the next word; the local store is read and
written at (sB + IMM) mod 65,536. -/
def Obligations.ScalarMemoryAccess : Prop :=
  (∀ (s : State) (r : Fin 132) (g : Guard) (a : Fin 16) (b : Fin 32) (p : Prog), s.runsAt r g (encR 0x40 g a b 0 0) [] p =
   true → vaOf r (p.sreg b) % 64 = 0 → (ringRead r p.ctx (vaOf r (p.sreg b)) 64 s).1.held = false → (ringRead r p.ctx
   (vaOf r (p.sreg b)) 64 s).1.bad = none → exec (.dld r g a b) s = .next ((ringRead r p.ctx (vaOf r (p.sreg b)) 64
   s).2.setProg r ((p.setD a ((List.range 8).map (fun i => BitVec.ofNat 64 (ofLeBytes (slice 0 (ringRead r p.ctx (vaOf r
   (p.sreg b)) 64 s).1.data (8 * i) 8))))).next 1))) ∧
  (∀ (s : State) (r : Fin 132) (g : Guard) (a : Fin 16) (b : Fin 32) (p : Prog), s.runsAt r g (encR 0x41 g a b 0 0) [] p =
   true → vaOf r (p.sreg b) % 64 = 0 → (ringWrite r p.ctx (vaOf r (p.sreg b)) ((p.dreg a).flatMap (fun w => leBytes 8
   w.toNat)) s).1.held = false → (ringWrite r p.ctx (vaOf r (p.sreg b)) ((p.dreg a).flatMap (fun w => leBytes 8
   w.toNat)) s).1.bad = none → exec (.dst r g a b) s = .next ((ringWrite r p.ctx (vaOf r (p.sreg b)) ((p.dreg a).flatMap
   (fun w => leBytes 8 w.toNat)) s).2.setProg r (p.next 1))) ∧
  (∀ (s : State) (r : Fin 132) (g : Guard) (a : Fin 32) (b : Fin 32) (sz : Fin 4) (imm : BitVec 36) (p : Prog), s.runsAt r
   g (encM 0x50 g a b sz imm) [] p = true → vaOf r (p.sreg b + imm.signExtend 64) % 2 ^ sz.val = 0 → (ringRead r p.ctx
   (vaOf r (p.sreg b + imm.signExtend 64)) (2 ^ sz.val) s).1.held = false → (ringRead r p.ctx (vaOf r (p.sreg b +
   imm.signExtend 64)) (2 ^ sz.val) s).1.bad = none → exec (.ld r g a b sz imm) s = .next ((ringRead r p.ctx (vaOf r
   (p.sreg b + imm.signExtend 64)) (2 ^ sz.val) s).2.setProg r ((p.setS a (BitVec.ofNat 64 (ofLeBytes (ringRead r p.ctx
   (vaOf r (p.sreg b + imm.signExtend 64)) (2 ^ sz.val) s).1.data))).next 1))) ∧
  (∀ (s : State) (r : Fin 132) (g : Guard) (a : Fin 32) (b : Fin 32) (sz : Fin 4) (imm : BitVec 36) (p : Prog), s.runsAt r
   g (encM 0x51 g a b sz imm) [] p = true → vaOf r (p.sreg b + imm.signExtend 64) % 2 ^ sz.val = 0 → (ringRead r p.ctx
   (vaOf r (p.sreg b + imm.signExtend 64)) (2 ^ sz.val) s).1.held = false → (ringRead r p.ctx (vaOf r (p.sreg b +
   imm.signExtend 64)) (2 ^ sz.val) s).1.bad = none → exec (.lds r g a b sz imm) s = .next ((ringRead r p.ctx (vaOf r
   (p.sreg b + imm.signExtend 64)) (2 ^ sz.val) s).2.setProg r ((p.setS a (BitVec.ofNat 64 (ofLeBytes (ringRead r p.ctx
   (vaOf r (p.sreg b + imm.signExtend 64)) (2 ^ sz.val) s).1.data + if bit (ofLeBytes (ringRead r p.ctx (vaOf r (p.sreg
   b + imm.signExtend 64)) (2 ^ sz.val) s).1.data) (8 * 2 ^ sz.val - 1) then 2 ^ 64 - 2 ^ (8 * 2 ^ sz.val) else
   0))).next 1))) ∧
  (∀ (s : State) (r : Fin 132) (g : Guard) (a : Fin 32) (b : Fin 32) (sz : Fin 4) (imm : BitVec 36) (p : Prog), s.runsAt r
   g (encM 0x52 g a b sz imm) [] p = true → vaOf r (p.sreg b + imm.signExtend 64) % 2 ^ sz.val = 0 → (ringWrite r p.ctx
   (vaOf r (p.sreg b + imm.signExtend 64)) (leBytes (2 ^ sz.val) (p.sreg a).toNat) s).1.held = false → (ringWrite r
   p.ctx (vaOf r (p.sreg b + imm.signExtend 64)) (leBytes (2 ^ sz.val) (p.sreg a).toNat) s).1.bad = none → exec (.st r g
   a b sz imm) s = .next ((ringWrite r p.ctx (vaOf r (p.sreg b + imm.signExtend 64)) (leBytes (2 ^ sz.val) (p.sreg
   a).toNat) s).2.setProg r (p.next 1))) ∧
  (∀ (s : State) (r : Fin 132) (g : Guard) (a : Fin 32) (b : Fin 32) (c : Fin 32) (op : Fin 8) (wide : Bool) (p : Prog),
   s.runsAt r g (encR 0x53 g a b c (op.val + b2n wide * 16)) [] p = true → vaOf r (p.sreg b) % (if wide then 8 else 4) =
   0 → (ringAtomic r p.ctx (vaOf r (p.sreg b)) op (b2n wide) (if op.val = 2 then (p.sreg a).toNat else (p.sreg c).toNat)
   (if op.val = 2 then (p.sreg c).toNat else 0) s).1.held = false → (ringAtomic r p.ctx (vaOf r (p.sreg b)) op (b2n
   wide) (if op.val = 2 then (p.sreg a).toNat else (p.sreg c).toNat) (if op.val = 2 then (p.sreg c).toNat else 0)
   s).1.bad = none → exec (.kcsAtom r g a b c op wide) s = .next ((ringAtomic r p.ctx (vaOf r (p.sreg b)) op (b2n wide)
   (if op.val = 2 then (p.sreg a).toNat else (p.sreg c).toNat) (if op.val = 2 then (p.sreg c).toNat else 0) s).2.setProg
   r ((p.setS a (BitVec.ofNat 64 (ofLeBytes (ringAtomic r p.ctx (vaOf r (p.sreg b)) op (b2n wide) (if op.val = 2 then
   (p.sreg a).toNat else (p.sreg c).toNat) (if op.val = 2 then (p.sreg c).toNat else 0) s).1.data))).next 1))) ∧
  (∀ (s : State) (r : Fin 132) (g : Guard) (a : Fin 32) (b : Fin 32) (sz : Fin 4) (imm : BitVec 36) (p : Prog), s.runsAt r
   g (encM 0x56 g a b sz imm) [] p = true → exec (.lsld r g a b sz imm) s = .next (s.setProg r ((p.setS a (BitVec.ofNat
   64 (storeRead (s.core p.core).store ((p.sreg b + imm.signExtend 64).toNat % 65536) (2 ^ sz.val)))).next 1))) ∧
  (∀ (s : State) (r : Fin 132) (g : Guard) (a : Fin 32) (b : Fin 32) (sz : Fin 4) (imm : BitVec 36) (p : Prog), s.runsAt r
   g (encM 0x57 g a b sz imm) [] p = true → exec (.lsst r g a b sz imm) s = .next ((s.setCore p.core
   { s.core p.core with store := storeWrite (s.core p.core).store ((p.sreg b + imm.signExtend 64).toNat % 65536) (2 ^ sz.val) (p.sreg a).toNat }).setProg
   r (p.next 1)))

/-- For a program that stands at the instruction with its guard holding: with its tally IDLE, a well formed descriptor
and an engine in service, HGEMM, HSMAX, HELT, ATTN and AMERGE add one job, make the tally BUSY and move on; a malformed
descriptor ends the program MALFORMED; without an engine the tally completes UNIT_FAULT. PLOPEN sets the cursor at its
segment, PLREAD gives the next entry and clears its predicate, loading the next segment when its index reaches the entry
count, or sets the predicate at the end, PLSKIP moves the cursor, PLEMIT appends a page to its open job's sequence and
PLEND closes the emission; both end the program when the tally has no open job. -/
def Obligations.HatchAndAttentionInstructions : Prop :=
  (∀ (s : State) (r : Fin 132) (g : Guard) (da t : Fin 16) (p : Prog), s.runsAt r g (encU 0x68 g da.val 0 t.val 0 0 0 0) []
   p = true → (p.tally t.val).st = 0 → gemmBad (p.dreg da.val) = false → s.anyEngine p.cluster = true → completes
   (.hgemm r g da t) s (fun u => u.hatch.jobs = s.hatch.jobs ++ [newJob s.hatch.next r.val t.val p.cluster .hgemm
   (p.dreg da.val) [] (gemmOf (p.dreg da.val)).tiles] ∧ (u.prog r.val).map (fun q => (q.pc, (q.tally t.val).st)) = some
   (p.pc + 1, 1) ∧ u.pool = s.pool ∧ u.regs = s.regs)) ∧
  (∀ (s : State) (r : Fin 132) (g : Guard) (da t : Fin 16) (p : Prog), s.runsAt r g (encU 0x68 g da.val 0 t.val 0 0 0 0) []
   p = true → (p.tally t.val).st = 0 → gemmBad (p.dreg da.val) = true → exec (.hgemm r g da t) s = .next (endAt r.val
   0x50 0 (p.setT t.val Tally.idle) s)) ∧
  (∀ (s : State) (r : Fin 132) (g : Guard) (da t : Fin 16) (p : Prog), s.runsAt r g (encU 0x68 g da.val 0 t.val 0 0 0 0) []
   p = true → (p.tally t.val).st = 0 → gemmBad (p.dreg da.val) = false → s.anyEngine p.cluster = false → completes
   (.hgemm r g da t) s (fun u => u.hatch = s.hatch ∧ (u.prog r.val).map (fun q => (q.pc, (q.tally t.val).st, (q.tally
   t.val).status, (q.tally t.val).detail)) = some (p.pc + 1, 2, 0x30, clusterIsland p.cluster))) ∧
  (∀ (s : State) (r : Fin 132) (g : Guard) (da t : Fin 16) (p : Prog), s.runsAt r g (encU 0x69 g da.val 0 t.val 0 0 0 0) []
   p = true → (p.tally t.val).st = 0 → hsmaxBad (p.dreg da.val) = false → s.anyEngine p.cluster = true → completes
   (.hsmax r g da t) s (fun u => u.hatch.jobs = s.hatch.jobs ++ [newJob s.hatch.next r.val t.val p.cluster .hsmax
   (p.dreg da.val) [] (bits (fld (p.dreg da.val) 3) 23 0)] ∧ (u.prog r.val).map (fun q => (q.pc, (q.tally t.val).st)) =
   some (p.pc + 1, 1) ∧ u.pool = s.pool)) ∧
  (∀ (s : State) (r : Fin 132) (g : Guard) (da t : Fin 16) (p : Prog), s.runsAt r g (encU 0x6A g da.val 0 t.val 0 0 0 0) []
   p = true → (p.tally t.val).st = 0 → heltBad (p.dreg da.val) = false → s.anyEngine p.cluster = true → completes (.helt
   r g da t) s (fun u => u.hatch.jobs = s.hatch.jobs ++ [newJob s.hatch.next r.val t.val p.cluster .helt (p.dreg da.val)
   [] ((bits (fld (p.dreg da.val) 4) 39 0 + 255) / 256)] ∧ (u.prog r.val).map (fun q => (q.pc, (q.tally t.val).st)) =
   some (p.pc + 1, 1) ∧ u.pool = s.pool)) ∧
  (∀ (s u : State) (r : Fin 132) (g : Guard) (da db t : Fin 16) (p : Prog), s.runsAt r g (encU 0x70 g da.val db.val t.val 0
   0 0 0) [] p = true → (p.tally t.val).st = 0 → attnBad (p.dreg da.val) (p.dreg db.val) = false → (s.attnClusters
   (s.get F.ATT_CFG_CLUSTERS)).isEmpty = false → attnStart r.val t.val p.cluster (p.dreg da.val) (p.dreg db.val)
   (s.setProg r.val ((p.setT t.val Tally.idle).issue t.val)) = some u → completes (.attn r g da db t) s (fun v => v = u
   ∧ v.hatch.jobs.length = s.hatch.jobs.length + 1 ∧ (v.hatch.jobs.getLast?).map (fun j => (j.id, j.ring, j.t, j.kind,
   j.open_)) = some (s.hatch.next, r.val, t.val, .attn, (attnOf (p.dreg da.val) (p.dreg db.val)).emit) ∧ (v.prog
   r.val).map (fun q => (q.pc, (q.tally t.val).st)) = some (p.pc + 1, 1))) ∧
  (∀ (s : State) (r : Fin 132) (g : Guard) (da db t : Fin 16) (p : Prog), s.runsAt r g (encU 0x70 g da.val db.val t.val 0 0
   0 0) [] p = true → (p.tally t.val).st = 0 → attnBad (p.dreg da.val) (p.dreg db.val) = true → exec (.attn r g da db t)
   s = .next (endAt r.val 0x50 0 (p.setT t.val Tally.idle) s)) ∧
  (∀ (s : State) (r : Fin 132) (g : Guard) (da t : Fin 16) (p : Prog), s.runsAt r g (encU 0x71 g da.val 0 t.val 0 0 0 0) []
   p = true → (p.tally t.val).st = 0 → amergeBad (p.dreg da.val) = false → (s.attnClusters (s.get
   F.ATT_CFG_CLUSTERS)).isEmpty = false → completes (.amerge r g da t) s (fun u => u.hatch.jobs.length =
   s.hatch.jobs.length + 1 ∧ (u.hatch.jobs.getLast?).map (fun j => (j.id, j.kind, j.left, j.ready.map (·.tile))) = some
   (s.hatch.next, .merge, mergeCount (p.dreg da.val), List.range (mergeCount (p.dreg da.val))) ∧ (u.prog r.val).map (fun
   q => (q.pc, (q.tally t.val).st)) = some (p.pc + 1, 1) ∧ u.pool = s.pool)) ∧
  (∀ (s u : State) (r : Fin 132) (g : Guard) (da : Fin 16) (a : Fin 32) (p : Prog) (h : List Byte), s.runsAt r g (encU 0x60
   g da.val 0 0 a.val 0 0 0) [] p = true → bits (p.sreg a.val).toNat 51 0 % 64 = 0 → walkRead r.val p.ctx (bits (p.sreg
   a.val).toNat 51 0) 16 s = (.ok h, u) → segmentBad h = false → exec (.plopen r g da a) s = .next (u.setProg r.val
   ((p.setD da.val (cursorAt (bits (p.sreg a.val).toNat 51 0) p.ctx h)).next 1))) ∧
  (∀ (s : State) (r : Fin 132) (g : Guard) (da : Fin 16) (a : Fin 32) (p : Prog), s.runsAt r g (encU 0x60 g da.val 0 0
   a.val 0 0 0) [] p = true → bits (p.sreg a.val).toNat 51 0 % 64 ≠ 0 → exec (.plopen r g da a) s = .next (endAt r.val
   0x50 0 p s)) ∧
  (∀ (s u : State) (r : Fin 132) (g : Guard) (da : Fin 16) (a : Fin 32) (f : Fin 8) (p : Prog) (d : List Byte), s.runsAt r
   g (encU 0x61 g da.val 0 0 a.val 0 0 f.val) [] p = true → bits (fld (p.dreg da.val) 1) 15 0 + 1 < bits (fld (p.dreg
   da.val) 1) 31 16 → walkRead r.val (bits (fld (p.dreg da.val) 3) 11 0) (fld (p.dreg da.val) 0 + 16 + 4 * bits (fld
   (p.dreg da.val) 1) 15 0) 4 s = (.ok d, u) → exec (.plread r g da a f) s = .next (u.setProg r.val ((((p.setS a.val
   (BitVec.ofNat 64 (ofLeBytes d))).setP f.val false).setD da.val (cursorMove (p.dreg da.val) 1)).next 1))) ∧
  (∀ (s u v : State) (r : Fin 132) (g : Guard) (da : Fin 16) (a : Fin 32) (f : Fin 8) (p : Prog) (d h : List Byte),
   s.runsAt r g (encU 0x61 g da.val 0 0 a.val 0 0 f.val) [] p = true → bits (fld (p.dreg da.val) 1) 15 0 + 1 = bits (fld
   (p.dreg da.val) 1) 31 16 → walkRead r.val (bits (fld (p.dreg da.val) 3) 11 0) (fld (p.dreg da.val) 0 + 16 + 4 * bits
   (fld (p.dreg da.val) 1) 15 0) 4 s = (.ok d, u) → bits (fld (p.dreg da.val) 2) 51 0 ≠ 0 → bits (fld (p.dreg da.val) 2)
   51 0 % 64 = 0 → walkRead r.val (bits (fld (p.dreg da.val) 3) 11 0) (bits (fld (p.dreg da.val) 2) 51 0) 16 u = (.ok h,
   v) → segmentBad h = false → exec (.plread r g da a f) s = .next (v.setProg r.val ((((p.setS a.val (BitVec.ofNat 64
   (ofLeBytes d))).setP f.val false).setD da.val (cursorAt (bits (fld (p.dreg da.val) 2) 51 0) (bits (fld (p.dreg
   da.val) 3) 11 0) h)).next 1))) ∧
  (∀ (s : State) (r : Fin 132) (g : Guard) (da : Fin 16) (a : Fin 32) (f : Fin 8) (p : Prog), s.runsAt r g (encU 0x61 g
   da.val 0 0 a.val 0 0 f.val) [] p = true → bits (fld (p.dreg da.val) 1) 31 16 ≤ bits (fld (p.dreg da.val) 1) 15 0 →
   bits (fld (p.dreg da.val) 2) 51 0 = 0 → exec (.plread r g da a f) s = .next (s.setProg r.val (((p.setS a.val 0).setP
   f.val true).next 1))) ∧
  (∀ (s : State) (r : Fin 132) (g : Guard) (da : Fin 16) (a : Fin 32) (p : Prog), s.runsAt r g (encU 0x62 g da.val 0 0
   a.val 0 0 0) [] p = true → 0 < (p.sreg a.val).toNat → bits (fld (p.dreg da.val) 1) 15 0 + (p.sreg a.val).toNat < bits
   (fld (p.dreg da.val) 1) 31 16 → exec (.plskip r g da a) s = .next (s.setProg r.val ((p.setD da.val (cursorMove
   (p.dreg da.val) (p.sreg a.val).toNat)).next 1))) ∧
  (∀ (s : State) (r : Fin 132) (g : Guard) (t : Fin 16) (a b c : Fin 32) (p : Prog) (j : Job), s.runsAt r g (encU 0x63 g 0
   0 t.val a.val b.val c.val 0) [] p = true → s.emitJob r.val t.val = some j → s.hatch.jobs = [j] → (p.sreg a.val).toNat
   < j.attn.batch → (p.sreg a.val).toNat < j.seqs.length → 0 < bits (p.sreg c.val).toNat 31 16 → bits (p.sreg
   c.val).toNat 15 0 + bits (p.sreg c.val).toNat 31 16 ≤ j.attn.slots → j.unconsumed < 256 → completes (.plemit r g t a
   b c) s (fun u => (u.hatch.jobs.map (fun k => (k.id, (k.seq (p.sreg a.val).toNat).pages))) = [(j.id, (j.seq (p.sreg
   a.val).toNat).pages ++ [⟨bits (p.sreg b.val).toNat 31 0, bits (p.sreg c.val).toNat 15 0, bits (p.sreg c.val).toNat 31
   16⟩])] ∧ (u.prog r.val).map (·.pc) = some (p.pc + 1) ∧ u.pool = s.pool)) ∧
  (∀ (s : State) (r : Fin 132) (g : Guard) (t : Fin 16) (a b c : Fin 32) (p : Prog), s.runsAt r g (encU 0x63 g 0 0 t.val
   a.val b.val c.val 0) [] p = true → s.emitJob r.val t.val = none → exec (.plemit r g t a b c) s = .next (endAt r.val
   0x50 0 p s)) ∧
  (∀ (s : State) (r : Fin 132) (g : Guard) (t : Fin 16) (p : Prog) (j : Job), s.runsAt r g (encU 0x64 g 0 0 t.val 0 0 0 0)
   [] p = true → s.emitJob r.val t.val = some j → s.hatch.jobs = [j] → completes (.plend r g t) s (fun u =>
   u.hatch.jobs.map (fun k => (k.id, k.open_)) = [(j.id, false)] ∧ (u.prog r.val).map (·.pc) = some (p.pc + 1) ∧ u.pool
   = s.pool)) ∧
  (∀ (s : State) (r : Fin 132) (g : Guard) (t : Fin 16) (p : Prog), s.runsAt r g (encU 0x64 g 0 0 t.val 0 0 0 0) [] p =
   true → s.emitJob r.val t.val = none → exec (.plend r g t) s = .next (endAt r.val 0x50 0 p s))

/-- A free engine in service takes the task that is next and any other takes none; a checked HGEMM task before the last
K-step commits its accumulators and makes the next step ready, one whose check fails runs again on another engine and
counts the re-run, and a stopped or retried job's tally gets its status; a lockstep mismatch retires its core and counts
it; an uncorrectable staging word is counted, and one of a task's inputs or of a chunk's partial runs that task again
and counts the re-run; a spare that passes its self-test takes its number; a returning cluster is in service; a row with
an uncorrectable word is taken out for its test, a passed test returns it, a failed one uses a spare row; the repair
record is written no sooner than 10 s after the last write. -/
def Obligations.TasksUnitsAndRows : Prop :=
  (∀ (s : State) (cl : Fin 4) (eng : Fin 13), s.engineIn cl.val eng.val = false ∨ s.engineFree (cl.val * 16 + eng.val) =
   false ∨ s.pickTask cl.val eng.val = none → exec (.taskDispatch cl eng) s = .next s) ∧
  (∀ (s : State) (cl : Fin 4) (eng : Fin 13) (j : Job) (x : Task), s.engineIn cl.val eng.val = true → s.engineFree (cl.val
   * 16 + eng.val) = true → s.pickTask cl.val eng.val = some (j, x, false) → s.hatch.jobs = [j] → j.kind = .merge →
   x.loaded = none → completes (.taskDispatch cl eng) s (fun t => t.hatch.jobs.map (fun k => (k.id, k.run.map (fun y =>
   (y.1, y.2.tile, y.2.step)))) = [(j.id, j.run.map (fun y => (y.1, y.2.tile, y.2.step)) ++ [(cl.val * 16 + eng.val,
   x.tile, x.step)])] ∧ t.pool = s.pool ∧ t.regs = s.regs)) ∧
  (∀ (s u : State) (cl : Fin 4) (eng : Fin 13) (j : Job) (x : Task) (l : List (List Nat)), s.engineIn cl.val eng.val = true
   → s.engineFree (cl.val * 16 + eng.val) = true → s.pickTask cl.val eng.val = some (j, x, true) → s.hatch.jobs = [j] →
   j.kind = .helt → x.loaded = none → heltLoad j.ring j.d0 x.tile s = (.ok l, u) → completes (.taskDispatch cl eng) s
   (fun t => t.hatch.jobs.map (fun k => (k.fresh, k.run.map (fun y => (y.1, y.2.tile, y.2.loaded)))) = [(j.fresh + 1,
   j.run.map (fun y => (y.1, y.2.tile, y.2.loaded)) ++ [(cl.val * 16 + eng.val, x.tile, some l)])])) ∧
  (∀ (s : State) (cl : Fin 4) (eng : Fin 13) (w : Option (List Nat)) (d : Bool), s.hatch.jobs.find? (fun j => j.run.any
   (fun x => x.1 == cl.val * 16 + eng.val)) = none → exec (.tileTaskDone cl eng w d) s = .next s) ∧
  (∀ (s : State) (cl : Fin 4) (eng : Fin 13) (j : Job) (x : Task) (res : List Nat), s.hatch.jobs = [j] → j.run = [(cl.val *
   16 + eng.val, x)] → j.kind = .hgemm → x.prior = [] → x.step + 1 < (gemmOf j.d0).steps → res = gemmResult (gemmOf
   j.d0) ((gemmOf j.d0).box x.tile x.step) x.step (x.loaded.getD []) (Tab.get [] j.accs x.tile) → gemmSpecial (gemmOf
   j.d0) (x.loaded.getD []) (gemmStart ((gemmOf j.d0).box x.tile x.step) x.step (x.loaded.getD []) (Tab.get [] j.accs
   x.tile)) res = false → gemmCheck (gemmOf j.d0) ((gemmOf j.d0).box x.tile x.step) x.step (x.loaded.getD []) (Tab.get
   [] j.accs x.tile) res = true → completes (.tileTaskDone cl eng none false) s (fun t => t.hatch.jobs.map (fun k =>
   (k.run, k.accs, k.ready)) = [([], Tab.set j.accs x.tile res, j.ready ++ [Task.new x.tile (x.step + 1) x.cl])] ∧
   t.pool = s.pool ∧ t.get (F.CC_TASKS_COUNT x.cl) = min ((F.CC_TASKS_COUNT x.cl).size - 1) (s.get (F.CC_TASKS_COUNT
   x.cl) + 1))) ∧
  (∀ (s : State) (cl : Fin 4) (eng : Fin 13) (j : Job) (x : Task), s.hatch.jobs = [j] → j.run = [(cl.val * 16 + eng.val,
   x)] → j.kind = .helt ∨ j.kind = .hsmax → j.bad = none → (x.fails.filter (· != cl.val * 16 + eng.val)).length + 1 <
   s.get (F.CC_CFG_RERUN_MAX cl.val) → s.get (F.CC_HCHK_FAILS cl.val eng.val) + 1 < s.get F.RPR_CFG_RETIRE_CHK →
   completes (.tileTaskDone cl eng none true) s (fun t => t.hatch.jobs.map (fun k => (k.run, k.retries, k.ready.map (fun
   y => (y.tile, y.step, y.redo)))) = [([], j.retries + 1, j.ready.map (fun y => (y.tile, y.step, y.redo)) ++ [(x.tile,
   x.step, true)])] ∧ t.get (F.CC_HCHK_FAILS cl.val eng.val) = min ((F.CC_HCHK_FAILS cl.val eng.val).size - 1) (s.get
   (F.CC_HCHK_FAILS cl.val eng.val) + 1) ∧ t.pool = s.pool)) ∧
  (∀ (s : State) (r : Fin 132) (x : Fin 16) (j : Job) (st_ d : Nat) (p : Prog), s.hatch.jobs = [j] → j.ring = r.val → j.t =
   x.val → j.run = [] → j.open_ = false → j.kind = .helt → j.bad = some (st_, d) → d < 4294967296 → s.prog r.val = some
   p → (p.tally x.val).st = 1 → p.stall = .no → completes (.tallyComplete r x) s (fun t => t.hatch.jobs = [] ∧ (t.prog
   r.val).map (fun q => ((q.tally x.val).st, (q.tally x.val).status, (q.tally x.val).detail)) = some (2, st_, d) ∧
   t.pool = s.pool)) ∧
  (∀ (s : State) (cl : Fin 4), s.rpr.clOut.contains cl.val = true → s.synState cl.val = synLocked → completes
   (.clusterReturn cl) s (fun t => t.rpr.clOut = NSet.del s.rpr.clOut cl.val ∧ t.rings = s.rings ∧ t.pool = s.pool)) ∧
  (∀ (s : State) (cl : Fin 4), s.rpr.clOut.contains cl.val = false ∨ s.synState cl.val ≠ synLocked → exec (.clusterReturn
   cl) s = .next s) ∧
  (∀ (s : State) (cl : Fin 4) (phys : Fin 18) (l : Nat), s.logicalOf .stipple cl.val phys.val = some l → completes
   (.lockstepMismatch cl phys) s (fun t => t.unitRetired .stipple cl.val phys.val = true ∧ t.get (F.CC_SMIS_MISMATCHES
   cl.val phys.val) = min ((F.CC_SMIS_MISMATCHES cl.val phys.val).size - 1) (s.get (F.CC_SMIS_MISMATCHES cl.val
   phys.val) + 1) ∧ t.pool = s.pool)) ∧
  (∀ (s : State) (cl : Fin 4) (phys : Fin 18), s.logicalOf .stipple cl.val phys.val = none → exec (.lockstepMismatch cl
   phys) s = .next s) ∧
  (∀ (s : State) (cl : Fin 4) (hatch pass : Bool), s.rpr.tests = [] → exec (.spareSwitchIn cl hatch pass) s = .next s) ∧
  (∀ (s : State) (cl : Fin 4) (hatch : Bool) (x : SpareTest), s.rpr.tests = [x] → x.cl = cl.val → x.kind = (if hatch then
   .hatch else .stipple) → s.physUnit x.kind x.cl x.logical = vacantMark x.kind → s.blockVacant x.kind x.cl x.logical =
   false → x.logical < unitCount x.kind → x.phys < physCount x.kind → completes (.spareSwitchIn cl hatch true) s (fun t
   => t.physUnit x.kind x.cl x.logical = x.phys ∧ t.rpr.tests = [] ∧ t.pool = s.pool)) ∧
  (∀ (s : State) (cl : Fin 4), exec (.stagingEccUe cl .idle) s = .next (s.bump (F.CC_STAGE_ECC_UE cl.val) 1)) ∧
  (∀ (s : State) (cl : Fin 4) (e : Fin 13) (j : Job) (x : Task), s.hatch.jobs = [j] → j.run = [(cl.val * 16 + e.val, x)] →
   completes (.stagingEccUe cl (.input e)) s (fun t => t.hatch.jobs.map (fun k => (k.run, k.retries, k.ready.map (fun y
   => (y.tile, y.loaded, y.redo)))) = [([], j.retries + 1, j.ready.map (fun y => (y.tile, y.loaded, y.redo)) ++
   [(x.tile, none, true)])] ∧ t.pool = s.pool)) ∧
  (∀ (s : State) (cl : Fin 4) (r : Fin 132) (t : Fin 16) (tile chunk : Nat) (j : Job) (v : List Nat), s.hatch.jobs = [j] →
   j.ring = r.val → j.t = t.val → j.kind = .attn → j.parts = [(tile, chunk, v)] → j.accs = [] → s.anyEngine cl.val =
   true → completes (.stagingEccUe cl (.part r t tile chunk)) s (fun t => t.hatch.jobs.map (fun k => (k.parts,
   k.retries, k.ready.getLast?.map (fun y => (y.tile, y.step, y.cl, y.redo)))) = [([], j.retries + 1, some (tile, chunk,
   cl.val, true))] ∧ t.pool = s.pool)) ∧
  (∀ (s : State) (code : BitVec 8) (inst row : BitVec 16), (SramRow.mk code.toNat inst.toNat row.toNat).ok = true →
   s.rpr.rowsOut.contains ⟨code.toNat, inst.toNat, row.toNat⟩ = false → completes (.sramRowTest code inst row true) s
   (fun t => t.rpr.rowsOut = s.rpr.rowsOut ++ [⟨code.toNat, inst.toNat, row.toNat⟩] ∧ t.get F.RPR_ROWS_TESTS = min
   (F.RPR_ROWS_TESTS.size - 1) (s.get F.RPR_ROWS_TESTS + 1) ∧ t.pool = s.pool)) ∧
  (∀ (s : State) (code : BitVec 8) (inst row : BitVec 16) (ue : Bool), (SramRow.mk code.toNat inst.toNat row.toNat).ok =
   false ∨ s.rpr.rowsOut.contains ⟨code.toNat, inst.toNat, row.toNat⟩ = true → exec (.sramRowTest code inst row ue) s =
   .next s) ∧
  (∀ (s : State) (code : BitVec 8) (inst row : BitVec 16), s.rpr.rowsOut = [⟨code.toNat, inst.toNat, row.toNat⟩] → rowCore
   ⟨code.toNat, inst.toNat, row.toNat⟩ s = none → completes (.sramRowTestDone code inst row true) s (fun t =>
   t.rpr.rowsOut = [] ∧ t.regs = s.regs ∧ t.evt = s.evt)) ∧
  (∀ (s : State) (code : BitVec 8) (inst row : BitVec 16), s.rpr.rowsOut = [⟨code.toNat, inst.toNat, row.toNat⟩] →
   code.toNat = 4 ∨ code.toNat = 5 → Tab.get 0 s.rpr.spareRows (arrayKey code.toNat inst.toNat) < 4 → completes
   (.sramRowTestDone code inst row false) s (fun t => t.rpr.rowsOut = [] ∧ Tab.get 0 t.rpr.spareRows (arrayKey
   code.toNat inst.toNat) = Tab.get 0 s.rpr.spareRows (arrayKey code.toNat inst.toNat) + 1 ∧ t.get F.RPR_ROWS_REPAIRED =
   min (F.RPR_ROWS_REPAIRED.size - 1) (s.get F.RPR_ROWS_REPAIRED + 1))) ∧
  (∀ (s : State) (ok : Bool) (k : Nat), s.rpr.lastWrite = some k → s.ticks < k + 4000000000 → exec (.repairRecordWrite ok)
   s = .next s) ∧
  (∀ (s : State), s.rpr.lastWrite = none → s.rpr.pending ≠ [] → s.rpr.copyA = none → s.rpr.copyB = none → s.rpr.deleted =
   [] → completes (.repairRecordWrite true) s (fun t => t.rpr.copyA = some
   { seq := 1, entries := mergedRecord s.rpr.record s.rpr.pending, valid := true } ∧ t.rpr.copyB = none ∧ t.rpr.pending
   = [] ∧ t.rpr.record = mergedRecord s.rpr.record s.rpr.pending ∧ t.rpr.lastWrite = some s.ticks ∧ t.on
   F.RPR_STATUS_FULL = false))

/-- For a program that stands at the instruction with its guard holding and its tally IDLE: PQUEUE of the lease holder
with a good full-render plate seals it, hashes the plate bytes, takes its reservation and puts it at the tail of the
queue with its tally BUSY; an order that lost its cycle ends the program SUPERSEDED; a second job of KIND 5 makes
PENGINE wait; PENGINE to run from STANDBY enters WARMING with beam detect hunting and HALT_CAUSE clear; PCANCEL leaves
no unpicked page of the job in the queue; PSTAT gives the holder the status word and everyone else zero; without the
lease an order changes no engine state and no queue. -/
def Obligations.PressInstructions : Prop :=
  (∀ (s : State) (r : Fin 132) (g : Guard) (da t : Fin 16) (p : Prog), s.runsAt r g (encU 0x80 g da.val 0 t.val 0 0 0 0) []
   p = true → (p.tally t.val).st = 0 → exec (.pqueue r g da t true) s = .next (endAt r.val 0x10 1 (p.setT t.val
   Tally.idle) s)) ∧
  (∀ (s u : State) (r : Fin 132) (g : Guard) (da t : Fin 16) (p : Prog) (x : Page) (m : Tab Nat), s.runsAt r g (encU 0x80 g
   da.val 0 t.val 0 0 0 0) [] p = true → (p.tally t.val).st = 0 → smRing r.val = false → s.leases.press = some (r.val /
   8) → x = pageOfDesc r.val t.val s.prs.nextPage (p.dreg da.val) → plateBad (p.dreg da.val) x s = false → s.log.halted
   = false → s.allPages.length < 64 → x.stream = none → bit (fld (p.dreg da.val) 1) 39 = false → captureSurf r.val
   x.surf s = (m, AccRes.empty, u) → u.sealFits (framePages m) = true → s.prs.hashing = [] → s.canReserve = true →
   s.log.wants = [] → (plateBytes (mapRd m) x.surf (takeSeal (framePages m) true s).2).1.held = false → (plateBytes
   (mapRd m) x.surf (takeSeal (framePages m) true s).2).1.bad = none → completes (.pqueue r g da t false) s (fun v =>
   v.prs.queue.length = s.prs.queue.length + 1 ∧ (v.prs.queue.getLast?).map (fun y => (y.id, y.part, y.map, y.hash)) =
   some (s.prs.nextPage, r.val / 8, m, sha384 (plateBytes (mapRd m) x.surf (takeSeal (framePages m) true s).2).1.data) ∧
   ((v.prs.queue.getLast?).bind (·.resv)).isSome = true ∧ (v.prog r.val).map (fun q => (q.pc, (q.tally t.val).st)) =
   some (p.pc + 1, 1) ∧ v.prs.nextPage = s.prs.nextPage + 1)) ∧
  (∀ (s : State) (r : Fin 132) (g : Guard) (da t : Fin 16) (p : Prog), s.runsAt r g (encU 0x80 g da.val 0 t.val 0 0 0 0) []
   p = true → (p.tally t.val).st = 0 → smRing r.val = false → s.leases.press = some (r.val / 8) → plateBad (p.dreg
   da.val) (pageOfDesc r.val t.val s.prs.nextPage (p.dreg da.val)) s = true → exec (.pqueue r g da t false) s = .next
   (endAt r.val 0x50 0 (p.setT t.val Tally.idle) s)) ∧
  (∀ (s : State) (r : Fin 132) (g : Guard) (a : Fin 32) (p : Prog), s.runsAt r g (encU 0x81 g 0 0 0 a.val 0 0 0) [] p =
   true → smRing r.val = false → s.leases.press = some (r.val / 8) → completes (.pcancel r g a false) s (fun t =>
   (t.allPages.any (fun x => !x.picked && x.part == r.val / 8 && x.job == (p.sreg a.val).toNat % 2 ^ 32)) = false ∧
   t.prs.sheets = s.prs.sheets)) ∧
  (∀ (s : State) (r : Fin 132) (g : Guard) (a : Fin 32) (p : Prog), s.runsAt r g (encU 0x82 g 0 0 0 a.val 0 0 0) [] p =
   true → smRing r.val = false → s.leases.press = some (r.val / 8) → s.jobRuns 5 = false → p.sreg a.val = 1 →
   s.pressIn.ilk = true → s.prs.aonSafe = false → s.eng = engStandby ∨ s.eng = engStopping → completes (.pengine r g a
   false) s (fun t => t.eng = engWarming ∧ t.get F.PRS_STATUS_HALT_CAUSE = 0 ∧ t.press.laserEn = true ∧ t.on
   F.DRY_STATUS_HUNTING = true ∧ (t.prog r.val).map (·.pc) = some (p.pc + 1))) ∧
  (∀ (s : State) (r : Fin 132) (g : Guard) (a : Fin 32) (p : Prog), s.runsAt r g (encU 0x82 g 0 0 0 a.val 0 0 0) [] p =
   true → smRing r.val = false → s.leases.press = some (r.val / 8) → s.jobRuns 5 = false → p.sreg a.val = 0 → s.eng =
   engOff → completes (.pengine r g a false) s (fun t => t.eng = engStandby ∧ (s.synState 10 = synOff → t.on
   (F.CKR_SYN_CTL_EN 10) = true) ∧ t.press.laserEn = false ∧ (t.prog r.val).map (·.pc) = some (p.pc + 1))) ∧
  (∀ (s : State) (r : Fin 132) (g : Guard) (a : Fin 32) (p : Prog), s.runsAt r g (encU 0x82 g 0 0 0 a.val 0 0 0) [] p =
   true → smRing r.val = false → s.leases.press = some (r.val / 8) → s.jobRuns 5 = false → p.sreg a.val = 0 → s.eng =
   engReady → completes (.pengine r g a false) s (fun t => t.eng = engStopping ∧ t.prs.queue = s.prs.queue ∧
   t.prs.sheets = s.prs.sheets)) ∧
  (∀ (s : State) (r : Fin 132) (g : Guard) (a : Fin 32) (p : Prog), s.runsAt r g (encU 0x82 g 0 0 0 a.val 0 0 0) [] p =
   true → smRing r.val = false → s.leases.press = some (r.val / 8) → s.jobRuns 5 = false → p.sreg a.val = 1 →
   s.pressIn.ilk = false → exec (.pengine r g a false) s = .next (endAt r.val 0x10 1 p s)) ∧
  (∀ (s : State) (r : Fin 132) (g : Guard) (a : Fin 32) (p : Prog), s.runsAt r g (encU 0x82 g 0 0 0 a.val 0 0 0) [] p =
   true → s.jobRuns 5 = false → 1 < (p.sreg a.val).toNat → exec (.pengine r g a false) s = .next (endAt r.val 0x50 0 p
   s)) ∧
  (∀ (s : State) (r : Fin 132) (g : Guard) (a : Fin 32) (lost : Bool), s.jobRuns 5 = true → exec (.pengine r g a lost) s =
   .next s) ∧
  (∀ (s : State) (r : Fin 132) (g : Guard) (a : Fin 32) (p : Prog), s.runsAt r g (encU 0x83 g 0 0 0 a.val 0 0 0) [] p =
   true → smRing r.val = false → s.leases.press = some (r.val / 8) → exec (.pstat r g a) s = .next (s.setProg r.val
   ((p.setS a.val (BitVec.ofNat 64 s.pstat)).next 1))) ∧
  (∀ (s : State) (r : Fin 132) (g : Guard) (a : Fin 32) (p : Prog), s.runsAt r g (encU 0x83 g 0 0 0 a.val 0 0 0) [] p =
   true → s.leases.press ≠ some (r.val / 8) → exec (.pstat r g a) s = .next (s.setProg r.val ((p.setS a.val 0).next 1))) ∧
  (∀ (s : State) (r : Fin 132) (g : Guard) (a : Fin 32) (p : Prog), s.runsAt r g (encU 0x82 g 0 0 0 a.val 0 0 0) [] p =
   true → smRing r.val = false → s.leases.press ≠ some (r.val / 8) → s.jobRuns 5 = false → (p.sreg a.val).toNat ≤ 1 →
   completes (.pengine r g a false) s (fun t => t.eng = s.eng ∧ t.prs = s.prs ∧ t.press = s.press ∧ (t.vio (r.val /
   8)).kind ≤ 11))

/-- Hash passes queue a page, WARMING becomes READY only with every engine condition, READY returns to WARMING, STOPPING
becomes STANDBY with an empty path; a pick takes the head page onto a new sheet and requests its first bands; bands are
requested and rendered in order; a sensor edge that no sheet expects, a jam, a comparator, the loss of ERDY and a
falling interlock halt a running engine, INTERRUPT its pages, take the outputs to their safe levels and count one halt;
a spoil blanks the imaged page; the last station's uncovering takes a sheet out of the path; configuration is written
only while the engine is OFF, STANDBY or HALTED. -/
def Obligations.EngineSheetsAndInterlock : Prop :=
  (∀ (s : State), s.prs.hashing = [] → exec .hashPassDone s = .next s) ∧
  (∀ (s u : State) (p : Page) (x : Stream) (b : List Byte), s.prs.hashing.find? (fun y => !y.hashed) = some p → p.stream =
   some x → hashBands p x p.bands 0 [] s = (.ok b, u) → u.canReserve = true → u.log.wants = [] → u.prs = s.prs →
   completes .hashPassDone s (fun t => (t.prs.queue.getLast?).map (fun y => (y.id, y.hash, y.hashed)) = some (p.id,
   sha384 b, true) ∧ t.prs.queue.length = s.prs.queue.length + 1)) ∧
  (∀ (s : State), s.ras.bands = [] → exec .rasterTile s = .next (jobStep s)) ∧
  (∀ (s u : State) (id k : Nat) (rest : List (Nat × Nat)) (p : Page) (x : Stream) (q : AccRes) (rows : List (List Byte)),
   s.ras.bands = (id, k) :: rest → s.pageOf id = some p → p.stream = some x → renderBand p x k s = (.ok (q, rows), u) →
   q.held = false → q.poison = false → q.unavail = none → completes .rasterTile s (fun t => t.ras.bands = rest ∧
   t.prs.bandsDone.contains (id * 65536 + k) = true ∧ t.pool = u.pool)) ∧
  (∀ (s : State) (id k : Nat) (rest : List (Nat × Nat)), s.ras.bands = (id, k) :: rest → s.pageOf id = none → exec
   .rasterTile s = .next { s with ras := { s.ras with bands := rest } }) ∧
  (∀ (s : State), s.livePages = [] → exec .bandRequest s = .next s) ∧
  (∀ (s : State) (q : SheetPage) (rest : List SheetPage) (p : Page) (x : Stream) (k : Nat), s.livePages = q :: rest →
   s.pageOf q.page = some p → p.stream = some x → k = Tab.get 0 s.prs.bandNext p.id → k < p.bands → k < x.nb → completes
   .bandRequest s (fun t => t.ras.bands = s.ras.bands ++ [(p.id, k)] ∧ Tab.get 0 t.prs.bandNext p.id = k + 1 ∧ t.pool =
   s.pool)) ∧
  (∀ (s : State), s.eng = engWarming → s.engConditions = true → completes .engineConditionsMet s (fun t => t.eng = engReady
   ∧ t.prs.queue = s.prs.queue ∧ t.pool = s.pool)) ∧
  (∀ (s : State), s.engConditions = false ∨ s.eng ≠ engWarming → exec .engineConditionsMet s = .next s) ∧
  (∀ (s : State), s.eng = engReady → s.engConditions = false → completes .engineConditionLost s (fun t => t.eng =
   engWarming ∧ t.on F.DRY_STATUS_HUNTING = true ∧ t.prs.sheets = s.prs.sheets ∧ t.prs.queue = s.prs.queue)) ∧
  (∀ (s : State), s.eng = engStopping → s.path = [] → completes .pathEmpty s (fun t => t.eng = engStandby ∧ t.press.laserEn
   = false ∧ t.press.hvDuty = [])) ∧
  (∀ (s : State), s.engHot = true → completes .engineLost s (fun t => t.eng = engHalted ∧ t.get F.PRS_STATUS_HALT_CAUSE = 2
   ∧ t.pressIn.erdy = false ∧ t.path = [] ∧ t.press.laserEn = false ∧ t.press.fusGate = [] ∧ t.press.hvDuty = [])) ∧
  (∀ (s : State), s.engHot = false → exec .engineLost s = .next { s with pressIn := { s.pressIn with erdy := false } }) ∧
  (∀ (s : State) (p : Page), s.pickPages = some [p] → s.pickReady = true → s.pageOf p.id = some p → completes .pickLatch s
   (fun t => t.prs.lastSheet = s.get F.PRS_SHEET_NEXT ∧ t.prs.sheets.length = s.prs.sheets.length + 1 ∧
   (t.prs.sheets.getLast?).map (fun x => (x.id, x.route, x.picked, x.pages.map (·.page))) = some (s.get
   F.PRS_SHEET_NEXT, 0, s.ticks, [p.id]) ∧ t.prs.lastPick = some (s.ticks, 1))) ∧
  (∀ (s : State), s.pickReady = false → exec .pickLatch s = .next s) ∧
  (∀ (s : State) (e : Bool), completes (.heartbeatTick e) s (fun t => t.press.hbeat = (if s.hbeatRuns && s.hasPress then
   !s.press.hbeat else false) ∧ t.pressIn.erdy = e ∧ t.regs = s.regs ∧ t.prs = s.prs)) ∧
  (∀ (s : State) (n : Fin 24) (high : Bool) (id k : Nat), s.hasPress = true → (high != bit (s.get F.PRS_SNS_POL_POL) n.val)
   = true → bit (s.get F.PRS_SNS_STATE_COVERED) n.val = false → s.expecting n.val = some (id, k) → completes
   (.sensorEdge n high) s (fun t => bit (t.get F.PRS_SNS_STATE_COVERED) n.val = true ∧ t.eng = s.eng ∧ Tab.get 0
   t.prs.coverAt n.val = s.ticks ∧ t.prs.sheets.length = s.prs.sheets.length)) ∧
  (∀ (s : State) (n : Fin 24) (high : Bool), s.hasPress = true → s.engRuns = true → (high != bit (s.get F.PRS_SNS_POL_POL)
   n.val) = true → bit (s.get F.PRS_SNS_STATE_COVERED) n.val = false → s.path = [] → completes (.sensorEdge n high) s
   (fun t => bit (t.get F.PRS_SNS_STATE_COVERED) n.val = true ∧ t.eng = engHalted ∧ t.get F.PRS_STATUS_HALT_CAUSE = 3)) ∧
  (∀ (s : State) (n : Fin 24) (high : Bool), s.hasPress = true → (high != bit (s.get F.PRS_SNS_POL_POL) n.val) = false →
   bit (s.get F.PRS_SNS_STATE_COVERED) n.val = true → completes (.sensorEdge n high) s (fun t => bit (t.get
   F.PRS_SNS_STATE_COVERED) n.val = false ∧ t.eng = s.eng ∧ t.press = s.press)) ∧
  (∀ (s : State) (n : Fin 24) (high : Bool), (high != bit (s.get F.PRS_SNS_POL_POL) n.val) = bit (s.get
   F.PRS_SNS_STATE_COVERED) n.val → exec (.sensorEdge n high) s = .next s) ∧
  (∀ (s : State), s.engRuns = true → s.path.any s.missed = true ∨ s.prs.coverAt.any s.longCover = true → completes .jam s
   (fun t => t.eng = engHalted ∧ t.get F.PRS_STATUS_HALT_CAUSE = 3 ∧ t.path = [] ∧ t.press.laserEn = false)) ∧
  (∀ (s : State), s.path.any s.missed = false → s.prs.coverAt.any s.longCover = false → exec .jam s = .next s) ∧
  (∀ (s : State) (j : Fin 32), s.engRuns = true → s.prs.aonSafe = false → completes .clutchActuation s (fun t =>
   (s.path.any (fun sh => s.actDrives sh j.val) = true → t.press.clutch.contains (s.get (F.PRS_ACT_CLU j.val)) = true) ∧
   t.regs = s.regs ∧ t.prs = s.prs)) ∧
  (∀ (s : State), s.engRuns = false ∨ s.prs.aonSafe = true → exec .clutchActuation s = .next
   { s with press := { s.press with clutch := [] } }) ∧
  (∀ (s : State), s.imagedPage = none → exec .spoil s = .next s) ∧
  (∀ (s : State) (x : SheetPage) (sh : Sheet), s.imagedPage = some (sh.id, x) → s.prs.sheets = [sh] → sh.pages = [x] →
   x.outcome = none → x.info.attempt < 255 → sh.route = 0 → sh.gone = false → s.ticks - sh.picked ≤ s.latestOf 0 →
   completes .spoil s (fun t => t.prs.sheets.map (fun y => (y.id, y.route, y.switch)) = [(sh.id, 2, some s.ticks)] ∧
   (t.prs.sheets.flatMap (·.pages)).map (fun y => (y.outcome, y.blank, y.imaging)) = [(some 0x40, true, 2)] ∧
   t.press.beamsLit = s.dry.refOn ∧ t.eng = s.eng)) ∧
  (∀ (s : State) (sh : Sheet), s.prs.sheets = [sh] → sh.gone = false → (s.lastStation sh.route).any (fun k =>
   sh.left.contains k) = true → sh.final = true → completes .sheetExit s (fun t => t.prs.sheets = [] ∧ t.eng = s.eng)) ∧
  (∀ (s : State), s.path = [] → exec .sheetExit s = .next s) ∧
  (∀ (s : State) (k : Fin 4), s.on (F.PRS_OT_EN k.val) = true → s.engRuns = true → completes (.otComparatorTrip k) s (fun t
   => t.eng = engHalted ∧ t.get F.PRS_STATUS_HALT_CAUSE = 4 ∧ bit (t.get F.PRS_STATUS_OT_TRIP) k.val = true ∧
   t.press.fusGate = [])) ∧
  (∀ (s : State) (k : Fin 4), s.on (F.PRS_OT_EN k.val) = false → exec (.otComparatorTrip k) s = .next s) ∧
  (∀ (s : State) (w h : BitVec 4) (k : Fin 4), completes (.otTripClear w h) s (fun t => bit (t.get F.PRS_STATUS_OT_TRIP)
   k.val = (bit (s.get F.PRS_STATUS_OT_TRIP) k.val && !(bit w.toNat k.val && bit h.toNat k.val)) ∧ t.eng = s.eng)) ∧
  (∀ (s : State) (o : BitVec 12) (v : W64), s.hasPress = true → prsCfgOffset o.toNat = true → isReg (R.PRS_CFG + o.toNat) =
   true → s.prsCfgOpen = false → exec (.prsConfigWrite o v) s = .next (s.put F.PRS_STATUS_CFG_ERR 1)) ∧
  (∀ (s : State) (o : BitVec 12) (v : W64), s.hasPress = true → prsCfgOffset o.toNat = true → isReg (R.PRS_CFG + o.toNat) =
   true → s.prsCfgOpen = true → R.PRS_CFG + o.toNat ≠ R.PRS_SNS_POL → completes (.prsConfigWrite o v) s (fun t => t.reg
   (R.PRS_CFG + o.toNat) = (s.writeReg (R.PRS_CFG + o.toNat) v.toNat).reg (R.PRS_CFG + o.toNat) ∧ t.eng = s.eng ∧
   t.press = s.press)) ∧
  (∀ (s : State), s.engRuns = true → completes .prsIlkInFall s (fun t => t.eng = engHalted ∧ t.get F.PRS_STATUS_HALT_CAUSE
   = 1 ∧ t.pressIn.ilk = false ∧ t.press.laserEn = false ∧ t.press.beamsLit = false ∧ t.press.ilkOut = false ∧
   t.press.hvDuty = [] ∧ t.get F.PRS_HALTS_COUNT = min (F.PRS_HALTS_COUNT.size - 1) (s.get F.PRS_HALTS_COUNT + 1))) ∧
  (∀ (s : State), s.engRuns = false → completes .prsIlkInFall s (fun t => t.eng = s.eng ∧ t.pressIn.ilk = false ∧
   t.press.laserEn = false ∧ t.get F.PRS_HALTS_COUNT = s.get F.PRS_HALTS_COUNT)) ∧
  (∀ (s : State), completes .prsIlkInRise s (fun t => t.pressIn.ilk = true ∧ t.press.ilkOut = (s.engRuns && !s.prs.aonSafe
   && s.hasPress) ∧ t.press.laserEn = s.press.laserEn ∧ t.eng = s.eng)) ∧
  (∀ (s : State), completes .vddIo33Loss s (fun t => t.pwr.io33Up = false ∧ t.press =
   { PressPins.safe with driven := false } ∧ t.pressIn.ilk = false ∧ (s.engRuns = true → t.eng = engHalted ∧ t.get
   F.PRS_STATUS_HALT_CAUSE = 1)))

/-- For a program that stands at the instruction: the owner of the raster context queues one job with RDRAW or RCLEAR
and its tally is BUSY; a malformed surface ends the program; any other partition's order completes with no effect;
RCOMMIT of the proof lease holder waits for its handshake and any other gets zero. A handshake makes the frame pending
and gives the next FRAME_SEQ; a latch in ACTIVE advances FRAME_SEQ and shows the pending frame or counts a reprojection;
the display enables only with a mode it can drive, trains, and admits only an authenticated receiver on the allow list
that is no repeater. -/
def Obligations.RasterAndProofCommands : Prop :=
  (∀ (s : State) (r : Fin 132) (g : Guard) (da t : Fin 16) (p : Prog) (n : Nat), s.runsAt r g (encU 0x78 g da.val 0 t.val 0
   0 0 0) [] p = true → (p.tally t.val).st = 0 → surfBad false (p.dreg da.val) = false → n = bits (fld (p.dreg da.val)
   3) 43 41 → smRing r.val = false → s.rasOwner n = some (r.val / 8) → (s.rasQueue n).length < 16 → completes (.rdraw r
   g da t false) s (fun u => (u.rasQueue n).length = (s.rasQueue n).length + 1 ∧ ((u.rasQueue n).getLast?).map (fun j =>
   (j.ring, j.t, j.clear, j.f, j.started)) = some (r.val, t.val, false, p.dreg da.val, false) ∧ (u.prog r.val).map (fun
   q => (q.pc, (q.tally t.val).st)) = some (p.pc + 1, 1) ∧ u.pool = s.pool)) ∧
  (∀ (s : State) (r : Fin 132) (g : Guard) (da t : Fin 16) (p : Prog) (n : Nat), s.runsAt r g (encU 0x79 g da.val 0 t.val 0
   0 0 0) [] p = true → (p.tally t.val).st = 0 → surfBad true (p.dreg da.val) = false → n = bits (fld (p.dreg da.val) 3)
   43 41 → smRing r.val = false → s.rasOwner n = some (r.val / 8) → (s.rasQueue n).length < 16 → completes (.rclear r g
   da t false) s (fun u => (u.rasQueue n).length = (s.rasQueue n).length + 1 ∧ ((u.rasQueue n).getLast?).map (fun j =>
   (j.ring, j.t, j.clear)) = some (r.val, t.val, true) ∧ (u.prog r.val).map (fun q => (q.pc, (q.tally t.val).st)) = some
   (p.pc + 1, 1))) ∧
  (∀ (s : State) (r : Fin 132) (g : Guard) (da t : Fin 16) (p : Prog), s.runsAt r g (encU 0x78 g da.val 0 t.val 0 0 0 0) []
   p = true → (p.tally t.val).st = 0 → surfBad false (p.dreg da.val) = true → exec (.rdraw r g da t false) s = .next
   (endAt r.val 0x50 0 (p.setT t.val Tally.idle) s)) ∧
  (∀ (s : State) (r : Fin 132) (g : Guard) (da t : Fin 16) (p : Prog), s.runsAt r g (encU 0x78 g da.val 0 t.val 0 0 0 0) []
   p = true → (p.tally t.val).st = 0 → surfBad false (p.dreg da.val) = false → smRing r.val = false → s.rasOwner (bits
   (fld (p.dreg da.val) 3) 43 41) ≠ some (r.val / 8) → completes (.rdraw r g da t false) s (fun u => u.ras = s.ras ∧
   u.pool = s.pool ∧ (u.prog r.val).map (fun q => (q.pc, (q.tally t.val).st, (q.tally t.val).status)) = some (p.pc + 1,
   2, 0))) ∧
  (∀ (s : State) (r : Fin 132) (g : Guard) (da : Fin 16) (a : Fin 32) (p : Prog), s.runsAt r g (encU 0x7A g da.val 0 0
   a.val 0 0 0) [] p = true → commitBad (p.dreg da.val) = false → commitXform (p.dreg da.val) = true → smRing r.val =
   false → s.leases.proof = some (r.val / 8) → completes (.rcommit r g da a false) s (fun u => u.dsp.hand.length =
   s.dsp.hand.length + 1 ∧ (u.dsp.hand.getLast?).map (fun c => (c.ring, c.f, c.new)) = some (r.val, p.dreg da.val,
   false) ∧ (u.prog r.val).map (fun q => (q.pc, q.stall)) = some (p.pc, .commit a.val) ∧ u.regs = s.regs)) ∧
  (∀ (s : State) (r : Fin 132) (g : Guard) (da : Fin 16) (a : Fin 32) (p : Prog), s.runsAt r g (encU 0x7A g da.val 0 0
   a.val 0 0 0) [] p = true → commitBad (p.dreg da.val) = false → s.leases.proof ≠ some (r.val / 8) → completes
   (.rcommit r g da a false) s (fun u => u.dsp = s.dsp ∧ (u.prog r.val) = some ((p.setS a.val 0).next 1))) ∧
  (∀ (s : State) (r : Fin 132) (g : Guard) (da : Fin 16) (a : Fin 32) (p : Prog), s.runsAt r g (encU 0x7A g da.val 0 0
   a.val 0 0 0) [] p = true → commitBad (p.dreg da.val) = true → exec (.rcommit r g da a false) s = .next (endAt r.val
   0x50 0 p s)) ∧
  (∀ (s : State) (v : W32), s.hasPress = true → s.thrInUse (s.get F.RAS_THR_SEL_ARRAY) = false → completes
   (.rasThrDataWrite v) s (fun u => Tab.get thrReset u.ras.thr (s.get F.RAS_THR_SEL_ARRAY * 16384 + s.get
   F.RAS_THR_SEL_CELL) = v.toNat % 2 ^ 24 ∧ u.get F.RAS_THR_SEL_CELL = (s.get F.RAS_THR_SEL_CELL + 1) % 16384 ∧
   u.ras.queue = s.ras.queue)) ∧
  (∀ (s : State) (v : W32), s.hasPress = true → s.thrInUse (s.get F.RAS_THR_SEL_ARRAY) = true → exec (.rasThrDataWrite v) s
   = .next (s.put F.RAS_THR_STATUS_BUSY_ERR 1)) ∧
  (∀ (s : State) (n : Fin 8) (v : W32), s.hasPress = true → 3 ≤ n.val → v.toNat % 256 < 16 ∨ v.toNat % 256 = 255 →
   (s.rasQueue n.val).all (·.started) = true → completes (.rasCtxOwnerWrite n v) s (fun u => u.get
   (F.RAS_CTX_OWNER_OWNER n.val) = v.toNat % 256 ∧ u.rasQueue n.val = s.rasQueue n.val)) ∧
  (∀ (s : State) (n : Fin 8) (v : W32), n.val < 3 → exec (.rasCtxOwnerWrite n v) s = .next s) ∧
  (∀ (s : State) (n : Nat) (j : RasJob), s.ras.cur = some n → s.rasQueue n = [j] → completes .tileBufferUe s (fun u =>
   (u.rasQueue n).map (·.retiles) = [j.retiles + 1] ∧ u.get F.RAS_RETILES_COUNT = min (F.RAS_RETILES_COUNT.size - 1)
   (s.get F.RAS_RETILES_COUNT + 1) ∧ u.pool = s.pool)) ∧
  (∀ (s : State), s.ras.cur = none → exec .tileBufferUe s = .next s) ∧
  (∀ (s : State) (r : Fin 132) (c : Commit) (p : Prog) (a : Nat), s.dsp.hand = [c] → c.ring = r.val → c.new = false →
   commitXform c.f = false → s.leases.proof = some c.part → s.dsp.frame = none → s.prog r.val = some p → p.stall =
   .commit a → completes (.commitHandshake r) s (fun u => u.dsp.frame = some c ∧ u.dsp.hand = [] ∧ u.dsp.xform = none ∧
   u.prog r.val = some ((p.setS a (BitVec.ofNat 64 (nextFrame (s.get F.DSP_FRAME_SEQ_SEQ)))).next 1))) ∧
  (∀ (s : State) (r : Fin 132), s.dsp.hand = [] → exec (.commitHandshake r) s = .next s) ∧
  (∀ (s : State) (c : Commit), s.dsp.blankEnd = false → s.dspState = 2 → s.dsp.frame = some c → s.dsp.shown = none → c.new
   = false → s.dsp.xform = none → completes .vblankLatch s (fun u => u.dsp.shown.map (fun d => (d.ring, d.f, d.new)) =
   some (c.ring, c.f, false) ∧ u.dsp.frame = none ∧ u.dsp.cur = xformOf c.f ∧ u.get F.DSP_FRAME_SEQ_SEQ = nextFrame
   (s.get F.DSP_FRAME_SEQ_SEQ) ∧ u.prs = s.prs)) ∧
  (∀ (s : State), s.dsp.blankEnd = false → s.dspState = 2 → s.dsp.frame = none → s.dsp.shown = none → completes
   .vblankLatch s (fun u => u.get F.DSP_FRAME_SEQ_SEQ = nextFrame (s.get F.DSP_FRAME_SEQ_SEQ) ∧ u.get F.DSP_REPROJ_COUNT
   = min (F.DSP_REPROJ_COUNT.size - 1) (s.get F.DSP_REPROJ_COUNT + 1) ∧ u.dsp.lastPix = List.replicate (s.get
   F.DSP_H_ACTIVE * s.get F.DSP_V_ACTIVE) 0 ∧ u.dsp.shown = none)) ∧
  (∀ (s : State), s.dspState ≠ 2 → s.dsp.blankEnd = false → exec .vblankLatch s = .next s) ∧
  (∀ (s : State) (v : W32), s.hasPress = true → s.on F.DSP_CTL_EN = false → s.jobRuns 4 = false → (dspCtlFields v
   s).dspModeBad = false → completes (.dspEnable v) s (fun u => u.on F.DSP_CTL_EN = true ∧ u.get F.DSP_CTL_RATE =
   v.toNat % 4 ∧ u.dsp = s.dsp ∧ u.pool = s.pool)) ∧
  (∀ (s : State) (v : W32), s.hasPress = true → s.on F.DSP_CTL_EN = false → s.jobRuns 4 = false → (dspCtlFields v
   s).dspModeBad = true → exec (.dspEnable v) s = .next ((dspCtlFields v s).put F.DSP_STATUS_MODE_ERR 1)) ∧
  (∀ (s : State) (v : W32), s.hasPress = false ∨ s.on F.DSP_CTL_EN = true ∨ s.jobRuns 4 = true → exec (.dspEnable v) s =
   .next s) ∧
  (∀ (s : State), s.hasPress = true → s.on F.DSP_CTL_EN = true → s.dsp.shown = none → s.dsp.frame = none → completes
   .dspDisable s (fun u => u.dspState = 0 ∧ u.on F.DSP_STATUS_ADMITTED = false ∧ u.on F.DSP_STATUS_TRAINED = false ∧
   u.get F.DSP_FRAME_SEQ_SEQ = s.get F.DSP_FRAME_SEQ_SEQ)) ∧
  (∀ (s : State), s.on F.DSP_CTL_EN = true → s.dsp.hpd = true → completes (.dpLinkTrained true) s (fun u => u.on
   F.DSP_STATUS_TRAINED = true ∧ u.on F.DSP_STATUS_ADMITTED = false ∧ u.dsp.failed = false) ∧ completes (.dpLinkTrained
   false) s (fun u => u.on F.DSP_STATUS_TRAINED = false ∧ u.on F.DSP_STATUS_ADMITTED = false ∧ u.dsp.failed = true)) ∧
  (∀ (s : State) (ok : Bool) (id : BitVec 40) (rep : Bool), s.on F.DSP_CTL_EN = true → s.on F.DSP_STATUS_TRAINED = true →
   completes (.hdcpAuthentication ok id rep) s (fun u => u.on F.DSP_STATUS_ADMITTED = (ok && s.rxAllowed id.toNat &&
   !rep) ∧ u.dsp.failed = !(ok && s.rxAllowed id.toNat && !rep) ∧ u.on F.DSP_STATUS_TRAINED = true)) ∧
  (∀ (s : State) (v : W32) (reply : Option (List Byte)), s.hasPress = true → bit v.toNat 28 = false → 0x68000 ≤ bits
   v.toNat 19 0 → bits v.toNat 19 0 ≤ 0x69FFF → completes (.dspAuxGo v reply) s (fun u => u.on F.DSP_AUX_CMD_AUX_ERR =
   true ∧ u.dsp = s.dsp)) ∧
  (∀ (s : State) (v : W32), s.hasPress = true → bit v.toNat 28 = true → completes (.dspAuxGo v none) s (fun u => u.on
   F.DSP_AUX_CMD_AUX_ERR = true ∧ u.dsp.aux.length = s.dsp.aux.length + 1 ∧ u.get F.DSP_AUX_CMD_ADDRESS = bits v.toNat
   19 0)) ∧
  (∀ (s : State), s.hasPress = true → completes .hpdUnplug s (fun u => u.dsp.hpd = false ∧ u.on F.DSP_STATUS_TRAINED =
   false ∧ u.on F.DSP_STATUS_ADMITTED = false ∧ u.dspState ≠ 2)) ∧
  (∀ (s : State) (ok : Bool), s.hasPress = true → s.dsp.hpd = true → completes (.irqHpd ok) s (fun u => u.on
   F.DSP_STATUS_ADMITTED = false ∧ u.on F.DSP_STATUS_TRAINED = (ok && s.on F.DSP_STATUS_TRAINED) ∧ u.dsp = s.dsp)) ∧
  (∀ (s : State), s.hasPress = true → s.dsp.hpd = false → completes .hpdPlug s (fun u => u.dsp =
   { s.dsp with hpd := true, failed := false } ∧ u.prs = s.prs)) ∧
  (∀ (s : State), completes .dspRetryTimer s (fun u => u.dsp.failed = (s.dsp.failed && !s.dsp.hpd) ∧ u.regs = s.regs))

/-- For a program of the press lease holder that stands at the instruction: TLOAD loads a good record and completes its
tally, TSET replaces SETPOINT, TCTL stops, runs or holds a slot and refuses to energise with the interlock open, TCAP
takes one capture and queues the next. A conversion's end stores its code; four failed checks in a row set ADC_FAULT; a
tach edge measures its period; a sample instant that has come asks for a sample; a strobed slot computes and its output
waits for its time; a storage error stops and unloads the slot; outputs stay at zero while the engine does not run; a
limit held for 1 ms and a lost zero cross halt the engine. -/
def Obligations.TansyCommands : Prop :=
  (∀ (s u : State) (r : Fin 132) (g : Guard) (da t : Fin 16) (a : Fin 32) (p : Prog) (x : AccRes) (n : Nat), s.runsAt r g
   (encU 0x88 g da.val 0 t.val a.val 0 0 0) [] p = true → (p.tally t.val).st = 0 → n = (p.sreg a.val).toNat → n < 16 →
   bits (fld (p.dreg da.val) 0) 51 0 % 64 = 0 → onlyBits (p.dreg da.val) [mask 63 0] = true → smRing r.val = false →
   s.leases.press = some (r.val / 8) → ringRead r.val (bits (fld (p.dreg da.val) 0) 63 52) (bits (fld (p.dreg da.val) 0)
   51 0) 320 s = (x, u) → x.held = false → x.bad = none → slotRecBad n x.data (slotRecOf x.data) u = false → (s.slot
   n).st = 0 → completes (.tload r g da t a false) s (fun v => (v.slot n).rec_ = slotRecOf x.data ∧ (v.slot n).loaded =
   true ∧ (v.slot n).st = 0 ∧ (v.prog r.val).map (fun q => (q.pc, (q.tally t.val).st, (q.tally t.val).status)) = some
   (p.pc + 1, 2, 0) ∧ v.press = s.press)) ∧
  (∀ (s : State) (r : Fin 132) (g : Guard) (a b : Fin 32) (p : Prog) (n : Nat), s.runsAt r g (encU 0x89 g 0 0 0 a.val b.val
   0 0) [] p = true → n = (p.sreg a.val).toNat → n < 16 → smRing r.val = false → s.leases.press = some (r.val / 8) →
   completes (.tset r g a b false) s (fun u => u.slot n =
   { s.slot n with rec_ := { (s.slot n).rec_ with setpoint := toSigned 32 ((p.sreg b.val).toNat % 2 ^ 32) } } ∧ (u.prog
   r.val).map (·.pc) = some (p.pc + 1) ∧ u.regs = s.regs)) ∧
  (∀ (s : State) (r : Fin 132) (g : Guard) (a b : Fin 32) (p : Prog), s.runsAt r g (encU 0x89 g 0 0 0 a.val b.val 0 0) [] p
   = true → 16 ≤ (p.sreg a.val).toNat → exec (.tset r g a b false) s = .next (endAt r.val 0x50 0 p s)) ∧
  (∀ (s : State) (r : Fin 132) (g : Guard) (a b : Fin 32) (p : Prog) (n : Nat), s.runsAt r g (encU 0x8A g 0 0 0 a.val b.val
   0 0) [] p = true → n = (p.sreg a.val).toNat → n < 16 → p.sreg b.val = 1 → smRing r.val = false → s.leases.press =
   some (r.val / 8) → (s.slot n).loaded = true → (s.slot n).st = 0 → s.pressIn.ilk = true → completes (.tctl r g a b
   false) s (fun u => (u.slot n).st = 1 ∧ (u.slot n).rec_ = (s.slot n).rec_ ∧ (u.slot n).q = 0 ∧ (u.slot n).nextAt =
   some ((s.slot n).rec_.instantAfter s.now) ∧ (u.prog r.val).map (·.pc) = some (p.pc + 1))) ∧
  (∀ (s : State) (r : Fin 132) (g : Guard) (a b : Fin 32) (p : Prog) (n : Nat), s.runsAt r g (encU 0x8A g 0 0 0 a.val b.val
   0 0) [] p = true → n = (p.sreg a.val).toNat → n < 16 → p.sreg b.val = 0 → smRing r.val = false → s.leases.press =
   some (r.val / 8) → exec (.tctl r g a b false) s = .next ((stopSlot n s).setProg r.val (p.next 1))) ∧
  (∀ (s : State) (r : Fin 132) (g : Guard) (a b : Fin 32) (p : Prog) (n : Nat), s.runsAt r g (encU 0x8A g 0 0 0 a.val b.val
   0 0) [] p = true → n = (p.sreg a.val).toNat → n < 16 → p.sreg b.val = 1 → smRing r.val = false → s.leases.press =
   some (r.val / 8) → (s.slot n).loaded = true → s.pressIn.ilk = false → s.slotEnergises n = true → exec (.tctl r g a b
   false) s = .next (endAt r.val 0x10 2 p s)) ∧
  (∀ (s : State) (r : Fin 132) (g : Guard) (da t : Fin 16) (p : Prog), s.runsAt r g (encU 0x8B g da.val 0 t.val 0 0 0 0) []
   p = true → (p.tally t.val).st = 0 → smRing r.val = false → s.leases.press = some (r.val / 8) → tcapBad (p.dreg
   da.val) s = false → s.pressIn.ilk = true → completes (.tcap r g da t false) s (fun u => (s.tns.cap = none →
   u.tns.cap.map (fun c => (c.ring, c.t, c.f)) = some (r.val, t.val, p.dreg da.val)) ∧ (s.tns.cap.isSome = true →
   u.tns.cap = s.tns.cap ∧ u.tns.capWait.length = s.tns.capWait.length + 1) ∧ (u.prog r.val).map (fun q => (q.pc,
   (q.tally t.val).st)) = some (p.pc + 1, 1) ∧ u.pool = s.pool)) ∧
  (∀ (s : State) (m : Fin 2) (v : BitVec 12) (ch n : Nat), s.hasPress = true → s.conv m.val =
   { Conv.init with cur := some (ch, some n) } → n < 16 → ch < 27 → completes (.adcConversionDone m v) s (fun u => u.get
   (F.TNS_ADC_CODE ch) = v.toNat ∧ u.on (F.TNS_ADC_VALID ch) = true ∧ (u.slot n).raw = v.toNat ∧ (u.slot n).strobe =
   true ∧ (u.slot n).waiting = false ∧ u.press = s.press)) ∧
  (∀ (s : State) (m : Fin 2) (half vss : BitVec 12), s.hasPress = true → half.toNat < 2032 ∨ 2064 < half.toNat ∨ 16 <
   vss.toNat → (s.conv m.val).fails = 3 → completes (.adcCheck m half vss) s (fun u => bit (u.get
   F.TNS_STATUS_ADC_FAULT) m.val = true ∧ (u.conv m.val).fails = 4 ∧ u.press = s.press)) ∧
  (∀ (s : State) (m : Fin 2) (half vss : BitVec 12), s.hasPress = true → 2032 ≤ half.toNat → half.toNat ≤ 2064 → vss.toNat
   ≤ 16 → (s.conv m.val).clearing = false → completes (.adcCheck m half vss) s (fun u => u.conv m.val =
   { s.conv m.val with fails := 0, passes := 0 } ∧ u.regs = s.regs)) ∧
  (∀ (s : State) (k : Fin 9), s.hasPress = true → completes (.tachEdge k) s (fun u => (u.tns.tach.find? (fun e => e.1 ==
   k.val)).map (fun e => (e.2.last, e.2.period)) = some (s.ticks, (s.tns.tach.find? (fun e => e.1 == k.val)).map (fun e
   => s.ticks - e.2.last)) ∧ u.regs = s.regs)) ∧
  (∀ (s : State) (n : Fin 16), (s.slot n.val).nextAt = none ∨ (s.slot n.val).st = 0 ∨ (s.slot n.val).nextAt.any (fun a =>
   s.now < a) = true → exec (.sampleInstant n) s = .next s) ∧
  (∀ (s : State) (n : Fin 16) (a : Nat), (s.slot n.val).nextAt = some a → (s.slot n.val).st ≠ 0 → a ≤ s.now → completes
   (.sampleInstant n) s (fun u => (u.slot n.val).nextAt = some ((s.slot n.val).rec_.instantAfter s.now) ∧ (u.slot
   n.val).rec_ = (s.slot n.val).rec_ ∧ (u.slot n.val).q = (s.slot n.val).q)) ∧
  (∀ (s : State) (n : Fin 16), (s.slot n.val).st = 0 ∨ (s.slot n.val).strobe = false → exec (.slotStrobe n) s = .next s) ∧
  (∀ (s : State) (n : Fin 16), (s.slot n.val).st = 1 → (s.slot n.val).strobe = true → s.tns.cap = none → completes
   (.slotStrobe n) s (fun u => (u.slot n.val).strobe = false ∧ (u.slot n.val).x = ((s.slot n.val).sample (s.slotRaw
   n.val) none).x ∧ (u.slot n.val).e = ((s.slot n.val).sample (s.slotRaw n.val) none).e ∧ (u.slot n.val).q = (s.slot
   n.val).q ∧ (s.slotRuns n.val = true → (u.slot n.val).u = ((s.slot n.val).sample (s.slotRaw n.val) none).u ∧ (u.slot
   n.val).pend.map (·.1) = some ((s.slot n.val).sample (s.slotRaw n.val) none).q))) ∧
  (∀ (s : State) (n : Fin 16) (late : Bool) (q : Int) (due : Nat), (s.slot n.val).pend = some (q, due) → due ≤ (if bit
   (s.slot n.val).rec_.flags 0 then s.ticks else s.now) → completes (.outputApply n late) s (fun u => u.slot n.val =
   { s.slot n.val with q := q, pend := none } ∧ u.get (F.TNS_SLOT_COUNTS_LATE n.val) = (if late then min
   ((F.TNS_SLOT_COUNTS_LATE n.val).size - 1) (s.get (F.TNS_SLOT_COUNTS_LATE n.val) + 1) else s.get
   (F.TNS_SLOT_COUNTS_LATE n.val)))) ∧
  (∀ (s : State) (n : Fin 16) (late : Bool), (s.slot n.val).pend = none → exec (.outputApply n late) s = .next s) ∧
  (∀ (s : State) (n : Fin 16), s.hasPress = true → completes (.slotStorageUe n) s (fun u => (u.slot n.val).loaded = false ∧
   (u.slot n.val).st = 0 ∧ u.eng = s.eng)) ∧
  (∀ (s : State) (k : Fin 9), s.hasPress = true → s.engRuns = false ∨ s.prs.aonSafe = true → completes (.pwmPeriod k) s
   (fun u => Tab.get 0 u.press.pwm k.val = 0 ∧ u.regs = s.regs ∧ u.prs = s.prs)) ∧
  (∀ (s : State) (k : Fin 4), completes (.hvrefPwmPeriod k) s (fun u => Tab.get 0 u.press.hvDuty k.val = (if s.engHot &&
   s.pressIn.ilk && !s.prs.aonSafe then min (s.code (s.get (F.PRS_HV_SLOT k.val))) (s.get (F.PRS_HV_MAX k.val)) * 4000 /
   4096 else 0) ∧ u.regs = s.regs ∧ u.prs = s.prs)) ∧
  (∀ (s : State) (k : Fin 4) (n : Nat), s.engRuns = true → s.tns.hvRun = [(k.val, n)] → n + 400000 ≤ s.ticks → completes
   (.hvLimit k) s (fun u => u.eng = engHalted ∧ u.get F.PRS_STATUS_HALT_CAUSE = 6 ∧ u.press.hvDuty = [])) ∧
  (∀ (s : State) (k : Fin 4), s.tns.hvRun = [] → exec (.hvLimit k) s = .next s) ∧
  (∀ (s : State), s.hasPress = true → completes .zcdEdge s (fun u => u.prs.lastZcd = some s.ticks ∧ (s.gating = false →
   u.press = s.press) ∧ u.regs = s.regs)) ∧
  (∀ (s : State) (k : Fin 2) (n : Nat), s.prs.gateEnd = [(k.val, n)] → n ≤ s.ticks → completes (.fuserGateEnd k) s (fun u
   => u.press.fusGate.contains k.val = false ∧ u.prs.gateEnd = [] ∧ u.regs = s.regs)) ∧
  (∀ (s : State) (k : Fin 2), s.prs.gateEnd = [] → exec (.fuserGateEnd k) s = .next s) ∧
  (∀ (s : State) (n : Nat), s.prs.lastZcd = some n → s.gating = true → n + 10000000 ≤ s.ticks → completes .zcdLost s (fun u
   => u.eng = engHalted ∧ u.get F.PRS_STATUS_HALT_CAUSE = 5 ∧ u.press.fusGate = [])) ∧
  (∀ (s : State), s.gating = false → exec .zcdLost s = .next s)

/-- An edge on the other input or of the other sense changes nothing; an active edge held short or outside the window
only counts in DRY_STRAY_BD; an accepted edge counts a scan, records the period, closes the window and turns beam REF
off, and ends hunting when PERIOD is not 0; an edge too early loses lock. While a page draws, the edge begins its next
scan. Imaging starts at an accepted edge for the page whose sheet has covered its station for the page's delay. The
window opens with beam REF driven while the laser is enabled; a window that closes without an edge counts a missed scan,
hunts and loses lock. An end-of-scan edge is recorded when EOS_EN is set. Late line data counts; a hash that differs at
the last line of a streaming page counts. A capture keeps TARGET, GAIN and TOL of its window; the update moves the DAC
by the floor of err times GAIN over 256, within 0 to 4095, and keeps the runs inside and outside TOL. A write to
Drypoint configuration acts with the engine off, in STANDBY or halted, and otherwise sets CFG_ERR and writes nothing;
the EN bit of DRY_APC holds with it while its other fields take. -/
def Obligations.DrypointScansAndPower : Prop :=
  (∀ (s : State) (k : Fin 2) (rising held : Bool) (n : Nat), s.get F.DRY_CFG_BD_SEL ≠ k.val ∨ rising = s.on
   F.DRY_CFG_BD_POL → exec (.bdEdge k rising held n) s = .next s) ∧
  (∀ (s : State) (k : Fin 2) (rising held : Bool) (n : Nat), s.hasPress = true → s.get F.DRY_CFG_BD_SEL = k.val → rising =
   !s.on F.DRY_CFG_BD_POL → held = false ∨ s.dry.window = false → exec (.bdEdge k rising held n) s = .next (s.bump
   F.DRY_STRAY_BD_COUNT 1)) ∧
  (∀ (s : State) (k : Fin 2) (rising : Bool) (n : Nat), s.hasPress = true → s.get F.DRY_CFG_BD_SEL = k.val → rising = !s.on
   F.DRY_CFG_BD_POL → s.dry.window = true → s.dry.line = false → s.drawing = none → completes (.bdEdge k rising true n)
   s (fun t => t.get F.DRY_SCANS_COUNT = min (2 ^ 32 - 1) (s.get F.DRY_SCANS_COUNT + 1) ∧ t.get F.DRY_STATUS_LAST_PERIOD
   = (if s.dry.edge then min n 0xFFFFF else s.get F.DRY_STATUS_LAST_PERIOD) ∧ t.on F.DRY_STATUS_HUNTING = decide (s.get
   F.DRY_SCAN_PERIOD = 0) ∧ t.dry.edge = true ∧ t.dry.edgeAt = some s.ticks ∧ t.dry.window = decide (s.get
   F.DRY_SCAN_PERIOD = 0) ∧ t.dry.refOn = false ∧ t.get F.DRY_STRAY_BD_COUNT = s.get F.DRY_STRAY_BD_COUNT)) ∧
  (∀ (s : State) (k : Fin 2) (rising : Bool) (n : Nat), s.hasPress = true → s.get F.DRY_CFG_BD_SEL = k.val → rising = !s.on
   F.DRY_CFG_BD_POL → s.dry.window = true → s.dry.line = false → s.drawing = none → completes (.bdEdge k rising true n)
   s (fun t => t.dry.good = (if s.dry.edge = true ∧ n + s.get F.DRY_SCAN_TOL < s.get F.DRY_SCAN_PERIOD then 0 else if
   s.on F.DRY_STATUS_HUNTING then 0 else min 64 (s.dry.good + 1)) ∧ ((s.dry.edge = true ∧ n + s.get F.DRY_SCAN_TOL <
   s.get F.DRY_SCAN_PERIOD) → t.on F.DRY_STATUS_LOCK = false))) ∧
  (∀ (s : State) (k : Fin 2) (rising : Bool) (n : Nat), s.hasPress = true → s.get F.DRY_CFG_BD_SEL = k.val → rising = !s.on
   F.DRY_CFG_BD_POL → s.dry.window = true → s.dry.line = false → s.drawing.isSome = true → s.get F.DRY_SCAN_PERIOD ≤ n +
   s.get F.DRY_SCAN_TOL → completes (.bdEdge k rising true n) s (fun t => t.dry.scan = s.dry.scan + 1 ∧ t.dry.last =
   s.dry.last ∧ t.dry.first = s.dry.first)) ∧
  (∀ (s : State), s.dry.edgeAt = none → exec .imagingStart s = .next s) ∧
  (∀ (s : State) (e c : Nat) (h : Sheet) (q : SheetPage) (p : Page), s.dry.edgeAt = some e → s.on F.DRY_STATUS_HUNTING =
   false → s.press.laserEn = true → h.pages = [q] → s.prs.sheets = [h] → h.gone = false → q.imaging = 0 → q.blank =
   false → q.outcome = none → h.arrived = [(s.get F.PRS_IMG_FRONT_STN, c)] → c + s.get F.PRS_IMG_FRONT_DELAY * microsec
   ≤ e → s.pageOf q.page = some p → completes .imagingStart s (fun t => (t.dry.first, t.dry.last) = s.scanRange p ∧
   (t.prs.sheets.flatMap (·.pages)).all (fun y => y.imaging != 0 || y.outcome.isSome) = true)) ∧
  (∀ (s : State), s.hasPress = true → s.dry.edge = true → s.on F.DRY_STATUS_HUNTING = false → s.dry.line = false → exec
   .bdWindowOpen s = .next
   { s with dry := { s.dry with window := true, refOn := s.press.laserEn }, press := { s.press with beamsLit := s.press.beamsLit || s.press.laserEn } }) ∧
  (∀ (s : State), s.hasPress = true → s.dry.window = true → s.on F.DRY_STATUS_HUNTING = false → s.dry.line = false →
   completes .bdWindowClose s (fun t => t.get F.DRY_MISSED_COUNT = min (2 ^ 32 - 1) (s.get F.DRY_MISSED_COUNT + 1) ∧
   t.on F.DRY_STATUS_HUNTING = true ∧ t.on F.DRY_STATUS_LOCK = false ∧ t.dry.good = 0 ∧ t.dry.window = true)) ∧
  (∀ (s : State) (n : Nat), s.hasPress = true → s.on F.DRY_CFG_EOS_EN = true → s.dry.edge = true → exec (.eosEdge n) s =
   .next (s.put F.DRY_EOS_EOS (min n 0xFFFFF))) ∧
  (∀ (s : State), completes .lateLineData s (fun t => t.get F.DRY_LATE_LINES_COUNT = (if s.drawing.isSome then min (2 ^ 32
   - 1) (s.get F.DRY_LATE_LINES_COUNT + 1) else s.get F.DRY_LATE_LINES_COUNT))) ∧
  (∀ (s : State) (i : Nat) (q : SheetPage) (p : Page), s.drawing = some (i, q, p) → s.dry.last ≤ s.dry.scan → s.dry.takenTo
   = p.h → p.stream.isSome = true → sha384 s.dry.taken ≠ p.hash → completes .plateHashMismatch s (fun t => t.get
   F.PRS_HASH_MISMATCH_COUNT = min (2 ^ 32 - 1) (s.get F.PRS_HASH_MISMATCH_COUNT + 1))) ∧
  (∀ (s : State) (b : Fin 8), s.hasPress = true → s.press.laserEn = true → s.on (F.DRY_APC_EN b.val) = true → b.val <
   s.beams → s.get (F.DRY_BEAM_APC_LEN b.val) ≠ 0 → s.on F.DRY_STATUS_HUNTING = false → s.dry.line = false → completes
   (.apcCapture b) s (fun t => t.dry.sample.find? (fun e => e.1 == b.val) = some (b.val,
   { target := s.apcTarget b.val, gain := s.get (F.DRY_APC_GAIN b.val), tol := s.get (F.DRY_APC_TOL b.val), code := none })
   ∧ t.regs = s.regs)) ∧
  (∀ (s : State) (b : Fin 8), s.press.laserEn = false ∨ s.on (F.DRY_APC_EN b.val) = false ∨ s.get (F.DRY_BEAM_APC_LEN
   b.val) = 0 ∨ s.on F.DRY_STATUS_HUNTING = true → exec (.apcCapture b) s = .next s) ∧
  (∀ (s : State) (b : Fin 8) (x : ApcSample) (c : Nat), s.dry.sample.find? (fun e => e.1 == b.val) = some (b.val, x) →
   x.code = some c → completes (.apcUpdate b) s (fun t => t.get (F.DRY_APC_DAC b.val) = (clampInt 0 4095 ((s.get
   (F.DRY_APC_DAC b.val) : Int) + Int.fdiv (((x.target : Int) - c) * x.gain) 256)).toNat ∧ Tab.get 0 t.dry.inTol b.val =
   (if ((x.target : Int) - c).natAbs ≤ x.tol then min 16 (Tab.get 0 s.dry.inTol b.val + 1) else 0) ∧ Tab.get 0
   t.dry.outTol b.val = (if ((x.target : Int) - c).natAbs ≤ x.tol then 0 else min 16 (Tab.get 0 s.dry.outTol b.val +
   1)))) ∧
  (∀ (s : State) (b : Fin 8) (x : ApcSample) (c : Nat), s.dry.sample.find? (fun e => e.1 == b.val) = some (b.val, x) →
   x.code = some c → x.tol < ((x.target : Int) - c).natAbs → 15 ≤ Tab.get 0 s.dry.outTol b.val → s.on (F.DRY_APC_EN
   b.val) = true → completes (.apcUpdate b) s (fun t => t.on F.DRY_STATUS_LOCK = false)) ∧
  (∀ (s : State) (o : BitVec 12) (v : W64), s.hasPress = true → isReg (R.DRY_CFG + o.toNat) = true → dryCfgOffset o.toNat =
   true → s.prsCfgOpen = false → o.toNat < 0x180 ∨ 0x1C0 ≤ o.toNat → exec (.dryConfigWrite o v) s = .next (s.put
   F.DRY_STATUS_CFG_ERR 1)) ∧
  (∀ (s : State) (o : BitVec 12) (v : W64), s.hasPress = true → isReg (R.DRY_CFG + o.toNat) = true → dryCfgOffset o.toNat =
   true → s.prsCfgOpen = true → o.toNat ≠ 4 → o.toNat ≠ 8 → exec (.dryConfigWrite o v) s = .next (s.writeReg (R.DRY_CFG
   + o.toNat) v.toNat)) ∧
  (∀ (s : State) (b : Fin 8) (v : W64), s.hasPress = true → s.prsCfgOpen = false → (s.writeReg (R.DRY_CFG + (0x180 + 8 *
   b.val)) v.toNat).on (F.DRY_APC_EN b.val) ≠ s.on (F.DRY_APC_EN b.val) → completes (.dryConfigWrite (BitVec.ofNat 12
   (0x180 + 8 * b.val)) v) s (fun t => t.on (F.DRY_APC_EN b.val) = s.on (F.DRY_APC_EN b.val) ∧ t.on F.DRY_STATUS_CFG_ERR
   = true ∧ t.get (F.DRY_APC_TARGET b.val) = (s.writeReg (R.DRY_CFG + (0x180 + 8 * b.val)) v.toNat).get
   (F.DRY_APC_TARGET b.val)))

/-- LOG_RECORD_APPEND writes the next record with both read-backs good under the next SEQ; CHECKPOINT_SIGNED hands
CKPT_R and CKPT_S to the log; TOMBSTONE_FINAL takes the last page's outcome into the tombstone; DRAIN_COPY sends the
record at TAIL to its slot in host memory and advances TAIL, or sets DMA_FAULT; a HEAD between HEAD and TAIL is taken
and any other only sets DRAIN_ERR; enabling the drain starts HEAD and TAIL at LOG_RETIRED; a violation aggregate clears
the second's increases and hands a record to the log; the start of the log on a new chain begins at SEQ 0 and hands it
the START record. -/
def Obligations.AuditLog : Prop :=
  (∀ (s : State) (k : Nat) (x : LogRec) (ceA ceB : Byte), s.logRuns = true → s.logNext = some k → s.log.waiting[k]? = some
   x → s.log.failA = false → s.log.failB = false → x.cont = .none → x.resv = none → completes (.logRecordAppend true
   true ceA ceB) s (fun t => t.log.records.length = s.log.records.length + 1 ∧ (t.log.records.getLast?).map (·.1) = some
   s.log.nextSeq ∧ t.log.nextSeq = wrap32 (s.log.nextSeq + 1) ∧ t.pool.cells = s.pool.cells)) ∧
  (∀ (s : State) (c : Ckpt) (k : Keys), s.log.ckpt = some c → s.trust.keys = some k → s.log.halted = false → s.log.waiting
   = [] → completes .checkpointSigned s (fun t => t.log.waiting.map (fun r => r.type) = [3, 4] ∧ t.freeCtr = s.freeCtr +
   1)) ∧
  (∀ (s : State) (x : SheetPage) (o : Nat), s.prs.final = some x → x.outcome = some o → s.trust.haltTear = false →
   s.leases.press = none → completes .tombstoneFinal s (fun t => t.prs.final = none ∧ t.tombState = 2)) ∧
  (∀ (s : State), s.log.recordsDue = true → s.log.lastEvent = none → completes .logRecords s (fun t => t.log.recordsDue =
   false ∧ t.log.lastEvent = some s.ticks)) ∧
  (∀ (s : State) (x : Nat × List Byte) (ceA ceB : Byte), s.drainDue = true → s.log.records.find? (fun e => e.1 == s.get
   F.LOG_DRAIN_TAIL_TAIL) = some x → s.pwr.pcieUp = true → completes (.drainCopy true true true ceA ceB) s (fun t =>
   t.get F.LOG_DRAIN_TAIL_TAIL = (s.get F.LOG_DRAIN_TAIL_TAIL + 1) % 2 ^ 32 ∧ t.hostOut.contains (.dma (s.get
   F.LOG_DRAIN_BASE_ADDR * 4096 + s.get F.LOG_DRAIN_TAIL_TAIL % 2 ^ s.get F.LOG_DRAIN_CFG_LOG2SIZE * 128) x.2
   (s.trust.grant.map (·.1))) = true ∧ t.log.records = s.log.records)) ∧
  (∀ (s : State) (x : Nat × List Byte) (ceA ceB : Byte), s.drainDue = true → s.log.records.find? (fun e => e.1 == s.get
   F.LOG_DRAIN_TAIL_TAIL) = some x → completes (.drainCopy true true false ceA ceB) s (fun t => t.on
   F.LOG_DRAIN_STATUS_DMA_FAULT = true ∧ t.get F.LOG_DRAIN_TAIL_TAIL = s.get F.LOG_DRAIN_TAIL_TAIL ∧ t.hostOut =
   s.hostOut)) ∧
  (∀ (s : State) (v : W32), s.on F.LOG_DRAIN_CFG_EN = false → sub32 v.toNat (s.get F.LOG_DRAIN_HEAD_HEAD) ≤ sub32 (s.get
   F.LOG_DRAIN_TAIL_TAIL) (s.get F.LOG_DRAIN_HEAD_HEAD) → completes (.logDrainHeadWrite v) s (fun t => t.get
   F.LOG_DRAIN_HEAD_HEAD = v.toNat ∧ t.log = s.log)) ∧
  (∀ (s : State) (v : W32), s.on F.LOG_DRAIN_CFG_EN = true → sub32 v.toNat (s.get F.LOG_DRAIN_HEAD_HEAD) ≤ sub32 (s.get
   F.LOG_DRAIN_TAIL_TAIL) (s.get F.LOG_DRAIN_HEAD_HEAD) → sub32 v.toNat s.log.retired ≤ sub32 s.log.nextSeq
   s.log.retired → completes (.logDrainHeadWrite v) s (fun t => t.get F.LOG_DRAIN_HEAD_HEAD = v.toNat ∧ t.log.retired =
   v.toNat ∧ t.log.records = s.log.records.drop (sub32 v.toNat s.log.retired))) ∧
  (∀ (s : State) (v : W32), sub32 (s.get F.LOG_DRAIN_TAIL_TAIL) (s.get F.LOG_DRAIN_HEAD_HEAD) < sub32 v.toNat (s.get
   F.LOG_DRAIN_HEAD_HEAD) → completes (.logDrainHeadWrite v) s (fun t => t.on F.LOG_DRAIN_STATUS_DRAIN_ERR = true ∧
   t.get F.LOG_DRAIN_HEAD_HEAD = s.get F.LOG_DRAIN_HEAD_HEAD ∧ t.log = s.log)) ∧
  (∀ (s : State) (size : BitVec 5), s.on F.LOG_DRAIN_CFG_EN = false → s.log.retired < 2 ^ 32 → completes (.drainEnable
   size) s (fun t => t.on F.LOG_DRAIN_CFG_EN = true ∧ t.get F.LOG_DRAIN_HEAD_HEAD = s.log.retired ∧ t.get
   F.LOG_DRAIN_TAIL_TAIL = s.log.retired ∧ t.log = s.log)) ∧
  (∀ (s : State), completes .drainDisable s (fun t => t.on F.LOG_DRAIN_CFG_EN = false ∧ t.get F.LOG_DRAIN_CFG_LOG2SIZE =
   s.get F.LOG_DRAIN_CFG_LOG2SIZE ∧ t.get F.LOG_DRAIN_HEAD_HEAD = s.get F.LOG_DRAIN_HEAD_HEAD ∧ t.log = s.log)) ∧
  (∀ (s : State), (List.range 16).any (fun p => (s.vio p).inc != 0) = true → s.log.started = true → s.log.halted = false →
   s.logAccepts .ordinary = true → completes .violationAggregate s (fun t => (t.log.waiting.getLast?).map (fun r =>
   r.type) = some 0x20 ∧ t.log.carry = [] ∧ (List.range 16).all (fun p => (t.vio p).inc == 0) = true)) ∧
  (∀ (s : State), s.log.started = false → s.trust.running.isSome = true → 3 ≤ s.get F.CKR_START_STAGE_STAGE → s.log.chain =
   [] → s.log.halted = false → s.log.resv = [] → s.tombState = 0 → completes (.logStartRecords true true true true) s
   (fun t => t.log.started = true ∧ t.log.nextSeq = 0 ∧ t.log.records = [] ∧ (t.log.waiting.getLast?).map (fun r =>
   r.type) = some 1))

/-- A 32-bit or 64-bit write that reaches a register has the effect of that width, one from an ungranted stream or to a
window that is not live has none, and one that loses to the SM in the same cycle is only counted; the lower half of a
64-bit register is held until the upper half comes; a read gives its value to the host and a 32-bit read of a lower half
captures the upper one; REG_READ and REG_WRITE of a steward session do the same and answer OK. -/
def Obligations.RegisterAccess : Prop :=
  (∀ (s : State) (stream : Option Byte) (off : BitVec 24) (v : W64) (e : RegEnv), s.granted stream = true → off.toNat % 4 =
   0 → exec (.registerWrite (.pf0 stream) off false v e false) s = .next (write32 off.toNat (v.toNat % 2 ^ 32) e s)) ∧
  (∀ (s : State) (stream : Option Byte) (off : BitVec 24) (v : W64) (e : RegEnv), s.granted stream = true → off.toNat % 8 =
   0 → exec (.registerWrite (.pf0 stream) off true v e false) s = .next (write64 off.toNat v.toNat e s)) ∧
  (∀ (s : State) (stream : Option Byte) (off : BitVec 24) (wide : Bool) (v : W64) (e : RegEnv) (lost : Bool), s.granted
   stream = false → transportBlock off.toNat = false → exec (.registerWrite (.pf0 stream) off wide v e lost) s = .next s) ∧
  (∀ (s : State) (n : Fin 16) (off : BitVec 24) (v : W64) (e : RegEnv) (lost : Bool), s.window n = true → off.toNat % 4 = 0
   → off.toNat < 0x10000 → exec (.registerWrite (.window n) off false v e lost) s = .next (write32 (winKey n off.toNat)
   (v.toNat % 2 ^ 32) e s)) ∧
  (∀ (s : State) (n : Fin 16) (off : BitVec 24) (wide : Bool) (v : W64) (e : RegEnv) (lost : Bool), s.window n = false →
   off.toNat < 0x10000 → exec (.registerWrite (.window n) off wide v e lost) s = .next s) ∧
  (∀ (s : State) (stream : Option Byte) (off : BitVec 24) (v : W64) (e : RegEnv), s.granted stream = true → off.toNat % 4 =
   0 → completes (.registerWrite (.pf0 stream) off false v e true) s (fun t => t.get F.SMB_SUPERSEDED_COUNT = min
   (F.SMB_SUPERSEDED_COUNT.size - 1) (s.get F.SMB_SUPERSEDED_COUNT + 1) ∧ ∀ k, k ≠ R.SMB_SUPERSEDED → t.reg k = s.reg k)) ∧
  (∀ (s : State) (stream : Option Byte) (off : BitVec 24) (v : W64) (e : RegEnv), s.granted stream = true → off.toNat % 4 =
   0 → regWidth off.toNat = 64 → completes (.registerWrite (.pf0 stream) off false v e false) s (fun t => t.regs =
   s.regs ∧ Tab.get 0 t.heldLow off.toNat = v.toNat % 2 ^ 32)) ∧
  (∀ (s : State) (stream : Option Byte) (off : BitVec 24), s.granted stream = true → off.toNat % 4 = 0 → regWidth off.toNat
   = 64 → off.toNat ≠ R.TOPO_SRL_FRAC → completes (.lowerHalfRead (.pf0 stream) off false) s (fun t => t.hostOut =
   s.hostOut ++ [.data (s.readReg off.toNat % 2 ^ 32)] ∧ Tab.get 0 t.cap off.toNat = s.readReg off.toNat / 2 ^ 32 ∧
   t.regs = s.regs)) ∧
  (∀ (s : State) (n : Fin 16) (off : BitVec 24) (wide : Bool), s.window n = false → off.toNat < 0x10000 → exec
   (.lowerHalfRead (.window n) off wide) s = .next (s.host (.data 0))) ∧
  (∀ (s : State) (x : Session) (tag off : W32), s.trust.running.isSome = true → s.session x.id = some x → x.steward = true
   → s.byMailbox (some x.id) = false → off.toNat % 4 = 0 → off.toNat < 0x1000000 → completes (.regRead ⟨some x.id, tag⟩
   off 4) s (fun t => (t.trust.out.getLast?).map (·.2) = some (.steward
   { sess := some x.id, cmd := 0x60, status := 0, tag := tag.toNat, detail := 0, results := leBytes 4 (read32 off.toNat s).1 })
   ∧ t.regs = s.regs)) ∧
  (∀ (s : State) (x : Session) (tag off : W32) (v : W64) (e : RegEnv), s.trust.running.isSome = true → s.session x.id =
   some x → x.steward = true → s.byMailbox (some x.id) = false → s.trust.halted = false → off.toNat % 4 = 0 → off.toNat
   < 0x1000000 → regWidth off.toNat = 64 → completes (.regWrite ⟨some x.id, tag⟩ off 4 v e none) s (fun t =>
   (t.trust.out.getLast?).map (·.2) = some (.steward
   { sess := some x.id, cmd := 0x61, status := 0, tag := tag.toNat, detail := 0, results := [] }) ∧ Tab.get 0 t.heldLow
   off.toNat = v.toNat % 2 ^ 32))

/-- On a link that is not ACTIVE a flit, a NAK, a window and the losses change nothing. A flit whose CRC fails counts in
FLITS_RX and CRC_FAIL; an error window with more than ERR_THR failures takes the link down, and otherwise the next
window begins at zero. A NAK counts a replay. A completed fast retrain is ACTIVE again, owes a NAK and starts its window
anew; 2 ms without completion is cause 4 of DOWN_CAUSE; the loss of the partner is cause 3, and the error window's limit
in the same cycle cause 0 beside it; each counts in DOWNS and ends SECURE. A link that is DOWN with AUTO set is reset
when its hold-off ends. LRST resets the link of a group, and so does clearing EN, which reads 0 after it. A window sent
is 64 positions. -/
def Obligations.LinkFlitsAndFailures : Prop :=
  (∀ (s : State) (k : Fin 6) (b : List Byte) (ok : Bool) (fec : List (Fin 6 × Byte × Byte)) (st : BitVec 26) (tn : BitVec
   40), b.length = 256 → s.linkUp k.val = false → exec (.flitReceive k b ok fec st tn) s = .next s) ∧
  (∀ (s : State) (k : Fin 6) (b : List Byte) (st : BitVec 26) (tn : BitVec 40), b.length = 256 → s.linkUp k.val = true →
   (s.link k.val).errFails + 1 ≤ s.get (F.FP_THR_ERR_THR k.val) → (s.link k.val).errPos + 1 < 2 ^ s.get
   (F.FP_THR_ERR_WIN k.val) → (s.link k.val).rxWin.length < 63 → completes (.flitReceive k b false [] st tn) s (fun t =>
   t.get (F.FP_FLITS_RX_COUNT k.val) = (s.bump (F.FP_FLITS_RX_COUNT k.val) 1).get (F.FP_FLITS_RX_COUNT k.val) ∧ t.get
   (F.FP_CRC_FAIL_COUNT k.val) = (s.bump (F.FP_CRC_FAIL_COUNT k.val) 1).get (F.FP_CRC_FAIL_COUNT k.val) ∧ (t.link
   k.val).errFails = (s.link k.val).errFails + 1 ∧ (t.link k.val).errPos = (s.link k.val).errPos + 1 ∧ (t.link
   k.val).rxWin = (s.link k.val).rxWin ++ [⟨flitOf b, false⟩] ∧ t.linkUp k.val = true)) ∧
  (∀ (s : State) (k : Fin 6) (a : Option (BitVec 12)), s.linkUp k.val = false → exec (.nakReceive k a) s = .next s) ∧
  (∀ (s : State) (k : Fin 6), s.linkUp k.val = true → (s.link k.val).unacked ≠ [] → (s.link k.val).resends + 1 < s.get
   (F.FP_THR_REPLAY_THR k.val) → completes (.nakReceive k none) s (fun t => t.get (F.FP_REPLAYS_COUNT k.val) = (s.bump
   (F.FP_REPLAYS_COUNT k.val) 1).get (F.FP_REPLAYS_COUNT k.val) ∧ (t.link k.val).resend = (s.link k.val).unacked ∧
   (t.link k.val).resends = (s.link k.val).resends + 1)) ∧
  (∀ (s : State) (k : Fin 6), s.linkState k.val = 6 → s.leadOf k.val = some k.val → completes (.fastRetrainDone k) s (fun t
   => t.linkUp k.val = true ∧ t.link k.val =
   { s.link k.val with retrained := some s.ticks, nakDue := true, nakSent := true, rxWin := [] })) ∧
  (∀ (s : State) (k : Fin 6), s.linkState k.val = 6 → s.leadOf k.val = some k.val → completes (.fastRetrainTimeout k) s
   (fun t => t.linkState k.val = 7 ∧ bit (t.get (F.FP_DOWN_CAUSE_CAUSE k.val)) 4 = true ∧ t.secure k.val = false ∧ t.get
   (F.FP_DOWNS_COUNT k.val) = (s.bump (F.FP_DOWNS_COUNT k.val) 1).get (F.FP_DOWNS_COUNT k.val))) ∧
  (∀ (s : State) (k : Fin 6), s.linkState k.val ≠ 6 → exec (.fastRetrainDone k) s = .next s ∧ exec (.fastRetrainTimeout k)
   s = .next s) ∧
  (∀ (s : State) (k : Fin 6) (n : Nat), s.linkUp k.val = true → (s.link k.val).errFails + n ≤ s.get (F.FP_THR_ERR_THR
   k.val) → completes (.errorWindowEnd k n) s (fun t => (t.link k.val).errFails = 0 ∧ (t.link k.val).errPos = 0 ∧
   t.linkUp k.val = true)) ∧
  (∀ (s : State) (k : Fin 6) (n : Nat), s.linkUp k.val = true → s.leadOf k.val = some k.val → n + (s.link k.val).errPos ≤ 2
   ^ s.get (F.FP_THR_ERR_WIN k.val) → s.get (F.FP_THR_ERR_THR k.val) < (s.link k.val).errFails + n → completes
   (.errorWindowEnd k n) s (fun t => t.linkState k.val = 7 ∧ bit (t.get (F.FP_DOWN_CAUSE_CAUSE k.val)) 0 = true ∧
   t.secure k.val = false)) ∧
  (∀ (s : State) (k : Fin 6) (e : Bool), s.linkUp k.val = true → s.leadOf k.val = some k.val → completes (.partnerLoss k e)
   s (fun t => t.linkState k.val = 7 ∧ bit (t.get (F.FP_DOWN_CAUSE_CAUSE k.val)) 3 = true ∧ (e = true → bit (t.get
   (F.FP_DOWN_CAUSE_CAUSE k.val)) 0 = true) ∧ t.secure k.val = false ∧ t.get (F.FP_DOWNS_COUNT k.val) = (s.bump
   (F.FP_DOWNS_COUNT k.val) 1).get (F.FP_DOWNS_COUNT k.val))) ∧
  (∀ (s : State) (k : Fin 6) (e : Bool) (n : Nat), s.linkUp k.val = false → exec (.partnerLoss k e) s = .next s ∧ exec
   (.errorWindowEnd k n) s = .next s ∧ exec (.lcfSend k) s = .next s) ∧
  (∀ (s : State) (k : Fin 6), s.linkState k.val = 7 → s.on (F.FP_CTL_AUTO k.val) = true → s.leadOf k.val = some k.val →
   completes (.holdoffExpiry k) s (fun t => t.linkState k.val = 0 ∧ (t.link k.val).unacked = [])) ∧
  (∀ (s : State) (k : Fin 6), s.linkState k.val ≠ 7 ∨ s.on (F.FP_CTL_AUTO k.val) = false → exec (.holdoffExpiry k) s =
   .next s) ∧
  (∀ (s : State) (n k : Fin 6), s.leadOf n.val = some k.val → s.leadOf k.val = some k.val → s.linkNo n.val = s.linkNo k.val
   → s.linkState k.val ≠ 5 → s.linkState k.val ≠ 6 → completes (.lrst n) s (fun t => t.linkState n.val = 0 ∧ t.linkState
   k.val = 0 ∧ t.secure k.val = false)) ∧
  (∀ (s : State) (n : Fin 6), s.leadOf n.val = none → exec (.lrst n) s = .next s) ∧
  (∀ (s : State) (n : Fin 6), s.on (F.FP_CTL_EN n.val) = true → completes (.groupEnClear n) s (fun t => t.on (F.FP_CTL_EN
   n.val) = false)) ∧
  (∀ (s : State) (n : Fin 6), s.on (F.FP_CTL_EN n.val) = false → exec (.groupEnClear n) s = .next s) ∧
  (∀ (s : State) (k : Fin 6), s.linkUp k.val = true → completes (.lcfSend k) s (fun t => t.fab.flits.length =
   s.fab.flits.length + 64 ∧ (t.link k.val).txWins = (s.link k.val).txWins + 1 ∧ (t.link k.val).nakDue = false))

/-- Detection in RESET or DETECT leads every group of the link to EQUALIZE with the lanes that showed signal;
equalization done leads to the lane test, and the lane test to CONFIG with the good lanes. A training message that does
not agree, names another rate, fewer than two VCs, or leaves no group enough lanes takes the link DOWN with cause 8; one
that agrees makes the link ACTIVE, not SECURE, with the lower of the two VC counts and the number of groups in use. Keys
are installed on an ACTIVE link whose peer is admitted while Campion is not in DUPLICATE, and turn encryption on with
the next window; an update of a SECURE link keeps the keys in force and holds the new ones. In other states each command
changes nothing. -/
def Obligations.LinkTrainingAndKeys : Prop :=
  (∀ (s : State) (k : Fin 6) (sig : List (BitVec 9)), s.leadOf k.val = some k.val → s.linkState k.val ≤ 1 → completes
   (.linkDetect k sig) s (fun t => t.linkState k.val = 2 ∧ Tab.get 0 (t.link k.val).own k.val = (sig.getD k.val 0).toNat
   ∧ (t.link k.val).bufw = (s.reg (R.FP_BUFW k.val)).toNat)) ∧
  (∀ (s : State) (k : Fin 6) (sig : List (BitVec 9)), s.leadOf k.val ≠ some k.val ∨ 2 ≤ s.linkState k.val → exec
   (.linkDetect k sig) s = .next s) ∧
  (∀ (s : State) (k : Fin 6), s.leadOf k.val = some k.val → s.linkState k.val = 2 → completes (.equalizationDone k) s (fun
   t => t.linkState k.val = 3)) ∧
  (∀ (s : State) (k : Fin 6) (good : List (BitVec 9)), s.leadOf k.val = some k.val → s.linkState k.val = 3 → completes
   (.laneTestDone k good) s (fun t => t.linkState k.val = 4 ∧ Tab.get 0 (t.link k.val).own k.val = Tab.get 0 (s.link
   k.val).own k.val &&& (good.getD k.val 0).toNat)) ∧
  (∀ (s : State) (k : Fin 6) (good : List (BitVec 9)) (m : TrainMsg), s.linkState k.val ≠ 2 → s.linkState k.val ≠ 3 →
   s.linkState k.val ≠ 4 → exec (.equalizationDone k) s = .next s ∧ exec (.laneTestDone k good) s = .next s ∧ exec
   (.trainConfig k m) s = .next s) ∧
  (∀ (s : State) (k : Fin 6) (m : TrainMsg), s.leadOf k.val = some k.val → s.linkState k.val = 4 → m.agree = false ∨ m.rate
   ≠ bit (s.ctlApplied k.val) 20 ∨ m.vcs < 2 ∨ s.trainGroups k.val m = [] → completes (.trainConfig k m) s (fun t =>
   t.linkState k.val = 7 ∧ bit (t.get (F.FP_DOWN_CAUSE_CAUSE k.val)) 8 = true)) ∧
  (∀ (s : State) (k : Fin 6) (m : TrainMsg), s.leadOf k.val = some k.val → s.linkState k.val = 4 → m.agree = true → m.rate
   = bit (s.ctlApplied k.val) 20 → 2 ≤ m.vcs → m.vcs ≤ 8 → s.trainGroups k.val m ≠ [] → completes (.trainConfig k m) s
   (fun t => t.linkUp k.val = true ∧ t.get (F.FP_STATUS_VCS_NEG k.val) = min (bits (s.ctlApplied k.val) 19 16) m.vcs ∧
   t.get (F.FP_STATUS_GROUPS k.val) = (s.trainGroups k.val m).length ∧ t.secure k.val = s.secure k.val)) ∧
  (∀ (s : State) (k : Fin 6) (x : List Byte), s.linkUp k.val = true → s.campState ≠ campDuplicate → s.linkAdmitted k.val =
   true → exec (.linkKeysInstalled k x) s = .next (s.setLink k.val
   { s.link k.val with txKey := some (linkKey x (decide (s.uid < s.nbrUid k.val))), rxKey := some (linkKey x (!decide (s.uid < s.nbrUid k.val))), encNext := true })) ∧
  (∀ (s : State) (k : Fin 6) (x : List Byte), s.linkUp k.val = false ∨ s.campState = campDuplicate ∨ s.linkAdmitted k.val =
   false → exec (.linkKeysInstalled k x) s = .next s) ∧
  (∀ (s : State) (k : Fin 6) (x : List Byte), s.secure k.val = true → exec (.keyUpdate k x) s = .next (s.setLink k.val
   { s.link k.val with txNew := some (linkKey x (decide (s.uid < s.nbrUid k.val))), rxNew := some (linkKey x (!decide (s.uid < s.nbrUid k.val))) })) ∧
  (∀ (s : State) (k : Fin 6) (x : List Byte), s.secure k.val = false → exec (.keyUpdate k x) s = .next s)

/-- For a well-formed packet that arrives for this node on a SECURE link with its credit: RD answers with the bytes read
through the partition's translation, or with the status of a poisoned or unavailable line; WR and WRP write and answer;
a request that crosses 256 bytes is answered 0x50 and does nothing else; an ATOM with an undefined operation, size or
alignment is answered 0x50, one in the memo is answered again and counts a hit, and none is served in the window after
start-up; a request that meets memory that is not ready waits, and so does a read while the clock of the crossbar is
stopped; a doorbell, an invoke and an invalidation do what those operations do, an ill-formed invoke being answered
0x50; a response no request holds changes only credit. On reception a packet of a link that is not up changes nothing,
one of a VC the link has not counts as malformed, one of an unattested peer as unattested, one beyond its credit as an
overrun, and one for another node leaves by the torus or counts as unroutable. -/
def Obligations.PacketsForTheNode : Prop :=
  (∀ (s u : State) (k : Fin 6) (p : Packet) (x : AccRes), s.takesPacket k.val p = true → p.opc = 0 → p.crosses256 = false →
   readVA (fabSrc k.val p .request (takeCredit k.val p s)) p.cid p.va (64 * p.lines) (takeCredit k.val p s) = (x, u) →
   x.held = false → exec (.rd k p) s = .next (giveCredit k.val p (if x.fabStatus = 0 then replyData k.val p x.data u
   else reply k.val p x.fabStatus u))) ∧
  (∀ (s u : State) (k : Fin 6) (p : Packet) (x : AccRes), s.takesPacket k.val p = true → p.opc = 1 → p.crosses256 = false →
   inAperture p.va = false → writeVA (fabSrc k.val p .request (takeCredit k.val p s)) p.cid p.va (slice 0 p.data 0 (64 *
   p.lines)) (takeCredit k.val p s) = (x, u) → x.held = false → exec (.wr k p) s = .next (giveCredit k.val p (reply
   k.val p x.fabStatus u))) ∧
  (∀ (s u : State) (k : Fin 6) (p : Packet) (x : AccRes), s.takesPacket k.val p = true → p.opc = 2 → p.crosses256 = false →
   inAperture p.va = false → writeMasked (fabSrc k.val p .request (takeCredit k.val p s)) p.cid p.va (ofLeBytes (slice 0
   p.data 0 8)) (slice 0 p.data 16 64) (takeCredit k.val p s) = (x, u) → x.held = false → exec (.wrp k p) s = .next
   (giveCredit k.val p (reply k.val p x.fabStatus u))) ∧
  (∀ (s : State) (k : Fin 6) (p : Packet), s.takesPacket k.val p = true → p.crosses256 = true → (p.opc = 0 → exec (.rd k p)
   s = .next (giveCredit k.val p (reply k.val p 0x50 (takeCredit k.val p s)))) ∧ (p.opc = 1 → exec (.wr k p) s = .next
   (giveCredit k.val p (reply k.val p 0x50 (takeCredit k.val p s)))) ∧ (p.opc = 2 → exec (.wrp k p) s = .next
   (giveCredit k.val p (reply k.val p 0x50 (takeCredit k.val p s))))) ∧
  (∀ (s : State) (k : Fin 6) (p : Packet), s.takesPacket k.val p = true → p.opc = 0 → p.crosses256 = false → (readVA
   (fabSrc k.val p .request (takeCredit k.val p s)) p.cid p.va (64 * p.lines) (takeCredit k.val p s)).1.held = true →
   exec (.rd k p) s = .next
   { takeCredit k.val p s with fab := { (takeCredit k.val p s).fab with waiting := [(k.val, p)] } }) ∧
  (∀ (s : State) (k : Fin 6) (p : Packet), s.takesOn k.val p = true → s.secure k.val = true → s.addrUsed = true → p.dst =
   s.ownAddr → s.xbarStopped = true → p.opc = 0 → exec (.rd k p) s = .next
   { takeCredit k.val p s with fab := { (takeCredit k.val p s).fab with waiting := [(k.val, p)] } }) ∧
  (∀ (s : State) (k : Fin 6) (p : Packet), s.takesPacket k.val p = true → p.opc = 3 → s.pwr.atomWindow = false → 7 < p.byte
   0 ∨ 1 < p.byte 1 ∨ bits p.w1 51 0 % (if p.byte 1 = 0 then 4 else 8) ≠ 0 → exec (.atom k p) s = .next (giveCredit
   k.val p (reply k.val p 0x50 (takeCredit k.val p s)))) ∧
  (∀ (s : State) (k : Fin 6) (p : Packet), s.takesPacket k.val p = true → p.opc = 3 → s.pwr.atomWindow = true → exec (.atom
   k p) s = .next (s.credited k.val p)) ∧
  (∀ (s : State) (k : Fin 6) (p : Packet) (e : MemoEntry), s.takesPacket k.val p = true → p.opc = 3 → s.pwr.atomWindow =
   false → p.byte 0 ≤ 7 → p.byte 1 ≤ 1 → bits p.w1 51 0 % (if p.byte 1 = 0 then 4 else 8) = 0 → s.fab.memo.find? (fun m
   => m.src == p.src && m.uid == ofLeBytes (slice 0 p.data 24 8)) = some e → exec (.atom k p) s = .next (giveCredit
   k.val p (atomReply k.val p e.status e.old ((takeCredit k.val p s).bump F.FP_MEMO_STAT_HITS 1)))) ∧
  (∀ (s u : State) (k : Fin 6) (p : Packet) (x : AccRes), s.takesPacket k.val p = true → p.opc = 3 → s.pwr.atomWindow =
   false → p.byte 0 ≤ 7 → p.byte 1 ≤ 1 → bits p.w1 51 0 % (if p.byte 1 = 0 then 4 else 8) = 0 → s.fab.memo = [] →
   atomicVA (fabSrc k.val p .request (takeCredit k.val p s)) p.cid (bits p.w1 51 0) (p.byte 0) (p.byte 1) (ofLeBytes
   (slice 0 p.data 8 8)) (ofLeBytes (slice 0 p.data 16 8)) (takeCredit k.val p s) = (x, u) → x.held = false → u.fab.memo
   = [] → completes (.atom k p) s (fun t => t.fab.memo = [⟨p.src, ofLeBytes (slice 0 p.data 24 8), x.fabStatus, slice 0
   x.data 0 8, u.ticks⟩])) ∧
  (∀ (s u : State) (k : Fin 6) (p : Packet), s.takesPacket k.val p = true → p.opc = 1 ∨ p.opc = 2 → p.crosses256 = false →
   inAperture p.va = true → fabricDoorbell k.val p (takeCredit k.val p s) = some u → exec (.fabricDoorbell k p) s =
   .next (giveCredit k.val p u)) ∧
  (∀ (s : State) (k : Fin 6) (p : Packet), s.takesPacket k.val p = true → p.opc = 6 → invokeBad p = true → exec (.invoke k
   p) s = .next (giveCredit k.val p (sendResult ⟨k.val, p⟩ 0x50 0 (takeCredit k.val p s)))) ∧
  (∀ (s u : State) (k : Fin 6) (p : Packet), s.takesPacket k.val p = true → p.opc = 6 → invokeBad p = false → serveInvoke
   k.val p (takeCredit k.val p s) = some u → exec (.invoke k p) s = .next (giveCredit k.val p u)) ∧
  (∀ (s : State) (k : Fin 6) (p : Packet) (d : InvDesc), s.takesPacket k.val p = true → p.opc = 9 → d =
   { w0 := ofLeBytes (slice 0 p.data 0 8), w1 := ofLeBytes (slice 0 p.data 8 8), w2 := ofLeBytes (slice 0 p.data 16 8), w3 := ofLeBytes (slice 0 p.data 24 8) }
   → exec (.inv k p) s = .next (giveCredit k.val p (acceptInvalidation (.fab k.val p.src (bits d.w3 31 0)) (.fab k.val
   p.src true) ((roleVcs .inval (s.vcs k.val)).contains p.vc && s.admitted (d.cid / 4096) k.val) d (takeCredit k.val p
   s)))) ∧
  (∀ (s : State) (k : Fin 6) (p : Packet), s.takesPacket k.val p = true → p.opc = 4 ∨ p.opc = 5 → s.fab.reqs.find? (fun q
   => q.tag == p.w1 % 4096) = none → exec (.rspData k p) s = .next (s.credited k.val p)) ∧
  (∀ (s u : State) (k : Fin 6) (p : Packet) (q : NodeReq) (x : DmaTask) (r t : Nat), s.takesPacket k.val p = true → p.opc =
   4 ∨ p.opc = 5 → s.fab.reqs.find? (fun y => y.tag == p.w1 % 4096) = some q → q.owner = .dma r t → s.rings.dma.find?
   (fun y => y.ring == r && y.t == t) = some x → dmaResponse x (bits p.w1 19 12) p.data (dropReq q.tag (takeCredit k.val
   p s)) = some u → exec (.rspData k p) s = .next (giveCredit k.val p u)) ∧
  (∀ (s : State) (k : Fin 6) (p : Packet), s.takesOn k.val p = true → p.opc ≠ 8 → s.secure k.val = true → s.addrUsed = true
   → p.dst ≠ s.ownAddr → exec (.forwardPacket k p) s = .next ((if s.torus then s.torusHop (some k.val) p else none).elim
   ((s.credited k.val p).bump (F.FP_UNROUTABLE_COUNT k.val) 1) (fun x => (s.credited k.val p).send x.1 x.2))) ∧
  (∀ (s : State) (k : Fin 6) (p : Packet), s.fab.waiting = [] → p.wf = true → s.linkUp k.val = false → (p.opc = 0 → exec
   (.rd k p) s = .next s) ∧ (p.opc = 6 → exec (.invoke k p) s = .next s)) ∧
  (∀ (s : State) (k : Fin 6) (p : Packet), s.fab.waiting = [] → p.wf = true → p.opc = 0 → s.linkUp k.val = true → s.vcs
   k.val ≤ p.vc → exec (.rd k p) s = .next (s.bump (F.FP_MALFORMED_COUNT k.val) 1)) ∧
  (∀ (s : State) (k : Fin 6) (p : Packet), s.fab.waiting = [] → p.wf = true → p.opc = 0 → s.linkUp k.val = true → p.vc <
   s.vcs k.val → s.secure k.val = false → p.vc ≠ s.mgmtVc k.val → completes (.rd k p) s (fun t => t.get
   (F.FP_UNATT_DROP_COUNT k.val) = (s.bump (F.FP_UNATT_DROP_COUNT k.val) 1).get (F.FP_UNATT_DROP_COUNT k.val) ∧ t.fabOut
   = s.fabOut ∧ t.pool.cells = s.pool.cells)) ∧
  (∀ (s : State) (k : Fin 6) (p : Packet), s.fab.waiting = [] → p.wf = true → p.opc = 0 → s.linkUp k.val = true → s.secure
   k.val = true → p.vc < s.vcs k.val → (s.link k.val).creditLeft p.vc p.dl < 1 + p.len → exec (.rd k p) s = .next
   (s.bump (F.FP_CREDIT_OVERRUN_COUNT k.val) 1)) ∧
  (∀ (s : State) (k : Fin 6) (p : Packet), s.fab.waiting = [] → p.wf = true → p.opc = 0 → s.linkUp k.val = true → s.secure
   k.val = true → p.vc < s.vcs k.val → 1 + p.len ≤ (s.link k.val).creditLeft p.vc p.dl → s.packetOk k.val p = false →
   exec (.rd k p) s = .next ((s.credited k.val p).bump (F.FP_MALFORMED_COUNT k.val) 1))

/-- For a well-formed message that arrives with its credit: HELLO records the neighbour's UID, label, role, PRIORITY and
INCARNATION and excludes the link when its MODE or LABEL does not match; a CLAIM that is better than the best becomes
the best with one more hop and its link as parent, one that is not leaves the best as it is, and one with the node's own
UID and a newer INCARNATION makes the node send a DUP. REPORT and REPORT_DONE of a link that is no child, and an ASSIGN
that does not come from the parent, count as stray; of a child, a REPORT is held and a REPORT_DONE's count recorded; the
parent's ASSIGN for the node gives its address, sizes, TOPO_GEN and coordinator and leads to ASSIGNED. BEACON changes no
register. A DUP for the node's own UID leads to DUPLICATE with no best claim; one for another UID bars it. A SYNC_REQ is
answered with TRACEABLE as the servo stands; a SYNC_RSP that no open request awaits changes nothing. -/
def Obligations.CampionMessages : Prop :=
  (∀ (s : State) (k : Fin 6) (p : Packet), s.takesMessage k.val 0 1 p = true → completes (.hello k p) s (fun t => t.nbrUid
   k.val = ofLeBytes (slice 0 p.data 8 8) ∧ t.get (F.TOPO_NBR_INFO_V k.val) = 1 ∧ t.get (F.TOPO_NBR_INFO_LABEL k.val) =
   p.byte 4 ∧ t.get (F.TOPO_NBR_INFO_ROLE k.val) = p.byte 2 ∧ t.get (F.TOPO_NBR_INFO_PRIORITY k.val) = p.byte 3 ∧ t.get
   (F.TOPO_NBR_INC_INC k.val) = ofLeBytes (slice 0 p.data 16 4) ∧ t.excluded k.val = ((s.nbr k.val).excl || ((p.byte 5 /
   64 == 1) == s.torus || (s.torus && p.byte 4 != (s.labelOf k.val ^^^ 1)))))) ∧
  (∀ (s : State) (k : Fin 6) (p : Packet) (c : Claim), s.takesMessage k.val 0 2 p = true → s.excluded k.val = false →
   s.secure k.val = true → c = ⟨p.byte 1, p.byte 2, ofLeBytes (slice 0 p.data 4 4), ofLeBytes (slice 0 p.data 8 8),
   ofLeBytes (slice 0 p.data 16 4), ofLeBytes (slice 0 p.data 20 4), ofLeBytes (slice 0 p.data 24 8)⟩ →
   s.fab.campion.barred.contains c.uid = false → s.fab.campion.dead.contains (c.uid, c.inc) = false → s.campState ≠
   campDuplicate → c.uid ≠ s.uid → (s.best.any (fun b => c.uid == b.uid && c.inc == b.inc && c.nonce != b.nonce)) =
   false → s.betterClaim k.val c = true → completes (.claim k p) s (fun t => t.fab.campion.best = some ⟨c.prio, c.uid,
   c.inc, c.nonce, c.gen, c.hops + 1, some k.val⟩ ∧ t.fab.campion.quiet = true ∧ (t.nbr k.val).claim = some c)) ∧
  (∀ (s : State) (k : Fin 6) (p : Packet) (c : Claim), s.takesMessage k.val 0 2 p = true → s.excluded k.val = false →
   s.secure k.val = true → c = ⟨p.byte 1, p.byte 2, ofLeBytes (slice 0 p.data 4 4), ofLeBytes (slice 0 p.data 8 8),
   ofLeBytes (slice 0 p.data 16 4), ofLeBytes (slice 0 p.data 20 4), ofLeBytes (slice 0 p.data 24 8)⟩ →
   s.fab.campion.barred.contains c.uid = true ∨ s.betterClaim k.val c = false → completes (.claim k p) s (fun t =>
   t.fab.campion.best = s.fab.campion.best ∧ (t.nbr k.val).claim = some c ∧ t.campState = s.campState)) ∧
  (∀ (s : State) (k : Fin 6) (p : Packet), s.takesMessage k.val 0 2 p = true → s.excluded k.val = false → s.secure k.val =
   true → s.fab.campion.barred.contains s.uid = false → s.fab.campion.dead = [] → s.campState ≠ campDuplicate →
   ofLeBytes (slice 0 p.data 8 8) = s.uid → newer (ofLeBytes (slice 0 p.data 4 4)) s.incarnation = true → completes
   (.claim k p) s (fun t => t.fab.campion.dups.contains s.uid = true ∧ t.fab.campion.best = s.fab.campion.best)) ∧
  (∀ (s : State) (k : Fin 6) (p q a : Packet), s.takesMessage k.val 0 3 p = true → s.takesMessage k.val 0 4 q = true →
   s.takesMessage k.val 0 5 a = true → s.excluded k.val = false → s.secure k.val = true → s.isChild k.val = false →
   s.best = none → exec (.report k p) s = .next ((s.credited k.val p).bump F.TOPO_STATUS_STRAY 1) ∧ exec (.reportDone k
   q) s = .next ((s.credited k.val q).bump F.TOPO_STATUS_STRAY 1) ∧ exec (.assign k a) s = .next ((s.credited k.val
   a).bump F.TOPO_STATUS_STRAY 1)) ∧
  (∀ (s : State) (k : Fin 6) (p : Packet), s.takesMessage k.val 0 3 p = true → s.excluded k.val = false → s.secure k.val =
   true → s.isChild k.val = true → completes (.report k p) s (fun t => t.fab.campion.reports = s.fab.campion.reports ++
   [⟨some k.val, slice 0 p.data 0 112⟩] ∧ t.fab.campion.topGen = max s.fab.campion.topGen (repGen (slice 0 p.data 0
   112)))) ∧
  (∀ (s : State) (k : Fin 6) (p : Packet), s.takesMessage k.val 0 4 p = true → s.excluded k.val = false → s.secure k.val =
   true → s.isChild k.val = true → s.campState = campElecting → completes (.reportDone k p) s (fun t => (t.nbr
   k.val).done = some (ofLeBytes (slice 0 p.data 4 4)))) ∧
  (∀ (s : State) (k : Fin 6) (p : Packet), s.takesMessage k.val 0 5 p = true → s.excluded k.val = false → s.secure k.val =
   true → s.best.bind (·.link) = some k.val → s.campState = campReporting ∨ s.campState = campAssigned → ofLeBytes
   (slice 0 p.data 8 8) = s.uid → s.ownAddr = 0xFFFF ∨ s.ownAddr = ofLeBytes (slice 0 p.data 2 2) → completes (.assign k
   p) s (fun t => t.campState = campAssigned ∧ t.ownAddr = ofLeBytes (slice 0 p.data 2 2) ∧ t.get F.TOPO_SIZES_SX =
   ofLeBytes (slice 0 p.data 4 1) % 32 ∧ t.get F.TOPO_GEN_GEN = ofLeBytes (slice 0 p.data 24 4) ∧ t.get F.TOPO_COORD_UID
   = ofLeBytes (slice 0 p.data 16 8) ∧ t.addrUsed = true ∧ t.fab.campion.quiet = false)) ∧
  (∀ (s : State) (k : Fin 6) (p : Packet), s.takesMessage k.val 0 6 p = true → s.excluded k.val = false → s.secure k.val =
   true → completes (.beacon k p) s (fun t => t.regs = s.regs ∧ t.fab.campion.topGen = max s.fab.campion.topGen
   (ofLeBytes (slice 0 p.data 4 4)) ∧ t.fabOut.length = s.fabOut.length + s.children.length)) ∧
  (∀ (s : State) (k : Fin 6) (p : Packet), s.takesMessage k.val 0 7 p = true → s.excluded k.val = false → s.secure k.val =
   true → ofLeBytes (slice 0 p.data 8 8) = s.uid → s.campState ≠ campDuplicate → completes (.dup k p) s (fun t =>
   t.campState = campDuplicate ∧ t.fab.campion.best = none ∧ t.fab.campion.barred.contains s.uid = true)) ∧
  (∀ (s : State) (k : Fin 6) (p : Packet) (u : Nat), s.takesMessage k.val 0 7 p = true → s.excluded k.val = false →
   s.secure k.val = true → u = ofLeBytes (slice 0 p.data 8 8) → u ≠ s.uid → completes (.dup k p) s (fun t =>
   t.fab.campion.barred.contains u = true ∧ t.fab.campion.dups.contains u = true ∧ (s.best.any (fun b => b.uid == u) =
   false → t.fab.campion.best = s.fab.campion.best))) ∧
  (∀ (s : State) (k : Fin 6) (p : Packet) (d : BitVec 26) (w : BitVec 40), s.takesMessage k.val 1 1 p = true → s.excluded
   k.val = false → s.secure k.val = true → completes (.syncReq k p d w) s (fun t => t.regs = s.regs ∧
   (t.fabOut.getLast?).map (fun e => (e.1, e.2.byte 0, e.2.byte 1, ofLeBytes (slice 0 e.2.data 2 2), ofLeBytes (slice 0
   e.2.data 32 8))) = some (k.val, 2, b2n s.traceable, ofLeBytes (slice 0 p.data 2 2), (s.sorrelTime + d.toNat) / 2 ^ 24
   % 2 ^ 64))) ∧
  (∀ (s : State) (k : Fin 6) (p : Packet) (d : BitVec 26), s.takesMessage k.val 1 2 p = true → s.excluded k.val = false →
   s.secure k.val = true → (s.nbr k.val).open_ = false ∨ ofLeBytes (slice 0 p.data 2 2) ≠ (s.nbr k.val).seq → exec
   (.syncRsp k p d) s = .next (s.credited k.val p)) ∧
  (∀ (s : State) (k : Fin 6) (p : Packet) (d : BitVec 26), s.takesMessage k.val 1 2 p = true → s.excluded k.val = false →
   s.secure k.val = true → (s.nbr k.val).open_ = true → ofLeBytes (slice 0 p.data 2 2) = (s.nbr k.val).seq → s.best.bind
   (·.link) ≠ some k.val → completes (.syncRsp k p d) s (fun t => t.get (F.TOPO_SRL_DELAY_DELAY k.val) = ofSigned 32
   (((stampAt p.data 32 - stampAt p.data 16) + (((s.sorrelTime + d.toNat : Nat) : Int) - stampAt p.data 48)) / 2 /
   65536) ∧ (t.nbr k.val).open_ = false ∧ t.srl = s.srl))

/-- The quiet timer's end has an effect only while it runs, and leads a node that is no coordinator from ELECTING to
REPORTING. A coordinator in ASSIGNED sends one BEACON to each child with the next SEQ; any other node sends none. A
BEACON that stays away marks the coordinator dead and elects again. A dead mark ends for its UID alone. While the
parent's link carries packets its loss does nothing; without another neighbour of the same claim the node has no parent.
A PRIORITY write is held, and one that leaves a candidacy the node leads withdraws the claim. A tick of SYNC_INT numbers
and opens one request on each link that is up. A locked servo holds over at its integral's rate. The coordinator's
setting of the counter takes effect and counts a step; another node's sets SET_REFUSED. -/
def Obligations.CampionTimersAndSorrel : Prop :=
  (∀ (s : State), s.fab.campion.quiet = false → exec .quietExpiry s = .next s) ∧
  (∀ (s : State), s.fab.campion.quiet = true → s.campState = campElecting → s.best.isSome = true → s.leads? = false →
   completes .quietExpiry s (fun t => t.campState = campReporting ∧ t.fab.campion.quiet = false)) ∧
  (∀ (s : State), s.fab.campion.quiet = true → s.campState = campElecting → s.leads? = true → s.children = [] → s.uid < 2 ^
   64 → s.ownAddr = 0xFFFF ∨ s.ownAddr = 0 → completes .quietExpiry s (fun t => t.campState = campAssigned ∧ t.on
   F.TOPO_STATUS_COORD = true ∧ t.ownAddr = 0 ∧ t.get F.TOPO_COORD_UID = s.uid ∧ t.addrUsed = true)) ∧
  (∀ (s : State), s.campState = campAssigned → s.on F.TOPO_STATUS_COORD = true → completes .beaconTick s (fun t =>
   t.fab.campion.beaconSeq = (s.fab.campion.beaconSeq + 1) % 65536 ∧ t.fabOut.length = s.fabOut.length +
   s.children.length ∧ t.regs = s.regs)) ∧
  (∀ (s : State), s.campState ≠ campAssigned ∨ s.on F.TOPO_STATUS_COORD = false → exec .beaconTick s = .next s) ∧
  (∀ (s : State) (b : Best), s.campState = campAssigned ∨ s.campState = campReporting → s.leads? = false → s.best = some b
   → completes .beaconTimeout s (fun t => t.campState = campElecting ∧ t.fab.campion.dead.contains (b.uid, b.inc) = true
   ∧ t.fab.campion.best = s.ownClaim ∧ t.fab.campion.quiet = true)) ∧
  (∀ (s : State), s.best = none ∨ s.leads? = true ∨ (s.campState ≠ campAssigned ∧ s.campState ≠ campReporting) → exec
   .beaconTimeout s = .next s) ∧
  (∀ (s : State) (u : W64), exec (.deadMarkExpiry u) s = .next
   { s with fab := { s.fab with campion := { s.fab.campion with dead := s.fab.campion.dead.filter (fun x => x.1 != u.toNat) } } }) ∧
  (∀ (s : State) (b : Best) (l : Nat), s.best = some b → b.link = some l → s.carries l = true → s.excluded l = false → exec
   .parentLinkDown s = .next s) ∧
  (∀ (s : State) (b : Best) (l : Nat), s.best = some b → b.link = some l → s.carries l = false → s.fab.campion.nbr = [] →
   completes .parentLinkDown s (fun t => t.fab.campion.best = some { b with link := none } ∧ t.on F.TOPO_PARENT_V =
   false)) ∧
  (∀ (s : State) (b : Best) (l k : Fin 6) (c : Claim), s.best = some b → b.link = some l.val → s.carries l.val = false → k
   ≠ l → s.carries k.val = true → s.excluded k.val = false → s.isChild k.val = false → s.fab.campion.nbr = [(k.val,
   { Nbr.init with claim := some c })] → sameCandidate c b = true → s.campState = campAssigned → completes
   .parentLinkDown s (fun t => t.fab.campion.best = some { b with link := some k.val, hops := c.hops + 1 } ∧
   t.fab.campion.quiet = true ∧ t.on F.TOPO_PARENT_V = true)) ∧
  (∀ (s : State) (v : Byte), completes (.priorityWrite v) s (fun t => t.priority = v.toNat ∧ t.campState = (if v.toNat =
   0xFF ∧ s.leads? ∧ (s.campState = campElecting ∨ s.campState = campReporting) then campElecting else s.campState))) ∧
  (∀ (s : State), s.leads? = true → s.campState = campElecting ∨ s.campState = campReporting → completes (.priorityWrite
   0xFF) s (fun t => t.fab.campion.best = none ∧ t.fab.campion.quiet = true)) ∧
  (∀ (s : State) (d : BitVec 26) (k : Fin 6), s.linkUp k.val = true → s.excluded k.val = false → completes (.syncIntTick d)
   s (fun t => (t.nbr k.val).seq = ((s.nbr k.val).seq + 1) % 65536 ∧ (t.nbr k.val).open_ = true ∧ t.regs = s.regs)) ∧
  (∀ (s : State), s.srl = 2 ∨ s.srl = 3 → completes .sorrelHoldoverTimeout s (fun t => t.srl = 4 ∧ t.get
   F.TOPO_SRL_RATE_RATE = rateOf s.fab.sorrel.integ)) ∧
  (∀ (s : State), s.srl ≠ 2 → s.srl ≠ 3 → exec .sorrelHoldoverTimeout s = .next s) ∧
  (∀ (s : State) (v : W64), s.on F.TOPO_STATUS_COORD = true → s.campState = campAssigned → completes (.topoSrlSet v) s (fun
   t => t.sorrelTime = v.toNat * 2 ^ 24 ∧ t.get F.TOPO_SRL_STATUS_STEPS = (s.bump F.TOPO_SRL_STATUS_STEPS 1).get
   F.TOPO_SRL_STATUS_STEPS ∧ t.log.stepped = true)) ∧
  (∀ (s : State) (v : W64), s.on F.TOPO_STATUS_COORD = false ∨ s.campState ≠ campAssigned → exec (.topoSrlSet v) s = .next
   (s.put F.TOPO_SRL_STATUS_SET_REFUSED 1))

/-- In a steward session, with the log open and accepting: PART_FORM of a VOID partition makes it FORMING and PART_SEAL
of a FORMING one with a granule makes it SEALED; PART_RESET answers after the partition reset; PART_TEAR makes it
DRAINING and its granules RELEASING; GRAN_ASSIGN gives a run of FREE granules to the partition, GRAN_RELEASE begins the
release of a run it owns, all of it or nothing. REGION_CREATE makes an absent region LOADING, REGION_ADD gives it FREE
granules, REGION_LOAD of a bad range or without data is refused, REGION_PUBLISH and REGION_READERS set its readers,
REGION_WITHDRAW begins the withdrawal. LEASE names a SEALED holder or none. Each answers MALFORMED with reason 6 for an
argument out of range and 2 for the wrong state, and changes nothing else. -/
def Obligations.StewardPartitionsAndRegions : Prop :=
  (∀ (s : State) (q : StewReq) (p : Fin 16), s.asks q 0x10 = true → s.logsNow = true → s.on F.GLB_STRAP_TEST_MODE = false →
   s.trust.trngFail = false → s.lc p.val = 0 → s.tst.pads = none → completes (.partForm q (BitVec.ofNat 8 p.val)) s (fun
   t => t.lc p.val = 1 ∧ t.xlt.gran = s.xlt.gran ∧ t.pool.cells = s.pool.cells)) ∧
  (∀ (s : State) (q : StewReq) (p : Byte), s.asks q 0x10 = true → (16 ≤ p.toNat → exec (.partForm q p) s = .next (answer q
   0x10 0x50 6 [] s)) ∧ (p.toNat < 16 → s.on F.GLB_STRAP_TEST_MODE = false → s.trust.trngFail = false → s.lc p.toNat ≠ 0
   → exec (.partForm q p) s = .next (answer q 0x10 0x50 2 [] s)) ∧ (p.toNat < 16 → s.on F.GLB_STRAP_TEST_MODE = true →
   exec (.partForm q p) s = .next (answer q 0x10 0x50 4 [] s))) ∧
  (∀ (s : State) (q : StewReq) (p : Byte) (x : Session) (i : Nat), s.trust.running.isSome = true → q.sess = some i →
   s.session i = some x → x.steward = false → x.transport ≠ 4 → s.inMailbox q 0x10 = true → exec (.partForm q p) s =
   .next (answer q 0x10 0x50 1 [] s)) ∧
  (∀ (s : State) (q : StewReq) (p : Byte) (x : Session) (i : Nat), s.trust.running.isSome = true → q.sess = some i →
   s.session i = some x → x.steward = true → s.trust.halted = true → s.inMailbox q 0x11 = true → exec (.partSeal q p) s
   = .next (answer q 0x11 0x50 3 [] s)) ∧
  (∀ (s : State) (q : StewReq) (p : Fin 16), s.asks q 0x11 = true → s.logsNow = true → s.lc p.val = 1 → s.ownedBy? p.val ≠
   [] → completes (.partSeal q (BitVec.ofNat 8 p.val)) s (fun t => t.lc p.val = 2 ∧ t.xlt.gran = s.xlt.gran)) ∧
  (∀ (s : State) (q : StewReq) (p : Fin 16), s.asks q 0x11 = true → s.lc p.val ≠ 1 ∨ s.ownedBy? p.val = [] → exec
   (.partSeal q (BitVec.ofNat 8 p.val)) s = .next (answer q 0x11 0x50 2 [] s)) ∧
  (∀ (s : State) (q : StewReq) (p : Fin 16), s.asks q 0x12 = true → exec (.partReset q (BitVec.ofNat 8 p.val)) s = .next
   (if s.lc p.val = 1 ∨ s.lc p.val = 2 then answer q 0x12 0 0 [] (partitionReset p.val s) else answer q 0x12 0x50 2 []
   s)) ∧
  (∀ (s : State) (q : StewReq) (p : Fin 16), s.asks q 0x13 = true → s.logsNow = true → s.lc p.val = 1 ∨ s.lc p.val = 2 →
   completes (.partTear q (BitVec.ofNat 8 p.val)) s (fun t => t.lc p.val = 3 ∧ (∀ g : Fin 2048, s.gran g.val = .owned
   p.val → t.gran g.val = .releasing false p.val) ∧ t.trust.tears = s.trust.tears ++
   [{ part := p.val, init := 0, record := true, req := some q, ring := none }])) ∧
  (∀ (s : State) (q : StewReq) (p : Fin 16), s.asks q 0x13 = true → s.lc p.val ≠ 1 → s.lc p.val ≠ 2 → exec (.partTear q
   (BitVec.ofNat 8 p.val)) s = .next (answer q 0x13 0x50 2 [] s)) ∧
  (∀ (s : State) (q : StewReq) (p : Fin 16) (g n : BitVec 16), s.asks q 0x14 = true → s.logsNow = true → s.runOk g.toNat
   n.toNat = true → s.lc p.val = 1 ∨ s.lc p.val = 2 → s.runIs g.toNat n.toNat .free = true → completes (.granAssign q
   (BitVec.ofNat 8 p.val) g n) s (fun t => t.runIs g.toNat n.toNat (.owned p.val) = true ∧ ∀ x : Fin 2048, x.val <
   g.toNat ∨ g.toNat + n.toNat ≤ x.val → t.gran x.val = s.gran x.val)) ∧
  (∀ (s : State) (q : StewReq) (p : Fin 16) (g n : BitVec 16), s.asks q 0x14 = true → (s.runOk g.toNat n.toNat = false →
   exec (.granAssign q (BitVec.ofNat 8 p.val) g n) s = .next (answer q 0x14 0x50 6 [] s)) ∧ (s.runOk g.toNat n.toNat =
   true → s.runIs g.toNat n.toNat .free = false → exec (.granAssign q (BitVec.ofNat 8 p.val) g n) s = .next (answer q
   0x14 0x50 2 [] s))) ∧
  (∀ (s : State) (q : StewReq) (p : Nat) (g n : BitVec 16), s.asks q 0x15 = true → s.logsNow = true → s.runOk g.toNat
   n.toNat = true → s.runIs g.toNat n.toNat (.owned p) = true → completes (.granRelease q g n) s (fun t => t.runIs
   g.toNat n.toNat (.releasing false p) = true ∧ t.trust.releases.length = s.trust.releases.length + 1)) ∧
  (∀ (s : State) (q : StewReq) (n : Fin 16), s.asks q 0x20 = true → s.logsNow = true → s.trust.trngFail = false → s.region
   n.val = 0 → completes (.regionCreate q (BitVec.ofNat 8 n.val)) s (fun t => t.region n.val = 1 ∧ t.get
   (F.XLT_SHR_GRANULES n.val) = 0)) ∧
  (∀ (s : State) (q : StewReq) (n : Fin 16), s.asks q 0x20 = true → s.trust.trngFail = true ∨ s.region n.val ≠ 0 → exec
   (.regionCreate q (BitVec.ofNat 8 n.val)) s = .next (answer q 0x20 0x50 (if s.trust.trngFail then 5 else 2) [] s)) ∧
  (∀ (s : State) (q : StewReq) (n : Fin 16) (g c : BitVec 16), s.asks q 0x21 = true → s.logsNow = true → s.runOk g.toNat
   c.toNat = true → s.region n.val = 1 → s.runIs g.toNat c.toNat .free = true → completes (.regionAdd q (BitVec.ofNat 8
   n.val) g c) s (fun t => t.runIs g.toNat c.toNat (.shared n.val) = true ∧ t.region n.val = 1)) ∧
  (∀ (s : State) (q : StewReq) (n : Fin 16) (off len : W64) (h : Bool), s.asks q 0x22 = true → (s.region n.val ≠ 1 → exec
   (.regionLoad q (BitVec.ofNat 8 n.val) off len h none) s = .next (answer q 0x22 0x50 2 [] s)) ∧ (s.region n.val = 1 →
   len = 0 → exec (.regionLoad q (BitVec.ofNat 8 n.val) off len h none) s = .next (answer q 0x22 0x50 6 [] s))) ∧
  (∀ (s u : State) (q : StewReq) (n : Fin 16) (off len : W64) (d : List Byte), s.asks q 0x22 = true → s.logsNow = true →
   s.region n.val = 1 → len ≠ 0 → d.length = len.toNat → off.toNat + len.toNat ≤ (s.granulesWhere (fun x => x == .shared
   n.val)).length * 2 ^ 30 → loadRegion (s.granulesWhere (fun x => x == .shared n.val)) ((s.granulesWhere (fun x => x ==
   .shared n.val)).length + 1) off.toNat d s = (.ok [], u) → exec (.regionLoad q (BitVec.ofNat 8 n.val) off len false
   (some d)) s = .next (logRegion n.val 2 0 ((s.granulesWhere (fun x => x == .shared n.val)).headD 0) (s.granulesWhere
   (fun x => x == .shared n.val)).length off.toNat len.toNat (okCont (some q) 0x22) u)) ∧
  (∀ (s : State) (q : StewReq) (n : Fin 16) (r : BitVec 16), s.asks q 0x23 = true → s.logsNow = true → s.region n.val = 1 →
   completes (.regionPublish q (BitVec.ofNat 8 n.val) r) s (fun t => t.region n.val = 2 ∧ t.get (F.XLT_SHR_READERS
   n.val) = r.toNat)) ∧
  (∀ (s : State) (q : StewReq) (n : Fin 16) (r : BitVec 16), s.asks q 0x24 = true → s.logsNow = true → s.region n.val = 2 →
   completes (.regionReaders q (BitVec.ofNat 8 n.val) r) s (fun t => t.region n.val = 2 ∧ t.get (F.XLT_SHR_READERS
   n.val) = r.toNat)) ∧
  (∀ (s : State) (q : StewReq) (n : Fin 16) (r : BitVec 16), s.asks q 0x23 = true → s.asks q 0x24 = true → s.asks q 0x25 =
   true → (s.region n.val ≠ 1 → exec (.regionPublish q (BitVec.ofNat 8 n.val) r) s = .next (answer q 0x23 0x50 2 [] s))
   ∧ (s.region n.val ≠ 2 → exec (.regionReaders q (BitVec.ofNat 8 n.val) r) s = .next (answer q 0x24 0x50 2 [] s) ∧ exec
   (.regionWithdraw q (BitVec.ofNat 8 n.val)) s = .next (answer q 0x25 0x50 2 [] s))) ∧
  (∀ (s : State) (q : StewReq) (n : Fin 16), s.asks q 0x25 = true → s.logsNow = true → s.region n.val = 2 →
   s.xlt.withdrawing.contains n.val = false → completes (.regionWithdraw q (BitVec.ofNat 8 n.val)) s (fun t =>
   t.xlt.withdrawing.contains n.val = true ∧ (∀ g : Fin 2048, s.gran g.val = .shared n.val → t.gran g.val = .releasing
   true n.val) ∧ t.trust.withdraws.length = s.trust.withdraws.length + 1)) ∧
  (∀ (s : State) (q : StewReq) (p : Fin 16), s.asks q 0x30 = true → s.logsNow = true → s.lc p.val = 2 → completes
   (.stewardLease q 0 (BitVec.ofNat 8 p.val)) s (fun t => t.leases.press = some p.val ∧ t.leases.proof = s.leases.proof)
   ∧ completes (.stewardLease q 1 (BitVec.ofNat 8 p.val)) s (fun t => t.leases.proof = some p.val ∧ t.leases.press =
   s.leases.press)) ∧
  (∀ (s : State) (q : StewReq) (p : Fin 16), s.asks q 0x30 = true → s.lc p.val ≠ 2 → exec (.stewardLease q 0 (BitVec.ofNat
   8 p.val)) s = .next (answer q 0x30 0x50 2 [] s) ∧ exec (.stewardLease q 2 (BitVec.ofNat 8 p.val)) s = .next (answer q
   0x30 0x50 6 [] s)) ∧
  (∀ (s : State) (q : StewReq) (p : Fin 16), s.asks q 0x11 = true → s.log.started = true → s.logAccepts .ordinary = false →
   s.lc p.val = 1 → s.ownedBy? p.val ≠ [] → exec (.partSeal q (BitVec.ofNat 8 p.val)) s = .next (logWaits s))

/-- OWNER_CLAIM of an unclaimed node in a mutually authenticated session writes both copies with SEQ 1, and is refused
with reason 7 on a claimed one; OWNER_SET gives the next SEQ to the copy not in use. VIOL_READ answers a partition's
record and VIOL_CLEAR zeroes it but for what the second has counted; REPAIR_READ answers up to 64 entries and
REPAIR_DELETE marks one. MMIO_GRANT names a stream for the session or revokes the grant. FW_STAGE puts a chunk into the
buffer; FW_COMMIT of a bad image is refused with reason 2, and FW_COMMIT_SVN raises SVN_MIN to that of the running image
and never lowers it. TOMBSTONE_READ answers 64 bytes; TOMBSTONE_CLEAR needs a retired record. NODE_RESET answers and
begins the reset its code names; another code is refused with reason 6. -/
def Obligations.StewardOwnerFirmwareAndResets : Prop :=
  (∀ (s : State) (q : StewReq) (a : BitVec 384) (rs : List (BitVec 384)) (i : Nat) (x : Session), s.trust.running.isSome =
   true → s.inMailbox q 1 = true → q.sess = some i → s.session i = some x → x.mutualAuth = true → s.trust.halted = false
   → s.trust.owner = none → s.on F.GLB_STRAP_TEST_MODE = false → s.logsNow = true → rs.length = 8 → completes
   (.ownerClaim q a rs true) s (fun t => t.trust.owner = some ⟨1, a.toNat, rs.map (·.toNat)⟩ ∧ t.trust.ownerA =
   t.trust.owner ∧ t.trust.ownerB = t.trust.owner)) ∧
  (∀ (s : State) (q : StewReq) (a : BitVec 384) (rs : List (BitVec 384)) (ok : Bool), s.asks q 1 = true →
   s.trust.owner.isSome = true → rs.length = 8 → exec (.ownerClaim q a rs ok) s = .next (answer q 1 0x50 7 [] s)) ∧
  (∀ (s : State) (q : StewReq) (a : BitVec 384) (rs : List (BitVec 384)) (o : OwnerRec), s.asks q 2 = true → s.trust.owner
   = some o → s.trust.ownerA = some o → s.logsNow = true → rs.length = 8 → completes (.ownerSet q a rs true) s (fun t =>
   t.trust.owner = some ⟨(o.seq + 1) % 2 ^ 32, a.toNat, rs.map (·.toNat)⟩ ∧ t.trust.ownerB = t.trust.owner ∧
   t.trust.ownerA = some o) ∧ exec (.ownerSet q a rs false) s = .next (answer q 2 0x50 8 [] s)) ∧
  (∀ (s : State) (q : StewReq) (p : Fin 16), s.asks q 0x40 = true → exec (.violRead q (BitVec.ofNat 8 p.val)) s = .next
   (answer q 0x40 0 0 (s.vio p.val).bytes s)) ∧
  (∀ (s : State) (q : StewReq) (p : Fin 16), s.asks q 0x41 = true → completes (.violClear q (BitVec.ofNat 8 p.val)) s (fun
   t => t.vio p.val = { VioRec.init with inc := (s.vio p.val).inc } ∧ t.regs = s.regs)) ∧
  (∀ (s : State) (q : StewReq) (p : Byte), s.asks q 0x40 = true → s.asks q 0x41 = true → 16 ≤ p.toNat → exec (.violRead q
   p) s = .next (answer q 0x40 0x50 6 [] s) ∧ exec (.violClear q p) s = .next (answer q 0x41 0x50 6 [] s)) ∧
  (∀ (s : State) (q : StewReq) (n : W32), s.asks q 0x50 = true → exec (.repairRead q n) s = .next (answer q 0x50 0 0
   (((s.repairEntries.drop n.toNat).take 64).flatMap (·.bytes)) s)) ∧
  (∀ (s : State) (q : StewReq) (ty : Byte) (loc : W64), s.asks q 0x51 = true → s.repairEntries.find? (fun e => e.type ==
   ty.toNat && e.loc == loc.toNat) = none → exec (.repairDelete q ty loc) s = .next (answer q 0x51 0x50 2 [] s)) ∧
  (∀ (s : State) (q : StewReq) (ty : Byte) (loc : W64) (e : RepairEntry), s.asks q 0x51 = true → s.repairEntries.find? (fun
   x => x.type == ty.toNat && x.loc == loc.toNat) = some e → completes (.repairDelete q ty loc) s (fun t =>
   t.rpr.deleted = s.rpr.deleted ++ [e] ∧ t.rpr.record = s.rpr.record)) ∧
  (∀ (s : State) (q : StewReq) (n : BitVec 16) (i : Nat), s.asks q 0x62 = true → q.sess = some i → completes (.mmioGrant q
   n) s (fun t => t.trust.grant = (if n.toNat = 0xFFFF then none else if 256 ≤ n.toNat then s.trust.grant else some
   (n.toNat, i)))) ∧
  (∀ (s : State) (q : StewReq) (d : List Byte), s.get F.CKR_START_STAGE_STAGE ≠ 0xE0 → s.asks q 0x70 = true → d.length ≤
   4096 → s.trust.staged = [] → completes (.fwStage q 0 d) s (fun t => t.trust.staged = d ∧ t.trust.flash =
   s.trust.flash)) ∧
  (∀ (s : State) (q : StewReq) (o : W32) (d : List Byte), s.get F.CKR_START_STAGE_STAGE ≠ 0xE0 → s.asks q 0x70 = true →
   8388864 < o.toNat + d.length → exec (.fwStage q o d) s = .next (answer q 0x70 0x50 6 [] s)) ∧
  (∀ (s : State) (q : StewReq) (d : List Byte), s.get F.CKR_START_STAGE_STAGE = 0xE0 → q.sess = none → s.inMailbox q 0x70 =
   true → d.length ≤ 4096 → s.trust.staged = [] → completes (.fwStage q 0 d) s (fun t => t.trust.staged = d)) ∧
  (∀ (s : State) (q : StewReq) (a b : Bool), s.get F.CKR_START_STAGE_STAGE ≠ 0xE0 → s.asks q 0x71 = true → s.imageGood
   (s.stagedImage []) = false → exec (.fwCommit q a b) s = .next (answer q 0x71 0x50 2 [] s)) ∧
  (∀ (s : State) (q : StewReq) (g : Image), s.asks q 0x72 = true → s.logsNow = true → s.trust.running = some g → completes
   (.fwCommitSvn q) s (fun t => t.fuses.svnMin = max s.fuses.svnMin g.svn)) ∧
  (∀ (s : State) (q : StewReq), s.asks q 0x80 = true → exec (.tombstoneRead q) s = .next (answer q 0x80 0 0 s.tombBytes s)) ∧
  (∀ (s : State) (q : StewReq) (n : Nat), s.asks q 0x81 = true → s.logsNow = true → s.log.tombSeq = some n → s.tombState ≠
   0 → seqAfter s.log.retired n = true → completes (.tombstoneClear q) s (fun t => t.tombState = 0 ∧ t.log.tombSeq =
   none)) ∧
  (∀ (s : State) (q : StewReq), s.asks q 0x81 = true → s.log.tombSeq = none → exec (.tombstoneClear q) s = .next (answer q
   0x81 0x50 2 [] s)) ∧
  (∀ (s : State) (q : StewReq), s.asks q 0x90 = true → exec (.nodeReset q 0x5752 false) s = .next (acceptReset .warm
   F.CKR_RST_CAUSE_WARM_REQ (answer q 0x90 0 0 [] s)) ∧ exec (.nodeReset q 0x4D52 false) s = .next (acceptReset
   .memoryRetaining F.CKR_RST_CAUSE_MRW_REQ (answer q 0x90 0 0 [] s)) ∧ exec (.nodeReset q 0x5752 true) s = .next
   (answer q 0x90 0x10 8 [] s)) ∧
  (∀ (s : State) (q : StewReq) (c : BitVec 16) (l : Bool), s.asks q 0x90 = true → c ≠ 0x5752 → c ≠ 0x4D52 → exec
   (.nodeReset q c l) s = .next (answer q 0x90 0x50 6 [] s))

/-- GO submits the buffer once and is ignored while BUSY; ABORT clears BUSY. GET_MEASUREMENTS answers the blocks of the
running firmware. A session is established while its transport is up, fewer than 32 exist and its id is new, and is a
steward session when mutually authenticated under the steward's anchor; a Yarrow one records the peer's digests; its end
removes it with its grant. LOCK takes an UNLOCKED interface of a SEALED partition to CONFIG_LOCKED, START a locked one
to RUN, STOP one to CONFIG_UNLOCKED, with a partition reset out of RUN; elsewhere they are answered as refused and
change no interface. A report goes only for a SEALED partition. An integrity failure resets the partition of an
interface in RUN and no other. IDE_KM keys, starts and stops a stream. A digest word of an admission entry takes a write
only while EN is 0 and the window takes accesses. -/
def Obligations.SessionsAndInterfaces : Prop :=
  (∀ (s : State) (x : Option Nat), s.trust.running = none → completes (.smbGo x) s (fun t => t.on F.SMB_STATUS_BUSY = true
   ∧ t.trust.mailbox = (if s.on F.SMB_STATUS_BUSY then s.trust.mailbox else some (s.smbBuf (s.get F.SMB_REQ_LEN_LEN))))) ∧
  (∀ (s : State) (x : Option Nat), s.on F.SMB_STATUS_BUSY = true → exec (.smbGo x) s = .next s) ∧
  (∀ (s : State), exec .smbAbort s = .next { s.put F.SMB_STATUS_BUSY 0 with trust := { s.trust with mailbox := none } }) ∧
  (∀ (s : State) (x : Option Nat), s.trust.running.isSome = true → exec (.getMeasurements x) s = .next
   { s with trust := { s.trust with out := s.trust.out ++ [(x, .measurements s.measurements)] } }) ∧
  (∀ (s : State) (x : Option Nat), s.trust.running = none → exec (.getMeasurements x) s = .next s) ∧
  (∀ (s : State) (k : Fin 6) (p : Packet), s.takesMessage k.val 2 1 p = true → p.byte 1 = 3 → completes (.spdmFragment k p)
   s (fun t => t.trust.msgs = s.trust.msgs ++ [(k.val, 1, slice 0 p.data 16 (ofLeBytes (slice 0 p.data 4 2)))] ∧ t.regs
   = s.regs)) ∧
  (∀ (s : State) (k : Fin 6) (p : Packet), s.takesMessage k.val 2 1 p = true → p.byte 1 = 1 → completes (.spdmFragment k p)
   s (fun t => t.trust.msgs = s.trust.msgs ∧ (t.trust.reasm.find? (fun e => e.1 == k.val)).isSome = true)) ∧
  (∀ (s : State) (id : W32) (tr : Fin 5) (k : Fin 6) (m : Bool) (r : BitVec 384) (ds : List (BitVec 384)),
   s.trust.running.isSome = true → s.trust.sessions.length < 32 → s.session id.toNat = none → s.carriesSession tr.val
   k.val = true → completes (.spdmSessionEstablished id tr k m r ds) s (fun t => t.session id.toNat = some ⟨id.toNat,
   tr.val, m, r.toNat, m && s.trust.owner.any (fun o => o.anchor == r.toNat), k.val⟩ ∧ (tr.val = 3 → Tab.get []
   t.fab.digests k.val = ds.map (·.toNat)))) ∧
  (∀ (s : State) (id : W32) (tr : Fin 5) (k : Fin 6) (m : Bool) (r : BitVec 384) (ds : List (BitVec 384)), s.trust.running
   = none ∨ 32 ≤ s.trust.sessions.length ∨ (s.session id.toNat).isSome = true ∨ s.carriesSession tr.val k.val = false →
   exec (.spdmSessionEstablished id tr k m r ds) s = .next s) ∧
  (∀ (s : State) (id : W32) (x : Session), s.session id.toNat = some x → completes (.spdmSessionEnd id) s (fun t =>
   t.session id.toNat = none ∧ (∀ g, t.trust.grant = some g → s.trust.grant = some g ∧ g.2 ≠ id.toNat))) ∧
  (∀ (s : State) (id : W32), s.session id.toNat = none → exec (.spdmSessionEnd id) s = .next s) ∧
  (∀ (s : State) (id : W32) (x : Session) (p : Fin 16), s.session id.toNat = some x → x.transport = 0 → completes
   (.lockInterface id p) s (fun t => t.tdi p.val = (if s.lc p.val = 2 ∧ s.tdi p.val = 0 then 1 else s.tdi p.val) ∧ t.lc
   p.val = s.lc p.val ∧ t.trust.out = s.trust.out ++ [(some x.id, .answer (decide (s.lc p.val = 2 ∧ s.tdi p.val = 0)))])
   ∧ completes (.startInterface id p) s (fun t => t.tdi p.val = (if s.lc p.val = 2 ∧ s.tdi p.val = 1 then 2 else s.tdi
   p.val) ∧ t.lc p.val = s.lc p.val)) ∧
  (∀ (s : State) (id : W32) (x : Session) (p : Fin 16), s.session id.toNat = some x → x.transport = 0 → s.lc p.val = 2 →
   completes (.stopInterface id p) s (fun t => t.tdi p.val = 0)) ∧
  (∀ (s : State) (id : W32) (p : Fin 16) (op : Fin 3) (b : Byte), (s.session id.toNat).all (fun x => x.transport != 0) =
   true → exec (.lockInterface id p) s = .next s ∧ exec (.startInterface id p) s = .next s ∧ exec (.stopInterface id p)
   s = .next s ∧ exec (.getDeviceInterfaceReport id p) s = .next s ∧ exec (.ideKm id op b) s = .next s) ∧
  (∀ (s : State) (id : W32) (x : Session) (p : Fin 16), s.session id.toNat = some x → x.transport = 0 → exec
   (.getDeviceInterfaceReport id p) s = .next
   { s with trust := { s.trust with out := s.trust.out ++ [(some x.id, if s.lc p.val = 2 then .report p.val (s.pwTrust p.val) (s.ownedBy? p.val).length (sha384 ((s.ownedBy? p.val).flatMap (leBytes 2))) (sha384 (s.admitTable p.val)) else .answer false)] } }) ∧
  (∀ (s : State) (p : Fin 16), s.tdi p.val = 2 → completes (.ideIntegrityFailure p) s (fun t => t.tdi p.val = 0)) ∧
  (∀ (s : State) (p : Fin 16), s.tdi p.val ≠ 2 → exec (.ideIntegrityFailure p) s = .next s) ∧
  (∀ (s : State) (id : W32) (x : Session) (n : Byte), s.session id.toNat = some x → x.transport = 0 → (s.trust.streams.any
   (fun y => y.id == n.toNat)) = false → s.trust.streams.length < 32 → completes (.ideKm id 0 n) s (fun t =>
   t.trust.streams = s.trust.streams ++ [⟨n.toNat, false⟩])) ∧
  (∀ (s : State) (id : W32) (x : Session) (n : Byte), s.session id.toNat = some x → x.transport = 0 → completes (.ideKm id
   1 n) s (fun t => t.trust.streams.all (fun y => y.id != n.toNat || y == ⟨n.toNat, true⟩) = true) ∧ completes (.ideKm
   id 2 n) s (fun t => t.trust.streams.any (fun y => y.id == n.toNat) = false ∧ t.trust.grant.all (fun g =>
   !(s.trust.streams.any (fun y => y.id == n.toNat) && g.1 == n.toNat)) = true)) ∧
  (∀ (s : State) (p i : Fin 16) (j : Fin 7) (v : W64), s.window p.val = true → exec (.pwAdmitWrite p i j v) s = .next (if
   j.val = 6 then s.put (F.PW_ADMIT_W6_EN p.val i.val) (v.toNat % 2) else if s.on (F.PW_ADMIT_W6_EN p.val i.val) then s
   else s.setReg (admitKey p.val i.val j.val) v)) ∧
  (∀ (s : State) (p i : Fin 16) (j : Fin 7) (v : W64), s.window p.val = false → exec (.pwAdmitWrite p i j v) s = .next s)

/-- A pad-control instruction is accepted only while every partition is VOID, and a wrapper instruction only in test
mode; one that is refused leaves BYPASS. An accepted pad-control instruction takes the pads with the press OFF and its
outputs at their safe levels and PCIe down; another instruction returns them. The TAP's reset holds IDCODE and returns
the pads, and TEST_LOGIC_RESET also aborts the job. A start while a job runs leaves the running job's status; one whose
KIND is undefined ends REFUSED; a good one runs with its counters at zero, and with TEST_MODE 1 every defined job on
every instance is good, whatever its precondition says. An abort ends the job ABORTED. A job's end reports PASS only
when every checker locked and no error was counted; a self-test without failing rows passes and a failing engine is
retired. -/
def Obligations.TapAndTestJobs : Prop :=
  (∀ (s : State) (op : Byte) (f : Bool), padControl op.toNat = true → s.allVoid = false ∨ f = true → completes
   (.tapInstruction op f) s (fun t => t.tst.ir = 0xFF ∧ t.tst.pads = none)) ∧
  (∀ (s : State) (op : Byte) (f : Bool), testOnly op.toNat = true → completes (.tapInstruction op f) s (fun t => t.tst.ir =
   (if s.on F.GLB_STRAP_TEST_MODE then op.toNat else 0xFF))) ∧
  (∀ (s : State) (op : Byte), padControl op.toNat = true → s.allVoid = true → completes (.tapInstruction op false) s (fun t
   => t.tst.ir = op.toNat ∧ t.tst.pads = some op.toNat ∧ (s.tst.pads = none → t.eng = engOff ∧ t.press.laserEn = false ∧
   t.pwr.pcieUp = false))) ∧
  (∀ (s : State) (op : Byte) (f : Bool), padControl op.toNat = false → testOnly op.toNat = false → completes
   (.tapInstruction op f) s (fun t => t.tst.ir = (if op = 1 ∨ op = 2 then op.toNat else 0xFF) ∧ t.tst.pads = none)) ∧
  (∀ (s : State) (op : Byte), s.tst.pads.isSome = true → padControl op.toNat = false → completes (.padControlExit op) s
   (fun t => t.tst.pads = none)) ∧
  (∀ (s : State) (op : Byte), s.tst.pads = none ∨ padControl op.toNat = true → exec (.padControlExit op) s = .next s) ∧
  (∀ (s : State), completes .trstNAssert s (fun t => t.tst.ir = 1 ∧ t.tst.pads = none ∧ t.tst.job = s.tst.job) ∧ completes
   .testLogicReset s (fun t => t.tst.ir = 1 ∧ t.tst.pads = none ∧ t.tst.job = none)) ∧
  (∀ (s : State) (j : TestJob), s.tst.job = some j → completes .tstJobStart s (fun t => t.tst.job = some j ∧ t.reg
   R.TST_JOB_STATUS = s.reg R.TST_JOB_STATUS)) ∧
  (∀ (s : State), s.tst.job = none → (s.jobReason s.jobCfg).isSome = true → completes .tstJobStart s (fun t => t.tst.job =
   none ∧ t.get F.TST_JOB_STATUS_STATE = 2 ∧ t.get F.TST_JOB_STATUS_RESULT = resRefused)) ∧
  (∀ (s : State), s.tst.job = none → s.jobReason s.jobCfg = none → completes .tstJobStart s (fun t => t.tst.job = some
   s.jobCfg ∧ t.get F.TST_JOB_STATUS_STATE = 1 ∧ t.get F.TST_JOB_BITS_COUNT = 0 ∧ t.get F.TST_JOB_ERRS_COUNT = 0)) ∧
  (∀ (s : State) (j : TestJob), s.tst.job = some j → completes .tstJobAbort s (fun t => t.tst.job = none ∧ t.get
   F.TST_JOB_STATUS_RESULT = resAborted ∧ t.get F.TST_JOB_STATUS_STATE = 2)) ∧
  (∀ (s : State), s.tst.job = none → exec .tstJobAbort s = .next s) ∧
  (∀ (s : State) (j : TestJob) (l : BitVec 9) (b e : W64) (f : Bool), s.tst.job = some j → j.kind ≤ 5 → l.toNat &&&
   s.jobCheckers j ≠ 0 → completes (.tstJobEnd l b e f) s (fun t => t.tst.job = none ∧ t.get F.TST_JOB_STATUS_RESULT =
   (if f = false ∧ l.toNat &&& s.jobCheckers j = s.jobCheckers j ∧ e = 0 then resPass else resFail) ∧ t.get
   F.TST_JOB_BITS_COUNT = b.toNat ∧ t.get F.TST_JOB_ERRS_COUNT = e.toNat)) ∧
  (∀ (s : State) (j : TestJob) (l : BitVec 9) (b e : W64), s.tst.job = some j → j.kind ≤ 5 → l.toNat &&& s.jobCheckers j ≠
   0 → completes (.tstErrThrReached l b e) s (fun t => t.tst.job = some
   { j with thrSent := j.thrSent || decide (s.get F.TST_ERR_THR_THR ≤ e.toNat) } ∧ t.get F.TST_JOB_ERRS_COUNT = e.toNat)) ∧
  (∀ (s : State) (l : BitVec 9) (b e : W64) (f : Bool) (rs : List (BitVec 16)), s.tst.job = none → exec (.tstJobEnd l b e
   f) s = .next s ∧ exec (.tstErrThrReached l b e) s = .next s ∧ exec (.selfTestJobDone rs f) s = .next s) ∧
  (∀ (s : State) (j : TestJob), s.tst.job = some j → 6 ≤ j.kind → j.kind ≤ 8 → completes (.selfTestJobDone [] true) s (fun
   t => t.tst.job = none ∧ t.get F.TST_JOB_STATUS_RESULT = resPass ∧ t.rpr = s.rpr)) ∧
  (∀ (s : State) (j : TestJob), s.tst.job = some j → j.kind = 7 ∨ j.kind = 8 → completes (.selfTestJobDone [] false) s (fun
   t => t.tst.job = none ∧ t.get F.TST_JOB_STATUS_RESULT = resFail)) ∧
  (∀ (s : State), s.on F.GLB_STRAP_TEST_MODE = true → s.tst.job = none → 1 ≤ s.get F.TST_JOB_CFG_KIND → s.get
   F.TST_JOB_CFG_KIND ≤ 8 → (kindLoops (s.get F.TST_JOB_CFG_KIND)).contains (s.get F.TST_JOB_CFG_LOOP) = true → 6 ≤
   s.get F.TST_JOB_CFG_KIND ∨ (patternKinds (s.get F.TST_JOB_CFG_PATTERN)).contains (s.get F.TST_JOB_CFG_KIND) = true →
   s.jobInstance s.jobCfg = true → completes .tstJobStart s (fun t => t.tst.job = some s.jobCfg ∧ t.get
   F.TST_JOB_STATUS_STATE = 1))
end

