-- ==== Sys2Proof/Laws/Tab.lean ====
section
/-! SUPPORT. Tables and sets: reading after writing. -/

namespace Sys2Proof.Machine

theorem Tab.get_set_self {α : Type} (d a : α) (t : Tab α) (x : Nat) : Tab.get d (Tab.set t x a) x = a := by
  induction t with
  | nil => simp [Tab.set, Tab.get]
  | cons e t ih =>
    obtain ⟨k, v⟩ := e
    simp only [Tab.set]
    split_ifs with h1 h2
    · simp [Tab.get]
    · simp [Tab.get]
    · simp only [Tab.get, if_neg h1, if_neg h2, ih]

theorem Tab.get_set_ne {α : Type} (d a : α) (t : Tab α) {x y : Nat} (h : y ≠ x) :
    Tab.get d (Tab.set t x a) y = Tab.get d t y := by
  induction t with
  | nil => simp only [Tab.set, Tab.get]; split_ifs <;> first | rfl | omega
  | cons e t ih =>
    obtain ⟨k, v⟩ := e
    simp only [Tab.set]
    split_ifs with h1 h2
    · simp only [Tab.get]; split_ifs <;> first | rfl | omega
    · subst h2; simp only [Tab.get]; split_ifs <;> first | rfl | omega
    · simp only [Tab.get, ih]

theorem Tab.get_set {α : Type} (d a : α) (t : Tab α) (x y : Nat) :
    Tab.get d (Tab.set t x a) y = if y = x then a else Tab.get d t y := by
  split_ifs with h
  · rw [h, Tab.get_set_self]
  · rw [Tab.get_set_ne d a t h]

theorem NSet.mem_ins (t : NSet) (x y : Nat) : y ∈ NSet.ins t x ↔ y = x ∨ y ∈ t := by
  induction t with
  | nil => simp [NSet.ins]
  | cons k t ih =>
    simp only [NSet.ins]
    split_ifs with h1 h2
    · simp
    · subst h2; simp
    · simp only [List.mem_cons, ih]; tauto

theorem NSet.mem_del (t : NSet) (x y : Nat) : y ∈ NSet.del t x ↔ y ∈ t ∧ y ≠ x := by
  simp [NSet.del]

@[simp] theorem NSet.contains_ins_self (t : NSet) (x : Nat) : (NSet.ins t x).contains x = true := by
  simp [NSet.mem_ins]

@[simp] theorem NSet.contains_del_self (t : NSet) (x : Nat) : (NSet.del t x).contains x = false := by
  simp [NSet.del]

end Sys2Proof.Machine
end

