-- ==== Sys2Proof/Laws/Reg.lean ====
section
/-! SUPPORT. The register file: reading a register or a field after writing one. -/

namespace Sys2Proof.Machine

/-- A field that lies within a 64-bit register. -/
abbrev Fld.ok (f : Fld) : Prop := f.lo ≤ f.hi ∧ f.hi < 64

theorem Fld.size_pos (f : Fld) : 0 < f.size := Nat.two_pow_pos _

theorem Fld.of_lt (f : Fld) (v : W64) : f.of v < f.size := Nat.mod_lt _ f.size_pos

/-- The sum that a field write stores fits in 64 bits. -/
theorem Fld.into_toNat (f : Fld) (x : Nat) (v : W64) (h : f.ok) :
    (f.into x v).toNat = v.toNat / 2 ^ (f.hi + 1) * 2 ^ (f.hi + 1) + x % f.size * 2 ^ f.lo + v.toNat % 2 ^ f.lo := by
  obtain ⟨h1, h2⟩ := h
  have hv : v.toNat < 2 ^ (f.hi + 1) * 2 ^ (64 - (f.hi + 1)) := by
    rw [← Nat.pow_add]; have := v.isLt; rwa [show f.hi + 1 + (64 - (f.hi + 1)) = 64 by omega]
  have hx : x % f.size < 2 ^ (f.hi + 1 - f.lo) := Nat.mod_lt _ f.size_pos
  have hlo : v.toNat % 2 ^ f.lo < 2 ^ f.lo := Nat.mod_lt _ (Nat.two_pow_pos _)
  have hp : 2 ^ (f.hi + 1) = 2 ^ (f.hi + 1 - f.lo) * 2 ^ f.lo := by rw [← Nat.pow_add]; congr 1; omega
  have ha : v.toNat / 2 ^ (f.hi + 1) < 2 ^ (64 - (f.hi + 1)) := Nat.div_lt_of_lt_mul hv
  have hb : x % f.size * 2 ^ f.lo + v.toNat % 2 ^ f.lo < 2 ^ (f.hi + 1) := by
    rw [hp]; nlinarith [Nat.two_pow_pos f.lo]
  have h64 : (2 : Nat) ^ 64 = 2 ^ (64 - (f.hi + 1)) * 2 ^ (f.hi + 1) := by rw [← Nat.pow_add]; congr 1; omega
  unfold Fld.into
  rw [BitVec.toNat_ofNat, Nat.mod_eq_of_lt]
  rw [h64, Nat.add_assoc]
  nlinarith [Nat.two_pow_pos (f.hi + 1)]

/-- A written field reads back what was written, cut to its width. -/
theorem Fld.of_into_self (f : Fld) (x : Nat) (v : W64) (h : f.ok) : f.of (f.into x v) = x % f.size := by
  have h1 := h.1
  rw [Fld.of, Fld.into_toNat f x v h]
  have hp : 2 ^ (f.hi + 1) = 2 ^ (f.hi + 1 - f.lo) * 2 ^ f.lo := by rw [← Nat.pow_add]; congr 1; omega
  have : (v.toNat / 2 ^ (f.hi + 1) * 2 ^ (f.hi + 1) + x % f.size * 2 ^ f.lo + v.toNat % 2 ^ f.lo) / 2 ^ f.lo =
      v.toNat / 2 ^ (f.hi + 1) * f.size + x % f.size := by
    rw [hp, ← Nat.mul_assoc, ← Nat.add_mul, Nat.add_comm, Nat.add_mul_div_right _ _ (Nat.two_pow_pos _),
      Nat.div_eq_of_lt (Nat.mod_lt _ (Nat.two_pow_pos _)), Nat.zero_add]
    rfl
  rw [this, Nat.mul_comm, Nat.mul_add_mod, Nat.mod_mod]

/-- A bit of a register after a field write. -/
theorem Fld.into_testBit (f : Fld) (x : Nat) (v : W64) (h : f.ok) (i : Nat) :
    (f.into x v).toNat.testBit i = if f.lo ≤ i ∧ i ≤ f.hi then x.testBit (i - f.lo) else v.toNat.testBit i := by
  obtain ⟨h1, h2⟩ := h
  rw [Fld.into_toNat f x v ⟨h1, h2⟩]
  have hlo : v.toNat % 2 ^ f.lo < 2 ^ f.lo := Nat.mod_lt _ (Nat.two_pow_pos _)
  have hx : x % f.size < 2 ^ (f.hi + 1 - f.lo) := Nat.mod_lt _ f.size_pos
  have hp : 2 ^ (f.hi + 1) = 2 ^ (f.hi + 1 - f.lo) * 2 ^ f.lo := by rw [← Nat.pow_add]; congr 1; omega
  have e : v.toNat / 2 ^ (f.hi + 1) * 2 ^ (f.hi + 1) + x % f.size * 2 ^ f.lo + v.toNat % 2 ^ f.lo =
      2 ^ f.lo * (2 ^ (f.hi + 1 - f.lo) * (v.toNat / 2 ^ (f.hi + 1)) + x % f.size) + v.toNat % 2 ^ f.lo := by
    rw [hp]; ring
  rw [e, Nat.testBit_two_pow_mul_add _ hlo]
  by_cases hi : i < f.lo
  · rw [if_pos hi, if_neg (by omega), Nat.testBit_mod_two_pow]; simp [hi]
  · rw [if_neg hi, Nat.testBit_two_pow_mul_add _ hx]
    by_cases hj : i ≤ f.hi
    · rw [if_pos (by omega), if_pos (by omega)]
      unfold Fld.size; rw [Nat.testBit_mod_two_pow]; simp; omega
    · rw [if_neg (by omega), if_neg (by omega), Nat.testBit_div_two_pow]; congr 1; omega

/-- A field write leaves every field that shares no bit with it. -/
theorem Fld.of_into_ne (f g : Fld) (x : Nat) (v : W64) (h : f.ok) (hd : g.hi < f.lo ∨ f.hi < g.lo) :
    g.of (f.into x v) = g.of v := by
  unfold Fld.of Fld.size
  apply Nat.eq_of_testBit_eq
  intro i
  simp only [Nat.testBit_mod_two_pow, Nat.testBit_div_two_pow, Fld.into_testBit f x v h]
  by_cases hi : i < g.hi + 1 - g.lo
  · rw [if_neg (by omega)]
  · simp [hi]

@[simp] theorem State.reg_setReg_self (s : State) (k : Nat) (v : W64) : (s.setReg k v).reg k = v :=
  Tab.get_set_self _ _ _ _

theorem State.reg_setReg_ne (s : State) (v : W64) {k j : Nat} (h : j ≠ k) : (s.setReg k v).reg j = s.reg j :=
  Tab.get_set_ne _ _ _ h

theorem State.get_setReg_ne (s : State) (v : W64) {k : Nat} (g : Fld) (h : g.key ≠ k) : (s.setReg k v).get g = s.get g := by
  simp only [State.get, State.reg_setReg_ne s v h]

theorem State.reg_put_ne (s : State) (f : Fld) (x : Nat) {j : Nat} (h : j ≠ f.key) : (s.put f x).reg j = s.reg j :=
  State.reg_setReg_ne _ _ h

/-- Reading a field after writing it. -/
theorem State.get_put_self (s : State) (f : Fld) (x : Nat) (h : f.ok) : (s.put f x).get f = x % f.size := by
  simp only [State.get, State.put, State.reg_setReg_self, Fld.of_into_self f x _ h]

/-- Writing a field leaves every field of another register. -/
theorem State.get_put_key (s : State) (f g : Fld) (x : Nat) (h : g.key ≠ f.key) : (s.put f x).get g = s.get g := by
  simp only [State.get, State.reg_put_ne s f x h]

/-- Writing a field leaves every field that shares no bit of its register. -/
theorem State.get_put_bits (s : State) (f g : Fld) (x : Nat) (h : f.ok) (hd : g.hi < f.lo ∨ f.hi < g.lo) :
    (s.put f x).get g = s.get g := by
  by_cases hk : g.key = f.key
  · simp only [State.get, State.put, hk, State.reg_setReg_self, Fld.of_into_ne f g x _ h hd]
  · exact State.get_put_key s f g x hk

/-- A field's value fits its width. -/
theorem State.get_lt (s : State) (f : Fld) : s.get f < f.size := f.of_lt _

/-- A field of another register, or of other bits of the same one, keeps its value. -/
theorem State.get_put_of (s : State) (f g : Fld) (x : Nat)
    (h : g.key ≠ f.key ∨ (f.lo ≤ f.hi ∧ f.hi < 64 ∧ (g.hi < f.lo ∨ f.hi < g.lo))) : (s.put f x).get g = s.get g := by
  rcases h with h | ⟨a, b, c⟩
  · exact State.get_put_key s f g x h
  · exact State.get_put_bits s f g x ⟨a, b⟩ c

end Sys2Proof.Machine
end

