-- ==== Sys2Proof/Laws/State.lean ====
section
/-! SUPPORT. What each basic update of the state leaves: one lemma per field and update. -/

namespace Sys2Proof.Machine

variable (s : State)

@[simp] theorem State.setReg_cap (k : Nat) (v : W64) : (s.setReg k v).cap = s.cap := rfl
@[simp] theorem State.setReg_capFrac (k : Nat) (v : W64) : (s.setReg k v).capFrac = s.capFrac := rfl
@[simp] theorem State.setReg_heldLow (k : Nat) (v : W64) : (s.setReg k v).heldLow = s.heldLow := rfl
@[simp] theorem State.setReg_ticks (k : Nat) (v : W64) : (s.setReg k v).ticks = s.ticks := rfl
@[simp] theorem State.setReg_freeCtr (k : Nat) (v : W64) : (s.setReg k v).freeCtr = s.freeCtr := rfl
@[simp] theorem State.setReg_fuses (k : Nat) (v : W64) : (s.setReg k v).fuses = s.fuses := rfl
@[simp] theorem State.setReg_pwr (k : Nat) (v : W64) : (s.setReg k v).pwr = s.pwr := rfl
@[simp] theorem State.setReg_clk (k : Nat) (v : W64) : (s.setReg k v).clk = s.clk := rfl
@[simp] theorem State.setReg_pool (k : Nat) (v : W64) : (s.setReg k v).pool = s.pool := rfl
@[simp] theorem State.setReg_xlt (k : Nat) (v : W64) : (s.setReg k v).xlt = s.xlt := rfl
@[simp] theorem State.setReg_evt (k : Nat) (v : W64) : (s.setReg k v).evt = s.evt := rfl
@[simp] theorem State.setReg_press (k : Nat) (v : W64) : (s.setReg k v).press = s.press := rfl
@[simp] theorem State.setReg_seals (k : Nat) (v : W64) : (s.setReg k v).seals = s.seals := rfl
@[simp] theorem State.setReg_nextSeal (k : Nat) (v : W64) : (s.setReg k v).nextSeal = s.nextSeal := rfl
@[simp] theorem State.setReg_log (k : Nat) (v : W64) : (s.setReg k v).log = s.log := rfl
@[simp] theorem State.setReg_rings (k : Nat) (v : W64) : (s.setReg k v).rings = s.rings := rfl
@[simp] theorem State.setReg_hatch (k : Nat) (v : W64) : (s.setReg k v).hatch = s.hatch := rfl
@[simp] theorem State.setReg_ras (k : Nat) (v : W64) : (s.setReg k v).ras = s.ras := rfl
@[simp] theorem State.setReg_dsp (k : Nat) (v : W64) : (s.setReg k v).dsp = s.dsp := rfl
@[simp] theorem State.setReg_prs (k : Nat) (v : W64) : (s.setReg k v).prs = s.prs := rfl
@[simp] theorem State.setReg_dry (k : Nat) (v : W64) : (s.setReg k v).dry = s.dry := rfl
@[simp] theorem State.setReg_tns (k : Nat) (v : W64) : (s.setReg k v).tns = s.tns := rfl
@[simp] theorem State.setReg_pressIn (k : Nat) (v : W64) : (s.setReg k v).pressIn = s.pressIn := rfl
@[simp] theorem State.setReg_leases (k : Nat) (v : W64) : (s.setReg k v).leases = s.leases := rfl
@[simp] theorem State.setReg_rpr (k : Nat) (v : W64) : (s.setReg k v).rpr = s.rpr := rfl
@[simp] theorem State.setReg_fab (k : Nat) (v : W64) : (s.setReg k v).fab = s.fab := rfl
@[simp] theorem State.setReg_trust (k : Nat) (v : W64) : (s.setReg k v).trust = s.trust := rfl
@[simp] theorem State.setReg_tst (k : Nat) (v : W64) : (s.setReg k v).tst = s.tst := rfl
@[simp] theorem State.setReg_fabOut (k : Nat) (v : W64) : (s.setReg k v).fabOut = s.fabOut := rfl
@[simp] theorem State.setReg_hostOut (k : Nat) (v : W64) : (s.setReg k v).hostOut = s.hostOut := rfl
@[simp] theorem State.setReg_pending (k : Nat) (v : W64) : (s.setReg k v).pending = s.pending := rfl

@[simp] theorem State.put_cap (f : Fld) (x : Nat) : (s.put f x).cap = s.cap := rfl
@[simp] theorem State.put_capFrac (f : Fld) (x : Nat) : (s.put f x).capFrac = s.capFrac := rfl
@[simp] theorem State.put_heldLow (f : Fld) (x : Nat) : (s.put f x).heldLow = s.heldLow := rfl
@[simp] theorem State.put_ticks (f : Fld) (x : Nat) : (s.put f x).ticks = s.ticks := rfl
@[simp] theorem State.put_freeCtr (f : Fld) (x : Nat) : (s.put f x).freeCtr = s.freeCtr := rfl
@[simp] theorem State.put_fuses (f : Fld) (x : Nat) : (s.put f x).fuses = s.fuses := rfl
@[simp] theorem State.put_pwr (f : Fld) (x : Nat) : (s.put f x).pwr = s.pwr := rfl
@[simp] theorem State.put_clk (f : Fld) (x : Nat) : (s.put f x).clk = s.clk := rfl
@[simp] theorem State.put_pool (f : Fld) (x : Nat) : (s.put f x).pool = s.pool := rfl
@[simp] theorem State.put_xlt (f : Fld) (x : Nat) : (s.put f x).xlt = s.xlt := rfl
@[simp] theorem State.put_evt (f : Fld) (x : Nat) : (s.put f x).evt = s.evt := rfl
@[simp] theorem State.put_press (f : Fld) (x : Nat) : (s.put f x).press = s.press := rfl
@[simp] theorem State.put_seals (f : Fld) (x : Nat) : (s.put f x).seals = s.seals := rfl
@[simp] theorem State.put_nextSeal (f : Fld) (x : Nat) : (s.put f x).nextSeal = s.nextSeal := rfl
@[simp] theorem State.put_log (f : Fld) (x : Nat) : (s.put f x).log = s.log := rfl
@[simp] theorem State.put_rings (f : Fld) (x : Nat) : (s.put f x).rings = s.rings := rfl
@[simp] theorem State.put_hatch (f : Fld) (x : Nat) : (s.put f x).hatch = s.hatch := rfl
@[simp] theorem State.put_ras (f : Fld) (x : Nat) : (s.put f x).ras = s.ras := rfl
@[simp] theorem State.put_dsp (f : Fld) (x : Nat) : (s.put f x).dsp = s.dsp := rfl
@[simp] theorem State.put_prs (f : Fld) (x : Nat) : (s.put f x).prs = s.prs := rfl
@[simp] theorem State.put_dry (f : Fld) (x : Nat) : (s.put f x).dry = s.dry := rfl
@[simp] theorem State.put_tns (f : Fld) (x : Nat) : (s.put f x).tns = s.tns := rfl
@[simp] theorem State.put_pressIn (f : Fld) (x : Nat) : (s.put f x).pressIn = s.pressIn := rfl
@[simp] theorem State.put_leases (f : Fld) (x : Nat) : (s.put f x).leases = s.leases := rfl
@[simp] theorem State.put_rpr (f : Fld) (x : Nat) : (s.put f x).rpr = s.rpr := rfl
@[simp] theorem State.put_fab (f : Fld) (x : Nat) : (s.put f x).fab = s.fab := rfl
@[simp] theorem State.put_trust (f : Fld) (x : Nat) : (s.put f x).trust = s.trust := rfl
@[simp] theorem State.put_tst (f : Fld) (x : Nat) : (s.put f x).tst = s.tst := rfl
@[simp] theorem State.put_fabOut (f : Fld) (x : Nat) : (s.put f x).fabOut = s.fabOut := rfl
@[simp] theorem State.put_hostOut (f : Fld) (x : Nat) : (s.put f x).hostOut = s.hostOut := rfl
@[simp] theorem State.put_pending (f : Fld) (x : Nat) : (s.put f x).pending = s.pending := rfl

@[simp] theorem State.putB_cap (f : Fld) (x : Bool) : (s.putB f x).cap = s.cap := rfl
@[simp] theorem State.putB_capFrac (f : Fld) (x : Bool) : (s.putB f x).capFrac = s.capFrac := rfl
@[simp] theorem State.putB_heldLow (f : Fld) (x : Bool) : (s.putB f x).heldLow = s.heldLow := rfl
@[simp] theorem State.putB_ticks (f : Fld) (x : Bool) : (s.putB f x).ticks = s.ticks := rfl
@[simp] theorem State.putB_freeCtr (f : Fld) (x : Bool) : (s.putB f x).freeCtr = s.freeCtr := rfl
@[simp] theorem State.putB_fuses (f : Fld) (x : Bool) : (s.putB f x).fuses = s.fuses := rfl
@[simp] theorem State.putB_pwr (f : Fld) (x : Bool) : (s.putB f x).pwr = s.pwr := rfl
@[simp] theorem State.putB_clk (f : Fld) (x : Bool) : (s.putB f x).clk = s.clk := rfl
@[simp] theorem State.putB_pool (f : Fld) (x : Bool) : (s.putB f x).pool = s.pool := rfl
@[simp] theorem State.putB_xlt (f : Fld) (x : Bool) : (s.putB f x).xlt = s.xlt := rfl
@[simp] theorem State.putB_evt (f : Fld) (x : Bool) : (s.putB f x).evt = s.evt := rfl
@[simp] theorem State.putB_press (f : Fld) (x : Bool) : (s.putB f x).press = s.press := rfl
@[simp] theorem State.putB_seals (f : Fld) (x : Bool) : (s.putB f x).seals = s.seals := rfl
@[simp] theorem State.putB_nextSeal (f : Fld) (x : Bool) : (s.putB f x).nextSeal = s.nextSeal := rfl
@[simp] theorem State.putB_log (f : Fld) (x : Bool) : (s.putB f x).log = s.log := rfl
@[simp] theorem State.putB_rings (f : Fld) (x : Bool) : (s.putB f x).rings = s.rings := rfl
@[simp] theorem State.putB_hatch (f : Fld) (x : Bool) : (s.putB f x).hatch = s.hatch := rfl
@[simp] theorem State.putB_ras (f : Fld) (x : Bool) : (s.putB f x).ras = s.ras := rfl
@[simp] theorem State.putB_dsp (f : Fld) (x : Bool) : (s.putB f x).dsp = s.dsp := rfl
@[simp] theorem State.putB_prs (f : Fld) (x : Bool) : (s.putB f x).prs = s.prs := rfl
@[simp] theorem State.putB_dry (f : Fld) (x : Bool) : (s.putB f x).dry = s.dry := rfl
@[simp] theorem State.putB_tns (f : Fld) (x : Bool) : (s.putB f x).tns = s.tns := rfl
@[simp] theorem State.putB_pressIn (f : Fld) (x : Bool) : (s.putB f x).pressIn = s.pressIn := rfl
@[simp] theorem State.putB_leases (f : Fld) (x : Bool) : (s.putB f x).leases = s.leases := rfl
@[simp] theorem State.putB_rpr (f : Fld) (x : Bool) : (s.putB f x).rpr = s.rpr := rfl
@[simp] theorem State.putB_fab (f : Fld) (x : Bool) : (s.putB f x).fab = s.fab := rfl
@[simp] theorem State.putB_trust (f : Fld) (x : Bool) : (s.putB f x).trust = s.trust := rfl
@[simp] theorem State.putB_tst (f : Fld) (x : Bool) : (s.putB f x).tst = s.tst := rfl
@[simp] theorem State.putB_fabOut (f : Fld) (x : Bool) : (s.putB f x).fabOut = s.fabOut := rfl
@[simp] theorem State.putB_hostOut (f : Fld) (x : Bool) : (s.putB f x).hostOut = s.hostOut := rfl
@[simp] theorem State.putB_pending (f : Fld) (x : Bool) : (s.putB f x).pending = s.pending := rfl

@[simp] theorem State.bump_cap (f : Fld) (k : Nat) : (s.bump f k).cap = s.cap := rfl
@[simp] theorem State.bump_capFrac (f : Fld) (k : Nat) : (s.bump f k).capFrac = s.capFrac := rfl
@[simp] theorem State.bump_heldLow (f : Fld) (k : Nat) : (s.bump f k).heldLow = s.heldLow := rfl
@[simp] theorem State.bump_ticks (f : Fld) (k : Nat) : (s.bump f k).ticks = s.ticks := rfl
@[simp] theorem State.bump_freeCtr (f : Fld) (k : Nat) : (s.bump f k).freeCtr = s.freeCtr := rfl
@[simp] theorem State.bump_fuses (f : Fld) (k : Nat) : (s.bump f k).fuses = s.fuses := rfl
@[simp] theorem State.bump_pwr (f : Fld) (k : Nat) : (s.bump f k).pwr = s.pwr := rfl
@[simp] theorem State.bump_clk (f : Fld) (k : Nat) : (s.bump f k).clk = s.clk := rfl
@[simp] theorem State.bump_pool (f : Fld) (k : Nat) : (s.bump f k).pool = s.pool := rfl
@[simp] theorem State.bump_xlt (f : Fld) (k : Nat) : (s.bump f k).xlt = s.xlt := rfl
@[simp] theorem State.bump_evt (f : Fld) (k : Nat) : (s.bump f k).evt = s.evt := rfl
@[simp] theorem State.bump_press (f : Fld) (k : Nat) : (s.bump f k).press = s.press := rfl
@[simp] theorem State.bump_seals (f : Fld) (k : Nat) : (s.bump f k).seals = s.seals := rfl
@[simp] theorem State.bump_nextSeal (f : Fld) (k : Nat) : (s.bump f k).nextSeal = s.nextSeal := rfl
@[simp] theorem State.bump_log (f : Fld) (k : Nat) : (s.bump f k).log = s.log := rfl
@[simp] theorem State.bump_rings (f : Fld) (k : Nat) : (s.bump f k).rings = s.rings := rfl
@[simp] theorem State.bump_hatch (f : Fld) (k : Nat) : (s.bump f k).hatch = s.hatch := rfl
@[simp] theorem State.bump_ras (f : Fld) (k : Nat) : (s.bump f k).ras = s.ras := rfl
@[simp] theorem State.bump_dsp (f : Fld) (k : Nat) : (s.bump f k).dsp = s.dsp := rfl
@[simp] theorem State.bump_prs (f : Fld) (k : Nat) : (s.bump f k).prs = s.prs := rfl
@[simp] theorem State.bump_dry (f : Fld) (k : Nat) : (s.bump f k).dry = s.dry := rfl
@[simp] theorem State.bump_tns (f : Fld) (k : Nat) : (s.bump f k).tns = s.tns := rfl
@[simp] theorem State.bump_pressIn (f : Fld) (k : Nat) : (s.bump f k).pressIn = s.pressIn := rfl
@[simp] theorem State.bump_leases (f : Fld) (k : Nat) : (s.bump f k).leases = s.leases := rfl
@[simp] theorem State.bump_rpr (f : Fld) (k : Nat) : (s.bump f k).rpr = s.rpr := rfl
@[simp] theorem State.bump_fab (f : Fld) (k : Nat) : (s.bump f k).fab = s.fab := rfl
@[simp] theorem State.bump_trust (f : Fld) (k : Nat) : (s.bump f k).trust = s.trust := rfl
@[simp] theorem State.bump_tst (f : Fld) (k : Nat) : (s.bump f k).tst = s.tst := rfl
@[simp] theorem State.bump_fabOut (f : Fld) (k : Nat) : (s.bump f k).fabOut = s.fabOut := rfl
@[simp] theorem State.bump_hostOut (f : Fld) (k : Nat) : (s.bump f k).hostOut = s.hostOut := rfl
@[simp] theorem State.bump_pending (f : Fld) (k : Nat) : (s.bump f k).pending = s.pending := rfl

@[simp] theorem State.incr_cap (f : Fld) (k : Nat) : (s.incr f k).cap = s.cap := rfl
@[simp] theorem State.incr_capFrac (f : Fld) (k : Nat) : (s.incr f k).capFrac = s.capFrac := rfl
@[simp] theorem State.incr_heldLow (f : Fld) (k : Nat) : (s.incr f k).heldLow = s.heldLow := rfl
@[simp] theorem State.incr_ticks (f : Fld) (k : Nat) : (s.incr f k).ticks = s.ticks := rfl
@[simp] theorem State.incr_freeCtr (f : Fld) (k : Nat) : (s.incr f k).freeCtr = s.freeCtr := rfl
@[simp] theorem State.incr_fuses (f : Fld) (k : Nat) : (s.incr f k).fuses = s.fuses := rfl
@[simp] theorem State.incr_pwr (f : Fld) (k : Nat) : (s.incr f k).pwr = s.pwr := rfl
@[simp] theorem State.incr_clk (f : Fld) (k : Nat) : (s.incr f k).clk = s.clk := rfl
@[simp] theorem State.incr_pool (f : Fld) (k : Nat) : (s.incr f k).pool = s.pool := rfl
@[simp] theorem State.incr_xlt (f : Fld) (k : Nat) : (s.incr f k).xlt = s.xlt := rfl
@[simp] theorem State.incr_evt (f : Fld) (k : Nat) : (s.incr f k).evt = s.evt := rfl
@[simp] theorem State.incr_press (f : Fld) (k : Nat) : (s.incr f k).press = s.press := rfl
@[simp] theorem State.incr_seals (f : Fld) (k : Nat) : (s.incr f k).seals = s.seals := rfl
@[simp] theorem State.incr_nextSeal (f : Fld) (k : Nat) : (s.incr f k).nextSeal = s.nextSeal := rfl
@[simp] theorem State.incr_log (f : Fld) (k : Nat) : (s.incr f k).log = s.log := rfl
@[simp] theorem State.incr_rings (f : Fld) (k : Nat) : (s.incr f k).rings = s.rings := rfl
@[simp] theorem State.incr_hatch (f : Fld) (k : Nat) : (s.incr f k).hatch = s.hatch := rfl
@[simp] theorem State.incr_ras (f : Fld) (k : Nat) : (s.incr f k).ras = s.ras := rfl
@[simp] theorem State.incr_dsp (f : Fld) (k : Nat) : (s.incr f k).dsp = s.dsp := rfl
@[simp] theorem State.incr_prs (f : Fld) (k : Nat) : (s.incr f k).prs = s.prs := rfl
@[simp] theorem State.incr_dry (f : Fld) (k : Nat) : (s.incr f k).dry = s.dry := rfl
@[simp] theorem State.incr_tns (f : Fld) (k : Nat) : (s.incr f k).tns = s.tns := rfl
@[simp] theorem State.incr_pressIn (f : Fld) (k : Nat) : (s.incr f k).pressIn = s.pressIn := rfl
@[simp] theorem State.incr_leases (f : Fld) (k : Nat) : (s.incr f k).leases = s.leases := rfl
@[simp] theorem State.incr_rpr (f : Fld) (k : Nat) : (s.incr f k).rpr = s.rpr := rfl
@[simp] theorem State.incr_fab (f : Fld) (k : Nat) : (s.incr f k).fab = s.fab := rfl
@[simp] theorem State.incr_trust (f : Fld) (k : Nat) : (s.incr f k).trust = s.trust := rfl
@[simp] theorem State.incr_tst (f : Fld) (k : Nat) : (s.incr f k).tst = s.tst := rfl
@[simp] theorem State.incr_fabOut (f : Fld) (k : Nat) : (s.incr f k).fabOut = s.fabOut := rfl
@[simp] theorem State.incr_hostOut (f : Fld) (k : Nat) : (s.incr f k).hostOut = s.hostOut := rfl
@[simp] theorem State.incr_pending (f : Fld) (k : Nat) : (s.incr f k).pending = s.pending := rfl

@[simp] theorem State.orBits_cap (f : Fld) (m : Nat) : (s.orBits f m).cap = s.cap := rfl
@[simp] theorem State.orBits_capFrac (f : Fld) (m : Nat) : (s.orBits f m).capFrac = s.capFrac := rfl
@[simp] theorem State.orBits_heldLow (f : Fld) (m : Nat) : (s.orBits f m).heldLow = s.heldLow := rfl
@[simp] theorem State.orBits_ticks (f : Fld) (m : Nat) : (s.orBits f m).ticks = s.ticks := rfl
@[simp] theorem State.orBits_freeCtr (f : Fld) (m : Nat) : (s.orBits f m).freeCtr = s.freeCtr := rfl
@[simp] theorem State.orBits_fuses (f : Fld) (m : Nat) : (s.orBits f m).fuses = s.fuses := rfl
@[simp] theorem State.orBits_pwr (f : Fld) (m : Nat) : (s.orBits f m).pwr = s.pwr := rfl
@[simp] theorem State.orBits_clk (f : Fld) (m : Nat) : (s.orBits f m).clk = s.clk := rfl
@[simp] theorem State.orBits_pool (f : Fld) (m : Nat) : (s.orBits f m).pool = s.pool := rfl
@[simp] theorem State.orBits_xlt (f : Fld) (m : Nat) : (s.orBits f m).xlt = s.xlt := rfl
@[simp] theorem State.orBits_evt (f : Fld) (m : Nat) : (s.orBits f m).evt = s.evt := rfl
@[simp] theorem State.orBits_press (f : Fld) (m : Nat) : (s.orBits f m).press = s.press := rfl
@[simp] theorem State.orBits_seals (f : Fld) (m : Nat) : (s.orBits f m).seals = s.seals := rfl
@[simp] theorem State.orBits_nextSeal (f : Fld) (m : Nat) : (s.orBits f m).nextSeal = s.nextSeal := rfl
@[simp] theorem State.orBits_log (f : Fld) (m : Nat) : (s.orBits f m).log = s.log := rfl
@[simp] theorem State.orBits_rings (f : Fld) (m : Nat) : (s.orBits f m).rings = s.rings := rfl
@[simp] theorem State.orBits_hatch (f : Fld) (m : Nat) : (s.orBits f m).hatch = s.hatch := rfl
@[simp] theorem State.orBits_ras (f : Fld) (m : Nat) : (s.orBits f m).ras = s.ras := rfl
@[simp] theorem State.orBits_dsp (f : Fld) (m : Nat) : (s.orBits f m).dsp = s.dsp := rfl
@[simp] theorem State.orBits_prs (f : Fld) (m : Nat) : (s.orBits f m).prs = s.prs := rfl
@[simp] theorem State.orBits_dry (f : Fld) (m : Nat) : (s.orBits f m).dry = s.dry := rfl
@[simp] theorem State.orBits_tns (f : Fld) (m : Nat) : (s.orBits f m).tns = s.tns := rfl
@[simp] theorem State.orBits_pressIn (f : Fld) (m : Nat) : (s.orBits f m).pressIn = s.pressIn := rfl
@[simp] theorem State.orBits_leases (f : Fld) (m : Nat) : (s.orBits f m).leases = s.leases := rfl
@[simp] theorem State.orBits_rpr (f : Fld) (m : Nat) : (s.orBits f m).rpr = s.rpr := rfl
@[simp] theorem State.orBits_fab (f : Fld) (m : Nat) : (s.orBits f m).fab = s.fab := rfl
@[simp] theorem State.orBits_trust (f : Fld) (m : Nat) : (s.orBits f m).trust = s.trust := rfl
@[simp] theorem State.orBits_tst (f : Fld) (m : Nat) : (s.orBits f m).tst = s.tst := rfl
@[simp] theorem State.orBits_fabOut (f : Fld) (m : Nat) : (s.orBits f m).fabOut = s.fabOut := rfl
@[simp] theorem State.orBits_hostOut (f : Fld) (m : Nat) : (s.orBits f m).hostOut = s.hostOut := rfl
@[simp] theorem State.orBits_pending (f : Fld) (m : Nat) : (s.orBits f m).pending = s.pending := rfl

@[simp] theorem State.draw_regs : (s.draw).regs = s.regs := rfl
@[simp] theorem State.draw_cap : (s.draw).cap = s.cap := rfl
@[simp] theorem State.draw_capFrac : (s.draw).capFrac = s.capFrac := rfl
@[simp] theorem State.draw_heldLow : (s.draw).heldLow = s.heldLow := rfl
@[simp] theorem State.draw_ticks : (s.draw).ticks = s.ticks := rfl
@[simp] theorem State.draw_fuses : (s.draw).fuses = s.fuses := rfl
@[simp] theorem State.draw_pwr : (s.draw).pwr = s.pwr := rfl
@[simp] theorem State.draw_clk : (s.draw).clk = s.clk := rfl
@[simp] theorem State.draw_pool : (s.draw).pool = s.pool := rfl
@[simp] theorem State.draw_xlt : (s.draw).xlt = s.xlt := rfl
@[simp] theorem State.draw_evt : (s.draw).evt = s.evt := rfl
@[simp] theorem State.draw_press : (s.draw).press = s.press := rfl
@[simp] theorem State.draw_seals : (s.draw).seals = s.seals := rfl
@[simp] theorem State.draw_nextSeal : (s.draw).nextSeal = s.nextSeal := rfl
@[simp] theorem State.draw_log : (s.draw).log = s.log := rfl
@[simp] theorem State.draw_rings : (s.draw).rings = s.rings := rfl
@[simp] theorem State.draw_hatch : (s.draw).hatch = s.hatch := rfl
@[simp] theorem State.draw_ras : (s.draw).ras = s.ras := rfl
@[simp] theorem State.draw_dsp : (s.draw).dsp = s.dsp := rfl
@[simp] theorem State.draw_prs : (s.draw).prs = s.prs := rfl
@[simp] theorem State.draw_dry : (s.draw).dry = s.dry := rfl
@[simp] theorem State.draw_tns : (s.draw).tns = s.tns := rfl
@[simp] theorem State.draw_pressIn : (s.draw).pressIn = s.pressIn := rfl
@[simp] theorem State.draw_leases : (s.draw).leases = s.leases := rfl
@[simp] theorem State.draw_rpr : (s.draw).rpr = s.rpr := rfl
@[simp] theorem State.draw_fab : (s.draw).fab = s.fab := rfl
@[simp] theorem State.draw_trust : (s.draw).trust = s.trust := rfl
@[simp] theorem State.draw_tst : (s.draw).tst = s.tst := rfl
@[simp] theorem State.draw_fabOut : (s.draw).fabOut = s.fabOut := rfl
@[simp] theorem State.draw_hostOut : (s.draw).hostOut = s.hostOut := rfl
@[simp] theorem State.draw_pending : (s.draw).pending = s.pending := rfl

@[simp] theorem State.host_regs (o : HostOut) : (s.host o).regs = s.regs := rfl
@[simp] theorem State.host_cap (o : HostOut) : (s.host o).cap = s.cap := rfl
@[simp] theorem State.host_capFrac (o : HostOut) : (s.host o).capFrac = s.capFrac := rfl
@[simp] theorem State.host_heldLow (o : HostOut) : (s.host o).heldLow = s.heldLow := rfl
@[simp] theorem State.host_ticks (o : HostOut) : (s.host o).ticks = s.ticks := rfl
@[simp] theorem State.host_freeCtr (o : HostOut) : (s.host o).freeCtr = s.freeCtr := rfl
@[simp] theorem State.host_fuses (o : HostOut) : (s.host o).fuses = s.fuses := rfl
@[simp] theorem State.host_pwr (o : HostOut) : (s.host o).pwr = s.pwr := rfl
@[simp] theorem State.host_clk (o : HostOut) : (s.host o).clk = s.clk := rfl
@[simp] theorem State.host_pool (o : HostOut) : (s.host o).pool = s.pool := rfl
@[simp] theorem State.host_xlt (o : HostOut) : (s.host o).xlt = s.xlt := rfl
@[simp] theorem State.host_evt (o : HostOut) : (s.host o).evt = s.evt := rfl
@[simp] theorem State.host_press (o : HostOut) : (s.host o).press = s.press := rfl
@[simp] theorem State.host_seals (o : HostOut) : (s.host o).seals = s.seals := rfl
@[simp] theorem State.host_nextSeal (o : HostOut) : (s.host o).nextSeal = s.nextSeal := rfl
@[simp] theorem State.host_log (o : HostOut) : (s.host o).log = s.log := rfl
@[simp] theorem State.host_rings (o : HostOut) : (s.host o).rings = s.rings := rfl
@[simp] theorem State.host_hatch (o : HostOut) : (s.host o).hatch = s.hatch := rfl
@[simp] theorem State.host_ras (o : HostOut) : (s.host o).ras = s.ras := rfl
@[simp] theorem State.host_dsp (o : HostOut) : (s.host o).dsp = s.dsp := rfl
@[simp] theorem State.host_prs (o : HostOut) : (s.host o).prs = s.prs := rfl
@[simp] theorem State.host_dry (o : HostOut) : (s.host o).dry = s.dry := rfl
@[simp] theorem State.host_tns (o : HostOut) : (s.host o).tns = s.tns := rfl
@[simp] theorem State.host_pressIn (o : HostOut) : (s.host o).pressIn = s.pressIn := rfl
@[simp] theorem State.host_leases (o : HostOut) : (s.host o).leases = s.leases := rfl
@[simp] theorem State.host_rpr (o : HostOut) : (s.host o).rpr = s.rpr := rfl
@[simp] theorem State.host_fab (o : HostOut) : (s.host o).fab = s.fab := rfl
@[simp] theorem State.host_trust (o : HostOut) : (s.host o).trust = s.trust := rfl
@[simp] theorem State.host_tst (o : HostOut) : (s.host o).tst = s.tst := rfl
@[simp] theorem State.host_fabOut (o : HostOut) : (s.host o).fabOut = s.fabOut := rfl
@[simp] theorem State.host_pending (o : HostOut) : (s.host o).pending = s.pending := rfl

@[simp] theorem State.send_regs (k : Nat) (p : Packet) : (s.send k p).regs = s.regs := rfl
@[simp] theorem State.send_cap (k : Nat) (p : Packet) : (s.send k p).cap = s.cap := rfl
@[simp] theorem State.send_capFrac (k : Nat) (p : Packet) : (s.send k p).capFrac = s.capFrac := rfl
@[simp] theorem State.send_heldLow (k : Nat) (p : Packet) : (s.send k p).heldLow = s.heldLow := rfl
@[simp] theorem State.send_ticks (k : Nat) (p : Packet) : (s.send k p).ticks = s.ticks := rfl
@[simp] theorem State.send_freeCtr (k : Nat) (p : Packet) : (s.send k p).freeCtr = s.freeCtr := rfl
@[simp] theorem State.send_fuses (k : Nat) (p : Packet) : (s.send k p).fuses = s.fuses := rfl
@[simp] theorem State.send_pwr (k : Nat) (p : Packet) : (s.send k p).pwr = s.pwr := rfl
@[simp] theorem State.send_clk (k : Nat) (p : Packet) : (s.send k p).clk = s.clk := rfl
@[simp] theorem State.send_pool (k : Nat) (p : Packet) : (s.send k p).pool = s.pool := rfl
@[simp] theorem State.send_xlt (k : Nat) (p : Packet) : (s.send k p).xlt = s.xlt := rfl
@[simp] theorem State.send_evt (k : Nat) (p : Packet) : (s.send k p).evt = s.evt := rfl
@[simp] theorem State.send_press (k : Nat) (p : Packet) : (s.send k p).press = s.press := rfl
@[simp] theorem State.send_seals (k : Nat) (p : Packet) : (s.send k p).seals = s.seals := rfl
@[simp] theorem State.send_nextSeal (k : Nat) (p : Packet) : (s.send k p).nextSeal = s.nextSeal := rfl
@[simp] theorem State.send_log (k : Nat) (p : Packet) : (s.send k p).log = s.log := rfl
@[simp] theorem State.send_rings (k : Nat) (p : Packet) : (s.send k p).rings = s.rings := rfl
@[simp] theorem State.send_hatch (k : Nat) (p : Packet) : (s.send k p).hatch = s.hatch := rfl
@[simp] theorem State.send_ras (k : Nat) (p : Packet) : (s.send k p).ras = s.ras := rfl
@[simp] theorem State.send_dsp (k : Nat) (p : Packet) : (s.send k p).dsp = s.dsp := rfl
@[simp] theorem State.send_prs (k : Nat) (p : Packet) : (s.send k p).prs = s.prs := rfl
@[simp] theorem State.send_dry (k : Nat) (p : Packet) : (s.send k p).dry = s.dry := rfl
@[simp] theorem State.send_tns (k : Nat) (p : Packet) : (s.send k p).tns = s.tns := rfl
@[simp] theorem State.send_pressIn (k : Nat) (p : Packet) : (s.send k p).pressIn = s.pressIn := rfl
@[simp] theorem State.send_leases (k : Nat) (p : Packet) : (s.send k p).leases = s.leases := rfl
@[simp] theorem State.send_rpr (k : Nat) (p : Packet) : (s.send k p).rpr = s.rpr := rfl
@[simp] theorem State.send_fab (k : Nat) (p : Packet) : (s.send k p).fab = s.fab := rfl
@[simp] theorem State.send_trust (k : Nat) (p : Packet) : (s.send k p).trust = s.trust := rfl
@[simp] theorem State.send_tst (k : Nat) (p : Packet) : (s.send k p).tst = s.tst := rfl
@[simp] theorem State.send_hostOut (k : Nat) (p : Packet) : (s.send k p).hostOut = s.hostOut := rfl
@[simp] theorem State.send_pending (k : Nat) (p : Packet) : (s.send k p).pending = s.pending := rfl

@[simp] theorem State.loadDomains_cap (p : Dom → Bool) : (s.loadDomains p).cap = s.cap := rfl
@[simp] theorem State.loadDomains_capFrac (p : Dom → Bool) : (s.loadDomains p).capFrac = s.capFrac := rfl
@[simp] theorem State.loadDomains_ticks (p : Dom → Bool) : (s.loadDomains p).ticks = s.ticks := rfl
@[simp] theorem State.loadDomains_freeCtr (p : Dom → Bool) : (s.loadDomains p).freeCtr = s.freeCtr := rfl
@[simp] theorem State.loadDomains_fuses (p : Dom → Bool) : (s.loadDomains p).fuses = s.fuses := rfl
@[simp] theorem State.loadDomains_pwr (p : Dom → Bool) : (s.loadDomains p).pwr = s.pwr := rfl
@[simp] theorem State.loadDomains_clk (p : Dom → Bool) : (s.loadDomains p).clk = s.clk := rfl
@[simp] theorem State.loadDomains_pool (p : Dom → Bool) : (s.loadDomains p).pool = s.pool := rfl
@[simp] theorem State.loadDomains_xlt (p : Dom → Bool) : (s.loadDomains p).xlt = s.xlt := rfl
@[simp] theorem State.loadDomains_evt (p : Dom → Bool) : (s.loadDomains p).evt = s.evt := rfl
@[simp] theorem State.loadDomains_press (p : Dom → Bool) : (s.loadDomains p).press = s.press := rfl
@[simp] theorem State.loadDomains_seals (p : Dom → Bool) : (s.loadDomains p).seals = s.seals := rfl
@[simp] theorem State.loadDomains_nextSeal (p : Dom → Bool) : (s.loadDomains p).nextSeal = s.nextSeal := rfl
@[simp] theorem State.loadDomains_log (p : Dom → Bool) : (s.loadDomains p).log = s.log := rfl
@[simp] theorem State.loadDomains_rings (p : Dom → Bool) : (s.loadDomains p).rings = s.rings := rfl
@[simp] theorem State.loadDomains_hatch (p : Dom → Bool) : (s.loadDomains p).hatch = s.hatch := rfl
@[simp] theorem State.loadDomains_ras (p : Dom → Bool) : (s.loadDomains p).ras = s.ras := rfl
@[simp] theorem State.loadDomains_dsp (p : Dom → Bool) : (s.loadDomains p).dsp = s.dsp := rfl
@[simp] theorem State.loadDomains_prs (p : Dom → Bool) : (s.loadDomains p).prs = s.prs := rfl
@[simp] theorem State.loadDomains_dry (p : Dom → Bool) : (s.loadDomains p).dry = s.dry := rfl
@[simp] theorem State.loadDomains_tns (p : Dom → Bool) : (s.loadDomains p).tns = s.tns := rfl
@[simp] theorem State.loadDomains_pressIn (p : Dom → Bool) : (s.loadDomains p).pressIn = s.pressIn := rfl
@[simp] theorem State.loadDomains_leases (p : Dom → Bool) : (s.loadDomains p).leases = s.leases := rfl
@[simp] theorem State.loadDomains_rpr (p : Dom → Bool) : (s.loadDomains p).rpr = s.rpr := rfl
@[simp] theorem State.loadDomains_fab (p : Dom → Bool) : (s.loadDomains p).fab = s.fab := rfl
@[simp] theorem State.loadDomains_trust (p : Dom → Bool) : (s.loadDomains p).trust = s.trust := rfl
@[simp] theorem State.loadDomains_tst (p : Dom → Bool) : (s.loadDomains p).tst = s.tst := rfl
@[simp] theorem State.loadDomains_fabOut (p : Dom → Bool) : (s.loadDomains p).fabOut = s.fabOut := rfl
@[simp] theorem State.loadDomains_hostOut (p : Dom → Bool) : (s.loadDomains p).hostOut = s.hostOut := rfl
@[simp] theorem State.loadDomains_pending (p : Dom → Bool) : (s.loadDomains p).pending = s.pending := rfl

@[simp] theorem State.draw_freeCtr : s.draw.freeCtr = s.freeCtr + 1 := rfl
@[simp] theorem State.host_hostOut (o : HostOut) : (s.host o).hostOut = s.hostOut ++ [o] := rfl
@[simp] theorem State.send_fabOut (k : Nat) (p : Packet) : (s.send k p).fabOut = s.fabOut ++ [(k, p)] := rfl

@[simp] theorem State.faultLow_regs (c : FaultCause) : (s.faultLow c).regs = s.regs := by unfold State.faultLow; split <;> rfl
@[simp] theorem State.faultLow_cap (c : FaultCause) : (s.faultLow c).cap = s.cap := by unfold State.faultLow; split <;> rfl
@[simp] theorem State.faultLow_capFrac (c : FaultCause) : (s.faultLow c).capFrac = s.capFrac := by unfold State.faultLow; split <;> rfl
@[simp] theorem State.faultLow_heldLow (c : FaultCause) : (s.faultLow c).heldLow = s.heldLow := by unfold State.faultLow; split <;> rfl
@[simp] theorem State.faultLow_ticks (c : FaultCause) : (s.faultLow c).ticks = s.ticks := by unfold State.faultLow; split <;> rfl
@[simp] theorem State.faultLow_freeCtr (c : FaultCause) : (s.faultLow c).freeCtr = s.freeCtr := by unfold State.faultLow; split <;> rfl
@[simp] theorem State.faultLow_fuses (c : FaultCause) : (s.faultLow c).fuses = s.fuses := by unfold State.faultLow; split <;> rfl
@[simp] theorem State.faultLow_clk (c : FaultCause) : (s.faultLow c).clk = s.clk := by unfold State.faultLow; split <;> rfl
@[simp] theorem State.faultLow_pool (c : FaultCause) : (s.faultLow c).pool = s.pool := by unfold State.faultLow; split <;> rfl
@[simp] theorem State.faultLow_xlt (c : FaultCause) : (s.faultLow c).xlt = s.xlt := by unfold State.faultLow; split <;> rfl
@[simp] theorem State.faultLow_evt (c : FaultCause) : (s.faultLow c).evt = s.evt := by unfold State.faultLow; split <;> rfl
@[simp] theorem State.faultLow_press (c : FaultCause) : (s.faultLow c).press = s.press := by unfold State.faultLow; split <;> rfl
@[simp] theorem State.faultLow_seals (c : FaultCause) : (s.faultLow c).seals = s.seals := by unfold State.faultLow; split <;> rfl
@[simp] theorem State.faultLow_nextSeal (c : FaultCause) : (s.faultLow c).nextSeal = s.nextSeal := by unfold State.faultLow; split <;> rfl
@[simp] theorem State.faultLow_log (c : FaultCause) : (s.faultLow c).log = s.log := by unfold State.faultLow; split <;> rfl
@[simp] theorem State.faultLow_rings (c : FaultCause) : (s.faultLow c).rings = s.rings := by unfold State.faultLow; split <;> rfl
@[simp] theorem State.faultLow_hatch (c : FaultCause) : (s.faultLow c).hatch = s.hatch := by unfold State.faultLow; split <;> rfl
@[simp] theorem State.faultLow_ras (c : FaultCause) : (s.faultLow c).ras = s.ras := by unfold State.faultLow; split <;> rfl
@[simp] theorem State.faultLow_dsp (c : FaultCause) : (s.faultLow c).dsp = s.dsp := by unfold State.faultLow; split <;> rfl
@[simp] theorem State.faultLow_prs (c : FaultCause) : (s.faultLow c).prs = s.prs := by unfold State.faultLow; split <;> rfl
@[simp] theorem State.faultLow_dry (c : FaultCause) : (s.faultLow c).dry = s.dry := by unfold State.faultLow; split <;> rfl
@[simp] theorem State.faultLow_tns (c : FaultCause) : (s.faultLow c).tns = s.tns := by unfold State.faultLow; split <;> rfl
@[simp] theorem State.faultLow_pressIn (c : FaultCause) : (s.faultLow c).pressIn = s.pressIn := by unfold State.faultLow; split <;> rfl
@[simp] theorem State.faultLow_leases (c : FaultCause) : (s.faultLow c).leases = s.leases := by unfold State.faultLow; split <;> rfl
@[simp] theorem State.faultLow_rpr (c : FaultCause) : (s.faultLow c).rpr = s.rpr := by unfold State.faultLow; split <;> rfl
@[simp] theorem State.faultLow_fab (c : FaultCause) : (s.faultLow c).fab = s.fab := by unfold State.faultLow; split <;> rfl
@[simp] theorem State.faultLow_trust (c : FaultCause) : (s.faultLow c).trust = s.trust := by unfold State.faultLow; split <;> rfl
@[simp] theorem State.faultLow_tst (c : FaultCause) : (s.faultLow c).tst = s.tst := by unfold State.faultLow; split <;> rfl
@[simp] theorem State.faultLow_fabOut (c : FaultCause) : (s.faultLow c).fabOut = s.fabOut := by unfold State.faultLow; split <;> rfl
@[simp] theorem State.faultLow_hostOut (c : FaultCause) : (s.faultLow c).hostOut = s.hostOut := by unfold State.faultLow; split <;> rfl
@[simp] theorem State.faultLow_pending (c : FaultCause) : (s.faultLow c).pending = s.pending := by unfold State.faultLow; split <;> rfl

@[simp] theorem State.faultRelease_regs (c : FaultCause) : (s.faultRelease c).regs = s.regs := rfl
@[simp] theorem State.faultRelease_cap (c : FaultCause) : (s.faultRelease c).cap = s.cap := rfl
@[simp] theorem State.faultRelease_capFrac (c : FaultCause) : (s.faultRelease c).capFrac = s.capFrac := rfl
@[simp] theorem State.faultRelease_heldLow (c : FaultCause) : (s.faultRelease c).heldLow = s.heldLow := rfl
@[simp] theorem State.faultRelease_ticks (c : FaultCause) : (s.faultRelease c).ticks = s.ticks := rfl
@[simp] theorem State.faultRelease_freeCtr (c : FaultCause) : (s.faultRelease c).freeCtr = s.freeCtr := rfl
@[simp] theorem State.faultRelease_fuses (c : FaultCause) : (s.faultRelease c).fuses = s.fuses := rfl
@[simp] theorem State.faultRelease_clk (c : FaultCause) : (s.faultRelease c).clk = s.clk := rfl
@[simp] theorem State.faultRelease_pool (c : FaultCause) : (s.faultRelease c).pool = s.pool := rfl
@[simp] theorem State.faultRelease_xlt (c : FaultCause) : (s.faultRelease c).xlt = s.xlt := rfl
@[simp] theorem State.faultRelease_evt (c : FaultCause) : (s.faultRelease c).evt = s.evt := rfl
@[simp] theorem State.faultRelease_press (c : FaultCause) : (s.faultRelease c).press = s.press := rfl
@[simp] theorem State.faultRelease_seals (c : FaultCause) : (s.faultRelease c).seals = s.seals := rfl
@[simp] theorem State.faultRelease_nextSeal (c : FaultCause) : (s.faultRelease c).nextSeal = s.nextSeal := rfl
@[simp] theorem State.faultRelease_log (c : FaultCause) : (s.faultRelease c).log = s.log := rfl
@[simp] theorem State.faultRelease_rings (c : FaultCause) : (s.faultRelease c).rings = s.rings := rfl
@[simp] theorem State.faultRelease_hatch (c : FaultCause) : (s.faultRelease c).hatch = s.hatch := rfl
@[simp] theorem State.faultRelease_ras (c : FaultCause) : (s.faultRelease c).ras = s.ras := rfl
@[simp] theorem State.faultRelease_dsp (c : FaultCause) : (s.faultRelease c).dsp = s.dsp := rfl
@[simp] theorem State.faultRelease_prs (c : FaultCause) : (s.faultRelease c).prs = s.prs := rfl
@[simp] theorem State.faultRelease_dry (c : FaultCause) : (s.faultRelease c).dry = s.dry := rfl
@[simp] theorem State.faultRelease_tns (c : FaultCause) : (s.faultRelease c).tns = s.tns := rfl
@[simp] theorem State.faultRelease_pressIn (c : FaultCause) : (s.faultRelease c).pressIn = s.pressIn := rfl
@[simp] theorem State.faultRelease_leases (c : FaultCause) : (s.faultRelease c).leases = s.leases := rfl
@[simp] theorem State.faultRelease_rpr (c : FaultCause) : (s.faultRelease c).rpr = s.rpr := rfl
@[simp] theorem State.faultRelease_fab (c : FaultCause) : (s.faultRelease c).fab = s.fab := rfl
@[simp] theorem State.faultRelease_trust (c : FaultCause) : (s.faultRelease c).trust = s.trust := rfl
@[simp] theorem State.faultRelease_tst (c : FaultCause) : (s.faultRelease c).tst = s.tst := rfl
@[simp] theorem State.faultRelease_fabOut (c : FaultCause) : (s.faultRelease c).fabOut = s.fabOut := rfl
@[simp] theorem State.faultRelease_hostOut (c : FaultCause) : (s.faultRelease c).hostOut = s.hostOut := rfl
@[simp] theorem State.faultRelease_pending (c : FaultCause) : (s.faultRelease c).pending = s.pending := rfl

@[simp] theorem State.writeReg_cap (k v : Nat) : (s.writeReg k v).cap = s.cap := by unfold State.writeReg; split <;> rfl
@[simp] theorem State.writeReg_capFrac (k v : Nat) : (s.writeReg k v).capFrac = s.capFrac := by unfold State.writeReg; split <;> rfl
@[simp] theorem State.writeReg_heldLow (k v : Nat) : (s.writeReg k v).heldLow = s.heldLow := by unfold State.writeReg; split <;> rfl
@[simp] theorem State.writeReg_ticks (k v : Nat) : (s.writeReg k v).ticks = s.ticks := by unfold State.writeReg; split <;> rfl
@[simp] theorem State.writeReg_freeCtr (k v : Nat) : (s.writeReg k v).freeCtr = s.freeCtr := by unfold State.writeReg; split <;> rfl
@[simp] theorem State.writeReg_fuses (k v : Nat) : (s.writeReg k v).fuses = s.fuses := by unfold State.writeReg; split <;> rfl
@[simp] theorem State.writeReg_pwr (k v : Nat) : (s.writeReg k v).pwr = s.pwr := by unfold State.writeReg; split <;> rfl
@[simp] theorem State.writeReg_clk (k v : Nat) : (s.writeReg k v).clk = s.clk := by unfold State.writeReg; split <;> rfl
@[simp] theorem State.writeReg_pool (k v : Nat) : (s.writeReg k v).pool = s.pool := by unfold State.writeReg; split <;> rfl
@[simp] theorem State.writeReg_xlt (k v : Nat) : (s.writeReg k v).xlt = s.xlt := by unfold State.writeReg; split <;> rfl
@[simp] theorem State.writeReg_evt (k v : Nat) : (s.writeReg k v).evt = s.evt := by unfold State.writeReg; split <;> rfl
@[simp] theorem State.writeReg_press (k v : Nat) : (s.writeReg k v).press = s.press := by unfold State.writeReg; split <;> rfl
@[simp] theorem State.writeReg_seals (k v : Nat) : (s.writeReg k v).seals = s.seals := by unfold State.writeReg; split <;> rfl
@[simp] theorem State.writeReg_nextSeal (k v : Nat) : (s.writeReg k v).nextSeal = s.nextSeal := by unfold State.writeReg; split <;> rfl
@[simp] theorem State.writeReg_log (k v : Nat) : (s.writeReg k v).log = s.log := by unfold State.writeReg; split <;> rfl
@[simp] theorem State.writeReg_rings (k v : Nat) : (s.writeReg k v).rings = s.rings := by unfold State.writeReg; split <;> rfl
@[simp] theorem State.writeReg_hatch (k v : Nat) : (s.writeReg k v).hatch = s.hatch := by unfold State.writeReg; split <;> rfl
@[simp] theorem State.writeReg_ras (k v : Nat) : (s.writeReg k v).ras = s.ras := by unfold State.writeReg; split <;> rfl
@[simp] theorem State.writeReg_dsp (k v : Nat) : (s.writeReg k v).dsp = s.dsp := by unfold State.writeReg; split <;> rfl
@[simp] theorem State.writeReg_prs (k v : Nat) : (s.writeReg k v).prs = s.prs := by unfold State.writeReg; split <;> rfl
@[simp] theorem State.writeReg_dry (k v : Nat) : (s.writeReg k v).dry = s.dry := by unfold State.writeReg; split <;> rfl
@[simp] theorem State.writeReg_tns (k v : Nat) : (s.writeReg k v).tns = s.tns := by unfold State.writeReg; split <;> rfl
@[simp] theorem State.writeReg_pressIn (k v : Nat) : (s.writeReg k v).pressIn = s.pressIn := by unfold State.writeReg; split <;> rfl
@[simp] theorem State.writeReg_leases (k v : Nat) : (s.writeReg k v).leases = s.leases := by unfold State.writeReg; split <;> rfl
@[simp] theorem State.writeReg_rpr (k v : Nat) : (s.writeReg k v).rpr = s.rpr := by unfold State.writeReg; split <;> rfl
@[simp] theorem State.writeReg_fab (k v : Nat) : (s.writeReg k v).fab = s.fab := by unfold State.writeReg; split <;> rfl
@[simp] theorem State.writeReg_trust (k v : Nat) : (s.writeReg k v).trust = s.trust := by unfold State.writeReg; split <;> rfl
@[simp] theorem State.writeReg_tst (k v : Nat) : (s.writeReg k v).tst = s.tst := by unfold State.writeReg; split <;> rfl
@[simp] theorem State.writeReg_fabOut (k v : Nat) : (s.writeReg k v).fabOut = s.fabOut := by unfold State.writeReg; split <;> rfl
@[simp] theorem State.writeReg_hostOut (k v : Nat) : (s.writeReg k v).hostOut = s.hostOut := by unfold State.writeReg; split <;> rfl
@[simp] theorem State.writeReg_pending (k v : Nat) : (s.writeReg k v).pending = s.pending := by unfold State.writeReg; split <;> rfl

/-- A function that keeps a property, applied over a list, keeps it. -/
theorem State.each_ind {α : Type} {P : State → Prop} (l : List α) (f : α → State → State) (h : ∀ a ∈ l, ∀ t, P t → P (f a t))
    (hs : P s) : P (s.each l f) := by
  unfold State.each
  induction l generalizing s with
  | nil => exact hs
  | cons a l ih =>
    exact ih (f a s) (fun b hb => h b (List.mem_cons_of_mem _ hb)) (h a List.mem_cons_self s hs)

/-- A value that every application leaves is left by all of them. -/
theorem State.each_eq {α β : Type} (g : State → β) (l : List α) (f : α → State → State) (h : ∀ a ∈ l, ∀ t, g (f a t) = g t) :
    g (s.each l f) = g s :=
  State.each_ind (P := fun t => g t = g s) s l f (fun a ha t ht => (h a ha t).trans ht) rfl

@[simp] theorem State.each_nil {α : Type} (f : α → State → State) : s.each [] f = s := rfl
@[simp] theorem State.each_cons {α : Type} (a : α) (l : List α) (f : α → State → State) : s.each (a :: l) f = (f a s).each l f := rfl

end Sys2Proof.Machine
end

