-- ==== Sys2Proof/Laws/Events.lean ====
section
/-! SUPPORT. What the delivery of an event can change: the event registers, the event queue's state, and the two output
streams; every other register and every other part of the state stays. -/

namespace Sys2Proof.Machine

/-- The registers that event delivery writes: EVT_OCCURRED, the steward queue's, EVT_FAB_DROP, and PF0's pending bits. -/
def evtKey (k : Nat) : Bool := (decide (0x40800 ≤ k) && decide (k < 0x41000)) || k == 0xf00800

/-- Two states that differ at most in what event delivery writes. -/
def OnlyEvents (s t : State) : Prop :=
  (∃ r ev fo ho, t = { s with regs := r, evt := ev, fabOut := fo, hostOut := ho }) ∧
  ∀ k, evtKey k = false → t.reg k = s.reg k

theorem OnlyEvents.refl (s : State) : OnlyEvents s s := ⟨⟨s.regs, s.evt, s.fabOut, s.hostOut, rfl⟩, fun _ _ => rfl⟩

theorem OnlyEvents.trans {s t u : State} (h : OnlyEvents s t) (g : OnlyEvents t u) : OnlyEvents s u := by
  obtain ⟨⟨_, _, _, _, rfl⟩, h2⟩ := h
  obtain ⟨⟨r, ev, fo, ho, rfl⟩, g2⟩ := g
  exact ⟨⟨r, ev, fo, ho, rfl⟩, fun k hk => (g2 k hk).trans (h2 k hk)⟩

theorem OnlyEvents.put (s : State) (f : Fld) (x : Nat) (h : evtKey f.key = true) : OnlyEvents s (s.put f x) :=
  ⟨⟨_, s.evt, s.fabOut, s.hostOut, rfl⟩, fun k hk => State.reg_put_ne s f x (fun e => by rw [e, h] at hk; cases hk)⟩

theorem OnlyEvents.evt (s : State) (ev : EvtState) : OnlyEvents s { s with evt := ev } :=
  ⟨⟨s.regs, ev, s.fabOut, s.hostOut, rfl⟩, fun _ _ => rfl⟩

theorem OnlyEvents.host (s : State) (o : HostOut) : OnlyEvents s (s.host o) :=
  ⟨⟨s.regs, s.evt, s.fabOut, _, rfl⟩, fun _ _ => rfl⟩

theorem OnlyEvents.send (s : State) (k : Nat) (p : Packet) : OnlyEvents s (s.send k p) :=
  ⟨⟨s.regs, s.evt, _, s.hostOut, rfl⟩, fun _ _ => rfl⟩

theorem sendMsix_onlyEvents (vec : Nat) (s : State) : OnlyEvents s (sendMsix 0 vec s) := by
  unfold sendMsix
  split_ifs
  · exact .refl s
  · exact .put s (msixPba 0) _ (by decide)
  · exact .host s _

theorem offerSteward_onlyEvents (e : Event) (vec : Nat) (s : State) : OnlyEvents s (offerSteward e vec s) := by
  unfold offerSteward
  split_ifs
  · exact .refl s
  · refine (OnlyEvents.evt s { s.evt with seq := wrap32 (s.evt.seq + 1) }).trans ?_
    dsimp only
    split_ifs
    · exact ((OnlyEvents.put _ F.EVT_Q_STATUS_DROPPED _ (by decide)).trans (.put _ F.EVT_Q_STATUS_OVERFLOW _ (by decide))).trans
        (.evt _ _)
    · exact (((OnlyEvents.put _ F.EVT_Q_STATUS_DROPPED _ (by decide)).trans
        (.put _ F.EVT_Q_STATUS_OVERFLOW _ (by decide))).trans (.put _ F.EVT_Q_STATUS_Q_FAULT _ (by decide))).trans (.evt _ _)
    · exact (((OnlyEvents.host _ _).trans (.evt _ _)).trans (.put _ F.EVT_Q_TAIL_TAIL _ (by decide))).trans
        (sendMsix_onlyEvents _ _)

theorem foldl_onlyEvents {α : Type} (f : State → α → State) (hf : ∀ t a, OnlyEvents t (f t a)) (l : List α) (s : State) :
    OnlyEvents s (l.foldl f s) := by
  induction l generalizing s with
  | nil => exact .refl s
  | cons a l ih => exact (hf s a).trans (ih _)

theorem sendEventPackets_onlyEvents (e : Event) (s : State) : OnlyEvents s (sendEventPackets e s) := by
  apply foldl_onlyEvents
  intro t k
  dsimp only
  split_ifs
  · exact .refl t
  · exact .send t _ _
  · exact .put t F.EVT_FAB_DROP_COUNT _ (by decide)

theorem evtKey_occurred {n : Nat} (h : n < 256) : evtKey (R.EVT_OCCURRED (n / 32)) = true := by
  have : n / 32 < 8 := by omega
  unfold evtKey
  generalize n / 32 = i at this
  interval_cases i <;> decide

/-- What one occurrence delivered to the steward's side can change. -/
theorem raiseNode_onlyEvents (e : Event) (s : State) (h : e.src < 256) : OnlyEvents s (raiseNode e s) := by
  have ho := evtKey_occurred h
  unfold raiseNode
  split_ifs
  · exact .refl s
  · exact .refl s
  · have h1 : OnlyEvents s (s.orBits (F.EVT_OCCURRED_BITS (e.src / 32)) (2 ^ (e.src % 32))) := .put s _ _ ho
    refine h1.trans ?_
    dsimp only
    split_ifs
    · exact .refl _
    · exact (offerSteward_onlyEvents _ _ _).trans ((OnlyEvents.evt _ _).trans (sendEventPackets_onlyEvents _ _))
    · exact (offerSteward_onlyEvents _ _ _).trans (.evt _ _)
    · exact (offerSteward_onlyEvents _ _ _).trans (sendEventPackets_onlyEvents _ _)
    · exact offerSteward_onlyEvents _ _ _

/-- A register outside the event registers keeps its value over a delivery. -/
theorem raiseNode_reg (e : Event) (s : State) (k : Nat) (h : e.src < 256) (hk : evtKey k = false) :
    (raiseNode e s).reg k = s.reg k := (raiseNode_onlyEvents e s h).2 k hk

/-- A field outside the event registers keeps its value over a delivery. -/
theorem raiseNode_get (e : Event) (s : State) (f : Fld) (h : e.src < 256) (hk : evtKey f.key = false) :
    (raiseNode e s).get f = s.get f := by unfold State.get; rw [raiseNode_reg e s _ h hk]

/-- Delivery leaves every part of the state but the registers, the event state and the outputs. -/
theorem raiseNode_eq (e : Event) (s : State) (h : e.src < 256) :
    ∃ r ev fo ho, raiseNode e s = { s with regs := r, evt := ev, fabOut := fo, hostOut := ho } :=
  (raiseNode_onlyEvents e s h).1

/-! One lemma per part that delivery leaves. -/

theorem raiseNode_cap (e : Event) (s : State) (h : e.src < 256) : (raiseNode e s).cap = s.cap := by
  obtain ⟨r, ev, fo, ho, h⟩ := raiseNode_eq e s h; rw [h]
theorem raiseNode_capFrac (e : Event) (s : State) (h : e.src < 256) : (raiseNode e s).capFrac = s.capFrac := by
  obtain ⟨r, ev, fo, ho, h⟩ := raiseNode_eq e s h; rw [h]
theorem raiseNode_heldLow (e : Event) (s : State) (h : e.src < 256) : (raiseNode e s).heldLow = s.heldLow := by
  obtain ⟨r, ev, fo, ho, h⟩ := raiseNode_eq e s h; rw [h]
theorem raiseNode_ticks (e : Event) (s : State) (h : e.src < 256) : (raiseNode e s).ticks = s.ticks := by
  obtain ⟨r, ev, fo, ho, h⟩ := raiseNode_eq e s h; rw [h]
theorem raiseNode_freeCtr (e : Event) (s : State) (h : e.src < 256) : (raiseNode e s).freeCtr = s.freeCtr := by
  obtain ⟨r, ev, fo, ho, h⟩ := raiseNode_eq e s h; rw [h]
theorem raiseNode_fuses (e : Event) (s : State) (h : e.src < 256) : (raiseNode e s).fuses = s.fuses := by
  obtain ⟨r, ev, fo, ho, h⟩ := raiseNode_eq e s h; rw [h]
theorem raiseNode_pwr (e : Event) (s : State) (h : e.src < 256) : (raiseNode e s).pwr = s.pwr := by
  obtain ⟨r, ev, fo, ho, h⟩ := raiseNode_eq e s h; rw [h]
theorem raiseNode_clk (e : Event) (s : State) (h : e.src < 256) : (raiseNode e s).clk = s.clk := by
  obtain ⟨r, ev, fo, ho, h⟩ := raiseNode_eq e s h; rw [h]
theorem raiseNode_pool (e : Event) (s : State) (h : e.src < 256) : (raiseNode e s).pool = s.pool := by
  obtain ⟨r, ev, fo, ho, h⟩ := raiseNode_eq e s h; rw [h]
theorem raiseNode_xlt (e : Event) (s : State) (h : e.src < 256) : (raiseNode e s).xlt = s.xlt := by
  obtain ⟨r, ev, fo, ho, h⟩ := raiseNode_eq e s h; rw [h]
theorem raiseNode_press (e : Event) (s : State) (h : e.src < 256) : (raiseNode e s).press = s.press := by
  obtain ⟨r, ev, fo, ho, h⟩ := raiseNode_eq e s h; rw [h]
theorem raiseNode_seals (e : Event) (s : State) (h : e.src < 256) : (raiseNode e s).seals = s.seals := by
  obtain ⟨r, ev, fo, ho, h⟩ := raiseNode_eq e s h; rw [h]
theorem raiseNode_nextSeal (e : Event) (s : State) (h : e.src < 256) : (raiseNode e s).nextSeal = s.nextSeal := by
  obtain ⟨r, ev, fo, ho, h⟩ := raiseNode_eq e s h; rw [h]
theorem raiseNode_log (e : Event) (s : State) (h : e.src < 256) : (raiseNode e s).log = s.log := by
  obtain ⟨r, ev, fo, ho, h⟩ := raiseNode_eq e s h; rw [h]
theorem raiseNode_rings (e : Event) (s : State) (h : e.src < 256) : (raiseNode e s).rings = s.rings := by
  obtain ⟨r, ev, fo, ho, h⟩ := raiseNode_eq e s h; rw [h]
theorem raiseNode_hatch (e : Event) (s : State) (h : e.src < 256) : (raiseNode e s).hatch = s.hatch := by
  obtain ⟨r, ev, fo, ho, h⟩ := raiseNode_eq e s h; rw [h]
theorem raiseNode_ras (e : Event) (s : State) (h : e.src < 256) : (raiseNode e s).ras = s.ras := by
  obtain ⟨r, ev, fo, ho, h⟩ := raiseNode_eq e s h; rw [h]
theorem raiseNode_dsp (e : Event) (s : State) (h : e.src < 256) : (raiseNode e s).dsp = s.dsp := by
  obtain ⟨r, ev, fo, ho, h⟩ := raiseNode_eq e s h; rw [h]
theorem raiseNode_prs (e : Event) (s : State) (h : e.src < 256) : (raiseNode e s).prs = s.prs := by
  obtain ⟨r, ev, fo, ho, h⟩ := raiseNode_eq e s h; rw [h]
theorem raiseNode_dry (e : Event) (s : State) (h : e.src < 256) : (raiseNode e s).dry = s.dry := by
  obtain ⟨r, ev, fo, ho, h⟩ := raiseNode_eq e s h; rw [h]
theorem raiseNode_tns (e : Event) (s : State) (h : e.src < 256) : (raiseNode e s).tns = s.tns := by
  obtain ⟨r, ev, fo, ho, h⟩ := raiseNode_eq e s h; rw [h]
theorem raiseNode_pressIn (e : Event) (s : State) (h : e.src < 256) : (raiseNode e s).pressIn = s.pressIn := by
  obtain ⟨r, ev, fo, ho, h⟩ := raiseNode_eq e s h; rw [h]
theorem raiseNode_leases (e : Event) (s : State) (h : e.src < 256) : (raiseNode e s).leases = s.leases := by
  obtain ⟨r, ev, fo, ho, h⟩ := raiseNode_eq e s h; rw [h]
theorem raiseNode_rpr (e : Event) (s : State) (h : e.src < 256) : (raiseNode e s).rpr = s.rpr := by
  obtain ⟨r, ev, fo, ho, h⟩ := raiseNode_eq e s h; rw [h]
theorem raiseNode_fab (e : Event) (s : State) (h : e.src < 256) : (raiseNode e s).fab = s.fab := by
  obtain ⟨r, ev, fo, ho, h⟩ := raiseNode_eq e s h; rw [h]
theorem raiseNode_trust (e : Event) (s : State) (h : e.src < 256) : (raiseNode e s).trust = s.trust := by
  obtain ⟨r, ev, fo, ho, h⟩ := raiseNode_eq e s h; rw [h]
theorem raiseNode_tst (e : Event) (s : State) (h : e.src < 256) : (raiseNode e s).tst = s.tst := by
  obtain ⟨r, ev, fo, ho, h⟩ := raiseNode_eq e s h; rw [h]
theorem raiseNode_pending (e : Event) (s : State) (h : e.src < 256) : (raiseNode e s).pending = s.pending := by
  obtain ⟨r, ev, fo, ho, h⟩ := raiseNode_eq e s h; rw [h]

end Sys2Proof.Machine
end

