-- ==== Sys2Proof/Laws/Kcs.lean ====
section
/-! SUPPORT. The four cases of an instruction of a ring's program (R366, R368), each said once. -/

namespace Sys2Proof.Machine

variable {r : Fin 132} {g : Guard} {w : W64} {ext : List W64} {body : Prog → State → State} {s : State} {p : Prog}

theorem kcs_no_program (h : s.prog r.val = none) : kcs r g w ext body s = .next s := by
  simp [kcs, h]

theorem kcs_elsewhere (h : s.prog r.val = some p) (hw : p.at w ext = false) : kcs r g w ext body s = .next s := by
  simp [kcs, h, hw]

theorem kcs_runs (h : s.prog r.val = some p) (hw : p.at w ext = true) (hg : p.runs g = true) :
    kcs r g w ext body s = .next (body p s) := by
  simp [kcs, h, hw, hg]

theorem kcs_guard_false (h : s.prog r.val = some p) (hw : p.at w ext = true) (hg : p.runs g = false) :
    kcs r g w ext body s = .next (s.setProg r.val (p.next (1 + ext.length))) := by
  simp [kcs, h, hw, hg]

/-- All an instruction can do: leave the state, pass over itself, or run its body; it always answers a next state. -/
theorem kcs_cases (r : Fin 132) (g : Guard) (w : W64) (ext : List W64) (body : Prog → State → State) (s : State) :
    kcs r g w ext body s = .next s ∨
    ∃ p, s.prog r.val = some p ∧ p.at w ext = true ∧
      ((p.runs g = false ∧ kcs r g w ext body s = .next (s.setProg r.val (p.next (1 + ext.length)))) ∨
       (p.runs g = true ∧ kcs r g w ext body s = .next (body p s))) := by
  cases h : s.prog r.val with
  | none => exact .inl (kcs_no_program h)
  | some p =>
    cases hw : p.at w ext with
    | false => exact .inl (kcs_elsewhere h hw)
    | true =>
      refine .inr ⟨p, rfl, hw, ?_⟩
      cases hg : p.runs g with
      | false => exact .inl ⟨rfl, kcs_guard_false h hw hg⟩
      | true => exact .inr ⟨rfl, kcs_runs h hw hg⟩

end Sys2Proof.Machine
end

