-- ==== Sys2Proof/Laws/Pool.lean ====
section
/-! SUPPORT. Pool memory: a byte read after a write, and the canonical form kept by every operation that stores. -/

namespace Sys2Proof.Machine

theorem cellRead_above (m : List Host.Cell) (a k : Nat) (v : Byte) (h : cellsOk ((k, v) :: m) = true) (l : a ≤ k) :
    cellRead m a = 0 := by
  cases m with
  | nil => rfl
  | cons e t =>
    obtain ⟨k', v'⟩ := e
    simp only [cellsOk, Bool.and_eq_true, decide_eq_true_eq] at h
    simp only [cellRead]
    split_ifs <;> first | rfl | omega

theorem cellsOk_tail (e : Host.Cell) (m : List Host.Cell) (h : cellsOk (e :: m) = true) : cellsOk m = true := by
  obtain ⟨k, v⟩ := e
  cases m with
  | nil => rfl
  | cons e' t =>
    obtain ⟨k', v'⟩ := e'
    simp only [cellsOk, Bool.and_eq_true] at h
    exact h.2

theorem cellRead_cellWrite_self (m : List Host.Cell) (a : Nat) (b : Byte) (h : cellsOk m = true) :
    cellRead (cellWrite m a b) a = b := by
  induction m with
  | nil => simp only [cellWrite]; split_ifs with hb <;> simp [cellRead, hb]
  | cons e t ih =>
    obtain ⟨k, v⟩ := e
    have ht := cellsOk_tail _ _ h
    simp only [cellWrite]
    split_ifs with h1 hb h2 hb
    · simp only [cellRead]; split_ifs <;> first | exact hb.symm | omega
    · simp [cellRead]
    · rw [cellRead_above t a k v h (by omega), hb]
    · simp [cellRead]
    · simp only [cellRead, if_neg h2, if_neg h1]; exact ih ht

theorem cellRead_cellWrite_ne (m : List Host.Cell) (a c : Nat) (b : Byte) (h : cellsOk m = true) (n : c ≠ a) :
    cellRead (cellWrite m a b) c = cellRead m c := by
  induction m with
  | nil => simp only [cellWrite]; split_ifs <;> simp [cellRead, n.symm]
  | cons e t ih =>
    obtain ⟨k, v⟩ := e
    have ht := cellsOk_tail _ _ h
    simp only [cellWrite]
    split_ifs with h1 hb h2 hb
    · rfl
    · simp only [cellRead]; split_ifs <;> first | rfl | omega
    · subst h2; simp only [cellRead, if_neg (Ne.symm n)]
      split_ifs with l
      · exact cellRead_above t c k v h (by omega)
      · rfl
    · subst h2; simp only [cellRead, if_neg (Ne.symm n)]
    · simp only [cellRead, ih ht]

/-- A written cell list begins at the written address or where it began. -/
theorem cellsOk_cons (k : Nat) (v : Byte) (m : List Host.Cell) (hv : v ≠ 0) (h : cellsOk m = true)
    (l : ∀ e ∈ m.head?, k < e.1) : cellsOk ((k, v) :: m) = true := by
  cases m with
  | nil => simpa [cellsOk] using hv
  | cons e t =>
    obtain ⟨k', v'⟩ := e
    simp only [cellsOk, Bool.and_eq_true, decide_eq_true_eq, bne_iff_ne, ne_eq]
    exact ⟨⟨hv, l (k', v') rfl⟩, h⟩

theorem head_cellWrite (m : List Host.Cell) (a n : Nat) (b : Byte) (h : cellsOk m = true) (l : ∀ e ∈ m.head?, n < e.1)
    (ha : n < a) : ∀ e ∈ (cellWrite m a b).head?, n < e.1 := by
  cases m with
  | nil => simp only [cellWrite]; split_ifs <;> simp [ha]
  | cons e t =>
    obtain ⟨k, v⟩ := e
    have hk : n < k := l (k, v) rfl
    simp only [cellWrite]
    split_ifs
    · simpa using hk
    · simpa using ha
    · cases t with
      | nil => simp
      | cons e' t' =>
        obtain ⟨k', v'⟩ := e'
        simp only [cellsOk, Bool.and_eq_true, decide_eq_true_eq] at h
        simp only [List.head?_cons, Option.mem_def, Option.some.injEq, forall_eq']; omega
    · simpa using ha
    · simpa using hk

/-- A byte written keeps the canonical form. -/
theorem cellsOk_cellWrite (m : List Host.Cell) (a : Nat) (b : Byte) (h : cellsOk m = true) : cellsOk (cellWrite m a b) = true := by
  induction m with
  | nil =>
    simp only [cellWrite]
    split_ifs with hb
    · rfl
    · simpa [cellsOk] using hb
  | cons e t ih =>
    obtain ⟨k, v⟩ := e
    have ht := cellsOk_tail _ _ h
    have hv : v ≠ 0 := by
      cases t with
      | nil => simpa [cellsOk] using h
      | cons e' t' => obtain ⟨k', v'⟩ := e'; simp only [cellsOk, Bool.and_eq_true, bne_iff_ne] at h; exact h.1.1
    have hl : ∀ e ∈ t.head?, k < e.1 := by
      cases t with
      | nil => simp
      | cons e' t' =>
        obtain ⟨k', v'⟩ := e'
        simp only [cellsOk, Bool.and_eq_true, decide_eq_true_eq] at h
        simp only [List.head?_cons, Option.mem_def, Option.some.injEq, forall_eq']; exact h.1.2
    simp only [cellWrite]
    split_ifs with h1 hb h2 hb
    · exact h
    · exact cellsOk_cons a b _ hb h (by simpa using h1)
    · exact ht
    · exact cellsOk_cons a b _ hb ht (h2 ▸ hl)
    · exact cellsOk_cons k v _ hv (ih ht) (head_cellWrite t a k b ht hl (by omega))

/-- A run of bytes written keeps the canonical form. -/
theorem cellsOk_cellsWrite (l : List Byte) : ∀ (m : List Host.Cell) (a : Nat), cellsOk m = true →
    cellsOk (cellsWrite m a l) = true := by
  induction l with
  | nil => exact fun _ _ h => h
  | cons b l ih => exact fun m a h => ih _ _ (cellsOk_cellWrite m a b h)

/-- Outside the run written, every byte reads as before. -/
theorem cellRead_cellsWrite_ne (l : List Byte) : ∀ (m : List Host.Cell) (a c : Nat), cellsOk m = true →
    (c < a ∨ a + l.length ≤ c) → cellRead (cellsWrite m a l) c = cellRead m c := by
  induction l with
  | nil => exact fun _ _ _ _ _ => rfl
  | cons b l ih =>
    intro m a c h o
    simp only [List.length_cons] at o
    rw [cellsWrite, ih _ _ _ (cellsOk_cellWrite m a b h) (by omega), cellRead_cellWrite_ne m a c b h (by omega)]

/-- Inside the run written, the bytes written are read. -/
theorem cellRead_cellsWrite_self (l : List Byte) : ∀ (m : List Host.Cell) (a i : Nat), cellsOk m = true → i < l.length →
    cellRead (cellsWrite m a l) (a + i) = l.getD i 0 := by
  induction l with
  | nil => intro m a i h o; simp at o
  | cons b l ih =>
    intro m a i h o
    rw [cellsWrite]
    cases i with
    | zero =>
      rw [cellRead_cellsWrite_ne l _ _ _ (cellsOk_cellWrite m a b h) (by omega)]
      simpa using cellRead_cellWrite_self m a b h
    | succ i =>
      have := ih (cellWrite m a b) (a + 1) i (cellsOk_cellWrite m a b h) (by simpa using o)
      rw [show a + (i + 1) = a + 1 + i by omega, this]; simp

theorem setValid_cells (line : Nat) (s : State) : (setValid line s).pool.cells = s.pool.cells := by
  simp only [setValid, openGranule, cleanL1]; split_ifs <;> rfl

/-- A stored line keeps the canonical form. -/
theorem storeLine_poolOk (line : Nat) (data : List Byte) (s : State) (h : s.poolOk = true) :
    (storeLine line data s).poolOk = true := by
  simp only [State.poolOk, storeLine, setValid_cells]
  exact cellsOk_cellsWrite _ _ _ h

/-- A stored line changes no byte outside itself. -/
theorem storeLine_sameBytes (line : Nat) (data : List Byte) (s : State) (h : s.poolOk = true) :
    (∀ c, c / 64 ≠ line → cellRead (storeLine line data s).pool.cells c = cellRead s.pool.cells c) := by
  intro c hc
  have hl : (slice 0 data 0 64).length = 64 := by simp [slice]
  simp only [storeLine, setValid_cells]
  exact cellRead_cellsWrite_ne _ _ _ _ h (by omega)

/-- What a reset keeps of pool memory is in canonical form. -/
theorem keptPool_ok (kind : ResetKind) (s : State) (h : s.poolOk = true) : cellsOk (keptPool kind s).cells = true := by
  simp only [keptPool]
  split_ifs
  · exact h
  · rfl

/-- A store to a core's local store keeps its canonical form. -/
theorem cellsOk_storeWrite (m : List Host.Cell) (a n v : Nat) (h : cellsOk m = true) : cellsOk (storeWrite m a n v) = true := by
  unfold storeWrite
  generalize List.range n = l
  induction l generalizing m with
  | nil => exact h
  | cons i l ih => exact ih _ (cellsOk_cellWrite m _ _ h)

@[simp] theorem State.reset_poolOk : State.reset.poolOk = true := rfl

end Sys2Proof.Machine
end

