-- ==== Sys2Proof/Laws/Steward.lean ====
section
/-! SUPPORT. The cases of a steward command (R516 to R519), each said once. -/

namespace Sys2Proof.Machine

variable {q : StewReq} {cmd : Nat} {haltOk : Bool} {body : State → Except (Nat × Nat) State} {s : State}

theorem steward_elsewhere (h : (s.trust.running.isNone || !s.inMailbox q cmd) = true) :
    steward q cmd haltOk body s = .next s := by
  simp only [steward, h, if_true]

theorem steward_no_session (h : (s.trust.running.isNone || !s.inMailbox q cmd) = false) (n : q.sess = none) :
    steward q cmd haltOk body s = .next (answer q cmd 0x50 1 [] s) := by
  simp [steward, h, n]

/-- A steward command always answers a next state: the same state, an answer, or the body's. -/
theorem steward_cases (q : StewReq) (cmd : Nat) (haltOk : Bool) (body : State → Except (Nat × Nat) State) (s : State) :
    steward q cmd haltOk body s = .next s ∨
    (∃ st d, steward q cmd haltOk body s = .next (answer q cmd st d [] s)) ∨
    (∃ t, body s = .ok t ∧ steward q cmd haltOk body s = .next t) := by
  unfold steward
  dsimp only
  by_cases h : (s.trust.running.isNone || !s.inMailbox q cmd) = true
  · exact .inl (if_pos h)
  · rw [if_neg h]
    split
    · exact .inr (.inl ⟨_, _, rfl⟩)
    · split
      · exact .inl rfl
      · next x _ =>
        by_cases a : (!(if (cmd == 1 && s.trust.owner.isNone) = true then x.mutualAuth else x.steward)) = true
        · exact .inr (.inl ⟨_, _, if_pos a⟩)
        · rw [if_neg a]
          by_cases b : (s.trust.halted && !haltOk) = true
          · exact .inr (.inl ⟨_, _, if_pos b⟩)
          · rw [if_neg b]
            split
            · exact .inr (.inr ⟨_, by assumption, rfl⟩)
            · exact .inr (.inl ⟨_, _, rfl⟩)

end Sys2Proof.Machine
end

