-- ==== Sys2Proof/Tests/Slice0.lean ====
section
/-! SUPPORT. Tests: ill-formed commands that the check refuses, single steps whose results the spec gives, and for every clause of every
statement a state and operands that meet its premises. -/

set_option maxRecDepth 100000
set_option linter.unusedVariables false

namespace Sys2Proof.Tests

open Sys2Proof Sys2Proof.Machine

/-! ### Small states -/

/-- The state after reset with some fields written: the start of the small states below. -/
abbrev st (l : List (Fld × Nat)) : State := l.foldl (fun t p => t.put p.1 p.2) State.reset

/-- A small image for tests. -/
def anImage : Image := { header := [], body := [], board := [] }

/-- A small program with these words and tallies, in this stall. -/
abbrev kpx (ws : List W64) (t : Tab Tally) (x : Stall) : Prog :=
  { entry := ⟨0, [], none⟩, invoke := none, words := ws, pc := 0, ctx := 1, s := [(1, 5), (2, 7)], p := [1], d := [], t := t,
    stall := x, fault := none, ended := false, restarts := 0, failed := false, retries := none, orders := 0, core := 0 }
abbrev kpt (ws : List W64) (t : Tab Tally) : Prog := kpx ws t .no
abbrev kps (ws : List W64) (x : Stall) : Prog := kpx ws [] x
abbrev kp (ws : List W64) : Prog := kpx ws [] .no
/-- The state after reset with a program on a ring. -/
abbrev onRing (r : Nat) (p : Prog) : State :=
  { State.reset with rings := { RingState.init with ring := [(r, { Ring.init with prog := some p })] } }
abbrev kst (r : Nat) (ws : List W64) (t : Tab Tally) : State := onRing r (kpt ws t)
abbrev kss (r : Nat) (ws : List W64) (x : Stall) : State := onRing r (kps ws x)
abbrev ks (r : Nat) (ws : List W64) : State := onRing r (kp ws)
/-- A program of the SM on a node whose pool serves. -/
abbrev ksm (ws : List W64) : State := ks 128 ws

/-- Memory that is ready, with a million lines in every usable granule and nothing stored. -/
abbrev memReady : State :=
  st ([(F.CKR_START_STAGE_MEM_READY, 1), (F.MEMG_GRANULES_USABLE, 2), (F.MEMG_GRANULES_INSTALLED, 8)] ++
    (List.range 24).map (fun c => (F.MC_STATUS_STATE c, 2)))
/-- A population of Table 05.1. -/
abbrev aPop : DimmPop :=
  { dimms := 1, gib := 32, ranks := 1, stack := 1, rows := 65536, density := 0, maxRate := 2, sppr := 1, ids := [], supported := true }
abbrev aRow : RowRepair := { addr := { ch := 0, sub := 0, slot := 0, cs := 0, cid := 0, bg := 0, ba := 0, row := 5, col := 0 }, dev := 3 }
abbrev anAck : InvAck := { p := 2, from_ := .window, cid := 8192, epoch := 7, tag := 9, status := 0, applied := true }

/-- The state with partition `p` live, its window taking accesses. -/
abbrev live (p : Nat) (s : State) : State :=
  { (s.setLc p 2).setTdi p 2 with evt := { EvtState.init with numVfs := 16, vfMse := true } }

abbrev aRec : LogRec :=
  { cls := .ordinary, urgent := false, type := 0x80, merged := false, subject := 0xFF, payload := [], resv := none, accepted := true, cont := .none }
abbrev anIssue : IssueInfo := { part := 2, job := 3, page := 4, sheet := 5, hash := [], mode := 0, attempt := 0 }
abbrev aSheetPage : SheetPage :=
  { page := 4, info := anIssue, resv := 1, imaging := 2, blank := false, outcome := some 0x11, test := false, noRec := false }
abbrev aSession : Session := { id := 3, transport := 1, mutualAuth := true, root := 0, steward := true, link := 0 }
/-- A node whose stream 3 is granted to the steward. -/
abbrev granted : State :=
  { State.reset with trust := { TrustState.init with grant := some (3, 3), streams := [⟨3, true⟩] } }
/-- A node with firmware, an owner and a steward session. -/
abbrev stewarded : State :=
  { State.reset with trust := { TrustState.init with running := some anImage, sessions := [aSession], owner := some ⟨1, 2, []⟩ } }

/-- Partition 2 live with granule 0 and its direct context, on a node whose memory serves. -/
abbrev parted : State :=
  live 2 { memReady.put (F.PW_XLT_CTX_DIRECT_EN 2) 1 with xlt := { XltState.init with gran := [(0, .owned 2)] } }
/-- A program of partition 2 in its direct context. -/
abbrev kd (ws : List W64) (d : Tab (List W64)) : Prog := { kp ws with ctx := 4095, d := d }
/-- A state with a program on ring 16. -/
abbrev on16 (s : State) (p : Prog) : State := { s with rings := { RingState.init with ring := [(16, { Ring.init with prog := some p })] } }
/-- The state with the press lease at partition 2. -/
abbrev pressed (s : State) : State := { s with leases := { s.leases with press := some 2 }, pressIn := { ilk := true, erdy := true } }
abbrev aPage : Page :=
  { id := 7, part := 2, job := 3, page := 4, side := 0, stream := none, dpi := 0, w := 8, h := 1, bpp := 1, stride := 64, va := 0, cid := 12287,
    ring := 16, sealId := 0, map := [(0, 0)], hash := [], hashed := false, resv := none, attempt := 1, tally := some (16, 1), picked := false }
abbrev aStream : Stream :=
  { listVa := 0, listLen := 16, bandVa := 65536, fmt := 0, thr := 0, rctx := 0, stride := 64, cid := 12287, clear := 0, nb := 2 }
abbrev aSheet : Sheet :=
  { id := 5, pages := [], route := 0, picked := 0, switch := none, arrived := [], left := [], gone := false }
/-- The press with its engine in a state. -/
abbrev engineIn (e : Nat) (s : State) : State := s.put F.PRS_STATUS_STATE e
/-- Ring 16 of partition 2 in a STATE, with some more fields written. -/
abbrev ringIn (x : Nat) (l : List (Fld × Nat)) : State :=
  live 2 (st ([(F.PW_RING_STATUS_STATE 2 0, x), (F.PW_RING_CFG_EN 2 0, 1), (F.PW_RING_CFG_LOG2SIZE 2 0, 6)] ++ l))
/-- The state with ring 16 replaced. -/
abbrev ring16 (x : Ring) (s : State) : State := { s with rings := { s.rings with ring := [(16, x)] } }
/-- An INLINE entry whose program is END. -/
abbrev anEntry : EntryCopy := ⟨0, [0x700000001, 1, 0, 0, 0, 0, 0, 0], none⟩
/-- An invoke that arrived on link 1. -/
abbrev anInvoke : Invoke := ⟨1, { Packet.empty with opc := 6, len := 3, src := 9, data := List.replicate 192 255 }⟩
/-- A transfer of an SM ring that fills eight bytes at 64. -/
abbrev aFill : DmaTask := ⟨128, 2, true, [0, 64, 8, 0, 0, 9, 0, 0], 0, false⟩
abbrev filling : State :=
  { memReady with rings := { RingState.init with ring := [(128, { Ring.init with prog := some (kpt [] [(2, { Tally.idle with st := 1 })]) })], dma := [aFill] } }
abbrev aReq (tries : Nat) : NodeReq := { tag := 5, owner := .dma 16 2, pkt := Packet.empty, tries := tries, budget := 4, retry := 2 }
/-- Descriptors of small units of Hatch work. -/
abbrev dGemm : List W64 :=
  [0x1000, 0x2220000000002000, 0x3000, 0x0001000001000001, 0x4000000040, 0x3F80000000000040, 0, 0]
abbrev dSmax : List W64 := [0x1000, 0x0550000000002000, 0, 0x8000002, 64, 0, 0, 0]
abbrev dElt : List W64 := [0x1000, 0, 0, 0x3000, 4, 0, 0, 0]
abbrev dMerge : List W64 := [0, 0x1000, 0x100, 0, 0, 0, 0, 0]
/-- A job of a kind on ring 16 with these tasks running. -/
abbrev aJob (k : JobKind) (d : List W64) (run : List (Nat × Task)) : Job := { newJob 3 16 2 0 k d [] 1 with run := run, fresh := 1 }
abbrev working (j : Job) : State :=
  { State.reset with hatch := { HatchState.init with jobs := [j] }, rings := { RingState.init with ring := [(16, { Ring.init with prog := some (kpt [] [(2, { Tally.idle with st := 1 })]) })] } }
/-- An SM program on a node whose pool serves and holds these cells. -/
abbrev smPool (p : Prog) (cells : List Host.Cell) : State :=
  { memReady with rings := { RingState.init with ring := [(128, { Ring.init with prog := some p })] }, pool := { memReady.pool with cells := cells, l2 := [0], l1 := [0], l0 := [0, 64] } }
abbrev aCommit : Commit := { ring := 16, part := 2, f := List.replicate 8 0, sealId := none, hash := [], resv := none, new := false }
/-- A display enabled with its receiver admitted and its pixel clock locked, of no pixels. -/
abbrev showing : State :=
  st [(F.DSP_CTL_EN, 1), (F.DSP_STATUS_TRAINED, 1), (F.DSP_STATUS_ADMITTED, 1), (F.CKR_SYN_STATUS_STATE 9, 2), (F.DSP_H_ACTIVE, 0), (F.DSP_V_ACTIVE, 0)]
/-- A surface descriptor of RDRAW for context 3: one tile. -/
abbrev dDraw : List W64 := [0x40, 0x10, 0x1000, 0x60200100010, 64, 0xFFF, 0, 0]
abbrev aSlot : Slot := { Slot.init with loaded := true, st := 1 }
/-- A state with Tansy slot 3 replaced. -/
abbrev slot3 (x : Slot) (s : State) : State := { s with tns := { s.tns with slot := [(3, x)] } }
/-- A TLOAD of slot 0 by the press lease holder, whose record holds these bytes. -/
abbrev tl (cells : List Host.Cell) : State :=
  let s := pressed (on16 parted (kd [encU 0x88 ⟨0, false⟩ 1 0 2 9 0 0 0] [(1, [0xFFF0000000000000])]))
  { s with pool := { s.pool with cells := cells, l2 := [0], l1 := [0], l0 := [0] } }
/-- A SECURE link on group 1 with credit, its node in ASSIGNED. -/
abbrev linked : State :=
  { st [(F.FP_STATUS_STATE 1, 5), (F.FP_STATUS_SECURE 1, 1), (F.FP_STATUS_VCS_NEG 1, 8), (F.FP_CTL_EN 1, 1), (F.TOPO_STATUS_STATE, 3),
        (F.TOPO_STATUS_ADDR, 7), (F.TOPO_SIZES_SX, 3), (F.TOPO_SIZES_SZ, 8)] with
    fab := { FabState.init with links := [(1, { Link.init with given := (List.range 16).map (fun i => (i, 100)) })], assigned := true } }
/-- A packet for that node, of an opcode, a length in slots, a VC, a second word and data. -/
abbrev aPkt (opc len vc w1 : Nat) (d : List Byte) : Packet :=
  { Packet.empty with opc := opc, len := len, vc := vc, dst := 7, src := 3, cid := 8197, w1 := w1, data := d }
/-- A management packet of a subtype with its message. -/
abbrev aMsg (sub : Nat) (d : List Byte) : Packet :=
  { Packet.empty with opc := 8, len := d.length / 16, vc := 4, dst := 0xFFFF, src := 0xFFFF, w1 := sub, data := d }
/-- The linked node whose memory is not ready, with partition 2 live and open to its links. -/
abbrev heldLinked : State :=
  { (live 2 (((linked.put (F.PW_XLT_CTX_EN 2) 1).put (F.PW_ADMIT_W6_EN 2 0) 1).put F.MEMG_GRANULES_USABLE 2)) with
    xlt := { XltState.init with gran := [(0, .owned 2)] }, fab := { linked.fab with digests := [(1, [0])] } }
/-- The linked node whose neighbour on link 1 is its child. -/
abbrev parentOf : State :=
  { linked with fab := { linked.fab with campion := { Campion.init with
      best := some ⟨0, 9, 1, 1, 1, 1, some 2⟩, nbr := [(1, { Nbr.init with claim := some ⟨3, 0, 1, 9, 1, 1, 1⟩ })] } } }
/-- The linked node with Campion in a state and what it holds. -/
abbrev atStep (n : Nat) (c : Campion) : State :=
  { linked.put F.TOPO_STATUS_STATE n with fab := { linked.fab with campion := c } }
abbrev atStep0 (c : Campion) : State := (atStep 1 c).put F.TOPO_STATUS_ADDR 0
/-- The node with a steward session and a started log whose banks are empty. -/
abbrev aOwner : OwnerRec := { seq := 1, anchor := 2, roots := [] }
abbrev asked : State :=
  { memReady with trust := { TrustState.init with running := some anImage, sessions := [aSession], owner := some aOwner }, log := { memReady.log with started := true } }
abbrev aQ : StewReq := ⟨some 3, 9⟩
/-- That node with partition 2 in a LIFECYCLE. -/
abbrev askedAt (n : Nat) : State := asked.setLc 2 n
/-- A session over PF0's DOE. -/
abbrev doe : State :=
  { State.reset with trust := { TrustState.init with running := some anImage, sessions := [{ aSession with transport := 0 }] } }
abbrev aJobT (k p l i : Nat) : TestJob := { kind := k, pattern := p, loop := l, inst := i, array := 0, duration := 0, thrSent := false }
/-- A node whose test job runs. -/
abbrev jobRuns (j : TestJob) : State := { State.reset with tst := { State.reset.tst with job := some j } }
abbrev regionAt : State :=
  { (asked.put (F.XLT_SHR_STATE 2) 1) with xlt := { asked.xlt with gran := [(0, .shared 2)] } }
abbrev logFull1 : State :=
  { (askedAt 1) with xlt := { asked.xlt with gran := [(0, .owned 2)] }, log := { asked.log with nextSeq := 4095, retired := 0 } }
/-- The asked node with a tombstone whose record is retired. -/
abbrev tombed : State :=
  let s := asked.put (F.LOG_TOMBSTONE_DATA 0) 0x25453
  { s with log := { s.log with tombSeq := some 5, retired := 9, nextSeq := 9 } }

/-- The state after a command that completes. -/
abbrev nx (c : Instr) (s : State) : State :=
  match exec c s with
  | .next t => t
  | _ => State.reset

theorem nx_eq {c : Instr} {s : State} (h : (match exec c s with | .next _ => true | _ => false) = true) :
    exec c s = .next (nx c s) := by
  unfold nx
  revert h
  cases exec c s <;> simp

/-! ### Ill-formed commands are refused -/

theorem test_refuses_lengths :
    [Instr.registerWrite (.window 2) 0x10000 false 0 ⟨none, none, 0, []⟩ false, .lowerHalfRead (.window 2) 0x10000 false, .lineWrite 0 [],
     .partialLineWrite 0 1 [0], .memoryStart [], .flitReceive 0 [] true [] 0 0, .dsetx 16 ⟨0, false⟩ 0 0 [],
     .dsetx 16 ⟨0, false⟩ 0 7 [1, 2], .ownerClaim aQ 1 [] true, .ownerSet aQ 1 [] true, .regionLoad aQ 0 0 4 true (some [1]),
     .msixUnmask 3 12, .sensorUpdate []].all (fun c => c.wf == false) = true := by decide

/-- A packet of the wrong kind for each row, and one whose length its opcode does not allow. -/
theorem test_refuses_packets :
    (let p := aPkt 6 12 2 0x1000 (List.replicate 192 0)
     [Instr.inv 0 p, .rd 0 p, .wr 0 p, .wrp 0 p, .atom 0 p, .forwardPacket 0 (aMsg 0 []), .rspData 0 p, .hello 0 p, .claim 0 p, .dup 0 p,
      .report 0 p, .reportDone 0 p, .assign 0 p, .beacon 0 p, .syncReq 0 p 0 0, .syncRsp 0 p 0, .fabricDoorbell 0 p,
      .invoke 0 (aPkt 1 4 0 0x1000 (List.replicate 64 0)), .spdmFragment 0 p].all (fun c => c.wf == false)) = true := by decide

theorem test_refused_by_name :
    (match exec (.lineWrite 0 []) State.reset with | .refused .illFormed => true | _ => false) = true := by decide
theorem test_no_such_line :
    (match exec (.lineWrite 0 (List.replicate 64 1)) State.reset with | .fault .noSuchAddress => true | _ => false) = true := by decide
/-- The opcode table gives no row bits, so no word spells a command. -/
theorem test_no_word : decodeTableWord 64 0x10 = none := rfl

/-! ### Instruction words and results (the worked example of chapter 10, Table 10.2 to Table 10.4, R373) -/

theorem test_word_dld : encR 0x40 ⟨0, false⟩ 0 1 0 0 = 0x0000000000200040#64 := by decide
theorem test_word_dset : encR 0x43 ⟨0, false⟩ 0 3 0 4 = 0x0000000200600043#64 ∧ encR 0x43 ⟨0, false⟩ 0 4 0 0 = 0x0000000000800043#64 := by
  decide
theorem test_word_pqueue_wait : encU 0x80 ⟨0, false⟩ 0 0 0 0 0 0 0 = 0x80#64 ∧ encU 0x90 ⟨0, false⟩ 0 0 0 0 0 0 0 = 0x90#64 := by decide
/-- ADD s3, s1, s2 with guard p2 inverted: OPC 0x10, PR 2, PN, A 3, B 1, C 2. -/
theorem test_word_add : encR 0x10 ⟨2, true⟩ 3 1 2 0 = 0b00010_00001_00011_00_00_1_010_00010000#64 := by decide
theorem test_word_st : encM 0x52 ⟨0, false⟩ 3 1 2 64 = 0b1000000_10_00001_00011_0000000001010010#64 := by decide
/-- JNZ s1, −1. -/
theorem test_word_jnz : encB 0x05 ⟨0, false⟩ 1 0xFFFFFFFF = 0xFFFFFFFF00010005#64 := by decide

/-- The scalar register that an instruction of ring 16 leaves, from s1 = 5 and s2 = 7. -/
abbrev result (c : Instr) (w : W64) (a : Nat) : Option W64 := ((nx c (ks 16 [w])).prog 16).map (fun p => p.sreg a)

theorem test_add : result (.add 16 ⟨0, false⟩ 3 1 2) (encR 0x10 ⟨0, false⟩ 3 1 2 0) 3 = some 12 := by decide
theorem test_sub_wraps : result (.sub 16 ⟨0, false⟩ 3 1 2) (encR 0x11 ⟨0, false⟩ 3 1 2 0) 3 = some 0xFFFFFFFFFFFFFFFE := by decide
theorem test_divu_by_zero : result (.divu 16 ⟨0, false⟩ 3 1 4) (encR 0x14 ⟨0, false⟩ 3 1 4 0) 3 = some 0xFFFFFFFFFFFFFFFF := by decide
theorem test_remu_by_zero : result (.remu 16 ⟨0, false⟩ 3 1 4) (encR 0x15 ⟨0, false⟩ 3 1 4 0) 3 = some 5 := by decide
theorem test_s0_ignores : result (.add 16 ⟨0, false⟩ 0 1 2) (encR 0x10 ⟨0, false⟩ 0 1 2 0) 0 = some 0 := by decide
theorem test_li_extends : result (.li 16 ⟨0, false⟩ 3 0x3FFFFFFFFF) (encI 0x27 ⟨0, false⟩ 0 3 0 0x3FFFFFFFFF) 3 = some 0xFFFFFFFFFFFFFFFF := by
  decide
theorem test_guard_passes_over :
    result (.add 16 ⟨0, true⟩ 3 1 2) (encR 0x10 ⟨0, true⟩ 3 1 2 0) 3 = some 0 ∧
    ((nx (.add 16 ⟨0, true⟩ 3 1 2) (ks 16 [encR 0x10 ⟨0, true⟩ 3 1 2 0])).prog 16).map (·.pc) = some 1 := by decide

/-! ### Memory and translation (the worked examples of chapters 5 and 6) -/

theorem test_metadata_granules : rMeta 6144 = 13 := by decide
theorem test_channel_of_line : channelOf 0x4200014240 = 12 := by decide
theorem test_subchannel : (place { aPop with gib := 256 } 0x4200014240).sub = 1 := by decide

/-- The firm's node: 6,144 granules installed, 6,131 usable. -/
abbrev firm : State := st [(F.MEMG_GRANULES_USABLE, 6131), (F.MEMG_GRANULES_INSTALLED, 6144)]

theorem test_valid_bit_lines : firm.l0Line 264 1289 * 64 = 0x5FCE1000080 ∧ firm.l1Line 264 1 * 64 = 0x5FFC0084000 := by decide

/-- Partition 1 with the translation tables of chapter 6's example, open to the accelerator 0x0123 on link 2. -/
abbrev entryAt (a v : Nat) : List Host.Cell := (List.range 8).map (fun i => (a + i, BitVec.ofNat 8 (v / 256 ^ i)))
abbrev mapped : State :=
  let s := live 1 { memReady with xlt := { XltState.init with gran := [(264, .owned 1), (265, .owned 1)] }, fab := { memReady.fab with digests := [(2, [0])] } }
  let s := ((s.put (F.PW_ADMIT_W6_EN 1 0) 1).put (F.FP_STATUS_STATE 2) 5).put (F.FP_STATUS_SECURE 2) 1
  let s := ((s.put F.MEMG_GRANULES_USABLE 6131).put F.MEMG_GRANULES_INSTALLED 6144).setReg (R.PW_XLT_CTX 1) 0x4240000001
  let m := entryAt 0x4240000A30 0x4240010017 ++ entryAt 0x4240000A38 0x30123 ++ entryAt 0x4240010010 0x4240018001 ++
    entryAt 0x4240018028 0x4240020001 ++ entryAt 0x4240020608 0x420001000D
  let l0 := [0x4240000A30 / 64, 0x4240010010 / 64, 0x4240018028 / 64, 0x4240020608 / 64]
  let l1 := [265 * 16384, 265 * 16384 + 1, 265 * 16384 + 2]
  { s with pool := { s.pool with cells := m.filter (fun c => c.2 != 0), l2 := [265], l1 := l1, l0 := l0 } }

theorem test_translates : (translate (.fab 2 0x0123 true) 0x10A3 0x20050C14240 .wr mapped).1 = .ok 0x4200014240 := by decide
theorem test_no_context : (translate (.fab 2 0x0123 true) 0x10A4 0x20050C14240 .rd mapped).1 = .viol .noContext := by decide

/-! ### Rings, events, records (the worked examples of chapters 9, 15 and 20) -/

abbrev r17 : State :=
  live 2 (st [(F.PW_RING_STATUS_STATE 2 1, 1), (F.PW_RING_CFG_EN 2 1, 1), (F.PW_RING_CFG_LOG2SIZE 2 1, 8), (F.PW_RING_SQ_HEAD_HEAD 2 1, 0x1F0),
    (F.PW_RING_SQ_TAIL_TAIL 2 1, 0x1F8)])

theorem test_doorbell_applied : (nx (.doorbell 17 0x208) r17).sqTail 17 = 0x208 := by decide
theorem test_doorbell_stale : (nx (.doorbell 17 0x1F0) r17).get (F.PW_RING_STATUS_DB_STALE 2 1) = 1 := by decide
theorem test_doorbell_overflow :
    (nx (.doorbell 17 0x400) r17).ringState 17 = 2 ∧ (nx (.doorbell 17 0x400) r17).get (F.PW_RING_STATUS_CAUSE 2 1) = 2 := by decide
theorem test_completion_word :
    ofLeBytes ((completionBytes 256 0 ⟨0x200, 0x10, false, 3, 69, 0, 0x20060006040, false, false⟩).take 8) = 0x0003011000000200 := by decide
theorem test_event_record : ofLeBytes ((eventBytes ⟨0x13, 12, 0x46, 0, 0⟩ false 0xA41 0).take 8) = 0x00000A41000C0013 := by decide
theorem test_issuance_header :
    ofLeBytes ((recordHead ⟨.reserved, false, 0x10, false, 2, [], none, true, .none⟩ false false false 5213 0).take 8) = 0x0000145D00020010 := by
  decide
theorem test_bank_fail_header :
    ofLeBytes ((recordHead ⟨.internal, true, 0x40, false, 0xFF, [], none, true, .none⟩ true false false 5214 0).take 8) = 0x0000145E00FF0140 := by
  decide

/-! ### Partitions, units and links (the worked examples of chapters 7, 13 and 14) -/

abbrev sealed3 : State := ((State.reset.setLc 0 2).setLc 1 2).setLc 3 2

theorem test_lifecycle : sealed3.reg R.SMB_LIFECYCLE = 0x8A ∧ (sealed3.setLc 2 1).reg R.SMB_LIFECYCLE = 0x9A := by decide
theorem test_credit_pool :
    (let w := State.reset.get (F.FP_BUFW_W 0); (poolSize 3 8 w 0 0, poolSize 3 8 w 0 1)) = (1088, 1088) := by decide
theorem test_lane_map : laneMap (lanesOf 0x1EF) = 0x87653210 := by decide

/-- Cluster 2 with physical engine 3 and physical core 9 defective from manufacture. -/
abbrev fused2 : State := buildMap .stipple (fun p => p == 9) (fun _ => false) 2 (buildMap .hatch (fun p => p == 3) (fun _ => false) 2 State.reset)

theorem test_engine_map : (fused2.reg (R.RPR_HMAP 2)).toNat = 0x0000BA987654C210 := by decide
theorem test_core_map :
    (fused2.reg (R.RPR_SMAP_LO 2)).toNat = 0x0706050403020100 ∧ (fused2.reg (R.RPR_SMAP_HI 2)).toNat = 0x0F0E0D0C0B0A1008 := by decide

/-! ### Printing, loops and test (the worked examples of chapters 16, 18, 19 and 21) -/

theorem test_flag_area :
    (let f : Surf := { (surfOf 2 [0, 0, 0, 0, 0, 0, 0, 0]) with w := 10200, h := 13200, stride := 2560, va := 0x30020000000 }
     (f.tx, f.ty, f.flagSize, f.flagVa)) = (160, 207, 4224, 0x3002203A000) := by decide
theorem test_row_bytes : rowBytes 1 10200 = 2550 := by decide
theorem test_pulse : (st [(F.DRY_PWM_W_2, 5)]).pulseOf 2 2 0 0 = some (1, 5) := by decide

abbrev bowed : State :=
  st [(F.DRY_CFG_BEAMS, 3), (F.DRY_BOW_EN 0, 1), (F.DRY_BOW_X 0, 3400), (F.DRY_BOW_EN 1, 1), (F.DRY_BOW_DIR 1, 1), (F.DRY_BOW_X 1, 6800)]

theorem test_scan_range : bowed.scanRange { aPage with w := 10200, h := 13200 } = (-1, 3299) := by decide
theorem test_row_of_pixel : (bowed.beams : Int) * 100 + 1 + bowed.rowOfs 1 + bowed.shiftAt 5000 = 402 := by decide
theorem test_laser_power :
    (nx (.apcUpdate 1) { (State.reset.put (F.DRY_APC_DAC 1) 2600) with
        dry := { State.reset.dry with sample := [(1, { code := some 1940, target := 2048, gain := 32, tol := 16 })] } }).get (F.DRY_APC_DAC 1) = 2613 := by
  decide
theorem test_product : prodQ (0xBFAE147B - 2 ^ 32) (-136970240) = 550620365 ∧ prodQ (0xDF333333 - 2 ^ 32) (-655360) = 1343488 := by decide
theorem test_attention_plan :
    (let a := attnOf [0x0000001000021C01, 0x3DB504F3, 7, 0, 0, 0, 0, 0] [0x20070000000, 0x20070010000, 0x20070020000, 0, 0xB0, 0, 0, 0]
     (a.slots, a.chunks 128, a.chunks 20)) = (256, 8, 2) := by decide
theorem test_job_config :
    (let j := (State.reset.setReg R.TST_JOB_CFG 0x0027100000140121).jobCfg; (j.kind, j.pattern, j.loop, j.inst, j.duration)) =
      (1, 2, 1, 0x14, 10000) := by decide

/-! ### The premises of every clause are met -/

theorem meets_QueueAndElapsedTime_takesOne :
    (fun (s : State) (t : State) (c : Instr) (rest : List Instr) => s.pending = c :: rest ∧ step s = .next t)
      { State.reset with pending := [.pf0Flr, .crystalStop] } (nx .pf0Flr
      { State.reset with pending := [.crystalStop] }) .pf0Flr [.crystalStop] := ⟨by decide, rfl⟩

theorem meets_QueueAndElapsedTime_idle :
    (fun (s : State) => s.pending = []) State.reset := by decide

theorem meets_QueueAndElapsedTime_stands :
    (fun (s : State) => s.pending = [] ∧ s.fab.waiting = [] ∧ s.timebaseRuns = false) State.reset := by decide

theorem meets_QueueAndElapsedTime_advances :
    (fun (s : State) => s.pending = [] ∧ s.fab.waiting = [] ∧ s.timebaseRuns = true) (st [(F.CKR_ISL_STATE_IN_RESET, 0),
      (F.CKR_ISL_CLK_RUNNING, 2)]) := by decide

theorem meets_OnlyIllFormedCommandsStop_refused :
    (fun (s : State) (c : Instr) => c.wf = false) State.reset (.lineWrite 0 []) := by decide

theorem meets_OnlyIllFormedCommandsStop_total :
    (fun (s : State) (c : Instr) => c.wf = true) State.reset .crystalStop := by decide

theorem meets_SvnRisesOnlyByCommit_step :
    (fun (s : State) (t : State) => step s = .next t) { State.reset with pending := [.crystalStop] } (nx .crystalStop
      State.reset) := rfl

theorem meets_PoolFormKept_step :
    (fun (s : State) (t : State) => s.poolOk = true ∧ step s = .next t) { State.reset with pending := [.crystalStop] } (nx
      .crystalStop State.reset) := ⟨by decide, rfl⟩

theorem meets_DieIdentityKept_step :
    (fun (s : State) (t : State) => step s = .next t) { State.reset with pending := [.crystalStop] } (nx .crystalStop
      State.reset) := rfl

theorem meets_GuardedInstructions_passedOver :
    (fun (s : State) (c : Instr) (w : ProgWord) (p : Prog) => c.wf = true ∧ instructionOf c = some w ∧ s.prog w.ring.val =
      some p ∧ p.at w.word w.ext = true ∧ p.runs w.guard = false) (ks 16 [encR 0x10 ⟨0, true⟩ 3 1 2 0]) (.add 16 ⟨0,
      true⟩ 3 1 2) ⟨16, ⟨0, true⟩, encR 0x10 ⟨0, true⟩ 3 1 2 0, []⟩ (kp [encR 0x10 ⟨0, true⟩ 3 1 2 0]) := by decide

theorem meets_InstructionsWaitForTheirProgram_noProgram :
    (fun (s : State) (c : Instr) (w : ProgWord) => c.wf = true ∧ instructionOf c = some w ∧ s.prog w.ring.val = none)
      State.reset (.add 16 ⟨0, true⟩ 3 1 2) ⟨16, ⟨0, true⟩, encR 0x10 ⟨0, true⟩ 3 1 2 0, []⟩ := by decide

theorem meets_InstructionsWaitForTheirProgram_elsewhere :
    (fun (s : State) (c : Instr) (w : ProgWord) (p : Prog) => c.wf = true ∧ instructionOf c = some w ∧ s.prog w.ring.val =
      some p ∧ p.at w.word w.ext = false) (ks 16 [5]) (.add 16 ⟨0, true⟩ 3 1 2) ⟨16, ⟨0, true⟩, encR 0x10 ⟨0, true⟩ 3 1
      2 0, []⟩ (kp [5]) := by decide

theorem meets_ReservedGranules_reserved :
    (fun (s : State) (g : Nat) (h : Nat) (x : GState) => s.usable ≤ g) State.reset 5 3 .free := by decide

theorem meets_DoorbellsOfStoppedRings_doorbell :
    (fun (s : State) (r : Fin 128) (t : W32) => (s.ringState r.val = 0 ∨ s.ringState r.val = 3)) State.reset 16 5 := by decide

theorem meets_StrayMessages_strays :
    (fun (s : State) (k : Fin 6) (p : Packet) (q : Packet) (a : Packet) => s.takesMessage k.val 0 3 p = true ∧
      s.takesMessage k.val 0 4 q = true ∧ s.takesMessage k.val 0 5 a = true ∧ s.excluded k.val = false ∧ s.secure k.val
      = true ∧ s.isChild k.val = false ∧ s.best.bind (·.link) ≠ some k.val) linked 1 (aMsg 0 ([3] ++ leBytes 111 0))
      (aMsg 0 ([4] ++ leBytes 15 0)) (aMsg 0 ([5] ++ leBytes 31 0)) := by decide

theorem meets_SorrelTimeIsSetAtTheCoordinator_coordinator :
    (fun (s : State) (v : W64) => s.on F.TOPO_STATUS_COORD = true ∧ s.campState = campAssigned) (linked.put
      F.TOPO_STATUS_COORD 1) 0x123456789 := by decide

theorem meets_SorrelTimeIsSetAtTheCoordinator_elsewhere :
    (fun (s : State) (v : W64) => (s.on F.TOPO_STATUS_COORD = false ∨ s.campState ≠ campAssigned)) State.reset 5 := by decide

theorem meets_TombstoneClearing_clears :
    (fun (s : State) (q : StewReq) (n : Nat) (i : Fin 16) => s.asks q 0x81 = true ∧ s.logsNow = true ∧ s.log.halted = false
      ∧ s.log.tombSeq = some n ∧ s.tombState ≠ 0 ∧ seqAfter s.log.retired n = true) tombed aQ 5 3 := by decide

theorem meets_TombstoneClearing_clearRefused :
    (fun (s : State) (q : StewReq) => s.asks q 0x81 = true ∧ s.log.tombSeq.all (fun n => s.tombState == 0 || !seqAfter
      s.log.retired n) = true) asked aQ := by decide

theorem meets_DrainHead_applied :
    (fun (s : State) (v : W32) => s.on F.LOG_DRAIN_CFG_EN = true ∧ s.log.retired = s.get F.LOG_DRAIN_HEAD_HEAD ∧ sub32
      v.toNat (s.get F.LOG_DRAIN_HEAD_HEAD) ≤ sub32 (s.get F.LOG_DRAIN_TAIL_TAIL) (s.get F.LOG_DRAIN_HEAD_HEAD) ∧ sub32
      v.toNat s.log.retired ≤ sub32 s.log.nextSeq s.log.retired ∧ s.log.waiting = [] ∧ s.log.nextSeq < 2 ^ 32 ∧
      s.logUsed ≤ 4096)
      { st [(F.LOG_DRAIN_CFG_EN, 1), (F.LOG_DRAIN_TAIL_TAIL, 2)] with log := { LogState.init with started := true, records := [(0, [1]), (1, [2])], nextSeq := 2 } }
      1 := by decide

theorem meets_DrainHead_headRefused :
    (fun (s : State) (v : W32) => sub32 (s.get F.LOG_DRAIN_TAIL_TAIL) (s.get F.LOG_DRAIN_HEAD_HEAD) < sub32 v.toNat (s.get
      F.LOG_DRAIN_HEAD_HEAD)) State.reset 5 := by decide

theorem meets_PadControlRefusals_padRefused :
    (fun (s : State) (op : Byte) (f : Bool) => ((padControl op.toNat = true ∧ ((∃ p : Fin 16, s.lc p.val ≠ 0) ∨ f = true)) ∨
      (testOnly op.toNat = true ∧ s.on F.GLB_STRAP_TEST_MODE = false))) (State.reset.setLc 2 1) 4 false := by decide

theorem meets_PadControlRefusals_padApplied :
    (fun (s : State) (op : Byte) (f : Bool) => padControl op.toNat = true) State.reset 4 false := by decide

theorem meets_StoresReachOneLine_st :
    (fun (s : State) (t : State) (r : Fin 132) (g : Guard) (a : Fin 32) (b : Fin 32) (sz : Fin 4) (imm : BitVec 36) (p :
      Prog) => s.poolOk = true ∧ s.runsAt r g (encM 0x52 g a b sz imm) [] p = true ∧ exec (.st r g a b sz imm) s = .next
      t) (ksm [encM 0x52 ⟨0, false⟩ 3 0 2 64]) (nx (.st 128 ⟨0, false⟩ 3 0 2 64) (ksm [encM 0x52 ⟨0, false⟩ 3 0 2 64]))
      128 ⟨0, false⟩ 3 0 2 64 (kp [encM 0x52 ⟨0, false⟩ 3 0 2 64]) := ⟨by decide, by decide, nx_eq (by decide)⟩

theorem meets_StoresReachOneLine_dst :
    (fun (s : State) (t : State) (r : Fin 132) (g : Guard) (a : Fin 16) (b : Fin 32) (p : Prog) => s.poolOk = true ∧
      s.runsAt r g (encR 0x41 g a b 0 0) [] p = true ∧ exec (.dst r g a b) s = .next t) (ksm [encR 0x41 ⟨0, false⟩ 3 0 0
      0]) (nx (.dst 128 ⟨0, false⟩ 3 0) (ksm [encR 0x41 ⟨0, false⟩ 3 0 0 0])) 128 ⟨0, false⟩ 3 0 (kp [encR 0x41 ⟨0,
      false⟩ 3 0 0 0]) := ⟨by decide, by decide, nx_eq (by decide)⟩

theorem meets_StoresReachOneLine_atom :
    (fun (s : State) (t : State) (r : Fin 132) (g : Guard) (a : Fin 32) (b : Fin 32) (c : Fin 32) (op : Fin 8) (wide : Bool)
      (p : Prog) => s.poolOk = true ∧ s.runsAt r g (encR 0x53 g a b c (op.val + b2n wide * 16)) [] p = true ∧ exec
      (.kcsAtom r g a b c op wide) s = .next t) (ksm [encR 0x53 ⟨0, false⟩ 3 0 2 0]) (nx (.kcsAtom 128 ⟨0, false⟩ 3 0 2
      0 false) (ksm [encR 0x53 ⟨0, false⟩ 3 0 2 0])) 128 ⟨0, false⟩ 3 0 2 0 false (kp [encR 0x53 ⟨0, false⟩ 3 0 2 0]) := ⟨by decide, by decide, nx_eq (by decide)⟩

theorem meets_StoresReachOneLine_lines :
    (fun (s : State) (t : State) (u : State) (line : Nat) (m : W64) (data : List Byte) => s.poolOk = true ∧ exec (.lineWrite
      line data) s = .next t ∧ exec (.partialLineWrite line m data) s = .next u) memReady (nx (.lineWrite 5
      (List.replicate 64 9)) memReady) (nx (.partialLineWrite 5 3 (List.replicate 64 9)) memReady) 5 3 (List.replicate
      64 9) := ⟨by decide, nx_eq (by decide), nx_eq (by decide)⟩

theorem meets_FramesOfPlainInstructions_rings :
    (fun (s : State) (t : State) (c : Instr) => (frameOf c).parts = [.rings] ∧ (frameOf c).regs.any (·.isEmpty) = true ∧
      exec c s = .next t) (ks 16 [encR 0x10 ⟨0, false⟩ 3 1 2 0]) (nx (.add 16 ⟨0, false⟩ 3 1 2) (ks 16 [encR 0x10 ⟨0,
      false⟩ 3 1 2 0])) (.add 16 ⟨0, false⟩ 3 1 2) := ⟨by decide, by decide, nx_eq (by decide)⟩

theorem meets_FramesWithoutEvents_quiet :
    (fun (s : State) (t : State) (c : Instr) => (frameOf c).parts.contains .events = false ∧ (frameOf c).regs.isSome = true
      ∧ exec c s = .next t) State.reset (nx .vddAonApply State.reset) .vddAonApply := ⟨by decide, by decide, nx_eq (by decide)⟩

theorem meets_FramesWithEvents_telling :
    (fun (s : State) (t : State) (c : Instr) => (frameOf c).parts.contains .events = true ∧ (frameOf c).parts.contains
      .memory = false ∧ (frameOf c).regs.isSome = true ∧ exec c s = .next t) State.reset (nx .trstNAssert State.reset)
      .trstNAssert := ⟨by decide, by decide, by decide, nx_eq (by decide)⟩

theorem meets_FramesWithMemory_storing :
    (fun (s : State) (t : State) (c : Instr) => (frameOf c).parts.contains .memory = true ∧ (frameOf c).regs.isSome = true ∧
      exec c s = .next t) State.reset (nx .lateLineData State.reset) .lateLineData := ⟨by decide, by decide, nx_eq (by decide)⟩

theorem meets_FramesOfResetsAndPackets_any :
    (fun (s : State) (t : State) (c : Instr) => (frameOf c).regs.isNone = true ∧ exec c s = .next t) State.reset (nx .pf0Flr
      State.reset) .pf0Flr := ⟨by decide, nx_eq (by decide)⟩

theorem meets_ResetInputs_porstNFall :
    (fun (s : State) => s.pwr.porstLow = false ∧ s.pwr.aonUp = true)
      { State.reset with pwr := { PwrState.init with porstLow := false } } := by decide

theorem meets_ResetInputs_porstNRise :
    (fun (s : State) (testMode : Bool) (strap : BitVec 4) => s.pwr.porstLow = true ∧ s.pwr.aonUp = true) State.reset true
      0b1011 := by decide

theorem meets_ResetInputs_wrstNPulse :
    (fun (s : State) (cycles : Nat) => 250 ≤ cycles ∧ s.isHeld = false ∧ s.pwr.prologue = none)
      { State.reset with pwr := { PwrState.init with porstLow := false } } 250 := by decide

theorem meets_ResetInputs_wrstNPulseShort :
    (fun (s : State) (cycles : Nat) => cycles < 25) State.reset 24 := by decide

theorem meets_ResetInputs_mrstNPulse :
    (fun (s : State) (cycles : Nat) => 250 ≤ cycles ∧ s.isHeld = false ∧ s.pwr.prologue = none)
      { State.reset with pwr := { PwrState.init with porstLow := false } } 250 := by decide

theorem meets_ResetInputs_warmResetRequest :
    (fun (s : State) => s.isHeld = false ∧ s.pwr.prologue = none)
      { State.reset with pwr := { PwrState.init with porstLow := false } } := by decide

theorem meets_ResetInputs_warmResetDemotes :
    (fun (s : State) => s.isHeld = false ∧ s.pwr.prologue = some .memoryRetaining)
      { State.reset with pwr := { PwrState.init with porstLow := false, prologue := some .memoryRetaining } } := by decide

theorem meets_ResetInputs_mrwResetRequest :
    (fun (s : State) => s.isHeld = false ∧ s.pwr.prologue = none)
      { State.reset with pwr := { PwrState.init with porstLow := false } } := by decide

theorem meets_ResetInputs_smWatchdogExpiry :
    (fun (s : State) => s.trust.running.isSome = true ∧ s.isHeld = false ∧ s.pwr.prologue = none)
      { State.reset with pwr := { PwrState.init with porstLow := false }, trust := { TrustState.init with running := some anImage } } := by decide

theorem meets_ResetInputs_syn11LockTimeout :
    (fun (s : State) => s.clk.syn11Lost = true ∧ s.synState 11 ≠ synLocked ∧ s.isHeld = false ∧ s.pwr.prologue = none)
      { State.reset with pwr := { PwrState.init with porstLow := false }, clk := { ClkState.init with syn11Lost := true } } := by decide

theorem meets_ResetInputs_undervoltage :
    (fun (s : State) (rail : Fin 4) => s.isHeld = false)
      { State.reset with pwr := { PwrState.init with porstLow := false } } 2 := by decide

theorem meets_ResetInputs_crystalStop :
    (fun (s : State) => s.pwr.aonUp = true ∧ s.pwr.xtalRunning = true)
      { State.reset with pwr := { PwrState.init with porstLow := false } } := by decide

theorem meets_ResetInputs_thermalTrip :
    (fun (s : State) => s.isHeld = false ∧ s.pwr.thermtripLow = false)
      { State.reset with pwr := { PwrState.init with porstLow := false } } := by decide

theorem meets_ResetInputs_vddAonLoss :
    (fun (s : State) => s.pwr.aonUp = true) State.reset := by decide

theorem meets_ResetInputs_vddAonApply :
    (fun (s : State) => s.pwr.aonUp = false) { State.reset with pwr := { PwrState.init with aonUp := false } } := by decide

theorem meets_ResetAndStartUpProgress_resetPrologueDoneWarm :
    (fun (s : State) => s.pwr.prologue = some .warm ∧ s.prologueBusy = false)
      { State.reset with pwr := { PwrState.init with porstLow := false, prologue := some .warm } } := by decide

theorem meets_ResetAndStartUpProgress_resetPrologueDoneMrw :
    (fun (s : State) => s.pwr.prologue = some .memoryRetaining ∧ s.prologueBusy = false ∧ s.mrwLost = false)
      { State.reset with pwr := { PwrState.init with porstLow := false, prologue := some .memoryRetaining }, pool := { PoolState.init with cells := [(3, 4)] } } := by decide

theorem meets_ResetAndStartUpProgress_mrwPrologueTimeout :
    (fun (s : State) => s.pwr.prologue = some .memoryRetaining)
      { State.reset with pwr := { PwrState.init with porstLow := false, prologue := some .memoryRetaining } } := by decide

theorem meets_ResetAndStartUpProgress_fabricReady :
    (fun (s : State) (held : List Nat) => s.get F.CKR_START_STAGE_STAGE = 6 ∧ s.fab.assigned = true ∧ s.get
      F.TOPO_STATUS_STATE = 3 ∧ s.get F.TOPO_SRL_STATUS_STATE = 3 ∧ s.linksReady held = true)
      { st [(F.CKR_START_STAGE_STAGE, 6), (F.TOPO_STATUS_STATE, 3), (F.TOPO_SRL_STATUS_STATE, 3)] with fab := { FabState.init with assigned := true } }
      [] := by decide

theorem meets_ResetAndStartUpProgress_bootFail :
    (fun (s : State) (keysOk : Bool) => s.get F.CKR_START_STAGE_STAGE = 2 ∧ s.trust.udsLocked = false ∧ s.starting = true ∧
      s.trust.flash = [])
      { st [(F.CKR_START_STAGE_STAGE, 2)] with pwr := { PwrState.init with porstLow := false }, trust := { TrustState.init with flash := [] } }
      true := by decide

theorem meets_ResetAndStartUpProgress_firmwareImageLoaded :
    (fun (s : State) (a : Image) (b : Image) (keysOk : Bool) => s.get F.CKR_START_STAGE_STAGE = 2 ∧ s.trust.udsLocked =
      false ∧ s.starting = true ∧ s.trust.fresh = true)
      { st [(F.CKR_START_STAGE_STAGE, 2)] with pwr := { PwrState.init with porstLow := false } } anImage anImage true := by decide

theorem meets_ResetAndStartUpProgress_selfTestComplete :
    (fun (s : State) => s.get F.CKR_START_STAGE_STAGE = 4 ∧ s.starting = true ∧ (List.range 9).all (fun n => s.synState n ==
      synLocked) = true ∧ s.startEntries = [])
      { st ((F.CKR_START_STAGE_STAGE, 4) :: (List.range 9).map (fun n => (F.CKR_SYN_STATUS_STATE n, 2))) with pwr := { PwrState.init with porstLow := false } } := by decide

theorem meets_ResetAndStartUpProgress_islandResetAbsent :
    (fun (s : State) (n : Fin 25) => s.hasPress = false ∧ (n.val < 14 ∨ (20 ≤ n.val ∧ n.val < 24)))
      { State.reset with fuses := { Fuses.init with part := .kqn1610 } } 21 := by decide

theorem meets_SynthesizerConfiguration_synEnable :
    (fun (s : State) (n : Fin 12) => n.val ≠ 9 ∧ n.val ≠ 10 ∧ s.synState n = synOff ∧ synSettingOk n (s.get
      (F.CKR_SYN_CTL_NINT n)) (s.get (F.CKR_SYN_FRAC_NFRAC n)) (s.get (F.CKR_SYN_CTL_ODIV n)) = true) State.reset 4 := by decide

theorem meets_SynthesizerConfiguration_synEnableBySteward :
    (fun (s : State) (n : Fin 12) => (n.val < 4 ∨ n.val = 8) ∧ synSettingOk n (s.get (F.CKR_SYN_CTL_NINT n)) (s.get
      (F.CKR_SYN_FRAC_NFRAC n)) (s.get (F.CKR_SYN_CTL_ODIV n)) = true ∧ s.overFused n (s.get (F.CKR_SYN_CTL_NINT n))
      (s.get (F.CKR_SYN_FRAC_NFRAC n)) (s.get (F.CKR_SYN_CTL_ODIV n)) = false) State.reset 3 := by decide

theorem meets_SynthesizerConfiguration_synDisable :
    (fun (s : State) (n : Fin 12) => n.val ≠ 9 ∧ n.val ≠ 10 ∧ s.synState n ≠ synOff ∧ synSettingOk n (s.get
      (F.CKR_SYN_CTL_NINT n)) (s.get (F.CKR_SYN_FRAC_NFRAC n)) (s.get (F.CKR_SYN_CTL_ODIV n)) = true ∧ (synQuad n).all
      (fun q => !s.memStarted || s.quadMode q == .selfRefresh || s.quadMode q == .expired) = true) (st
      [(F.CKR_SYN_STATUS_STATE 4, 2)]) 4 := by decide

theorem meets_SynthesizerConfiguration_synDisableQuiesces :
    (fun (s : State) (q : Fin 4) => s.synState (4 + q.val) ≠ synOff ∧ synSettingOk (4 + q.val) (s.get (F.CKR_SYN_CTL_NINT (4
      + q.val))) (s.get (F.CKR_SYN_FRAC_NFRAC (4 + q.val))) (s.get (F.CKR_SYN_CTL_ODIV (4 + q.val))) = true ∧
      s.memStarted = true ∧ s.quadMode q = .running) (st [(F.CKR_SYN_STATUS_STATE 5, 2), (F.MEMG_CFG_SPEED, 1)]) 1 := by decide

theorem meets_SynthesizerConfiguration_synConfigGuard :
    (fun (s : State) (n : Fin 12) (v : W32) => n.val ≠ 9 ∧ n.val ≠ 10 ∧ 250 ≤ v.toNat % 65536 ∧ v.toNat % 65536 ≤ 2000)
      State.reset 4 1000 := by decide

theorem meets_SynthesizerConfiguration_synConfigLock :
    (fun (s : State) (n : Fin 12) (v : W32) => n.val ≠ 9 ∧ n.val ≠ 10 ∧ 16 ≤ v.toNat / 65536 ∧ 1 ≤ v.toNat % 256 ∧
      s.synState n = synOff) State.reset 4 0x200010 := by decide

theorem meets_SynthesizerConfiguration_synConfigCtl :
    (fun (s : State) (n : Fin 12) (v : W32) => n.val ≠ 9 ∧ n.val ≠ 10 ∧ synSettingOk n (ctlOf n v s).2.2 (s.get
      (F.CKR_SYN_FRAC_NFRAC n)) (ctlOf n v s).2.1 = true) State.reset 4 0x80043000 := by decide

theorem meets_SynthesizerConfiguration_synConfigCtlRefused :
    (fun (s : State) (n : Fin 12) (v : W32) => n.val ≠ 9 ∧ n.val ≠ 10 ∧ synSettingOk n (ctlOf n v s).2.2 (s.get
      (F.CKR_SYN_FRAC_NFRAC n)) (ctlOf n v s).2.1 = false) State.reset 4 0x80FF3000 := by decide

theorem meets_SynthesizerConfiguration_synCtlStewardWrite :
    (fun (s : State) (n : Fin 12) (v : W32) => (n.val < 4 ∨ n.val = 8) ∧ synSettingOk n (ctlOf n v s).2.2 (s.get
      (F.CKR_SYN_FRAC_NFRAC n)) (ctlOf n v s).2.1 = true ∧ s.overFused n (ctlOf n v s).2.2 (s.get (F.CKR_SYN_FRAC_NFRAC
      n)) (ctlOf n v s).2.1 = false) State.reset 3 0x80043000 := by decide

theorem meets_SynthesizerConfiguration_synCtlStewardRefused :
    (fun (s : State) (n : Fin 12) (v : W32) => (n.val < 4 ∨ n.val = 8) ∧ s.overFused n (ctlOf n v s).2.2 (s.get
      (F.CKR_SYN_FRAC_NFRAC n)) (ctlOf n v s).2.1 = true) State.reset 3 0x80025000 := by decide

theorem meets_SynthesizerConfiguration_synCtlSmApply :
    (fun (s : State) (n : Fin 12) (v : W32) => (s.syn n).pendCtl = some v ∧ s.needsVolts n (ctlOf n v s).2.1 (ctlOf n v
      s).2.2 = false ∧ synSettingOk n (ctlOf n v s).2.2 (s.get (F.CKR_SYN_FRAC_NFRAC n)) (ctlOf n v s).2.1 = true)
      (State.reset.setSyn 3 { State.reset.syn 3 with pendCtl := some (State.reset.ctlWithEn 3 true) }) 3
      (State.reset.ctlWithEn 3 true) := by decide

theorem meets_SynthesizerConfiguration_avsbusAck :
    (fun (s : State) => s.on F.PWR_AVS_STATUS_SM_OWNED = true ∧ 650 ≤ s.get F.PWR_AVS_STATUS_VCORE_MV ∧ s.get
      F.PWR_AVS_STATUS_VCORE_MV + 5 ≤ 850) (st [(F.PWR_AVS_STATUS_SM_OWNED, 1), (F.PWR_AVS_STATUS_VCORE_MV, 750)]) := by decide

theorem meets_SynthesizerConfiguration_avsbusAckDown :
    (fun (s : State) => s.on F.PWR_AVS_STATUS_SM_OWNED = true ∧ 655 ≤ s.get F.PWR_AVS_STATUS_VCORE_MV ∧ s.get
      F.PWR_AVS_STATUS_VCORE_MV ≤ 855 ∧ [0, 1, 2, 3, 8].all (fun n => s.synState n == synOff) = true) (st
      [(F.PWR_AVS_STATUS_SM_OWNED, 1), (F.PWR_AVS_STATUS_VCORE_MV, 750)]) := by decide

theorem meets_SynthesizerConfiguration_avsCommandTimeout :
    (fun (s : State) => s.on F.PWR_AVS_STATUS_SM_OWNED = true) (st [(F.PWR_AVS_STATUS_SM_OWNED, 1),
      (F.PWR_AVS_STATUS_VCORE_MV, 750)]) := by decide

theorem meets_SynthesizerLockAndCoast_synLockDeclared :
    (fun (s : State) (n : Fin 12) => s.synState n = synAcquiring ∧ s.clk.refPresent = true ∧ n.val ≠ 11) (st
      [(F.CKR_SYN_STATUS_STATE 4, 1)]) 4 := by decide

theorem meets_SynthesizerLockAndCoast_syn11LockDeclared :
    (fun (s : State) => s.synState 11 = synAcquiring ∧ s.clk.refPresent = true ∧ s.starting = true ∧ s.get
      F.CKR_START_STAGE_STAGE = 1 ∧ s.clk.syn11Lost = false)
      ({ st [(F.CKR_SYN_STATUS_STATE 11, 1), (F.CKR_START_STAGE_STAGE, 1)] with pwr := { PwrState.init with porstLow := false } }) := by decide

theorem meets_SynthesizerLockAndCoast_synLossOfLock :
    (fun (s : State) (n : Fin 12) => s.synState n = synLocked) (st [(F.CKR_SYN_STATUS_STATE 4, 2)]) 4 := by decide

theorem meets_SynthesizerLockAndCoast_synLossOfReference :
    (fun (s : State) (n : Fin 12) => s.synState n = synLocked) (st [(F.CKR_SYN_STATUS_STATE 4, 2)]) 4 := by decide

theorem meets_SynthesizerLockAndCoast_synRelock :
    (fun (s : State) (n : Fin 12) => (s.synState n = synCoasting ∨ s.synState n = synGated) ∧ s.clk.refPresent = true) (st
      [(F.CKR_SYN_STATUS_STATE 4, 3)]) 4 := by decide

theorem meets_SynthesizerLockAndCoast_monitorWindowLocked :
    (fun (s : State) (n : Fin 12) (count : Nat) (same : Bool) => s.synState n = synLocked ∧ (s.syn n).pureWin = true ∧ n.val
      ≠ 10) ((st [(F.CKR_SYN_STATUS_STATE 4, 2)]).setSyn 4 { Syn.init with pureWin := true }) 4 100000 false := by decide

theorem meets_SynthesizerLockAndCoast_monitorWindowGates :
    (fun (s : State) (n : Fin 12) (count : Nat) (c : Nat) => n.val < 4 ∧ s.synState n = synCoasting ∧ (s.syn n).pureWin =
      true ∧ (s.syn n).refCount = some c ∧ s.get (F.CKR_SYN_GUARD_GUARD_PPM n) < (driftOf count c 1).natAbs) ((st
      [(F.CKR_SYN_STATUS_STATE 3, 3)]).setSyn 3 { Syn.init with pureWin := true, refCount := some 1000000 }) 3 900000
      1000000 := by decide

theorem meets_SynthesizerLockAndCoast_synCoastLimit :
    (fun (s : State) (n : Fin 12) => (s.synState n = synCoasting ∨ s.synState n = synGated) ∧ s.on
      (F.CKR_SYN_STATUS_COAST_LIMIT n) = false) (st [(F.CKR_SYN_STATUS_STATE 4, 3)]) 4 := by decide

theorem meets_SynthesizerLockAndCoast_clkoutWrite :
    (fun (s : State) (n : Fin 4) (v : W32) => bits v.toNat 17 16 ≠ 3 ∧ bits v.toNat 15 0 ≠ 0 ∧ s.clkoutSource (bits v.toNat
      17 16) ≤ clkoutMax (bits v.toNat 27 26) * bits v.toNat 15 0) State.reset 0 0x80010001 := by decide

theorem meets_SynthesizerLockAndCoast_clkoutTooFast :
    (fun (s : State) (n : Fin 4) (v : W32) => bits v.toNat 17 16 ≠ 3 ∧ bits v.toNat 15 0 ≠ 0 ∧ clkoutMax (bits v.toNat 27
      26) * bits v.toNat 15 0 < s.clkoutSource (bits v.toNat 17 16)) State.reset 0 0x80020001 := by decide

theorem meets_SynthesizerLockAndCoast_quadrantHoldExpiry :
    (fun (s : State) (q : Fin 4) => s.quadMode q = .selfRefresh ∧ s.synState (4 + q) ≠ synLocked ∧ s.pool.held = [])
      (setQuad 2 .selfRefresh State.reset) 2 := by decide

theorem meets_SynthesizerLockAndCoast_quadrantQuiesced :
    (fun (s : State) (q : Fin 4) => s.quadMode q = .quiescing) (setQuad 2 .quiescing State.reset) 2 := by decide

theorem meets_SynthesizerLockAndCoast_quadrantRecentreDone :
    (fun (s : State) (q : Fin 4) => s.quadMode q = .recentring ∧ s.pool.held = []) (setQuad 2 .recentring State.reset) 2 := by decide

theorem meets_HostLinkAndFunctions_linkUp :
    (fun (s : State) (w : BitVec 6) (x : BitVec 4) (n : Fin 17) (mse : Bool) => s.isHeld = false ∧ 5 ≤ s.get
      F.CKR_START_STAGE_STAGE ∧ s.get F.CKR_START_STAGE_STAGE ≠ 0xE0)
      { st [(F.CKR_START_STAGE_STAGE, 5)] with pwr := { PwrState.init with porstLow := false } } 16 5 4 true := by decide

theorem meets_HostLinkAndFunctions_linkUpBootFail :
    (fun (s : State) (w : BitVec 6) (x : BitVec 4) (n : Fin 17) (mse : Bool) => s.isHeld = false ∧ s.get
      F.CKR_START_STAGE_STAGE = 0xE0)
      { st [(F.CKR_START_STAGE_STAGE, 0xE0)] with pwr := { PwrState.init with porstLow := false } } 16 5 4 true := by decide

theorem meets_HostLinkAndFunctions_linkUpEarly :
    (fun (s : State) (w : BitVec 6) (x : BitVec 4) (n : Fin 17) (mse : Bool) (en : List (Fin 17)) (ms : List (Fin 17)) =>
      s.isHeld = false ∧ s.get F.CKR_START_STAGE_STAGE < 5)
      { State.reset with pwr := { PwrState.init with porstLow := false } } 16 5 4 true [] [] := by decide

theorem meets_HostLinkAndFunctions_vfFlr :
    (fun (s : State) (p : Fin 16) => p.val < s.evt.numVfs ∧ s.lc p.val ≠ 0) (live 2 State.reset) 2 := by decide

theorem meets_HostLinkAndFunctions_vfFlrNoPartition :
    (fun (s : State) (p : Fin 16) => s.lc p.val = 0) State.reset 3 := by decide

theorem meets_HostLinkAndFunctions_vfFlrNoFunction :
    (fun (s : State) (p : Fin 16) => s.evt.numVfs ≤ p.val) State.reset 3 := by decide

theorem meets_HostLinkAndFunctions_evtQueueEnable :
    (fun (s : State) (size : BitVec 5) (ctx : BitVec 12) => s.on F.EVT_Q_CFG_EN = false) State.reset 6 0 := by decide

theorem meets_HostLinkAndFunctions_partEvtQueueEnable :
    (fun (s : State) (p : Fin 16) (size : BitVec 5) (ctx : BitVec 12) => s.window p.val = true ∧ s.on (F.PW_EVT_Q_CFG_EN
      p.val) = false) (live 2 State.reset) 2 6 5 := by decide

theorem meets_HostLinkAndFunctions_partEvtQueueNoWindow :
    (fun (s : State) (p : Fin 16) (size : BitVec 5) (ctx : BitVec 12) (v : W32) => s.window p.val = false) State.reset 2 6 5
      7 := by decide

theorem meets_HostLinkAndFunctions_evtHeadTaken :
    (fun (s : State) (v : W32) => sub32 v.toNat (s.get F.EVT_Q_HEAD_HEAD) ≤ sub32 (s.get F.EVT_Q_TAIL_TAIL) (s.get
      F.EVT_Q_HEAD_HEAD)) (st [(F.EVT_Q_TAIL_TAIL, 9)]) 5 := by decide

theorem meets_HostLinkAndFunctions_evtHeadRefused :
    (fun (s : State) (v : W32) => sub32 (s.get F.EVT_Q_TAIL_TAIL) (s.get F.EVT_Q_HEAD_HEAD) < sub32 v.toNat (s.get
      F.EVT_Q_HEAD_HEAD)) State.reset 5 := by decide

theorem meets_HostLinkAndFunctions_partEvtHeadTaken :
    (fun (s : State) (p : Fin 16) (v : W32) => s.window p.val = true ∧ sub32 v.toNat (s.get (F.PW_EVT_Q_HEAD_HEAD p.val)) ≤
      sub32 (s.get (F.PW_EVT_Q_TAIL_TAIL p.val)) (s.get (F.PW_EVT_Q_HEAD_HEAD p.val))) (live 2 (st
      [(F.PW_EVT_Q_TAIL_TAIL 2, 9)])) 2 5 := by decide

theorem meets_HostLinkAndFunctions_unmaskPending :
    (fun (s : State) (vec : Fin 64) => bit (s.get (msixPba 0)) vec.val = true ∧ s.evt.msixEn.contains 0 = true ∧
      s.evt.msixMask.contains 0 = false ∧ s.fnPresent 0 = true)
      { st [(msixPba 0, 32)] with evt := { EvtState.init with msixEn := [0] }, pwr := { PwrState.init with pcieUp := true } }
      5 := by decide

theorem meets_HostLinkAndFunctions_unmaskQuiet :
    (fun (s : State) (vec : Fin 64) => bit (s.get (msixPba 0)) vec.val = false) State.reset 5 := by decide

theorem meets_HostLinkAndFunctions_unmaskNoWindow :
    (fun (s : State) (fn : Fin 17) (vec : Fin 64) => 0 < fn.val ∧ vec.val < 12 ∧ s.window (fn.val - 1) = false) State.reset
      3 2 := by decide

theorem meets_SidebandPowerAndTemperature_i3cAddress :
    (fun (s : State) (x : BitVec 7) (y : BitVec 7) => s.evt.i3cAddr = none) State.reset 9 10 := by decide

theorem meets_SidebandPowerAndTemperature_mctpSetEid :
    (fun (s : State) (t : Fin 3) (e : Byte) => t.val < 2) State.reset 1 9 := by decide

theorem meets_SidebandPowerAndTemperature_mctpSpdm :
    (fun (s : State) (t : Fin 3) (b : List Byte) => t.val < 2) State.reset 1 [3] := by decide

theorem meets_SidebandPowerAndTemperature_mctpPcieDown :
    (fun (s : State) (m : MctpMsg) => s.pwr.pcieUp = false) State.reset .control := by decide

theorem meets_SidebandPowerAndTemperature_telemetry :
    (fun (s : State) (t : Fin 3) => t.val < 2) State.reset 0 := by decide

theorem meets_SidebandPowerAndTemperature_alertAck :
    (fun (s : State) (t : Fin 3) => t.val < 2) State.reset 0 := by decide

theorem meets_SidebandPowerAndTemperature_currentRead :
    (fun (s : State) (c : BitVec 16) => s.on F.PWR_AVS_STATUS_SM_OWNED = true ∧ c.toNat * s.get F.PWR_AVS_STATUS_VCORE_MV %
      1000 = 0) (st [(F.PWR_AVS_STATUS_SM_OWNED, 1), (F.PWR_AVS_STATUS_VCORE_MV, 750)]) 1000 := by decide

theorem meets_SidebandPowerAndTemperature_currentReadNotOwned :
    (fun (s : State) (c : BitVec 16) => s.on F.PWR_AVS_STATUS_SM_OWNED = false) State.reset 100 := by decide

theorem meets_SidebandPowerAndTemperature_sensors :
    (fun (s : State) (rs : List (Option (BitVec 12))) => rs.length = 15 ∧ s.isHeld = false ∧ rs.any (fun r => r.any (fun v
      => decide (920 < toSigned 12 v.toNat))) = false)
      { State.reset with pwr := { PwrState.init with porstLow := false } } [some 300, none, some 400, none, none, none,
      none, none, none, none, none, none, none, none, none] := by decide

theorem meets_SidebandPowerAndTemperature_sensorsTrip :
    (fun (s : State) (rs : List (Option (BitVec 12))) => rs.length = 15 ∧ s.isHeld = false ∧ rs.any (fun r => r.any (fun v
      => decide (920 < toSigned 12 v.toNat))) = true)
      { State.reset with pwr := { PwrState.init with porstLow := false } } [some 921, none, some 400, none, none, none,
      none, none, none, none, none, none, none, none, none] := by decide

theorem meets_SidebandPowerAndTemperature_sensorsHeld :
    (fun (s : State) (rs : List (Option (BitVec 12))) => rs.length = 15 ∧ s.isHeld = true) State.reset [none, none, some
      400, none, none, none, none, none, none, none, none, none, none, none, none] := by decide

theorem meets_LineRequests_lineReadZero :
    (fun (s : State) (line : Nat) => s.lineExists line = true ∧ s.avail line = .serve ∧ s.pool.l2ue = [] ∧
      s.pool.l2.contains (line / 16777216) = false) memReady 5 := by decide

theorem meets_LineRequests_lineReadStored :
    (fun (s : State) (line : Nat) => s.lineExists line = true ∧ s.avail line = .serve ∧ s.pool.l2ue = [] ∧ s.pool.sym = [] ∧
      s.pool.l2.contains (line / 16777216) = true ∧ s.pool.l1.contains (line / 1024) = true ∧ s.pool.l0.contains line =
      true) { memReady with pool := { memReady.pool with l2 := [0], l1 := [0], l0 := [5], cells := [(321, 7)] } } 5 := by decide

theorem meets_LineRequests_lineWrite :
    (fun (s : State) (line : Nat) (data : List Byte) => s.lineExists line = true ∧ s.avail line = .serve ∧ s.pool.l2ue = []
      ∧ s.pool.sym = [] ∧ s.poolOk = true ∧ data.length = 64) memReady 5 (List.replicate 64 9) := by decide

theorem meets_LineRequests_partialLineWrite :
    (fun (s : State) (line : Nat) (m : W64) (data : List Byte) => s.lineExists line = true ∧ s.avail line = .serve ∧
      s.pool.l2ue = [] ∧ s.pool.sym = [] ∧ s.poolOk = true ∧ data.length = 64 ∧ m ≠ 0 ∧ s.pool.l2.contains (line /
      16777216) = false) memReady 5 3 (List.replicate 64 9) := by decide

theorem meets_LineRequests_partialLineWriteNone :
    (fun (s : State) (line : Nat) (data : List Byte) => s.lineExists line = true ∧ s.avail line = .serve ∧ data.length = 64)
      memReady 5 (List.replicate 64 9) := by decide

theorem meets_LineRequests_lineHeld :
    (fun (s : State) (line : Nat) (data : List Byte) => s.lineExists line = true ∧ s.avail line = .hold ∧ data.length = 64)
      (setQuad 0 .selfRefresh (setQuad 1 .selfRefresh (setQuad 2 .selfRefresh (setQuad 3 .selfRefresh memReady)))) 5
      (List.replicate 64 9) := by decide

theorem meets_LineRequests_lineUnavailable :
    (fun (s : State) (line : Nat) => s.lineExists line = true ∧ s.avail line = .unavailable) (memReady.put
      F.CKR_START_STAGE_MEM_FAIL 1) 5 := by decide

theorem meets_LineRequests_noSuchLine :
    (fun (s : State) (line : Nat) (errs : List (Nat × List (Nat × Nat))) (bad : List Nat) (m : W64) (data : List Byte) =>
      s.usable * 16777216 ≤ line ∧ data.length = 64) State.reset 0 [] [] 0 (List.replicate 64 9) := by decide

theorem meets_LineRequests_memRequestHoldExpiry :
    (fun (s : State) (k : Nat) (x : HeldReq) => s.pool.held[k]? = some x)
      { State.reset with pool := { PoolState.init with held := [⟨5, .read⟩] } } 0 ⟨5, .read⟩ := by decide

theorem meets_MemoryUpkeep_memoryStart :
    (fun (s : State) (x : DimmPop) => x.inTable = true ∧ x.rows ≠ 0 ∧ s.memStarted = false ∧ s.get F.CKR_START_STAGE_STAGE =
      5 ∧ s.pool.saved = none) (st [(F.CKR_START_STAGE_STAGE, 5)]) aPop := by decide

theorem meets_MemoryUpkeep_channelTrainingDone :
    (fun (s : State) (ch : Fin 24) => s.pool.training.contains ch.val = true ∧ 2 ≤ (NSet.del s.pool.training ch.val).length)
      { State.reset with pool := { PoolState.init with training := [3, 4, 5] } } 3 := by decide

theorem meets_MemoryUpkeep_lastChannelTrained :
    (fun (s : State) (ch : Fin 24) => s.pool.training = [ch.val] ∧ (List.range 24).all (fun c => c == ch.val || s.get
      (F.MC_STATUS_STATE c) == 2) = true ∧ s.pool.held = [])
      { st ((List.range 24).map (fun c => (F.MC_STATUS_STATE c, 2))) with pool := { PoolState.init with training := [3] } }
      3 := by decide

theorem meets_MemoryUpkeep_channelTrainingFailed :
    (fun (s : State) (ch : Fin 24) => s.pool.training = [ch.val] ∧ s.pool.held = [])
      { State.reset with pool := { PoolState.init with training := [3] } } 3 := by decide

theorem meets_MemoryUpkeep_lazyCleanVisit :
    (fun (s : State) => s.pool.cleanPos < s.usable ∧ s.on F.CKR_START_STAGE_MEM_READY = true ∧ s.pool.l2.contains
      s.pool.cleanPos = false ∧ s.pool.l2ue = []) memReady := by decide

theorem meets_MemoryUpkeep_patrolScrubEndsPass :
    (fun (s : State) => s.on F.MEMG_SCRUB_EN = true ∧ s.pool.l0 = []) (memReady.put F.MEMG_SCRUB_EN 1) := by decide

theorem meets_MemoryUpkeep_patrolScrubRead :
    (fun (s : State) (line : Nat) => s.on F.MEMG_SCRUB_EN = true ∧ s.pool.l0 = [line] ∧ s.pool.scrubPos ≤ line ∧ s.scrubable
      line = true ∧ s.avail line = .serve ∧ s.pool.sym = [])
      { memReady.put F.MEMG_SCRUB_EN 1 with pool := { memReady.pool with l2 := [0], l1 := [0], l0 := [5] } } 5 := by decide

theorem meets_MemoryUpkeep_mcCmdRetire :
    (fun (s : State) (ch : Fin 24) (e : Fin 8) (d : Fin 10) => s.retiredDev ch e = none) State.reset 3 2 7 := by decide

theorem meets_MemoryUpkeep_softPprDone :
    (fun (s : State) (k : Nat) (x : RowRepair) => s.pool.softRun[k]? = some x ∧ s.quadMode (quadOf x.addr.ch) = .running ∧
      s.pool.held = []) { State.reset with pool := { PoolState.init with softRun := [aRow] } } 0 aRow := by decide

theorem meets_MemoryUpkeep_hardPprCmd :
    (fun (s : State) (ch : Fin 24) => s.on F.MEMG_PPR_STATUS_BUSY = false) State.reset 3 := by decide

theorem meets_MemoryUpkeep_hardPprDone :
    (fun (s : State) (ch : Fin 24) => s.pool.hardCh = some ch.val ∧ s.pool.held = [])
      { st [(F.MEMG_PPR_STATUS_BUSY, 1), (F.MEMG_PPR_STATUS_SOFT, 1)] with pool := { PoolState.init with hardCh := some 0, soft := [aRow] } }
      0 := by decide

theorem meets_MemoryUpkeep_rcdAlert :
    (fun (s : State) (ch : Fin 24) => Tab.get 0 s.pool.retrain ch = 0) State.reset 3 := by decide

theorem meets_MemoryUpkeep_channelRetrainDone :
    (fun (s : State) (ch : Fin 24) => 0 < Tab.get 0 s.pool.retrain ch ∧ s.pool.held = [])
      { State.reset with pool := { PoolState.init with retrain := [(3, 2)] } } 3 := by decide

theorem meets_TranslationCommands_gtEntryRewrite :
    (fun (s : State) (x : Fin 16384) => s.xlt.gtUe.contains x.val = true)
      { State.reset with xlt := { XltState.init with gtUe := [3] } } 3 := by decide

theorem meets_TranslationCommands_pwInvOverflow :
    (fun (s : State) (n : Fin 16) (w3 : W64) => s.window n = true ∧ 16 ≤ s.get (F.PW_INV_STATUS_PENDING n)) (live 2 (st
      [(F.PW_INV_STATUS_PENDING 2, 16)])) 2 0 := by decide

theorem meets_TranslationCommands_pwInvSubmit :
    (fun (s : State) (n : Fin 16) (w3 : W64) => s.window n = true ∧ s.get (F.PW_INV_STATUS_PENDING n) < 16 ∧ s.xlt.acks =
      []) (live 2 (st [(F.PW_INV_STATUS_PENDING 2, 3)])) 2 0 := by decide

theorem meets_TranslationCommands_invalidationAck :
    (fun (s : State) (n : Fin 16) (a : InvAck) (rest : List InvAck) => takeAck n s.xlt.acks = some (a, rest) ∧ a.from_ =
      .window ∧ 0 < s.get (F.PW_INV_STATUS_PENDING n))
      { st [(F.PW_INV_STATUS_PENDING 2, 3)] with xlt := { XltState.init with acks := [anAck] } } 2 anAck [] := by decide

theorem meets_TranslationCommands_pwXltCtxWrite :
    (fun (s : State) (n : Fin 16) (v : W64) => s.window n = true) (live 2 State.reset) 2 0x12345678003 := by decide

theorem meets_PartitionInstructions_pform :
    (fun (s : State) (r : Fin 132) (g : Guard) (b : Fin 32) (p : Prog) => s.runsAt r g (encR 0xA0 g 0 b 0 0) [] p = true ∧
      128 ≤ r.val ∧ (p.sreg b).toNat < 16 ∧ s.lc (p.sreg b).toNat = 0 ∧ s.mayForm = true ∧ s.tst.pads = none)
      ({ (ks 128 [encR 0xA0 ⟨0, false⟩ 0 (1) 0 0]) with trust := { TrustState.init with owner := some ⟨1, 2, []⟩ } })
      128 ⟨0, false⟩ (1) (kp [encR 0xA0 ⟨0, false⟩ 0 (1) 0 0]) := by decide

theorem meets_PartitionInstructions_pseal :
    (fun (s : State) (r : Fin 132) (g : Guard) (b : Fin 32) (p : Prog) => s.runsAt r g (encR 0xA1 g 0 b 0 0) [] p = true ∧
      128 ≤ r.val ∧ (p.sreg b).toNat < 16 ∧ s.lc (p.sreg b).toNat = 1) ((ks 128 [encR 0xA1 ⟨0, false⟩ 0 (1) 0 0]).setLc
      5 1) 128 ⟨0, false⟩ (1) (kp [encR 0xA1 ⟨0, false⟩ 0 (1) 0 0]) := by decide

theorem meets_PartitionInstructions_prst :
    (fun (s : State) (r : Fin 132) (g : Guard) (b : Fin 32) (p : Prog) => s.runsAt r g (encR 0xA2 g 0 b 0 0) [] p = true ∧
      128 ≤ r.val ∧ (p.sreg b).toNat < 16 ∧ s.lc (p.sreg b).toNat = 2) ((ks 128 [encR 0xA2 ⟨0, false⟩ 0 (1) 0 0]).setLc
      5 2) 128 ⟨0, false⟩ (1) (kp [encR 0xA2 ⟨0, false⟩ 0 (1) 0 0]) := by decide

theorem meets_PartitionInstructions_ptear :
    (fun (s : State) (r : Fin 132) (g : Guard) (t : Fin 16) (a : Fin 32) (p : Prog) => s.runsAt r g (encU 0xA3 g 0 0 t a 0 0
      0) [] p = true ∧ 128 ≤ r.val ∧ (p.sreg a).toNat < 16 ∧ s.lc (p.sreg a).toNat = 2 ∧ (p.tally t).st = 0) ((ks 128
      [encU 0xA3 ⟨0, false⟩ 0 0 (0) (1) 0 0 0]).setLc 5 2) 128 ⟨0, false⟩ (0) (1) (kp [encU 0xA3 ⟨0, false⟩ 0 0 (0) (1)
      0 0 0]) := by decide

theorem meets_PartitionInstructions_gassign :
    (fun (s : State) (r : Fin 132) (g : Guard) (b : Fin 32) (c : Fin 32) (p : Prog) => s.runsAt r g (encR 0xA4 g 0 b c 0) []
      p = true ∧ 128 ≤ r.val ∧ (p.sreg c).toNat < 16 ∧ s.lc (p.sreg c).toNat = 2 ∧ s.gran (p.sreg b).toNat = .free)
      (((ks 128 [encR 0xA4 ⟨0, false⟩ 0 (1) (2) 0]).put F.MEMG_GRANULES_USABLE 100).setLc 7 2) 128 ⟨0, false⟩ (1) (2)
      (kp [encR 0xA4 ⟨0, false⟩ 0 (1) (2) 0]) := by decide

theorem meets_PartitionInstructions_grelease :
    (fun (s : State) (r : Fin 132) (g : Guard) (t : Fin 16) (a : Fin 32) (p : Prog) => s.runsAt r g (encU 0xA5 g 0 0 t a 0 0
      0) [] p = true ∧ 128 ≤ r.val ∧ s.gran (p.sreg a).toNat = .owned 7 ∧ (p.tally t).st = 0) (((ks 128 [encU 0xA5 ⟨0,
      false⟩ 0 0 (0) (1) 0 0 0]).put F.MEMG_GRANULES_USABLE 100).setGran 5 (.owned 7)) 128 ⟨0, false⟩ (0) (1) (kp [encU
      0xA5 ⟨0, false⟩ 0 0 (0) (1) 0 0 0]) := by decide

theorem meets_PartitionInstructions_lease :
    (fun (s : State) (r : Fin 132) (g : Guard) (b : Fin 32) (c : Fin 32) (p : Prog) => s.runsAt r g (encR 0xAB g 0 b c 0) []
      p = true ∧ 128 ≤ r.val ∧ (p.sreg b).toNat < 2 ∧ (p.sreg c).toNat % 256 = 255) (onRing 128
      { kp [encR 0xAB ⟨0, false⟩ 0 0 3 0] with s := [(3, 255)] }) 128 ⟨0, false⟩ (0) (3)
      { kp [encR 0xAB ⟨0, false⟩ 0 0 3 0] with s := [(3, 255)] } := by decide

theorem meets_RegionAndMonitorInstructions_rcreate :
    (fun (s : State) (r : Fin 132) (g : Guard) (b : Fin 32) (p : Prog) => s.runsAt r g (encR 0xA6 g 0 b 0 0) [] p = true ∧
      128 ≤ r.val ∧ (p.sreg b).toNat < 16 ∧ s.region (p.sreg b).toNat = 0 ∧ s.trust.trngFail = false) ((ks 128 [encR
      0xA6 ⟨0, false⟩ 0 (1) 0 0])) 128 ⟨0, false⟩ (1) (kp [encR 0xA6 ⟨0, false⟩ 0 (1) 0 0]) := by decide

theorem meets_RegionAndMonitorInstructions_radd :
    (fun (s : State) (r : Fin 132) (g : Guard) (b : Fin 32) (c : Fin 32) (p : Prog) => s.runsAt r g (encR 0xA7 g 0 b c 0) []
      p = true ∧ 128 ≤ r.val ∧ (p.sreg c).toNat < 16 ∧ s.region (p.sreg c).toNat = 1 ∧ s.gran (p.sreg b).toNat = .free)
      (((ks 128 [encR 0xA7 ⟨0, false⟩ 0 (1) (2) 0]).put F.MEMG_GRANULES_USABLE 100).put (F.XLT_SHR_STATE 7) 1) 128 ⟨0,
      false⟩ (1) (2) (kp [encR 0xA7 ⟨0, false⟩ 0 (1) (2) 0]) := by decide

theorem meets_RegionAndMonitorInstructions_rpub :
    (fun (s : State) (r : Fin 132) (g : Guard) (b : Fin 32) (c : Fin 32) (p : Prog) => s.runsAt r g (encR 0xA8 g 0 b c 0) []
      p = true ∧ 128 ≤ r.val ∧ (p.sreg b).toNat < 16 ∧ s.region (p.sreg b).toNat = 1) ((ks 128 [encR 0xA8 ⟨0, false⟩ 0
      (1) (2) 0]).put (F.XLT_SHR_STATE 5) 1) 128 ⟨0, false⟩ (1) (2) (kp [encR 0xA8 ⟨0, false⟩ 0 (1) (2) 0]) := by decide

theorem meets_RegionAndMonitorInstructions_rreaders :
    (fun (s : State) (r : Fin 132) (g : Guard) (b : Fin 32) (c : Fin 32) (p : Prog) => s.runsAt r g (encR 0xA9 g 0 b c 0) []
      p = true ∧ 128 ≤ r.val ∧ (p.sreg b).toNat < 16 ∧ s.region (p.sreg b).toNat = 2) ((ks 128 [encR 0xA9 ⟨0, false⟩ 0
      (1) (2) 0]).put (F.XLT_SHR_STATE 5) 2) 128 ⟨0, false⟩ (1) (2) (kp [encR 0xA9 ⟨0, false⟩ 0 (1) (2) 0]) := by decide

theorem meets_RegionAndMonitorInstructions_rwdraw :
    (fun (s : State) (r : Fin 132) (g : Guard) (t : Fin 16) (a : Fin 32) (p : Prog) => s.runsAt r g (encU 0xAA g 0 0 t a 0 0
      0) [] p = true ∧ 128 ≤ r.val ∧ (p.sreg a).toNat < 16 ∧ s.region (p.sreg a).toNat = 2 ∧ s.xlt.withdrawing.contains
      (p.sreg a).toNat = false ∧ (p.tally t).st = 0) ((ks 128 [encU 0xAA ⟨0, false⟩ 0 0 (0) (1) 0 0 0]).put
      (F.XLT_SHR_STATE 5) 2) 128 ⟨0, false⟩ (0) (1) (kp [encU 0xAA ⟨0, false⟩ 0 0 (0) (1) 0 0 0]) := by decide

theorem meets_RegionAndMonitorInstructions_logapp :
    (fun (s : State) (r : Fin 132) (g : Guard) (da : Fin 16) (t : Fin 16) (a : Fin 32) (p : Prog) => s.runsAt r g (encU 0xAC
      g da 0 t a 0 0 0) [] p = true ∧ 128 ≤ r.val ∧ smRecord ((p.sreg a).toNat % 256) = true ∧ s.log.halted = false ∧
      (p.tally t).st = 0) (onRing 128 { kp [encU 0xAC ⟨0, false⟩ 0 0 0 3 0 0 0] with s := [(3, 0x80)] }) 128 ⟨0, false⟩
      (0) (0) (3) { kp [encU 0xAC ⟨0, false⟩ 0 0 0 3 0 0 0] with s := [(3, 0x80)] } := by decide

theorem meets_RegionAndMonitorInstructions_random :
    (fun (s : State) (r : Fin 132) (g : Guard) (a : Fin 32) (p : Prog) => s.runsAt r g (encR 0xAE g a 0 0 0) [] p = true ∧
      128 ≤ r.val ∧ s.trust.trngFail = false ∧ a.val ≠ 0) ((ks 128 [encR 0xAE ⟨0, false⟩ (3) 0 0 0])) 128 ⟨0, false⟩ (3)
      (kp [encR 0xAE ⟨0, false⟩ (3) 0 0 0]) := by decide

theorem meets_RegionAndMonitorInstructions_sign :
    (fun (s : State) (r : Fin 132) (g : Guard) (da : Fin 16) (t : Fin 16) (p : Prog) (k : Keys) => s.runsAt r g (encU 0xAD g
      da 0 t 0 0 0 0) [] p = true ∧ 128 ≤ r.val ∧ (p.tally t).st = 0 ∧ fld (p.dreg da) 6 ≤ 2 ∧ s.trust.keys = some k ∧
      (ringWrite r 0 (fld (p.dreg da) 7) (slice 0 (Config.ecdsaSign (k.pick (fld (p.dreg da) 6)) ((List.range 6).flatMap
      (fun i => leBytes 8 (fld (p.dreg da) i))) s.freeCtr) 0 96) s.draw).1.held = false)
      ({ (ks 128 [encU 0xAD ⟨0, false⟩ (0) 0 (0) 0 0 0 0]) with trust := { TrustState.init with keys := some ⟨1, [], 2, 3, []⟩ } })
      128 ⟨0, false⟩ (0) (0) (kp [encU 0xAD ⟨0, false⟩ (0) 0 (0) 0 0 0 0]) ⟨1, [], 2, 3, []⟩ := by decide

theorem meets_PartitionCompletions_partitionReset :
    (fun (s : State) (n : Fin 16) => s.lc n ≠ 0) ((ks 40 []).setLc 5 2) 5 := by decide

theorem meets_PartitionCompletions_teardownDrainComplete :
    (fun (s : State) (n : Fin 16) => s.trust.tears.any (fun x => x.part == n.val) = true ∧ s.pagesLeft n = false ∧
      s.leases.press ≠ some n.val ∧ s.trust.haltTear = false)
      (({ State.reset with trust := { TrustState.init with tears := [⟨5, 0, true, none, none⟩] } } : State).setLc 5 3) 5 := by decide

theorem meets_PartitionCompletions_granuleReleaseComplete :
    (fun (s : State) (g : Fin 16384) (n : Fin 16) => s.gran g = .releasing false n ∧ s.lc n = 2) (((st
      [(F.MEMG_GRANULES_USABLE, 100)]).setGran 9 (.releasing false 5)).setLc 5 2) 9 5 := by decide

theorem meets_PartitionCompletions_regionWithdrawComplete :
    (fun (s : State) (n : Fin 16) => s.xlt.withdrawing.contains n.val = true)
      { st [(F.XLT_SHR_STATE 5, 2), (F.XLT_SHR_READERS 5, 3)] with xlt := { XltState.init with withdrawing := [5] } } 5 := by decide

theorem meets_PartitionCompletions_keySlotUePartition :
    (fun (s : State) (n : Fin 16) => (s.lc n = 1 ∨ s.lc n = 2)) (State.reset.setLc 5 2) 5 := by decide

theorem meets_PartitionCompletions_keySlotUeRegion :
    (fun (s : State) (n : Fin 16) => s.region n ≠ 0 ∧ s.xlt.withdrawing.contains n.val = false) (st [(F.XLT_SHR_STATE 5,
      1)]) 5 := by decide

theorem meets_RingControl_windowClosed :
    (fun (s : State) (r : Fin 128) (ctx : BitVec 12) (size : BitVec 5) (x : Fin 3) (v : W64) (t : W32) => s.window (r.val /
      8) = false) State.reset 16 5 6 1 9 4 := by decide

theorem meets_RingControl_enable :
    (fun (s : State) (r : Fin 128) (ctx : BitVec 12) (size : BitVec 5) => s.window (r.val / 8) = true ∧ s.ringState r.val =
      0 ∧ s.on (F.PW_RING_CFG_EN (r.val / 8) (r.val % 8)) = false ∧ (s.ring r.val).hold = false ∧ 6 ≤ size.toNat ∧
      size.toNat ≤ 16) (live 2 State.reset) 16 5 6 := by decide

theorem meets_RingControl_enableHeld :
    (fun (s : State) (r : Fin 128) (ctx : BitVec 12) (size : BitVec 5) => s.window (r.val / 8) = true ∧ s.ringState r.val =
      0 ∧ s.on (F.PW_RING_CFG_EN (r.val / 8) (r.val % 8)) = false ∧ (s.ring r.val).hold = true) (ring16
      { Ring.init with hold := true } (live 2 State.reset)) 16 5 6 := by decide

theorem meets_RingControl_disable :
    (fun (s : State) (r : Fin 128) => s.window (r.val / 8) = true ∧ s.ringState r.val = 1 ∧ s.on (F.PW_RING_CFG_EN (r.val /
      8) (r.val % 8)) = true ∧ 6 ≤ s.get (F.PW_RING_CFG_LOG2SIZE (r.val / 8) (r.val % 8)) ∧ s.get
      (F.PW_RING_CFG_LOG2SIZE (r.val / 8) (r.val % 8)) ≤ 16) (ringIn 1 []) 16 := by decide

theorem meets_RingControl_baseWrite :
    (fun (s : State) (r : Fin 128) (v : W64) => s.window (r.val / 8) = true ∧ s.ringState r.val = 0) (live 2 State.reset) 16
      0x5001 := by decide

theorem meets_RingControl_baseRefused :
    (fun (s : State) (r : Fin 128) (v : W64) => s.window (r.val / 8) = true ∧ s.ringState r.val ≠ 0) (ringIn 1 []) 16 0x5001 := by decide

theorem meets_RingControl_bind :
    (fun (s : State) (n : Fin 128) (v : W32) => s.ringState n.val = 0) State.reset 16 0x25 := by decide

theorem meets_RingControl_bindRefused :
    (fun (s : State) (n : Fin 128) (v : W32) => s.ringState n.val ≠ 0) (ringIn 1 []) 16 0x25 := by decide

theorem meets_RingControl_doorbellAhead :
    (fun (s : State) (r : Fin 128) (t : W32) => s.window (r.val / 8) = true ∧ s.ringState r.val = 1 ∧ sub32 t.toNat
      (s.sqTail r.val) ≠ 0 ∧ sub32 t.toNat (s.sqTail r.val) < 2147483648 ∧ sub32 t.toNat (s.sqHead r.val) ≤ s.ringSize
      r.val) (ringIn 1 []) 16 5 := by decide

theorem meets_RingControl_doorbellStale :
    (fun (s : State) (r : Fin 128) (t : W32) => s.window (r.val / 8) = true ∧ s.ringState r.val = 1 ∧ 2147483648 ≤ sub32
      t.toNat (s.sqTail r.val)) (ringIn 1 [(F.PW_RING_SQ_TAIL_TAIL 2 0, 9)]) 16 5 := by decide

theorem meets_RingControl_doorbellPast :
    (fun (s : State) (r : Fin 128) (t : W32) => s.window (r.val / 8) = true ∧ s.ringState r.val = 1 ∧ sub32 t.toNat
      (s.sqTail r.val) ≠ 0 ∧ sub32 t.toNat (s.sqTail r.val) < 2147483648 ∧ s.ringSize r.val < sub32 t.toNat (s.sqHead
      r.val)) (ringIn 1 []) 16 65 := by decide

theorem meets_RingControl_doorbellOff :
    (fun (s : State) (r : Fin 128) (t : W32) => s.window (r.val / 8) = true ∧ (s.ringState r.val = 0 ∨ s.ringState r.val =
      3)) (live 2 State.reset) 16 65 := by decide

theorem meets_RingControl_hold :
    (fun (s : State) (n : Fin 128) => s.ringState n.val = 1) (ringIn 1 []) 16 := by decide

theorem meets_RingControl_resume :
    (fun (s : State) (r : Fin 128) => s.window (r.val / 8) = true ∧ s.ringState r.val = 2 ∧ (s.ring r.val).hold = false ∧
      (s.ring r.val).held = none ∧ s.on (F.PW_RING_CFG_EN (r.val / 8) (r.val % 8)) = true) (ringIn 2 []) 16 := by decide

theorem meets_RingControl_resumeHeld :
    (fun (s : State) (r : Fin 128) => s.window (r.val / 8) = true ∧ (s.ringState r.val ≠ 2 ∨ (s.ring r.val).hold = true))
      (ringIn 1 []) 16 := by decide

theorem meets_RingControl_flushEmpty :
    (fun (s : State) (r : Fin 128) => s.window (r.val / 8) = true ∧ s.ringState r.val = 2 ∧ (s.ring r.val).hold = false ∧
      (s.ring r.val).held = none ∧ (s.ring r.val).fetched = [] ∧ s.sqHead r.val = s.sqTail r.val ∧ s.on
      (F.PW_RING_CFG_EN (r.val / 8) (r.val % 8)) = true) (ringIn 2 []) 16 := by decide

theorem meets_RingControl_flushOne :
    (fun (s : State) (r : Fin 128) (e : EntryCopy) => s.window (r.val / 8) = true ∧ s.ringState r.val = 2 ∧ (s.ring
      r.val).hold = false ∧ (s.ring r.val).held = none ∧ (s.ring r.val).prog = none ∧ (s.ring r.val).fetched = [e] ∧
      s.sqHead r.val = s.sqTail r.val ∧ s.cqFull r.val = false ∧ s.on (F.PW_RING_CFG_EN (r.val / 8) (r.val % 8)) = true
      ∧ s.on (F.PW_RING_CQ_BASE_LOC (r.val / 8) (r.val % 8)) = true ∧ s.pwr.pcieUp = true ∧ bit e.w0 9 = false)
      { ring16 { Ring.init with fetched := [anEntry] } (ringIn 2 [(F.PW_RING_CQ_BASE_LOC 2 0, 1)]) with pwr := { PwrState.init with pcieUp := true } }
      16 anEntry := by decide

theorem meets_RingControl_cqHead :
    (fun (s : State) (r : Fin 128) (v : W32) => s.window (r.val / 8) = true ∧ sub32 (s.cqTail r.val) v.toNat ≤ s.ringSize
      r.val ∧ (s.ring r.val).held = none) (ringIn 1 [(F.PW_RING_CQ_TAIL_TAIL 2 0, 9)]) 16 7 := by decide

theorem meets_RingControl_cqHeadRefused :
    (fun (s : State) (r : Fin 128) (v : W32) => s.window (r.val / 8) = true ∧ s.ringSize r.val < sub32 (s.cqTail r.val)
      v.toNat) (ringIn 1 []) 16 7 := by decide

theorem meets_EntriesProgramsAndInvokes_fetchHost :
    (fun (s : State) (r : Fin 128) (host : List Byte) => s.ringState r.val = 1 ∧ s.sqHead r.val ≠ s.sqTail r.val ∧ s.on
      (F.PW_RING_SQ_BASE_LOC (r.val / 8) (r.val % 8)) = true ∧ s.pwr.pcieUp = true)
      { ringIn 1 [(F.PW_RING_SQ_BASE_LOC 2 0, 1), (F.PW_RING_SQ_TAIL_TAIL 2 0, 1)] with pwr := { PwrState.init with pcieUp := true } }
      16 [1, 2] := by decide

theorem meets_EntriesProgramsAndInvokes_fetchNothing :
    (fun (s : State) (r : Fin 128) (host : List Byte) => (s.ringState r.val ≠ 1 ∨ s.sqHead r.val = s.sqTail r.val)) (ringIn
      1 []) 16 [] := by decide

theorem meets_EntriesProgramsAndInvokes_start :
    (fun (s : State) (r : Fin 128) (e : EntryCopy) (rest : List EntryCopy) (c : Nat) (ws : List W64) => s.ringReady r.val =
      true ∧ (s.ring r.val).invokeNext = false ∧ (s.ring r.val).fetched = e :: rest ∧ e.bad = none ∧ s.startCore r.val =
      some c ∧ e.malformed = false ∧ e.inline = true ∧ ws = e.words.drop 1 ∧ checkProgram (s.checkOf e) ws = none)
      (ring16 { Ring.init with fetched := [anEntry] } (ringIn 1 [])) 16 anEntry [] 4 [1, 0, 0, 0, 0, 0, 0] := by decide

theorem meets_EntriesProgramsAndInvokes_startMalformed :
    (fun (s : State) (r : Fin 128) (e : EntryCopy) (rest : List EntryCopy) (c : Nat) => s.ringReady r.val = true ∧ (s.ring
      r.val).invokeNext = false ∧ (s.ring r.val).fetched = e :: rest ∧ e.bad = none ∧ s.startCore r.val = some c ∧
      e.malformed = true) (ring16 { Ring.init with fetched := [{ anEntry with words := [] }] } (ringIn 1 [])) 16
      { anEntry with words := [] } [] 4 := by decide

theorem meets_EntriesProgramsAndInvokes_startSm :
    (fun (s : State) (r : Fin 132) (ws : List W64) => smRing r.val = true ∧ s.prog r.val = none ∧ checkProgram ⟨false,
      false, true, s.hasPress⟩ ws = none) State.reset 129 [1] := by decide

theorem meets_EntriesProgramsAndInvokes_endRetires :
    (fun (s : State) (r : Fin 132) (g : Guard) (p : Prog) => s.runsAt r g (encB 0x01 g 0 0) [] p = true ∧ (s.hatch.jobs.any
      (fun j => j.ring == r.val && j.open_)) = false) (ks 16 [1]) 16 ⟨0, false⟩ (kp [1]) := by decide

theorem meets_EntriesProgramsAndInvokes_programEnds :
    (fun (s : State) (r : Fin 128) (p : Prog) => s.prog r.val = some p ∧ p.ended = true ∧ p.failed = false ∧ p.invoke = none
      ∧ p.busy = false ∧ s.ringState r.val = 1 ∧ s.cqFull r.val = false ∧ s.on (F.PW_RING_CQ_BASE_LOC (r.val / 8) (r.val
      % 8)) = true ∧ s.pwr.pcieUp = true ∧ p.completion.notify = false)
      { ring16 { Ring.init with prog := some { kp [1] with ended := true, entry := anEntry } } (ringIn 1 [(F.PW_RING_CQ_BASE_LOC 2 0, 1)]) with pwr := { PwrState.init with pcieUp := true } }
      16 { kp [1] with ended := true, entry := anEntry } := by decide

theorem meets_EntriesProgramsAndInvokes_programEndFull :
    (fun (s : State) (r : Fin 128) (p : Prog) => s.prog r.val = some p ∧ p.ended = true ∧ p.failed = false ∧ p.invoke = none
      ∧ p.busy = false ∧ s.cqFull r.val = true) (ring16
      { Ring.init with prog := some { kp [1] with ended := true, entry := anEntry } } (ringIn 1 [(F.PW_RING_CQ_TAIL_TAIL
      2 0, 64)])) 16 { kp [1] with ended := true, entry := anEntry } := by decide

theorem meets_EntriesProgramsAndInvokes_programStillRuns :
    (fun (s : State) (r : Fin 132) (d : Bool) (p : Prog) => s.prog r.val = some p ∧ p.ended = false) (ks 16 [1]) 16 true (kp
      [1]) := by decide

theorem meets_EntriesProgramsAndInvokes_interruptDue :
    (fun (s : State) (r : Fin 128) => (s.ring r.val).irqDue = false) State.reset 16 := by decide

theorem meets_EntriesProgramsAndInvokes_interruptSent :
    (fun (s : State) (r : Fin 128) (x : Ring) => x = s.ring r.val ∧ x.irqDue = true ∧ x.lastIrq = none) (ring16
      { Ring.init with irqDue := true } (ringIn 1 [])) 16 { Ring.init with irqDue := true } := by decide

theorem meets_EntriesProgramsAndInvokes_restart :
    (fun (s : State) (r : Fin 128) (p : Prog) (c : Nat) => s.prog r.val = some p ∧ p.failed = true ∧ p.busy = false ∧
      s.hostOf (s.ringCore r.val) = some c ∧ s.coreIdle c = true ∧ c / 16 = p.core / 16) (ring16
      { Ring.init with prog := some { kp [1] with failed := true, entry := anEntry, core := 4 } } (ringIn 1 [])) 16
      { kp [1] with failed := true, entry := anEntry, core := 4 } 4 := by decide

theorem meets_EntriesProgramsAndInvokes_noRestart :
    (fun (s : State) (r : Fin 128) (p : Prog) => s.prog r.val = some p ∧ (p.failed = false ∨ p.busy = true)) (ks 16 [1]) 16
      (kp [1]) := by decide

theorem meets_EntriesProgramsAndInvokes_invokeTaken :
    (fun (s : State) (r : Fin 128) (x : Invoke) (rest : List Invoke) (c : Nat) => (s.ring r.val).invokes = x :: rest ∧
      s.ringReady r.val = true ∧ (s.ring r.val).invokeNext = true ∧ s.startCore r.val = some c ∧ attnBad x.job x.data =
      true) (ring16 { Ring.init with invokes := [anInvoke] } (ringIn 1 [])) 16 anInvoke [] 4 := by decide

theorem meets_EntriesProgramsAndInvokes_invokeNone :
    (fun (s : State) (r : Fin 128) => (s.ring r.val).invokes = []) State.reset 16 := by decide

theorem meets_EntriesProgramsAndInvokes_resultOfFault :
    (fun (s : State) (r : Fin 128) (p : Prog) (x : Invoke) (st_ : Nat) (d : Nat) (pc : Nat) => s.prog r.val = some p ∧
      p.invoke = some x ∧ p.busy = false ∧ p.fault = some (st_, d, pc)) (ring16
      { Ring.init with prog := some { kp [] with invoke := some anInvoke, ended := true, fault := some (0x50, 0, 0) } }
      (ringIn 1 [])) 16 { kp [] with invoke := some anInvoke, ended := true, fault := some (0x50, 0, 0) } anInvoke 0x50
      0 0 := by decide

theorem meets_EntriesProgramsAndInvokes_resultNotDue :
    (fun (s : State) (r : Fin 128) (p : Prog) => s.prog r.val = some p ∧ p.busy = true) (kst 16 [1] [(3,
      { Tally.idle with st := 1 })]) 16 (kpt [1] [(3, { Tally.idle with st := 1 })]) := by decide

theorem meets_EntriesProgramsAndInvokes_copyTaken :
    (fun (s : State) (r : Fin 132) (g : Guard) (da : Fin 16) (t : Fin 16) (p : Prog) => s.runsAt r g (encU 0x54 g da.val 0
      t.val 0 0 0 0) [] p = true ∧ (p.tally t.val).st = 0 ∧ dmaBad false (p.dreg da.val) = false ∧ bit (fld (p.dreg
      da.val) 3) 28 = false ∧ bit (fld (p.dreg da.val) 3) 29 = false) (onRing 16 (kd [encU 0x54 ⟨0, false⟩ 1 0 2 0 0 0
      0] [(1, [0, 64, 64, 0, 0, 0, 0, 0])])) 16 ⟨0, false⟩ 1 2 (kd [encU 0x54 ⟨0, false⟩ 1 0 2 0 0 0 0] [(1, [0, 64, 64,
      0, 0, 0, 0, 0])]) := by decide

theorem meets_EntriesProgramsAndInvokes_fillTaken :
    (fun (s : State) (r : Fin 132) (g : Guard) (da : Fin 16) (t : Fin 16) (p : Prog) => s.runsAt r g (encU 0x55 g da.val 0
      t.val 0 0 0 0) [] p = true ∧ (p.tally t.val).st = 0 ∧ dmaBad true (p.dreg da.val) = false ∧ bit (fld (p.dreg
      da.val) 3) 29 = false) (onRing 16 (kd [encU 0x55 ⟨0, false⟩ 1 0 2 0 0 0 0] [(1, [0, 64, 64, 0, 0, 9, 0, 0])])) 16
      ⟨0, false⟩ 1 2 (kd [encU 0x55 ⟨0, false⟩ 1 0 2 0 0 0 0] [(1, [0, 64, 64, 0, 0, 9, 0, 0])]) := by decide

theorem meets_EntriesProgramsAndInvokes_copyMalformed :
    (fun (s : State) (r : Fin 132) (g : Guard) (da : Fin 16) (t : Fin 16) (p : Prog) => s.runsAt r g (encU 0x54 g da.val 0
      t.val 0 0 0 0) [] p = true ∧ (p.tally t.val).st = 0 ∧ dmaBad false (p.dreg da.val) = true) (ks 16 [encU 0x54 ⟨0,
      false⟩ 1 0 2 0 0 0 0]) 16 ⟨0, false⟩ 1 2 (kp [encU 0x54 ⟨0, false⟩ 1 0 2 0 0 0 0]) := by decide

theorem meets_EntriesProgramsAndInvokes_copyWaits :
    (fun (s : State) (r : Fin 132) (g : Guard) (da : Fin 16) (t : Fin 16) (p : Prog) => s.runsAt r g (encU 0x54 g da.val 0
      t.val 0 0 0 0) [] p = true ∧ (p.tally t.val).st = 1) (kst 16 [encU 0x54 ⟨0, false⟩ 1 0 2 0 0 0 0] [(2,
      { Tally.idle with st := 1 })]) 16 ⟨0, false⟩ 1 2 (kpt [encU 0x54 ⟨0, false⟩ 1 0 2 0 0 0 0] [(2,
      { Tally.idle with st := 1 })]) := by decide

theorem meets_EntriesProgramsAndInvokes_fillCompletes :
    (fun (s : State) (u : State) (r : Fin 132) (t : Fin 16) (x : DmaTask) (w : AccRes) => s.hatch.jobs.find? (fun j =>
      j.ring == r.val && j.t == t.val) = none ∧ s.rings.dma.find? (fun y => y.ring == r.val && y.t == t.val) = some x ∧
      x.remote = false ∧ x.fill = true ∧ 0 < x.len ∧ x.dst % 64 + x.len ≤ 64 ∧ ringWrite r.val x.dctx x.dst ((List.range
      x.len).map (fun k => (leBytes 8 (fld x.f 5)).getD (k % 8) 0)) s = (w, u) ∧ w.held = false ∧ w.poison = false ∧
      w.unavail = none) filling (ringWrite 128 0 64 [9, 0, 0, 0, 0, 0, 0, 0] filling).2 128 2 aFill AccRes.empty := by decide

theorem meets_EntriesProgramsAndInvokes_nothingCompletes :
    (fun (s : State) (r : Fin 132) (t : Fin 16) => s.hatch.jobs = [] ∧ s.rings.dma = [] ∧ s.tns.cap = none) State.reset 16 2 := by decide

theorem meets_EntriesProgramsAndInvokes_retryAgain :
    (fun (s : State) (tag : BitVec 12) (q : NodeReq) => s.fab.reqs.find? (fun y => y.tag == tag.toNat) = some q ∧ q.tries <
      q.budget) { State.reset with fab := { FabState.init with reqs := [(aReq 1)] } } 5 (aReq 1) := by decide

theorem meets_EntriesProgramsAndInvokes_retryNone :
    (fun (s : State) (tag : BitVec 12) => s.fab.reqs = []) State.reset 5 := by decide

theorem meets_EntriesProgramsAndInvokes_retryExhausted :
    (fun (s : State) (tag : BitVec 12) (q : NodeReq) (r : Nat) (t : Nat) (x : DmaTask) => s.fab.reqs.find? (fun y => y.tag
      == tag.toNat) = some q ∧ q.budget ≤ q.tries ∧ q.owner = .dma r t ∧ s.rings.dma.find? (fun y => y.ring == r && y.t
      == t) = some x)
      { State.reset with fab := { FabState.init with reqs := [(aReq 4)] }, rings := { RingState.init with dma := [⟨16, 2, false, [0, 64, 64, 0, 0, 0, 0, 0], 0, true⟩] } }
      5 (aReq 4) 16 2 ⟨16, 2, false, [0, 64, 64, 0, 0, 0, 0, 0], 0, true⟩ := by decide

theorem meets_ScalarArithmetic_add :
    (fun (s : State) (r : Fin 132) (g : Guard) (a : Fin 32) (b : Fin 32) (c : Fin 32) (p : Prog) => s.runsAt r g (encR 0x10
      g a b c 0) [] p = true) (ks 0 ((encR 0x10 ⟨0, false⟩ (3) (1) (2) 0) :: [])) 0 ⟨0, false⟩ (3) (1) (2) (kp ((encR
      0x10 ⟨0, false⟩ (3) (1) (2) 0) :: [])) := by decide

theorem meets_ScalarArithmetic_sub :
    (fun (s : State) (r : Fin 132) (g : Guard) (a : Fin 32) (b : Fin 32) (c : Fin 32) (p : Prog) => s.runsAt r g (encR 0x11
      g a b c 0) [] p = true) (ks 0 ((encR 0x11 ⟨0, false⟩ (3) (1) (2) 0) :: [])) 0 ⟨0, false⟩ (3) (1) (2) (kp ((encR
      0x11 ⟨0, false⟩ (3) (1) (2) 0) :: [])) := by decide

theorem meets_ScalarArithmetic_mul :
    (fun (s : State) (r : Fin 132) (g : Guard) (a : Fin 32) (b : Fin 32) (c : Fin 32) (p : Prog) => s.runsAt r g (encR 0x12
      g a b c 0) [] p = true) (ks 0 ((encR 0x12 ⟨0, false⟩ (3) (1) (2) 0) :: [])) 0 ⟨0, false⟩ (3) (1) (2) (kp ((encR
      0x12 ⟨0, false⟩ (3) (1) (2) 0) :: [])) := by decide

theorem meets_ScalarArithmetic_mulhu :
    (fun (s : State) (r : Fin 132) (g : Guard) (a : Fin 32) (b : Fin 32) (c : Fin 32) (p : Prog) => s.runsAt r g (encR 0x13
      g a b c 0) [] p = true) (ks 0 ((encR 0x13 ⟨0, false⟩ (3) (1) (2) 0) :: [])) 0 ⟨0, false⟩ (3) (1) (2) (kp ((encR
      0x13 ⟨0, false⟩ (3) (1) (2) 0) :: [])) := by decide

theorem meets_ScalarArithmetic_divu :
    (fun (s : State) (r : Fin 132) (g : Guard) (a : Fin 32) (b : Fin 32) (c : Fin 32) (p : Prog) => s.runsAt r g (encR 0x14
      g a b c 0) [] p = true) (ks 0 ((encR 0x14 ⟨0, false⟩ (3) (1) (2) 0) :: [])) 0 ⟨0, false⟩ (3) (1) (2) (kp ((encR
      0x14 ⟨0, false⟩ (3) (1) (2) 0) :: [])) := by decide

theorem meets_ScalarArithmetic_remu :
    (fun (s : State) (r : Fin 132) (g : Guard) (a : Fin 32) (b : Fin 32) (c : Fin 32) (p : Prog) => s.runsAt r g (encR 0x15
      g a b c 0) [] p = true) (ks 0 ((encR 0x15 ⟨0, false⟩ (3) (1) (2) 0) :: [])) 0 ⟨0, false⟩ (3) (1) (2) (kp ((encR
      0x15 ⟨0, false⟩ (3) (1) (2) 0) :: [])) := by decide

theorem meets_ScalarArithmetic_and :
    (fun (s : State) (r : Fin 132) (g : Guard) (a : Fin 32) (b : Fin 32) (c : Fin 32) (p : Prog) => s.runsAt r g (encR 0x16
      g a b c 0) [] p = true) (ks 0 ((encR 0x16 ⟨0, false⟩ (3) (1) (2) 0) :: [])) 0 ⟨0, false⟩ (3) (1) (2) (kp ((encR
      0x16 ⟨0, false⟩ (3) (1) (2) 0) :: [])) := by decide

theorem meets_ScalarArithmetic_or :
    (fun (s : State) (r : Fin 132) (g : Guard) (a : Fin 32) (b : Fin 32) (c : Fin 32) (p : Prog) => s.runsAt r g (encR 0x17
      g a b c 0) [] p = true) (ks 0 ((encR 0x17 ⟨0, false⟩ (3) (1) (2) 0) :: [])) 0 ⟨0, false⟩ (3) (1) (2) (kp ((encR
      0x17 ⟨0, false⟩ (3) (1) (2) 0) :: [])) := by decide

theorem meets_ScalarArithmetic_xor :
    (fun (s : State) (r : Fin 132) (g : Guard) (a : Fin 32) (b : Fin 32) (c : Fin 32) (p : Prog) => s.runsAt r g (encR 0x18
      g a b c 0) [] p = true) (ks 0 ((encR 0x18 ⟨0, false⟩ (3) (1) (2) 0) :: [])) 0 ⟨0, false⟩ (3) (1) (2) (kp ((encR
      0x18 ⟨0, false⟩ (3) (1) (2) 0) :: [])) := by decide

theorem meets_ScalarArithmetic_shl :
    (fun (s : State) (r : Fin 132) (g : Guard) (a : Fin 32) (b : Fin 32) (c : Fin 32) (p : Prog) => s.runsAt r g (encR 0x19
      g a b c 0) [] p = true) (ks 0 ((encR 0x19 ⟨0, false⟩ (3) (1) (2) 0) :: [])) 0 ⟨0, false⟩ (3) (1) (2) (kp ((encR
      0x19 ⟨0, false⟩ (3) (1) (2) 0) :: [])) := by decide

theorem meets_ScalarArithmetic_shr :
    (fun (s : State) (r : Fin 132) (g : Guard) (a : Fin 32) (b : Fin 32) (c : Fin 32) (p : Prog) => s.runsAt r g (encR 0x1A
      g a b c 0) [] p = true) (ks 0 ((encR 0x1A ⟨0, false⟩ (3) (1) (2) 0) :: [])) 0 ⟨0, false⟩ (3) (1) (2) (kp ((encR
      0x1A ⟨0, false⟩ (3) (1) (2) 0) :: [])) := by decide

theorem meets_ScalarArithmetic_sra :
    (fun (s : State) (r : Fin 132) (g : Guard) (a : Fin 32) (b : Fin 32) (c : Fin 32) (p : Prog) => s.runsAt r g (encR 0x1B
      g a b c 0) [] p = true) (ks 0 ((encR 0x1B ⟨0, false⟩ (3) (1) (2) 0) :: [])) 0 ⟨0, false⟩ (3) (1) (2) (kp ((encR
      0x1B ⟨0, false⟩ (3) (1) (2) 0) :: [])) := by decide

theorem meets_ScalarArithmetic_minu :
    (fun (s : State) (r : Fin 132) (g : Guard) (a : Fin 32) (b : Fin 32) (c : Fin 32) (p : Prog) => s.runsAt r g (encR 0x1C
      g a b c 0) [] p = true) (ks 0 ((encR 0x1C ⟨0, false⟩ (3) (1) (2) 0) :: [])) 0 ⟨0, false⟩ (3) (1) (2) (kp ((encR
      0x1C ⟨0, false⟩ (3) (1) (2) 0) :: [])) := by decide

theorem meets_ScalarArithmetic_maxu :
    (fun (s : State) (r : Fin 132) (g : Guard) (a : Fin 32) (b : Fin 32) (c : Fin 32) (p : Prog) => s.runsAt r g (encR 0x1D
      g a b c 0) [] p = true) (ks 0 ((encR 0x1D ⟨0, false⟩ (3) (1) (2) 0) :: [])) 0 ⟨0, false⟩ (3) (1) (2) (kp ((encR
      0x1D ⟨0, false⟩ (3) (1) (2) 0) :: [])) := by decide

theorem meets_ScalarArithmetic_min :
    (fun (s : State) (r : Fin 132) (g : Guard) (a : Fin 32) (b : Fin 32) (c : Fin 32) (p : Prog) => s.runsAt r g (encR 0x1E
      g a b c 0) [] p = true) (ks 0 ((encR 0x1E ⟨0, false⟩ (3) (1) (2) 0) :: [])) 0 ⟨0, false⟩ (3) (1) (2) (kp ((encR
      0x1E ⟨0, false⟩ (3) (1) (2) 0) :: [])) := by decide

theorem meets_ScalarArithmetic_max :
    (fun (s : State) (r : Fin 132) (g : Guard) (a : Fin 32) (b : Fin 32) (c : Fin 32) (p : Prog) => s.runsAt r g (encR 0x1F
      g a b c 0) [] p = true) (ks 0 ((encR 0x1F ⟨0, false⟩ (3) (1) (2) 0) :: [])) 0 ⟨0, false⟩ (3) (1) (2) (kp ((encR
      0x1F ⟨0, false⟩ (3) (1) (2) 0) :: [])) := by decide

theorem meets_ImmediateArithmeticAndMoves_addi :
    (fun (s : State) (r : Fin 132) (g : Guard) (a : Fin 32) (b : Fin 32) (imm : BitVec 38) (p : Prog) => s.runsAt r g (encI
      0x20 g 0 a b imm) [] p = true) (ks 0 ((encI 0x20 ⟨0, false⟩ 0 (3) (1) (0x3FFFFFFFFF)) :: [])) 0 ⟨0, false⟩ (3) (1)
      (0x3FFFFFFFFF) (kp ((encI 0x20 ⟨0, false⟩ 0 (3) (1) (0x3FFFFFFFFF)) :: [])) := by decide

theorem meets_ImmediateArithmeticAndMoves_andi :
    (fun (s : State) (r : Fin 132) (g : Guard) (a : Fin 32) (b : Fin 32) (imm : BitVec 38) (p : Prog) => s.runsAt r g (encI
      0x21 g 0 a b imm) [] p = true) (ks 0 ((encI 0x21 ⟨0, false⟩ 0 (3) (1) (0x3FFFFFFFFF)) :: [])) 0 ⟨0, false⟩ (3) (1)
      (0x3FFFFFFFFF) (kp ((encI 0x21 ⟨0, false⟩ 0 (3) (1) (0x3FFFFFFFFF)) :: [])) := by decide

theorem meets_ImmediateArithmeticAndMoves_ori :
    (fun (s : State) (r : Fin 132) (g : Guard) (a : Fin 32) (b : Fin 32) (imm : BitVec 38) (p : Prog) => s.runsAt r g (encI
      0x22 g 0 a b imm) [] p = true) (ks 0 ((encI 0x22 ⟨0, false⟩ 0 (3) (1) (0x3FFFFFFFFF)) :: [])) 0 ⟨0, false⟩ (3) (1)
      (0x3FFFFFFFFF) (kp ((encI 0x22 ⟨0, false⟩ 0 (3) (1) (0x3FFFFFFFFF)) :: [])) := by decide

theorem meets_ImmediateArithmeticAndMoves_xori :
    (fun (s : State) (r : Fin 132) (g : Guard) (a : Fin 32) (b : Fin 32) (imm : BitVec 38) (p : Prog) => s.runsAt r g (encI
      0x23 g 0 a b imm) [] p = true) (ks 0 ((encI 0x23 ⟨0, false⟩ 0 (3) (1) (0x3FFFFFFFFF)) :: [])) 0 ⟨0, false⟩ (3) (1)
      (0x3FFFFFFFFF) (kp ((encI 0x23 ⟨0, false⟩ 0 (3) (1) (0x3FFFFFFFFF)) :: [])) := by decide

theorem meets_ImmediateArithmeticAndMoves_shli :
    (fun (s : State) (r : Fin 132) (g : Guard) (a : Fin 32) (b : Fin 32) (sh : Fin 64) (p : Prog) => s.runsAt r g (encI 0x24
      g 0 a b (BitVec.ofNat 38 sh)) [] p = true) (ks 0 ((encI 0x24 ⟨0, false⟩ 0 (3) (1) (BitVec.ofNat 38 (9))) :: [])) 0
      ⟨0, false⟩ (3) (1) (9) (kp ((encI 0x24 ⟨0, false⟩ 0 (3) (1) (BitVec.ofNat 38 (9))) :: [])) := by decide

theorem meets_ImmediateArithmeticAndMoves_shri :
    (fun (s : State) (r : Fin 132) (g : Guard) (a : Fin 32) (b : Fin 32) (sh : Fin 64) (p : Prog) => s.runsAt r g (encI 0x25
      g 0 a b (BitVec.ofNat 38 sh)) [] p = true) (ks 0 ((encI 0x25 ⟨0, false⟩ 0 (3) (1) (BitVec.ofNat 38 (9))) :: [])) 0
      ⟨0, false⟩ (3) (1) (9) (kp ((encI 0x25 ⟨0, false⟩ 0 (3) (1) (BitVec.ofNat 38 (9))) :: [])) := by decide

theorem meets_ImmediateArithmeticAndMoves_srai :
    (fun (s : State) (r : Fin 132) (g : Guard) (a : Fin 32) (b : Fin 32) (sh : Fin 64) (p : Prog) => s.runsAt r g (encI 0x26
      g 0 a b (BitVec.ofNat 38 sh)) [] p = true) (ks 0 ((encI 0x26 ⟨0, false⟩ 0 (3) (1) (BitVec.ofNat 38 (9))) :: [])) 0
      ⟨0, false⟩ (3) (1) (9) (kp ((encI 0x26 ⟨0, false⟩ 0 (3) (1) (BitVec.ofNat 38 (9))) :: [])) := by decide

theorem meets_ImmediateArithmeticAndMoves_li :
    (fun (s : State) (r : Fin 132) (g : Guard) (a : Fin 32) (imm : BitVec 38) (p : Prog) => s.runsAt r g (encI 0x27 g 0 a 0
      imm) [] p = true) (ks 0 ((encI 0x27 ⟨0, false⟩ 0 (3) 0 (7)) :: [])) 0 ⟨0, false⟩ (3) (7) (kp ((encI 0x27 ⟨0,
      false⟩ 0 (3) 0 (7)) :: [])) := by decide

theorem meets_ImmediateArithmeticAndMoves_lix :
    (fun (s : State) (r : Fin 132) (g : Guard) (a : Fin 32) (w : W64) (p : Prog) => s.runsAt r g (encI 0x28 g 1 a 0 0) [w] p
      = true) (ks 0 ((encI 0x28 ⟨0, false⟩ 1 (3) 0 0) :: [(77)])) 0 ⟨0, false⟩ (3) (77) (kp ((encI 0x28 ⟨0, false⟩ 1 (3)
      0 0) :: [(77)])) := by decide

theorem meets_ImmediateArithmeticAndMoves_sel :
    (fun (s : State) (r : Fin 132) (g : Guard) (a : Fin 32) (b : Fin 32) (c : Fin 32) (x : Fin 8) (p : Prog) => s.runsAt r g
      (encR 0x29 g a b c x) [] p = true) (ks 0 ((encR 0x29 ⟨0, false⟩ (3) (1) (2) (1)) :: [])) 0 ⟨0, false⟩ (3) (1) (2)
      (1) (kp ((encR 0x29 ⟨0, false⟩ (3) (1) (2) (1)) :: [])) := by decide

theorem meets_ImmediateArithmeticAndMoves_time :
    (fun (s : State) (r : Fin 132) (g : Guard) (a : Fin 32) (p : Prog) => s.runsAt r g (encR 0x2A g a 0 0 0) [] p = true)
      (ks 0 ((encR 0x2A ⟨0, false⟩ (3) 0 0 0) :: [])) 0 ⟨0, false⟩ (3) (kp ((encR 0x2A ⟨0, false⟩ (3) 0 0 0) :: [])) := by decide

theorem meets_ImmediateArithmeticAndMoves_rinfo :
    (fun (s : State) (r : Fin 132) (g : Guard) (a : Fin 32) (p : Prog) => s.runsAt r g (encR 0x2B g a 0 0 0) [] p = true)
      (ks 0 ((encR 0x2B ⟨0, false⟩ (3) 0 0 0) :: [])) 0 ⟨0, false⟩ (3) (kp ((encR 0x2B ⟨0, false⟩ (3) 0 0 0) :: [])) := by decide

theorem meets_PredicatesAndComparisons_ceq :
    (fun (s : State) (r : Fin 132) (g : Guard) (a : Fin 8) (b : Fin 32) (c : Fin 32) (p : Prog) => s.runsAt r g (encR 0x30 g
      a b c 0) [] p = true) (ks 0 ((encR 0x30 ⟨0, false⟩ (3) (1) (2) 0) :: [])) 0 ⟨0, false⟩ (3) (1) (2) (kp ((encR 0x30
      ⟨0, false⟩ (3) (1) (2) 0) :: [])) := by decide

theorem meets_PredicatesAndComparisons_cne :
    (fun (s : State) (r : Fin 132) (g : Guard) (a : Fin 8) (b : Fin 32) (c : Fin 32) (p : Prog) => s.runsAt r g (encR 0x31 g
      a b c 0) [] p = true) (ks 0 ((encR 0x31 ⟨0, false⟩ (3) (1) (2) 0) :: [])) 0 ⟨0, false⟩ (3) (1) (2) (kp ((encR 0x31
      ⟨0, false⟩ (3) (1) (2) 0) :: [])) := by decide

theorem meets_PredicatesAndComparisons_cltu :
    (fun (s : State) (r : Fin 132) (g : Guard) (a : Fin 8) (b : Fin 32) (c : Fin 32) (p : Prog) => s.runsAt r g (encR 0x32 g
      a b c 0) [] p = true) (ks 0 ((encR 0x32 ⟨0, false⟩ (3) (1) (2) 0) :: [])) 0 ⟨0, false⟩ (3) (1) (2) (kp ((encR 0x32
      ⟨0, false⟩ (3) (1) (2) 0) :: [])) := by decide

theorem meets_PredicatesAndComparisons_clt :
    (fun (s : State) (r : Fin 132) (g : Guard) (a : Fin 8) (b : Fin 32) (c : Fin 32) (p : Prog) => s.runsAt r g (encR 0x33 g
      a b c 0) [] p = true) (ks 0 ((encR 0x33 ⟨0, false⟩ (3) (1) (2) 0) :: [])) 0 ⟨0, false⟩ (3) (1) (2) (kp ((encR 0x33
      ⟨0, false⟩ (3) (1) (2) 0) :: [])) := by decide

theorem meets_PredicatesAndComparisons_cgeu :
    (fun (s : State) (r : Fin 132) (g : Guard) (a : Fin 8) (b : Fin 32) (c : Fin 32) (p : Prog) => s.runsAt r g (encR 0x34 g
      a b c 0) [] p = true) (ks 0 ((encR 0x34 ⟨0, false⟩ (3) (1) (2) 0) :: [])) 0 ⟨0, false⟩ (3) (1) (2) (kp ((encR 0x34
      ⟨0, false⟩ (3) (1) (2) 0) :: [])) := by decide

theorem meets_PredicatesAndComparisons_cge :
    (fun (s : State) (r : Fin 132) (g : Guard) (a : Fin 8) (b : Fin 32) (c : Fin 32) (p : Prog) => s.runsAt r g (encR 0x35 g
      a b c 0) [] p = true) (ks 0 ((encR 0x35 ⟨0, false⟩ (3) (1) (2) 0) :: [])) 0 ⟨0, false⟩ (3) (1) (2) (kp ((encR 0x35
      ⟨0, false⟩ (3) (1) (2) 0) :: [])) := by decide

theorem meets_PredicatesAndComparisons_ceqi :
    (fun (s : State) (r : Fin 132) (g : Guard) (a : Fin 8) (b : Fin 32) (imm : BitVec 38) (p : Prog) => s.runsAt r g (encI
      0x36 g 0 a b imm) [] p = true) (ks 0 ((encI 0x36 ⟨0, false⟩ 0 (3) (1) (0x3FFFFFFFFF)) :: [])) 0 ⟨0, false⟩ (3) (1)
      (0x3FFFFFFFFF) (kp ((encI 0x36 ⟨0, false⟩ 0 (3) (1) (0x3FFFFFFFFF)) :: [])) := by decide

theorem meets_PredicatesAndComparisons_cltui :
    (fun (s : State) (r : Fin 132) (g : Guard) (a : Fin 8) (b : Fin 32) (imm : BitVec 38) (p : Prog) => s.runsAt r g (encI
      0x37 g 0 a b imm) [] p = true) (ks 0 ((encI 0x37 ⟨0, false⟩ 0 (3) (1) (0x3FFFFFFFFF)) :: [])) 0 ⟨0, false⟩ (3) (1)
      (0x3FFFFFFFFF) (kp ((encI 0x37 ⟨0, false⟩ 0 (3) (1) (0x3FFFFFFFFF)) :: [])) := by decide

theorem meets_PredicatesAndComparisons_pand :
    (fun (s : State) (r : Fin 132) (g : Guard) (a : Fin 8) (b : Fin 8) (c : Fin 8) (p : Prog) => s.runsAt r g (encR 0x38 g a
      b c 0) [] p = true) (ks 0 ((encR 0x38 ⟨0, false⟩ (3) (1) (2) 0) :: [])) 0 ⟨0, false⟩ (3) (1) (2) (kp ((encR 0x38
      ⟨0, false⟩ (3) (1) (2) 0) :: [])) := by decide

theorem meets_PredicatesAndComparisons_por :
    (fun (s : State) (r : Fin 132) (g : Guard) (a : Fin 8) (b : Fin 8) (c : Fin 8) (p : Prog) => s.runsAt r g (encR 0x39 g a
      b c 0) [] p = true) (ks 0 ((encR 0x39 ⟨0, false⟩ (3) (1) (2) 0) :: [])) 0 ⟨0, false⟩ (3) (1) (2) (kp ((encR 0x39
      ⟨0, false⟩ (3) (1) (2) 0) :: [])) := by decide

theorem meets_PredicatesAndComparisons_pxor :
    (fun (s : State) (r : Fin 132) (g : Guard) (a : Fin 8) (b : Fin 8) (c : Fin 8) (p : Prog) => s.runsAt r g (encR 0x3A g a
      b c 0) [] p = true) (ks 0 ((encR 0x3A ⟨0, false⟩ (3) (1) (2) 0) :: [])) 0 ⟨0, false⟩ (3) (1) (2) (kp ((encR 0x3A
      ⟨0, false⟩ (3) (1) (2) 0) :: [])) := by decide

theorem meets_PredicatesAndComparisons_pandn :
    (fun (s : State) (r : Fin 132) (g : Guard) (a : Fin 8) (b : Fin 8) (c : Fin 8) (p : Prog) => s.runsAt r g (encR 0x3B g a
      b c 0) [] p = true) (ks 0 ((encR 0x3B ⟨0, false⟩ (3) (1) (2) 0) :: [])) 0 ⟨0, false⟩ (3) (1) (2) (kp ((encR 0x3B
      ⟨0, false⟩ (3) (1) (2) 0) :: [])) := by decide

theorem meets_PredicatesAndComparisons_pset :
    (fun (s : State) (r : Fin 132) (g : Guard) (a : Fin 8) (b : Fin 32) (p : Prog) => s.runsAt r g (encR 0x3C g a b 0 0) []
      p = true) (ks 0 ((encR 0x3C ⟨0, false⟩ (3) (1) 0 0) :: [])) 0 ⟨0, false⟩ (3) (1) (kp ((encR 0x3C ⟨0, false⟩ (3)
      (1) 0 0) :: [])) := by decide

theorem meets_DescriptorSlotsAndContext_dget :
    (fun (s : State) (r : Fin 132) (g : Guard) (a : Fin 32) (b : Fin 16) (x : Fin 8) (p : Prog) => s.runsAt r g (encR 0x42 g
      a b 0 x) [] p = true) (ks 0 ((encR 0x42 ⟨0, false⟩ (3) (1) 0 (2)) :: [])) 0 ⟨0, false⟩ (3) (1) (2) (kp ((encR 0x42
      ⟨0, false⟩ (3) (1) 0 (2)) :: [])) := by decide

theorem meets_DescriptorSlotsAndContext_dset :
    (fun (s : State) (r : Fin 132) (g : Guard) (a : Fin 16) (b : Fin 32) (x : Fin 8) (p : Prog) => s.runsAt r g (encR 0x43 g
      a b 0 x) [] p = true) (ks 0 ((encR 0x43 ⟨0, false⟩ (3) (1) 0 (2)) :: [])) 0 ⟨0, false⟩ (3) (1) (2) (kp ((encR 0x43
      ⟨0, false⟩ (3) (1) 0 (2)) :: [])) := by decide

theorem meets_DescriptorSlotsAndContext_dseti :
    (fun (s : State) (r : Fin 132) (g : Guard) (a : Fin 16) (b : Fin 8) (imm : BitVec 38) (p : Prog) => s.runsAt r g (encI
      0x44 g 0 a b imm) [] p = true) (ks 0 ((encI 0x44 ⟨0, false⟩ 0 (3) (1) (9)) :: [])) 0 ⟨0, false⟩ (3) (1) (9) (kp
      ((encI 0x44 ⟨0, false⟩ 0 (3) (1) (9)) :: [])) := by decide

theorem meets_DescriptorSlotsAndContext_dsetx :
    (fun (s : State) (r : Fin 132) (g : Guard) (a : Fin 16) (b : Fin 8) (ws : List W64) (p : Prog) => s.runsAt r g (encI
      0x45 g ws.length a b 0) ws p = true ∧ 0 < ws.length ∧ ws.length ≤ 3 ∧ b.val + ws.length ≤ 8) (ks 0 ((encI 0x45 ⟨0,
      false⟩ ([5, 6]).length (3) (1) 0) :: ([5, 6]))) 0 ⟨0, false⟩ (3) (1) ([5, 6]) (kp ((encI 0x45 ⟨0, false⟩ ([5,
      6]).length (3) (1) 0) :: ([5, 6]))) := by decide

theorem meets_DescriptorSlotsAndContext_dclr :
    (fun (s : State) (r : Fin 132) (g : Guard) (a : Fin 16) (p : Prog) => s.runsAt r g (encR 0x46 g a 0 0 0) [] p = true)
      (ks 0 ((encR 0x46 ⟨0, false⟩ (3) 0 0 0) :: [])) 0 ⟨0, false⟩ (3) (kp ((encR 0x46 ⟨0, false⟩ (3) 0 0 0) :: [])) := by decide

theorem meets_DescriptorSlotsAndContext_dmov :
    (fun (s : State) (r : Fin 132) (g : Guard) (a : Fin 16) (b : Fin 16) (p : Prog) => s.runsAt r g (encR 0x47 g a b 0 0) []
      p = true) (ks 0 ((encR 0x47 ⟨0, false⟩ (3) (1) 0 0) :: [])) 0 ⟨0, false⟩ (3) (1) (kp ((encR 0x47 ⟨0, false⟩ (3)
      (1) 0 0) :: [])) := by decide

theorem meets_DescriptorSlotsAndContext_ctxset :
    (fun (s : State) (r : Fin 132) (g : Guard) (b : Fin 32) (p : Prog) => s.runsAt r g (encR 0x58 g 0 b 0 0) [] p = true)
      (ks 0 ((encR 0x58 ⟨0, false⟩ 0 (1) 0 0) :: [])) 0 ⟨0, false⟩ (1) (kp ((encR 0x58 ⟨0, false⟩ 0 (1) 0 0) :: [])) := by decide

theorem meets_ControlFlowAndWaits_nop :
    (fun (s : State) (r : Fin 132) (g : Guard) (p : Prog) => s.runsAt r g (encR 0x00 g 0 0 0 0) [] p = true) (ks 0 [encR
      0x00 ⟨0, false⟩ 0 0 0 0]) 0 ⟨0, false⟩ (kp [encR 0x00 ⟨0, false⟩ 0 0 0 0]) := by decide

theorem meets_ControlFlowAndWaits_fence :
    (fun (s : State) (r : Fin 132) (g : Guard) (p : Prog) => s.runsAt r g (encR 0x93 g 0 0 0 0) [] p = true) (ks 0 [encR
      0x93 ⟨0, false⟩ 0 0 0 0]) 0 ⟨0, false⟩ (kp [encR 0x93 ⟨0, false⟩ 0 0 0 0]) := by decide

theorem meets_ControlFlowAndWaits_jmp :
    (fun (s : State) (r : Fin 132) (g : Guard) (off : BitVec 32) (p : Prog) => s.runsAt r g (encB 0x02 g 0 off) [] p = true)
      (ks 0 ((encB 0x02 ⟨0, false⟩ 0 (0xFFFFFFFF)) :: [])) 0 ⟨0, false⟩ (0xFFFFFFFF) (kp ((encB 0x02 ⟨0, false⟩ 0
      (0xFFFFFFFF)) :: [])) := by decide

theorem meets_ControlFlowAndWaits_jz :
    (fun (s : State) (r : Fin 132) (g : Guard) (a : Fin 32) (off : BitVec 32) (p : Prog) => s.runsAt r g (encB 0x04 g a off)
      [] p = true) (ks 0 ((encB 0x04 ⟨0, false⟩ (3) (0xFFFFFFFF)) :: [])) 0 ⟨0, false⟩ (3) (0xFFFFFFFF) (kp ((encB 0x04
      ⟨0, false⟩ (3) (0xFFFFFFFF)) :: [])) := by decide

theorem meets_ControlFlowAndWaits_jnz :
    (fun (s : State) (r : Fin 132) (g : Guard) (a : Fin 32) (off : BitVec 32) (p : Prog) => s.runsAt r g (encB 0x05 g a off)
      [] p = true) (ks 0 ((encB 0x05 ⟨0, false⟩ (3) (0xFFFFFFFF)) :: [])) 0 ⟨0, false⟩ (3) (0xFFFFFFFF) (kp ((encB 0x05
      ⟨0, false⟩ (3) (0xFFFFFFFF)) :: [])) := by decide

theorem meets_ControlFlowAndWaits_loop :
    (fun (s : State) (r : Fin 132) (g : Guard) (a : Fin 32) (off : BitVec 32) (p : Prog) => s.runsAt r g (encB 0x03 g a off)
      [] p = true) (ks 0 ((encB 0x03 ⟨0, false⟩ (3) (0xFFFFFFFF)) :: [])) 0 ⟨0, false⟩ (3) (0xFFFFFFFF) (kp ((encB 0x03
      ⟨0, false⟩ (3) (0xFFFFFFFF)) :: [])) := by decide

theorem meets_ControlFlowAndWaits_tst :
    (fun (s : State) (r : Fin 132) (g : Guard) (t : Fin 16) (a : Fin 32) (p : Prog) => s.runsAt r g (encU 0x92 g 0 0 t a 0 0
      0) [] p = true) (ks 0 ((encU 0x92 ⟨0, false⟩ 0 0 (3) (1) 0 0 0) :: [])) 0 ⟨0, false⟩ (3) (1) (kp ((encU 0x92 ⟨0,
      false⟩ 0 0 (3) (1) 0 0 0) :: [])) := by decide

theorem meets_ControlFlowAndWaits_waitIdle :
    (fun (s : State) (r : Fin 132) (g : Guard) (t : Fin 16) (a : Fin 32) (noend : Bool) (p : Prog) => s.runsAt r g (encU
      0x90 g 0 0 t a 0 0 (b2n noend)) [] p = true ∧ (p.tally t).st = 0) (ks 0 ((encU 0x90 ⟨0, false⟩ 0 0 (3) (1) 0 0
      (b2n (true))) :: [])) 0 ⟨0, false⟩ (3) (1) (true) (kp ((encU 0x90 ⟨0, false⟩ 0 0 (3) (1) 0 0 (b2n (true))) :: [])) := by decide

theorem meets_ControlFlowAndWaits_waitBusy :
    (fun (s : State) (r : Fin 132) (g : Guard) (t : Fin 16) (a : Fin 32) (noend : Bool) (p : Prog) => s.runsAt r g (encU
      0x90 g 0 0 t a 0 0 (b2n noend)) [] p = true ∧ (p.tally t).st = 1) (kst 0 [encU 0x90 ⟨0, false⟩ 0 0 3 1 0 0 1] [(3,
      { Tally.idle with st := 1 })]) 0 ⟨0, false⟩ 3 1 true (kpt [encU 0x90 ⟨0, false⟩ 0 0 3 1 0 0 1] [(3,
      { Tally.idle with st := 1 })]) := by decide

theorem meets_ControlFlowAndWaits_waitDone :
    (fun (s : State) (r : Fin 132) (g : Guard) (t : Fin 16) (a : Fin 32) (noend : Bool) (p : Prog) => s.runsAt r g (encU
      0x90 g 0 0 t a 0 0 (b2n noend)) [] p = true ∧ (p.tally t).st = 2) (kst 0 [encU 0x90 ⟨0, false⟩ 0 0 3 1 0 0 1] [(3,
      { Tally.idle with st := 2, status := 0x30 })]) 0 ⟨0, false⟩ 3 1 true (kpt [encU 0x90 ⟨0, false⟩ 0 0 3 1 0 0 1]
      [(3, { Tally.idle with st := 2, status := 0x30 })]) := by decide

theorem meets_ControlFlowAndWaits_waitany :
    (fun (s : State) (r : Fin 132) (g : Guard) (a : Fin 32) (m : BitVec 16) (p : Prog) => s.runsAt r g (encU 0x91 g 0 0 0 a
      0 0 m.toNat) [] p = true ∧ p.doneOf m.toNat = none) (ks 0 ((encU 0x91 ⟨0, false⟩ 0 0 0 (1) 0 0 (0x8 : BitVec
      16).toNat) :: [])) 0 ⟨0, false⟩ (1) (0x8 : BitVec 16) (kp ((encU 0x91 ⟨0, false⟩ 0 0 0 (1) 0 0 (0x8 : BitVec
      16).toNat) :: [])) := by decide

theorem meets_ControlFlowAndWaits_waitanyDone :
    (fun (s : State) (r : Fin 132) (g : Guard) (a : Fin 32) (m : BitVec 16) (t : Nat) (p : Prog) => s.runsAt r g (encU 0x91
      g 0 0 0 a 0 0 m.toNat) [] p = true ∧ p.doneOf m.toNat = some t) (kst 0 [encU 0x91 ⟨0, false⟩ 0 0 0 1 0 0 8] [(3,
      { Tally.idle with st := 2, status := 0x30 })]) 0 ⟨0, false⟩ 1 8 3 (kpt [encU 0x91 ⟨0, false⟩ 0 0 0 1 0 0 8] [(3,
      { Tally.idle with st := 2, status := 0x30 })]) := by decide

theorem meets_ControlFlowAndWaits_evraise :
    (fun (s : State) (r : Fin 132) (g : Guard) (n : Fin 16) (p : Prog) => s.runsAt r g (encI 0x98 g 0 0 0 (BitVec.ofNat 38
      n)) [] p = true) (ks 0 ((encI 0x98 ⟨0, false⟩ 0 0 0 (BitVec.ofNat 38 (3))) :: [])) 0 ⟨0, false⟩ (3) (kp ((encI
      0x98 ⟨0, false⟩ 0 0 0 (BitVec.ofNat 38 (3))) :: [])) := by decide

theorem meets_ControlFlowAndWaits_evtime :
    (fun (s : State) (r : Fin 132) (g : Guard) (b : Fin 32) (p : Prog) => s.runsAt r g (encR 0x99 g 0 b 0 0) [] p = true)
      (ks 0 ((encR 0x99 ⟨0, false⟩ 0 (1) 0 0) :: [])) 0 ⟨0, false⟩ (1) (kp ((encR 0x99 ⟨0, false⟩ 0 (1) 0 0) :: [])) := by decide

theorem meets_ControlFlowAndWaits_evtimeReached :
    (fun (s : State) (r : Fin 132) (p : Prog) (n : Nat) => s.prog r = some p ∧ p.stall = .time n ∧ n ≤ s.get
      F.TOPO_SRL_TIME_TIME_NS) (kss 0 [] (.time 0)) 0 (kps [] (.time 0)) 0 := by decide

theorem meets_ScalarMemoryAccess_dld :
    (fun (s : State) (r : Fin 132) (g : Guard) (a : Fin 16) (b : Fin 32) (p : Prog) => s.runsAt r g (encR 0x40 g a b 0 0) []
      p = true ∧ vaOf r (p.sreg b) % 64 = 0 ∧ (ringRead r p.ctx (vaOf r (p.sreg b)) 64 s).1.held = false ∧ (ringRead r
      p.ctx (vaOf r (p.sreg b)) 64 s).1.bad = none) (ksm [encR 0x40 ⟨0, false⟩ (3) (0) 0 0]) 128 ⟨0, false⟩ (3) (0) (kp
      [encR 0x40 ⟨0, false⟩ (3) (0) 0 0]) := by decide

theorem meets_ScalarMemoryAccess_dst :
    (fun (s : State) (r : Fin 132) (g : Guard) (a : Fin 16) (b : Fin 32) (p : Prog) => s.runsAt r g (encR 0x41 g a b 0 0) []
      p = true ∧ vaOf r (p.sreg b) % 64 = 0 ∧ (ringWrite r p.ctx (vaOf r (p.sreg b)) ((p.dreg a).flatMap (fun w =>
      leBytes 8 w.toNat)) s).1.held = false ∧ (ringWrite r p.ctx (vaOf r (p.sreg b)) ((p.dreg a).flatMap (fun w =>
      leBytes 8 w.toNat)) s).1.bad = none) (ksm [encR 0x41 ⟨0, false⟩ (3) (0) 0 0]) 128 ⟨0, false⟩ (3) (0) (kp [encR
      0x41 ⟨0, false⟩ (3) (0) 0 0]) := by decide

theorem meets_ScalarMemoryAccess_ld :
    (fun (s : State) (r : Fin 132) (g : Guard) (a : Fin 32) (b : Fin 32) (sz : Fin 4) (imm : BitVec 36) (p : Prog) =>
      s.runsAt r g (encM 0x50 g a b sz imm) [] p = true ∧ vaOf r (p.sreg b + imm.signExtend 64) % 2 ^ sz.val = 0 ∧
      (ringRead r p.ctx (vaOf r (p.sreg b + imm.signExtend 64)) (2 ^ sz.val) s).1.held = false ∧ (ringRead r p.ctx (vaOf
      r (p.sreg b + imm.signExtend 64)) (2 ^ sz.val) s).1.bad = none) (ksm [encM 0x50 ⟨0, false⟩ (3) (0) (2) (64)]) 128
      ⟨0, false⟩ (3) (0) (2) (64) (kp [encM 0x50 ⟨0, false⟩ (3) (0) (2) (64)]) := by decide

theorem meets_ScalarMemoryAccess_lds :
    (fun (s : State) (r : Fin 132) (g : Guard) (a : Fin 32) (b : Fin 32) (sz : Fin 4) (imm : BitVec 36) (p : Prog) =>
      s.runsAt r g (encM 0x51 g a b sz imm) [] p = true ∧ vaOf r (p.sreg b + imm.signExtend 64) % 2 ^ sz.val = 0 ∧
      (ringRead r p.ctx (vaOf r (p.sreg b + imm.signExtend 64)) (2 ^ sz.val) s).1.held = false ∧ (ringRead r p.ctx (vaOf
      r (p.sreg b + imm.signExtend 64)) (2 ^ sz.val) s).1.bad = none) (ksm [encM 0x51 ⟨0, false⟩ (3) (0) (2) (64)]) 128
      ⟨0, false⟩ (3) (0) (2) (64) (kp [encM 0x51 ⟨0, false⟩ (3) (0) (2) (64)]) := by decide

theorem meets_ScalarMemoryAccess_st :
    (fun (s : State) (r : Fin 132) (g : Guard) (a : Fin 32) (b : Fin 32) (sz : Fin 4) (imm : BitVec 36) (p : Prog) =>
      s.runsAt r g (encM 0x52 g a b sz imm) [] p = true ∧ vaOf r (p.sreg b + imm.signExtend 64) % 2 ^ sz.val = 0 ∧
      (ringWrite r p.ctx (vaOf r (p.sreg b + imm.signExtend 64)) (leBytes (2 ^ sz.val) (p.sreg a).toNat) s).1.held =
      false ∧ (ringWrite r p.ctx (vaOf r (p.sreg b + imm.signExtend 64)) (leBytes (2 ^ sz.val) (p.sreg a).toNat)
      s).1.bad = none) (ksm [encM 0x52 ⟨0, false⟩ (3) (0) (2) (64)]) 128 ⟨0, false⟩ (3) (0) (2) (64) (kp [encM 0x52 ⟨0,
      false⟩ (3) (0) (2) (64)]) := by decide

theorem meets_ScalarMemoryAccess_kcsAtom :
    (fun (s : State) (r : Fin 132) (g : Guard) (a : Fin 32) (b : Fin 32) (c : Fin 32) (op : Fin 8) (wide : Bool) (p : Prog)
      => s.runsAt r g (encR 0x53 g a b c (op.val + b2n wide * 16)) [] p = true ∧ vaOf r (p.sreg b) % (if wide then 8
      else 4) = 0 ∧ (ringAtomic r p.ctx (vaOf r (p.sreg b)) op (b2n wide) (if op.val = 2 then (p.sreg a).toNat else
      (p.sreg c).toNat) (if op.val = 2 then (p.sreg c).toNat else 0) s).1.held = false ∧ (ringAtomic r p.ctx (vaOf r
      (p.sreg b)) op (b2n wide) (if op.val = 2 then (p.sreg a).toNat else (p.sreg c).toNat) (if op.val = 2 then (p.sreg
      c).toNat else 0) s).1.bad = none) (ksm [encR 0x53 ⟨0, false⟩ (3) (0) (2) 16]) 128 ⟨0, false⟩ (3) (0) (2) (0)
      (true) (kp [encR 0x53 ⟨0, false⟩ (3) (0) (2) 16]) := by decide

theorem meets_ScalarMemoryAccess_lsld :
    (fun (s : State) (r : Fin 132) (g : Guard) (a : Fin 32) (b : Fin 32) (sz : Fin 4) (imm : BitVec 36) (p : Prog) =>
      s.runsAt r g (encM 0x56 g a b sz imm) [] p = true) (ksm [encM 0x56 ⟨0, false⟩ (3) (0) (2) (64)]) 128 ⟨0, false⟩
      (3) (0) (2) (64) (kp [encM 0x56 ⟨0, false⟩ (3) (0) (2) (64)]) := by decide

theorem meets_ScalarMemoryAccess_lsst :
    (fun (s : State) (r : Fin 132) (g : Guard) (a : Fin 32) (b : Fin 32) (sz : Fin 4) (imm : BitVec 36) (p : Prog) =>
      s.runsAt r g (encM 0x57 g a b sz imm) [] p = true) (ksm [encM 0x57 ⟨0, false⟩ (3) (0) (2) (64)]) 128 ⟨0, false⟩
      (3) (0) (2) (64) (kp [encM 0x57 ⟨0, false⟩ (3) (0) (2) (64)]) := by decide

theorem meets_HatchAndAttentionInstructions_hgemm :
    (fun (s : State) (r : Fin 132) (g : Guard) (da : Fin 16) (t : Fin 16) (p : Prog) => s.runsAt r g (encU 0x68 g da.val 0
      t.val 0 0 0 0) [] p = true ∧ (p.tally t.val).st = 0 ∧ gemmBad (p.dreg da.val) = false ∧ s.anyEngine p.cluster =
      true) (onRing 16 (kd [encU 0x68 ⟨0, false⟩ 1 0 2 0 0 0 0] [(1, dGemm)])) 16 ⟨0, false⟩ 1 2 (kd [encU 0x68 ⟨0,
      false⟩ 1 0 2 0 0 0 0] [(1, dGemm)]) := by decide

theorem meets_HatchAndAttentionInstructions_hgemmMalformed :
    (fun (s : State) (r : Fin 132) (g : Guard) (da : Fin 16) (t : Fin 16) (p : Prog) => s.runsAt r g (encU 0x68 g da.val 0
      t.val 0 0 0 0) [] p = true ∧ (p.tally t.val).st = 0 ∧ gemmBad (p.dreg da.val) = true) (onRing 16 (kd [encU 0x68
      ⟨0, false⟩ 1 0 2 0 0 0 0] [])) 16 ⟨0, false⟩ 1 2 (kd [encU 0x68 ⟨0, false⟩ 1 0 2 0 0 0 0] []) := by decide

theorem meets_HatchAndAttentionInstructions_hgemmNoEngine :
    (fun (s : State) (r : Fin 132) (g : Guard) (da : Fin 16) (t : Fin 16) (p : Prog) => s.runsAt r g (encU 0x68 g da.val 0
      t.val 0 0 0 0) [] p = true ∧ (p.tally t.val).st = 0 ∧ gemmBad (p.dreg da.val) = false ∧ s.anyEngine p.cluster =
      false)
      { onRing 16 (kd [encU 0x68 ⟨0, false⟩ 1 0 2 0 0 0 0] [(1, dGemm)]) with rpr := { RprState.init with clOut := [0] } }
      16 ⟨0, false⟩ 1 2 (kd [encU 0x68 ⟨0, false⟩ 1 0 2 0 0 0 0] [(1, dGemm)]) := by decide

theorem meets_HatchAndAttentionInstructions_hsmax :
    (fun (s : State) (r : Fin 132) (g : Guard) (da : Fin 16) (t : Fin 16) (p : Prog) => s.runsAt r g (encU 0x69 g da.val 0
      t.val 0 0 0 0) [] p = true ∧ (p.tally t.val).st = 0 ∧ hsmaxBad (p.dreg da.val) = false ∧ s.anyEngine p.cluster =
      true) (onRing 16 (kd [encU 0x69 ⟨0, false⟩ 1 0 2 0 0 0 0] [(1, dSmax)])) 16 ⟨0, false⟩ 1 2 (kd [encU 0x69 ⟨0,
      false⟩ 1 0 2 0 0 0 0] [(1, dSmax)]) := by decide

theorem meets_HatchAndAttentionInstructions_helt :
    (fun (s : State) (r : Fin 132) (g : Guard) (da : Fin 16) (t : Fin 16) (p : Prog) => s.runsAt r g (encU 0x6A g da.val 0
      t.val 0 0 0 0) [] p = true ∧ (p.tally t.val).st = 0 ∧ heltBad (p.dreg da.val) = false ∧ s.anyEngine p.cluster =
      true) (onRing 16 (kd [encU 0x6A ⟨0, false⟩ 1 0 2 0 0 0 0] [(1, dElt)])) 16 ⟨0, false⟩ 1 2 (kd [encU 0x6A ⟨0,
      false⟩ 1 0 2 0 0 0 0] [(1, dElt)]) := by decide

theorem meets_HatchAndAttentionInstructions_attn :
    (fun (s : State) (u : State) (r : Fin 132) (g : Guard) (da : Fin 16) (db : Fin 16) (t : Fin 16) (p : Prog) => s.runsAt r
      g (encU 0x70 g da.val db.val t.val 0 0 0 0) [] p = true ∧ (p.tally t.val).st = 0 ∧ attnBad (p.dreg da.val) (p.dreg
      db.val) = false ∧ (s.attnClusters (s.get F.ATT_CFG_CLUSTERS)).isEmpty = false ∧ attnStart r.val t.val p.cluster
      (p.dreg da.val) (p.dreg db.val) (s.setProg r.val ((p.setT t.val Tally.idle).issue t.val)) = some u)
      { memReady with rings := (ksm [encU 0x70 ⟨0, false⟩ 1 3 2 0 0 0 0]).rings } ((attnStart 128 2 0 (List.replicate 8
      0) (List.replicate 8 0) ({ memReady with rings := (ksm [encU 0x70 ⟨0, false⟩ 1 3 2 0 0 0 0]).rings }.setProg 128
      (((kp [encU 0x70 ⟨0, false⟩ 1 3 2 0 0 0 0]).setT 2 Tally.idle).issue 2))).getD State.reset) 128 ⟨0, false⟩ 1 3 2
      (kp [encU 0x70 ⟨0, false⟩ 1 3 2 0 0 0 0]) := by decide

theorem meets_HatchAndAttentionInstructions_attnMalformed :
    (fun (s : State) (r : Fin 132) (g : Guard) (da : Fin 16) (db : Fin 16) (t : Fin 16) (p : Prog) => s.runsAt r g (encU
      0x70 g da.val db.val t.val 0 0 0 0) [] p = true ∧ (p.tally t.val).st = 0 ∧ attnBad (p.dreg da.val) (p.dreg db.val)
      = true) (onRing 16 (kd [encU 0x70 ⟨0, false⟩ 1 3 2 0 0 0 0] [(1, [0x70000])])) 16 ⟨0, false⟩ 1 3 2 (kd [encU 0x70
      ⟨0, false⟩ 1 3 2 0 0 0 0] [(1, [0x70000])]) := by decide

theorem meets_HatchAndAttentionInstructions_amerge :
    (fun (s : State) (r : Fin 132) (g : Guard) (da : Fin 16) (t : Fin 16) (p : Prog) => s.runsAt r g (encU 0x71 g da.val 0
      t.val 0 0 0 0) [] p = true ∧ (p.tally t.val).st = 0 ∧ amergeBad (p.dreg da.val) = false ∧ (s.attnClusters (s.get
      F.ATT_CFG_CLUSTERS)).isEmpty = false) (onRing 16 (kd [encU 0x71 ⟨0, false⟩ 1 0 2 0 0 0 0] [(1, dMerge)])) 16 ⟨0,
      false⟩ 1 2 (kd [encU 0x71 ⟨0, false⟩ 1 0 2 0 0 0 0] [(1, dMerge)]) := by decide

theorem meets_HatchAndAttentionInstructions_plopen :
    (fun (s : State) (u : State) (r : Fin 132) (g : Guard) (da : Fin 16) (a : Fin 32) (p : Prog) (h : List Byte) => s.runsAt
      r g (encU 0x60 g da.val 0 0 a.val 0 0 0) [] p = true ∧ bits (p.sreg a.val).toNat 51 0 % 64 = 0 ∧ walkRead r.val
      p.ctx (bits (p.sreg a.val).toNat 51 0) 16 s = (.ok h, u) ∧ segmentBad h = false) (smPool (kp [encU 0x60 ⟨0, false⟩
      1 0 0 9 0 0 0]) [(0, 4)]) (walkRead 128 1 0 16 (smPool (kp [encU 0x60 ⟨0, false⟩ 1 0 0 9 0 0 0]) [(0, 4)])).2 128
      ⟨0, false⟩ 1 9 (kp [encU 0x60 ⟨0, false⟩ 1 0 0 9 0 0 0]) [4, 0, 0, 0, 0, 0, 0, 0, 0, 0, 0, 0, 0, 0, 0, 0] := ⟨by decide, by decide, rfl, by decide⟩

theorem meets_HatchAndAttentionInstructions_plopenMisaligned :
    (fun (s : State) (r : Fin 132) (g : Guard) (da : Fin 16) (a : Fin 32) (p : Prog) => s.runsAt r g (encU 0x60 g da.val 0 0
      a.val 0 0 0) [] p = true ∧ bits (p.sreg a.val).toNat 51 0 % 64 ≠ 0) (ks 16 [encU 0x60 ⟨0, false⟩ 1 0 0 1 0 0 0])
      16 ⟨0, false⟩ 1 1 (kp [encU 0x60 ⟨0, false⟩ 1 0 0 1 0 0 0]) := by decide

theorem meets_HatchAndAttentionInstructions_plreadEntry :
    (fun (s : State) (u : State) (r : Fin 132) (g : Guard) (da : Fin 16) (a : Fin 32) (f : Fin 8) (p : Prog) (d : List Byte)
      => s.runsAt r g (encU 0x61 g da.val 0 0 a.val 0 0 f.val) [] p = true ∧ bits (fld (p.dreg da.val) 1) 15 0 + 1 <
      bits (fld (p.dreg da.val) 1) 31 16 ∧ walkRead r.val (bits (fld (p.dreg da.val) 3) 11 0) (fld (p.dreg da.val) 0 +
      16 + 4 * bits (fld (p.dreg da.val) 1) 15 0) 4 s = (.ok d, u)) (smPool (kd [encU 0x61 ⟨0, false⟩ 1 0 0 9 0 0 2]
      [(1, [0, 0x40000])]) [(16, 7)]) (walkRead 128 0 16 4 (smPool (kd [encU 0x61 ⟨0, false⟩ 1 0 0 9 0 0 2] [(1, [0,
      0x40000])]) [(16, 7)])).2 128 ⟨0, false⟩ 1 9 2 (kd [encU 0x61 ⟨0, false⟩ 1 0 0 9 0 0 2] [(1, [0, 0x40000])]) [7,
      0, 0, 0] := ⟨by decide, by decide, rfl⟩

theorem meets_HatchAndAttentionInstructions_plreadNextSegment :
    (fun (s : State) (u : State) (v : State) (r : Fin 132) (g : Guard) (da : Fin 16) (a : Fin 32) (f : Fin 8) (p : Prog) (d
      : List Byte) (h : List Byte) => s.runsAt r g (encU 0x61 g da.val 0 0 a.val 0 0 f.val) [] p = true ∧ bits (fld
      (p.dreg da.val) 1) 15 0 + 1 = bits (fld (p.dreg da.val) 1) 31 16 ∧ walkRead r.val (bits (fld (p.dreg da.val) 3) 11
      0) (fld (p.dreg da.val) 0 + 16 + 4 * bits (fld (p.dreg da.val) 1) 15 0) 4 s = (.ok d, u) ∧ bits (fld (p.dreg
      da.val) 2) 51 0 ≠ 0 ∧ bits (fld (p.dreg da.val) 2) 51 0 % 64 = 0 ∧ walkRead r.val (bits (fld (p.dreg da.val) 3) 11
      0) (bits (fld (p.dreg da.val) 2) 51 0) 16 u = (.ok h, v) ∧ segmentBad h = false) (smPool (kd [encU 0x61 ⟨0, false⟩
      1 0 0 9 0 0 2] [(1, [0, 0x10000, 4096])]) [(16, 7), (4096, 4)]) (walkRead 128 0 16 4 (smPool (kd [encU 0x61 ⟨0,
      false⟩ 1 0 0 9 0 0 2] [(1, [0, 0x10000, 4096])]) [(16, 7), (4096, 4)])).2 (walkRead 128 0 4096 16 (walkRead 128 0
      16 4 (smPool (kd [encU 0x61 ⟨0, false⟩ 1 0 0 9 0 0 2] [(1, [0, 0x10000, 4096])]) [(16, 7), (4096, 4)])).2).2 128
      ⟨0, false⟩ 1 9 2 (kd [encU 0x61 ⟨0, false⟩ 1 0 0 9 0 0 2] [(1, [0, 0x10000, 4096])]) [7, 0, 0, 0] [4, 0, 0, 0, 0,
      0, 0, 0, 0, 0, 0, 0, 0, 0, 0, 0] := ⟨by decide, by decide, rfl, by decide, by decide, rfl, by decide⟩

theorem meets_HatchAndAttentionInstructions_plreadEnd :
    (fun (s : State) (r : Fin 132) (g : Guard) (da : Fin 16) (a : Fin 32) (f : Fin 8) (p : Prog) => s.runsAt r g (encU 0x61
      g da.val 0 0 a.val 0 0 f.val) [] p = true ∧ bits (fld (p.dreg da.val) 1) 31 16 ≤ bits (fld (p.dreg da.val) 1) 15 0
      ∧ bits (fld (p.dreg da.val) 2) 51 0 = 0) (ks 16 [encU 0x61 ⟨0, false⟩ 1 0 0 9 0 0 2]) 16 ⟨0, false⟩ 1 9 2 (kp
      [encU 0x61 ⟨0, false⟩ 1 0 0 9 0 0 2]) := by decide

theorem meets_HatchAndAttentionInstructions_plskip :
    (fun (s : State) (r : Fin 132) (g : Guard) (da : Fin 16) (a : Fin 32) (p : Prog) => s.runsAt r g (encU 0x62 g da.val 0 0
      a.val 0 0 0) [] p = true ∧ 0 < (p.sreg a.val).toNat ∧ bits (fld (p.dreg da.val) 1) 15 0 + (p.sreg a.val).toNat <
      bits (fld (p.dreg da.val) 1) 31 16) (onRing 16 (kd [encU 0x62 ⟨0, false⟩ 1 0 0 1 0 0 0] [(1, [0, 0x90000])])) 16
      ⟨0, false⟩ 1 1 (kd [encU 0x62 ⟨0, false⟩ 1 0 0 1 0 0 0] [(1, [0, 0x90000])]) := by decide

theorem meets_HatchAndAttentionInstructions_plemit :
    (fun (s : State) (r : Fin 132) (g : Guard) (t : Fin 16) (a : Fin 32) (b : Fin 32) (c : Fin 32) (p : Prog) (j : Job) =>
      s.runsAt r g (encU 0x63 g 0 0 t.val a.val b.val c.val 0) [] p = true ∧ s.emitJob r.val t.val = some j ∧
      s.hatch.jobs = [j] ∧ (p.sreg a.val).toNat < j.attn.batch ∧ (p.sreg a.val).toNat < j.seqs.length ∧ 0 < bits (p.sreg
      c.val).toNat 31 16 ∧ bits (p.sreg c.val).toNat 15 0 + bits (p.sreg c.val).toNat 31 16 ≤ j.attn.slots ∧
      j.unconsumed < 256)
      { onRing 16 { kp [encU 0x63 ⟨0, false⟩ 0 0 2 9 1 3 0] with s := [(1, 7), (3, 0x10000)] } with hatch := { HatchState.init with jobs := [{ newJob 3 16 2 0 .attn [] [] 0 with open_ := true, seqs := [⟨0, 0, 0, 0, [], [], 0, .good⟩] }] } }
      16 ⟨0, false⟩ 2 9 1 3 { kp [encU 0x63 ⟨0, false⟩ 0 0 2 9 1 3 0] with s := [(1, 7), (3, 0x10000)] }
      { newJob 3 16 2 0 .attn [] [] 0 with open_ := true, seqs := [⟨0, 0, 0, 0, [], [], 0, .good⟩] } := by decide

theorem meets_HatchAndAttentionInstructions_plemitNoJob :
    (fun (s : State) (r : Fin 132) (g : Guard) (t : Fin 16) (a : Fin 32) (b : Fin 32) (c : Fin 32) (p : Prog) => s.runsAt r
      g (encU 0x63 g 0 0 t.val a.val b.val c.val 0) [] p = true ∧ s.emitJob r.val t.val = none) (ks 16 [encU 0x63 ⟨0,
      false⟩ 0 0 2 9 1 3 0]) 16 ⟨0, false⟩ 2 9 1 3 (kp [encU 0x63 ⟨0, false⟩ 0 0 2 9 1 3 0]) := by decide

theorem meets_HatchAndAttentionInstructions_plend :
    (fun (s : State) (r : Fin 132) (g : Guard) (t : Fin 16) (p : Prog) (j : Job) => s.runsAt r g (encU 0x64 g 0 0 t.val 0 0
      0 0) [] p = true ∧ s.emitJob r.val t.val = some j ∧ s.hatch.jobs = [j])
      { ks 16 [encU 0x64 ⟨0, false⟩ 0 0 2 0 0 0 0] with hatch := { HatchState.init with jobs := [{ newJob 3 16 2 0 .attn [] [] 0 with open_ := true }] } }
      16 ⟨0, false⟩ 2 (kp [encU 0x64 ⟨0, false⟩ 0 0 2 0 0 0 0]) { newJob 3 16 2 0 .attn [] [] 0 with open_ := true } := by decide

theorem meets_HatchAndAttentionInstructions_plendNoJob :
    (fun (s : State) (r : Fin 132) (g : Guard) (t : Fin 16) (p : Prog) => s.runsAt r g (encU 0x64 g 0 0 t.val 0 0 0 0) [] p
      = true ∧ s.emitJob r.val t.val = none) (ks 16 [encU 0x64 ⟨0, false⟩ 0 0 2 0 0 0 0]) 16 ⟨0, false⟩ 2 (kp [encU 0x64
      ⟨0, false⟩ 0 0 2 0 0 0 0]) := by decide

theorem meets_TasksUnitsAndRows_dispatchNothing :
    (fun (s : State) (cl : Fin 4) (eng : Fin 13) => (s.engineIn cl.val eng.val = false ∨ s.engineFree (cl.val * 16 +
      eng.val) = false ∨ s.pickTask cl.val eng.val = none)) State.reset 1 2 := by decide

theorem meets_TasksUnitsAndRows_dispatch :
    (fun (s : State) (cl : Fin 4) (eng : Fin 13) (j : Job) (x : Task) => s.engineIn cl.val eng.val = true ∧ s.engineFree
      (cl.val * 16 + eng.val) = true ∧ s.pickTask cl.val eng.val = some (j, x, false) ∧ s.hatch.jobs = [j] ∧ j.kind =
      .merge ∧ x.loaded = none) (working { aJob .merge dMerge [] with ready := [Task.new 0 0 0] }) 0 2
      { aJob .merge dMerge [] with ready := [Task.new 0 0 0] } (Task.new 0 0 0) := by decide

theorem meets_TasksUnitsAndRows_dispatchLoads :
    (fun (s : State) (u : State) (cl : Fin 4) (eng : Fin 13) (j : Job) (x : Task) (l : List (List Nat)) => s.engineIn cl.val
      eng.val = true ∧ s.engineFree (cl.val * 16 + eng.val) = true ∧ s.pickTask cl.val eng.val = some (j, x, true) ∧
      s.hatch.jobs = [j] ∧ j.kind = .helt ∧ x.loaded = none ∧ heltLoad j.ring j.d0 x.tile s = (.ok l, u))
      { smPool (kp []) [(4096, 7)] with hatch := { HatchState.init with jobs := [newJob 3 128 2 0 .helt dElt [] 1] } }
      (heltLoad 128 dElt 0
      { smPool (kp []) [(4096, 7)] with hatch := { HatchState.init with jobs := [newJob 3 128 2 0 .helt dElt [] 1] } }).2
      0 2 (newJob 3 128 2 0 .helt dElt [] 1) (Task.new 0 0 0) [[7, 0, 0, 0], [], []] := ⟨by decide, by decide, by decide, by decide, by decide, by decide, rfl⟩

theorem meets_TasksUnitsAndRows_taskNone :
    (fun (s : State) (cl : Fin 4) (eng : Fin 13) (w : Option (List Nat)) (d : Bool) => s.hatch.jobs.find? (fun j =>
      j.run.any (fun x => x.1 == cl.val * 16 + eng.val)) = none) State.reset 1 2 none false := by decide

theorem meets_TasksUnitsAndRows_taskCommits :
    (fun (s : State) (cl : Fin 4) (eng : Fin 13) (j : Job) (x : Task) (res : List Nat) => s.hatch.jobs = [j] ∧ j.run =
      [(cl.val * 16 + eng.val, x)] ∧ j.kind = .hgemm ∧ x.prior = [] ∧ x.step + 1 < (gemmOf j.d0).steps ∧ res =
      gemmResult (gemmOf j.d0) ((gemmOf j.d0).box x.tile x.step) x.step (x.loaded.getD []) (Tab.get [] j.accs x.tile) ∧
      gemmSpecial (gemmOf j.d0) (x.loaded.getD []) (gemmStart ((gemmOf j.d0).box x.tile x.step) x.step (x.loaded.getD
      []) (Tab.get [] j.accs x.tile)) res = false ∧ gemmCheck (gemmOf j.d0) ((gemmOf j.d0).box x.tile x.step) x.step
      (x.loaded.getD []) (Tab.get [] j.accs x.tile) res = true) (working (aJob .hgemm [0x1000, 0x2220000000002000,
      0x3000, 0x0800000001000001, 0x100000001000, 0x3F80000000000040, 0, 0] [(2,
      { Task.new 0 0 0 with loaded := some [[], []] })])) 0 2 (aJob .hgemm [0x1000, 0x2220000000002000, 0x3000,
      0x0800000001000001, 0x100000001000, 0x3F80000000000040, 0, 0] [(2,
      { Task.new 0 0 0 with loaded := some [[], []] })]) { Task.new 0 0 0 with loaded := some [[], []] } [0] := by decide

theorem meets_TasksUnitsAndRows_taskFails :
    (fun (s : State) (cl : Fin 4) (eng : Fin 13) (j : Job) (x : Task) => s.hatch.jobs = [j] ∧ j.run = [(cl.val * 16 +
      eng.val, x)] ∧ (j.kind = .helt ∨ j.kind = .hsmax) ∧ j.bad = none ∧ (x.fails.filter (· != cl.val * 16 +
      eng.val)).length + 1 < s.get (F.CC_CFG_RERUN_MAX cl.val) ∧ s.get (F.CC_HCHK_FAILS cl.val eng.val) + 1 < s.get
      F.RPR_CFG_RETIRE_CHK) (working (aJob .helt dElt [(2, Task.new 0 0 0)])) 0 2 (aJob .helt dElt [(2, Task.new 0 0
      0)]) (Task.new 0 0 0) := by decide

theorem meets_TasksUnitsAndRows_jobStopped :
    (fun (s : State) (r : Fin 132) (x : Fin 16) (j : Job) (st_ : Nat) (d : Nat) (p : Prog) => s.hatch.jobs = [j] ∧ j.ring =
      r.val ∧ j.t = x.val ∧ j.run = [] ∧ j.open_ = false ∧ j.kind = .helt ∧ j.bad = some (st_, d) ∧ d < 4294967296 ∧
      s.prog r.val = some p ∧ (p.tally x.val).st = 1 ∧ p.stall = .no) (working
      { aJob .helt dElt [] with bad := some (0x21, 4) }) 16 2 { aJob .helt dElt [] with bad := some (0x21, 4) } 0x21 4
      (kpt [] [(2, { Tally.idle with st := 1 })]) := by decide

theorem meets_TasksUnitsAndRows_clusterReturn :
    (fun (s : State) (cl : Fin 4) => s.rpr.clOut.contains cl.val = true ∧ s.synState cl.val = synLocked)
      { st [(F.CKR_SYN_STATUS_STATE 1, 2)] with rpr := { RprState.init with clOut := [1] } } 1 := by decide

theorem meets_TasksUnitsAndRows_clusterStays :
    (fun (s : State) (cl : Fin 4) => (s.rpr.clOut.contains cl.val = false ∨ s.synState cl.val ≠ synLocked)) State.reset 1 := by decide

theorem meets_TasksUnitsAndRows_lockstep :
    (fun (s : State) (cl : Fin 4) (phys : Fin 18) (l : Nat) => s.logicalOf .stipple cl.val phys.val = some l) State.reset 1
      2 2 := by decide

theorem meets_TasksUnitsAndRows_lockstepSpare :
    (fun (s : State) (cl : Fin 4) (phys : Fin 18) => s.logicalOf .stipple cl.val phys.val = none) State.reset 1 17 := by decide

theorem meets_TasksUnitsAndRows_spareNone :
    (fun (s : State) (cl : Fin 4) (hatch : Bool) (pass : Bool) => s.rpr.tests = []) State.reset 1 true true := by decide

theorem meets_TasksUnitsAndRows_spareOnline :
    (fun (s : State) (cl : Fin 4) (hatch : Bool) (x : SpareTest) => s.rpr.tests = [x] ∧ x.cl = cl.val ∧ x.kind = (if hatch
      then .hatch else .stipple) ∧ s.physUnit x.kind x.cl x.logical = vacantMark x.kind ∧ s.blockVacant x.kind x.cl
      x.logical = false ∧ x.logical < unitCount x.kind ∧ x.phys < physCount x.kind)
      { setPhysUnit .hatch 1 2 15 State.reset with rpr := { RprState.init with tests := [⟨1, .hatch, 2, 12⟩] } } 1 true
      ⟨1, .hatch, 2, 12⟩ := by decide

theorem meets_TasksUnitsAndRows_stagingInput :
    (fun (s : State) (cl : Fin 4) (e : Fin 13) (j : Job) (x : Task) => s.hatch.jobs = [j] ∧ j.run = [(cl.val * 16 + e.val,
      x)]) (working (aJob .helt dElt [(2, Task.new 0 0 0)])) 0 2 (aJob .helt dElt [(2, Task.new 0 0 0)]) (Task.new 0 0
      0) := by decide

theorem meets_TasksUnitsAndRows_stagingPartial :
    (fun (s : State) (cl : Fin 4) (r : Fin 132) (t : Fin 16) (tile : Nat) (chunk : Nat) (j : Job) (v : List Nat) =>
      s.hatch.jobs = [j] ∧ j.ring = r.val ∧ j.t = t.val ∧ j.kind = .attn ∧ j.parts = [(tile, chunk, v)] ∧ j.accs = [] ∧
      s.anyEngine cl.val = true) (working { aJob .attn [] [] with parts := [(0, 1, [7])] }) 0 16 2 0 1
      { aJob .attn [] [] with parts := [(0, 1, [7])] } [7] := by decide

theorem meets_TasksUnitsAndRows_rowTestUe :
    (fun (s : State) (code : BitVec 8) (inst : BitVec 16) (row : BitVec 16) => (SramRow.mk code.toNat inst.toNat
      row.toNat).ok = true ∧ s.rpr.rowsOut.contains ⟨code.toNat, inst.toNat, row.toNat⟩ = false) State.reset 4 3 5 := by decide

theorem meets_TasksUnitsAndRows_rowTestNo :
    (fun (s : State) (code : BitVec 8) (inst : BitVec 16) (row : BitVec 16) (ue : Bool) => ((SramRow.mk code.toNat
      inst.toNat row.toNat).ok = false ∨ s.rpr.rowsOut.contains ⟨code.toNat, inst.toNat, row.toNat⟩ = true)) State.reset
      4 99 5 true := by decide

theorem meets_TasksUnitsAndRows_rowPasses :
    (fun (s : State) (code : BitVec 8) (inst : BitVec 16) (row : BitVec 16) => s.rpr.rowsOut = [⟨code.toNat, inst.toNat,
      row.toNat⟩] ∧ rowCore ⟨code.toNat, inst.toNat, row.toNat⟩ s = none)
      { State.reset with rpr := { RprState.init with rowsOut := [⟨4, 3, 5⟩] } } 4 3 5 := by decide

theorem meets_TasksUnitsAndRows_rowRepaired :
    (fun (s : State) (code : BitVec 8) (inst : BitVec 16) (row : BitVec 16) => s.rpr.rowsOut = [⟨code.toNat, inst.toNat,
      row.toNat⟩] ∧ (code.toNat = 4 ∨ code.toNat = 5) ∧ Tab.get 0 s.rpr.spareRows (arrayKey code.toNat inst.toNat) < 4)
      { State.reset with rpr := { RprState.init with rowsOut := [⟨4, 3, 5⟩] } } 4 3 5 := by decide

theorem meets_TasksUnitsAndRows_repairSoon :
    (fun (s : State) (ok : Bool) (k : Nat) => s.rpr.lastWrite = some k ∧ s.ticks < k + 4000000000)
      { State.reset with rpr := { RprState.init with lastWrite := some 0 } } true 0 := by decide

theorem meets_TasksUnitsAndRows_repairWritten :
    (fun (s : State) => s.rpr.lastWrite = none ∧ s.rpr.pending ≠ [] ∧ s.rpr.copyA = none ∧ s.rpr.copyB = none ∧
      s.rpr.deleted = []) { State.reset with rpr := { RprState.init with pending := [⟨1, 2, 3, 4, 5⟩] } } := by decide

theorem meets_PressInstructions_pqueueLost :
    (fun (s : State) (r : Fin 132) (g : Guard) (da : Fin 16) (t : Fin 16) (p : Prog) => s.runsAt r g (encU 0x80 g da.val 0
      t.val 0 0 0 0) [] p = true ∧ (p.tally t.val).st = 0) (ks 16 [encU 0x80 ⟨0, false⟩ 1 0 2 0 0 0 0]) 16 ⟨0, false⟩ 1
      2 (kp [encU 0x80 ⟨0, false⟩ 1 0 2 0 0 0 0]) := by decide

theorem meets_PressInstructions_pqueueTaken :
    (fun (s : State) (u : State) (r : Fin 132) (g : Guard) (da : Fin 16) (t : Fin 16) (p : Prog) (x : Page) (m : Tab Nat) =>
      s.runsAt r g (encU 0x80 g da.val 0 t.val 0 0 0 0) [] p = true ∧ (p.tally t.val).st = 0 ∧ smRing r.val = false ∧
      s.leases.press = some (r.val / 8) ∧ x = pageOfDesc r.val t.val s.prs.nextPage (p.dreg da.val) ∧ plateBad (p.dreg
      da.val) x s = false ∧ s.log.halted = false ∧ s.allPages.length < 64 ∧ x.stream = none ∧ bit (fld (p.dreg da.val)
      1) 39 = false ∧ captureSurf r.val x.surf s = (m, AccRes.empty, u) ∧ u.sealFits (framePages m) = true ∧
      s.prs.hashing = [] ∧ s.canReserve = true ∧ s.log.wants = [] ∧ (plateBytes (mapRd m) x.surf (takeSeal (framePages
      m) true s).2).1.held = false ∧ (plateBytes (mapRd m) x.surf (takeSeal (framePages m) true s).2).1.bad = none)
      (on16 (pressed (parted.put F.PRS_CFG_MAX_WIDTH 100)) (kd [encU 0x80 ⟨0, false⟩ 1 0 2 0 0 0 0] [(1, [0x10000,
      0x100010008, 64, 4095, 0x400000003])])) (on16 (pressed (parted.put F.PRS_CFG_MAX_WIDTH 100)) (kd [encU 0x80 ⟨0,
      false⟩ 1 0 2 0 0 0 0] [(1, [0x10000, 0x100010008, 64, 4095, 0x400000003])])) 16 ⟨0, false⟩ 1 2 (kd [encU 0x80 ⟨0,
      false⟩ 1 0 2 0 0 0 0] [(1, [0x10000, 0x100010008, 64, 4095, 0x400000003])]) (pageOfDesc 16 2 0 [0x10000,
      0x100010008, 64, 4095, 0x400000003]) [(1, 1)] := by decide

theorem meets_PressInstructions_pqueueMalformed :
    (fun (s : State) (r : Fin 132) (g : Guard) (da : Fin 16) (t : Fin 16) (p : Prog) => s.runsAt r g (encU 0x80 g da.val 0
      t.val 0 0 0 0) [] p = true ∧ (p.tally t.val).st = 0 ∧ smRing r.val = false ∧ s.leases.press = some (r.val / 8) ∧
      plateBad (p.dreg da.val) (pageOfDesc r.val t.val s.prs.nextPage (p.dreg da.val)) s = true) (pressed (ks 16 [encU
      0x80 ⟨0, false⟩ 1 0 2 0 0 0 0])) 16 ⟨0, false⟩ 1 2 (kp [encU 0x80 ⟨0, false⟩ 1 0 2 0 0 0 0]) := by decide

theorem meets_PressInstructions_pcancel :
    (fun (s : State) (r : Fin 132) (g : Guard) (a : Fin 32) (p : Prog) => s.runsAt r g (encU 0x81 g 0 0 0 a.val 0 0 0) [] p
      = true ∧ smRing r.val = false ∧ s.leases.press = some (r.val / 8)) (let q := pressed (ks 16 [encU 0x81 ⟨0, false⟩
      0 0 0 3 0 0 0]);
      { q with prs := { PrsState.init with queue := [{ aPage with job := 0 }, { aPage with id := 8 }] } }) 16 ⟨0, false⟩
      3 (kp [encU 0x81 ⟨0, false⟩ 0 0 0 3 0 0 0]) := by decide

theorem meets_PressInstructions_pengineWarm :
    (fun (s : State) (r : Fin 132) (g : Guard) (a : Fin 32) (p : Prog) => s.runsAt r g (encU 0x82 g 0 0 0 a.val 0 0 0) [] p
      = true ∧ smRing r.val = false ∧ s.leases.press = some (r.val / 8) ∧ s.jobRuns 5 = false ∧ p.sreg a.val = 1 ∧
      s.pressIn.ilk = true ∧ s.prs.aonSafe = false ∧ (s.eng = engStandby ∨ s.eng = engStopping)) (engineIn 1 (pressed
      (onRing 16 { kp [encU 0x82 ⟨0, false⟩ 0 0 0 3 0 0 0] with s := [(3, 1)] }))) 16 ⟨0, false⟩ 3
      { kp [encU 0x82 ⟨0, false⟩ 0 0 0 3 0 0 0] with s := [(3, 1)] } := by decide

theorem meets_PressInstructions_pengineStart :
    (fun (s : State) (r : Fin 132) (g : Guard) (a : Fin 32) (p : Prog) => s.runsAt r g (encU 0x82 g 0 0 0 a.val 0 0 0) [] p
      = true ∧ smRing r.val = false ∧ s.leases.press = some (r.val / 8) ∧ s.jobRuns 5 = false ∧ p.sreg a.val = 0 ∧ s.eng
      = engOff) (pressed (ks 16 [encU 0x82 ⟨0, false⟩ 0 0 0 3 0 0 0])) 16 ⟨0, false⟩ 3 (kp [encU 0x82 ⟨0, false⟩ 0 0 0 3
      0 0 0]) := by decide

theorem meets_PressInstructions_pengineStop :
    (fun (s : State) (r : Fin 132) (g : Guard) (a : Fin 32) (p : Prog) => s.runsAt r g (encU 0x82 g 0 0 0 a.val 0 0 0) [] p
      = true ∧ smRing r.val = false ∧ s.leases.press = some (r.val / 8) ∧ s.jobRuns 5 = false ∧ p.sreg a.val = 0 ∧ s.eng
      = engReady) (engineIn 3 (pressed (ks 16 [encU 0x82 ⟨0, false⟩ 0 0 0 3 0 0 0]))) 16 ⟨0, false⟩ 3 (kp [encU 0x82 ⟨0,
      false⟩ 0 0 0 3 0 0 0]) := by decide

theorem meets_PressInstructions_pengineIlk :
    (fun (s : State) (r : Fin 132) (g : Guard) (a : Fin 32) (p : Prog) => s.runsAt r g (encU 0x82 g 0 0 0 a.val 0 0 0) [] p
      = true ∧ smRing r.val = false ∧ s.leases.press = some (r.val / 8) ∧ s.jobRuns 5 = false ∧ p.sreg a.val = 1 ∧
      s.pressIn.ilk = false)
      { pressed (onRing 16 { kp [encU 0x82 ⟨0, false⟩ 0 0 0 3 0 0 0] with s := [(3, 1)] }) with pressIn := { ilk := false, erdy := true } }
      16 ⟨0, false⟩ 3 { kp [encU 0x82 ⟨0, false⟩ 0 0 0 3 0 0 0] with s := [(3, 1)] } := by decide

theorem meets_PressInstructions_pengineMalformed :
    (fun (s : State) (r : Fin 132) (g : Guard) (a : Fin 32) (p : Prog) => s.runsAt r g (encU 0x82 g 0 0 0 a.val 0 0 0) [] p
      = true ∧ s.jobRuns 5 = false ∧ 1 < (p.sreg a.val).toNat) (ks 16 [encU 0x82 ⟨0, false⟩ 0 0 0 1 0 0 0]) 16 ⟨0,
      false⟩ 1 (kp [encU 0x82 ⟨0, false⟩ 0 0 0 1 0 0 0]) := by decide

theorem meets_PressInstructions_pengineTest :
    (fun (s : State) (r : Fin 132) (g : Guard) (a : Fin 32) (lost : Bool) => s.jobRuns 5 = true)
      { State.reset with tst := { TestState.init with job := some { kind := 5, pattern := 0, loop := 0, inst := 0, array := 0, duration := 1, thrSent := false } } }
      16 ⟨0, false⟩ 1 false := by decide

theorem meets_PressInstructions_pstatHolder :
    (fun (s : State) (r : Fin 132) (g : Guard) (a : Fin 32) (p : Prog) => s.runsAt r g (encU 0x83 g 0 0 0 a.val 0 0 0) [] p
      = true ∧ smRing r.val = false ∧ s.leases.press = some (r.val / 8)) (pressed (ks 16 [encU 0x83 ⟨0, false⟩ 0 0 0 3 0
      0 0])) 16 ⟨0, false⟩ 3 (kp [encU 0x83 ⟨0, false⟩ 0 0 0 3 0 0 0]) := by decide

theorem meets_PressInstructions_pstatOther :
    (fun (s : State) (r : Fin 132) (g : Guard) (a : Fin 32) (p : Prog) => s.runsAt r g (encU 0x83 g 0 0 0 a.val 0 0 0) [] p
      = true ∧ s.leases.press ≠ some (r.val / 8)) (ks 16 [encU 0x83 ⟨0, false⟩ 0 0 0 3 0 0 0]) 16 ⟨0, false⟩ 3 (kp [encU
      0x83 ⟨0, false⟩ 0 0 0 3 0 0 0]) := by decide

theorem meets_PressInstructions_noLease :
    (fun (s : State) (r : Fin 132) (g : Guard) (a : Fin 32) (p : Prog) => s.runsAt r g (encU 0x82 g 0 0 0 a.val 0 0 0) [] p
      = true ∧ smRing r.val = false ∧ s.leases.press ≠ some (r.val / 8) ∧ s.jobRuns 5 = false ∧ (p.sreg a.val).toNat ≤
      1) (ks 16 [encU 0x82 ⟨0, false⟩ 0 0 0 3 0 0 0]) 16 ⟨0, false⟩ 3 (kp [encU 0x82 ⟨0, false⟩ 0 0 0 3 0 0 0]) := by decide

theorem meets_EngineSheetsAndInterlock_hashPassNone :
    (fun (s : State) => s.prs.hashing = []) State.reset := by decide

theorem meets_EngineSheetsAndInterlock_hashPassDone :
    (fun (s : State) (u : State) (p : Page) (x : Stream) (b : List Byte) => s.prs.hashing.find? (fun y => !y.hashed) = some
      p ∧ p.stream = some x ∧ hashBands p x p.bands 0 [] s = (.ok b, u) ∧ u.canReserve = true ∧ u.log.wants = [] ∧ u.prs
      = s.prs)
      { State.reset with prs := { PrsState.init with hashing := [{ aPage with stream := some aStream, h := 0 }] } }
      { State.reset with prs := { PrsState.init with hashing := [{ aPage with stream := some aStream, h := 0 }] } }
      { aPage with stream := some aStream, h := 0 } aStream [] := ⟨by decide, by decide, rfl, by decide, by decide, by decide⟩

theorem meets_EngineSheetsAndInterlock_rasterTileNothing :
    (fun (s : State) => s.ras.bands = []) State.reset := by decide

theorem meets_EngineSheetsAndInterlock_rasterBand :
    (fun (s : State) (u : State) (id : Nat) (k : Nat) (rest : List (Nat × Nat)) (p : Page) (x : Stream) (q : AccRes) (rows :
      List (List Byte)) => s.ras.bands = (id, k) :: rest ∧ s.pageOf id = some p ∧ p.stream = some x ∧ renderBand p x k s
      = (.ok (q, rows), u) ∧ q.held = false ∧ q.poison = false ∧ q.unavail = none)
      { State.reset with ras := { RasState.init with bands := [(7, 1)] }, prs := { PrsState.init with queue := [{ aPage with stream := some aStream }] } }
      (renderBand { aPage with stream := some aStream } aStream 1
      { State.reset with ras := { RasState.init with bands := [(7, 1)] }, prs := { PrsState.init with queue := [{ aPage with stream := some aStream }] } }).2
      7 1 [] { aPage with stream := some aStream } aStream AccRes.empty [] := ⟨by decide, by decide, by decide, rfl, by decide, by decide, by decide⟩

theorem meets_EngineSheetsAndInterlock_rasterBandGone :
    (fun (s : State) (id : Nat) (k : Nat) (rest : List (Nat × Nat)) => s.ras.bands = (id, k) :: rest ∧ s.pageOf id = none)
      { State.reset with ras := { RasState.init with bands := [(7, 1)] } } 7 1 [] := by decide

theorem meets_EngineSheetsAndInterlock_bandRequestNone :
    (fun (s : State) => s.livePages = []) State.reset := by decide

theorem meets_EngineSheetsAndInterlock_bandRequest :
    (fun (s : State) (q : SheetPage) (rest : List SheetPage) (p : Page) (x : Stream) (k : Nat) => s.livePages = q :: rest ∧
      s.pageOf q.page = some p ∧ p.stream = some x ∧ k = Tab.get 0 s.prs.bandNext p.id ∧ k < p.bands ∧ k < x.nb)
      { State.reset with prs := { PrsState.init with queue := [{ aPage with stream := some aStream, picked := true }], sheets := [{ aSheet with pages := [{ aSheetPage with page := 7, outcome := none, imaging := 0 }] }] } }
      { aSheetPage with page := 7, outcome := none, imaging := 0 } []
      { aPage with stream := some aStream, picked := true } aStream 0 := by decide

theorem meets_EngineSheetsAndInterlock_warmingToReady :
    (fun (s : State) => s.eng = engWarming ∧ s.engConditions = true)
      { engineIn 2 (st [(F.CKR_SYN_STATUS_STATE 10, 2), (F.DRY_STATUS_LOCK, 1), (F.PRS_OT_EN 0, 1), (F.CKR_ISL_CLK_RUNNING, 16), (F.CKR_ISL_STATE_IN_RESET, 0)]) with pressIn := { ilk := true, erdy := true } } := by decide

theorem meets_EngineSheetsAndInterlock_warmingStays :
    (fun (s : State) => (s.engConditions = false ∨ s.eng ≠ engWarming)) State.reset := by decide

theorem meets_EngineSheetsAndInterlock_readyToWarming :
    (fun (s : State) => s.eng = engReady ∧ s.engConditions = false) (engineIn 3 State.reset) := by decide

theorem meets_EngineSheetsAndInterlock_stoppingToStandby :
    (fun (s : State) => s.eng = engStopping ∧ s.path = []) (engineIn 4 State.reset) := by decide

theorem meets_EngineSheetsAndInterlock_engineLost :
    (fun (s : State) => s.engHot = true) (engineIn 3 State.reset) := by decide

theorem meets_EngineSheetsAndInterlock_engineLostCold :
    (fun (s : State) => s.engHot = false) State.reset := by decide

theorem meets_EngineSheetsAndInterlock_pick :
    (fun (s : State) (p : Page) => s.pickPages = some [p] ∧ s.pickReady = true ∧ s.pageOf p.id = some p)
      { engineIn 3 (st [(F.CKR_SYN_STATUS_STATE 10, 2), (F.DRY_STATUS_LOCK, 1), (F.PRS_OT_EN 0, 1), (F.CKR_ISL_CLK_RUNNING, 16), (F.CKR_ISL_STATE_IN_RESET, 0)]) with pressIn := { ilk := true, erdy := true }, prs := { PrsState.init with queue := [{ aPage with resv := some 1 }] } }
      { aPage with resv := some 1 } := by decide

theorem meets_EngineSheetsAndInterlock_noPick :
    (fun (s : State) => s.pickReady = false) State.reset := by decide

theorem meets_EngineSheetsAndInterlock_coverExpected :
    (fun (s : State) (n : Fin 24) (high : Bool) (id : Nat) (k : Nat) => s.hasPress = true ∧ (high != bit (s.get
      F.PRS_SNS_POL_POL) n.val) = true ∧ bit (s.get F.PRS_SNS_STATE_COVERED) n.val = false ∧ s.expecting n.val = some
      (id, k))
      { st [(F.PRS_STN_EN 3, 1), (F.PRS_STN_ROUTES 3, 1), (F.PRS_STN_SENSOR 3, 2), (F.PRS_STN_ARR_MAX 3, 9)] with prs := { PrsState.init with sheets := [aSheet] } }
      2 true 5 3 := by decide

theorem meets_EngineSheetsAndInterlock_coverUnexpected :
    (fun (s : State) (n : Fin 24) (high : Bool) => s.hasPress = true ∧ s.engRuns = true ∧ (high != bit (s.get
      F.PRS_SNS_POL_POL) n.val) = true ∧ bit (s.get F.PRS_SNS_STATE_COVERED) n.val = false ∧ s.path = []) (engineIn 1
      State.reset) 2 true := by decide

theorem meets_EngineSheetsAndInterlock_uncover :
    (fun (s : State) (n : Fin 24) (high : Bool) => s.hasPress = true ∧ (high != bit (s.get F.PRS_SNS_POL_POL) n.val) = false
      ∧ bit (s.get F.PRS_SNS_STATE_COVERED) n.val = true) (st [(F.PRS_SNS_STATE_COVERED, 4)]) 2 false := by decide

theorem meets_EngineSheetsAndInterlock_edgeNothing :
    (fun (s : State) (n : Fin 24) (high : Bool) => (high != bit (s.get F.PRS_SNS_POL_POL) n.val) = bit (s.get
      F.PRS_SNS_STATE_COVERED) n.val) State.reset 2 false := by decide

theorem meets_EngineSheetsAndInterlock_jam :
    (fun (s : State) => s.engRuns = true ∧ (s.path.any s.missed = true ∨ s.prs.coverAt.any s.longCover = true))
      { engineIn 3 (st [(F.PRS_STN_EN 3, 1), (F.PRS_STN_ROUTES 3, 1), (F.PRS_STN_SENSOR 3, 2), (F.PRS_STN_ARR_MAX 3, 0)]) with ticks := 1, prs := { PrsState.init with sheets := [aSheet] } } := by decide

theorem meets_EngineSheetsAndInterlock_noJam :
    (fun (s : State) => s.path.any s.missed = false ∧ s.prs.coverAt.any s.longCover = false) State.reset := by decide

theorem meets_EngineSheetsAndInterlock_clutches :
    (fun (s : State) (j : Fin 32) => s.engRuns = true ∧ s.prs.aonSafe = false) (engineIn 3 State.reset) 3 := by decide

theorem meets_EngineSheetsAndInterlock_clutchesOff :
    (fun (s : State) => (s.engRuns = false ∨ s.prs.aonSafe = true)) State.reset := by decide

theorem meets_EngineSheetsAndInterlock_spoilNothing :
    (fun (s : State) => s.imagedPage = none) State.reset := by decide

theorem meets_EngineSheetsAndInterlock_spoil :
    (fun (s : State) (x : SheetPage) (sh : Sheet) => s.imagedPage = some (sh.id, x) ∧ s.prs.sheets = [sh] ∧ sh.pages = [x] ∧
      x.outcome = none ∧ x.info.attempt < 255 ∧ sh.route = 0 ∧ sh.gone = false ∧ s.ticks - sh.picked ≤ s.latestOf 0)
      { State.reset with prs := { PrsState.init with sheets := [{ aSheet with pages := [{ aSheetPage with outcome := none, imaging := 1 }] }] } }
      { aSheetPage with outcome := none, imaging := 1 }
      { aSheet with pages := [{ aSheetPage with outcome := none, imaging := 1 }] } := by decide

theorem meets_EngineSheetsAndInterlock_sheetExit :
    (fun (s : State) (sh : Sheet) => s.prs.sheets = [sh] ∧ sh.gone = false ∧ (s.lastStation sh.route).any (fun k =>
      sh.left.contains k) = true ∧ sh.final = true)
      { st [(F.PRS_STN_EN 3, 1), (F.PRS_STN_ROUTES 3, 1)] with prs := { PrsState.init with sheets := [{ aSheet with left := [3] }] } }
      { aSheet with left := [3] } := by decide

theorem meets_EngineSheetsAndInterlock_noExit :
    (fun (s : State) => s.path = []) State.reset := by decide

theorem meets_EngineSheetsAndInterlock_comparator :
    (fun (s : State) (k : Fin 4) => s.on (F.PRS_OT_EN k.val) = true ∧ s.engRuns = true) (engineIn 3 (st [(F.PRS_OT_EN 2,
      1)])) 2 := by decide

theorem meets_EngineSheetsAndInterlock_comparatorOff :
    (fun (s : State) (k : Fin 4) => s.on (F.PRS_OT_EN k.val) = false) State.reset 2 := by decide

theorem meets_EngineSheetsAndInterlock_configClosed :
    (fun (s : State) (o : BitVec 12) (v : W64) => s.hasPress = true ∧ prsCfgOffset o.toNat = true ∧ isReg (R.PRS_CFG +
      o.toNat) = true ∧ s.prsCfgOpen = false) (engineIn 3 State.reset) 0 7 := by decide

theorem meets_EngineSheetsAndInterlock_configWrite :
    (fun (s : State) (o : BitVec 12) (v : W64) => s.hasPress = true ∧ prsCfgOffset o.toNat = true ∧ isReg (R.PRS_CFG +
      o.toNat) = true ∧ s.prsCfgOpen = true ∧ R.PRS_CFG + o.toNat ≠ R.PRS_SNS_POL) State.reset 0 7 := by decide

theorem meets_EngineSheetsAndInterlock_interlockFalls :
    (fun (s : State) => s.engRuns = true) (engineIn 3 State.reset) := by decide

theorem meets_EngineSheetsAndInterlock_interlockFallsCold :
    (fun (s : State) => s.engRuns = false) State.reset := by decide

theorem meets_RasterAndProofCommands_rdraw :
    (fun (s : State) (r : Fin 132) (g : Guard) (da : Fin 16) (t : Fin 16) (p : Prog) (n : Nat) => s.runsAt r g (encU 0x78 g
      da.val 0 t.val 0 0 0 0) [] p = true ∧ (p.tally t.val).st = 0 ∧ surfBad false (p.dreg da.val) = false ∧ n = bits
      (fld (p.dreg da.val) 3) 43 41 ∧ smRing r.val = false ∧ s.rasOwner n = some (r.val / 8) ∧ (s.rasQueue n).length <
      16) (on16 (st [(F.RAS_CTX_OWNER_OWNER 3, 2)]) (kd [encU 0x78 ⟨0, false⟩ 1 0 2 0 0 0 0] [(1, dDraw)])) 16 ⟨0,
      false⟩ 1 2 (kd [encU 0x78 ⟨0, false⟩ 1 0 2 0 0 0 0] [(1, dDraw)]) 3 := by decide

theorem meets_RasterAndProofCommands_rclear :
    (fun (s : State) (r : Fin 132) (g : Guard) (da : Fin 16) (t : Fin 16) (p : Prog) (n : Nat) => s.runsAt r g (encU 0x79 g
      da.val 0 t.val 0 0 0 0) [] p = true ∧ (p.tally t.val).st = 0 ∧ surfBad true (p.dreg da.val) = false ∧ n = bits
      (fld (p.dreg da.val) 3) 43 41 ∧ smRing r.val = false ∧ s.rasOwner n = some (r.val / 8) ∧ (s.rasQueue n).length <
      16) (on16 (st [(F.RAS_CTX_OWNER_OWNER 3, 2)]) (kd [encU 0x79 ⟨0, false⟩ 1 0 2 0 0 0 0] [(1, dDraw.set 0 0)])) 16
      ⟨0, false⟩ 1 2 (kd [encU 0x79 ⟨0, false⟩ 1 0 2 0 0 0 0] [(1, dDraw.set 0 0)]) 3 := by decide

theorem meets_RasterAndProofCommands_rdrawMalformed :
    (fun (s : State) (r : Fin 132) (g : Guard) (da : Fin 16) (t : Fin 16) (p : Prog) => s.runsAt r g (encU 0x78 g da.val 0
      t.val 0 0 0 0) [] p = true ∧ (p.tally t.val).st = 0 ∧ surfBad false (p.dreg da.val) = true) (ks 16 [encU 0x78 ⟨0,
      false⟩ 1 0 2 0 0 0 0]) 16 ⟨0, false⟩ 1 2 (kp [encU 0x78 ⟨0, false⟩ 1 0 2 0 0 0 0]) := by decide

theorem meets_RasterAndProofCommands_rdrawNotOwner :
    (fun (s : State) (r : Fin 132) (g : Guard) (da : Fin 16) (t : Fin 16) (p : Prog) => s.runsAt r g (encU 0x78 g da.val 0
      t.val 0 0 0 0) [] p = true ∧ (p.tally t.val).st = 0 ∧ surfBad false (p.dreg da.val) = false ∧ smRing r.val = false
      ∧ s.rasOwner (bits (fld (p.dreg da.val) 3) 43 41) ≠ some (r.val / 8)) (onRing 16 (kd [encU 0x78 ⟨0, false⟩ 1 0 2 0
      0 0 0] [(1, dDraw)])) 16 ⟨0, false⟩ 1 2 (kd [encU 0x78 ⟨0, false⟩ 1 0 2 0 0 0 0] [(1, dDraw)]) := by decide

theorem meets_RasterAndProofCommands_rcommit :
    (fun (s : State) (r : Fin 132) (g : Guard) (da : Fin 16) (a : Fin 32) (p : Prog) => s.runsAt r g (encU 0x7A g da.val 0 0
      a.val 0 0 0) [] p = true ∧ commitBad (p.dreg da.val) = false ∧ commitXform (p.dreg da.val) = true ∧ smRing r.val =
      false ∧ s.leases.proof = some (r.val / 8))
      { onRing 16 (kd [encU 0x7A ⟨0, false⟩ 1 0 0 9 0 0 0] [(1, [0, 0x1000000000000, 0x1000000000000])]) with leases := { press := none, proof := some 2 } }
      16 ⟨0, false⟩ 1 9 (kd [encU 0x7A ⟨0, false⟩ 1 0 0 9 0 0 0] [(1, [0, 0x1000000000000, 0x1000000000000])]) := by decide

theorem meets_RasterAndProofCommands_rcommitNotHolder :
    (fun (s : State) (r : Fin 132) (g : Guard) (da : Fin 16) (a : Fin 32) (p : Prog) => s.runsAt r g (encU 0x7A g da.val 0 0
      a.val 0 0 0) [] p = true ∧ commitBad (p.dreg da.val) = false ∧ s.leases.proof ≠ some (r.val / 8)) (onRing 16 (kd
      [encU 0x7A ⟨0, false⟩ 1 0 0 9 0 0 0] [(1, [0, 0x1000000000000, 0x1000000000000])])) 16 ⟨0, false⟩ 1 9 (kd [encU
      0x7A ⟨0, false⟩ 1 0 0 9 0 0 0] [(1, [0, 0x1000000000000, 0x1000000000000])]) := by decide

theorem meets_RasterAndProofCommands_rcommitMalformed :
    (fun (s : State) (r : Fin 132) (g : Guard) (da : Fin 16) (a : Fin 32) (p : Prog) => s.runsAt r g (encU 0x7A g da.val 0 0
      a.val 0 0 0) [] p = true ∧ commitBad (p.dreg da.val) = true) (ks 16 [encU 0x7A ⟨0, false⟩ 1 0 0 9 0 0 0]) 16 ⟨0,
      false⟩ 1 9 (kp [encU 0x7A ⟨0, false⟩ 1 0 0 9 0 0 0]) := by decide

theorem meets_RasterAndProofCommands_thrWrite :
    (fun (s : State) (v : W32) => s.hasPress = true ∧ s.thrInUse (s.get F.RAS_THR_SEL_ARRAY) = false) (st
      [(F.RAS_THR_SEL_ARRAY, 3), (F.RAS_THR_SEL_CELL, 16383)]) 0x30201 := by decide

theorem meets_RasterAndProofCommands_thrBusy :
    (fun (s : State) (v : W32) => s.hasPress = true ∧ s.thrInUse (s.get F.RAS_THR_SEL_ARRAY) = true)
      { State.reset with prs := { PrsState.init with queue := [{ aPage with stream := some aStream }] } } 5 := by decide

theorem meets_RasterAndProofCommands_ctxOwner :
    (fun (s : State) (n : Fin 8) (v : W32) => s.hasPress = true ∧ 3 ≤ n.val ∧ (v.toNat % 256 < 16 ∨ v.toNat % 256 = 255) ∧
      (s.rasQueue n.val).all (·.started) = true) State.reset 3 2 := by decide

theorem meets_RasterAndProofCommands_ctxOwnerKept :
    (fun (s : State) (n : Fin 8) (v : W32) => n.val < 3) State.reset 1 2 := by decide

theorem meets_RasterAndProofCommands_tileUe :
    (fun (s : State) (n : Nat) (j : RasJob) => s.ras.cur = some n ∧ s.rasQueue n = [j])
      { State.reset with ras := { RasState.init with cur := some 3, queue := [(3, [{ ring := 16, t := 2, part := 2, rctx := 3, clear := false, f := [], started := true, list := [], next := 0, retiles := 0 }])] } }
      3
      { ring := 16, t := 2, part := 2, rctx := 3, clear := false, f := [], started := true, list := [], next := 0, retiles := 0 } := by decide

theorem meets_RasterAndProofCommands_tileUeNone :
    (fun (s : State) => s.ras.cur = none) State.reset := by decide

theorem meets_RasterAndProofCommands_handshake :
    (fun (s : State) (r : Fin 132) (c : Commit) (p : Prog) (a : Nat) => s.dsp.hand = [c] ∧ c.ring = r.val ∧ c.new = false ∧
      commitXform c.f = false ∧ s.leases.proof = some c.part ∧ s.dsp.frame = none ∧ s.prog r.val = some p ∧ p.stall =
      .commit a)
      { onRing 16 { kp [] with stall := .commit 9 } with dsp := { DispState.init with hand := [aCommit] }, leases := { press := none, proof := some 2 } }
      16 aCommit { kp [] with stall := .commit 9 } 9 := by decide

theorem meets_RasterAndProofCommands_handshakeNone :
    (fun (s : State) (r : Fin 132) => s.dsp.hand = []) State.reset 16 := by decide

theorem meets_RasterAndProofCommands_latchFrame :
    (fun (s : State) (c : Commit) => s.dsp.blankEnd = false ∧ s.dspState = 2 ∧ s.dsp.frame = some c ∧ s.dsp.shown = none ∧
      c.new = false ∧ s.dsp.xform = none) { showing with dsp := { DispState.init with frame := some aCommit } } aCommit := by decide

theorem meets_RasterAndProofCommands_latchAgain :
    (fun (s : State) => s.dsp.blankEnd = false ∧ s.dspState = 2 ∧ s.dsp.frame = none ∧ s.dsp.shown = none) showing := by decide

theorem meets_RasterAndProofCommands_noLatch :
    (fun (s : State) => s.dspState ≠ 2 ∧ s.dsp.blankEnd = false) State.reset := by decide

theorem meets_RasterAndProofCommands_dspEnable :
    (fun (s : State) (v : W32) => s.hasPress = true ∧ s.on F.DSP_CTL_EN = false ∧ s.jobRuns 4 = false ∧ (dspCtlFields v
      s).dspModeBad = false) (st [(F.DSP_PIXCLK_NINT, 54), (F.DSP_PIXCLK_ODIV, 40)]) 0x80000023 := by decide

theorem meets_RasterAndProofCommands_dspEnableBad :
    (fun (s : State) (v : W32) => s.hasPress = true ∧ s.on F.DSP_CTL_EN = false ∧ s.jobRuns 4 = false ∧ (dspCtlFields v
      s).dspModeBad = true) (st [(F.DSP_H_ACTIVE, 4000)]) 0x80000000 := by decide

theorem meets_RasterAndProofCommands_dspEnableIgnored :
    (fun (s : State) (v : W32) => (s.hasPress = false ∨ s.on F.DSP_CTL_EN = true ∨ s.jobRuns 4 = true)) (st [(F.DSP_CTL_EN,
      1)]) 0x80000000 := by decide

theorem meets_RasterAndProofCommands_dspDisable :
    (fun (s : State) => s.hasPress = true ∧ s.on F.DSP_CTL_EN = true ∧ s.dsp.shown = none ∧ s.dsp.frame = none) showing := by decide

theorem meets_RasterAndProofCommands_trained :
    (fun (s : State) => s.on F.DSP_CTL_EN = true ∧ s.dsp.hpd = true)
      { st [(F.DSP_CTL_EN, 1)] with dsp := { DispState.init with hpd := true } } := by decide

theorem meets_RasterAndProofCommands_admitted :
    (fun (s : State) (ok : Bool) (id : BitVec 40) (rep : Bool) => s.on F.DSP_CTL_EN = true ∧ s.on F.DSP_STATUS_TRAINED =
      true) (st [(F.DSP_CTL_EN, 1), (F.DSP_STATUS_TRAINED, 1), (F.DSP_HDCP_ALLOW_EN 2, 1), (F.DSP_HDCP_ALLOW_RXID 2,
      77)]) true 77 false := by decide

theorem meets_RasterAndProofCommands_auxHdcp :
    (fun (s : State) (v : W32) (reply : Option (List Byte)) => s.hasPress = true ∧ bit v.toNat 28 = false ∧ 0x68000 ≤ bits
      v.toNat 19 0 ∧ bits v.toNat 19 0 ≤ 0x69FFF) State.reset 0x80068000 none := by decide

theorem meets_RasterAndProofCommands_auxSent :
    (fun (s : State) (v : W32) => s.hasPress = true ∧ bit v.toNat 28 = true) State.reset 0x90000050 := by decide

theorem meets_RasterAndProofCommands_unplug :
    (fun (s : State) => s.hasPress = true) showing := by decide

theorem meets_RasterAndProofCommands_irqHpd :
    (fun (s : State) (ok : Bool) => s.hasPress = true ∧ s.dsp.hpd = true)
      { showing with dsp := { DispState.init with hpd := true } } true := by decide

theorem meets_RasterAndProofCommands_plug :
    (fun (s : State) => s.hasPress = true ∧ s.dsp.hpd = false) State.reset := by decide

theorem meets_TansyCommands_tloadGood :
    (fun (s : State) (u : State) (r : Fin 132) (g : Guard) (da : Fin 16) (t : Fin 16) (a : Fin 32) (p : Prog) (x : AccRes)
      (n : Nat) => s.runsAt r g (encU 0x88 g da.val 0 t.val a.val 0 0 0) [] p = true ∧ (p.tally t.val).st = 0 ∧ n =
      (p.sreg a.val).toNat ∧ n < 16 ∧ bits (fld (p.dreg da.val) 0) 51 0 % 64 = 0 ∧ onlyBits (p.dreg da.val) [mask 63 0]
      = true ∧ smRing r.val = false ∧ s.leases.press = some (r.val / 8) ∧ ringRead r.val (bits (fld (p.dreg da.val) 0)
      63 52) (bits (fld (p.dreg da.val) 0) 51 0) 320 s = (x, u) ∧ x.held = false ∧ x.bad = none ∧ slotRecBad n x.data
      (slotRecOf x.data) u = false ∧ (s.slot n).st = 0) (tl [(0, 1), (2, 2), (4, 1)]) (ringRead 16 4095 0 320 (tl [(0,
      1), (2, 2), (4, 1)])).2 16 ⟨0, false⟩ 1 2 9 (kd [encU 0x88 ⟨0, false⟩ 1 0 2 9 0 0 0] [(1, [0xFFF0000000000000])])
      (ringRead 16 4095 0 320 (tl [(0, 1), (2, 2), (4, 1)])).1 0 := by decide

theorem meets_TansyCommands_tset :
    (fun (s : State) (r : Fin 132) (g : Guard) (a : Fin 32) (b : Fin 32) (p : Prog) (n : Nat) => s.runsAt r g (encU 0x89 g 0
      0 0 a.val b.val 0 0) [] p = true ∧ n = (p.sreg a.val).toNat ∧ n < 16 ∧ smRing r.val = false ∧ s.leases.press =
      some (r.val / 8)) (pressed (ks 16 [encU 0x89 ⟨0, false⟩ 0 0 0 1 2 0 0])) 16 ⟨0, false⟩ 1 2 (kp [encU 0x89 ⟨0,
      false⟩ 0 0 0 1 2 0 0]) 5 := by decide

theorem meets_TansyCommands_tsetMalformed :
    (fun (s : State) (r : Fin 132) (g : Guard) (a : Fin 32) (b : Fin 32) (p : Prog) => s.runsAt r g (encU 0x89 g 0 0 0 a.val
      b.val 0 0) [] p = true ∧ 16 ≤ (p.sreg a.val).toNat) (onRing 16
      { kp [encU 0x89 ⟨0, false⟩ 0 0 0 1 2 0 0] with s := [(1, 16)] }) 16 ⟨0, false⟩ 1 2
      { kp [encU 0x89 ⟨0, false⟩ 0 0 0 1 2 0 0] with s := [(1, 16)] } := by decide

theorem meets_TansyCommands_tctlRun :
    (fun (s : State) (r : Fin 132) (g : Guard) (a : Fin 32) (b : Fin 32) (p : Prog) (n : Nat) => s.runsAt r g (encU 0x8A g 0
      0 0 a.val b.val 0 0) [] p = true ∧ n = (p.sreg a.val).toNat ∧ n < 16 ∧ p.sreg b.val = 1 ∧ smRing r.val = false ∧
      s.leases.press = some (r.val / 8) ∧ (s.slot n).loaded = true ∧ (s.slot n).st = 0 ∧ s.pressIn.ilk = true) (slot3
      { aSlot with st := 0 } (pressed (onRing 16
      { kp [encU 0x8A ⟨0, false⟩ 0 0 0 1 2 0 0] with s := [(1, 3), (2, 1)] }))) 16 ⟨0, false⟩ 1 2
      { kp [encU 0x8A ⟨0, false⟩ 0 0 0 1 2 0 0] with s := [(1, 3), (2, 1)] } 3 := by decide

theorem meets_TansyCommands_tctlStop :
    (fun (s : State) (r : Fin 132) (g : Guard) (a : Fin 32) (b : Fin 32) (p : Prog) (n : Nat) => s.runsAt r g (encU 0x8A g 0
      0 0 a.val b.val 0 0) [] p = true ∧ n = (p.sreg a.val).toNat ∧ n < 16 ∧ p.sreg b.val = 0 ∧ smRing r.val = false ∧
      s.leases.press = some (r.val / 8)) (slot3 aSlot (pressed (onRing 16
      { kp [encU 0x8A ⟨0, false⟩ 0 0 0 1 4 0 0] with s := [(1, 3)] }))) 16 ⟨0, false⟩ 1 4
      { kp [encU 0x8A ⟨0, false⟩ 0 0 0 1 4 0 0] with s := [(1, 3)] } 3 := by decide

theorem meets_TansyCommands_tctlIlk :
    (fun (s : State) (r : Fin 132) (g : Guard) (a : Fin 32) (b : Fin 32) (p : Prog) (n : Nat) => s.runsAt r g (encU 0x8A g 0
      0 0 a.val b.val 0 0) [] p = true ∧ n = (p.sreg a.val).toNat ∧ n < 16 ∧ p.sreg b.val = 1 ∧ smRing r.val = false ∧
      s.leases.press = some (r.val / 8) ∧ (s.slot n).loaded = true ∧ s.pressIn.ilk = false ∧ s.slotEnergises n = true)
      { slot3 { aSlot with rec_ := { SlotRec.zero with dest := 2 } } (pressed (onRing 16 { kp [encU 0x8A ⟨0, false⟩ 0 0 0 1 2 0 0] with s := [(1, 3), (2, 1)] })) with pressIn := { ilk := false, erdy := true } }
      16 ⟨0, false⟩ 1 2 { kp [encU 0x8A ⟨0, false⟩ 0 0 0 1 2 0 0] with s := [(1, 3), (2, 1)] } 3 := by decide

theorem meets_TansyCommands_tcap :
    (fun (s : State) (r : Fin 132) (g : Guard) (da : Fin 16) (t : Fin 16) (p : Prog) => s.runsAt r g (encU 0x8B g da.val 0
      t.val 0 0 0 0) [] p = true ∧ (p.tally t.val).st = 0 ∧ smRing r.val = false ∧ s.leases.press = some (r.val / 8) ∧
      tcapBad (p.dreg da.val) s = false ∧ s.pressIn.ilk = true) (slot3 aSlot (pressed (onRing 16 (kd [encU 0x8B ⟨0,
      false⟩ 1 0 2 0 0 0 0] [(1, [0, 0x83, 4, 0])])))) 16 ⟨0, false⟩ 1 2 (kd [encU 0x8B ⟨0, false⟩ 1 0 2 0 0 0 0] [(1,
      [0, 0x83, 4, 0])]) := by decide

theorem meets_TansyCommands_conversionSlot :
    (fun (s : State) (m : Fin 2) (v : BitVec 12) (ch : Nat) (n : Nat) => s.hasPress = true ∧ s.conv m.val =
      { Conv.init with cur := some (ch, some n) } ∧ n < 16 ∧ ch < 27)
      { State.reset with tns := { TnsState.init with conv := [(1, { Conv.init with cur := some (4, some 3) })] } } 1 99
      4 3 := by decide

theorem meets_TansyCommands_checkFault :
    (fun (s : State) (m : Fin 2) (half : BitVec 12) (vss : BitVec 12) => s.hasPress = true ∧ (half.toNat < 2032 ∨ 2064 <
      half.toNat ∨ 16 < vss.toNat) ∧ (s.conv m.val).fails = 3)
      { State.reset with tns := { TnsState.init with conv := [(1, { Conv.init with fails := 3 })] } } 1 0 0 := by decide

theorem meets_TansyCommands_checkPasses :
    (fun (s : State) (m : Fin 2) (half : BitVec 12) (vss : BitVec 12) => s.hasPress = true ∧ 2032 ≤ half.toNat ∧ half.toNat
      ≤ 2064 ∧ vss.toNat ≤ 16 ∧ (s.conv m.val).clearing = false) State.reset 1 2048 0 := by decide

theorem meets_TansyCommands_tach :
    (fun (s : State) (k : Fin 9) => s.hasPress = true)
      { State.reset with ticks := 500, tns := { TnsState.init with tach := [(4, ⟨100, none⟩)] } } 4 := by decide

theorem meets_TansyCommands_instantEarly :
    (fun (s : State) (n : Fin 16) => ((s.slot n.val).nextAt = none ∨ (s.slot n.val).st = 0 ∨ (s.slot n.val).nextAt.any (fun
      a => s.now < a) = true)) State.reset 3 := by decide

theorem meets_TansyCommands_instant :
    (fun (s : State) (n : Fin 16) (a : Nat) => (s.slot n.val).nextAt = some a ∧ (s.slot n.val).st ≠ 0 ∧ a ≤ s.now) (slot3
      { aSlot with nextAt := some 0 } State.reset) 3 0 := by decide

theorem meets_TansyCommands_strobeNone :
    (fun (s : State) (n : Fin 16) => ((s.slot n.val).st = 0 ∨ (s.slot n.val).strobe = false)) State.reset 3 := by decide

theorem meets_TansyCommands_strobe :
    (fun (s : State) (n : Fin 16) => (s.slot n.val).st = 1 ∧ (s.slot n.val).strobe = true ∧ s.tns.cap = none) (engineIn 3
      (slot3 { aSlot with strobe := true } State.reset)) 3 := by decide

theorem meets_TansyCommands_applyDue :
    (fun (s : State) (n : Fin 16) (late : Bool) (q : Int) (due : Nat) => (s.slot n.val).pend = some (q, due) ∧ due ≤ (if bit
      (s.slot n.val).rec_.flags 0 then s.ticks else s.now)) (slot3 { aSlot with pend := some (5, 0) } State.reset) 3
      true 5 0 := by decide

theorem meets_TansyCommands_applyEarly :
    (fun (s : State) (n : Fin 16) (late : Bool) => (s.slot n.val).pend = none) State.reset 3 true := by decide

theorem meets_TansyCommands_storageUe :
    (fun (s : State) (n : Fin 16) => s.hasPress = true) (slot3 aSlot State.reset) 3 := by decide

theorem meets_TansyCommands_pwmOff :
    (fun (s : State) (k : Fin 9) => s.hasPress = true ∧ (s.engRuns = false ∨ s.prs.aonSafe = true))
      { State.reset with press := { PressPins.safe with pwm := [(4, 7)] } } 4 := by decide

theorem meets_TansyCommands_hvLimit :
    (fun (s : State) (k : Fin 4) (n : Nat) => s.engRuns = true ∧ s.tns.hvRun = [(k.val, n)] ∧ n + 400000 ≤ s.ticks)
      { engineIn 3 State.reset with ticks := 400000, tns := { TnsState.init with hvRun := [(1, 0)] } } 1 0 := by decide

theorem meets_TansyCommands_hvNoLimit :
    (fun (s : State) (k : Fin 4) => s.tns.hvRun = []) State.reset 1 := by decide

theorem meets_TansyCommands_zcd :
    (fun (s : State) => s.hasPress = true) State.reset := by decide

theorem meets_TansyCommands_gateEnd :
    (fun (s : State) (k : Fin 2) (n : Nat) => s.prs.gateEnd = [(k.val, n)] ∧ n ≤ s.ticks)
      { State.reset with press := { PressPins.safe with fusGate := [1] }, prs := { PrsState.init with gateEnd := [(1, 0)] } }
      1 0 := by decide

theorem meets_TansyCommands_gateRuns :
    (fun (s : State) (k : Fin 2) => s.prs.gateEnd = []) State.reset 1 := by decide

theorem meets_TansyCommands_zcdLost :
    (fun (s : State) (n : Nat) => s.prs.lastZcd = some n ∧ s.gating = true ∧ n + 10000000 ≤ s.ticks)
      { engineIn 3 (st [(F.PRS_OT_EN 0, 1)]) with ticks := 10000000, prs := { PrsState.init with lastZcd := some 0 } } 0 := by decide

theorem meets_TansyCommands_zcdKept :
    (fun (s : State) => s.gating = false) State.reset := by decide

theorem meets_DrypointScansAndPower_bdOther :
    (fun (s : State) (k : Fin 2) (rising : Bool) (held : Bool) (n : Nat) => (s.get F.DRY_CFG_BD_SEL ≠ k.val ∨ rising = s.on
      F.DRY_CFG_BD_POL)) State.reset 1 true true 5 := by decide

theorem meets_DrypointScansAndPower_bdStray :
    (fun (s : State) (k : Fin 2) (rising : Bool) (held : Bool) (n : Nat) => s.hasPress = true ∧ s.get F.DRY_CFG_BD_SEL =
      k.val ∧ rising = !s.on F.DRY_CFG_BD_POL ∧ (held = false ∨ s.dry.window = false)) State.reset 0 true true 5 := by decide

theorem meets_DrypointScansAndPower_bdAccepted :
    (fun (s : State) (k : Fin 2) (rising : Bool) (n : Nat) => s.hasPress = true ∧ s.get F.DRY_CFG_BD_SEL = k.val ∧ rising =
      !s.on F.DRY_CFG_BD_POL ∧ s.dry.window = true ∧ s.dry.line = false ∧ s.drawing = none)
      { State.reset with dry := { DryState.init with window := true } } 0 true 5 := by decide

theorem meets_DrypointScansAndPower_bdCountsLock :
    (fun (s : State) (k : Fin 2) (rising : Bool) (n : Nat) => s.hasPress = true ∧ s.get F.DRY_CFG_BD_SEL = k.val ∧ rising =
      !s.on F.DRY_CFG_BD_POL ∧ s.dry.window = true ∧ s.dry.line = false ∧ s.drawing = none)
      { (st [(F.DRY_SCAN_PERIOD, 5000), (F.DRY_STATUS_LOCK, 1)]) with dry := { DryState.init with window := true, edge := true } }
      0 true 500 := by decide

theorem meets_DrypointScansAndPower_bdDraws :
    (fun (s : State) (k : Fin 2) (rising : Bool) (n : Nat) => s.hasPress = true ∧ s.get F.DRY_CFG_BD_SEL = k.val ∧ rising =
      !s.on F.DRY_CFG_BD_POL ∧ s.dry.window = true ∧ s.dry.line = false ∧ s.drawing.isSome = true ∧ s.get
      F.DRY_SCAN_PERIOD ≤ n + s.get F.DRY_SCAN_TOL)
      { (st [(F.DRY_SCAN_PERIOD, 5000)]) with dry := { DryState.init with window := true, edge := true, last := 9 }, prs := { PrsState.init with queue := [{ aPage with picked := true }], sheets := [{ aSheet with pages := [{ aSheetPage with page := 7, outcome := none, imaging := 1 }] }] }, press := { State.reset.press with laserEn := true } }
      0 true 5000 := by decide

theorem meets_DrypointScansAndPower_imagingNoEdge :
    (fun (s : State) => s.dry.edgeAt = none) State.reset := by decide

theorem meets_DrypointScansAndPower_imagingStarts :
    (fun (s : State) (e : Nat) (c : Nat) (h : Sheet) (q : SheetPage) (p : Page) => s.dry.edgeAt = some e ∧ s.on
      F.DRY_STATUS_HUNTING = false ∧ s.press.laserEn = true ∧ h.pages = [q] ∧ s.prs.sheets = [h] ∧ h.gone = false ∧
      q.imaging = 0 ∧ q.blank = false ∧ q.outcome = none ∧ h.arrived = [(s.get F.PRS_IMG_FRONT_STN, c)] ∧ c + s.get
      F.PRS_IMG_FRONT_DELAY * microsec ≤ e ∧ s.pageOf q.page = some p)
      { (st [(F.DRY_SCAN_PERIOD, 5000)]) with dry := { DryState.init with window := true, edge := true, edgeAt := some 5 }, prs := { PrsState.init with queue := [{ aPage with picked := true }], sheets := [{ aSheet with arrived := [(0, 3)], pages := [{ aSheetPage with page := 7, outcome := none, imaging := 0 }] }] }, press := { State.reset.press with laserEn := true } }
      5 3 { aSheet with arrived := [(0, 3)], pages := [{ aSheetPage with page := 7, outcome := none, imaging := 0 }] }
      { aSheetPage with page := 7, outcome := none, imaging := 0 } { aPage with picked := true } := by decide

theorem meets_DrypointScansAndPower_windowOpens :
    (fun (s : State) => s.hasPress = true ∧ s.dry.edge = true ∧ s.on F.DRY_STATUS_HUNTING = false ∧ s.dry.line = false)
      { State.reset with dry := { DryState.init with edge := true } } := by decide

theorem meets_DrypointScansAndPower_windowMissed :
    (fun (s : State) => s.hasPress = true ∧ s.dry.window = true ∧ s.on F.DRY_STATUS_HUNTING = false ∧ s.dry.line = false)
      { (st [(F.DRY_STATUS_LOCK, 1)]) with dry := { DryState.init with window := true, good := 64 } } := by decide

theorem meets_DrypointScansAndPower_eos :
    (fun (s : State) (n : Nat) => s.hasPress = true ∧ s.on F.DRY_CFG_EOS_EN = true ∧ s.dry.edge = true)
      { (st [(F.DRY_CFG_EOS_EN, 1)]) with dry := { DryState.init with edge := true } } 77 := by decide

theorem meets_DrypointScansAndPower_hashMismatch :
    (fun (s : State) (i : Nat) (q : SheetPage) (p : Page) => s.drawing = some (i, q, p) ∧ s.dry.last ≤ s.dry.scan ∧
      s.dry.takenTo = p.h ∧ p.stream.isSome = true ∧ sha384 s.dry.taken ≠ p.hash)
      { State.reset with dry := { DryState.init with takenTo := 1 }, prs := { PrsState.init with queue := [{ aPage with picked := true, stream := some aStream }], sheets := [{ aSheet with pages := [{ aSheetPage with page := 7, outcome := none, imaging := 1 }] }] } }
      5 { aSheetPage with page := 7, outcome := none, imaging := 1 }
      { aPage with picked := true, stream := some aStream } := by decide

theorem meets_DrypointScansAndPower_captureKept :
    (fun (s : State) (b : Fin 8) => s.hasPress = true ∧ s.press.laserEn = true ∧ s.on (F.DRY_APC_EN b.val) = true ∧ b.val <
      s.beams ∧ s.get (F.DRY_BEAM_APC_LEN b.val) ≠ 0 ∧ s.on F.DRY_STATUS_HUNTING = false ∧ s.dry.line = false)
      { (st [(F.DRY_APC_EN 2, 1), (F.DRY_CFG_BEAMS, 3), (F.DRY_BEAM_APC_LEN 2, 9), (F.DRY_APC_TARGET 2, 800)]) with press := { State.reset.press with laserEn := true } }
      2 := by decide

theorem meets_DrypointScansAndPower_captureNone :
    (fun (s : State) (b : Fin 8) => (s.press.laserEn = false ∨ s.on (F.DRY_APC_EN b.val) = false ∨ s.get (F.DRY_BEAM_APC_LEN
      b.val) = 0 ∨ s.on F.DRY_STATUS_HUNTING = true)) State.reset 2 := by decide

theorem meets_DrypointScansAndPower_updateDac :
    (fun (s : State) (b : Fin 8) (x : ApcSample) (c : Nat) => s.dry.sample.find? (fun e => e.1 == b.val) = some (b.val, x) ∧
      x.code = some c)
      { (st [(F.DRY_APC_DAC 2, 100)]) with dry := { DryState.init with sample := [(2, ⟨800, 64, 5, some 801⟩)] } } 2
      ⟨800, 64, 5, some 801⟩ 801 := by decide

theorem meets_DrypointScansAndPower_updateUnlocks :
    (fun (s : State) (b : Fin 8) (x : ApcSample) (c : Nat) => s.dry.sample.find? (fun e => e.1 == b.val) = some (b.val, x) ∧
      x.code = some c ∧ x.tol < ((x.target : Int) - c).natAbs ∧ 15 ≤ Tab.get 0 s.dry.outTol b.val ∧ s.on (F.DRY_APC_EN
      b.val) = true)
      { (st [(F.DRY_APC_DAC 2, 100), (F.DRY_STATUS_LOCK, 1), (F.DRY_APC_EN 2, 1)]) with dry := { DryState.init with outTol := [(2, 15)], sample := [(2, ⟨800, 64, 5, some 3000⟩)] } }
      2 ⟨800, 64, 5, some 3000⟩ 3000 := by decide

theorem meets_DrypointScansAndPower_configClosed :
    (fun (s : State) (o : BitVec 12) (v : W64) => s.hasPress = true ∧ isReg (R.DRY_CFG + o.toNat) = true ∧ dryCfgOffset
      o.toNat = true ∧ s.prsCfgOpen = false ∧ (o.toNat < 0x180 ∨ 0x1C0 ≤ o.toNat)) (engineIn 2 State.reset) 0x010 5 := by decide

theorem meets_DrypointScansAndPower_configOpen :
    (fun (s : State) (o : BitVec 12) (v : W64) => s.hasPress = true ∧ isReg (R.DRY_CFG + o.toNat) = true ∧ dryCfgOffset
      o.toNat = true ∧ s.prsCfgOpen = true ∧ o.toNat ≠ 4 ∧ o.toNat ≠ 8) State.reset 0x010 5 := by decide

theorem meets_DrypointScansAndPower_apcEnHeld :
    (fun (s : State) (b : Fin 8) (v : W64) => s.hasPress = true ∧ s.prsCfgOpen = false ∧ (s.writeReg (R.DRY_CFG + (0x180 + 8
      * b.val)) v.toNat).on (F.DRY_APC_EN b.val) ≠ s.on (F.DRY_APC_EN b.val)) (engineIn 2 State.reset) 3
      0xFFFFFFFFFFFFFFFF := by decide

theorem meets_AuditLog_logRecordAppend :
    (fun (s : State) (k : Nat) (x : LogRec) (ceA : Byte) (ceB : Byte) => s.logRuns = true ∧ s.logNext = some k ∧
      s.log.waiting[k]? = some x ∧ s.log.failA = false ∧ s.log.failB = false ∧ x.cont = .none ∧ x.resv = none)
      { State.reset with log := { LogState.init with started := true, waiting := [aRec] } } 0 aRec 0 0 := by decide

theorem meets_AuditLog_checkpointSigned :
    (fun (s : State) (c : Ckpt) (k : Keys) => s.log.ckpt = some c ∧ s.trust.keys = some k ∧ s.log.halted = false ∧
      s.log.waiting = [])
      { State.reset with log := { LogState.init with ckpt := some ⟨1, 2, []⟩ }, trust := { TrustState.init with keys := some ⟨1, [], 2, 3, []⟩ } }
      ⟨1, 2, []⟩ ⟨1, [], 2, 3, []⟩ := by decide

theorem meets_AuditLog_tombstoneFinal :
    (fun (s : State) (x : SheetPage) (o : Nat) => s.prs.final = some x ∧ x.outcome = some o ∧ s.trust.haltTear = false ∧
      s.leases.press = none) { State.reset with prs := { PrsState.init with final := some aSheetPage } } aSheetPage 0x11 := by decide

theorem meets_AuditLog_logRecords :
    (fun (s : State) => s.log.recordsDue = true ∧ s.log.lastEvent = none)
      { State.reset with log := { LogState.init with recordsDue := true } } := by decide

theorem meets_AuditLog_drainCopy :
    (fun (s : State) (x : Nat × List Byte) (ceA : Byte) (ceB : Byte) => s.drainDue = true ∧ s.log.records.find? (fun e =>
      e.1 == s.get F.LOG_DRAIN_TAIL_TAIL) = some x ∧ s.pwr.pcieUp = true)
      { st [(F.LOG_DRAIN_CFG_EN, 1), (F.LOG_DRAIN_CFG_LOG2SIZE, 5)] with log := { LogState.init with started := true, records := [(0, [1])], nextSeq := 1 }, pwr := { PwrState.init with pcieUp := true } }
      (0, [1]) 0 0 := by decide

theorem meets_AuditLog_drainCopyFails :
    (fun (s : State) (x : Nat × List Byte) (ceA : Byte) (ceB : Byte) => s.drainDue = true ∧ s.log.records.find? (fun e =>
      e.1 == s.get F.LOG_DRAIN_TAIL_TAIL) = some x)
      { st [(F.LOG_DRAIN_CFG_EN, 1), (F.LOG_DRAIN_CFG_LOG2SIZE, 5)] with log := { LogState.init with started := true, records := [(0, [1])], nextSeq := 1 } }
      (0, [1]) 0 0 := by decide

theorem meets_AuditLog_drainHeadTaken :
    (fun (s : State) (v : W32) => s.on F.LOG_DRAIN_CFG_EN = false ∧ sub32 v.toNat (s.get F.LOG_DRAIN_HEAD_HEAD) ≤ sub32
      (s.get F.LOG_DRAIN_TAIL_TAIL) (s.get F.LOG_DRAIN_HEAD_HEAD)) (st [(F.LOG_DRAIN_TAIL_TAIL, 9)]) 5 := by decide

theorem meets_AuditLog_drainHeadRetires :
    (fun (s : State) (v : W32) => s.on F.LOG_DRAIN_CFG_EN = true ∧ sub32 v.toNat (s.get F.LOG_DRAIN_HEAD_HEAD) ≤ sub32
      (s.get F.LOG_DRAIN_TAIL_TAIL) (s.get F.LOG_DRAIN_HEAD_HEAD) ∧ sub32 v.toNat s.log.retired ≤ sub32 s.log.nextSeq
      s.log.retired)
      { st [(F.LOG_DRAIN_CFG_EN, 1), (F.LOG_DRAIN_TAIL_TAIL, 2)] with log := { LogState.init with started := true, records := [(0, [1]), (1, [2])], nextSeq := 2 } }
      1 := by decide

theorem meets_AuditLog_drainHeadRefused :
    (fun (s : State) (v : W32) => sub32 (s.get F.LOG_DRAIN_TAIL_TAIL) (s.get F.LOG_DRAIN_HEAD_HEAD) < sub32 v.toNat (s.get
      F.LOG_DRAIN_HEAD_HEAD)) State.reset 5 := by decide

theorem meets_AuditLog_drainEnable :
    (fun (s : State) (size : BitVec 5) => s.on F.LOG_DRAIN_CFG_EN = false ∧ s.log.retired < 2 ^ 32)
      { State.reset with log := { LogState.init with retired := 77 } } 12 := by decide

theorem meets_AuditLog_violationAggregate :
    (fun (s : State) => (List.range 16).any (fun p => (s.vio p).inc != 0) = true ∧ s.log.started = true ∧ s.log.halted =
      false ∧ s.logAccepts .ordinary = true)
      { State.reset with log := { LogState.init with started := true }, xlt := { XltState.init with vio := [(3, { (State.reset.vio 3) with inc := 4 })] } } := by decide

theorem meets_AuditLog_logStartRecords :
    (fun (s : State) => s.log.started = false ∧ s.trust.running.isSome = true ∧ 3 ≤ s.get F.CKR_START_STAGE_STAGE ∧
      s.log.chain = [] ∧ s.log.halted = false ∧ s.log.resv = [] ∧ s.tombState = 0)
      { st [(F.CKR_START_STAGE_STAGE, 3)] with trust := { TrustState.init with running := some anImage } } := by decide

theorem meets_RegisterAccess_registerWrite32 :
    (fun (s : State) (stream : Option Byte) (off : BitVec 24) (v : W64) (e : RegEnv) => s.granted stream = true ∧ off.toNat
      % 4 = 0) granted (some 3) 0x20008 7 ⟨none, none, 0, []⟩ := by decide

theorem meets_RegisterAccess_registerWrite64 :
    (fun (s : State) (stream : Option Byte) (off : BitVec 24) (v : W64) (e : RegEnv) => s.granted stream = true ∧ off.toNat
      % 8 = 0) granted (some 3) 0x20008 7 ⟨none, none, 0, []⟩ := by decide

theorem meets_RegisterAccess_registerWriteNoGrant :
    (fun (s : State) (stream : Option Byte) (off : BitVec 24) (wide : Bool) (v : W64) (e : RegEnv) (lost : Bool) =>
      s.granted stream = false ∧ transportBlock off.toNat = false) State.reset (some 3) 0x20008 false 7 ⟨none, none, 0,
      []⟩ false := by decide

theorem meets_RegisterAccess_registerWriteWindow :
    (fun (s : State) (n : Fin 16) (off : BitVec 24) (v : W64) (e : RegEnv) (lost : Bool) => s.window n = true ∧ off.toNat %
      4 = 0 ∧ off.toNat < 0x10000) (live 2 State.reset) 2 0x10 7 ⟨none, none, 0, []⟩ false := by decide

theorem meets_RegisterAccess_registerWriteDeadWindow :
    (fun (s : State) (n : Fin 16) (off : BitVec 24) (wide : Bool) (v : W64) (e : RegEnv) (lost : Bool) => s.window n = false
      ∧ off.toNat < 0x10000) State.reset 2 0x10 false 7 ⟨none, none, 0, []⟩ false := by decide

theorem meets_RegisterAccess_registerWriteLost :
    (fun (s : State) (stream : Option Byte) (off : BitVec 24) (v : W64) (e : RegEnv) => s.granted stream = true ∧ off.toNat
      % 4 = 0) granted (some 3) 0x20008 7 ⟨none, none, 0, []⟩ := by decide

theorem meets_RegisterAccess_lowerHalfHeld :
    (fun (s : State) (stream : Option Byte) (off : BitVec 24) (v : W64) (e : RegEnv) => s.granted stream = true ∧ off.toNat
      % 4 = 0 ∧ regWidth off.toNat = 64) granted (some 3) 0x40800 7 ⟨none, none, 0, []⟩ := by decide

theorem meets_RegisterAccess_lowerHalfRead :
    (fun (s : State) (stream : Option Byte) (off : BitVec 24) => s.granted stream = true ∧ off.toNat % 4 = 0 ∧ regWidth
      off.toNat = 64 ∧ off.toNat ≠ R.TOPO_SRL_FRAC) granted (some 3) 0x40800 := by decide

theorem meets_RegisterAccess_lowerHalfReadNothing :
    (fun (s : State) (n : Fin 16) (off : BitVec 24) (wide : Bool) => s.window n = false ∧ off.toNat < 0x10000) State.reset 2
      0x10 false := by decide

theorem meets_RegisterAccess_regRead :
    (fun (s : State) (x : Session) (tag : W32) (off : W32) => s.trust.running.isSome = true ∧ s.session x.id = some x ∧
      x.steward = true ∧ s.byMailbox (some x.id) = false ∧ off.toNat % 4 = 0 ∧ off.toNat < 0x1000000) stewarded aSession
      9 0x20008 := by decide

theorem meets_RegisterAccess_regWrite :
    (fun (s : State) (x : Session) (tag : W32) (off : W32) (v : W64) (e : RegEnv) => s.trust.running.isSome = true ∧
      s.session x.id = some x ∧ x.steward = true ∧ s.byMailbox (some x.id) = false ∧ s.trust.halted = false ∧ off.toNat
      % 4 = 0 ∧ off.toNat < 0x1000000 ∧ regWidth off.toNat = 64) stewarded aSession 9 0x40800 7 ⟨none, none, 0, []⟩ := by decide

theorem meets_LinkFlitsAndFailures_flitIgnored :
    (fun (s : State) (k : Fin 6) (b : List Byte) (ok : Bool) (fec : List (Fin 6 × Byte × Byte)) (st : BitVec 26) (tn :
      BitVec 40) => b.length = 256 ∧ s.linkUp k.val = false) State.reset 1 (List.replicate 256 0) true [] 0 0 := by decide

theorem meets_LinkFlitsAndFailures_flitBad :
    (fun (s : State) (k : Fin 6) (b : List Byte) (st : BitVec 26) (tn : BitVec 40) => b.length = 256 ∧ s.linkUp k.val = true
      ∧ (s.link k.val).errFails + 1 ≤ s.get (F.FP_THR_ERR_THR k.val) ∧ (s.link k.val).errPos + 1 < 2 ^ s.get
      (F.FP_THR_ERR_WIN k.val) ∧ (s.link k.val).rxWin.length < 63) linked 1 (List.replicate 256 0) 0 0 := by decide

theorem meets_LinkFlitsAndFailures_nakIgnored :
    (fun (s : State) (k : Fin 6) (a : Option (BitVec 12)) => s.linkUp k.val = false) State.reset 1 none := by decide

theorem meets_LinkFlitsAndFailures_nakCounts :
    (fun (s : State) (k : Fin 6) => s.linkUp k.val = true ∧ (s.link k.val).unacked ≠ [] ∧ (s.link k.val).resends + 1 < s.get
      (F.FP_THR_REPLAY_THR k.val)) (linked.setLink 1 { linked.link 1 with unacked := [Flit.null] }) 1 := by decide

theorem meets_LinkFlitsAndFailures_retrainDone :
    (fun (s : State) (k : Fin 6) => s.linkState k.val = 6 ∧ s.leadOf k.val = some k.val) (linked.put (F.FP_STATUS_STATE 1)
      6) 1 := by decide

theorem meets_LinkFlitsAndFailures_retrainTimeout :
    (fun (s : State) (k : Fin 6) => s.linkState k.val = 6 ∧ s.leadOf k.val = some k.val) (linked.put (F.FP_STATUS_STATE 1)
      6) 1 := by decide

theorem meets_LinkFlitsAndFailures_retrainNone :
    (fun (s : State) (k : Fin 6) => s.linkState k.val ≠ 6) linked 1 := by decide

theorem meets_LinkFlitsAndFailures_windowGood :
    (fun (s : State) (k : Fin 6) (n : Nat) => s.linkUp k.val = true ∧ (s.link k.val).errFails + n ≤ s.get (F.FP_THR_ERR_THR
      k.val)) linked 1 0 := by decide

theorem meets_LinkFlitsAndFailures_windowBad :
    (fun (s : State) (k : Fin 6) (n : Nat) => s.linkUp k.val = true ∧ s.leadOf k.val = some k.val ∧ n + (s.link
      k.val).errPos ≤ 2 ^ s.get (F.FP_THR_ERR_WIN k.val) ∧ s.get (F.FP_THR_ERR_THR k.val) < (s.link k.val).errFails + n)
      linked 1 800 := by decide

theorem meets_LinkFlitsAndFailures_partnerLost :
    (fun (s : State) (k : Fin 6) (e : Bool) => s.linkUp k.val = true ∧ s.leadOf k.val = some k.val) linked 1 true := by decide

theorem meets_LinkFlitsAndFailures_lossIgnored :
    (fun (s : State) (k : Fin 6) (e : Bool) (n : Nat) => s.linkUp k.val = false) State.reset 1 true 5 := by decide

theorem meets_LinkFlitsAndFailures_holdoff :
    (fun (s : State) (k : Fin 6) => s.linkState k.val = 7 ∧ s.on (F.FP_CTL_AUTO k.val) = true ∧ s.leadOf k.val = some k.val)
      (linked.put (F.FP_STATUS_STATE 1) 7) 1 := by decide

theorem meets_LinkFlitsAndFailures_holdoffNone :
    (fun (s : State) (k : Fin 6) => (s.linkState k.val ≠ 7 ∨ s.on (F.FP_CTL_AUTO k.val) = false)) linked 1 := by decide

theorem meets_LinkFlitsAndFailures_lrst :
    (fun (s : State) (n : Fin 6) (k : Fin 6) => s.leadOf n.val = some k.val ∧ s.leadOf k.val = some k.val ∧ s.linkNo n.val =
      s.linkNo k.val ∧ s.linkState k.val ≠ 5 ∧ s.linkState k.val ≠ 6) (linked.put (F.FP_STATUS_STATE 1) 7) 1 1 := by decide

theorem meets_LinkFlitsAndFailures_lrstNoLink :
    (fun (s : State) (n : Fin 6) => s.leadOf n.val = none) (State.reset.put (F.FP_CTL_EN 1) 0) 1 := by decide

theorem meets_LinkFlitsAndFailures_enClear :
    (fun (s : State) (n : Fin 6) => s.on (F.FP_CTL_EN n.val) = true) linked 1 := by decide

theorem meets_LinkFlitsAndFailures_enClearNone :
    (fun (s : State) (n : Fin 6) => s.on (F.FP_CTL_EN n.val) = false) (State.reset.put (F.FP_CTL_EN 1) 0) 1 := by decide

theorem meets_LinkFlitsAndFailures_windowSent :
    (fun (s : State) (k : Fin 6) => s.linkUp k.val = true) linked 1 := by decide

theorem meets_LinkTrainingAndKeys_detect :
    (fun (s : State) (k : Fin 6) (sig : List (BitVec 9)) => s.leadOf k.val = some k.val ∧ s.linkState k.val ≤ 1) (linked.put
      (F.FP_STATUS_STATE 1) 0) 1 [0, 255] := by decide

theorem meets_LinkTrainingAndKeys_detectNone :
    (fun (s : State) (k : Fin 6) (sig : List (BitVec 9)) => (s.leadOf k.val ≠ some k.val ∨ 2 ≤ s.linkState k.val)) linked 1
      [] := by decide

theorem meets_LinkTrainingAndKeys_equalized :
    (fun (s : State) (k : Fin 6) => s.leadOf k.val = some k.val ∧ s.linkState k.val = 2) (linked.put (F.FP_STATUS_STATE 1)
      2) 1 := by decide

theorem meets_LinkTrainingAndKeys_tested :
    (fun (s : State) (k : Fin 6) (good : List (BitVec 9)) => s.leadOf k.val = some k.val ∧ s.linkState k.val = 3)
      ((linked.put (F.FP_STATUS_STATE 1) 3).setLink 1 { Link.init with own := [(1, 511)] }) 1 [0, 511] := by decide

theorem meets_LinkTrainingAndKeys_trainingElsewhere :
    (fun (s : State) (k : Fin 6) (good : List (BitVec 9)) (m : TrainMsg) => s.linkState k.val ≠ 2 ∧ s.linkState k.val ≠ 3 ∧
      s.linkState k.val ≠ 4) linked 1 [] ⟨[], 8, false, true⟩ := by decide

theorem meets_LinkTrainingAndKeys_trainFails :
    (fun (s : State) (k : Fin 6) (m : TrainMsg) => s.leadOf k.val = some k.val ∧ s.linkState k.val = 4 ∧ (m.agree = false ∨
      m.rate ≠ bit (s.ctlApplied k.val) 20 ∨ m.vcs < 2 ∨ s.trainGroups k.val m = [])) (linked.put (F.FP_STATUS_STATE 1)
      4) 1 ⟨[], 8, false, true⟩ := by decide

theorem meets_LinkTrainingAndKeys_trainAgrees :
    (fun (s : State) (k : Fin 6) (m : TrainMsg) => s.leadOf k.val = some k.val ∧ s.linkState k.val = 4 ∧ m.agree = true ∧
      m.rate = bit (s.ctlApplied k.val) 20 ∧ 2 ≤ m.vcs ∧ m.vcs ≤ 8 ∧ s.trainGroups k.val m ≠ []) (((linked.put
      (F.FP_STATUS_STATE 1) 4).putB (F.FP_STATUS_SECURE 1) false).setLink 1 { Link.init with own := [(1, 511)] }) 1 ⟨[0,
      255], 8, false, true⟩ := by decide

theorem meets_LinkTrainingAndKeys_keys :
    (fun (s : State) (k : Fin 6) (x : List Byte) => s.linkUp k.val = true ∧ s.campState ≠ campDuplicate ∧ s.linkAdmitted
      k.val = true)
      { linked with trust := { TrustState.init with owner := some ⟨1, 2, [4]⟩, sessions := [{ aSession with transport := 3, link := 1, root := 4 }] } }
      1 [] := by decide

theorem meets_LinkTrainingAndKeys_keysNone :
    (fun (s : State) (k : Fin 6) (x : List Byte) => (s.linkUp k.val = false ∨ s.campState = campDuplicate ∨ s.linkAdmitted
      k.val = false)) linked 1 [] := by decide

theorem meets_LinkTrainingAndKeys_update :
    (fun (s : State) (k : Fin 6) (x : List Byte) => s.secure k.val = true) linked 1 [] := by decide

theorem meets_LinkTrainingAndKeys_updateNone :
    (fun (s : State) (k : Fin 6) (x : List Byte) => s.secure k.val = false) State.reset 1 [] := by decide

theorem meets_PacketsForTheNode_rd :
    (fun (s : State) (u : State) (k : Fin 6) (p : Packet) (x : AccRes) => s.takesPacket k.val p = true ∧ p.opc = 0 ∧
      p.crosses256 = false ∧ readVA (fabSrc k.val p .request (takeCredit k.val p s)) p.cid p.va (64 * p.lines)
      (takeCredit k.val p s) = (x, u) ∧ x.held = false) linked (readVA (fabSrc 1 (aPkt 0 0 0 0x1000 []) .request
      (takeCredit 1 (aPkt 0 0 0 0x1000 []) linked)) 8197 4096 64 (takeCredit 1 (aPkt 0 0 0 0x1000 []) linked)).2 1 (aPkt
      0 0 0 0x1000 []) (readVA (fabSrc 1 (aPkt 0 0 0 0x1000 []) .request (takeCredit 1 (aPkt 0 0 0 0x1000 []) linked))
      8197 4096 64 (takeCredit 1 (aPkt 0 0 0 0x1000 []) linked)).1 := by decide

theorem meets_PacketsForTheNode_wr :
    (fun (s : State) (u : State) (k : Fin 6) (p : Packet) (x : AccRes) => s.takesPacket k.val p = true ∧ p.opc = 1 ∧
      p.crosses256 = false ∧ inAperture p.va = false ∧ writeVA (fabSrc k.val p .request (takeCredit k.val p s)) p.cid
      p.va (slice 0 p.data 0 (64 * p.lines)) (takeCredit k.val p s) = (x, u) ∧ x.held = false) linked (writeVA (fabSrc 1
      (aPkt 1 4 0 0x1000 (List.replicate 64 5)) .request (takeCredit 1 (aPkt 1 4 0 0x1000 (List.replicate 64 5))
      linked)) 8197 4096 (List.replicate 64 5) (takeCredit 1 (aPkt 1 4 0 0x1000 (List.replicate 64 5)) linked)).2 1
      (aPkt 1 4 0 0x1000 (List.replicate 64 5)) (writeVA (fabSrc 1 (aPkt 1 4 0 0x1000 (List.replicate 64 5)) .request
      (takeCredit 1 (aPkt 1 4 0 0x1000 (List.replicate 64 5)) linked)) 8197 4096 (List.replicate 64 5) (takeCredit 1
      (aPkt 1 4 0 0x1000 (List.replicate 64 5)) linked)).1 := by decide

theorem meets_PacketsForTheNode_wrp :
    (fun (s : State) (u : State) (k : Fin 6) (p : Packet) (x : AccRes) => s.takesPacket k.val p = true ∧ p.opc = 2 ∧
      p.crosses256 = false ∧ inAperture p.va = false ∧ writeMasked (fabSrc k.val p .request (takeCredit k.val p s))
      p.cid p.va (ofLeBytes (slice 0 p.data 0 8)) (slice 0 p.data 16 64) (takeCredit k.val p s) = (x, u) ∧ x.held =
      false) linked (writeMasked (fabSrc 1 (aPkt 2 5 0 0x1000 (List.replicate 80 0)) .request (takeCredit 1 (aPkt 2 5 0
      0x1000 (List.replicate 80 0)) linked)) 8197 4096 0 (List.replicate 64 0) (takeCredit 1 (aPkt 2 5 0 0x1000
      (List.replicate 80 0)) linked)).2 1 (aPkt 2 5 0 0x1000 (List.replicate 80 0)) (writeMasked (fabSrc 1 (aPkt 2 5 0
      0x1000 (List.replicate 80 0)) .request (takeCredit 1 (aPkt 2 5 0 0x1000 (List.replicate 80 0)) linked)) 8197 4096
      0 (List.replicate 64 0) (takeCredit 1 (aPkt 2 5 0 0x1000 (List.replicate 80 0)) linked)).1 := by decide

theorem meets_PacketsForTheNode_crosses :
    (fun (s : State) (k : Fin 6) (p : Packet) => s.takesPacket k.val p = true ∧ p.crosses256 = true) linked 1 (aPkt 0 0 0
      0x10F0 []) := by decide

theorem meets_PacketsForTheNode_readWaits :
    (fun (s : State) (k : Fin 6) (p : Packet) => s.takesPacket k.val p = true ∧ p.opc = 0 ∧ p.crosses256 = false ∧ (readVA
      (fabSrc k.val p .request (takeCredit k.val p s)) p.cid p.va (64 * p.lines) (takeCredit k.val p s)).1.held = true)
      heldLinked 1 (aPkt 0 0 0 0x1000 []) := by decide

theorem meets_PacketsForTheNode_crossbarStopped :
    (fun (s : State) (k : Fin 6) (p : Packet) => s.takesOn k.val p = true ∧ s.secure k.val = true ∧ s.addrUsed = true ∧
      p.dst = s.ownAddr ∧ s.xbarStopped = true ∧ p.opc = 0) (linked.put (F.CKR_SYN_STATUS_STATE 8) 4) 1 (aPkt 0 0 0
      0x1000 []) := by decide

theorem meets_PacketsForTheNode_atomMalformed :
    (fun (s : State) (k : Fin 6) (p : Packet) => s.takesPacket k.val p = true ∧ p.opc = 3 ∧ s.pwr.atomWindow = false ∧ (7 <
      p.byte 0 ∨ 1 < p.byte 1 ∨ bits p.w1 51 0 % (if p.byte 1 = 0 then 4 else 8) ≠ 0)) linked 1 (aPkt 3 2 0 0x1001
      (List.replicate 32 0)) := by decide

theorem meets_PacketsForTheNode_atomWindow :
    (fun (s : State) (k : Fin 6) (p : Packet) => s.takesPacket k.val p = true ∧ p.opc = 3 ∧ s.pwr.atomWindow = true)
      { linked with pwr := { linked.pwr with atomWindow := true } } 1 (aPkt 3 2 0 0x1000 (List.replicate 32 0)) := by decide

theorem meets_PacketsForTheNode_atomMemo :
    (fun (s : State) (k : Fin 6) (p : Packet) (e : MemoEntry) => s.takesPacket k.val p = true ∧ p.opc = 3 ∧ s.pwr.atomWindow
      = false ∧ p.byte 0 ≤ 7 ∧ p.byte 1 ≤ 1 ∧ bits p.w1 51 0 % (if p.byte 1 = 0 then 4 else 8) = 0 ∧ s.fab.memo.find?
      (fun m => m.src == p.src && m.uid == ofLeBytes (slice 0 p.data 24 8)) = some e)
      { linked with fab := { linked.fab with memo := [⟨3, 0, 0, [1], 5⟩] } } 1 (aPkt 3 2 0 0x1000 (List.replicate 32 0))
      ⟨3, 0, 0, [1], 5⟩ := by decide

theorem meets_PacketsForTheNode_atomServed :
    (fun (s : State) (u : State) (k : Fin 6) (p : Packet) (x : AccRes) => s.takesPacket k.val p = true ∧ p.opc = 3 ∧
      s.pwr.atomWindow = false ∧ p.byte 0 ≤ 7 ∧ p.byte 1 ≤ 1 ∧ bits p.w1 51 0 % (if p.byte 1 = 0 then 4 else 8) = 0 ∧
      s.fab.memo = [] ∧ atomicVA (fabSrc k.val p .request (takeCredit k.val p s)) p.cid (bits p.w1 51 0) (p.byte 0)
      (p.byte 1) (ofLeBytes (slice 0 p.data 8 8)) (ofLeBytes (slice 0 p.data 16 8)) (takeCredit k.val p s) = (x, u) ∧
      x.held = false ∧ u.fab.memo = []) linked (atomicVA (fabSrc 1 (aPkt 3 2 0 0x1000 (List.replicate 32 0)) .request
      (takeCredit 1 (aPkt 3 2 0 0x1000 (List.replicate 32 0)) linked)) 8197 4096 0 0 0 0 (takeCredit 1 (aPkt 3 2 0
      0x1000 (List.replicate 32 0)) linked)).2 1 (aPkt 3 2 0 0x1000 (List.replicate 32 0)) (atomicVA (fabSrc 1 (aPkt 3 2
      0 0x1000 (List.replicate 32 0)) .request (takeCredit 1 (aPkt 3 2 0 0x1000 (List.replicate 32 0)) linked)) 8197
      4096 0 0 0 0 (takeCredit 1 (aPkt 3 2 0 0x1000 (List.replicate 32 0)) linked)).1 := by decide

theorem meets_PacketsForTheNode_doorbell :
    (fun (s : State) (u : State) (k : Fin 6) (p : Packet) => s.takesPacket k.val p = true ∧ (p.opc = 1 ∨ p.opc = 2) ∧
      p.crosses256 = false ∧ inAperture p.va = true ∧ fabricDoorbell k.val p (takeCredit k.val p s) = some u) linked
      ((fabricDoorbell 1 (aPkt 1 4 0 0xFFFFFFFFF0000 (List.replicate 64 0)) (takeCredit 1 (aPkt 1 4 0 0xFFFFFFFFF0000
      (List.replicate 64 0)) linked)).getD linked) 1 (aPkt 1 4 0 0xFFFFFFFFF0000 (List.replicate 64 0)) := by decide

theorem meets_PacketsForTheNode_invokeBadForm :
    (fun (s : State) (k : Fin 6) (p : Packet) => s.takesPacket k.val p = true ∧ p.opc = 6 ∧ invokeBad p = true) linked 1
      (aPkt 6 0 2 0 []) := by decide

theorem meets_PacketsForTheNode_invokeServed :
    (fun (s : State) (u : State) (k : Fin 6) (p : Packet) => s.takesPacket k.val p = true ∧ p.opc = 6 ∧ invokeBad p = false
      ∧ serveInvoke k.val p (takeCredit k.val p s) = some u) linked ((serveInvoke 1 (aPkt 6 9 2 0 (List.replicate 144
      0)) (takeCredit 1 (aPkt 6 9 2 0 (List.replicate 144 0)) linked)).getD linked) 1 (aPkt 6 9 2 0 (List.replicate 144
      0)) := by decide

theorem meets_PacketsForTheNode_inv :
    (fun (s : State) (k : Fin 6) (p : Packet) (d : InvDesc) => s.takesPacket k.val p = true ∧ p.opc = 9 ∧ d =
      { w0 := ofLeBytes (slice 0 p.data 0 8), w1 := ofLeBytes (slice 0 p.data 8 8), w2 := ofLeBytes (slice 0 p.data 16 8), w3 := ofLeBytes (slice 0 p.data 24 8) })
      linked 1 (aPkt 9 2 5 0 (List.replicate 32 0)) { w0 := 0, w1 := 0, w2 := 0, w3 := 0 } := by decide

theorem meets_PacketsForTheNode_rspUnknown :
    (fun (s : State) (k : Fin 6) (p : Packet) => s.takesPacket k.val p = true ∧ (p.opc = 4 ∨ p.opc = 5) ∧ s.fab.reqs.find?
      (fun q => q.tag == p.w1 % 4096) = none) linked 1 (aPkt 5 0 1 7 []) := by decide

theorem meets_PacketsForTheNode_rspUsed :
    (fun (s : State) (u : State) (k : Fin 6) (p : Packet) (q : NodeReq) (x : DmaTask) (r : Nat) (t : Nat) => s.takesPacket
      k.val p = true ∧ (p.opc = 4 ∨ p.opc = 5) ∧ s.fab.reqs.find? (fun y => y.tag == p.w1 % 4096) = some q ∧ q.owner =
      .dma r t ∧ s.rings.dma.find? (fun y => y.ring == r && y.t == t) = some x ∧ dmaResponse x (bits p.w1 19 12) p.data
      (dropReq q.tag (takeCredit k.val p s)) = some u)
      { linked with rings := filling.rings, fab := { linked.fab with reqs := [{ aReq 1 with tag := 7, owner := .dma 128 2 }] } }
      ((dmaResponse aFill 0x20 [] (dropReq 7 (takeCredit 1 (aPkt 5 0 1 0x20007 [])
      { linked with rings := filling.rings, fab := { linked.fab with reqs := [{ aReq 1 with tag := 7, owner := .dma 128 2 }] } }))).getD
      linked) 1 (aPkt 5 0 1 0x20007 []) { aReq 1 with tag := 7, owner := .dma 128 2 } aFill 128 2 := by decide

theorem meets_PacketsForTheNode_forward :
    (fun (s : State) (k : Fin 6) (p : Packet) => s.takesOn k.val p = true ∧ p.opc ≠ 8 ∧ s.secure k.val = true ∧ s.addrUsed =
      true ∧ p.dst ≠ s.ownAddr) linked 1 { (aPkt 0 0 0 0x1000 []) with dst := 6 } := by decide

theorem meets_PacketsForTheNode_notUp :
    (fun (s : State) (k : Fin 6) (p : Packet) => s.fab.waiting = [] ∧ p.wf = true ∧ s.linkUp k.val = false) State.reset 1
      (aPkt 0 0 0 0x1000 []) := by decide

theorem meets_PacketsForTheNode_noSuchVc :
    (fun (s : State) (k : Fin 6) (p : Packet) => s.fab.waiting = [] ∧ p.wf = true ∧ p.opc = 0 ∧ s.linkUp k.val = true ∧
      s.vcs k.val ≤ p.vc) (linked.put (F.FP_STATUS_VCS_NEG 1) 4) 1 (aPkt 0 0 6 0x1000 []) := by decide

theorem meets_PacketsForTheNode_peerUnattested :
    (fun (s : State) (k : Fin 6) (p : Packet) => s.fab.waiting = [] ∧ p.wf = true ∧ p.opc = 0 ∧ s.linkUp k.val = true ∧ p.vc
      < s.vcs k.val ∧ s.secure k.val = false ∧ p.vc ≠ s.mgmtVc k.val) (linked.putB (F.FP_STATUS_SECURE 1) false) 1 (aPkt
      0 0 0 0x1000 []) := by decide

theorem meets_PacketsForTheNode_noCredit :
    (fun (s : State) (k : Fin 6) (p : Packet) => s.fab.waiting = [] ∧ p.wf = true ∧ p.opc = 0 ∧ s.linkUp k.val = true ∧
      s.secure k.val = true ∧ p.vc < s.vcs k.val ∧ (s.link k.val).creditLeft p.vc p.dl < 1 + p.len) (linked.setLink 1
      Link.init) 1 (aPkt 0 0 0 0x1000 []) := by decide

theorem meets_PacketsForTheNode_badForm :
    (fun (s : State) (k : Fin 6) (p : Packet) => s.fab.waiting = [] ∧ p.wf = true ∧ p.opc = 0 ∧ s.linkUp k.val = true ∧
      s.secure k.val = true ∧ p.vc < s.vcs k.val ∧ 1 + p.len ≤ (s.link k.val).creditLeft p.vc p.dl ∧ s.packetOk k.val p
      = false) linked 1 (aPkt 0 0 0 0x1001 []) := by decide

theorem meets_CampionMessages_hello :
    (fun (s : State) (k : Fin 6) (p : Packet) => s.takesMessage k.val 0 1 p = true) linked 1 (aMsg 0 ([1, 1, 0, 9, 0, 2, 0,
      0] ++ leBytes 8 77 ++ leBytes 4 3 ++ leBytes 12 0)) := by decide

theorem meets_CampionMessages_claimBetter :
    (fun (s : State) (k : Fin 6) (p : Packet) (c : Claim) => s.takesMessage k.val 0 2 p = true ∧ s.excluded k.val = false ∧
      s.secure k.val = true ∧ c = ⟨p.byte 1, p.byte 2, ofLeBytes (slice 0 p.data 4 4), ofLeBytes (slice 0 p.data 8 8),
      ofLeBytes (slice 0 p.data 16 4), ofLeBytes (slice 0 p.data 20 4), ofLeBytes (slice 0 p.data 24 8)⟩ ∧
      s.fab.campion.barred.contains c.uid = false ∧ s.fab.campion.dead.contains (c.uid, c.inc) = false ∧ s.campState ≠
      campDuplicate ∧ c.uid ≠ s.uid ∧ (s.best.any (fun b => c.uid == b.uid && c.inc == b.inc && c.nonce != b.nonce)) =
      false ∧ s.betterClaim k.val c = true) linked 1 (aMsg 0 ([2, 1, 5, 0] ++ leBytes 4 3 ++ leBytes 8 77 ++ leBytes 4 4
      ++ leBytes 4 1 ++ leBytes 8 7 ++ leBytes 16 0)) ⟨1, 5, 3, 77, 4, 1, 7⟩ := by decide

theorem meets_CampionMessages_claimWorse :
    (fun (s : State) (k : Fin 6) (p : Packet) (c : Claim) => s.takesMessage k.val 0 2 p = true ∧ s.excluded k.val = false ∧
      s.secure k.val = true ∧ c = ⟨p.byte 1, p.byte 2, ofLeBytes (slice 0 p.data 4 4), ofLeBytes (slice 0 p.data 8 8),
      ofLeBytes (slice 0 p.data 16 4), ofLeBytes (slice 0 p.data 20 4), ofLeBytes (slice 0 p.data 24 8)⟩ ∧
      (s.fab.campion.barred.contains c.uid = true ∨ s.betterClaim k.val c = false))
      { linked with fab := { linked.fab with campion := { Campion.init with barred := [77] } } } 1 (aMsg 0 ([2, 1, 5, 0]
      ++ leBytes 4 3 ++ leBytes 8 77 ++ leBytes 4 4 ++ leBytes 4 1 ++ leBytes 8 7 ++ leBytes 16 0)) ⟨1, 5, 3, 77, 4, 1,
      7⟩ := by decide

theorem meets_CampionMessages_claimOfDuplicate :
    (fun (s : State) (k : Fin 6) (p : Packet) => s.takesMessage k.val 0 2 p = true ∧ s.excluded k.val = false ∧ s.secure
      k.val = true ∧ s.fab.campion.barred.contains s.uid = false ∧ s.fab.campion.dead = [] ∧ s.campState ≠ campDuplicate
      ∧ ofLeBytes (slice 0 p.data 8 8) = s.uid ∧ newer (ofLeBytes (slice 0 p.data 4 4)) s.incarnation = true) linked 1
      (aMsg 0 ([2, 1, 5, 0] ++ leBytes 4 1 ++ leBytes 8 1 ++ leBytes 4 4 ++ leBytes 4 1 ++ leBytes 8 7 ++ leBytes 16 0)) := by decide

theorem meets_CampionMessages_strays :
    (fun (s : State) (k : Fin 6) (p : Packet) (q : Packet) (a : Packet) => s.takesMessage k.val 0 3 p = true ∧
      s.takesMessage k.val 0 4 q = true ∧ s.takesMessage k.val 0 5 a = true ∧ s.excluded k.val = false ∧ s.secure k.val
      = true ∧ s.isChild k.val = false ∧ s.best = none) linked 1 (aMsg 0 ([3] ++ leBytes 111 0)) (aMsg 0 ([4] ++ leBytes
      15 0)) (aMsg 0 ([5] ++ leBytes 31 0)) := by decide

theorem meets_CampionMessages_reportOfChild :
    (fun (s : State) (k : Fin 6) (p : Packet) => s.takesMessage k.val 0 3 p = true ∧ s.excluded k.val = false ∧ s.secure
      k.val = true ∧ s.isChild k.val = true) parentOf 1 (aMsg 0 ([3] ++ leBytes 111 0)) := by decide

theorem meets_CampionMessages_doneOfChild :
    (fun (s : State) (k : Fin 6) (p : Packet) => s.takesMessage k.val 0 4 p = true ∧ s.excluded k.val = false ∧ s.secure
      k.val = true ∧ s.isChild k.val = true ∧ s.campState = campElecting) (parentOf.put F.TOPO_STATUS_STATE 1) 1 (aMsg 0
      ([4, 0, 0, 0, 6] ++ leBytes 11 0)) := by decide

theorem meets_CampionMessages_assigned :
    (fun (s : State) (k : Fin 6) (p : Packet) => s.takesMessage k.val 0 5 p = true ∧ s.excluded k.val = false ∧ s.secure
      k.val = true ∧ s.best.bind (·.link) = some k.val ∧ (s.campState = campReporting ∨ s.campState = campAssigned) ∧
      ofLeBytes (slice 0 p.data 8 8) = s.uid ∧ (s.ownAddr = 0xFFFF ∨ s.ownAddr = ofLeBytes (slice 0 p.data 2 2)))
      (atStep 2 { Campion.init with best := some ⟨0, 9, 1, 1, 1, 1, some 1⟩ }) 1 (aMsg 0 ([5, 1, 7, 0, 3, 0, 8, 0] ++
      leBytes 8 1 ++ leBytes 8 9 ++ leBytes 8 2)) := by decide

theorem meets_CampionMessages_beacon :
    (fun (s : State) (k : Fin 6) (p : Packet) => s.takesMessage k.val 0 6 p = true ∧ s.excluded k.val = false ∧ s.secure
      k.val = true) parentOf 1 (aMsg 0 ([6, 0, 1, 0, 3] ++ leBytes 11 0)) := by decide

theorem meets_CampionMessages_dupOfOwn :
    (fun (s : State) (k : Fin 6) (p : Packet) => s.takesMessage k.val 0 7 p = true ∧ s.excluded k.val = false ∧ s.secure
      k.val = true ∧ ofLeBytes (slice 0 p.data 8 8) = s.uid ∧ s.campState ≠ campDuplicate) linked 1 (aMsg 0 ([7] ++
      leBytes 7 0 ++ leBytes 8 1)) := by decide

theorem meets_CampionMessages_dupOfOther :
    (fun (s : State) (k : Fin 6) (p : Packet) (u : Nat) => s.takesMessage k.val 0 7 p = true ∧ s.excluded k.val = false ∧
      s.secure k.val = true ∧ u = ofLeBytes (slice 0 p.data 8 8) ∧ u ≠ s.uid) linked 1 (aMsg 0 ([7] ++ leBytes 7 0 ++
      leBytes 8 5)) 5 := by decide

theorem meets_CampionMessages_syncReq :
    (fun (s : State) (k : Fin 6) (p : Packet) (d : BitVec 26) (w : BitVec 40) => s.takesMessage k.val 1 1 p = true ∧
      s.excluded k.val = false ∧ s.secure k.val = true) linked 1 (aMsg 1 ([1, 0, 5, 0] ++ leBytes 28 0)) 3 4 := by decide

theorem meets_CampionMessages_syncRspUnasked :
    (fun (s : State) (k : Fin 6) (p : Packet) (d : BitVec 26) => s.takesMessage k.val 1 2 p = true ∧ s.excluded k.val =
      false ∧ s.secure k.val = true ∧ ((s.nbr k.val).open_ = false ∨ ofLeBytes (slice 0 p.data 2 2) ≠ (s.nbr
      k.val).seq)) linked 1 (aMsg 1 ([2, 0, 5, 0] ++ leBytes 60 0)) 3 := by decide

theorem meets_CampionMessages_syncRspMeasured :
    (fun (s : State) (k : Fin 6) (p : Packet) (d : BitVec 26) => s.takesMessage k.val 1 2 p = true ∧ s.excluded k.val =
      false ∧ s.secure k.val = true ∧ (s.nbr k.val).open_ = true ∧ ofLeBytes (slice 0 p.data 2 2) = (s.nbr k.val).seq ∧
      s.best.bind (·.link) ≠ some k.val) (linked.setNbr 1 { Nbr.init with open_ := true, seq := 5 }) 1 (aMsg 1 ([2, 0,
      5, 0] ++ leBytes 60 0)) 3 := by decide

theorem meets_CampionTimersAndSorrel_quietIdle :
    (fun (s : State) => s.fab.campion.quiet = false) State.reset := by decide

theorem meets_CampionTimersAndSorrel_quietReports :
    (fun (s : State) => s.fab.campion.quiet = true ∧ s.campState = campElecting ∧ s.best.isSome = true ∧ s.leads? = false)
      (atStep 1 { Campion.init with quiet := true, best := some ⟨0, 9, 1, 1, 1, 1, some 1⟩ }) := by decide

theorem meets_CampionTimersAndSorrel_quietCoordinates :
    (fun (s : State) => s.fab.campion.quiet = true ∧ s.campState = campElecting ∧ s.leads? = true ∧ s.children = [] ∧ s.uid
      < 2 ^ 64 ∧ (s.ownAddr = 0xFFFF ∨ s.ownAddr = 0)) (atStep0
      { Campion.init with quiet := true, best := some ⟨0, 1, 1, 1, 1, 0, none⟩ }) := by decide

theorem meets_CampionTimersAndSorrel_beaconSent :
    (fun (s : State) => s.campState = campAssigned ∧ s.on F.TOPO_STATUS_COORD = true) (parentOf.put F.TOPO_STATUS_COORD 1) := by decide

theorem meets_CampionTimersAndSorrel_beaconNone :
    (fun (s : State) => (s.campState ≠ campAssigned ∨ s.on F.TOPO_STATUS_COORD = false)) State.reset := by decide

theorem meets_CampionTimersAndSorrel_beaconLost :
    (fun (s : State) (b : Best) => (s.campState = campAssigned ∨ s.campState = campReporting) ∧ s.leads? = false ∧ s.best =
      some b)
      { linked with fab := { linked.fab with campion := { Campion.init with best := some ⟨0, 9, 1, 1, 1, 1, some 1⟩ } } }
      ⟨0, 9, 1, 1, 1, 1, some 1⟩ := by decide

theorem meets_CampionTimersAndSorrel_beaconNotAwaited :
    (fun (s : State) => (s.best = none ∨ s.leads? = true ∨ (s.campState ≠ campAssigned ∧ s.campState ≠ campReporting)))
      State.reset := by decide

theorem meets_CampionTimersAndSorrel_parentKept :
    (fun (s : State) (b : Best) (l : Nat) => s.best = some b ∧ b.link = some l ∧ s.carries l = true ∧ s.excluded l = false)
      { linked with fab := { linked.fab with campion := { Campion.init with best := some ⟨0, 9, 1, 1, 1, 1, some 1⟩ } } }
      ⟨0, 9, 1, 1, 1, 1, some 1⟩ 1 := by decide

theorem meets_CampionTimersAndSorrel_parentNone :
    (fun (s : State) (b : Best) (l : Nat) => s.best = some b ∧ b.link = some l ∧ s.carries l = false ∧ s.fab.campion.nbr =
      [])
      { linked with fab := { linked.fab with campion := { Campion.init with best := some ⟨0, 9, 1, 1, 1, 1, some 2⟩ } } }
      ⟨0, 9, 1, 1, 1, 1, some 2⟩ 2 := by decide

theorem meets_CampionTimersAndSorrel_parentChosen :
    (fun (s : State) (b : Best) (l : Fin 6) (k : Fin 6) (c : Claim) => s.best = some b ∧ b.link = some l.val ∧ s.carries
      l.val = false ∧ k ≠ l ∧ s.carries k.val = true ∧ s.excluded k.val = false ∧ s.isChild k.val = false ∧
      s.fab.campion.nbr = [(k.val, { Nbr.init with claim := some c })] ∧ sameCandidate c b = true ∧ s.campState =
      campAssigned)
      { linked with fab := { linked.fab with campion := { Campion.init with nbr := [(1, { Nbr.init with claim := some ⟨3, 0, 1, 9, 1, 1, 5⟩ })], best := some ⟨0, 9, 1, 1, 1, 1, some 2⟩ } } }
      ⟨0, 9, 1, 1, 1, 1, some 2⟩ 2 1 ⟨3, 0, 1, 9, 1, 1, 5⟩ := by decide

theorem meets_CampionTimersAndSorrel_priorityWithdraws :
    (fun (s : State) => s.leads? = true ∧ (s.campState = campElecting ∨ s.campState = campReporting)) (atStep 1
      { Campion.init with quiet := true, best := some ⟨0, 1, 1, 1, 1, 0, none⟩ }) := by decide

theorem meets_CampionTimersAndSorrel_syncTick :
    (fun (s : State) (d : BitVec 26) (k : Fin 6) => s.linkUp k.val = true ∧ s.excluded k.val = false) linked 5 1 := by decide

theorem meets_CampionTimersAndSorrel_holdover :
    (fun (s : State) => (s.srl = 2 ∨ s.srl = 3)) (st [(F.TOPO_SRL_STATUS_STATE, 3)]) := by decide

theorem meets_CampionTimersAndSorrel_holdoverNone :
    (fun (s : State) => s.srl ≠ 2 ∧ s.srl ≠ 3) State.reset := by decide

theorem meets_CampionTimersAndSorrel_timeSet :
    (fun (s : State) (v : W64) => s.on F.TOPO_STATUS_COORD = true ∧ s.campState = campAssigned) (linked.put
      F.TOPO_STATUS_COORD 1) 0x123456789 := by decide

theorem meets_CampionTimersAndSorrel_timeRefused :
    (fun (s : State) (v : W64) => (s.on F.TOPO_STATUS_COORD = false ∨ s.campState ≠ campAssigned)) State.reset 5 := by decide

theorem meets_StewardPartitionsAndRegions_form :
    (fun (s : State) (q : StewReq) (p : Fin 16) => s.asks q 0x10 = true ∧ s.logsNow = true ∧ s.on F.GLB_STRAP_TEST_MODE =
      false ∧ s.trust.trngFail = false ∧ s.lc p.val = 0 ∧ s.tst.pads = none) asked aQ 2 := by decide

theorem meets_StewardPartitionsAndRegions_formRefused :
    (fun (s : State) (q : StewReq) (p : Byte) => s.asks q 0x10 = true) (askedAt 1) aQ 2 := by decide

theorem meets_StewardPartitionsAndRegions_notSteward :
    (fun (s : State) (q : StewReq) (p : Byte) (x : Session) (i : Nat) => s.trust.running.isSome = true ∧ q.sess = some i ∧
      s.session i = some x ∧ x.steward = false ∧ x.transport ≠ 4 ∧ s.inMailbox q 0x10 = true)
      { asked with trust := { asked.trust with sessions := [{ aSession with steward := false }] } } aQ 2
      { aSession with steward := false } 3 := by decide

theorem meets_StewardPartitionsAndRegions_sealed :
    (fun (s : State) (q : StewReq) (p : Byte) (x : Session) (i : Nat) => s.trust.running.isSome = true ∧ q.sess = some i ∧
      s.session i = some x ∧ x.steward = true ∧ s.trust.halted = true ∧ s.inMailbox q 0x11 = true)
      { asked with trust := { asked.trust with halted := true } } aQ 2 aSession 3 := by decide

theorem meets_StewardPartitionsAndRegions_seal :
    (fun (s : State) (q : StewReq) (p : Fin 16) => s.asks q 0x11 = true ∧ s.logsNow = true ∧ s.lc p.val = 1 ∧ s.ownedBy?
      p.val ≠ []) { (askedAt 1) with xlt := { asked.xlt with gran := [(0, .owned 2)] } } aQ 2 := by decide

theorem meets_StewardPartitionsAndRegions_sealRefused :
    (fun (s : State) (q : StewReq) (p : Fin 16) => s.asks q 0x11 = true ∧ (s.lc p.val ≠ 1 ∨ s.ownedBy? p.val = [])) (askedAt
      1) aQ 2 := by decide

theorem meets_StewardPartitionsAndRegions_partReset :
    (fun (s : State) (q : StewReq) (p : Fin 16) => s.asks q 0x12 = true) asked aQ 2 := by decide

theorem meets_StewardPartitionsAndRegions_tear :
    (fun (s : State) (q : StewReq) (p : Fin 16) => s.asks q 0x13 = true ∧ s.logsNow = true ∧ (s.lc p.val = 1 ∨ s.lc p.val =
      2)) { (askedAt 2) with xlt := { asked.xlt with gran := [(0, .owned 2)] } } aQ 2 := by decide

theorem meets_StewardPartitionsAndRegions_tearRefused :
    (fun (s : State) (q : StewReq) (p : Fin 16) => s.asks q 0x13 = true ∧ s.lc p.val ≠ 1 ∧ s.lc p.val ≠ 2) asked aQ 2 := by decide

theorem meets_StewardPartitionsAndRegions_assign :
    (fun (s : State) (q : StewReq) (p : Fin 16) (g : BitVec 16) (n : BitVec 16) => s.asks q 0x14 = true ∧ s.logsNow = true ∧
      s.runOk g.toNat n.toNat = true ∧ (s.lc p.val = 1 ∨ s.lc p.val = 2) ∧ s.runIs g.toNat n.toNat .free = true)
      (askedAt 1) aQ 2 0 2 := by decide

theorem meets_StewardPartitionsAndRegions_assignRefused :
    (fun (s : State) (q : StewReq) (p : Fin 16) (g : BitVec 16) (n : BitVec 16) => s.asks q 0x14 = true) (askedAt 1) aQ 2 0
      0 := by decide

theorem meets_StewardPartitionsAndRegions_release :
    (fun (s : State) (q : StewReq) (p : Nat) (g : BitVec 16) (n : BitVec 16) => s.asks q 0x15 = true ∧ s.logsNow = true ∧
      s.runOk g.toNat n.toNat = true ∧ s.runIs g.toNat n.toNat (.owned p) = true)
      { (askedAt 2) with xlt := { asked.xlt with gran := [(0, .owned 2)] } } aQ 2 0 1 := by decide

theorem meets_StewardPartitionsAndRegions_create :
    (fun (s : State) (q : StewReq) (n : Fin 16) => s.asks q 0x20 = true ∧ s.logsNow = true ∧ s.trust.trngFail = false ∧
      s.region n.val = 0) asked aQ 2 := by decide

theorem meets_StewardPartitionsAndRegions_createRefused :
    (fun (s : State) (q : StewReq) (n : Fin 16) => s.asks q 0x20 = true ∧ (s.trust.trngFail = true ∨ s.region n.val ≠ 0))
      (asked.put (F.XLT_SHR_STATE 2) 1) aQ 2 := by decide

theorem meets_StewardPartitionsAndRegions_add :
    (fun (s : State) (q : StewReq) (n : Fin 16) (g : BitVec 16) (c : BitVec 16) => s.asks q 0x21 = true ∧ s.logsNow = true ∧
      s.runOk g.toNat c.toNat = true ∧ s.region n.val = 1 ∧ s.runIs g.toNat c.toNat .free = true) (asked.put
      (F.XLT_SHR_STATE 2) 1) aQ 2 0 1 := by decide

theorem meets_StewardPartitionsAndRegions_loadRefused :
    (fun (s : State) (q : StewReq) (n : Fin 16) (off : W64) (len : W64) (h : Bool) => s.asks q 0x22 = true) (asked.put
      (F.XLT_SHR_STATE 2) 1) aQ 2 0 0 false := by decide

theorem meets_StewardPartitionsAndRegions_loaded :
    (fun (s : State) (u : State) (q : StewReq) (n : Fin 16) (off : W64) (len : W64) (d : List Byte) => s.asks q 0x22 = true
      ∧ s.logsNow = true ∧ s.region n.val = 1 ∧ len ≠ 0 ∧ d.length = len.toNat ∧ off.toNat + len.toNat ≤
      (s.granulesWhere (fun x => x == .shared n.val)).length * 2 ^ 30 ∧ loadRegion (s.granulesWhere (fun x => x ==
      .shared n.val)) ((s.granulesWhere (fun x => x == .shared n.val)).length + 1) off.toNat d s = (.ok [], u)) regionAt
      (loadRegion [0] 2 0 [5, 6] regionAt).2 aQ 2 0 2 [5, 6] := ⟨by decide, by decide, by decide, by decide, by decide, by decide, rfl⟩

theorem meets_StewardPartitionsAndRegions_publish :
    (fun (s : State) (q : StewReq) (n : Fin 16) (r : BitVec 16) => s.asks q 0x23 = true ∧ s.logsNow = true ∧ s.region n.val
      = 1) (asked.put (F.XLT_SHR_STATE 2) 1) aQ 2 0xFFFF := by decide

theorem meets_StewardPartitionsAndRegions_readers :
    (fun (s : State) (q : StewReq) (n : Fin 16) (r : BitVec 16) => s.asks q 0x24 = true ∧ s.logsNow = true ∧ s.region n.val
      = 2) (asked.put (F.XLT_SHR_STATE 2) 2) aQ 2 0xFFFF := by decide

theorem meets_StewardPartitionsAndRegions_regionRefused :
    (fun (s : State) (q : StewReq) (n : Fin 16) (r : BitVec 16) => s.asks q 0x23 = true ∧ s.asks q 0x24 = true ∧ s.asks q
      0x25 = true) asked aQ 2 1 := by decide

theorem meets_StewardPartitionsAndRegions_withdraw :
    (fun (s : State) (q : StewReq) (n : Fin 16) => s.asks q 0x25 = true ∧ s.logsNow = true ∧ s.region n.val = 2 ∧
      s.xlt.withdrawing.contains n.val = false) (let s := asked.put (F.XLT_SHR_STATE 2) 2;
      { s with xlt := { s.xlt with gran := [(0, .shared 2)] } }) aQ 2 := by decide

theorem meets_StewardPartitionsAndRegions_lease :
    (fun (s : State) (q : StewReq) (p : Fin 16) => s.asks q 0x30 = true ∧ s.logsNow = true ∧ s.lc p.val = 2) (askedAt 2) aQ
      2 := by decide

theorem meets_StewardPartitionsAndRegions_leaseRefused :
    (fun (s : State) (q : StewReq) (p : Fin 16) => s.asks q 0x30 = true ∧ s.lc p.val ≠ 2) (askedAt 1) aQ 2 := by decide

theorem meets_StewardPartitionsAndRegions_logFull :
    (fun (s : State) (q : StewReq) (p : Fin 16) => s.asks q 0x11 = true ∧ s.log.started = true ∧ s.logAccepts .ordinary =
      false ∧ s.lc p.val = 1 ∧ s.ownedBy? p.val ≠ []) logFull1 aQ 2 := by decide

theorem meets_StewardOwnerFirmwareAndResets_claim :
    (fun (s : State) (q : StewReq) (a : BitVec 384) (rs : List (BitVec 384)) (i : Nat) (x : Session) =>
      s.trust.running.isSome = true ∧ s.inMailbox q 1 = true ∧ q.sess = some i ∧ s.session i = some x ∧ x.mutualAuth =
      true ∧ s.trust.halted = false ∧ s.trust.owner = none ∧ s.on F.GLB_STRAP_TEST_MODE = false ∧ s.logsNow = true ∧
      rs.length = 8) { asked with trust := { asked.trust with owner := none } } aQ 5 (List.replicate 8 0) 3 aSession := by decide

theorem meets_StewardOwnerFirmwareAndResets_claimRefused :
    (fun (s : State) (q : StewReq) (a : BitVec 384) (rs : List (BitVec 384)) (ok : Bool) => s.asks q 1 = true ∧
      s.trust.owner.isSome = true ∧ rs.length = 8) asked aQ 5 (List.replicate 8 0) true := by decide

theorem meets_StewardOwnerFirmwareAndResets_set :
    (fun (s : State) (q : StewReq) (a : BitVec 384) (rs : List (BitVec 384)) (o : OwnerRec) => s.asks q 2 = true ∧
      s.trust.owner = some o ∧ s.trust.ownerA = some o ∧ s.logsNow = true ∧ rs.length = 8)
      { asked with trust := { asked.trust with ownerA := some aOwner } } aQ 5 (List.replicate 8 0) aOwner := by decide

theorem meets_StewardOwnerFirmwareAndResets_violRead :
    (fun (s : State) (q : StewReq) (p : Fin 16) => s.asks q 0x40 = true) asked aQ 2 := by decide

theorem meets_StewardOwnerFirmwareAndResets_violClear :
    (fun (s : State) (q : StewReq) (p : Fin 16) => s.asks q 0x41 = true) asked aQ 2 := by decide

theorem meets_StewardOwnerFirmwareAndResets_violRange :
    (fun (s : State) (q : StewReq) (p : Byte) => s.asks q 0x40 = true ∧ s.asks q 0x41 = true ∧ 16 ≤ p.toNat) asked aQ 16 := by decide

theorem meets_StewardOwnerFirmwareAndResets_repairRead :
    (fun (s : State) (q : StewReq) (n : W32) => s.asks q 0x50 = true) asked aQ 2 := by decide

theorem meets_StewardOwnerFirmwareAndResets_repairDelete :
    (fun (s : State) (q : StewReq) (ty : Byte) (loc : W64) => s.asks q 0x51 = true ∧ s.repairEntries.find? (fun e => e.type
      == ty.toNat && e.loc == loc.toNat) = none) asked aQ 2 5 := by decide

theorem meets_StewardOwnerFirmwareAndResets_repairDeleted :
    (fun (s : State) (q : StewReq) (ty : Byte) (loc : W64) (e : RepairEntry) => s.asks q 0x51 = true ∧ s.repairEntries.find?
      (fun x => x.type == ty.toNat && x.loc == loc.toNat) = some e)
      { asked with rpr := { asked.rpr with record := [⟨2, 0, 7, 5, 0⟩] } } aQ 2 5 ⟨2, 0, 7, 5, 0⟩ := by decide

theorem meets_StewardOwnerFirmwareAndResets_grant :
    (fun (s : State) (q : StewReq) (n : BitVec 16) (i : Nat) => s.asks q 0x62 = true ∧ q.sess = some i) asked aQ 7 3 := by decide

theorem meets_StewardOwnerFirmwareAndResets_stage :
    (fun (s : State) (q : StewReq) (d : List Byte) => s.get F.CKR_START_STAGE_STAGE ≠ 0xE0 ∧ s.asks q 0x70 = true ∧ d.length
      ≤ 4096 ∧ s.trust.staged = []) asked aQ [1, 2, 3] := by decide

theorem meets_StewardOwnerFirmwareAndResets_stageRange :
    (fun (s : State) (q : StewReq) (o : W32) (d : List Byte) => s.get F.CKR_START_STAGE_STAGE ≠ 0xE0 ∧ s.asks q 0x70 = true
      ∧ 8388864 < o.toNat + d.length) asked aQ 0xFFFFFFFF [1, 2, 3] := by decide

theorem meets_StewardOwnerFirmwareAndResets_recoveryStage :
    (fun (s : State) (q : StewReq) (d : List Byte) => s.get F.CKR_START_STAGE_STAGE = 0xE0 ∧ q.sess = none ∧ s.inMailbox q
      0x70 = true ∧ d.length ≤ 4096 ∧ s.trust.staged = [])
      { (State.reset.put F.CKR_START_STAGE_STAGE 0xE0) with trust := { TrustState.init with mailbox := some [0x70, 0, 0, 0, 9, 0, 0, 0] } }
      ⟨none, 9⟩ [1, 2, 3] := by decide

theorem meets_StewardOwnerFirmwareAndResets_commitBad :
    (fun (s : State) (q : StewReq) (a : Bool) (b : Bool) => s.get F.CKR_START_STAGE_STAGE ≠ 0xE0 ∧ s.asks q 0x71 = true ∧
      s.imageGood (s.stagedImage []) = false) asked aQ true true := by decide

theorem meets_StewardOwnerFirmwareAndResets_commitSvn :
    (fun (s : State) (q : StewReq) (g : Image) => s.asks q 0x72 = true ∧ s.logsNow = true ∧ s.trust.running = some g) asked
      aQ anImage := by decide

theorem meets_StewardOwnerFirmwareAndResets_tombRead :
    (fun (s : State) (q : StewReq) => s.asks q 0x80 = true) asked aQ := by decide

theorem meets_StewardOwnerFirmwareAndResets_tombClear :
    (fun (s : State) (q : StewReq) (n : Nat) => s.asks q 0x81 = true ∧ s.logsNow = true ∧ s.log.tombSeq = some n ∧
      s.tombState ≠ 0 ∧ seqAfter s.log.retired n = true) tombed aQ 5 := by decide

theorem meets_StewardOwnerFirmwareAndResets_tombClearRefused :
    (fun (s : State) (q : StewReq) => s.asks q 0x81 = true ∧ s.log.tombSeq = none) asked aQ := by decide

theorem meets_StewardOwnerFirmwareAndResets_nodeResetWarm :
    (fun (s : State) (q : StewReq) => s.asks q 0x90 = true) asked aQ := by decide

theorem meets_StewardOwnerFirmwareAndResets_nodeResetBad :
    (fun (s : State) (q : StewReq) (c : BitVec 16) (l : Bool) => s.asks q 0x90 = true ∧ c ≠ 0x5752 ∧ c ≠ 0x4D52) asked aQ 5
      true := by decide

theorem meets_SessionsAndInterfaces_smbGo :
    (fun (s : State) (x : Option Nat) => s.trust.running = none) (st [(F.SMB_REQ_LEN_LEN, 8)]) none := by decide

theorem meets_SessionsAndInterfaces_smbBusy :
    (fun (s : State) (x : Option Nat) => s.on F.SMB_STATUS_BUSY = true) (st [(F.SMB_STATUS_BUSY, 1)]) none := by decide

theorem meets_SessionsAndInterfaces_measurements :
    (fun (s : State) (x : Option Nat) => s.trust.running.isSome = true) stewarded none := by decide

theorem meets_SessionsAndInterfaces_noMeasurements :
    (fun (s : State) (x : Option Nat) => s.trust.running = none) State.reset none := by decide

theorem meets_SessionsAndInterfaces_fragmentOnly :
    (fun (s : State) (k : Fin 6) (p : Packet) => s.takesMessage k.val 2 1 p = true ∧ p.byte 1 = 3) linked 1 (aMsg 2 ([1, 3,
      0, 0, 2] ++ leBytes 11 0 ++ leBytes 16 7)) := by decide

theorem meets_SessionsAndInterfaces_fragmentFirst :
    (fun (s : State) (k : Fin 6) (p : Packet) => s.takesMessage k.val 2 1 p = true ∧ p.byte 1 = 1) linked 1 (aMsg 2 ([1, 1,
      0, 0, 2] ++ leBytes 11 0 ++ leBytes 16 7)) := by decide

theorem meets_SessionsAndInterfaces_established :
    (fun (s : State) (id : W32) (tr : Fin 5) (k : Fin 6) (m : Bool) (r : BitVec 384) (ds : List (BitVec 384)) =>
      s.trust.running.isSome = true ∧ s.trust.sessions.length < 32 ∧ s.session id.toNat = none ∧ s.carriesSession tr.val
      k.val = true) stewarded 5 4 1 true 2 [] := by decide

theorem meets_SessionsAndInterfaces_notEstablished :
    (fun (s : State) (id : W32) (tr : Fin 5) (k : Fin 6) (m : Bool) (r : BitVec 384) (ds : List (BitVec 384)) =>
      (s.trust.running = none ∨ 32 ≤ s.trust.sessions.length ∨ (s.session id.toNat).isSome = true ∨ s.carriesSession
      tr.val k.val = false)) State.reset 5 4 1 true 2 [] := by decide

theorem meets_SessionsAndInterfaces_ended :
    (fun (s : State) (id : W32) (x : Session) => s.session id.toNat = some x)
      { granted with trust := { granted.trust with sessions := [aSession] } } 3 aSession := by decide

theorem meets_SessionsAndInterfaces_endedNone :
    (fun (s : State) (id : W32) => s.session id.toNat = none) State.reset 3 := by decide

theorem meets_SessionsAndInterfaces_tdispLock :
    (fun (s : State) (id : W32) (x : Session) (p : Fin 16) => s.session id.toNat = some x ∧ x.transport = 0) (doe.setLc 2 2)
      3 { aSession with transport := 0 } 2 := by decide

theorem meets_SessionsAndInterfaces_tdispStop :
    (fun (s : State) (id : W32) (x : Session) (p : Fin 16) => s.session id.toNat = some x ∧ x.transport = 0 ∧ s.lc p.val =
      2) ((doe.setLc 2 2).setTdi 2 2) 3 { aSession with transport := 0 } 2 := by decide

theorem meets_SessionsAndInterfaces_tdispElsewhere :
    (fun (s : State) (id : W32) (p : Fin 16) (op : Fin 3) (b : Byte) => (s.session id.toNat).all (fun x => x.transport != 0)
      = true) State.reset 3 2 0 1 := by decide

theorem meets_SessionsAndInterfaces_report :
    (fun (s : State) (id : W32) (x : Session) (p : Fin 16) => s.session id.toNat = some x ∧ x.transport = 0) doe 3
      { aSession with transport := 0 } 2 := by decide

theorem meets_SessionsAndInterfaces_integrity :
    (fun (s : State) (p : Fin 16) => s.tdi p.val = 2) (live 2 State.reset) 2 := by decide

theorem meets_SessionsAndInterfaces_integrityNone :
    (fun (s : State) (p : Fin 16) => s.tdi p.val ≠ 2) State.reset 2 := by decide

theorem meets_SessionsAndInterfaces_ideKey :
    (fun (s : State) (id : W32) (x : Session) (n : Byte) => s.session id.toNat = some x ∧ x.transport = 0 ∧
      (s.trust.streams.any (fun y => y.id == n.toNat)) = false ∧ s.trust.streams.length < 32) doe 3
      { aSession with transport := 0 } 9 := by decide

theorem meets_SessionsAndInterfaces_ideStartStop :
    (fun (s : State) (id : W32) (x : Session) (n : Byte) => s.session id.toNat = some x ∧ x.transport = 0)
      { doe with trust := { doe.trust with streams := [⟨9, false⟩], grant := some (9, 3) } } 3
      { aSession with transport := 0 } 9 := by decide

theorem meets_SessionsAndInterfaces_admit :
    (fun (s : State) (p : Fin 16) (i : Fin 16) (j : Fin 7) (v : W64) => s.window p.val = true) (live 2 State.reset) 2 3 4 77 := by decide

theorem meets_SessionsAndInterfaces_admitClosed :
    (fun (s : State) (p : Fin 16) (i : Fin 16) (j : Fin 7) (v : W64) => s.window p.val = false) State.reset 2 3 4 77 := by decide

theorem meets_TapAndTestJobs_tapRefused :
    (fun (s : State) (op : Byte) (f : Bool) => padControl op.toNat = true ∧ (s.allVoid = false ∨ f = true))
      (State.reset.setLc 2 1) 4 false := by decide

theorem meets_TapAndTestJobs_tapWrapper :
    (fun (s : State) (op : Byte) (f : Bool) => testOnly op.toNat = true) State.reset 0x10 false := by decide

theorem meets_TapAndTestJobs_tapPads :
    (fun (s : State) (op : Byte) => padControl op.toNat = true ∧ s.allVoid = true) State.reset 4 := by decide

theorem meets_TapAndTestJobs_tapOther :
    (fun (s : State) (op : Byte) (f : Bool) => padControl op.toNat = false ∧ testOnly op.toNat = false)
      { State.reset with tst := { State.reset.tst with pads := some 4 } } 1 false := by decide

theorem meets_TapAndTestJobs_padExit :
    (fun (s : State) (op : Byte) => s.tst.pads.isSome = true ∧ padControl op.toNat = false)
      { State.reset with tst := { State.reset.tst with pads := some 4 } } 1 := by decide

theorem meets_TapAndTestJobs_padStay :
    (fun (s : State) (op : Byte) => (s.tst.pads = none ∨ padControl op.toNat = true)) State.reset 1 := by decide

theorem meets_TapAndTestJobs_startWhileRunning :
    (fun (s : State) (j : TestJob) => s.tst.job = some j) (jobRuns (aJobT 1 0 0 3)) (aJobT 1 0 0 3) := by decide

theorem meets_TapAndTestJobs_startRefused :
    (fun (s : State) => s.tst.job = none ∧ (s.jobReason s.jobCfg).isSome = true) (st [(F.TST_JOB_CFG_KIND, 1),
      (F.TST_JOB_CFG_INSTANCE, 200)]) := by decide

theorem meets_TapAndTestJobs_started :
    (fun (s : State) => s.tst.job = none ∧ s.jobReason s.jobCfg = none) (st [(F.TST_JOB_CFG_KIND, 1),
      (F.TST_JOB_CFG_INSTANCE, 3), (F.GLB_STRAP_TEST_MODE, 1)]) := by decide

theorem meets_TapAndTestJobs_aborted :
    (fun (s : State) (j : TestJob) => s.tst.job = some j) (jobRuns (aJobT 1 0 0 3)) (aJobT 1 0 0 3) := by decide

theorem meets_TapAndTestJobs_abortNone :
    (fun (s : State) => s.tst.job = none) State.reset := by decide

theorem meets_TapAndTestJobs_jobEnds :
    (fun (s : State) (j : TestJob) (l : BitVec 9) (b : W64) (e : W64) (f : Bool) => s.tst.job = some j ∧ j.kind ≤ 5 ∧
      l.toNat &&& s.jobCheckers j ≠ 0) (jobRuns (aJobT 1 0 0 3)) (aJobT 1 0 0 3) 511 100 0 false := by decide

theorem meets_TapAndTestJobs_threshold :
    (fun (s : State) (j : TestJob) (l : BitVec 9) (b : W64) (e : W64) => s.tst.job = some j ∧ j.kind ≤ 5 ∧ l.toNat &&&
      s.jobCheckers j ≠ 0) (jobRuns (aJobT 1 0 0 3)) (aJobT 1 0 0 3) 511 100 6 := by decide

theorem meets_TapAndTestJobs_noJob :
    (fun (s : State) (l : BitVec 9) (b : W64) (e : W64) (f : Bool) (rs : List (BitVec 16)) => s.tst.job = none) State.reset
      511 100 6 true [] := by decide

theorem meets_TapAndTestJobs_selfTestPass :
    (fun (s : State) (j : TestJob) => s.tst.job = some j ∧ 6 ≤ j.kind ∧ j.kind ≤ 8) (jobRuns (aJobT 7 0 0 3)) (aJobT 7 0 0
      3) := by decide

theorem meets_TapAndTestJobs_selfTestFail :
    (fun (s : State) (j : TestJob) => s.tst.job = some j ∧ (j.kind = 7 ∨ j.kind = 8)) (jobRuns (aJobT 7 0 0 3)) (aJobT 7 0 0
      3) := by decide

theorem meets_TapAndTestJobs_accepted :
    (fun (s : State) => s.on F.GLB_STRAP_TEST_MODE = true ∧ s.tst.job = none ∧ 1 ≤ s.get F.TST_JOB_CFG_KIND ∧ s.get
      F.TST_JOB_CFG_KIND ≤ 8 ∧ (kindLoops (s.get F.TST_JOB_CFG_KIND)).contains (s.get F.TST_JOB_CFG_LOOP) = true ∧ (6 ≤
      s.get F.TST_JOB_CFG_KIND ∨ (patternKinds (s.get F.TST_JOB_CFG_PATTERN)).contains (s.get F.TST_JOB_CFG_KIND) =
      true) ∧ s.jobInstance s.jobCfg = true) (st [(F.TST_JOB_CFG_KIND, 1), (F.TST_JOB_CFG_INSTANCE, 3),
      (F.GLB_STRAP_TEST_MODE, 1), (F.FP_CTL_EN 0, 1)]) := by decide

end Sys2Proof.Tests
end

section
/-! The granule table and USABLE (chapter 06, R189 to R191): a change of an entry writes no register, so it cannot move
the bound above which the table is not consulted. -/

namespace Sys2Proof.Machine

variable (s : State)

@[simp] theorem State.get_setGran (h : Nat) (x : GState) (f : Fld) : (s.setGran h x).get f = s.get f := rfl

@[simp] theorem State.usable_setGran (h : Nat) (x : GState) : (s.setGran h x).usable = s.usable :=
  s.get_setGran h x _

variable {s} in
theorem State.gran_eq_reserved_of_usable_le {g : Nat} (hg : s.usable ≤ g) : s.gran g = .reserved := if_pos hg

/-- Settles O10: the bound comes before the table in the reading of an entry, and setting an entry keeps the bound. -/
theorem reservedGranules : Obligations.ReservedGranules := by
  intro s g h x hg
  have hg' : (s.setGran h x).usable ≤ g := by rwa [State.usable_setGran]
  exact ⟨State.gran_eq_reserved_of_usable_le hg, State.gran_eq_reserved_of_usable_le hg'⟩

end Sys2Proof.Machine
end

section
/-! A management packet that the link takes and that names no source address (R282, R298, R780), and the Campion messages
of a neighbour that is neither child nor parent (R324). -/

namespace Sys2Proof.Machine

variable {s : State} {k : Nat} {p : Packet}

/-! What taking and returning a packet's credit leaves: it changes the link's counters only. -/

@[simp] theorem State.secure_credited (s : State) (j k : Nat) (p : Packet) :
    (s.credited k p).secure j = s.secure j := rfl

@[simp] theorem State.excluded_credited (s : State) (j k : Nat) (p : Packet) :
    (s.credited k p).excluded j = s.excluded j := rfl

@[simp] theorem State.best_credited (s : State) (k : Nat) (p : Packet) : (s.credited k p).best = s.best := rfl

@[simp] theorem State.isChild_credited (s : State) (j k : Nat) (p : Packet) :
    (s.credited k p).isChild j = s.isChild j := rfl

/-! What the link's premises say, one by one. -/

theorem State.takesOn_iff : s.takesOn k p = true ↔
    p.wf = true ∧ s.fab.waiting = [] ∧ s.linkUp k = true ∧ p.vc < s.vcs k ∧
      1 + p.len ≤ (s.link k).creditLeft p.vc p.dl ∧ s.packetOk k p = true := by
  simp [State.takesOn, and_assoc]

theorem State.takesMessage_iff {sub ty : Nat} : s.takesMessage k sub ty p = true ↔
    s.takesOn k p = true ∧ p.opc = 8 ∧ p.w1 % 256 = sub ∧ p.byte 0 = ty ∧ p.src = 0xFFFF ∧
      (s.secure k = true ∨ p.vc = s.mgmtVc k) := by
  simp [State.takesMessage, and_assoc]

theorem retryWaiting_of_empty (h : s.fab.waiting = []) : retryWaiting s = s := by
  rw [retryWaiting, h, State.each_nil]

/-- A message passes every check of R780, and its credit comes back before it acts. -/
theorem receivePacket_of_takesMessage {sub ty stamp turn : Nat} (h : s.takesMessage k sub ty p = true) :
    receivePacket k p stamp turn s = takeMgmt k p stamp turn (s.credited k p) := by
  obtain ⟨hOn, hOpc, -, -, -, hVc⟩ := State.takesMessage_iff.mp h
  obtain ⟨-, -, hUp, hLt, hCredit, hOk⟩ := State.takesOn_iff.mp hOn
  have hMgmt : (!s.secure k && p.vc != s.mgmtVc k) = false := by
    rcases hVc with hVc | hVc <;> simp [hVc]
  have hOk' : (takeCredit k p s).packetOk k p = true := hOk
  simp [receivePacket, hUp, hMgmt, hOk', hOpc, Nat.not_le.mpr hLt, Nat.not_lt.mpr hCredit, State.credited]

/-- A Campion message without a source address leaves the noted peer addresses as they are. -/
theorem takeMgmt_campion {stamp turn : Nat} (hSub : p.w1 % 256 = 0) (hSrc : p.src = 0xFFFF) :
    takeMgmt k p stamp turn s = takeCampion k p s := by
  simp [takeMgmt, hSub, hSrc]

/-- A Campion message's command does what the message does once its credit is back. -/
theorem pktCmd_campion {ty : Nat} (h : s.takesMessage k 0 ty p = true) :
    pktCmd (isCampion ty p) k p 0 0 s = .next (takeCampion k p (s.credited k p)) := by
  obtain ⟨hOn, hOpc, hSub, hTy, hSrc, -⟩ := State.takesMessage_iff.mp h
  obtain ⟨hWf, hEmpty, -, -, -, -⟩ := State.takesOn_iff.mp hOn
  have hKind : (isCampion ty p && p.wf) = true := by simp [isCampion, hOpc, hSub, hTy, hWf]
  rw [pktCmd, if_pos hKind, retryWaiting_of_empty hEmpty, receivePacket_of_takesMessage h,
    takeMgmt_campion hSub hSrc]

theorem takeReport_of_not_child (d : List Byte) (h : s.isChild k = false) : takeReport k d s = stray s := by
  rw [takeReport, if_pos (by rw [h]; rfl)]

theorem takeReportDone_of_not_child (count : Nat) (d : List Byte) (h : s.isChild k = false) :
    takeReportDone k count d s = stray s := by
  rw [takeReportDone, if_pos (by rw [h]; rfl)]

theorem takeAssign_of_not_parent (d : List Byte) (h : s.best.bind (·.link) ≠ some k) : takeAssign k d s = stray s :=
  if_pos h

/-- On a SECURE link that is not excluded Campion acts, and it counts a REPORT or REPORT_DONE of a neighbour that is no
child, and an ASSIGN of one that is not the parent, and discards it. -/
theorem takeCampion_stray (hTy : p.byte 0 = 3 ∨ p.byte 0 = 4 ∨ p.byte 0 = 5) (hExcl : s.excluded k = false)
    (hSec : s.secure k = true) (hChild : s.isChild k = false) (hParent : s.best.bind (·.link) ≠ some k) :
    takeCampion k p s = stray s := by
  rcases hTy with hTy | hTy | hTy
  · simp [takeCampion, hTy, hExcl, hSec, takeReport_of_not_child _ hChild]
  · simp [takeCampion, hTy, hExcl, hSec, takeReportDone_of_not_child _ _ hChild]
  · simp [takeCampion, hTy, hExcl, hSec, takeAssign_of_not_parent _ hParent]

/-- The whole effect of a stray message's command. -/
theorem pktCmd_stray {ty : Nat} (h : s.takesMessage k 0 ty p = true) (hTy : ty = 3 ∨ ty = 4 ∨ ty = 5)
    (hExcl : s.excluded k = false) (hSec : s.secure k = true) (hChild : s.isChild k = false)
    (hParent : s.best.bind (·.link) ≠ some k) :
    pktCmd (isCampion ty p) k p 0 0 s = .next ((s.credited k p).bump F.TOPO_STATUS_STRAY 1) := by
  obtain ⟨-, -, -, hByte, -, -⟩ := State.takesMessage_iff.mp h
  rw [pktCmd_campion h, takeCampion_stray (by rwa [hByte]) (by simpa) (by simpa) (by simpa) (by simpa using hParent),
    stray]

/-- Settles O12: each of the three commands receives its message, and the message only counts. -/
theorem strayMessages : Obligations.StrayMessages := by
  intro s k p q a hp hq ha hExcl hSec hChild hParent
  exact ⟨pktCmd_stray hp (.inl rfl) hExcl hSec hChild hParent,
    pktCmd_stray hq (.inr (.inl rfl)) hExcl hSec hChild hParent,
    pktCmd_stray ha (.inr (.inr rfl)) hExcl hSec hChild hParent⟩

end Sys2Proof.Machine
end

section
/-! SUPPORT. EVT_OCCURRED over a delivery: what follows the first write of `raiseNode` writes the steward queue's
registers, EVT_FAB_DROP and PF0's pending bits, so the bit of the source stays set (R711, R731). -/

namespace Sys2Proof.Machine

variable {s : State} {key : Nat}

theorem bit_eq_testBit (v i : Nat) : bit v i = v.testBit i := by
  rw [bit, Nat.testBit_eq_decide_div_mod_eq]
  rfl

/-- A field with bits set reads as the bits it had and the new ones, cut to its width. -/
theorem State.get_orBits_self (s : State) (f : Fld) (m : Nat) (h : f.ok) :
    (s.orBits f m).get f = (s.get f ||| m) % f.size := s.get_put_self f _ h

theorem State.reg_evt (s : State) (ev : EvtState) : ({ s with evt := ev } : State).reg key = s.reg key := rfl

@[simp] theorem State.reg_host (s : State) (o : HostOut) : (s.host o).reg key = s.reg key := rfl

/-- The registers that an occurrence writes after EVT_OCCURRED. -/
def deliveryRegs : List Nat := [R.EVT_Q_STATUS, R.EVT_Q_TAIL, R.EVT_FAB_DROP, R.HIF_PBA]

theorem occurred_notMem_deliveryRegs {i : Nat} (h : i < 8) : R.EVT_OCCURRED i ∉ deliveryRegs := by
  simp only [deliveryRegs, R.EVT_OCCURRED, R.EVT_Q_STATUS, R.EVT_Q_TAIL, R.EVT_FAB_DROP, R.HIF_PBA, List.mem_cons,
    List.not_mem_nil, or_false]
  omega

theorem sendMsix_reg (h : key ∉ deliveryRegs) (vec : Nat) : (sendMsix 0 vec s).reg key = s.reg key := by
  have hPba : key ≠ R.HIF_PBA := fun e => h (by simp [e, deliveryRegs])
  unfold sendMsix
  split_ifs
  · rfl
  · exact State.reg_put_ne _ _ _ hPba
  · rfl

theorem offerSteward_reg (h : key ∉ deliveryRegs) (e : Event) (vec : Nat) :
    (offerSteward e vec s).reg key = s.reg key := by
  have hStatus : key ≠ R.EVT_Q_STATUS := fun e => h (by simp [e, deliveryRegs])
  have hTailKey : key ≠ R.EVT_Q_TAIL := fun e => h (by simp [e, deliveryRegs])
  have hOverflow (t : State) (x : Nat) : (t.put F.EVT_Q_STATUS_OVERFLOW x).reg key = t.reg key :=
    State.reg_put_ne t _ x hStatus
  have hDropped (t : State) : (t.bump F.EVT_Q_STATUS_DROPPED 1).reg key = t.reg key := State.reg_put_ne t _ _ hStatus
  have hFault (t : State) (x : Nat) : (t.put F.EVT_Q_STATUS_Q_FAULT x).reg key = t.reg key :=
    State.reg_put_ne t _ x hStatus
  have hTail (t : State) (x : Nat) : (t.put F.EVT_Q_TAIL_TAIL x).reg key = t.reg key := State.reg_put_ne t _ x hTailKey
  unfold offerSteward
  split_ifs
  · rfl
  · dsimp only
    split_ifs
    · rw [State.reg_evt, hOverflow, hDropped, State.reg_evt]
    · rw [State.reg_evt, hFault, hOverflow, hDropped, State.reg_evt]
    · rw [sendMsix_reg h, hTail, State.reg_evt, State.reg_host, State.reg_evt]

theorem sendEventPackets_reg (h : key ∉ deliveryRegs) (e : Event) : (sendEventPackets e s).reg key = s.reg key := by
  have hDrop : key ≠ R.EVT_FAB_DROP := fun e => h (by simp [e, deliveryRegs])
  refine State.each_eq s (State.reg · key) _ _ fun k _ t => ?_
  split_ifs
  · rfl
  · rfl
  · exact State.reg_put_ne _ F.EVT_FAB_DROP_COUNT _ hDrop

/-- A source that is delivered to the steward's side has occurred, enabled or not. -/
theorem raiseNode_occurred {e : Event} {i b : Nat} (hSrc : e.src = 32 * i + b) (hi : i < 8) (hb : b < 32)
    (hPress : pressSource (32 * i + b) = false) (hNode : pOnly (32 * i + b) = false) :
    bit ((raiseNode e s).get (F.EVT_OCCURRED_BITS i)) b = true := by
  have hWord : e.src / 32 = i := by omega
  have hPos : e.src % 32 = b := by omega
  have hKey : R.EVT_OCCURRED i ∉ deliveryRegs := occurred_notMem_deliveryRegs hi
  have hReg : (raiseNode e s).reg (R.EVT_OCCURRED i) =
      (s.orBits (F.EVT_OCCURRED_BITS i) (2 ^ b)).reg (R.EVT_OCCURRED i) := by
    rw [← hSrc] at hPress hNode
    simp only [raiseNode, hPress, hNode, hWord, hPos, Bool.false_and, Bool.false_eq_true, if_false]
    split_ifs
    · rfl
    · exact (sendEventPackets_reg hKey e).trans (offerSteward_reg hKey e _)
    · exact offerSteward_reg hKey e _
    · exact (sendEventPackets_reg hKey e).trans (offerSteward_reg hKey e _)
    · exact offerSteward_reg hKey e _
  have hRead : (raiseNode e s).get (F.EVT_OCCURRED_BITS i) = (s.get (F.EVT_OCCURRED_BITS i) ||| 2 ^ b) % 2 ^ 32 := by
    rw [State.get, hReg]
    exact State.get_orBits_self s _ _ ⟨Nat.zero_le _, show 31 < 64 by decide⟩
  rw [hRead, bit_eq_testBit, Nat.testBit_mod_two_pow]
  simp [hb]

end Sys2Proof.Machine
end

section
/-! SUPPORT. A Sorrel step at the loop slots (R680) writes no register but the slots' counters. -/

namespace Sys2Proof.Machine

variable {s : State} {key : Nat}

@[simp] theorem convStart_reg (m : Nat) (s : State) : (convStart m s).reg key = s.reg key := by
  unfold convStart
  dsimp only
  split
  · rfl
  · split
    · rfl
    · split
      · rfl
      · split <;> rfl

theorem requestConv_reg {n : Nat} (h : key ≠ R.TNS_SLOT_COUNTS n) : (requestConv n s).reg key = s.reg key := by
  unfold requestConv
  dsimp only
  split_ifs
  · rfl
  · exact (convStart_reg _ _).trans (State.reg_put_ne _ (F.TNS_SLOT_COUNTS_WAITS n) _ h)
  · exact convStart_reg _ _

theorem takeSample_reg {n : Nat} (h : key ≠ R.TNS_SLOT_COUNTS n) : (takeSample n s).reg key = s.reg key := by
  unfold takeSample
  split_ifs
  · exact requestConv_reg h
  · rfl

theorem stepSlots_reg (h : ∀ n < 16, key ≠ R.TNS_SLOT_COUNTS n) : (stepSlots s).reg key = s.reg key := by
  refine State.each_eq s (State.reg · key) _ _ fun n hn t => ?_
  have hn : key ≠ R.TNS_SLOT_COUNTS n := h n (List.mem_range.mp hn)
  dsimp only
  split_ifs
  · rfl
  · exact (takeSample_reg hn).trans (State.reg_put_ne _ (F.TNS_SLOT_COUNTS_STEPS n) _ hn)
  · exact State.reg_put_ne _ (F.TNS_SLOT_COUNTS_STEPS n) _ hn

end Sys2Proof.Machine
end

section
/-! The Sorrel counter set by the steward (R318): a step by the difference to the written time is a step to it. -/

namespace Sys2Proof.Machine

variable {s : State}

theorem State.reg_log (s : State) (l : LogState) (key : Nat) : ({ s with log := l } : State).reg key = s.reg key := rfl

theorem setSorrelTime_time (t : Nat) : (setSorrelTime t s).get F.TOPO_SRL_TIME_TIME_NS = t / 2 ^ 24 % 2 ^ 64 := by
  rw [setSorrelTime, State.get_put_key _ _ _ _ (by decide), State.get_put_self _ _ _ (by decide)]
  rfl

theorem setSorrelTime_frac (t : Nat) : (setSorrelTime t s).get F.TOPO_SRL_FRAC_FRAC = t % 2 ^ 24 := by
  rw [setSorrelTime, State.get_put_self _ _ _ (by decide)]
  exact Nat.mod_mod _ _

/-- A step leaves the counter at the sum modulo its 88 bits: neither the count of steps, nor the slots, nor the event
write a register of the counter. -/
theorem sorrelStep_get (d : Int) {f : Fld} (hEvt : evtKey f.key = false) (hSlot : ∀ n < 16, f.key ≠ R.TNS_SLOT_COUNTS n)
    (hStatus : f.key ≠ R.TOPO_SRL_STATUS) :
    (sorrelStep d s).get f = (setSorrelTime (((s.sorrelTime : Int) + d) % ((2 ^ 88 : Nat) : Int)).toNat s).get f := by
  have hSteps (t : State) : (t.bump F.TOPO_SRL_STATUS_STEPS 1).reg f.key = t.reg f.key := State.reg_put_ne t _ _ hStatus
  unfold sorrelStep
  refine (raiseNode_get _ _ f (show Ev.SORREL_STEP < 256 by decide) hEvt).trans (congrArg f.of ?_)
  rw [stepSlots_reg hSlot, State.reg_log, hSteps]

theorem sorrelStep_occurred (d : Int) : bit ((sorrelStep d s).get (F.EVT_OCCURRED_BITS 1)) 18 = true :=
  raiseNode_occurred (i := 1) (b := 18) rfl (by decide) (by decide) (by decide) (by decide)

/-- The sum of the present time and the difference to a written one is the written one, which fits the counter. -/
theorem sorrelTime_add_difference (v : W64) :
    (((s.sorrelTime : Int) + ((v.toNat * 2 ^ 24 : Nat) - (s.sorrelTime : Int))) % ((2 ^ 88 : Nat) : Int)).toNat =
      v.toNat * 2 ^ 24 := by
  have hv : v.toNat * 2 ^ 24 < 2 ^ 88 := by have := v.isLt; omega
  rw [add_sub_cancel, ← Int.natCast_mod, Int.toNat_natCast, Nat.mod_eq_of_lt hv]

theorem sorrelSet_at_coordinator (v : Nat) (hCoord : s.on F.TOPO_STATUS_COORD = true) (hState : s.campState = campAssigned) :
    sorrelSet v s = sorrelStep ((v * 2 ^ 24 : Nat) - (s.sorrelTime : Int)) s := by
  rw [sorrelSet, if_pos (by rw [hCoord, hState]; rfl)]

theorem sorrelSet_elsewhere (v : Nat) (h : s.on F.TOPO_STATUS_COORD = false ∨ s.campState ≠ campAssigned) :
    sorrelSet v s = s.put F.TOPO_SRL_STATUS_SET_REFUSED 1 := by
  rw [sorrelSet, if_neg]
  rcases h with h | h <;> simp [h]

/-- Settles O13: at the coordinator by the step's three results, elsewhere by the command's other branch. -/
theorem sorrelTimeIsSetAtTheCoordinator : Obligations.SorrelTimeIsSetAtTheCoordinator := by
  refine ⟨fun s v hCoord hState => ⟨sorrelSet v.toNat s, rfl, ?_⟩, fun s v h => ?_⟩
  · rw [sorrelSet_at_coordinator _ hCoord hState]
    refine ⟨?_, ?_, sorrelStep_occurred _⟩
    · rw [sorrelStep_get _ (by decide) (by decide) (by decide), setSorrelTime_time, sorrelTime_add_difference,
        Nat.mul_div_cancel _ (by decide), Nat.mod_eq_of_lt v.isLt]
    · rw [sorrelStep_get _ (by decide) (by decide) (by decide), setSorrelTime_frac, sorrelTime_add_difference,
        Nat.mul_mod_left]
  · exact congrArg Host.Outcome.next (sorrelSet_elsewhere _ h)

end Sys2Proof.Machine
end

section
/-! A doorbell for a ring that is neither RUNNING nor PAUSED (R341, R342), applied directly or through the partition's
window. -/

namespace Sys2Proof.Machine

variable {s : State} {r : Nat}

/-- A window's operation that changes nothing changes nothing whether the window takes the access or not. -/
theorem inWindow_eq_of_fixed {f : State → State} (h : f s = s) : inWindow r f s = .next s := by
  rw [inWindow, h, ite_self]

/-- R341 applies a doorbell to a RUNNING (1) or PAUSED (2) ring alone. -/
theorem applyDoorbell_eq_self (t : Nat) (hRunning : s.ringState r ≠ 1) (hPaused : s.ringState r ≠ 2) :
    applyDoorbell r t s = s := if_pos ⟨hRunning, hPaused⟩

/-- R342: neither DISABLED (0) nor STOPPING (3) is a state in which R341 applies a doorbell. -/
theorem applyDoorbell_of_disabled_or_stopping (t : Nat) (h : s.ringState r = 0 ∨ s.ringState r = 3) :
    applyDoorbell r t s = s := by
  rcases h with hDisabled | hStopping
  · exact applyDoorbell_eq_self t (by simp [hDisabled]) (by simp [hDisabled])
  · exact applyDoorbell_eq_self t (by simp [hStopping]) (by simp [hStopping])

/-- Settles O11: the operation is the identity on such a ring, and the command is the operation behind the window. -/
theorem doorbellsOfStoppedRings : Obligations.DoorbellsOfStoppedRings := by
  intro s r t h
  have hOp : applyDoorbell r.val t.toNat s = s := applyDoorbell_of_disabled_or_stopping t.toNat h
  exact ⟨hOp, inWindow_eq_of_fixed hOp⟩

end Sys2Proof.Machine
end

section
/-! SUPPORT. A program that stands at an instruction whose guard holds (R366, R368), and the state after a change of its
program. -/

namespace Sys2Proof.Machine

variable {r : Fin 132} {g : Guard} {w : W64} {ext : List W64} {s : State} {p : Prog}

theorem State.runsAt_iff : s.runsAt r g w ext p = true ↔ s.prog r.val = some p ∧ p.at w ext = true ∧ p.runs g = true := by
  simp [State.runsAt, and_assoc]

theorem kcs_of_runsAt {body : Prog → State → State} (h : s.runsAt r g w ext p = true) :
    kcs r g w ext body s = .next (body p s) := by
  obtain ⟨hProg, hAt, hRuns⟩ := State.runsAt_iff.mp h
  exact kcs_runs hProg hAt hRuns

theorem kcsReg_of_runsAt {f : Prog → Prog} (h : s.runsAt r g w ext p = true) :
    kcsReg r g w ext f s = .next (s.setProg r.val ((f p).next (1 + ext.length))) :=
  kcs_of_runsAt h

@[simp] theorem State.prog_setProg (s : State) (n : Nat) (p : Prog) : (s.setProg n p).prog n = some p :=
  congrArg Ring.prog (Tab.get_set_self Ring.init _ s.rings.ring n)

theorem Prog.next_ne_self (p : Prog) {n : Nat} (hn : n ≠ 0) : p.next n ≠ p := fun h =>
  hn (Nat.add_eq_left.mp (congrArg Prog.pc h))

/-- A state differs from itself with its program moved on. -/
theorem State.setProg_next_ne_self {k n : Nat} (hProg : s.prog k = some p) (hn : n ≠ 0) : s.setProg k (p.next n) ≠ s := by
  intro h
  have hSame : some (p.next n) = some p := by rw [← State.prog_setProg s k (p.next n), h, hProg]
  exact p.next_ne_self hn (Option.some.inj hSame)

end Sys2Proof.Machine
end

section
/-! The register arithmetic of a ring program (R373). -/

namespace Sys2Proof.Machine

/-- Settles O37: each operation is an instruction that changes registers only, with the statement's result as its function. -/
theorem scalarArithmetic : Obligations.ScalarArithmetic := by
  refine ⟨?add, ?sub, ?mul, ?mulhu, ?divu, ?remu, ?and, ?or, ?xor, ?shl, ?shr, ?sra, ?minu, ?maxu, ?min, ?max⟩ <;>
    exact fun s r g a b c p h => kcsReg_of_runsAt h

end Sys2Proof.Machine
end

section
/-! A PENGINE that does not run, on a node whose KIND 5 test job runs: Table 21.7 makes the order wait for the job's end,
but R368 says that an instruction that does not run issues no order, so the program goes on. The model lets it wait. -/

namespace Sys2Proof.Machine

variable {s : State}

/-- The model's wait of Table 21.7 comes before the guard, and so holds whatever the guard says. -/
theorem exec_pengine_of_beamPairJob (r : Fin 132) (g : Guard) (a : Fin 32) (lost : Bool) (h : s.jobRuns 5 = true) :
    exec (.pengine r g a lost) s = .next s := if_pos h

/-- PENGINE s1 under the guard NOT p0, which never holds (p0 is 1). -/
def neverPengine : ProgWord := ⟨16, ⟨0, true⟩, encU 0x82 ⟨0, true⟩ 0 0 0 1 0 0 0, []⟩

/-- A program of that PENGINE alone, at its start. -/
def neverPengineProg : Prog :=
  { entry := ⟨0, [], none⟩, invoke := none, words := [neverPengine.word], pc := 0, ctx := 0, s := [], p := [], d := [],
    t := [], stall := .no, fault := none, ended := false, restarts := 0, failed := false, retries := none, orders := 0,
    core := 0 }

/-- A test job of BEAM pair 0 through the pad loopback (KIND 5, LOOP 1, Table 21.3). -/
def beamPairJob : TestJob :=
  { kind := 5, pattern := 0, loop := 1, inst := 1, array := 0, duration := 1, thrSent := false }

/-- The node while that job runs, with that program on ring 16. -/
def beamPairJobState : State :=
  { State.reset with tst := { TestState.init with job := some beamPairJob } }.setProg 16 neverPengineProg

theorem beamPairJobState_prog : beamPairJobState.prog 16 = some neverPengineProg := State.prog_setProg _ _ _

/-- Refutes O8: while a KIND 5 test job runs, a PENGINE whose guard is false leaves the state as it was, where the
statement has the program go on behind it. -/
theorem not_guardedInstructions : ¬ Obligations.GuardedInstructions := by
  rintro ⟨hPassed, -⟩
  have hMoved := hPassed beamPairJobState (.pengine 16 ⟨0, true⟩ 1 false) neverPengine neverPengineProg rfl rfl
    beamPairJobState_prog (by decide) (by decide)
  rw [exec_pengine_of_beamPairJob 16 ⟨0, true⟩ 1 false rfl] at hMoved
  have hSame : beamPairJobState = beamPairJobState.setProg 16 (neverPengineProg.next 1) := Host.Outcome.next.inj hMoved
  exact State.setProg_next_ne_self beamPairJobState_prog one_ne_zero hSame.symm

end Sys2Proof.Machine
end

section
/-! SUPPORT. What commands leave: the fuses of the die, elapsed time and the queue, the steady parts of the state. Only
FW_COMMIT_SVN writes a fuse (R501), only a step takes a command from the queue, and only an idle step counts time. The
sections below have one lemma for each operation of the model, in the model's order, up to the commands. -/

namespace Sys2Proof.Machine

/-- The parts of the state that commands leave: the fuses of the die, elapsed time and the queue. -/
def State.steady (s : State) : Fuses × Nat × List Instr := (s.fuses, s.ticks, s.pending)

/-- The outcome of a command, when it is a next state, has the steady parts of `s`. -/
def Keeps (s : State) (o : Out) : Prop := ∀ t, o = .next t → t.steady = s.steady

/-- The same of a result that may be an error. -/
def KeepsOk {ε : Type} (s : State) (x : Except ε State) : Prop := ∀ t, x = .ok t → t.steady = s.steady

/-- The same of a result that may be none. -/
def KeepsSome (s : State) (x : Option State) : Prop := ∀ t, x = some t → t.steady = s.steady

variable {s t : State}

/-- An update of other parts leaves the steady ones. The parentheses of `(rfl)` make `simp` rewrite with the equation: as
a definitional step it would leave the kernel to compare nested records. -/
@[simp] theorem State.steady_mk (s : State) (regs : Tab W64) (cap : Tab Nat) (capFrac : Option Nat)
    (heldLow : Tab Nat) (freeCtr : Nat) (pwr : PwrState) (clk : ClkState) (pool : PoolState) (xlt : XltState)
    (evt : EvtState) (press : PressPins) (seals : List Seal) (nextSeal : Nat) (log : LogState) (rings : RingState)
    (hatch : HatchState) (ras : RasState) (dsp : DispState) (prs : PrsState) (dry : DryState) (tns : TnsState)
    (pressIn : PressIn) (leases : Leases) (rpr : RprState) (fab : FabState) (trust : TrustState) (tst : TestState)
    (fabOut : List (Nat × Packet)) (hostOut : List HostOut) :
    (State.mk regs cap capFrac heldLow s.ticks freeCtr s.fuses pwr clk pool xlt evt press seals nextSeal log rings hatch
      ras dsp prs dry tns pressIn leases rpr fab trust tst fabOut hostOut s.pending).steady = s.steady := (rfl)

@[simp] theorem State.steady_ite (c : Prop) [Decidable c] (a b : State) :
    (if c then a else b).steady = if c then a.steady else b.steady := apply_ite State.steady c a b

@[simp] theorem snd_steady_ite {α : Type} (c : Prop) [Decidable c] (x y : α × State) :
    (if c then x else y).2.steady = if c then x.2.steady else y.2.steady :=
  apply_ite (fun x => x.2.steady) c x y

/-- With the next three, the case split of a conditional, without the rewriting of the conditional's parts. -/
theorem steady_of_ite {c : Prop} [Decidable c] {a b : State} (ha : a.steady = s.steady) (hb : b.steady = s.steady) :
    (if c then a else b).steady = s.steady := by
  split <;> assumption

@[simp] theorem State.each_steady {α : Type} (s : State) (l : List α) (f : α → State → State)
    (h : ∀ a t, (f a t).steady = t.steady) : (s.each l f).steady = s.steady :=
  State.each_eq s State.steady l f fun a _ t => h a t

@[simp] theorem keeps_next : Keeps s (.next t) ↔ t.steady = s.steady :=
  ⟨fun h => h t rfl, fun h _ e => Host.Outcome.next.inj e ▸ h⟩

@[simp] theorem keeps_fault (x : Fault) : Keeps s (.fault x) := fun _ e => nomatch e

@[simp] theorem keeps_refused (x : Refusal) : Keeps s (.refused x) := fun _ e => nomatch e

@[simp] theorem keeps_ite (c : Prop) [Decidable c] (a b : Out) :
    Keeps s (if c then a else b) ↔ if c then Keeps s a else Keeps s b := by split_ifs <;> rfl

/-- A fold keeps the steady parts of the state that its accumulator holds, when each of its steps does. -/
theorem foldl_steady {α β : Type} (g : β → State) (l : List α) (f : β → α → β)
    (h : ∀ b a, (g (f b a)).steady = (g b).steady) (b : β) : (g (l.foldl f b)).steady = (g b).steady :=
  List.foldlRecOn (motive := fun c => (g c).steady = (g b).steady) l f rfl fun c hc a _ => (h c a).trans hc

@[simp] theorem foldl_snd_steady {α β : Type} (l : List α) (f : β × State → α → β × State)
    (h : ∀ b a, (f b a).2.steady = b.2.steady) (b : β × State) : (l.foldl f b).2.steady = b.2.steady :=
  foldl_steady Prod.snd l f h b

@[simp] theorem keepsOk_ok {ε : Type} : KeepsOk (ε := ε) s (.ok t) ↔ t.steady = s.steady :=
  ⟨fun h => h t rfl, fun h _ e => Except.ok.inj e ▸ h⟩

@[simp] theorem keepsOk_error {ε : Type} (e : ε) : KeepsOk s (.error e) := fun _ h => nomatch h

@[simp] theorem keepsOk_ite {ε : Type} (c : Prop) [Decidable c] (a b : Except ε State) :
    KeepsOk s (if c then a else b) ↔ if c then KeepsOk s a else KeepsOk s b := by split_ifs <;> rfl

@[simp] theorem keepsSome_some : KeepsSome s (some t) ↔ t.steady = s.steady :=
  ⟨fun h => h t rfl, fun h _ e => Option.some.inj e ▸ h⟩

@[simp] theorem keepsSome_none : KeepsSome s none := fun _ h => nomatch h

@[simp] theorem keepsSome_ite (c : Prop) [Decidable c] (a b : Option State) :
    KeepsSome s (if c then a else b) ↔ if c then KeepsSome s a else KeepsSome s b := by split_ifs <;> rfl

theorem keeps_of_ite {c : Prop} [Decidable c] {a b : Out} (ha : Keeps s a) (hb : Keeps s b) :
    Keeps s (if c then a else b) := by
  split <;> assumption

theorem keepsOk_of_ite {ε : Type} {c : Prop} [Decidable c] {a b : Except ε State} (ha : KeepsOk s a)
    (hb : KeepsOk s b) : KeepsOk s (if c then a else b) := by
  split <;> assumption

theorem keepsSome_of_ite {c : Prop} [Decidable c] {a b : Option State} (ha : KeepsSome s a) (hb : KeepsSome s b) :
    KeepsSome s (if c then a else b) := by
  split <;> assumption

/-- Where the caller falls back to `s` itself, so does the claim. -/
theorem keepsSome_getD {x : Option State} (h : KeepsSome s x) : (x.getD s).steady = s.steady := by
  cases x with
  | none => rfl
  | some t => exact h t rfl

end Sys2Proof.Machine
end

section
/-! SUPPORT. The steady parts are kept. The register file: finding a register by its key, reading and writing
registers and fields, saturating counters, and reloading reset domains. -/

namespace Sys2Proof.Machine

@[simp] theorem State.setReg_steady (s : State) (key : Nat) (v : W64) : (s.setReg key v).steady = s.steady := (rfl)

@[simp] theorem State.put_steady (s : State) (f : Fld) (x : Nat) : (s.put f x).steady = s.steady := (rfl)

@[simp] theorem State.putB_steady (s : State) (f : Fld) (x : Bool) : (s.putB f x).steady = s.steady := (rfl)

@[simp] theorem State.bump_steady (s : State) (f : Fld) (k : Nat) : (s.bump f k).steady = s.steady := (rfl)

@[simp] theorem State.incr_steady (s : State) (f : Fld) (k : Nat) : (s.incr f k).steady = s.steady := (rfl)

@[simp] theorem State.orBits_steady (s : State) (f : Fld) (m : Nat) : (s.orBits f m).steady = s.steady := (rfl)

@[simp] theorem State.loadDomains_steady (s : State) (p : Dom → Bool) : (s.loadDomains p).steady = s.steady := (rfl)

@[simp] theorem State.draw_steady (s : State) : s.draw.steady = s.steady := (rfl)

@[simp] theorem State.faultLow_steady (s : State) (c : FaultCause) : (s.faultLow c).steady = s.steady := by
  simp [State.faultLow]

@[simp] theorem State.faultRelease_steady (s : State) (c : FaultCause) : (s.faultRelease c).steady = s.steady := (rfl)

@[simp] theorem State.host_steady (s : State) (o : HostOut) : (s.host o).steady = s.steady := (rfl)

@[simp] theorem State.send_steady (s : State) (k : Nat) (p : Packet) : (s.send k p).steady = s.steady := (rfl)

@[simp] theorem State.writeReg_steady (s : State) (key v : Nat) : (s.writeReg key v).steady = s.steady := by
  unfold State.writeReg
  split <;> simp

end Sys2Proof.Machine
end

section
/-! SUPPORT. The steady parts are kept. Event occurrences and their delivery to the steward queue, to vectors, to
SMB_ALERT_N and to fabric targets. -/

namespace Sys2Proof.Machine

@[simp] theorem sendMsix_steady (fn vec : Nat) (s : State) : (sendMsix fn vec s).steady = s.steady := by
  simp [sendMsix]

@[simp] theorem raiseAlert_steady (src : Nat) (s : State) : (raiseAlert src s).steady = s.steady := (rfl)

@[simp] theorem offerSteward_steady (e : Event) (vec : Nat) (s : State) :
    (offerSteward e vec s).steady = s.steady := by
  simp [offerSteward]

@[simp] theorem sendEventPackets_steady (e : Event) (s : State) : (sendEventPackets e s).steady = s.steady := by
  simp [sendEventPackets]

@[simp] theorem raiseNode_steady (e : Event) (s : State) : (raiseNode e s).steady = s.steady := by
  simp [raiseNode]

end Sys2Proof.Machine
end

section
/-! SUPPORT. The steady parts are kept. The repair record's pending area: entries, locations, serials and the merge.
-/

namespace Sys2Proof.Machine

@[simp] theorem repairAdd_steady (type flags serial loc : Nat) (s : State) :
    (repairAdd type flags serial loc s).steady = s.steady := by
  simp [repairAdd]

end Sys2Proof.Machine
end

section
/-! SUPPORT. The steady parts are kept. Pool memory: placement, the symbol code at a line, the valid hierarchy, line
reads and writes, error accounting, device retirement and row repair. -/

namespace Sys2Proof.Machine

@[simp] theorem errLog_steady (outcome nsym dev : Nat) (a : DramAddr) (s : State) :
    (errLog outcome nsym dev a s).steady = s.steady := by
  simp [errLog]

@[simp] theorem memEvent_steady (src d : Nat) (urgent : Bool) (a : DramAddr) (s : State) :
    (memEvent src d urgent a s).steady = s.steady := by
  simp [memEvent]

@[simp] theorem retireDevice_steady (a : DramAddr) (d : Nat) (s : State) :
    (retireDevice a d s).steady = s.steady := by
  simp [retireDevice]

@[simp] theorem burstEvent_steady (a : DramAddr) (d : Nat) (s : State) : (burstEvent a d s).steady = s.steady := by
  unfold burstEvent
  grind [State.steady_mk, retireDevice_steady, State.put_steady, memEvent_steady]

@[simp] theorem rowFault_steady (r : RowRepair) (s : State) : (rowFault r s).steady = s.steady := by
  simp [rowFault]

@[simp] theorem rowError_steady (a : DramAddr) (d : Nat) (s : State) : (rowError a d s).steady = s.steady := by
  simp [rowError]

@[simp] theorem noteCorrected_steady (outcome : Nat) (a : DramAddr) (e : List SymErr) (s : State) :
    (noteCorrected outcome a e s).steady = s.steady := by
  simp [noteCorrected]

@[simp] theorem codewordRead_steady (isMeta : Bool) (line : Nat) (s : State) :
    (codewordRead isMeta line s).2.steady = s.steady := by
  unfold codewordRead
  grind [State.steady_mk, State.bump_steady, errLog_steady, noteCorrected_steady, memEvent_steady]

@[simp] theorem noteL2Ue_steady (g : Nat) (s : State) : (noteL2Ue g s).steady = s.steady := by
  simp [noteL2Ue]

@[simp] theorem hierarchy_steady (line : Nat) (s : State) : (hierarchy line s).2.steady = s.steady := by
  unfold hierarchy
  grind [noteL2Ue_steady, codewordRead_steady]

@[simp] theorem readServed_steady (line : Nat) (s : State) : (readServed line s).2.steady = s.steady := by
  unfold readServed
  grind [hierarchy_steady, codewordRead_steady]

@[simp] theorem cleanL1_steady (g : Nat) (s : State) : (cleanL1 g s).steady = s.steady := (rfl)

@[simp] theorem openGranule_steady (g : Nat) (s : State) : (openGranule g s).steady = s.steady := by
  simp [openGranule]

@[simp] theorem setValid_steady (line : Nat) (s : State) : (setValid line s).steady = s.steady := by
  simp [setValid]

@[simp] theorem storeLine_steady (line : Nat) (data : List Byte) (s : State) :
    (storeLine line data s).steady = s.steady := by
  simp [storeLine]

@[simp] theorem writeServed_steady (line : Nat) (data : List Byte) (s : State) :
    (writeServed line data s).2.steady = s.steady := by
  unfold writeServed
  grind [hierarchy_steady, storeLine_steady]

@[simp] theorem partServed_steady (line mask : Nat) (data : List Byte) (s : State) :
    (partServed line mask data s).2.steady = s.steady := by
  unfold partServed
  grind [storeLine_steady, readServed_steady]

@[simp] theorem opServed_steady (line : Nat) (op : MemOp) (s : State) : (opServed line op s).2.steady = s.steady := by
  unfold opServed
  split <;> simp

@[simp] theorem lineOp_steady (line : Nat) (op : MemOp) (s : State) : (lineOp line op s).2.steady = s.steady := by
  unfold lineOp
  split <;> simp

@[simp] theorem lineRequest_steady (line : Nat) (op : MemOp) (s : State) :
    (lineRequest line op s).steady = s.steady := by
  unfold lineRequest
  grind [State.steady_mk, lineOp_steady]

@[simp] theorem serveHeld_steady (s : State) : (serveHeld s).steady = s.steady := by
  simp [serveHeld]

@[simp] theorem addErrors_steady (l : List (Nat × List SymErr)) (s : State) : (addErrors l s).steady = s.steady := by
  simp [addErrors]

@[simp] theorem addL2Ue_steady (l : List Nat) (s : State) : (addL2Ue l s).steady = s.steady := by
  simp [addL2Ue]

end Sys2Proof.Machine
end

section
/-! SUPPORT. The steady parts are kept. Partitions' granules, translation, violations, accesses by virtual address,
and invalidation. -/

namespace Sys2Proof.Machine

@[simp] theorem State.setLc_steady (s : State) (p v : Nat) : (s.setLc p v).steady = s.steady := (rfl)

@[simp] theorem State.setTdi_steady (s : State) (p v : Nat) : (s.setTdi p v).steady = s.steady := (rfl)

@[simp] theorem State.setGran_steady (s : State) (g : Nat) (x : GState) : (s.setGran g x).steady = s.steady := (rfl)

@[simp] theorem freeGranule_steady (g : Nat) (s : State) : (freeGranule g s).steady = s.steady := (rfl)

@[simp] theorem recordViolation_steady (p : Nat) (kind : Viol) (op va cid : Nat) (src : Src) (s : State) :
    (recordViolation p kind op va cid src s).steady = s.steady := (rfl)

@[simp] theorem readAt_steady (ppa n : Nat) (s : State) : (readAt ppa n s).2.steady = s.steady := by
  unfold readAt
  grind [lineOp_steady]

@[simp] theorem cacheLook_steady {α : Type} (o : Option α) (s : State) : (cacheLook o s).2.steady = s.steady := by
  unfold cacheLook
  grind [State.bump_steady, State.draw_steady]

@[simp] theorem contextEntry_steady (cid : Nat) (s : State) : (contextEntry cid s).2.steady = s.steady := by
  unfold contextEntry
  grind [State.steady_mk, cacheLook_steady, readAt_steady]

@[simp] theorem walk_steady (p cid va lvl t : Nat) (s : State) : (walk p cid va lvl t s).2.steady = s.steady := by
  induction lvl generalizing t s with
  | zero => rfl
  | succ lvl ih =>
    unfold walk
    grind [State.steady_mk, readAt_steady]

@[simp] theorem leafOf_steady (ce : CachedCtx) (va : Nat) (s : State) : (leafOf ce va s).2.steady = s.steady := by
  unfold leafOf
  grind [State.steady_mk, cacheLook_steady, walk_steady]

@[simp] theorem translateBy_steady (own : Option Nat) (src : Src) (cid va : Nat) (op : AccOp) (s : State) :
    (translateBy own src cid va op s).2.steady = s.steady := by
  unfold translateBy
  grind [contextEntry_steady, leafOf_steady]

@[simp] theorem translate_steady (src : Src) (cid va : Nat) (op : AccOp) (s : State) :
    (translate src cid va op s).2.steady = s.steady := by
  simp [translate]

@[simp] theorem readPiece_steady (src : Src) (cid : Nat) (pc : Nat × Nat) (rs : AccRes × State) :
    (readPiece src cid pc rs).2.steady = rs.2.steady := by
  unfold readPiece
  grind [translate_steady, readAt_steady]

@[simp] theorem countAccess_steady (src : Src) (cid : Nat) (op : AccOp) (rs : AccRes × State) :
    (countAccess src cid op rs).2.steady = rs.2.steady := by
  unfold countAccess
  split
  · rfl
  · simp

@[simp] theorem readVA_steady (src : Src) (cid va n : Nat) (s : State) :
    (readVA src cid va n s).2.steady = s.steady := by
  simp [readVA]

@[simp] theorem writePiece_steady (own : Option Nat) (src : Src) (cid base : Nat) (data : List Byte)
    (pc : Nat × Nat) (rs : AccRes × State) : (writePiece own src cid base data pc rs).2.steady = rs.2.steady := by
  unfold writePiece
  grind [translateBy_steady, lineOp_steady]

@[simp] theorem writeVABy_steady (own : Option Nat) (src : Src) (cid va : Nat) (data : List Byte) (s : State) :
    (writeVABy own src cid va data s).2.steady = s.steady := by
  simp [writeVABy]

@[simp] theorem writeVA_steady (src : Src) (cid va : Nat) (data : List Byte) (s : State) :
    (writeVA src cid va data s).2.steady = s.steady := by
  simp [writeVA]

@[simp] theorem atomicVA_steady (src : Src) (cid va op sz a b : Nat) (s : State) :
    (atomicVA src cid va op sz a b s).2.steady = s.steady := by
  unfold atomicVA
  grind [translate_steady, lineOp_steady, countAccess_steady, readAt_steady]

@[simp] theorem dropCaches_steady (p : Nat) (s : State) : (dropCaches p s).steady = s.steady := (rfl)

@[simp] theorem applyInvalidation_steady (d : InvDesc) (s : State) : (applyInvalidation d s).steady = s.steady := by
  simp [applyInvalidation]

@[simp] theorem takeEpoch_steady (f : Fld) (epoch : Nat) (s : State) : (takeEpoch f epoch s).steady = s.steady := by
  simp [takeEpoch]

@[simp] theorem acceptInvalidation_steady (fr : InvFrom) (src : Src) (entitled : Bool) (d : InvDesc) (s : State) :
    (acceptInvalidation fr src entitled d s).steady = s.steady := by
  simp [acceptInvalidation]

@[simp] theorem windowInvalidate_steady (p w3 : Nat) (s : State) : (windowInvalidate p w3 s).steady = s.steady := by
  simp [windowInvalidate]

end Sys2Proof.Machine
end

section
/-! SUPPORT. The steady parts are kept. Delivery of the events of a partition to the partition's queue and vectors. -/

namespace Sys2Proof.Machine

@[simp] theorem partQFault_steady (p : Nat) (s : State) : (partQFault p s).steady = s.steady := (rfl)

@[simp] theorem offerPart_steady (p : Nat) (e : Event) (s : State) : (offerPart p e s).steady = s.steady := by
  simp [offerPart]

@[simp] theorem raisePart_steady (p : Nat) (e : Event) (s : State) : (raisePart p e s).steady = s.steady := by
  simp [raisePart]

@[simp] theorem raiseHolder_steady (holder : Option Nat) (src a0 a1 a2 : Nat) (s : State) :
    (raiseHolder holder src a0 a1 a2 s).steady = s.steady := by
  unfold raiseHolder
  split <;> simp

end Sys2Proof.Machine
end

section
/-! SUPPORT. The steady parts are kept. The audit log's own operations: records, the chain, acceptance, reservations,
banks and the tombstone. -/

namespace Sys2Proof.Machine

@[simp] theorem logEvent_steady (src inst : Nat) (s : State) : (logEvent src inst s).steady = s.steady := by
  simp [logEvent]

@[simp] theorem logWaits_steady (s : State) : (logWaits s).steady = s.steady := by
  simp [logWaits]

@[simp] theorem checkNearFull_steady (s : State) : (checkNearFull s).steady = s.steady := by
  simp [checkNearFull]

@[simp] theorem logSubmit_steady (cls : LogClass) (urgent : Bool) (type : Nat) (merged : Bool) (subject : Nat)
    (payload : List Byte) (resv : Option Nat) (cont : LogCont) (s : State) :
    (logSubmit cls urgent type merged subject payload resv cont s).steady = s.steady := by
  simp [logSubmit]

@[simp] theorem logOrdinary_steady (type subject : Nat) (payload : List Byte) (cont : LogCont) (s : State) :
    (logOrdinary type subject payload cont s).steady = s.steady := by
  simp [logOrdinary]

@[simp] theorem logIssuance_steady (i : IssueInfo) (outcome resv : Nat) (cont : LogCont) (s : State) :
    (logIssuance i outcome resv cont s).steady = s.steady := by
  simp [logIssuance]

@[simp] theorem takeReservation_steady (info : Option IssueInfo) (s : State) :
    (takeReservation info s).2.steady = s.steady := (rfl)

@[simp] theorem releaseReservation_steady (id : Nat) (s : State) :
    (releaseReservation id s).steady = s.steady := (rfl)

@[simp] theorem updateReservation_steady (id : Nat) (f : Reservation → Reservation) (s : State) :
    (updateReservation id f s).steady = s.steady := (rfl)

@[simp] theorem acceptWaiting_steady (s : State) : (acceptWaiting s).steady = s.steady := by
  rw [acceptWaiting, State.steady_mk]
  refine State.each_steady s _ _ fun i t => ?_
  split
  · split_ifs <;> simp
  · rfl

@[simp] theorem enterLog_steady (i : Nat) (r : LogRec) (s : State) : (enterLog i r s).steady = s.steady := by
  unfold enterLog
  grind [State.steady_mk]

@[simp] theorem writeTomb_steady (b : List Byte) (s : State) : (writeTomb b s).steady = s.steady := by
  simp [writeTomb]

@[simp] theorem logHalt_steady (s : State) : (logHalt s).steady = s.steady := by
  simp [logHalt]

@[simp] theorem bankFails_steady (bank cause seq : Nat) (s : State) :
    (bankFails bank cause seq s).steady = s.steady := by
  simp [bankFails]

@[simp] theorem logAppend_steady (okA okB : Bool) (s : State) : (logAppend okA okB s).2.steady = s.steady := by
  unfold logAppend
  grind [logHalt_steady, bankFails_steady, checkNearFull_steady, enterLog_steady]

end Sys2Proof.Machine
end

section
/-! SUPPORT. The steady parts are kept. Rings and their registers, programs and tallies, and a program's own memory
accesses. -/

namespace Sys2Proof.Machine

@[simp] theorem State.setRing_steady (s : State) (r : Nat) (x : Ring) : (s.setRing r x).steady = s.steady := (rfl)

@[simp] theorem State.setProg_steady (s : State) (r : Nat) (p : Prog) : (s.setProg r p).steady = s.steady := (rfl)

@[simp] theorem onProg_steady (r : Nat) (f : Prog → Prog) (s : State) : (onProg r f s).steady = s.steady := by
  unfold onProg
  split <;> simp

@[simp] theorem tallyDone_steady (r t status detail : Nat) (s : State) :
    (tallyDone r t status detail s).steady = s.steady := by
  simp [tallyDone]

@[simp] theorem setRingState_steady (r st : Nat) (s : State) : (setRingState r st s).steady = s.steady := by
  simp [setRingState]

@[simp] theorem pauseRing_steady (r cause : Nat) (s : State) : (pauseRing r cause s).steady = s.steady := by
  simp [pauseRing]

@[simp] theorem State.setCore_steady (s : State) (c : Nat) (x : Core) : (s.setCore c x).steady = s.steady := (rfl)

@[simp] theorem smReadPiece_steady (pc : Nat × Nat) (rs : AccRes × State) :
    (smReadPiece pc rs).2.steady = rs.2.steady := by
  unfold smReadPiece
  grind [readAt_steady]

@[simp] theorem smWritePiece_steady (base : Nat) (data : List Byte) (pc : Nat × Nat) (rs : AccRes × State) :
    (smWritePiece base data pc rs).2.steady = rs.2.steady := by
  unfold smWritePiece
  grind [lineOp_steady]

@[simp] theorem ringRead_steady (r ctx va n : Nat) (s : State) : (ringRead r ctx va n s).2.steady = s.steady := by
  unfold ringRead
  split_ifs <;> simp

@[simp] theorem ringWrite_steady (r ctx va : Nat) (data : List Byte) (s : State) :
    (ringWrite r ctx va data s).2.steady = s.steady := by
  unfold ringWrite
  split_ifs <;> simp

@[simp] theorem ringAtomic_steady (r ctx va op sz a b : Nat) (s : State) :
    (ringAtomic r ctx va op sz a b s).2.steady = s.steady := by
  unfold ringAtomic
  grind [ringRead_steady, ringWrite_steady, atomicVA_steady]

@[simp] theorem orderViolation_steady (r : Nat) (k : Viol) (op va cid : Nat) (s : State) :
    (orderViolation r k op va cid s).steady = s.steady := (rfl)

end Sys2Proof.Machine
end

section
/-! SUPPORT. The steady parts are kept. Surfaces as readers see them, display lists, coverage, colour and screening,
the plate hash, and seals. -/

namespace Sys2Proof.Machine

theorem rdMany_steady {rd : Rd} (hrd : ∀ va n t, (rd va n t).2.steady = t.steady) (l : List (Nat × Nat)) (s : State) :
    (rdMany rd l s).2.steady = s.steady := by
  simp [rdMany, hrd]

theorem readFlags_steady {rd : Rd} (hrd : ∀ va n t, (rd va n t).2.steady = t.steady) (f : Surf) (s : State) :
    (readFlags rd f s).2.2.steady = s.steady := by
  simp [readFlags, hrd]

theorem tileRow_steady {rd : Rd} (hrd : ∀ va n t, (rd va n t).2.steady = t.steady) (f : Surf) (fl : Flags)
    (y tx : Nat) (s : State) : (tileRow rd f fl y tx s).2.steady = s.steady := by
  unfold tileRow
  split_ifs <;> simp [hrd]

theorem rowSeen_steady {rd : Rd} (hrd : ∀ va n t, (rd va n t).2.steady = t.steady) (f : Surf) (fl : Flags) (y : Nat)
    (s : State) : (rowSeen rd f fl y s).2.steady = s.steady := by
  simp [rowSeen, tileRow_steady hrd]

theorem plateBytes_steady {rd : Rd} (hrd : ∀ va n t, (rd va n t).2.steady = t.steady) (f : Surf) (s : State) :
    (plateBytes rd f s).2.steady = s.steady := by
  simp [plateBytes, readFlags_steady hrd, rowSeen_steady hrd]

theorem readImages_steady {rd : Rd} (hrd : ∀ va n t, (rd va n t).2.steady = t.steady) (fmt x0 x1 y0 y1 : Nat)
    (l : List RCmd) (s : State) : (readImages rd fmt x0 x1 y0 y1 l s).2.2.steady = s.steady := by
  refine foldl_steady (fun a : List RCmd × AccRes × State => a.2.2) _ _ (fun acc c => ?_) _
  dsimp only
  split
  · exact foldl_steady (fun a : Tab (List Byte) × AccRes × State => a.2.2) _ _ (fun _ _ => hrd _ _ _) _
  · rfl

@[simp] theorem captureFrames_steady (r cid va n : Nat) (x : Captured) :
    (captureFrames r cid va n x).2.2.steady = x.2.2.steady := by
  unfold captureFrames
  split_ifs
  · rfl
  · refine foldl_steady (fun c : Captured => c.2.2) _ _ (fun c i => ?_) x
    grind [translate_steady, recordViolation_steady]

@[simp] theorem takeSeal_steady (pages : NSet) (press : Bool) (s : State) :
    (takeSeal pages press s).2.steady = s.steady := (rfl)

@[simp] theorem dropSeal_steady (id : Nat) (s : State) : (dropSeal id s).steady = s.steady := (rfl)

@[simp] theorem captureSurf_steady (r : Nat) (f : Surf) (s : State) : (captureSurf r f s).2.2.steady = s.steady := by
  simp [captureSurf]

@[simp] theorem mapRd_steady (m : Tab Nat) (va n : Nat) (s : State) : (mapRd m va n s).2.steady = s.steady := by
  unfold mapRd
  refine foldl_steady Prod.snd _ _ (fun rs pc => ?_) _
  grind [readAt_steady]

@[simp] theorem ringRd_steady (r cid va n : Nat) (s : State) : (ringRd r cid va n s).2.steady = s.steady := by
  simp [ringRd]

end Sys2Proof.Machine
end

section
/-! SUPPORT. The steady parts are kept. KCS instruction words, the program check, and what every instruction has in
common: its guard, its place in the program, its tally and its order. -/

namespace Sys2Proof.Machine

@[simp] theorem kcs_keeps {r : Fin 132} {g : Guard} {w : W64} {ext : List W64} {body : Prog → State → State}
    {s : State} (h : ∀ p, (body p s).steady = s.steady) : Keeps s (kcs r g w ext body s) := by
  obtain hs | ⟨p, -, -, ⟨-, hs⟩ | ⟨-, hs⟩⟩ := kcs_cases r g w ext body s <;> simp [hs, h]

@[simp] theorem kcsReg_keeps (r : Fin 132) (g : Guard) (w : W64) (ext : List W64) (f : Prog → Prog) (s : State) :
    Keeps s (kcsReg r g w ext f s) := by
  simp [kcsReg]

@[simp] theorem endAt_steady (r status detail : Nat) (p : Prog) (s : State) :
    (endAt r status detail p s).steady = s.steady := (rfl)

@[simp] theorem kindA_steady {r t : Nat} {p : Prog} {s : State} {issue : Prog → State → State}
    (h : ∀ q, (issue q s).steady = s.steady) : (kindA r t p s issue).steady = s.steady := by
  simp [kindA, h]

@[simp] theorem orderOf_steady {r code : Nat} {lost : Bool} {p : Prog} {s : State} {run : Prog → State → State}
    (h : ∀ q, (run q s).steady = s.steady) : (orderOf r code lost p s run).steady = s.steady := by
  simp [orderOf, h]

@[simp] theorem issueDone_steady (r t status detail : Nat) (p : Prog) (s : State) :
    (issueDone r t status detail p s).steady = s.steady := by
  simp [issueDone]

@[simp] theorem access_steady {r : Nat} {p : Prog} {s s0 : State} {x : AccRes × State}
    {k : List Byte → State → State} (h0 : s0.steady = s.steady) (hx : x.2.steady = s.steady)
    (h : ∀ d t, t.steady = s.steady → (k d t).steady = s.steady) : (access r p s0 x k).steady = s.steady := by
  unfold access
  split_ifs
  · exact h0
  · split
    · simp [hx]
    · exact h _ _ hx

end Sys2Proof.Machine
end

section
/-! SUPPORT. The steady parts are kept. Burin: raster contexts and their queues, the tiles of a job, and a band of a
streaming page. -/

namespace Sys2Proof.Machine

@[simp] theorem State.setRasQueue_steady (s : State) (n : Nat) (l : List RasJob) :
    (s.setRasQueue n l).steady = s.steady := (rfl)

@[simp] theorem dropQueuedJobs_steady (n : Nat) (s : State) : (dropQueuedJobs n s).steady = s.steady := by
  simp [dropQueuedJobs]

@[simp] theorem cancelJobs_steady (p : Nat) (s : State) : (cancelJobs p s).steady = s.steady := by
  simp [cancelJobs]

theorem rasIssue_steady (r t : Nat) (clear : Bool) (f : List W64) (p : Prog) {s0 s : State}
    (h : s0.steady = s.steady) : (rasIssue r t clear f p s0 s).steady = s.steady := by
  simp [rasIssue, h]

@[simp] theorem execRdraw_keeps (r : Fin 132) (g : Guard) (da t : Fin 16) (lost : Bool) (s : State) :
    Keeps s (execRdraw r g da t lost s) := by
  unfold execRdraw
  grind [kindA_steady, orderOf_steady, kcs_keeps, rasIssue_steady]

@[simp] theorem execRclear_keeps (r : Fin 132) (g : Guard) (da t : Fin 16) (lost : Bool) (s : State) :
    Keeps s (execRclear r g da t lost s) := by
  unfold execRclear
  grind [kindA_steady, orderOf_steady, kcs_keeps, rasIssue_steady]

@[simp] theorem endJob_steady (n status detail : Nat) (s : State) : (endJob n status detail s).steady = s.steady := by
  unfold endJob
  split <;> simp

theorem wrMany_steady {wr : Nat → List Byte → State → AccRes × State}
    (hwr : ∀ va d t, (wr va d t).2.steady = t.steady) (l : List (Nat × List Byte)) (s : State) :
    (wrMany wr l s).2.steady = s.steady := by
  simp [wrMany, hwr]

@[simp] theorem renderFrom_steady (j : RasJob) (f : Surf) (cmds : List RCmd) (fuel t : Nat) (s : State) :
    (renderFrom j f cmds fuel t s).2.steady = s.steady := by
  have hi := readImages_steady (ringRd_steady j.ring f.cid)
  have hm := rdMany_steady (ringRd_steady j.ring f.cid)
  have hw := wrMany_steady (fun va d t => writeVA_steady (.ring j.ring) f.cid va d t)
  induction fuel generalizing t s with
  | zero => rfl
  | succ fuel ih =>
    unfold renderFrom
    dsimp only
    split
    · rfl
    · split
      · simp [hi]
      · split
        · simp [ih, hi]
        · split
          · simp [hi, hm]
          · split
            · simp [hi, hm]
            · split <;> simp [hi, hm, hw]

@[simp] theorem onJob_steady (n : Nat) (f : RasJob → RasJob) (s : State) : (onJob n f s).steady = s.steady := by
  unfold onJob
  split <;> simp

@[simp] theorem jobStep_steady (s : State) : (jobStep s).steady = s.steady := by
  unfold jobStep
  dsimp only
  split
  · rfl
  · split
    · rfl
    · split
      · split <;> simp
      · split
        · simp
        · rfl
        · split
          · simp
          · generalize hx : renderFrom _ _ _ _ _ _ = x
            have h : x.2.steady = s.steady := by simp [← hx]
            obtain ⟨res, u⟩ := x
            cases res <;> simp_all

@[simp] theorem renderBand_steady (p : Page) (x : Stream) (k : Nat) (s : State) :
    (renderBand p x k s).2.steady = s.steady := by
  have hi := readImages_steady (ringRd_steady p.ring x.cid)
  have hw := wrMany_steady (fun va d t => writeVABy_steady (some p.sealId) (.ring p.ring) x.cid va d t)
  unfold renderBand
  dsimp only
  split
  · simp
  · split
    · simp
    · split <;> simp [hi, hw]

@[simp] theorem thrDataWrite_steady (v : Nat) (s : State) : (thrDataWrite v s).steady = s.steady := by
  simp [thrDataWrite]

@[simp] theorem execRasThrDataWrite_keeps (v : W32) (s : State) : Keeps s (execRasThrDataWrite v s) := by
  simp [execRasThrDataWrite]

@[simp] theorem ctxOwnerWrite_steady (n v : Nat) (s : State) : (ctxOwnerWrite n v s).steady = s.steady := by
  simp [ctxOwnerWrite]

@[simp] theorem execRasCtxOwnerWrite_keeps (n : Fin 8) (v : W32) (s : State) :
    Keeps s (execRasCtxOwnerWrite n v s) := by
  simp [execRasCtxOwnerWrite]

@[simp] theorem execTileBufferUe_keeps (s : State) : Keeps s (execTileBufferUe s) := by
  unfold execTileBufferUe
  split <;> simp

end Sys2Proof.Machine
end

section
/-! SUPPORT. The steady parts are kept. Synthesizers, the frequency monitor, gating of island clocks and the
quadrants' response. -/

namespace Sys2Proof.Machine

@[simp] theorem State.setSyn_steady (s : State) (n : Nat) (x : Syn) : (s.setSyn n x).steady = s.steady := (rfl)

@[simp] theorem setIslandClock_steady (mask : Nat) (run : Bool) (s : State) :
    (setIslandClock mask run s).steady = s.steady := (rfl)

@[simp] theorem setSynState_steady (n st : Nat) (s : State) : (setSynState n st s).steady = s.steady := by
  simp [setSynState]

@[simp] theorem synEvent_steady (src n : Nat) (s : State) : (synEvent src n s).steady = s.steady := by
  simp [synEvent]

@[simp] theorem setQuad_steady (q : Nat) (m : QuadMode) (s : State) : (setQuad q m s).steady = s.steady := (rfl)

@[simp] theorem moveChannels_steady (q old new : Nat) (s : State) : (moveChannels q old new s).steady = s.steady := by
  simp [moveChannels]

@[simp] theorem quadSelfRefresh_steady (q : Nat) (s : State) : (quadSelfRefresh q s).steady = s.steady := by
  unfold quadSelfRefresh
  split <;> simp

@[simp] theorem quadRelock_steady (q : Nat) (s : State) : (quadRelock q s).steady = s.steady := by
  unfold quadRelock
  grind [setQuad_steady]

@[simp] theorem quadServe_steady (q : Nat) (s : State) : (quadServe q s).steady = s.steady := by
  simp [quadServe]

@[simp] theorem gateAndRestart_steady (n : Nat) (off : Bool) (s : State) :
    (gateAndRestart n off s).steady = s.steady := by
  simp [gateAndRestart]

@[simp] theorem applySynWrite_steady (n : Nat) (s : State) : (applySynWrite n s).steady = s.steady := by
  unfold applySynWrite
  grind [State.steady_mk, setQuad_steady, gateAndRestart_steady]

@[simp] theorem writeCtl_steady (n : Nat) (en : Bool) (odiv nint nfrac : Nat) (s : State) :
    (writeCtl n en odiv nint nfrac s).steady = s.steady := by
  simp [writeCtl]

@[simp] theorem stewardCtl_steady (n : Nat) (v : W32) (s : State) : (stewardCtl n v s).steady = s.steady := by
  simp [stewardCtl]

@[simp] theorem synCtlWrite_steady (w : SynWriter) (n : Nat) (v : W32) (s : State) :
    (synCtlWrite w n v s).steady = s.steady := by
  simp [synCtlWrite]

@[simp] theorem synLockWrite_steady (w : SynWriter) (n : Nat) (v : W32) (s : State) :
    (synLockWrite w n v s).steady = s.steady := by
  simp [synLockWrite]

@[simp] theorem synGuardWrite_steady (w : SynWriter) (n : Nat) (v : W32) (s : State) :
    (synGuardWrite w n v s).steady = s.steady := by
  simp [synGuardWrite]

@[simp] theorem enterLocked_steady (n : Nat) (s : State) : (enterLocked n s).steady = s.steady := by
  unfold enterLocked
  split <;> simp

@[simp] theorem startCoast_steady (n : Nat) (s : State) : (startCoast n s).steady = s.steady := by
  unfold startCoast
  split <;> simp

@[simp] theorem clkoutWrite_steady (n : Nat) (v : W32) (s : State) : (clkoutWrite n v s).steady = s.steady := by
  simp [clkoutWrite]

end Sys2Proof.Machine
end

section
/-! SUPPORT. The steady parts are kept. The end of a test job, shared by the commands that can abort one. -/

namespace Sys2Proof.Machine

@[simp] theorem testDone_steady (inst result reason : Nat) (s : State) :
    (testDone inst result reason s).steady = s.steady := by
  simp [testDone]

@[simp] theorem endTest_steady (result : Nat) (s : State) : (endTest result s).steady = s.steady := by
  unfold endTest
  split <;> simp

@[simp] theorem abortJobIf_steady (f : TestJob → Bool) (s : State) : (abortJobIf f s).steady = s.steady := by
  simp [abortJobIf]

end Sys2Proof.Machine
end

section
/-! SUPPORT. The steady parts are kept. The proof display: link and receiver, commits, latches, scan-out and review
records. -/

namespace Sys2Proof.Machine

@[simp] theorem dspEvent_steady (src : Nat) (s : State) : (dspEvent src s).steady = s.steady := by
  simp [dspEvent]

@[simp] theorem dspCtlFields_steady (v : W32) (s : State) : (dspCtlFields v s).steady = s.steady := by
  simp [dspCtlFields]

@[simp] theorem dspEnable_steady (v : W32) (s : State) : (dspEnable v s).steady = s.steady := by
  simp [dspEnable]

@[simp] theorem execDspEnable_keeps (v : W32) (s : State) : Keeps s (execDspEnable v s) := by
  simp [execDspEnable]

@[simp] theorem releaseCommit_steady (c : Commit) (s : State) : (releaseCommit c s).steady = s.steady := by
  unfold releaseCommit
  grind [releaseReservation_steady, dropSeal_steady]

@[simp] theorem displaceFrame_steady (s : State) : (displaceFrame s).steady = s.steady := by
  unfold displaceFrame
  split <;> simp

@[simp] theorem displaceAll_steady (s : State) : (displaceAll s).steady = s.steady := by
  simp [displaceAll]

@[simp] theorem endShownSeal_steady (s : State) : (endShownSeal s).steady = s.steady := by
  unfold endShownSeal
  split <;> simp

@[simp] theorem endCommitSeals_steady (s : State) : (endCommitSeals s).steady = s.steady := by
  unfold endCommitSeals
  dsimp only
  split <;> simp

@[simp] theorem grantCommit_steady (ring id : Nat) (s : State) : (grantCommit ring id s).steady = s.steady := (rfl)

@[simp] theorem wantCommit_steady (c : Commit) (s : State) : (wantCommit c s).steady = s.steady := by
  simp [wantCommit]

theorem rcommit_steady (r a : Nat) (f : List W64) (p : Prog) {s0 s : State} (h : s0.steady = s.steady) :
    (rcommit r a f p s0 s).steady = s.steady := by
  have hb := plateBytes_steady (mapRd_steady (captureSurf r (commitPlateSurf (r / 8) f) s).1)
  refine steady_of_ite (by simp) (steady_of_ite (by simp) ?_)
  dsimp only
  refine steady_of_ite (by simp) (steady_of_ite h (steady_of_ite h ?_))
  split <;> simp [hb]

@[simp] theorem execRcommit_keeps (r : Fin 132) (g : Guard) (da : Fin 16) (a : Fin 32) (lost : Bool) (s : State) :
    Keeps s (execRcommit r g da a lost s) := by
  unfold execRcommit
  grind [orderOf_steady, kcs_keeps, rcommit_steady]

@[simp] theorem finishCommit_steady (r v : Nat) (s : State) : (finishCommit r v s).steady = s.steady := by
  simp [finishCommit]

@[simp] theorem execCommitHandshake_keeps (r : Fin 132) (s : State) : Keeps s (execCommitHandshake r s) := by
  unfold execCommitHandshake
  split <;> simp

@[simp] theorem scanRead_steady (ring cid va n : Nat) (s : State) :
    (scanRead ring cid va n s).2.steady = s.steady := by
  refine (countAccess_steady ..).trans
    (foldl_steady (fun x : List ScanByte × AccRes × State => x.2.2) _ _ (fun x pc => ?_) _)
  dsimp only
  split_ifs <;> simp

@[simp] theorem scanRow_steady (ring : Nat) (f : Surf) (fl : Flags) (y : Nat) (s : State) :
    (scanRow ring f fl y s).2.steady = s.steady := by
  refine foldl_snd_steady _ _ (fun x tx => ?_) _
  dsimp only
  split_ifs <;> simp [scanRead_steady]

@[simp] theorem scanFlags_steady (ring : Nat) (f : Surf) (s : State) : (scanFlags ring f s).2.steady = s.steady := by
  simp [scanFlags]

@[simp] theorem composeRow_steady (c : Commit) (x : Xform) (bfl pfl : Flags) (w v : Nat) (s : State) :
    (composeRow c x bfl pfl w v s).2.steady = s.steady := by
  unfold composeRow
  grind [scanRow_steady]

@[simp] theorem scanFrame_steady (s : State) : (scanFrame s).steady = s.steady := by
  unfold scanFrame
  dsimp only
  split
  · simp
  · refine steady_of_ite (by simp) ((State.steady_mk ..).trans ?_)
    simp

@[simp] theorem reviewRecord_steady (c : Commit) (s : State) : (reviewRecord c s).steady = s.steady := by
  simp [reviewRecord]

@[simp] theorem execVblankLatch_keeps (s : State) : Keeps s (execVblankLatch s) := by
  unfold execVblankLatch Keeps
  grind [State.steady_mk, State.bump_steady, scanFrame_steady, State.put_steady, endShownSeal_steady,
    reviewRecord_steady]

@[simp] theorem proofMoved_steady (s : State) : (proofMoved s).steady = s.steady := by
  simp [proofMoved]

@[simp] theorem dspDisable_steady (s : State) : (dspDisable s).steady = s.steady := by
  simp [dspDisable]

@[simp] theorem execDspDisable_keeps (s : State) : Keeps s (execDspDisable s) := by
  simp [execDspDisable]

@[simp] theorem dspCtlWrite_steady (v : W32) (s : State) : (dspCtlWrite v s).steady = s.steady := by
  simp [dspCtlWrite]

@[simp] theorem dspModeWrite_steady (key v : Nat) (s : State) : (dspModeWrite key v s).steady = s.steady := by
  simp [dspModeWrite]

@[simp] theorem execDpLinkTrained_keeps (ok : Bool) (s : State) : Keeps s (execDpLinkTrained ok s) := by
  simp [execDpLinkTrained]

@[simp] theorem execHdcpAuthentication_keeps (ok : Bool) (rxid : BitVec 40) (repeater : Bool) (s : State) :
    Keeps s (execHdcpAuthentication ok rxid repeater s) := by
  simp [execHdcpAuthentication]

@[simp] theorem auxGo_steady (v : W32) (reply : Option (List Byte)) (s : State) :
    (auxGo v reply s).steady = s.steady := by
  unfold auxGo
  refine steady_of_ite rfl ?_
  dsimp only
  refine steady_of_ite (by simp) ?_
  cases reply with
  | none => simp
  | some d => simp

@[simp] theorem execDspAuxGo_keeps (v : W32) (reply : Option (List Byte)) (s : State) :
    Keeps s (execDspAuxGo v reply s) := by
  simp [execDspAuxGo]

@[simp] theorem execHpdUnplug_keeps (s : State) : Keeps s (execHpdUnplug s) := by
  simp [execHpdUnplug]

@[simp] theorem execIrqHpd_keeps (linkOk : Bool) (s : State) : Keeps s (execIrqHpd linkOk s) := by
  simp [execIrqHpd]

@[simp] theorem execHpdPlug_keeps (s : State) : Keeps s (execHpdPlug s) := by
  simp [execHpdPlug]

@[simp] theorem execDspRetryTimer_keeps (s : State) : Keeps s (execDspRetryTimer s) := by
  simp [execDspRetryTimer]

end Sys2Proof.Machine
end

section
/-! SUPPORT. The steady parts are kept. The press port's own operations: engine states, outputs, halts, the page
queue, picks, spoils, purges and outcomes. -/

namespace Sys2Proof.Machine

@[simp] theorem prsEvent_steady (src page job : Nat) (s : State) : (prsEvent src page job s).steady = s.steady := by
  simp [prsEvent]

@[simp] theorem dryEvent_steady (src beam : Nat) (s : State) : (dryEvent src beam s).steady = s.steady := by
  simp [dryEvent]

@[simp] theorem unlock_steady (s : State) : (unlock s).steady = s.steady := by
  simp [unlock]

@[simp] theorem lockLost_steady (s : State) : (lockLost s).steady = s.steady := by
  simp [lockLost]

@[simp] theorem beamsOff_steady (s : State) : (beamsOff s).steady = s.steady := (rfl)

@[simp] theorem linesOff_steady (s : State) : (linesOff s).steady = s.steady := (rfl)

@[simp] theorem drive_steady (s : State) : (drive s).steady = s.steady := by
  simp [drive]

@[simp] theorem startHunting_steady (s : State) : (startHunting s).steady = s.steady := (rfl)

@[simp] theorem enterEng_steady (st : Nat) (s : State) : (enterEng st s).steady = s.steady := by
  simp [enterEng]

@[simp] theorem onPage_steady (id : Nat) (f : Page → Page) (s : State) : (onPage id f s).steady = s.steady := (rfl)

@[simp] theorem removePage_steady (id : Nat) (s : State) : (removePage id s).steady = s.steady := by
  unfold removePage
  split <;> simp

@[simp] theorem pageTally_steady (p : Page) (status detail : Nat) (s : State) :
    (pageTally p status detail s).steady = s.steady := by
  unfold pageTally
  split <;> simp

@[simp] theorem dropPage_steady (id : Nat) (s : State) : (dropPage id s).steady = s.steady := by
  unfold dropPage
  grind [removePage_steady, releaseReservation_steady, pageTally_steady]

@[simp] theorem dropHashing_steady (id : Nat) (s : State) : (dropHashing id s).steady = s.steady := by
  unfold dropHashing
  split <;> simp

@[simp] theorem dropPages_steady (f : Page → Bool) (s : State) : (dropPages f s).steady = s.steady := by
  simp [dropPages]

@[simp] theorem queuePage_steady (id resv : Nat) (s : State) : (queuePage id resv s).steady = s.steady := by
  unfold queuePage
  split <;> simp

@[simp] theorem wantPage_steady (id : Nat) (s : State) : (wantPage id s).steady = s.steady := by
  simp [wantPage]

@[simp] theorem grantWants_steady (s : State) : (grantWants s).steady = s.steady := by
  rw [grantWants, State.steady_mk]
  refine State.each_steady s _ _ fun w t => ?_
  split_ifs
  · cases w <;> simp
  · rfl

@[simp] theorem recordPage_steady (sp : SheetPage) (o : Nat) (requeue : Bool) (s : State) :
    (recordPage sp o requeue s).steady = s.steady := by
  simp [recordPage]

@[simp] theorem unrequeue_steady (id : Nat) (s : State) : (unrequeue id s).steady = s.steady := (rfl)

@[simp] theorem interruptPath_steady (s : State) : (interruptPath s).steady = s.steady := by
  simp [interruptPath]

@[simp] theorem bandLost_steady (s : State) : (bandLost s).steady = s.steady := (rfl)

@[simp] theorem halt_steady (cause : Nat) (s : State) : (halt cause s).steady = s.steady := by
  simp [halt]

@[simp] theorem onSheet_steady (id : Nat) (f : Sheet → Sheet) (s : State) :
    (onSheet id f s).steady = s.steady := (rfl)

@[simp] theorem purgeSheet_steady (id : Nat) (s : State) : (purgeSheet id s).steady = s.steady := by
  unfold purgeSheet
  split <;> simp

@[simp] theorem blankSheet_steady (id o : Nat) (s : State) : (blankSheet id o s).steady = s.steady := by
  simp [blankSheet]

@[simp] theorem interruptSheet_steady (id : Nat) (s : State) : (interruptSheet id s).steady = s.steady := by
  unfold interruptSheet
  split <;> simp

@[simp] theorem requeuePages_steady (ids : List Nat) (s : State) : (requeuePages ids s).steady = s.steady := (rfl)

@[simp] theorem spoilSheet_steady (id : Nat) (at_ : IssueInfo) (s : State) :
    (spoilSheet id at_ s).steady = s.steady := by
  unfold spoilSheet
  split <;> simp

@[simp] theorem spoilImaged_steady (s : State) : (spoilImaged s).steady = s.steady := by
  unfold spoilImaged
  split <;> simp

@[simp] theorem finishSheet_steady (id : Nat) (s : State) : (finishSheet id s).steady = s.steady := by
  unfold finishSheet
  split
  · rfl
  · refine (State.each_steady _ _ _ fun p t => ?_).trans (State.steady_mk ..)
    split <;> simp

@[simp] theorem sheetLeaves_steady (id : Nat) (s : State) : (sheetLeaves id s).steady = s.steady := by
  unfold sheetLeaves
  dsimp only
  split <;> simp

@[simp] theorem finishTested_steady (s : State) : (finishTested s).steady = s.steady := by
  simp [finishTested]

@[simp] theorem pageDone_steady (id status : Nat) (requeue : Bool) (s : State) :
    (pageDone id status requeue s).steady = s.steady := by
  unfold pageDone
  dsimp only
  split <;> simp

@[simp] theorem markImaged_steady (id : Nat) (info : IssueInfo) (s : State) :
    (markImaged id info s).steady = s.steady := (rfl)

@[simp] theorem pickSheet_steady (ps : List Page) (s : State) : (pickSheet ps s).steady = s.steady := by
  simp [pickSheet]

@[simp] theorem pressMoved_steady (old new : Option Nat) (s : State) : (pressMoved old new s).steady = s.steady := by
  unfold pressMoved
  split <;> simp

@[simp] theorem aonSafe_steady (s : State) : (aonSafe s).steady = s.steady := by
  simp [aonSafe]

@[simp] theorem pressSealedHalt_steady (s : State) : (pressSealedHalt s).steady = s.steady := by
  unfold pressSealedHalt
  dsimp only
  rw [State.steady_ite, enterEng_steady, ite_self, dropPages_steady]
  refine State.each_steady _ _ _ fun sh t => ?_
  rw [State.steady_ite, purgeSheet_steady, ite_self, onSheet_steady]
  refine State.each_steady _ _ _ fun p u => ?_
  split <;> simp

end Sys2Proof.Machine
end

section
/-! SUPPORT. The steady parts are kept. Tansy's own operations: the arithmetic of a slot, its codes, its sources and
instants, the converters' queues, and captures. -/

namespace Sys2Proof.Machine

@[simp] theorem State.setSlot_steady (s : State) (n : Nat) (x : Slot) : (s.setSlot n x).steady = s.steady := (rfl)

@[simp] theorem capInject_steady (n : Nat) (s : State) : (capInject n s).2.steady = s.steady := by
  unfold capInject
  grind [State.steady_mk]

@[simp] theorem capFlush_steady (s : State) : (capFlush s).steady = s.steady := by
  unfold capFlush
  split
  · rfl
  · refine (State.steady_mk ..).trans (foldl_steady (fun x : List (Nat × Nat) × Option (Nat × Nat) × State => x.2.2) _
    _ (fun x w => ?_) _)
    dsimp only
    split_ifs <;> simp

@[simp] theorem capNext_steady (s : State) : (capNext s).steady = s.steady := by
  simp [capNext]

@[simp] theorem capEnd_steady (status detail : Nat) (s : State) : (capEnd status detail s).steady = s.steady := by
  unfold capEnd
  dsimp only
  split <;> simp

@[simp] theorem capFinish_steady (s : State) : (capFinish s).steady = s.steady := by
  unfold capFinish
  grind [capEnd_steady]

@[simp] theorem capSample_steady (n : Nat) (x e q u : Int) (s : State) :
    (capSample n x e q u s).steady = s.steady := by
  unfold capSample
  split <;> simp

@[simp] theorem slotLeft_steady (n : Nat) (s : State) : (slotLeft n s).steady = s.steady := by
  unfold slotLeft
  split <;> simp

@[simp] theorem capLeaseMoved_steady (s : State) : (capLeaseMoved s).steady = s.steady := by
  simp [capLeaseMoved]

@[simp] theorem State.setConv_steady (s : State) (m : Nat) (x : Conv) : (s.setConv m x).steady = s.steady := (rfl)

@[simp] theorem convStart_steady (m : Nat) (s : State) : (convStart m s).steady = s.steady := by
  unfold convStart
  grind [State.setConv_steady]

@[simp] theorem requestConv_steady (n : Nat) (s : State) : (requestConv n s).steady = s.steady := by
  simp [requestConv]

@[simp] theorem requestApc_steady (b : Nat) (s : State) : (requestApc b s).steady = s.steady := by
  simp [requestApc]

@[simp] theorem takeSample_steady (n : Nat) (s : State) : (takeSample n s).steady = s.steady := by
  simp [takeSample]

@[simp] theorem stepSlots_steady (s : State) : (stepSlots s).steady = s.steady := by
  refine State.each_steady _ _ _ fun n t => steady_of_ite rfl ?_
  simp

@[simp] theorem stopSlot_steady (n : Nat) (s : State) : (stopSlot n s).steady = s.steady := by
  simp [stopSlot]

end Sys2Proof.Machine
end

section
/-! SUPPORT. The steady parts are kept. Tansy's commands: the orders of a ring, the converters, tachs, sample instants
and strobes, and the pins that slots drive; the high-voltage and fuser duties of the press that read them. -/

namespace Sys2Proof.Machine

@[simp] theorem pressOrder_steady {r : Nat} {p : Prog} {s : State} {refused run : State → State}
    (hr : ∀ t, (refused t).steady = t.steady) (h : (run s).steady = s.steady) :
    (pressOrder r p s refused run).steady = s.steady := by
  simp [pressOrder, hr, h]

theorem tload_steady (r t : Nat) (f : List W64) (n : Nat) (p : Prog) {s0 s : State} (h : s0.steady = s.steady) :
    (tload r t f n p s0 s).steady = s.steady := by
  refine steady_of_ite (by simp) (pressOrder_steady (fun t => by simp) ?_)
  dsimp only
  refine steady_of_ite h ?_
  split
  · simp
  · exact steady_of_ite (by simp) (by simp)

@[simp] theorem execTload_keeps (r : Fin 132) (g : Guard) (da t : Fin 16) (a : Fin 32) (lost : Bool) (s : State) :
    Keeps s (execTload r g da t a lost s) := by
  unfold execTload
  grind [tload_steady, kindA_steady, orderOf_steady, kcs_keeps]

@[simp] theorem execTset_keeps (r : Fin 132) (g : Guard) (a b : Fin 32) (lost : Bool) (s : State) :
    Keeps s (execTset r g a b lost s) := by
  unfold execTset
  grind [orderOf_steady, State.setSlot_steady, kcs_keeps, pressOrder_steady, State.setProg_steady, endAt_steady]

@[simp] theorem tctl_steady (n code : Nat) (s : State) : (tctl n code s).steady = s.steady := by
  simp [tctl]

@[simp] theorem execTctl_keeps (r : Fin 132) (g : Guard) (a b : Fin 32) (lost : Bool) (s : State) :
    Keeps s (execTctl r g a b lost s) := by
  unfold execTctl
  grind [tctl_steady, orderOf_steady, kcs_keeps, pressOrder_steady, State.setProg_steady, endAt_steady]

@[simp] theorem execTcap_keeps (r : Fin 132) (g : Guard) (da t : Fin 16) (lost : Bool) (s : State) :
    Keeps s (execTcap r g da t lost s) := by
  unfold execTcap
  grind [State.steady_mk, kindA_steady, orderOf_steady, kcs_keeps, pressOrder_steady, issueDone_steady,
    State.setProg_steady, endAt_steady]

@[simp] theorem hvReading_steady (ch code : Nat) (s : State) : (hvReading ch code s).steady = s.steady := by
  unfold hvReading
  split_ifs <;> simp

@[simp] theorem execAdcConversionDone_keeps (m : Fin 2) (v : BitVec 12) (s : State) :
    Keeps s (execAdcConversionDone m v s) := by
  unfold execAdcConversionDone Keeps
  grind [State.steady_mk, convStart_steady, State.setSlot_steady, State.put_steady, hvReading_steady,
    State.setConv_steady, State.incr_steady]

@[simp] theorem tnsEvent_steady (src n : Nat) (s : State) : (tnsEvent src n s).steady = s.steady := by
  simp [tnsEvent]

@[simp] theorem adcFaultBand_steady (s : State) : (adcFaultBand s).steady = s.steady := by
  simp [adcFaultBand]

@[simp] theorem execAdcCheck_keeps (m : Fin 2) (half vss : BitVec 12) (s : State) :
    Keeps s (execAdcCheck m half vss s) := by
  simp [execAdcCheck]

@[simp] theorem execTachEdge_keeps (i : Fin 9) (s : State) : Keeps s (execTachEdge i s) := by
  simp [execTachEdge]

@[simp] theorem execSampleInstant_keeps (n : Fin 16) (s : State) : Keeps s (execSampleInstant n s) := by
  unfold execSampleInstant
  dsimp only
  split <;> simp

@[simp] theorem execSlotStrobe_keeps (n : Fin 16) (s : State) : Keeps s (execSlotStrobe n s) := by
  simp [execSlotStrobe]

@[simp] theorem execOutputApply_keeps (n : Fin 16) (late : Bool) (s : State) :
    Keeps s (execOutputApply n late s) := by
  unfold execOutputApply
  dsimp only
  split <;> simp

@[simp] theorem execSlotStorageUe_keeps (n : Fin 16) (s : State) : Keeps s (execSlotStorageUe n s) := by
  simp [execSlotStorageUe]

@[simp] theorem execPwmPeriod_keeps (k : Fin 9) (s : State) : Keeps s (execPwmPeriod k s) := by
  simp [execPwmPeriod]

@[simp] theorem execHvrefPwmPeriod_keeps (k : Fin 4) (s : State) : Keeps s (execHvrefPwmPeriod k s) := by
  simp [execHvrefPwmPeriod]

@[simp] theorem execHvLimit_keeps (k : Fin 4) (s : State) : Keeps s (execHvLimit k s) := by
  unfold execHvLimit
  split <;> simp

@[simp] theorem zcdGate_steady (k slot : Nat) (s : State) : (zcdGate k slot s).steady = s.steady := by
  refine steady_of_ite (State.steady_mk ..) (steady_of_ite ?_ ?_)
  · exact (State.steady_mk ..).trans (by simp)
  · exact (State.steady_mk ..).trans (by simp)

@[simp] theorem execZcdEdge_keeps (s : State) : Keeps s (execZcdEdge s) := by
  simp [execZcdEdge]

@[simp] theorem execFuserGateEnd_keeps (k : Fin 2) (s : State) : Keeps s (execFuserGateEnd k s) := by
  unfold execFuserGateEnd
  split <;> simp

@[simp] theorem execZcdLost_keeps (s : State) : Keeps s (execZcdLost s) := by
  unfold execZcdLost
  split <;> simp

end Sys2Proof.Machine
end

section
/-! SUPPORT. The steady parts are kept. The press port's commands: the press instructions, the engine's events, picks,
bands, sheet tracking, clutches, comparators and the interlock. -/

namespace Sys2Proof.Machine

theorem admitPage_steady (x : Page) (cap : Captured) (t : Nat) (p : Prog) {s0 s : State} (h0 : s0.steady = s.steady)
    (h : cap.2.2.steady = s.steady) : (admitPage x cap t p s0).steady = s.steady := by
  have hb := plateBytes_steady (mapRd_steady cap.1)
  unfold admitPage
  dsimp only
  split
  · exact h0
  · split
    · simp [h]
    · split
      · simp [h]
      · split
        · exact h0
        · split <;> simp [h, hb]

theorem pqueue_steady (r t : Nat) (f : List W64) (p : Prog) {s0 s : State} (h : s0.steady = s.steady) :
    (pqueue r t f p s0 s).steady = s.steady := by
  refine pressOrder_steady (by simp) (steady_of_ite (by simp) (steady_of_ite (by simp) (steady_of_ite h ?_)))
  refine steady_of_ite (admitPage_steady _ _ _ _ h (by simp)) ?_
  dsimp only
  refine steady_of_ite h ?_
  split
  · simp
  · refine steady_of_ite (by simp) ?_
    refine steady_of_ite h ?_
    split
    · simp
    · split
      · simp
      · refine admitPage_steady _ _ _ _ h ?_
        rw [captureFrames_steady]
        refine (foldl_steady (fun c : Captured => c.2.2) _ _ (fun c i => captureFrames_steady ..) _).trans ?_
        simp

@[simp] theorem execPqueue_keeps (r : Fin 132) (g : Guard) (da t : Fin 16) (lost : Bool) (s : State) :
    Keeps s (execPqueue r g da t lost s) := by
  unfold execPqueue
  grind [kindA_steady, orderOf_steady, pqueue_steady, kcs_keeps]

@[simp] theorem hashBands_steady (p : Page) (x : Stream) (n k : Nat) (acc : List Byte) (s : State) :
    (hashBands p x n k acc s).2.steady = s.steady := by
  induction n generalizing k acc s with
  | zero => rfl
  | succ n ih =>
    have h := renderBand_steady p x k s
    unfold hashBands
    grind

@[simp] theorem execHashPassDone_keeps (s : State) : Keeps s (execHashPassDone s) := by
  unfold execHashPassDone
  split
  · simp
  · split
    · simp
    · rename_i p _ _ x _
      have h := hashBands_steady p x p.bands 0 [] s
      split
      · simp
      · dsimp only
        split <;> simp_all
      · simp_all

@[simp] theorem execPcancel_keeps (r : Fin 132) (g : Guard) (a : Fin 32) (lost : Bool) (s : State) :
    Keeps s (execPcancel r g a lost s) := by
  unfold execPcancel
  grind [dropPages_steady, orderOf_steady, kcs_keeps, pressOrder_steady, State.setProg_steady]

@[simp] theorem startSyn10_steady (s : State) : (startSyn10 s).steady = s.steady := by
  simp [startSyn10]

@[simp] theorem pengine_steady (mode : Nat) (s : State) : (pengine mode s).steady = s.steady := by
  simp [pengine]

@[simp] theorem execPengine_keeps (r : Fin 132) (g : Guard) (a : Fin 32) (lost : Bool) (s : State) :
    Keeps s (execPengine r g a lost s) := by
  refine keeps_of_ite (by simp) (kcs_keeps fun p => orderOf_steady fun q => ?_)
  refine steady_of_ite (by simp) (pressOrder_steady (by simp) ?_)
  exact steady_of_ite (by simp) (by simp)

@[simp] theorem execPstat_keeps (r : Fin 132) (g : Guard) (a : Fin 32) (s : State) : Keeps s (execPstat r g a s) := by
  simp [execPstat]

@[simp] theorem execRasterTile_keeps (s : State) : Keeps s (execRasterTile s) := by
  unfold execRasterTile
  split
  · simp
  · dsimp only
    split
    · simp
    · split
      · simp
      · rename_i id k _ _ _ p _ _ x _
        have h := renderBand_steady p x k s
        split
        · simp_all
        · split_ifs
          · simp
          · split <;> simp_all
          · simp_all
          · simp_all

@[simp] theorem execBandRequest_keeps (s : State) : Keeps s (execBandRequest s) := by
  unfold execBandRequest
  dsimp only
  split <;> simp

@[simp] theorem execEngineConditionsMet_keeps (s : State) : Keeps s (execEngineConditionsMet s) := by
  simp [execEngineConditionsMet]

@[simp] theorem execEngineConditionLost_keeps (s : State) : Keeps s (execEngineConditionLost s) := by
  simp [execEngineConditionLost]

@[simp] theorem execPathEmpty_keeps (s : State) : Keeps s (execPathEmpty s) := by
  simp [execPathEmpty]

@[simp] theorem execEngineLost_keeps (s : State) : Keeps s (execEngineLost s) := by
  simp [execEngineLost]

@[simp] theorem firstBands_steady (ids : List Nat) (s : State) : (firstBands ids s).steady = s.steady := by
  refine State.each_steady _ _ _ fun id t => ?_
  split
  · rfl
  · split <;> rfl

@[simp] theorem execPickLatch_keeps (s : State) : Keeps s (execPickLatch s) := by
  unfold execPickLatch
  split <;> simp

@[simp] theorem execHeartbeatTick_keeps (erdy : Bool) (s : State) : Keeps s (execHeartbeatTick erdy s) := by
  simp [execHeartbeatTick]

@[simp] theorem execSensorEdge_keeps (n : Fin 24) (high : Bool) (s : State) : Keeps s (execSensorEdge n high s) := by
  unfold execSensorEdge Keeps
  grind [State.steady_mk, onSheet_steady, State.put_steady, halt_steady]

@[simp] theorem execJam_keeps (s : State) : Keeps s (execJam s) := by
  simp [execJam]

@[simp] theorem execClutchActuation_keeps (s : State) : Keeps s (execClutchActuation s) := by
  simp [execClutchActuation]

@[simp] theorem execSpoil_keeps (s : State) : Keeps s (execSpoil s) := by
  simp [execSpoil]

@[simp] theorem execSheetExit_keeps (s : State) : Keeps s (execSheetExit s) := by
  unfold execSheetExit
  split <;> simp

@[simp] theorem execOtComparatorTrip_keeps (k : Fin 4) (s : State) : Keeps s (execOtComparatorTrip k s) := by
  simp [execOtComparatorTrip]

@[simp] theorem otTripClear_steady (w high : Nat) (s : State) : (otTripClear w high s).steady = s.steady := (rfl)

@[simp] theorem execOtTripClear_keeps (w high : BitVec 4) (s : State) : Keeps s (execOtTripClear w high s) := by
  simp [execOtTripClear]

@[simp] theorem repolarise_steady (old : Nat) (s : State) : (repolarise old s).steady = s.steady := by
  simp [repolarise]

@[simp] theorem prsConfigWrite_steady (o v : Nat) (s : State) : (prsConfigWrite o v s).steady = s.steady := by
  simp [prsConfigWrite]

@[simp] theorem execPrsConfigWrite_keeps (o : BitVec 12) (v : W64) (s : State) :
    Keeps s (execPrsConfigWrite o v s) := by
  simp [execPrsConfigWrite]

@[simp] theorem ilkFalls_steady (s : State) : (ilkFalls s).steady = s.steady := by
  simp [ilkFalls]

@[simp] theorem execPrsIlkInFall_keeps (s : State) : Keeps s (execPrsIlkInFall s) := by
  simp [execPrsIlkInFall]

@[simp] theorem execPrsIlkInRise_keeps (s : State) : Keeps s (execPrsIlkInRise s) := by
  simp [execPrsIlkInRise]

@[simp] theorem execVddIo33Loss_keeps (s : State) : Keeps s (execVddIo33Loss s) := by
  simp [execVddIo33Loss]

end Sys2Proof.Machine
end

section
/-! SUPPORT. The steady parts are kept. Drypoint: beam detect and lock, scans and their rows, pulses, imaging of a
page, laser power control, and its configuration. -/

namespace Sys2Proof.Machine

@[simp] theorem declareLock_steady (s : State) : (declareLock s).steady = s.steady := by
  simp [declareLock]

@[simp] theorem readRow_steady (p : Page) (r : Nat) (s : State) : (readRow p r s).2.steady = s.steady := by
  have hf := readFlags_steady (mapRd_steady p.map) p.surf s
  have hr := rowSeen_steady (mapRd_steady p.map) p.surf
  unfold readRow
  dsimp only
  split <;> split_ifs <;> simp [hf, hr]

@[simp] theorem readRows_steady (p : Page) (l : List Nat) (acc : Tab (List Byte)) (s : State) :
    (readRows p l acc s).2.steady = s.steady := by
  induction l generalizing acc s with
  | nil => rfl
  | cons r rs ih =>
    have h := readRow_steady p r s
    unfold readRows
    split <;> simp_all

@[simp] theorem lateLine_steady (s : State) : (lateLine s).steady = s.steady := by
  simp [lateLine]

@[simp] theorem takeRows_keeps (p : Page) (k : Int) (s : State) : KeepsOk s (takeRows p k s) := by
  unfold takeRows KeepsOk
  grind [State.steady_mk, readRows_steady]

@[simp] theorem drawScan_steady (s : State) : (drawScan s).steady = s.steady := by
  unfold drawScan
  split
  · rfl
  · rename_i id x p _
    dsimp only
    split
    · rfl
    · have h := readRows_steady p (s.scanRows p s.dry.scan) [] s
      split
      · simp_all
      · simp_all
      · rename_i rows t _
        have ht := takeRows_keeps p s.dry.scan t
        split
        · simp_all
        · simp_all
        · simp_all [KeepsOk]

@[simp] theorem hashMismatch_steady (p : Page) (s : State) : (hashMismatch p s).steady = s.steady := by
  simp [hashMismatch]

@[simp] theorem pageDrawn_steady (s : State) : (pageDrawn s).steady = s.steady := by
  unfold pageDrawn
  split <;> simp

@[simp] theorem endLine_steady (s : State) : (endLine s).steady = s.steady := by
  simp [endLine]

@[simp] theorem execBdEdge_keeps (k : Fin 2) (rising held : Bool) (cycles : Nat) (s : State) :
    Keeps s (execBdEdge k rising held cycles s) := by
  unfold execBdEdge Keeps
  grind [State.steady_mk, State.bump_steady, lockLost_steady, declareLock_steady, endLine_steady, spoilImaged_steady,
    drawScan_steady, linesOff_steady, State.put_steady, State.putB_steady]

@[simp] theorem execImagingStart_keeps (s : State) : Keeps s (execImagingStart s) := by
  unfold execImagingStart
  dsimp only
  split
  · simp
  · split
    · simp
    · split
      · simp
      · split
        · simp
        · split_ifs <;> simp [drawScan_steady]

@[simp] theorem execBdWindowOpen_keeps (s : State) : Keeps s (execBdWindowOpen s) := by
  simp [execBdWindowOpen]

@[simp] theorem execBdWindowClose_keeps (s : State) : Keeps s (execBdWindowClose s) := by
  simp [execBdWindowClose]

@[simp] theorem execEosEdge_keeps (cycles : Nat) (s : State) : Keeps s (execEosEdge cycles s) := by
  simp [execEosEdge]

@[simp] theorem execLateLineData_keeps (s : State) : Keeps s (execLateLineData s) := by
  simp [execLateLineData]

@[simp] theorem execPlateHashMismatch_keeps (s : State) : Keeps s (execPlateHashMismatch s) := by
  unfold execPlateHashMismatch
  split <;> simp

@[simp] theorem execApcCapture_keeps (b : Fin 8) (s : State) : Keeps s (execApcCapture b s) := by
  simp [execApcCapture]

@[simp] theorem execApcUpdate_keeps (b : Fin 8) (s : State) : Keeps s (execApcUpdate b s) := by
  unfold execApcUpdate Keeps
  grind [State.steady_mk, dryEvent_steady, declareLock_steady, unlock_steady, State.put_steady]

@[simp] theorem dryConfigWrite_steady (o v : Nat) (s : State) : (dryConfigWrite o v s).steady = s.steady := by
  simp [dryConfigWrite]

@[simp] theorem execDryConfigWrite_keeps (o : BitVec 12) (v : W64) (s : State) :
    Keeps s (execDryConfigWrite o v s) := by
  simp [execDryConfigWrite]

end Sys2Proof.Machine
end

section
/-! SUPPORT. The steady parts are kept. Links and their groups, the route of a packet, and the node as a requester. -/

namespace Sys2Proof.Machine

@[simp] theorem State.setLink_steady (s : State) (k : Nat) (x : Link) : (s.setLink k x).steady = s.steady := (rfl)

@[simp] theorem originate_steady (role : Role) (p : Packet) (s : State) : (originate role p s).steady = s.steady := by
  unfold originate
  grind [State.bump_steady, State.send_steady]

@[simp] theorem respond_steady (k : Nat) (role : Role) (p : Packet) (s : State) :
    (respond k role p s).steady = s.steady := by
  simp [respond]

@[simp] theorem startRequest_steady (owner : ReqOwner) (opc dst cid va : Nat) (data : List Byte)
    (retry budget : Nat) (s : State) : (startRequest owner opc dst cid va data retry budget s).steady = s.steady := by
  simp [startRequest]

@[simp] theorem startRead_steady (owner : ReqOwner) (dst cid va retry budget : Nat) (s : State) :
    (startRead owner dst cid va retry budget s).steady = s.steady := by
  simp [startRead]

@[simp] theorem startWrite_steady (owner : ReqOwner) (dst cid va : Nat) (d : List Byte) (retry budget : Nat)
    (s : State) : (startWrite owner dst cid va d retry budget s).steady = s.steady := by
  simp [startWrite]

@[simp] theorem dropReq_steady (tag : Nat) (s : State) : (dropReq tag s).steady = s.steady := (rfl)

end Sys2Proof.Machine
end

section
/-! SUPPORT. The steady parts are kept. COPY and FILL: the descriptor, the movement of the data, and the requests of a
remote side. -/

namespace Sys2Proof.Machine

@[simp] theorem dmaRead_steady (x : DmaTask) (early : State) (pos n : Nat) (s : State) :
    (dmaRead x early pos n s).2.steady = s.steady := by
  unfold dmaRead
  split_ifs
  · rfl
  · refine foldl_steady Prod.snd _ _ (fun a pc => ?_) _
    grind [ringRead_steady, State.draw_steady]

@[simp] theorem dmaFinish_steady (x : DmaTask) (status detail : Nat) (s : State) :
    (dmaFinish x status detail s).steady = s.steady := by
  simp [dmaFinish]

@[simp] theorem dmaPut_steady (x : DmaTask) (s : State) : (dmaPut x s).steady = s.steady := (rfl)

theorem dmaLocal_steady (x : DmaTask) {s0 s : State} (fuel pos : Nat) (h : s0.steady = s.steady) :
    (dmaLocal x s0 fuel pos s).steady = s.steady := by
  induction fuel generalizing pos s with
  | zero => simp [dmaLocal]
  | succ fuel ih =>
    unfold dmaLocal
    grind [dmaFinish_steady, dmaRead_steady, ringWrite_steady]

@[simp] theorem dmaAdvance_steady (x : DmaTask) (s : State) : (dmaAdvance x s).steady = s.steady := by
  unfold dmaAdvance
  grind [dmaRead_steady, dmaFinish_steady, startWrite_steady, dmaPut_steady, startRead_steady]

@[simp] theorem dmaResponse_keeps (x : DmaTask) (status : Nat) (data : List Byte) (s : State) :
    KeepsSome s (dmaResponse x status data s) := by
  unfold dmaResponse KeepsSome
  grind [State.draw_steady, dmaFinish_steady, dmaPut_steady, ringWrite_steady, dmaAdvance_steady]

@[simp] theorem dmaStart_steady (x : DmaTask) (s : State) : (dmaStart x s).steady = s.steady := by
  simp [dmaStart]

@[simp] theorem dmaIssue_steady (r t : Nat) (fill : Bool) (f : List W64) (p : Prog) (s : State) :
    (dmaIssue r t fill f p s).steady = s.steady := by
  simp [dmaIssue]

@[simp] theorem execCopy_keeps (r : Fin 132) (g : Guard) (da t : Fin 16) (s : State) :
    Keeps s (execCopy r g da t s) := by
  simp [execCopy]

@[simp] theorem execFill_keeps (r : Fin 132) (g : Guard) (da t : Fin 16) (s : State) :
    Keeps s (execFill r g da t s) := by
  simp [execFill]

@[simp] theorem execRequestRetryTimeout_keeps (tag : BitVec 12) (s : State) :
    Keeps s (execRequestRetryTimeout tag s) := by
  unfold execRequestRetryTimeout Keeps
  grind [State.steady_mk, dmaFinish_steady, dropReq_steady, originate_steady]

end Sys2Proof.Machine
end

section
/-! SUPPORT. The steady parts are kept. Logical and physical units: the maps, hosting, retirement and spares. -/

namespace Sys2Proof.Machine

@[simp] theorem setPhysEngine_steady (cl i p : Nat) (s : State) : (setPhysEngine cl i p s).steady = s.steady := (rfl)

@[simp] theorem setPhysCore_steady (cl i p : Nat) (s : State) : (setPhysCore cl i p s).steady = s.steady := by
  simp [setPhysCore]

@[simp] theorem setPhysUnit_steady (k : UnitKind) (cl i p : Nat) (s : State) :
    (setPhysUnit k cl i p s).steady = s.steady := by
  simp [setPhysUnit]

@[simp] theorem syncUnits_steady (cl : Nat) (s : State) : (syncUnits cl s).steady = s.steady := (rfl)

@[simp] theorem syncAllUnits_steady (s : State) :
    (syncAllUnits s).steady = s.steady := State.each_steady _ _ _ syncUnits_steady

@[simp] theorem unitEntry_steady (k : UnitKind) (cl p : Nat) (s : State) :
    (unitEntry k cl p s).steady = s.steady := by
  simp [unitEntry]

@[simp] theorem unitEvent_steady (src : Nat) (k : UnitKind) (cl p l ring : Nat) (s : State) :
    (unitEvent src k cl p l ring s).steady = s.steady := by
  simp [unitEvent]

@[simp] theorem seekSpare_steady (k : UnitKind) (cl l : Nat) (s : State) :
    (seekSpare k cl l s).steady = s.steady := by
  unfold seekSpare
  split <;> simp

@[simp] theorem markRetired_steady (k : UnitKind) (cl p : Nat) (s : State) :
    (markRetired k cl p s).steady = s.steady := by
  simp [markRetired]

@[simp] theorem retireUnit_steady (k : UnitKind) (cl p ring : Nat) (s : State) :
    (retireUnit k cl p ring s).steady = s.steady := by
  unfold retireUnit
  grind [setPhysUnit_steady, unitEntry_steady, seekSpare_steady, unitEvent_steady, syncUnits_steady,
    markRetired_steady]

@[simp] theorem spareTested_steady (x : SpareTest) (pass : Bool) (s : State) :
    (spareTested x pass s).steady = s.steady := by
  simp [spareTested]

end Sys2Proof.Machine
end

section
/-! SUPPORT. The steady parts are kept. HGEMM, HSMAX and HELT: descriptors, tile tasks, what each task computes and
how it is checked. -/

namespace Sys2Proof.Machine

@[simp] theorem putJob_steady (j : Job) (s : State) : (putJob j s).steady = s.steady := (rfl)

@[simp] theorem loadRun_steady (r ctx opnd base va n : Nat) (s : State) :
    (loadRun r ctx opnd base va n s).2.steady = s.steady := by
  refine foldl_snd_steady _ _ (fun a pc => ?_) _
  grind [ringRead_steady]

@[simp] theorem loadRuns_steady (r ctx opnd base n : Nat) (vas : List Nat) (s : State) :
    (loadRuns r ctx opnd base n vas s).2.steady = s.steady := by
  refine foldl_snd_steady _ _ (fun a pc => ?_) _
  grind [loadRun_steady]

@[simp] theorem storeRows_steady (r ctx : Nat) (rows : List (Nat × List Byte)) (s : State) :
    (storeRows r ctx rows s).2.steady = s.steady := by
  refine foldl_snd_steady _ _ (fun a x => ?_) _
  grind [ringWrite_steady]

@[simp] theorem gemmLoad_steady (r : Nat) (f : List W64) (tile step : Nat) (s : State) :
    (gemmLoad r f tile step s).2.steady = s.steady := by
  have hr := loadRuns_steady
  unfold gemmLoad
  dsimp only
  split
  · grind
  · split
    · grind
    · split
      · grind
      · split <;> grind

@[simp] theorem hsmaxLoad_steady (r : Nat) (f : List W64) (row : Nat) (s : State) :
    (hsmaxLoad r f row s).2.steady = s.steady := by
  unfold hsmaxLoad
  grind [loadRun_steady]

@[simp] theorem heltLoad_steady (r : Nat) (f : List W64) (tile : Nat) (s : State) :
    (heltLoad r f tile s).2.steady = s.steady := by
  unfold heltLoad
  grind [loadRun_steady]

@[simp] theorem addJob_steady (j : Job) (s : State) : (addJob j s).steady = s.steady := (rfl)

@[simp] theorem hatchIssue_steady (r t : Nat) (kind : JobKind) (f : List W64) (badDesc : Bool) (tiles : Nat)
    (p : Prog) (s : State) : (hatchIssue r t kind f badDesc tiles p s).steady = s.steady := by
  simp [hatchIssue]

@[simp] theorem execHgemm_keeps (r : Fin 132) (g : Guard) (da t : Fin 16) (s : State) :
    Keeps s (execHgemm r g da t s) := by
  simp [execHgemm]

@[simp] theorem execHsmax_keeps (r : Fin 132) (g : Guard) (da t : Fin 16) (s : State) :
    Keeps s (execHsmax r g da t s) := by
  simp [execHsmax]

@[simp] theorem execHelt_keeps (r : Fin 132) (g : Guard) (da t : Fin 16) (s : State) :
    Keeps s (execHelt r g da t s) := by
  simp [execHelt]

end Sys2Proof.Machine
end

section
/-! SUPPORT. The steady parts are kept. Decode attention over KV pages: descriptors, the walk, chunk tasks, merges,
partial records, and AMERGE. -/

namespace Sys2Proof.Machine

@[simp] theorem walkRead_steady (r ctx va n : Nat) (s : State) : (walkRead r ctx va n s).2.steady = s.steady := by
  unfold walkRead
  grind [ringRead_steady]

@[simp] theorem readEntries_steady (r ctx va n : Nat) (s : State) :
    (readEntries r ctx va n s).2.2.steady = s.steady := by
  refine foldl_steady (fun a : List Nat × ListEnd × State => a.2.2) _ _ (fun a pc => ?_) _
  grind [walkRead_steady]

@[simp] theorem walkList_steady (r ctx fuel va need : Nat) (acc : List Nat) (s : State) :
    (walkList r ctx fuel va need acc s).2.2.steady = s.steady := by
  induction fuel generalizing va acc s with
  | zero => rfl
  | succ fuel ih =>
    unfold walkList
    grind [walkRead_steady, readEntries_steady]

@[simp] theorem probeRun_steady (r ctx va n : Nat) (s : State) : (probeRun r ctx va n s).2.steady = s.steady := by
  refine foldl_snd_steady _ _ (fun a pc => ?_) _
  split <;> simp

@[simp] theorem planSeq_steady (r : Nat) (a : AttnDesc) (i : Nat) (s : State) :
    (planSeq r a i s).2.steady = s.steady := by
  unfold planSeq
  grind [walkRead_steady, probeRun_steady, walkList_steady]

@[simp] theorem chunkLoad_steady (j : Job) (sq h c : Nat) (s : State) :
    (chunkLoad j sq h c s).2.steady = s.steady := by
  have hw := walkRead_steady
  unfold chunkLoad
  dsimp only
  split
  case h_4 =>
    refine (foldl_snd_steady _ _ (fun a pg => ?_) _).trans (by grind)
    grind
  all_goals grind

@[simp] theorem attnStart_keeps (r t cl : Nat) (f d : List W64) (s : State) :
    KeepsSome s (attnStart r t cl f d s) := by
  unfold attnStart
  dsimp only
  split
  · simp
  · rename_i j u hPlanned
    rw [keepsSome_some, addJob_steady, State.steady_mk]
    refine List.foldlRecOn (motive := fun acc : Option (Job × State) => ∀ x, acc = some x → x.2.steady = s.steady) _ _
      (by grind) (fun acc ih i _ => ?_) _ hPlanned
    cases acc <;> grind [planSeq_steady]

@[simp] theorem attnIssue_steady (r t : Nat) (f d : List W64) (p : Prog) (s : State) :
    (attnIssue r t f d p s).steady = s.steady := by
  refine steady_of_ite (by simp) (steady_of_ite (by simp) ?_)
  split
  · rename_i u h
    simp [attnStart_keeps _ _ _ _ _ _ u h]
  · rfl

@[simp] theorem execAttn_keeps (r : Fin 132) (g : Guard) (da db t : Fin 16) (s : State) :
    Keeps s (execAttn r g da db t s) := by
  simp [execAttn]

@[simp] theorem mergeLoad_steady (j : Job) (row : Nat) (s : State) : (mergeLoad j row s).2.steady = s.steady := by
  refine foldl_snd_steady _ _ (fun a k => ?_) _
  grind [walkRead_steady]

@[simp] theorem amergeIssue_steady (r t : Nat) (f : List W64) (p : Prog) (s : State) :
    (amergeIssue r t f p s).steady = s.steady := by
  simp [amergeIssue]

@[simp] theorem execAmerge_keeps (r : Fin 132) (g : Guard) (da t : Fin 16) (s : State) :
    Keeps s (execAmerge r g da t s) := by
  simp [execAmerge]

@[simp] theorem plAccess_steady {r : Nat} {p : Prog} {s s0 : State} {x : WalkRes × State}
    {k : List Byte → State → State} (h0 : s0.steady = s.steady) (hx : x.2.steady = s.steady)
    (h : ∀ d t, t.steady = s.steady → (k d t).steady = s.steady) : (plAccess r p s0 x k).steady = s.steady := by
  unfold plAccess
  split
  · exact h0
  · simpa using hx
  · simpa using hx
  · exact h _ _ hx

@[simp] theorem execPlopen_keeps (r : Fin 132) (g : Guard) (da : Fin 16) (a : Fin 32) (s : State) :
    Keeps s (execPlopen r g da a s) := by
  unfold execPlopen
  grind [walkRead_steady, kcs_keeps, plAccess_steady, State.setProg_steady, endAt_steady]

@[simp] theorem cursorLoad_steady (r : Nat) (c : List W64) (s : State) : (cursorLoad r c s).2.steady = s.steady := by
  unfold cursorLoad
  grind [walkRead_steady]

@[simp] theorem cursorStep_steady (r : Nat) (c : List W64) (k : Nat) (s : State) :
    (cursorStep r c k s).2.steady = s.steady := by
  unfold cursorStep
  grind [cursorLoad_steady]

@[simp] theorem execPlread_keeps (r : Fin 132) (g : Guard) (da : Fin 16) (a : Fin 32) (f : Fin 8) (s : State) :
    Keeps s (execPlread r g da a f s) := by
  unfold execPlread
  grind [cursorStep_steady, walkRead_steady, kcs_keeps, plAccess_steady, cursorLoad_steady, State.setProg_steady,
    endAt_steady]

@[simp] theorem cursorSkip_steady (r fuel : Nat) (c : List W64) (k : Nat) (s : State) :
    (cursorSkip r fuel c k s).2.steady = s.steady := by
  induction fuel generalizing c k s with
  | zero => rfl
  | succ fuel ih =>
    unfold cursorSkip
    grind [cursorLoad_steady, cursorStep_steady]

@[simp] theorem execPlskip_keeps (r : Fin 132) (g : Guard) (da : Fin 16) (a : Fin 32) (s : State) :
    Keeps s (execPlskip r g da a s) := by
  unfold execPlskip
  grind [cursorSkip_steady, kcs_keeps, plAccess_steady, State.setProg_steady, endAt_steady]

@[simp] theorem execPlemit_keeps (r : Fin 132) (g : Guard) (t : Fin 16) (a b c : Fin 32) (s : State) :
    Keeps s (execPlemit r g t a b c s) := by
  unfold execPlemit
  grind [kcs_keeps, putJob_steady, State.setProg_steady, endAt_steady]

@[simp] theorem closeEmit_steady (j : Job) (s : State) : (closeEmit j s).steady = s.steady := (rfl)

@[simp] theorem execPlend_keeps (r : Fin 132) (g : Guard) (t : Fin 16) (s : State) : Keeps s (execPlend r g t s) := by
  unfold execPlend
  grind [kcs_keeps, closeEmit_steady, State.setProg_steady, endAt_steady]

end Sys2Proof.Machine
end

section
/-! SUPPORT. The steady parts are kept. The dispatchers: placing tasks on engines, the end of a task with its check,
re-runs, and the end of a job. -/

namespace Sys2Proof.Machine

@[simp] theorem loadTask_steady (j : Job) (t : Task) (s : State) : (loadTask j t s).2.steady = s.steady := by
  unfold loadTask
  split <;> simp

@[simp] theorem placeTask_steady (j : Job) (t : Task) (fresh : Bool) (e : Nat) (s : State) :
    (placeTask j t fresh e s).steady = s.steady := by
  unfold placeTask
  grind [State.steady_mk, loadTask_steady, putJob_steady]

@[simp] theorem execTaskDispatch_keeps (cl : Fin 4) (eng : Fin 13) (s : State) :
    Keeps s (execTaskDispatch cl eng s) := by
  unfold execTaskDispatch
  split <;> simp

@[simp] theorem countFail_steady (e ring : Nat) (s : State) : (countFail e ring s).steady = s.steady := by
  simp [countFail]

@[simp] theorem countRerun_steady (j : Job) (cl : Nat) (s : State) : (countRerun j cl s).2.steady = s.steady := (rfl)

@[simp] theorem failTask_steady (j : Job) (t : Task) (e : Nat) (s : State) :
    (failTask j t e s).steady = s.steady := by
  simp [failTask]

theorem writeRows_steady {j : Job} {ctx : Nat} {rows : List (Nat × List Byte)} {s : State} {x : Job × State}
    (h : writeRows j ctx rows s = some x) : x.2.steady = s.steady := by
  unfold writeRows at h
  grind [storeRows_steady]

@[simp] theorem countTask_steady (cl : Nat) (s : State) : (countTask cl s).steady = s.steady := (rfl)

theorem writeRows_put {j : Job} {ctx : Nat} {rows : List (Nat × List Byte)} {s t : State} (h : t.steady = s.steady) :
    KeepsSome s ((writeRows j ctx rows t).map fun x => putJob x.1 x.2) := by
  intro u hu
  obtain ⟨x, hx, rfl⟩ := Option.map_eq_some_iff.mp hu
  rw [putJob_steady, writeRows_steady hx, h]

@[simp] theorem commitGemm_keeps (j : Job) (t : Task) (res : List Nat) (s : State) :
    KeepsSome s (commitGemm j t res s) := by
  unfold commitGemm
  dsimp only
  split
  · simp
  · exact writeRows_put (by simp)

@[simp] theorem gemmDone_keeps (j : Job) (t : Task) (e : Nat) (wrong : Option (List Nat)) (differ : Bool)
    (s : State) : KeepsSome s (gemmDone j t e wrong differ s) := by
  have hc := commitGemm_keeps
  unfold gemmDone
  dsimp only
  split_ifs
  · apply hc
  · simp
  · simp
  · simp
  · apply hc
  · simp
  · split
    · split
      · simp
      · rename_i u hu
        have h := hc _ _ _ _ u hu
        split <;> simp [h]
    · simp

@[simp] theorem rowsDone_keeps (j : Job) (t : Task) (s : State) : KeepsSome s (rowsDone j t s) :=
  writeRows_put (by simp)

@[simp] theorem chunkDone_keeps (j : Job) (t : Task) (e : Nat) (differ : Bool) (s : State) :
    KeepsSome s (chunkDone j t e differ s) := by
  have h := chunkLoad_steady j (t.tile / 64) (t.tile % 64) t.step s
  unfold chunkDone
  dsimp only
  split
  · simp
  · cases t.loaded with
    | some l =>
      dsimp only
      split
      · simp
      · split
        · exact writeRows_put (by simp)
        · simp
    | none =>
      dsimp only
      split
      · simp
      · simp [h]
      · simp [h]
      · split
        · simp [h]
        · split
          · exact writeRows_put (by simp [h])
          · simp [h]

@[simp] theorem mergeDone_keeps (j : Job) (t : Task) (e : Nat) (differ : Bool) (s : State) :
    KeepsSome s (mergeDone j t e differ s) := by
  unfold mergeDone
  split
  · simp
  · exact writeRows_put (by simp)

@[simp] theorem amergeDone_keeps (j : Job) (t : Task) (e : Nat) (differ : Bool) (s : State) :
    KeepsSome s (amergeDone j t e differ s) := by
  have h := mergeLoad_steady j t.tile s
  unfold amergeDone
  dsimp only
  split
  · simp
  · simp_all
  · split
    · simp_all
    · split
      · simp_all
      · exact writeRows_put (by simp_all)

@[simp] theorem execTileTaskDone_keeps (cl : Fin 4) (eng : Fin 13) (wrong : Option (List Nat)) (differ : Bool)
    (s : State) : Keeps s (execTileTaskDone cl eng wrong differ s) := by
  unfold execTileTaskDone
  dsimp only
  split
  · simp
  · split
    · simp
    · refine keeps_next.mpr (keepsSome_getD ?_)
      split
      · apply gemmDone_keeps
      · apply amergeDone_keeps
      · split
        · apply mergeDone_keeps
        · apply chunkDone_keeps
      · split
        · simp
        · apply rowsDone_keeps

@[simp] theorem dropJob_steady (id : Nat) (s : State) : (dropJob id s).steady = s.steady := (rfl)

@[simp] theorem finishJob_keeps (j : Job) (s : State) : KeepsSome s (finishJob j s) := by
  have hw (c : Prop) [Decidable c] (k : Job) (ctx : Nat) (rows : List (Nat × List Byte)) (x : Job × State)
      (h : (if c then writeRows k ctx rows s else some (k, s)) = some x) : x.2.steady = s.steady := by
    split at h
    · exact writeRows_steady h
    · cases h; rfl
  unfold finishJob
  dsimp only
  split
  · simp
  · split
    · simp
    · rename_i h
      simp [hw _ _ _ _ _ h]

@[simp] theorem cancelHatch_steady (f : Nat → Bool) (s : State) : (cancelHatch f s).steady = s.steady := (rfl)

@[simp] theorem redoOn_steady (e : Nat) (s : State) : (redoOn e s).steady = s.steady := by
  refine State.each_steady _ _ _ fun j t => ?_
  split
  · rfl
  · simp

end Sys2Proof.Machine
end

section
/-! SUPPORT. The steady parts are kept. Ring configuration, doorbells, entries, completions, pauses, and the programs
that start and end on a ring. -/

namespace Sys2Proof.Machine

@[simp] theorem syncCqFull_steady (r : Nat) (s : State) : (syncCqFull r s).steady = s.steady := (rfl)

@[simp] theorem zeroIndices_steady (r : Nat) (s : State) : (zeroIndices r s).steady = s.steady := (rfl)

@[simp] theorem cfgErr_steady (r : Nat) (s : State) : (cfgErr r s).steady = s.steady := (rfl)

@[simp] theorem settleRing_steady (r : Nat) (s : State) : (settleRing r s).steady = s.steady := by
  simp [settleRing]

@[simp] theorem enableRing_steady (r : Nat) (s : State) : (enableRing r s).steady = s.steady := by
  simp [enableRing]

@[simp] theorem disableRing_steady (r : Nat) (s : State) : (disableRing r s).steady = s.steady := by
  simp [disableRing]

@[simp] theorem ringBaseWrite_steady (r : Nat) (cq : Bool) (v : Nat) (s : State) :
    (ringBaseWrite r cq v s).steady = s.steady := by
  simp [ringBaseWrite]

@[simp] theorem applyDoorbell_steady (r t : Nat) (s : State) : (applyDoorbell r t s).steady = s.steady := by
  simp [applyDoorbell]

@[simp] theorem notifyRing_steady (r : Nat) (s : State) : (notifyRing r s).steady = s.steady := by
  simp [notifyRing]

@[simp] theorem completionWritten_steady (r : Nat) (c : Completion) (s : State) :
    (completionWritten r c s).steady = s.steady := by
  simp [completionWritten]

@[simp] theorem postCompletion_steady (r : Nat) (c : Completion) (dmaFail : Bool) (s : State) :
    (postCompletion r c dmaFail s).steady = s.steady := by
  simp [postCompletion]

@[simp] theorem completeUnstarted_steady (r : Nat) (e : EntryCopy) (status detail pc : Nat) (s : State) :
    (completeUnstarted r e status detail pc s).steady = s.steady := by
  simp [completeUnstarted]

@[simp] theorem addEntry_steady (r : Nat) (e : EntryCopy) (s : State) : (addEntry r e s).steady = s.steady := (rfl)

@[simp] theorem fetchEntry_steady (r : Nat) (host : List Byte) (s : State) :
    (fetchEntry r host s).steady = s.steady := by
  simp [fetchEntry]

@[simp] theorem copyProgram_steady (r : Nat) (e : EntryCopy) (s : State) :
    (copyProgram r e s).2.steady = s.steady := by
  unfold copyProgram
  grind [ringRead_steady]

@[simp] theorem takeCore_steady (c r : Nat) (s : State) : (takeCore c r s).steady = s.steady := by
  simp [takeCore]

@[simp] theorem startEntry_steady (r : Nat) (e : EntryCopy) (s : State) : (startEntry r e s).steady = s.steady := by
  unfold startEntry
  grind [completeUnstarted_steady, takeCore_steady, State.setRing_steady, copyProgram_steady]

@[simp] theorem startSm_steady (r : Nat) (ws : List W64) (s : State) : (startSm r ws s).steady = s.steady := by
  simp [startSm]

@[simp] theorem closeJobs_steady (r : Nat) (s : State) : (closeJobs r s).steady = s.steady := by
  simp [closeJobs]

@[simp] theorem endProgram_steady (r : Nat) (p : Prog) (dmaFail : Bool) (s : State) :
    (endProgram r p dmaFail s).steady = s.steady := by
  simp [endProgram]

@[simp] theorem retryHeld_steady (r : Nat) (dmaFail : Bool) (s : State) :
    (retryHeld r dmaFail s).steady = s.steady := by
  unfold retryHeld
  split <;> simp

@[simp] theorem ringCfgWrite_steady (r : Nat) (en : Bool) (ctx size : Nat) (s : State) :
    (ringCfgWrite r en ctx size s).steady = s.steady := by
  simp [ringCfgWrite]

@[simp] theorem drainFlushed_steady (r fuel : Nat) (s : State) : (drainFlushed r fuel s).steady = s.steady := by
  induction fuel generalizing s with
  | zero => rfl
  | succ fuel ih =>
    unfold drainFlushed
    dsimp only
    split
    · split_ifs <;> simp [ih]
    · rfl

end Sys2Proof.Machine
end

section
/-! SUPPORT. The steady parts are kept. Links: going down and resetting, training, credit, windows, sequencing and
replay, encryption. -/

namespace Sys2Proof.Machine

@[simp] theorem linkEvent_steady (src k : Nat) (s : State) : (linkEvent src k s).steady = s.steady := by
  simp [linkEvent]

@[simp] theorem setLinkState_steady (k st : Nat) (s : State) : (setLinkState k st s).steady = s.steady := by
  simp [setLinkState]

@[simp] theorem setSecure_steady (k : Nat) (v : Bool) (s : State) : (setSecure k v s).steady = s.steady := by
  simp [setSecure]

@[simp] theorem reroute_steady (k : Nat) (ps : List Packet) (s : State) : (reroute k ps s).steady = s.steady := by
  simp [reroute]

@[simp] theorem campionIdle_steady (s : State) : (campionIdle s).steady = s.steady := by
  unfold campionIdle
  grind [State.steady_mk, State.put_steady]

@[simp] theorem endSessions_steady (f : Session → Bool) (s : State) : (endSessions f s).steady = s.steady := (rfl)

@[simp] theorem endLinkSessions_steady (k : Nat) (s : State) : (endLinkSessions k s).steady = s.steady := (rfl)

@[simp] theorem linkDown_steady (k : Nat) (causes : List Cause) (s : State) :
    (linkDown k causes s).steady = s.steady := by
  simp [linkDown]

@[simp] theorem fullReset_steady (k : Nat) (s : State) : (fullReset k s).steady = s.steady := by
  simp [fullReset]

@[simp] theorem resetLink_steady (k : Nat) (c : Cause) (s : State) : (resetLink k c s).steady = s.steady := by
  simp [resetLink]

@[simp] theorem endLinkSession_steady (k : Nat) (s : State) : (endLinkSession k s).steady = s.steady := by
  simp [endLinkSession]

@[simp] theorem givePools_steady (k : Nat) (vs : List Nat) (s : State) : (givePools k vs s).steady = s.steady := (rfl)

@[simp] theorem takeCredit_steady (k : Nat) (p : Packet) (s : State) : (takeCredit k p s).steady = s.steady := (rfl)

@[simp] theorem giveCredit_steady (k : Nat) (p : Packet) (s : State) : (giveCredit k p s).steady = s.steady := (rfl)

@[simp] theorem useGroup_steady (e : Nat × List Nat) (s : State) : (useGroup e s).steady = s.steady := (rfl)

@[simp] theorem linkActive_steady (k : Nat) (m : TrainMsg) (use : List (Nat × List Nat)) (s : State) :
    (linkActive k m use s).steady = s.steady := by
  simp [linkActive]

@[simp] theorem startRetrain_steady (k : Nat) (s : State) : (startRetrain k s).steady = s.steady := by
  simp [startRetrain]

@[simp] theorem replayLimit_steady (k : Nat) (s : State) : (replayLimit k s).steady = s.steady := by
  unfold replayLimit
  split <;> simp

@[simp] theorem nakReceived_steady (k : Nat) (ack : Option Nat) (s : State) :
    (nakReceived k ack s).steady = s.steady := by
  simp [nakReceived]

@[simp] theorem takeLcf_steady (k : Nat) (slots : List Byte) (s : State) :
    (takeLcf k slots s).steady = s.steady := (rfl)

@[simp] theorem secureNow_steady (k : Nat) (s : State) : (secureNow k s).steady = s.steady := by
  simp [secureNow]

@[simp] theorem closeWindow_steady (k : Nat) (s : State) : (closeWindow k s).2.steady = s.steady := by
  unfold closeWindow
  dsimp only
  split <;> simp

@[simp] theorem receiveFlit_steady (k : Nat) (b : List Byte) (fecOk : Bool) (s : State) :
    (receiveFlit k b fecOk s).2.steady = s.steady := by
  unfold receiveFlit
  grind [State.bump_steady, linkDown_steady, startRetrain_steady, State.setLink_steady, nakReceived_steady,
    closeWindow_steady]

@[simp] theorem sendWindow_steady (k : Nat) (s : State) : (sendWindow k s).steady = s.steady := by
  simp [sendWindow]

end Sys2Proof.Machine
end

section
/-! SUPPORT. The steady parts are kept. Campion: messages, the claim tree, reports, the walk and assignment; and
Sorrel: the counter, exchanges and the servo. -/

namespace Sys2Proof.Machine

@[simp] theorem State.setNbr_steady (s : State) (k : Nat) (x : Nbr) : (s.setNbr k x).steady = s.steady := (rfl)

@[simp] theorem onCampion_steady (f : Campion → Campion) (s : State) : (onCampion f s).steady = s.steady := (rfl)

@[simp] theorem campEvent_steady (src link uid : Nat) (s : State) : (campEvent src link uid s).steady = s.steady := by
  simp [campEvent]

@[simp] theorem sendMgmt_steady (k subtype : Nat) (data : List Byte) (s : State) :
    (sendMgmt k subtype data s).steady = s.steady := (rfl)

@[simp] theorem sendHello_steady (k : Nat) (s : State) : (sendHello k s).steady = s.steady := (rfl)

@[simp] theorem sendClaim_steady (k : Nat) (s : State) : (sendClaim k s).steady = s.steady := by
  unfold sendClaim
  split <;> simp

@[simp] theorem floodClaim_steady (s : State) : (floodClaim s).steady = s.steady := by
  simp [floodClaim]

@[simp] theorem syncTree_steady (s : State) : (syncTree s).steady = s.steady := by
  unfold syncTree
  split <;> simp

@[simp] theorem srlEvent_steady (src : Nat) (s : State) : (srlEvent src s).steady = s.steady := by
  simp [srlEvent]

@[simp] theorem onSorrel_steady (f : Sorrel → Sorrel) (s : State) : (onSorrel f s).steady = s.steady := (rfl)

@[simp] theorem sorrelHoldover_steady (s : State) : (sorrelHoldover s).steady = s.steady := by
  simp [sorrelHoldover]

@[simp] theorem sorrelUnassigned_steady (s : State) : (sorrelUnassigned s).steady = s.steady := by
  simp [sorrelUnassigned]

@[simp] theorem sorrelAssigned_steady (old master : Nat) (s : State) :
    (sorrelAssigned old master s).steady = s.steady := by
  simp [sorrelAssigned]

@[simp] theorem enterElecting_steady (s : State) : (enterElecting s).steady = s.steady := by
  simp [enterElecting]

@[simp] theorem bestChanged_steady (s : State) : (bestChanged s).steady = s.steady := by
  simp [bestChanged]

@[simp] theorem campLinkUp_steady (k : Nat) (s : State) : (campLinkUp k s).steady = s.steady := by
  simp [campLinkUp]

@[simp] theorem campActive_steady (k : Nat) (s : State) : (campActive k s).steady = s.steady := by
  simp [campActive]

@[simp] theorem campSecure_steady (k : Nat) (s : State) : (campSecure k s).steady = s.steady := by
  simp [campSecure]

@[simp] theorem setExcluded_steady (k : Nat) (s : State) : (setExcluded k s).steady = s.steady := by
  simp [setExcluded]

@[simp] theorem noteGen_steady (g : Nat) (s : State) : (noteGen g s).steady = s.steady := (rfl)

@[simp] theorem sendDup_steady (u : Nat) (s : State) : (sendDup u s).steady = s.steady := by
  simp [sendDup]

@[simp] theorem takeClaim_steady (k : Nat) (c : Claim) (s : State) : (takeClaim k c s).steady = s.steady := by
  simp [takeClaim]

@[simp] theorem fallBack_steady (s : State) : (fallBack s).steady = s.steady := by
  simp [fallBack]

@[simp] theorem takeDup_steady (u : Nat) (s : State) : (takeDup u s).steady = s.steady := by
  simp [takeDup]

@[simp] theorem applyAssign_steady (d : List Byte) (s : State) : (applyAssign d s).steady = s.steady := by
  simp [applyAssign]

@[simp] theorem giveAssign_steady (uid : Nat) (d : List Byte) (s : State) :
    (giveAssign uid d s).steady = s.steady := by
  unfold giveAssign
  grind [applyAssign_steady, sendMgmt_steady]

@[simp] theorem coordinate_steady (s : State) : (coordinate s).steady = s.steady := by
  simp [coordinate]

@[simp] theorem toParent_steady (d : List Byte) (s : State) : (toParent d s).steady = s.steady := by
  unfold toParent
  split <;> simp

@[simp] theorem tryReport_steady (s : State) : (tryReport s).steady = s.steady := by
  simp [tryReport]

@[simp] theorem joinReports_steady (s : State) : (joinReports s).steady = s.steady := by
  simp [joinReports]

@[simp] theorem quietExpires_steady (s : State) : (quietExpires s).steady = s.steady := by
  simp [quietExpires]

@[simp] theorem stray_steady (s : State) : (stray s).steady = s.steady := (rfl)

@[simp] theorem takeReport_steady (k : Nat) (d : List Byte) (s : State) : (takeReport k d s).steady = s.steady := by
  simp [takeReport]

@[simp] theorem takeReportDone_steady (k count : Nat) (d : List Byte) (s : State) :
    (takeReportDone k count d s).steady = s.steady := by
  simp [takeReportDone]

@[simp] theorem takeAssign_steady (k : Nat) (d : List Byte) (s : State) : (takeAssign k d s).steady = s.steady := by
  simp [takeAssign]

@[simp] theorem takeBeacon_steady (d : List Byte) (s : State) : (takeBeacon d s).steady = s.steady := by
  simp [takeBeacon]

@[simp] theorem beaconTick_steady (s : State) : (beaconTick s).steady = s.steady := by
  simp [beaconTick]

@[simp] theorem beaconLost_steady (s : State) : (beaconLost s).steady = s.steady := by
  unfold beaconLost
  grind [fallBack_steady, onCampion_steady]

@[simp] theorem reparent_steady (s : State) : (reparent s).steady = s.steady := by
  unfold reparent
  grind [onCampion_steady, sorrelHoldover_steady, bestChanged_steady, floodClaim_steady, syncTree_steady]

@[simp] theorem priorityWrite_steady (v : Nat) (s : State) : (priorityWrite v s).steady = s.steady := by
  simp [priorityWrite]

@[simp] theorem setSorrelTime_steady (t : Nat) (s : State) : (setSorrelTime t s).steady = s.steady := (rfl)

@[simp] theorem sorrelTick_steady (s : State) : (sorrelTick s).steady = s.steady := (rfl)

@[simp] theorem sorrelStep_steady (d : Int) (s : State) : (sorrelStep d s).steady = s.steady := by
  simp only [sorrelStep, raiseNode_steady, stepSlots_steady, State.steady_mk, State.bump_steady, setSorrelTime_steady]

@[simp] theorem syncTick_steady (d : Nat) (s : State) : (syncTick d s).steady = s.steady := by
  simp [syncTick]

@[simp] theorem takeSyncReq_steady (k : Nat) (b : List Byte) (d2 turn : Nat) (s : State) :
    (takeSyncReq k b d2 turn s).steady = s.steady := (rfl)

@[simp] theorem servo_steady (theta : Int) (s : State) : (servo theta s).steady = s.steady := by
  simp [servo]

@[simp] theorem takeSyncRsp_steady (k : Nat) (b : List Byte) (d4 : Nat) (s : State) :
    (takeSyncRsp k b d4 s).steady = s.steady := by
  simp [takeSyncRsp]

@[simp] theorem sorrelSet_steady (v : Nat) (s : State) : (sorrelSet v s).steady = s.steady := by
  simp [sorrelSet]

end Sys2Proof.Machine
end

section
/-! SUPPORT. The steady parts are kept. Commands on rings: configuration, doorbells, entries, programs, completions,
pauses, tallies and the attention invokes a ring runs. -/

namespace Sys2Proof.Machine

@[simp] theorem inWindow_keeps {r : Nat} {f : State → State} {s : State} (h : (f s).steady = s.steady) :
    Keeps s (inWindow r f s) := by
  simp [inWindow, h]

@[simp] theorem execRingEnable_keeps (r : Fin 128) (ctx : BitVec 12) (size : BitVec 5) (s : State) :
    Keeps s (execRingEnable r ctx size s) := by
  simp [execRingEnable]

@[simp] theorem execRingDisable_keeps (r : Fin 128) (s : State) : Keeps s (execRingDisable r s) := by
  simp [execRingDisable]

@[simp] theorem execRingConfigWrite_keeps (r : Fin 128) (reg : Fin 3) (v : W64) (s : State) :
    Keeps s (execRingConfigWrite r reg v s) := by
  simp [execRingConfigWrite]

@[simp] theorem bindRing_steady (n v : Nat) (s : State) : (bindRing n v s).steady = s.steady := by
  simp [bindRing]

@[simp] theorem execRingBindWrite_keeps (n : Fin 128) (v : W32) (s : State) : Keeps s (execRingBindWrite n v s) := by
  simp [execRingBindWrite]

@[simp] theorem execDoorbell_keeps (r : Fin 128) (t : W32) (s : State) : Keeps s (execDoorbell r t s) := by
  simp [execDoorbell]

@[simp] theorem execEntryFetch_keeps (r : Fin 128) (host : List Byte) (s : State) :
    Keeps s (execEntryFetch r host s) := by
  simp [execEntryFetch]

@[simp] theorem execProgramStart_keeps (r : Fin 132) (sm : List W64) (s : State) :
    Keeps s (execProgramStart r sm s) := by
  unfold execProgramStart Keeps
  grind [startEntry_steady, startSm_steady]

@[simp] theorem execProgramEnd_keeps (r : Fin 132) (dmaFail : Bool) (s : State) :
    Keeps s (execProgramEnd r dmaFail s) := by
  unfold execProgramEnd
  split <;> simp

@[simp] theorem execCompletionInterrupt_keeps (r : Fin 128) (s : State) : Keeps s (execCompletionInterrupt r s) := by
  simp [execCompletionInterrupt]

@[simp] theorem cqHeadWrite_steady (r v : Nat) (s : State) : (cqHeadWrite r v s).steady = s.steady := by
  simp [cqHeadWrite]

@[simp] theorem execCqHeadWrite_keeps (r : Fin 128) (v : W32) (s : State) : Keeps s (execCqHeadWrite r v s) := by
  simp [execCqHeadWrite]

@[simp] theorem resumeRing_steady (r : Nat) (s : State) : (resumeRing r s).steady = s.steady := by
  simp [resumeRing]

@[simp] theorem execRingResume_keeps (r : Fin 128) (s : State) : Keeps s (execRingResume r s) := by
  simp [execRingResume]

@[simp] theorem fetchAll_keeps (r n : Nat) (host : List (List Byte)) (s : State) :
    KeepsSome s (fetchAll r n host s) := by
  induction n generalizing host s with
  | zero => simp [fetchAll]
  | succ n ih =>
    have h := ih (host.drop 1) (fetchEntry r (host.headD []) s)
    unfold fetchAll
    dsimp only
    split_ifs
    · simp
    · simp
    · simpa [KeepsSome] using h

@[simp] theorem flushRing_steady (r : Nat) (host : List (List Byte)) (s : State) :
    (flushRing r host s).steady = s.steady := by
  unfold flushRing
  split
  · rfl
  · split
    · rfl
    · rename_i t h
      simp [fetchAll_keeps r _ _ _ t h]

@[simp] theorem execRingFlush_keeps (r : Fin 128) (host : List (List Byte)) (s : State) :
    Keeps s (execRingFlush r host s) := by
  simp [execRingFlush]

@[simp] theorem holdRing_steady (n : Nat) (s : State) : (holdRing n s).steady = s.steady := by
  simp [holdRing]

@[simp] theorem releaseRing_steady (n : Nat) (s : State) : (releaseRing n s).steady = s.steady := (rfl)

@[simp] theorem execStewardHold_keeps (n : Fin 128) (s : State) : Keeps s (execStewardHold n s) := by
  simp [execStewardHold]

@[simp] theorem execStewardRelease_keeps (n : Fin 128) (s : State) : Keeps s (execStewardRelease n s) := by
  simp [execStewardRelease]

@[simp] theorem execKcsEnd_keeps (r : Fin 132) (g : Guard) (s : State) : Keeps s (execKcsEnd r g s) := by
  simp [execKcsEnd]

@[simp] theorem execProgramRestart_keeps (r : Fin 128) (s : State) : Keeps s (execProgramRestart r s) := by
  unfold execProgramRestart Keeps
  grind [State.setCore_steady, endProgram_steady, State.setRing_steady, copyProgram_steady]

@[simp] theorem sendResult_steady (i : Invoke) (status detail : Nat) (s : State) :
    (sendResult i status detail s).steady = s.steady := by
  simp [sendResult]

@[simp] theorem execInvokeTaken_keeps (r : Fin 128) (s : State) : Keeps s (execInvokeTaken r s) := by
  unfold execInvokeTaken
  dsimp only
  split
  · simp
  · refine keeps_of_ite (by simp) ?_
    split
    · simp
    · refine keeps_of_ite (by simp) (keeps_of_ite (by simp) ?_)
      split
      · rename_i u h
        simp [attnStart_keeps _ _ _ _ _ _ u h]
      · simp

@[simp] theorem startReturn_steady (r : Nat) (j : Job) (s : State) : (startReturn r j s).steady = s.steady := by
  unfold startReturn
  grind [dmaStart_steady, State.setProg_steady]

@[simp] theorem execResultSend_keeps (r : Fin 128) (s : State) : Keeps s (execResultSend r s) := by
  unfold execResultSend Keeps
  grind [settleRing_steady, State.setRing_steady, sendResult_steady]

@[simp] theorem execTallyComplete_keeps (r : Fin 132) (t : Fin 16) (s : State) :
    Keeps s (execTallyComplete r t s) := by
  unfold execTallyComplete
  split
  · split
    · rename_i u h
      simp [finishJob_keeps _ _ u h]
    · simp
  · split
    · split
      · simp
      · simp [dmaLocal_steady]
    · split
      · split <;> simp
      · simp

end Sys2Proof.Machine
end

section
/-! SUPPORT. The steady parts are kept. Translation commands: granule table repair, window invalidations and
acknowledgements and the context base. -/

namespace Sys2Proof.Machine

@[simp] theorem execGtEntryRewrite_keeps (g : Fin 16384) (bad : Bool) (s : State) :
    Keeps s (execGtEntryRewrite g bad s) := by
  simp [execGtEntryRewrite]

@[simp] theorem execPwInvSubmit_keeps (p : Fin 16) (w3 : W64) (s : State) : Keeps s (execPwInvSubmit p w3 s) := by
  simp [execPwInvSubmit]

@[simp] theorem giveInvAck_steady (a : InvAck) (s : State) : (giveInvAck a s).steady = s.steady := by
  unfold giveInvAck
  dsimp only
  split <;> simp

@[simp] theorem execInvalidationAck_keeps (p : Fin 16) (s : State) : Keeps s (execInvalidationAck p s) := by
  unfold execInvalidationAck
  split <;> simp

@[simp] theorem xltCtxWrite_steady (p v : Nat) (s : State) : (xltCtxWrite p v s).steady = s.steady := (rfl)

@[simp] theorem execPwXltCtxWrite_keeps (p : Fin 16) (v : W64) (s : State) : Keeps s (execPwXltCtxWrite p v s) := by
  simp [execPwXltCtxWrite]

end Sys2Proof.Machine
end

section
/-! SUPPORT. The steady parts are kept. A received packet: credit, form, destination, and what requests, responses,
invokes, doorbells, atomics and management packets do. -/

namespace Sys2Proof.Machine

@[simp] theorem reply_steady (k : Nat) (p : Packet) (status : Nat) (s : State) :
    (reply k p status s).steady = s.steady := by
  simp [reply]

@[simp] theorem replyData_steady (k : Nat) (p : Packet) (data : List Byte) (s : State) :
    (replyData k p data s).steady = s.steady := by
  simp [replyData]

@[simp] theorem writeMasked_steady (src : Src) (cid va mask : Nat) (data : List Byte) (s : State) :
    (writeMasked src cid va mask data s).2.steady = s.steady := by
  unfold writeMasked
  grind [translate_steady, lineOp_steady, countAccess_steady]

@[simp] theorem sourceSteps_steady (src : Src) (cid : Nat) (s : State) :
    (sourceSteps src cid s).2.steady = s.steady := by
  unfold sourceSteps
  grind [contextEntry_steady]

@[simp] theorem fabricDoorbell_keeps (k : Nat) (p : Packet) (s : State) : KeepsSome s (fabricDoorbell k p s) := by
  have h := sourceSteps_steady (fabSrc k p .request s) p.cid s
  unfold fabricDoorbell
  dsimp only
  split
  · simp_all
  · simp_all
  · simp_all
  · simp
  · split <;> simp_all

@[simp] theorem memoRoom_keeps (s : State) : KeepsSome s (memoRoom s) := by
  unfold memoRoom KeepsSome
  grind [State.steady_mk]

@[simp] theorem memoFullEvent_steady (k : Nat) (s : State) : (memoFullEvent k s).steady = s.steady := by
  unfold memoFullEvent
  dsimp only
  split <;> simp

@[simp] theorem atomReply_steady (k : Nat) (p : Packet) (status : Nat) (old : List Byte) (s : State) :
    (atomReply k p status old s).steady = s.steady := by
  simp [atomReply]

@[simp] theorem serveAtom_keeps (k : Nat) (p : Packet) (s : State) : KeepsSome s (serveAtom k p s) := by
  unfold serveAtom
  dsimp only
  generalize (if p.byte 1 = 0 then 4 else 8) = m
  split
  · simp
  · split
    · simp
    · split
      · simp
      · split
        · simp
        · rename_i t h
          have ht := memoRoom_keeps s t h
          split <;> simp [ht]

@[simp] theorem serveInvoke_keeps (k : Nat) (p : Packet) (s : State) : KeepsSome s (serveInvoke k p s) := by
  unfold serveInvoke KeepsSome
  grind [State.bump_steady, recordViolation_steady, State.setRing_steady, sendResult_steady, sourceSteps_steady]

@[simp] theorem serve_keeps (k : Nat) (p : Packet) (s : State) : KeepsSome s (serve k p s) := by
  unfold serve
  refine keepsSome_of_ite keepsSome_none (keepsSome_of_ite (by simp) (keepsSome_of_ite (fabricDoorbell_keeps k p s) ?_))
  refine keepsSome_of_ite (by dsimp only; split_ifs <;> simp) (keepsSome_of_ite (by simp) (keepsSome_of_ite (by simp)
    ?_))
  refine keepsSome_of_ite (serveAtom_keeps k p s) (keepsSome_of_ite ?_ ?_)
  · split
    · simp
    · split
      split
      · intro u hu
        rw [dmaResponse_keeps _ _ _ _ u hu, dropReq_steady]
      · simp
  · exact keepsSome_of_ite (serveInvoke_keeps k p s) (keepsSome_of_ite (by simp) (by simp))

@[simp] theorem takeHello_steady (k : Nat) (p : Packet) (s : State) : (takeHello k p s).steady = s.steady := by
  simp [takeHello]

@[simp] theorem takeCampion_steady (k : Nat) (p : Packet) (s : State) : (takeCampion k p s).steady = s.steady := by
  simp [takeCampion]

@[simp] theorem takeFragment_steady (k : Nat) (p : Packet) (s : State) : (takeFragment k p s).steady = s.steady := by
  unfold takeFragment
  dsimp only
  split <;> simp

@[simp] theorem takeMgmt_steady (k : Nat) (p : Packet) (stamp turn : Nat) (s : State) :
    (takeMgmt k p stamp turn s).steady = s.steady := by
  simp [takeMgmt]

@[simp] theorem unattested_steady (k : Nat) (s : State) : (unattested k s).steady = s.steady := by
  unfold unattested
  dsimp only
  split <;> simp

@[simp] theorem receivePacket_steady (k : Nat) (p : Packet) (stamp turn : Nat) (s : State) :
    (receivePacket k p stamp turn s).steady = s.steady := by
  unfold receivePacket
  refine steady_of_ite rfl (steady_of_ite (by simp) (steady_of_ite (by simp) (steady_of_ite (by simp) ?_)))
  refine steady_of_ite (by simp) (steady_of_ite (by simp) (steady_of_ite (by simp) (steady_of_ite (by simp) ?_)))
  refine steady_of_ite (steady_of_ite (by simp) ?_) (steady_of_ite (by simp) ?_)
  · split <;> simp
  · split
    · rename_i t h
      simp [serve_keeps _ _ _ t h]
    · simp

@[simp] theorem retryWaiting_steady (s : State) : (retryWaiting s).steady = s.steady := by
  refine State.each_steady _ _ _ fun w t => ?_
  split
  · rename_i u h
    simp [serve_keeps _ _ _ u h]
  · rfl

end Sys2Proof.Machine
end

section
/-! SUPPORT. The steady parts are kept. Fabric commands: flits, training, encryption, packets by kind, Campion and
Sorrel. -/

namespace Sys2Proof.Machine

@[simp] theorem receiveAll_steady (k : Nat) (ps : List Packet) (stamp turn : Nat) (s : State) :
    (receiveAll k ps stamp turn s).steady = s.steady := by
  simp [receiveAll]

@[simp] theorem noteSecure_steady (k : Nat) (before s : State) : (noteSecure k before s).steady = s.steady := by
  simp [noteSecure]

@[simp] theorem countFec_steady (fec : List (Fin 6 × Byte × Byte)) (s : State) :
    (countFec fec s).steady = s.steady := by
  simp [countFec]

@[simp] theorem execFlitReceive_keeps (k : Fin 6) (b : List Byte) (fecOk : Bool) (fec : List (Fin 6 × Byte × Byte))
    (stamp : BitVec 26) (turn : BitVec 40) (s : State) : Keeps s (execFlitReceive k b fecOk fec stamp turn s) := by
  simp [execFlitReceive]

@[simp] theorem execNakReceive_keeps (k : Fin 6) (ack : Option (BitVec 12)) (s : State) :
    Keeps s (execNakReceive k ack s) := by
  simp [execNakReceive]

@[simp] theorem execFastRetrainDone_keeps (k : Fin 6) (s : State) : Keeps s (execFastRetrainDone k s) := by
  simp [execFastRetrainDone]

@[simp] theorem execFastRetrainTimeout_keeps (k : Fin 6) (s : State) : Keeps s (execFastRetrainTimeout k s) := by
  simp [execFastRetrainTimeout]

@[simp] theorem execErrorWindowEnd_keeps (k : Fin 6) (more : Nat) (s : State) :
    Keeps s (execErrorWindowEnd k more s) := by
  simp [execErrorWindowEnd]

@[simp] theorem execPartnerLoss_keeps (k : Fin 6) (err : Bool) (s : State) : Keeps s (execPartnerLoss k err s) := by
  simp [execPartnerLoss]

@[simp] theorem execHoldoffExpiry_keeps (k : Fin 6) (s : State) : Keeps s (execHoldoffExpiry k s) := by
  simp [execHoldoffExpiry]

@[simp] theorem groupReset_steady (n : Nat) (c : Cause) (s : State) : (groupReset n c s).steady = s.steady := by
  unfold groupReset
  split <;> simp

@[simp] theorem execLrst_keeps (n : Fin 6) (s : State) : Keeps s (execLrst n s) := by
  simp [execLrst]

@[simp] theorem clearGroup_steady (n : Nat) (s : State) : (clearGroup n s).steady = s.steady := by
  simp [clearGroup]

@[simp] theorem execGroupEnClear_keeps (n : Fin 6) (s : State) : Keeps s (execGroupEnClear n s) := by
  simp [execGroupEnClear]

@[simp] theorem execLinkDetect_keeps (k : Fin 6) (sig : List (BitVec 9)) (s : State) :
    Keeps s (execLinkDetect k sig s) := by
  simp [execLinkDetect]

@[simp] theorem execEqualizationDone_keeps (k : Fin 6) (s : State) : Keeps s (execEqualizationDone k s) := by
  simp [execEqualizationDone]

@[simp] theorem execLaneTestDone_keeps (k : Fin 6) (good : List (BitVec 9)) (s : State) :
    Keeps s (execLaneTestDone k good s) := by
  simp [execLaneTestDone]

@[simp] theorem execTrainConfig_keeps (k : Fin 6) (m : TrainMsg) (s : State) : Keeps s (execTrainConfig k m s) := by
  simp [execTrainConfig]

@[simp] theorem execLcfSend_keeps (k : Fin 6) (s : State) : Keeps s (execLcfSend k s) := by
  simp [execLcfSend]

@[simp] theorem execLinkKeysInstalled_keeps (k : Fin 6) (secret : List Byte) (s : State) :
    Keeps s (execLinkKeysInstalled k secret s) := by
  simp [execLinkKeysInstalled]

@[simp] theorem execKeyUpdate_keeps (k : Fin 6) (secret : List Byte) (s : State) :
    Keeps s (execKeyUpdate k secret s) := by
  simp [execKeyUpdate]

@[simp] theorem pktCmd_keeps (ok : Bool) (k : Nat) (p : Packet) (stamp turn : Nat) (s : State) :
    Keeps s (pktCmd ok k p stamp turn s) := by
  simp [pktCmd]

@[simp] theorem execInv_keeps (k : Fin 6) (p : Packet) (s : State) : Keeps s (execInv k p s) := by
  simp [execInv]

@[simp] theorem execRd_keeps (k : Fin 6) (p : Packet) (s : State) : Keeps s (execRd k p s) := by
  simp [execRd]

@[simp] theorem execWr_keeps (k : Fin 6) (p : Packet) (s : State) : Keeps s (execWr k p s) := by
  simp [execWr]

@[simp] theorem execWrp_keeps (k : Fin 6) (p : Packet) (s : State) : Keeps s (execWrp k p s) := by
  simp [execWrp]

@[simp] theorem execAtom_keeps (k : Fin 6) (p : Packet) (s : State) : Keeps s (execAtom k p s) := by
  simp [execAtom]

@[simp] theorem execForwardPacket_keeps (k : Fin 6) (p : Packet) (s : State) : Keeps s (execForwardPacket k p s) := by
  simp [execForwardPacket]

@[simp] theorem execRspData_keeps (k : Fin 6) (p : Packet) (s : State) : Keeps s (execRspData k p s) := by
  simp [execRspData]

@[simp] theorem execFabricDoorbell_keeps (k : Fin 6) (p : Packet) (s : State) :
    Keeps s (execFabricDoorbell k p s) := by
  simp [execFabricDoorbell]

@[simp] theorem execInvoke_keeps (k : Fin 6) (p : Packet) (s : State) : Keeps s (execInvoke k p s) := by
  simp [execInvoke]

@[simp] theorem execHello_keeps (k : Fin 6) (p : Packet) (s : State) : Keeps s (execHello k p s) := by
  simp [execHello]

@[simp] theorem execClaim_keeps (k : Fin 6) (p : Packet) (s : State) : Keeps s (execClaim k p s) := by
  simp [execClaim]

@[simp] theorem execReport_keeps (k : Fin 6) (p : Packet) (s : State) : Keeps s (execReport k p s) := by
  simp [execReport]

@[simp] theorem execReportDone_keeps (k : Fin 6) (p : Packet) (s : State) : Keeps s (execReportDone k p s) := by
  simp [execReportDone]

@[simp] theorem execAssign_keeps (k : Fin 6) (p : Packet) (s : State) : Keeps s (execAssign k p s) := by
  simp [execAssign]

@[simp] theorem execBeacon_keeps (k : Fin 6) (p : Packet) (s : State) : Keeps s (execBeacon k p s) := by
  simp [execBeacon]

@[simp] theorem execDup_keeps (k : Fin 6) (p : Packet) (s : State) : Keeps s (execDup k p s) := by
  simp [execDup]

@[simp] theorem execSyncReq_keeps (k : Fin 6) (p : Packet) (stamp : BitVec 26) (turn : BitVec 40) (s : State) :
    Keeps s (execSyncReq k p stamp turn s) := by
  simp [execSyncReq]

@[simp] theorem execSyncRsp_keeps (k : Fin 6) (p : Packet) (stamp : BitVec 26) (s : State) :
    Keeps s (execSyncRsp k p stamp s) := by
  simp [execSyncRsp]

@[simp] theorem execQuietExpiry_keeps (s : State) : Keeps s (execQuietExpiry s) := by
  simp [execQuietExpiry]

@[simp] theorem execBeaconTick_keeps (s : State) : Keeps s (execBeaconTick s) := by
  simp [execBeaconTick]

@[simp] theorem execBeaconTimeout_keeps (s : State) : Keeps s (execBeaconTimeout s) := by
  simp [execBeaconTimeout]

@[simp] theorem execDeadMarkExpiry_keeps (u : W64) (s : State) : Keeps s (execDeadMarkExpiry u s) := by
  simp [execDeadMarkExpiry]

@[simp] theorem execParentLinkDown_keeps (s : State) : Keeps s (execParentLinkDown s) := by
  simp [execParentLinkDown]

@[simp] theorem execPriorityWrite_keeps (v : Byte) (s : State) : Keeps s (execPriorityWrite v s) := by
  simp [execPriorityWrite]

@[simp] theorem execSyncIntTick_keeps (stamp : BitVec 26) (s : State) : Keeps s (execSyncIntTick stamp s) := by
  simp [execSyncIntTick]

@[simp] theorem execSorrelHoldoverTimeout_keeps (s : State) : Keeps s (execSorrelHoldoverTimeout s) := by
  simp [execSorrelHoldoverTimeout]

@[simp] theorem execTopoSrlSet_keeps (v : W64) (s : State) : Keeps s (execTopoSrlSet v s) := by
  simp [execTopoSrlSet]

end Sys2Proof.Machine
end

section
/-! SUPPORT. The steady parts are kept. Work after the failure of a unit: core faults, clusters out of service,
staging errors, row tests and the repair record's writes. -/

namespace Sys2Proof.Machine

@[simp] theorem coreFault_steady (r island : Nat) (s : State) : (coreFault r island s).steady = s.steady := by
  unfold coreFault
  split <;> simp

@[simp] theorem coresFail_steady (f : Nat → Bool) (island : Nat) (s : State) :
    (coresFail f island s).steady = s.steady := by
  simp [coresFail]

@[simp] theorem clusterOut_steady (cl : Nat) (s : State) : (clusterOut cl s).steady = s.steady := by
  rw [clusterOut, syncAllUnits_steady, coresFail_steady, State.each_steady, State.steady_mk]
  simp

@[simp] theorem execClusterReturn_keeps (cl : Fin 4) (s : State) : Keeps s (execClusterReturn cl s) := by
  simp [execClusterReturn]

@[simp] theorem execLockstepMismatch_keeps (cl : Fin 4) (phys : Fin 18) (s : State) :
    Keeps s (execLockstepMismatch cl phys s) := by
  unfold execLockstepMismatch
  split <;> simp

@[simp] theorem execSpareSwitchIn_keeps (cl : Fin 4) (hatch pass : Bool) (s : State) :
    Keeps s (execSpareSwitchIn cl hatch pass s) := by
  unfold execSpareSwitchIn
  dsimp only
  split <;> simp

@[simp] theorem sramEvent_steady (src : Nat) (x : SramRow) (s : State) : (sramEvent src x s).steady = s.steady := by
  simp [sramEvent]

@[simp] theorem redoChunk_steady (r t cl tile chunk : Nat) (s : State) :
    (redoChunk r t cl tile chunk s).steady = s.steady := by
  unfold redoChunk
  split <;> simp

@[simp] theorem execStagingEccUe_keeps (cl : Fin 4) (w : StageWord) (s : State) :
    Keeps s (execStagingEccUe cl w s) := by
  unfold execStagingEccUe Keeps
  grind [State.steady_mk, State.bump_steady, redoChunk_steady, redoOn_steady, coresFail_steady, putJob_steady,
    countRerun_steady]

@[simp] theorem blockRetired_steady (cl b : Nat) (s : State) : (blockRetired cl b s).steady = s.steady := by
  simp [blockRetired]

@[simp] theorem arrayDead_steady (x : SramRow) (s : State) : (arrayDead x s).steady = s.steady := by
  simp [arrayDead]

@[simp] theorem rowWork_steady (x : SramRow) (ue : Bool) (s : State) : (rowWork x ue s).steady = s.steady := by
  unfold rowWork
  grind [redoOn_steady, coresFail_steady]

@[simp] theorem execSramRowTest_keeps (code : BitVec 8) (inst row : BitVec 16) (ue : Bool) (s : State) :
    Keeps s (execSramRowTest code inst row ue s) := by
  simp [execSramRowTest]

@[simp] theorem execSramRowTestDone_keeps (code : BitVec 8) (inst row : BitVec 16) (pass : Bool) (s : State) :
    Keeps s (execSramRowTestDone code inst row pass s) := by
  simp [execSramRowTestDone]

@[simp] theorem execRepairRecordWrite_keeps (ok : Bool) (s : State) : Keeps s (execRepairRecordWrite ok s) := by
  simp [execRepairRecordWrite]

end Sys2Proof.Machine
end

section
/-! SUPPORT. The steady parts are kept. The commands of the synthesizers, the frequency monitor, the CLKOUT outputs
and the quadrants. -/

namespace Sys2Proof.Machine

@[simp] theorem releaseIslands_steady (mask : Nat) (s : State) : (releaseIslands mask s).steady = s.steady := (rfl)

@[simp] theorem startStage_steady (n : Nat) (s : State) : (startStage n s).steady = s.steady := by
  simp [startStage]

@[simp] theorem execSynEnable_keeps (sm : Bool) (n : Fin 12) (s : State) : Keeps s (execSynEnable sm n s) := by
  simp [execSynEnable]

@[simp] theorem execSynDisable_keeps (sm : Bool) (n : Fin 12) (s : State) : Keeps s (execSynDisable sm n s) := by
  simp [execSynDisable]

@[simp] theorem synRegWrite_steady (w : SynWriter) (n reg : Nat) (v : W32) (s : State) :
    (synRegWrite w n reg v s).steady = s.steady := by
  simp [synRegWrite]

@[simp] theorem execSynConfigWrite_keeps (sm : Bool) (n : Fin 12) (reg : Fin 4) (v : W32) (s : State) :
    Keeps s (execSynConfigWrite sm n reg v s) := by
  simp [execSynConfigWrite]

@[simp] theorem execSynCtlStewardWrite_keeps (n : Fin 12) (v : W32) (s : State) :
    Keeps s (execSynCtlStewardWrite n v s) := by
  simp [execSynCtlStewardWrite]

@[simp] theorem execSynCtlSmApply_keeps (n : Fin 12) (s : State) : Keeps s (execSynCtlSmApply n s) := by
  unfold execSynCtlSmApply
  split <;> simp

@[simp] theorem execAvsbusAck_keeps (up : Bool) (s : State) : Keeps s (execAvsbusAck up s) := by
  simp [execAvsbusAck]

@[simp] theorem refuseRaise_steady (n : Nat) (s : State) : (refuseRaise n s).steady = s.steady := by
  unfold refuseRaise
  split <;> simp

@[simp] theorem execAvsCommandTimeout_keeps (s : State) : Keeps s (execAvsCommandTimeout s) := by
  simp [execAvsCommandTimeout]

@[simp] theorem syn11Back_steady (s : State) : (syn11Back s).steady = s.steady := by
  simp [syn11Back]

@[simp] theorem execSynLockDeclared_keeps (n : Fin 12) (s : State) : Keeps s (execSynLockDeclared n s) := by
  simp [execSynLockDeclared]

@[simp] theorem coast_steady (n : Nat) (s : State) : (coast n s).steady = s.steady := by
  simp [coast]

@[simp] theorem execSynLossOfLock_keeps (n : Fin 12) (s : State) : Keeps s (execSynLossOfLock n s) := by
  simp [execSynLossOfLock]

@[simp] theorem execSynLossOfReference_keeps (n : Fin 12) (s : State) : Keeps s (execSynLossOfReference n s) := by
  simp [execSynLossOfReference]

@[simp] theorem relock_steady (n : Nat) (s : State) : (relock n s).steady = s.steady := by
  simp [relock]

@[simp] theorem execSynRelock_keeps (n : Fin 12) (s : State) : Keeps s (execSynRelock n s) := by
  simp [execSynRelock]

@[simp] theorem guardTrip_steady (n : Nat) (s : State) : (guardTrip n s).steady = s.steady := by
  simp [guardTrip]

@[simp] theorem spoilTest_steady (evaluated : Bool) (s : State) : (spoilTest evaluated s).steady = s.steady := by
  simp [spoilTest]

@[simp] theorem execMonitorWindowEnd_keeps (n : Fin 12) (count : Nat) (lockSame : Bool) (s : State) :
    Keeps s (execMonitorWindowEnd n count lockSame s) := by
  simp [execMonitorWindowEnd]

@[simp] theorem execSynCoastLimit_keeps (n : Fin 12) (s : State) : Keeps s (execSynCoastLimit n s) := by
  simp [execSynCoastLimit]

@[simp] theorem execRefclkReturn_keeps (s : State) : Keeps s (execRefclkReturn s) := by
  simp [execRefclkReturn]

@[simp] theorem execClkoutWrite_keeps (n : Fin 4) (v : W32) (s : State) : Keeps s (execClkoutWrite n v s) := by
  simp [execClkoutWrite]

@[simp] theorem execQuadrantHoldExpiry_keeps (q : Fin 4) (s : State) : Keeps s (execQuadrantHoldExpiry q s) := by
  simp [execQuadrantHoldExpiry]

@[simp] theorem execQuadrantQuiesced_keeps (q : Fin 4) (s : State) : Keeps s (execQuadrantQuiesced q s) := by
  simp [execQuadrantQuiesced]

@[simp] theorem execQuadrantRecentreDone_keeps (q : Fin 4) (s : State) : Keeps s (execQuadrantRecentreDone q s) := by
  simp [execQuadrantRecentreDone]

end Sys2Proof.Machine
end

section
/-! SUPPORT. The steady parts are kept. Node resets: initiators, prologues, what each reset kind keeps, and the
supply, crystal and trip events. -/

namespace Sys2Proof.Machine

@[simp] theorem loadVoidWindow_steady (p : Nat) (s : State) : (loadVoidWindow p s).steady = s.steady := (rfl)

@[simp] theorem mrwRegs_steady (s : State) : (mrwRegs s).steady = s.steady := by
  simp only [mrwRegs, State.put_steady]

@[simp] theorem returnPartition_steady (p : Nat) (s : State) : (returnPartition p s).steady = s.steady := by
  simp [returnPartition]

@[simp] theorem nodeReset_steady (kind : ResetKind) (s : State) : (nodeReset kind s).steady = s.steady := by
  simp [nodeReset]

@[simp] theorem startUp_steady (s : State) : (startUp s).steady = s.steady := (rfl)

@[simp] theorem powerReset_steady (s : State) : (powerReset s).steady = s.steady := nodeReset_steady .powerOn s

@[simp] theorem interruptPrologue_steady (s : State) : (interruptPrologue s).steady = s.steady := by
  simp [interruptPrologue]

@[simp] theorem startPrologue_steady (kind : ResetKind) (s : State) : (startPrologue kind s).steady = s.steady := by
  simp [startPrologue]

@[simp] theorem acceptReset_steady (kind : ResetKind) (cause : Fld) (s : State) :
    (acceptReset kind cause s).steady = s.steady := by
  unfold acceptReset
  grind [State.put_steady, startPrologue_steady]

@[simp] theorem pulseAccepted_steady (cycles : Nat) (s : State) : (pulseAccepted cycles s).2.steady = s.steady := by
  unfold pulseAccepted
  split_ifs <;> simp

@[simp] theorem execWrstNPulse_keeps (cycles : Nat) (s : State) : Keeps s (execWrstNPulse cycles s) := by
  simp [execWrstNPulse]

@[simp] theorem execMrstNPulse_keeps (cycles : Nat) (s : State) : Keeps s (execMrstNPulse cycles s) := by
  simp [execMrstNPulse]

@[simp] theorem execWarmResetRequest_keeps (lost : Bool) (s : State) : Keeps s (execWarmResetRequest lost s) := by
  simp [execWarmResetRequest]

@[simp] theorem execMrwResetRequest_keeps (lost : Bool) (s : State) : Keeps s (execMrwResetRequest lost s) := by
  simp [execMrwResetRequest]

@[simp] theorem execSmWatchdogExpiry_keeps (s : State) : Keeps s (execSmWatchdogExpiry s) := by
  simp [execSmWatchdogExpiry]

@[simp] theorem execSyn11LockTimeout_keeps (s : State) : Keeps s (execSyn11LockTimeout s) := by
  simp [execSyn11LockTimeout]

@[simp] theorem execResetPrologueDone_keeps (s : State) : Keeps s (execResetPrologueDone s) := by
  unfold execResetPrologueDone
  split <;> simp

@[simp] theorem execMrwPrologueTimeout_keeps (s : State) : Keeps s (execMrwPrologueTimeout s) := by
  simp [execMrwPrologueTimeout]

@[simp] theorem execPorstNFall_keeps (s : State) : Keeps s (execPorstNFall s) := by
  simp [execPorstNFall]

@[simp] theorem execPorstNRise_keeps (testMode : Bool) (strap : BitVec 4) (s : State) :
    Keeps s (execPorstNRise testMode strap s) := by
  simp [execPorstNRise]

@[simp] theorem execUndervoltage_keeps (rail : Fin 4) (s : State) : Keeps s (execUndervoltage rail s) := by
  simp [execUndervoltage]

@[simp] theorem execCrystalStop_keeps (s : State) : Keeps s (execCrystalStop s) := by
  simp [execCrystalStop]

@[simp] theorem thermalTrip_steady (s : State) : (thermalTrip s).steady = s.steady := by
  simp [thermalTrip]

@[simp] theorem execThermalTrip_keeps (s : State) : Keeps s (execThermalTrip s) := by
  simp [execThermalTrip]

@[simp] theorem execVddAonLoss_keeps (s : State) : Keeps s (execVddAonLoss s) := by
  simp [execVddAonLoss]

@[simp] theorem execVddAonApply_keeps (s : State) : Keeps s (execVddAonApply s) := by
  simp [execVddAonApply]

@[simp] theorem execAtomWindowEnd_keeps (s : State) : Keeps s (execAtomWindowEnd s) := by
  simp [execAtomWindowEnd]

@[simp] theorem execFabricReady_keeps (held : List Nat) (s : State) : Keeps s (execFabricReady held s) := by
  simp [execFabricReady]

end Sys2Proof.Machine
end

section
/-! SUPPORT. The steady parts are kept. Partitions as the SM handles them: partition resets, leases, teardown,
releases of granules, withdrawal of regions, what the SM answers, and the privileged instructions of SM programs. -/

namespace Sys2Proof.Machine

@[simp] theorem writeBuf_steady (b : List Byte) (s : State) : (writeBuf b s).steady = s.steady := by
  simp [writeBuf]

@[simp] theorem smAnswer_steady (r : SmResponse) (s : State) : (smAnswer r s).steady = s.steady := by
  simp [smAnswer]

@[simp] theorem answer_steady (q : StewReq) (cmd status detail : Nat) (results : List Byte) (s : State) :
    (answer q cmd status detail results s).steady = s.steady := by
  simp [answer]

@[simp] theorem endUnlogged_steady (q : Option StewReq) (ring : Option (Nat × Nat)) (cmd : Nat) (s : State) :
    (endUnlogged q ring cmd s).steady = s.steady := by
  unfold endUnlogged
  grind [answer_steady, tallyDone_steady]

@[simp] theorem logLifecycle_steady (p new old init : Nat) (cont : LogCont) (s : State) :
    (logLifecycle p new old init cont s).steady = s.steady := by
  simp [logLifecycle]

@[simp] theorem logGranule_steady (p op first count : Nat) (cont : LogCont) (s : State) :
    (logGranule p op first count cont s).steady = s.steady := by
  simp [logGranule]

@[simp] theorem logRegion_steady (n op readers first count off len : Nat) (cont : LogCont) (s : State) :
    (logRegion n op readers first count off len cont s).steady = s.steady := by
  simp [logRegion]

@[simp] theorem setLease_steady (res : Nat) (new : Option Nat) (cont : LogCont) (s : State) :
    (setLease res new cont s).steady = s.steady := by
  simp [setLease]

@[simp] theorem releaseAfterPages_steady (s : State) : (releaseAfterPages s).steady = s.steady := by
  unfold releaseAfterPages
  split <;> simp

@[simp] theorem releaseLeases_steady (p : Nat) (s : State) : (releaseLeases p s).steady = s.steady := by
  simp [releaseLeases]

@[simp] theorem emptyRing_steady (r : Nat) (s : State) : (emptyRing r s).steady = s.steady := (rfl)

@[simp] theorem cancelWork_steady (p : Nat) (s : State) : (cancelWork p s).steady = s.steady := by
  refine (State.steady_mk ..).trans ((dropPages_steady ..).trans ((State.each_steady _ _ _ (by simp)).trans
    ((State.steady_mk ..).trans ((capNext_steady ..).trans ((State.steady_mk ..).trans ?_)))))
  refine (cancelJobs_steady ..).trans ((cancelHatch_steady ..).trans ((State.steady_mk ..).trans ((State.steady_mk
    ..).trans ?_)))
  exact State.each_steady _ _ _ (by simp)

@[simp] theorem emptyEvents_steady (p : Nat) (s : State) : (emptyEvents p s).steady = s.steady := (rfl)

@[simp] theorem partitionReset_steady (p : Nat) (s : State) : (partitionReset p s).steady = s.steady := by
  simp [partitionReset]

@[simp] theorem execPartitionReset_keeps (p : Fin 16) (s : State) : Keeps s (execPartitionReset p s) := by
  simp [execPartitionReset]

@[simp] theorem startTear_steady (x : Tear) (s : State) : (startTear x s).steady = s.steady := by
  simp [startTear]

@[simp] theorem makeVoid_steady (p : Nat) (s : State) : (makeVoid p s).steady = s.steady := by
  simp [makeVoid]

@[simp] theorem nextHaltTear_steady (s : State) : (nextHaltTear s).steady = s.steady := by
  unfold nextHaltTear
  grind [State.steady_mk, startTear_steady]

@[simp] theorem execTeardownDrainComplete_keeps (p : Fin 16) (s : State) :
    Keeps s (execTeardownDrainComplete p s) := by
  unfold execTeardownDrainComplete
  split
  · simp
  · refine keeps_of_ite (by simp) (keeps_of_ite ?_ ?_)
    all_goals
      rw [keeps_next]
      simp only [nextHaltTear_steady, logLifecycle_steady, endUnlogged_steady]
      exact (State.steady_mk ..).trans (makeVoid_steady ..)

@[simp] theorem startRelease_steady (x : Release) (s : State) : (startRelease x s).steady = s.steady := by
  simp [startRelease]

@[simp] theorem endRelease_steady (x : Release) (s : State) : (endRelease x s).steady = s.steady := by
  simp [endRelease]

@[simp] theorem execGranuleReleaseComplete_keeps (g : Fin 16384) (s : State) :
    Keeps s (execGranuleReleaseComplete g s) := by
  unfold execGranuleReleaseComplete
  split <;> simp

@[simp] theorem startWithdraw_steady (x : Withdraw) (s : State) : (startWithdraw x s).steady = s.steady := by
  simp [startWithdraw]

@[simp] theorem execRegionWithdrawComplete_keeps (r : Fin 16) (s : State) :
    Keeps s (execRegionWithdrawComplete r s) := by
  simp [execRegionWithdrawComplete]

@[simp] theorem drbgDraw_steady (s : State) : (drbgDraw s).steady = s.steady := (rfl)

@[simp] theorem formPart_steady (p init : Nat) (cont : LogCont) (s : State) :
    (formPart p init cont s).steady = s.steady := by
  simp [formPart]

@[simp] theorem sealPart_steady (p init : Nat) (cont : LogCont) (s : State) :
    (sealPart p init cont s).steady = s.steady := by
  simp [sealPart]

@[simp] theorem assignGranules_steady (p first count : Nat) (cont : LogCont) (s : State) :
    (assignGranules p first count cont s).steady = s.steady := by
  simp [assignGranules]

@[simp] theorem createRegion_steady (n : Nat) (cont : LogCont) (s : State) :
    (createRegion n cont s).steady = s.steady := by
  simp [createRegion]

@[simp] theorem addRegion_steady (n first count : Nat) (cont : LogCont) (s : State) :
    (addRegion n first count cont s).steady = s.steady := by
  simp [addRegion]

@[simp] theorem setReaders_steady (n readers op : Nat) (cont : LogCont) (s : State) :
    (setReaders n readers op cont s).steady = s.steady := by
  simp [setReaders]

@[simp] theorem smKcs_keeps {r : Fin 132} {g : Guard} {w : W64} {body : Prog → State → State} {s : State}
    (h : ∀ p, (body p s).steady = s.steady) : Keeps s (smKcs r g w body s) := by
  simp [smKcs, kcs_keeps h]

@[simp] theorem smDo_steady {r : Nat} {ok : Bool} {p : Prog} {s : State} {run : State → State}
    (h : ∀ t, (run t).steady = t.steady) : (smDo r ok p s run).steady = s.steady := by
  simp [smDo, h]

@[simp] theorem execPform_keeps (r : Fin 132) (g : Guard) (b : Fin 32) (s : State) : Keeps s (execPform r g b s) := by
  simp [execPform]

@[simp] theorem execPseal_keeps (r : Fin 132) (g : Guard) (b : Fin 32) (s : State) : Keeps s (execPseal r g b s) := by
  simp [execPseal]

@[simp] theorem execPrst_keeps (r : Fin 132) (g : Guard) (b : Fin 32) (s : State) : Keeps s (execPrst r g b s) := by
  simp [execPrst]

@[simp] theorem execPtear_keeps (r : Fin 132) (g : Guard) (t : Fin 16) (a : Fin 32) (s : State) :
    Keeps s (execPtear r g t a s) := by
  simp [execPtear]

@[simp] theorem execGassign_keeps (r : Fin 132) (g : Guard) (b c : Fin 32) (s : State) :
    Keeps s (execGassign r g b c s) := by
  simp [execGassign]

@[simp] theorem execGrelease_keeps (r : Fin 132) (g : Guard) (t : Fin 16) (a : Fin 32) (s : State) :
    Keeps s (execGrelease r g t a s) := by
  unfold execGrelease
  grind [kindA_steady, startRelease_steady, smKcs_keeps, State.setProg_steady, endAt_steady]

@[simp] theorem execRcreate_keeps (r : Fin 132) (g : Guard) (b : Fin 32) (s : State) :
    Keeps s (execRcreate r g b s) := by
  simp [execRcreate]

@[simp] theorem execRadd_keeps (r : Fin 132) (g : Guard) (b c : Fin 32) (s : State) :
    Keeps s (execRadd r g b c s) := by
  simp [execRadd]

@[simp] theorem execRpub_keeps (r : Fin 132) (g : Guard) (b c : Fin 32) (s : State) :
    Keeps s (execRpub r g b c s) := by
  simp [execRpub]

@[simp] theorem execRreaders_keeps (r : Fin 132) (g : Guard) (b c : Fin 32) (s : State) :
    Keeps s (execRreaders r g b c s) := by
  simp [execRreaders]

@[simp] theorem execRwdraw_keeps (r : Fin 132) (g : Guard) (t : Fin 16) (a : Fin 32) (s : State) :
    Keeps s (execRwdraw r g t a s) := by
  simp [execRwdraw]

@[simp] theorem execLease_keeps (r : Fin 132) (g : Guard) (b c : Fin 32) (s : State) :
    Keeps s (execLease r g b c s) := by
  unfold execLease
  grind [setLease_steady, smDo_steady, smKcs_keeps, endAt_steady]

@[simp] theorem execLogapp_keeps (r : Fin 132) (g : Guard) (da t : Fin 16) (a : Fin 32) (s : State) :
    Keeps s (execLogapp r g da t a s) := by
  simp [execLogapp]

@[simp] theorem execSign_keeps (r : Fin 132) (g : Guard) (da t : Fin 16) (s : State) :
    Keeps s (execSign r g da t s) := by
  unfold execSign
  grind [State.draw_steady, kindA_steady, smKcs_keeps, issueDone_steady, ringWrite_steady, endAt_steady]

@[simp] theorem execRandom_keeps (r : Fin 132) (g : Guard) (a : Fin 32) (s : State) :
    Keeps s (execRandom r g a s) := by
  simp [execRandom]

@[simp] theorem wakeRandom_steady (r : Nat) (s : State) : (wakeRandom r s).steady = s.steady := by
  unfold wakeRandom
  grind [State.draw_steady, drbgDraw_steady, State.setProg_steady]

@[simp] theorem execDrbgReseed_keeps (s : State) : Keeps s (execDrbgReseed s) := by
  simp [execDrbgReseed]

@[simp] theorem execTrngHealthFailure_keeps (s : State) : Keeps s (execTrngHealthFailure s) := by
  simp [execTrngHealthFailure]

@[simp] theorem execKeySlotUe_keeps (slot : Fin 32) (s : State) : Keeps s (execKeySlotUe slot s) := by
  simp [execKeySlotUe]

end Sys2Proof.Machine
end

section
/-! SUPPORT. The steady parts are kept. The audit log's commands: records entering the log, checkpoints, the drain,
bank failures, SEALED-HALT and the log's start. -/

namespace Sys2Proof.Machine

@[simp] theorem runCont_steady (c : LogCont) (s : State) : (runCont c s).steady = s.steady := by
  unfold runCont
  split <;> simp

@[simp] theorem haltCont_steady (c : LogCont) (s : State) : (haltCont c s).steady = s.steady := by
  unfold haltCont
  grind [removePage_steady, pageTally_steady, smAnswer_steady]

@[simp] theorem logSpace_steady (s : State) : (logSpace s).steady = s.steady := by
  simp [logSpace]

@[simp] theorem sealedHalt_steady (waits : List LogRec) (s : State) : (sealedHalt waits s).steady = s.steady := by
  simp [sealedHalt]

@[simp] theorem bankCorrected_steady (ceA ceB : Byte) (s : State) : (bankCorrected ceA ceB s).steady = s.steady := by
  simp [bankCorrected]

@[simp] theorem execLogRecordAppend_keeps (okA okB : Bool) (ceA ceB : Byte) (s : State) :
    Keeps s (execLogRecordAppend okA okB ceA ceB s) := by
  unfold execLogRecordAppend Keeps
  grind [logAppend_steady, runCont_steady, releaseAfterPages_steady, sealedHalt_steady, logSpace_steady,
    bankCorrected_steady]

@[simp] theorem execCheckpointSigned_keeps (s : State) : Keeps s (execCheckpointSigned s) := by
  unfold execCheckpointSigned
  split <;> simp

@[simp] theorem execTombstoneFinal_keeps (s : State) : Keeps s (execTombstoneFinal s) := by
  unfold execTombstoneFinal
  split <;> simp

@[simp] theorem recordsEvent_steady (s : State) : (recordsEvent s).steady = s.steady := by
  unfold recordsEvent
  split <;> simp

@[simp] theorem execLogRecords_keeps (s : State) : Keeps s (execLogRecords s) := by
  simp [execLogRecords]

@[simp] theorem drainBankFails_steady (bank seq : Nat) (s : State) :
    (drainBankFails bank seq s).steady = s.steady := by
  simp [drainBankFails]

@[simp] theorem drainRead_steady (okA okB : Bool) (seq : Nat) (s : State) :
    (drainRead okA okB seq s).steady = s.steady := by
  simp [drainRead]

@[simp] theorem execDrainCopy_keeps (okA okB dma : Bool) (ceA ceB : Byte) (s : State) :
    Keeps s (execDrainCopy okA okB dma ceA ceB s) := by
  unfold execDrainCopy
  dsimp only
  split <;> simp

@[simp] theorem retireTo_steady (h : Nat) (s : State) : (retireTo h s).steady = s.steady := by
  simp [retireTo]

@[simp] theorem drainHeadWrite_steady (v : Nat) (s : State) : (drainHeadWrite v s).steady = s.steady := by
  simp [drainHeadWrite]

@[simp] theorem execLogDrainHeadWrite_keeps (v : W32) (s : State) : Keeps s (execLogDrainHeadWrite v s) := by
  simp [execLogDrainHeadWrite]

@[simp] theorem drainCfgWrite_steady (v : Nat) (s : State) : (drainCfgWrite v s).steady = s.steady := by
  simp [drainCfgWrite]

@[simp] theorem execDrainEnable_keeps (size : BitVec 5) (s : State) : Keeps s (execDrainEnable size s) := by
  simp [execDrainEnable]

@[simp] theorem execDrainDisable_keeps (s : State) : Keeps s (execDrainDisable s) := by
  simp [execDrainDisable]

@[simp] theorem execViolationAggregate_keeps (s : State) : Keeps s (execViolationAggregate s) := by
  simp [execViolationAggregate]

@[simp] theorem startHalt_steady (s : State) : (startHalt s).steady = s.steady := by
  simp [startHalt]

@[simp] theorem startRecords_steady (newA newB : Bool) (s : State) :
    (startRecords newA newB s).steady = s.steady := by
  unfold startRecords
  dsimp only
  rw [checkNearFull_steady, State.each_steady, State.steady_ite, logSubmit_steady, ite_self, logSubmit_steady,
    State.each_steady, State.steady_mk]
  · intro r t
    split <;> simp
  · simp

@[simp] theorem execLogStartRecords_keeps (okA okB chainA chainB : Bool) (s : State) :
    Keeps s (execLogStartRecords okA okB chainA chainB s) := by
  simp [execLogStartRecords]

end Sys2Proof.Machine
end

section
/-! SUPPORT. The steady parts are kept. Steward commands but for register accesses: sessions, reason codes, and each
command's effect. -/

namespace Sys2Proof.Machine

@[simp] theorem steward_keeps {q : StewReq} {cmd : Nat} {haltOk : Bool} {body : State → Except (Nat × Nat) State}
    {s : State} (h : KeepsOk s (body s)) : Keeps s (steward q cmd haltOk body s) := by
  obtain hs | ⟨st, d, hs⟩ | ⟨t, ht, hs⟩ := steward_cases q cmd haltOk body s
  · simp [hs]
  · simp [hs]
  · simp [hs, h t ht]

@[simp] theorem logged_keeps {run : State → State} {s : State} (h : (run s).steady = s.steady) :
    KeepsOk s (logged run s) := by
  simp [logged, h]

@[simp] theorem malformed_keeps (s : State) (reason : Nat) : KeepsOk s (malformed reason) := keepsOk_error _

@[simp] theorem okNow_keeps (q : StewReq) (cmd : Nat) (results : List Byte) {s t : State} :
    KeepsOk s (okNow q cmd results t) ↔ t.steady = s.steady := by
  simp [okNow]

@[simp] theorem takeOwner_steady (o : OwnerRec) (cont : LogCont) (s : State) :
    (takeOwner o cont s).steady = s.steady := by
  simp [takeOwner]

@[simp] theorem execOwnerClaim_keeps (q : StewReq) (anchor : BitVec 384) (roots : List (BitVec 384)) (ok : Bool)
    (s : State) : Keeps s (execOwnerClaim q anchor roots ok s) := by
  simp [execOwnerClaim]

@[simp] theorem execOwnerSet_keeps (q : StewReq) (anchor : BitVec 384) (roots : List (BitVec 384)) (ok : Bool)
    (s : State) : Keeps s (execOwnerSet q anchor roots ok s) := by
  unfold execOwnerSet
  refine keeps_of_ite (by simp) (steward_keeps ?_)
  split
  · simp
  · exact keepsOk_of_ite (by simp) (logged_keeps (by simp))

@[simp] theorem execPartForm_keeps (q : StewReq) (p : Byte) (s : State) : Keeps s (execPartForm q p s) := by
  simp [execPartForm]

@[simp] theorem execPartSeal_keeps (q : StewReq) (p : Byte) (s : State) : Keeps s (execPartSeal q p s) := by
  simp [execPartSeal]

@[simp] theorem execPartReset_keeps (q : StewReq) (p : Byte) (s : State) : Keeps s (execPartReset q p s) := by
  simp [execPartReset]

@[simp] theorem execPartTear_keeps (q : StewReq) (p : Byte) (s : State) : Keeps s (execPartTear q p s) := by
  simp [execPartTear]

@[simp] theorem execGranAssign_keeps (q : StewReq) (p : Byte) (first count : BitVec 16) (s : State) :
    Keeps s (execGranAssign q p first count s) := by
  simp [execGranAssign]

@[simp] theorem execGranRelease_keeps (q : StewReq) (first count : BitVec 16) (s : State) :
    Keeps s (execGranRelease q first count s) := by
  refine steward_keeps (keepsOk_of_ite (by simp) ?_)
  split
  · split_ifs <;> simp
  · simp

@[simp] theorem execRegionCreate_keeps (q : StewReq) (n : Byte) (s : State) : Keeps s (execRegionCreate q n s) := by
  simp [execRegionCreate]

@[simp] theorem execRegionAdd_keeps (q : StewReq) (n : Byte) (first count : BitVec 16) (s : State) :
    Keeps s (execRegionAdd q n first count s) := by
  simp [execRegionAdd]

@[simp] theorem loadRegion_steady (gs : List Nat) (k off : Nat) (data : List Byte) (s : State) :
    (loadRegion gs k off data s).2.steady = s.steady := by
  induction k generalizing off data s with
  | zero => rfl
  | succ k ih =>
    unfold loadRegion
    dsimp only
    split_ifs <;> simp [ih]

@[simp] theorem execRegionLoad_keeps (q : StewReq) (n : Byte) (off len : W64) (host : Bool)
    (data : Option (List Byte)) (s : State) : Keeps s (execRegionLoad q n off len host data s) := by
  unfold execRegionLoad
  refine keeps_of_ite (by simp) (steward_keeps ?_)
  refine keepsOk_of_ite (by simp) (keepsOk_of_ite (by simp) (keepsOk_of_ite (by simp) (keepsOk_of_ite (by simp) ?_)))
  split
  · simp
  · rename_i d
    have h := loadRegion_steady (s.granulesWhere fun x => x == .shared n.toNat)
      ((s.granulesWhere fun x => x == .shared n.toNat).length + 1) off.toNat d s
    refine keepsOk_of_ite (by simp) ?_
    split <;> simp_all

@[simp] theorem execRegionPublish_keeps (q : StewReq) (n : Byte) (readers : BitVec 16) (s : State) :
    Keeps s (execRegionPublish q n readers s) := by
  simp [execRegionPublish]

@[simp] theorem execRegionReaders_keeps (q : StewReq) (n : Byte) (readers : BitVec 16) (s : State) :
    Keeps s (execRegionReaders q n readers s) := by
  simp [execRegionReaders]

@[simp] theorem execRegionWithdraw_keeps (q : StewReq) (n : Byte) (s : State) :
    Keeps s (execRegionWithdraw q n s) := by
  simp [execRegionWithdraw]

@[simp] theorem execStewardLease_keeps (q : StewReq) (res holder : Byte) (s : State) :
    Keeps s (execStewardLease q res holder s) := by
  refine steward_keeps (keepsOk_of_ite (by simp) ?_)
  split <;> simp

@[simp] theorem execViolRead_keeps (q : StewReq) (p : Byte) (s : State) : Keeps s (execViolRead q p s) := by
  simp [execViolRead]

@[simp] theorem execViolClear_keeps (q : StewReq) (p : Byte) (s : State) : Keeps s (execViolClear q p s) := by
  simp [execViolClear]

@[simp] theorem execRepairRead_keeps (q : StewReq) (first : W32) (s : State) :
    Keeps s (execRepairRead q first s) := by
  simp [execRepairRead]

@[simp] theorem execRepairDelete_keeps (q : StewReq) (type : Byte) (loc : W64) (s : State) :
    Keeps s (execRepairDelete q type loc s) := by
  refine steward_keeps ?_
  split <;> simp

@[simp] theorem execMmioGrant_keeps (q : StewReq) (stream : BitVec 16) (s : State) :
    Keeps s (execMmioGrant q stream s) := by
  simp [execMmioGrant]

@[simp] theorem firmware_keeps {q : StewReq} {cmd : Nat} {body : State → Except (Nat × Nat) State} {s : State}
    (h : KeepsOk s (body s)) : Keeps s (firmware q cmd body s) := by
  unfold firmware
  split_ifs
  · simp
  · split
    · simp [h _ ‹_›]
    · simp
  · exact steward_keeps h

@[simp] theorem execFwStage_keeps (q : StewReq) (off : W32) (data : List Byte) (s : State) :
    Keeps s (execFwStage q off data s) := by
  simp [execFwStage]

@[simp] theorem writeFlash_steady (cs : Nat) (s : State) : (writeFlash cs s).steady = s.steady := (rfl)

@[simp] theorem execFwCommit_keeps (q : StewReq) (second first : Bool) (s : State) :
    Keeps s (execFwCommit q second first s) := by
  refine firmware_keeps ?_
  refine keepsOk_of_ite (by simp) (keepsOk_of_ite (by simp) (keepsOk_of_ite (by simp) (keepsOk_of_ite (by simp) ?_)))
  exact keepsOk_of_ite (by simp) (by simp)

@[simp] theorem execTombstoneRead_keeps (q : StewReq) (s : State) : Keeps s (execTombstoneRead q s) := by
  simp [execTombstoneRead]

@[simp] theorem execTombstoneClear_keeps (q : StewReq) (s : State) : Keeps s (execTombstoneClear q s) := by
  refine steward_keeps ?_
  split
  · simp
  · exact keepsOk_of_ite (by simp) (logged_keeps (by simp))

@[simp] theorem execNodeReset_keeps (q : StewReq) (code : BitVec 16) (lost : Bool) (s : State) :
    Keeps s (execNodeReset q code lost s) := by
  refine steward_keeps (keepsOk_of_ite (by simp) (keepsOk_of_ite (by simp) ?_))
  simp

end Sys2Proof.Machine
end

section
/-! SUPPORT. The steady parts are kept. The SMB mailbox, SPDM sessions and measurements, TDISP, IDE streams and peer
admission. -/

namespace Sys2Proof.Machine

@[simp] theorem smbGo_steady (sess : Option Nat) (s : State) : (smbGo sess s).steady = s.steady := by
  simp [smbGo]

@[simp] theorem smbAbort_steady (s : State) : (smbAbort s).steady = s.steady := (rfl)

@[simp] theorem execSmbGo_keeps (sess : Option Nat) (s : State) : Keeps s (execSmbGo sess s) := by
  simp [execSmbGo]

@[simp] theorem execSmbAbort_keeps (s : State) : Keeps s (execSmbAbort s) := by
  simp [execSmbAbort]

@[simp] theorem smSend_steady (sess : Option Nat) (o : SmOut) (s : State) :
    (smSend sess o s).steady = s.steady := (rfl)

@[simp] theorem execGetMeasurements_keeps (sess : Option Nat) (s : State) : Keeps s (execGetMeasurements sess s) := by
  simp [execGetMeasurements]

@[simp] theorem execSpdmFragment_keeps (k : Fin 6) (p : Packet) (s : State) : Keeps s (execSpdmFragment k p s) := by
  simp [execSpdmFragment]

@[simp] theorem execSpdmSessionEstablished_keeps (id : W32) (transport : Fin 5) (link : Fin 6) (mutualAuth : Bool)
    (root : BitVec 384) (digests : List (BitVec 384)) (s : State) :
    Keeps s (execSpdmSessionEstablished id transport link mutualAuth root digests s) := by
  simp [execSpdmSessionEstablished]

@[simp] theorem execSpdmSessionEnd_keeps (id : W32) (s : State) : Keeps s (execSpdmSessionEnd id s) := by
  unfold execSpdmSessionEnd
  split <;> simp

@[simp] theorem tdisp_keeps {sess : W32} {body : State → Bool × State} {s : State}
    (h : (body s).2.steady = s.steady) : Keeps s (tdisp sess body s) := by
  unfold tdisp
  split
  · simp
  · split_ifs <;> simp [h]

@[simp] theorem execLockInterface_keeps (sess : W32) (p : Fin 16) (s : State) :
    Keeps s (execLockInterface sess p s) := by
  unfold execLockInterface
  grind [State.setTdi_steady, tdisp_keeps]

@[simp] theorem execStartInterface_keeps (sess : W32) (p : Fin 16) (s : State) :
    Keeps s (execStartInterface sess p s) := by
  unfold execStartInterface
  grind [State.setTdi_steady, tdisp_keeps]

@[simp] theorem execStopInterface_keeps (sess : W32) (p : Fin 16) (s : State) :
    Keeps s (execStopInterface sess p s) := by
  unfold execStopInterface
  grind [State.setTdi_steady, partitionReset_steady, tdisp_keeps]

@[simp] theorem execGetDeviceInterfaceReport_keeps (sess : W32) (p : Fin 16) (s : State) :
    Keeps s (execGetDeviceInterfaceReport sess p s) := by
  unfold execGetDeviceInterfaceReport
  split <;> simp

@[simp] theorem execIdeIntegrityFailure_keeps (p : Fin 16) (s : State) : Keeps s (execIdeIntegrityFailure p s) := by
  simp [execIdeIntegrityFailure]

@[simp] theorem endStreams_steady (f : IdeStream → Bool) (s : State) : (endStreams f s).steady = s.steady := (rfl)

@[simp] theorem execIdeKm_keeps (sess : W32) (op : Fin 3) (stream : Byte) (s : State) :
    Keeps s (execIdeKm sess op stream s) := by
  unfold execIdeKm
  grind [State.steady_mk, endStreams_steady, tdisp_keeps]

@[simp] theorem admitWrite_steady (p i j v : Nat) (s : State) : (admitWrite p i j v s).steady = s.steady := by
  simp [admitWrite]

@[simp] theorem execPwAdmitWrite_keeps (p i : Fin 16) (j : Fin 7) (v : W64) (s : State) :
    Keeps s (execPwAdmitWrite p i j v s) := by
  simp [execPwAdmitWrite]

end Sys2Proof.Machine
end

section
/-! SUPPORT. The steady parts are kept. The host side and the sideband: PCIe link and functions, MSI-X, event queues,
I3C and MCTP, power and temperature. -/

namespace Sys2Proof.Machine

@[simp] theorem evtCfgWrite_steady (v : Nat) (s : State) : (evtCfgWrite v s).steady = s.steady := by
  refine steady_of_ite ?_ (by simp)
  exact (State.steady_mk ..).trans (by simp)

@[simp] theorem partEvtCfgWrite_steady (p v : Nat) (s : State) : (partEvtCfgWrite p v s).steady = s.steady := by
  simp [partEvtCfgWrite]

@[simp] theorem queueHead_steady (head tail err : Fld) (v : Nat) (s : State) :
    (queueHead head tail err v s).steady = s.steady := by
  simp [queueHead]

@[simp] theorem evtHeadWrite_steady (v : Nat) (s : State) : (evtHeadWrite v s).steady = s.steady := by
  simp [evtHeadWrite]

@[simp] theorem partEvtHeadWrite_steady (p v : Nat) (s : State) : (partEvtHeadWrite p v s).steady = s.steady := by
  simp [partEvtHeadWrite]

@[simp] theorem execEvtQEnable_keeps (part : Option (Fin 16)) (size : BitVec 5) (ctx : BitVec 12) (s : State) :
    Keeps s (execEvtQEnable part size ctx s) := by
  unfold execEvtQEnable
  split <;> simp

@[simp] theorem execEvtQHeadWrite_keeps (part : Option (Fin 16)) (v : W32) (s : State) :
    Keeps s (execEvtQHeadWrite part v s) := by
  unfold execEvtQHeadWrite
  split <;> simp

@[simp] theorem flushVector_steady (fn vec : Nat) (s : State) : (flushVector fn vec s).steady = s.steady := by
  simp [flushVector]

@[simp] theorem flushVectors_steady (s : State) : (flushVectors s).steady = s.steady := by
  simp [flushVectors]

@[simp] theorem msixWrite_steady (fn word v : Nat) (s : State) : (msixWrite fn word v s).steady = s.steady := by
  simp [msixWrite]

@[simp] theorem execMsixUnmask_keeps (fn : Fin 17) (vec : Fin 64) (s : State) :
    Keeps s (execMsixUnmask fn vec s) := by
  simp [execMsixUnmask]

@[simp] theorem resetFunction_steady (fn : Nat) (s : State) : (resetFunction fn s).steady = s.steady := (rfl)

@[simp] theorem resetPf0_steady (s : State) : (resetPf0 s).steady = s.steady := (rfl)

@[simp] theorem execPciePerstNAssert_keeps (s : State) : Keeps s (execPciePerstNAssert s) := by
  simp [execPciePerstNAssert]

@[simp] theorem execPcieLinkUp_keeps (width : BitVec 6) (speed : BitVec 4) (numVfs : Fin 17) (vfMse : Bool)
    (enabled masked : List (Fin 17)) (s : State) :
    Keeps s (execPcieLinkUp width speed numVfs vfMse enabled masked s) := by
  simp [execPcieLinkUp]

@[simp] theorem execPcieLinkDown_keeps (s : State) : Keeps s (execPcieLinkDown s) := by
  simp [execPcieLinkDown]

@[simp] theorem execVfFlr_keeps (p : Fin 16) (s : State) : Keeps s (execVfFlr p s) := by
  simp [execVfFlr]

@[simp] theorem execPf0Flr_keeps (s : State) : Keeps s (execPf0Flr s) := by
  simp [execPf0Flr]

@[simp] theorem execI3cCcc_keeps (c : I3cCcc) (s : State) : Keeps s (execI3cCcc c s) := by
  unfold execI3cCcc
  split <;> simp

@[simp] theorem mctpSend_steady (transport type : Nat) (b : List Byte) (s : State) :
    (mctpSend transport type b s).steady = s.steady := (rfl)

@[simp] theorem telemetry_steady (transport : Nat) (s : State) : (telemetry transport s).steady = s.steady := (rfl)

@[simp] theorem alertAck_steady (transport : Nat) (s : State) : (alertAck transport s).steady = s.steady := by
  simp [alertAck]

@[simp] theorem onTransport_keeps {t : Fin 3} {f : State → State} {s : State} (h : (f s).steady = s.steady) :
    Keeps s (onTransport t f s) := by
  simp [onTransport, h]

@[simp] theorem execTelemetry_keeps (t : Fin 3) (s : State) : Keeps s (execTelemetry t s) := by
  simp [execTelemetry]

@[simp] theorem execAlertAck_keeps (t : Fin 3) (s : State) : Keeps s (execAlertAck t s) := by
  simp [execAlertAck]

@[simp] theorem execMctpMessage_keeps (t : Fin 3) (m : MctpMsg) (s : State) : Keeps s (execMctpMessage t m s) := by
  unfold execMctpMessage
  split <;> simp

@[simp] theorem execAvsCurrentRead_keeps (current : BitVec 16) (s : State) :
    Keeps s (execAvsCurrentRead current s) := by
  simp [execAvsCurrentRead]

@[simp] theorem evalThrottle_steady (s : State) : (evalThrottle s).steady = s.steady := by
  simp [evalThrottle]

@[simp] theorem evalWarn_steady (hadValid : Bool) (s : State) : (evalWarn hadValid s).steady = s.steady := by
  unfold evalWarn
  split <;> simp

@[simp] theorem takeReadings_steady (rs : List (Option (BitVec 12))) (s : State) :
    (takeReadings rs s).steady = s.steady := by
  unfold takeReadings
  dsimp only
  split
  all_goals
    simp only [State.put_steady]
    refine State.each_steady _ _ _ fun x t => ?_
    split <;> simp

@[simp] theorem execSensorUpdate_keeps (rs : List (Option (BitVec 12))) (s : State) :
    Keeps s (execSensorUpdate rs s) := by
  simp [execSensorUpdate]

@[simp] theorem execProchotNChange_keeps (low held : Bool) (s : State) : Keeps s (execProchotNChange low held s) := by
  simp [execProchotNChange]

end Sys2Proof.Machine
end

section
/-! SUPPORT. The steady parts are kept. The test island: the TAP and pad control, and test jobs. -/

namespace Sys2Proof.Machine

@[simp] theorem setIr_steady (op : Nat) (s : State) : (setIr op s).steady = s.steady := (rfl)

@[simp] theorem padEvent_steady (op enter : Nat) (s : State) : (padEvent op enter s).steady = s.steady := by
  simp [padEvent]

@[simp] theorem dpLost_steady (s : State) : (dpLost s).steady = s.steady := by
  simp [dpLost]

@[simp] theorem enterPads_steady (op : Nat) (s : State) : (enterPads op s).steady = s.steady := by
  simp [enterPads]

@[simp] theorem leavePads_steady (s : State) : (leavePads s).steady = s.steady := by
  unfold leavePads
  split <;> simp

@[simp] theorem execTapInstruction_keeps (op : Byte) (forming : Bool) (s : State) :
    Keeps s (execTapInstruction op forming s) := by
  simp [execTapInstruction]

@[simp] theorem execPadControlExit_keeps (op : Byte) (s : State) : Keeps s (execPadControlExit op s) := by
  simp [execPadControlExit]

@[simp] theorem tapReset_steady (s : State) : (tapReset s).steady = s.steady := by
  simp [tapReset]

@[simp] theorem execTrstNAssert_keeps (s : State) : Keeps s (execTrstNAssert s) := by
  simp [execTrstNAssert]

@[simp] theorem execTestLogicReset_keeps (s : State) : Keeps s (execTestLogicReset s) := by
  simp [execTestLogicReset]

@[simp] theorem jobTarget_steady (j : TestJob) (s : State) : (jobTarget j s).steady = s.steady := by
  simp [jobTarget]

@[simp] theorem jobStart_steady (s : State) : (jobStart s).steady = s.steady := by
  unfold jobStart
  grind [State.steady_mk, testDone_steady, State.put_steady, jobTarget_steady]

@[simp] theorem jobAbort_steady (s : State) : (jobAbort s).steady = s.steady := by
  simp [jobAbort]

@[simp] theorem jobCmd_steady (key : Nat) (s : State) : (jobCmd key s).steady = s.steady := by
  simp [jobCmd]

@[simp] theorem execTstJobStart_keeps (s : State) : Keeps s (execTstJobStart s) := by
  simp [execTstJobStart]

@[simp] theorem execTstJobAbort_keeps (s : State) : Keeps s (execTstJobAbort s) := by
  simp [execTstJobAbort]

@[simp] theorem jobCounts_steady (j : TestJob) (locked bitsN errs : Nat) (s : State) :
    (jobCounts j locked bitsN errs s).steady = s.steady := by
  simp [jobCounts]

@[simp] theorem jobThreshold_steady (s : State) : (jobThreshold s).steady = s.steady := by
  unfold jobThreshold
  split <;> simp

@[simp] theorem execTstErrThrReached_keeps (locked : BitVec 9) (bitsN errs : W64) (s : State) :
    Keeps s (execTstErrThrReached locked bitsN errs s) := by
  unfold execTstErrThrReached
  split <;> simp

@[simp] theorem execTstJobEnd_keeps (locked : BitVec 9) (bitsN errs : W64) (targetFailed : Bool) (s : State) :
    Keeps s (execTstJobEnd locked bitsN errs targetFailed s) := by
  unfold execTstJobEnd
  split <;> simp

@[simp] theorem testRow_steady (x : SramRow) (s : State) : (testRow x s).steady = s.steady := by
  simp [testRow]

@[simp] theorem execSelfTestJobDone_keeps (rows : List (BitVec 16)) (pass : Bool) (s : State) :
    Keeps s (execSelfTestJobDone rows pass s) := by
  unfold execSelfTestJobDone
  split <;> simp

end Sys2Proof.Machine
end

section
/-! SUPPORT. The steady parts are kept. Island resets: CKR_ISL_RST. -/

namespace Sys2Proof.Machine

@[simp] theorem loadIsland_steady (n : Nat) (s : State) : (loadIsland n s).steady = s.steady := (rfl)

@[simp] theorem resetRaster_steady (s : State) : (resetRaster s).steady = s.steady := by
  unfold resetRaster
  refine (loadIsland_steady ..).trans ((State.steady_mk ..).trans ((State.each_steady _ _ _ fun sh t => ?_).trans ?_))
  · split <;> simp
  · simp

@[simp] theorem resetDisplay_steady (s : State) : (resetDisplay s).steady = s.steady := by
  simp [resetDisplay]

@[simp] theorem resetPvid_steady (s : State) : (resetPvid s).steady = s.steady := by
  simp [resetPvid]

@[simp] theorem resetPctl_steady (s : State) : (resetPctl s).steady = s.steady := by
  refine (loadIsland_steady ..).trans ((State.steady_mk ..).trans ?_)
  simp only [State.put_steady]
  refine (State.each_steady _ _ _ (by simp)).trans ?_
  rw [dropPages_steady, interruptPath_steady, lockLost_steady, beamsOff_steady, State.steady_mk]

@[simp] theorem resetTest_steady (s : State) : (resetTest s).steady = s.steady := by
  simp [resetTest]

@[simp] theorem islandReset_steady (n : Nat) (s : State) : (islandReset n s).steady = s.steady := by
  simp [islandReset]

@[simp] theorem islRstWrite_steady (v : Nat) (s : State) : (islRstWrite v s).steady = s.steady := by
  simp [islRstWrite]

@[simp] theorem execIslandReset_keeps (n : Fin 25) (s : State) : Keeps s (execIslandReset n s) := by
  simp [execIslandReset]

end Sys2Proof.Machine
end

section
/-! SUPPORT. The steady parts are kept. The memory commands: line requests, lazy clean and scrub, device retirement,
row repair, channel faults and memory start. -/

namespace Sys2Proof.Machine

@[simp] theorem execLineRead_keeps (line : Nat) (errs : List (Nat × List (Nat × Nat))) (l2bad : List Nat)
    (s : State) : Keeps s (execLineRead line errs l2bad s) := by
  simp [execLineRead]

@[simp] theorem execLineWrite_keeps (line : Nat) (data : List Byte) (s : State) :
    Keeps s (execLineWrite line data s) := by
  simp [execLineWrite]

@[simp] theorem execPartialLineWrite_keeps (line : Nat) (mask : W64) (data : List Byte) (s : State) :
    Keeps s (execPartialLineWrite line mask data s) := by
  simp [execPartialLineWrite]

@[simp] theorem execLazyCleanVisit_keeps (s : State) : Keeps s (execLazyCleanVisit s) := by
  simp [execLazyCleanVisit]

@[simp] theorem endPass_steady (s : State) : (endPass s).steady = s.steady := (rfl)

@[simp] theorem execPatrolScrubRead_keeps (errs : List (Nat × List (Nat × Nat))) (s : State) :
    Keeps s (execPatrolScrubRead errs s) := by
  unfold execPatrolScrubRead Keeps
  grind [State.steady_mk, endPass_steady, readServed_steady, addErrors_steady]

@[simp] theorem mcCmdWrite_steady (ch : Nat) (v : W32) (s : State) : (mcCmdWrite ch v s).steady = s.steady := by
  simp [mcCmdWrite]

@[simp] theorem execMcCmdRetire_keeps (ch : Fin 24) (v : W32) (s : State) : Keeps s (execMcCmdRetire ch v s) := by
  simp [execMcCmdRetire]

@[simp] theorem softPprDone_steady (r : RowRepair) (s : State) : (softPprDone r s).steady = s.steady := by
  simp [softPprDone]

@[simp] theorem execSoftPprDone_keeps (i : Nat) (s : State) : Keeps s (execSoftPprDone i s) := by
  unfold execSoftPprDone
  split <;> simp

@[simp] theorem pprCmdWrite_steady (v : W32) (s : State) : (pprCmdWrite v s).steady = s.steady := by
  simp [pprCmdWrite]

@[simp] theorem execHardPprCmd_keeps (v : W32) (s : State) : Keeps s (execHardPprCmd v s) := by
  simp [execHardPprCmd]

@[simp] theorem hardPprDone_steady (ch : Nat) (s : State) : (hardPprDone ch s).steady = s.steady := by
  simp [hardPprDone]

@[simp] theorem execHardPprDone_keeps (s : State) : Keeps s (execHardPprDone s) := by
  unfold execHardPprDone
  split <;> simp

@[simp] theorem channelFault_steady (ch : Nat) (s : State) : (channelFault ch s).steady = s.steady := by
  simp [channelFault]

@[simp] theorem execRcdAlert_keeps (ch : Fin 24) (replayOk lostTraining : Bool) (s : State) :
    Keeps s (execRcdAlert ch replayOk lostTraining s) := by
  simp [execRcdAlert]

@[simp] theorem execChannelRetrainDone_keeps (ch : Fin 24) (ok : Bool) (s : State) :
    Keeps s (execChannelRetrainDone ch ok s) := by
  simp [execChannelRetrainDone]

@[simp] theorem smSetRate_steady (rate : Nat) (s : State) : (smSetRate rate s).steady = s.steady := by
  simp [smSetRate]

@[simp] theorem loadDramRecord_steady (s : State) : (loadDramRecord s).steady = s.steady := by
  simp [loadDramRecord]

@[simp] theorem channelStartFail_steady (ch : Nat) (s : State) : (channelStartFail ch s).steady = s.steady := by
  simp [channelStartFail]

@[simp] theorem openPool_steady (s : State) : (openPool s).steady = s.steady := by
  simp [openPool]

@[simp] theorem trainingEnd_steady (s : State) : (trainingEnd s).steady = s.steady := by
  simp [trainingEnd]

@[simp] theorem memoryStart_steady (pops : List DimmPop) (s : State) : (memoryStart pops s).steady = s.steady := by
  simp [memoryStart]

@[simp] theorem memoryReturn_steady (cfg gran : Nat) (up : NSet) (s : State) :
    (memoryReturn cfg gran up s).steady = s.steady := by
  simp [memoryReturn]

@[simp] theorem execMemoryStart_keeps (pops : List DimmPop) (s : State) : Keeps s (execMemoryStart pops s) := by
  unfold execMemoryStart Keeps
  grind [memoryStart_steady, memoryReturn_steady]

@[simp] theorem execChannelTrainingDone_keeps (ch : Fin 24) (ok : Bool) (s : State) :
    Keeps s (execChannelTrainingDone ch ok s) := by
  simp [execChannelTrainingDone]

@[simp] theorem execMemRequestHoldExpiry_keeps (i : Nat) (s : State) : Keeps s (execMemRequestHoldExpiry i s) := by
  unfold execMemRequestHoldExpiry
  split <;> simp

end Sys2Proof.Machine
end

section
/-! SUPPORT. The steady parts are kept. Register accesses: what each register reads as, what a write of it does, half-
width accesses, who reaches what, and the steward's REG_READ and REG_WRITE. -/

namespace Sys2Proof.Machine

@[simp] theorem fpCtlWrite_steady (n v : Nat) (s : State) : (fpCtlWrite n v s).steady = s.steady := by
  simp [fpCtlWrite]

@[simp] theorem tnsStatusWrite_steady (v : Nat) (s : State) : (tnsStatusWrite v s).steady = s.steady := by
  simp [tnsStatusWrite]

@[simp] theorem whileOff_steady (en : Fld) (key v : Nat) (s : State) : (whileOff en key v s).steady = s.steady := by
  simp [whileOff]

@[simp] theorem nodeRstWrite_steady (code : Nat) (s : State) : (nodeRstWrite code s).steady = s.steady := by
  simp [nodeRstWrite]

@[simp] theorem mgmtWrite_steady (name : String) (key b i v : Nat) (e : RegEnv) (s : State) :
    (mgmtWrite name key b i v e s).steady = s.steady := by
  unfold mgmtWrite
  split <;> simp

@[simp] theorem windowWrite_steady (name : String) (key p i v : Nat) (e : RegEnv) (s : State) :
    (windowWrite name key p i v e s).steady = s.steady := by
  unfold windowWrite
  split <;> simp

@[simp] theorem regWrite_steady (key v : Nat) (e : RegEnv) (s : State) : (regWrite key v e s).steady = s.steady := by
  unfold regWrite
  split <;> simp

@[simp] theorem write32_steady (key v : Nat) (e : RegEnv) (s : State) : (write32 key v e s).steady = s.steady := by
  unfold write32
  grind [State.steady_mk, regWrite_steady]

@[simp] theorem write64_steady (key v : Nat) (e : RegEnv) (s : State) : (write64 key v e s).steady = s.steady := by
  simp [write64]

@[simp] theorem read32_steady (key : Nat) (s : State) : (read32 key s).2.steady = s.steady := by
  unfold read32
  grind [State.steady_mk]

@[simp] theorem read64_steady (key : Nat) (s : State) : (read64 key s).2.steady = s.steady := by
  unfold read64
  split_ifs <;> simp

@[simp] theorem execRegisterWrite_keeps (path : RegPath) (off : BitVec 24) (wide : Bool) (v : W64) (e : RegEnv)
    (lost : Bool) (s : State) : Keeps s (execRegisterWrite path off wide v e lost s) := by
  unfold execRegisterWrite Keeps
  grind [State.bump_steady, write64_steady, write32_steady]

@[simp] theorem execLowerHalfRead_keeps (path : RegPath) (off : BitVec 24) (wide : Bool) (s : State) :
    Keeps s (execLowerHalfRead path off wide s) := by
  unfold execLowerHalfRead Keeps
  grind [read32_steady, State.host_steady, read64_steady]

@[simp] theorem execRegRead_keeps (q : StewReq) (off : W32) (width : Byte) (s : State) :
    Keeps s (execRegRead q off width s) := by
  refine steward_keeps (keepsOk_of_ite (by simp) ?_)
  dsimp only
  split_ifs <;> simp

@[simp] theorem execRegWrite_keeps (q : StewReq) (off : W32) (width : Byte) (v : W64) (e : RegEnv)
    (lost : Option Byte) (s : State) : Keeps s (execRegWrite q off width v e lost s) := by
  refine steward_keeps (keepsOk_of_ite (by simp) ?_)
  split
  · simp
  · simp

end Sys2Proof.Machine
end

section
/-! SUPPORT. The steady parts are kept. The stages of start-up that end with a verified firmware image and with built-
in self-test: keys, the board and repair records, and the maps of logical onto physical units. -/

namespace Sys2Proof.Machine

@[simp] theorem boardEntry_steady (e : Nat × Nat) (s : State) : (boardEntry e s).steady = s.steady := by
  simp [boardEntry]

@[simp] theorem takeRepairRecord_steady (s : State) : (takeRepairRecord s).steady = s.steady := by
  simp [takeRepairRecord]

@[simp] theorem demoteReturn_steady (s : State) : (demoteReturn s).steady = s.steady := by
  simp [demoteReturn]

@[simp] theorem bootFail_steady (s : State) : (bootFail s).steady = s.steady := by
  simp [bootFail]

@[simp] theorem startImage_steady (i : Image) (s : State) : (startImage i s).steady = s.steady := by
  simp [startImage]

@[simp] theorem execFirmwareImageLoaded_keeps (flash : Option (Image × Image)) (erase keysOk : Bool) (s : State) :
    Keeps s (execFirmwareImageLoaded flash erase keysOk s) := by
  unfold execFirmwareImageLoaded Keeps
  grind [State.steady_mk, bootFail_steady, startImage_steady, demoteReturn_steady]

@[simp] theorem startRow_steady (t : List SramRow × State) (x : SramRow) : (startRow t x).2.steady = t.2.steady := by
  unfold startRow
  dsimp only
  split_ifs <;> simp

@[simp] theorem startDead_steady (dead : List SramRow) (s : State) : (startDead dead s).steady = s.steady := by
  simp [startDead]

@[simp] theorem buildMap_steady (k : UnitKind) (fused failed : Nat → Bool) (cl : Nat) (s : State) :
    (buildMap k fused failed cl s).steady = s.steady := by
  unfold buildMap
  refine (State.each_steady _ _ _ fun i t => ?_).trans ((State.each_steady _ _ _ fun i t => by simp).trans
    ((State.each_steady _ _ _ fun p t => ?_).trans ?_))
  · split <;> simp
  · dsimp only
    split <;> simp
  · simp

@[simp] theorem buildMaps_steady (engines cores blocks : List Nat) (s : State) :
    (buildMaps engines cores blocks s).steady = s.steady := by
  rw [buildMaps, syncAllUnits_steady, State.each_steady, State.steady_mk]
  simp

@[simp] theorem execSelfTestComplete_keeps (engines : List (Fin 4 × Fin 13)) (cores : List (Fin 4 × Fin 18))
    (rows : List (Byte × BitVec 16 × BitVec 16)) (s : State) :
    Keeps s (execSelfTestComplete engines cores rows s) := by
  have h (l : List SramRow) : (l.foldl startRow ([], s)).2.steady = s.steady := by simp
  refine keeps_of_ite (by simp) ?_
  dsimp only
  split <;> simp [h]

end Sys2Proof.Machine
end

section
/-! SUPPORT. The steady parts are kept. KCS instructions that a core runs itself: control, scalar arithmetic,
predicates, descriptor assembly, scalar memory access and the core store. -/

namespace Sys2Proof.Machine

@[simp] theorem execNop_keeps (r : Fin 132) (g : Guard) (s : State) : Keeps s (execNop r g s) := by
  simp [execNop]

@[simp] theorem execJmp_keeps (r : Fin 132) (g : Guard) (off : BitVec 32) (s : State) :
    Keeps s (execJmp r g off s) := by
  simp [execJmp]

@[simp] theorem execLoop_keeps (r : Fin 132) (g : Guard) (a : Fin 32) (off : BitVec 32) (s : State) :
    Keeps s (execLoop r g a off s) := by
  simp [execLoop]

@[simp] theorem execJz_keeps (r : Fin 132) (g : Guard) (a : Fin 32) (off : BitVec 32) (s : State) :
    Keeps s (execJz r g a off s) := by
  simp [execJz]

@[simp] theorem execJnz_keeps (r : Fin 132) (g : Guard) (a : Fin 32) (off : BitVec 32) (s : State) :
    Keeps s (execJnz r g a off s) := by
  simp [execJnz]

@[simp] theorem execAdd_keeps (r : Fin 132) (g : Guard) (a b c : Fin 32) (s : State) :
    Keeps s (execAdd r g a b c s) := by
  simp [execAdd]

@[simp] theorem execSub_keeps (r : Fin 132) (g : Guard) (a b c : Fin 32) (s : State) :
    Keeps s (execSub r g a b c s) := by
  simp [execSub]

@[simp] theorem execMul_keeps (r : Fin 132) (g : Guard) (a b c : Fin 32) (s : State) :
    Keeps s (execMul r g a b c s) := by
  simp [execMul]

@[simp] theorem execMulhu_keeps (r : Fin 132) (g : Guard) (a b c : Fin 32) (s : State) :
    Keeps s (execMulhu r g a b c s) := by
  simp [execMulhu]

@[simp] theorem execDivu_keeps (r : Fin 132) (g : Guard) (a b c : Fin 32) (s : State) :
    Keeps s (execDivu r g a b c s) := by
  simp [execDivu]

@[simp] theorem execRemu_keeps (r : Fin 132) (g : Guard) (a b c : Fin 32) (s : State) :
    Keeps s (execRemu r g a b c s) := by
  simp [execRemu]

@[simp] theorem execAnd_keeps (r : Fin 132) (g : Guard) (a b c : Fin 32) (s : State) :
    Keeps s (execAnd r g a b c s) := by
  simp [execAnd]

@[simp] theorem execOr_keeps (r : Fin 132) (g : Guard) (a b c : Fin 32) (s : State) :
    Keeps s (execOr r g a b c s) := by
  simp [execOr]

@[simp] theorem execXor_keeps (r : Fin 132) (g : Guard) (a b c : Fin 32) (s : State) :
    Keeps s (execXor r g a b c s) := by
  simp [execXor]

@[simp] theorem execShl_keeps (r : Fin 132) (g : Guard) (a b c : Fin 32) (s : State) :
    Keeps s (execShl r g a b c s) := by
  simp [execShl]

@[simp] theorem execShr_keeps (r : Fin 132) (g : Guard) (a b c : Fin 32) (s : State) :
    Keeps s (execShr r g a b c s) := by
  simp [execShr]

@[simp] theorem execSra_keeps (r : Fin 132) (g : Guard) (a b c : Fin 32) (s : State) :
    Keeps s (execSra r g a b c s) := by
  simp [execSra]

@[simp] theorem execMinu_keeps (r : Fin 132) (g : Guard) (a b c : Fin 32) (s : State) :
    Keeps s (execMinu r g a b c s) := by
  simp [execMinu]

@[simp] theorem execMaxu_keeps (r : Fin 132) (g : Guard) (a b c : Fin 32) (s : State) :
    Keeps s (execMaxu r g a b c s) := by
  simp [execMaxu]

@[simp] theorem execMin_keeps (r : Fin 132) (g : Guard) (a b c : Fin 32) (s : State) :
    Keeps s (execMin r g a b c s) := by
  simp [execMin]

@[simp] theorem execMax_keeps (r : Fin 132) (g : Guard) (a b c : Fin 32) (s : State) :
    Keeps s (execMax r g a b c s) := by
  simp [execMax]

@[simp] theorem execAddi_keeps (r : Fin 132) (g : Guard) (a b : Fin 32) (imm : BitVec 38) (s : State) :
    Keeps s (execAddi r g a b imm s) := by
  simp [execAddi]

@[simp] theorem execAndi_keeps (r : Fin 132) (g : Guard) (a b : Fin 32) (imm : BitVec 38) (s : State) :
    Keeps s (execAndi r g a b imm s) := by
  simp [execAndi]

@[simp] theorem execOri_keeps (r : Fin 132) (g : Guard) (a b : Fin 32) (imm : BitVec 38) (s : State) :
    Keeps s (execOri r g a b imm s) := by
  simp [execOri]

@[simp] theorem execXori_keeps (r : Fin 132) (g : Guard) (a b : Fin 32) (imm : BitVec 38) (s : State) :
    Keeps s (execXori r g a b imm s) := by
  simp [execXori]

@[simp] theorem execShli_keeps (r : Fin 132) (g : Guard) (a b : Fin 32) (sh : Fin 64) (s : State) :
    Keeps s (execShli r g a b sh s) := by
  simp [execShli]

@[simp] theorem execShri_keeps (r : Fin 132) (g : Guard) (a b : Fin 32) (sh : Fin 64) (s : State) :
    Keeps s (execShri r g a b sh s) := by
  simp [execShri]

@[simp] theorem execSrai_keeps (r : Fin 132) (g : Guard) (a b : Fin 32) (sh : Fin 64) (s : State) :
    Keeps s (execSrai r g a b sh s) := by
  simp [execSrai]

@[simp] theorem execLi_keeps (r : Fin 132) (g : Guard) (a : Fin 32) (imm : BitVec 38) (s : State) :
    Keeps s (execLi r g a imm s) := by
  simp [execLi]

@[simp] theorem execLix_keeps (r : Fin 132) (g : Guard) (a : Fin 32) (w : W64) (s : State) :
    Keeps s (execLix r g a w s) := by
  simp [execLix]

@[simp] theorem execSel_keeps (r : Fin 132) (g : Guard) (a b c : Fin 32) (x : Fin 8) (s : State) :
    Keeps s (execSel r g a b c x s) := by
  simp [execSel]

@[simp] theorem execTime_keeps (r : Fin 132) (g : Guard) (a : Fin 32) (s : State) : Keeps s (execTime r g a s) := by
  simp [execTime]

@[simp] theorem execRinfo_keeps (r : Fin 132) (g : Guard) (a : Fin 32) (s : State) : Keeps s (execRinfo r g a s) := by
  simp [execRinfo]

@[simp] theorem execCeq_keeps (r : Fin 132) (g : Guard) (a : Fin 8) (b c : Fin 32) (s : State) :
    Keeps s (execCeq r g a b c s) := by
  simp [execCeq]

@[simp] theorem execCne_keeps (r : Fin 132) (g : Guard) (a : Fin 8) (b c : Fin 32) (s : State) :
    Keeps s (execCne r g a b c s) := by
  simp [execCne]

@[simp] theorem execCltu_keeps (r : Fin 132) (g : Guard) (a : Fin 8) (b c : Fin 32) (s : State) :
    Keeps s (execCltu r g a b c s) := by
  simp [execCltu]

@[simp] theorem execClt_keeps (r : Fin 132) (g : Guard) (a : Fin 8) (b c : Fin 32) (s : State) :
    Keeps s (execClt r g a b c s) := by
  simp [execClt]

@[simp] theorem execCgeu_keeps (r : Fin 132) (g : Guard) (a : Fin 8) (b c : Fin 32) (s : State) :
    Keeps s (execCgeu r g a b c s) := by
  simp [execCgeu]

@[simp] theorem execCge_keeps (r : Fin 132) (g : Guard) (a : Fin 8) (b c : Fin 32) (s : State) :
    Keeps s (execCge r g a b c s) := by
  simp [execCge]

@[simp] theorem execCeqi_keeps (r : Fin 132) (g : Guard) (a : Fin 8) (b : Fin 32) (imm : BitVec 38) (s : State) :
    Keeps s (execCeqi r g a b imm s) := by
  simp [execCeqi]

@[simp] theorem execCltui_keeps (r : Fin 132) (g : Guard) (a : Fin 8) (b : Fin 32) (imm : BitVec 38) (s : State) :
    Keeps s (execCltui r g a b imm s) := by
  simp [execCltui]

@[simp] theorem execPand_keeps (r : Fin 132) (g : Guard) (a b c : Fin 8) (s : State) :
    Keeps s (execPand r g a b c s) := by
  simp [execPand]

@[simp] theorem execPor_keeps (r : Fin 132) (g : Guard) (a b c : Fin 8) (s : State) :
    Keeps s (execPor r g a b c s) := by
  simp [execPor]

@[simp] theorem execPxor_keeps (r : Fin 132) (g : Guard) (a b c : Fin 8) (s : State) :
    Keeps s (execPxor r g a b c s) := by
  simp [execPxor]

@[simp] theorem execPandn_keeps (r : Fin 132) (g : Guard) (a b c : Fin 8) (s : State) :
    Keeps s (execPandn r g a b c s) := by
  simp [execPandn]

@[simp] theorem execPset_keeps (r : Fin 132) (g : Guard) (a : Fin 8) (b : Fin 32) (s : State) :
    Keeps s (execPset r g a b s) := by
  simp [execPset]

@[simp] theorem execDld_keeps (r : Fin 132) (g : Guard) (a : Fin 16) (b : Fin 32) (s : State) :
    Keeps s (execDld r g a b s) := by
  unfold execDld
  grind [ringRead_steady, access_steady, kcs_keeps, State.setProg_steady, endAt_steady]

@[simp] theorem execDst_keeps (r : Fin 132) (g : Guard) (a : Fin 16) (b : Fin 32) (s : State) :
    Keeps s (execDst r g a b s) := by
  unfold execDst
  grind [access_steady, kcs_keeps, ringWrite_steady, State.setProg_steady, endAt_steady]

@[simp] theorem execDget_keeps (r : Fin 132) (g : Guard) (a : Fin 32) (b : Fin 16) (x : Fin 8) (s : State) :
    Keeps s (execDget r g a b x s) := by
  simp [execDget]

@[simp] theorem execDset_keeps (r : Fin 132) (g : Guard) (a : Fin 16) (b : Fin 32) (x : Fin 8) (s : State) :
    Keeps s (execDset r g a b x s) := by
  simp [execDset]

@[simp] theorem execDseti_keeps (r : Fin 132) (g : Guard) (a : Fin 16) (b : Fin 8) (imm : BitVec 38) (s : State) :
    Keeps s (execDseti r g a b imm s) := by
  simp [execDseti]

@[simp] theorem execDsetx_keeps (r : Fin 132) (g : Guard) (a : Fin 16) (b : Fin 8) (ws : List W64) (s : State) :
    Keeps s (execDsetx r g a b ws s) := by
  simp [execDsetx]

@[simp] theorem execDclr_keeps (r : Fin 132) (g : Guard) (a : Fin 16) (s : State) : Keeps s (execDclr r g a s) := by
  simp [execDclr]

@[simp] theorem execDmov_keeps (r : Fin 132) (g : Guard) (a b : Fin 16) (s : State) :
    Keeps s (execDmov r g a b s) := by
  simp [execDmov]

@[simp] theorem loadOp_keeps (r : Fin 132) (g : Guard) (opc : Nat) (signed : Bool) (a b : Fin 32) (sz : Fin 4)
    (imm : BitVec 36) (s : State) : Keeps s (loadOp r g opc signed a b sz imm s) := by
  unfold loadOp
  grind [ringRead_steady, access_steady, kcs_keeps, State.setProg_steady, endAt_steady]

@[simp] theorem execLd_keeps (r : Fin 132) (g : Guard) (a b : Fin 32) (sz : Fin 4) (imm : BitVec 36) (s : State) :
    Keeps s (execLd r g a b sz imm s) := by
  simp [execLd]

@[simp] theorem execLds_keeps (r : Fin 132) (g : Guard) (a b : Fin 32) (sz : Fin 4) (imm : BitVec 36) (s : State) :
    Keeps s (execLds r g a b sz imm s) := by
  simp [execLds]

@[simp] theorem execSt_keeps (r : Fin 132) (g : Guard) (a b : Fin 32) (sz : Fin 4) (imm : BitVec 36) (s : State) :
    Keeps s (execSt r g a b sz imm s) := by
  unfold execSt
  grind [access_steady, kcs_keeps, ringWrite_steady, State.setProg_steady, endAt_steady]

@[simp] theorem execKcsAtom_keeps (r : Fin 132) (g : Guard) (a b c : Fin 32) (op : Fin 8) (wide : Bool) (s : State) :
    Keeps s (execKcsAtom r g a b c op wide s) := by
  unfold execKcsAtom
  grind [access_steady, kcs_keeps, ringAtomic_steady, State.setProg_steady, endAt_steady]

@[simp] theorem execLsld_keeps (r : Fin 132) (g : Guard) (a b : Fin 32) (sz : Fin 4) (imm : BitVec 36) (s : State) :
    Keeps s (execLsld r g a b sz imm s) := by
  simp [execLsld]

@[simp] theorem execLsst_keeps (r : Fin 132) (g : Guard) (a b : Fin 32) (sz : Fin 4) (imm : BitVec 36) (s : State) :
    Keeps s (execLsst r g a b sz imm s) := by
  simp [execLsst]

@[simp] theorem execCtxset_keeps (r : Fin 132) (g : Guard) (b : Fin 32) (s : State) :
    Keeps s (execCtxset r g b s) := by
  simp [execCtxset]

@[simp] theorem execWait_keeps (r : Fin 132) (g : Guard) (t : Fin 16) (a : Fin 32) (noend : Bool) (s : State) :
    Keeps s (execWait r g t a noend s) := by
  simp [execWait]

@[simp] theorem execWaitany_keeps (r : Fin 132) (g : Guard) (a : Fin 32) (m : BitVec 16) (s : State) :
    Keeps s (execWaitany r g a m s) := by
  simp [execWaitany]

@[simp] theorem execTst_keeps (r : Fin 132) (g : Guard) (t : Fin 16) (a : Fin 32) (s : State) :
    Keeps s (execTst r g t a s) := by
  simp [execTst]

@[simp] theorem execFence_keeps (r : Fin 132) (g : Guard) (s : State) : Keeps s (execFence r g s) := by
  simp [execFence]

@[simp] theorem execEvraise_keeps (r : Fin 132) (g : Guard) (n : Fin 16) (s : State) :
    Keeps s (execEvraise r g n s) := by
  unfold execEvraise
  split_ifs <;> simp

@[simp] theorem execEvtime_keeps (r : Fin 132) (g : Guard) (b : Fin 32) (s : State) :
    Keeps s (execEvtime r g b s) := by
  simp [execEvtime]

@[simp] theorem execEvtimeReached_keeps (r : Fin 132) (s : State) : Keeps s (execEvtimeReached r s) := by
  simp [execEvtimeReached]

end Sys2Proof.Machine
end

section
/-! SVN_MIN over one step (R501): of the commands only FW_COMMIT_SVN can change the fuses, and it raises SVN_MIN to the
larger of its value and the running image's SVN. An idle step changes elapsed time, not the fuses. -/

namespace Sys2Proof.Machine

variable {s t : State}

theorem State.fuses_of_steady (h : t.steady = s.steady) : t.fuses = s.fuses := congrArg Prod.fst h

/-- Every command but FW_COMMIT_SVN keeps the steady parts, each by the lemma about its own operation. -/
theorem exec_keeps (i : Instr) (s : State) (h : ∀ q, i ≠ .fwCommitSvn q) : Keeps s (exec i s) := by
  cases i with
  | fwCommitSvn q => exact absurd rfl (h q)
  | _ => simp [exec]

theorem execFwCommitSvn_svnMin {q : StewReq} (h : execFwCommitSvn q s = .next t) :
    t.fuses.svnMin = s.fuses.svnMin ∨
      ∃ g, s.trust.running = some g ∧ t.fuses.svnMin = max s.fuses.svnMin g.svn := by
  unfold execFwCommitSvn at h
  cases hg : s.trust.running with
  | none =>
    rw [steward_elsewhere (by simp [hg])] at h
    exact .inl (Host.Outcome.next.inj h ▸ rfl)
  | some g =>
    obtain hs | ⟨st, d, hs⟩ | ⟨u, hu, hs⟩ := steward_cases q 0x72 false _ s <;> rw [h] at hs <;>
      obtain rfl := Host.Outcome.next.inj hs
    · exact .inl rfl
    · exact .inl (congrArg Fuses.svnMin (State.fuses_of_steady (answer_steady ..)))
    · dsimp only [logged] at hu
      split_ifs at hu <;> obtain rfl := Except.ok.inj hu
      · exact .inl rfl
      · refine .inr ⟨g, rfl, ?_⟩
        rw [State.fuses_of_steady (logOrdinary_steady ..), hg]
        rfl
      · exact .inl (congrArg Fuses.svnMin (State.fuses_of_steady (logWaits_steady _)))

theorem tick_fuses (s : State) : (tick s).fuses = s.fuses := by
  have h : (tick s).steady = ({ s with ticks := s.ticks + 1 } : State).steady := by simp [tick]
  exact (State.fuses_of_steady h :)

theorem step_svnMin (h : step s = .next t) :
    t.fuses.svnMin = s.fuses.svnMin ∨
      ∃ q rest g, s.pending = .fwCommitSvn q :: rest ∧ s.trust.running = some g ∧
        t.fuses.svnMin = max s.fuses.svnMin g.svn := by
  unfold step at h
  split at h
  case h_1 => exact .inl (by rw [← Host.Outcome.next.inj h, tick_fuses])
  case h_2 c rest hp =>
    by_cases hc : ∃ q, c = .fwCommitSvn q
    · obtain ⟨q, rfl⟩ := hc
      obtain hSame | ⟨g, hg, hMax⟩ := execFwCommitSvn_svnMin h
      · exact .inl hSame
      · exact .inr ⟨q, rest, g, hp, hg, hMax⟩
    · have hKept := exec_keeps c { s with pending := rest } (fun q hq => hc ⟨q, hq⟩) t h
      exact .inl (congrArg Fuses.svnMin (State.fuses_of_steady hKept :))

/-- Settles O5: the step's two outcomes for SVN_MIN, the second split on whether the image's SVN is the larger one. -/
theorem svnRisesOnlyByCommit : Obligations.SvnRisesOnlyByCommit := by
  unfold Obligations.SvnRisesOnlyByCommit
  intro s t h
  obtain hSame | ⟨q, rest, g, hp, hg, hMax⟩ := step_svnMin h
  · exact ⟨.inl hSame, fun hs _ => hSame ▸ hs⟩
  · refine ⟨?_, fun hs hr => hMax ▸ max_lt hs (hr g hg)⟩
    obtain hLow | hRise := le_or_gt g.svn s.fuses.svnMin
    · exact .inl (hMax.trans (max_eq_left hLow))
    · rw [max_eq_right hRise.le] at hMax
      exact .inr ⟨hMax ▸ hRise, q, rest, g, hp, hg, hMax⟩

end Sys2Proof.Machine
end

section
/-! SUPPORT. What a steward command does that its session may ask for (R514, R516, R531): it runs the command's body. -/

namespace Sys2Proof.Machine

variable {q : StewReq} {cmd : Nat} {haltOk : Bool} {body : State → Except (Nat × Nat) State} {s : State}

theorem State.asks_iff : s.asks q cmd = true ↔
    s.trust.running ≠ none ∧ s.inMailbox q cmd = true ∧
      (∃ i x, q.sess = some i ∧ s.session i = some x ∧ x.steward = true) ∧ s.trust.halted = false := by
  have hSession : (q.sess.bind s.session).any (·.steward) = true ↔
      ∃ i x, q.sess = some i ∧ s.session i = some x ∧ x.steward = true := by
    cases q.sess <;> simp [Option.any_eq_true]
  simp [State.asks, hSession, and_assoc, Option.isSome_iff_ne_none]

/-- Only CLAIM (1) asks for something else than a steward session. -/
theorem steward_of_ok {t : State} (h : s.asks q cmd = true) (hCmd : cmd ≠ 1) (hBody : body s = .ok t) :
    steward q cmd haltOk body s = .next t := by
  obtain ⟨hRun, hMail, ⟨i, x, hSess, hFind, hStew⟩, hHalt⟩ := State.asks_iff.mp h
  simp [steward, hRun, hMail, hSess, hFind, hStew, hHalt, hCmd, hBody]

theorem steward_of_error {e : Nat × Nat} (h : s.asks q cmd = true) (hCmd : cmd ≠ 1) (hBody : body s = .error e) :
    steward q cmd haltOk body s = .next (answer q cmd e.1 e.2 [] s) := by
  obtain ⟨hRun, hMail, ⟨i, x, hSess, hFind, hStew⟩, hHalt⟩ := State.asks_iff.mp h
  simp [steward, hRun, hMail, hSess, hFind, hStew, hHalt, hCmd, hBody]

theorem logged_of_logsNow {run : State → State} (h : s.logsNow = true) : logged run s = .ok (run s) := by
  obtain ⟨hStart, hAcc⟩ := Bool.and_eq_true_iff.mp h
  simp [logged, hStart, hAcc]

end Sys2Proof.Machine
end

section
/-! SUPPORT. What the log's bookkeeping leaves (R545, R546, R552): neither the near-full event nor the granting of
reservations moves a record, a sequence number or a register outside event delivery. -/

namespace Sys2Proof.Machine

/-- The records, the sequence numbers and the registers are as they were, those of event delivery excepted. -/
structure KeepsRecords (s t : State) : Prop where
  records : t.log.records = s.log.records
  nextSeq : t.log.nextSeq = s.log.nextSeq
  retired : t.log.retired = s.log.retired
  waiting : t.log.waiting = s.log.waiting
  tombSeq : t.log.tombSeq = s.log.tombSeq
  reg : ∀ key, evtKey key = false → t.reg key = s.reg key

variable {s t u : State}

theorem KeepsRecords.refl (s : State) : KeepsRecords s s := ⟨rfl, rfl, rfl, rfl, rfl, fun _ _ => rfl⟩

theorem KeepsRecords.trans (h : KeepsRecords s t) (g : KeepsRecords t u) : KeepsRecords s u where
  records := g.records.trans h.records
  nextSeq := g.nextSeq.trans h.nextSeq
  retired := g.retired.trans h.retired
  waiting := g.waiting.trans h.waiting
  tombSeq := g.tombSeq.trans h.tombSeq
  reg key hKey := (g.reg key hKey).trans (h.reg key hKey)

theorem KeepsRecords.get (h : KeepsRecords s t) (f : Fld) (hKey : evtKey f.key = false) : t.get f = s.get f :=
  congrArg f.of (h.reg f.key hKey)

theorem KeepsRecords.logUsed (h : KeepsRecords s t) : t.logUsed = s.logUsed := by
  simp only [State.logUsed, h.nextSeq, h.retired, h.waiting]

theorem raiseNode_keepsRecords {e : Event} (h : e.src < 256) : KeepsRecords s (raiseNode e s) := by
  have hLog : (raiseNode e s).log = s.log := raiseNode_log e s h
  refine ⟨?_, ?_, ?_, ?_, ?_, fun key hKey => raiseNode_reg e s key h hKey⟩ <;> rw [hLog]

theorem setNearFull_keepsRecords (b : Bool) : KeepsRecords s { s with log := { s.log with nearFull := b } } :=
  ⟨rfl, rfl, rfl, rfl, rfl, fun _ _ => rfl⟩

theorem checkNearFull_keepsRecords (s : State) : KeepsRecords s (checkNearFull s) := by
  unfold checkNearFull
  split_ifs
  · exact .refl s
  · exact (setNearFull_keepsRecords true).trans (raiseNode_keepsRecords (show Ev.LOG_NEAR_FULL < 256 by decide))
  · exact setNearFull_keepsRecords false

theorem queuePage_keepsRecords (id resv : Nat) : KeepsRecords s (queuePage id resv s) := by
  unfold queuePage
  split
  · exact .refl s
  · exact ⟨rfl, rfl, rfl, rfl, rfl, fun _ _ => rfl⟩

/-- Reservations take room in the log, but no sequence number. -/
theorem grantWants_keepsRecords (s : State) : KeepsRecords s (grantWants s) := by
  unfold grantWants
  refine .trans (State.each_ind (P := KeepsRecords s) s _ _ (fun w _ t ht => ?_) (.refl s))
    ⟨rfl, rfl, rfl, rfl, rfl, fun _ _ => rfl⟩
  split_ifs
  · cases w with
    | page id =>
      refine ht.trans (.trans ?_ (queuePage_keepsRecords id _))
      exact ⟨rfl, rfl, rfl, rfl, rfl, fun _ _ => rfl⟩
    | commit ring => exact ht.trans ⟨rfl, rfl, rfl, rfl, rfl, fun _ _ => rfl⟩
  · exact ht

theorem acceptWaiting_of_none (h : s.log.waiting = []) :
    acceptWaiting s = { s with log := { s.log with full := false } } := by
  simp [acceptWaiting, h]

theorem logSpace_keepsRecords (h : s.log.waiting = []) : KeepsRecords s (logSpace s) := by
  have hAccepted : KeepsRecords s (acceptWaiting s) := by
    rw [acceptWaiting_of_none h]
    exact ⟨rfl, rfl, rfl, rfl, rfl, fun _ _ => rfl⟩
  exact hAccepted.trans (grantWants_keepsRecords _)

theorem State.get_log (l : LogState) (f : Fld) : ({ s with log := l } : State).get f = s.get f := rfl

/-- A record that the log accepts waits behind the others; beside it only the near-full event can follow. -/
theorem logOrdinary_of_accepts (type subject : Nat) (payload : List Byte) (cont : LogCont)
    (hRuns : s.log.halted = false) (hAcc : s.logAccepts .ordinary = true) :
    ∃ r : LogRec, r.type = type ∧ r.accepted = true ∧
      KeepsRecords { s with log := { s.log with waiting := s.log.waiting ++ [r] } }
        (logOrdinary type subject payload cont s) := by
  refine ⟨⟨.ordinary, false, type, false, subject, slice 0 payload 0 64, none, true, cont⟩, rfl, rfl, ?_⟩
  simp only [logOrdinary, logSubmit, hRuns, hAcc, Bool.false_eq_true, Bool.false_and, if_false, if_true]
  exact checkNearFull_keepsRecords _

theorem logAccepts_congr {t : State} (c : LogClass) (h : t.log = s.log) : t.logAccepts c = s.logAccepts c := by
  have hRes : t.logRes = s.logRes := congrArg (fun l : LogState => l.resv.length) h
  have hFree : t.logFree = s.logFree := by rw [State.logFree, State.logFree, State.logUsed, State.logUsed, h]
  simp [State.logAccepts, hRes, hFree]

end Sys2Proof.Machine
end

section
/-! SUPPORT. LOG_TOMBSTONE after a write of its 64 bytes (R557, R561). -/

namespace Sys2Proof.Machine

variable {s : State}

@[simp] theorem slice_nil {α : Type} (d : α) (o n : Nat) : slice d [] o n = List.replicate n d := by
  simp [slice]

@[simp] theorem writeTomb_log (b : List Byte) (s : State) : (writeTomb b s).log = s.log :=
  State.each_eq s State.log _ _ fun _ _ _ => rfl

theorem get_tombstone_of_each_put (v : Nat → Nat) {i n : Nat} (hi : i < n) :
    (s.each (List.range n) (fun j t => t.put (F.LOG_TOMBSTONE_DATA j) (v j))).get (F.LOG_TOMBSTONE_DATA i) =
      v i % 2 ^ 32 := by
  induction n with
  | zero => exact absurd hi (Nat.not_lt_zero i)
  | succ n ih =>
    rw [State.each, List.range_succ, List.foldl_append]
    obtain hLt | rfl := Nat.lt_succ_iff_lt_or_eq.mp hi
    · have hKey : R.LOG_TOMBSTONE i ≠ R.LOG_TOMBSTONE n := by unfold R.LOG_TOMBSTONE; omega
      exact (State.get_put_key _ _ _ _ hKey).trans (ih hLt)
    · exact State.get_put_self _ _ _ ⟨Nat.zero_le _, show 31 < 64 by decide⟩

theorem writeTomb_nil_get {i : Nat} (hi : i < 16) : (writeTomb [] s).get (F.LOG_TOMBSTONE_DATA i) = 0 := by
  rw [writeTomb, get_tombstone_of_each_put _ hi, slice_nil]
  rfl

theorem evtKey_tombstone {i : Nat} (hi : i < 16) : evtKey (R.LOG_TOMBSTONE i) = false := by
  simp only [evtKey, R.LOG_TOMBSTONE, Bool.or_eq_false_iff, Bool.and_eq_false_iff, decide_eq_false_iff_not,
    beq_eq_false_iff_ne]
  omega

end Sys2Proof.Machine
end

section
/-! TOMBSTONE_CLEAR (R561). -/

namespace Sys2Proof.Machine

variable {s : State}

/-- The state in which TOMBSTONE_CLEARED is handed to the log. -/
def tombCleared (s : State) : State := writeTomb [] { s with log := { s.log with tombSeq := none } }

theorem tombCleared_log (s : State) : (tombCleared s).log = { s.log with tombSeq := none } := writeTomb_log _ _

theorem tombCleared_logAccepts (c : LogClass) (s : State) : (tombCleared s).logAccepts c = s.logAccepts c :=
  (logAccepts_congr (s := { s with log := { s.log with tombSeq := none } }) c (writeTomb_log _ _)).trans rfl

theorem tombCleared_get {i : Nat} (hi : i < 16) : (tombCleared s).get (F.LOG_TOMBSTONE_DATA i) = 0 :=
  writeTomb_nil_get hi

theorem tombstoneClear_refused {q : StewReq} (hAsks : s.asks q 0x81 = true)
    (h : s.log.tombSeq.all (fun n => s.tombState == 0 || !seqAfter s.log.retired n) = true) :
    execTombstoneClear q s = .next (answer q 0x81 0x50 2 [] s) := by
  refine steward_of_error (e := (0x50, 2)) hAsks (by decide) ?_
  cases hSeq : s.log.tombSeq with
  | none => rfl
  | some n => exact if_pos (by simpa [hSeq] using h)

theorem tombstoneClear_applied {q : StewReq} {n : Nat} (hAsks : s.asks q 0x81 = true) (hLogs : s.logsNow = true)
    (hSeq : s.log.tombSeq = some n) (hTomb : s.tombState ≠ 0) (hRetired : seqAfter s.log.retired n = true) :
    execTombstoneClear q s =
      .next (logOrdinary 0x42 0xFF (slice 0 s.tombBytes 4 4) (okCont (some q) 0x81) (tombCleared s)) := by
  refine steward_of_ok hAsks (by decide) ?_
  simp only [hSeq]
  rw [if_neg (by simp [hTomb, hRetired])]
  exact logged_of_logsNow hLogs

/-- Settles O14: a retired tombstone is zeroed and its record accepted; in every other case the command is refused. -/
theorem tombstoneClearing : Obligations.TombstoneClearing := by
  refine ⟨fun s q n i hAsks hLogs hRuns hSeq hTomb hRetired => ?_, fun s q hAsks h => tombstoneClear_refused hAsks h⟩
  have hAcc : (tombCleared s).logAccepts .ordinary = true :=
    (tombCleared_logAccepts .ordinary s).trans (Bool.and_eq_true_iff.mp hLogs).2
  have hRuns' : (tombCleared s).log.halted = false := by rwa [tombCleared_log]
  obtain ⟨r, hType, hAccepted, hKeeps⟩ := logOrdinary_of_accepts 0x42 0xFF (slice 0 s.tombBytes 4 4)
    (okCont (some q) 0x81) hRuns' hAcc
  refine ⟨_, tombstoneClear_applied hAsks hLogs hSeq hTomb hRetired, ?_, ?_, ?_⟩
  · rw [hKeeps.get _ (evtKey_tombstone i.isLt), State.get_log, tombCleared_get i.isLt]
  · rw [hKeeps.waiting]
    simp [hType, hAccepted]
  · rw [hKeeps.tombSeq, tombCleared_log]

end Sys2Proof.Machine
end

section
/-! A write of HEAD of the drain ring (R550). -/

namespace Sys2Proof.Machine

variable {s : State} {v : Nat}

/-- Of two distances from one index, the difference is the distance between their ends. -/
theorem sub32_eq_sub {a b c : Nat} (hb : b < 2 ^ 32) (hc : c < 2 ^ 32) (h : sub32 b c ≤ sub32 a c) :
    sub32 a b = sub32 a c - sub32 b c := by
  unfold sub32 at *
  omega

theorem logUsed_of_waiting_nil (hWait : s.log.waiting = []) (hRet : s.log.retired < 2 ^ 32) :
    s.logUsed = sub32 s.log.nextSeq s.log.retired := by
  have hMod : s.log.retired % 4294967296 = s.log.retired := Nat.mod_eq_of_lt hRet
  simp [State.logUsed, hWait, wrap32, sub32, hMod]

/-- The log with a new first retired sequence number, and the records that are left. -/
def State.retiring (s : State) (v : Nat) (left : List (Nat × List Byte)) : State :=
  { s with log := { s.log with retired := v, records := left } }

section

variable (s : State) (v : Nat) (left : List (Nat × List Byte))

@[simp] theorem State.retiring_records : (s.retiring v left).log.records = left := rfl
@[simp] theorem State.retiring_retired : (s.retiring v left).log.retired = v := rfl
@[simp] theorem State.retiring_nextSeq : (s.retiring v left).log.nextSeq = s.log.nextSeq := rfl
@[simp] theorem State.retiring_waiting : (s.retiring v left).log.waiting = s.log.waiting := rfl
@[simp] theorem State.reg_retiring (key : Nat) : (s.retiring v left).reg key = s.reg key := rfl
@[simp] theorem State.get_retiring (f : Fld) : (s.retiring v left).get f = s.get f := rfl

end

/-- The slots of retired records become free. -/
theorem State.logFree_retiring (left : List (Nat × List Byte)) (hWait : s.log.waiting = [])
    (hRet : s.log.retired < 2 ^ 32) (hv : v < 2 ^ 32)
    (hNext : sub32 v s.log.retired ≤ sub32 s.log.nextSeq s.log.retired) (hUsed : s.logUsed ≤ 4096) :
    (s.retiring v left).logFree = s.logFree + sub32 v s.log.retired := by
  have hBefore : s.logUsed = sub32 s.log.nextSeq s.log.retired := logUsed_of_waiting_nil hWait hRet
  have hAfter : (s.retiring v left).logUsed = s.logUsed - sub32 v s.log.retired := by
    rw [logUsed_of_waiting_nil (by rwa [State.retiring_waiting]) (by rwa [State.retiring_retired]), hBefore,
      State.retiring_nextSeq, State.retiring_retired, sub32_eq_sub hv hRet hNext]
  rw [State.logFree, State.logFree, hAfter]
  omega

/-- Retirement frees slots, and no more: with no record waiting, none takes their place. -/
theorem retireTo_keepsRecords (hNext : sub32 v s.log.retired ≤ sub32 s.log.nextSeq s.log.retired)
    (hWait : s.log.waiting = []) :
    KeepsRecords (s.retiring v (s.log.records.drop (sub32 v s.log.retired))) (retireTo v s) := by
  have hNear := checkNearFull_keepsRecords (s.retiring v (s.log.records.drop (sub32 v s.log.retired)))
  rw [show retireTo v s = logSpace (checkNearFull _) from if_neg hNext.not_gt]
  refine hNear.trans (logSpace_keepsRecords ?_)
  rw [hNear.waiting, State.retiring_waiting, hWait]

theorem drainHeadWrite_beyond (h : sub32 (s.get F.LOG_DRAIN_TAIL_TAIL) (s.get F.LOG_DRAIN_HEAD_HEAD) <
    sub32 v (s.get F.LOG_DRAIN_HEAD_HEAD)) : drainHeadWrite v s = s.put F.LOG_DRAIN_STATUS_DRAIN_ERR 1 :=
  if_pos h

theorem drainHeadWrite_within (hOn : s.on F.LOG_DRAIN_CFG_EN = true) (h : sub32 v (s.get F.LOG_DRAIN_HEAD_HEAD) ≤
    sub32 (s.get F.LOG_DRAIN_TAIL_TAIL) (s.get F.LOG_DRAIN_HEAD_HEAD)) :
    drainHeadWrite v s = retireTo v (s.put F.LOG_DRAIN_HEAD_HEAD v) :=
  (if_neg h.not_gt).trans (if_pos hOn)

/-- Settles O15: a HEAD within TAIL is stored and retires the records below it; a HEAD beyond is the other branch. -/
theorem drainHead : Obligations.DrainHead := by
  refine ⟨fun s v hOn hHead hWithin hNext hWait _ hUsed => ⟨drainHeadWrite v.toNat s, rfl, ?_⟩,
    fun s v h => congrArg Host.Outcome.next (drainHeadWrite_beyond h)⟩
  have hRet : s.log.retired < 2 ^ 32 := hHead ▸ s.get_lt F.LOG_DRAIN_HEAD_HEAD
  have hKeeps := retireTo_keepsRecords (s := s.put F.LOG_DRAIN_HEAD_HEAD v.toNat) hNext hWait
  rw [drainHeadWrite_within hOn hWithin]
  refine ⟨?_, ?_, ?_, ?_, ?_⟩
  · rw [hKeeps.get _ (by decide), State.get_retiring, State.get_put_self _ _ _ (by decide)]
    exact Nat.mod_eq_of_lt v.isLt
  · rw [hKeeps.retired, State.retiring_retired]
  · rw [hKeeps.records, State.retiring_records, State.put_log]
  · rw [State.logFree, hKeeps.logUsed, ← State.logFree]
    exact State.logFree_retiring _ hWait hRet v.isLt hNext hUsed
  · rw [hKeeps.reg _ (by decide), State.reg_retiring, State.reg_put_ne _ _ _ (by decide)]

end Sys2Proof.Machine
end

section
/-! The TAP instruction register after TAP_INSTRUCTION (R734, R735): the return of the pads leaves the register alone. -/

namespace Sys2Proof.Machine

variable {s : State} {op : Byte} {forming : Bool}

@[simp] theorem setIr_ir (o : Nat) (s : State) : (setIr o s).tst.ir = o := rfl

@[simp] theorem quadRelock_tst (q : Nat) (s : State) : (quadRelock q s).tst = s.tst := by
  unfold quadRelock
  split_ifs
  · rfl
  · split <;> rfl

@[simp] theorem leavePads_ir (s : State) : (leavePads s).tst.ir = s.tst.ir := by
  unfold leavePads padEvent
  split
  · rfl
  · rw [raiseNode_tst _ _ (show Ev.TAP_PAD_CONTROL < 256 by decide)]
    refine State.each_eq _ (·.tst.ir) _ _ fun q _ t => ?_
    split_ifs
    · rw [quadRelock_tst]
    · rfl

theorem State.allVoid_iff : s.allVoid = true ↔ ∀ p : Fin 16, s.lc p.val = 0 := by
  simp [State.allVoid, Fin.forall_iff]

/-- What R735 refuses: pad control while some partition is not VOID or is being formed, a wrapper instruction in
mission mode. -/
def TapRefused (op : Byte) (forming : Bool) (s : State) : Prop :=
  (padControl op.toNat = true ∧ ((∃ p : Fin 16, s.lc p.val ≠ 0) ∨ forming = true)) ∨
    (testOnly op.toNat = true ∧ s.on F.GLB_STRAP_TEST_MODE = false)

/-- The state after a refusal. -/
def tapBlocked (op : Byte) (s : State) : State :=
  raiseNode ⟨Ev.TAP_BLOCKED, 0, op.toNat, 0, 0⟩ (leavePads (setIr tapBypass s))

theorem exec_tapInstruction_refused (h : TapRefused op forming s) :
    exec (.tapInstruction op forming) s = .next (tapBlocked op s) := by
  have hVoid : s.allVoid = false ↔ ∃ p : Fin 16, s.lc p.val ≠ 0 := by
    rw [← Bool.not_eq_true, State.allVoid_iff, not_forall]
  refine if_pos ?_
  simpa only [TapRefused, ← hVoid, Bool.or_eq_true, Bool.and_eq_true, Bool.not_eq_true'] using h

theorem exec_tapInstruction_completes (op : Byte) (forming : Bool) (s : State) :
    ∃ t, exec (.tapInstruction op forming) s = .next t := by
  change ∃ t, execTapInstruction op forming s = .next t
  unfold execTapInstruction
  dsimp only
  split_ifs <;> exact ⟨_, rfl⟩

theorem tapBlocked_ir (op : Byte) (s : State) : (tapBlocked op s).tst.ir = tapBypass := by
  rw [tapBlocked, raiseNode_tst _ _ (show Ev.TAP_BLOCKED < 256 by decide), leavePads_ir, setIr_ir]

theorem tapBlocked_occurred (op : Byte) (s : State) :
    bit ((tapBlocked op s).get (F.EVT_OCCURRED_BITS 4)) 3 = true :=
  raiseNode_occurred (i := 4) (b := 3) rfl (by decide) (by decide) (by decide) (by decide)

theorem ne_tapBypass_of_padControl {o : Nat} (h : padControl o = true) : o ≠ tapBypass := by
  rintro rfl
  exact absurd h (by decide)

/-- Settles O16: a refusal leaves BYPASS and tells TAP_BLOCKED; a pad-control instruction is not BYPASS, so where it
holds the register it was not refused. -/
theorem padControlRefusals : Obligations.PadControlRefusals := by
  refine ⟨fun s op f h => ⟨tapBlocked op s, exec_tapInstruction_refused h, tapBlocked_ir op s,
    tapBlocked_occurred op s⟩, fun s op f hPad => ?_⟩
  by_cases hVoid : ∀ p : Fin 16, s.lc p.val = 0
  · obtain ⟨t, ht⟩ := exec_tapInstruction_completes op f s
    exact ⟨t, ht, fun _ => hVoid⟩
  · have hRefused : TapRefused op f s := .inl ⟨hPad, .inl (not_forall.mp hVoid)⟩
    refine ⟨tapBlocked op s, exec_tapInstruction_refused hRefused, fun hIr => ?_⟩
    exact absurd (hIr.symm.trans (tapBlocked_ir op s)) (ne_tapBypass_of_padControl hPad)

end Sys2Proof.Machine
end

section
/-! The die's identity over one step (R29, R501): FW_COMMIT_SVN changes SVN_MIN alone, and no other command and no idle
step changes a fuse. -/

namespace Sys2Proof.Machine

variable {s t : State}

theorem execFwCommitSvn_fuses {q : StewReq} (h : execFwCommitSvn q s = .next t) :
    ∃ n, s.fuses.svnMin ≤ n ∧ t.fuses = { s.fuses with svnMin := n } := by
  unfold execFwCommitSvn at h
  cases hg : s.trust.running with
  | none =>
    rw [steward_elsewhere (by simp [hg])] at h
    exact ⟨_, le_rfl, Host.Outcome.next.inj h ▸ rfl⟩
  | some g =>
    obtain hs | ⟨st, d, hs⟩ | ⟨u, hu, hs⟩ := steward_cases q 0x72 false _ s <;> rw [h] at hs <;>
      obtain rfl := Host.Outcome.next.inj hs
    · exact ⟨_, le_rfl, rfl⟩
    · exact ⟨_, le_rfl, State.fuses_of_steady (answer_steady ..)⟩
    · dsimp only [logged] at hu
      split_ifs at hu <;> obtain rfl := Except.ok.inj hu
      · exact ⟨_, le_rfl, rfl⟩
      · exact ⟨_, le_max_left .., (State.fuses_of_steady (logOrdinary_steady ..)).trans rfl⟩
      · exact ⟨_, le_rfl, State.fuses_of_steady (logWaits_steady _)⟩

/-- One step leaves the fuses, SVN_MIN excepted, which it may raise. -/
theorem step_fuses (h : step s = .next t) : ∃ n, s.fuses.svnMin ≤ n ∧ t.fuses = { s.fuses with svnMin := n } := by
  unfold step at h
  split at h
  case h_1 => exact ⟨_, le_rfl, by rw [← Host.Outcome.next.inj h, tick_fuses]⟩
  case h_2 c rest hp =>
    by_cases hc : ∃ q, c = .fwCommitSvn q
    · obtain ⟨q, rfl⟩ := hc
      exact (execFwCommitSvn_fuses h :)
    · exact ⟨_, le_rfl, (State.fuses_of_steady (exec_keeps c _ (fun q hq => hc ⟨q, hq⟩) t h) :)⟩

/-- Settles O7: SVN_MIN is the one part of the fuses that a step changes, and it only rises. -/
theorem dieIdentityKept : Obligations.DieIdentityKept := by
  intro s t h
  obtain ⟨n, hn, hFuses⟩ := step_fuses h
  rw [hFuses]
  exact ⟨rfl, rfl, rfl, rfl, rfl, rfl, hn, fun _ hk => hk⟩

end Sys2Proof.Machine
end

section
/-! The step at the front of the queue, and the idle step, which counts its cycle before Sorrel time takes it (R313). -/

namespace Sys2Proof.Machine

/-- Settles O1: it is what `step` says of a queue that is not empty. -/
theorem stepRunsFront : Obligations.StepRunsFront := fun _ _ => rfl

/-- A node whose TIMEBASE runs and whose servo is in STATE 2 with a correction in force for one more cycle. -/
def correctionEnding : State :=
  { (State.reset.put F.CKR_ISL_STATE_IN_RESET 0).put F.CKR_ISL_CLK_RUNNING 2 with
    fab := { FabState.init with sorrel := { FabState.init.sorrel with corr := 1, corrEnd := 1 } } }.put F.TOPO_SRL_STATUS_STATE 2

theorem tick_correctionEnding_rem : (tick correctionEnding).fab.sorrel.rem = 0 := by decide

theorem correctionEnding_corr : correctionEnding.sorrelCorr = 1 := by decide

/-- Refutes O2: the statement takes the servo's correction before the cycle is counted, the model after it, and the two
differ in the cycle in which the 50,000 cycles of a correction end (R313): the carried fraction is 0, not 1. -/
theorem not_queueAndElapsedTime : ¬ Obligations.QueueAndElapsedTime := by
  rintro ⟨-, -, -, hRuns⟩
  obtain ⟨t, hStep, -, hRem, -⟩ := hRuns correctionEnding rfl rfl (by decide)
  obtain rfl : tick correctionEnding = t := Host.Outcome.next.inj hStep
  rw [tick_correctionEnding_rem, correctionEnding_corr] at hRem
  exact absurd hRem (by decide)

end Sys2Proof.Machine
end

section
/-! The immediate arithmetic, moves, comparisons and predicate operations of a ring program (R373). -/

namespace Sys2Proof.Machine

/-- Settles O38: each is an instruction that changes registers only, with the statement's result as its function; RINFO
reads the state beside. -/
theorem immediateArithmeticAndMoves : Obligations.ImmediateArithmeticAndMoves := by
  refine ⟨?addi, ?andi, ?ori, ?xori, ?shli, ?shri, ?srai, ?li, ?lix, ?sel, ?time, ?rinfo⟩
  case rinfo =>
    intro s r g a p h
    apply kcs_of_runsAt h
  case time => exact fun s r g a p h => kcsReg_of_runsAt h
  case li | lix => exact fun s r g a _ p h => kcsReg_of_runsAt h
  case sel => exact fun s r g a b c x p h => kcsReg_of_runsAt h
  all_goals exact fun s r g a b c p h => kcsReg_of_runsAt h

/-- Settles O39: each is an instruction that changes registers only, with the statement's relation as its function. -/
theorem predicatesAndComparisons : Obligations.PredicatesAndComparisons := by
  refine ⟨?ceq, ?cne, ?cltu, ?clt, ?cgeu, ?cge, ?ceqi, ?cltui, ?pand, ?por, ?pxor, ?pandn, ?pset⟩
  case pset => exact fun s r g a b p h => kcsReg_of_runsAt h
  all_goals exact fun s r g a b c p h => kcsReg_of_runsAt h

end Sys2Proof.Machine
end

section
/-! Registers, predicates and descriptor slots of a ring program, and the instructions that write them (R373). -/

namespace Sys2Proof.Machine

/-! What a write to the scalar and predicate registers of a program leaves (Table 10.1). -/

theorem Prog.sreg_setS (p : Prog) (a b : Fin 32) (v : W64) :
    (p.setS a.val v).sreg b.val = if b = 0 then 0 else if a = b then v else p.sreg b.val := by
  by_cases hb : b = 0
  · simp [Prog.sreg, hb]
  · have hb' : b.val ≠ 0 := fun h => hb (Fin.ext h)
    rw [if_neg hb, Prog.sreg, if_neg hb', Prog.sreg, if_neg hb', Prog.setS]
    split_ifs with ha hab hab
    · exact absurd (hab ▸ ha) hb'
    · rfl
    · rw [hab, Tab.get_set_self]
    · exact Tab.get_set_ne _ _ _ fun h => hab (Fin.ext h.symm)

theorem Prog.preg_setP (p : Prog) (a b : Fin 8) (v : Bool) :
    (p.setP a.val v).preg b.val = if b = 0 then true else if a = b then v else p.preg b.val := by
  by_cases hb : b = 0
  · simp [Prog.preg, hb]
  · have hb' : b.val ≠ 0 := fun h => hb (Fin.ext h)
    by_cases hab : a = b
    · subst hab
      cases v <;> simp [Prog.preg, Prog.setP, NSet.mem_ins, NSet.mem_del, hb, hb']
    · have hne : b.val ≠ a.val := fun h => hab (Fin.ext h.symm)
      by_cases ha : a.val = 0
      · simp [Prog.setP, ha, hb, hab]
      · cases v <;> simp [Prog.preg, Prog.setP, NSet.mem_ins, NSet.mem_del, ha, hb, hab, hne]

theorem Prog.setS_eq (p : Prog) (a : Nat) (v : W64) : ∃ l, p.setS a v = { p with s := l } := by
  unfold Prog.setS
  split_ifs
  · exact ⟨p.s, rfl⟩
  · exact ⟨_, rfl⟩

theorem Prog.setP_eq (p : Prog) (a : Nat) (v : Bool) : ∃ l, p.setP a v = { p with p := l } := by
  unfold Prog.setP
  split
  · exact ⟨p.p, rfl⟩
  · exact ⟨_, rfl⟩

/-- Settles O40: the register file's laws, and each instruction's function. -/
theorem descriptorSlotsAndContext : Obligations.DescriptorSlotsAndContext := by
  refine ⟨fun p a b v => ⟨p.sreg_setS a b v, ?_⟩, fun p a b v => ⟨p.preg_setP a b v, ?_⟩, ?dget, ?dset, ?dseti, ?dsetx,
    ?dclr, ?dmov, ?ctxset⟩
  · obtain ⟨l, hl⟩ := p.setS_eq a v
    rw [hl]
    exact ⟨rfl, rfl, rfl, rfl, rfl⟩
  · obtain ⟨l, hl⟩ := p.setP_eq a v
    rw [hl]
    exact ⟨rfl, rfl⟩
  case dsetx =>
    intro s r g a b ws p h hPos hLen hFit
    refine (if_neg ?_).trans (kcsReg_of_runsAt h)
    omega
  case dget | dset | dseti => exact fun s r g a b x p h => kcsReg_of_runsAt h
  case dclr | ctxset => exact fun s r g a p h => kcsReg_of_runsAt h
  case dmov => exact fun s r g a b p h => kcsReg_of_runsAt h

end Sys2Proof.Machine
end

section
/-! Loads, stores and atomics of a ring program (R374, R376). -/

namespace Sys2Proof.Machine

variable {s : State} {p : Prog}

theorem access_of_ok {r : Nat} {s0 : State} {x : AccRes × State} (k : List Byte → State → State) (hHeld : x.1.held = false)
    (hBad : x.1.bad = none) : access r p s0 x k = k x.1.data x.2 := by
  simp [access, hHeld, hBad]

theorem aligned_access_of_ok {r va n : Nat} {a : State} {x : AccRes × State} {k : List Byte → State → State} (hAligned : va % n = 0)
    (hHeld : x.1.held = false) (hBad : x.1.bad = none) :
    (if va % n ≠ 0 then a else access r p s x k) = k x.1.data x.2 :=
  (if_neg (not_not.mpr hAligned)).trans (access_of_ok k hHeld hBad)

/-- Settles O42: an aligned access that is neither held nor ended goes on with what the ring access gives. -/
theorem scalarMemoryAccess : Obligations.ScalarMemoryAccess := by
  refine ⟨?dld, ?dst, ?ld, ?lds, ?st, ?atom, ?lsld, ?lsst⟩
  case dld | dst =>
    intro s r g a b p h hAligned hHeld hBad
    simp only [exec, execDld, execDst, kcs_of_runsAt h]
    exact congrArg _ (aligned_access_of_ok hAligned hHeld hBad)
  case ld | st =>
    intro s r g a b sz imm p h hAligned hHeld hBad
    simp only [exec, execLd, execSt, loadOp, kcs_of_runsAt h]
    exact congrArg _ (aligned_access_of_ok hAligned hHeld hBad)
  case lds =>
    intro s r g a b sz imm p h hAligned hHeld hBad
    simp only [exec, execLds, loadOp, kcs_of_runsAt h]
    refine congrArg _ ((aligned_access_of_ok hAligned hHeld hBad).trans ?_)
    simp only [Bool.true_and]
    split_ifs <;> rfl
  case atom =>
    intro s r g a b c op wide p h hAligned hHeld hBad
    simp only [exec, execKcsAtom, kcs_of_runsAt h]
    by_cases hOp : op.val = 2
    · simp only [hOp, if_true] at hHeld hBad ⊢
      exact congrArg _ (aligned_access_of_ok hAligned hHeld hBad)
    · simp only [hOp, if_false] at hHeld hBad ⊢
      exact congrArg _ (aligned_access_of_ok hAligned hHeld hBad)
  case lsld | lsst =>
    intro s r g a b sz imm p h
    apply kcs_of_runsAt h

end Sys2Proof.Machine
end

section
/-! An instruction away from its program (R366): the command leaves the state. -/

namespace Sys2Proof.Machine

variable {r : Fin 132} {g : Guard} {w : W64} {ext : List W64} {s : State}

/-- The ring's program does not stand at the words, or there is none. -/
def State.notAt (s : State) (r : Nat) (w : W64) (ext : List W64) : Prop := ∀ p, s.prog r = some p → p.at w ext = false

theorem kcs_of_notAt {body : Prog → State → State} (h : s.notAt r w ext) : kcs r g w ext body s = .next s := by
  cases hProg : s.prog r.val with
  | none => exact kcs_no_program hProg
  | some p => exact kcs_elsewhere hProg (h p hProg)

theorem smKcs_of_notAt {body : Prog → State → State} (h : s.notAt r w []) : smKcs r g w body s = .next s := by
  rw [smKcs, kcs_of_notAt h, ite_self]

/-- An instruction's command is `kcs` at the words that `instructionOf` names, on the SM's rings alone where it is
privileged; DSETX checks its extension words first, and PENGINE a running test job. -/
theorem exec_of_notAt {c : Instr} {w : ProgWord} (hWf : c.wf = true) (hInstr : instructionOf c = some w)
    (h : s.notAt w.ring.val w.word w.ext) : exec c s = .next s := by
  cases c
  case dsetx r g a b ws =>
    obtain rfl := Option.some.inj hInstr
    simp only [Instr.wf, Bool.and_eq_true, bne_iff_ne, decide_eq_true_eq] at hWf
    have hLen : ¬(ws.length = 0 ∨ 3 < ws.length ∨ 8 < b.val + ws.length) := by omega
    exact (if_neg hLen).trans (kcs_of_notAt h)
  case pengine r g a lost =>
    obtain rfl := Option.some.inj hInstr
    simp only [exec, execPengine, kcs_of_notAt h, ite_self]
  all_goals first
    | exact absurd hInstr (Option.some_ne_none _).symm
    | (obtain rfl := Option.some.inj hInstr; first | apply kcs_of_notAt h | apply smKcs_of_notAt h)

/-- Settles O9: either way the ring's program does not stand at the instruction's words. -/
theorem instructionsWaitForTheirProgram : Obligations.InstructionsWaitForTheirProgram := by
  refine ⟨fun s c w hWf hInstr hProg => ?_, fun s c w p hWf hInstr hProg hAt => ?_⟩
  · exact exec_of_notAt hWf hInstr fun p hp => by simp [hProg] at hp
  · refine exec_of_notAt hWf hInstr fun q hq => ?_
    rw [← Option.some.inj (hProg.symm.trans hq)]
    exact hAt

end Sys2Proof.Machine
end

section
/-! SUPPORT. Footprints. The frame of a command (`frameOf`) names the parts and the registers that it may change. A
footprint says the same of any operation of the model: two states that agree outside the footprint have one `State.out`.
Each lemma below is about one operation and takes, as instances, only that its own parts and registers may change; so
the lemma of a command follows from those of its operations by rewriting, for the frame of the command and for any
larger one. -/

namespace Sys2Proof.Machine

/-- What an operation may change: parts of the state, and registers by key. -/
structure Foot where
  part : Comp → Prop
  reg : Nat → Prop

variable {F : Foot} {s t u : State}

/-- Outside what may change the two states agree. -/
structure Foot.Agree (F : Foot) (s t : State) : Prop where
  part : ∀ x, ¬F.part x → x.same s t
  reg : ∀ key, ¬F.reg key → t.reg key = s.reg key

theorem Comp.same_refl (x : Comp) (s : State) : x.same s s := by cases x <;> simp [Comp.same]

theorem Comp.same_symm {x : Comp} (h : x.same s t) : x.same t s := by
  cases x <;> simp only [Comp.same] at h ⊢ <;> simp [h]

theorem Comp.same_trans {x : Comp} (h : x.same s t) (g : x.same t u) : x.same s u := by
  cases x <;> simp only [Comp.same] at h g ⊢ <;> simp [h, g]

theorem Foot.Agree.refl (F : Foot) (s : State) : F.Agree s s := ⟨fun x _ => x.same_refl s, fun _ _ => rfl⟩

theorem Foot.Agree.symm (h : F.Agree s t) : F.Agree t s :=
  ⟨fun x hx => Comp.same_symm (h.part x hx), fun key hKey => (h.reg key hKey).symm⟩

theorem Foot.Agree.trans (h : F.Agree s t) (g : F.Agree t u) : F.Agree s u :=
  ⟨fun x hx => Comp.same_trans (h.part x hx) (g.part x hx), fun key hKey => (g.reg key hKey).trans (h.reg key hKey)⟩

/-- Agreement outside `F`, as an equivalence of states. -/
def Foot.setoid (F : Foot) : Setoid State := ⟨F.Agree, .refl F, .symm, .trans⟩

/-- What of a state lies outside `F`. -/
def State.out (s : State) (F : Foot) : Quotient F.setoid := Quotient.mk _ s

theorem State.out_eq_iff : t.out F = s.out F ↔ F.Agree s t :=
  ⟨fun h => (Quotient.exact h).symm, fun h => Quotient.sound h.symm⟩

/-- The registers of this family may change. -/
class Foot.Reg (F : Foot) (g : RegFam) : Prop where
  reg : ∀ b i, F.reg (g b i)

/-- The captured halves may change. -/
class Foot.Captures (F : Foot) : Prop where
  captures : F.part .captures

/-- The fields that are held low may change. -/
class Foot.HeldLow (F : Foot) : Prop where
  heldLow : F.part .heldLow

/-- The power state may change. -/
class Foot.Power (F : Foot) : Prop where
  power : F.part .power

/-- The clocks may change. -/
class Foot.Clocks (F : Foot) : Prop where
  clocks : F.part .clocks

/-- The fuses may change. -/
class Foot.Fuses (F : Foot) : Prop where
  fuses : F.part .fuses

/-- The press pins may change. -/
class Foot.Pins (F : Foot) : Prop where
  pins : F.part .pins

/-- The seals may change. -/
class Foot.Seals (F : Foot) : Prop where
  seals : F.part .seals

/-- The audit log may change. -/
class Foot.Log (F : Foot) : Prop where
  log : F.part .log

/-- The rings may change. -/
class Foot.Rings (F : Foot) : Prop where
  rings : F.part .rings

/-- The jobs of Hatch and Stipple may change. -/
class Foot.Hatch (F : Foot) : Prop where
  hatch : F.part .hatch

/-- The raster state may change. -/
class Foot.Raster (F : Foot) : Prop where
  raster : F.part .raster

/-- The display may change. -/
class Foot.Display (F : Foot) : Prop where
  display : F.part .display

/-- The press path may change. -/
class Foot.Path (F : Foot) : Prop where
  path : F.part .path

/-- Drypoint may change. -/
class Foot.Drypoint (F : Foot) : Prop where
  drypoint : F.part .drypoint

/-- Tansy may change. -/
class Foot.Tansy (F : Foot) : Prop where
  tansy : F.part .tansy

/-- The press inputs may change. -/
class Foot.Inputs (F : Foot) : Prop where
  inputs : F.part .inputs

/-- The leases may change. -/
class Foot.Leases (F : Foot) : Prop where
  leases : F.part .leases

/-- The fabric state may change. -/
class Foot.Fabric (F : Foot) : Prop where
  fabric : F.part .fabric

/-- The trust state may change. -/
class Foot.Trust (F : Foot) : Prop where
  trust : F.part .trust

/-- The test state may change. -/
class Foot.Test (F : Foot) : Prop where
  test : F.part .test

/-- The event state may change. -/
class Foot.Events (F : Foot) : Prop where
  events : F.part .events

/-- The packets sent may change. -/
class Foot.Sent (F : Foot) : Prop where
  sent : F.part .sent

/-- What goes to the host may change. -/
class Foot.ToHost (F : Foot) : Prop where
  toHost : F.part .toHost

/-- The pool's bytes may change. -/
class Foot.Bytes (F : Foot) : Prop where
  bytes : F.part .bytes

/-- The pool's other state may change. -/
class Foot.Memory (F : Foot) : Prop where
  memory : F.part .memory

/-- The repair state may change. -/
class Foot.Repair (F : Foot) : Prop where
  repair : F.part .repair

/-- The free-running counter may change. -/
class Foot.Free (F : Foot) : Prop where
  free : F.part .free

/-- The translation state may change. -/
class Foot.Translation (F : Foot) : Prop where
  translation : F.part .translation

/-- MC_RETIRE may change. -/
class Foot.McRetire (F : Foot) : Prop where
  mcRetire : ∀ b, F.reg (R.MC_RETIRE b)

/-- MEMG_PPR_STATUS may change. -/
class Foot.PprStatus (F : Foot) : Prop where
  pprStatus : F.reg R.MEMG_PPR_STATUS

/-- RPR_STATUS may change. -/
class Foot.RprStatus (F : Foot) : Prop where
  rprStatus : F.reg R.RPR_STATUS

/-- `evParts` may change. -/
class Foot.EvParts (F : Foot) : Prop extends F.Events, F.Sent, F.ToHost

/-- `memParts` may change. -/
class Foot.MemParts (F : Foot) : Prop extends F.EvParts, F.Bytes, F.Memory, F.Repair

/-- `accParts` may change. -/
class Foot.AccParts (F : Foot) : Prop extends F.MemParts, F.Free, F.Translation

/-- The pending bits of the MSI-X vectors may change. -/
class Foot.PbaRegs (F : Foot) : Prop where
  hifPba : F.reg R.HIF_PBA
  pwPba : ∀ p, F.reg (R.PW_PBA p)

/-- `evRegs` may change. -/
class Foot.EvRegs (F : Foot) : Prop extends F.PbaRegs where
  fabDrop : F.reg R.EVT_FAB_DROP
  occurred : ∀ i, F.reg (R.EVT_OCCURRED i)
  qStatus : F.reg R.EVT_Q_STATUS
  qTail : F.reg R.EVT_Q_TAIL

/-- `memRegs` may change. -/
class Foot.MemRegs (F : Foot) : Prop extends F.EvRegs, F.McRetire, F.PprStatus, F.RprStatus where
  ce : ∀ c, F.reg (R.MC_CE c)
  dev : ∀ c i, F.reg (R.MC_DEV c i)
  errLog : ∀ c, F.reg (R.MC_ERR_LOG c)
  poison : F.reg R.MEMG_POISON

/-- XLT_STATUS may change. -/
class Foot.XltStatus (F : Foot) : Prop where
  xltStatus : F.reg R.XLT_STATUS

/-- `accRegs` may change. -/
class Foot.AccRegs (F : Foot) : Prop extends F.MemRegs, F.XltStatus

/-- `pevRegs` may change. -/
class Foot.PevRegs (F : Foot) : Prop extends F.AccRegs where
  pwQStatus : ∀ p, F.reg (R.PW_EVT_Q_STATUS p)
  pwQTail : ∀ p, F.reg (R.PW_EVT_Q_TAIL p)

@[simp] theorem Foot.reg_of_one (k : Nat) [h : F.Reg (one k)] : F.reg k := h.reg 0 0

@[simp] theorem Foot.reg_of_many (f : Nat → Nat) [h : F.Reg (many f)] (i : Nat) : F.reg (f i) := h.reg i 0

@[simp] theorem Foot.reg_of_reg (g : RegFam) [h : F.Reg g] (b i : Nat) : F.reg (g b i) := h.reg b i

@[simp] theorem Foot.part_captures [h : F.Captures] : F.part .captures := h.captures

@[simp] theorem Foot.part_heldLow [h : F.HeldLow] : F.part .heldLow := h.heldLow

@[simp] theorem Foot.part_power [h : F.Power] : F.part .power := h.power

@[simp] theorem Foot.part_clocks [h : F.Clocks] : F.part .clocks := h.clocks

@[simp] theorem Foot.part_fuses [h : F.Fuses] : F.part .fuses := h.fuses

@[simp] theorem Foot.part_pins [h : F.Pins] : F.part .pins := h.pins

@[simp] theorem Foot.part_seals [h : F.Seals] : F.part .seals := h.seals

@[simp] theorem Foot.part_log [h : F.Log] : F.part .log := h.log

@[simp] theorem Foot.part_rings [h : F.Rings] : F.part .rings := h.rings

@[simp] theorem Foot.part_hatch [h : F.Hatch] : F.part .hatch := h.hatch

@[simp] theorem Foot.part_raster [h : F.Raster] : F.part .raster := h.raster

@[simp] theorem Foot.part_display [h : F.Display] : F.part .display := h.display

@[simp] theorem Foot.part_path [h : F.Path] : F.part .path := h.path

@[simp] theorem Foot.part_drypoint [h : F.Drypoint] : F.part .drypoint := h.drypoint

@[simp] theorem Foot.part_tansy [h : F.Tansy] : F.part .tansy := h.tansy

@[simp] theorem Foot.part_inputs [h : F.Inputs] : F.part .inputs := h.inputs

@[simp] theorem Foot.part_leases [h : F.Leases] : F.part .leases := h.leases

@[simp] theorem Foot.part_fabric [h : F.Fabric] : F.part .fabric := h.fabric

@[simp] theorem Foot.part_trust [h : F.Trust] : F.part .trust := h.trust

@[simp] theorem Foot.part_test [h : F.Test] : F.part .test := h.test

@[simp] theorem Foot.part_events [h : F.Events] : F.part .events := h.events

@[simp] theorem Foot.part_sent [h : F.Sent] : F.part .sent := h.sent

@[simp] theorem Foot.part_toHost [h : F.ToHost] : F.part .toHost := h.toHost

@[simp] theorem Foot.part_bytes [h : F.Bytes] : F.part .bytes := h.bytes

@[simp] theorem Foot.part_memory [h : F.Memory] : F.part .memory := h.memory

@[simp] theorem Foot.part_repair [h : F.Repair] : F.part .repair := h.repair

@[simp] theorem Foot.part_free [h : F.Free] : F.part .free := h.free

@[simp] theorem Foot.part_translation [h : F.Translation] : F.part .translation := h.translation

@[simp] theorem Foot.reg_fabDrop [h : F.EvRegs] : F.reg R.EVT_FAB_DROP := h.fabDrop

@[simp] theorem Foot.reg_occurred [h : F.EvRegs] (b : Nat) : F.reg (R.EVT_OCCURRED b) := h.occurred b

@[simp] theorem Foot.reg_qStatus [h : F.EvRegs] : F.reg R.EVT_Q_STATUS := h.qStatus

@[simp] theorem Foot.reg_qTail [h : F.EvRegs] : F.reg R.EVT_Q_TAIL := h.qTail

@[simp] theorem Foot.reg_hifPba [h : F.PbaRegs] : F.reg R.HIF_PBA := h.hifPba

@[simp] theorem Foot.reg_pwPba [h : F.PbaRegs] (b : Nat) : F.reg (R.PW_PBA b) := h.pwPba b

@[simp] theorem Foot.reg_mcRetire [h : F.McRetire] (b : Nat) : F.reg (R.MC_RETIRE b) := h.mcRetire b

@[simp] theorem Foot.reg_pprStatus [h : F.PprStatus] : F.reg R.MEMG_PPR_STATUS := h.pprStatus

@[simp] theorem Foot.reg_rprStatus [h : F.RprStatus] : F.reg R.RPR_STATUS := h.rprStatus

@[simp] theorem Foot.reg_ce [h : F.MemRegs] (b : Nat) : F.reg (R.MC_CE b) := h.ce b

@[simp] theorem Foot.reg_dev [h : F.MemRegs] (b i : Nat) : F.reg (R.MC_DEV b i) := h.dev b i

@[simp] theorem Foot.reg_errLog [h : F.MemRegs] (b : Nat) : F.reg (R.MC_ERR_LOG b) := h.errLog b

@[simp] theorem Foot.reg_poison [h : F.MemRegs] : F.reg R.MEMG_POISON := h.poison

@[simp] theorem Foot.reg_xltStatus [h : F.XltStatus] : F.reg R.XLT_STATUS := h.xltStatus

@[simp] theorem Foot.reg_pwQStatus [h : F.PevRegs] (b : Nat) : F.reg (R.PW_EVT_Q_STATUS b) := h.pwQStatus b

@[simp] theorem Foot.reg_pwQTail [h : F.PevRegs] (b : Nat) : F.reg (R.PW_EVT_Q_TAIL b) := h.pwQTail b

/-- An update of parts that may change, over registers that agree outside `F`. -/
@[simp] theorem State.out_mk (s t : State) {cap : Tab Nat} {capFrac : Option Nat}
    {heldLow : Tab Nat} {freeCtr : Nat} {pwr : PwrState} {clk : ClkState} {pool : PoolState} {xlt : XltState}
    {evt : EvtState} {press : PressPins} {seals : List Seal} {nextSeal : Nat} {log : LogState} {rings : RingState}
    {hatch : HatchState} {ras : RasState} {dsp : DispState} {prs : PrsState} {dry : DryState} {tns : TnsState}
    {pressIn : PressIn} {leases : Leases} {rpr : RprState} {fab : FabState} {trust : TrustState} {tst : TestState}
    {fabOut : List (Nat × Packet)} {hostOut : List HostOut}
    (hRegs : t.out F = s.out F) (hCap : F.part .captures ∨ cap = s.cap)
    (hCapFrac : F.part .captures ∨ capFrac = s.capFrac) (hHeldLow : F.part .heldLow ∨ heldLow = s.heldLow)
    (hFree : F.part .free ∨ freeCtr = s.freeCtr) (hPwr : F.part .power ∨ pwr = s.pwr)
    (hClk : F.part .clocks ∨ clk = s.clk) (hCells : F.part .bytes ∨ pool.cells = s.pool.cells)
    (hPool : F.part .memory ∨ ({ pool with cells := [] } : PoolState) = { s.pool with cells := [] })
    (hXlt : F.part .translation ∨ xlt = s.xlt) (hEvt : F.part .events ∨ evt = s.evt)
    (hPress : F.part .pins ∨ press = s.press) (hSeals : F.part .seals ∨ seals = s.seals)
    (hNextSeal : F.part .seals ∨ nextSeal = s.nextSeal) (hLog : F.part .log ∨ log = s.log)
    (hRings : F.part .rings ∨ rings = s.rings) (hHatch : F.part .hatch ∨ hatch = s.hatch)
    (hRas : F.part .raster ∨ ras = s.ras) (hDsp : F.part .display ∨ dsp = s.dsp) (hPrs : F.part .path ∨ prs = s.prs)
    (hDry : F.part .drypoint ∨ dry = s.dry) (hTns : F.part .tansy ∨ tns = s.tns)
    (hPressIn : F.part .inputs ∨ pressIn = s.pressIn) (hLeases : F.part .leases ∨ leases = s.leases)
    (hRpr : F.part .repair ∨ rpr = s.rpr) (hFab : F.part .fabric ∨ fab = s.fab)
    (hTrust : F.part .trust ∨ trust = s.trust) (hTst : F.part .test ∨ tst = s.tst)
    (hFabOut : F.part .sent ∨ fabOut = s.fabOut) (hHostOut : F.part .toHost ∨ hostOut = s.hostOut) :
    (State.mk t.regs cap capFrac heldLow s.ticks freeCtr s.fuses pwr clk pool xlt evt press seals nextSeal log rings
      hatch ras dsp prs dry tns pressIn leases rpr fab trust tst fabOut hostOut s.pending).out F = s.out F := by
  refine State.out_eq_iff.mpr ⟨fun x hx => ?_, (State.out_eq_iff.mp hRegs).reg⟩
  clear hRegs
  cases x <;> simp_all [Comp.same]

/-- With the next ones, an update of one part, in the form that `grind` uses. -/
theorem State.out_heldLow [F.HeldLow] (s : State) (x : Tab Nat) :
    ({ s with heldLow := x } : State).out F = s.out F := by
  simp

theorem State.out_clk [F.Clocks] (s : State) (x : ClkState) : ({ s with clk := x } : State).out F = s.out F := by
  simp

theorem State.out_xlt [F.Translation] (s : State) (x : XltState) : ({ s with xlt := x } : State).out F = s.out F := by
  simp

theorem State.out_evt [F.Events] (s : State) (x : EvtState) : ({ s with evt := x } : State).out F = s.out F := by
  simp

theorem State.out_log [F.Log] (s : State) (x : LogState) : ({ s with log := x } : State).out F = s.out F := by
  simp

theorem State.out_hatch [F.Hatch] (s : State) (x : HatchState) : ({ s with hatch := x } : State).out F = s.out F := by
  simp

theorem State.out_ras [F.Raster] (s : State) (x : RasState) : ({ s with ras := x } : State).out F = s.out F := by
  simp

theorem State.out_dsp [F.Display] (s : State) (x : DispState) : ({ s with dsp := x } : State).out F = s.out F := by
  simp

theorem State.out_prs [F.Path] (s : State) (x : PrsState) : ({ s with prs := x } : State).out F = s.out F := by
  simp

theorem State.out_dry [F.Drypoint] (s : State) (x : DryState) : ({ s with dry := x } : State).out F = s.out F := by
  simp

theorem State.out_tns [F.Tansy] (s : State) (x : TnsState) : ({ s with tns := x } : State).out F = s.out F := by
  simp

theorem State.out_rpr [F.Repair] (s : State) (x : RprState) : ({ s with rpr := x } : State).out F = s.out F := by
  simp

theorem State.out_trust [F.Trust] (s : State) (x : TrustState) : ({ s with trust := x } : State).out F = s.out F := by
  simp

/-- An update of any registers, and of the fields that hold a pin low. -/
theorem State.out_regs_heldLow [F.HeldLow] [∀ g, F.Reg g] (s : State) (x : Tab W64) (y : Tab Nat) :
    ({ s with regs := x, heldLow := y } : State).out F = s.out F := by
  refine State.out_eq_iff.mpr ⟨fun c hc => ?_, fun key hKey => absurd (Foot.reg_of_one key) hKey⟩
  by_cases h : c = .heldLow
  · exact absurd (h ▸ Foot.part_heldLow) hc
  · cases c <;> simp_all [Comp.same]

@[simp] theorem State.setReg_out {k : Nat} (h : F.reg k) (v : W64) : (s.setReg k v).out F = s.out F := by
  refine State.out_eq_iff.mpr ⟨fun x _ => ?_, fun key hKey => State.reg_setReg_ne s v fun e => hKey (e ▸ h)⟩
  cases x <;> simp [Comp.same]

@[simp] theorem State.put_out (s : State) {f : Fld} (h : F.reg f.key) (x : Nat) : (s.put f x).out F = s.out F :=
  State.setReg_out h _
@[simp] theorem State.putB_out (s : State) {f : Fld} (h : F.reg f.key) (x : Bool) : (s.putB f x).out F = s.out F :=
  State.setReg_out h _
@[simp] theorem State.bump_out (s : State) {f : Fld} (h : F.reg f.key) (k : Nat) : (s.bump f k).out F = s.out F :=
  State.setReg_out h _
@[simp] theorem State.incr_out (s : State) {f : Fld} (h : F.reg f.key) (k : Nat) : (s.incr f k).out F = s.out F :=
  State.setReg_out h _
@[simp] theorem State.orBits_out (s : State) {f : Fld} (h : F.reg f.key) (k : Nat) : (s.orBits f k).out F = s.out F :=
  State.setReg_out h _

@[simp] theorem State.out_ite (c : Prop) [Decidable c] (a b : State) :
    (if c then a else b).out F = if c then a.out F else b.out F := apply_ite (State.out · F) c a b

@[simp] theorem snd_out_ite {α : Type} (c : Prop) [Decidable c] (x y : α × State) :
    (if c then x else y).2.out F = if c then x.2.out F else y.2.out F :=
  apply_ite (fun x => x.2.out F) c x y

@[simp] theorem State.each_out {α : Type} (s : State) (l : List α) (f : α → State → State)
    (h : ∀ a t, (f a t).out F = t.out F) : (s.each l f).out F = s.out F :=
  State.each_eq s (State.out · F) l f fun a _ t => h a t

/-- The outcome of a command, when it is a next state, agrees with `s` outside `F`. -/
def Leaves (F : Foot) (s : State) (o : Out) : Prop := ∀ t, o = .next t → t.out F = s.out F

/-- The same of a result that may be an error. -/
def LeavesOk {ε : Type} (F : Foot) (s : State) (x : Except ε State) : Prop := ∀ t, x = .ok t → t.out F = s.out F

/-- The same of a result that may be none. -/
def LeavesSome (F : Foot) (s : State) (x : Option State) : Prop := ∀ t, x = some t → t.out F = s.out F

/-- With the next three, the case split of a conditional, without the rewriting of the conditional's parts. -/
theorem out_of_ite {c : Prop} [Decidable c] {a b : State} (ha : a.out F = s.out F) (hb : b.out F = s.out F) :
    (if c then a else b).out F = s.out F := by
  split <;> assumption

@[simp] theorem leaves_next : Leaves F s (.next t) ↔ t.out F = s.out F :=
  ⟨fun h => h t rfl, fun h _ e => Host.Outcome.next.inj e ▸ h⟩

@[simp] theorem leaves_fault (x : Fault) : Leaves F s (.fault x) := fun _ e => nomatch e

@[simp] theorem leaves_refused (x : Refusal) : Leaves F s (.refused x) := fun _ e => nomatch e

@[simp] theorem leaves_ite (c : Prop) [Decidable c] (a b : Out) :
    Leaves F s (if c then a else b) ↔ if c then Leaves F s a else Leaves F s b := by split_ifs <;> rfl

/-- A fold leaves what lies outside `F` that its accumulator holds, when each of its steps does. -/
theorem foldl_out {α β : Type} (g : β → State) (l : List α) (f : β → α → β)
    (h : ∀ b a, (g (f b a)).out F = (g b).out F) (b : β) : (g (l.foldl f b)).out F = (g b).out F :=
  List.foldlRecOn (motive := fun c => (g c).out F = (g b).out F) l f rfl fun c hc a _ => (h c a).trans hc

@[simp] theorem foldl_snd_out {α β : Type} (l : List α) (f : β × State → α → β × State)
    (h : ∀ b a, (f b a).2.out F = b.2.out F) (b : β × State) : (l.foldl f b).2.out F = b.2.out F :=
  foldl_out Prod.snd l f h b

@[simp] theorem leavesOk_ok {ε : Type} : LeavesOk (ε := ε) F s (.ok t) ↔ t.out F = s.out F :=
  ⟨fun h => h t rfl, fun h _ e => Except.ok.inj e ▸ h⟩

@[simp] theorem leavesOk_error {ε : Type} (e : ε) : LeavesOk F s (.error e) := fun _ h => nomatch h

@[simp] theorem leavesOk_ite {ε : Type} (c : Prop) [Decidable c] (a b : Except ε State) :
    LeavesOk F s (if c then a else b) ↔ if c then LeavesOk F s a else LeavesOk F s b := by split_ifs <;> rfl

@[simp] theorem leavesSome_some : LeavesSome F s (some t) ↔ t.out F = s.out F :=
  ⟨fun h => h t rfl, fun h _ e => Option.some.inj e ▸ h⟩

@[simp] theorem leavesSome_none : LeavesSome F s none := fun _ h => nomatch h

@[simp] theorem leavesSome_ite (c : Prop) [Decidable c] (a b : Option State) :
    LeavesSome F s (if c then a else b) ↔ if c then LeavesSome F s a else LeavesSome F s b := by split_ifs <;> rfl

theorem leaves_of_ite {c : Prop} [Decidable c] {a b : Out} (ha : Leaves F s a) (hb : Leaves F s b) :
    Leaves F s (if c then a else b) := by
  split <;> assumption

theorem leavesOk_of_ite {ε : Type} {c : Prop} [Decidable c] {a b : Except ε State} (ha : LeavesOk F s a)
    (hb : LeavesOk F s b) : LeavesOk F s (if c then a else b) := by
  split <;> assumption

theorem leavesSome_of_ite {c : Prop} [Decidable c] {a b : Option State} (ha : LeavesSome F s a) (hb : LeavesSome F s b)
    :
    LeavesSome F s (if c then a else b) := by
  split <;> assumption

/-- Where the caller falls back to `s` itself, so does the claim. -/
theorem leavesSome_getD {x : Option State} (h : LeavesSome F s x) : (x.getD s).out F = s.out F := by
  cases x with
  | none => rfl
  | some t => exact h t rfl

end Sys2Proof.Machine
end

section
/-! SUPPORT. What lies outside the footprint is left. The register file: finding a register by its key, reading and
writing registers and fields, saturating counters, and reloading reset domains. -/

namespace Sys2Proof.Machine

variable {F : Foot}

@[simp] theorem State.loadDomains_out [F.HeldLow] [F.PevRegs] [∀ g, F.Reg g] (s : State) (p : Dom → Bool) :
    (s.loadDomains p).out F = s.out F :=
  State.out_regs_heldLow ..

@[simp] theorem State.draw_out [F.Free] (s : State) : s.draw.out F = s.out F := by
  simp [State.draw]

@[simp] theorem State.faultLow_out [F.Power] (s : State) (c : FaultCause) : (s.faultLow c).out F = s.out F := by
  simp [State.faultLow]

@[simp] theorem State.faultRelease_out [F.Power] (s : State) (c : FaultCause) : (s.faultRelease c).out F =
    s.out F := by
  simp [State.faultRelease]

@[simp] theorem State.host_out [F.ToHost] (s : State) (o : HostOut) : (s.host o).out F = s.out F := by
  simp [State.host]

@[simp] theorem State.send_out [F.Sent] (s : State) (k : Nat) (p : Packet) : (s.send k p).out F = s.out F := by
  simp [State.send]

@[simp] theorem State.writeReg_out [F.PevRegs] [∀ g, F.Reg g] (s : State) (key v : Nat) :
    (s.writeReg key v).out F = s.out F := by
  unfold State.writeReg
  split <;> simp

end Sys2Proof.Machine
end

section
/-! SUPPORT. What lies outside the footprint is left. Event occurrences and their delivery to the steward queue, to
vectors, to SMB_ALERT_N and to fabric targets. -/

namespace Sys2Proof.Machine

variable {F : Foot}

theorem reg_msixPba [F.PbaRegs] (fn : Nat) : F.reg (msixPba fn).key := by
  unfold msixPba
  split <;> simp

@[simp] theorem sendMsix_out [F.ToHost] [F.PbaRegs] (fn vec : Nat) (s : State) :
    (sendMsix fn vec s).out F = s.out F := by
  simp [sendMsix, reg_msixPba]

@[simp] theorem raiseAlert_out [F.Events] (src : Nat) (s : State) : (raiseAlert src s).out F = s.out F := by
  simp [raiseAlert]

@[simp] theorem offerSteward_out [F.Events] [F.ToHost] [F.EvRegs] (e : Event) (vec : Nat) (s : State) :
    (offerSteward e vec s).out F = s.out F := by
  simp [offerSteward]

@[simp] theorem sendEventPackets_out [F.Sent] [F.EvRegs] (e : Event) (s : State) :
    (sendEventPackets e s).out F = s.out F := by
  simp [sendEventPackets]

@[simp] theorem raiseNode_out [F.EvParts] [F.EvRegs] (e : Event) (s : State) : (raiseNode e s).out F = s.out F := by
  simp [raiseNode]

end Sys2Proof.Machine
end

section
/-! SUPPORT. What lies outside the footprint is left. The repair record's pending area: entries, locations, serials and
the merge. -/

namespace Sys2Proof.Machine

variable {F : Foot}

@[simp] theorem repairAdd_out [F.EvParts] [F.Repair] [F.EvRegs] [F.RprStatus] (type flags serial loc : Nat) (s : State)
    : (repairAdd type flags serial loc s).out F = s.out F := by
  simp [repairAdd]

end Sys2Proof.Machine
end

section
/-! SUPPORT. What lies outside the footprint is left. Pool memory: placement, the symbol code at a line, the valid
hierarchy, line reads and writes, error accounting, device retirement and row repair. -/

namespace Sys2Proof.Machine

variable {F : Foot}

@[simp] theorem errLog_out [F.MemRegs] (outcome nsym dev : Nat) (a : DramAddr) (s : State) :
    (errLog outcome nsym dev a s).out F = s.out F := by
  simp [errLog]

@[simp] theorem memEvent_out [F.EvParts] [F.EvRegs] (src d : Nat) (urgent : Bool) (a : DramAddr) (s : State) :
    (memEvent src d urgent a s).out F = s.out F := by
  simp [memEvent]

@[simp] theorem retireDevice_out [F.EvParts] [F.Repair] [F.EvRegs] [F.McRetire] [F.RprStatus] (a : DramAddr) (d : Nat)
    (s : State) : (retireDevice a d s).out F = s.out F := by
  simp [retireDevice]

@[simp] theorem burstEvent_out [F.EvParts] [F.Memory] [F.Repair] [F.EvRegs] [F.McRetire] [F.PprStatus] [F.RprStatus] (a
    : DramAddr) (d : Nat) (s : State) : (burstEvent a d s).out F = s.out F := by
  unfold burstEvent
  dsimp only
  (repeat' split) <;> simp

@[simp] theorem rowFault_out [F.EvParts] [F.Memory] [F.EvRegs] [F.PprStatus] (r : RowRepair) (s : State) :
    (rowFault r s).out F = s.out F := by
  simp [rowFault]

@[simp] theorem rowError_out [F.EvParts] [F.Memory] [F.EvRegs] [F.PprStatus] (a : DramAddr) (d : Nat) (s : State) :
    (rowError a d s).out F = s.out F := by
  simp [rowError]

@[simp] theorem noteCorrected_out [F.EvParts] [F.Memory] [F.Repair] [F.MemRegs] (outcome : Nat) (a : DramAddr) (e
    : List SymErr) (s : State) : (noteCorrected outcome a e s).out F = s.out F := by
  simp [noteCorrected]

@[simp] theorem codewordRead_out [F.EvParts] [F.Memory] [F.Repair] [F.MemRegs] (isMeta : Bool) (line : Nat) (s : State)
    : (codewordRead isMeta line s).2.out F = s.out F := by
  unfold codewordRead
  dsimp only
  split
  · simp
  · split <;> simp

@[simp] theorem noteL2Ue_out [F.Memory] [F.MemRegs] (g : Nat) (s : State) : (noteL2Ue g s).out F = s.out F := by
  simp [noteL2Ue]

@[simp] theorem hierarchy_out [F.EvParts] [F.Memory] [F.Repair] [F.MemRegs] (line : Nat) (s : State) :
    (hierarchy line s).2.out F = s.out F := by
  unfold hierarchy
  grind [noteL2Ue_out, codewordRead_out]

@[simp] theorem readServed_out [F.EvParts] [F.Memory] [F.Repair] [F.MemRegs] (line : Nat) (s : State) :
    (readServed line s).2.out F = s.out F := by
  unfold readServed
  grind [hierarchy_out, codewordRead_out]

@[simp] theorem cleanL1_out [F.Memory] (g : Nat) (s : State) : (cleanL1 g s).out F = s.out F := by
  simp [cleanL1]

@[simp] theorem openGranule_out [F.Memory] (g : Nat) (s : State) : (openGranule g s).out F = s.out F := by
  simp [openGranule]

@[simp] theorem setValid_out [F.Memory] (line : Nat) (s : State) : (setValid line s).out F = s.out F := by
  simp [setValid]

@[simp] theorem storeLine_out [F.Bytes] [F.Memory] (line : Nat) (data : List Byte) (s : State) :
    (storeLine line data s).out F = s.out F := by
  simp [storeLine]

@[simp] theorem writeServed_out [F.MemParts] [F.MemRegs] (line : Nat) (data : List Byte) (s : State) :
    (writeServed line data s).2.out F = s.out F := by
  unfold writeServed
  grind [hierarchy_out, storeLine_out]

@[simp] theorem partServed_out [F.MemParts] [F.MemRegs] (line mask : Nat) (data : List Byte) (s : State) :
    (partServed line mask data s).2.out F = s.out F := by
  unfold partServed
  grind [storeLine_out, readServed_out]

@[simp] theorem opServed_out [F.MemParts] [F.MemRegs] (line : Nat) (op : MemOp) (s : State) :
    (opServed line op s).2.out F = s.out F := by
  unfold opServed
  split <;> simp

@[simp] theorem lineOp_out [F.MemParts] [F.MemRegs] (line : Nat) (op : MemOp) (s : State) :
    (lineOp line op s).2.out F = s.out F := by
  unfold lineOp
  split <;> simp

@[simp] theorem lineRequest_out [F.MemParts] [F.MemRegs] (line : Nat) (op : MemOp) (s : State) :
    (lineRequest line op s).out F = s.out F := by
  unfold lineRequest
  split <;> simp <;> grind [lineOp_out]

@[simp] theorem serveHeld_out [F.MemParts] [F.MemRegs] (s : State) : (serveHeld s).out F = s.out F := by
  simp [serveHeld]

@[simp] theorem addErrors_out [F.Memory] (l : List (Nat × List SymErr)) (s : State) :
    (addErrors l s).out F = s.out F := by
  simp [addErrors]

@[simp] theorem addL2Ue_out [F.Memory] (l : List Nat) (s : State) : (addL2Ue l s).out F = s.out F := by
  simp [addL2Ue]

end Sys2Proof.Machine
end

section
/-! SUPPORT. What lies outside the footprint is left. Partitions' granules, translation, violations, accesses by virtual
address, and invalidation. -/

namespace Sys2Proof.Machine

variable {F : Foot}

@[simp] theorem State.setLc_out [F.Reg (one R.SMB_LIFECYCLE)] (s : State) (p v : Nat) :
    (s.setLc p v).out F = s.out F := by
  simp [State.setLc]

@[simp] theorem State.setTdi_out [F.Reg (one R.SMB_TDI)] (s : State) (p v : Nat) : (s.setTdi p v).out F = s.out F := by
  simp [State.setTdi]

@[simp] theorem State.setGran_out [F.Translation] (s : State) (g : Nat) (x : GState) : (s.setGran g x).out F =
    s.out F := by
  simp [State.setGran]

@[simp] theorem freeGranuleBits_out [F.Memory] (g : Nat) (s : State) : (freeGranuleBits g s).out F = s.out F := by
  simp [freeGranuleBits]

@[simp] theorem freeGranule_out [F.Memory] [F.Translation] (g : Nat) (s : State) :
    (freeGranule g s).out F = s.out F := by
  simp [freeGranule]

@[simp] theorem recordViolation_out [F.Translation] (p : Nat) (kind : Viol) (op va cid : Nat) (src : Src) (s : State) :
    (recordViolation p kind op va cid src s).out F = s.out F := by
  simp [recordViolation]

@[simp] theorem readAt_out [F.MemParts] [F.MemRegs] (ppa n : Nat) (s : State) : (readAt ppa n s).2.out F = s.out F := by
  unfold readAt
  grind [lineOp_out]

@[simp] theorem cacheLook_out [F.Free] [F.XltStatus] {α : Type} (o : Option α) (s : State) : (cacheLook o s).2.out F =
    s.out F := by
  unfold cacheLook
  split <;> simp

@[simp] theorem contextEntry_out [F.AccParts] [F.AccRegs] (cid : Nat) (s : State) : (contextEntry cid s).2.out F =
    s.out F := by
  unfold contextEntry
  grind [State.out_xlt, cacheLook_out, readAt_out]

@[simp] theorem walk_out [F.MemParts] [F.Translation] [F.MemRegs] (p cid va lvl t : Nat) (s : State) :
    (walk p cid va lvl t s).2.out F = s.out F := by
  induction lvl generalizing t s with
  | zero => rfl
  | succ lvl ih =>
    unfold walk
    grind [State.out_xlt, readAt_out]

@[simp] theorem leafOf_out [F.AccParts] [F.AccRegs] (ce : CachedCtx) (va : Nat) (s : State) : (leafOf ce va s).2.out F =
    s.out F := by
  unfold leafOf
  dsimp only
  split <;> simp <;> grind [State.out_xlt, cacheLook_out, walk_out]

@[simp] theorem translateBy_out [F.AccParts] [F.AccRegs] (own : Option Nat) (src : Src) (cid va : Nat) (op : AccOp)
    (s : State) : (translateBy own src cid va op s).2.out F = s.out F := by
  unfold translateBy
  grind [contextEntry_out, leafOf_out]

@[simp] theorem translate_out [F.AccParts] [F.AccRegs] (src : Src) (cid va : Nat) (op : AccOp) (s : State) :
    (translate src cid va op s).2.out F = s.out F := by
  simp [translate]

@[simp] theorem readPiece_out [F.AccParts] [F.AccRegs] (src : Src) (cid : Nat) (pc : Nat × Nat) (rs : AccRes × State) :
    (readPiece src cid pc rs).2.out F = rs.2.out F := by
  unfold readPiece
  grind [translate_out, readAt_out]

@[simp] theorem countAccess_out [F.Translation] (src : Src) (cid : Nat) (op : AccOp) (rs : AccRes × State) :
    (countAccess src cid op rs).2.out F = rs.2.out F := by
  unfold countAccess
  split
  · rfl
  · simp

@[simp] theorem readVA_out [F.AccParts] [F.AccRegs] (src : Src) (cid va n : Nat) (s : State) :
    (readVA src cid va n s).2.out F = s.out F := by
  simp [readVA]

@[simp] theorem writePiece_out [F.AccParts] [F.AccRegs] (own : Option Nat) (src : Src) (cid base : Nat)
    (data : List Byte) (pc : Nat × Nat) (rs : AccRes × State) : (writePiece own src cid base data pc rs).2.out F =
    rs.2.out F := by
  unfold writePiece
  grind [translateBy_out, lineOp_out]

@[simp] theorem writeVABy_out [F.AccParts] [F.AccRegs] (own : Option Nat) (src : Src) (cid va : Nat) (data : List Byte)
    (s : State) : (writeVABy own src cid va data s).2.out F = s.out F := by
  simp [writeVABy]

@[simp] theorem writeVA_out [F.AccParts] [F.AccRegs] (src : Src) (cid va : Nat) (data : List Byte) (s : State) :
    (writeVA src cid va data s).2.out F = s.out F := by
  simp [writeVA]

@[simp] theorem atomicVA_out [F.AccParts] [F.AccRegs] (src : Src) (cid va op sz a b : Nat) (s : State) :
    (atomicVA src cid va op sz a b s).2.out F = s.out F := by
  unfold atomicVA
  grind [translate_out, lineOp_out, countAccess_out, readAt_out]

@[simp] theorem dropCaches_out [F.Translation] (p : Nat) (s : State) : (dropCaches p s).out F = s.out F := by
  simp [dropCaches]

@[simp] theorem applyInvalidation_out [F.Translation] (d : InvDesc) (s : State) : (applyInvalidation d s).out F =
    s.out F := by
  simp [applyInvalidation]

@[simp] theorem takeEpoch_out {f : Fld} (h : F.reg f.key) (epoch : Nat) (s : State) :
    (takeEpoch f epoch s).out F = s.out F := by
  simp [takeEpoch, h]

@[simp] theorem acceptInvalidation_out [F.Translation] [F.Reg (many R.XLT_EPOCH_CUR)] (fr : InvFrom) (src : Src)
    (entitled : Bool) (d : InvDesc)
    (s : State) : (acceptInvalidation fr src entitled d s).out F = s.out F := by
  simp [acceptInvalidation]

@[simp] theorem windowInvalidate_out [F.Translation] [F.Reg (many R.PW_INV_STATUS)] [F.Reg (many R.XLT_EPOCH_CUR)] (p
    w3 : Nat) (s : State) :
    (windowInvalidate p w3 s).out F = s.out F := by
  simp [windowInvalidate]

end Sys2Proof.Machine
end

section
/-! SUPPORT. What lies outside the footprint is left. Delivery of the events of a partition to the partition's queue and
vectors. -/

namespace Sys2Proof.Machine

variable {F : Foot}

@[simp] theorem partQFault_out [F.Events] [F.PevRegs] (p : Nat) (s : State) : (partQFault p s).out F = s.out F := by
  simp [partQFault]

@[simp] theorem offerPart_out [F.AccParts] [F.PevRegs] (p : Nat) (e : Event) (s : State) : (offerPart p e s).out F =
    s.out F := by
  simp [offerPart]

@[simp] theorem raisePart_out [F.AccParts] [F.PevRegs] (p : Nat) (e : Event) (s : State) : (raisePart p e s).out F =
    s.out F := by
  simp [raisePart]

@[simp] theorem raiseHolder_out [F.AccParts] [F.PevRegs] (holder : Option Nat) (src a0 a1 a2 : Nat) (s : State) :
    (raiseHolder holder src a0 a1 a2 s).out F = s.out F := by
  unfold raiseHolder
  split <;> simp

end Sys2Proof.Machine
end

section
/-! SUPPORT. What lies outside the footprint is left. The audit log's own operations: records, the chain, acceptance,
reservations, banks and the tombstone. -/

namespace Sys2Proof.Machine

variable {F : Foot}

@[simp] theorem logEvent_out [F.EvParts] [F.EvRegs] (src inst : Nat) (s : State) : (logEvent src inst s).out F =
    s.out F := by
  simp [logEvent]

@[simp] theorem logWaits_out [F.EvParts] [F.Log] [F.EvRegs] (s : State) : (logWaits s).out F = s.out F := by
  simp [logWaits]

@[simp] theorem checkNearFull_out [F.EvParts] [F.Log] [F.EvRegs] (s : State) : (checkNearFull s).out F = s.out F := by
  simp [checkNearFull]

@[simp] theorem logSubmit_out [F.EvParts] [F.Log] [F.EvRegs] (cls : LogClass) (urgent : Bool) (type : Nat)
    (merged : Bool) (subject : Nat) (payload : List Byte) (resv : Option Nat) (cont : LogCont) (s : State) :
    (logSubmit cls urgent type merged subject payload resv cont s).out F = s.out F := by
  simp [logSubmit]

@[simp] theorem logOrdinary_out [F.EvParts] [F.Log] [F.EvRegs] (type subject : Nat) (payload : List Byte)
    (cont : LogCont) (s : State) : (logOrdinary type subject payload cont s).out F = s.out F := by
  simp [logOrdinary]

@[simp] theorem logIssuance_out [F.EvParts] [F.Log] [F.EvRegs] (i : IssueInfo) (outcome resv : Nat)
    (cont : LogCont) (s : State) : (logIssuance i outcome resv cont s).out F = s.out F := by
  simp [logIssuance]

@[simp] theorem takeReservation_out [F.Log] (info : Option IssueInfo) (s : State) :
    (takeReservation info s).2.out F = s.out F := by
  simp [takeReservation]

@[simp] theorem releaseReservation_out [F.Log] (id : Nat) (s : State) : (releaseReservation id s).out F =
    s.out F := by
  simp [releaseReservation]

@[simp] theorem updateReservation_out [F.Log] (id : Nat) (f : Reservation → Reservation) (s : State) :
    (updateReservation id f s).out F = s.out F := by
  simp [updateReservation]

@[simp] theorem acceptWaiting_out [F.Log] (s : State) : (acceptWaiting s).out F = s.out F := by
  rw [acceptWaiting, State.out_log]
  refine State.each_out s _ _ fun i t => ?_
  split
  · split_ifs <;> simp
  · rfl

@[simp] theorem enterLog_out [F.Log] (i : Nat) (r : LogRec) (s : State) : (enterLog i r s).out F = s.out F := by
  unfold enterLog
  grind [State.out_log]

@[simp] theorem writeTomb_out [F.Reg (many R.LOG_TOMBSTONE)] (b : List Byte) (s : State) : (writeTomb b s).out F =
    s.out F := by
  simp [writeTomb]

@[simp] theorem logHalt_out [F.EvParts] [F.Power] [F.Log] [F.EvRegs] [F.Reg (many R.LOG_TOMBSTONE)]
    (s : State) : (logHalt s).out F = s.out F := by
  simp [logHalt]

@[simp] theorem bankFails_out [F.EvParts] [F.Log] [F.EvRegs] (bank cause seq : Nat) (s : State) :
    (bankFails bank cause seq s).out F = s.out F := by
  simp [bankFails]

@[simp] theorem logAppend_out [F.EvParts] [F.Power] [F.Log] [F.EvRegs] [F.Reg (many R.LOG_TOMBSTONE)]
    (okA okB : Bool) (s : State) : (logAppend okA okB s).2.out F = s.out F := by
  unfold logAppend
  grind [logHalt_out, bankFails_out, checkNearFull_out, enterLog_out]

end Sys2Proof.Machine
end

section
/-! SUPPORT. What lies outside the footprint is left. Rings and their registers, programs and tallies, and a program's
own memory accesses. -/

namespace Sys2Proof.Machine

variable {F : Foot}

@[simp] theorem State.setRing_out [F.Rings] (s : State) (r : Nat) (x : Ring) : (s.setRing r x).out F = s.out F := by
  simp [State.setRing]

@[simp] theorem State.setProg_out [F.Rings] (s : State) (r : Nat) (p : Prog) : (s.setProg r p).out F = s.out F := by
  simp [State.setProg]

@[simp] theorem onProg_out [F.Rings] (r : Nat) (f : Prog → Prog) (s : State) : (onProg r f s).out F = s.out F := by
  unfold onProg
  split <;> simp

@[simp] theorem tallyDone_out [F.Rings] (r t status detail : Nat) (s : State) :
    (tallyDone r t status detail s).out F = s.out F := by
  simp [tallyDone]

@[simp] theorem setRingState_out [F.Reg R.PW_RING_STATUS] (r st : Nat) (s : State) : (setRingState r st s).out F =
    s.out F := by
  simp [setRingState]

@[simp] theorem pauseRing_out [F.AccParts] [F.PevRegs] [F.Reg R.PW_RING_STATUS] (r cause : Nat) (s : State) :
    (pauseRing r cause s).out F = s.out F := by
  simp [pauseRing]

@[simp] theorem State.setCore_out [F.Rings] (s : State) (c : Nat) (x : Core) : (s.setCore c x).out F = s.out F := by
  simp [State.setCore]

@[simp] theorem smReadPiece_out [F.MemParts] [F.MemRegs] (pc : Nat × Nat) (rs : AccRes × State) :
    (smReadPiece pc rs).2.out F = rs.2.out F := by
  unfold smReadPiece
  grind [readAt_out]

@[simp] theorem smWritePiece_out [F.MemParts] [F.MemRegs] (base : Nat) (data : List Byte) (pc : Nat × Nat)
    (rs : AccRes × State) : (smWritePiece base data pc rs).2.out F = rs.2.out F := by
  unfold smWritePiece
  grind [lineOp_out]

@[simp] theorem ringRead_out [F.AccParts] [F.AccRegs] (r ctx va n : Nat) (s : State) : (ringRead r ctx va n s).2.out F =
    s.out F := by
  unfold ringRead
  split_ifs <;> simp

@[simp] theorem ringWrite_out [F.AccParts] [F.AccRegs] (r ctx va : Nat) (data : List Byte) (s : State) :
    (ringWrite r ctx va data s).2.out F = s.out F := by
  unfold ringWrite
  split_ifs <;> simp

@[simp] theorem ringAtomic_out [F.AccParts] [F.AccRegs] (r ctx va op sz a b : Nat) (s : State) :
    (ringAtomic r ctx va op sz a b s).2.out F = s.out F := by
  unfold ringAtomic
  grind [ringRead_out, ringWrite_out, atomicVA_out]

@[simp] theorem orderViolation_out [F.Translation] (r : Nat) (k : Viol) (op va cid : Nat) (s : State) :
    (orderViolation r k op va cid s).out F = s.out F := by
  simp [orderViolation]

end Sys2Proof.Machine
end

section
/-! SUPPORT. What lies outside the footprint is left. Surfaces as readers see them, display lists, coverage, colour and
screening, the plate hash, and seals. -/

namespace Sys2Proof.Machine

variable {F : Foot}

theorem rdMany_out {rd : Rd} (hrd : ∀ va n t, (rd va n t).2.out F = t.out F) (l : List (Nat × Nat)) (s : State) :
    (rdMany rd l s).2.out F = s.out F := by
  simp [rdMany, hrd]

theorem readFlags_out {rd : Rd} (hrd : ∀ va n t, (rd va n t).2.out F = t.out F) (f : Surf) (s : State) :
    (readFlags rd f s).2.2.out F = s.out F := by
  simp [readFlags, hrd]

theorem tileRow_out {rd : Rd} (hrd : ∀ va n t, (rd va n t).2.out F = t.out F) (f : Surf) (fl : Flags) (y tx : Nat)
    (s : State) : (tileRow rd f fl y tx s).2.out F = s.out F := by
  unfold tileRow
  split_ifs <;> simp [hrd]

theorem rowSeen_out {rd : Rd} (hrd : ∀ va n t, (rd va n t).2.out F = t.out F) (f : Surf) (fl : Flags) (y : Nat)
    (s : State) : (rowSeen rd f fl y s).2.out F = s.out F := by
  simp [rowSeen, tileRow_out hrd]

theorem plateBytes_out {rd : Rd} (hrd : ∀ va n t, (rd va n t).2.out F = t.out F) (f : Surf) (s : State) :
    (plateBytes rd f s).2.out F = s.out F := by
  simp [plateBytes, readFlags_out hrd, rowSeen_out hrd]

theorem readImages_out {rd : Rd} (hrd : ∀ va n t, (rd va n t).2.out F = t.out F) (fmt x0 x1 y0 y1 : Nat) (l : List RCmd)
    (s : State) : (readImages rd fmt x0 x1 y0 y1 l s).2.2.out F = s.out F := by
  refine foldl_out (fun a : List RCmd × AccRes × State => a.2.2) _ _ (fun acc c => ?_) _
  dsimp only
  split
  · exact foldl_out (fun a : Tab (List Byte) × AccRes × State => a.2.2) _ _ (fun _ _ => hrd _ _ _) _
  · rfl

@[simp] theorem captureFrames_out [F.AccParts] [F.AccRegs] (r cid va n : Nat) (x : Captured) :
    (captureFrames r cid va n x).2.2.out F = x.2.2.out F := by
  unfold captureFrames
  split_ifs
  · rfl
  · refine foldl_out (fun c : Captured => c.2.2) _ _ (fun c i => ?_) x
    grind [translate_out, recordViolation_out]

@[simp] theorem takeSeal_out [F.Seals] (pages : NSet) (press : Bool) (s : State) : (takeSeal pages press s).2.out F
    = s.out F := by
  simp [takeSeal]

@[simp] theorem dropSeal_out [F.Seals] (id : Nat) (s : State) : (dropSeal id s).out F = s.out F := by
  simp [dropSeal]

@[simp] theorem captureSurf_out [F.AccParts] [F.AccRegs] (r : Nat) (f : Surf) (s : State) :
    (captureSurf r f s).2.2.out F = s.out F := by
  simp [captureSurf]

@[simp] theorem mapRd_out [F.MemParts] [F.MemRegs] (m : Tab Nat) (va n : Nat) (s : State) : (mapRd m va n s).2.out F =
    s.out F := by
  unfold mapRd
  refine foldl_out Prod.snd _ _ (fun rs pc => ?_) _
  grind [readAt_out]

@[simp] theorem ringRd_out [F.AccParts] [F.AccRegs] (r cid va n : Nat) (s : State) : (ringRd r cid va n s).2.out F =
    s.out F := by
  simp [ringRd]

end Sys2Proof.Machine
end

section
/-! SUPPORT. What lies outside the footprint is left. KCS instruction words, the program check, and what every
instruction has in common: its guard, its place in the program, its tally and its order. -/

namespace Sys2Proof.Machine

variable {F : Foot}

@[simp] theorem kcs_leaves [F.Rings] {r : Fin 132} {g : Guard} {w : W64} {ext : List W64}
    {body : Prog → State → State} {s : State} (h : ∀ p, (body p s).out F = s.out F) : Leaves F s (kcs r g w ext body s)
    := by
  obtain hs | ⟨p, -, -, ⟨-, hs⟩ | ⟨-, hs⟩⟩ := kcs_cases r g w ext body s <;> simp [hs, h]

@[simp] theorem kcsReg_leaves [F.Rings] (r : Fin 132) (g : Guard) (w : W64) (ext : List W64) (f : Prog → Prog)
    (s : State) : Leaves F s (kcsReg r g w ext f s) := by
  simp [kcsReg]

@[simp] theorem endAt_out [F.Rings] (r status detail : Nat) (p : Prog) (s : State) :
    (endAt r status detail p s).out F = s.out F := by
  simp [endAt]

@[simp] theorem kindA_out [F.Rings] {r t : Nat} {p : Prog} {s : State} {issue : Prog → State → State}
    (h : ∀ q, (issue q s).out F = s.out F) : (kindA r t p s issue).out F = s.out F := by
  simp [kindA, h]

@[simp] theorem orderOf_out [F.Rings] {r code : Nat} {lost : Bool} {p : Prog} {s : State}
    {run : Prog → State → State} (h : ∀ q, (run q s).out F = s.out F) :
    (orderOf r code lost p s run).out F = s.out F := by
  simp [orderOf, h]

@[simp] theorem issueDone_out [F.Rings] (r t status detail : Nat) (p : Prog) (s : State) :
    (issueDone r t status detail p s).out F = s.out F := by
  simp [issueDone]

@[simp] theorem access_out [F.Rings] {r : Nat} {p : Prog} {s s0 : State} {x : AccRes × State}
    {k : List Byte → State → State} (h0 : s0.out F = s.out F) (hx : x.2.out F = s.out F)
    (h : ∀ d t, t.out F = s.out F → (k d t).out F = s.out F) : (access r p s0 x k).out F = s.out F := by
  unfold access
  split_ifs
  · exact h0
  · split
    · simp [hx]
    · exact h _ _ hx

end Sys2Proof.Machine
end

section
/-! SUPPORT. What lies outside the footprint is left. Burin: raster contexts and their queues, the tiles of a job, and a
band of a streaming page. -/

namespace Sys2Proof.Machine

variable {F : Foot}

@[simp] theorem State.setRasQueue_out [F.Raster] (s : State) (n : Nat) (l : List RasJob) :
    (s.setRasQueue n l).out F = s.out F := by
  simp [State.setRasQueue]

@[simp] theorem dropQueuedJobs_out [F.Rings] [F.Raster] (n : Nat) (s : State) : (dropQueuedJobs n s).out F =
    s.out F := by
  simp [dropQueuedJobs]

@[simp] theorem cancelJobs_out [F.Raster] (p : Nat) (s : State) : (cancelJobs p s).out F = s.out F := by
  simp [cancelJobs]

theorem rasIssue_out [F.Translation] [F.Rings] [F.Raster] (r t : Nat) (clear : Bool) (f : List W64) (p : Prog)
    {s0 s : State} (h : s0.out F = s.out F) : (rasIssue r t clear f p s0 s).out F = s.out F := by
  simp [rasIssue, h]

@[simp] theorem execRdraw_leaves [F.Translation] [F.Rings] [F.Raster] (r : Fin 132) (g : Guard)
    (da t : Fin 16) (lost : Bool) (s : State) : Leaves F s (execRdraw r g da t lost s) := by
  unfold execRdraw
  grind [kindA_out, orderOf_out, kcs_leaves, rasIssue_out]

@[simp] theorem execRclear_leaves [F.Translation] [F.Rings] [F.Raster] (r : Fin 132) (g : Guard)
    (da t : Fin 16) (lost : Bool) (s : State) : Leaves F s (execRclear r g da t lost s) := by
  unfold execRclear
  grind [kindA_out, orderOf_out, kcs_leaves, rasIssue_out]

@[simp] theorem endJob_out [F.Rings] [F.Raster] [F.Reg (one R.RAS_JOBS)] (n status detail : Nat) (s : State) :
    (endJob n status detail s).out F = s.out F := by
  unfold endJob
  split <;> simp

theorem wrMany_out {wr : Nat → List Byte → State → AccRes × State} (hwr : ∀ va d t, (wr va d t).2.out F = t.out F)
    (l : List (Nat × List Byte)) (s : State) : (wrMany wr l s).2.out F = s.out F := by
  simp [wrMany, hwr]

@[simp] theorem renderFrom_out [F.AccParts] [F.AccRegs] [F.Reg (one R.RAS_TILES)] (j : RasJob) (f : Surf)
    (cmds : List RCmd) (fuel t : Nat) (s : State) : (renderFrom j f cmds fuel t s).2.out F = s.out F := by
  have hi := readImages_out (F := F) (ringRd_out j.ring f.cid)
  have hm := rdMany_out (F := F) (ringRd_out j.ring f.cid)
  have hw := wrMany_out (F := F) (fun va d t => writeVA_out (.ring j.ring) f.cid va d t)
  induction fuel generalizing t s with
  | zero => rfl
  | succ fuel ih =>
    unfold renderFrom
    dsimp only
    split
    · rfl
    · split
      · simp [hi]
      · split
        · simp [ih, hi]
        · split
          · simp [hi, hm]
          · split
            · simp [hi, hm]
            · split <;> simp [hi, hm, hw]

@[simp] theorem onJob_out [F.Raster] (n : Nat) (f : RasJob → RasJob) (s : State) : (onJob n f s).out F = s.out F := by
  unfold onJob
  split <;> simp

@[simp] theorem jobStep_out [F.AccParts] [F.Rings] [F.Raster] [F.AccRegs] [F.Reg (one R.RAS_JOBS)]
    [F.Reg (one R.RAS_TILES)] (s : State) : (jobStep s).out F = s.out F := by
  unfold jobStep
  dsimp only
  split
  · rfl
  · split
    · rfl
    · split
      · split <;> simp
      · split
        · simp
        · rfl
        · split
          · simp
          · generalize hx : renderFrom _ _ _ _ _ _ = x
            have h : x.2.out F = s.out F := by simp [← hx]
            obtain ⟨res, u⟩ := x
            cases res <;> simp_all

@[simp] theorem renderBand_out [F.AccParts] [F.AccRegs] (p : Page) (x : Stream) (k : Nat) (s : State) :
    (renderBand p x k s).2.out F = s.out F := by
  have hi := readImages_out (F := F) (ringRd_out p.ring x.cid)
  have hw := wrMany_out (F := F) (fun va d t => writeVABy_out (some p.sealId) (.ring p.ring) x.cid va d t)
  unfold renderBand
  dsimp only
  split
  · simp
  · split
    · simp
    · split <;> simp [hi, hw]

@[simp] theorem thrDataWrite_out [F.Raster] [F.Reg (one R.RAS_THR_SEL)] [F.Reg (one R.RAS_THR_STATUS)] (v : Nat)
    (s : State) : (thrDataWrite v s).out F = s.out F := by
  simp [thrDataWrite]

@[simp] theorem execRasThrDataWrite_leaves [F.Raster] [F.Reg (one R.RAS_THR_SEL)] [F.Reg (one R.RAS_THR_STATUS)]
    (v : W32) (s : State) : Leaves F s (execRasThrDataWrite v s) := by
  simp [execRasThrDataWrite]

@[simp] theorem ctxOwnerWrite_out [F.Rings] [F.Raster] [F.Reg (many R.RAS_CTX_OWNER)] (n v : Nat) (s : State)
    : (ctxOwnerWrite n v s).out F = s.out F := by
  simp [ctxOwnerWrite]

@[simp] theorem execRasCtxOwnerWrite_leaves [F.Rings] [F.Raster] [F.Reg (many R.RAS_CTX_OWNER)] (n : Fin 8)
    (v : W32) (s : State) : Leaves F s (execRasCtxOwnerWrite n v s) := by
  simp [execRasCtxOwnerWrite]

@[simp] theorem execTileBufferUe_leaves [F.Raster] [F.Reg (one R.RAS_RETILES)] (s : State) : Leaves F s
    (execTileBufferUe s) := by
  unfold execTileBufferUe
  split <;> simp

end Sys2Proof.Machine
end

section
/-! SUPPORT. What lies outside the footprint is left. Synthesizers, the frequency monitor, gating of island clocks and
the quadrants' response. -/

namespace Sys2Proof.Machine

variable {F : Foot}

@[simp] theorem State.setSyn_out [F.Clocks] (s : State) (n : Nat) (x : Syn) : (s.setSyn n x).out F = s.out F := by
  simp [State.setSyn]

@[simp] theorem setIslandClock_out [F.Reg (one R.CKR_ISL_CLK)] (mask : Nat) (run : Bool) (s : State) :
    (setIslandClock mask run s).out F = s.out F := by
  simp [setIslandClock]

@[simp] theorem setSynState_out [F.Clocks] [F.Reg (one R.CKR_ISL_CLK)] [F.Reg (many R.CKR_SYN_STATUS)] (n st : Nat)
    (s : State) : (setSynState n st s).out F = s.out F := by
  simp [setSynState]

@[simp] theorem synEvent_out [F.EvParts] [F.EvRegs] (src n : Nat) (s : State) : (synEvent src n s).out F = s.out F := by
  simp [synEvent]

@[simp] theorem setQuad_out [F.Clocks] (q : Nat) (m : QuadMode) (s : State) : (setQuad q m s).out F = s.out F := by
  simp [setQuad]

@[simp] theorem moveChannels_out [F.Reg (many R.MC_STATUS)] (q old new : Nat) (s : State) :
    (moveChannels q old new s).out F = s.out F := by
  simp [moveChannels]

@[simp] theorem quadSelfRefresh_out [F.Clocks] [F.Memory] [F.Reg (many R.MC_STATUS)] [F.PprStatus] (q : Nat)
    (s : State) : (quadSelfRefresh q s).out F = s.out F := by
  unfold quadSelfRefresh
  split <;> simp

@[simp] theorem quadRelock_out [F.Clocks] (q : Nat) (s : State) : (quadRelock q s).out F = s.out F := by
  unfold quadRelock
  grind [setQuad_out]

@[simp] theorem quadServe_out [F.MemParts] [F.Clocks] [F.MemRegs] [F.Reg (many R.MC_STATUS)] (q : Nat) (s : State)
    : (quadServe q s).out F = s.out F := by
  simp [quadServe]

@[simp] theorem gateAndRestart_out [F.Clocks] [F.Reg (one R.CKR_ISL_CLK)] [F.Reg (many R.CKR_SYN_STATUS)] (n : Nat)
    (off : Bool) (s : State) : (gateAndRestart n off s).out F = s.out F := by
  simp [gateAndRestart]

@[simp] theorem applySynWrite_out [F.Clocks] [F.Reg (one R.CKR_ISL_CLK)] [F.Reg (many R.CKR_SYN_STATUS)] (n : Nat)
    (s : State) : (applySynWrite n s).out F = s.out F := by
  unfold applySynWrite
  grind [State.out_clk, setQuad_out, gateAndRestart_out]

@[simp] theorem writeCtl_out [F.Clocks] [F.Reg (one R.CKR_ISL_CLK)] [F.Reg (many R.CKR_SYN_CTL)]
    [F.Reg (many R.CKR_SYN_FRAC)] [F.Reg (many R.CKR_SYN_STATUS)] (n : Nat) (en : Bool) (odiv nint nfrac : Nat)
    (s : State) : (writeCtl n en odiv nint nfrac s).out F = s.out F := by
  simp [writeCtl]

@[simp] theorem stewardCtl_out [F.Clocks] [F.Reg (many R.CKR_SYN_STATUS)] (n : Nat) (v : W32) (s : State) :
    (stewardCtl n v s).out F = s.out F := by
  simp [stewardCtl]

@[simp] theorem synCtlWrite_out [F.Clocks] [F.Reg (one R.CKR_ISL_CLK)] [F.Reg (many R.CKR_SYN_CTL)]
    [F.Reg (many R.CKR_SYN_FRAC)] [F.Reg (many R.CKR_SYN_STATUS)] (w : SynWriter) (n : Nat) (v : W32) (s : State) :
    (synCtlWrite w n v s).out F = s.out F := by
  simp [synCtlWrite]

@[simp] theorem synLockWrite_out [F.Clocks] [F.Reg (one R.CKR_ISL_CLK)] [F.Reg (many R.CKR_SYN_LOCK)]
    [F.Reg (many R.CKR_SYN_STATUS)] (w : SynWriter) (n : Nat) (v : W32) (s : State) : (synLockWrite w n v s).out F =
    s.out F := by
  simp [synLockWrite]

@[simp] theorem synGuardWrite_out [F.Reg (many R.CKR_SYN_GUARD)] (w : SynWriter) (n : Nat) (v : W32) (s : State) :
    (synGuardWrite w n v s).out F = s.out F := by
  simp [synGuardWrite]

@[simp] theorem enterLocked_out [F.Power] [F.Clocks] [F.Reg (one R.CKR_ISL_CLK)]
    [F.Reg (many R.CKR_SYN_STATUS)] (n : Nat) (s : State) : (enterLocked n s).out F = s.out F := by
  unfold enterLocked
  split <;> simp

@[simp] theorem startCoast_out [F.EvParts] [F.Clocks] [F.Memory] [F.EvRegs] [F.Reg (one R.CKR_ISL_CLK)]
    [F.Reg (many R.CKR_SYN_STATUS)] [F.Reg (many R.MC_STATUS)] [F.PprStatus] (n : Nat) (s : State) :
    (startCoast n s).out F = s.out F := by
  unfold startCoast
  split <;> simp

@[simp] theorem clkoutWrite_out [F.Reg (many R.CKR_CLKOUT)] (n : Nat) (v : W32) (s : State) : (clkoutWrite n v s).out F
    = s.out F := by
  simp [clkoutWrite]

end Sys2Proof.Machine
end

section
/-! SUPPORT. What lies outside the footprint is left. The end of a test job, shared by the commands that can abort one.
-/

namespace Sys2Proof.Machine

variable {F : Foot}

@[simp] theorem testDone_out [F.EvParts] [F.EvRegs] (inst result reason : Nat) (s : State) :
    (testDone inst result reason s).out F = s.out F := by
  simp [testDone]

@[simp] theorem endTest_out [F.EvParts] [F.Test] [F.EvRegs] [F.Reg (many R.FP_CTL)] [F.Reg (one R.TST_JOB_STATUS)]
    (result : Nat) (s : State) : (endTest result s).out F = s.out F := by
  unfold endTest
  split <;> simp

@[simp] theorem abortJobIf_out [F.EvParts] [F.Test] [F.EvRegs] [F.Reg (many R.FP_CTL)]
    [F.Reg (one R.TST_JOB_STATUS)] (f : TestJob → Bool) (s : State) : (abortJobIf f s).out F = s.out F := by
  simp [abortJobIf]

end Sys2Proof.Machine
end

section
/-! SUPPORT. What lies outside the footprint is left. The proof display: link and receiver, commits, latches, scan-out
and review records. -/

namespace Sys2Proof.Machine

variable {F : Foot}

@[simp] theorem dspEvent_out [F.AccParts] [F.PevRegs] (src : Nat) (s : State) : (dspEvent src s).out F = s.out F := by
  simp [dspEvent]

@[simp] theorem dspCtlFields_out [F.Reg (one R.DSP_CTL)] (v : W32) (s : State) :
    (dspCtlFields v s).out F = s.out F := by
  simp [dspCtlFields]

@[simp] theorem dspEnable_out [F.Clocks] [F.Reg (one R.CKR_ISL_CLK)] [F.Reg (many R.CKR_SYN_CTL)]
    [F.Reg (many R.CKR_SYN_FRAC)] [F.Reg (many R.CKR_SYN_STATUS)] [F.Reg (one R.DSP_CTL)] [F.Reg (one R.DSP_STATUS)]
    (v : W32) (s : State) : (dspEnable v s).out F = s.out F := by
  simp [dspEnable]

@[simp] theorem execDspEnable_leaves [F.Clocks] [F.Reg (one R.CKR_ISL_CLK)] [F.Reg (many R.CKR_SYN_CTL)]
    [F.Reg (many R.CKR_SYN_FRAC)] [F.Reg (many R.CKR_SYN_STATUS)] [F.Reg (one R.DSP_CTL)] [F.Reg (one R.DSP_STATUS)]
    (v : W32) (s : State) : Leaves F s (execDspEnable v s) := by
  simp [execDspEnable]

@[simp] theorem releaseCommit_out [F.Seals] [F.Log] (c : Commit) (s : State) : (releaseCommit c s).out F =
    s.out F := by
  unfold releaseCommit
  grind [releaseReservation_out, dropSeal_out]

@[simp] theorem displaceFrame_out [F.Seals] [F.Log] [F.Display] [F.Reg (one R.DSP_DISPLACED)] (s : State)
    : (displaceFrame s).out F = s.out F := by
  unfold displaceFrame
  split <;> simp

@[simp] theorem displaceAll_out [F.Seals] [F.Log] [F.Display] [F.Reg (one R.DSP_DISPLACED)] (s : State) :
    (displaceAll s).out F = s.out F := by
  simp [displaceAll]

@[simp] theorem endShownSeal_out [F.Seals] [F.Log] [F.Display] (s : State) : (endShownSeal s).out F =
    s.out F := by
  unfold endShownSeal
  split <;> simp

@[simp] theorem endCommitSeals_out [F.Seals] [F.Log] [F.Display] [F.Reg (one R.DSP_DISPLACED)]
    (s : State) : (endCommitSeals s).out F = s.out F := by
  unfold endCommitSeals
  dsimp only
  split <;> simp

@[simp] theorem grantCommit_out [F.Display] (ring id : Nat) (s : State) : (grantCommit ring id s).out F =
    s.out F := by
  simp [grantCommit]

@[simp] theorem wantCommit_out [F.EvParts] [F.Log] [F.Display] [F.EvRegs] (c : Commit) (s : State) :
    (wantCommit c s).out F = s.out F := by
  simp [wantCommit]

theorem rcommit_out [F.AccParts] [F.Seals] [F.Log] [F.Rings] [F.Display] [F.AccRegs] (r a : Nat)
    (f : List W64) (p : Prog) {s0 s : State} (h : s0.out F = s.out F) : (rcommit r a f p s0 s).out F = s.out F := by
  have hb := plateBytes_out (F := F) (mapRd_out (captureSurf r (commitPlateSurf (r / 8) f) s).1)
  refine out_of_ite (by simp) (out_of_ite (by simp) ?_)
  dsimp only
  refine out_of_ite (by simp) (out_of_ite h (out_of_ite h ?_))
  split <;> simp [hb]

@[simp] theorem execRcommit_leaves [F.AccParts] [F.Seals] [F.Log] [F.Rings] [F.Display] [F.AccRegs]
    (r : Fin 132) (g : Guard) (da : Fin 16) (a : Fin 32) (lost : Bool) (s : State) : Leaves F s
    (execRcommit r g da a lost s) := by
  unfold execRcommit
  grind [orderOf_out, kcs_leaves, rcommit_out]

@[simp] theorem finishCommit_out [F.Rings] (r v : Nat) (s : State) : (finishCommit r v s).out F = s.out F := by
  simp [finishCommit]

@[simp] theorem execCommitHandshake_leaves [F.Seals] [F.Log] [F.Rings] [F.Display]
    [F.Reg (one R.DSP_DISPLACED)] (r : Fin 132) (s : State) : Leaves F s (execCommitHandshake r s) := by
  unfold execCommitHandshake
  split <;> simp

@[simp] theorem scanRead_out [F.AccParts] [F.PevRegs] [F.Reg (one R.DSP_POISONED)] (ring cid va n : Nat) (s : State) :
    (scanRead ring cid va n s).2.out F = s.out F := by
  refine (countAccess_out ..).trans
    (foldl_out (fun x : List ScanByte × AccRes × State => x.2.2) _ _ (fun x pc => ?_) _)
  dsimp only
  split_ifs <;> simp

@[simp] theorem scanRow_out [F.AccParts] [F.PevRegs] [F.Reg (one R.DSP_POISONED)] (ring : Nat) (f : Surf) (fl : Flags)
    (y : Nat) (s : State) : (scanRow ring f fl y s).2.out F = s.out F := by
  refine foldl_snd_out _ _ (fun x tx => ?_) _
  dsimp only
  split_ifs <;> simp [scanRead_out]

@[simp] theorem scanFlags_out [F.AccParts] [F.PevRegs] [F.Reg (one R.DSP_POISONED)] (ring : Nat) (f : Surf) (s : State)
    : (scanFlags ring f s).2.out F = s.out F := by
  simp [scanFlags]

@[simp] theorem composeRow_out [F.AccParts] [F.PevRegs] [F.Reg (one R.DSP_POISONED)] (c : Commit) (x : Xform)
    (bfl pfl : Flags) (w v : Nat) (s : State) : (composeRow c x bfl pfl w v s).2.out F = s.out F := by
  unfold composeRow
  grind [scanRow_out]

@[simp] theorem scanFrame_out [F.AccParts] [F.Display] [F.PevRegs] [F.Reg (one R.DSP_POISONED)] (s : State) :
    (scanFrame s).out F = s.out F := by
  unfold scanFrame
  dsimp only
  split
  · simp
  · refine out_of_ite (by simp) ((State.out_dsp ..).trans ?_)
    simp

@[simp] theorem reviewRecord_out [F.EvParts] [F.Log] [F.EvRegs] (c : Commit) (s : State) : (reviewRecord c s).out F
    = s.out F := by
  simp [reviewRecord]

@[simp] theorem execVblankLatch_leaves [F.AccParts] [F.Seals] [F.Log] [F.Display] [F.PevRegs]
    [F.Reg (one R.DSP_FRAME_SEQ)] [F.Reg (one R.DSP_POISONED)] [F.Reg (one R.DSP_REPROJ)] (s : State) : Leaves F s
    (execVblankLatch s) := by
  unfold execVblankLatch
  dsimp only
  split
  · simp
  · split <;> simp

@[simp] theorem proofMoved_out [F.Seals] [F.Log] [F.Display] [F.Reg (one R.DSP_DISPLACED)] (s : State) :
    (proofMoved s).out F = s.out F := by
  simp [proofMoved]

@[simp] theorem dspDisable_out [F.Seals] [F.Log] [F.Display] [F.Reg (one R.DSP_CTL)]
    [F.Reg (one R.DSP_DISPLACED)] [F.Reg (one R.DSP_STATUS)] (s : State) : (dspDisable s).out F = s.out F := by
  simp [dspDisable]

@[simp] theorem execDspDisable_leaves [F.Seals] [F.Log] [F.Display] [F.Reg (one R.DSP_CTL)]
    [F.Reg (one R.DSP_DISPLACED)] [F.Reg (one R.DSP_STATUS)] (s : State) : Leaves F s (execDspDisable s) := by
  simp [execDspDisable]

@[simp] theorem dspCtlWrite_out [F.Clocks] [F.Seals] [F.Log] [F.Display] [F.Reg (one R.CKR_ISL_CLK)]
    [F.Reg (many R.CKR_SYN_CTL)] [F.Reg (many R.CKR_SYN_FRAC)] [F.Reg (many R.CKR_SYN_STATUS)] [F.Reg (one R.DSP_CTL)]
    [F.Reg (one R.DSP_DISPLACED)] [F.Reg (one R.DSP_STATUS)] (v : W32) (s : State) : (dspCtlWrite v s).out F =
    s.out F := by
  simp [dspCtlWrite]

@[simp] theorem dspModeWrite_out [F.PevRegs] [∀ g, F.Reg g] (key v : Nat) (s : State) : (dspModeWrite key v s).out F =
    s.out F := by
  simp [dspModeWrite]

@[simp] theorem execDpLinkTrained_leaves [F.AccParts] [F.Display] [F.PevRegs] [F.Reg (one R.DSP_STATUS)]
    (ok : Bool) (s : State) : Leaves F s (execDpLinkTrained ok s) := by
  simp [execDpLinkTrained]

@[simp] theorem execHdcpAuthentication_leaves [F.AccParts] [F.Display] [F.PevRegs] [F.Reg (one R.DSP_HDCP_RXID)]
    [F.Reg (one R.DSP_STATUS)] (ok : Bool) (rxid : BitVec 40) (repeater : Bool) (s : State) : Leaves F s
    (execHdcpAuthentication ok rxid repeater s) := by
  simp [execHdcpAuthentication]

@[simp] theorem auxGo_out [F.Display] [F.Reg (one R.DSP_AUX_CMD)] [F.Reg (many R.DSP_AUX_DATA)] (v : W32)
    (reply : Option (List Byte)) (s : State) : (auxGo v reply s).out F = s.out F := by
  unfold auxGo
  refine out_of_ite rfl ?_
  dsimp only
  refine out_of_ite (by simp) ?_
  cases reply with
  | none => simp
  | some d => simp

@[simp] theorem execDspAuxGo_leaves [F.Display] [F.Reg (one R.DSP_AUX_CMD)] [F.Reg (many R.DSP_AUX_DATA)] (v : W32)
    (reply : Option (List Byte)) (s : State) : Leaves F s (execDspAuxGo v reply s) := by
  simp [execDspAuxGo]

@[simp] theorem execHpdUnplug_leaves [F.AccParts] [F.Display] [F.PevRegs] [F.Reg (one R.DSP_STATUS)] (s : State) :
    Leaves F s (execHpdUnplug s) := by
  simp [execHpdUnplug]

@[simp] theorem execIrqHpd_leaves [F.AccParts] [F.PevRegs] [F.Reg (one R.DSP_STATUS)] (linkOk : Bool) (s : State) :
    Leaves F s (execIrqHpd linkOk s) := by
  simp [execIrqHpd]

@[simp] theorem execHpdPlug_leaves [F.AccParts] [F.Display] [F.PevRegs] (s : State) : Leaves F s (execHpdPlug s) := by
  simp [execHpdPlug]

@[simp] theorem execDspRetryTimer_leaves [F.Display] (s : State) : Leaves F s (execDspRetryTimer s) := by
  simp [execDspRetryTimer]

end Sys2Proof.Machine
end

section
/-! SUPPORT. What lies outside the footprint is left. The press port's own operations: engine states, outputs, halts,
the page queue, picks, spoils, purges and outcomes. -/

namespace Sys2Proof.Machine

variable {F : Foot}

@[simp] theorem prsEvent_out [F.AccParts] [F.PevRegs] (src page job : Nat) (s : State) : (prsEvent src page job s).out F
    = s.out F := by
  simp [prsEvent]

@[simp] theorem dryEvent_out [F.AccParts] [F.PevRegs] (src beam : Nat) (s : State) : (dryEvent src beam s).out F =
    s.out F := by
  simp [dryEvent]

@[simp] theorem unlock_out [F.AccParts] [F.PevRegs] [F.Reg (one R.DRY_STATUS)] (s : State) : (unlock s).out F =
    s.out F := by
  simp [unlock]

@[simp] theorem lockLost_out [F.AccParts] [F.Drypoint] [F.PevRegs] [F.Reg (one R.DRY_STATUS)] (s : State) :
    (lockLost s).out F = s.out F := by
  simp [lockLost]

@[simp] theorem beamsOff_out [F.Pins] [F.Drypoint] (s : State) : (beamsOff s).out F = s.out F := by
  simp [beamsOff]

@[simp] theorem linesOff_out [F.Pins] [F.Drypoint] (s : State) : (linesOff s).out F = s.out F := by
  simp [linesOff]

@[simp] theorem drive_out [F.AccParts] [F.Pins] [F.Drypoint] [F.PevRegs] [F.Reg (one R.DRY_STATUS)]
    (s : State) : (drive s).out F = s.out F := by
  simp [drive]

@[simp] theorem startHunting_out [F.Pins] [F.Drypoint] [F.Reg (one R.DRY_STATUS)] (s : State) :
    (startHunting s).out F = s.out F := by
  simp [startHunting]

@[simp] theorem enterEng_out [F.AccParts] [F.Pins] [F.Path] [F.Drypoint] [F.PevRegs]
    [F.Reg (one R.DRY_STATUS)] [F.Reg (one R.PRS_STATUS)] (st : Nat) (s : State) : (enterEng st s).out F = s.out F := by
  simp [enterEng]

@[simp] theorem onPage_out [F.Path] (id : Nat) (f : Page → Page) (s : State) : (onPage id f s).out F = s.out F := by
  simp [onPage]

@[simp] theorem removePage_out [F.Seals] [F.Raster] [F.Path] (id : Nat) (s : State) :
    (removePage id s).out F = s.out F := by
  unfold removePage
  split <;> simp

@[simp] theorem pageTally_out [F.Rings] (p : Page) (status detail : Nat) (s : State) :
    (pageTally p status detail s).out F = s.out F := by
  unfold pageTally
  split <;> simp

@[simp] theorem dropPage_out [F.Seals] [F.Log] [F.Rings] [F.Raster] [F.Path] (id : Nat)
    (s : State) : (dropPage id s).out F = s.out F := by
  unfold dropPage
  grind [removePage_out, releaseReservation_out, pageTally_out]

@[simp] theorem dropHashing_out [F.Seals] [F.Log] [F.Rings] [F.Path] (id : Nat) (s : State) :
    (dropHashing id s).out F = s.out F := by
  unfold dropHashing
  split <;> simp

@[simp] theorem dropPages_out [F.Seals] [F.Log] [F.Rings] [F.Raster] [F.Path] (f : Page → Bool)
    (s : State) : (dropPages f s).out F = s.out F := by
  simp [dropPages]

@[simp] theorem queuePage_out [F.Log] [F.Path] (id resv : Nat) (s : State) : (queuePage id resv s).out F =
    s.out F := by
  unfold queuePage
  split <;> simp

@[simp] theorem wantPage_out [F.EvParts] [F.Log] [F.Path] [F.EvRegs] (id : Nat) (s : State) :
    (wantPage id s).out F = s.out F := by
  simp [wantPage]

@[simp] theorem grantWants_out [F.Log] [F.Display] [F.Path] (s : State) : (grantWants s).out F =
    s.out F := by
  rw [grantWants, State.out_log]
  refine State.each_out s _ _ fun w t => ?_
  split_ifs
  · cases w <;> simp
  · rfl

@[simp] theorem recordPage_out [F.EvParts] [F.Seals] [F.Log] [F.Raster] [F.Path] [F.EvRegs]
    (sp : SheetPage) (o : Nat) (requeue : Bool) (s : State) : (recordPage sp o requeue s).out F = s.out F := by
  simp [recordPage]

@[simp] theorem unrequeue_out [F.Path] (id : Nat) (s : State) : (unrequeue id s).out F = s.out F := by
  simp [unrequeue]

@[simp] theorem interruptPath_out [F.EvParts] [F.Seals] [F.Log] [F.Raster] [F.Path] [F.EvRegs]
    (s : State) : (interruptPath s).out F = s.out F := by
  simp [interruptPath]

@[simp] theorem bandLost_out [F.Tansy] (s : State) : (bandLost s).out F = s.out F := by
  simp [bandLost]

@[simp] theorem halt_out [F.AccParts] [F.Pins] [F.Seals] [F.Log] [F.Raster] [F.Path]
    [F.Drypoint] [F.Tansy] [F.PevRegs] [F.Reg (one R.DRY_STATUS)] [F.Reg (one R.PRS_HALTS)]
    [F.Reg (one R.PRS_STATUS)] (cause : Nat) (s : State) : (halt cause s).out F = s.out F := by
  simp [halt]

@[simp] theorem onSheet_out [F.Path] (id : Nat) (f : Sheet → Sheet) (s : State) : (onSheet id f s).out F =
    s.out F := by
  simp [onSheet]

@[simp] theorem purgeSheet_out [F.AccParts] [F.Pins] [F.Seals] [F.Log] [F.Raster] [F.Path]
    [F.Drypoint] [F.Tansy] [F.PevRegs] [F.Reg (one R.DRY_STATUS)] [F.Reg (one R.PRS_HALTS)]
    [F.Reg (one R.PRS_STATUS)] (id : Nat) (s : State) : (purgeSheet id s).out F = s.out F := by
  unfold purgeSheet
  split <;> simp

@[simp] theorem blankSheet_out [F.Pins] [F.Path] [F.Drypoint] (id o : Nat) (s : State) :
    (blankSheet id o s).out F = s.out F := by
  simp [blankSheet]

@[simp] theorem interruptSheet_out [F.AccParts] [F.Pins] [F.Seals] [F.Log] [F.Raster] [F.Path]
    [F.Drypoint] [F.Tansy] [F.PevRegs] [F.Reg (one R.DRY_STATUS)] [F.Reg (one R.PRS_HALTS)]
    [F.Reg (one R.PRS_STATUS)] (id : Nat) (s : State) : (interruptSheet id s).out F = s.out F := by
  unfold interruptSheet
  split <;> simp

@[simp] theorem requeuePages_out [F.Raster] [F.Path] (ids : List Nat) (s : State) : (requeuePages ids s).out F
    = s.out F := by
  simp [requeuePages]

@[simp] theorem spoilSheet_out [F.AccParts] [F.Pins] [F.Seals] [F.Log] [F.Raster] [F.Path]
    [F.Drypoint] [F.Tansy] [F.PevRegs] [F.Reg (one R.DRY_STATUS)] [F.Reg (one R.PRS_HALTS)]
    [F.Reg (one R.PRS_STATUS)] (id : Nat) (at_ : IssueInfo) (s : State) : (spoilSheet id at_ s).out F = s.out F := by
  unfold spoilSheet
  split <;> simp

@[simp] theorem spoilImaged_out [F.AccParts] [F.Pins] [F.Seals] [F.Log] [F.Raster] [F.Path]
    [F.Drypoint] [F.Tansy] [F.PevRegs] [F.Reg (one R.DRY_STATUS)] [F.Reg (one R.PRS_HALTS)]
    [F.Reg (one R.PRS_STATUS)] (s : State) : (spoilImaged s).out F = s.out F := by
  unfold spoilImaged
  split <;> simp

@[simp] theorem finishSheet_out [F.EvParts] [F.Seals] [F.Log] [F.Raster] [F.Path] [F.EvRegs]
    (id : Nat) (s : State) : (finishSheet id s).out F = s.out F := by
  unfold finishSheet
  split
  · rfl
  · refine (State.each_out _ _ _ fun p t => ?_).trans (State.out_prs ..)
    split <;> simp

@[simp] theorem sheetLeaves_out [F.EvParts] [F.Seals] [F.Log] [F.Raster] [F.Path] [F.EvRegs]
    (id : Nat) (s : State) : (sheetLeaves id s).out F = s.out F := by
  unfold sheetLeaves
  dsimp only
  split <;> simp

@[simp] theorem finishTested_out [F.EvParts] [F.Seals] [F.Log] [F.Raster] [F.Path] [F.EvRegs]
    (s : State) : (finishTested s).out F = s.out F := by
  simp [finishTested]

@[simp] theorem pageDone_out [F.EvParts] [F.Seals] [F.Log] [F.Rings] [F.Raster] [F.Path]
    [F.EvRegs] [F.Reg (one R.PRS_INTERRUPTED)] [F.Reg (one R.PRS_PAGES_OK)] [F.Reg (one R.PRS_SPOILED)]
    (id status : Nat) (requeue : Bool) (s : State) : (pageDone id status requeue s).out F = s.out F := by
  unfold pageDone
  dsimp only
  split <;> simp

@[simp] theorem markImaged_out [F.Log] (id : Nat) (info : IssueInfo) (s : State) : (markImaged id info s).out F =
    s.out F := by
  simp [markImaged]

@[simp] theorem pickSheet_out [F.Log] [F.Path] [F.Reg (one R.PRS_SHEET)] (ps : List Page) (s : State) :
    (pickSheet ps s).out F = s.out F := by
  simp [pickSheet]

@[simp] theorem pressMoved_out [F.AccParts] [F.Pins] [F.Seals] [F.Log] [F.Rings] [F.Raster]
    [F.Path] [F.Drypoint] [F.PevRegs] [F.Reg (one R.DRY_STATUS)] [F.Reg (one R.PRS_STATUS)]
    (old new : Option Nat) (s : State) : (pressMoved old new s).out F = s.out F := by
  unfold pressMoved
  split <;> simp

@[simp] theorem aonSafe_out [F.AccParts] [F.Pins] [F.Path] [F.Drypoint] [F.PevRegs]
    [F.Reg (one R.DRY_STATUS)] (s : State) : (aonSafe s).out F = s.out F := by
  simp [aonSafe]

@[simp] theorem pressSealedHalt_out [F.AccParts] [F.Pins] [F.Seals] [F.Log] [F.Rings]
    [F.Raster] [F.Path] [F.Drypoint] [F.Tansy] [F.PevRegs] [F.Reg (one R.DRY_STATUS)]
    [F.Reg (one R.PRS_HALTS)] [F.Reg (one R.PRS_STATUS)] (s : State) : (pressSealedHalt s).out F = s.out F := by
  unfold pressSealedHalt
  dsimp only
  rw [State.out_ite, enterEng_out, ite_self, dropPages_out]
  refine State.each_out _ _ _ fun sh t => ?_
  rw [State.out_ite, purgeSheet_out, ite_self, onSheet_out]
  refine State.each_out _ _ _ fun p u => ?_
  split <;> simp

end Sys2Proof.Machine
end

section
/-! SUPPORT. What lies outside the footprint is left. Tansy's own operations: the arithmetic of a slot, its codes, its
sources and instants, the converters' queues, and captures. -/

namespace Sys2Proof.Machine

variable {F : Foot}

@[simp] theorem State.setSlot_out [F.Tansy] (s : State) (n : Nat) (x : Slot) : (s.setSlot n x).out F = s.out F := by
  simp [State.setSlot]

@[simp] theorem capInject_out [F.Tansy] (n : Nat) (s : State) : (capInject n s).2.out F = s.out F := by
  unfold capInject
  grind [State.out_tns]

@[simp] theorem capFlush_out [F.AccParts] [F.Tansy] [F.AccRegs] (s : State) : (capFlush s).out F = s.out F := by
  unfold capFlush
  split
  · rfl
  · refine (State.out_tns ..).trans (foldl_out (fun x : List (Nat × Nat) × Option (Nat × Nat) × State => x.2.2) _
    _ (fun x w => ?_) _)
    dsimp only
    split_ifs <;> simp

@[simp] theorem capNext_out [F.Rings] [F.Tansy] (s : State) : (capNext s).out F = s.out F := by
  simp [capNext]

@[simp] theorem capEnd_out [F.AccParts] [F.Rings] [F.Tansy] [F.AccRegs] (status detail : Nat) (s : State) :
    (capEnd status detail s).out F = s.out F := by
  unfold capEnd
  dsimp only
  split <;> simp

@[simp] theorem capFinish_out [F.AccParts] [F.Rings] [F.Tansy] [F.AccRegs] (s : State) : (capFinish s).out F =
    s.out F := by
  unfold capFinish
  grind [capEnd_out]

@[simp] theorem capSample_out [F.AccParts] [F.Rings] [F.Tansy] [F.AccRegs] (n : Nat) (x e q u : Int)
    (s : State) : (capSample n x e q u s).out F = s.out F := by
  unfold capSample
  split <;> simp

@[simp] theorem slotLeft_out [F.AccParts] [F.Rings] [F.Tansy] [F.AccRegs] (n : Nat) (s : State) :
    (slotLeft n s).out F = s.out F := by
  unfold slotLeft
  split <;> simp

@[simp] theorem capLeaseMoved_out [F.AccParts] [F.Rings] [F.Tansy] [F.AccRegs] (s : State) :
    (capLeaseMoved s).out F = s.out F := by
  simp [capLeaseMoved]

@[simp] theorem State.setConv_out [F.Tansy] (s : State) (m : Nat) (x : Conv) : (s.setConv m x).out F = s.out F := by
  simp [State.setConv]

@[simp] theorem convStart_out [F.Tansy] (m : Nat) (s : State) : (convStart m s).out F = s.out F := by
  unfold convStart
  grind [State.setConv_out]

@[simp] theorem requestConv_out [F.Tansy] [F.Reg (many R.TNS_SLOT_COUNTS)] (n : Nat) (s : State) :
    (requestConv n s).out F = s.out F := by
  simp [requestConv]

@[simp] theorem requestApc_out [F.Tansy] (b : Nat) (s : State) : (requestApc b s).out F = s.out F := by
  simp [requestApc]

@[simp] theorem takeSample_out [F.Tansy] [F.Reg (many R.TNS_SLOT_COUNTS)] (n : Nat) (s : State) :
    (takeSample n s).out F = s.out F := by
  simp [takeSample]

@[simp] theorem stepSlots_out [F.Tansy] [F.Reg (many R.TNS_SLOT_COUNTS)] (s : State) : (stepSlots s).out F =
    s.out F := by
  refine State.each_out _ _ _ fun n t => out_of_ite rfl ?_
  simp

@[simp] theorem stopSlot_out [F.AccParts] [F.Rings] [F.Tansy] [F.AccRegs] (n : Nat) (s : State) :
    (stopSlot n s).out F = s.out F := by
  simp [stopSlot]

end Sys2Proof.Machine
end

section
/-! SUPPORT. What lies outside the footprint is left. Tansy's commands: the orders of a ring, the converters, tachs,
sample instants and strobes, and the pins that slots drive; the high-voltage and fuser duties of the press that read
them. -/

namespace Sys2Proof.Machine

variable {F : Foot}

@[simp] theorem pressOrder_out [F.Translation] {r : Nat} {p : Prog} {s : State} {refused run : State → State}
    (hr : ∀ t, (refused t).out F = t.out F) (h : (run s).out F = s.out F) : (pressOrder r p s refused run).out F =
    s.out F := by
  simp [pressOrder, hr, h]

theorem tload_out [F.AccParts] [F.Rings] [F.Tansy] [F.AccRegs] (r t : Nat) (f : List W64) (n : Nat) (p : Prog)
    {s0 s : State} (h : s0.out F = s.out F) : (tload r t f n p s0 s).out F = s.out F := by
  refine out_of_ite (by simp) (pressOrder_out (fun t => by simp) ?_)
  dsimp only
  refine out_of_ite h ?_
  split
  · simp
  · exact out_of_ite (by simp) (by simp)

@[simp] theorem execTload_leaves [F.AccParts] [F.Rings] [F.Tansy] [F.AccRegs] (r : Fin 132) (g : Guard)
    (da t : Fin 16) (a : Fin 32) (lost : Bool) (s : State) : Leaves F s (execTload r g da t a lost s) := by
  unfold execTload
  grind [tload_out, kindA_out, orderOf_out, kcs_leaves]

@[simp] theorem execTset_leaves [F.Translation] [F.Rings] [F.Tansy] (r : Fin 132) (g : Guard) (a b : Fin 32)
    (lost : Bool) (s : State) : Leaves F s (execTset r g a b lost s) := by
  unfold execTset
  grind [orderOf_out, State.setSlot_out, kcs_leaves, pressOrder_out, State.setProg_out, endAt_out]

@[simp] theorem tctl_out [F.AccParts] [F.Rings] [F.Tansy] [F.AccRegs] (n code : Nat) (s : State) :
    (tctl n code s).out F = s.out F := by
  simp [tctl]

@[simp] theorem execTctl_leaves [F.AccParts] [F.Rings] [F.Tansy] [F.AccRegs] (r : Fin 132) (g : Guard)
    (a b : Fin 32) (lost : Bool) (s : State) : Leaves F s (execTctl r g a b lost s) := by
  unfold execTctl
  grind [tctl_out, orderOf_out, kcs_leaves, pressOrder_out, State.setProg_out, endAt_out]

@[simp] theorem execTcap_leaves [F.Translation] [F.Rings] [F.Tansy] (r : Fin 132) (g : Guard) (da t : Fin 16)
    (lost : Bool) (s : State) : Leaves F s (execTcap r g da t lost s) := by
  unfold execTcap
  grind [State.out_tns, kindA_out, orderOf_out, kcs_leaves, pressOrder_out, issueDone_out,
    State.setProg_out, endAt_out]

@[simp] theorem hvReading_out [F.Tansy] (ch code : Nat) (s : State) : (hvReading ch code s).out F = s.out F := by
  unfold hvReading
  split_ifs <;> simp

@[simp] theorem execAdcConversionDone_leaves [F.Drypoint] [F.Tansy] [F.Reg (many R.TNS_ADC)] (m : Fin 2)
    (v : BitVec 12) (s : State) : Leaves F s (execAdcConversionDone m v s) := by
  unfold execAdcConversionDone
  dsimp only
  (repeat' split) <;> simp

@[simp] theorem tnsEvent_out [F.AccParts] [F.PevRegs] (src n : Nat) (s : State) :
    (tnsEvent src n s).out F = s.out F := by
  simp [tnsEvent]

@[simp] theorem adcFaultBand_out [F.Tansy] (s : State) : (adcFaultBand s).out F = s.out F := by
  simp [adcFaultBand]

@[simp] theorem execAdcCheck_leaves [F.AccParts] [F.Tansy] [F.PevRegs] [F.Reg (one R.TNS_STATUS)] (m : Fin 2)
    (half vss : BitVec 12) (s : State) : Leaves F s (execAdcCheck m half vss s) := by
  simp [execAdcCheck]

@[simp] theorem execTachEdge_leaves [F.Tansy] (i : Fin 9) (s : State) : Leaves F s (execTachEdge i s) := by
  simp [execTachEdge]

@[simp] theorem execSampleInstant_leaves [F.Tansy] [F.Reg (many R.TNS_SLOT_COUNTS)] (n : Fin 16) (s : State) :
    Leaves F s (execSampleInstant n s) := by
  unfold execSampleInstant
  dsimp only
  split <;> simp

@[simp] theorem execSlotStrobe_leaves [F.AccParts] [F.Rings] [F.Tansy] [F.AccRegs] (n : Fin 16) (s : State) :
    Leaves F s (execSlotStrobe n s) := by
  simp [execSlotStrobe]

@[simp] theorem execOutputApply_leaves [F.Tansy] [F.Reg (many R.TNS_SLOT_COUNTS)] (n : Fin 16) (late : Bool)
    (s : State) : Leaves F s (execOutputApply n late s) := by
  unfold execOutputApply
  dsimp only
  split <;> simp

@[simp] theorem execSlotStorageUe_leaves [F.AccParts] [F.Rings] [F.Tansy] [F.PevRegs] (n : Fin 16) (s : State)
    : Leaves F s (execSlotStorageUe n s) := by
  simp [execSlotStorageUe]

@[simp] theorem execPwmPeriod_leaves [F.Pins] [F.Tansy] (k : Fin 9) (s : State) : Leaves F s
    (execPwmPeriod k s) := by
  simp [execPwmPeriod]

@[simp] theorem execHvrefPwmPeriod_leaves [F.Pins] (k : Fin 4) (s : State) : Leaves F s (execHvrefPwmPeriod k s) := by
  simp [execHvrefPwmPeriod]

@[simp] theorem execHvLimit_leaves [F.AccParts] [F.Pins] [F.Seals] [F.Log] [F.Raster] [F.Path]
    [F.Drypoint] [F.Tansy] [F.PevRegs] [F.Reg (one R.DRY_STATUS)] [F.Reg (one R.PRS_HALTS)]
    [F.Reg (one R.PRS_STATUS)] (k : Fin 4) (s : State) : Leaves F s (execHvLimit k s) := by
  unfold execHvLimit
  split <;> simp

@[simp] theorem zcdGate_out [F.Pins] [F.Path] (k slot : Nat) (s : State) : (zcdGate k slot s).out F =
    s.out F := by
  unfold zcdGate
  extract_lets a acc prs t
  have ht : ∀ x, ({ s with prs := { s.prs with acc := x } } : State).out F = s.out F := fun x => State.out_prs ..
  split
  · exact ht _
  · have h : t.out F = s.out F := ht _
    clear_value t prs acc
    split
    · exact h
    · simp [h]

@[simp] theorem execZcdEdge_leaves [F.Pins] [F.Path] (s : State) : Leaves F s (execZcdEdge s) := by
  simp [execZcdEdge]

@[simp] theorem execFuserGateEnd_leaves [F.Pins] [F.Path] (k : Fin 2) (s : State) : Leaves F s
    (execFuserGateEnd k s) := by
  unfold execFuserGateEnd
  split <;> simp

@[simp] theorem execZcdLost_leaves [F.AccParts] [F.Pins] [F.Seals] [F.Log] [F.Raster] [F.Path]
    [F.Drypoint] [F.Tansy] [F.PevRegs] [F.Reg (one R.DRY_STATUS)] [F.Reg (one R.PRS_HALTS)]
    [F.Reg (one R.PRS_STATUS)] (s : State) : Leaves F s (execZcdLost s) := by
  unfold execZcdLost
  split <;> simp

end Sys2Proof.Machine
end

section
/-! SUPPORT. What lies outside the footprint is left. The press port's commands: the press instructions, the engine's
events, picks, bands, sheet tracking, clutches, comparators and the interlock. -/

namespace Sys2Proof.Machine

variable {F : Foot}

theorem admitPage_out [F.MemParts] [F.Seals] [F.Log] [F.Rings] [F.Path] [F.MemRegs] (x : Page)
    (cap : Captured) (t : Nat) (p : Prog) {s0 s : State} (h0 : s0.out F = s.out F) (h : cap.2.2.out F = s.out F) :
    (admitPage x cap t p s0).out F = s.out F := by
  have hb := plateBytes_out (F := F) (mapRd_out cap.1)
  unfold admitPage
  dsimp only
  split
  · exact h0
  · split
    · simp [h]
    · split
      · simp [h]
      · split
        · exact h0
        · split <;> simp [h, hb]

theorem pqueue_out [F.AccParts] [F.Seals] [F.Log] [F.Rings] [F.Path] [F.AccRegs] (r t : Nat)
    (f : List W64) (p : Prog) {s0 s : State} (h : s0.out F = s.out F) : (pqueue r t f p s0 s).out F = s.out F := by
  refine pressOrder_out (by simp) (out_of_ite (by simp) (out_of_ite (by simp) (out_of_ite h ?_)))
  refine out_of_ite (admitPage_out _ _ _ _ h (by simp)) ?_
  dsimp only
  refine out_of_ite h ?_
  split
  · simp
  · refine out_of_ite (by simp) ?_
    refine out_of_ite h ?_
    split
    · simp
    · split
      · simp
      · refine admitPage_out _ _ _ _ h ?_
        rw [captureFrames_out]
        refine (foldl_out (fun c : Captured => c.2.2) _ _ (fun c i => captureFrames_out ..) _).trans ?_
        simp

@[simp] theorem execPqueue_leaves [F.AccParts] [F.Seals] [F.Log] [F.Rings] [F.Path] [F.AccRegs]
    (r : Fin 132) (g : Guard) (da t : Fin 16) (lost : Bool) (s : State) : Leaves F s (execPqueue r g da t lost s) := by
  unfold execPqueue
  grind [kindA_out, orderOf_out, pqueue_out, kcs_leaves]

@[simp] theorem hashBands_out [F.AccParts] [F.AccRegs] (p : Page) (x : Stream) (n k : Nat) (acc : List Byte) (s : State)
    : (hashBands p x n k acc s).2.out F = s.out F := by
  induction n generalizing k acc s with
  | zero => rfl
  | succ n ih =>
    have h := renderBand_out (F := F) p x k s
    unfold hashBands
    grind

@[simp] theorem execHashPassDone_leaves [F.AccParts] [F.Seals] [F.Log] [F.Rings] [F.Path]
    [F.AccRegs] (s : State) : Leaves F s (execHashPassDone s) := by
  unfold execHashPassDone
  split
  · simp
  · split
    · simp
    · rename_i p _ _ x _
      have h := hashBands_out (F := F) p x p.bands 0 [] s
      split
      · simp
      · dsimp only
        split <;> simp_all
      · simp_all

@[simp] theorem execPcancel_leaves [F.Translation] [F.Seals] [F.Log] [F.Rings] [F.Raster]
    [F.Path] (r : Fin 132) (g : Guard) (a : Fin 32) (lost : Bool) (s : State) : Leaves F s
    (execPcancel r g a lost s) := by
  unfold execPcancel
  grind [dropPages_out, orderOf_out, kcs_leaves, pressOrder_out, State.setProg_out]

@[simp] theorem startSyn10_out [F.Clocks] [F.Reg (one R.CKR_ISL_CLK)] [F.Reg (many R.CKR_SYN_CTL)]
    [F.Reg (many R.CKR_SYN_FRAC)] [F.Reg (many R.CKR_SYN_STATUS)] (s : State) : (startSyn10 s).out F = s.out F := by
  simp [startSyn10]

@[simp] theorem pengine_out [F.AccParts] [F.Clocks] [F.Pins] [F.Path] [F.Drypoint] [F.PevRegs]
    [F.Reg (one R.CKR_ISL_CLK)] [F.Reg (many R.CKR_SYN_CTL)] [F.Reg (many R.CKR_SYN_FRAC)]
    [F.Reg (many R.CKR_SYN_STATUS)] [F.Reg (one R.DRY_STATUS)] [F.Reg (one R.PRS_STATUS)] (mode : Nat) (s : State) :
    (pengine mode s).out F = s.out F := by
  simp [pengine]

@[simp] theorem execPengine_leaves [F.AccParts] [F.Clocks] [F.Pins] [F.Rings] [F.Path]
    [F.Drypoint] [F.PevRegs] [F.Reg (one R.CKR_ISL_CLK)] [F.Reg (many R.CKR_SYN_CTL)] [F.Reg (many R.CKR_SYN_FRAC)]
    [F.Reg (many R.CKR_SYN_STATUS)] [F.Reg (one R.DRY_STATUS)] [F.Reg (one R.PRS_STATUS)] (r : Fin 132) (g : Guard)
    (a : Fin 32) (lost : Bool) (s : State) : Leaves F s (execPengine r g a lost s) := by
  refine leaves_of_ite (by simp) (kcs_leaves fun p => orderOf_out fun q => ?_)
  refine out_of_ite (by simp) (pressOrder_out (by simp) ?_)
  exact out_of_ite (by simp) (by simp)

@[simp] theorem execPstat_leaves [F.Rings] (r : Fin 132) (g : Guard) (a : Fin 32) (s : State) : Leaves F s
    (execPstat r g a s) := by
  simp [execPstat]

@[simp] theorem execRasterTile_leaves [F.AccParts] [F.Pins] [F.Seals] [F.Log] [F.Rings]
    [F.Raster] [F.Path] [F.Drypoint] [F.Tansy] [F.PevRegs] [F.Reg (one R.DRY_STATUS)]
    [F.Reg (one R.PRS_HALTS)] [F.Reg (one R.PRS_STATUS)] [F.Reg (one R.RAS_JOBS)] [F.Reg (one R.RAS_TILES)] (s : State)
    : Leaves F s (execRasterTile s) := by
  unfold execRasterTile
  split
  · simp
  · dsimp only
    split
    · simp
    · split
      · simp
      · rename_i id k _ _ _ p _ _ x _
        have h := renderBand_out (F := F) p x k s
        split
        · simp_all
        · split_ifs
          · simp
          · split <;> simp_all
          · simp_all
          · simp_all

@[simp] theorem execBandRequest_leaves [F.Raster] [F.Path] (s : State) : Leaves F s (execBandRequest s) := by
  unfold execBandRequest
  dsimp only
  split <;> simp

@[simp] theorem execEngineConditionsMet_leaves [F.AccParts] [F.Pins] [F.Path] [F.Drypoint] [F.PevRegs]
    [F.Reg (one R.DRY_STATUS)] [F.Reg (one R.PRS_STATUS)] (s : State) : Leaves F s (execEngineConditionsMet s) := by
  simp [execEngineConditionsMet]

@[simp] theorem execEngineConditionLost_leaves [F.AccParts] [F.Pins] [F.Path] [F.Drypoint] [F.PevRegs]
    [F.Reg (one R.DRY_STATUS)] [F.Reg (one R.PRS_STATUS)] (s : State) : Leaves F s (execEngineConditionLost s) := by
  simp [execEngineConditionLost]

@[simp] theorem execPathEmpty_leaves [F.AccParts] [F.Pins] [F.Path] [F.Drypoint] [F.PevRegs]
    [F.Reg (one R.DRY_STATUS)] [F.Reg (one R.PRS_STATUS)] (s : State) : Leaves F s (execPathEmpty s) := by
  simp [execPathEmpty]

@[simp] theorem execEngineLost_leaves [F.AccParts] [F.Pins] [F.Seals] [F.Log] [F.Raster]
    [F.Path] [F.Drypoint] [F.Tansy] [F.Inputs] [F.PevRegs] [F.Reg (one R.DRY_STATUS)]
    [F.Reg (one R.PRS_HALTS)] [F.Reg (one R.PRS_STATUS)] (s : State) : Leaves F s (execEngineLost s) := by
  simp [execEngineLost]

@[simp] theorem firstBands_out [F.Raster] [F.Path] (ids : List Nat) (s : State) : (firstBands ids s).out F =
    s.out F := by
  refine State.each_out _ _ _ fun id t => ?_
  split
  · rfl
  · split <;> simp

@[simp] theorem execPickLatch_leaves [F.Log] [F.Raster] [F.Path] [F.Reg (one R.PRS_SHEET)] (s : State) :
    Leaves F s (execPickLatch s) := by
  unfold execPickLatch
  split <;> simp

@[simp] theorem execHeartbeatTick_leaves [F.Pins] [F.Inputs] (erdy : Bool) (s : State) : Leaves F s
    (execHeartbeatTick erdy s) := by
  simp [execHeartbeatTick]

@[simp] theorem execSensorEdge_leaves [F.AccParts] [F.Pins] [F.Seals] [F.Log] [F.Raster]
    [F.Path] [F.Drypoint] [F.Tansy] [F.PevRegs] [F.Reg (one R.DRY_STATUS)] [F.Reg (one R.PRS_HALTS)]
    [F.Reg (one R.PRS_SNS_STATE)] [F.Reg (one R.PRS_STATUS)] (n : Fin 24) (high : Bool) (s : State) : Leaves F s
    (execSensorEdge n high s) := by
  unfold execSensorEdge
  dsimp only
  (repeat' split) <;> simp

@[simp] theorem execJam_leaves [F.AccParts] [F.Pins] [F.Seals] [F.Log] [F.Raster] [F.Path]
    [F.Drypoint] [F.Tansy] [F.PevRegs] [F.Reg (one R.DRY_STATUS)] [F.Reg (one R.PRS_HALTS)]
    [F.Reg (one R.PRS_STATUS)] (s : State) : Leaves F s (execJam s) := by
  simp [execJam]

@[simp] theorem execClutchActuation_leaves [F.Pins] (s : State) : Leaves F s (execClutchActuation s) := by
  simp [execClutchActuation]

@[simp] theorem execSpoil_leaves [F.AccParts] [F.Pins] [F.Seals] [F.Log] [F.Raster] [F.Path]
    [F.Drypoint] [F.Tansy] [F.PevRegs] [F.Reg (one R.DRY_STATUS)] [F.Reg (one R.PRS_HALTS)]
    [F.Reg (one R.PRS_STATUS)] (s : State) : Leaves F s (execSpoil s) := by
  simp [execSpoil]

@[simp] theorem execSheetExit_leaves [F.EvParts] [F.Seals] [F.Log] [F.Raster] [F.Path] [F.EvRegs]
    (s : State) : Leaves F s (execSheetExit s) := by
  unfold execSheetExit
  split <;> simp

@[simp] theorem execOtComparatorTrip_leaves [F.AccParts] [F.Pins] [F.Seals] [F.Log] [F.Raster]
    [F.Path] [F.Drypoint] [F.Tansy] [F.PevRegs] [F.Reg (one R.DRY_STATUS)] [F.Reg (one R.PRS_HALTS)]
    [F.Reg (one R.PRS_STATUS)] (k : Fin 4) (s : State) : Leaves F s (execOtComparatorTrip k s) := by
  simp [execOtComparatorTrip]

@[simp] theorem otTripClear_out [F.Reg (one R.PRS_STATUS)] (w high : Nat) (s : State) : (otTripClear w high s).out F =
    s.out F := by
  simp [otTripClear]

@[simp] theorem execOtTripClear_leaves [F.Reg (one R.PRS_STATUS)] (w high : BitVec 4) (s : State) : Leaves F s
    (execOtTripClear w high s) := by
  simp [execOtTripClear]

@[simp] theorem repolarise_out [F.Path] [F.Reg (one R.PRS_SNS_STATE)] (old : Nat) (s : State) :
    (repolarise old s).out F = s.out F := by
  refine State.each_out _ _ _ fun n t => ?_
  dsimp only
  split_ifs <;> simp

@[simp] theorem prsConfigWrite_out [F.Path] [F.PevRegs] [∀ g, F.Reg g] (o v : Nat) (s : State) :
    (prsConfigWrite o v s).out F = s.out F := by
  simp [prsConfigWrite]

@[simp] theorem execPrsConfigWrite_leaves [F.Path] [F.PevRegs] [∀ g, F.Reg g] (o : BitVec 12) (v : W64) (s : State)
    : Leaves F s (execPrsConfigWrite o v s) := by
  simp [execPrsConfigWrite]

@[simp] theorem ilkFalls_out [F.AccParts] [F.Pins] [F.Seals] [F.Log] [F.Raster] [F.Path]
    [F.Drypoint] [F.Tansy] [F.Inputs] [F.PevRegs] [F.Reg (one R.DRY_STATUS)] [F.Reg (one R.PRS_HALTS)]
    [F.Reg (one R.PRS_STATUS)] (s : State) : (ilkFalls s).out F = s.out F := by
  simp [ilkFalls]

@[simp] theorem execPrsIlkInFall_leaves [F.AccParts] [F.Pins] [F.Seals] [F.Log] [F.Raster]
    [F.Path] [F.Drypoint] [F.Tansy] [F.Inputs] [F.PevRegs] [F.Reg (one R.DRY_STATUS)]
    [F.Reg (one R.PRS_HALTS)] [F.Reg (one R.PRS_STATUS)] (s : State) : Leaves F s (execPrsIlkInFall s) := by
  simp [execPrsIlkInFall]

@[simp] theorem execPrsIlkInRise_leaves [F.Pins] [F.Inputs] (s : State) : Leaves F s (execPrsIlkInRise s) := by
  simp [execPrsIlkInRise]

@[simp] theorem execVddIo33Loss_leaves [F.AccParts] [F.Power] [F.Pins] [F.Seals] [F.Log]
    [F.Raster] [F.Path] [F.Drypoint] [F.Tansy] [F.Inputs] [F.PevRegs]
    [F.Reg (one R.DRY_STATUS)] [F.Reg (one R.PRS_HALTS)] [F.Reg (one R.PRS_STATUS)] (s : State) : Leaves F s
    (execVddIo33Loss s) := by
  simp [execVddIo33Loss]

end Sys2Proof.Machine
end

section
/-! SUPPORT. What lies outside the footprint is left. Drypoint: beam detect and lock, scans and their rows, pulses,
imaging of a page, laser power control, and its configuration. -/

namespace Sys2Proof.Machine

variable {F : Foot}

@[simp] theorem declareLock_out [F.AccParts] [F.PevRegs] [F.Reg (one R.DRY_STATUS)] (s : State) : (declareLock s).out F
    = s.out F := by
  simp [declareLock]

@[simp] theorem readRow_out [F.MemParts] [F.MemRegs] (p : Page) (r : Nat) (s : State) : (readRow p r s).2.out F =
    s.out F := by
  have hf := readFlags_out (F := F) (mapRd_out p.map) p.surf s
  have hr := rowSeen_out (F := F) (mapRd_out p.map) p.surf
  unfold readRow
  dsimp only
  split <;> split_ifs <;> simp [hf, hr]

@[simp] theorem readRows_out [F.MemParts] [F.MemRegs] (p : Page) (l : List Nat) (acc : Tab (List Byte)) (s : State) :
    (readRows p l acc s).2.out F = s.out F := by
  induction l generalizing acc s with
  | nil => rfl
  | cons r rs ih =>
    have h := readRow_out (F := F) p r s
    unfold readRows
    split <;> simp_all

@[simp] theorem lateLine_out [F.AccParts] [F.Pins] [F.Seals] [F.Log] [F.Raster] [F.Path]
    [F.Drypoint] [F.Tansy] [F.PevRegs] [F.Reg (one R.DRY_LATE_LINES)] [F.Reg (one R.DRY_STATUS)]
    [F.Reg (one R.PRS_HALTS)] [F.Reg (one R.PRS_STATUS)] (s : State) : (lateLine s).out F = s.out F := by
  simp [lateLine]

@[simp] theorem takeRows_leaves [F.MemParts] [F.Drypoint] [F.MemRegs] (p : Page) (k : Int) (s : State) : LeavesOk F
    s (takeRows p k s) := by
  unfold takeRows
  dsimp only
  (repeat' split) <;> simp <;> grind [State.out_dry, readRows_out]

@[simp] theorem drawScan_out [F.AccParts] [F.Pins] [F.Seals] [F.Log] [F.Raster] [F.Path]
    [F.Drypoint] [F.Tansy] [F.PevRegs] [F.Reg (one R.DRY_LATE_LINES)] [F.Reg (one R.DRY_STATUS)]
    [F.Reg (one R.PRS_HALTS)] [F.Reg (one R.PRS_STATUS)] (s : State) : (drawScan s).out F = s.out F := by
  unfold drawScan
  split
  · rfl
  · rename_i id x p _
    dsimp only
    split
    · rfl
    · have h := readRows_out (F := F) p (s.scanRows p s.dry.scan) [] s
      split
      · simp_all
      · simp_all
      · rename_i rows t _
        have ht := takeRows_leaves (F := F) p s.dry.scan t
        split
        · simp_all
        · simp_all
        · simp_all [LeavesOk]

@[simp] theorem hashMismatch_out [F.AccParts] [F.Pins] [F.Seals] [F.Log] [F.Raster] [F.Path]
    [F.Drypoint] [F.Tansy] [F.PevRegs] [F.Reg (one R.DRY_STATUS)] [F.Reg (one R.PRS_HALTS)]
    [F.Reg (one R.PRS_HASH_MISMATCH)] [F.Reg (one R.PRS_STATUS)] (p : Page) (s : State) : (hashMismatch p s).out F =
    s.out F := by
  simp [hashMismatch]

@[simp] theorem pageDrawn_out [F.AccParts] [F.Pins] [F.Seals] [F.Log] [F.Raster] [F.Path]
    [F.Drypoint] [F.Tansy] [F.PevRegs] [F.Reg (one R.DRY_STATUS)] [F.Reg (one R.PRS_HALTS)]
    [F.Reg (one R.PRS_HASH_MISMATCH)] [F.Reg (one R.PRS_STATUS)] (s : State) : (pageDrawn s).out F = s.out F := by
  unfold pageDrawn
  split <;> simp

@[simp] theorem endLine_out [F.AccParts] [F.Pins] [F.Seals] [F.Log] [F.Raster] [F.Path]
    [F.Drypoint] [F.Tansy] [F.PevRegs] [F.Reg (one R.DRY_STATUS)] [F.Reg (one R.PRS_HALTS)]
    [F.Reg (one R.PRS_HASH_MISMATCH)] [F.Reg (one R.PRS_STATUS)] (s : State) : (endLine s).out F = s.out F := by
  simp [endLine]

@[simp] theorem execBdEdge_leaves [F.AccParts] [F.Pins] [F.Seals] [F.Log] [F.Raster] [F.Path]
    [F.Drypoint] [F.Tansy] [F.PevRegs] [F.Reg (one R.DRY_LATE_LINES)] [F.Reg (one R.DRY_SCANS)]
    [F.Reg (one R.DRY_STATUS)] [F.Reg (one R.DRY_STRAY_BD)] [F.Reg (one R.PRS_HALTS)] [F.Reg (one R.PRS_HASH_MISMATCH)]
    [F.Reg (one R.PRS_STATUS)] (k : Fin 2) (rising held : Bool) (cycles : Nat) (s : State) : Leaves F s
    (execBdEdge k rising held cycles s) := by
  unfold execBdEdge
  dsimp only
  split_ifs <;> simp

@[simp] theorem execImagingStart_leaves [F.AccParts] [F.Pins] [F.Seals] [F.Log] [F.Raster]
    [F.Path] [F.Drypoint] [F.Tansy] [F.PevRegs] [F.Reg (one R.DRY_LATE_LINES)] [F.Reg (one R.DRY_STATUS)]
    [F.Reg (one R.PRS_HALTS)] [F.Reg (one R.PRS_HASH_MISMATCH)] [F.Reg (one R.PRS_STATUS)] (s : State) : Leaves F s
    (execImagingStart s) := by
  unfold execImagingStart
  dsimp only
  split
  · simp
  · split
    · simp
    · split
      · simp
      · split
        · simp
        · split_ifs <;> simp [drawScan_out]

@[simp] theorem execBdWindowOpen_leaves [F.AccParts] [F.Pins] [F.Seals] [F.Log] [F.Raster]
    [F.Path] [F.Drypoint] [F.Tansy] [F.PevRegs] [F.Reg (one R.DRY_STATUS)] [F.Reg (one R.PRS_HALTS)]
    [F.Reg (one R.PRS_HASH_MISMATCH)] [F.Reg (one R.PRS_STATUS)] (s : State) : Leaves F s (execBdWindowOpen s) := by
  simp [execBdWindowOpen]

@[simp] theorem execBdWindowClose_leaves [F.AccParts] [F.Pins] [F.Seals] [F.Log] [F.Raster]
    [F.Path] [F.Drypoint] [F.Tansy] [F.PevRegs] [F.Reg (one R.DRY_MISSED)] [F.Reg (one R.DRY_STATUS)]
    [F.Reg (one R.PRS_HALTS)] [F.Reg (one R.PRS_HASH_MISMATCH)] [F.Reg (one R.PRS_STATUS)] (s : State) : Leaves F s
    (execBdWindowClose s) := by
  simp [execBdWindowClose]

@[simp] theorem execEosEdge_leaves [F.Reg (one R.DRY_EOS)] (cycles : Nat) (s : State) : Leaves F s
    (execEosEdge cycles s) := by
  simp [execEosEdge]

@[simp] theorem execLateLineData_leaves [F.AccParts] [F.Pins] [F.Seals] [F.Log] [F.Raster]
    [F.Path] [F.Drypoint] [F.Tansy] [F.PevRegs] [F.Reg (one R.DRY_LATE_LINES)] [F.Reg (one R.DRY_STATUS)]
    [F.Reg (one R.PRS_HALTS)] [F.Reg (one R.PRS_STATUS)] (s : State) : Leaves F s (execLateLineData s) := by
  simp [execLateLineData]

@[simp] theorem execPlateHashMismatch_leaves [F.AccParts] [F.Pins] [F.Seals] [F.Log] [F.Raster]
    [F.Path] [F.Drypoint] [F.Tansy] [F.PevRegs] [F.Reg (one R.DRY_STATUS)] [F.Reg (one R.PRS_HALTS)]
    [F.Reg (one R.PRS_HASH_MISMATCH)] [F.Reg (one R.PRS_STATUS)] (s : State) :
    Leaves F s (execPlateHashMismatch s) := by
  unfold execPlateHashMismatch
  split <;> simp

@[simp] theorem execApcCapture_leaves [F.AccParts] [F.Pins] [F.Seals] [F.Log] [F.Raster]
    [F.Path] [F.Drypoint] [F.Tansy] [F.PevRegs] [F.Reg (one R.DRY_STATUS)] [F.Reg (one R.PRS_HALTS)]
    [F.Reg (one R.PRS_HASH_MISMATCH)] [F.Reg (one R.PRS_STATUS)] (b : Fin 8) (s : State) : Leaves F s
    (execApcCapture b s) := by
  simp [execApcCapture]

@[simp] theorem execApcUpdate_leaves [F.AccParts] [F.Pins] [F.Drypoint] [F.PevRegs] [F.Reg (many R.DRY_APC)]
    [F.Reg (one R.DRY_STATUS)] (b : Fin 8) (s : State) : Leaves F s (execApcUpdate b s) := by
  unfold execApcUpdate
  dsimp only
  split
  · simp
  · split <;> simp

@[simp] theorem dryConfigWrite_out [F.AccParts] [F.Clocks] [F.Drypoint] [F.PevRegs] [∀ g, F.Reg g] (o v : Nat)
    (s : State) : (dryConfigWrite o v s).out F = s.out F := by
  simp [dryConfigWrite]

@[simp] theorem execDryConfigWrite_leaves [F.AccParts] [F.Clocks] [F.Drypoint] [F.PevRegs] [∀ g, F.Reg g]
    (o : BitVec 12) (v : W64) (s : State) : Leaves F s (execDryConfigWrite o v s) := by
  simp [execDryConfigWrite]

end Sys2Proof.Machine
end

section
/-! SUPPORT. What lies outside the footprint is left. Links and their groups, the route of a packet, and the node as a
requester. -/

namespace Sys2Proof.Machine

variable {F : Foot}

@[simp] theorem State.setLink_out [F.Fabric] (s : State) (k : Nat) (x : Link) : (s.setLink k x).out F = s.out F := by
  simp [State.setLink]

@[simp] theorem originate_out [F.Sent] [F.Reg (many R.FP_UNROUTABLE)] (role : Role) (p : Packet) (s : State) :
    (originate role p s).out F = s.out F := by
  unfold originate
  dsimp only
  split
  · simp
  · split <;> simp

@[simp] theorem respond_out [F.Sent] [F.Reg (many R.FP_UNROUTABLE)] (k : Nat) (role : Role) (p : Packet) (s : State) :
    (respond k role p s).out F = s.out F := by
  simp [respond]

@[simp] theorem startRequest_out [F.Fabric] [F.Sent] [F.Reg (many R.FP_UNROUTABLE)] (owner : ReqOwner)
    (opc dst cid va : Nat) (data : List Byte) (retry budget : Nat) (s : State) :
    (startRequest owner opc dst cid va data retry budget s).out F = s.out F := by
  simp [startRequest]

@[simp] theorem startRead_out [F.Fabric] [F.Sent] [F.Reg (many R.FP_UNROUTABLE)] (owner : ReqOwner)
    (dst cid va retry budget : Nat) (s : State) : (startRead owner dst cid va retry budget s).out F = s.out F := by
  simp [startRead]

@[simp] theorem startWrite_out [F.Fabric] [F.Sent] [F.Reg (many R.FP_UNROUTABLE)] (owner : ReqOwner)
    (dst cid va : Nat) (d : List Byte) (retry budget : Nat) (s : State) :
    (startWrite owner dst cid va d retry budget s).out F = s.out F := by
  simp [startWrite]

@[simp] theorem dropReq_out [F.Fabric] (tag : Nat) (s : State) : (dropReq tag s).out F = s.out F := by
  simp [dropReq]

end Sys2Proof.Machine
end

section
/-! SUPPORT. What lies outside the footprint is left. COPY and FILL: the descriptor, the movement of the data, and the
requests of a remote side. -/

namespace Sys2Proof.Machine

variable {F : Foot}

@[simp] theorem dmaRead_out [F.AccParts] [F.AccRegs] (x : DmaTask) (early : State) (pos n : Nat) (s : State) :
    (dmaRead x early pos n s).2.out F = s.out F := by
  unfold dmaRead
  split_ifs
  · rfl
  · refine foldl_out Prod.snd _ _ (fun a pc => ?_) _
    grind [ringRead_out, State.draw_out]

@[simp] theorem dmaFinish_out [F.Rings] [F.Fabric] (x : DmaTask) (status detail : Nat) (s : State) :
    (dmaFinish x status detail s).out F = s.out F := by
  simp [dmaFinish]

@[simp] theorem dmaPut_out [F.Rings] (x : DmaTask) (s : State) : (dmaPut x s).out F = s.out F := by
  simp [dmaPut]

theorem dmaLocal_out [F.AccParts] [F.Rings] [F.Fabric] [F.AccRegs] (x : DmaTask) {s0 s : State}
    (fuel pos : Nat) (h : s0.out F = s.out F) : (dmaLocal x s0 fuel pos s).out F = s.out F := by
  induction fuel generalizing pos s with
  | zero => simp [dmaLocal]
  | succ fuel ih =>
    unfold dmaLocal
    grind [dmaFinish_out, dmaRead_out, ringWrite_out]

@[simp] theorem dmaAdvance_out [F.AccParts] [F.Rings] [F.Fabric] [F.AccRegs] [F.Reg (many R.FP_UNROUTABLE)]
    (x : DmaTask) (s : State) : (dmaAdvance x s).out F = s.out F := by
  unfold dmaAdvance
  grind [dmaRead_out, dmaFinish_out, startWrite_out, dmaPut_out, startRead_out]

@[simp] theorem dmaResponse_leaves [F.AccParts] [F.Rings] [F.Fabric] [F.AccRegs]
    [F.Reg (many R.FP_UNROUTABLE)] (x : DmaTask) (status : Nat) (data : List Byte) (s : State) : LeavesSome F s
    (dmaResponse x status data s) := by
  unfold dmaResponse
  dsimp only
  (repeat' split) <;> simp

@[simp] theorem dmaStart_out [F.AccParts] [F.Rings] [F.Fabric] [F.AccRegs] [F.Reg (many R.FP_UNROUTABLE)]
    (x : DmaTask) (s : State) : (dmaStart x s).out F = s.out F := by
  simp [dmaStart]

@[simp] theorem dmaIssue_out [F.AccParts] [F.Rings] [F.Fabric] [F.AccRegs] [F.Reg (many R.FP_UNROUTABLE)]
    (r t : Nat) (fill : Bool) (f : List W64) (p : Prog) (s : State) : (dmaIssue r t fill f p s).out F = s.out F := by
  simp [dmaIssue]

@[simp] theorem execCopy_leaves [F.AccParts] [F.Rings] [F.Fabric] [F.AccRegs] [F.Reg (many R.FP_UNROUTABLE)]
    (r : Fin 132) (g : Guard) (da t : Fin 16) (s : State) : Leaves F s (execCopy r g da t s) := by
  simp [execCopy]

@[simp] theorem execFill_leaves [F.AccParts] [F.Rings] [F.Fabric] [F.AccRegs] [F.Reg (many R.FP_UNROUTABLE)]
    (r : Fin 132) (g : Guard) (da t : Fin 16) (s : State) : Leaves F s (execFill r g da t s) := by
  simp [execFill]

@[simp] theorem execRequestRetryTimeout_leaves [F.Rings] [F.Fabric] [F.Sent] [F.Reg (many R.FP_UNROUTABLE)]
    (tag : BitVec 12) (s : State) : Leaves F s (execRequestRetryTimeout tag s) := by
  unfold execRequestRetryTimeout
  dsimp only
  (repeat' split) <;> simp

end Sys2Proof.Machine
end

section
/-! SUPPORT. What lies outside the footprint is left. Logical and physical units: the maps, hosting, retirement and
spares. -/

namespace Sys2Proof.Machine

variable {F : Foot}

@[simp] theorem setPhysEngine_out [F.Reg (many R.RPR_HMAP)] (cl i p : Nat) (s : State) : (setPhysEngine cl i p s).out F
    = s.out F := by
  simp [setPhysEngine]

@[simp] theorem setPhysCore_out [F.Reg (many R.RPR_SMAP_HI)] [F.Reg (many R.RPR_SMAP_LO)] (cl i p : Nat) (s : State) :
    (setPhysCore cl i p s).out F = s.out F := by
  simp [setPhysCore]

@[simp] theorem setPhysUnit_out [F.Reg (many R.RPR_HMAP)] [F.Reg (many R.RPR_SMAP_HI)] [F.Reg (many R.RPR_SMAP_LO)]
    (k : UnitKind) (cl i p : Nat) (s : State) : (setPhysUnit k cl i p s).out F = s.out F := by
  simp [setPhysUnit]

@[simp] theorem syncUnits_out [F.Reg (many R.CC_HATCH)] [F.Reg (many R.CC_STIPPLE_RET)] [F.Reg (many R.CC_STIPPLE_SVC)]
    [F.Reg (many R.RPR_HOST)] [F.Reg (many R.RPR_SPARE)] (cl : Nat) (s : State) : (syncUnits cl s).out F = s.out F := by
  simp [syncUnits]

@[simp] theorem syncAllUnits_out [F.Reg (many R.CC_HATCH)] [F.Reg (many R.CC_STIPPLE_RET)]
    [F.Reg (many R.CC_STIPPLE_SVC)] [F.Reg (many R.RPR_HOST)] [F.Reg (many R.RPR_SPARE)] (s : State) :
    (syncAllUnits s).out F = s.out F := State.each_out _ _ _ syncUnits_out

@[simp] theorem unitEntry_out [F.EvParts] [F.Repair] [F.EvRegs] [F.RprStatus] (k : UnitKind) (cl p : Nat) (s : State) :
    (unitEntry k cl p s).out F = s.out F := by
  simp [unitEntry]

@[simp] theorem unitEvent_out [F.EvParts] [F.EvRegs] (src : Nat) (k : UnitKind) (cl p l ring : Nat) (s : State) :
    (unitEvent src k cl p l ring s).out F = s.out F := by
  simp [unitEvent]

@[simp] theorem seekSpare_out [F.EvParts] [F.Repair] [F.Test] [F.EvRegs] [F.Reg (many R.FP_CTL)]
    [F.Reg (one R.TST_JOB_STATUS)] (k : UnitKind) (cl l : Nat) (s : State) : (seekSpare k cl l s).out F = s.out F := by
  unfold seekSpare
  split <;> simp

@[simp] theorem markRetired_out [F.Repair] (k : UnitKind) (cl p : Nat) (s : State) : (markRetired k cl p s).out F =
    s.out F := by
  simp [markRetired]

@[simp] theorem retireUnit_out [F.EvParts] [F.Repair] [F.Test] [F.EvRegs] [F.Reg (many R.CC_HATCH)]
    [F.Reg (many R.CC_STIPPLE_RET)] [F.Reg (many R.CC_STIPPLE_SVC)] [F.Reg (many R.FP_CTL)] [F.Reg (many R.RPR_HMAP)]
    [F.Reg (many R.RPR_HOST)] [F.Reg (many R.RPR_SMAP_HI)] [F.Reg (many R.RPR_SMAP_LO)] [F.Reg (many R.RPR_SPARE)]
    [F.RprStatus] [F.Reg (one R.TST_JOB_STATUS)] (k : UnitKind) (cl p ring : Nat) (s : State) :
    (retireUnit k cl p ring s).out F = s.out F := by
  unfold retireUnit
  grind [setPhysUnit_out, unitEntry_out, seekSpare_out, unitEvent_out, syncUnits_out,
    markRetired_out]

@[simp] theorem spareTested_out [F.EvParts] [F.Repair] [F.Test] [F.EvRegs] [F.Reg (many R.CC_HATCH)]
    [F.Reg (many R.CC_STIPPLE_RET)] [F.Reg (many R.CC_STIPPLE_SVC)] [F.Reg (many R.FP_CTL)] [F.Reg (many R.RPR_HMAP)]
    [F.Reg (many R.RPR_HOST)] [F.Reg (many R.RPR_SMAP_HI)] [F.Reg (many R.RPR_SMAP_LO)] [F.Reg (many R.RPR_SPARE)]
    [F.RprStatus] [F.Reg (one R.TST_JOB_STATUS)] (x : SpareTest) (pass : Bool) (s : State) :
    (spareTested x pass s).out F = s.out F := by
  simp [spareTested]

end Sys2Proof.Machine
end

section
/-! SUPPORT. What lies outside the footprint is left. HGEMM, HSMAX and HELT: descriptors, tile tasks, what each task
computes and how it is checked. -/

namespace Sys2Proof.Machine

variable {F : Foot}

@[simp] theorem putJob_out [F.Hatch] (j : Job) (s : State) : (putJob j s).out F = s.out F := by
  simp [putJob]

@[simp] theorem loadRun_out [F.AccParts] [F.AccRegs] (r ctx opnd base va n : Nat) (s : State) :
    (loadRun r ctx opnd base va n s).2.out F = s.out F := by
  refine foldl_snd_out _ _ (fun a pc => ?_) _
  grind [ringRead_out]

@[simp] theorem loadRuns_out [F.AccParts] [F.AccRegs] (r ctx opnd base n : Nat) (vas : List Nat) (s : State) :
    (loadRuns r ctx opnd base n vas s).2.out F = s.out F := by
  refine foldl_snd_out _ _ (fun a pc => ?_) _
  grind [loadRun_out]

@[simp] theorem storeRows_out [F.AccParts] [F.AccRegs] (r ctx : Nat) (rows : List (Nat × List Byte)) (s : State) :
    (storeRows r ctx rows s).2.out F = s.out F := by
  refine foldl_snd_out _ _ (fun a x => ?_) _
  grind [ringWrite_out]

@[simp] theorem gemmLoad_out [F.AccParts] [F.AccRegs] (r : Nat) (f : List W64) (tile step : Nat) (s : State) :
    (gemmLoad r f tile step s).2.out F = s.out F := by
  have hr := loadRuns_out (F := F)
  unfold gemmLoad
  dsimp only
  split
  · grind
  · split
    · grind
    · split
      · grind
      · split <;> grind

@[simp] theorem hsmaxLoad_out [F.AccParts] [F.AccRegs] (r : Nat) (f : List W64) (row : Nat) (s : State) :
    (hsmaxLoad r f row s).2.out F = s.out F := by
  unfold hsmaxLoad
  grind [loadRun_out]

@[simp] theorem heltLoad_out [F.AccParts] [F.AccRegs] (r : Nat) (f : List W64) (tile : Nat) (s : State) :
    (heltLoad r f tile s).2.out F = s.out F := by
  unfold heltLoad
  grind [loadRun_out]

@[simp] theorem addJob_out [F.Hatch] (j : Job) (s : State) : (addJob j s).out F = s.out F := by
  simp [addJob]

@[simp] theorem hatchIssue_out [F.Rings] [F.Hatch] (r t : Nat) (kind : JobKind) (f : List W64)
    (badDesc : Bool) (tiles : Nat) (p : Prog) (s : State) :
    (hatchIssue r t kind f badDesc tiles p s).out F = s.out F := by
  simp [hatchIssue]

@[simp] theorem execHgemm_leaves [F.Rings] [F.Hatch] (r : Fin 132) (g : Guard) (da t : Fin 16) (s : State) :
    Leaves F s (execHgemm r g da t s) := by
  simp [execHgemm]

@[simp] theorem execHsmax_leaves [F.Rings] [F.Hatch] (r : Fin 132) (g : Guard) (da t : Fin 16) (s : State) :
    Leaves F s (execHsmax r g da t s) := by
  simp [execHsmax]

@[simp] theorem execHelt_leaves [F.Rings] [F.Hatch] (r : Fin 132) (g : Guard) (da t : Fin 16) (s : State) :
    Leaves F s (execHelt r g da t s) := by
  simp [execHelt]

end Sys2Proof.Machine
end

section
/-! SUPPORT. What lies outside the footprint is left. Decode attention over KV pages: descriptors, the walk, chunk
tasks, merges, partial records, and AMERGE. -/

namespace Sys2Proof.Machine

variable {F : Foot}

@[simp] theorem walkRead_out [F.AccParts] [F.AccRegs] (r ctx va n : Nat) (s : State) : (walkRead r ctx va n s).2.out F =
    s.out F := by
  unfold walkRead
  grind [ringRead_out]

@[simp] theorem readEntries_out [F.AccParts] [F.AccRegs] (r ctx va n : Nat) (s : State) :
    (readEntries r ctx va n s).2.2.out F = s.out F := by
  refine foldl_out (fun a : List Nat × ListEnd × State => a.2.2) _ _ (fun a pc => ?_) _
  grind [walkRead_out]

@[simp] theorem walkList_out [F.AccParts] [F.AccRegs] (r ctx fuel va need : Nat) (acc : List Nat) (s : State) :
    (walkList r ctx fuel va need acc s).2.2.out F = s.out F := by
  induction fuel generalizing va acc s with
  | zero => rfl
  | succ fuel ih =>
    unfold walkList
    grind [walkRead_out, readEntries_out]

@[simp] theorem probeRun_out [F.AccParts] [F.AccRegs] (r ctx va n : Nat) (s : State) : (probeRun r ctx va n s).2.out F =
    s.out F := by
  refine foldl_snd_out _ _ (fun a pc => ?_) _
  split <;> simp

@[simp] theorem planSeq_out [F.AccParts] [F.AccRegs] (r : Nat) (a : AttnDesc) (i : Nat) (s : State) :
    (planSeq r a i s).2.out F = s.out F := by
  unfold planSeq
  grind [walkRead_out, probeRun_out, walkList_out]

@[simp] theorem chunkLoad_out [F.AccParts] [F.AccRegs] (j : Job) (sq h c : Nat) (s : State) :
    (chunkLoad j sq h c s).2.out F = s.out F := by
  have hw := walkRead_out (F := F)
  unfold chunkLoad
  dsimp only
  split
  case h_4 =>
    refine (foldl_snd_out _ _ (fun a pg => ?_) _).trans (by grind)
    grind
  all_goals grind

@[simp] theorem attnStart_leaves [F.AccParts] [F.Hatch] [F.AccRegs] (r t cl : Nat) (f d : List W64) (s : State) :
    LeavesSome F s (attnStart r t cl f d s) := by
  unfold attnStart
  dsimp only
  split
  · simp
  · rename_i j u hPlanned
    rw [leavesSome_some, addJob_out, State.out_hatch]
    refine List.foldlRecOn (motive := fun acc : Option (Job × State) => ∀ x, acc = some x → x.2.out F = s.out F) _ _
      (by grind) (fun acc ih i _ => ?_) _ hPlanned
    cases acc <;> grind [planSeq_out]

@[simp] theorem attnIssue_out [F.AccParts] [F.Rings] [F.Hatch] [F.AccRegs] [F.Reg (one R.ATT_JOBS)]
    (r t : Nat) (f d : List W64) (p : Prog) (s : State) : (attnIssue r t f d p s).out F = s.out F := by
  refine out_of_ite (by simp) (out_of_ite (by simp) ?_)
  split
  · rename_i u h
    simp [attnStart_leaves _ _ _ _ _ _ u h]
  · rfl

@[simp] theorem execAttn_leaves [F.AccParts] [F.Rings] [F.Hatch] [F.AccRegs] [F.Reg (one R.ATT_JOBS)]
    (r : Fin 132) (g : Guard) (da db t : Fin 16) (s : State) : Leaves F s (execAttn r g da db t s) := by
  simp [execAttn]

@[simp] theorem mergeLoad_out [F.AccParts] [F.AccRegs] (j : Job) (row : Nat) (s : State) : (mergeLoad j row s).2.out F =
    s.out F := by
  refine foldl_snd_out _ _ (fun a k => ?_) _
  grind [walkRead_out]

@[simp] theorem amergeIssue_out [F.Rings] [F.Hatch] [F.Reg (one R.ATT_JOBS)] (r t : Nat) (f : List W64)
    (p : Prog) (s : State) : (amergeIssue r t f p s).out F = s.out F := by
  simp [amergeIssue]

@[simp] theorem execAmerge_leaves [F.Rings] [F.Hatch] [F.Reg (one R.ATT_JOBS)] (r : Fin 132) (g : Guard)
    (da t : Fin 16) (s : State) : Leaves F s (execAmerge r g da t s) := by
  simp [execAmerge]

@[simp] theorem plAccess_out [F.Rings] {r : Nat} {p : Prog} {s s0 : State} {x : WalkRes × State}
    {k : List Byte → State → State} (h0 : s0.out F = s.out F) (hx : x.2.out F = s.out F)
    (h : ∀ d t, t.out F = s.out F → (k d t).out F = s.out F) : (plAccess r p s0 x k).out F = s.out F := by
  unfold plAccess
  split
  · exact h0
  · simpa using hx
  · simpa using hx
  · exact h _ _ hx

@[simp] theorem execPlopen_leaves [F.AccParts] [F.Rings] [F.AccRegs] (r : Fin 132) (g : Guard) (da : Fin 16)
    (a : Fin 32) (s : State) : Leaves F s (execPlopen r g da a s) := by
  unfold execPlopen
  grind [walkRead_out, kcs_leaves, plAccess_out, State.setProg_out, endAt_out]

@[simp] theorem cursorLoad_out [F.AccParts] [F.AccRegs] (r : Nat) (c : List W64) (s : State) :
    (cursorLoad r c s).2.out F = s.out F := by
  unfold cursorLoad
  grind [walkRead_out]

@[simp] theorem cursorStep_out [F.AccParts] [F.AccRegs] (r : Nat) (c : List W64) (k : Nat) (s : State) :
    (cursorStep r c k s).2.out F = s.out F := by
  unfold cursorStep
  grind [cursorLoad_out]

@[simp] theorem execPlread_leaves [F.AccParts] [F.Rings] [F.AccRegs] (r : Fin 132) (g : Guard) (da : Fin 16)
    (a : Fin 32) (f : Fin 8) (s : State) : Leaves F s (execPlread r g da a f s) := by
  unfold execPlread
  grind [cursorStep_out, walkRead_out, kcs_leaves, plAccess_out, cursorLoad_out, State.setProg_out,
    endAt_out]

@[simp] theorem cursorSkip_out [F.AccParts] [F.AccRegs] (r fuel : Nat) (c : List W64) (k : Nat) (s : State) :
    (cursorSkip r fuel c k s).2.out F = s.out F := by
  induction fuel generalizing c k s with
  | zero => rfl
  | succ fuel ih =>
    unfold cursorSkip
    grind [cursorLoad_out, cursorStep_out]

@[simp] theorem execPlskip_leaves [F.AccParts] [F.Rings] [F.AccRegs] (r : Fin 132) (g : Guard) (da : Fin 16)
    (a : Fin 32) (s : State) : Leaves F s (execPlskip r g da a s) := by
  unfold execPlskip
  grind [cursorSkip_out, kcs_leaves, plAccess_out, State.setProg_out, endAt_out]

@[simp] theorem execPlemit_leaves [F.Rings] [F.Hatch] (r : Fin 132) (g : Guard) (t : Fin 16) (a b c : Fin 32)
    (s : State) : Leaves F s (execPlemit r g t a b c s) := by
  unfold execPlemit
  grind [kcs_leaves, putJob_out, State.setProg_out, endAt_out]

@[simp] theorem closeEmit_out [F.Hatch] (j : Job) (s : State) : (closeEmit j s).out F = s.out F := by
  simp [closeEmit]

@[simp] theorem execPlend_leaves [F.Rings] [F.Hatch] (r : Fin 132) (g : Guard) (t : Fin 16) (s : State) :
    Leaves F s (execPlend r g t s) := by
  unfold execPlend
  grind [kcs_leaves, closeEmit_out, State.setProg_out, endAt_out]

end Sys2Proof.Machine
end

section
/-! SUPPORT. What lies outside the footprint is left. The dispatchers: placing tasks on engines, the end of a task with
its check, re-runs, and the end of a job. -/

namespace Sys2Proof.Machine

variable {F : Foot}

@[simp] theorem loadTask_out [F.AccParts] [F.AccRegs] (j : Job) (t : Task) (s : State) : (loadTask j t s).2.out F =
    s.out F := by
  unfold loadTask
  split <;> simp

@[simp] theorem placeTask_out [F.AccParts] [F.Hatch] [F.AccRegs] (j : Job) (t : Task) (fresh : Bool) (e : Nat)
    (s : State) : (placeTask j t fresh e s).out F = s.out F := by
  unfold placeTask
  grind [State.out_hatch, loadTask_out, putJob_out]

@[simp] theorem execTaskDispatch_leaves [F.AccParts] [F.Hatch] [F.AccRegs] (cl : Fin 4) (eng : Fin 13) (s : State)
    : Leaves F s (execTaskDispatch cl eng s) := by
  unfold execTaskDispatch
  split <;> simp

@[simp] theorem countFail_out [F.EvParts] [F.Repair] [F.Test] [F.EvRegs] [F.Reg (many R.CC_HATCH)]
    [F.Reg R.CC_HCHK] [F.Reg (many R.CC_STIPPLE_RET)] [F.Reg (many R.CC_STIPPLE_SVC)] [F.Reg (many R.FP_CTL)]
    [F.Reg (many R.RPR_HMAP)] [F.Reg (many R.RPR_HOST)] [F.Reg (many R.RPR_SMAP_HI)] [F.Reg (many R.RPR_SMAP_LO)]
    [F.Reg (many R.RPR_SPARE)] [F.RprStatus] [F.Reg (one R.TST_JOB_STATUS)] (e ring : Nat) (s : State) :
    (countFail e ring s).out F = s.out F := by
  simp [countFail]

@[simp] theorem countRerun_out [F.Reg (many R.CC_RERUNS)] (j : Job) (cl : Nat) (s : State) : (countRerun j cl s).2.out F
    = s.out F := by
  simp [countRerun]

@[simp] theorem failTask_out [F.EvParts] [F.Hatch] [F.Repair] [F.Test] [F.EvRegs] [F.Reg (many R.CC_HATCH)]
    [F.Reg R.CC_HCHK] [F.Reg (many R.CC_RERUNS)] [F.Reg (many R.CC_STIPPLE_RET)] [F.Reg (many R.CC_STIPPLE_SVC)]
    [F.Reg (many R.FP_CTL)] [F.Reg (many R.RPR_HMAP)] [F.Reg (many R.RPR_HOST)] [F.Reg (many R.RPR_SMAP_HI)]
    [F.Reg (many R.RPR_SMAP_LO)] [F.Reg (many R.RPR_SPARE)] [F.RprStatus] [F.Reg (one R.TST_JOB_STATUS)] (j : Job)
    (t : Task) (e : Nat) (s : State) : (failTask j t e s).out F = s.out F := by
  simp [failTask]

theorem writeRows_out [F.AccParts] [F.AccRegs] {j : Job} {ctx : Nat} {rows : List (Nat × List Byte)} {s : State}
    {x : Job × State} (h : writeRows j ctx rows s = some x) : x.2.out F = s.out F := by
  unfold writeRows at h
  grind [storeRows_out]

@[simp] theorem countTask_out [F.Reg (many R.CC_TASKS)] (cl : Nat) (s : State) : (countTask cl s).out F = s.out F := by
  simp [countTask]

theorem writeRows_putJob [F.AccParts] [F.Hatch] [F.AccRegs] {j : Job} {ctx : Nat}
    {rows : List (Nat × List Byte)} {s t : State} (h : t.out F = s.out F) :
    LeavesSome F s ((writeRows j ctx rows t).map fun x => putJob x.1 x.2) := by
  intro u hu
  obtain ⟨x, hx, rfl⟩ := Option.map_eq_some_iff.mp hu
  rw [putJob_out, writeRows_out hx, h]

@[simp] theorem commitGemm_leaves [F.AccParts] [F.Hatch] [F.AccRegs] [F.Reg (many R.CC_TASKS)] (j : Job) (t : Task)
    (res : List Nat) (s : State) : LeavesSome F s (commitGemm j t res s) := by
  unfold commitGemm
  dsimp only
  split
  · simp
  · exact writeRows_putJob (by simp)

@[simp] theorem gemmDone_leaves [F.AccParts] [F.Hatch] [F.Test] [F.AccRegs] [F.Reg (many R.CC_HATCH)]
    [F.Reg R.CC_HCHK] [F.Reg (many R.CC_RERUNS)] [F.Reg (many R.CC_STIPPLE_RET)] [F.Reg (many R.CC_STIPPLE_SVC)]
    [F.Reg (many R.CC_TASKS)] [F.Reg (many R.FP_CTL)] [F.Reg (many R.RPR_HMAP)] [F.Reg (many R.RPR_HOST)]
    [F.Reg (many R.RPR_SMAP_HI)] [F.Reg (many R.RPR_SMAP_LO)] [F.Reg (many R.RPR_SPARE)] [F.Reg (one R.TST_JOB_STATUS)]
    (j : Job) (t : Task) (e : Nat) (wrong : Option (List Nat)) (differ : Bool) (s : State) : LeavesSome F s
    (gemmDone j t e wrong differ s) := by
  have hc := commitGemm_leaves (F := F)
  unfold gemmDone
  dsimp only
  split_ifs
  · apply hc
  · simp
  · simp
  · simp
  · apply hc
  · simp
  · split
    · split
      · simp
      · rename_i u hu
        have h := hc _ _ _ _ u hu
        split <;> simp [h]
    · simp

@[simp] theorem rowsDone_leaves [F.AccParts] [F.Hatch] [F.AccRegs] [F.Reg (many R.CC_TASKS)] (j : Job) (t : Task)
    (s : State) : LeavesSome F s (rowsDone j t s) :=  writeRows_putJob (by simp)

@[simp] theorem chunkDone_leaves [F.AccParts] [F.Hatch] [F.Test] [F.AccRegs] [F.Reg (one R.ATT_CHUNKS)]
    [F.Reg (one R.ATT_PAGES)] [F.Reg (many R.CC_HATCH)] [F.Reg R.CC_HCHK] [F.Reg (many R.CC_RERUNS)]
    [F.Reg (many R.CC_STIPPLE_RET)] [F.Reg (many R.CC_STIPPLE_SVC)] [F.Reg (many R.CC_TASKS)] [F.Reg (many R.FP_CTL)]
    [F.Reg (many R.RPR_HMAP)] [F.Reg (many R.RPR_HOST)] [F.Reg (many R.RPR_SMAP_HI)] [F.Reg (many R.RPR_SMAP_LO)]
    [F.Reg (many R.RPR_SPARE)] [F.Reg (one R.TST_JOB_STATUS)] (j : Job) (t : Task) (e : Nat) (differ : Bool) (s : State)
    : LeavesSome F s (chunkDone j t e differ s) := by
  have h := chunkLoad_out (F := F) j (t.tile / 64) (t.tile % 64) t.step s
  unfold chunkDone
  dsimp only
  split
  · simp
  · cases t.loaded with
    | some l =>
      dsimp only
      split
      · simp
      · split
        · exact writeRows_putJob (by simp)
        · simp
    | none =>
      dsimp only
      split
      · simp
      · simp [h]
      · simp [h]
      · split
        · simp [h]
        · split
          · exact writeRows_putJob (by simp [h])
          · simp [h]

@[simp] theorem mergeDone_leaves [F.AccParts] [F.Hatch] [F.Test] [F.AccRegs] [F.Reg (one R.ATT_ROWS)]
    [F.Reg (many R.CC_HATCH)] [F.Reg R.CC_HCHK] [F.Reg (many R.CC_RERUNS)] [F.Reg (many R.CC_STIPPLE_RET)]
    [F.Reg (many R.CC_STIPPLE_SVC)] [F.Reg (many R.CC_TASKS)] [F.Reg (many R.FP_CTL)] [F.Reg (many R.RPR_HMAP)]
    [F.Reg (many R.RPR_HOST)] [F.Reg (many R.RPR_SMAP_HI)] [F.Reg (many R.RPR_SMAP_LO)] [F.Reg (many R.RPR_SPARE)]
    [F.Reg (one R.TST_JOB_STATUS)] (j : Job) (t : Task) (e : Nat) (differ : Bool) (s : State) : LeavesSome F s
    (mergeDone j t e differ s) := by
  unfold mergeDone
  split
  · simp
  · exact writeRows_putJob (by simp)

@[simp] theorem amergeDone_leaves [F.AccParts] [F.Hatch] [F.Test] [F.AccRegs] [F.Reg (one R.ATT_ROWS)]
    [F.Reg (many R.CC_HATCH)] [F.Reg R.CC_HCHK] [F.Reg (many R.CC_RERUNS)] [F.Reg (many R.CC_STIPPLE_RET)]
    [F.Reg (many R.CC_STIPPLE_SVC)] [F.Reg (many R.CC_TASKS)] [F.Reg (many R.FP_CTL)] [F.Reg (many R.RPR_HMAP)]
    [F.Reg (many R.RPR_HOST)] [F.Reg (many R.RPR_SMAP_HI)] [F.Reg (many R.RPR_SMAP_LO)] [F.Reg (many R.RPR_SPARE)]
    [F.Reg (one R.TST_JOB_STATUS)] (j : Job) (t : Task) (e : Nat) (differ : Bool) (s : State) : LeavesSome F s
    (amergeDone j t e differ s) := by
  have h := mergeLoad_out (F := F) j t.tile s
  unfold amergeDone
  dsimp only
  split
  · simp
  · simp_all
  · split
    · simp_all
    · split
      · simp_all
      · exact writeRows_putJob (by simp_all)

@[simp] theorem execTileTaskDone_leaves [F.AccParts] [F.Hatch] [F.Test] [F.AccRegs] [F.Reg (one R.ATT_CHUNKS)]
    [F.Reg (one R.ATT_PAGES)] [F.Reg (one R.ATT_ROWS)] [F.Reg (many R.CC_HATCH)] [F.Reg R.CC_HCHK]
    [F.Reg (many R.CC_RERUNS)] [F.Reg (many R.CC_STIPPLE_RET)] [F.Reg (many R.CC_STIPPLE_SVC)] [F.Reg (many R.CC_TASKS)]
    [F.Reg (many R.FP_CTL)] [F.Reg (many R.RPR_HMAP)] [F.Reg (many R.RPR_HOST)] [F.Reg (many R.RPR_SMAP_HI)]
    [F.Reg (many R.RPR_SMAP_LO)] [F.Reg (many R.RPR_SPARE)] [F.Reg (one R.TST_JOB_STATUS)] (cl : Fin 4) (eng : Fin 13)
    (wrong : Option (List Nat)) (differ : Bool) (s : State) : Leaves F s (execTileTaskDone cl eng wrong differ s) := by
  unfold execTileTaskDone
  dsimp only
  split
  · simp
  · split
    · simp
    · refine leaves_next.mpr (leavesSome_getD ?_)
      split
      · apply gemmDone_leaves
      · apply amergeDone_leaves
      · split
        · apply mergeDone_leaves
        · apply chunkDone_leaves
      · split
        · simp
        · apply rowsDone_leaves

@[simp] theorem dropJob_out [F.Hatch] (id : Nat) (s : State) : (dropJob id s).out F = s.out F := by
  simp [dropJob]

@[simp] theorem finishJob_leaves [F.AccParts] [F.Rings] [F.Hatch] [F.AccRegs] [F.Reg (one R.ATT_JOBS)]
    [F.Reg (one R.ATT_POISONED)] (j : Job) (s : State) : LeavesSome F s (finishJob j s) := by
  have hw (c : Prop) [Decidable c] (k : Job) (ctx : Nat) (rows : List (Nat × List Byte)) (x : Job × State)
      (h : (if c then writeRows k ctx rows s else some (k, s)) = some x) : x.2.out F = s.out F := by
    split at h
    · exact writeRows_out h
    · cases h; rfl
  unfold finishJob
  dsimp only
  split
  · simp
  · split
    · simp
    · rename_i h
      simp [hw _ _ _ _ _ h]

@[simp] theorem cancelHatch_out [F.Hatch] (f : Nat → Bool) (s : State) : (cancelHatch f s).out F = s.out F := by
  simp [cancelHatch]

@[simp] theorem redoOn_out [F.Hatch] [F.Reg (many R.CC_RERUNS)] (e : Nat) (s : State) : (redoOn e s).out F =
    s.out F := by
  refine State.each_out _ _ _ fun j t => ?_
  split
  · rfl
  · simp

end Sys2Proof.Machine
end

section
/-! SUPPORT. What lies outside the footprint is left. Ring configuration, doorbells, entries, completions, pauses, and
the programs that start and end on a ring. -/

namespace Sys2Proof.Machine

variable {F : Foot}

@[simp] theorem syncCqFull_out [F.Reg R.PW_RING_STATUS] (r : Nat) (s : State) : (syncCqFull r s).out F = s.out F := by
  simp [syncCqFull]

@[simp] theorem zeroIndices_out [F.Reg R.PW_RING_CQ_HEAD] [F.Reg R.PW_RING_CQ_TAIL] [F.Reg R.PW_RING_SQ_HEAD]
    [F.Reg R.PW_RING_SQ_TAIL] [F.Reg R.PW_RING_STATUS] (r : Nat) (s : State) : (zeroIndices r s).out F = s.out F := by
  simp [zeroIndices]

@[simp] theorem cfgErr_out [F.Reg R.PW_RING_STATUS] (r : Nat) (s : State) : (cfgErr r s).out F = s.out F := by
  simp [cfgErr]

@[simp] theorem settleRing_out [F.Reg R.PW_RING_STATUS] (r : Nat) (s : State) : (settleRing r s).out F = s.out F := by
  simp [settleRing]

@[simp] theorem enableRing_out [F.AccParts] [F.Rings] [F.PevRegs] [F.Reg R.PW_RING_CFG] [F.Reg R.PW_RING_CQ_HEAD]
    [F.Reg R.PW_RING_CQ_TAIL] [F.Reg R.PW_RING_SQ_HEAD] [F.Reg R.PW_RING_SQ_TAIL] [F.Reg R.PW_RING_STATUS] (r : Nat)
    (s : State) : (enableRing r s).out F = s.out F := by
  simp [enableRing]

@[simp] theorem disableRing_out [F.Reg R.PW_RING_CFG] [F.Reg R.PW_RING_STATUS] (r : Nat) (s : State) :
    (disableRing r s).out F = s.out F := by
  simp [disableRing]

@[simp] theorem ringBaseWrite_out [F.Reg R.PW_RING_CQ_BASE] [F.Reg R.PW_RING_SQ_BASE] [F.Reg R.PW_RING_STATUS] (r : Nat)
    (cq : Bool) (v : Nat) (s : State) : (ringBaseWrite r cq v s).out F = s.out F := by
  simp [ringBaseWrite]

@[simp] theorem applyDoorbell_out [F.AccParts] [F.PevRegs] [F.Reg R.PW_RING_SQ_TAIL] [F.Reg R.PW_RING_STATUS]
    (r t : Nat) (s : State) : (applyDoorbell r t s).out F = s.out F := by
  simp [applyDoorbell]

@[simp] theorem notifyRing_out [F.Rings] [F.ToHost] [F.PbaRegs] (r : Nat) (s : State) : (notifyRing r s).out F =
    s.out F := by
  simp [notifyRing]

@[simp] theorem completionWritten_out [F.AccParts] [F.Rings] [F.PevRegs] [F.Reg R.PW_RING_CQ_TAIL]
    [F.Reg R.PW_RING_STATUS] (r : Nat) (c : Completion) (s : State) : (completionWritten r c s).out F = s.out F := by
  simp [completionWritten]

@[simp] theorem postCompletion_out [F.AccParts] [F.Rings] [F.PevRegs] [F.Reg R.PW_RING_CQ_TAIL]
    [F.Reg R.PW_RING_STATUS] (r : Nat) (c : Completion) (dmaFail : Bool) (s : State) :
    (postCompletion r c dmaFail s).out F = s.out F := by
  simp [postCompletion]

@[simp] theorem completeUnstarted_out [F.AccParts] [F.Rings] [F.PevRegs] [F.Reg R.PW_RING_CQ_TAIL]
    [F.Reg R.PW_RING_STATUS] (r : Nat) (e : EntryCopy) (status detail pc : Nat) (s : State) :
    (completeUnstarted r e status detail pc s).out F = s.out F := by
  simp [completeUnstarted]

@[simp] theorem addEntry_out [F.Rings] [F.Reg R.PW_RING_SQ_HEAD] (r : Nat) (e : EntryCopy) (s : State) :
    (addEntry r e s).out F = s.out F := by
  simp [addEntry]

@[simp] theorem fetchEntry_out [F.AccParts] [F.Rings] [F.AccRegs] [F.Reg R.PW_RING_SQ_HEAD] (r : Nat)
    (host : List Byte) (s : State) : (fetchEntry r host s).out F = s.out F := by
  simp [fetchEntry]

@[simp] theorem copyProgram_out [F.AccParts] [F.AccRegs] (r : Nat) (e : EntryCopy) (s : State) :
    (copyProgram r e s).2.out F = s.out F := by
  unfold copyProgram
  grind [ringRead_out]

@[simp] theorem takeCore_out [F.Rings] (c r : Nat) (s : State) : (takeCore c r s).out F = s.out F := by
  simp [takeCore]

@[simp] theorem startEntry_out [F.AccParts] [F.Rings] [F.PevRegs] [F.Reg R.PW_RING_CQ_TAIL]
    [F.Reg R.PW_RING_STATUS] (r : Nat) (e : EntryCopy) (s : State) : (startEntry r e s).out F = s.out F := by
  unfold startEntry
  grind [completeUnstarted_out, takeCore_out, State.setRing_out, copyProgram_out]

@[simp] theorem startSm_out [F.Rings] (r : Nat) (ws : List W64) (s : State) : (startSm r ws s).out F = s.out F := by
  simp [startSm]

@[simp] theorem closeJobs_out [F.Hatch] (r : Nat) (s : State) : (closeJobs r s).out F = s.out F := by
  simp [closeJobs]

@[simp] theorem endProgram_out [F.AccParts] [F.Rings] [F.PevRegs] [F.Reg R.PW_RING_CQ_TAIL]
    [F.Reg R.PW_RING_STATUS] (r : Nat) (p : Prog) (dmaFail : Bool) (s : State) : (endProgram r p dmaFail s).out F =
    s.out F := by
  simp [endProgram]

@[simp] theorem retryHeld_out [F.AccParts] [F.Rings] [F.PevRegs] [F.Reg R.PW_RING_CQ_TAIL] [F.Reg R.PW_RING_STATUS]
    (r : Nat) (dmaFail : Bool) (s : State) : (retryHeld r dmaFail s).out F = s.out F := by
  unfold retryHeld
  split <;> simp

@[simp] theorem ringCfgWrite_out [F.AccParts] [F.Rings] [F.PevRegs] [F.Reg R.PW_RING_CFG] [F.Reg R.PW_RING_CQ_HEAD]
    [F.Reg R.PW_RING_CQ_TAIL] [F.Reg R.PW_RING_SQ_HEAD] [F.Reg R.PW_RING_SQ_TAIL] [F.Reg R.PW_RING_STATUS] (r : Nat)
    (en : Bool) (ctx size : Nat) (s : State) : (ringCfgWrite r en ctx size s).out F = s.out F := by
  simp [ringCfgWrite]

@[simp] theorem drainFlushed_out [F.AccParts] [F.Rings] [F.PevRegs] [F.Reg R.PW_RING_CQ_TAIL]
    [F.Reg R.PW_RING_STATUS] (r fuel : Nat) (s : State) : (drainFlushed r fuel s).out F = s.out F := by
  induction fuel generalizing s with
  | zero => rfl
  | succ fuel ih =>
    unfold drainFlushed
    dsimp only
    split
    · split_ifs <;> simp [ih]
    · rfl

end Sys2Proof.Machine
end

section
/-! SUPPORT. What lies outside the footprint is left. Links: going down and resetting, training, credit, windows,
sequencing and replay, encryption. -/

namespace Sys2Proof.Machine

variable {F : Foot}

@[simp] theorem linkEvent_out [F.EvParts] [F.EvRegs] (src k : Nat) (s : State) :
    (linkEvent src k s).out F = s.out F := by
  simp [linkEvent]

@[simp] theorem setLinkState_out [F.Reg (many R.FP_STATUS)] (k st : Nat) (s : State) : (setLinkState k st s).out F =
    s.out F := by
  simp [setLinkState]

@[simp] theorem setSecure_out [F.Reg (many R.FP_STATUS)] (k : Nat) (v : Bool) (s : State) : (setSecure k v s).out F =
    s.out F := by
  simp [setSecure]

@[simp] theorem reroute_out [F.Sent] [F.Reg (many R.FP_UNROUTABLE)] (k : Nat) (ps : List Packet) (s : State) :
    (reroute k ps s).out F = s.out F := by
  simp [reroute]

@[simp] theorem campionIdle_out [F.Fabric] [F.Reg (one R.TOPO_SRL_STATUS)] [F.Reg (one R.TOPO_STATUS)] (s : State)
    : (campionIdle s).out F = s.out F := by
  unfold campionIdle
  dsimp only
  split_ifs <;> simp

@[simp] theorem endSessions_out [F.Trust] (f : Session → Bool) (s : State) : (endSessions f s).out F = s.out F := by
  simp [endSessions]

@[simp] theorem endLinkSessions_out [F.Trust] (k : Nat) (s : State) : (endLinkSessions k s).out F = s.out F := by
  simp [endLinkSessions]

@[simp] theorem linkDown_out [F.EvParts] [F.Fabric] [F.Trust] [F.EvRegs] [F.Reg (many R.FP_DOWNS)]
    [F.Reg (many R.FP_DOWN_CAUSE)] [F.Reg (many R.FP_STATUS)] [F.Reg (many R.FP_UNROUTABLE)]
    [F.Reg (one R.TOPO_SRL_STATUS)] [F.Reg (one R.TOPO_STATUS)] (k : Nat) (causes : List Cause) (s : State) :
    (linkDown k causes s).out F = s.out F := by
  simp [linkDown]

@[simp] theorem fullReset_out [F.EvParts] [F.HeldLow] [F.Fabric] [F.Test] [F.PevRegs] [∀ g, F.Reg g]
    (k : Nat) (s : State) : (fullReset k s).out F = s.out F := by
  simp [fullReset]

@[simp] theorem resetLink_out [F.EvParts] [F.HeldLow] [F.Fabric] [F.Trust] [F.Test] [F.PevRegs]
    [∀ g, F.Reg g] (k : Nat) (c : Cause) (s : State) : (resetLink k c s).out F = s.out F := by
  simp [resetLink]

@[simp] theorem endLinkSession_out [F.EvParts] [F.HeldLow] [F.Fabric] [F.Trust] [F.Test] [F.PevRegs]
    [∀ g, F.Reg g] (k : Nat) (s : State) : (endLinkSession k s).out F = s.out F := by
  simp [endLinkSession]

@[simp] theorem givePools_out [F.Fabric] (k : Nat) (vs : List Nat) (s : State) : (givePools k vs s).out F =
    s.out F := by
  simp [givePools]

@[simp] theorem takeCredit_out [F.Fabric] (k : Nat) (p : Packet) (s : State) : (takeCredit k p s).out F =
    s.out F := by
  simp [takeCredit]

@[simp] theorem giveCredit_out [F.Fabric] (k : Nat) (p : Packet) (s : State) : (giveCredit k p s).out F =
    s.out F := by
  simp [giveCredit]

@[simp] theorem useGroup_out [F.Reg (many R.FP_LANEMAP)] [F.Reg (many R.FP_STATUS)] (e : Nat × List Nat) (s : State) :
    (useGroup e s).out F = s.out F := by
  simp [useGroup]

@[simp] theorem linkActive_out [F.EvParts] [F.Fabric] [F.EvRegs] [F.Reg (many R.FP_LANEMAP)]
    [F.Reg (many R.FP_STATUS)] (k : Nat) (m : TrainMsg) (use : List (Nat × List Nat)) (s : State) :
    (linkActive k m use s).out F = s.out F := by
  simp [linkActive]

@[simp] theorem startRetrain_out [F.EvParts] [F.Fabric] [F.Trust] [F.EvRegs] [F.Reg (many R.FP_DOWNS)]
    [F.Reg (many R.FP_DOWN_CAUSE)] [F.Reg (many R.FP_RETRAINS)] [F.Reg (many R.FP_STATUS)]
    [F.Reg (many R.FP_UNROUTABLE)] [F.Reg (one R.TOPO_SRL_STATUS)] [F.Reg (one R.TOPO_STATUS)] (k : Nat) (s : State) :
    (startRetrain k s).out F = s.out F := by
  simp [startRetrain]

@[simp] theorem replayLimit_out [F.EvParts] [F.Fabric] [F.Trust] [F.EvRegs] [F.Reg (many R.FP_DOWNS)]
    [F.Reg (many R.FP_DOWN_CAUSE)] [F.Reg (many R.FP_RETRAINS)] [F.Reg (many R.FP_STATUS)]
    [F.Reg (many R.FP_UNROUTABLE)] [F.Reg (one R.TOPO_SRL_STATUS)] [F.Reg (one R.TOPO_STATUS)] (k : Nat) (s : State) :
    (replayLimit k s).out F = s.out F := by
  unfold replayLimit
  split <;> simp

@[simp] theorem nakReceived_out [F.EvParts] [F.Fabric] [F.Trust] [F.EvRegs] [F.Reg (many R.FP_DOWNS)]
    [F.Reg (many R.FP_DOWN_CAUSE)] [F.Reg (many R.FP_REPLAYS)] [F.Reg (many R.FP_RETRAINS)] [F.Reg (many R.FP_STATUS)]
    [F.Reg (many R.FP_UNROUTABLE)] [F.Reg (one R.TOPO_SRL_STATUS)] [F.Reg (one R.TOPO_STATUS)] (k : Nat)
    (ack : Option Nat) (s : State) : (nakReceived k ack s).out F = s.out F := by
  simp [nakReceived]

@[simp] theorem takeLcf_out [F.Fabric] (k : Nat) (slots : List Byte) (s : State) : (takeLcf k slots s).out F =
    s.out F := by
  simp [takeLcf]

@[simp] theorem secureNow_out [F.Fabric] [F.Reg (many R.FP_STATUS)] (k : Nat) (s : State) : (secureNow k s).out F =
    s.out F := by
  simp [secureNow]

@[simp] theorem closeWindow_out [F.EvParts] [F.Fabric] [F.Trust] [F.EvRegs] [F.Reg (many R.FP_DOWNS)]
    [F.Reg (many R.FP_DOWN_CAUSE)] [F.Reg (many R.FP_STATUS)] [F.Reg (many R.FP_UNROUTABLE)]
    [F.Reg (one R.TOPO_SRL_STATUS)] [F.Reg (one R.TOPO_STATUS)] (k : Nat) (s : State) : (closeWindow k s).2.out F =
    s.out F := by
  unfold closeWindow
  dsimp only
  split <;> simp

@[simp] theorem receiveFlit_out [F.EvParts] [F.Fabric] [F.Trust] [F.EvRegs] [F.Reg (many R.FP_CRC_FAIL)]
    [F.Reg (many R.FP_DOWNS)] [F.Reg (many R.FP_DOWN_CAUSE)] [F.Reg (many R.FP_FLITS_RX)] [F.Reg (many R.FP_REPLAYS)]
    [F.Reg (many R.FP_RETRAINS)] [F.Reg (many R.FP_STATUS)] [F.Reg (many R.FP_UNROUTABLE)]
    [F.Reg (one R.TOPO_SRL_STATUS)] [F.Reg (one R.TOPO_STATUS)] (k : Nat) (b : List Byte) (fecOk : Bool) (s : State) :
    (receiveFlit k b fecOk s).2.out F = s.out F := by
  simp [receiveFlit]

@[simp] theorem sendWindow_out [F.Fabric] [F.Sent] [F.Reg (many R.FP_STATUS)] (k : Nat) (s : State) :
    (sendWindow k s).out F = s.out F := by
  simp [sendWindow]

end Sys2Proof.Machine
end

section
/-! SUPPORT. What lies outside the footprint is left. Campion: messages, the claim tree, reports, the walk and
assignment; and Sorrel: the counter, exchanges and the servo. -/

namespace Sys2Proof.Machine

variable {F : Foot}

@[simp] theorem State.setNbr_out [F.Fabric] (s : State) (k : Nat) (x : Nbr) : (s.setNbr k x).out F = s.out F := by
  simp [State.setNbr]

@[simp] theorem onCampion_out [F.Fabric] (f : Campion → Campion) (s : State) : (onCampion f s).out F = s.out F := by
  simp [onCampion]

@[simp] theorem campEvent_out [F.EvParts] [F.EvRegs] (src link uid : Nat) (s : State) : (campEvent src link uid s).out F
    = s.out F := by
  simp [campEvent]

@[simp] theorem sendMgmt_out [F.Sent] (k subtype : Nat) (data : List Byte) (s : State) :
    (sendMgmt k subtype data s).out F = s.out F := by
  simp [sendMgmt]

@[simp] theorem sendHello_out [F.Sent] (k : Nat) (s : State) : (sendHello k s).out F = s.out F := by
  simp [sendHello]

@[simp] theorem sendClaim_out [F.Sent] (k : Nat) (s : State) : (sendClaim k s).out F = s.out F := by
  unfold sendClaim
  split <;> simp

@[simp] theorem floodClaim_out [F.Sent] (s : State) : (floodClaim s).out F = s.out F := by
  simp [floodClaim]

@[simp] theorem syncTree_out [F.Reg (many R.TOPO_NBR_INFO)] [F.Reg (one R.TOPO_PARENT)] (s : State) : (syncTree s).out F
    = s.out F := by
  unfold syncTree
  split <;> simp

@[simp] theorem srlEvent_out [F.EvParts] [F.EvRegs] (src : Nat) (s : State) : (srlEvent src s).out F = s.out F := by
  simp [srlEvent]

@[simp] theorem onSorrel_out [F.Fabric] (f : Sorrel → Sorrel) (s : State) : (onSorrel f s).out F = s.out F := by
  simp [onSorrel]

@[simp] theorem sorrelHoldover_out [F.EvParts] [F.EvRegs] [F.Reg (one R.TOPO_SRL_RATE)] [F.Reg (one R.TOPO_SRL_STATUS)]
    (s : State) : (sorrelHoldover s).out F = s.out F := by
  simp [sorrelHoldover]

@[simp] theorem sorrelUnassigned_out [F.EvParts] [F.EvRegs] [F.Reg (one R.TOPO_SRL_RATE)]
    [F.Reg (one R.TOPO_SRL_STATUS)] (s : State) : (sorrelUnassigned s).out F = s.out F := by
  simp [sorrelUnassigned]

@[simp] theorem sorrelAssigned_out [F.EvParts] [F.Fabric] [F.EvRegs] [F.Reg (one R.TOPO_SRL_STATUS)]
    (old master : Nat) (s : State) : (sorrelAssigned old master s).out F = s.out F := by
  simp [sorrelAssigned]

@[simp] theorem enterElecting_out [F.EvParts] [F.Fabric] [F.EvRegs] [F.Reg (one R.TOPO_SRL_RATE)]
    [F.Reg (one R.TOPO_SRL_STATUS)] [F.Reg (one R.TOPO_STATUS)] (s : State) : (enterElecting s).out F = s.out F := by
  simp [enterElecting]

@[simp] theorem bestChanged_out [F.EvParts] [F.Fabric] [F.EvRegs] [F.Reg (many R.TOPO_NBR_INFO)]
    [F.Reg (one R.TOPO_PARENT)] [F.Reg (one R.TOPO_SRL_RATE)] [F.Reg (one R.TOPO_SRL_STATUS)]
    [F.Reg (one R.TOPO_STATUS)] (s : State) : (bestChanged s).out F = s.out F := by
  simp [bestChanged]

@[simp] theorem campLinkUp_out [F.EvParts] [F.Fabric] [F.EvRegs] [F.Reg (many R.TOPO_NBR_INFO)]
    [F.Reg (one R.TOPO_PARENT)] [F.Reg (one R.TOPO_SRL_RATE)] [F.Reg (one R.TOPO_SRL_STATUS)]
    [F.Reg (one R.TOPO_STATUS)] (k : Nat) (s : State) : (campLinkUp k s).out F = s.out F := by
  simp [campLinkUp]

@[simp] theorem campActive_out [F.EvParts] [F.Fabric] [F.EvRegs] [F.Reg (many R.TOPO_NBR_INFO)]
    [F.Reg (one R.TOPO_PARENT)] [F.Reg (one R.TOPO_SRL_RATE)] [F.Reg (one R.TOPO_SRL_STATUS)]
    [F.Reg (one R.TOPO_STATUS)] (k : Nat) (s : State) : (campActive k s).out F = s.out F := by
  simp [campActive]

@[simp] theorem campSecure_out [F.EvParts] [F.Fabric] [F.EvRegs] [F.Reg (many R.TOPO_NBR_INFO)]
    [F.Reg (one R.TOPO_PARENT)] [F.Reg (one R.TOPO_SRL_RATE)] [F.Reg (one R.TOPO_SRL_STATUS)]
    [F.Reg (one R.TOPO_STATUS)] (k : Nat) (s : State) : (campSecure k s).out F = s.out F := by
  simp [campSecure]

@[simp] theorem setExcluded_out [F.EvParts] [F.EvRegs] [F.Reg (many R.TOPO_NBR_INFO)] (k : Nat) (s : State) :
    (setExcluded k s).out F = s.out F := by
  simp [setExcluded]

@[simp] theorem noteGen_out [F.Fabric] (g : Nat) (s : State) : (noteGen g s).out F = s.out F := by
  simp [noteGen]

@[simp] theorem sendDup_out [F.Fabric] [F.Sent] (u : Nat) (s : State) : (sendDup u s).out F = s.out F := by
  simp [sendDup]

@[simp] theorem takeClaim_out [F.EvParts] [F.Fabric] [F.EvRegs] [F.Reg (many R.TOPO_NBR_INFO)]
    [F.Reg (one R.TOPO_PARENT)] [F.Reg (one R.TOPO_SRL_RATE)] [F.Reg (one R.TOPO_SRL_STATUS)]
    [F.Reg (one R.TOPO_STATUS)] (k : Nat) (c : Claim) (s : State) : (takeClaim k c s).out F = s.out F := by
  simp [takeClaim]

@[simp] theorem fallBack_out [F.EvParts] [F.Fabric] [F.EvRegs] [F.Reg (many R.TOPO_NBR_INFO)]
    [F.Reg (one R.TOPO_PARENT)] [F.Reg (one R.TOPO_SRL_RATE)] [F.Reg (one R.TOPO_SRL_STATUS)]
    [F.Reg (one R.TOPO_STATUS)] (s : State) : (fallBack s).out F = s.out F := by
  simp [fallBack]

@[simp] theorem takeDup_out [F.EvParts] [F.HeldLow] [F.Fabric] [F.Trust] [F.Test] [F.PevRegs]
    [∀ g, F.Reg g] (u : Nat) (s : State) : (takeDup u s).out F = s.out F := by
  simp [takeDup]

@[simp] theorem applyAssign_out [F.EvParts] [F.HeldLow] [F.Fabric] [F.Trust] [F.Test] [F.PevRegs]
    [∀ g, F.Reg g] (d : List Byte) (s : State) : (applyAssign d s).out F = s.out F := by
  simp [applyAssign]

@[simp] theorem giveAssign_out [F.EvParts] [F.HeldLow] [F.Fabric] [F.Trust] [F.Test] [F.PevRegs]
    [∀ g, F.Reg g] (uid : Nat) (d : List Byte) (s : State) : (giveAssign uid d s).out F = s.out F := by
  unfold giveAssign
  grind [applyAssign_out, sendMgmt_out]

@[simp] theorem coordinate_out [F.EvParts] [F.HeldLow] [F.Fabric] [F.Trust] [F.Test] [F.PevRegs]
    [∀ g, F.Reg g] (s : State) : (coordinate s).out F = s.out F := by
  simp [coordinate]

@[simp] theorem toParent_out [F.Sent] (d : List Byte) (s : State) : (toParent d s).out F = s.out F := by
  unfold toParent
  split <;> simp

@[simp] theorem tryReport_out [F.EvParts] [F.HeldLow] [F.Fabric] [F.Trust] [F.Test] [F.PevRegs]
    [∀ g, F.Reg g] (s : State) : (tryReport s).out F = s.out F := by
  simp [tryReport]

@[simp] theorem joinReports_out [F.EvParts] [F.HeldLow] [F.Fabric] [F.Trust] [F.Test] [F.PevRegs]
    [∀ g, F.Reg g] (s : State) : (joinReports s).out F = s.out F := by
  simp [joinReports]

@[simp] theorem quietExpires_out [F.EvParts] [F.HeldLow] [F.Fabric] [F.Trust] [F.Test] [F.PevRegs]
    [∀ g, F.Reg g] (s : State) : (quietExpires s).out F = s.out F := by
  simp [quietExpires]

@[simp] theorem stray_out [F.Reg (one R.TOPO_STATUS)] (s : State) : (stray s).out F = s.out F := by
  simp [stray]

@[simp] theorem takeReport_out [F.Fabric] [F.Sent] [F.Reg (one R.TOPO_STATUS)] (k : Nat) (d : List Byte)
    (s : State) : (takeReport k d s).out F = s.out F := by
  simp [takeReport]

@[simp] theorem takeReportDone_out [F.EvParts] [F.HeldLow] [F.Fabric] [F.Trust] [F.Test] [F.PevRegs]
    [∀ g, F.Reg g] (k count : Nat) (d : List Byte) (s : State) : (takeReportDone k count d s).out F = s.out F := by
  simp [takeReportDone]

@[simp] theorem takeAssign_out [F.EvParts] [F.HeldLow] [F.Fabric] [F.Trust] [F.Test] [F.PevRegs]
    [∀ g, F.Reg g] (k : Nat) (d : List Byte) (s : State) : (takeAssign k d s).out F = s.out F := by
  simp [takeAssign]

@[simp] theorem takeBeacon_out [F.Fabric] [F.Sent] (d : List Byte) (s : State) : (takeBeacon d s).out F =
    s.out F := by
  simp [takeBeacon]

@[simp] theorem beaconTick_out [F.Fabric] [F.Sent] (s : State) : (beaconTick s).out F = s.out F := by
  simp [beaconTick]

@[simp] theorem beaconLost_out [F.EvParts] [F.Fabric] [F.EvRegs] [F.Reg (many R.TOPO_NBR_INFO)]
    [F.Reg (one R.TOPO_PARENT)] [F.Reg (one R.TOPO_SRL_RATE)] [F.Reg (one R.TOPO_SRL_STATUS)]
    [F.Reg (one R.TOPO_STATUS)] (s : State) : (beaconLost s).out F = s.out F := by
  unfold beaconLost
  grind [fallBack_out, onCampion_out]

@[simp] theorem reparent_out [F.EvParts] [F.Fabric] [F.EvRegs] [F.Reg (many R.TOPO_NBR_INFO)]
    [F.Reg (one R.TOPO_PARENT)] [F.Reg (one R.TOPO_SRL_RATE)] [F.Reg (one R.TOPO_SRL_STATUS)]
    [F.Reg (one R.TOPO_STATUS)] (s : State) : (reparent s).out F = s.out F := by
  unfold reparent
  dsimp only
  (repeat' split) <;> simp

@[simp] theorem priorityWrite_out [F.EvParts] [F.Fabric] [F.EvRegs] [F.Reg (one R.TOPO_CFG)]
    [F.Reg (many R.TOPO_NBR_INFO)] [F.Reg (one R.TOPO_PARENT)] [F.Reg (one R.TOPO_SRL_RATE)]
    [F.Reg (one R.TOPO_SRL_STATUS)] [F.Reg (one R.TOPO_STATUS)] (v : Nat) (s : State) : (priorityWrite v s).out F =
    s.out F := by
  simp [priorityWrite]

@[simp] theorem setSorrelTime_out [F.Reg (one R.TOPO_SRL_FRAC)] [F.Reg (one R.TOPO_SRL_TIME)] (t : Nat) (s : State) :
    (setSorrelTime t s).out F = s.out F := by
  simp [setSorrelTime]

@[simp] theorem sorrelTick_out [F.Fabric] [F.Reg (one R.TOPO_SRL_FRAC)] [F.Reg (one R.TOPO_SRL_TIME)] (s : State) :
    (sorrelTick s).out F = s.out F := by
  simp [sorrelTick]

@[simp] theorem sorrelStep_out [F.EvParts] [F.Log] [F.Tansy] [F.EvRegs] [F.Reg (many R.TNS_SLOT_COUNTS)]
    [F.Reg (one R.TOPO_SRL_FRAC)] [F.Reg (one R.TOPO_SRL_STATUS)] [F.Reg (one R.TOPO_SRL_TIME)] (d : Int) (s : State) :
    (sorrelStep d s).out F = s.out F := by
  simp only [sorrelStep, raiseNode_out, stepSlots_out, State.out_log]
  simp

@[simp] theorem syncTick_out [F.Fabric] [F.Sent] (d : Nat) (s : State) : (syncTick d s).out F = s.out F := by
  simp [syncTick]

@[simp] theorem takeSyncReq_out [F.Sent] (k : Nat) (b : List Byte) (d2 turn : Nat) (s : State) :
    (takeSyncReq k b d2 turn s).out F = s.out F := by
  simp [takeSyncReq]

@[simp] theorem servo_out [F.EvParts] [F.Log] [F.Tansy] [F.Fabric] [F.EvRegs]
    [F.Reg (many R.TNS_SLOT_COUNTS)] [F.Reg (one R.TOPO_SRL_FRAC)] [F.Reg (one R.TOPO_SRL_RATE)]
    [F.Reg (one R.TOPO_SRL_STATUS)] [F.Reg (one R.TOPO_SRL_TIME)] (theta : Int) (s : State) : (servo theta s).out F =
    s.out F := by
  simp [servo]

@[simp] theorem takeSyncRsp_out [F.EvParts] [F.Log] [F.Tansy] [F.Fabric] [F.EvRegs]
    [F.Reg (many R.TNS_SLOT_COUNTS)] [F.Reg (many R.TOPO_SRL_DELAY)] [F.Reg (one R.TOPO_SRL_FRAC)]
    [F.Reg (one R.TOPO_SRL_OFFSET)] [F.Reg (one R.TOPO_SRL_RATE)] [F.Reg (one R.TOPO_SRL_STATUS)]
    [F.Reg (one R.TOPO_SRL_TIME)] (k : Nat) (b : List Byte) (d4 : Nat) (s : State) : (takeSyncRsp k b d4 s).out F =
    s.out F := by
  simp [takeSyncRsp]

@[simp] theorem sorrelSet_out [F.EvParts] [F.Log] [F.Tansy] [F.EvRegs] [F.Reg (many R.TNS_SLOT_COUNTS)]
    [F.Reg (one R.TOPO_SRL_FRAC)] [F.Reg (one R.TOPO_SRL_STATUS)] [F.Reg (one R.TOPO_SRL_TIME)] (v : Nat) (s : State) :
    (sorrelSet v s).out F = s.out F := by
  simp [sorrelSet]

end Sys2Proof.Machine
end

section
/-! SUPPORT. What lies outside the footprint is left. Commands on rings: configuration, doorbells, entries, programs,
completions, pauses, tallies and the attention invokes a ring runs. -/

namespace Sys2Proof.Machine

variable {F : Foot}

@[simp] theorem inWindow_leaves {r : Nat} {f : State → State} {s : State} (h : (f s).out F = s.out F) : Leaves F s
    (inWindow r f s) := by
  simp [inWindow, h]

@[simp] theorem execRingEnable_leaves [F.AccParts] [F.Rings] [F.PevRegs] [F.Reg R.PW_RING_CFG]
    [F.Reg R.PW_RING_CQ_HEAD] [F.Reg R.PW_RING_CQ_TAIL] [F.Reg R.PW_RING_SQ_HEAD] [F.Reg R.PW_RING_SQ_TAIL]
    [F.Reg R.PW_RING_STATUS] (r : Fin 128) (ctx : BitVec 12) (size : BitVec 5) (s : State) : Leaves F s
    (execRingEnable r ctx size s) := by
  simp [execRingEnable]

@[simp] theorem execRingDisable_leaves [F.AccParts] [F.Rings] [F.PevRegs] [F.Reg R.PW_RING_CFG]
    [F.Reg R.PW_RING_CQ_HEAD] [F.Reg R.PW_RING_CQ_TAIL] [F.Reg R.PW_RING_SQ_HEAD] [F.Reg R.PW_RING_SQ_TAIL]
    [F.Reg R.PW_RING_STATUS] (r : Fin 128) (s : State) : Leaves F s (execRingDisable r s) := by
  simp [execRingDisable]

@[simp] theorem execRingConfigWrite_leaves [F.AccParts] [F.Rings] [F.PevRegs] [F.Reg R.PW_RING_CFG]
    [F.Reg R.PW_RING_CQ_BASE] [F.Reg R.PW_RING_CQ_HEAD] [F.Reg R.PW_RING_CQ_TAIL] [F.Reg R.PW_RING_SQ_BASE]
    [F.Reg R.PW_RING_SQ_HEAD] [F.Reg R.PW_RING_SQ_TAIL] [F.Reg R.PW_RING_STATUS] (r : Fin 128) (reg : Fin 3) (v : W64)
    (s : State) : Leaves F s (execRingConfigWrite r reg v s) := by
  simp [execRingConfigWrite]

@[simp] theorem bindRing_out [F.Reg (many R.RING_BIND)] (n v : Nat) (s : State) : (bindRing n v s).out F = s.out F := by
  simp [bindRing]

@[simp] theorem execRingBindWrite_leaves [F.Reg (many R.RING_BIND)] (n : Fin 128) (v : W32) (s : State) : Leaves F s
    (execRingBindWrite n v s) := by
  simp [execRingBindWrite]

@[simp] theorem execDoorbell_leaves [F.AccParts] [F.PevRegs] [F.Reg R.PW_RING_SQ_TAIL] [F.Reg R.PW_RING_STATUS]
    (r : Fin 128) (t : W32) (s : State) : Leaves F s (execDoorbell r t s) := by
  simp [execDoorbell]

@[simp] theorem execEntryFetch_leaves [F.AccParts] [F.Rings] [F.AccRegs] [F.Reg R.PW_RING_SQ_HEAD] (r : Fin 128)
    (host : List Byte) (s : State) : Leaves F s (execEntryFetch r host s) := by
  simp [execEntryFetch]

@[simp] theorem execProgramStart_leaves [F.AccParts] [F.Rings] [F.PevRegs] [F.Reg R.PW_RING_CQ_TAIL]
    [F.Reg R.PW_RING_STATUS] (r : Fin 132) (sm : List W64) (s : State) : Leaves F s (execProgramStart r sm s) := by
  unfold execProgramStart
  dsimp only
  split
  · simp
  · split <;> simp

@[simp] theorem execProgramEnd_leaves [F.AccParts] [F.Rings] [F.Hatch] [F.PevRegs] [F.Reg R.PW_RING_CQ_TAIL]
    [F.Reg R.PW_RING_STATUS] (r : Fin 132) (dmaFail : Bool) (s : State) : Leaves F s (execProgramEnd r dmaFail s) := by
  unfold execProgramEnd
  split <;> simp

@[simp] theorem execCompletionInterrupt_leaves [F.Rings] [F.ToHost] [F.PbaRegs] (r : Fin 128) (s : State) : Leaves
    F s (execCompletionInterrupt r s) := by
  simp [execCompletionInterrupt]

@[simp] theorem cqHeadWrite_out [F.AccParts] [F.Rings] [F.PevRegs] [F.Reg R.PW_RING_CQ_HEAD]
    [F.Reg R.PW_RING_CQ_TAIL] [F.Reg R.PW_RING_STATUS] (r v : Nat) (s : State) :
    (cqHeadWrite r v s).out F = s.out F := by
  simp [cqHeadWrite]

@[simp] theorem execCqHeadWrite_leaves [F.AccParts] [F.Rings] [F.PevRegs] [F.Reg R.PW_RING_CQ_HEAD]
    [F.Reg R.PW_RING_CQ_TAIL] [F.Reg R.PW_RING_STATUS] (r : Fin 128) (v : W32) (s : State) : Leaves F s
    (execCqHeadWrite r v s) := by
  simp [execCqHeadWrite]

@[simp] theorem resumeRing_out [F.AccParts] [F.Rings] [F.PevRegs] [F.Reg R.PW_RING_CQ_TAIL]
    [F.Reg R.PW_RING_STATUS] (r : Nat) (s : State) : (resumeRing r s).out F = s.out F := by
  simp [resumeRing]

@[simp] theorem execRingResume_leaves [F.AccParts] [F.Rings] [F.PevRegs] [F.Reg R.PW_RING_CQ_TAIL]
    [F.Reg R.PW_RING_STATUS] (r : Fin 128) (s : State) : Leaves F s (execRingResume r s) := by
  simp [execRingResume]

@[simp] theorem fetchAll_leaves [F.AccParts] [F.Rings] [F.AccRegs] [F.Reg R.PW_RING_SQ_HEAD] (r n : Nat)
    (host : List (List Byte)) (s : State) : LeavesSome F s (fetchAll r n host s) := by
  induction n generalizing host s with
  | zero => simp [fetchAll]
  | succ n ih =>
    have h := ih (host.drop 1) (fetchEntry r (host.headD []) s)
    unfold fetchAll
    dsimp only
    split_ifs
    · simp
    · simp
    · simpa [LeavesSome] using h

@[simp] theorem flushRing_out [F.AccParts] [F.Rings] [F.PevRegs] [F.Reg R.PW_RING_CQ_TAIL]
    [F.Reg R.PW_RING_SQ_HEAD] [F.Reg R.PW_RING_STATUS] (r : Nat) (host : List (List Byte)) (s : State) :
    (flushRing r host s).out F = s.out F := by
  unfold flushRing
  split
  · rfl
  · split
    · rfl
    · rename_i t h
      simp [fetchAll_leaves r _ _ _ t h]

@[simp] theorem execRingFlush_leaves [F.AccParts] [F.Rings] [F.PevRegs] [F.Reg R.PW_RING_CQ_TAIL]
    [F.Reg R.PW_RING_SQ_HEAD] [F.Reg R.PW_RING_STATUS] (r : Fin 128) (host : List (List Byte)) (s : State) : Leaves F s
    (execRingFlush r host s) := by
  simp [execRingFlush]

@[simp] theorem holdRing_out [F.AccParts] [F.Rings] [F.PevRegs] [F.Reg R.PW_RING_STATUS] (n : Nat) (s : State) :
    (holdRing n s).out F = s.out F := by
  simp [holdRing]

@[simp] theorem releaseRing_out [F.Rings] (n : Nat) (s : State) : (releaseRing n s).out F = s.out F := by
  simp [releaseRing]

@[simp] theorem execStewardHold_leaves [F.AccParts] [F.Rings] [F.PevRegs] [F.Reg R.PW_RING_STATUS] (n : Fin 128)
    (s : State) : Leaves F s (execStewardHold n s) := by
  simp [execStewardHold]

@[simp] theorem execStewardRelease_leaves [F.Rings] (n : Fin 128) (s : State) : Leaves F s (execStewardRelease n s)
    := by
  simp [execStewardRelease]

@[simp] theorem execKcsEnd_leaves [F.Rings] [F.Hatch] (r : Fin 132) (g : Guard) (s : State) : Leaves F s
    (execKcsEnd r g s) := by
  simp [execKcsEnd]

@[simp] theorem execProgramRestart_leaves [F.AccParts] [F.Rings] [F.PevRegs] [F.Reg R.PW_RING_CQ_TAIL]
    [F.Reg R.PW_RING_STATUS] (r : Fin 128) (s : State) : Leaves F s (execProgramRestart r s) := by
  unfold execProgramRestart
  dsimp only
  (repeat' split) <;> simp <;> grind [State.setCore_out, endProgram_out, State.setRing_out, copyProgram_out]

@[simp] theorem sendResult_out [F.Sent] [F.Reg (one R.ATT_INV_MALF)] [F.Reg (many R.FP_UNROUTABLE)] (i : Invoke)
    (status detail : Nat) (s : State) : (sendResult i status detail s).out F = s.out F := by
  simp [sendResult]

@[simp] theorem execInvokeTaken_leaves [F.AccParts] [F.Rings] [F.Hatch] [F.AccRegs] [F.Reg (one R.ATT_JOBS)]
    (r : Fin 128) (s : State) : Leaves F s (execInvokeTaken r s) := by
  unfold execInvokeTaken
  dsimp only
  split
  · simp
  · refine leaves_of_ite (by simp) ?_
    split
    · simp
    · refine leaves_of_ite (by simp) (leaves_of_ite (by simp) ?_)
      split
      · rename_i u h
        simp [attnStart_leaves _ _ _ _ _ _ u h]
      · simp

@[simp] theorem startReturn_out [F.AccParts] [F.Rings] [F.Fabric] [F.AccRegs] [F.Reg (many R.FP_UNROUTABLE)]
    (r : Nat) (j : Job) (s : State) : (startReturn r j s).out F = s.out F := by
  unfold startReturn
  grind [dmaStart_out, State.setProg_out]

@[simp] theorem execResultSend_leaves [F.Rings] [F.Sent] [F.Reg (one R.ATT_INV_MALF)]
    [F.Reg (many R.FP_UNROUTABLE)] [F.Reg R.PW_RING_STATUS] (r : Fin 128) (s : State) : Leaves F s (execResultSend r s)
    := by
  unfold execResultSend
  dsimp only
  (repeat' split) <;> simp

@[simp] theorem execTallyComplete_leaves [F.AccParts] [F.Rings] [F.Hatch] [F.Tansy] [F.Fabric]
    [F.AccRegs] [F.Reg (one R.ATT_JOBS)] [F.Reg (one R.ATT_POISONED)] [F.Reg (many R.FP_UNROUTABLE)] (r : Fin 132)
    (t : Fin 16) (s : State) : Leaves F s (execTallyComplete r t s) := by
  unfold execTallyComplete
  split
  · split
    · rename_i u h
      simp [finishJob_leaves _ _ u h]
    · simp
  · split
    · split
      · simp
      · simp [dmaLocal_out]
    · split
      · split <;> simp
      · simp

end Sys2Proof.Machine
end

section
/-! SUPPORT. What lies outside the footprint is left. Translation commands: granule table repair, window invalidations
and acknowledgements and the context base. -/

namespace Sys2Proof.Machine

variable {F : Foot}

@[simp] theorem execGtEntryRewrite_leaves [F.EvParts] [F.Translation] [F.EvRegs] [F.XltStatus] (g : Fin 16384)
    (bad : Bool) (s : State) : Leaves F s (execGtEntryRewrite g bad s) := by
  simp [execGtEntryRewrite]

@[simp] theorem execPwInvSubmit_leaves [F.Translation] [F.Reg (many R.PW_INV_STATUS)] [F.Reg (many R.XLT_EPOCH_CUR)]
    (p : Fin 16) (w3 : W64) (s : State) : Leaves F s (execPwInvSubmit p w3 s) := by
  simp [execPwInvSubmit]

@[simp] theorem giveInvAck_out [F.AccParts] [F.PevRegs] [F.Reg (many R.FP_UNROUTABLE)] [F.Reg (many R.PW_INV_ACK)]
    [F.Reg (many R.PW_INV_STATUS)] [F.Reg (many R.XLT_EPOCH_ACK)] (a : InvAck) (s : State) : (giveInvAck a s).out F =
    s.out F := by
  unfold giveInvAck
  dsimp only
  split <;> simp

@[simp] theorem execInvalidationAck_leaves [F.AccParts] [F.PevRegs] [F.Reg (many R.FP_UNROUTABLE)]
    [F.Reg (many R.PW_INV_ACK)] [F.Reg (many R.PW_INV_STATUS)] [F.Reg (many R.XLT_EPOCH_ACK)] (p : Fin 16) (s : State) :
    Leaves F s (execInvalidationAck p s) := by
  unfold execInvalidationAck
  split <;> simp

@[simp] theorem xltCtxWrite_out [F.Translation] [F.Reg (many R.PW_XLT_CTX)] (p v : Nat) (s : State) :
    (xltCtxWrite p v s).out F = s.out F := by
  simp [xltCtxWrite]

@[simp] theorem execPwXltCtxWrite_leaves [F.Translation] [F.Reg (many R.PW_XLT_CTX)] (p : Fin 16) (v : W64) (s : State)
    : Leaves F s (execPwXltCtxWrite p v s) := by
  simp [execPwXltCtxWrite]

end Sys2Proof.Machine
end

section
/-! SUPPORT. What lies outside the footprint is left. A received packet: credit, form, destination, and what requests,
responses, invokes, doorbells, atomics and management packets do. -/

namespace Sys2Proof.Machine

variable {F : Foot}

@[simp] theorem reply_out [F.Sent] [F.Reg (many R.FP_UNROUTABLE)] (k : Nat) (p : Packet) (status : Nat) (s : State) :
    (reply k p status s).out F = s.out F := by
  simp [reply]

@[simp] theorem replyData_out [F.Sent] [F.Reg (many R.FP_UNROUTABLE)] (k : Nat) (p : Packet) (data : List Byte)
    (s : State) : (replyData k p data s).out F = s.out F := by
  simp [replyData]

@[simp] theorem writeMasked_out [F.AccParts] [F.AccRegs] (src : Src) (cid va mask : Nat) (data : List Byte) (s : State)
    : (writeMasked src cid va mask data s).2.out F = s.out F := by
  unfold writeMasked
  grind [translate_out, lineOp_out, countAccess_out]

@[simp] theorem sourceSteps_out [F.AccParts] [F.AccRegs] (src : Src) (cid : Nat) (s : State) :
    (sourceSteps src cid s).2.out F = s.out F := by
  unfold sourceSteps
  grind [contextEntry_out]

@[simp] theorem fabricDoorbell_leaves [F.AccParts] [F.PevRegs] [F.Reg (many R.FP_UNROUTABLE)] [F.Reg R.PW_RING_SQ_TAIL]
    [F.Reg R.PW_RING_STATUS] (k : Nat) (p : Packet) (s : State) : LeavesSome F s (fabricDoorbell k p s) := by
  have h := sourceSteps_out (F := F) (fabSrc k p .request s) p.cid s
  unfold fabricDoorbell
  dsimp only
  split
  · simp_all
  · simp_all
  · simp_all
  · simp
  · split <;> simp_all

@[simp] theorem memoRoom_leaves [F.Fabric] (s : State) : LeavesSome F s (memoRoom s) := by
  unfold memoRoom
  dsimp only
  split
  · simp
  · split <;> simp

@[simp] theorem memoFullEvent_out [F.EvParts] [F.Fabric] [F.EvRegs] [F.Reg (one R.FP_MEMO_STAT)] (k : Nat)
    (s : State) : (memoFullEvent k s).out F = s.out F := by
  unfold memoFullEvent
  dsimp only
  split <;> simp

@[simp] theorem atomReply_out [F.Sent] [F.Reg (many R.FP_UNROUTABLE)] (k : Nat) (p : Packet) (status : Nat)
    (old : List Byte) (s : State) : (atomReply k p status old s).out F = s.out F := by
  simp [atomReply]

@[simp] theorem serveAtom_leaves [F.AccParts] [F.Fabric] [F.AccRegs] [F.Reg (one R.FP_MEMO_STAT)]
    [F.Reg (many R.FP_UNROUTABLE)] (k : Nat) (p : Packet) (s : State) : LeavesSome F s (serveAtom k p s) := by
  unfold serveAtom
  dsimp only
  generalize (if p.byte 1 = 0 then 4 else 8) = m
  split
  · simp
  · split
    · simp
    · split
      · simp
      · split
        · simp
        · rename_i t h
          have ht := memoRoom_leaves (F := F) s t h
          split <;> simp [ht]

@[simp] theorem serveInvoke_leaves [F.AccParts] [F.Rings] [F.AccRegs] [F.Reg (one R.ATT_INVOKES)]
    [F.Reg (one R.ATT_INV_MALF)] [F.Reg (many R.FP_UNROUTABLE)] (k : Nat) (p : Packet) (s : State) : LeavesSome F s
    (serveInvoke k p s) := by
  unfold serveInvoke
  dsimp only
  (repeat' split) <;> simp <;> grind [recordViolation_out, State.setRing_out, sendResult_out, sourceSteps_out]

@[simp] theorem serve_leaves [F.AccParts] [F.Rings] [F.Fabric] [F.PevRegs] [F.Reg (one R.ATT_INVOKES)]
    [F.Reg (one R.ATT_INV_MALF)] [F.Reg (one R.FP_MEMO_STAT)] [F.Reg (many R.FP_UNROUTABLE)] [F.Reg R.PW_RING_SQ_TAIL]
    [F.Reg R.PW_RING_STATUS] [F.Reg (many R.XLT_EPOCH_CUR)] (k : Nat) (p : Packet) (s : State) : LeavesSome F s
    (serve k p s) := by
  unfold serve
  refine leavesSome_of_ite leavesSome_none (leavesSome_of_ite (by simp)
    (leavesSome_of_ite (fabricDoorbell_leaves k p s) ?_))
  refine leavesSome_of_ite (by dsimp only; split_ifs <;> simp) (leavesSome_of_ite (by simp) (leavesSome_of_ite (by simp)
    ?_))
  refine leavesSome_of_ite (serveAtom_leaves k p s) (leavesSome_of_ite ?_ ?_)
  · split
    · simp
    · split
      split
      · intro u hu
        rw [dmaResponse_leaves _ _ _ _ u hu, dropReq_out]
      · simp
  · exact leavesSome_of_ite (serveInvoke_leaves k p s) (leavesSome_of_ite (by simp) (by simp))

@[simp] theorem takeHello_out [F.EvParts] [F.Fabric] [F.EvRegs] [F.Reg (many R.TOPO_NBR_INC)]
    [F.Reg (many R.TOPO_NBR_INFO)] [F.Reg (many R.TOPO_NBR_UID)] [F.Reg (one R.TOPO_PARENT)] (k : Nat) (p : Packet)
    (s : State) : (takeHello k p s).out F = s.out F := by
  simp [takeHello]

@[simp] theorem takeCampion_out [F.EvParts] [F.HeldLow] [F.Fabric] [F.Trust] [F.Test] [F.PevRegs]
    [∀ g, F.Reg g] (k : Nat) (p : Packet) (s : State) : (takeCampion k p s).out F = s.out F := by
  simp [takeCampion]

@[simp] theorem takeFragment_out [F.Trust] (k : Nat) (p : Packet) (s : State) : (takeFragment k p s).out F =
    s.out F := by
  unfold takeFragment
  dsimp only
  split <;> simp

@[simp] theorem takeMgmt_out [F.EvParts] [F.HeldLow] [F.Log] [F.Tansy] [F.Fabric] [F.Trust]
    [F.Test] [F.PevRegs] [∀ g, F.Reg g] (k : Nat) (p : Packet) (stamp turn : Nat) (s : State) :
    (takeMgmt k p stamp turn s).out F = s.out F := by
  simp [takeMgmt]

@[simp] theorem unattested_out [F.EvParts] [F.Fabric] [F.EvRegs] [F.Reg (many R.FP_UNATT_DROP)] (k : Nat)
    (s : State) : (unattested k s).out F = s.out F := by
  unfold unattested
  dsimp only
  split <;> simp

@[simp] theorem receivePacket_out [F.AccParts] [F.HeldLow] [F.Log] [F.Rings] [F.Tansy]
    [F.Fabric] [F.Trust] [F.Test] [F.PevRegs] [∀ g, F.Reg g] (k : Nat) (p : Packet) (stamp turn : Nat)
    (s : State) : (receivePacket k p stamp turn s).out F = s.out F := by
  unfold receivePacket
  refine out_of_ite rfl (out_of_ite (by simp) (out_of_ite (by simp) (out_of_ite (by simp) ?_)))
  refine out_of_ite (by simp) (out_of_ite (by simp) (out_of_ite (by simp) (out_of_ite (by simp) ?_)))
  refine out_of_ite (out_of_ite (by simp) ?_) (out_of_ite (by simp) ?_)
  · split <;> simp
  · split
    · rename_i t h
      simp [serve_leaves _ _ _ t h]
    · simp

@[simp] theorem retryWaiting_out [F.AccParts] [F.Rings] [F.Fabric] [F.PevRegs] [F.Reg (one R.ATT_INVOKES)]
    [F.Reg (one R.ATT_INV_MALF)] [F.Reg (one R.FP_MEMO_STAT)] [F.Reg (many R.FP_UNROUTABLE)] [F.Reg R.PW_RING_SQ_TAIL]
    [F.Reg R.PW_RING_STATUS] [F.Reg (many R.XLT_EPOCH_CUR)] (s : State) : (retryWaiting s).out F = s.out F := by
  refine State.each_out _ _ _ fun w t => ?_
  split
  · rename_i u h
    simp [serve_leaves _ _ _ u h]
  · rfl

end Sys2Proof.Machine
end

section
/-! SUPPORT. What lies outside the footprint is left. Fabric commands: flits, training, encryption, packets by kind,
Campion and Sorrel. -/

namespace Sys2Proof.Machine

variable {F : Foot}

@[simp] theorem receiveAll_out [F.AccParts] [F.HeldLow] [F.Log] [F.Rings] [F.Tansy] [F.Fabric]
    [F.Trust] [F.Test] [F.PevRegs] [∀ g, F.Reg g] (k : Nat) (ps : List Packet) (stamp turn : Nat) (s : State)
    : (receiveAll k ps stamp turn s).out F = s.out F := by
  simp [receiveAll]

@[simp] theorem noteSecure_out [F.EvParts] [F.Fabric] [F.EvRegs] [F.Reg (many R.TOPO_NBR_INFO)]
    [F.Reg (one R.TOPO_PARENT)] [F.Reg (one R.TOPO_SRL_RATE)] [F.Reg (one R.TOPO_SRL_STATUS)]
    [F.Reg (one R.TOPO_STATUS)] (k : Nat) (before s : State) : (noteSecure k before s).out F = s.out F := by
  simp [noteSecure]

@[simp] theorem countFec_out [F.Reg (many R.FP_FEC_CORR)] [F.Reg (many R.FP_FEC_UNCORR)]
    (fec : List (Fin 6 × Byte × Byte)) (s : State) : (countFec fec s).out F = s.out F := by
  simp [countFec]

@[simp] theorem execFlitReceive_leaves [F.AccParts] [F.HeldLow] [F.Log] [F.Rings] [F.Tansy]
    [F.Fabric] [F.Trust] [F.Test] [F.PevRegs] [∀ g, F.Reg g] (k : Fin 6) (b : List Byte) (fecOk : Bool)
    (fec : List (Fin 6 × Byte × Byte)) (stamp : BitVec 26) (turn : BitVec 40) (s : State) : Leaves F s
    (execFlitReceive k b fecOk fec stamp turn s) := by
  simp [execFlitReceive]

@[simp] theorem execNakReceive_leaves [F.EvParts] [F.Fabric] [F.Trust] [F.EvRegs] [F.Reg (many R.FP_DOWNS)]
    [F.Reg (many R.FP_DOWN_CAUSE)] [F.Reg (many R.FP_REPLAYS)] [F.Reg (many R.FP_RETRAINS)] [F.Reg (many R.FP_STATUS)]
    [F.Reg (many R.FP_UNROUTABLE)] [F.Reg (one R.TOPO_SRL_STATUS)] [F.Reg (one R.TOPO_STATUS)] (k : Fin 6)
    (ack : Option (BitVec 12)) (s : State) : Leaves F s (execNakReceive k ack s) := by
  simp [execNakReceive]

@[simp] theorem execFastRetrainDone_leaves [F.Fabric] [F.Reg (many R.FP_STATUS)] (k : Fin 6) (s : State) : Leaves F
    s (execFastRetrainDone k s) := by
  simp [execFastRetrainDone]

@[simp] theorem execFastRetrainTimeout_leaves [F.EvParts] [F.Fabric] [F.Trust] [F.EvRegs]
    [F.Reg (many R.FP_DOWNS)] [F.Reg (many R.FP_DOWN_CAUSE)] [F.Reg (many R.FP_STATUS)] [F.Reg (many R.FP_UNROUTABLE)]
    [F.Reg (one R.TOPO_SRL_STATUS)] [F.Reg (one R.TOPO_STATUS)] (k : Fin 6) (s : State) : Leaves F s
    (execFastRetrainTimeout k s) := by
  simp [execFastRetrainTimeout]

@[simp] theorem execErrorWindowEnd_leaves [F.EvParts] [F.Fabric] [F.Trust] [F.EvRegs]
    [F.Reg (many R.FP_CRC_FAIL)] [F.Reg (many R.FP_DOWNS)] [F.Reg (many R.FP_DOWN_CAUSE)] [F.Reg (many R.FP_FLITS_RX)]
    [F.Reg (many R.FP_STATUS)] [F.Reg (many R.FP_UNROUTABLE)] [F.Reg (one R.TOPO_SRL_STATUS)]
    [F.Reg (one R.TOPO_STATUS)] (k : Fin 6) (more : Nat) (s : State) : Leaves F s (execErrorWindowEnd k more s) := by
  simp [execErrorWindowEnd]

@[simp] theorem execPartnerLoss_leaves [F.EvParts] [F.Fabric] [F.Trust] [F.EvRegs] [F.Reg (many R.FP_DOWNS)]
    [F.Reg (many R.FP_DOWN_CAUSE)] [F.Reg (many R.FP_STATUS)] [F.Reg (many R.FP_UNROUTABLE)]
    [F.Reg (one R.TOPO_SRL_STATUS)] [F.Reg (one R.TOPO_STATUS)] (k : Fin 6) (err : Bool) (s : State) : Leaves F s
    (execPartnerLoss k err s) := by
  simp [execPartnerLoss]

@[simp] theorem execHoldoffExpiry_leaves [F.EvParts] [F.HeldLow] [F.Fabric] [F.Test] [F.PevRegs]
    [∀ g, F.Reg g] (k : Fin 6) (s : State) : Leaves F s (execHoldoffExpiry k s) := by
  simp [execHoldoffExpiry]

@[simp] theorem groupReset_out [F.EvParts] [F.HeldLow] [F.Fabric] [F.Trust] [F.Test] [F.PevRegs]
    [∀ g, F.Reg g] (n : Nat) (c : Cause) (s : State) : (groupReset n c s).out F = s.out F := by
  unfold groupReset
  split <;> simp

@[simp] theorem execLrst_leaves [F.EvParts] [F.HeldLow] [F.Fabric] [F.Trust] [F.Test] [F.PevRegs]
    [∀ g, F.Reg g] (n : Fin 6) (s : State) : Leaves F s (execLrst n s) := by
  simp [execLrst]

@[simp] theorem clearGroup_out [F.EvParts] [F.HeldLow] [F.Fabric] [F.Trust] [F.Test] [F.PevRegs]
    [∀ g, F.Reg g] (n : Nat) (s : State) : (clearGroup n s).out F = s.out F := by
  simp [clearGroup]

@[simp] theorem execGroupEnClear_leaves [F.EvParts] [F.HeldLow] [F.Fabric] [F.Trust] [F.Test]
    [F.PevRegs] [∀ g, F.Reg g] (n : Fin 6) (s : State) : Leaves F s (execGroupEnClear n s) := by
  simp [execGroupEnClear]

@[simp] theorem execLinkDetect_leaves [F.Fabric] [F.Reg (many R.FP_STATUS)] (k : Fin 6) (sig : List (BitVec 9))
    (s : State) : Leaves F s (execLinkDetect k sig s) := by
  simp [execLinkDetect]

@[simp] theorem execEqualizationDone_leaves [F.Reg (many R.FP_STATUS)] (k : Fin 6) (s : State) : Leaves F s
    (execEqualizationDone k s) := by
  simp [execEqualizationDone]

@[simp] theorem execLaneTestDone_leaves [F.EvParts] [F.Repair] [F.Fabric] [F.EvRegs] [F.Reg (many R.FP_STATUS)]
    [F.RprStatus] (k : Fin 6) (good : List (BitVec 9)) (s : State) : Leaves F s (execLaneTestDone k good s) := by
  simp [execLaneTestDone]

@[simp] theorem execTrainConfig_leaves [F.EvParts] [F.Fabric] [F.Trust] [F.EvRegs] [F.Reg (many R.FP_DOWNS)]
    [F.Reg (many R.FP_DOWN_CAUSE)] [F.Reg (many R.FP_LANEMAP)] [F.Reg (many R.FP_STATUS)] [F.Reg (many R.FP_UNROUTABLE)]
    [F.Reg (many R.TOPO_NBR_INFO)] [F.Reg (one R.TOPO_PARENT)] [F.Reg (one R.TOPO_SRL_RATE)]
    [F.Reg (one R.TOPO_SRL_STATUS)] [F.Reg (one R.TOPO_STATUS)] (k : Fin 6) (m : TrainMsg) (s : State) : Leaves F s
    (execTrainConfig k m s) := by
  simp [execTrainConfig]

@[simp] theorem execLcfSend_leaves [F.EvParts] [F.Fabric] [F.EvRegs] [F.Reg (many R.FP_STATUS)]
    [F.Reg (many R.TOPO_NBR_INFO)] [F.Reg (one R.TOPO_PARENT)] [F.Reg (one R.TOPO_SRL_RATE)]
    [F.Reg (one R.TOPO_SRL_STATUS)] [F.Reg (one R.TOPO_STATUS)] (k : Fin 6) (s : State) : Leaves F s (execLcfSend k s)
    := by
  simp [execLcfSend]

@[simp] theorem execLinkKeysInstalled_leaves [F.Fabric] (k : Fin 6) (secret : List Byte) (s : State) : Leaves F s
    (execLinkKeysInstalled k secret s) := by
  simp [execLinkKeysInstalled]

@[simp] theorem execKeyUpdate_leaves [F.Fabric] (k : Fin 6) (secret : List Byte) (s : State) : Leaves F s
    (execKeyUpdate k secret s) := by
  simp [execKeyUpdate]

@[simp] theorem pktCmd_leaves [F.AccParts] [F.HeldLow] [F.Log] [F.Rings] [F.Tansy] [F.Fabric]
    [F.Trust] [F.Test] [F.PevRegs] [∀ g, F.Reg g] (ok : Bool) (k : Nat) (p : Packet) (stamp turn : Nat)
    (s : State) : Leaves F s (pktCmd ok k p stamp turn s) := by
  simp [pktCmd]

@[simp] theorem execInv_leaves [F.AccParts] [F.HeldLow] [F.Log] [F.Rings] [F.Tansy] [F.Fabric]
    [F.Trust] [F.Test] [F.PevRegs] [∀ g, F.Reg g] (k : Fin 6) (p : Packet) (s : State) : Leaves F s
    (execInv k p s) := by
  simp [execInv]

@[simp] theorem execRd_leaves [F.AccParts] [F.HeldLow] [F.Log] [F.Rings] [F.Tansy] [F.Fabric]
    [F.Trust] [F.Test] [F.PevRegs] [∀ g, F.Reg g] (k : Fin 6) (p : Packet) (s : State) : Leaves F s
    (execRd k p s) := by
  simp [execRd]

@[simp] theorem execWr_leaves [F.AccParts] [F.HeldLow] [F.Log] [F.Rings] [F.Tansy] [F.Fabric]
    [F.Trust] [F.Test] [F.PevRegs] [∀ g, F.Reg g] (k : Fin 6) (p : Packet) (s : State) : Leaves F s
    (execWr k p s) := by
  simp [execWr]

@[simp] theorem execWrp_leaves [F.AccParts] [F.HeldLow] [F.Log] [F.Rings] [F.Tansy] [F.Fabric]
    [F.Trust] [F.Test] [F.PevRegs] [∀ g, F.Reg g] (k : Fin 6) (p : Packet) (s : State) : Leaves F s
    (execWrp k p s) := by
  simp [execWrp]

@[simp] theorem execAtom_leaves [F.AccParts] [F.HeldLow] [F.Log] [F.Rings] [F.Tansy] [F.Fabric]
    [F.Trust] [F.Test] [F.PevRegs] [∀ g, F.Reg g] (k : Fin 6) (p : Packet) (s : State) : Leaves F s
    (execAtom k p s) := by
  simp [execAtom]

@[simp] theorem execForwardPacket_leaves [F.AccParts] [F.HeldLow] [F.Log] [F.Rings] [F.Tansy]
    [F.Fabric] [F.Trust] [F.Test] [F.PevRegs] [∀ g, F.Reg g] (k : Fin 6) (p : Packet) (s : State) :
    Leaves F s (execForwardPacket k p s) := by
  simp [execForwardPacket]

@[simp] theorem execRspData_leaves [F.AccParts] [F.HeldLow] [F.Log] [F.Rings] [F.Tansy]
    [F.Fabric] [F.Trust] [F.Test] [F.PevRegs] [∀ g, F.Reg g] (k : Fin 6) (p : Packet) (s : State) :
    Leaves F s (execRspData k p s) := by
  simp [execRspData]

@[simp] theorem execFabricDoorbell_leaves [F.AccParts] [F.HeldLow] [F.Log] [F.Rings] [F.Tansy]
    [F.Fabric] [F.Trust] [F.Test] [F.PevRegs] [∀ g, F.Reg g] (k : Fin 6) (p : Packet) (s : State) :
    Leaves F s (execFabricDoorbell k p s) := by
  simp [execFabricDoorbell]

@[simp] theorem execInvoke_leaves [F.AccParts] [F.HeldLow] [F.Log] [F.Rings] [F.Tansy]
    [F.Fabric] [F.Trust] [F.Test] [F.PevRegs] [∀ g, F.Reg g] (k : Fin 6) (p : Packet) (s : State) :
    Leaves F s (execInvoke k p s) := by
  simp [execInvoke]

@[simp] theorem execHello_leaves [F.AccParts] [F.HeldLow] [F.Log] [F.Rings] [F.Tansy]
    [F.Fabric] [F.Trust] [F.Test] [F.PevRegs] [∀ g, F.Reg g] (k : Fin 6) (p : Packet) (s : State) :
    Leaves F s (execHello k p s) := by
  simp [execHello]

@[simp] theorem execClaim_leaves [F.AccParts] [F.HeldLow] [F.Log] [F.Rings] [F.Tansy]
    [F.Fabric] [F.Trust] [F.Test] [F.PevRegs] [∀ g, F.Reg g] (k : Fin 6) (p : Packet) (s : State) :
    Leaves F s (execClaim k p s) := by
  simp [execClaim]

@[simp] theorem execReport_leaves [F.AccParts] [F.HeldLow] [F.Log] [F.Rings] [F.Tansy]
    [F.Fabric] [F.Trust] [F.Test] [F.PevRegs] [∀ g, F.Reg g] (k : Fin 6) (p : Packet) (s : State) :
    Leaves F s (execReport k p s) := by
  simp [execReport]

@[simp] theorem execReportDone_leaves [F.AccParts] [F.HeldLow] [F.Log] [F.Rings] [F.Tansy]
    [F.Fabric] [F.Trust] [F.Test] [F.PevRegs] [∀ g, F.Reg g] (k : Fin 6) (p : Packet) (s : State) :
    Leaves F s (execReportDone k p s) := by
  simp [execReportDone]

@[simp] theorem execAssign_leaves [F.AccParts] [F.HeldLow] [F.Log] [F.Rings] [F.Tansy]
    [F.Fabric] [F.Trust] [F.Test] [F.PevRegs] [∀ g, F.Reg g] (k : Fin 6) (p : Packet) (s : State) :
    Leaves F s (execAssign k p s) := by
  simp [execAssign]

@[simp] theorem execBeacon_leaves [F.AccParts] [F.HeldLow] [F.Log] [F.Rings] [F.Tansy]
    [F.Fabric] [F.Trust] [F.Test] [F.PevRegs] [∀ g, F.Reg g] (k : Fin 6) (p : Packet) (s : State) :
    Leaves F s (execBeacon k p s) := by
  simp [execBeacon]

@[simp] theorem execDup_leaves [F.AccParts] [F.HeldLow] [F.Log] [F.Rings] [F.Tansy] [F.Fabric]
    [F.Trust] [F.Test] [F.PevRegs] [∀ g, F.Reg g] (k : Fin 6) (p : Packet) (s : State) : Leaves F s
    (execDup k p s) := by
  simp [execDup]

@[simp] theorem execSyncReq_leaves [F.AccParts] [F.HeldLow] [F.Log] [F.Rings] [F.Tansy]
    [F.Fabric] [F.Trust] [F.Test] [F.PevRegs] [∀ g, F.Reg g] (k : Fin 6) (p : Packet) (stamp : BitVec 26)
    (turn : BitVec 40) (s : State) : Leaves F s (execSyncReq k p stamp turn s) := by
  simp [execSyncReq]

@[simp] theorem execSyncRsp_leaves [F.AccParts] [F.HeldLow] [F.Log] [F.Rings] [F.Tansy]
    [F.Fabric] [F.Trust] [F.Test] [F.PevRegs] [∀ g, F.Reg g] (k : Fin 6) (p : Packet) (stamp : BitVec 26)
    (s : State) : Leaves F s (execSyncRsp k p stamp s) := by
  simp [execSyncRsp]

@[simp] theorem execQuietExpiry_leaves [F.EvParts] [F.HeldLow] [F.Fabric] [F.Trust] [F.Test]
    [F.PevRegs] [∀ g, F.Reg g] (s : State) : Leaves F s (execQuietExpiry s) := by
  simp [execQuietExpiry]

@[simp] theorem execBeaconTick_leaves [F.Fabric] [F.Sent] (s : State) : Leaves F s (execBeaconTick s) := by
  simp [execBeaconTick]

@[simp] theorem execBeaconTimeout_leaves [F.EvParts] [F.Fabric] [F.EvRegs] [F.Reg (many R.TOPO_NBR_INFO)]
    [F.Reg (one R.TOPO_PARENT)] [F.Reg (one R.TOPO_SRL_RATE)] [F.Reg (one R.TOPO_SRL_STATUS)]
    [F.Reg (one R.TOPO_STATUS)] (s : State) : Leaves F s (execBeaconTimeout s) := by
  simp [execBeaconTimeout]

@[simp] theorem execDeadMarkExpiry_leaves [F.Fabric] (u : W64) (s : State) : Leaves F s (execDeadMarkExpiry u s) := by
  simp [execDeadMarkExpiry]

@[simp] theorem execParentLinkDown_leaves [F.EvParts] [F.Fabric] [F.EvRegs] [F.Reg (many R.TOPO_NBR_INFO)]
    [F.Reg (one R.TOPO_PARENT)] [F.Reg (one R.TOPO_SRL_RATE)] [F.Reg (one R.TOPO_SRL_STATUS)]
    [F.Reg (one R.TOPO_STATUS)] (s : State) : Leaves F s (execParentLinkDown s) := by
  simp [execParentLinkDown]

@[simp] theorem execPriorityWrite_leaves [F.EvParts] [F.Fabric] [F.EvRegs] [F.Reg (one R.TOPO_CFG)]
    [F.Reg (many R.TOPO_NBR_INFO)] [F.Reg (one R.TOPO_PARENT)] [F.Reg (one R.TOPO_SRL_RATE)]
    [F.Reg (one R.TOPO_SRL_STATUS)] [F.Reg (one R.TOPO_STATUS)] (v : Byte) (s : State) : Leaves F s
    (execPriorityWrite v s) := by
  simp [execPriorityWrite]

@[simp] theorem execSyncIntTick_leaves [F.Fabric] [F.Sent] (stamp : BitVec 26) (s : State) : Leaves F s
    (execSyncIntTick stamp s) := by
  simp [execSyncIntTick]

@[simp] theorem execSorrelHoldoverTimeout_leaves [F.EvParts] [F.EvRegs] [F.Reg (one R.TOPO_SRL_RATE)]
    [F.Reg (one R.TOPO_SRL_STATUS)] (s : State) : Leaves F s (execSorrelHoldoverTimeout s) := by
  simp [execSorrelHoldoverTimeout]

@[simp] theorem execTopoSrlSet_leaves [F.EvParts] [F.Log] [F.Tansy] [F.EvRegs]
    [F.Reg (many R.TNS_SLOT_COUNTS)] [F.Reg (one R.TOPO_SRL_FRAC)] [F.Reg (one R.TOPO_SRL_STATUS)]
    [F.Reg (one R.TOPO_SRL_TIME)] (v : W64) (s : State) : Leaves F s (execTopoSrlSet v s) := by
  simp [execTopoSrlSet]

end Sys2Proof.Machine
end

section
/-! SUPPORT. What lies outside the footprint is left. Work after the failure of a unit: core faults, clusters out of
service, staging errors, row tests and the repair record's writes. -/

namespace Sys2Proof.Machine

variable {F : Foot}

@[simp] theorem coreFault_out [F.Rings] [F.Hatch] (r island : Nat) (s : State) : (coreFault r island s).out F
    = s.out F := by
  unfold coreFault
  split <;> simp

@[simp] theorem coresFail_out [F.Rings] [F.Hatch] (f : Nat → Bool) (island : Nat) (s : State) :
    (coresFail f island s).out F = s.out F := by
  simp [coresFail]

@[simp] theorem clusterOut_out [F.Rings] [F.Hatch] [F.Repair] [F.Reg (many R.CC_HATCH)]
    [F.Reg (many R.CC_RERUNS)] [F.Reg (many R.CC_STIPPLE_RET)] [F.Reg (many R.CC_STIPPLE_SVC)] [F.Reg (many R.RPR_HOST)]
    [F.Reg (many R.RPR_SPARE)] (cl : Nat) (s : State) : (clusterOut cl s).out F = s.out F := by
  rw [clusterOut, syncAllUnits_out, coresFail_out, State.each_out, State.out_rpr]
  simp

@[simp] theorem execClusterReturn_leaves [F.Repair] [F.Reg (many R.CC_HATCH)] [F.Reg (many R.CC_STIPPLE_RET)]
    [F.Reg (many R.CC_STIPPLE_SVC)] [F.Reg (many R.RPR_HOST)] [F.Reg (many R.RPR_SPARE)] (cl : Fin 4) (s : State) :
    Leaves F s (execClusterReturn cl s) := by
  simp [execClusterReturn]

@[simp] theorem execLockstepMismatch_leaves [F.EvParts] [F.Rings] [F.Hatch] [F.Repair] [F.Test]
    [F.EvRegs] [F.Reg (many R.CC_HATCH)] [F.Reg R.CC_SMIS] [F.Reg (many R.CC_STIPPLE_RET)]
    [F.Reg (many R.CC_STIPPLE_SVC)] [F.Reg (many R.FP_CTL)] [F.Reg (many R.RPR_HMAP)] [F.Reg (many R.RPR_HOST)]
    [F.Reg (many R.RPR_SMAP_HI)] [F.Reg (many R.RPR_SMAP_LO)] [F.Reg (many R.RPR_SPARE)] [F.RprStatus]
    [F.Reg (one R.TST_JOB_STATUS)] (cl : Fin 4) (phys : Fin 18) (s : State) : Leaves F s
    (execLockstepMismatch cl phys s) := by
  unfold execLockstepMismatch
  split <;> simp

@[simp] theorem execSpareSwitchIn_leaves [F.EvParts] [F.Repair] [F.Test] [F.EvRegs] [F.Reg (many R.CC_HATCH)]
    [F.Reg (many R.CC_STIPPLE_RET)] [F.Reg (many R.CC_STIPPLE_SVC)] [F.Reg (many R.FP_CTL)] [F.Reg (many R.RPR_HMAP)]
    [F.Reg (many R.RPR_HOST)] [F.Reg (many R.RPR_SMAP_HI)] [F.Reg (many R.RPR_SMAP_LO)] [F.Reg (many R.RPR_SPARE)]
    [F.RprStatus] [F.Reg (one R.TST_JOB_STATUS)] (cl : Fin 4) (hatch pass : Bool) (s : State) : Leaves F s
    (execSpareSwitchIn cl hatch pass s) := by
  unfold execSpareSwitchIn
  dsimp only
  split <;> simp

@[simp] theorem sramEvent_out [F.EvParts] [F.EvRegs] (src : Nat) (x : SramRow) (s : State) : (sramEvent src x s).out F =
    s.out F := by
  simp [sramEvent]

@[simp] theorem redoChunk_out [F.Hatch] [F.Reg (many R.CC_RERUNS)] (r t cl tile chunk : Nat) (s : State) :
    (redoChunk r t cl tile chunk s).out F = s.out F := by
  unfold redoChunk
  split <;> simp

@[simp] theorem execStagingEccUe_leaves [F.Rings] [F.Hatch] [F.Reg (many R.CC_RERUNS)]
    [F.Reg (many R.CC_STAGE_ECC)] (cl : Fin 4) (w : StageWord) (s : State) : Leaves F s (execStagingEccUe cl w s) := by
  unfold execStagingEccUe
  dsimp only
  (repeat' split) <;> simp

@[simp] theorem blockRetired_out [F.EvParts] [F.Hatch] [F.Repair] [F.EvRegs] [F.Reg (many R.CC_HATCH)]
    [F.Reg (many R.CC_RERUNS)] [F.Reg (many R.CC_STIPPLE_RET)] [F.Reg (many R.CC_STIPPLE_SVC)] [F.Reg (many R.RPR_HMAP)]
    [F.Reg (many R.RPR_HOST)] [F.Reg (many R.RPR_SMAP_HI)] [F.Reg (many R.RPR_SMAP_LO)] [F.Reg (many R.RPR_SPARE)]
    (cl b : Nat) (s : State) : (blockRetired cl b s).out F = s.out F := by
  simp [blockRetired]

@[simp] theorem arrayDead_out [F.EvParts] [F.HeldLow] [F.Hatch] [F.Repair] [F.Fabric] [F.Trust]
    [F.Test] [F.PevRegs] [∀ g, F.Reg g] (x : SramRow) (s : State) : (arrayDead x s).out F = s.out F := by
  simp [arrayDead]

@[simp] theorem rowWork_out [F.Rings] [F.Hatch] [F.Reg (many R.CC_RERUNS)] (x : SramRow) (ue : Bool)
    (s : State) : (rowWork x ue s).out F = s.out F := by
  unfold rowWork
  grind [redoOn_out, coresFail_out]

@[simp] theorem execSramRowTest_leaves [F.Rings] [F.Hatch] [F.Repair] [F.Reg (many R.CC_RERUNS)]
    [F.Reg (many R.CC_STAGE_ECC)] [F.Reg (one R.RPR_ROWS)] (code : BitVec 8) (inst row : BitVec 16) (ue : Bool)
    (s : State) : Leaves F s (execSramRowTest code inst row ue s) := by
  simp [execSramRowTest]

@[simp] theorem execSramRowTestDone_leaves [F.EvParts] [F.HeldLow] [F.Hatch] [F.Repair] [F.Fabric]
    [F.Trust] [F.Test] [F.PevRegs] [∀ g, F.Reg g] (code : BitVec 8) (inst row : BitVec 16) (pass : Bool)
    (s : State) : Leaves F s (execSramRowTestDone code inst row pass s) := by
  simp [execSramRowTestDone]

@[simp] theorem execRepairRecordWrite_leaves [F.EvParts] [F.Repair] [F.EvRegs] [F.RprStatus] (ok : Bool) (s : State) :
    Leaves F s (execRepairRecordWrite ok s) := by
  simp [execRepairRecordWrite]

end Sys2Proof.Machine
end

section
/-! SUPPORT. What lies outside the footprint is left. The commands of the synthesizers, the frequency monitor, the
CLKOUT outputs and the quadrants. -/

namespace Sys2Proof.Machine

variable {F : Foot}

@[simp] theorem releaseIslands_out [F.Reg (one R.CKR_ISL_STATE)] (mask : Nat) (s : State) :
    (releaseIslands mask s).out F = s.out F := by
  simp [releaseIslands]

@[simp] theorem startStage_out [F.Reg (one R.CKR_ISL_STATE)] [F.Reg (one R.CKR_START_STAGE)] (n : Nat) (s : State) :
    (startStage n s).out F = s.out F := by
  simp [startStage]

@[simp] theorem execSynEnable_leaves [F.Clocks] [F.Reg (one R.CKR_ISL_CLK)] [F.Reg (one R.CKR_ISL_STATE)]
    [F.Reg (one R.CKR_START_STAGE)] [F.Reg (many R.CKR_SYN_CTL)] [F.Reg (many R.CKR_SYN_FRAC)]
    [F.Reg (many R.CKR_SYN_STATUS)] (sm : Bool) (n : Fin 12) (s : State) : Leaves F s (execSynEnable sm n s) := by
  simp [execSynEnable]

@[simp] theorem execSynDisable_leaves [F.Clocks] [F.Reg (one R.CKR_ISL_CLK)] [F.Reg (many R.CKR_SYN_CTL)]
    [F.Reg (many R.CKR_SYN_FRAC)] [F.Reg (many R.CKR_SYN_STATUS)] (sm : Bool) (n : Fin 12) (s : State) : Leaves F s
    (execSynDisable sm n s) := by
  simp [execSynDisable]

@[simp] theorem synRegWrite_out [F.Clocks] [F.Reg (one R.CKR_ISL_CLK)] [F.Reg (many R.CKR_SYN_CTL)]
    [F.Reg (many R.CKR_SYN_FRAC)] [F.Reg (many R.CKR_SYN_GUARD)] [F.Reg (many R.CKR_SYN_LOCK)]
    [F.Reg (many R.CKR_SYN_STATUS)] (w : SynWriter) (n reg : Nat) (v : W32) (s : State) :
    (synRegWrite w n reg v s).out F = s.out F := by
  simp [synRegWrite]

@[simp] theorem execSynConfigWrite_leaves [F.Clocks] [F.Reg (one R.CKR_ISL_CLK)] [F.Reg (many R.CKR_SYN_CTL)]
    [F.Reg (many R.CKR_SYN_FRAC)] [F.Reg (many R.CKR_SYN_GUARD)] [F.Reg (many R.CKR_SYN_LOCK)]
    [F.Reg (many R.CKR_SYN_STATUS)] (sm : Bool) (n : Fin 12) (reg : Fin 4) (v : W32) (s : State) : Leaves F s
    (execSynConfigWrite sm n reg v s) := by
  simp [execSynConfigWrite]

@[simp] theorem execSynCtlStewardWrite_leaves [F.Clocks] [F.Reg (one R.CKR_ISL_CLK)] [F.Reg (many R.CKR_SYN_CTL)]
    [F.Reg (many R.CKR_SYN_FRAC)] [F.Reg (many R.CKR_SYN_STATUS)] (n : Fin 12) (v : W32) (s : State) : Leaves F s
    (execSynCtlStewardWrite n v s) := by
  simp [execSynCtlStewardWrite]

@[simp] theorem execSynCtlSmApply_leaves [F.Clocks] [F.Reg (one R.CKR_ISL_CLK)] [F.Reg (many R.CKR_SYN_CTL)]
    [F.Reg (many R.CKR_SYN_FRAC)] [F.Reg (many R.CKR_SYN_STATUS)] (n : Fin 12) (s : State) : Leaves F s
    (execSynCtlSmApply n s) := by
  unfold execSynCtlSmApply
  split <;> simp

@[simp] theorem execAvsbusAck_leaves [F.Reg (one R.PWR_AVS_STATUS)] (up : Bool) (s : State) : Leaves F s
    (execAvsbusAck up s) := by
  simp [execAvsbusAck]

@[simp] theorem refuseRaise_out [F.Clocks] [F.Reg (many R.CKR_SYN_STATUS)] (n : Nat) (s : State) :
    (refuseRaise n s).out F = s.out F := by
  unfold refuseRaise
  split <;> simp

@[simp] theorem execAvsCommandTimeout_leaves [F.EvParts] [F.Clocks] [F.EvRegs] [F.Reg (many R.CKR_SYN_STATUS)]
    [F.Reg (one R.PWR_AVS_STATUS)] (s : State) : Leaves F s (execAvsCommandTimeout s) := by
  simp [execAvsCommandTimeout]

@[simp] theorem syn11Back_out [F.AccParts] [F.Clocks] [F.Pins] [F.Seals] [F.Log] [F.Raster]
    [F.Path] [F.Drypoint] [F.Tansy] [F.PevRegs] [F.Reg (one R.DRY_STATUS)] [F.Reg (one R.PRS_HALTS)]
    [F.Reg (one R.PRS_STATUS)] (s : State) : (syn11Back s).out F = s.out F := by
  simp [syn11Back]

@[simp] theorem execSynLockDeclared_leaves [F.AccParts] [F.Power] [F.Clocks] [F.Pins] [F.Seals]
    [F.Log] [F.Raster] [F.Path] [F.Drypoint] [F.Tansy] [F.PevRegs] [F.Reg (one R.CKR_ISL_CLK)]
    [F.Reg (one R.CKR_ISL_STATE)] [F.Reg (one R.CKR_START_STAGE)] [F.Reg (many R.CKR_SYN_STATUS)]
    [F.Reg (one R.DRY_STATUS)] [F.Reg (one R.PRS_HALTS)] [F.Reg (one R.PRS_STATUS)] (n : Fin 12) (s : State) : Leaves F
    s (execSynLockDeclared n s) := by
  simp [execSynLockDeclared]

@[simp] theorem coast_out [F.EvParts] [F.Clocks] [F.Memory] [F.Display] [F.Path] [F.EvRegs]
    [F.Reg (one R.CKR_ISL_CLK)] [F.Reg (many R.CKR_SYN_STATUS)] [F.Reg (many R.MC_STATUS)] [F.PprStatus] (n : Nat)
    (s : State) : (coast n s).out F = s.out F := by
  simp [coast]

@[simp] theorem execSynLossOfLock_leaves [F.EvParts] [F.Clocks] [F.Memory] [F.Display] [F.Path]
    [F.EvRegs] [F.Reg (one R.CKR_ISL_CLK)] [F.Reg (many R.CKR_SYN_STATUS)] [F.Reg (many R.MC_STATUS)] [F.PprStatus]
    (n : Fin 12) (s : State) : Leaves F s (execSynLossOfLock n s) := by
  simp [execSynLossOfLock]

@[simp] theorem execSynLossOfReference_leaves [F.EvParts] [F.Clocks] [F.Memory] [F.Display] [F.Path]
    [F.EvRegs] [F.Reg (one R.CKR_ISL_CLK)] [F.Reg (many R.CKR_SYN_STATUS)] [F.Reg (many R.MC_STATUS)] [F.PprStatus]
    (n : Fin 12) (s : State) : Leaves F s (execSynLossOfReference n s) := by
  simp [execSynLossOfReference]

@[simp] theorem relock_out [F.EvParts] [F.Power] [F.Clocks] [F.Display] [F.EvRegs]
    [F.Reg (one R.CKR_ISL_CLK)] [F.Reg (many R.CKR_SYN_STATUS)] (n : Nat) (s : State) :
    (relock n s).out F = s.out F := by
  simp [relock]

@[simp] theorem execSynRelock_leaves [F.EvParts] [F.Power] [F.Clocks] [F.Display] [F.EvRegs]
    [F.Reg (one R.CKR_ISL_CLK)] [F.Reg (many R.CKR_SYN_STATUS)] (n : Fin 12) (s : State) : Leaves F s
    (execSynRelock n s) := by
  simp [execSynRelock]

@[simp] theorem guardTrip_out [F.AccParts] [F.Power] [F.Clocks] [F.Pins] [F.Seals] [F.Log]
    [F.Rings] [F.Hatch] [F.Raster] [F.Display] [F.Path] [F.Drypoint] [F.Tansy]
    [F.PevRegs] [F.Reg (many R.CC_HATCH)] [F.Reg (many R.CC_RERUNS)] [F.Reg (many R.CC_STIPPLE_RET)]
    [F.Reg (many R.CC_STIPPLE_SVC)] [F.Reg (one R.CKR_ISL_CLK)] [F.Reg (many R.CKR_SYN_STATUS)]
    [F.Reg (one R.CKR_SYN_TRIP)] [F.Reg (one R.DRY_STATUS)] [F.Reg (one R.PRS_HALTS)] [F.Reg (one R.PRS_STATUS)]
    [F.Reg (many R.RPR_HOST)] [F.Reg (many R.RPR_SPARE)] (n : Nat) (s : State) : (guardTrip n s).out F = s.out F := by
  simp [guardTrip]

@[simp] theorem spoilTest_out [F.AccParts] [F.Pins] [F.Seals] [F.Log] [F.Raster] [F.Path]
    [F.Drypoint] [F.Tansy] [F.PevRegs] [F.Reg (one R.DRY_STATUS)] [F.Reg (one R.PRS_HALTS)]
    [F.Reg (one R.PRS_STATUS)] (evaluated : Bool) (s : State) : (spoilTest evaluated s).out F = s.out F := by
  simp [spoilTest]

@[simp] theorem execMonitorWindowEnd_leaves [F.AccParts] [F.Power] [F.Clocks] [F.Pins] [F.Seals]
    [F.Log] [F.Rings] [F.Hatch] [F.Raster] [F.Display] [F.Path] [F.Drypoint]
    [F.Tansy] [F.PevRegs] [F.Reg (many R.CC_HATCH)] [F.Reg (many R.CC_RERUNS)] [F.Reg (many R.CC_STIPPLE_RET)]
    [F.Reg (many R.CC_STIPPLE_SVC)] [F.Reg (one R.CKR_ISL_CLK)] [F.Reg (many R.CKR_SYN_STATUS)]
    [F.Reg (one R.CKR_SYN_TRIP)] [F.Reg (one R.DRY_STATUS)] [F.Reg (one R.PRS_HALTS)] [F.Reg (one R.PRS_STATUS)]
    [F.Reg (many R.RPR_HOST)] [F.Reg (many R.RPR_SPARE)] (n : Fin 12) (count : Nat) (lockSame : Bool) (s : State) :
    Leaves F s (execMonitorWindowEnd n count lockSame s) := by
  simp [execMonitorWindowEnd]

@[simp] theorem execSynCoastLimit_leaves [F.EvParts] [F.EvRegs] [F.Reg (many R.CKR_SYN_STATUS)] (n : Fin 12) (s : State)
    : Leaves F s (execSynCoastLimit n s) := by
  simp [execSynCoastLimit]

@[simp] theorem execRefclkReturn_leaves [F.Clocks] (s : State) : Leaves F s (execRefclkReturn s) := by
  simp [execRefclkReturn]

@[simp] theorem execClkoutWrite_leaves [F.Reg (many R.CKR_CLKOUT)] (n : Fin 4) (v : W32) (s : State) : Leaves F s
    (execClkoutWrite n v s) := by
  simp [execClkoutWrite]

@[simp] theorem execQuadrantHoldExpiry_leaves [F.MemParts] [F.Clocks] [F.MemRegs] (q : Fin 4) (s : State) : Leaves
    F s (execQuadrantHoldExpiry q s) := by
  simp [execQuadrantHoldExpiry]

@[simp] theorem execQuadrantQuiesced_leaves [F.Clocks] [F.Memory] [F.Reg (one R.CKR_ISL_CLK)]
    [F.Reg (many R.CKR_SYN_STATUS)] [F.Reg (many R.MC_STATUS)] [F.PprStatus] (q : Fin 4) (s : State) : Leaves F s
    (execQuadrantQuiesced q s) := by
  simp [execQuadrantQuiesced]

@[simp] theorem execQuadrantRecentreDone_leaves [F.MemParts] [F.Clocks] [F.MemRegs] [F.Reg (many R.MC_STATUS)]
    (q : Fin 4) (s : State) : Leaves F s (execQuadrantRecentreDone q s) := by
  simp [execQuadrantRecentreDone]

end Sys2Proof.Machine
end

section
/-! SUPPORT. What lies outside the footprint is left. Node resets: initiators, prologues, what each reset kind leaves,
and the supply, crystal and trip events. -/

namespace Sys2Proof.Machine

variable {F : Foot}

@[simp] theorem loadRange_out [F.HeldLow] [F.PevRegs] [∀ g, F.Reg g] (lo hi : Nat) (s : State) :
    (loadRange lo hi s).out F = s.out F :=
  State.out_regs_heldLow ..

@[simp] theorem loadVoidWindow_out [F.HeldLow] [F.PevRegs] [∀ g, F.Reg g] (p : Nat) (s : State) :
    (loadVoidWindow p s).out F = s.out F := by
  simp [loadVoidWindow]

@[simp] theorem mrwRegs_out [F.Reg (one R.CKR_ISL_CLK)] [F.Reg (one R.CKR_ISL_STATE)] [F.Reg (one R.CKR_START_STAGE)]
    [F.Reg (one R.DRY_STATUS)] [F.Reg (one R.DSP_AUX_CMD)] [F.Reg (one R.DSP_STATUS)] [F.Reg (one R.PRS_STATUS)]
    [F.Reg (one R.PWR_AVS_STATUS)] [F.Reg (one R.SMB_STATUS)] [F.Reg (one R.TNS_STATUS)] [F.Reg (one R.TOPO_STATUS)]
    (s : State) : (mrwRegs s).out F = s.out F := by
  simp [mrwRegs]

@[simp] theorem returnPartition_out [F.Reg R.PW_RING_STATUS] [F.Reg (one R.SMB_LIFECYCLE)] (p : Nat) (s : State) :
    (returnPartition p s).out F = s.out F := by
  simp [returnPartition]

/-- A state that keeps what a node reset keeps: elapsed time, the free-running counter, the fuses, the press inputs and
the queue. -/
theorem out_of_resetKeeps [F.MemParts] [F.Captures] [F.HeldLow] [F.Power] [F.Clocks]
    [F.Translation] [F.Pins] [F.Seals] [F.Log] [F.Rings] [F.Hatch] [F.Raster]
    [F.Display] [F.Path] [F.Drypoint] [F.Tansy] [F.Leases] [F.Fabric] [F.Trust]
    [F.Test] [F.PevRegs] [∀ g, F.Reg g]
    {s t : State} (hTicks : t.ticks = s.ticks) (hFree : t.freeCtr = s.freeCtr) (hFuses : t.fuses = s.fuses)
    (hInputs : t.pressIn = s.pressIn) (hQueue : t.pending = s.pending) : t.out F = s.out F := by
  refine State.out_eq_iff.mpr ⟨fun x hx => ?_, fun key hKey => absurd (Foot.reg_of_one key) hKey⟩
  cases x <;> simp_all [Comp.same]

@[simp] theorem nodeReset_out [F.MemParts] [F.Captures] [F.HeldLow] [F.Power] [F.Clocks]
    [F.Translation] [F.Pins] [F.Seals] [F.Log] [F.Rings] [F.Hatch] [F.Raster]
    [F.Display] [F.Path] [F.Drypoint] [F.Tansy] [F.Leases] [F.Fabric] [F.Trust]
    [F.Test] [F.PevRegs] [∀ g, F.Reg g] (kind : ResetKind) (s : State) : (nodeReset kind s).out F = s.out F := by
  simp [nodeReset]

@[simp] theorem startUp_out [F.Reg (one R.CKR_INCARNATION)] (s : State) : (startUp s).out F = s.out F := by
  simp [startUp]

@[simp] theorem powerReset_out [F.MemParts] [F.Captures] [F.HeldLow] [F.Power] [F.Clocks]
    [F.Translation] [F.Pins] [F.Seals] [F.Log] [F.Rings] [F.Hatch] [F.Raster]
    [F.Display] [F.Path] [F.Drypoint] [F.Tansy] [F.Leases] [F.Fabric] [F.Trust]
    [F.Test] [F.PevRegs] [∀ g, F.Reg g] (s : State) : (powerReset s).out F = s.out F := nodeReset_out .powerOn s

@[simp] theorem interruptPrologue_out [F.EvParts] [F.Seals] [F.Log] [F.Raster] [F.Path] [F.EvRegs]
    (s : State) : (interruptPrologue s).out F = s.out F := by
  simp [interruptPrologue]

@[simp] theorem startPrologue_out [F.AccParts] [F.Power] [F.Pins] [F.Seals] [F.Log] [F.Raster]
    [F.Path] [F.Drypoint] [F.PevRegs] [F.Reg (one R.DRY_STATUS)] (kind : ResetKind) (s : State) :
    (startPrologue kind s).out F = s.out F := by
  simp [startPrologue]

@[simp] theorem acceptReset_out [F.AccParts] [F.Power] [F.Pins] [F.Seals] [F.Log] [F.Raster]
    [F.Path] [F.Drypoint] [F.PevRegs] [F.Reg (one R.CKR_RST_CAUSE)] [F.Reg (one R.DRY_STATUS)]
    (kind : ResetKind) {cause : Fld} (h : F.reg cause.key) (s : State) :
    (acceptReset kind cause s).out F = s.out F := by
  unfold acceptReset
  dsimp only
  split
  · rfl
  · split
    · simp [h]
    · split <;> simp [h]
    · simp [h]

@[simp] theorem pulseAccepted_out [F.Free] (cycles : Nat) (s : State) : (pulseAccepted cycles s).2.out F = s.out F := by
  unfold pulseAccepted
  split_ifs <;> simp

@[simp] theorem execWrstNPulse_leaves [F.AccParts] [F.Power] [F.Pins] [F.Seals] [F.Log]
    [F.Raster] [F.Path] [F.Drypoint] [F.PevRegs] [F.Reg (one R.CKR_RST_CAUSE)] [F.Reg (one R.DRY_STATUS)]
    (cycles : Nat) (s : State) : Leaves F s (execWrstNPulse cycles s) := by
  simp [execWrstNPulse]

@[simp] theorem execMrstNPulse_leaves [F.AccParts] [F.Power] [F.Pins] [F.Seals] [F.Log]
    [F.Raster] [F.Path] [F.Drypoint] [F.PevRegs] [F.Reg (one R.CKR_RST_CAUSE)] [F.Reg (one R.DRY_STATUS)]
    (cycles : Nat) (s : State) : Leaves F s (execMrstNPulse cycles s) := by
  simp [execMrstNPulse]

@[simp] theorem execWarmResetRequest_leaves [F.AccParts] [F.Power] [F.Pins] [F.Seals] [F.Log]
    [F.Raster] [F.Path] [F.Drypoint] [F.PevRegs] [F.Reg (one R.CKR_RST_CAUSE)] [F.Reg (one R.DRY_STATUS)]
    [F.Reg (one R.SMB_SUPERSEDED)] (lost : Bool) (s : State) : Leaves F s (execWarmResetRequest lost s) := by
  simp [execWarmResetRequest]

@[simp] theorem execMrwResetRequest_leaves [F.AccParts] [F.Power] [F.Pins] [F.Seals] [F.Log]
    [F.Raster] [F.Path] [F.Drypoint] [F.PevRegs] [F.Reg (one R.CKR_RST_CAUSE)] [F.Reg (one R.DRY_STATUS)]
    [F.Reg (one R.SMB_SUPERSEDED)] (lost : Bool) (s : State) : Leaves F s (execMrwResetRequest lost s) := by
  simp [execMrwResetRequest]

@[simp] theorem execSmWatchdogExpiry_leaves [F.AccParts] [F.Power] [F.Pins] [F.Seals] [F.Log]
    [F.Raster] [F.Path] [F.Drypoint] [F.PevRegs] [F.Reg (one R.CKR_RST_CAUSE)] [F.Reg (one R.DRY_STATUS)]
    (s : State) : Leaves F s (execSmWatchdogExpiry s) := by
  simp [execSmWatchdogExpiry]

@[simp] theorem execSyn11LockTimeout_leaves [F.AccParts] [F.Power] [F.Pins] [F.Seals] [F.Log]
    [F.Raster] [F.Path] [F.Drypoint] [F.PevRegs] [F.Reg (one R.CKR_RST_CAUSE)] [F.Reg (one R.DRY_STATUS)]
    (s : State) : Leaves F s (execSyn11LockTimeout s) := by
  simp [execSyn11LockTimeout]

@[simp] theorem execResetPrologueDone_leaves [F.MemParts] [F.Captures] [F.HeldLow] [F.Power]
    [F.Clocks] [F.Translation] [F.Pins] [F.Seals] [F.Log] [F.Rings] [F.Hatch]
    [F.Raster] [F.Display] [F.Path] [F.Drypoint] [F.Tansy] [F.Leases] [F.Fabric]
    [F.Trust] [F.Test] [F.PevRegs] [∀ g, F.Reg g] (s : State) : Leaves F s (execResetPrologueDone s) := by
  unfold execResetPrologueDone
  split <;> simp

@[simp] theorem execMrwPrologueTimeout_leaves [F.MemParts] [F.Captures] [F.HeldLow] [F.Power]
    [F.Clocks] [F.Translation] [F.Pins] [F.Seals] [F.Log] [F.Rings] [F.Hatch]
    [F.Raster] [F.Display] [F.Path] [F.Drypoint] [F.Tansy] [F.Leases] [F.Fabric]
    [F.Trust] [F.Test] [F.PevRegs] [∀ g, F.Reg g] (s : State) : Leaves F s (execMrwPrologueTimeout s) := by
  simp [execMrwPrologueTimeout]

@[simp] theorem execPorstNFall_leaves [F.MemParts] [F.Captures] [F.HeldLow] [F.Power] [F.Clocks]
    [F.Translation] [F.Pins] [F.Seals] [F.Log] [F.Rings] [F.Hatch] [F.Raster]
    [F.Display] [F.Path] [F.Drypoint] [F.Tansy] [F.Leases] [F.Fabric] [F.Trust]
    [F.Test] [F.PevRegs] [∀ g, F.Reg g] (s : State) : Leaves F s (execPorstNFall s) := by
  simp [execPorstNFall]

@[simp] theorem execPorstNRise_leaves [F.Power] [F.Pins] [F.Reg (one R.CKR_INCARNATION)]
    [F.Reg (one R.GLB_STRAP)] (testMode : Bool) (strap : BitVec 4) (s : State) : Leaves F s
    (execPorstNRise testMode strap s) := by
  simp [execPorstNRise]

@[simp] theorem execUndervoltage_leaves [F.MemParts] [F.Captures] [F.HeldLow] [F.Power] [F.Clocks]
    [F.Translation] [F.Pins] [F.Seals] [F.Log] [F.Rings] [F.Hatch] [F.Raster]
    [F.Display] [F.Path] [F.Drypoint] [F.Tansy] [F.Leases] [F.Fabric] [F.Trust]
    [F.Test] [F.PevRegs] [∀ g, F.Reg g] (rail : Fin 4) (s : State) : Leaves F s (execUndervoltage rail s) := by
  simp [execUndervoltage]

@[simp] theorem execCrystalStop_leaves [F.MemParts] [F.Captures] [F.HeldLow] [F.Power] [F.Clocks]
    [F.Translation] [F.Pins] [F.Seals] [F.Log] [F.Rings] [F.Hatch] [F.Raster]
    [F.Display] [F.Path] [F.Drypoint] [F.Tansy] [F.Leases] [F.Fabric] [F.Trust]
    [F.Test] [F.PevRegs] [∀ g, F.Reg g] (s : State) : Leaves F s (execCrystalStop s) := by
  simp [execCrystalStop]

@[simp] theorem thermalTrip_out [F.MemParts] [F.Captures] [F.HeldLow] [F.Power] [F.Clocks]
    [F.Translation] [F.Pins] [F.Seals] [F.Log] [F.Rings] [F.Hatch] [F.Raster]
    [F.Display] [F.Path] [F.Drypoint] [F.Tansy] [F.Leases] [F.Fabric] [F.Trust]
    [F.Test] [F.PevRegs] [∀ g, F.Reg g] (s : State) : (thermalTrip s).out F = s.out F := by
  simp [thermalTrip]

@[simp] theorem execThermalTrip_leaves [F.MemParts] [F.Captures] [F.HeldLow] [F.Power] [F.Clocks]
    [F.Translation] [F.Pins] [F.Seals] [F.Log] [F.Rings] [F.Hatch] [F.Raster]
    [F.Display] [F.Path] [F.Drypoint] [F.Tansy] [F.Leases] [F.Fabric] [F.Trust]
    [F.Test] [F.PevRegs] [∀ g, F.Reg g] (s : State) : Leaves F s (execThermalTrip s) := by
  simp [execThermalTrip]

@[simp] theorem execVddAonLoss_leaves [F.MemParts] [F.Captures] [F.HeldLow] [F.Power] [F.Clocks]
    [F.Translation] [F.Pins] [F.Seals] [F.Log] [F.Rings] [F.Hatch] [F.Raster]
    [F.Display] [F.Path] [F.Drypoint] [F.Tansy] [F.Leases] [F.Fabric] [F.Trust]
    [F.Test] [F.PevRegs] [∀ g, F.Reg g] (s : State) : Leaves F s (execVddAonLoss s) := by
  unfold execVddAonLoss
  dsimp only
  split
  · simp
  · have h : (powerReset s).out F = s.out F := by simp
    rw [leaves_next, ← h]
    exact out_of_resetKeeps rfl rfl rfl rfl rfl

@[simp] theorem execVddAonApply_leaves [F.Power] (s : State) : Leaves F s (execVddAonApply s) := by
  simp [execVddAonApply]

@[simp] theorem execAtomWindowEnd_leaves [F.Power] (s : State) : Leaves F s (execAtomWindowEnd s) := by
  simp [execAtomWindowEnd]

@[simp] theorem execFabricReady_leaves [F.EvParts] [F.Power] [F.EvRegs] [F.Reg (one R.CKR_START_STAGE)]
    (held : List Nat) (s : State) : Leaves F s (execFabricReady held s) := by
  simp [execFabricReady]

end Sys2Proof.Machine
end

section
/-! SUPPORT. What lies outside the footprint is left. Partitions as the SM handles them: partition resets, leases,
teardown, releases of granules, withdrawal of regions, what the SM answers, and the privileged instructions of SM
programs. -/

namespace Sys2Proof.Machine

variable {F : Foot}

@[simp] theorem writeBuf_out [F.Reg (many R.SMB_BUF)] (b : List Byte) (s : State) : (writeBuf b s).out F = s.out F := by
  simp [writeBuf]

@[simp] theorem smAnswer_out [F.Trust] [F.Reg (many R.SMB_BUF)] [F.Reg (one R.SMB_STATUS)] (r : SmResponse)
    (s : State) : (smAnswer r s).out F = s.out F := by
  simp [smAnswer]

@[simp] theorem answer_out [F.Trust] [F.Reg (many R.SMB_BUF)] [F.Reg (one R.SMB_STATUS)] (q : StewReq)
    (cmd status detail : Nat) (results : List Byte) (s : State) : (answer q cmd status detail results s).out F =
    s.out F := by
  simp [answer]

@[simp] theorem endUnlogged_out [F.Rings] [F.Trust] [F.Reg (many R.SMB_BUF)] [F.Reg (one R.SMB_STATUS)]
    (q : Option StewReq) (ring : Option (Nat × Nat)) (cmd : Nat) (s : State) : (endUnlogged q ring cmd s).out F =
    s.out F := by
  unfold endUnlogged
  grind [answer_out, tallyDone_out]

@[simp] theorem logLifecycle_out [F.EvParts] [F.Log] [F.EvRegs] (p new old init : Nat) (cont : LogCont) (s : State)
    : (logLifecycle p new old init cont s).out F = s.out F := by
  simp [logLifecycle]

@[simp] theorem logGranule_out [F.EvParts] [F.Log] [F.EvRegs] (p op first count : Nat) (cont : LogCont) (s : State)
    : (logGranule p op first count cont s).out F = s.out F := by
  simp [logGranule]

@[simp] theorem logRegion_out [F.EvParts] [F.Log] [F.EvRegs] (n op readers first count off len : Nat)
    (cont : LogCont) (s : State) : (logRegion n op readers first count off len cont s).out F = s.out F := by
  simp [logRegion]

@[simp] theorem setLease_out [F.AccParts] [F.Pins] [F.Seals] [F.Log] [F.Rings] [F.Raster]
    [F.Display] [F.Path] [F.Drypoint] [F.Tansy] [F.Leases] [F.PevRegs]
    [F.Reg (one R.DRY_STATUS)] [F.Reg (one R.DSP_DISPLACED)] [F.Reg (one R.PRS_STATUS)] (res : Nat) (new : Option Nat)
    (cont : LogCont) (s : State) : (setLease res new cont s).out F = s.out F := by
  simp [setLease]

@[simp] theorem releaseAfterPages_out [F.AccParts] [F.Pins] [F.Seals] [F.Log] [F.Rings]
    [F.Raster] [F.Display] [F.Path] [F.Drypoint] [F.Tansy] [F.Leases] [F.PevRegs]
    [F.Reg (one R.DRY_STATUS)] [F.Reg (one R.DSP_DISPLACED)] [F.Reg (one R.PRS_STATUS)] (s : State) :
    (releaseAfterPages s).out F = s.out F := by
  unfold releaseAfterPages
  split <;> simp

@[simp] theorem releaseLeases_out [F.AccParts] [F.Pins] [F.Seals] [F.Log] [F.Rings] [F.Raster]
    [F.Display] [F.Path] [F.Drypoint] [F.Tansy] [F.Leases] [F.PevRegs]
    [F.Reg (one R.DRY_STATUS)] [F.Reg (one R.DSP_DISPLACED)] [F.Reg (one R.PRS_STATUS)] (p : Nat) (s : State) :
    (releaseLeases p s).out F = s.out F := by
  simp [releaseLeases]

@[simp] theorem emptyRing_out [F.Rings] (r : Nat) (s : State) : (emptyRing r s).out F = s.out F := by
  simp [emptyRing]

@[simp] theorem cancelWork_out [F.Seals] [F.Log] [F.Rings] [F.Hatch] [F.Raster]
    [F.Display] [F.Path] [F.Tansy] [F.Fabric] (p : Nat) (s : State) : (cancelWork p s).out F =
    s.out F := by
  simp [cancelWork]

@[simp] theorem emptyEvents_out [F.Events] (p : Nat) (s : State) : (emptyEvents p s).out F = s.out F := by
  simp [emptyEvents]

@[simp] theorem partitionReset_out [F.AccParts] [F.HeldLow] [F.Pins] [F.Seals] [F.Log]
    [F.Rings] [F.Hatch] [F.Raster] [F.Display] [F.Path] [F.Drypoint] [F.Tansy]
    [F.Leases] [F.Fabric] [F.PevRegs] [∀ g, F.Reg g] (p : Nat) (s : State) : (partitionReset p s).out F =
    s.out F := by
  simp [partitionReset]

@[simp] theorem execPartitionReset_leaves [F.AccParts] [F.HeldLow] [F.Pins] [F.Seals] [F.Log]
    [F.Rings] [F.Hatch] [F.Raster] [F.Display] [F.Path] [F.Drypoint] [F.Tansy]
    [F.Leases] [F.Fabric] [F.PevRegs] [∀ g, F.Reg g] (p : Fin 16) (s : State) : Leaves F s
    (execPartitionReset p s) := by
  simp [execPartitionReset]

@[simp] theorem startTear_out [F.AccParts] [F.HeldLow] [F.Pins] [F.Seals] [F.Log] [F.Rings]
    [F.Hatch] [F.Raster] [F.Display] [F.Path] [F.Drypoint] [F.Tansy] [F.Leases]
    [F.Fabric] [F.Trust] [F.PevRegs] [∀ g, F.Reg g] (x : Tear) (s : State) : (startTear x s).out F =
    s.out F := by
  simp [startTear]

@[simp] theorem makeVoid_out [F.HeldLow] [F.Memory] [F.Translation] [F.Events] [F.Rings] [F.PevRegs]
    [∀ g, F.Reg g] (p : Nat) (s : State) : (makeVoid p s).out F = s.out F := by
  simp [makeVoid]

@[simp] theorem nextHaltTear_out [F.AccParts] [F.HeldLow] [F.Pins] [F.Seals] [F.Log] [F.Rings]
    [F.Hatch] [F.Raster] [F.Display] [F.Path] [F.Drypoint] [F.Tansy] [F.Leases]
    [F.Fabric] [F.Trust] [F.PevRegs] [∀ g, F.Reg g] (s : State) : (nextHaltTear s).out F = s.out F := by
  unfold nextHaltTear
  grind [State.out_trust, startTear_out]

@[simp] theorem execTeardownDrainComplete_leaves [F.AccParts] [F.HeldLow] [F.Pins] [F.Seals] [F.Log]
    [F.Rings] [F.Hatch] [F.Raster] [F.Display] [F.Path] [F.Drypoint] [F.Tansy]
    [F.Leases] [F.Fabric] [F.Trust] [F.PevRegs] [∀ g, F.Reg g] (p : Fin 16) (s : State) : Leaves F s
    (execTeardownDrainComplete p s) := by
  unfold execTeardownDrainComplete
  dsimp only
  split <;> simp

@[simp] theorem startRelease_out [F.Translation] [F.Trust] (x : Release) (s : State) : (startRelease x s).out F =
    s.out F := by
  simp [startRelease]

@[simp] theorem endRelease_out [F.EvParts] [F.Log] [F.Rings] [F.Trust] [F.EvRegs]
    [F.Reg (many R.SMB_BUF)] [F.Reg (one R.SMB_STATUS)] (x : Release) (s : State) :
    (endRelease x s).out F = s.out F := by
  simp [endRelease]

@[simp] theorem execGranuleReleaseComplete_leaves [F.EvParts] [F.Memory] [F.Translation] [F.Log] [F.Rings]
    [F.Trust] [F.EvRegs] [F.Reg (many R.SMB_BUF)] [F.Reg (one R.SMB_STATUS)] (g : Fin 16384) (s : State) : Leaves F
    s (execGranuleReleaseComplete g s) := by
  unfold execGranuleReleaseComplete
  split <;> simp

@[simp] theorem startWithdraw_out [F.Translation] [F.Trust] (x : Withdraw) (s : State) : (startWithdraw x s).out F
    = s.out F := by
  simp [startWithdraw]

@[simp] theorem execRegionWithdrawComplete_leaves [F.EvParts] [F.Memory] [F.Translation] [F.Log] [F.Rings]
    [F.Trust] [F.EvRegs] [F.Reg (many R.SMB_BUF)] [F.Reg (one R.SMB_STATUS)] [F.Reg (many R.XLT_SHR)] (r : Fin 16)
    (s : State) : Leaves F s (execRegionWithdrawComplete r s) := by
  simp [execRegionWithdrawComplete]

@[simp] theorem drbgDraw_out [F.Trust] (s : State) : (drbgDraw s).out F = s.out F := by
  simp [drbgDraw]

@[simp] theorem formPart_out [F.EvParts] [F.Translation] [F.Log] [F.Trust] [F.EvRegs]
    [F.Reg (one R.SMB_LIFECYCLE)] (p init : Nat) (cont : LogCont) (s : State) : (formPart p init cont s).out F =
    s.out F := by
  simp [formPart]

@[simp] theorem sealPart_out [F.EvParts] [F.Log] [F.EvRegs] [F.Reg (one R.SMB_LIFECYCLE)] (p init : Nat)
    (cont : LogCont) (s : State) : (sealPart p init cont s).out F = s.out F := by
  simp [sealPart]

@[simp] theorem assignGranules_out [F.EvParts] [F.Translation] [F.Log] [F.EvRegs] (p first count : Nat)
    (cont : LogCont) (s : State) : (assignGranules p first count cont s).out F = s.out F := by
  simp [assignGranules]

@[simp] theorem createRegion_out [F.EvParts] [F.Translation] [F.Log] [F.Trust] [F.EvRegs]
    [F.Reg (many R.XLT_SHR)] (n : Nat) (cont : LogCont) (s : State) : (createRegion n cont s).out F = s.out F := by
  simp [createRegion]

@[simp] theorem addRegion_out [F.EvParts] [F.Translation] [F.Log] [F.EvRegs] [F.Reg (many R.XLT_SHR)]
    (n first count : Nat) (cont : LogCont) (s : State) : (addRegion n first count cont s).out F = s.out F := by
  simp [addRegion]

@[simp] theorem setReaders_out [F.EvParts] [F.Log] [F.EvRegs] [F.Reg (many R.XLT_SHR)] (n readers op : Nat)
    (cont : LogCont) (s : State) : (setReaders n readers op cont s).out F = s.out F := by
  simp [setReaders]

@[simp] theorem smKcs_leaves [F.Rings] {r : Fin 132} {g : Guard} {w : W64} {body : Prog → State → State}
    {s : State} (h : ∀ p, (body p s).out F = s.out F) : Leaves F s (smKcs r g w body s) := by
  simp [smKcs, kcs_leaves h]

@[simp] theorem smDo_out [F.Rings] {r : Nat} {ok : Bool} {p : Prog} {s : State} {run : State → State}
    (h : ∀ t, (run t).out F = t.out F) : (smDo r ok p s run).out F = s.out F := by
  simp [smDo, h]

@[simp] theorem execPform_leaves [F.EvParts] [F.Translation] [F.Log] [F.Rings] [F.Trust] [F.EvRegs]
    [F.Reg (one R.SMB_LIFECYCLE)] (r : Fin 132) (g : Guard) (b : Fin 32) (s : State) :
    Leaves F s (execPform r g b s) := by
  simp [execPform]

@[simp] theorem execPseal_leaves [F.EvParts] [F.Log] [F.Rings] [F.EvRegs] [F.Reg (one R.SMB_LIFECYCLE)]
    (r : Fin 132) (g : Guard) (b : Fin 32) (s : State) : Leaves F s (execPseal r g b s) := by
  simp [execPseal]

@[simp] theorem execPrst_leaves [F.AccParts] [F.HeldLow] [F.Pins] [F.Seals] [F.Log] [F.Rings]
    [F.Hatch] [F.Raster] [F.Display] [F.Path] [F.Drypoint] [F.Tansy] [F.Leases]
    [F.Fabric] [F.PevRegs] [∀ g, F.Reg g] (r : Fin 132) (g : Guard) (b : Fin 32) (s : State) : Leaves F s
    (execPrst r g b s) := by
  simp [execPrst]

@[simp] theorem execPtear_leaves [F.AccParts] [F.HeldLow] [F.Pins] [F.Seals] [F.Log] [F.Rings]
    [F.Hatch] [F.Raster] [F.Display] [F.Path] [F.Drypoint] [F.Tansy] [F.Leases]
    [F.Fabric] [F.Trust] [F.PevRegs] [∀ g, F.Reg g] (r : Fin 132) (g : Guard) (t : Fin 16) (a : Fin 32)
    (s : State) : Leaves F s (execPtear r g t a s) := by
  simp [execPtear]

@[simp] theorem execGassign_leaves [F.EvParts] [F.Translation] [F.Log] [F.Rings] [F.EvRegs] (r : Fin 132)
    (g : Guard) (b c : Fin 32) (s : State) : Leaves F s (execGassign r g b c s) := by
  simp [execGassign]

@[simp] theorem execGrelease_leaves [F.Translation] [F.Rings] [F.Trust] (r : Fin 132) (g : Guard) (t : Fin 16)
    (a : Fin 32) (s : State) : Leaves F s (execGrelease r g t a s) := by
  unfold execGrelease
  grind [kindA_out, startRelease_out, smKcs_leaves, State.setProg_out, endAt_out]

@[simp] theorem execRcreate_leaves [F.EvParts] [F.Translation] [F.Log] [F.Rings] [F.Trust] [F.EvRegs]
    [F.Reg (many R.XLT_SHR)] (r : Fin 132) (g : Guard) (b : Fin 32) (s : State) : Leaves F s (execRcreate r g b s) := by
  simp [execRcreate]

@[simp] theorem execRadd_leaves [F.EvParts] [F.Translation] [F.Log] [F.Rings] [F.EvRegs]
    [F.Reg (many R.XLT_SHR)] (r : Fin 132) (g : Guard) (b c : Fin 32) (s : State) :
    Leaves F s (execRadd r g b c s) := by
  simp [execRadd]

@[simp] theorem execRpub_leaves [F.EvParts] [F.Log] [F.Rings] [F.EvRegs] [F.Reg (many R.XLT_SHR)]
    (r : Fin 132) (g : Guard) (b c : Fin 32) (s : State) : Leaves F s (execRpub r g b c s) := by
  simp [execRpub]

@[simp] theorem execRreaders_leaves [F.EvParts] [F.Log] [F.Rings] [F.EvRegs] [F.Reg (many R.XLT_SHR)]
    (r : Fin 132) (g : Guard) (b c : Fin 32) (s : State) : Leaves F s (execRreaders r g b c s) := by
  simp [execRreaders]

@[simp] theorem execRwdraw_leaves [F.Translation] [F.Rings] [F.Trust] (r : Fin 132) (g : Guard) (t : Fin 16)
    (a : Fin 32) (s : State) : Leaves F s (execRwdraw r g t a s) := by
  simp [execRwdraw]

@[simp] theorem execLease_leaves [F.AccParts] [F.Pins] [F.Seals] [F.Log] [F.Rings] [F.Raster]
    [F.Display] [F.Path] [F.Drypoint] [F.Tansy] [F.Leases] [F.PevRegs]
    [F.Reg (one R.DRY_STATUS)] [F.Reg (one R.DSP_DISPLACED)] [F.Reg (one R.PRS_STATUS)] (r : Fin 132) (g : Guard)
    (b c : Fin 32) (s : State) : Leaves F s (execLease r g b c s) := by
  unfold execLease
  grind [setLease_out, smDo_out, smKcs_leaves, endAt_out]

@[simp] theorem execLogapp_leaves [F.EvParts] [F.Log] [F.Rings] [F.EvRegs] (r : Fin 132) (g : Guard)
    (da t : Fin 16) (a : Fin 32) (s : State) : Leaves F s (execLogapp r g da t a s) := by
  simp [execLogapp]

@[simp] theorem execSign_leaves [F.AccParts] [F.Rings] [F.AccRegs] (r : Fin 132) (g : Guard) (da t : Fin 16)
    (s : State) : Leaves F s (execSign r g da t s) := by
  unfold execSign
  grind [State.draw_out, kindA_out, smKcs_leaves, issueDone_out, ringWrite_out, endAt_out]

@[simp] theorem execRandom_leaves [F.Free] [F.Rings] [F.Trust] (r : Fin 132) (g : Guard) (a : Fin 32)
    (s : State) : Leaves F s (execRandom r g a s) := by
  simp [execRandom]

@[simp] theorem wakeRandom_out [F.Free] [F.Rings] [F.Trust] (r : Nat) (s : State) : (wakeRandom r s).out F =
    s.out F := by
  unfold wakeRandom
  grind [State.draw_out, drbgDraw_out, State.setProg_out]

@[simp] theorem execDrbgReseed_leaves [F.Free] [F.Rings] [F.Trust] (s : State) : Leaves F s (execDrbgReseed s)
    := by
  simp [execDrbgReseed]

@[simp] theorem execTrngHealthFailure_leaves [F.EvParts] [F.Trust] [F.EvRegs] (s : State) : Leaves F s
    (execTrngHealthFailure s) := by
  simp [execTrngHealthFailure]

@[simp] theorem execKeySlotUe_leaves [F.AccParts] [F.HeldLow] [F.Pins] [F.Seals] [F.Log]
    [F.Rings] [F.Hatch] [F.Raster] [F.Display] [F.Path] [F.Drypoint] [F.Tansy]
    [F.Leases] [F.Fabric] [F.Trust] [F.PevRegs] [∀ g, F.Reg g] (slot : Fin 32) (s : State) : Leaves F s
    (execKeySlotUe slot s) := by
  simp [execKeySlotUe]

end Sys2Proof.Machine
end

section
/-! SUPPORT. What lies outside the footprint is left. The audit log's commands: records entering the log, checkpoints,
the drain, bank failures, SEALED-HALT and the log's start. -/

namespace Sys2Proof.Machine

variable {F : Foot}

@[simp] theorem runCont_out [F.EvParts] [F.Seals] [F.Log] [F.Rings] [F.Raster] [F.Path]
    [F.Trust] [F.EvRegs] [F.Reg (one R.PRS_INTERRUPTED)] [F.Reg (one R.PRS_PAGES_OK)] [F.Reg (one R.PRS_SPOILED)]
    [F.Reg (many R.SMB_BUF)] [F.Reg (one R.SMB_STATUS)] (c : LogCont) (s : State) : (runCont c s).out F = s.out F := by
  unfold runCont
  split <;> simp

@[simp] theorem haltCont_out [F.Seals] [F.Rings] [F.Raster] [F.Path] [F.Trust]
    [F.Reg (many R.SMB_BUF)] [F.Reg (one R.SMB_STATUS)] (c : LogCont) (s : State) : (haltCont c s).out F = s.out F := by
  unfold haltCont
  grind [removePage_out, pageTally_out, smAnswer_out]

@[simp] theorem logSpace_out [F.Log] [F.Display] [F.Path] (s : State) : (logSpace s).out F = s.out F := by
  simp [logSpace]

@[simp] theorem sealedHalt_out [F.AccParts] [F.HeldLow] [F.Pins] [F.Seals] [F.Log] [F.Rings]
    [F.Hatch] [F.Raster] [F.Display] [F.Path] [F.Drypoint] [F.Tansy] [F.Leases]
    [F.Fabric] [F.Trust] [F.PevRegs] [∀ g, F.Reg g] (waits : List LogRec) (s : State) :
    (sealedHalt waits s).out F = s.out F := by
  simp [sealedHalt]

@[simp] theorem bankCorrected_out [F.Reg (one R.LOG_ECC)] (ceA ceB : Byte) (s : State) : (bankCorrected ceA ceB s).out F
    = s.out F := by
  simp [bankCorrected]

@[simp] theorem execLogRecordAppend_leaves [F.AccParts] [F.HeldLow] [F.Power] [F.Pins] [F.Seals]
    [F.Log] [F.Rings] [F.Hatch] [F.Raster] [F.Display] [F.Path] [F.Drypoint]
    [F.Tansy] [F.Leases] [F.Fabric] [F.Trust] [F.PevRegs] [∀ g, F.Reg g] (okA okB : Bool)
    (ceA ceB : Byte) (s : State) : Leaves F s (execLogRecordAppend okA okB ceA ceB s) := by
  unfold execLogRecordAppend
  dsimp only
  split
  · simp
  · split <;> simp

@[simp] theorem execCheckpointSigned_leaves [F.EvParts] [F.Free] [F.Log] [F.EvRegs] (s : State) : Leaves F s
    (execCheckpointSigned s) := by
  unfold execCheckpointSigned
  split <;> simp

@[simp] theorem execTombstoneFinal_leaves [F.AccParts] [F.HeldLow] [F.Pins] [F.Seals] [F.Log]
    [F.Rings] [F.Hatch] [F.Raster] [F.Display] [F.Path] [F.Drypoint] [F.Tansy]
    [F.Leases] [F.Fabric] [F.Trust] [F.PevRegs] [∀ g, F.Reg g] (s : State) : Leaves F s
    (execTombstoneFinal s) := by
  unfold execTombstoneFinal
  split <;> simp

@[simp] theorem recordsEvent_out [F.EvParts] [F.Log] [F.EvRegs] (s : State) : (recordsEvent s).out F = s.out F := by
  unfold recordsEvent
  split <;> simp

@[simp] theorem execLogRecords_leaves [F.EvParts] [F.Log] [F.EvRegs] (s : State) : Leaves F s (execLogRecords s) := by
  simp [execLogRecords]

@[simp] theorem drainBankFails_out [F.AccParts] [F.HeldLow] [F.Power] [F.Pins] [F.Seals]
    [F.Log] [F.Rings] [F.Hatch] [F.Raster] [F.Display] [F.Path] [F.Drypoint]
    [F.Tansy] [F.Leases] [F.Fabric] [F.Trust] [F.PevRegs] [∀ g, F.Reg g] (bank seq : Nat)
    (s : State) : (drainBankFails bank seq s).out F = s.out F := by
  simp [drainBankFails]

@[simp] theorem drainRead_out [F.AccParts] [F.HeldLow] [F.Power] [F.Pins] [F.Seals] [F.Log]
    [F.Rings] [F.Hatch] [F.Raster] [F.Display] [F.Path] [F.Drypoint] [F.Tansy]
    [F.Leases] [F.Fabric] [F.Trust] [F.PevRegs] [∀ g, F.Reg g] (okA okB : Bool) (seq : Nat) (s : State) :
    (drainRead okA okB seq s).out F = s.out F := by
  simp [drainRead]

@[simp] theorem execDrainCopy_leaves [F.AccParts] [F.HeldLow] [F.Power] [F.Pins] [F.Seals]
    [F.Log] [F.Rings] [F.Hatch] [F.Raster] [F.Display] [F.Path] [F.Drypoint]
    [F.Tansy] [F.Leases] [F.Fabric] [F.Trust] [F.PevRegs] [∀ g, F.Reg g] (okA okB dma : Bool)
    (ceA ceB : Byte) (s : State) : Leaves F s (execDrainCopy okA okB dma ceA ceB s) := by
  unfold execDrainCopy
  dsimp only
  split <;> simp

@[simp] theorem retireTo_out [F.EvParts] [F.Log] [F.Display] [F.Path] [F.EvRegs] (h : Nat) (s : State) :
    (retireTo h s).out F = s.out F := by
  simp [retireTo]

@[simp] theorem drainHeadWrite_out [F.EvParts] [F.Log] [F.Display] [F.Path] [F.EvRegs]
    [F.Reg (one R.LOG_DRAIN_HEAD)] [F.Reg (one R.LOG_DRAIN_STATUS)] (v : Nat) (s : State) : (drainHeadWrite v s).out F =
    s.out F := by
  simp [drainHeadWrite]

@[simp] theorem execLogDrainHeadWrite_leaves [F.EvParts] [F.Log] [F.Display] [F.Path] [F.EvRegs]
    [F.Reg (one R.LOG_DRAIN_HEAD)] [F.Reg (one R.LOG_DRAIN_STATUS)] (v : W32) (s : State) : Leaves F s
    (execLogDrainHeadWrite v s) := by
  simp [execLogDrainHeadWrite]

@[simp] theorem drainCfgWrite_out [F.PevRegs] [∀ g, F.Reg g] (v : Nat) (s : State) : (drainCfgWrite v s).out F =
    s.out F := by
  simp [drainCfgWrite]

@[simp] theorem execDrainEnable_leaves [F.PevRegs] [∀ g, F.Reg g] (size : BitVec 5) (s : State) : Leaves F s
    (execDrainEnable size s) := by
  simp [execDrainEnable]

@[simp] theorem execDrainDisable_leaves [F.PevRegs] [∀ g, F.Reg g] (s : State) : Leaves F s (execDrainDisable s) := by
  simp [execDrainDisable]

@[simp] theorem execViolationAggregate_leaves [F.EvParts] [F.Translation] [F.Log] [F.EvRegs] (s : State) : Leaves F
    s (execViolationAggregate s) := by
  simp [execViolationAggregate]

@[simp] theorem startHalt_out [F.AccParts] [F.HeldLow] [F.Power] [F.Pins] [F.Seals] [F.Log]
    [F.Rings] [F.Hatch] [F.Raster] [F.Display] [F.Path] [F.Drypoint] [F.Tansy]
    [F.Leases] [F.Fabric] [F.Trust] [F.PevRegs] [∀ g, F.Reg g] (s : State) : (startHalt s).out F =
    s.out F := by
  simp [startHalt]

@[simp] theorem startRecords_out [F.EvParts] [F.Free] [F.Log] [F.EvRegs] (newA newB : Bool) (s : State) :
    (startRecords newA newB s).out F = s.out F := by
  unfold startRecords
  dsimp only
  rw [checkNearFull_out, State.each_out, State.out_ite, logSubmit_out, ite_self, logSubmit_out,
    State.each_out, State.out_log]
  · intro r t
    split <;> simp
  · simp

@[simp] theorem execLogStartRecords_leaves [F.AccParts] [F.HeldLow] [F.Power] [F.Pins] [F.Seals]
    [F.Log] [F.Rings] [F.Hatch] [F.Raster] [F.Display] [F.Path] [F.Drypoint]
    [F.Tansy] [F.Leases] [F.Fabric] [F.Trust] [F.PevRegs] [∀ g, F.Reg g]
    (okA okB chainA chainB : Bool) (s : State) : Leaves F s (execLogStartRecords okA okB chainA chainB s) := by
  simp [execLogStartRecords]

end Sys2Proof.Machine
end

section
/-! SUPPORT. What lies outside the footprint is left. Steward commands but for register accesses: sessions, reason
codes, and each command's effect. -/

namespace Sys2Proof.Machine

variable {F : Foot}

@[simp] theorem steward_leaves [F.Trust] [F.Reg (many R.SMB_BUF)] [F.Reg (one R.SMB_STATUS)] {q : StewReq}
    {cmd : Nat} {haltOk : Bool} {body : State → Except (Nat × Nat) State} {s : State} (h : LeavesOk F s (body s)) :
    Leaves F s (steward q cmd haltOk body s) := by
  obtain hs | ⟨st, d, hs⟩ | ⟨t, ht, hs⟩ := steward_cases q cmd haltOk body s
  · simp [hs]
  · simp [hs]
  · simp [hs, h t ht]

@[simp] theorem logged_leaves [F.EvParts] [F.Log] [F.EvRegs] {run : State → State} {s : State}
    (h : (run s).out F = s.out F) : LeavesOk F s (logged run s) := by
  simp [logged, h]

@[simp] theorem malformed_leaves (s : State) (reason : Nat) : LeavesOk F s (malformed reason) := leavesOk_error _

@[simp] theorem okNow_leaves [F.Trust] [F.Reg (many R.SMB_BUF)] [F.Reg (one R.SMB_STATUS)] (q : StewReq)
    (cmd : Nat) (results : List Byte) {s t : State} : LeavesOk F s (okNow q cmd results t) ↔ t.out F = s.out F := by
  simp [okNow]

@[simp] theorem takeOwner_out [F.EvParts] [F.Log] [F.Trust] [F.EvRegs] (o : OwnerRec) (cont : LogCont)
    (s : State) : (takeOwner o cont s).out F = s.out F := by
  simp [takeOwner]

@[simp] theorem execOwnerClaim_leaves [F.EvParts] [F.Log] [F.Trust] [F.EvRegs] [F.Reg (many R.SMB_BUF)]
    [F.Reg (one R.SMB_STATUS)] (q : StewReq) (anchor : BitVec 384) (roots : List (BitVec 384)) (ok : Bool) (s : State) :
    Leaves F s (execOwnerClaim q anchor roots ok s) := by
  unfold execOwnerClaim
  refine leaves_of_ite (by simp) (steward_leaves ?_)
  dsimp only
  split_ifs
  · simp
  · simp
  · simp
  · exact logged_leaves (by simp)

@[simp] theorem execOwnerSet_leaves [F.EvParts] [F.Log] [F.Trust] [F.EvRegs] [F.Reg (many R.SMB_BUF)]
    [F.Reg (one R.SMB_STATUS)] (q : StewReq) (anchor : BitVec 384) (roots : List (BitVec 384)) (ok : Bool) (s : State) :
    Leaves F s (execOwnerSet q anchor roots ok s) := by
  unfold execOwnerSet
  refine leaves_of_ite (by simp) (steward_leaves ?_)
  split
  · simp
  · exact leavesOk_of_ite (by simp) (logged_leaves (by simp))

@[simp] theorem execPartForm_leaves [F.EvParts] [F.Translation] [F.Log] [F.Trust] [F.EvRegs]
    [F.Reg (many R.SMB_BUF)] [F.Reg (one R.SMB_LIFECYCLE)] [F.Reg (one R.SMB_STATUS)] (q : StewReq) (p : Byte)
    (s : State) : Leaves F s (execPartForm q p s) := by
  simp [execPartForm]

@[simp] theorem execPartSeal_leaves [F.EvParts] [F.Log] [F.Trust] [F.EvRegs] [F.Reg (many R.SMB_BUF)]
    [F.Reg (one R.SMB_LIFECYCLE)] [F.Reg (one R.SMB_STATUS)] (q : StewReq) (p : Byte) (s : State) : Leaves F s
    (execPartSeal q p s) := by
  simp [execPartSeal]

@[simp] theorem execPartReset_leaves [F.AccParts] [F.HeldLow] [F.Pins] [F.Seals] [F.Log]
    [F.Rings] [F.Hatch] [F.Raster] [F.Display] [F.Path] [F.Drypoint] [F.Tansy]
    [F.Leases] [F.Fabric] [F.Trust] [F.PevRegs] [∀ g, F.Reg g] (q : StewReq) (p : Byte) (s : State) :
    Leaves F s (execPartReset q p s) := by
  simp [execPartReset]

@[simp] theorem execPartTear_leaves [F.AccParts] [F.HeldLow] [F.Pins] [F.Seals] [F.Log]
    [F.Rings] [F.Hatch] [F.Raster] [F.Display] [F.Path] [F.Drypoint] [F.Tansy]
    [F.Leases] [F.Fabric] [F.Trust] [F.PevRegs] [∀ g, F.Reg g] (q : StewReq) (p : Byte) (s : State) :
    Leaves F s (execPartTear q p s) := by
  simp [execPartTear]

@[simp] theorem execGranAssign_leaves [F.EvParts] [F.Translation] [F.Log] [F.Trust] [F.EvRegs]
    [F.Reg (many R.SMB_BUF)] [F.Reg (one R.SMB_STATUS)] (q : StewReq) (p : Byte) (first count : BitVec 16) (s : State) :
    Leaves F s (execGranAssign q p first count s) := by
  simp [execGranAssign]

@[simp] theorem execGranRelease_leaves [F.EvParts] [F.Translation] [F.Log] [F.Trust] [F.EvRegs]
    [F.Reg (many R.SMB_BUF)] [F.Reg (one R.SMB_STATUS)] (q : StewReq) (first count : BitVec 16) (s : State) : Leaves F s
    (execGranRelease q first count s) := by
  refine steward_leaves (leavesOk_of_ite (by simp) ?_)
  split
  · split_ifs <;> simp
  · simp

@[simp] theorem execRegionCreate_leaves [F.EvParts] [F.Translation] [F.Log] [F.Trust] [F.EvRegs]
    [F.Reg (many R.SMB_BUF)] [F.Reg (one R.SMB_STATUS)] [F.Reg (many R.XLT_SHR)] (q : StewReq) (n : Byte) (s : State) :
    Leaves F s (execRegionCreate q n s) := by
  simp [execRegionCreate]

@[simp] theorem execRegionAdd_leaves [F.EvParts] [F.Translation] [F.Log] [F.Trust] [F.EvRegs]
    [F.Reg (many R.SMB_BUF)] [F.Reg (one R.SMB_STATUS)] [F.Reg (many R.XLT_SHR)] (q : StewReq) (n : Byte)
    (first count : BitVec 16) (s : State) : Leaves F s (execRegionAdd q n first count s) := by
  simp [execRegionAdd]

@[simp] theorem loadRegion_out [F.AccParts] [F.AccRegs] (gs : List Nat) (k off : Nat) (data : List Byte) (s : State) :
    (loadRegion gs k off data s).2.out F = s.out F := by
  induction k generalizing off data s with
  | zero => rfl
  | succ k ih =>
    unfold loadRegion
    dsimp only
    split_ifs <;> simp [ih]

@[simp] theorem execRegionLoad_leaves [F.AccParts] [F.Log] [F.Trust] [F.AccRegs] [F.Reg (many R.SMB_BUF)]
    [F.Reg (one R.SMB_STATUS)] (q : StewReq) (n : Byte) (off len : W64) (host : Bool) (data : Option (List Byte))
    (s : State) : Leaves F s (execRegionLoad q n off len host data s) := by
  unfold execRegionLoad
  refine leaves_of_ite (by simp) (steward_leaves ?_)
  refine leavesOk_of_ite (by simp) (leavesOk_of_ite (by simp)
    (leavesOk_of_ite (by simp) (leavesOk_of_ite (by simp) ?_)))
  split
  · simp
  · rename_i d
    have h := loadRegion_out (F := F) (s.granulesWhere fun x => x == .shared n.toNat)
      ((s.granulesWhere fun x => x == .shared n.toNat).length + 1) off.toNat d s
    refine leavesOk_of_ite (by simp) ?_
    split <;> simp_all

@[simp] theorem execRegionPublish_leaves [F.EvParts] [F.Log] [F.Trust] [F.EvRegs] [F.Reg (many R.SMB_BUF)]
    [F.Reg (one R.SMB_STATUS)] [F.Reg (many R.XLT_SHR)] (q : StewReq) (n : Byte) (readers : BitVec 16) (s : State) :
    Leaves F s (execRegionPublish q n readers s) := by
  simp [execRegionPublish]

@[simp] theorem execRegionReaders_leaves [F.EvParts] [F.Log] [F.Trust] [F.EvRegs] [F.Reg (many R.SMB_BUF)]
    [F.Reg (one R.SMB_STATUS)] [F.Reg (many R.XLT_SHR)] (q : StewReq) (n : Byte) (readers : BitVec 16) (s : State) :
    Leaves F s (execRegionReaders q n readers s) := by
  simp [execRegionReaders]

@[simp] theorem execRegionWithdraw_leaves [F.EvParts] [F.Translation] [F.Log] [F.Trust] [F.EvRegs]
    [F.Reg (many R.SMB_BUF)] [F.Reg (one R.SMB_STATUS)] (q : StewReq) (n : Byte) (s : State) : Leaves F s
    (execRegionWithdraw q n s) := by
  simp [execRegionWithdraw]

@[simp] theorem execStewardLease_leaves [F.AccParts] [F.Pins] [F.Seals] [F.Log] [F.Rings]
    [F.Raster] [F.Display] [F.Path] [F.Drypoint] [F.Tansy] [F.Leases] [F.Trust]
    [F.PevRegs] [F.Reg (one R.DRY_STATUS)] [F.Reg (one R.DSP_DISPLACED)] [F.Reg (one R.PRS_STATUS)]
    [F.Reg (many R.SMB_BUF)] [F.Reg (one R.SMB_STATUS)] (q : StewReq) (res holder : Byte) (s : State) : Leaves F s
    (execStewardLease q res holder s) := by
  refine steward_leaves (leavesOk_of_ite (by simp) ?_)
  split <;> simp

@[simp] theorem execViolRead_leaves [F.Trust] [F.Reg (many R.SMB_BUF)] [F.Reg (one R.SMB_STATUS)] (q : StewReq)
    (p : Byte) (s : State) : Leaves F s (execViolRead q p s) := by
  simp [execViolRead]

@[simp] theorem execViolClear_leaves [F.Translation] [F.Trust] [F.Reg (many R.SMB_BUF)] [F.Reg (one R.SMB_STATUS)]
    (q : StewReq) (p : Byte) (s : State) : Leaves F s (execViolClear q p s) := by
  simp [execViolClear]

@[simp] theorem execRepairRead_leaves [F.Trust] [F.Reg (many R.SMB_BUF)] [F.Reg (one R.SMB_STATUS)] (q : StewReq)
    (first : W32) (s : State) : Leaves F s (execRepairRead q first s) := by
  simp [execRepairRead]

@[simp] theorem execRepairDelete_leaves [F.Repair] [F.Trust] [F.Reg (many R.SMB_BUF)] [F.Reg (one R.SMB_STATUS)]
    (q : StewReq) (type : Byte) (loc : W64) (s : State) : Leaves F s (execRepairDelete q type loc s) := by
  refine steward_leaves ?_
  split <;> simp

@[simp] theorem execMmioGrant_leaves [F.Trust] [F.Reg (many R.SMB_BUF)] [F.Reg (one R.SMB_STATUS)] (q : StewReq)
    (stream : BitVec 16) (s : State) : Leaves F s (execMmioGrant q stream s) := by
  simp [execMmioGrant]

@[simp] theorem firmware_leaves [F.Trust] [F.Reg (many R.SMB_BUF)] [F.Reg (one R.SMB_STATUS)] {q : StewReq}
    {cmd : Nat} {body : State → Except (Nat × Nat) State} {s : State} (h : LeavesOk F s (body s)) : Leaves F s
    (firmware q cmd body s) := by
  unfold firmware
  split_ifs
  · simp
  · split
    · simp [h _ ‹_›]
    · simp
  · exact steward_leaves h

@[simp] theorem execFwStage_leaves [F.Trust] [F.Reg (many R.SMB_BUF)] [F.Reg (one R.SMB_STATUS)] (q : StewReq)
    (off : W32) (data : List Byte) (s : State) : Leaves F s (execFwStage q off data s) := by
  simp [execFwStage]

@[simp] theorem writeFlash_out [F.Trust] (cs : Nat) (s : State) : (writeFlash cs s).out F = s.out F := by
  simp [writeFlash]

@[simp] theorem execFwCommit_leaves [F.EvParts] [F.Log] [F.Trust] [F.EvRegs] [F.Reg (many R.SMB_BUF)]
    [F.Reg (one R.SMB_STATUS)] (q : StewReq) (second first : Bool) (s : State) : Leaves F s
    (execFwCommit q second first s) := by
  refine firmware_leaves ?_
  refine leavesOk_of_ite (by simp) (leavesOk_of_ite (by simp)
    (leavesOk_of_ite (by simp) (leavesOk_of_ite (by simp) ?_)))
  exact leavesOk_of_ite (by simp) (by simp)

@[simp] theorem execTombstoneRead_leaves [F.Trust] [F.Reg (many R.SMB_BUF)] [F.Reg (one R.SMB_STATUS)]
    (q : StewReq) (s : State) : Leaves F s (execTombstoneRead q s) := by
  simp [execTombstoneRead]

@[simp] theorem execTombstoneClear_leaves [F.EvParts] [F.Log] [F.Trust] [F.EvRegs]
    [F.Reg (many R.LOG_TOMBSTONE)] [F.Reg (many R.SMB_BUF)] [F.Reg (one R.SMB_STATUS)] (q : StewReq) (s : State) :
    Leaves F s (execTombstoneClear q s) := by
  refine steward_leaves ?_
  split
  · simp
  · exact leavesOk_of_ite (by simp) (logged_leaves (by simp))

@[simp] theorem execNodeReset_leaves [F.AccParts] [F.Power] [F.Pins] [F.Seals] [F.Log]
    [F.Raster] [F.Path] [F.Drypoint] [F.Trust] [F.PevRegs] [F.Reg (one R.CKR_RST_CAUSE)]
    [F.Reg (one R.DRY_STATUS)] [F.Reg (many R.SMB_BUF)] [F.Reg (one R.SMB_STATUS)] (q : StewReq) (code : BitVec 16)
    (lost : Bool) (s : State) : Leaves F s (execNodeReset q code lost s) := by
  refine steward_leaves (leavesOk_of_ite (by simp) (leavesOk_of_ite (by simp) ?_))
  simp

end Sys2Proof.Machine
end

section
/-! SUPPORT. What lies outside the footprint is left. The SMB mailbox, SPDM sessions and measurements, TDISP, IDE
streams and peer admission. -/

namespace Sys2Proof.Machine

variable {F : Foot}

@[simp] theorem smbGo_out [F.Trust] [F.Reg (many R.SMB_BUF)] [F.Reg (one R.SMB_STATUS)] (sess : Option Nat)
    (s : State) : (smbGo sess s).out F = s.out F := by
  simp [smbGo]

@[simp] theorem smbAbort_out [F.Trust] [F.Reg (one R.SMB_STATUS)] (s : State) : (smbAbort s).out F = s.out F := by
  simp [smbAbort]

@[simp] theorem execSmbGo_leaves [F.Trust] [F.Reg (many R.SMB_BUF)] [F.Reg (one R.SMB_STATUS)] (sess : Option Nat)
    (s : State) : Leaves F s (execSmbGo sess s) := by
  simp [execSmbGo]

@[simp] theorem execSmbAbort_leaves [F.Trust] [F.Reg (one R.SMB_STATUS)] (s : State) : Leaves F s (execSmbAbort s)
    := by
  simp [execSmbAbort]

@[simp] theorem smSend_out [F.Trust] (sess : Option Nat) (o : SmOut) (s : State) : (smSend sess o s).out F =
    s.out F := by
  simp [smSend]

@[simp] theorem execGetMeasurements_leaves [F.Trust] (sess : Option Nat) (s : State) : Leaves F s
    (execGetMeasurements sess s) := by
  simp [execGetMeasurements]

@[simp] theorem execSpdmFragment_leaves [F.AccParts] [F.HeldLow] [F.Log] [F.Rings] [F.Tansy]
    [F.Fabric] [F.Trust] [F.Test] [F.PevRegs] [∀ g, F.Reg g] (k : Fin 6) (p : Packet) (s : State) :
    Leaves F s (execSpdmFragment k p s) := by
  simp [execSpdmFragment]

@[simp] theorem execSpdmSessionEstablished_leaves [F.Fabric] [F.Trust] (id : W32) (transport : Fin 5)
    (link : Fin 6) (mutualAuth : Bool) (root : BitVec 384) (digests : List (BitVec 384)) (s : State) : Leaves F s
    (execSpdmSessionEstablished id transport link mutualAuth root digests s) := by
  simp [execSpdmSessionEstablished]

@[simp] theorem execSpdmSessionEnd_leaves [F.EvParts] [F.HeldLow] [F.Fabric] [F.Trust] [F.Test]
    [F.PevRegs] [∀ g, F.Reg g] (id : W32) (s : State) : Leaves F s (execSpdmSessionEnd id s) := by
  unfold execSpdmSessionEnd
  split <;> simp

@[simp] theorem tdisp_leaves [F.Trust] {sess : W32} {body : State → Bool × State} {s : State}
    (h : (body s).2.out F = s.out F) : Leaves F s (tdisp sess body s) := by
  unfold tdisp
  split
  · simp
  · split_ifs <;> simp [h]

@[simp] theorem execLockInterface_leaves [F.Trust] [F.Reg (one R.SMB_TDI)] (sess : W32) (p : Fin 16) (s : State) :
    Leaves F s (execLockInterface sess p s) := by
  unfold execLockInterface
  grind [State.setTdi_out, tdisp_leaves]

@[simp] theorem execStartInterface_leaves [F.Trust] [F.Reg (one R.SMB_TDI)] (sess : W32) (p : Fin 16) (s : State) :
    Leaves F s (execStartInterface sess p s) := by
  unfold execStartInterface
  grind [State.setTdi_out, tdisp_leaves]

@[simp] theorem execStopInterface_leaves [F.AccParts] [F.HeldLow] [F.Pins] [F.Seals] [F.Log]
    [F.Rings] [F.Hatch] [F.Raster] [F.Display] [F.Path] [F.Drypoint] [F.Tansy]
    [F.Leases] [F.Fabric] [F.Trust] [F.PevRegs] [∀ g, F.Reg g] (sess : W32) (p : Fin 16) (s : State) :
    Leaves F s (execStopInterface sess p s) := by
  unfold execStopInterface
  grind [State.setTdi_out, partitionReset_out, tdisp_leaves]

@[simp] theorem execGetDeviceInterfaceReport_leaves [F.Trust] (sess : W32) (p : Fin 16) (s : State) : Leaves F s
    (execGetDeviceInterfaceReport sess p s) := by
  unfold execGetDeviceInterfaceReport
  split <;> simp

@[simp] theorem execIdeIntegrityFailure_leaves [F.AccParts] [F.HeldLow] [F.Pins] [F.Seals] [F.Log]
    [F.Rings] [F.Hatch] [F.Raster] [F.Display] [F.Path] [F.Drypoint] [F.Tansy]
    [F.Leases] [F.Fabric] [F.PevRegs] [∀ g, F.Reg g] (p : Fin 16) (s : State) : Leaves F s
    (execIdeIntegrityFailure p s) := by
  simp [execIdeIntegrityFailure]

@[simp] theorem endStreams_out [F.Trust] (f : IdeStream → Bool) (s : State) : (endStreams f s).out F = s.out F := by
  simp [endStreams]

@[simp] theorem execIdeKm_leaves [F.Trust] (sess : W32) (op : Fin 3) (stream : Byte) (s : State) : Leaves F s
    (execIdeKm sess op stream s) := by
  unfold execIdeKm
  grind [State.out_trust, endStreams_out, tdisp_leaves]

@[simp] theorem admitWrite_out [F.PevRegs] [∀ g, F.Reg g] (p i j v : Nat) (s : State) : (admitWrite p i j v s).out F =
    s.out F := by
  simp [admitWrite]

@[simp] theorem execPwAdmitWrite_leaves [F.PevRegs] [∀ g, F.Reg g] (p i : Fin 16) (j : Fin 7) (v : W64) (s : State) :
    Leaves F s (execPwAdmitWrite p i j v s) := by
  simp [execPwAdmitWrite]

end Sys2Proof.Machine
end

section
/-! SUPPORT. What lies outside the footprint is left. The host side and the sideband: PCIe link and functions, MSI-X,
event queues, I3C and MCTP, power and temperature. -/

namespace Sys2Proof.Machine

variable {F : Foot}

@[simp] theorem evtCfgWrite_out [F.Events] [F.PevRegs] [∀ g, F.Reg g] (v : Nat) (s : State) : (evtCfgWrite v s).out F =
    s.out F := by
  refine out_of_ite ?_ (by simp)
  exact (State.out_evt ..).trans (by simp)

@[simp] theorem partEvtCfgWrite_out [F.Events] [F.PevRegs] [∀ g, F.Reg g] (p v : Nat) (s : State) :
    (partEvtCfgWrite p v s).out F = s.out F := by
  simp [partEvtCfgWrite]

@[simp] theorem queueHead_out {head err : Fld} (hHead : F.reg head.key) (hErr : F.reg err.key) (tail : Fld) (v : Nat)
    (s : State) : (queueHead head tail err v s).out F = s.out F := by
  simp [queueHead, hHead, hErr]

@[simp] theorem evtHeadWrite_out [F.Reg (one R.EVT_Q_HEAD)] [F.Reg (one R.EVT_Q_STATUS)] (v : Nat) (s : State) :
    (evtHeadWrite v s).out F = s.out F := by
  simp [evtHeadWrite]

@[simp] theorem partEvtHeadWrite_out [F.Reg (many R.PW_EVT_Q_HEAD)] [F.Reg (many R.PW_EVT_Q_STATUS)] (p v : Nat)
    (s : State) : (partEvtHeadWrite p v s).out F = s.out F := by
  simp [partEvtHeadWrite]

@[simp] theorem execEvtQEnable_leaves [F.Events] [F.PevRegs] [∀ g, F.Reg g] (part : Option (Fin 16)) (size : BitVec 5)
    (ctx : BitVec 12) (s : State) : Leaves F s (execEvtQEnable part size ctx s) := by
  unfold execEvtQEnable
  split <;> simp

@[simp] theorem execEvtQHeadWrite_leaves [F.Reg (one R.EVT_Q_HEAD)] [F.Reg (one R.EVT_Q_STATUS)]
    [F.Reg (many R.PW_EVT_Q_HEAD)] [F.Reg (many R.PW_EVT_Q_STATUS)] (part : Option (Fin 16)) (v : W32) (s : State) :
    Leaves F s (execEvtQHeadWrite part v s) := by
  unfold execEvtQHeadWrite
  split <;> simp

@[simp] theorem flushVector_out [F.ToHost] [F.PbaRegs] (fn vec : Nat) (s : State) : (flushVector fn vec s).out F =
    s.out F := by
  simp [flushVector, reg_msixPba]

@[simp] theorem flushVectors_out [F.ToHost] [F.PbaRegs] (s : State) : (flushVectors s).out F = s.out F := by
  simp [flushVectors]

@[simp] theorem msixWrite_out [F.ToHost] [F.PevRegs] [∀ g, F.Reg g] (fn word v : Nat) (s : State) :
    (msixWrite fn word v s).out F = s.out F := by
  simp [msixWrite]

@[simp] theorem execMsixUnmask_leaves [F.ToHost] [F.PevRegs] [∀ g, F.Reg g] (fn : Fin 17) (vec : Fin 64) (s : State) :
    Leaves F s (execMsixUnmask fn vec s) := by
  simp [execMsixUnmask]

@[simp] theorem resetFunction_out [F.HeldLow] [F.Events] [F.PevRegs] [∀ g, F.Reg g] (fn : Nat) (s : State) :
    (resetFunction fn s).out F = s.out F := by
  simp [resetFunction]

@[simp] theorem resetPf0_out [F.HeldLow] [F.Events] [F.Trust] [F.PevRegs] [∀ g, F.Reg g] (s : State) :
    (resetPf0 s).out F = s.out F := by
  simp [resetPf0]

@[simp] theorem execPciePerstNAssert_leaves [F.HeldLow] [F.Power] [F.Events] [F.Trust] [F.PevRegs]
    [∀ g, F.Reg g] (s : State) : Leaves F s (execPciePerstNAssert s) := by
  simp [execPciePerstNAssert]

@[simp] theorem execPcieLinkUp_leaves [F.Power] [F.Events] [F.ToHost] [F.PbaRegs] [F.Reg (one R.HIF_LINK)]
    (width : BitVec 6) (speed : BitVec 4) (numVfs : Fin 17) (vfMse : Bool) (enabled masked : List (Fin 17)) (s : State)
    : Leaves F s (execPcieLinkUp width speed numVfs vfMse enabled masked s) := by
  simp [execPcieLinkUp]

@[simp] theorem execPcieLinkDown_leaves [F.Power] (s : State) : Leaves F s (execPcieLinkDown s) := by
  simp [execPcieLinkDown]

@[simp] theorem execVfFlr_leaves [F.AccParts] [F.HeldLow] [F.Pins] [F.Seals] [F.Log] [F.Rings]
    [F.Hatch] [F.Raster] [F.Display] [F.Path] [F.Drypoint] [F.Tansy] [F.Leases]
    [F.Fabric] [F.PevRegs] [∀ g, F.Reg g] (p : Fin 16) (s : State) : Leaves F s (execVfFlr p s) := by
  simp [execVfFlr]

@[simp] theorem execPf0Flr_leaves [F.HeldLow] [F.Events] [F.Trust] [F.PevRegs] [∀ g, F.Reg g] (s : State) :
    Leaves F s (execPf0Flr s) := by
  simp [execPf0Flr]

@[simp] theorem execI3cCcc_leaves [F.Events] (c : I3cCcc) (s : State) : Leaves F s (execI3cCcc c s) := by
  unfold execI3cCcc
  split <;> simp

@[simp] theorem mctpSend_out [F.Events] (transport type : Nat) (b : List Byte) (s : State) :
    (mctpSend transport type b s).out F = s.out F := by
  simp [mctpSend]

@[simp] theorem telemetry_out [F.Events] (transport : Nat) (s : State) : (telemetry transport s).out F = s.out F := by
  simp [telemetry]

@[simp] theorem alertAck_out [F.Events] (transport : Nat) (s : State) : (alertAck transport s).out F = s.out F := by
  simp [alertAck]

@[simp] theorem onTransport_leaves {t : Fin 3} {f : State → State} {s : State} (h : (f s).out F = s.out F) : Leaves F s
    (onTransport t f s) := by
  simp [onTransport, h]

@[simp] theorem execTelemetry_leaves [F.Events] (t : Fin 3) (s : State) : Leaves F s (execTelemetry t s) := by
  simp [execTelemetry]

@[simp] theorem execAlertAck_leaves [F.Events] (t : Fin 3) (s : State) : Leaves F s (execAlertAck t s) := by
  simp [execAlertAck]

@[simp] theorem execMctpMessage_leaves [F.Events] [F.Trust] (t : Fin 3) (m : MctpMsg) (s : State) : Leaves F s
    (execMctpMessage t m s) := by
  unfold execMctpMessage
  split <;> simp

@[simp] theorem execAvsCurrentRead_leaves [F.Reg (one R.PWR_POWER)] (current : BitVec 16) (s : State) : Leaves F s
    (execAvsCurrentRead current s) := by
  simp [execAvsCurrentRead]

@[simp] theorem evalThrottle_out [F.EvParts] [F.EvRegs] [F.Reg (one R.PWR_THERM_STATUS)] (s : State) :
    (evalThrottle s).out F = s.out F := by
  simp [evalThrottle]

@[simp] theorem evalWarn_out [F.EvParts] [F.EvRegs] [F.Reg (one R.PWR_THERM_STATUS)] (hadValid : Bool) (s : State) :
    (evalWarn hadValid s).out F = s.out F := by
  unfold evalWarn
  split <;> simp

@[simp] theorem takeReadings_out [F.Reg (many R.PWR_TEMP)] [F.Reg (one R.PWR_THERM_STATUS)]
    (rs : List (Option (BitVec 12))) (s : State) : (takeReadings rs s).out F = s.out F := by
  unfold takeReadings
  extract_lets u good
  have h : u.out F = s.out F := by
    refine State.each_out _ _ _ fun x t => ?_
    split <;> simp
  clear_value u good
  split <;> simp [h]

@[simp] theorem execSensorUpdate_leaves [F.MemParts] [F.Captures] [F.HeldLow] [F.Power] [F.Clocks]
    [F.Translation] [F.Pins] [F.Seals] [F.Log] [F.Rings] [F.Hatch] [F.Raster]
    [F.Display] [F.Path] [F.Drypoint] [F.Tansy] [F.Leases] [F.Fabric] [F.Trust]
    [F.Test] [F.PevRegs] [∀ g, F.Reg g] (rs : List (Option (BitVec 12))) (s : State) : Leaves F s
    (execSensorUpdate rs s) := by
  simp [execSensorUpdate]

@[simp] theorem execProchotNChange_leaves [F.EvParts] [F.Power] [F.EvRegs] [F.Reg (one R.PWR_THERM_STATUS)]
    (low held : Bool) (s : State) : Leaves F s (execProchotNChange low held s) := by
  simp [execProchotNChange]

end Sys2Proof.Machine
end

section
/-! SUPPORT. What lies outside the footprint is left. The test island: the TAP and pad control, and test jobs. -/

namespace Sys2Proof.Machine

variable {F : Foot}

@[simp] theorem setIr_out [F.Test] (op : Nat) (s : State) : (setIr op s).out F = s.out F := by
  simp [setIr]

@[simp] theorem padEvent_out [F.EvParts] [F.EvRegs] (op enter : Nat) (s : State) : (padEvent op enter s).out F =
    s.out F := by
  simp [padEvent]

@[simp] theorem dpLost_out [F.Reg (one R.DSP_STATUS)] (s : State) : (dpLost s).out F = s.out F := by
  simp [dpLost]

@[simp] theorem enterPads_out [F.AccParts] [F.Power] [F.Clocks] [F.Pins] [F.Path] [F.Drypoint]
    [F.Fabric] [F.Trust] [F.Test] [F.PevRegs] [F.Reg (one R.DRY_STATUS)] [F.Reg (one R.DSP_STATUS)]
    [F.Reg (many R.FP_DOWNS)] [F.Reg (many R.FP_DOWN_CAUSE)] [F.Reg (many R.FP_STATUS)] [F.Reg (many R.FP_UNROUTABLE)]
    [F.Reg (many R.MC_STATUS)] [F.Reg (one R.PRS_STATUS)] [F.Reg (one R.TOPO_SRL_STATUS)] [F.Reg (one R.TOPO_STATUS)]
    (op : Nat) (s : State) : (enterPads op s).out F = s.out F := by
  simp [enterPads]

@[simp] theorem leavePads_out [F.EvParts] [F.Clocks] [F.Path] [F.Test] [F.EvRegs] (s : State) :
    (leavePads s).out F = s.out F := by
  unfold leavePads
  split <;> simp

@[simp] theorem execTapInstruction_leaves [F.AccParts] [F.Power] [F.Clocks] [F.Pins] [F.Path]
    [F.Drypoint] [F.Fabric] [F.Trust] [F.Test] [F.PevRegs] [F.Reg (one R.DRY_STATUS)]
    [F.Reg (one R.DSP_STATUS)] [F.Reg (many R.FP_DOWNS)] [F.Reg (many R.FP_DOWN_CAUSE)] [F.Reg (many R.FP_STATUS)]
    [F.Reg (many R.FP_UNROUTABLE)] [F.Reg (many R.MC_STATUS)] [F.Reg (one R.PRS_STATUS)] [F.Reg (one R.TOPO_SRL_STATUS)]
    [F.Reg (one R.TOPO_STATUS)] (op : Byte) (forming : Bool) (s : State) : Leaves F s (execTapInstruction op forming s)
    := by
  simp [execTapInstruction]

@[simp] theorem execPadControlExit_leaves [F.AccParts] [F.Power] [F.Clocks] [F.Pins] [F.Path]
    [F.Drypoint] [F.Fabric] [F.Trust] [F.Test] [F.PevRegs] [F.Reg (one R.DRY_STATUS)]
    [F.Reg (one R.DSP_STATUS)] [F.Reg (many R.FP_DOWNS)] [F.Reg (many R.FP_DOWN_CAUSE)] [F.Reg (many R.FP_STATUS)]
    [F.Reg (many R.FP_UNROUTABLE)] [F.Reg (many R.MC_STATUS)] [F.Reg (one R.PRS_STATUS)] [F.Reg (one R.TOPO_SRL_STATUS)]
    [F.Reg (one R.TOPO_STATUS)] (op : Byte) (s : State) : Leaves F s (execPadControlExit op s) := by
  simp [execPadControlExit]

@[simp] theorem tapReset_out [F.EvParts] [F.Clocks] [F.Path] [F.Test] [F.EvRegs] (s : State) :
    (tapReset s).out F = s.out F := by
  simp [tapReset]

@[simp] theorem execTrstNAssert_leaves [F.EvParts] [F.Clocks] [F.Path] [F.Test] [F.EvRegs] (s : State) :
    Leaves F s (execTrstNAssert s) := by
  simp [execTrstNAssert]

@[simp] theorem execTestLogicReset_leaves [F.EvParts] [F.Clocks] [F.Path] [F.Test] [F.EvRegs]
    [F.Reg (many R.FP_CTL)] [F.Reg (one R.TST_JOB_STATUS)] (s : State) : Leaves F s (execTestLogicReset s) := by
  simp [execTestLogicReset]

@[simp] theorem jobTarget_out [F.Pins] [F.Test] (j : TestJob) (s : State) : (jobTarget j s).out F = s.out F := by
  simp [jobTarget]

@[simp] theorem jobStart_out [F.EvParts] [F.Pins] [F.Test] [F.EvRegs] [F.Reg (one R.TST_JOB_BITS)]
    [F.Reg (one R.TST_JOB_ERRS)] [F.Reg (one R.TST_JOB_STATUS)] (s : State) : (jobStart s).out F = s.out F := by
  unfold jobStart
  dsimp only
  split
  · simp
  · split <;> simp

@[simp] theorem jobAbort_out [F.EvParts] [F.Test] [F.EvRegs] [F.Reg (many R.FP_CTL)] [F.Reg (one R.TST_JOB_STATUS)]
    (s : State) : (jobAbort s).out F = s.out F := by
  simp [jobAbort]

@[simp] theorem jobCmd_out [F.EvParts] [F.Pins] [F.Test] [F.EvRegs] [F.Reg (many R.FP_CTL)]
    [F.Reg (one R.TST_JOB_BITS)] [F.Reg (one R.TST_JOB_ERRS)] [F.Reg (one R.TST_JOB_STATUS)] (key : Nat) (s : State) :
    (jobCmd key s).out F = s.out F := by
  simp [jobCmd]

@[simp] theorem execTstJobStart_leaves [F.EvParts] [F.Pins] [F.Test] [F.EvRegs] [F.Reg (one R.TST_JOB_BITS)]
    [F.Reg (one R.TST_JOB_ERRS)] [F.Reg (one R.TST_JOB_STATUS)] (s : State) : Leaves F s (execTstJobStart s) := by
  simp [execTstJobStart]

@[simp] theorem execTstJobAbort_leaves [F.EvParts] [F.Test] [F.EvRegs] [F.Reg (many R.FP_CTL)]
    [F.Reg (one R.TST_JOB_STATUS)] (s : State) : Leaves F s (execTstJobAbort s) := by
  simp [execTstJobAbort]

@[simp] theorem jobCounts_out [F.Reg (one R.TST_JOB_BITS)] [F.Reg (one R.TST_JOB_ERRS)] [F.Reg (one R.TST_JOB_STATUS)]
    (j : TestJob) (locked bitsN errs : Nat) (s : State) : (jobCounts j locked bitsN errs s).out F = s.out F := by
  simp [jobCounts]

@[simp] theorem jobThreshold_out [F.EvParts] [F.Test] [F.EvRegs] (s : State) : (jobThreshold s).out F = s.out F := by
  unfold jobThreshold
  split <;> simp

@[simp] theorem execTstErrThrReached_leaves [F.EvParts] [F.Test] [F.EvRegs] [F.Reg (one R.TST_JOB_BITS)]
    [F.Reg (one R.TST_JOB_ERRS)] [F.Reg (one R.TST_JOB_STATUS)] (locked : BitVec 9) (bitsN errs : W64) (s : State) :
    Leaves F s (execTstErrThrReached locked bitsN errs s) := by
  unfold execTstErrThrReached
  split <;> simp

@[simp] theorem execTstJobEnd_leaves [F.EvParts] [F.Test] [F.EvRegs] [F.Reg (many R.FP_CTL)]
    [F.Reg (one R.TST_JOB_BITS)] [F.Reg (one R.TST_JOB_ERRS)] [F.Reg (one R.TST_JOB_STATUS)] (locked : BitVec 9)
    (bitsN errs : W64) (targetFailed : Bool) (s : State) : Leaves F s (execTstJobEnd locked bitsN errs targetFailed s)
    := by
  unfold execTstJobEnd
  split <;> simp

@[simp] theorem testRow_out [F.EvParts] [F.HeldLow] [F.Hatch] [F.Repair] [F.Fabric] [F.Trust]
    [F.Test] [F.PevRegs] [∀ g, F.Reg g] (x : SramRow) (s : State) : (testRow x s).out F = s.out F := by
  simp [testRow]

@[simp] theorem execSelfTestJobDone_leaves [F.EvParts] [F.HeldLow] [F.Hatch] [F.Repair] [F.Fabric]
    [F.Trust] [F.Test] [F.PevRegs] [∀ g, F.Reg g] (rows : List (BitVec 16)) (pass : Bool) (s : State) : Leaves
    F s (execSelfTestJobDone rows pass s) := by
  unfold execSelfTestJobDone
  split <;> simp

end Sys2Proof.Machine
end

section
/-! SUPPORT. What lies outside the footprint is left. Island resets: CKR_ISL_RST. -/

namespace Sys2Proof.Machine

variable {F : Foot}

@[simp] theorem loadIsland_out [F.HeldLow] [F.PevRegs] [∀ g, F.Reg g] (n : Nat) (s : State) :
    (loadIsland n s).out F = s.out F := by
  simp [loadIsland]

@[simp] theorem resetRaster_out [F.AccParts] [F.HeldLow] [F.Pins] [F.Seals] [F.Log] [F.Rings]
    [F.Raster] [F.Path] [F.Drypoint] [F.Tansy] [F.PevRegs] [∀ g, F.Reg g] (s : State) :
    (resetRaster s).out F = s.out F := by
  unfold resetRaster
  refine (loadIsland_out ..).trans ((State.out_ras ..).trans ((State.each_out _ _ _ fun sh t => ?_).trans ?_))
  · split <;> simp
  · simp

@[simp] theorem resetDisplay_out [F.HeldLow] [F.Seals] [F.Log] [F.Display] [F.PevRegs]
    [∀ g, F.Reg g] (s : State) : (resetDisplay s).out F = s.out F := by
  simp [resetDisplay]

@[simp] theorem resetPvid_out [F.AccParts] [F.HeldLow] [F.Pins] [F.Seals] [F.Log] [F.Raster]
    [F.Path] [F.Drypoint] [F.Tansy] [F.PevRegs] [∀ g, F.Reg g] (s : State) : (resetPvid s).out F =
    s.out F := by
  simp [resetPvid]

@[simp] theorem resetPctl_out [F.AccParts] [F.HeldLow] [F.Pins] [F.Seals] [F.Log] [F.Rings]
    [F.Raster] [F.Path] [F.Drypoint] [F.Tansy] [F.PevRegs] [∀ g, F.Reg g] (s : State) :
    (resetPctl s).out F = s.out F := by
  simp [resetPctl]

@[simp] theorem resetTest_out [F.EvParts] [F.HeldLow] [F.Clocks] [F.Path] [F.Test] [F.PevRegs]
    [∀ g, F.Reg g] (s : State) : (resetTest s).out F = s.out F := by
  simp [resetTest]

@[simp] theorem islandReset_out [F.AccParts] [F.HeldLow] [F.Clocks] [F.Pins] [F.Seals] [F.Log]
    [F.Rings] [F.Raster] [F.Display] [F.Path] [F.Drypoint] [F.Tansy] [F.Fabric]
    [F.Trust] [F.Test] [F.PevRegs] [∀ g, F.Reg g] (n : Nat) (s : State) : (islandReset n s).out F = s.out F := by
  simp [islandReset]

@[simp] theorem islRstWrite_out [F.AccParts] [F.HeldLow] [F.Clocks] [F.Pins] [F.Seals] [F.Log]
    [F.Rings] [F.Raster] [F.Display] [F.Path] [F.Drypoint] [F.Tansy] [F.Fabric]
    [F.Trust] [F.Test] [F.PevRegs] [∀ g, F.Reg g] (v : Nat) (s : State) : (islRstWrite v s).out F = s.out F := by
  simp [islRstWrite]

@[simp] theorem execIslandReset_leaves [F.AccParts] [F.HeldLow] [F.Clocks] [F.Pins] [F.Seals]
    [F.Log] [F.Rings] [F.Raster] [F.Display] [F.Path] [F.Drypoint] [F.Tansy]
    [F.Fabric] [F.Trust] [F.Test] [F.PevRegs] [∀ g, F.Reg g] (n : Fin 25) (s : State) : Leaves F s
    (execIslandReset n s) := by
  simp [execIslandReset]

end Sys2Proof.Machine
end

section
/-! SUPPORT. What lies outside the footprint is left. The memory commands: line requests, lazy clean and scrub, device
retirement, row repair, channel faults and memory start. -/

namespace Sys2Proof.Machine

variable {F : Foot}

@[simp] theorem execLineRead_leaves [F.MemParts] [F.MemRegs] (line : Nat) (errs : List (Nat × List (Nat × Nat)))
    (l2bad : List Nat) (s : State) : Leaves F s (execLineRead line errs l2bad s) := by
  simp [execLineRead]

@[simp] theorem execLineWrite_leaves [F.MemParts] [F.MemRegs] (line : Nat) (data : List Byte) (s : State) : Leaves F s
    (execLineWrite line data s) := by
  simp [execLineWrite]

@[simp] theorem execPartialLineWrite_leaves [F.MemParts] [F.MemRegs] (line : Nat) (mask : W64) (data : List Byte)
    (s : State) : Leaves F s (execPartialLineWrite line mask data s) := by
  simp [execPartialLineWrite]

@[simp] theorem execLazyCleanVisit_leaves [F.Memory] (s : State) : Leaves F s (execLazyCleanVisit s) := by
  simp [execLazyCleanVisit]

@[simp] theorem endPass_out [F.Memory] [F.Reg (one R.MEMG_SCRUB_STATUS)] (s : State) : (endPass s).out F = s.out F := by
  simp [endPass]

@[simp] theorem execPatrolScrubRead_leaves [F.EvParts] [F.Memory] [F.Repair] [F.MemRegs]
    [F.Reg (one R.MEMG_SCRUB_STATUS)] (errs : List (Nat × List (Nat × Nat))) (s : State) : Leaves F s
    (execPatrolScrubRead errs s) := by
  unfold execPatrolScrubRead
  dsimp only
  (repeat' split) <;> simp

@[simp] theorem mcCmdWrite_out [F.EvParts] [F.Repair] [F.EvRegs] [F.McRetire] [F.RprStatus] (ch : Nat) (v : W32)
    (s : State) : (mcCmdWrite ch v s).out F = s.out F := by
  simp [mcCmdWrite]

@[simp] theorem execMcCmdRetire_leaves [F.EvParts] [F.Repair] [F.EvRegs] [F.McRetire] [F.RprStatus] (ch : Fin 24)
    (v : W32) (s : State) : Leaves F s (execMcCmdRetire ch v s) := by
  simp [execMcCmdRetire]

@[simp] theorem softPprDone_out [F.MemParts] [F.MemRegs] (r : RowRepair) (s : State) : (softPprDone r s).out F =
    s.out F := by
  simp [softPprDone]

@[simp] theorem execSoftPprDone_leaves [F.MemParts] [F.MemRegs] (i : Nat) (s : State) : Leaves F s (execSoftPprDone i s)
    := by
  unfold execSoftPprDone
  split <;> simp

@[simp] theorem pprCmdWrite_out [F.Memory] [F.Reg (many R.MC_STATUS)] [F.PprStatus] (v : W32) (s : State) :
    (pprCmdWrite v s).out F = s.out F := by
  simp [pprCmdWrite]

@[simp] theorem execHardPprCmd_leaves [F.Memory] [F.Reg (many R.MC_STATUS)] [F.PprStatus] (v : W32) (s : State) : Leaves
    F s (execHardPprCmd v s) := by
  simp [execHardPprCmd]

@[simp] theorem hardPprDone_out [F.MemParts] [F.MemRegs] [F.Reg (many R.MC_STATUS)] (ch : Nat) (s : State) :
    (hardPprDone ch s).out F = s.out F := by
  simp [hardPprDone]

@[simp] theorem execHardPprDone_leaves [F.MemParts] [F.MemRegs] [F.Reg (many R.MC_STATUS)] (s : State) : Leaves F s
    (execHardPprDone s) := by
  unfold execHardPprDone
  split <;> simp

@[simp] theorem channelFault_out [F.EvParts] [F.Memory] [F.EvRegs] [F.Reg (many R.MC_STATUS)] (ch : Nat) (s : State) :
    (channelFault ch s).out F = s.out F := by
  simp [channelFault]

@[simp] theorem execRcdAlert_leaves [F.EvParts] [F.Memory] [F.EvRegs] [F.Reg (many R.MC_STATUS)] (ch : Fin 24)
    (replayOk lostTraining : Bool) (s : State) : Leaves F s (execRcdAlert ch replayOk lostTraining s) := by
  simp [execRcdAlert]

@[simp] theorem execChannelRetrainDone_leaves [F.MemParts] [F.MemRegs] [F.Reg (many R.MC_STATUS)] (ch : Fin 24)
    (ok : Bool) (s : State) : Leaves F s (execChannelRetrainDone ch ok s) := by
  simp [execChannelRetrainDone]

@[simp] theorem smSetRate_out [F.Clocks] [F.Reg (one R.CKR_ISL_CLK)] [F.Reg (many R.CKR_SYN_CTL)]
    [F.Reg (many R.CKR_SYN_FRAC)] [F.Reg (many R.CKR_SYN_STATUS)] (rate : Nat) (s : State) : (smSetRate rate s).out F =
    s.out F := by
  simp [smSetRate]

@[simp] theorem loadDramRecord_out [F.Memory] [F.Repair] [F.McRetire] [F.PprStatus] (s : State) :
    (loadDramRecord s).out F = s.out F := by
  simp [loadDramRecord]

@[simp] theorem channelStartFail_out [F.EvParts] [F.EvRegs] [F.Reg (many R.MC_STATUS)] (ch : Nat) (s : State) :
    (channelStartFail ch s).out F = s.out F := by
  simp [channelStartFail]

@[simp] theorem openPool_out [F.MemParts] [F.MemRegs] [F.Reg (one R.CKR_START_STAGE)] (s : State) : (openPool s).out F =
    s.out F := by
  simp [openPool]

@[simp] theorem trainingEnd_out [F.MemParts] [F.MemRegs] [F.Reg (one R.CKR_START_STAGE)] (s : State) :
    (trainingEnd s).out F = s.out F := by
  simp [trainingEnd]

@[simp] theorem memoryStart_out [F.MemParts] [F.Power] [F.Clocks] [F.MemRegs] [F.Reg (one R.CKR_ISL_CLK)]
    [F.Reg (one R.CKR_START_STAGE)] [F.Reg (many R.CKR_SYN_CTL)] [F.Reg (many R.CKR_SYN_FRAC)]
    [F.Reg (many R.CKR_SYN_STATUS)] [F.Reg (many R.MC_STATUS)] [F.Reg (one R.MEMG_CFG)] [F.Reg (one R.MEMG_GRANULES)]
    (pops : List DimmPop) (s : State) : (memoryStart pops s).out F = s.out F := by
  simp [memoryStart]

@[simp] theorem memoryReturn_out [F.MemParts] [F.MemRegs] [F.Reg (one R.CKR_START_STAGE)] [F.Reg (many R.MC_STATUS)]
    [F.Reg (one R.MEMG_CFG)] [F.Reg (one R.MEMG_GRANULES)] (cfg gran : Nat) (up : NSet) (s : State) :
    (memoryReturn cfg gran up s).out F = s.out F := by
  simp [memoryReturn]

@[simp] theorem execMemoryStart_leaves [F.MemParts] [F.Power] [F.Clocks] [F.MemRegs]
    [F.Reg (one R.CKR_ISL_CLK)] [F.Reg (one R.CKR_START_STAGE)] [F.Reg (many R.CKR_SYN_CTL)]
    [F.Reg (many R.CKR_SYN_FRAC)] [F.Reg (many R.CKR_SYN_STATUS)] [F.Reg (many R.MC_STATUS)] [F.Reg (one R.MEMG_CFG)]
    [F.Reg (one R.MEMG_GRANULES)] (pops : List DimmPop) (s : State) : Leaves F s (execMemoryStart pops s) := by
  unfold execMemoryStart
  (repeat' split) <;> simp_all

@[simp] theorem execChannelTrainingDone_leaves [F.MemParts] [F.MemRegs] [F.Reg (one R.CKR_START_STAGE)]
    [F.Reg (many R.MC_STATUS)] (ch : Fin 24) (ok : Bool) (s : State) :
    Leaves F s (execChannelTrainingDone ch ok s) := by
  simp [execChannelTrainingDone]

@[simp] theorem execMemRequestHoldExpiry_leaves [F.Memory] (i : Nat) (s : State) : Leaves F s
    (execMemRequestHoldExpiry i s) := by
  unfold execMemRequestHoldExpiry
  split <;> simp

end Sys2Proof.Machine
end

section
/-! SUPPORT. What lies outside the footprint is left. Register accesses: what each register reads as, what a write of it
does, half- width accesses, who reaches what, and the steward's REG_READ and REG_WRITE. -/

namespace Sys2Proof.Machine

variable {F : Foot}

@[simp] theorem fpCtlWrite_out [F.EvParts] [F.HeldLow] [F.Fabric] [F.Trust] [F.Test] [F.PevRegs]
    [∀ g, F.Reg g] (n v : Nat) (s : State) : (fpCtlWrite n v s).out F = s.out F := by
  simp [fpCtlWrite]

@[simp] theorem tnsStatusWrite_out [F.Tansy] [F.Reg (one R.TNS_STATUS)] (v : Nat) (s : State) :
    (tnsStatusWrite v s).out F = s.out F := by
  simp [tnsStatusWrite]

@[simp] theorem whileOff_out [F.PevRegs] [∀ g, F.Reg g] (en : Fld) (key v : Nat) (s : State) :
    (whileOff en key v s).out F = s.out F := by
  simp [whileOff]

@[simp] theorem nodeRstWrite_out [F.AccParts] [F.Power] [F.Pins] [F.Seals] [F.Log] [F.Raster]
    [F.Path] [F.Drypoint] [F.PevRegs] [F.Reg (one R.CKR_RST_CAUSE)] [F.Reg (one R.DRY_STATUS)] (code : Nat)
    (s : State) : (nodeRstWrite code s).out F = s.out F := by
  simp [nodeRstWrite]

@[simp] theorem mgmtWrite_out [F.AccParts] [F.HeldLow] [F.Power] [F.Clocks] [F.Pins] [F.Seals]
    [F.Log] [F.Rings] [F.Raster] [F.Display] [F.Path] [F.Drypoint] [F.Tansy]
    [F.Fabric] [F.Trust] [F.Test] [F.PevRegs] [∀ g, F.Reg g] (name : String) (key b i v : Nat)
    (e : RegEnv) (s : State) : (mgmtWrite name key b i v e s).out F = s.out F := by
  unfold mgmtWrite
  split <;> simp

@[simp] theorem windowWrite_out [F.AccParts] [F.Rings] [F.PevRegs] [∀ g, F.Reg g] (name : String) (key p i v : Nat)
    (e : RegEnv) (s : State) : (windowWrite name key p i v e s).out F = s.out F := by
  unfold windowWrite
  split <;> simp

@[simp] theorem regWrite_out [F.AccParts] [F.HeldLow] [F.Power] [F.Clocks] [F.Pins] [F.Seals]
    [F.Log] [F.Rings] [F.Raster] [F.Display] [F.Path] [F.Drypoint] [F.Tansy]
    [F.Fabric] [F.Trust] [F.Test] [F.PevRegs] [∀ g, F.Reg g] (key v : Nat) (e : RegEnv) (s : State) :
    (regWrite key v e s).out F = s.out F := by
  unfold regWrite
  split <;> simp

@[simp] theorem write32_out [F.AccParts] [F.HeldLow] [F.Power] [F.Clocks] [F.Pins] [F.Seals]
    [F.Log] [F.Rings] [F.Raster] [F.Display] [F.Path] [F.Drypoint] [F.Tansy]
    [F.Fabric] [F.Trust] [F.Test] [F.PevRegs] [∀ g, F.Reg g] (key v : Nat) (e : RegEnv) (s : State) :
    (write32 key v e s).out F = s.out F := by
  unfold write32
  grind [State.out_heldLow, regWrite_out]

@[simp] theorem write64_out [F.AccParts] [F.HeldLow] [F.Power] [F.Clocks] [F.Pins] [F.Seals]
    [F.Log] [F.Rings] [F.Raster] [F.Display] [F.Path] [F.Drypoint] [F.Tansy]
    [F.Fabric] [F.Trust] [F.Test] [F.PevRegs] [∀ g, F.Reg g] (key v : Nat) (e : RegEnv) (s : State) :
    (write64 key v e s).out F = s.out F := by
  simp [write64]

@[simp] theorem read32_out [F.Captures] (key : Nat) (s : State) : (read32 key s).2.out F = s.out F := by
  unfold read32
  dsimp only
  (repeat' split) <;> simp

@[simp] theorem read64_out [F.Captures] (key : Nat) (s : State) : (read64 key s).2.out F = s.out F := by
  unfold read64
  split_ifs <;> simp

@[simp] theorem execRegisterWrite_leaves [F.AccParts] [F.HeldLow] [F.Power] [F.Clocks] [F.Pins]
    [F.Seals] [F.Log] [F.Rings] [F.Raster] [F.Display] [F.Path] [F.Drypoint]
    [F.Tansy] [F.Fabric] [F.Trust] [F.Test] [F.PevRegs] [∀ g, F.Reg g] (path : RegPath)
    (off : BitVec 24) (wide : Bool) (v : W64) (e : RegEnv) (lost : Bool) (s : State) : Leaves F s
    (execRegisterWrite path off wide v e lost s) := by
  unfold execRegisterWrite
  dsimp only
  split
  · simp
  · split <;> simp

@[simp] theorem execLowerHalfRead_leaves [F.Captures] [F.ToHost] (path : RegPath) (off : BitVec 24) (wide : Bool)
    (s : State) : Leaves F s (execLowerHalfRead path off wide s) := by
  unfold execLowerHalfRead
  dsimp only
  split
  · simp
  · split <;> simp

@[simp] theorem execRegRead_leaves [F.Captures] [F.Trust] [F.Reg (many R.SMB_BUF)] [F.Reg (one R.SMB_STATUS)]
    (q : StewReq) (off : W32) (width : Byte) (s : State) : Leaves F s (execRegRead q off width s) := by
  refine steward_leaves (leavesOk_of_ite (by simp) ?_)
  dsimp only
  split_ifs <;> simp

@[simp] theorem execRegWrite_leaves [F.AccParts] [F.HeldLow] [F.Power] [F.Clocks] [F.Pins]
    [F.Seals] [F.Log] [F.Rings] [F.Raster] [F.Display] [F.Path] [F.Drypoint]
    [F.Tansy] [F.Fabric] [F.Trust] [F.Test] [F.PevRegs] [∀ g, F.Reg g] (q : StewReq) (off : W32)
    (width : Byte) (v : W64) (e : RegEnv) (lost : Option Byte) (s : State) : Leaves F s
    (execRegWrite q off width v e lost s) := by
  refine steward_leaves (leavesOk_of_ite (by simp) ?_)
  split
  · simp
  · simp

end Sys2Proof.Machine
end

section
/-! SUPPORT. What lies outside the footprint is left. The stages of start-up that end with a verified firmware image and
with built- in self-test: keys, the board and repair records, and the maps of logical onto physical units. -/

namespace Sys2Proof.Machine

variable {F : Foot}

@[simp] theorem boardEntry_out [F.AccParts] [F.HeldLow] [F.Power] [F.Clocks] [F.Pins] [F.Seals]
    [F.Log] [F.Rings] [F.Raster] [F.Display] [F.Path] [F.Drypoint] [F.Tansy]
    [F.Fabric] [F.Trust] [F.Test] [F.PevRegs] [∀ g, F.Reg g] (e : Nat × Nat) (s : State) :
    (boardEntry e s).out F = s.out F := by
  simp [boardEntry]

@[simp] theorem takeRepairRecord_out [F.EvParts] [F.Repair] [F.EvRegs] [F.RprStatus] (s : State) :
    (takeRepairRecord s).out F = s.out F := by
  simp [takeRepairRecord]

@[simp] theorem demoteReturn_out [F.HeldLow] [F.Memory] [F.Translation] [F.Events] [F.Rings] [F.PevRegs]
    [∀ g, F.Reg g] (s : State) : (demoteReturn s).out F = s.out F := by
  simp [demoteReturn]

@[simp] theorem bootFail_out [F.Power] [F.Trust] [F.Reg (one R.CKR_ISL_STATE)] [F.Reg (one R.CKR_START_STAGE)]
    (s : State) : (bootFail s).out F = s.out F := by
  simp [bootFail]

@[simp] theorem startImage_out [F.AccParts] [F.HeldLow] [F.Power] [F.Clocks] [F.Pins] [F.Seals]
    [F.Log] [F.Rings] [F.Raster] [F.Display] [F.Path] [F.Drypoint] [F.Tansy]
    [F.Fabric] [F.Trust] [F.Test] [F.PevRegs] [∀ g, F.Reg g] (i : Image) (s : State) :
    (startImage i s).out F = s.out F := by
  simp [startImage]

@[simp] theorem execFirmwareImageLoaded_leaves [F.AccParts] [F.HeldLow] [F.Power] [F.Clocks]
    [F.Pins] [F.Seals] [F.Log] [F.Rings] [F.Raster] [F.Display] [F.Path]
    [F.Drypoint] [F.Tansy] [F.Fabric] [F.Trust] [F.Test] [F.PevRegs] [∀ g, F.Reg g]
    (flash : Option (Image × Image)) (erase keysOk : Bool) (s : State) : Leaves F s
    (execFirmwareImageLoaded flash erase keysOk s) := by
  unfold execFirmwareImageLoaded
  dsimp only
  (repeat' split) <;> simp

@[simp] theorem startRow_out [F.Repair] (t : List SramRow × State) (x : SramRow) :
    (startRow t x).2.out F = t.2.out F := by
  unfold startRow
  dsimp only
  split_ifs <;> simp

@[simp] theorem startDead_out [F.EvParts] [F.Repair] [F.EvRegs] (dead : List SramRow) (s : State) :
    (startDead dead s).out F = s.out F := by
  simp [startDead]

@[simp] theorem buildMap_out [F.Repair] [F.Reg (many R.RPR_HMAP)] [F.Reg (many R.RPR_SMAP_HI)]
    [F.Reg (many R.RPR_SMAP_LO)] (k : UnitKind) (fused failed : Nat → Bool) (cl : Nat) (s : State) :
    (buildMap k fused failed cl s).out F = s.out F := by
  unfold buildMap
  refine (State.each_out _ _ _ fun i t => ?_).trans ((State.each_out _ _ _ fun i t => by simp).trans
    ((State.each_out _ _ _ fun p t => ?_).trans ?_))
  · split <;> simp
  · dsimp only
    split <;> simp
  · simp

@[simp] theorem buildMaps_out [F.Repair] [F.Reg (many R.CC_HATCH)] [F.Reg (many R.CC_STIPPLE_RET)]
    [F.Reg (many R.CC_STIPPLE_SVC)] [F.Reg (many R.RPR_HMAP)] [F.Reg (many R.RPR_HOST)] [F.Reg (many R.RPR_SMAP_HI)]
    [F.Reg (many R.RPR_SMAP_LO)] [F.Reg (many R.RPR_SPARE)] (engines cores blocks : List Nat) (s : State) :
    (buildMaps engines cores blocks s).out F = s.out F := by
  rw [buildMaps, syncAllUnits_out, State.each_out, State.out_rpr]
  simp

@[simp] theorem execSelfTestComplete_leaves [F.EvParts] [F.Power] [F.Repair] [F.Trust] [F.EvRegs]
    [F.Reg (many R.CC_HATCH)] [F.Reg (many R.CC_STIPPLE_RET)] [F.Reg (many R.CC_STIPPLE_SVC)]
    [F.Reg (one R.CKR_ISL_STATE)] [F.Reg (one R.CKR_START_STAGE)] [F.Reg (many R.RPR_HMAP)] [F.Reg (many R.RPR_HOST)]
    [F.Reg (many R.RPR_SMAP_HI)] [F.Reg (many R.RPR_SMAP_LO)] [F.Reg (many R.RPR_SPARE)]
    (engines : List (Fin 4 × Fin 13)) (cores : List (Fin 4 × Fin 18)) (rows : List (Byte × BitVec 16 × BitVec 16))
    (s : State) : Leaves F s (execSelfTestComplete engines cores rows s) := by
  have h (l : List SramRow) : (l.foldl startRow ([], s)).2.out F = s.out F := by simp
  refine leaves_of_ite (by simp) ?_
  dsimp only
  split <;> simp [h]

end Sys2Proof.Machine
end

section
/-! SUPPORT. What lies outside the footprint is left. KCS instructions that a core runs itself: control, scalar
arithmetic, predicates, descriptor assembly, scalar memory access and the core store. -/

namespace Sys2Proof.Machine

variable {F : Foot}

@[simp] theorem execNop_leaves [F.Rings] (r : Fin 132) (g : Guard) (s : State) : Leaves F s (execNop r g s) := by
  simp [execNop]

@[simp] theorem execJmp_leaves [F.Rings] (r : Fin 132) (g : Guard) (off : BitVec 32) (s : State) : Leaves F s
    (execJmp r g off s) := by
  simp [execJmp]

@[simp] theorem execLoop_leaves [F.Rings] (r : Fin 132) (g : Guard) (a : Fin 32) (off : BitVec 32) (s : State) :
    Leaves F s (execLoop r g a off s) := by
  simp [execLoop]

@[simp] theorem execJz_leaves [F.Rings] (r : Fin 132) (g : Guard) (a : Fin 32) (off : BitVec 32) (s : State) :
    Leaves F s (execJz r g a off s) := by
  simp [execJz]

@[simp] theorem execJnz_leaves [F.Rings] (r : Fin 132) (g : Guard) (a : Fin 32) (off : BitVec 32) (s : State) :
    Leaves F s (execJnz r g a off s) := by
  simp [execJnz]

@[simp] theorem execAdd_leaves [F.Rings] (r : Fin 132) (g : Guard) (a b c : Fin 32) (s : State) : Leaves F s
    (execAdd r g a b c s) := by
  simp [execAdd]

@[simp] theorem execSub_leaves [F.Rings] (r : Fin 132) (g : Guard) (a b c : Fin 32) (s : State) : Leaves F s
    (execSub r g a b c s) := by
  simp [execSub]

@[simp] theorem execMul_leaves [F.Rings] (r : Fin 132) (g : Guard) (a b c : Fin 32) (s : State) : Leaves F s
    (execMul r g a b c s) := by
  simp [execMul]

@[simp] theorem execMulhu_leaves [F.Rings] (r : Fin 132) (g : Guard) (a b c : Fin 32) (s : State) : Leaves F s
    (execMulhu r g a b c s) := by
  simp [execMulhu]

@[simp] theorem execDivu_leaves [F.Rings] (r : Fin 132) (g : Guard) (a b c : Fin 32) (s : State) : Leaves F s
    (execDivu r g a b c s) := by
  simp [execDivu]

@[simp] theorem execRemu_leaves [F.Rings] (r : Fin 132) (g : Guard) (a b c : Fin 32) (s : State) : Leaves F s
    (execRemu r g a b c s) := by
  simp [execRemu]

@[simp] theorem execAnd_leaves [F.Rings] (r : Fin 132) (g : Guard) (a b c : Fin 32) (s : State) : Leaves F s
    (execAnd r g a b c s) := by
  simp [execAnd]

@[simp] theorem execOr_leaves [F.Rings] (r : Fin 132) (g : Guard) (a b c : Fin 32) (s : State) : Leaves F s
    (execOr r g a b c s) := by
  simp [execOr]

@[simp] theorem execXor_leaves [F.Rings] (r : Fin 132) (g : Guard) (a b c : Fin 32) (s : State) : Leaves F s
    (execXor r g a b c s) := by
  simp [execXor]

@[simp] theorem execShl_leaves [F.Rings] (r : Fin 132) (g : Guard) (a b c : Fin 32) (s : State) : Leaves F s
    (execShl r g a b c s) := by
  simp [execShl]

@[simp] theorem execShr_leaves [F.Rings] (r : Fin 132) (g : Guard) (a b c : Fin 32) (s : State) : Leaves F s
    (execShr r g a b c s) := by
  simp [execShr]

@[simp] theorem execSra_leaves [F.Rings] (r : Fin 132) (g : Guard) (a b c : Fin 32) (s : State) : Leaves F s
    (execSra r g a b c s) := by
  simp [execSra]

@[simp] theorem execMinu_leaves [F.Rings] (r : Fin 132) (g : Guard) (a b c : Fin 32) (s : State) : Leaves F s
    (execMinu r g a b c s) := by
  simp [execMinu]

@[simp] theorem execMaxu_leaves [F.Rings] (r : Fin 132) (g : Guard) (a b c : Fin 32) (s : State) : Leaves F s
    (execMaxu r g a b c s) := by
  simp [execMaxu]

@[simp] theorem execMin_leaves [F.Rings] (r : Fin 132) (g : Guard) (a b c : Fin 32) (s : State) : Leaves F s
    (execMin r g a b c s) := by
  simp [execMin]

@[simp] theorem execMax_leaves [F.Rings] (r : Fin 132) (g : Guard) (a b c : Fin 32) (s : State) : Leaves F s
    (execMax r g a b c s) := by
  simp [execMax]

@[simp] theorem execAddi_leaves [F.Rings] (r : Fin 132) (g : Guard) (a b : Fin 32) (imm : BitVec 38) (s : State) :
    Leaves F s (execAddi r g a b imm s) := by
  simp [execAddi]

@[simp] theorem execAndi_leaves [F.Rings] (r : Fin 132) (g : Guard) (a b : Fin 32) (imm : BitVec 38) (s : State) :
    Leaves F s (execAndi r g a b imm s) := by
  simp [execAndi]

@[simp] theorem execOri_leaves [F.Rings] (r : Fin 132) (g : Guard) (a b : Fin 32) (imm : BitVec 38) (s : State) :
    Leaves F s (execOri r g a b imm s) := by
  simp [execOri]

@[simp] theorem execXori_leaves [F.Rings] (r : Fin 132) (g : Guard) (a b : Fin 32) (imm : BitVec 38) (s : State) :
    Leaves F s (execXori r g a b imm s) := by
  simp [execXori]

@[simp] theorem execShli_leaves [F.Rings] (r : Fin 132) (g : Guard) (a b : Fin 32) (sh : Fin 64) (s : State) :
    Leaves F s (execShli r g a b sh s) := by
  simp [execShli]

@[simp] theorem execShri_leaves [F.Rings] (r : Fin 132) (g : Guard) (a b : Fin 32) (sh : Fin 64) (s : State) :
    Leaves F s (execShri r g a b sh s) := by
  simp [execShri]

@[simp] theorem execSrai_leaves [F.Rings] (r : Fin 132) (g : Guard) (a b : Fin 32) (sh : Fin 64) (s : State) :
    Leaves F s (execSrai r g a b sh s) := by
  simp [execSrai]

@[simp] theorem execLi_leaves [F.Rings] (r : Fin 132) (g : Guard) (a : Fin 32) (imm : BitVec 38) (s : State) :
    Leaves F s (execLi r g a imm s) := by
  simp [execLi]

@[simp] theorem execLix_leaves [F.Rings] (r : Fin 132) (g : Guard) (a : Fin 32) (w : W64) (s : State) : Leaves F s
    (execLix r g a w s) := by
  simp [execLix]

@[simp] theorem execSel_leaves [F.Rings] (r : Fin 132) (g : Guard) (a b c : Fin 32) (x : Fin 8) (s : State) :
    Leaves F s (execSel r g a b c x s) := by
  simp [execSel]

@[simp] theorem execTime_leaves [F.Rings] (r : Fin 132) (g : Guard) (a : Fin 32) (s : State) : Leaves F s
    (execTime r g a s) := by
  simp [execTime]

@[simp] theorem execRinfo_leaves [F.Rings] (r : Fin 132) (g : Guard) (a : Fin 32) (s : State) : Leaves F s
    (execRinfo r g a s) := by
  simp [execRinfo]

@[simp] theorem execCeq_leaves [F.Rings] (r : Fin 132) (g : Guard) (a : Fin 8) (b c : Fin 32) (s : State) : Leaves
    F s (execCeq r g a b c s) := by
  simp [execCeq]

@[simp] theorem execCne_leaves [F.Rings] (r : Fin 132) (g : Guard) (a : Fin 8) (b c : Fin 32) (s : State) : Leaves
    F s (execCne r g a b c s) := by
  simp [execCne]

@[simp] theorem execCltu_leaves [F.Rings] (r : Fin 132) (g : Guard) (a : Fin 8) (b c : Fin 32) (s : State) : Leaves
    F s (execCltu r g a b c s) := by
  simp [execCltu]

@[simp] theorem execClt_leaves [F.Rings] (r : Fin 132) (g : Guard) (a : Fin 8) (b c : Fin 32) (s : State) : Leaves
    F s (execClt r g a b c s) := by
  simp [execClt]

@[simp] theorem execCgeu_leaves [F.Rings] (r : Fin 132) (g : Guard) (a : Fin 8) (b c : Fin 32) (s : State) : Leaves
    F s (execCgeu r g a b c s) := by
  simp [execCgeu]

@[simp] theorem execCge_leaves [F.Rings] (r : Fin 132) (g : Guard) (a : Fin 8) (b c : Fin 32) (s : State) : Leaves
    F s (execCge r g a b c s) := by
  simp [execCge]

@[simp] theorem execCeqi_leaves [F.Rings] (r : Fin 132) (g : Guard) (a : Fin 8) (b : Fin 32) (imm : BitVec 38)
    (s : State) : Leaves F s (execCeqi r g a b imm s) := by
  simp [execCeqi]

@[simp] theorem execCltui_leaves [F.Rings] (r : Fin 132) (g : Guard) (a : Fin 8) (b : Fin 32) (imm : BitVec 38)
    (s : State) : Leaves F s (execCltui r g a b imm s) := by
  simp [execCltui]

@[simp] theorem execPand_leaves [F.Rings] (r : Fin 132) (g : Guard) (a b c : Fin 8) (s : State) : Leaves F s
    (execPand r g a b c s) := by
  simp [execPand]

@[simp] theorem execPor_leaves [F.Rings] (r : Fin 132) (g : Guard) (a b c : Fin 8) (s : State) : Leaves F s
    (execPor r g a b c s) := by
  simp [execPor]

@[simp] theorem execPxor_leaves [F.Rings] (r : Fin 132) (g : Guard) (a b c : Fin 8) (s : State) : Leaves F s
    (execPxor r g a b c s) := by
  simp [execPxor]

@[simp] theorem execPandn_leaves [F.Rings] (r : Fin 132) (g : Guard) (a b c : Fin 8) (s : State) : Leaves F s
    (execPandn r g a b c s) := by
  simp [execPandn]

@[simp] theorem execPset_leaves [F.Rings] (r : Fin 132) (g : Guard) (a : Fin 8) (b : Fin 32) (s : State) : Leaves F
    s (execPset r g a b s) := by
  simp [execPset]

@[simp] theorem execDld_leaves [F.AccParts] [F.Rings] [F.AccRegs] (r : Fin 132) (g : Guard) (a : Fin 16)
    (b : Fin 32) (s : State) : Leaves F s (execDld r g a b s) := by
  unfold execDld
  grind [ringRead_out, access_out, kcs_leaves, State.setProg_out, endAt_out]

@[simp] theorem execDst_leaves [F.AccParts] [F.Rings] [F.AccRegs] (r : Fin 132) (g : Guard) (a : Fin 16)
    (b : Fin 32) (s : State) : Leaves F s (execDst r g a b s) := by
  unfold execDst
  grind [access_out, kcs_leaves, ringWrite_out, State.setProg_out, endAt_out]

@[simp] theorem execDget_leaves [F.Rings] (r : Fin 132) (g : Guard) (a : Fin 32) (b : Fin 16) (x : Fin 8)
    (s : State) : Leaves F s (execDget r g a b x s) := by
  simp [execDget]

@[simp] theorem execDset_leaves [F.Rings] (r : Fin 132) (g : Guard) (a : Fin 16) (b : Fin 32) (x : Fin 8)
    (s : State) : Leaves F s (execDset r g a b x s) := by
  simp [execDset]

@[simp] theorem execDseti_leaves [F.Rings] (r : Fin 132) (g : Guard) (a : Fin 16) (b : Fin 8) (imm : BitVec 38)
    (s : State) : Leaves F s (execDseti r g a b imm s) := by
  simp [execDseti]

@[simp] theorem execDsetx_leaves [F.Rings] (r : Fin 132) (g : Guard) (a : Fin 16) (b : Fin 8) (ws : List W64)
    (s : State) : Leaves F s (execDsetx r g a b ws s) := by
  simp [execDsetx]

@[simp] theorem execDclr_leaves [F.Rings] (r : Fin 132) (g : Guard) (a : Fin 16) (s : State) : Leaves F s
    (execDclr r g a s) := by
  simp [execDclr]

@[simp] theorem execDmov_leaves [F.Rings] (r : Fin 132) (g : Guard) (a b : Fin 16) (s : State) : Leaves F s
    (execDmov r g a b s) := by
  simp [execDmov]

@[simp] theorem loadOp_leaves [F.AccParts] [F.Rings] [F.AccRegs] (r : Fin 132) (g : Guard) (opc : Nat)
    (signed : Bool) (a b : Fin 32) (sz : Fin 4) (imm : BitVec 36) (s : State) : Leaves F s
    (loadOp r g opc signed a b sz imm s) := by
  unfold loadOp
  grind [ringRead_out, access_out, kcs_leaves, State.setProg_out, endAt_out]

@[simp] theorem execLd_leaves [F.AccParts] [F.Rings] [F.AccRegs] (r : Fin 132) (g : Guard) (a b : Fin 32)
    (sz : Fin 4) (imm : BitVec 36) (s : State) : Leaves F s (execLd r g a b sz imm s) := by
  simp [execLd]

@[simp] theorem execLds_leaves [F.AccParts] [F.Rings] [F.AccRegs] (r : Fin 132) (g : Guard) (a b : Fin 32)
    (sz : Fin 4) (imm : BitVec 36) (s : State) : Leaves F s (execLds r g a b sz imm s) := by
  simp [execLds]

@[simp] theorem execSt_leaves [F.AccParts] [F.Rings] [F.AccRegs] (r : Fin 132) (g : Guard) (a b : Fin 32)
    (sz : Fin 4) (imm : BitVec 36) (s : State) : Leaves F s (execSt r g a b sz imm s) := by
  unfold execSt
  grind [access_out, kcs_leaves, ringWrite_out, State.setProg_out, endAt_out]

@[simp] theorem execKcsAtom_leaves [F.AccParts] [F.Rings] [F.AccRegs] (r : Fin 132) (g : Guard) (a b c : Fin 32)
    (op : Fin 8) (wide : Bool) (s : State) : Leaves F s (execKcsAtom r g a b c op wide s) := by
  unfold execKcsAtom
  grind [access_out, kcs_leaves, ringAtomic_out, State.setProg_out, endAt_out]

@[simp] theorem execLsld_leaves [F.Rings] (r : Fin 132) (g : Guard) (a b : Fin 32) (sz : Fin 4) (imm : BitVec 36)
    (s : State) : Leaves F s (execLsld r g a b sz imm s) := by
  simp [execLsld]

@[simp] theorem execLsst_leaves [F.Rings] (r : Fin 132) (g : Guard) (a b : Fin 32) (sz : Fin 4) (imm : BitVec 36)
    (s : State) : Leaves F s (execLsst r g a b sz imm s) := by
  simp [execLsst]

@[simp] theorem execCtxset_leaves [F.Rings] (r : Fin 132) (g : Guard) (b : Fin 32) (s : State) : Leaves F s
    (execCtxset r g b s) := by
  simp [execCtxset]

@[simp] theorem execWait_leaves [F.Rings] (r : Fin 132) (g : Guard) (t : Fin 16) (a : Fin 32) (noend : Bool)
    (s : State) : Leaves F s (execWait r g t a noend s) := by
  simp [execWait]

@[simp] theorem execWaitany_leaves [F.Rings] (r : Fin 132) (g : Guard) (a : Fin 32) (m : BitVec 16) (s : State) :
    Leaves F s (execWaitany r g a m s) := by
  simp [execWaitany]

@[simp] theorem execTst_leaves [F.Rings] (r : Fin 132) (g : Guard) (t : Fin 16) (a : Fin 32) (s : State) : Leaves F
    s (execTst r g t a s) := by
  simp [execTst]

@[simp] theorem execFence_leaves [F.Rings] (r : Fin 132) (g : Guard) (s : State) : Leaves F s (execFence r g s) := by
  simp [execFence]

@[simp] theorem execEvraise_leaves [F.AccParts] [F.Rings] [F.PevRegs] (r : Fin 132) (g : Guard) (n : Fin 16)
    (s : State) : Leaves F s (execEvraise r g n s) := by
  unfold execEvraise
  split_ifs <;> simp

@[simp] theorem execEvtime_leaves [F.Rings] (r : Fin 132) (g : Guard) (b : Fin 32) (s : State) : Leaves F s
    (execEvtime r g b s) := by
  simp [execEvtime]

@[simp] theorem execEvtimeReached_leaves [F.Rings] (r : Fin 132) (s : State) : Leaves F s (execEvtimeReached r s)
    := by
  simp [execEvtimeReached]

end Sys2Proof.Machine
end

section
/-! Frames. What a command leaves, by the table of the frames, from the lemmas about the footprint of each operation. -/

namespace Sys2Proof.Machine

variable {F : Foot} {f : Frame} {s t : State}

/-- A frame as a footprint. -/
def Frame.foot (f : Frame) : Foot where
  part x := x ∈ f.parts
  reg key := ∀ l, f.regs = some l → ∃ g ∈ l, ∃ b i, g b i = key

theorem Frame.holds_of_leaves {o : Out} (h : Leaves f.foot s o) (ht : o = .next t) : f.holds s t := by
  obtain ⟨hPart, hReg⟩ := State.out_eq_iff.mp (h t ht)
  refine ⟨hPart, fun l hl key hKey => hReg key fun hMay => ?_⟩
  obtain ⟨g, hg, b, i, e⟩ := hMay l hl
  exact hKey g hg b i e

theorem Frame.foot_reg {g : RegFam} {l : List RegFam} (hl : f.regs = some l) (h : g ∈ l) (b i : Nat) :
    f.foot.reg (g b i) :=
  fun _ hm => ⟨g, Option.some.inj (hl.symm.trans hm) ▸ h, b, i, rfl⟩

theorem Foot.Captures.mem (h : f.parts.contains .captures = true := by rfl) : f.foot.Captures :=
  ⟨List.mem_of_elem_eq_true h⟩

theorem Foot.HeldLow.mem (h : f.parts.contains .heldLow = true := by rfl) : f.foot.HeldLow :=
  ⟨List.mem_of_elem_eq_true h⟩

theorem Foot.Power.mem (h : f.parts.contains .power = true := by rfl) : f.foot.Power :=
  ⟨List.mem_of_elem_eq_true h⟩

theorem Foot.Clocks.mem (h : f.parts.contains .clocks = true := by rfl) : f.foot.Clocks :=
  ⟨List.mem_of_elem_eq_true h⟩

theorem Foot.Fuses.mem (h : f.parts.contains .fuses = true := by rfl) : f.foot.Fuses :=
  ⟨List.mem_of_elem_eq_true h⟩

theorem Foot.Pins.mem (h : f.parts.contains .pins = true := by rfl) : f.foot.Pins :=
  ⟨List.mem_of_elem_eq_true h⟩

theorem Foot.Seals.mem (h : f.parts.contains .seals = true := by rfl) : f.foot.Seals :=
  ⟨List.mem_of_elem_eq_true h⟩

theorem Foot.Log.mem (h : f.parts.contains .log = true := by rfl) : f.foot.Log :=
  ⟨List.mem_of_elem_eq_true h⟩

theorem Foot.Rings.mem (h : f.parts.contains .rings = true := by rfl) : f.foot.Rings :=
  ⟨List.mem_of_elem_eq_true h⟩

theorem Foot.Hatch.mem (h : f.parts.contains .hatch = true := by rfl) : f.foot.Hatch :=
  ⟨List.mem_of_elem_eq_true h⟩

theorem Foot.Raster.mem (h : f.parts.contains .raster = true := by rfl) : f.foot.Raster :=
  ⟨List.mem_of_elem_eq_true h⟩

theorem Foot.Display.mem (h : f.parts.contains .display = true := by rfl) : f.foot.Display :=
  ⟨List.mem_of_elem_eq_true h⟩

theorem Foot.Path.mem (h : f.parts.contains .path = true := by rfl) : f.foot.Path :=
  ⟨List.mem_of_elem_eq_true h⟩

theorem Foot.Drypoint.mem (h : f.parts.contains .drypoint = true := by rfl) : f.foot.Drypoint :=
  ⟨List.mem_of_elem_eq_true h⟩

theorem Foot.Tansy.mem (h : f.parts.contains .tansy = true := by rfl) : f.foot.Tansy :=
  ⟨List.mem_of_elem_eq_true h⟩

theorem Foot.Inputs.mem (h : f.parts.contains .inputs = true := by rfl) : f.foot.Inputs :=
  ⟨List.mem_of_elem_eq_true h⟩

theorem Foot.Leases.mem (h : f.parts.contains .leases = true := by rfl) : f.foot.Leases :=
  ⟨List.mem_of_elem_eq_true h⟩

theorem Foot.Fabric.mem (h : f.parts.contains .fabric = true := by rfl) : f.foot.Fabric :=
  ⟨List.mem_of_elem_eq_true h⟩

theorem Foot.Trust.mem (h : f.parts.contains .trust = true := by rfl) : f.foot.Trust :=
  ⟨List.mem_of_elem_eq_true h⟩

theorem Foot.Test.mem (h : f.parts.contains .test = true := by rfl) : f.foot.Test :=
  ⟨List.mem_of_elem_eq_true h⟩

theorem Foot.Events.mem (h : f.parts.contains .events = true := by rfl) : f.foot.Events :=
  ⟨List.mem_of_elem_eq_true h⟩

theorem Foot.Sent.mem (h : f.parts.contains .sent = true := by rfl) : f.foot.Sent :=
  ⟨List.mem_of_elem_eq_true h⟩

theorem Foot.ToHost.mem (h : f.parts.contains .toHost = true := by rfl) : f.foot.ToHost :=
  ⟨List.mem_of_elem_eq_true h⟩

theorem Foot.Bytes.mem (h : f.parts.contains .bytes = true := by rfl) : f.foot.Bytes :=
  ⟨List.mem_of_elem_eq_true h⟩

theorem Foot.Memory.mem (h : f.parts.contains .memory = true := by rfl) : f.foot.Memory :=
  ⟨List.mem_of_elem_eq_true h⟩

theorem Foot.Repair.mem (h : f.parts.contains .repair = true := by rfl) : f.foot.Repair :=
  ⟨List.mem_of_elem_eq_true h⟩

theorem Foot.Free.mem (h : f.parts.contains .free = true := by rfl) : f.foot.Free :=
  ⟨List.mem_of_elem_eq_true h⟩

theorem Foot.Translation.mem (h : f.parts.contains .translation = true := by rfl) : f.foot.Translation :=
  ⟨List.mem_of_elem_eq_true h⟩

theorem Frame.foot_part {P : List Comp} (h : P.all f.parts.contains = true) {x : Comp} (hx : x ∈ P) : f.foot.part x :=
  List.mem_of_elem_eq_true (List.all_eq_true.mp h x hx)

theorem Foot.EvParts.mem (h : evParts.all f.parts.contains = true := by rfl) : f.foot.EvParts where
  events := Frame.foot_part h (by decide)
  sent := Frame.foot_part h (by decide)
  toHost := Frame.foot_part h (by decide)

theorem Foot.MemParts.mem (h : memParts.all f.parts.contains = true := by rfl) : f.foot.MemParts where
  events := Frame.foot_part h (by decide)
  sent := Frame.foot_part h (by decide)
  toHost := Frame.foot_part h (by decide)
  bytes := Frame.foot_part h (by decide)
  memory := Frame.foot_part h (by decide)
  repair := Frame.foot_part h (by decide)

theorem Foot.AccParts.mem (h : accParts.all f.parts.contains = true := by rfl) : f.foot.AccParts where
  events := Frame.foot_part h (by decide)
  sent := Frame.foot_part h (by decide)
  toHost := Frame.foot_part h (by decide)
  bytes := Frame.foot_part h (by decide)
  memory := Frame.foot_part h (by decide)
  repair := Frame.foot_part h (by decide)
  free := Frame.foot_part h (by decide)
  translation := Frame.foot_part h (by decide)

theorem Foot.Reg.any {g : RegFam} (h : f.regs = none := by rfl) : f.foot.Reg g :=
  ⟨fun b i l hl => by simp [h] at hl⟩

theorem Foot.PevRegs.any (h : f.regs = none := by rfl) : f.foot.PevRegs where
  fabDrop := by simp [Frame.foot, h]
  occurred := by simp [Frame.foot, h]
  qStatus := by simp [Frame.foot, h]
  qTail := by simp [Frame.foot, h]
  hifPba := by simp [Frame.foot, h]
  pwPba := by simp [Frame.foot, h]
  mcRetire := by simp [Frame.foot, h]
  pprStatus := by simp [Frame.foot, h]
  rprStatus := by simp [Frame.foot, h]
  ce := by simp [Frame.foot, h]
  dev := by simp [Frame.foot, h]
  errLog := by simp [Frame.foot, h]
  poison := by simp [Frame.foot, h]
  xltStatus := by simp [Frame.foot, h]
  pwQStatus := by simp [Frame.foot, h]
  pwQTail := by simp [Frame.foot, h]

theorem Foot.MemRegs.any (h : f.regs = none := by rfl) : f.foot.MemRegs := (Foot.PevRegs.any h).toMemRegs

theorem Foot.Reg.mem {g : RegFam} {l : List RegFam} (hl : f.regs = some l := by rfl)
    (h : g ∈ l := by simp only [noRegs, List.nil_append, List.mem_append, List.mem_cons, true_or, or_true]) :
    f.foot.Reg g :=
  ⟨Frame.foot_reg hl h⟩

theorem Foot.McRetire.mem {l : List RegFam} (hl : f.regs = some l := by rfl)
    (h : many R.MC_RETIRE ∈ l := by simp [pevRegs, accRegs, memRegs, evRegs, noRegs]) : f.foot.McRetire where
  mcRetire b := Frame.foot_reg hl h b 0

theorem Foot.PprStatus.mem {l : List RegFam} (hl : f.regs = some l := by rfl)
    (h : one R.MEMG_PPR_STATUS ∈ l := by simp [pevRegs, accRegs, memRegs, evRegs, noRegs]) : f.foot.PprStatus where
  pprStatus := Frame.foot_reg hl h 0 0

theorem Foot.RprStatus.mem {l : List RegFam} (hl : f.regs = some l := by rfl)
    (h : one R.RPR_STATUS ∈ l := by simp [pevRegs, accRegs, memRegs, evRegs, noRegs]) : f.foot.RprStatus where
  rprStatus := Frame.foot_reg hl h 0 0

theorem Foot.XltStatus.mem {l : List RegFam} (hl : f.regs = some l := by rfl)
    (h : one R.XLT_STATUS ∈ l := by simp [pevRegs, accRegs, memRegs, evRegs, noRegs]) : f.foot.XltStatus where
  xltStatus := Frame.foot_reg hl h 0 0

theorem Foot.PbaRegs.mem {l : List RegFam} (hl : f.regs = some l := by rfl)
    (h : one R.HIF_PBA ∈ l := by simp [noRegs]) (h' : many R.PW_PBA ∈ l := by simp [noRegs]) : f.foot.PbaRegs where
  hifPba := Frame.foot_reg hl h 0 0
  pwPba b := Frame.foot_reg hl h' b 0

theorem Foot.EvRegs.mem {l : List RegFam} (hl : f.regs = some l := by rfl)
    (h : ∀ g ∈ evRegs, g ∈ l := by
      intro g hg
      simp only [pevRegs, accRegs, memRegs, List.mem_append, hg, true_or, or_true]) : f.foot.EvRegs where
  hifPba := Frame.foot_reg hl (h (one R.HIF_PBA) (by simp [evRegs])) 0 0
  pwPba b := Frame.foot_reg hl (h (many R.PW_PBA) (by simp [evRegs])) b 0
  fabDrop := Frame.foot_reg hl (h (one R.EVT_FAB_DROP) (by simp [evRegs])) 0 0
  occurred b := Frame.foot_reg hl (h (many R.EVT_OCCURRED) (by simp [evRegs])) b 0
  qStatus := Frame.foot_reg hl (h (one R.EVT_Q_STATUS) (by simp [evRegs])) 0 0
  qTail := Frame.foot_reg hl (h (one R.EVT_Q_TAIL) (by simp [evRegs])) 0 0

theorem Foot.MemRegs.mem {l : List RegFam} (hl : f.regs = some l := by rfl)
    (h : ∀ g ∈ memRegs, g ∈ l := by
      intro g hg
      simp only [pevRegs, accRegs, List.mem_append, hg, true_or, or_true]) : f.foot.MemRegs where
  toEvRegs := .mem hl fun g hg => h g (by simp [memRegs, hg])
  mcRetire b := Frame.foot_reg hl (h (many R.MC_RETIRE) (by simp [memRegs])) b 0
  pprStatus := Frame.foot_reg hl (h (one R.MEMG_PPR_STATUS) (by simp [memRegs])) 0 0
  rprStatus := Frame.foot_reg hl (h (one R.RPR_STATUS) (by simp [memRegs])) 0 0
  ce b := Frame.foot_reg hl (h (many R.MC_CE) (by simp [memRegs])) b 0
  dev b i := Frame.foot_reg hl (h (R.MC_DEV) (by simp [memRegs])) b i
  errLog b := Frame.foot_reg hl (h (many R.MC_ERR_LOG) (by simp [memRegs])) b 0
  poison := Frame.foot_reg hl (h (one R.MEMG_POISON) (by simp [memRegs])) 0 0

theorem Foot.AccRegs.mem {l : List RegFam} (hl : f.regs = some l := by rfl)
    (h : ∀ g ∈ accRegs, g ∈ l := by
      intro g hg
      simp only [pevRegs, List.mem_append, hg, true_or, or_true]) : f.foot.AccRegs where
  toMemRegs := .mem hl fun g hg => h g (by simp [accRegs, hg])
  xltStatus := Frame.foot_reg hl (h (one R.XLT_STATUS) (by simp [accRegs])) 0 0

theorem Foot.PevRegs.mem {l : List RegFam} (hl : f.regs = some l := by rfl)
    (h : ∀ g ∈ pevRegs, g ∈ l := by
      intro g hg
      simp only [List.mem_append, hg, true_or, or_true]) : f.foot.PevRegs where
  toAccRegs := .mem hl fun g hg => h g (by simp [pevRegs, hg])
  pwQStatus b := Frame.foot_reg hl (h (many R.PW_EVT_Q_STATUS) (by simp [pevRegs])) b 0
  pwQTail b := Frame.foot_reg hl (h (many R.PW_EVT_Q_TAIL) (by simp [pevRegs])) b 0

theorem State.out_fuses [F.Fuses] (s : State) (x : Fuses) : ({ s with fuses := x } : State).out F = s.out F := by
  refine State.out_eq_iff.mpr ⟨fun c hc => ?_, fun _ _ => rfl⟩
  by_cases h : c = .fuses
  · exact absurd (h ▸ Foot.part_fuses) hc
  · cases c <;> simp_all [Comp.same]

@[simp] theorem execFwCommitSvn_leaves [F.EvParts] [F.Fuses] [F.Log] [F.Trust] [F.EvRegs]
    [F.Reg (many R.SMB_BUF)] [F.Reg (one R.SMB_STATUS)] (q : StewReq) (s : State) :
    Leaves F s (execFwCommitSvn q s) := by
  unfold execFwCommitSvn
  exact steward_leaves (logged_leaves ((logOrdinary_out ..).trans (State.out_fuses ..)))

theorem Frame.leaves_within {p q : List Comp} {r l : List RegFam} {o o' : Out} (hf : f = within p q r l)
    (h : Leaves (within p q r l).foot s o') (ho : o = o') : Leaves f.foot s o := ho ▸ hf ▸ h

theorem Frame.leaves_anyReg {p q : List Comp} {o o' : Out} (hf : f = anyReg p q)
    (h : Leaves (anyReg p q).foot s o') (ho : o = o') : Leaves f.foot s o := ho ▸ hf ▸ h

/-- Every command leaves what its frame does not hold, by the lemma about its own operation. -/
theorem exec_leaves (c : Instr) (s : State) : Leaves (frameOf c).foot s (exec c s) := by
  cases c with
  | registerWrite path off wide v e lost =>
      exact Frame.leaves_anyReg rfl (@execRegisterWrite_leaves _ .mem .mem .mem .mem .mem .mem .mem .mem .mem .mem .mem
        .mem .mem .mem .mem .mem .any (fun _ => .any) path off wide v e lost s) rfl
  | lowerHalfRead path off wide =>
      exact Frame.leaves_within rfl (@execLowerHalfRead_leaves _ .mem .mem path off wide s) rfl
  | vddAonApply => exact Frame.leaves_within rfl (@execVddAonApply_leaves _ .mem s) rfl
  | porstNFall =>
      exact Frame.leaves_anyReg rfl (@execPorstNFall_leaves _ .mem .mem .mem .mem .mem .mem .mem .mem .mem .mem .mem
        .mem .mem .mem .mem .mem .mem .mem .mem .mem .any (fun _ => .any) s) rfl
  | porstNRise testMode strap =>
      exact Frame.leaves_within rfl (@execPorstNRise_leaves _ .mem .mem .mem .mem testMode strap s) rfl
  | wrstNPulse cycles =>
      exact Frame.leaves_within rfl (@execWrstNPulse_leaves _ .mem .mem .mem .mem .mem .mem .mem .mem .mem .mem .mem
        cycles s) rfl
  | mrstNPulse cycles =>
      exact Frame.leaves_within rfl (@execMrstNPulse_leaves _ .mem .mem .mem .mem .mem .mem .mem .mem .mem .mem .mem
        cycles s) rfl
  | warmResetRequest lost =>
      exact Frame.leaves_within rfl (@execWarmResetRequest_leaves _ .mem .mem .mem .mem .mem .mem .mem .mem .mem .mem
        .mem .mem lost s) rfl
  | mrwResetRequest lost =>
      exact Frame.leaves_within rfl (@execMrwResetRequest_leaves _ .mem .mem .mem .mem .mem .mem .mem .mem .mem .mem
        .mem .mem lost s) rfl
  | pciePerstNAssert =>
      exact Frame.leaves_anyReg rfl (@execPciePerstNAssert_leaves _ .mem .mem .mem .mem .any (fun _ => .any) s) rfl
  | prsIlkInFall =>
      exact Frame.leaves_within rfl (@execPrsIlkInFall_leaves _ .mem .mem .mem .mem .mem .mem .mem .mem .mem .mem .mem
        .mem .mem s) rfl
  | vddIo33Loss =>
      exact Frame.leaves_within rfl (@execVddIo33Loss_leaves _ .mem .mem .mem .mem .mem .mem .mem .mem .mem .mem .mem
        .mem .mem .mem s) rfl
  | crystalStop =>
      exact Frame.leaves_anyReg rfl (@execCrystalStop_leaves _ .mem .mem .mem .mem .mem .mem .mem .mem .mem .mem .mem
        .mem .mem .mem .mem .mem .mem .mem .mem .mem .any (fun _ => .any) s) rfl
  | thermalTrip =>
      exact Frame.leaves_anyReg rfl (@execThermalTrip_leaves _ .mem .mem .mem .mem .mem .mem .mem .mem .mem .mem .mem
        .mem .mem .mem .mem .mem .mem .mem .mem .mem .any (fun _ => .any) s) rfl
  | undervoltage rail =>
      exact Frame.leaves_anyReg rfl (@execUndervoltage_leaves _ .mem .mem .mem .mem .mem .mem .mem .mem .mem .mem .mem
        .mem .mem .mem .mem .mem .mem .mem .mem .mem .any (fun _ => .any) rail s) rfl
  | smWatchdogExpiry =>
      exact Frame.leaves_within rfl (@execSmWatchdogExpiry_leaves _ .mem .mem .mem .mem .mem .mem .mem .mem .mem .mem
        .mem s) rfl
  | resetPrologueDone =>
      exact Frame.leaves_anyReg rfl (@execResetPrologueDone_leaves _ .mem .mem .mem .mem .mem .mem .mem .mem .mem .mem
        .mem .mem .mem .mem .mem .mem .mem .mem .mem .mem .any (fun _ => .any) s) rfl
  | mrwPrologueTimeout =>
      exact Frame.leaves_anyReg rfl (@execMrwPrologueTimeout_leaves _ .mem .mem .mem .mem .mem .mem .mem .mem .mem .mem
        .mem .mem .mem .mem .mem .mem .mem .mem .mem .mem .any (fun _ => .any) s) rfl
  | islandReset n =>
      exact Frame.leaves_anyReg rfl (@execIslandReset_leaves _ .mem .mem .mem .mem .mem .mem .mem .mem .mem .mem .mem
        .mem .mem .mem .mem .any (fun _ => .any) n s) rfl
  | partitionReset p =>
      exact Frame.leaves_anyReg rfl (@execPartitionReset_leaves _ .mem .mem .mem .mem .mem .mem .mem .mem .mem .mem .mem
        .mem .mem .mem .any (fun _ => .any) p s) rfl
  | firmwareImageLoaded flash erase keysOk =>
      exact Frame.leaves_anyReg rfl (@execFirmwareImageLoaded_leaves _ .mem .mem .mem .mem .mem .mem .mem .mem .mem .mem
        .mem .mem .mem .mem .mem .mem .any (fun _ => .any) flash erase keysOk s) rfl
  | selfTestComplete engines cores rows =>
      exact Frame.leaves_within rfl (@execSelfTestComplete_leaves _ .mem .mem .mem .mem .mem .mem .mem .mem .mem .mem
        .mem .mem .mem .mem .mem engines cores rows s) rfl
  | fabricReady held => exact Frame.leaves_within rfl (@execFabricReady_leaves _ .mem .mem .mem .mem held s) rfl
  | memRequestHoldExpiry n => exact Frame.leaves_within rfl (@execMemRequestHoldExpiry_leaves _ .mem n s) rfl
  | atomWindowEnd => exact Frame.leaves_within rfl (@execAtomWindowEnd_leaves _ .mem s) rfl
  | avsbusAck up => exact Frame.leaves_within rfl (@execAvsbusAck_leaves _ .mem up s) rfl
  | avsCommandTimeout => exact Frame.leaves_within rfl (@execAvsCommandTimeout_leaves _ .mem .mem .mem .mem .mem s) rfl
  | synEnable sm n =>
      exact Frame.leaves_within rfl (@execSynEnable_leaves _ .mem .mem .mem .mem .mem .mem .mem sm n s) rfl
  | synDisable sm n => exact Frame.leaves_within rfl (@execSynDisable_leaves _ .mem .mem .mem .mem .mem sm n s) rfl
  | synConfigWrite sm n reg v =>
      exact Frame.leaves_within rfl (@execSynConfigWrite_leaves _ .mem .mem .mem .mem .mem .mem .mem sm n reg v s) rfl
  | synCtlStewardWrite n v =>
      exact Frame.leaves_within rfl (@execSynCtlStewardWrite_leaves _ .mem .mem .mem .mem .mem n v s) rfl
  | synCtlSmApply n => exact Frame.leaves_within rfl (@execSynCtlSmApply_leaves _ .mem .mem .mem .mem .mem n s) rfl
  | synLockDeclared n =>
      exact Frame.leaves_within rfl (@execSynLockDeclared_leaves _ .mem .mem .mem .mem .mem .mem .mem .mem .mem .mem
        .mem .mem .mem .mem .mem .mem .mem .mem n s) rfl
  | synLossOfLock n =>
      exact Frame.leaves_within rfl (@execSynLossOfLock_leaves _ .mem .mem .mem .mem .mem .mem .mem .mem .mem .mem n s)
        rfl
  | synLossOfReference n =>
      exact Frame.leaves_within rfl (@execSynLossOfReference_leaves _ .mem .mem .mem .mem .mem .mem .mem .mem .mem .mem
        n s) rfl
  | synRelock n => exact Frame.leaves_within rfl (@execSynRelock_leaves _ .mem .mem .mem .mem .mem .mem .mem n s) rfl
  | monitorWindowEnd n count lockSame =>
      exact Frame.leaves_within rfl (@execMonitorWindowEnd_leaves _ .mem .mem .mem .mem .mem .mem .mem .mem .mem .mem
        .mem .mem .mem .mem .mem .mem .mem .mem .mem .mem .mem .mem .mem .mem .mem .mem n count lockSame s) rfl
  | synCoastLimit n => exact Frame.leaves_within rfl (@execSynCoastLimit_leaves _ .mem .mem .mem n s) rfl
  | syn11LockTimeout =>
      exact Frame.leaves_within rfl (@execSyn11LockTimeout_leaves _ .mem .mem .mem .mem .mem .mem .mem .mem .mem .mem
        .mem s) rfl
  | refclkReturn => exact Frame.leaves_within rfl (@execRefclkReturn_leaves _ .mem s) rfl
  | clkoutWrite n v => exact Frame.leaves_within rfl (@execClkoutWrite_leaves _ .mem n v s) rfl
  | quadrantHoldExpiry q => exact Frame.leaves_within rfl (@execQuadrantHoldExpiry_leaves _ .mem .mem .mem q s) rfl
  | quadrantQuiesced q =>
      exact Frame.leaves_within rfl (@execQuadrantQuiesced_leaves _ .mem .mem .mem .mem .mem .mem q s) rfl
  | quadrantRecentreDone q =>
      exact Frame.leaves_within rfl (@execQuadrantRecentreDone_leaves _ .mem .mem .mem .mem q s) rfl
  | lineRead line errs l2bad => exact Frame.leaves_within rfl (@execLineRead_leaves _ .mem .mem line errs l2bad s) rfl
  | lineWrite line data => exact Frame.leaves_within rfl (@execLineWrite_leaves _ .mem .mem line data s) rfl
  | partialLineWrite line mask data =>
      exact Frame.leaves_within rfl (@execPartialLineWrite_leaves _ .mem .mem line mask data s) rfl
  | lazyCleanVisit => exact Frame.leaves_within rfl (@execLazyCleanVisit_leaves _ .mem s) rfl
  | patrolScrubRead errs =>
      exact Frame.leaves_within rfl (@execPatrolScrubRead_leaves _ .mem .mem .mem .mem .mem errs s) rfl
  | mcCmdRetire ch v => exact Frame.leaves_within rfl (@execMcCmdRetire_leaves _ .mem .mem .mem .mem .mem ch v s) rfl
  | softPprDone n => exact Frame.leaves_within rfl (@execSoftPprDone_leaves _ .mem .mem n s) rfl
  | hardPprCmd v => exact Frame.leaves_within rfl (@execHardPprCmd_leaves _ .mem .mem .mem v s) rfl
  | hardPprDone => exact Frame.leaves_within rfl (@execHardPprDone_leaves _ .mem .mem .mem s) rfl
  | rcdAlert ch replayOk lostTraining =>
      exact Frame.leaves_within rfl (@execRcdAlert_leaves _ .mem .mem .mem .mem ch replayOk lostTraining s) rfl
  | channelRetrainDone ch ok =>
      exact Frame.leaves_within rfl (@execChannelRetrainDone_leaves _ .mem .mem .mem ch ok s) rfl
  | memoryStart pops =>
      exact Frame.leaves_anyReg rfl (@execMemoryStart_leaves _ .mem .mem .mem .any .any .any .any .any .any .any .any
        .any pops s) rfl
  | channelTrainingDone ch ok =>
      exact Frame.leaves_within rfl (@execChannelTrainingDone_leaves _ .mem .mem .mem .mem ch ok s) rfl
  | gtEntryRewrite g bad => exact Frame.leaves_within rfl (@execGtEntryRewrite_leaves _ .mem .mem .mem .mem g bad s) rfl
  | violationAggregate => exact Frame.leaves_within rfl (@execViolationAggregate_leaves _ .mem .mem .mem .mem s) rfl
  | inv k p =>
      exact Frame.leaves_anyReg rfl (@execInv_leaves _ .mem .mem .mem .mem .mem .mem .mem .mem .any (fun _ => .any) k p
        s) rfl
  | pwInvSubmit p w3 => exact Frame.leaves_within rfl (@execPwInvSubmit_leaves _ .mem .mem .mem p w3 s) rfl
  | invalidationAck p =>
      exact Frame.leaves_within rfl (@execInvalidationAck_leaves _ .mem .mem .mem .mem .mem .mem p s) rfl
  | pwXltCtxWrite p v => exact Frame.leaves_within rfl (@execPwXltCtxWrite_leaves _ .mem .mem p v s) rfl
  | granuleReleaseComplete g =>
      exact Frame.leaves_within rfl (@execGranuleReleaseComplete_leaves _ .mem .mem .mem .mem .mem .mem .mem .mem .mem g
        s) rfl
  | teardownDrainComplete p =>
      exact Frame.leaves_anyReg rfl (@execTeardownDrainComplete_leaves _ .mem .mem .mem .mem .mem .mem .mem .mem .mem
        .mem .mem .mem .mem .mem .mem .any (fun _ => .any) p s) rfl
  | regionWithdrawComplete r =>
      exact Frame.leaves_within rfl (@execRegionWithdrawComplete_leaves _ .mem .mem .mem .mem .mem .mem .mem .mem .mem
        .mem r s) rfl
  | flitReceive k b fecOk fec stamp turn =>
      exact Frame.leaves_anyReg rfl (@execFlitReceive_leaves _ .mem .mem .mem .mem .mem .mem .mem .mem .any (fun _ =>
        .any) k b fecOk fec stamp turn s) rfl
  | nakReceive k ack =>
      exact Frame.leaves_within rfl (@execNakReceive_leaves _ .mem .mem .mem .mem .mem .mem .mem .mem .mem .mem .mem
        .mem k ack s) rfl
  | fastRetrainDone k => exact Frame.leaves_within rfl (@execFastRetrainDone_leaves _ .mem .mem k s) rfl
  | fastRetrainTimeout k =>
      exact Frame.leaves_within rfl (@execFastRetrainTimeout_leaves _ .mem .mem .mem .mem .mem .mem .mem .mem .mem .mem
        k s) rfl
  | errorWindowEnd k more =>
      exact Frame.leaves_within rfl (@execErrorWindowEnd_leaves _ .mem .mem .mem .mem .mem .mem .mem .mem .mem .mem .mem
        .mem k more s) rfl
  | partnerLoss k err =>
      exact Frame.leaves_within rfl (@execPartnerLoss_leaves _ .mem .mem .mem .mem .mem .mem .mem .mem .mem .mem k err
        s) rfl
  | holdoffExpiry k =>
      exact Frame.leaves_anyReg rfl (@execHoldoffExpiry_leaves _ .mem .mem .mem .mem .any (fun _ => .any) k s) rfl
  | lrst n => exact Frame.leaves_anyReg rfl (@execLrst_leaves _ .mem .mem .mem .mem .mem .any (fun _ => .any) n s) rfl
  | groupEnClear n =>
      exact Frame.leaves_anyReg rfl (@execGroupEnClear_leaves _ .mem .mem .mem .mem .mem .any (fun _ => .any) n s) rfl
  | linkDetect k sig => exact Frame.leaves_within rfl (@execLinkDetect_leaves _ .mem .mem k sig s) rfl
  | equalizationDone k => exact Frame.leaves_within rfl (@execEqualizationDone_leaves _ .mem k s) rfl
  | laneTestDone k good =>
      exact Frame.leaves_within rfl (@execLaneTestDone_leaves _ .mem .mem .mem .mem .mem .mem k good s) rfl
  | trainConfig k m =>
      exact Frame.leaves_within rfl (@execTrainConfig_leaves _ .mem .mem .mem .mem .mem .mem .mem .mem .mem .mem .mem
        .mem .mem .mem k m s) rfl
  | lcfSend k =>
      exact Frame.leaves_within rfl (@execLcfSend_leaves _ .mem .mem .mem .mem .mem .mem .mem .mem .mem k s) rfl
  | linkKeysInstalled k secret => exact Frame.leaves_within rfl (@execLinkKeysInstalled_leaves _ .mem k secret s) rfl
  | keyUpdate k secret => exact Frame.leaves_within rfl (@execKeyUpdate_leaves _ .mem k secret s) rfl
  | rd k p =>
      exact Frame.leaves_anyReg rfl (@execRd_leaves _ .mem .mem .mem .mem .mem .mem .mem .mem .any (fun _ => .any) k p
        s) rfl
  | wr k p =>
      exact Frame.leaves_anyReg rfl (@execWr_leaves _ .mem .mem .mem .mem .mem .mem .mem .mem .any (fun _ => .any) k p
        s) rfl
  | wrp k p =>
      exact Frame.leaves_anyReg rfl (@execWrp_leaves _ .mem .mem .mem .mem .mem .mem .mem .mem .any (fun _ => .any) k p
        s) rfl
  | atom k p =>
      exact Frame.leaves_anyReg rfl (@execAtom_leaves _ .mem .mem .mem .mem .mem .mem .mem .mem .any (fun _ => .any) k p
        s) rfl
  | forwardPacket k p =>
      exact Frame.leaves_anyReg rfl (@execForwardPacket_leaves _ .mem .mem .mem .mem .mem .mem .mem .mem .any (fun _ =>
        .any) k p s) rfl
  | rspData k p =>
      exact Frame.leaves_anyReg rfl (@execRspData_leaves _ .mem .mem .mem .mem .mem .mem .mem .mem .any (fun _ => .any)
        k p s) rfl
  | requestRetryTimeout tag =>
      exact Frame.leaves_within rfl (@execRequestRetryTimeout_leaves _ .mem .mem .mem .mem tag s) rfl
  | hello k p =>
      exact Frame.leaves_anyReg rfl (@execHello_leaves _ .mem .mem .mem .mem .mem .mem .mem .mem .any (fun _ => .any) k
        p s) rfl
  | claim k p =>
      exact Frame.leaves_anyReg rfl (@execClaim_leaves _ .mem .mem .mem .mem .mem .mem .mem .mem .any (fun _ => .any) k
        p s) rfl
  | dup k p =>
      exact Frame.leaves_anyReg rfl (@execDup_leaves _ .mem .mem .mem .mem .mem .mem .mem .mem .any (fun _ => .any) k p
        s) rfl
  | quietExpiry =>
      exact Frame.leaves_anyReg rfl (@execQuietExpiry_leaves _ .mem .mem .mem .mem .mem .any (fun _ => .any) s) rfl
  | report k p =>
      exact Frame.leaves_anyReg rfl (@execReport_leaves _ .mem .mem .mem .mem .mem .mem .mem .mem .any (fun _ => .any) k
        p s) rfl
  | reportDone k p =>
      exact Frame.leaves_anyReg rfl (@execReportDone_leaves _ .mem .mem .mem .mem .mem .mem .mem .mem .any (fun _ =>
        .any) k p s) rfl
  | assign k p =>
      exact Frame.leaves_anyReg rfl (@execAssign_leaves _ .mem .mem .mem .mem .mem .mem .mem .mem .any (fun _ => .any) k
        p s) rfl
  | beaconTick => exact Frame.leaves_within rfl (@execBeaconTick_leaves _ .mem .mem s) rfl
  | beacon k p =>
      exact Frame.leaves_anyReg rfl (@execBeacon_leaves _ .mem .mem .mem .mem .mem .mem .mem .mem .any (fun _ => .any) k
        p s) rfl
  | beaconTimeout =>
      exact Frame.leaves_within rfl (@execBeaconTimeout_leaves _ .mem .mem .mem .mem .mem .mem .mem .mem s) rfl
  | deadMarkExpiry u => exact Frame.leaves_within rfl (@execDeadMarkExpiry_leaves _ .mem u s) rfl
  | parentLinkDown =>
      exact Frame.leaves_within rfl (@execParentLinkDown_leaves _ .mem .mem .mem .mem .mem .mem .mem .mem s) rfl
  | priorityWrite v =>
      exact Frame.leaves_within rfl (@execPriorityWrite_leaves _ .mem .mem .mem .mem .mem .mem .mem .mem .mem v s) rfl
  | syncIntTick stamp => exact Frame.leaves_within rfl (@execSyncIntTick_leaves _ .mem .mem stamp s) rfl
  | syncReq k p stamp turn =>
      exact Frame.leaves_anyReg rfl (@execSyncReq_leaves _ .mem .mem .mem .mem .mem .mem .mem .mem .any (fun _ => .any)
        k p stamp turn s) rfl
  | syncRsp k p stamp =>
      exact Frame.leaves_anyReg rfl (@execSyncRsp_leaves _ .mem .mem .mem .mem .mem .mem .mem .mem .any (fun _ => .any)
        k p stamp s) rfl
  | sorrelHoldoverTimeout =>
      exact Frame.leaves_within rfl (@execSorrelHoldoverTimeout_leaves _ .mem .mem .mem .mem s) rfl
  | topoSrlSet v =>
      exact Frame.leaves_within rfl (@execTopoSrlSet_leaves _ .mem .mem .mem .mem .mem .mem .mem .mem v s) rfl
  | ringEnable r ctx size =>
      exact Frame.leaves_within rfl (@execRingEnable_leaves _ .mem .mem .mem .mem .mem .mem .mem .mem .mem r ctx size s)
        rfl
  | ringDisable r =>
      exact Frame.leaves_within rfl (@execRingDisable_leaves _ .mem .mem .mem .mem .mem .mem .mem .mem .mem r s) rfl
  | ringConfigWrite r reg v =>
      exact Frame.leaves_within rfl (@execRingConfigWrite_leaves _ .mem .mem .mem .mem .mem .mem .mem .mem .mem .mem
        .mem r reg v s) rfl
  | ringBindWrite n v => exact Frame.leaves_within rfl (@execRingBindWrite_leaves _ .mem n v s) rfl
  | doorbell r t => exact Frame.leaves_within rfl (@execDoorbell_leaves _ .mem .mem .mem .mem r t s) rfl
  | fabricDoorbell k p =>
      exact Frame.leaves_anyReg rfl (@execFabricDoorbell_leaves _ .mem .mem .mem .mem .mem .mem .mem .mem .any (fun _ =>
        .any) k p s) rfl
  | entryFetch r host => exact Frame.leaves_within rfl (@execEntryFetch_leaves _ .mem .mem .mem .mem r host s) rfl
  | programStart r sm => exact Frame.leaves_within rfl (@execProgramStart_leaves _ .mem .mem .mem .mem .mem r sm s) rfl
  | programEnd r dmaFail =>
      exact Frame.leaves_within rfl (@execProgramEnd_leaves _ .mem .mem .mem .mem .mem .mem r dmaFail s) rfl
  | completionInterrupt r => exact Frame.leaves_within rfl (@execCompletionInterrupt_leaves _ .mem .mem .mem r s) rfl
  | cqHeadWrite r v => exact Frame.leaves_within rfl (@execCqHeadWrite_leaves _ .mem .mem .mem .mem .mem .mem r v s) rfl
  | ringResume r => exact Frame.leaves_within rfl (@execRingResume_leaves _ .mem .mem .mem .mem .mem r s) rfl
  | ringFlush r host =>
      exact Frame.leaves_within rfl (@execRingFlush_leaves _ .mem .mem .mem .mem .mem .mem r host s) rfl
  | stewardHold n => exact Frame.leaves_within rfl (@execStewardHold_leaves _ .mem .mem .mem .mem n s) rfl
  | stewardRelease n => exact Frame.leaves_within rfl (@execStewardRelease_leaves _ .mem n s) rfl
  | nop r g => exact Frame.leaves_within rfl (@execNop_leaves _ .mem r g s) rfl
  | kcsEnd r g => exact Frame.leaves_within rfl (@execKcsEnd_leaves _ .mem .mem r g s) rfl
  | jmp r g off => exact Frame.leaves_within rfl (@execJmp_leaves _ .mem r g off s) rfl
  | loop r g a off => exact Frame.leaves_within rfl (@execLoop_leaves _ .mem r g a off s) rfl
  | jz r g a off => exact Frame.leaves_within rfl (@execJz_leaves _ .mem r g a off s) rfl
  | jnz r g a off => exact Frame.leaves_within rfl (@execJnz_leaves _ .mem r g a off s) rfl
  | add r g a b c => exact Frame.leaves_within rfl (@execAdd_leaves _ .mem r g a b c s) rfl
  | sub r g a b c => exact Frame.leaves_within rfl (@execSub_leaves _ .mem r g a b c s) rfl
  | mul r g a b c => exact Frame.leaves_within rfl (@execMul_leaves _ .mem r g a b c s) rfl
  | mulhu r g a b c => exact Frame.leaves_within rfl (@execMulhu_leaves _ .mem r g a b c s) rfl
  | divu r g a b c => exact Frame.leaves_within rfl (@execDivu_leaves _ .mem r g a b c s) rfl
  | remu r g a b c => exact Frame.leaves_within rfl (@execRemu_leaves _ .mem r g a b c s) rfl
  | and r g a b c => exact Frame.leaves_within rfl (@execAnd_leaves _ .mem r g a b c s) rfl
  | or r g a b c => exact Frame.leaves_within rfl (@execOr_leaves _ .mem r g a b c s) rfl
  | xor r g a b c => exact Frame.leaves_within rfl (@execXor_leaves _ .mem r g a b c s) rfl
  | shl r g a b c => exact Frame.leaves_within rfl (@execShl_leaves _ .mem r g a b c s) rfl
  | shr r g a b c => exact Frame.leaves_within rfl (@execShr_leaves _ .mem r g a b c s) rfl
  | sra r g a b c => exact Frame.leaves_within rfl (@execSra_leaves _ .mem r g a b c s) rfl
  | minu r g a b c => exact Frame.leaves_within rfl (@execMinu_leaves _ .mem r g a b c s) rfl
  | maxu r g a b c => exact Frame.leaves_within rfl (@execMaxu_leaves _ .mem r g a b c s) rfl
  | min r g a b c => exact Frame.leaves_within rfl (@execMin_leaves _ .mem r g a b c s) rfl
  | max r g a b c => exact Frame.leaves_within rfl (@execMax_leaves _ .mem r g a b c s) rfl
  | addi r g a b imm => exact Frame.leaves_within rfl (@execAddi_leaves _ .mem r g a b imm s) rfl
  | andi r g a b imm => exact Frame.leaves_within rfl (@execAndi_leaves _ .mem r g a b imm s) rfl
  | ori r g a b imm => exact Frame.leaves_within rfl (@execOri_leaves _ .mem r g a b imm s) rfl
  | xori r g a b imm => exact Frame.leaves_within rfl (@execXori_leaves _ .mem r g a b imm s) rfl
  | shli r g a b sh => exact Frame.leaves_within rfl (@execShli_leaves _ .mem r g a b sh s) rfl
  | shri r g a b sh => exact Frame.leaves_within rfl (@execShri_leaves _ .mem r g a b sh s) rfl
  | srai r g a b sh => exact Frame.leaves_within rfl (@execSrai_leaves _ .mem r g a b sh s) rfl
  | li r g a imm => exact Frame.leaves_within rfl (@execLi_leaves _ .mem r g a imm s) rfl
  | lix r g a w => exact Frame.leaves_within rfl (@execLix_leaves _ .mem r g a w s) rfl
  | sel r g a b c x => exact Frame.leaves_within rfl (@execSel_leaves _ .mem r g a b c x s) rfl
  | time r g a => exact Frame.leaves_within rfl (@execTime_leaves _ .mem r g a s) rfl
  | rinfo r g a => exact Frame.leaves_within rfl (@execRinfo_leaves _ .mem r g a s) rfl
  | ceq r g a b c => exact Frame.leaves_within rfl (@execCeq_leaves _ .mem r g a b c s) rfl
  | cne r g a b c => exact Frame.leaves_within rfl (@execCne_leaves _ .mem r g a b c s) rfl
  | cltu r g a b c => exact Frame.leaves_within rfl (@execCltu_leaves _ .mem r g a b c s) rfl
  | clt r g a b c => exact Frame.leaves_within rfl (@execClt_leaves _ .mem r g a b c s) rfl
  | cgeu r g a b c => exact Frame.leaves_within rfl (@execCgeu_leaves _ .mem r g a b c s) rfl
  | cge r g a b c => exact Frame.leaves_within rfl (@execCge_leaves _ .mem r g a b c s) rfl
  | ceqi r g a b imm => exact Frame.leaves_within rfl (@execCeqi_leaves _ .mem r g a b imm s) rfl
  | cltui r g a b imm => exact Frame.leaves_within rfl (@execCltui_leaves _ .mem r g a b imm s) rfl
  | pand r g a b c => exact Frame.leaves_within rfl (@execPand_leaves _ .mem r g a b c s) rfl
  | por r g a b c => exact Frame.leaves_within rfl (@execPor_leaves _ .mem r g a b c s) rfl
  | pxor r g a b c => exact Frame.leaves_within rfl (@execPxor_leaves _ .mem r g a b c s) rfl
  | pandn r g a b c => exact Frame.leaves_within rfl (@execPandn_leaves _ .mem r g a b c s) rfl
  | pset r g a b => exact Frame.leaves_within rfl (@execPset_leaves _ .mem r g a b s) rfl
  | dld r g a b => exact Frame.leaves_within rfl (@execDld_leaves _ .mem .mem .mem r g a b s) rfl
  | dst r g a b => exact Frame.leaves_within rfl (@execDst_leaves _ .mem .mem .mem r g a b s) rfl
  | dget r g a b x => exact Frame.leaves_within rfl (@execDget_leaves _ .mem r g a b x s) rfl
  | dset r g a b x => exact Frame.leaves_within rfl (@execDset_leaves _ .mem r g a b x s) rfl
  | dseti r g a b imm => exact Frame.leaves_within rfl (@execDseti_leaves _ .mem r g a b imm s) rfl
  | dsetx r g a b ws => exact Frame.leaves_within rfl (@execDsetx_leaves _ .mem r g a b ws s) rfl
  | dclr r g a => exact Frame.leaves_within rfl (@execDclr_leaves _ .mem r g a s) rfl
  | dmov r g a b => exact Frame.leaves_within rfl (@execDmov_leaves _ .mem r g a b s) rfl
  | ld r g a b sz imm => exact Frame.leaves_within rfl (@execLd_leaves _ .mem .mem .mem r g a b sz imm s) rfl
  | lds r g a b sz imm => exact Frame.leaves_within rfl (@execLds_leaves _ .mem .mem .mem r g a b sz imm s) rfl
  | st r g a b sz imm => exact Frame.leaves_within rfl (@execSt_leaves _ .mem .mem .mem r g a b sz imm s) rfl
  | kcsAtom r g a b c op wide =>
      exact Frame.leaves_within rfl (@execKcsAtom_leaves _ .mem .mem .mem r g a b c op wide s) rfl
  | copy r g da t => exact Frame.leaves_within rfl (@execCopy_leaves _ .mem .mem .mem .mem .mem r g da t s) rfl
  | fill r g da t => exact Frame.leaves_within rfl (@execFill_leaves _ .mem .mem .mem .mem .mem r g da t s) rfl
  | lsld r g a b sz imm => exact Frame.leaves_within rfl (@execLsld_leaves _ .mem r g a b sz imm s) rfl
  | lsst r g a b sz imm => exact Frame.leaves_within rfl (@execLsst_leaves _ .mem r g a b sz imm s) rfl
  | ctxset r g b => exact Frame.leaves_within rfl (@execCtxset_leaves _ .mem r g b s) rfl
  | plopen r g da a => exact Frame.leaves_within rfl (@execPlopen_leaves _ .mem .mem .mem r g da a s) rfl
  | plread r g da a f => exact Frame.leaves_within rfl (@execPlread_leaves _ .mem .mem .mem r g da a f s) rfl
  | plskip r g da a => exact Frame.leaves_within rfl (@execPlskip_leaves _ .mem .mem .mem r g da a s) rfl
  | plemit r g t a b c => exact Frame.leaves_within rfl (@execPlemit_leaves _ .mem .mem r g t a b c s) rfl
  | plend r g t => exact Frame.leaves_within rfl (@execPlend_leaves _ .mem .mem r g t s) rfl
  | hgemm r g da t => exact Frame.leaves_within rfl (@execHgemm_leaves _ .mem .mem r g da t s) rfl
  | hsmax r g da t => exact Frame.leaves_within rfl (@execHsmax_leaves _ .mem .mem r g da t s) rfl
  | helt r g da t => exact Frame.leaves_within rfl (@execHelt_leaves _ .mem .mem r g da t s) rfl
  | attn r g da db t => exact Frame.leaves_within rfl (@execAttn_leaves _ .mem .mem .mem .mem .mem r g da db t s) rfl
  | amerge r g da t => exact Frame.leaves_within rfl (@execAmerge_leaves _ .mem .mem .mem r g da t s) rfl
  | rdraw r g da t lost => exact Frame.leaves_within rfl (@execRdraw_leaves _ .mem .mem .mem r g da t lost s) rfl
  | rclear r g da t lost => exact Frame.leaves_within rfl (@execRclear_leaves _ .mem .mem .mem r g da t lost s) rfl
  | rcommit r g da a lost =>
      exact Frame.leaves_within rfl (@execRcommit_leaves _ .mem .mem .mem .mem .mem .mem r g da a lost s) rfl
  | pqueue r g da t lost =>
      exact Frame.leaves_within rfl (@execPqueue_leaves _ .mem .mem .mem .mem .mem .mem r g da t lost s) rfl
  | pcancel r g a lost =>
      exact Frame.leaves_within rfl (@execPcancel_leaves _ .mem .mem .mem .mem .mem .mem r g a lost s) rfl
  | pengine r g a lost =>
      exact Frame.leaves_within rfl (@execPengine_leaves _ .mem .mem .mem .mem .mem .mem .mem .mem .mem .mem .mem .mem
        .mem r g a lost s) rfl
  | pstat r g a => exact Frame.leaves_within rfl (@execPstat_leaves _ .mem r g a s) rfl
  | tload r g da t a lost =>
      exact Frame.leaves_within rfl (@execTload_leaves _ .mem .mem .mem .mem r g da t a lost s) rfl
  | tset r g a b lost => exact Frame.leaves_within rfl (@execTset_leaves _ .mem .mem .mem r g a b lost s) rfl
  | tctl r g a b lost => exact Frame.leaves_within rfl (@execTctl_leaves _ .mem .mem .mem .mem r g a b lost s) rfl
  | tcap r g da t lost => exact Frame.leaves_within rfl (@execTcap_leaves _ .mem .mem .mem r g da t lost s) rfl
  | wait r g t a noend => exact Frame.leaves_within rfl (@execWait_leaves _ .mem r g t a noend s) rfl
  | waitany r g a m => exact Frame.leaves_within rfl (@execWaitany_leaves _ .mem r g a m s) rfl
  | tst r g t a => exact Frame.leaves_within rfl (@execTst_leaves _ .mem r g t a s) rfl
  | fence r g => exact Frame.leaves_within rfl (@execFence_leaves _ .mem r g s) rfl
  | evraise r g n => exact Frame.leaves_within rfl (@execEvraise_leaves _ .mem .mem .mem r g n s) rfl
  | evtime r g b => exact Frame.leaves_within rfl (@execEvtime_leaves _ .mem r g b s) rfl
  | evtimeReached r => exact Frame.leaves_within rfl (@execEvtimeReached_leaves _ .mem r s) rfl
  | pform r g b => exact Frame.leaves_within rfl (@execPform_leaves _ .mem .mem .mem .mem .mem .mem .mem r g b s) rfl
  | pseal r g b => exact Frame.leaves_within rfl (@execPseal_leaves _ .mem .mem .mem .mem .mem r g b s) rfl
  | prst r g b =>
      exact Frame.leaves_anyReg rfl (@execPrst_leaves _ .mem .mem .mem .mem .mem .mem .mem .mem .mem .mem .mem .mem .mem
        .mem .any (fun _ => .any) r g b s) rfl
  | ptear r g t a =>
      exact Frame.leaves_anyReg rfl (@execPtear_leaves _ .mem .mem .mem .mem .mem .mem .mem .mem .mem .mem .mem .mem
        .mem .mem .mem .any (fun _ => .any) r g t a s) rfl
  | gassign r g b c => exact Frame.leaves_within rfl (@execGassign_leaves _ .mem .mem .mem .mem .mem r g b c s) rfl
  | grelease r g t a => exact Frame.leaves_within rfl (@execGrelease_leaves _ .mem .mem .mem r g t a s) rfl
  | rcreate r g b =>
      exact Frame.leaves_within rfl (@execRcreate_leaves _ .mem .mem .mem .mem .mem .mem .mem r g b s) rfl
  | radd r g b c => exact Frame.leaves_within rfl (@execRadd_leaves _ .mem .mem .mem .mem .mem .mem r g b c s) rfl
  | rpub r g b c => exact Frame.leaves_within rfl (@execRpub_leaves _ .mem .mem .mem .mem .mem r g b c s) rfl
  | rreaders r g b c => exact Frame.leaves_within rfl (@execRreaders_leaves _ .mem .mem .mem .mem .mem r g b c s) rfl
  | rwdraw r g t a => exact Frame.leaves_within rfl (@execRwdraw_leaves _ .mem .mem .mem r g t a s) rfl
  | lease r g b c =>
      exact Frame.leaves_within rfl (@execLease_leaves _ .mem .mem .mem .mem .mem .mem .mem .mem .mem .mem .mem .mem
        .mem .mem .mem r g b c s) rfl
  | logapp r g da t a => exact Frame.leaves_within rfl (@execLogapp_leaves _ .mem .mem .mem .mem r g da t a s) rfl
  | sign r g da t => exact Frame.leaves_within rfl (@execSign_leaves _ .mem .mem .mem r g da t s) rfl
  | random r g a => exact Frame.leaves_within rfl (@execRandom_leaves _ .mem .mem .mem r g a s) rfl
  | tallyComplete r t =>
      exact Frame.leaves_within rfl (@execTallyComplete_leaves _ .mem .mem .mem .mem .mem .mem .mem .mem .mem r t s) rfl
  | programRestart r => exact Frame.leaves_within rfl (@execProgramRestart_leaves _ .mem .mem .mem .mem .mem r s) rfl
  | taskDispatch cl eng => exact Frame.leaves_within rfl (@execTaskDispatch_leaves _ .mem .mem .mem cl eng s) rfl
  | tileTaskDone cl eng wrong differ =>
      exact Frame.leaves_within rfl (@execTileTaskDone_leaves _ .mem .mem .mem .mem .mem .mem .mem .mem .mem .mem .mem
        .mem .mem .mem .mem .mem .mem .mem .mem .mem cl eng wrong differ s) rfl
  | lockstepMismatch cl phys =>
      exact Frame.leaves_within rfl (@execLockstepMismatch_leaves _ .mem .mem .mem .mem .mem .mem .mem .mem .mem .mem
        .mem .mem .mem .mem .mem .mem .mem .mem cl phys s) rfl
  | stagingEccUe cl w => exact Frame.leaves_within rfl (@execStagingEccUe_leaves _ .mem .mem .mem .mem cl w s) rfl
  | invoke k p =>
      exact Frame.leaves_anyReg rfl (@execInvoke_leaves _ .mem .mem .mem .mem .mem .mem .mem .mem .any (fun _ => .any) k
        p s) rfl
  | invokeTaken r => exact Frame.leaves_within rfl (@execInvokeTaken_leaves _ .mem .mem .mem .mem .mem r s) rfl
  | resultSend r => exact Frame.leaves_within rfl (@execResultSend_leaves _ .mem .mem .mem .mem .mem r s) rfl
  | spareSwitchIn cl hatch pass =>
      exact Frame.leaves_within rfl (@execSpareSwitchIn_leaves _ .mem .mem .mem .mem .mem .mem .mem .mem .mem .mem .mem
        .mem .mem .mem .mem cl hatch pass s) rfl
  | clusterReturn cl =>
      exact Frame.leaves_within rfl (@execClusterReturn_leaves _ .mem .mem .mem .mem .mem .mem cl s) rfl
  | sramRowTest code inst row ue =>
      exact Frame.leaves_within rfl (@execSramRowTest_leaves _ .mem .mem .mem .mem .mem .mem code inst row ue s) rfl
  | sramRowTestDone code inst row pass =>
      exact Frame.leaves_anyReg rfl (@execSramRowTestDone_leaves _ .mem .mem .mem .mem .mem .mem .mem .any (fun _ =>
        .any) code inst row pass s) rfl
  | repairRecordWrite ok => exact Frame.leaves_within rfl (@execRepairRecordWrite_leaves _ .mem .mem .mem .mem ok s) rfl
  | ownerClaim q anchor roots ok =>
      exact Frame.leaves_within rfl (@execOwnerClaim_leaves _ .mem .mem .mem .mem .mem .mem q anchor roots ok s) rfl
  | ownerSet q anchor roots ok =>
      exact Frame.leaves_within rfl (@execOwnerSet_leaves _ .mem .mem .mem .mem .mem .mem q anchor roots ok s) rfl
  | partForm q p =>
      exact Frame.leaves_within rfl (@execPartForm_leaves _ .mem .mem .mem .mem .mem .mem .mem .mem q p s) rfl
  | partSeal q p => exact Frame.leaves_within rfl (@execPartSeal_leaves _ .mem .mem .mem .mem .mem .mem .mem q p s) rfl
  | partReset q p =>
      exact Frame.leaves_anyReg rfl (@execPartReset_leaves _ .mem .mem .mem .mem .mem .mem .mem .mem .mem .mem .mem .mem
        .mem .mem .mem .any (fun _ => .any) q p s) rfl
  | partTear q p =>
      exact Frame.leaves_anyReg rfl (@execPartTear_leaves _ .mem .mem .mem .mem .mem .mem .mem .mem .mem .mem .mem .mem
        .mem .mem .mem .any (fun _ => .any) q p s) rfl
  | granAssign q p first count =>
      exact Frame.leaves_within rfl (@execGranAssign_leaves _ .mem .mem .mem .mem .mem .mem .mem q p first count s) rfl
  | granRelease q first count =>
      exact Frame.leaves_within rfl (@execGranRelease_leaves _ .mem .mem .mem .mem .mem .mem .mem q first count s) rfl
  | regionCreate q n =>
      exact Frame.leaves_within rfl (@execRegionCreate_leaves _ .mem .mem .mem .mem .mem .mem .mem .mem q n s) rfl
  | regionAdd q n first count =>
      exact Frame.leaves_within rfl (@execRegionAdd_leaves _ .mem .mem .mem .mem .mem .mem .mem .mem q n first count s)
        rfl
  | regionLoad q n off len host data =>
      exact Frame.leaves_within rfl (@execRegionLoad_leaves _ .mem .mem .mem .mem .mem .mem q n off len host data s) rfl
  | regionPublish q n readers =>
      exact Frame.leaves_within rfl (@execRegionPublish_leaves _ .mem .mem .mem .mem .mem .mem .mem q n readers s) rfl
  | regionReaders q n readers =>
      exact Frame.leaves_within rfl (@execRegionReaders_leaves _ .mem .mem .mem .mem .mem .mem .mem q n readers s) rfl
  | regionWithdraw q n =>
      exact Frame.leaves_within rfl (@execRegionWithdraw_leaves _ .mem .mem .mem .mem .mem .mem .mem q n s) rfl
  | stewardLease q res holder =>
      exact Frame.leaves_within rfl (@execStewardLease_leaves _ .mem .mem .mem .mem .mem .mem .mem .mem .mem .mem .mem
        .mem .mem .mem .mem .mem .mem .mem q res holder s) rfl
  | violRead q p => exact Frame.leaves_within rfl (@execViolRead_leaves _ .mem .mem .mem q p s) rfl
  | violClear q p => exact Frame.leaves_within rfl (@execViolClear_leaves _ .mem .mem .mem .mem q p s) rfl
  | repairRead q first => exact Frame.leaves_within rfl (@execRepairRead_leaves _ .mem .mem .mem q first s) rfl
  | repairDelete q type loc =>
      exact Frame.leaves_within rfl (@execRepairDelete_leaves _ .mem .mem .mem .mem q type loc s) rfl
  | regRead q off width => exact Frame.leaves_within rfl (@execRegRead_leaves _ .mem .mem .mem .mem q off width s) rfl
  | regWrite q off width v e lost =>
      exact Frame.leaves_anyReg rfl (@execRegWrite_leaves _ .mem .mem .mem .mem .mem .mem .mem .mem .mem .mem .mem .mem
        .mem .mem .mem .mem .any (fun _ => .any) q off width v e lost s) rfl
  | mmioGrant q stream => exact Frame.leaves_within rfl (@execMmioGrant_leaves _ .mem .mem .mem q stream s) rfl
  | fwStage q off data => exact Frame.leaves_within rfl (@execFwStage_leaves _ .mem .mem .mem q off data s) rfl
  | fwCommit q second first =>
      exact Frame.leaves_within rfl (@execFwCommit_leaves _ .mem .mem .mem .mem .mem .mem q second first s) rfl
  | fwCommitSvn q =>
      exact Frame.leaves_within rfl (@execFwCommitSvn_leaves _ .mem .mem .mem .mem .mem .mem .mem q s) rfl
  | tombstoneRead q => exact Frame.leaves_within rfl (@execTombstoneRead_leaves _ .mem .mem .mem q s) rfl
  | tombstoneClear q =>
      exact Frame.leaves_within rfl (@execTombstoneClear_leaves _ .mem .mem .mem .mem .mem .mem .mem q s) rfl
  | nodeReset q code lost =>
      exact Frame.leaves_within rfl (@execNodeReset_leaves _ .mem .mem .mem .mem .mem .mem .mem .mem .mem .mem .mem .mem
        .mem .mem q code lost s) rfl
  | smbGo sess => exact Frame.leaves_within rfl (@execSmbGo_leaves _ .mem .mem .mem sess s) rfl
  | smbAbort => exact Frame.leaves_within rfl (@execSmbAbort_leaves _ .mem .mem s) rfl
  | getMeasurements sess => exact Frame.leaves_within rfl (@execGetMeasurements_leaves _ .mem sess s) rfl
  | spdmFragment k p =>
      exact Frame.leaves_anyReg rfl (@execSpdmFragment_leaves _ .mem .mem .mem .mem .mem .mem .mem .mem .any (fun _ =>
        .any) k p s) rfl
  | spdmSessionEstablished id transport link mutualAuth root digests =>
      exact Frame.leaves_within rfl (@execSpdmSessionEstablished_leaves _ .mem .mem id transport link mutualAuth root
        digests s) rfl
  | spdmSessionEnd id =>
      exact Frame.leaves_anyReg rfl (@execSpdmSessionEnd_leaves _ .mem .mem .mem .mem .mem .any (fun _ => .any) id s)
        rfl
  | lockInterface sess p => exact Frame.leaves_within rfl (@execLockInterface_leaves _ .mem .mem sess p s) rfl
  | getDeviceInterfaceReport sess p =>
      exact Frame.leaves_within rfl (@execGetDeviceInterfaceReport_leaves _ .mem sess p s) rfl
  | startInterface sess p => exact Frame.leaves_within rfl (@execStartInterface_leaves _ .mem .mem sess p s) rfl
  | stopInterface sess p =>
      exact Frame.leaves_anyReg rfl (@execStopInterface_leaves _ .mem .mem .mem .mem .mem .mem .mem .mem .mem .mem .mem
        .mem .mem .mem .mem .any (fun _ => .any) sess p s) rfl
  | ideIntegrityFailure p =>
      exact Frame.leaves_anyReg rfl (@execIdeIntegrityFailure_leaves _ .mem .mem .mem .mem .mem .mem .mem .mem .mem .mem
        .mem .mem .mem .mem .any (fun _ => .any) p s) rfl
  | pwAdmitWrite p n j v =>
      exact Frame.leaves_anyReg rfl (@execPwAdmitWrite_leaves _ .any (fun _ => .any) p n j v s) rfl
  | trngHealthFailure => exact Frame.leaves_within rfl (@execTrngHealthFailure_leaves _ .mem .mem .mem s) rfl
  | keySlotUe slot =>
      exact Frame.leaves_anyReg rfl (@execKeySlotUe_leaves _ .mem .mem .mem .mem .mem .mem .mem .mem .mem .mem .mem .mem
        .mem .mem .mem .any (fun _ => .any) slot s) rfl
  | logRecordAppend okA okB ceA ceB =>
      exact Frame.leaves_anyReg rfl (@execLogRecordAppend_leaves _ .mem .mem .mem .mem .mem .mem .mem .mem .mem .mem
        .mem .mem .mem .mem .mem .mem .any (fun _ => .any) okA okB ceA ceB s) rfl
  | checkpointSigned => exact Frame.leaves_within rfl (@execCheckpointSigned_leaves _ .mem .mem .mem .mem s) rfl
  | tombstoneFinal =>
      exact Frame.leaves_anyReg rfl (@execTombstoneFinal_leaves _ .mem .mem .mem .mem .mem .mem .mem .mem .mem .mem .mem
        .mem .mem .mem .mem .any (fun _ => .any) s) rfl
  | drainCopy okA okB dma ceA ceB =>
      exact Frame.leaves_anyReg rfl (@execDrainCopy_leaves _ .mem .mem .mem .mem .mem .mem .mem .mem .mem .mem .mem .mem
        .mem .mem .mem .mem .any (fun _ => .any) okA okB dma ceA ceB s) rfl
  | logDrainHeadWrite v =>
      exact Frame.leaves_within rfl (@execLogDrainHeadWrite_leaves _ .mem .mem .mem .mem .mem .mem .mem v s) rfl
  | drainEnable size => exact Frame.leaves_anyReg rfl (@execDrainEnable_leaves _ .any (fun _ => .any) size s) rfl
  | drainDisable => exact Frame.leaves_anyReg rfl (@execDrainDisable_leaves _ .any (fun _ => .any) s) rfl
  | logRecords => exact Frame.leaves_within rfl (@execLogRecords_leaves _ .mem .mem .mem s) rfl
  | logStartRecords okA okB chainA chainB =>
      exact Frame.leaves_anyReg rfl (@execLogStartRecords_leaves _ .mem .mem .mem .mem .mem .mem .mem .mem .mem .mem
        .mem .mem .mem .mem .mem .mem .any (fun _ => .any) okA okB chainA chainB s) rfl
  | rasterTile =>
      exact Frame.leaves_within rfl (@execRasterTile_leaves _ .mem .mem .mem .mem .mem .mem .mem .mem .mem .mem .mem
        .mem .mem .mem .mem s) rfl
  | bandRequest => exact Frame.leaves_within rfl (@execBandRequest_leaves _ .mem .mem s) rfl
  | tileBufferUe => exact Frame.leaves_within rfl (@execTileBufferUe_leaves _ .mem .mem s) rfl
  | rasThrDataWrite v => exact Frame.leaves_within rfl (@execRasThrDataWrite_leaves _ .mem .mem .mem v s) rfl
  | rasCtxOwnerWrite n v => exact Frame.leaves_within rfl (@execRasCtxOwnerWrite_leaves _ .mem .mem .mem n v s) rfl
  | dspEnable v => exact Frame.leaves_within rfl (@execDspEnable_leaves _ .mem .mem .mem .mem .mem .mem .mem v s) rfl
  | dspDisable => exact Frame.leaves_within rfl (@execDspDisable_leaves _ .mem .mem .mem .mem .mem .mem s) rfl
  | dpLinkTrained ok => exact Frame.leaves_within rfl (@execDpLinkTrained_leaves _ .mem .mem .mem .mem ok s) rfl
  | hdcpAuthentication ok rxid repeater =>
      exact Frame.leaves_within rfl (@execHdcpAuthentication_leaves _ .mem .mem .mem .mem .mem ok rxid repeater s) rfl
  | dspAuxGo v reply => exact Frame.leaves_within rfl (@execDspAuxGo_leaves _ .mem .mem .mem v reply s) rfl
  | hpdUnplug => exact Frame.leaves_within rfl (@execHpdUnplug_leaves _ .mem .mem .mem .mem s) rfl
  | irqHpd linkOk => exact Frame.leaves_within rfl (@execIrqHpd_leaves _ .mem .mem .mem linkOk s) rfl
  | dspRetryTimer => exact Frame.leaves_within rfl (@execDspRetryTimer_leaves _ .mem s) rfl
  | commitHandshake r => exact Frame.leaves_within rfl (@execCommitHandshake_leaves _ .mem .mem .mem .mem .mem r s) rfl
  | vblankLatch =>
      exact Frame.leaves_within rfl (@execVblankLatch_leaves _ .mem .mem .mem .mem .mem .mem .mem .mem s) rfl
  | engineConditionsMet =>
      exact Frame.leaves_within rfl (@execEngineConditionsMet_leaves _ .mem .mem .mem .mem .mem .mem .mem s) rfl
  | engineConditionLost =>
      exact Frame.leaves_within rfl (@execEngineConditionLost_leaves _ .mem .mem .mem .mem .mem .mem .mem s) rfl
  | pathEmpty => exact Frame.leaves_within rfl (@execPathEmpty_leaves _ .mem .mem .mem .mem .mem .mem .mem s) rfl
  | engineLost =>
      exact Frame.leaves_within rfl (@execEngineLost_leaves _ .mem .mem .mem .mem .mem .mem .mem .mem .mem .mem .mem
        .mem .mem s) rfl
  | pickLatch => exact Frame.leaves_within rfl (@execPickLatch_leaves _ .mem .mem .mem .mem s) rfl
  | imagingStart =>
      exact Frame.leaves_within rfl (@execImagingStart_leaves _ .mem .mem .mem .mem .mem .mem .mem .mem .mem .mem .mem
        .mem .mem .mem s) rfl
  | sensorEdge n high =>
      exact Frame.leaves_within rfl (@execSensorEdge_leaves _ .mem .mem .mem .mem .mem .mem .mem .mem .mem .mem .mem
        .mem .mem n high s) rfl
  | jam =>
      exact Frame.leaves_within rfl (@execJam_leaves _ .mem .mem .mem .mem .mem .mem .mem .mem .mem .mem .mem .mem s)
        rfl
  | clutchActuation => exact Frame.leaves_within rfl (@execClutchActuation_leaves _ .mem s) rfl
  | spoil =>
      exact Frame.leaves_within rfl (@execSpoil_leaves _ .mem .mem .mem .mem .mem .mem .mem .mem .mem .mem .mem .mem s)
        rfl
  | sheetExit => exact Frame.leaves_within rfl (@execSheetExit_leaves _ .mem .mem .mem .mem .mem .mem s) rfl
  | heartbeatTick erdy => exact Frame.leaves_within rfl (@execHeartbeatTick_leaves _ .mem .mem erdy s) rfl
  | hvrefPwmPeriod k => exact Frame.leaves_within rfl (@execHvrefPwmPeriod_leaves _ .mem k s) rfl
  | hvLimit k =>
      exact Frame.leaves_within rfl (@execHvLimit_leaves _ .mem .mem .mem .mem .mem .mem .mem .mem .mem .mem .mem .mem k
        s) rfl
  | zcdEdge => exact Frame.leaves_within rfl (@execZcdEdge_leaves _ .mem .mem s) rfl
  | fuserGateEnd k => exact Frame.leaves_within rfl (@execFuserGateEnd_leaves _ .mem .mem k s) rfl
  | zcdLost =>
      exact Frame.leaves_within rfl (@execZcdLost_leaves _ .mem .mem .mem .mem .mem .mem .mem .mem .mem .mem .mem .mem
        s) rfl
  | otComparatorTrip k =>
      exact Frame.leaves_within rfl (@execOtComparatorTrip_leaves _ .mem .mem .mem .mem .mem .mem .mem .mem .mem .mem
        .mem .mem k s) rfl
  | otTripClear w high => exact Frame.leaves_within rfl (@execOtTripClear_leaves _ .mem w high s) rfl
  | hashPassDone => exact Frame.leaves_within rfl (@execHashPassDone_leaves _ .mem .mem .mem .mem .mem .mem s) rfl
  | plateHashMismatch =>
      exact Frame.leaves_within rfl (@execPlateHashMismatch_leaves _ .mem .mem .mem .mem .mem .mem .mem .mem .mem .mem
        .mem .mem .mem s) rfl
  | prsConfigWrite o v =>
      exact Frame.leaves_anyReg rfl (@execPrsConfigWrite_leaves _ .mem .any (fun _ => .any) o v s) rfl
  | bdEdge k rising held cycles =>
      exact Frame.leaves_within rfl (@execBdEdge_leaves _ .mem .mem .mem .mem .mem .mem .mem .mem .mem .mem .mem .mem
        .mem .mem .mem .mem k rising held cycles s) rfl
  | bdWindowClose =>
      exact Frame.leaves_within rfl (@execBdWindowClose_leaves _ .mem .mem .mem .mem .mem .mem .mem .mem .mem .mem .mem
        .mem .mem .mem s) rfl
  | eosEdge cycles => exact Frame.leaves_within rfl (@execEosEdge_leaves _ .mem cycles s) rfl
  | lateLineData =>
      exact Frame.leaves_within rfl (@execLateLineData_leaves _ .mem .mem .mem .mem .mem .mem .mem .mem .mem .mem .mem
        .mem .mem s) rfl
  | apcCapture b =>
      exact Frame.leaves_within rfl (@execApcCapture_leaves _ .mem .mem .mem .mem .mem .mem .mem .mem .mem .mem .mem
        .mem .mem b s) rfl
  | apcUpdate b => exact Frame.leaves_within rfl (@execApcUpdate_leaves _ .mem .mem .mem .mem .mem .mem b s) rfl
  | dryConfigWrite o v =>
      exact Frame.leaves_anyReg rfl (@execDryConfigWrite_leaves _ .mem .mem .mem .any (fun _ => .any) o v s) rfl
  | adcConversionDone m v => exact Frame.leaves_within rfl (@execAdcConversionDone_leaves _ .mem .mem .mem m v s) rfl
  | adcCheck m half vss => exact Frame.leaves_within rfl (@execAdcCheck_leaves _ .mem .mem .mem .mem m half vss s) rfl
  | tachEdge n => exact Frame.leaves_within rfl (@execTachEdge_leaves _ .mem n s) rfl
  | sampleInstant n => exact Frame.leaves_within rfl (@execSampleInstant_leaves _ .mem .mem n s) rfl
  | slotStrobe n => exact Frame.leaves_within rfl (@execSlotStrobe_leaves _ .mem .mem .mem .mem n s) rfl
  | outputApply n late => exact Frame.leaves_within rfl (@execOutputApply_leaves _ .mem .mem n late s) rfl
  | slotStorageUe n => exact Frame.leaves_within rfl (@execSlotStorageUe_leaves _ .mem .mem .mem .mem n s) rfl
  | evtQEnable part size ctx =>
      exact Frame.leaves_anyReg rfl (@execEvtQEnable_leaves _ .mem .any (fun _ => .any) part size ctx s) rfl
  | evtQHeadWrite part v => exact Frame.leaves_within rfl (@execEvtQHeadWrite_leaves _ .mem .mem .mem .mem part v s) rfl
  | msixUnmask fn vec => exact Frame.leaves_anyReg rfl (@execMsixUnmask_leaves _ .mem .any (fun _ => .any) fn vec s) rfl
  | vfFlr p =>
      exact Frame.leaves_anyReg rfl (@execVfFlr_leaves _ .mem .mem .mem .mem .mem .mem .mem .mem .mem .mem .mem .mem
        .mem .mem .any (fun _ => .any) p s) rfl
  | pf0Flr => exact Frame.leaves_anyReg rfl (@execPf0Flr_leaves _ .mem .mem .mem .any (fun _ => .any) s) rfl
  | i3cCcc c => exact Frame.leaves_within rfl (@execI3cCcc_leaves _ .mem c s) rfl
  | mctpMessage t m => exact Frame.leaves_within rfl (@execMctpMessage_leaves _ .mem .mem t m s) rfl
  | telemetry t => exact Frame.leaves_within rfl (@execTelemetry_leaves _ .mem t s) rfl
  | alertAck t => exact Frame.leaves_within rfl (@execAlertAck_leaves _ .mem t s) rfl
  | avsCurrentRead current => exact Frame.leaves_within rfl (@execAvsCurrentRead_leaves _ .mem current s) rfl
  | sensorUpdate rs =>
      exact Frame.leaves_anyReg rfl (@execSensorUpdate_leaves _ .mem .mem .mem .mem .mem .mem .mem .mem .mem .mem .mem
        .mem .mem .mem .mem .mem .mem .mem .mem .mem .any (fun _ => .any) rs s) rfl
  | prochotNChange low held =>
      exact Frame.leaves_within rfl (@execProchotNChange_leaves _ .mem .mem .mem .mem low held s) rfl
  | tapInstruction op forming =>
      exact Frame.leaves_within rfl (@execTapInstruction_leaves _ .mem .mem .mem .mem .mem .mem .mem .mem .mem .mem .mem
        .mem .mem .mem .mem .mem .mem .mem .mem .mem op forming s) rfl
  | padControlExit op =>
      exact Frame.leaves_within rfl (@execPadControlExit_leaves _ .mem .mem .mem .mem .mem .mem .mem .mem .mem .mem .mem
        .mem .mem .mem .mem .mem .mem .mem .mem .mem op s) rfl
  | trstNAssert => exact Frame.leaves_within rfl (@execTrstNAssert_leaves _ .mem .mem .mem .mem .mem s) rfl
  | tstJobStart => exact Frame.leaves_within rfl (@execTstJobStart_leaves _ .mem .mem .mem .mem .mem .mem .mem s) rfl
  | tstJobAbort => exact Frame.leaves_within rfl (@execTstJobAbort_leaves _ .mem .mem .mem .mem .mem s) rfl
  | tstJobEnd locked bitsN errs targetFailed =>
      exact Frame.leaves_within rfl (@execTstJobEnd_leaves _ .mem .mem .mem .mem .mem .mem .mem locked bitsN errs
        targetFailed s) rfl
  | selfTestJobDone rows pass =>
      exact Frame.leaves_anyReg rfl (@execSelfTestJobDone_leaves _ .mem .mem .mem .mem .mem .mem .mem .any (fun _ =>
        .any) rows pass s) rfl
  | prsIlkInRise => exact Frame.leaves_within rfl (@execPrsIlkInRise_leaves _ .mem .mem s) rfl
  | hpdPlug => exact Frame.leaves_within rfl (@execHpdPlug_leaves _ .mem .mem .mem s) rfl
  | pcieLinkUp width speed numVfs vfMse enabled masked =>
      exact Frame.leaves_within rfl (@execPcieLinkUp_leaves _ .mem .mem .mem .mem .mem width speed numVfs vfMse enabled
        masked s) rfl
  | pcieLinkDown => exact Frame.leaves_within rfl (@execPcieLinkDown_leaves _ .mem s) rfl
  | bdWindowOpen =>
      exact Frame.leaves_within rfl (@execBdWindowOpen_leaves _ .mem .mem .mem .mem .mem .mem .mem .mem .mem .mem .mem
        .mem .mem s) rfl
  | pwmPeriod k => exact Frame.leaves_within rfl (@execPwmPeriod_leaves _ .mem .mem k s) rfl
  | ideKm sess op stream => exact Frame.leaves_within rfl (@execIdeKm_leaves _ .mem sess op stream s) rfl
  | drbgReseed => exact Frame.leaves_within rfl (@execDrbgReseed_leaves _ .mem .mem .mem s) rfl
  | vddAonLoss =>
      exact Frame.leaves_anyReg rfl (@execVddAonLoss_leaves _ .mem .mem .mem .mem .mem .mem .mem .mem .mem .mem .mem
        .mem .mem .mem .mem .mem .mem .mem .mem .mem .any (fun _ => .any) s) rfl
  | testLogicReset =>
      exact Frame.leaves_within rfl (@execTestLogicReset_leaves _ .mem .mem .mem .mem .mem .mem .mem s) rfl
  | tstErrThrReached locked bitsN errs =>
      exact Frame.leaves_within rfl (@execTstErrThrReached_leaves _ .mem .mem .mem .mem .mem .mem locked bitsN errs s)
        rfl

theorem exec_frame {c : Instr} (h : exec c s = .next t) : (frameOf c).holds s t :=
  Frame.holds_of_leaves (exec_leaves c s) h

/-- Settles O18, by the frame of every command. -/
theorem framesOfPlainInstructions : Obligations.FramesOfPlainInstructions := fun _ _ _ _ _ h => exec_frame h

/-- Settles O19, by the frame of every command. -/
theorem framesWithoutEvents : Obligations.FramesWithoutEvents := fun _ _ _ _ _ h => exec_frame h

/-- Settles O20, by the frame of every command. -/
theorem framesWithEvents : Obligations.FramesWithEvents := fun _ _ _ _ _ _ h => exec_frame h

/-- Settles O21, by the frame of every command. -/
theorem framesWithMemory : Obligations.FramesWithMemory := fun _ _ _ _ _ h => exec_frame h

/-- Settles O22, by the frame of every command. -/
theorem framesOfResetsAndPackets : Obligations.FramesOfResetsAndPackets := fun _ _ _ _ h => exec_frame h

end Sys2Proof.Machine
end

section
/-! SUPPORT. The canonical form of the pool's bytes, as a property of what lies outside a footprint that leaves the
bytes: an operation that changes no byte is rewritten away by its footprint, and one that may change bytes has a lemma
below. -/

namespace Sys2Proof.Machine

/-- What commands may change, but for the pool's bytes. -/
class Foot.ButBytes (F : Foot) : Prop extends F.EvParts, F.Memory, F.Repair, F.Free, F.Translation, F.PevRegs,
    F.Captures, F.HeldLow, F.Power, F.Clocks, F.Pins, F.Seals, F.Log, F.Rings, F.Hatch, F.Raster, F.Display, F.Path,
    F.Drypoint, F.Tansy, F.Inputs, F.Leases, F.Fabric, F.Trust, F.Test where
  bytes : ¬F.part .bytes

/-- The pool's bytes are in canonical form in a state that looks so outside `F`. -/
def Foot.Ok (F : Foot) (x : Quotient F.setoid) : Prop := ∃ s : State, s.out F = x ∧ s.poolOk = true

/-- The outcome of a command, when it is a next state, has the pool's bytes in canonical form. -/
def StaysOk (F : Foot) (o : Out) : Prop := ∀ t, o = .next t → F.Ok (t.out F)

/-- The same of a result that may be an error. -/
def StaysOkOr {ε : Type} (F : Foot) (x : Except ε State) : Prop := ∀ t, x = .ok t → F.Ok (t.out F)

/-- The same of a result that may be none. -/
def StaysOkSome (F : Foot) (x : Option State) : Prop := ∀ t, x = some t → F.Ok (t.out F)

variable {F : Foot} {s t : State}

/-- Where any register may change, and any part but the bytes, an update has only the bytes to answer for. -/
@[simp] theorem State.out_mk_butBytes [hF : F.ButBytes] [∀ g, F.Reg g] (s : State) {regs : Tab W64} {cap : Tab Nat}
    {capFrac : Option Nat} {heldLow : Tab Nat} {freeCtr : Nat} {pwr : PwrState} {clk : ClkState} {pool : PoolState}
    {xlt : XltState} {evt : EvtState} {press : PressPins} {seals : List Seal} {nextSeal : Nat} {log : LogState}
    {rings : RingState} {hatch : HatchState} {ras : RasState} {dsp : DispState} {prs : PrsState} {dry : DryState}
    {tns : TnsState} {pressIn : PressIn} {leases : Leases} {rpr : RprState} {fab : FabState} {trust : TrustState}
    {tst : TestState} {fabOut : List (Nat × Packet)} {hostOut : List HostOut} (h : pool.cells = s.pool.cells) :
    (State.mk regs cap capFrac heldLow s.ticks freeCtr s.fuses pwr clk pool xlt evt press seals nextSeal log rings
      hatch ras dsp prs dry tns pressIn leases rpr fab trust tst fabOut hostOut s.pending).out F = s.out F := by
  refine State.out_eq_iff.mpr ⟨fun x hx => ?_, fun key hKey => absurd (Foot.reg_of_one key) hKey⟩
  cases x <;> simp_all [Comp.same]

@[simp] theorem State.out_mk_samePool [F.ButBytes] [∀ g, F.Reg g] (s : State) {regs : Tab W64} {cap : Tab Nat}
    {capFrac : Option Nat} {heldLow : Tab Nat} {freeCtr : Nat} {pwr : PwrState} {clk : ClkState}
    {xlt : XltState} {evt : EvtState} {press : PressPins} {seals : List Seal} {nextSeal : Nat} {log : LogState}
    {rings : RingState} {hatch : HatchState} {ras : RasState} {dsp : DispState} {prs : PrsState} {dry : DryState}
    {tns : TnsState} {pressIn : PressIn} {leases : Leases} {rpr : RprState} {fab : FabState} {trust : TrustState}
    {tst : TestState} {fabOut : List (Nat × Packet)} {hostOut : List HostOut} :
    (State.mk regs cap capFrac heldLow s.ticks freeCtr s.fuses pwr clk s.pool xlt evt press seals nextSeal log rings
      hatch ras dsp prs dry tns pressIn leases rpr fab trust tst fabOut hostOut s.pending).out F = s.out F :=
  State.out_mk_butBytes s rfl

@[simp] theorem State.put_out_any [∀ g, F.Reg g] (s : State) (f : Fld) (x : Nat) : (s.put f x).out F = s.out F :=
  State.put_out s (Foot.reg_of_one _) x

@[simp] theorem State.putB_out_any [∀ g, F.Reg g] (s : State) (f : Fld) (x : Bool) : (s.putB f x).out F = s.out F :=
  State.putB_out s (Foot.reg_of_one _) x

@[simp] theorem State.bump_out_any [∀ g, F.Reg g] (s : State) (f : Fld) (k : Nat) : (s.bump f k).out F = s.out F :=
  State.bump_out s (Foot.reg_of_one _) k

@[simp] theorem State.incr_out_any [∀ g, F.Reg g] (s : State) (f : Fld) (k : Nat) : (s.incr f k).out F = s.out F :=
  State.incr_out s (Foot.reg_of_one _) k

@[simp] theorem State.orBits_out_any [∀ g, F.Reg g] (s : State) (f : Fld) (k : Nat) :
    (s.orBits f k).out F = s.out F :=
  State.orBits_out s (Foot.reg_of_one _) k

theorem ok_of_poolOk (h : s.poolOk = true) : F.Ok (s.out F) := ⟨s, rfl, h⟩

theorem poolOk_of_ok [hF : F.ButBytes] (h : F.Ok (s.out F)) : s.poolOk = true := by
  obtain ⟨t, ht, hOk⟩ := h
  have hCells := (State.out_eq_iff.mp ht).part .bytes hF.bytes
  simp only [Comp.same] at hCells
  rwa [State.poolOk, ← hCells]

@[simp] theorem ok_ite (c : Prop) [Decidable c] (x y : Quotient F.setoid) :
    F.Ok (if c then x else y) ↔ if c then F.Ok x else F.Ok y := by split_ifs <;> rfl

@[simp] theorem staysOk_next : StaysOk F (.next t) ↔ F.Ok (t.out F) :=
  ⟨fun h => h t rfl, fun h _ e => Host.Outcome.next.inj e ▸ h⟩

@[simp] theorem staysOk_fault (x : Fault) : StaysOk F (.fault x) := fun _ e => nomatch e

@[simp] theorem staysOk_refused (x : Refusal) : StaysOk F (.refused x) := fun _ e => nomatch e

@[simp] theorem staysOk_ite (c : Prop) [Decidable c] (a b : Out) :
    StaysOk F (if c then a else b) ↔ if c then StaysOk F a else StaysOk F b := by split_ifs <;> rfl

@[simp] theorem staysOkOr_ok {ε : Type} : StaysOkOr (ε := ε) F (.ok t) ↔ F.Ok (t.out F) :=
  ⟨fun h => h t rfl, fun h _ e => Except.ok.inj e ▸ h⟩

@[simp] theorem staysOkOr_error {ε : Type} (e : ε) : StaysOkOr F (.error e : Except ε State) := fun _ h => nomatch h

@[simp] theorem staysOkOr_ite {ε : Type} (c : Prop) [Decidable c] (a b : Except ε State) :
    StaysOkOr F (if c then a else b) ↔ if c then StaysOkOr F a else StaysOkOr F b := by split_ifs <;> rfl

@[simp] theorem staysOkSome_some : StaysOkSome F (some t) ↔ F.Ok (t.out F) :=
  ⟨fun h => h t rfl, fun h _ e => Option.some.inj e ▸ h⟩

@[simp] theorem staysOkSome_none : StaysOkSome F none := fun _ h => nomatch h

@[simp] theorem staysOkSome_ite (c : Prop) [Decidable c] (a b : Option State) :
    StaysOkSome F (if c then a else b) ↔ if c then StaysOkSome F a else StaysOkSome F b := by split_ifs <;> rfl

theorem ok_of_ite {c : Prop} [Decidable c] {a b : State} (ha : F.Ok (a.out F)) (hb : F.Ok (b.out F)) :
    F.Ok ((if c then a else b).out F) := by
  split <;> assumption

theorem staysOk_of_ite {c : Prop} [Decidable c] {a b : Out} (ha : StaysOk F a) (hb : StaysOk F b) :
    StaysOk F (if c then a else b) := by
  split <;> assumption

theorem staysOkOr_of_ite {ε : Type} {c : Prop} [Decidable c] {a b : Except ε State} (ha : StaysOkOr F a)
    (hb : StaysOkOr F b) : StaysOkOr F (if c then a else b) := by
  split <;> assumption

theorem staysOkSome_of_ite {c : Prop} [Decidable c] {a b : Option State} (ha : StaysOkSome F a)
    (hb : StaysOkSome F b) : StaysOkSome F (if c then a else b) := by
  split <;> assumption

/-- Where the caller falls back to `s` itself, so does the claim. -/
theorem staysOkSome_getD {x : Option State} (h : StaysOkSome F x) (hs : F.Ok (s.out F)) : F.Ok ((x.getD s).out F) := by
  cases x with
  | none => exact hs
  | some t => exact h t rfl

@[simp] theorem State.each_ok {α : Type} {s : State} (l : List α) (f : α → State → State)
    (h : ∀ a t, F.Ok (t.out F) → F.Ok ((f a t).out F)) (hs : F.Ok (s.out F)) : F.Ok ((s.each l f).out F) :=
  List.foldlRecOn (motive := fun t => F.Ok (t.out F)) l (fun t a => f a t) hs fun t ht a _ => h a t ht

/-- A fold keeps the form when each of its steps does. -/
theorem foldl_ok {α β : Type} (g : β → State) (l : List α) (f : β → α → β)
    (h : ∀ b a, F.Ok ((g b).out F) → F.Ok ((g (f b a)).out F)) {b : β} (hb : F.Ok ((g b).out F)) :
    F.Ok ((g (l.foldl f b)).out F) :=
  List.foldlRecOn (motive := fun c => F.Ok ((g c).out F)) l f hb fun c hc a _ => h c a hc

@[simp] theorem foldl_snd_ok {α β : Type} (l : List α) (f : β × State → α → β × State)
    (h : ∀ b a, F.Ok (b.2.out F) → F.Ok ((f b a).2.out F)) {b : β × State} (hb : F.Ok (b.2.out F)) :
    F.Ok ((l.foldl f b).2.out F) :=
  foldl_ok Prod.snd l f h hb

end Sys2Proof.Machine
end

section
/-! SUPPORT. The form of the bytes is kept. Pool memory: placement, the symbol code at a line, the valid hierarchy, line
reads and writes, error accounting, device retirement and row repair. -/

namespace Sys2Proof.Machine

variable {F : Foot}

@[simp] theorem storeLine_ok [F.ButBytes] [∀ g, F.Reg g] (line : Nat) (data : List Byte) (s : State)
    (hs : F.Ok (s.out F)) : F.Ok ((storeLine line data s).out F) := by
  exact ok_of_poolOk (storeLine_poolOk _ _ _ (poolOk_of_ok hs))

@[simp] theorem writeServed_ok [F.ButBytes] [∀ g, F.Reg g] (line : Nat) (data : List Byte) (s : State)
    (hs : F.Ok (s.out F)) : F.Ok ((writeServed line data s).2.out F) := by
  unfold writeServed
  grind [hierarchy_out, storeLine_ok]

@[simp] theorem partServed_ok [F.ButBytes] [∀ g, F.Reg g] (line mask : Nat) (data : List Byte) (s : State)
    (hs : F.Ok (s.out F)) : F.Ok ((partServed line mask data s).2.out F) := by
  unfold partServed
  grind [storeLine_ok, readServed_out]

@[simp] theorem opServed_ok [F.ButBytes] [∀ g, F.Reg g] (line : Nat) (op : MemOp) (s : State) (hs : F.Ok (s.out F)) :
    F.Ok ((opServed line op s).2.out F) := by
  unfold opServed
  split <;> simp [hs]

@[simp] theorem lineOp_ok [F.ButBytes] [∀ g, F.Reg g] (line : Nat) (op : MemOp) (s : State) (hs : F.Ok (s.out F)) :
    F.Ok ((lineOp line op s).2.out F) := by
  unfold lineOp
  split <;> simp [hs]

@[simp] theorem lineRequest_ok [F.ButBytes] [∀ g, F.Reg g] (line : Nat) (op : MemOp) (s : State) (hs : F.Ok (s.out F)) :
    F.Ok ((lineRequest line op s).out F) := by
  unfold lineRequest
  split <;> simp <;> grind [lineOp_ok]

@[simp] theorem serveHeld_ok [F.ButBytes] [∀ g, F.Reg g] (s : State) (hs : F.Ok (s.out F)) :
    F.Ok ((serveHeld s).out F) := by
  simp +contextual [serveHeld, hs]

end Sys2Proof.Machine
end

section
/-! SUPPORT. The form of the bytes is kept. Partitions' granules, translation, violations, accesses by virtual address,
and invalidation. -/

namespace Sys2Proof.Machine

variable {F : Foot}

@[simp] theorem readAt_ok [F.ButBytes] [∀ g, F.Reg g] (ppa n : Nat) (s : State) (hs : F.Ok (s.out F)) :
    F.Ok ((readAt ppa n s).2.out F) := by
  unfold readAt
  grind [lineOp_ok]

@[simp] theorem contextEntry_ok [F.ButBytes] [∀ g, F.Reg g] (cid : Nat) (s : State) (hs : F.Ok (s.out F)) :
    F.Ok ((contextEntry cid s).2.out F) := by
  unfold contextEntry
  grind [State.out_xlt, cacheLook_out, readAt_ok]

@[simp] theorem walk_ok [F.ButBytes] [∀ g, F.Reg g] (p cid va lvl t : Nat) (s : State) (hs : F.Ok (s.out F)) :
    F.Ok ((walk p cid va lvl t s).2.out F) := by
  induction lvl generalizing t s with
  | zero => exact hs
  | succ lvl ih =>
    unfold walk
    grind [State.out_xlt, readAt_ok]

@[simp] theorem leafOf_ok [F.ButBytes] [∀ g, F.Reg g] (ce : CachedCtx) (va : Nat) (s : State) (hs : F.Ok (s.out F)) :
    F.Ok ((leafOf ce va s).2.out F) := by
  unfold leafOf
  dsimp only
  split <;> simp <;> grind [State.out_xlt, cacheLook_out, walk_ok]

@[simp] theorem translateBy_ok [F.ButBytes] [∀ g, F.Reg g] (own : Option Nat) (src : Src) (cid va : Nat) (op : AccOp)
    (s : State) (hs : F.Ok (s.out F)) : F.Ok ((translateBy own src cid va op s).2.out F) := by
  unfold translateBy
  grind [contextEntry_ok, leafOf_ok]

@[simp] theorem translate_ok [F.ButBytes] [∀ g, F.Reg g] (src : Src) (cid va : Nat) (op : AccOp) (s : State)
    (hs : F.Ok (s.out F)) : F.Ok ((translate src cid va op s).2.out F) := by
  simp [translate, hs]

@[simp] theorem readPiece_ok [F.ButBytes] [∀ g, F.Reg g] (src : Src) (cid : Nat) (pc : Nat × Nat) (rs : AccRes × State)
    (hs : F.Ok (rs.2.out F)) : F.Ok ((readPiece src cid pc rs).2.out F) := by
  unfold readPiece
  grind [translate_ok, readAt_ok]

@[simp] theorem readVA_ok [F.ButBytes] [∀ g, F.Reg g] (src : Src) (cid va n : Nat) (s : State) (hs : F.Ok (s.out F)) :
    F.Ok ((readVA src cid va n s).2.out F) := by
  simp +contextual [readVA, hs]

@[simp] theorem writePiece_ok [F.ButBytes] [∀ g, F.Reg g] (own : Option Nat) (src : Src) (cid base : Nat)
    (data : List Byte) (pc : Nat × Nat) (rs : AccRes × State) (hs : F.Ok (rs.2.out F)) :
    F.Ok ((writePiece own src cid base data pc rs).2.out F) := by
  unfold writePiece
  grind [translateBy_ok, lineOp_ok]

@[simp] theorem writeVABy_ok [F.ButBytes] [∀ g, F.Reg g] (own : Option Nat) (src : Src) (cid va : Nat)
    (data : List Byte) (s : State) (hs : F.Ok (s.out F)) : F.Ok ((writeVABy own src cid va data s).2.out F) := by
  simp +contextual [writeVABy, hs]

@[simp] theorem writeVA_ok [F.ButBytes] [∀ g, F.Reg g] (src : Src) (cid va : Nat) (data : List Byte) (s : State)
    (hs : F.Ok (s.out F)) : F.Ok ((writeVA src cid va data s).2.out F) := by
  simp [writeVA, hs]

@[simp] theorem atomicVA_ok [F.ButBytes] [∀ g, F.Reg g] (src : Src) (cid va op sz a b : Nat) (s : State)
    (hs : F.Ok (s.out F)) : F.Ok ((atomicVA src cid va op sz a b s).2.out F) := by
  unfold atomicVA
  grind [translate_ok, lineOp_ok, countAccess_out, readAt_ok]

end Sys2Proof.Machine
end

section
/-! SUPPORT. The form of the bytes is kept. Delivery of the events of a partition to the partition's queue and vectors.
-/

namespace Sys2Proof.Machine

variable {F : Foot}

@[simp] theorem offerPart_ok [F.ButBytes] [∀ g, F.Reg g] (p : Nat) (e : Event) (s : State) (hs : F.Ok (s.out F)) :
    F.Ok ((offerPart p e s).out F) := by
  simp [offerPart, hs]

@[simp] theorem raisePart_ok [F.ButBytes] [∀ g, F.Reg g] (p : Nat) (e : Event) (s : State) (hs : F.Ok (s.out F)) :
    F.Ok ((raisePart p e s).out F) := by
  simp [raisePart, hs]

@[simp] theorem raiseHolder_ok [F.ButBytes] [∀ g, F.Reg g] (holder : Option Nat) (src a0 a1 a2 : Nat) (s : State)
    (hs : F.Ok (s.out F)) : F.Ok ((raiseHolder holder src a0 a1 a2 s).out F) := by
  unfold raiseHolder
  split <;> simp [hs]

end Sys2Proof.Machine
end

section
/-! SUPPORT. The form of the bytes is kept. Rings and their registers, programs and tallies, and a program's own memory
accesses. -/

namespace Sys2Proof.Machine

variable {F : Foot}

@[simp] theorem pauseRing_ok [F.ButBytes] [∀ g, F.Reg g] (r cause : Nat) (s : State) (hs : F.Ok (s.out F)) :
    F.Ok ((pauseRing r cause s).out F) := by
  simp [pauseRing, hs]

@[simp] theorem smReadPiece_ok [F.ButBytes] [∀ g, F.Reg g] (pc : Nat × Nat) (rs : AccRes × State)
    (hs : F.Ok (rs.2.out F)) : F.Ok ((smReadPiece pc rs).2.out F) := by
  unfold smReadPiece
  grind [readAt_ok]

@[simp] theorem smWritePiece_ok [F.ButBytes] [∀ g, F.Reg g] (base : Nat) (data : List Byte) (pc : Nat × Nat)
    (rs : AccRes × State) (hs : F.Ok (rs.2.out F)) : F.Ok ((smWritePiece base data pc rs).2.out F) := by
  unfold smWritePiece
  grind [lineOp_ok]

@[simp] theorem ringRead_ok [F.ButBytes] [∀ g, F.Reg g] (r ctx va n : Nat) (s : State) (hs : F.Ok (s.out F)) :
    F.Ok ((ringRead r ctx va n s).2.out F) := by
  simp +contextual [ringRead, hs]

@[simp] theorem ringWrite_ok [F.ButBytes] [∀ g, F.Reg g] (r ctx va : Nat) (data : List Byte) (s : State)
    (hs : F.Ok (s.out F)) : F.Ok ((ringWrite r ctx va data s).2.out F) := by
  simp +contextual [ringWrite, hs]

@[simp] theorem ringAtomic_ok [F.ButBytes] [∀ g, F.Reg g] (r ctx va op sz a b : Nat) (s : State) (hs : F.Ok (s.out F)) :
    F.Ok ((ringAtomic r ctx va op sz a b s).2.out F) := by
  unfold ringAtomic
  grind [ringRead_ok, ringWrite_ok, atomicVA_ok]

end Sys2Proof.Machine
end

section
/-! SUPPORT. The form of the bytes is kept. Surfaces as readers see them, display lists, coverage, colour and screening,
the plate hash, and seals. -/

namespace Sys2Proof.Machine

variable {F : Foot}

theorem rdMany_ok [F.ButBytes] [∀ g, F.Reg g] {rd : Rd} (hrd : ∀ va n t, F.Ok (t.out F) → F.Ok ((rd va n t).2.out F))
    (l : List (Nat × Nat)) (s : State) (hs : F.Ok (s.out F)) : F.Ok ((rdMany rd l s).2.out F) := by
  unfold rdMany
  simp_all

theorem readFlags_ok [F.ButBytes] [∀ g, F.Reg g] {rd : Rd} (hrd : ∀ va n t, F.Ok (t.out F) → F.Ok ((rd va n t).2.out F))
    (f : Surf) (s : State) (hs : F.Ok (s.out F)) : F.Ok ((readFlags rd f s).2.2.out F) := by
  simp [readFlags, hrd, hs]

theorem tileRow_ok [F.ButBytes] [∀ g, F.Reg g] {rd : Rd} (hrd : ∀ va n t, F.Ok (t.out F) → F.Ok ((rd va n t).2.out F))
    (f : Surf) (fl : Flags) (y tx : Nat) (s : State) (hs : F.Ok (s.out F)) :
    F.Ok ((tileRow rd f fl y tx s).2.out F) := by
  unfold tileRow
  split_ifs <;> simp [hrd, hs]

theorem rowSeen_ok [F.ButBytes] [∀ g, F.Reg g] {rd : Rd} (hrd : ∀ va n t, F.Ok (t.out F) → F.Ok ((rd va n t).2.out F))
    (f : Surf) (fl : Flags) (y : Nat) (s : State) (hs : F.Ok (s.out F)) : F.Ok ((rowSeen rd f fl y s).2.out F) := by
  unfold rowSeen
  refine foldl_ok Prod.snd _ _ (fun rs tx ht => ?_) hs
  exact tileRow_ok hrd f fl y tx _ ht

theorem plateBytes_ok [F.ButBytes] [∀ g, F.Reg g] {rd : Rd}
    (hrd : ∀ va n t, F.Ok (t.out F) → F.Ok ((rd va n t).2.out F)) (f : Surf) (s : State) (hs : F.Ok (s.out F)) :
    F.Ok ((plateBytes rd f s).2.out F) := by
  unfold plateBytes
  refine foldl_ok Prod.snd _ _ (fun rs y ht => ?_) (readFlags_ok hrd f s hs)
  exact rowSeen_ok hrd f _ y _ ht

theorem readImages_ok [F.ButBytes] [∀ g, F.Reg g] {rd : Rd}
    (hrd : ∀ va n t, F.Ok (t.out F) → F.Ok ((rd va n t).2.out F)) (fmt x0 x1 y0 y1 : Nat) (l : List RCmd) (s : State)
    (hs : F.Ok (s.out F)) : F.Ok ((readImages rd fmt x0 x1 y0 y1 l s).2.2.out F) := by
  refine foldl_ok (fun a : List RCmd × AccRes × State => a.2.2) _ _ (fun acc c ht => ?_) hs
  dsimp only
  split
  · exact foldl_ok (fun a : Tab (List Byte) × AccRes × State => a.2.2) _ _ (fun _ _ => hrd _ _ _) ht
  · exact ht

@[simp] theorem captureFrames_ok [F.ButBytes] [∀ g, F.Reg g] (r cid va n : Nat) (x : Captured) (hs : F.Ok (x.2.2.out F))
    : F.Ok ((captureFrames r cid va n x).2.2.out F) := by
  unfold captureFrames
  split_ifs
  · exact hs
  · refine foldl_ok (fun c : Captured => c.2.2) _ _ (fun c i ht => ?_) hs
    grind [translate_ok, recordViolation_out]

@[simp] theorem captureSurf_ok [F.ButBytes] [∀ g, F.Reg g] (r : Nat) (f : Surf) (s : State) (hs : F.Ok (s.out F)) :
    F.Ok ((captureSurf r f s).2.2.out F) := by
  simp [captureSurf, hs]

@[simp] theorem mapRd_ok [F.ButBytes] [∀ g, F.Reg g] (m : Tab Nat) (va n : Nat) (s : State) (hs : F.Ok (s.out F)) :
    F.Ok ((mapRd m va n s).2.out F) := by
  unfold mapRd
  refine foldl_ok Prod.snd _ _ (fun rs pc ht => ?_) hs
  grind [readAt_ok]

@[simp] theorem ringRd_ok [F.ButBytes] [∀ g, F.Reg g] (r cid va n : Nat) (s : State) (hs : F.Ok (s.out F)) :
    F.Ok ((ringRd r cid va n s).2.out F) := by
  simp [ringRd, hs]

end Sys2Proof.Machine
end

section
/-! SUPPORT. The form of the bytes is kept. KCS instruction words, the program check, and what every instruction has in
common: its guard, its place in the program, its tally and its order. -/

namespace Sys2Proof.Machine

variable {F : Foot}

@[simp] theorem kcs_ok [F.ButBytes] [∀ g, F.Reg g] {r : Fin 132} {g : Guard} {w : W64} {ext : List W64}
    {body : Prog → State → State} {s : State} (h : ∀ p, F.Ok ((body p s).out F)) (hs : F.Ok (s.out F)) : StaysOk F
    (kcs r g w ext body s) := by
  unfold kcs
  (repeat' split) <;> simp_all

@[simp] theorem kindA_ok [F.ButBytes] [∀ g, F.Reg g] {r t : Nat} {p : Prog} {s : State} {issue : Prog → State → State}
    (h : ∀ q, F.Ok ((issue q s).out F)) (hs : F.Ok (s.out F)) : F.Ok ((kindA r t p s issue).out F) := by
  simp [kindA, h, hs]

@[simp] theorem orderOf_ok [F.ButBytes] [∀ g, F.Reg g] {r code : Nat} {lost : Bool} {p : Prog} {s : State}
    {run : Prog → State → State} (h : ∀ q, F.Ok ((run q s).out F)) (hs : F.Ok (s.out F)) :
    F.Ok ((orderOf r code lost p s run).out F) := by
  simp [orderOf, h, hs]

@[simp] theorem access_ok [F.ButBytes] [∀ g, F.Reg g] {r : Nat} {p : Prog} {s0 : State} {x : AccRes × State}
    {k : List Byte → State → State} (h0 : F.Ok (s0.out F)) (hx : F.Ok (x.2.out F))
    (h : ∀ d t, F.Ok (t.out F) → F.Ok ((k d t).out F)) : F.Ok ((access r p s0 x k).out F) := by
  unfold access
  split_ifs
  · exact h0
  · split
    · simp [hx]
    · exact h _ _ hx

end Sys2Proof.Machine
end

section
/-! SUPPORT. The form of the bytes is kept. Burin: raster contexts and their queues, the tiles of a job, and a band of a
streaming page. -/

namespace Sys2Proof.Machine

variable {F : Foot}

theorem wrMany_ok [F.ButBytes] [∀ g, F.Reg g] {wr : Nat → List Byte → State → AccRes × State}
    (hwr : ∀ va d t, F.Ok (t.out F) → F.Ok ((wr va d t).2.out F)) (l : List (Nat × List Byte)) (s : State)
    (hs : F.Ok (s.out F)) : F.Ok ((wrMany wr l s).2.out F) := by
  unfold wrMany
  simp_all

@[simp] theorem renderFrom_ok [F.ButBytes] [∀ g, F.Reg g] (j : RasJob) (f : Surf) (cmds : List RCmd) (fuel t : Nat)
    (s : State) (hs : F.Ok (s.out F)) : F.Ok ((renderFrom j f cmds fuel t s).2.out F) := by
  have hi := readImages_ok (F := F) (ringRd_ok j.ring f.cid)
  have hm := rdMany_ok (F := F) (ringRd_ok j.ring f.cid)
  have hw := wrMany_ok (F := F) (fun va d t => writeVA_ok (.ring j.ring) f.cid va d t)
  induction fuel generalizing t s with
  | zero => exact hs
  | succ fuel ih =>
    unfold renderFrom
    dsimp only
    split
    · exact hs
    · split
      · simp [hi, hs]
      · split
        · simp [ih, hi, hs]
        · split
          · simp [hi, hm, hs]
          · split
            · simp [hi, hm, hs]
            · split
              · exact hw _ _ (by simp [hi, hm, hs])
              · dsimp only
                rw [State.bump_out _ (by simp)]
                exact hw _ _ (by simp [hi, hm, hs])

@[simp] theorem jobStep_ok [F.ButBytes] [∀ g, F.Reg g] (s : State) (hs : F.Ok (s.out F)) :
    F.Ok ((jobStep s).out F) := by
  unfold jobStep
  dsimp only
  split
  · exact hs
  · split
    · exact hs
    · split
      · split <;> simp [hs]
      · split
        · simp [hs]
        · exact hs
        · split
          · simp [hs]
          · generalize hx : renderFrom _ _ _ _ _ _ = x
            have h : F.Ok (x.2.out F) := by
              subst hx
              refine renderFrom_ok _ _ _ _ _ _ ?_
              split <;> simp [hs]
            obtain ⟨res, u⟩ := x
            cases res <;> simp_all

@[simp] theorem renderBand_ok [F.ButBytes] [∀ g, F.Reg g] (p : Page) (x : Stream) (k : Nat) (s : State)
    (hs : F.Ok (s.out F)) : F.Ok ((renderBand p x k s).2.out F) := by
  have hi := readImages_ok (F := F) (ringRd_ok p.ring x.cid)
  have hw := wrMany_ok (F := F) (fun va d t => writeVABy_ok (some p.sealId) (.ring p.ring) x.cid va d t)
  unfold renderBand
  dsimp only
  split
  · simp [hs]
  · split
    · simp [hs]
    · split
      · simp [hi, hs]
      · exact hw _ _ (by simp [hi, hs])

end Sys2Proof.Machine
end

section
/-! SUPPORT. The form of the bytes is kept. Synthesizers, the frequency monitor, gating of island clocks and the
quadrants' response. -/

namespace Sys2Proof.Machine

variable {F : Foot}

@[simp] theorem quadServe_ok [F.ButBytes] [∀ g, F.Reg g] (q : Nat) (s : State) (hs : F.Ok (s.out F)) :
    F.Ok ((quadServe q s).out F) := by
  simp [quadServe, hs]

end Sys2Proof.Machine
end

section
/-! SUPPORT. The form of the bytes is kept. The proof display: link and receiver, commits, latches, scan-out and review
records. -/

namespace Sys2Proof.Machine

variable {F : Foot}

@[simp] theorem dspEvent_ok [F.ButBytes] [∀ g, F.Reg g] (src : Nat) (s : State) (hs : F.Ok (s.out F)) :
    F.Ok ((dspEvent src s).out F) := by
  simp [dspEvent, hs]

theorem rcommit_ok [F.ButBytes] [∀ g, F.Reg g] (r a : Nat) (f : List W64) (p : Prog) {s0 s : State}
    (h : F.Ok (s0.out F)) (hs : F.Ok (s.out F)) : F.Ok ((rcommit r a f p s0 s).out F) := by
  have hb := plateBytes_ok (F := F) (mapRd_ok (captureSurf r (commitPlateSurf (r / 8) f) s).1)
  refine ok_of_ite (by simp [hs]) (ok_of_ite (by simp [hs]) ?_)
  dsimp only
  refine ok_of_ite (by simp [hs]) (ok_of_ite h (ok_of_ite h ?_))
  split <;> simp [hb, hs]

@[simp] theorem execRcommit_ok [F.ButBytes] [∀ g, F.Reg g] (r : Fin 132) (g : Guard) (da : Fin 16) (a : Fin 32)
    (lost : Bool) (s : State) (hs : F.Ok (s.out F)) : StaysOk F (execRcommit r g da a lost s) := by
  unfold execRcommit
  grind [orderOf_ok, kcs_ok, rcommit_ok]

@[simp] theorem scanRead_ok [F.ButBytes] [∀ g, F.Reg g] (ring cid va n : Nat) (s : State) (hs : F.Ok (s.out F)) :
    F.Ok ((scanRead ring cid va n s).2.out F) := by
  unfold scanRead
  rw [countAccess_out]
  refine foldl_ok (fun x : List ScanByte × AccRes × State => x.2.2) _ _ (fun x pc hx => ?_) hs
  dsimp only
  split_ifs <;> simp [hx]

@[simp] theorem scanRow_ok [F.ButBytes] [∀ g, F.Reg g] (ring : Nat) (f : Surf) (fl : Flags) (y : Nat) (s : State)
    (hs : F.Ok (s.out F)) : F.Ok ((scanRow ring f fl y s).2.out F) := by
  simp +contextual [scanRow, hs]

@[simp] theorem scanFlags_ok [F.ButBytes] [∀ g, F.Reg g] (ring : Nat) (f : Surf) (s : State) (hs : F.Ok (s.out F)) :
    F.Ok ((scanFlags ring f s).2.out F) := by
  simp [scanFlags, hs]

@[simp] theorem composeRow_ok [F.ButBytes] [∀ g, F.Reg g] (c : Commit) (x : Xform) (bfl pfl : Flags) (w v : Nat)
    (s : State) (hs : F.Ok (s.out F)) : F.Ok ((composeRow c x bfl pfl w v s).2.out F) := by
  unfold composeRow
  grind [scanRow_ok]

@[simp] theorem scanFrame_ok [F.ButBytes] [∀ g, F.Reg g] (s : State) (hs : F.Ok (s.out F)) :
    F.Ok ((scanFrame s).out F) := by
  unfold scanFrame
  dsimp only
  split
  · simp [hs]
  · split
    · simp [hs]
    · rw [State.out_mk_butBytes _ rfl]
      refine foldl_snd_ok _ _ (fun b a hb => ?_) ?_
      · simp [hb]
      · split <;> simp [hs]

@[simp] theorem execVblankLatch_ok [F.ButBytes] [∀ g, F.Reg g] (s : State) (hs : F.Ok (s.out F)) : StaysOk F
    (execVblankLatch s) := by
  unfold execVblankLatch
  dsimp only
  split
  · simp [hs]
  · split <;> simp [hs]

@[simp] theorem execDpLinkTrained_ok [F.ButBytes] [∀ g, F.Reg g] (ok : Bool) (s : State) (hs : F.Ok (s.out F)) :
    StaysOk F (execDpLinkTrained ok s) := by
  simp [execDpLinkTrained, hs]

@[simp] theorem execHdcpAuthentication_ok [F.ButBytes] [∀ g, F.Reg g] (ok : Bool) (rxid : BitVec 40) (repeater : Bool)
    (s : State) (hs : F.Ok (s.out F)) : StaysOk F (execHdcpAuthentication ok rxid repeater s) := by
  simp [execHdcpAuthentication, hs]

@[simp] theorem execHpdUnplug_ok [F.ButBytes] [∀ g, F.Reg g] (s : State) (hs : F.Ok (s.out F)) : StaysOk F
    (execHpdUnplug s) := by
  simp [execHpdUnplug, hs]

@[simp] theorem execIrqHpd_ok [F.ButBytes] [∀ g, F.Reg g] (linkOk : Bool) (s : State) (hs : F.Ok (s.out F)) : StaysOk F
    (execIrqHpd linkOk s) := by
  simp [execIrqHpd, hs]

@[simp] theorem execHpdPlug_ok [F.ButBytes] [∀ g, F.Reg g] (s : State) (hs : F.Ok (s.out F)) :
    StaysOk F (execHpdPlug s) := by
  simp [execHpdPlug, hs]

end Sys2Proof.Machine
end

section
/-! SUPPORT. The form of the bytes is kept. The press port's own operations: engine states, outputs, halts, the page
queue, picks, spoils, purges and outcomes. -/

namespace Sys2Proof.Machine

variable {F : Foot}

@[simp] theorem prsEvent_ok [F.ButBytes] [∀ g, F.Reg g] (src page job : Nat) (s : State) (hs : F.Ok (s.out F)) :
    F.Ok ((prsEvent src page job s).out F) := by
  simp [prsEvent, hs]

@[simp] theorem dryEvent_ok [F.ButBytes] [∀ g, F.Reg g] (src beam : Nat) (s : State) (hs : F.Ok (s.out F)) :
    F.Ok ((dryEvent src beam s).out F) := by
  simp [dryEvent, hs]

@[simp] theorem unlock_ok [F.ButBytes] [∀ g, F.Reg g] (s : State) (hs : F.Ok (s.out F)) : F.Ok ((unlock s).out F) := by
  simp [unlock, hs]

@[simp] theorem lockLost_ok [F.ButBytes] [∀ g, F.Reg g] (s : State) (hs : F.Ok (s.out F)) :
    F.Ok ((lockLost s).out F) := by
  simp [lockLost, hs]

@[simp] theorem drive_ok [F.ButBytes] [∀ g, F.Reg g] (s : State) (hs : F.Ok (s.out F)) : F.Ok ((drive s).out F) := by
  simp [drive, hs]

@[simp] theorem enterEng_ok [F.ButBytes] [∀ g, F.Reg g] (st : Nat) (s : State) (hs : F.Ok (s.out F)) :
    F.Ok ((enterEng st s).out F) := by
  simp [enterEng, hs]

@[simp] theorem halt_ok [F.ButBytes] [∀ g, F.Reg g] (cause : Nat) (s : State) (hs : F.Ok (s.out F)) :
    F.Ok ((halt cause s).out F) := by
  refine ok_of_ite hs (prsEvent_ok _ _ _ _ ?_)
  simp [hs]

@[simp] theorem purgeSheet_ok [F.ButBytes] [∀ g, F.Reg g] (id : Nat) (s : State) (hs : F.Ok (s.out F)) :
    F.Ok ((purgeSheet id s).out F) := by
  unfold purgeSheet
  split <;> simp [hs]

@[simp] theorem interruptSheet_ok [F.ButBytes] [∀ g, F.Reg g] (id : Nat) (s : State) (hs : F.Ok (s.out F)) :
    F.Ok ((interruptSheet id s).out F) := by
  unfold interruptSheet
  split <;> simp [hs]

@[simp] theorem spoilSheet_ok [F.ButBytes] [∀ g, F.Reg g] (id : Nat) (at_ : IssueInfo) (s : State) (hs : F.Ok (s.out F))
    : F.Ok ((spoilSheet id at_ s).out F) := by
  unfold spoilSheet
  split <;> simp [hs]

@[simp] theorem spoilImaged_ok [F.ButBytes] [∀ g, F.Reg g] (s : State) (hs : F.Ok (s.out F)) :
    F.Ok ((spoilImaged s).out F) := by
  unfold spoilImaged
  split <;> simp [hs]

@[simp] theorem pressMoved_ok [F.ButBytes] [∀ g, F.Reg g] (old new : Option Nat) (s : State) (hs : F.Ok (s.out F)) :
    F.Ok ((pressMoved old new s).out F) := by
  unfold pressMoved
  split <;> simp [hs]

@[simp] theorem aonSafe_ok [F.ButBytes] [∀ g, F.Reg g] (s : State) (hs : F.Ok (s.out F)) :
    F.Ok ((aonSafe s).out F) := by
  simp [aonSafe, hs]

@[simp] theorem pressSealedHalt_ok [F.ButBytes] [∀ g, F.Reg g] (s : State) (hs : F.Ok (s.out F)) :
    F.Ok ((pressSealedHalt s).out F) := by
  unfold pressSealedHalt
  extract_lets img u v
  have hu : F.Ok (u.out F) := by
    refine State.each_ok _ _ (fun sh t ht => ?_) hs
    extract_lets own keep t1 t2
    have h2 : F.Ok (t2.out F) := by
      rw [onSheet_out]
      refine State.each_ok _ _ (fun p v hv => ?_) ht
      split <;> simp [hv]
    split <;> simp [h2]
  have hv : F.Ok (v.out F) := by simp [v, hu]
  split <;> simp [hv]

end Sys2Proof.Machine
end

section
/-! SUPPORT. The form of the bytes is kept. Tansy's own operations: the arithmetic of a slot, its codes, its sources and
instants, the converters' queues, and captures. -/

namespace Sys2Proof.Machine

variable {F : Foot}

@[simp] theorem capFlush_ok [F.ButBytes] [∀ g, F.Reg g] (s : State) (hs : F.Ok (s.out F)) :
    F.Ok ((capFlush s).out F) := by
  unfold capFlush
  split
  · exact hs
  · rw [State.out_tns]
    refine foldl_ok (fun x : List (Nat × Nat) × Option (Nat × Nat) × State => x.2.2) _ _ (fun x w hx => ?_) hs
    dsimp only
    split_ifs <;> simp [hx]

@[simp] theorem capEnd_ok [F.ButBytes] [∀ g, F.Reg g] (status detail : Nat) (s : State) (hs : F.Ok (s.out F)) :
    F.Ok ((capEnd status detail s).out F) := by
  unfold capEnd
  dsimp only
  split <;> simp [hs]

@[simp] theorem capFinish_ok [F.ButBytes] [∀ g, F.Reg g] (s : State) (hs : F.Ok (s.out F)) :
    F.Ok ((capFinish s).out F) := by
  unfold capFinish
  grind [capEnd_ok]

@[simp] theorem capSample_ok [F.ButBytes] [∀ g, F.Reg g] (n : Nat) (x e q u : Int) (s : State) (hs : F.Ok (s.out F)) :
    F.Ok ((capSample n x e q u s).out F) := by
  unfold capSample
  split <;> simp [hs]

@[simp] theorem slotLeft_ok [F.ButBytes] [∀ g, F.Reg g] (n : Nat) (s : State) (hs : F.Ok (s.out F)) :
    F.Ok ((slotLeft n s).out F) := by
  unfold slotLeft
  split <;> simp [hs]

@[simp] theorem capLeaseMoved_ok [F.ButBytes] [∀ g, F.Reg g] (s : State) (hs : F.Ok (s.out F)) :
    F.Ok ((capLeaseMoved s).out F) := by
  simp [capLeaseMoved, hs]

@[simp] theorem stopSlot_ok [F.ButBytes] [∀ g, F.Reg g] (n : Nat) (s : State) (hs : F.Ok (s.out F)) :
    F.Ok ((stopSlot n s).out F) := by
  simp [stopSlot, hs]

end Sys2Proof.Machine
end

section
/-! SUPPORT. The form of the bytes is kept. Tansy's commands: the orders of a ring, the converters, tachs, sample
instants and strobes, and the pins that slots drive; the high-voltage and fuser duties of the press that read them. -/

namespace Sys2Proof.Machine

variable {F : Foot}

@[simp] theorem pressOrder_ok [F.ButBytes] [∀ g, F.Reg g] {r : Nat} {p : Prog} {s : State} {refused run : State → State}
    (hr : ∀ t, F.Ok (t.out F) → F.Ok ((refused t).out F)) (h : F.Ok ((run s).out F)) (hs : F.Ok (s.out F)) :
    F.Ok ((pressOrder r p s refused run).out F) := by
  simp [pressOrder, hr, h, hs]

theorem tload_ok [F.ButBytes] [∀ g, F.Reg g] (r t : Nat) (f : List W64) (n : Nat) (p : Prog) {s0 s : State}
    (h : F.Ok (s0.out F)) (hs : F.Ok (s.out F)) : F.Ok ((tload r t f n p s0 s).out F) := by
  refine ok_of_ite (by simp [hs]) (pressOrder_ok (fun t ht => by simp [ht]) ?_ hs)
  dsimp only
  refine ok_of_ite h ?_
  split
  · simp [hs]
  · exact ok_of_ite (by simp [hs]) (by simp [hs])

@[simp] theorem execTload_ok [F.ButBytes] [∀ g, F.Reg g] (r : Fin 132) (g : Guard) (da t : Fin 16) (a : Fin 32)
    (lost : Bool) (s : State) (hs : F.Ok (s.out F)) : StaysOk F (execTload r g da t a lost s) := by
  unfold execTload
  grind [tload_ok, kindA_ok, orderOf_ok, kcs_ok]

@[simp] theorem tctl_ok [F.ButBytes] [∀ g, F.Reg g] (n code : Nat) (s : State) (hs : F.Ok (s.out F)) :
    F.Ok ((tctl n code s).out F) := by
  simp [tctl, hs]

@[simp] theorem execTctl_ok [F.ButBytes] [∀ g, F.Reg g] (r : Fin 132) (g : Guard) (a b : Fin 32) (lost : Bool)
    (s : State) (hs : F.Ok (s.out F)) : StaysOk F (execTctl r g a b lost s) := by
  unfold execTctl
  grind [tctl_ok, orderOf_ok, kcs_ok, pressOrder_ok, State.setProg_out, endAt_out]

@[simp] theorem tnsEvent_ok [F.ButBytes] [∀ g, F.Reg g] (src n : Nat) (s : State) (hs : F.Ok (s.out F)) :
    F.Ok ((tnsEvent src n s).out F) := by
  simp [tnsEvent, hs]

@[simp] theorem execAdcCheck_ok [F.ButBytes] [∀ g, F.Reg g] (m : Fin 2) (half vss : BitVec 12) (s : State)
    (hs : F.Ok (s.out F)) : StaysOk F (execAdcCheck m half vss s) := by
  simp [execAdcCheck, hs]

@[simp] theorem execSlotStrobe_ok [F.ButBytes] [∀ g, F.Reg g] (n : Fin 16) (s : State) (hs : F.Ok (s.out F)) : StaysOk F
    (execSlotStrobe n s) := by
  simp [execSlotStrobe, hs]

@[simp] theorem execSlotStorageUe_ok [F.ButBytes] [∀ g, F.Reg g] (n : Fin 16) (s : State) (hs : F.Ok (s.out F)) :
    StaysOk F (execSlotStorageUe n s) := by
  simp [execSlotStorageUe, hs]

@[simp] theorem execHvLimit_ok [F.ButBytes] [∀ g, F.Reg g] (k : Fin 4) (s : State) (hs : F.Ok (s.out F)) : StaysOk F
    (execHvLimit k s) := by
  unfold execHvLimit
  split <;> simp [hs]

@[simp] theorem execZcdLost_ok [F.ButBytes] [∀ g, F.Reg g] (s : State) (hs : F.Ok (s.out F)) :
    StaysOk F (execZcdLost s) := by
  unfold execZcdLost
  split <;> simp [hs]

end Sys2Proof.Machine
end

section
/-! SUPPORT. The form of the bytes is kept. The press port's commands: the press instructions, the engine's events,
picks, bands, sheet tracking, clutches, comparators and the interlock. -/

namespace Sys2Proof.Machine

variable {F : Foot}

theorem admitPage_ok [F.ButBytes] [∀ g, F.Reg g] (x : Page) (cap : Captured) (t : Nat) (p : Prog) {s0 : State}
    (h0 : F.Ok (s0.out F)) (hs : F.Ok (cap.2.2.out F)) : F.Ok ((admitPage x cap t p s0).out F) := by
  have hb := plateBytes_ok (F := F) (mapRd_ok cap.1)
  unfold admitPage
  dsimp only
  split
  · exact h0
  · split
    · simp [hs]
    · split
      · simp [hs]
      · split
        · exact h0
        · split <;> simp [hb, hs]

theorem pqueue_ok [F.ButBytes] [∀ g, F.Reg g] (r t : Nat) (f : List W64) (p : Prog) {s0 s : State} (h : F.Ok (s0.out F))
    (hs : F.Ok (s.out F)) : F.Ok ((pqueue r t f p s0 s).out F) := by
  refine pressOrder_ok (fun u hu => by simp [hu])
    (ok_of_ite (by simp [hs]) (ok_of_ite (by simp [hs]) (ok_of_ite h ?_))) hs
  refine ok_of_ite (admitPage_ok _ _ _ _ h (by simp [hs])) ?_
  dsimp only
  refine ok_of_ite h ?_
  split
  · simp [hs]
  · refine ok_of_ite (by simp [hs]) ?_
    refine ok_of_ite h ?_
    split
    · simp [hs]
    · split
      · simp [hs]
      · refine admitPage_ok _ _ _ _ h ?_
        refine captureFrames_ok _ _ _ _ _ ?_
        refine foldl_ok (fun c : Captured => c.2.2) _ _ (fun c i hc => captureFrames_ok _ _ _ _ _ hc) ?_
        exact captureFrames_ok _ _ _ _ _ (captureFrames_ok _ _ _ _ _ (by simp [hs]))

@[simp] theorem execPqueue_ok [F.ButBytes] [∀ g, F.Reg g] (r : Fin 132) (g : Guard) (da t : Fin 16) (lost : Bool)
    (s : State) (hs : F.Ok (s.out F)) : StaysOk F (execPqueue r g da t lost s) := by
  unfold execPqueue
  grind [kindA_ok, orderOf_ok, pqueue_ok, kcs_ok]

@[simp] theorem hashBands_ok [F.ButBytes] [∀ g, F.Reg g] (p : Page) (x : Stream) (n k : Nat) (acc : List Byte)
    (s : State) (hs : F.Ok (s.out F)) : F.Ok ((hashBands p x n k acc s).2.out F) := by
  induction n generalizing k acc s with
  | zero => exact hs
  | succ n ih =>
    have h := renderBand_ok (F := F) p x k s
    unfold hashBands
    grind

@[simp] theorem execHashPassDone_ok [F.ButBytes] [∀ g, F.Reg g] (s : State) (hs : F.Ok (s.out F)) : StaysOk F
    (execHashPassDone s) := by
  unfold execHashPassDone
  split
  · simp [hs]
  · split
    · simp [hs]
    · rename_i p _ _ x _
      have h := hashBands_ok (F := F) p x p.bands 0 [] s
      split
      · simp [hs]
      · dsimp only
        split <;> simp_all
      · simp_all

@[simp] theorem pengine_ok [F.ButBytes] [∀ g, F.Reg g] (mode : Nat) (s : State) (hs : F.Ok (s.out F)) :
    F.Ok ((pengine mode s).out F) := by
  simp [pengine, hs]

@[simp] theorem execPengine_ok [F.ButBytes] [∀ g, F.Reg g] (r : Fin 132) (g : Guard) (a : Fin 32) (lost : Bool)
    (s : State) (hs : F.Ok (s.out F)) : StaysOk F (execPengine r g a lost s) := by
  refine staysOk_of_ite (by simp [hs]) (kcs_ok (fun p => orderOf_ok (fun q => ?_) (by simp [hs])) hs)
  refine ok_of_ite (by simp [hs]) (pressOrder_ok (fun u hu => by simp [hu]) ?_ (by simp [hs]))
  exact ok_of_ite (by simp [hs]) (by simp [hs])

@[simp] theorem execRasterTile_ok [F.ButBytes] [∀ g, F.Reg g] (s : State) (hs : F.Ok (s.out F)) : StaysOk F
    (execRasterTile s) := by
  unfold execRasterTile
  split
  · simp [hs]
  · dsimp only
    split
    · simp [hs]
    · split
      · simp [hs]
      · rename_i id k _ _ _ p _ _ x _
        have h := renderBand_ok (F := F) p x k s
        split
        · simp_all
        · split_ifs
          · simp [hs]
          · split <;> simp_all
          · simp_all
          · simp_all

@[simp] theorem execEngineConditionsMet_ok [F.ButBytes] [∀ g, F.Reg g] (s : State) (hs : F.Ok (s.out F)) : StaysOk F
    (execEngineConditionsMet s) := by
  simp [execEngineConditionsMet, hs]

@[simp] theorem execEngineConditionLost_ok [F.ButBytes] [∀ g, F.Reg g] (s : State) (hs : F.Ok (s.out F)) : StaysOk F
    (execEngineConditionLost s) := by
  simp [execEngineConditionLost, hs]

@[simp] theorem execPathEmpty_ok [F.ButBytes] [∀ g, F.Reg g] (s : State) (hs : F.Ok (s.out F)) : StaysOk F
    (execPathEmpty s) := by
  simp [execPathEmpty, hs]

@[simp] theorem execEngineLost_ok [F.ButBytes] [∀ g, F.Reg g] (s : State) (hs : F.Ok (s.out F)) : StaysOk F
    (execEngineLost s) := by
  simp [execEngineLost, hs]

@[simp] theorem execSensorEdge_ok [F.ButBytes] [∀ g, F.Reg g] (n : Fin 24) (high : Bool) (s : State)
    (hs : F.Ok (s.out F)) : StaysOk F (execSensorEdge n high s) := by
  unfold execSensorEdge
  dsimp only
  (repeat' split) <;> simp [hs]

@[simp] theorem execJam_ok [F.ButBytes] [∀ g, F.Reg g] (s : State) (hs : F.Ok (s.out F)) : StaysOk F (execJam s) := by
  simp [execJam, hs]

@[simp] theorem execSpoil_ok [F.ButBytes] [∀ g, F.Reg g] (s : State) (hs : F.Ok (s.out F)) :
    StaysOk F (execSpoil s) := by
  simp [execSpoil, hs]

@[simp] theorem execOtComparatorTrip_ok [F.ButBytes] [∀ g, F.Reg g] (k : Fin 4) (s : State) (hs : F.Ok (s.out F)) :
    StaysOk F (execOtComparatorTrip k s) := by
  simp [execOtComparatorTrip, hs]

@[simp] theorem ilkFalls_ok [F.ButBytes] [∀ g, F.Reg g] (s : State) (hs : F.Ok (s.out F)) :
    F.Ok ((ilkFalls s).out F) := by
  simp [ilkFalls, hs]

@[simp] theorem execPrsIlkInFall_ok [F.ButBytes] [∀ g, F.Reg g] (s : State) (hs : F.Ok (s.out F)) : StaysOk F
    (execPrsIlkInFall s) := by
  simp [execPrsIlkInFall, hs]

@[simp] theorem execVddIo33Loss_ok [F.ButBytes] [∀ g, F.Reg g] (s : State) (hs : F.Ok (s.out F)) : StaysOk F
    (execVddIo33Loss s) := by
  simp [execVddIo33Loss, hs]

end Sys2Proof.Machine
end

section
/-! SUPPORT. The form of the bytes is kept. Drypoint: beam detect and lock, scans and their rows, pulses, imaging of a
page, laser power control, and its configuration. -/

namespace Sys2Proof.Machine

variable {F : Foot}

@[simp] theorem declareLock_ok [F.ButBytes] [∀ g, F.Reg g] (s : State) (hs : F.Ok (s.out F)) :
    F.Ok ((declareLock s).out F) := by
  simp [declareLock, hs]

@[simp] theorem readRow_ok [F.ButBytes] [∀ g, F.Reg g] (p : Page) (r : Nat) (s : State) (hs : F.Ok (s.out F)) :
    F.Ok ((readRow p r s).2.out F) := by
  have hf := readFlags_ok (F := F) (mapRd_ok p.map) p.surf s
  have hr := rowSeen_ok (F := F) (mapRd_ok p.map) p.surf
  unfold readRow
  dsimp only
  split <;> split_ifs <;> simp [hf, hr, hs]

@[simp] theorem readRows_ok [F.ButBytes] [∀ g, F.Reg g] (p : Page) (l : List Nat) (acc : Tab (List Byte)) (s : State)
    (hs : F.Ok (s.out F)) : F.Ok ((readRows p l acc s).2.out F) := by
  induction l generalizing acc s with
  | nil => exact hs
  | cons r rs ih =>
    have h := readRow_ok (F := F) p r s
    unfold readRows
    split <;> simp_all

@[simp] theorem lateLine_ok [F.ButBytes] [∀ g, F.Reg g] (s : State) (hs : F.Ok (s.out F)) :
    F.Ok ((lateLine s).out F) := by
  simp [lateLine, hs]

@[simp] theorem takeRows_ok [F.ButBytes] [∀ g, F.Reg g] (p : Page) (k : Int) (s : State) (hs : F.Ok (s.out F)) :
    StaysOkOr F (takeRows p k s) := by
  unfold takeRows
  dsimp only
  (repeat' split) <;> simp [hs] <;> grind [State.out_dry, readRows_ok]

@[simp] theorem drawScan_ok [F.ButBytes] [∀ g, F.Reg g] (s : State) (hs : F.Ok (s.out F)) :
    F.Ok ((drawScan s).out F) := by
  unfold drawScan
  split
  · exact hs
  · rename_i id x p _
    dsimp only
    split
    · exact hs
    · have h := readRows_ok (F := F) p (s.scanRows p s.dry.scan) [] s
      split
      · simp_all
      · simp_all
      · rename_i rows t _
        have ht := takeRows_ok (F := F) p s.dry.scan t
        split
        · simp_all
        · simp_all
        · simp_all [StaysOkOr]

@[simp] theorem hashMismatch_ok [F.ButBytes] [∀ g, F.Reg g] (p : Page) (s : State) (hs : F.Ok (s.out F)) :
    F.Ok ((hashMismatch p s).out F) := by
  simp [hashMismatch, hs]

@[simp] theorem pageDrawn_ok [F.ButBytes] [∀ g, F.Reg g] (s : State) (hs : F.Ok (s.out F)) :
    F.Ok ((pageDrawn s).out F) := by
  unfold pageDrawn
  split <;> simp [hs]

@[simp] theorem endLine_ok [F.ButBytes] [∀ g, F.Reg g] (s : State) (hs : F.Ok (s.out F)) :
    F.Ok ((endLine s).out F) := by
  simp [endLine, hs]

@[simp] theorem execBdEdge_ok [F.ButBytes] [∀ g, F.Reg g] (k : Fin 2) (rising held : Bool) (cycles : Nat) (s : State)
    (hs : F.Ok (s.out F)) : StaysOk F (execBdEdge k rising held cycles s) := by
  have he : F.Ok ((endLine s).out F) := by simp [hs]
  unfold execBdEdge
  dsimp only
  split_ifs <;> simp [hs, he]

@[simp] theorem execImagingStart_ok [F.ButBytes] [∀ g, F.Reg g] (s : State) (hs : F.Ok (s.out F)) : StaysOk F
    (execImagingStart s) := by
  unfold execImagingStart
  dsimp only
  split
  · simp [hs]
  · split
    · simp [hs]
    · split
      · simp [hs]
      · split
        · simp [hs]
        · split_ifs <;> simp [drawScan_ok, hs]

@[simp] theorem execBdWindowOpen_ok [F.ButBytes] [∀ g, F.Reg g] (s : State) (hs : F.Ok (s.out F)) : StaysOk F
    (execBdWindowOpen s) := by
  simp [execBdWindowOpen, hs]

@[simp] theorem execBdWindowClose_ok [F.ButBytes] [∀ g, F.Reg g] (s : State) (hs : F.Ok (s.out F)) : StaysOk F
    (execBdWindowClose s) := by
  have he : F.Ok ((endLine s).out F) := by simp [hs]
  simp [execBdWindowClose, hs, he]

@[simp] theorem execLateLineData_ok [F.ButBytes] [∀ g, F.Reg g] (s : State) (hs : F.Ok (s.out F)) : StaysOk F
    (execLateLineData s) := by
  simp [execLateLineData, hs]

@[simp] theorem execPlateHashMismatch_ok [F.ButBytes] [∀ g, F.Reg g] (s : State) (hs : F.Ok (s.out F)) : StaysOk F
    (execPlateHashMismatch s) := by
  unfold execPlateHashMismatch
  split <;> simp [hs]

@[simp] theorem execApcCapture_ok [F.ButBytes] [∀ g, F.Reg g] (b : Fin 8) (s : State) (hs : F.Ok (s.out F)) : StaysOk F
    (execApcCapture b s) := by
  simp [execApcCapture, hs]

@[simp] theorem execApcUpdate_ok [F.ButBytes] [∀ g, F.Reg g] (b : Fin 8) (s : State) (hs : F.Ok (s.out F)) : StaysOk F
    (execApcUpdate b s) := by
  unfold execApcUpdate
  dsimp only
  split
  · simp [hs]
  · split
    · simp [hs]
    · rw [staysOk_next]
      refine declareLock_ok _ ?_
      simp [hs]

@[simp] theorem dryConfigWrite_ok [F.ButBytes] [∀ g, F.Reg g] (o v : Nat) (s : State) (hs : F.Ok (s.out F)) :
    F.Ok ((dryConfigWrite o v s).out F) := by
  simp [dryConfigWrite, hs]

@[simp] theorem execDryConfigWrite_ok [F.ButBytes] [∀ g, F.Reg g] (o : BitVec 12) (v : W64) (s : State)
    (hs : F.Ok (s.out F)) : StaysOk F (execDryConfigWrite o v s) := by
  simp [execDryConfigWrite, hs]

end Sys2Proof.Machine
end

section
/-! SUPPORT. The form of the bytes is kept. COPY and FILL: the descriptor, the movement of the data, and the requests of
a remote side. -/

namespace Sys2Proof.Machine

variable {F : Foot}

@[simp] theorem dmaRead_ok [F.ButBytes] [∀ g, F.Reg g] (x : DmaTask) (early : State) (pos n : Nat) (s : State)
    (hs : F.Ok (s.out F)) : F.Ok ((dmaRead x early pos n s).2.out F) := by
  unfold dmaRead
  split_ifs
  · exact hs
  · refine foldl_ok Prod.snd _ _ (fun a pc ha => ?_) hs
    grind [ringRead_ok, State.draw_out]

theorem dmaLocal_ok [F.ButBytes] [∀ g, F.Reg g] (x : DmaTask) {s0 s : State} (fuel pos : Nat) (h : F.Ok (s0.out F))
    (hs : F.Ok (s.out F)) : F.Ok ((dmaLocal x s0 fuel pos s).out F) := by
  induction fuel generalizing pos s with
  | zero => simp [dmaLocal, hs]
  | succ fuel ih =>
    unfold dmaLocal
    grind [dmaFinish_out, dmaRead_ok, ringWrite_ok]

@[simp] theorem dmaAdvance_ok [F.ButBytes] [∀ g, F.Reg g] (x : DmaTask) (s : State) (hs : F.Ok (s.out F)) :
    F.Ok ((dmaAdvance x s).out F) := by
  unfold dmaAdvance
  grind [dmaRead_ok, dmaFinish_out, startWrite_out, dmaPut_out, startRead_out]

@[simp] theorem dmaResponse_ok [F.ButBytes] [∀ g, F.Reg g] (x : DmaTask) (status : Nat) (data : List Byte) (s : State)
    (hs : F.Ok (s.out F)) : StaysOkSome F (dmaResponse x status data s) := by
  unfold dmaResponse
  dsimp only
  (repeat' split) <;> simp [hs]

@[simp] theorem dmaStart_ok [F.ButBytes] [∀ g, F.Reg g] (x : DmaTask) (s : State) (hs : F.Ok (s.out F)) :
    F.Ok ((dmaStart x s).out F) := by
  simp [dmaStart, hs]

@[simp] theorem dmaIssue_ok [F.ButBytes] [∀ g, F.Reg g] (r t : Nat) (fill : Bool) (f : List W64) (p : Prog) (s : State)
    (hs : F.Ok (s.out F)) : F.Ok ((dmaIssue r t fill f p s).out F) := by
  simp [dmaIssue, hs]

@[simp] theorem execCopy_ok [F.ButBytes] [∀ g, F.Reg g] (r : Fin 132) (g : Guard) (da t : Fin 16) (s : State)
    (hs : F.Ok (s.out F)) : StaysOk F (execCopy r g da t s) := by
  exact kcs_ok (fun _ => kindA_ok (fun _ => dmaIssue_ok _ _ _ _ _ _ hs) hs) hs

@[simp] theorem execFill_ok [F.ButBytes] [∀ g, F.Reg g] (r : Fin 132) (g : Guard) (da t : Fin 16) (s : State)
    (hs : F.Ok (s.out F)) : StaysOk F (execFill r g da t s) := by
  exact kcs_ok (fun _ => kindA_ok (fun _ => dmaIssue_ok _ _ _ _ _ _ hs) hs) hs

end Sys2Proof.Machine
end

section
/-! SUPPORT. The form of the bytes is kept. HGEMM, HSMAX and HELT: descriptors, tile tasks, what each task computes and
how it is checked. -/

namespace Sys2Proof.Machine

variable {F : Foot}

@[simp] theorem loadRun_ok [F.ButBytes] [∀ g, F.Reg g] (r ctx opnd base va n : Nat) (s : State) (hs : F.Ok (s.out F)) :
    F.Ok ((loadRun r ctx opnd base va n s).2.out F) := by
  refine foldl_snd_ok _ _ (fun a pc ha => ?_) hs
  grind [ringRead_ok]

@[simp] theorem loadRuns_ok [F.ButBytes] [∀ g, F.Reg g] (r ctx opnd base n : Nat) (vas : List Nat) (s : State)
    (hs : F.Ok (s.out F)) : F.Ok ((loadRuns r ctx opnd base n vas s).2.out F) := by
  refine foldl_snd_ok _ _ (fun a pc ha => ?_) hs
  grind [loadRun_ok]

@[simp] theorem storeRows_ok [F.ButBytes] [∀ g, F.Reg g] (r ctx : Nat) (rows : List (Nat × List Byte)) (s : State)
    (hs : F.Ok (s.out F)) : F.Ok ((storeRows r ctx rows s).2.out F) := by
  refine foldl_snd_ok _ _ (fun a x ha => ?_) hs
  grind [ringWrite_ok]

@[simp] theorem gemmLoad_ok [F.ButBytes] [∀ g, F.Reg g] (r : Nat) (f : List W64) (tile step : Nat) (s : State)
    (hs : F.Ok (s.out F)) : F.Ok ((gemmLoad r f tile step s).2.out F) := by
  have hr := loadRuns_ok (F := F)
  unfold gemmLoad
  dsimp only
  split
  · grind
  · split
    · grind
    · split
      · grind
      · split <;> grind

@[simp] theorem hsmaxLoad_ok [F.ButBytes] [∀ g, F.Reg g] (r : Nat) (f : List W64) (row : Nat) (s : State)
    (hs : F.Ok (s.out F)) : F.Ok ((hsmaxLoad r f row s).2.out F) := by
  unfold hsmaxLoad
  grind [loadRun_ok]

@[simp] theorem heltLoad_ok [F.ButBytes] [∀ g, F.Reg g] (r : Nat) (f : List W64) (tile : Nat) (s : State)
    (hs : F.Ok (s.out F)) : F.Ok ((heltLoad r f tile s).2.out F) := by
  unfold heltLoad
  grind [loadRun_ok]

end Sys2Proof.Machine
end

section
/-! SUPPORT. The form of the bytes is kept. Decode attention over KV pages: descriptors, the walk, chunk tasks, merges,
partial records, and AMERGE. -/

namespace Sys2Proof.Machine

variable {F : Foot}

@[simp] theorem walkRead_ok [F.ButBytes] [∀ g, F.Reg g] (r ctx va n : Nat) (s : State) (hs : F.Ok (s.out F)) :
    F.Ok ((walkRead r ctx va n s).2.out F) := by
  unfold walkRead
  grind [ringRead_ok]

@[simp] theorem readEntries_ok [F.ButBytes] [∀ g, F.Reg g] (r ctx va n : Nat) (s : State) (hs : F.Ok (s.out F)) :
    F.Ok ((readEntries r ctx va n s).2.2.out F) := by
  refine foldl_ok (fun a : List Nat × ListEnd × State => a.2.2) _ _ (fun a pc ha => ?_) hs
  grind [walkRead_ok]

@[simp] theorem walkList_ok [F.ButBytes] [∀ g, F.Reg g] (r ctx fuel va need : Nat) (acc : List Nat) (s : State)
    (hs : F.Ok (s.out F)) : F.Ok ((walkList r ctx fuel va need acc s).2.2.out F) := by
  induction fuel generalizing va acc s with
  | zero => exact hs
  | succ fuel ih =>
    unfold walkList
    grind [walkRead_ok, readEntries_ok]

@[simp] theorem probeRun_ok [F.ButBytes] [∀ g, F.Reg g] (r ctx va n : Nat) (s : State) (hs : F.Ok (s.out F)) :
    F.Ok ((probeRun r ctx va n s).2.out F) := by
  refine foldl_snd_ok _ _ (fun a pc ha => ?_) hs
  split
  · simp [ha]
  · exact ha

@[simp] theorem planSeq_ok [F.ButBytes] [∀ g, F.Reg g] (r : Nat) (a : AttnDesc) (i : Nat) (s : State)
    (hs : F.Ok (s.out F)) : F.Ok ((planSeq r a i s).2.out F) := by
  unfold planSeq
  grind [walkRead_ok, probeRun_ok, walkList_ok]

@[simp] theorem chunkLoad_ok [F.ButBytes] [∀ g, F.Reg g] (j : Job) (sq h c : Nat) (s : State) (hs : F.Ok (s.out F)) :
    F.Ok ((chunkLoad j sq h c s).2.out F) := by
  have hw := walkRead_ok (F := F)
  unfold chunkLoad
  dsimp only
  split
  case h_4 =>
    refine foldl_snd_ok _ _ (fun a pg ha => ?_) (by grind)
    grind
  all_goals grind

@[simp] theorem attnStart_ok [F.ButBytes] [∀ g, F.Reg g] (r t cl : Nat) (f d : List W64) (s : State)
    (hs : F.Ok (s.out F)) : StaysOkSome F (attnStart r t cl f d s) := by
  unfold attnStart
  dsimp only
  split
  · simp
  · rename_i j u hPlanned
    rw [staysOkSome_some, addJob_out, State.out_hatch]
    refine List.foldlRecOn (motive := fun acc : Option (Job × State) => ∀ x, acc = some x → F.Ok (x.2.out F)) _ _
      (by grind) (fun acc ih i _ => ?_) _ hPlanned
    cases acc <;> grind [planSeq_ok]

@[simp] theorem attnIssue_ok [F.ButBytes] [∀ g, F.Reg g] (r t : Nat) (f d : List W64) (p : Prog) (s : State)
    (hs : F.Ok (s.out F)) : F.Ok ((attnIssue r t f d p s).out F) := by
  refine ok_of_ite (by simp [hs]) (ok_of_ite (by simp [hs]) ?_)
  split
  · rename_i u h
    exact attnStart_ok _ _ _ _ _ _ (by simp [hs]) u h
  · exact hs

@[simp] theorem execAttn_ok [F.ButBytes] [∀ g, F.Reg g] (r : Fin 132) (g : Guard) (da db t : Fin 16) (s : State)
    (hs : F.Ok (s.out F)) : StaysOk F (execAttn r g da db t s) := by
  exact kcs_ok (fun _ => kindA_ok (fun _ => attnIssue_ok _ _ _ _ _ _ hs) hs) hs

@[simp] theorem mergeLoad_ok [F.ButBytes] [∀ g, F.Reg g] (j : Job) (row : Nat) (s : State) (hs : F.Ok (s.out F)) :
    F.Ok ((mergeLoad j row s).2.out F) := by
  refine foldl_snd_ok _ _ (fun a k ha => ?_) hs
  grind [walkRead_ok]

@[simp] theorem plAccess_ok [F.ButBytes] [∀ g, F.Reg g] {r : Nat} {p : Prog} {s0 : State} {x : WalkRes × State}
    {k : List Byte → State → State} (h0 : F.Ok (s0.out F)) (hx : F.Ok (x.2.out F))
    (h : ∀ d t, F.Ok (t.out F) → F.Ok ((k d t).out F)) : F.Ok ((plAccess r p s0 x k).out F) := by
  unfold plAccess
  split
  · exact h0
  · simpa using hx
  · simpa using hx
  · exact h _ _ hx

@[simp] theorem execPlopen_ok [F.ButBytes] [∀ g, F.Reg g] (r : Fin 132) (g : Guard) (da : Fin 16) (a : Fin 32)
    (s : State) (hs : F.Ok (s.out F)) : StaysOk F (execPlopen r g da a s) := by
  unfold execPlopen
  grind [walkRead_ok, kcs_ok, plAccess_ok, State.setProg_out, endAt_out]

@[simp] theorem cursorLoad_ok [F.ButBytes] [∀ g, F.Reg g] (r : Nat) (c : List W64) (s : State) (hs : F.Ok (s.out F)) :
    F.Ok ((cursorLoad r c s).2.out F) := by
  unfold cursorLoad
  grind [walkRead_ok]

@[simp] theorem cursorStep_ok [F.ButBytes] [∀ g, F.Reg g] (r : Nat) (c : List W64) (k : Nat) (s : State)
    (hs : F.Ok (s.out F)) : F.Ok ((cursorStep r c k s).2.out F) := by
  unfold cursorStep
  grind [cursorLoad_ok]

@[simp] theorem execPlread_ok [F.ButBytes] [∀ g, F.Reg g] (r : Fin 132) (g : Guard) (da : Fin 16) (a : Fin 32)
    (f : Fin 8) (s : State) (hs : F.Ok (s.out F)) : StaysOk F (execPlread r g da a f s) := by
  unfold execPlread
  grind [cursorStep_ok, walkRead_ok, kcs_ok, plAccess_ok, cursorLoad_ok, State.setProg_out,
    endAt_out]

@[simp] theorem cursorSkip_ok [F.ButBytes] [∀ g, F.Reg g] (r fuel : Nat) (c : List W64) (k : Nat) (s : State)
    (hs : F.Ok (s.out F)) : F.Ok ((cursorSkip r fuel c k s).2.out F) := by
  induction fuel generalizing c k s with
  | zero => exact hs
  | succ fuel ih =>
    unfold cursorSkip
    grind [cursorLoad_ok, cursorStep_ok]

@[simp] theorem execPlskip_ok [F.ButBytes] [∀ g, F.Reg g] (r : Fin 132) (g : Guard) (da : Fin 16) (a : Fin 32)
    (s : State) (hs : F.Ok (s.out F)) : StaysOk F (execPlskip r g da a s) := by
  unfold execPlskip
  grind [cursorSkip_ok, kcs_ok, plAccess_ok, State.setProg_out, endAt_out]

end Sys2Proof.Machine
end

section
/-! SUPPORT. The form of the bytes is kept. The dispatchers: placing tasks on engines, the end of a task with its check,
re-runs, and the end of a job. -/

namespace Sys2Proof.Machine

variable {F : Foot}

@[simp] theorem loadTask_ok [F.ButBytes] [∀ g, F.Reg g] (j : Job) (t : Task) (s : State) (hs : F.Ok (s.out F)) :
    F.Ok ((loadTask j t s).2.out F) := by
  unfold loadTask
  split <;> simp [hs]

@[simp] theorem placeTask_ok [F.ButBytes] [∀ g, F.Reg g] (j : Job) (t : Task) (fresh : Bool) (e : Nat) (s : State)
    (hs : F.Ok (s.out F)) : F.Ok ((placeTask j t fresh e s).out F) := by
  unfold placeTask
  grind [State.out_hatch, loadTask_ok, putJob_out]

@[simp] theorem execTaskDispatch_ok [F.ButBytes] [∀ g, F.Reg g] (cl : Fin 4) (eng : Fin 13) (s : State)
    (hs : F.Ok (s.out F)) : StaysOk F (execTaskDispatch cl eng s) := by
  unfold execTaskDispatch
  split <;> simp [hs]

theorem writeRows_ok [F.ButBytes] [∀ g, F.Reg g] {j : Job} {ctx : Nat} {rows : List (Nat × List Byte)} {s : State}
    {x : Job × State} (h : writeRows j ctx rows s = some x) (hs : F.Ok (s.out F)) : F.Ok (x.2.out F) := by
  unfold writeRows at h
  grind [storeRows_ok]

theorem writeRows_putJob_ok [F.ButBytes] [∀ g, F.Reg g] {j : Job} {ctx : Nat} {rows : List (Nat × List Byte)}
    {s : State} (hs : F.Ok (s.out F)) : StaysOkSome F ((writeRows j ctx rows s).map fun x => putJob x.1 x.2) := by
  intro u hu
  obtain ⟨x, hx, rfl⟩ := Option.map_eq_some_iff.mp hu
  rw [putJob_out]
  exact writeRows_ok hx hs

@[simp] theorem commitGemm_ok [F.ButBytes] [∀ g, F.Reg g] (j : Job) (t : Task) (res : List Nat) (s : State)
    (hs : F.Ok (s.out F)) : StaysOkSome F (commitGemm j t res s) := by
  unfold commitGemm
  dsimp only
  split
  · simp [hs]
  · exact writeRows_putJob_ok (by simp [hs])

@[simp] theorem gemmDone_ok [F.ButBytes] [∀ g, F.Reg g] (j : Job) (t : Task) (e : Nat) (wrong : Option (List Nat))
    (differ : Bool) (s : State) (hs : F.Ok (s.out F)) : StaysOkSome F (gemmDone j t e wrong differ s) := by
  have hc := commitGemm_ok (F := F)
  unfold gemmDone
  dsimp only
  split_ifs
  · exact hc _ _ _ _ hs
  · simp [hs]
  · simp [hs]
  · simp [hs]
  · exact hc _ _ _ _ hs
  · simp [hs]
  · split
    · split
      · simp
      · rename_i u hu
        have h := hc _ _ _ _ hs u hu
        split <;> simp [h]
    · simp [hs]

@[simp] theorem rowsDone_ok [F.ButBytes] [∀ g, F.Reg g] (j : Job) (t : Task) (s : State) (hs : F.Ok (s.out F)) :
    StaysOkSome F (rowsDone j t s) :=  writeRows_putJob_ok (by simp [hs])

@[simp] theorem chunkDone_ok [F.ButBytes] [∀ g, F.Reg g] (j : Job) (t : Task) (e : Nat) (differ : Bool) (s : State)
    (hs : F.Ok (s.out F)) : StaysOkSome F (chunkDone j t e differ s) := by
  have h := chunkLoad_ok (F := F) j (t.tile / 64) (t.tile % 64) t.step s hs
  unfold chunkDone
  dsimp only
  split
  · simp
  · cases t.loaded with
    | some l =>
      dsimp only
      split
      · simp [hs]
      · split
        · exact writeRows_putJob_ok (by simp [hs])
        · simp [hs]
    | none =>
      dsimp only
      split
      · simp
      · simp [h]
      · simp [h]
      · split
        · simp [h]
        · split
          · exact writeRows_putJob_ok (by simp [h])
          · simp [h]

@[simp] theorem mergeDone_ok [F.ButBytes] [∀ g, F.Reg g] (j : Job) (t : Task) (e : Nat) (differ : Bool) (s : State)
    (hs : F.Ok (s.out F)) : StaysOkSome F (mergeDone j t e differ s) := by
  unfold mergeDone
  split
  · simp [hs]
  · exact writeRows_putJob_ok (by simp [hs])

@[simp] theorem amergeDone_ok [F.ButBytes] [∀ g, F.Reg g] (j : Job) (t : Task) (e : Nat) (differ : Bool) (s : State)
    (hs : F.Ok (s.out F)) : StaysOkSome F (amergeDone j t e differ s) := by
  have h := mergeLoad_ok (F := F) j t.tile s
  unfold amergeDone
  dsimp only
  split
  · simp
  · simp_all
  · split
    · simp_all
    · split
      · simp_all
      · exact writeRows_putJob_ok (by simp_all)

@[simp] theorem execTileTaskDone_ok [F.ButBytes] [∀ g, F.Reg g] (cl : Fin 4) (eng : Fin 13) (wrong : Option (List Nat))
    (differ : Bool) (s : State) (hs : F.Ok (s.out F)) : StaysOk F (execTileTaskDone cl eng wrong differ s) := by
  unfold execTileTaskDone
  dsimp only
  split
  · simp [hs]
  · split
    · simp [hs]
    · refine staysOk_next.mpr (staysOkSome_getD ?_ hs)
      split
      · exact gemmDone_ok _ _ _ _ _ _ hs
      · exact amergeDone_ok _ _ _ _ _ hs
      · split
        · exact mergeDone_ok _ _ _ _ _ hs
        · exact chunkDone_ok _ _ _ _ _ hs
      · split
        · simp [hs]
        · exact rowsDone_ok _ _ _ hs

@[simp] theorem finishJob_ok [F.ButBytes] [∀ g, F.Reg g] (j : Job) (s : State) (hs : F.Ok (s.out F)) : StaysOkSome F
    (finishJob j s) := by
  have hw (c : Prop) [Decidable c] (k : Job) (ctx : Nat) (rows : List (Nat × List Byte)) (x : Job × State)
      (h : (if c then writeRows k ctx rows s else some (k, s)) = some x) : F.Ok (x.2.out F) := by
    split at h
    · exact writeRows_ok h hs
    · cases h; exact hs
  unfold finishJob
  dsimp only
  split
  · simp
  · split
    · simp
    · rename_i h
      simp [hw _ _ _ _ _ h]

end Sys2Proof.Machine
end

section
/-! SUPPORT. The form of the bytes is kept. Ring configuration, doorbells, entries, completions, pauses, and the
programs that start and end on a ring. -/

namespace Sys2Proof.Machine

variable {F : Foot}

@[simp] theorem enableRing_ok [F.ButBytes] [∀ g, F.Reg g] (r : Nat) (s : State) (hs : F.Ok (s.out F)) :
    F.Ok ((enableRing r s).out F) := by
  simp [enableRing, hs]

@[simp] theorem applyDoorbell_ok [F.ButBytes] [∀ g, F.Reg g] (r t : Nat) (s : State) (hs : F.Ok (s.out F)) :
    F.Ok ((applyDoorbell r t s).out F) := by
  simp [applyDoorbell, hs]

@[simp] theorem completionWritten_ok [F.ButBytes] [∀ g, F.Reg g] (r : Nat) (c : Completion) (s : State)
    (hs : F.Ok (s.out F)) : F.Ok ((completionWritten r c s).out F) := by
  simp [completionWritten, hs]

@[simp] theorem postCompletion_ok [F.ButBytes] [∀ g, F.Reg g] (r : Nat) (c : Completion) (dmaFail : Bool) (s : State)
    (hs : F.Ok (s.out F)) : F.Ok ((postCompletion r c dmaFail s).out F) := by
  simp [postCompletion, hs]

@[simp] theorem completeUnstarted_ok [F.ButBytes] [∀ g, F.Reg g] (r : Nat) (e : EntryCopy) (status detail pc : Nat)
    (s : State) (hs : F.Ok (s.out F)) : F.Ok ((completeUnstarted r e status detail pc s).out F) := by
  simp [completeUnstarted, hs]

@[simp] theorem fetchEntry_ok [F.ButBytes] [∀ g, F.Reg g] (r : Nat) (host : List Byte) (s : State) (hs : F.Ok (s.out F))
    : F.Ok ((fetchEntry r host s).out F) := by
  simp [fetchEntry, hs]

@[simp] theorem copyProgram_ok [F.ButBytes] [∀ g, F.Reg g] (r : Nat) (e : EntryCopy) (s : State) (hs : F.Ok (s.out F)) :
    F.Ok ((copyProgram r e s).2.out F) := by
  unfold copyProgram
  grind [ringRead_ok]

@[simp] theorem startEntry_ok [F.ButBytes] [∀ g, F.Reg g] (r : Nat) (e : EntryCopy) (s : State) (hs : F.Ok (s.out F)) :
    F.Ok ((startEntry r e s).out F) := by
  unfold startEntry
  grind [completeUnstarted_ok, takeCore_out, State.setRing_out, copyProgram_ok]

@[simp] theorem endProgram_ok [F.ButBytes] [∀ g, F.Reg g] (r : Nat) (p : Prog) (dmaFail : Bool) (s : State)
    (hs : F.Ok (s.out F)) : F.Ok ((endProgram r p dmaFail s).out F) := by
  simp [endProgram, hs]

@[simp] theorem retryHeld_ok [F.ButBytes] [∀ g, F.Reg g] (r : Nat) (dmaFail : Bool) (s : State) (hs : F.Ok (s.out F)) :
    F.Ok ((retryHeld r dmaFail s).out F) := by
  unfold retryHeld
  split <;> simp [hs]

@[simp] theorem ringCfgWrite_ok [F.ButBytes] [∀ g, F.Reg g] (r : Nat) (en : Bool) (ctx size : Nat) (s : State)
    (hs : F.Ok (s.out F)) : F.Ok ((ringCfgWrite r en ctx size s).out F) := by
  simp [ringCfgWrite, hs]

@[simp] theorem drainFlushed_ok [F.ButBytes] [∀ g, F.Reg g] (r fuel : Nat) (s : State) (hs : F.Ok (s.out F)) :
    F.Ok ((drainFlushed r fuel s).out F) := by
  induction fuel generalizing s with
  | zero => exact hs
  | succ fuel ih =>
    unfold drainFlushed
    dsimp only
    split
    · split_ifs <;> simp [ih, hs]
    · exact hs

end Sys2Proof.Machine
end

section
/-! SUPPORT. The form of the bytes is kept. Commands on rings: configuration, doorbells, entries, programs, completions,
pauses, tallies and the attention invokes a ring runs. -/

namespace Sys2Proof.Machine

variable {F : Foot}

@[simp] theorem inWindow_ok [F.ButBytes] [∀ g, F.Reg g] {r : Nat} {f : State → State} {s : State}
    (h : F.Ok ((f s).out F)) (hs : F.Ok (s.out F)) : StaysOk F (inWindow r f s) := by
  simp [inWindow, h, hs]

@[simp] theorem execRingEnable_ok [F.ButBytes] [∀ g, F.Reg g] (r : Fin 128) (ctx : BitVec 12) (size : BitVec 5)
    (s : State) (hs : F.Ok (s.out F)) : StaysOk F (execRingEnable r ctx size s) := by
  simp [execRingEnable, hs]

@[simp] theorem execRingDisable_ok [F.ButBytes] [∀ g, F.Reg g] (r : Fin 128) (s : State) (hs : F.Ok (s.out F)) :
    StaysOk F (execRingDisable r s) := by
  simp [execRingDisable, hs]

@[simp] theorem execRingConfigWrite_ok [F.ButBytes] [∀ g, F.Reg g] (r : Fin 128) (reg : Fin 3) (v : W64) (s : State)
    (hs : F.Ok (s.out F)) : StaysOk F (execRingConfigWrite r reg v s) := by
  simp [execRingConfigWrite, hs]

@[simp] theorem execDoorbell_ok [F.ButBytes] [∀ g, F.Reg g] (r : Fin 128) (t : W32) (s : State) (hs : F.Ok (s.out F)) :
    StaysOk F (execDoorbell r t s) := by
  simp [execDoorbell, hs]

@[simp] theorem execEntryFetch_ok [F.ButBytes] [∀ g, F.Reg g] (r : Fin 128) (host : List Byte) (s : State)
    (hs : F.Ok (s.out F)) : StaysOk F (execEntryFetch r host s) := by
  simp [execEntryFetch, hs]

@[simp] theorem execProgramStart_ok [F.ButBytes] [∀ g, F.Reg g] (r : Fin 132) (sm : List W64) (s : State)
    (hs : F.Ok (s.out F)) : StaysOk F (execProgramStart r sm s) := by
  unfold execProgramStart
  dsimp only
  split
  · simp [hs]
  · split <;> simp [hs]

@[simp] theorem execProgramEnd_ok [F.ButBytes] [∀ g, F.Reg g] (r : Fin 132) (dmaFail : Bool) (s : State)
    (hs : F.Ok (s.out F)) : StaysOk F (execProgramEnd r dmaFail s) := by
  unfold execProgramEnd
  split <;> simp [hs]

@[simp] theorem cqHeadWrite_ok [F.ButBytes] [∀ g, F.Reg g] (r v : Nat) (s : State) (hs : F.Ok (s.out F)) :
    F.Ok ((cqHeadWrite r v s).out F) := by
  simp [cqHeadWrite, hs]

@[simp] theorem execCqHeadWrite_ok [F.ButBytes] [∀ g, F.Reg g] (r : Fin 128) (v : W32) (s : State) (hs : F.Ok
    (s.out F)) :
    StaysOk F (execCqHeadWrite r v s) := by
  simp [execCqHeadWrite, hs]

@[simp] theorem resumeRing_ok [F.ButBytes] [∀ g, F.Reg g] (r : Nat) (s : State) (hs : F.Ok (s.out F)) :
    F.Ok ((resumeRing r s).out F) := by
  simp [resumeRing, hs]

@[simp] theorem execRingResume_ok [F.ButBytes] [∀ g, F.Reg g] (r : Fin 128) (s : State) (hs : F.Ok (s.out F)) :
    StaysOk F (execRingResume r s) := by
  simp [execRingResume, hs]

@[simp] theorem fetchAll_ok [F.ButBytes] [∀ g, F.Reg g] (r n : Nat) (host : List (List Byte)) (s : State)
    (hs : F.Ok (s.out F)) : StaysOkSome F (fetchAll r n host s) := by
  induction n generalizing host s with
  | zero => simp [fetchAll, hs]
  | succ n ih =>
    have h := ih (host.drop 1) (fetchEntry r (host.headD []) s) (by simp [hs])
    unfold fetchAll
    dsimp only
    split_ifs
    · simp [hs]
    · simp
    · exact h

@[simp] theorem flushRing_ok [F.ButBytes] [∀ g, F.Reg g] (r : Nat) (host : List (List Byte)) (s : State)
    (hs : F.Ok (s.out F)) : F.Ok ((flushRing r host s).out F) := by
  unfold flushRing
  split
  · exact hs
  · split
    · exact hs
    · rename_i t h
      simp [fetchAll_ok r _ _ _ hs t h]

@[simp] theorem execRingFlush_ok [F.ButBytes] [∀ g, F.Reg g] (r : Fin 128) (host : List (List Byte)) (s : State)
    (hs : F.Ok (s.out F)) : StaysOk F (execRingFlush r host s) := by
  simp [execRingFlush, hs]

@[simp] theorem holdRing_ok [F.ButBytes] [∀ g, F.Reg g] (n : Nat) (s : State) (hs : F.Ok (s.out F)) :
    F.Ok ((holdRing n s).out F) := by
  simp [holdRing, hs]

@[simp] theorem execStewardHold_ok [F.ButBytes] [∀ g, F.Reg g] (n : Fin 128) (s : State) (hs : F.Ok (s.out F)) :
    StaysOk F (execStewardHold n s) := by
  simp [execStewardHold, hs]

@[simp] theorem execProgramRestart_ok [F.ButBytes] [∀ g, F.Reg g] (r : Fin 128) (s : State) (hs : F.Ok (s.out F)) :
    StaysOk F (execProgramRestart r s) := by
  unfold execProgramRestart
  dsimp only
  (repeat' split) <;> simp [hs] <;> grind [State.setCore_out, endProgram_ok, State.setRing_out, copyProgram_ok]

@[simp] theorem execInvokeTaken_ok [F.ButBytes] [∀ g, F.Reg g] (r : Fin 128) (s : State) (hs : F.Ok (s.out F)) :
    StaysOk F (execInvokeTaken r s) := by
  unfold execInvokeTaken
  dsimp only
  split
  · simp [hs]
  · refine staysOk_of_ite (by simp [hs]) ?_
    split
    · simp [hs]
    · refine staysOk_of_ite (by simp [hs]) (staysOk_of_ite (by simp [hs]) ?_)
      split
      · rename_i u h
        exact staysOk_next.mpr (attnStart_ok (F := F) _ _ _ _ _ _ (by simp [hs]) u h)
      · simp [hs]

@[simp] theorem startReturn_ok [F.ButBytes] [∀ g, F.Reg g] (r : Nat) (j : Job) (s : State) (hs : F.Ok (s.out F)) :
    F.Ok ((startReturn r j s).out F) := by
  unfold startReturn
  grind [dmaStart_ok, State.setProg_out]

@[simp] theorem execTallyComplete_ok [F.ButBytes] [∀ g, F.Reg g] (r : Fin 132) (t : Fin 16) (s : State)
    (hs : F.Ok (s.out F)) : StaysOk F (execTallyComplete r t s) := by
  unfold execTallyComplete
  split
  · split
    · rename_i u h
      simp [finishJob_ok _ _ hs u h]
    · simp [hs]
  · split
    · split
      · simp [hs]
      · simp [dmaLocal_ok, hs]
    · split
      · split <;> simp [hs]
      · simp [hs]

end Sys2Proof.Machine
end

section
/-! SUPPORT. The form of the bytes is kept. Translation commands: granule table repair, window invalidations and
acknowledgements and the context base. -/

namespace Sys2Proof.Machine

variable {F : Foot}

@[simp] theorem giveInvAck_ok [F.ButBytes] [∀ g, F.Reg g] (a : InvAck) (s : State) (hs : F.Ok (s.out F)) :
    F.Ok ((giveInvAck a s).out F) := by
  unfold giveInvAck
  dsimp only
  split <;> simp [hs]

@[simp] theorem execInvalidationAck_ok [F.ButBytes] [∀ g, F.Reg g] (p : Fin 16) (s : State) (hs : F.Ok (s.out F)) :
    StaysOk F (execInvalidationAck p s) := by
  unfold execInvalidationAck
  split <;> simp [hs]

end Sys2Proof.Machine
end

section
/-! SUPPORT. The form of the bytes is kept. A received packet: credit, form, destination, and what requests, responses,
invokes, doorbells, atomics and management packets do. -/

namespace Sys2Proof.Machine

variable {F : Foot}

@[simp] theorem writeMasked_ok [F.ButBytes] [∀ g, F.Reg g] (src : Src) (cid va mask : Nat) (data : List Byte)
    (s : State) (hs : F.Ok (s.out F)) : F.Ok ((writeMasked src cid va mask data s).2.out F) := by
  unfold writeMasked
  grind [translate_ok, lineOp_ok, countAccess_out]

@[simp] theorem sourceSteps_ok [F.ButBytes] [∀ g, F.Reg g] (src : Src) (cid : Nat) (s : State) (hs : F.Ok (s.out F)) :
    F.Ok ((sourceSteps src cid s).2.out F) := by
  unfold sourceSteps
  grind [contextEntry_ok]

@[simp] theorem fabricDoorbell_ok [F.ButBytes] [∀ g, F.Reg g] (k : Nat) (p : Packet) (s : State) (hs : F.Ok (s.out F)) :
    StaysOkSome F (fabricDoorbell k p s) := by
  have h := sourceSteps_ok (F := F) (fabSrc k p .request s) p.cid s
  unfold fabricDoorbell
  dsimp only
  split
  · simp_all
  · simp_all
  · simp_all
  · simp
  · split <;> simp_all

@[simp] theorem serveAtom_ok [F.ButBytes] [∀ g, F.Reg g] (k : Nat) (p : Packet) (s : State) (hs : F.Ok (s.out F)) :
    StaysOkSome F (serveAtom k p s) := by
  unfold serveAtom
  dsimp only
  generalize (if p.byte 1 = 0 then 4 else 8) = m
  split
  · simp [hs]
  · split
    · simp [hs]
    · split
      · simp [hs]
      · split
        · simp [hs]
        · rename_i t h
          have ht := memoRoom_leaves (F := F) s t h
          split <;> simp [ht, hs]

@[simp] theorem serveInvoke_ok [F.ButBytes] [∀ g, F.Reg g] (k : Nat) (p : Packet) (s : State) (hs : F.Ok (s.out F)) :
    StaysOkSome F (serveInvoke k p s) := by
  unfold serveInvoke
  dsimp only
  (repeat' split) <;> simp [hs] <;> grind [recordViolation_out, State.setRing_out, sendResult_out, sourceSteps_ok]

@[simp] theorem serve_ok [F.ButBytes] [∀ g, F.Reg g] (k : Nat) (p : Packet) (s : State) (hs : F.Ok (s.out F)) :
    StaysOkSome F (serve k p s) := by
  unfold serve
  refine staysOkSome_of_ite staysOkSome_none (staysOkSome_of_ite (by simp [hs])
    (staysOkSome_of_ite (fabricDoorbell_ok k p s hs) ?_))
  refine staysOkSome_of_ite (by dsimp only; split_ifs <;> simp [hs]) (staysOkSome_of_ite (by simp [hs])
    (staysOkSome_of_ite (by simp [hs])
    ?_))
  refine staysOkSome_of_ite (serveAtom_ok k p s hs) (staysOkSome_of_ite ?_ ?_)
  · split
    · simp [hs]
    · split
      split
      · intro u hu
        exact dmaResponse_ok _ _ _ _ (by simp [hs]) u hu
      · simp [hs]
  · exact staysOkSome_of_ite (serveInvoke_ok k p s hs) (staysOkSome_of_ite (by simp [hs]) (by simp [hs]))

@[simp] theorem receivePacket_ok [F.ButBytes] [∀ g, F.Reg g] (k : Nat) (p : Packet) (stamp turn : Nat) (s : State)
    (hs : F.Ok (s.out F)) : F.Ok ((receivePacket k p stamp turn s).out F) := by
  unfold receivePacket
  refine ok_of_ite hs (ok_of_ite (by simp [hs]) (ok_of_ite (by simp [hs]) (ok_of_ite (by simp [hs]) ?_)))
  refine ok_of_ite (by simp [hs]) (ok_of_ite (by simp [hs]) (ok_of_ite (by simp [hs]) (ok_of_ite (by simp [hs]) ?_)))
  refine ok_of_ite (ok_of_ite (by simp [hs]) ?_) (ok_of_ite (by simp [hs]) ?_)
  · split <;> simp [hs]
  · split
    · rename_i t h
      have ht : F.Ok (t.out F) := by
        refine serve_ok k p _ ?_ t h
        simp [hs]
      simp [ht]
    · simp [hs]

@[simp] theorem retryWaiting_ok [F.ButBytes] [∀ g, F.Reg g] (s : State) (hs : F.Ok (s.out F)) :
    F.Ok ((retryWaiting s).out F) := by
  refine State.each_ok _ _ (fun w t ht => ?_) hs
  split
  · rename_i u h
    simp [serve_ok _ _ _ ht u h]
  · exact ht

end Sys2Proof.Machine
end

section
/-! SUPPORT. The form of the bytes is kept. Fabric commands: flits, training, encryption, packets by kind, Campion and
Sorrel. -/

namespace Sys2Proof.Machine

variable {F : Foot}

@[simp] theorem receiveAll_ok [F.ButBytes] [∀ g, F.Reg g] (k : Nat) (ps : List Packet) (stamp turn : Nat) (s : State)
    (hs : F.Ok (s.out F)) : F.Ok ((receiveAll k ps stamp turn s).out F) := by
  simp +contextual [receiveAll, hs]

@[simp] theorem execFlitReceive_ok [F.ButBytes] [∀ g, F.Reg g] (k : Fin 6) (b : List Byte) (fecOk : Bool)
    (fec : List (Fin 6 × Byte × Byte)) (stamp : BitVec 26) (turn : BitVec 40) (s : State) (hs : F.Ok (s.out F)) :
    StaysOk F (execFlitReceive k b fecOk fec stamp turn s) := by
  simp [execFlitReceive, hs]

@[simp] theorem pktCmd_ok [F.ButBytes] [∀ g, F.Reg g] (ok : Bool) (k : Nat) (p : Packet) (stamp turn : Nat) (s : State)
    (hs : F.Ok (s.out F)) : StaysOk F (pktCmd ok k p stamp turn s) := by
  simp [pktCmd, hs]

@[simp] theorem execInv_ok [F.ButBytes] [∀ g, F.Reg g] (k : Fin 6) (p : Packet) (s : State) (hs : F.Ok (s.out F)) :
    StaysOk F (execInv k p s) := by
  simp [execInv, hs]

@[simp] theorem execRd_ok [F.ButBytes] [∀ g, F.Reg g] (k : Fin 6) (p : Packet) (s : State) (hs : F.Ok (s.out F)) :
    StaysOk F (execRd k p s) := by
  simp [execRd, hs]

@[simp] theorem execWr_ok [F.ButBytes] [∀ g, F.Reg g] (k : Fin 6) (p : Packet) (s : State) (hs : F.Ok (s.out F)) :
    StaysOk F (execWr k p s) := by
  simp [execWr, hs]

@[simp] theorem execWrp_ok [F.ButBytes] [∀ g, F.Reg g] (k : Fin 6) (p : Packet) (s : State) (hs : F.Ok (s.out F)) :
    StaysOk F (execWrp k p s) := by
  simp [execWrp, hs]

@[simp] theorem execAtom_ok [F.ButBytes] [∀ g, F.Reg g] (k : Fin 6) (p : Packet) (s : State) (hs : F.Ok (s.out F)) :
    StaysOk F (execAtom k p s) := by
  simp [execAtom, hs]

@[simp] theorem execForwardPacket_ok [F.ButBytes] [∀ g, F.Reg g] (k : Fin 6) (p : Packet) (s : State)
    (hs : F.Ok (s.out F)) : StaysOk F (execForwardPacket k p s) := by
  simp [execForwardPacket, hs]

@[simp] theorem execRspData_ok [F.ButBytes] [∀ g, F.Reg g] (k : Fin 6) (p : Packet) (s : State) (hs : F.Ok (s.out F)) :
    StaysOk F (execRspData k p s) := by
  simp [execRspData, hs]

@[simp] theorem execFabricDoorbell_ok [F.ButBytes] [∀ g, F.Reg g] (k : Fin 6) (p : Packet) (s : State)
    (hs : F.Ok (s.out F)) : StaysOk F (execFabricDoorbell k p s) := by
  simp [execFabricDoorbell, hs]

@[simp] theorem execInvoke_ok [F.ButBytes] [∀ g, F.Reg g] (k : Fin 6) (p : Packet) (s : State) (hs : F.Ok (s.out F)) :
    StaysOk F (execInvoke k p s) := by
  simp [execInvoke, hs]

@[simp] theorem execHello_ok [F.ButBytes] [∀ g, F.Reg g] (k : Fin 6) (p : Packet) (s : State) (hs : F.Ok (s.out F)) :
    StaysOk F (execHello k p s) := by
  simp [execHello, hs]

@[simp] theorem execClaim_ok [F.ButBytes] [∀ g, F.Reg g] (k : Fin 6) (p : Packet) (s : State) (hs : F.Ok (s.out F)) :
    StaysOk F (execClaim k p s) := by
  simp [execClaim, hs]

@[simp] theorem execReport_ok [F.ButBytes] [∀ g, F.Reg g] (k : Fin 6) (p : Packet) (s : State) (hs : F.Ok (s.out F)) :
    StaysOk F (execReport k p s) := by
  simp [execReport, hs]

@[simp] theorem execReportDone_ok [F.ButBytes] [∀ g, F.Reg g] (k : Fin 6) (p : Packet) (s : State) (hs : F.Ok
    (s.out F)) :
    StaysOk F (execReportDone k p s) := by
  simp [execReportDone, hs]

@[simp] theorem execAssign_ok [F.ButBytes] [∀ g, F.Reg g] (k : Fin 6) (p : Packet) (s : State) (hs : F.Ok (s.out F)) :
    StaysOk F (execAssign k p s) := by
  simp [execAssign, hs]

@[simp] theorem execBeacon_ok [F.ButBytes] [∀ g, F.Reg g] (k : Fin 6) (p : Packet) (s : State) (hs : F.Ok (s.out F)) :
    StaysOk F (execBeacon k p s) := by
  simp [execBeacon, hs]

@[simp] theorem execDup_ok [F.ButBytes] [∀ g, F.Reg g] (k : Fin 6) (p : Packet) (s : State) (hs : F.Ok (s.out F)) :
    StaysOk F (execDup k p s) := by
  simp [execDup, hs]

@[simp] theorem execSyncReq_ok [F.ButBytes] [∀ g, F.Reg g] (k : Fin 6) (p : Packet) (stamp : BitVec 26)
    (turn : BitVec 40) (s : State) (hs : F.Ok (s.out F)) : StaysOk F (execSyncReq k p stamp turn s) := by
  simp [execSyncReq, hs]

@[simp] theorem execSyncRsp_ok [F.ButBytes] [∀ g, F.Reg g] (k : Fin 6) (p : Packet) (stamp : BitVec 26) (s : State)
    (hs : F.Ok (s.out F)) : StaysOk F (execSyncRsp k p stamp s) := by
  simp [execSyncRsp, hs]

end Sys2Proof.Machine
end

section
/-! SUPPORT. The form of the bytes is kept. The commands of the synthesizers, the frequency monitor, the CLKOUT outputs
and the quadrants. -/

namespace Sys2Proof.Machine

variable {F : Foot}

@[simp] theorem syn11Back_ok [F.ButBytes] [∀ g, F.Reg g] (s : State) (hs : F.Ok (s.out F)) :
    F.Ok ((syn11Back s).out F) := by
  simp [syn11Back, hs]

@[simp] theorem execSynLockDeclared_ok [F.ButBytes] [∀ g, F.Reg g] (n : Fin 12) (s : State) (hs : F.Ok (s.out F)) :
    StaysOk F (execSynLockDeclared n s) := by
  simp [execSynLockDeclared, hs]

@[simp] theorem guardTrip_ok [F.ButBytes] [∀ g, F.Reg g] (n : Nat) (s : State) (hs : F.Ok (s.out F)) :
    F.Ok ((guardTrip n s).out F) := by
  simp [guardTrip, hs]

@[simp] theorem spoilTest_ok [F.ButBytes] [∀ g, F.Reg g] (evaluated : Bool) (s : State) (hs : F.Ok (s.out F)) :
    F.Ok ((spoilTest evaluated s).out F) := by
  simp [spoilTest, hs]

@[simp] theorem execMonitorWindowEnd_ok [F.ButBytes] [∀ g, F.Reg g] (n : Fin 12) (count : Nat) (lockSame : Bool)
    (s : State) (hs : F.Ok (s.out F)) : StaysOk F (execMonitorWindowEnd n count lockSame s) := by
  simp [execMonitorWindowEnd, hs]

@[simp] theorem execQuadrantHoldExpiry_ok [F.ButBytes] [∀ g, F.Reg g] (q : Fin 4) (s : State) (hs : F.Ok (s.out F)) :
    StaysOk F (execQuadrantHoldExpiry q s) := by
  simp [execQuadrantHoldExpiry, hs]

@[simp] theorem execQuadrantRecentreDone_ok [F.ButBytes] [∀ g, F.Reg g] (q : Fin 4) (s : State) (hs : F.Ok (s.out F)) :
    StaysOk F (execQuadrantRecentreDone q s) := by
  simp [execQuadrantRecentreDone, hs]

end Sys2Proof.Machine
end

section
/-! SUPPORT. The form of the bytes is kept. Node resets: initiators, prologues, what each reset kind leaves, and the
supply, crystal and trip events. -/

namespace Sys2Proof.Machine

variable {F : Foot}

@[simp] theorem nodeReset_ok [F.ButBytes] [∀ g, F.Reg g] (kind : ResetKind) (s : State) (hs : F.Ok (s.out F)) :
    F.Ok ((nodeReset kind s).out F) := by
  unfold nodeReset
  extract_lets s1 back strap reset pins display fabric test t0 t1 t2 t3
  have h1 : F.Ok (s1.out F) := by
    unfold s1
    split <;> simp [hs]
  have h0 : F.Ok (t0.out F) := ok_of_poolOk (keptPool_ok kind s1 (poolOk_of_ok h1))
  clear_value t0 s1
  simp [t3, t2, t1, h0]

@[simp] theorem powerReset_ok [F.ButBytes] [∀ g, F.Reg g] (s : State) (hs : F.Ok (s.out F)) :
    F.Ok ((powerReset s).out F) := by
  simp [powerReset, hs]

@[simp] theorem startPrologue_ok [F.ButBytes] [∀ g, F.Reg g] (kind : ResetKind) (s : State) (hs : F.Ok (s.out F)) :
    F.Ok ((startPrologue kind s).out F) := by
  simp [startPrologue, hs]

@[simp] theorem acceptReset_ok [F.ButBytes] [∀ g, F.Reg g] (kind : ResetKind) (cause : Fld) (s : State)
    (hs : F.Ok (s.out F)) : F.Ok ((acceptReset kind cause s).out F) := by
  unfold acceptReset
  dsimp only
  split
  · exact hs
  · split
    · simp [hs]
    · split <;> simp [hs]
    · simp [hs]

@[simp] theorem execWrstNPulse_ok [F.ButBytes] [∀ g, F.Reg g] (cycles : Nat) (s : State) (hs : F.Ok (s.out F)) :
    StaysOk F (execWrstNPulse cycles s) := by
  simp [execWrstNPulse, hs]

@[simp] theorem execMrstNPulse_ok [F.ButBytes] [∀ g, F.Reg g] (cycles : Nat) (s : State) (hs : F.Ok (s.out F)) :
    StaysOk F (execMrstNPulse cycles s) := by
  simp [execMrstNPulse, hs]

@[simp] theorem execWarmResetRequest_ok [F.ButBytes] [∀ g, F.Reg g] (lost : Bool) (s : State) (hs : F.Ok (s.out F)) :
    StaysOk F (execWarmResetRequest lost s) := by
  simp [execWarmResetRequest, hs]

@[simp] theorem execMrwResetRequest_ok [F.ButBytes] [∀ g, F.Reg g] (lost : Bool) (s : State) (hs : F.Ok (s.out F)) :
    StaysOk F (execMrwResetRequest lost s) := by
  simp [execMrwResetRequest, hs]

@[simp] theorem execSmWatchdogExpiry_ok [F.ButBytes] [∀ g, F.Reg g] (s : State) (hs : F.Ok (s.out F)) : StaysOk F
    (execSmWatchdogExpiry s) := by
  simp [execSmWatchdogExpiry, hs]

@[simp] theorem execSyn11LockTimeout_ok [F.ButBytes] [∀ g, F.Reg g] (s : State) (hs : F.Ok (s.out F)) : StaysOk F
    (execSyn11LockTimeout s) := by
  simp [execSyn11LockTimeout, hs]

@[simp] theorem execResetPrologueDone_ok [F.ButBytes] [∀ g, F.Reg g] (s : State) (hs : F.Ok (s.out F)) : StaysOk F
    (execResetPrologueDone s) := by
  unfold execResetPrologueDone
  split <;> simp [hs]

@[simp] theorem execMrwPrologueTimeout_ok [F.ButBytes] [∀ g, F.Reg g] (s : State) (hs : F.Ok (s.out F)) : StaysOk F
    (execMrwPrologueTimeout s) := by
  simp [execMrwPrologueTimeout, hs]

@[simp] theorem execPorstNFall_ok [F.ButBytes] [∀ g, F.Reg g] (s : State) (hs : F.Ok (s.out F)) : StaysOk F
    (execPorstNFall s) := by
  simp [execPorstNFall, hs]

@[simp] theorem execUndervoltage_ok [F.ButBytes] [∀ g, F.Reg g] (rail : Fin 4) (s : State) (hs : F.Ok (s.out F)) :
    StaysOk F (execUndervoltage rail s) := by
  simp [execUndervoltage, hs]

@[simp] theorem execCrystalStop_ok [F.ButBytes] [∀ g, F.Reg g] (s : State) (hs : F.Ok (s.out F)) : StaysOk F
    (execCrystalStop s) := by
  simp [execCrystalStop, hs]

@[simp] theorem thermalTrip_ok [F.ButBytes] [∀ g, F.Reg g] (s : State) (hs : F.Ok (s.out F)) :
    F.Ok ((thermalTrip s).out F) := by
  simp [thermalTrip, hs]

@[simp] theorem execThermalTrip_ok [F.ButBytes] [∀ g, F.Reg g] (s : State) (hs : F.Ok (s.out F)) : StaysOk F
    (execThermalTrip s) := by
  simp [execThermalTrip, hs]

@[simp] theorem execVddAonLoss_ok [F.ButBytes] [∀ g, F.Reg g] (s : State) (hs : F.Ok (s.out F)) : StaysOk F
    (execVddAonLoss s) := by
  simp [execVddAonLoss, hs]

end Sys2Proof.Machine
end

section
/-! SUPPORT. The form of the bytes is kept. Partitions as the SM handles them: partition resets, leases, teardown,
releases of granules, withdrawal of regions, what the SM answers, and the privileged instructions of SM programs. -/

namespace Sys2Proof.Machine

variable {F : Foot}

@[simp] theorem setLease_ok [F.ButBytes] [∀ g, F.Reg g] (res : Nat) (new : Option Nat) (cont : LogCont) (s : State)
    (hs : F.Ok (s.out F)) : F.Ok ((setLease res new cont s).out F) := by
  simp [setLease, hs]

@[simp] theorem releaseAfterPages_ok [F.ButBytes] [∀ g, F.Reg g] (s : State) (hs : F.Ok (s.out F)) :
    F.Ok ((releaseAfterPages s).out F) := by
  unfold releaseAfterPages
  split <;> simp [hs]

@[simp] theorem releaseLeases_ok [F.ButBytes] [∀ g, F.Reg g] (p : Nat) (s : State) (hs : F.Ok (s.out F)) :
    F.Ok ((releaseLeases p s).out F) := by
  simp [releaseLeases, hs]

@[simp] theorem partitionReset_ok [F.ButBytes] [∀ g, F.Reg g] (p : Nat) (s : State) (hs : F.Ok (s.out F)) :
    F.Ok ((partitionReset p s).out F) := by
  unfold partitionReset
  refine releaseLeases_ok _ _ ?_
  rw [State.setTdi_out]
  exact State.each_ok _ _ (fun k t ht => by split <;> simp [ht]) (by simp [hs])

@[simp] theorem execPartitionReset_ok [F.ButBytes] [∀ g, F.Reg g] (p : Fin 16) (s : State) (hs : F.Ok (s.out F)) :
    StaysOk F (execPartitionReset p s) := by
  simp [execPartitionReset, hs]

@[simp] theorem startTear_ok [F.ButBytes] [∀ g, F.Reg g] (x : Tear) (s : State) (hs : F.Ok (s.out F)) :
    F.Ok ((startTear x s).out F) := by
  simp [startTear, hs]

@[simp] theorem nextHaltTear_ok [F.ButBytes] [∀ g, F.Reg g] (s : State) (hs : F.Ok (s.out F)) :
    F.Ok ((nextHaltTear s).out F) := by
  unfold nextHaltTear
  grind [State.out_trust, startTear_ok]

@[simp] theorem execTeardownDrainComplete_ok [F.ButBytes] [∀ g, F.Reg g] (p : Fin 16) (s : State) (hs : F.Ok (s.out F))
    :
    StaysOk F (execTeardownDrainComplete p s) := by
  unfold execTeardownDrainComplete
  dsimp only
  split <;> simp [hs]

@[simp] theorem smKcs_ok [F.ButBytes] [∀ g, F.Reg g] {r : Fin 132} {g : Guard} {w : W64} {body : Prog → State → State}
    {s : State} (h : ∀ p, F.Ok ((body p s).out F)) (hs : F.Ok (s.out F)) : StaysOk F (smKcs r g w body s) := by
  simp [smKcs, kcs_ok h, hs]

@[simp] theorem smDo_ok [F.ButBytes] [∀ g, F.Reg g] {r : Nat} {ok : Bool} {p : Prog} {s : State} {run : State → State}
    (h : ∀ t, F.Ok (t.out F) → F.Ok ((run t).out F)) (hs : F.Ok (s.out F)) : F.Ok ((smDo r ok p s run).out F) := by
  simp [smDo, h, hs]

@[simp] theorem execPrst_ok [F.ButBytes] [∀ g, F.Reg g] (r : Fin 132) (g : Guard) (b : Fin 32) (s : State)
    (hs : F.Ok (s.out F)) : StaysOk F (execPrst r g b s) := by
  exact smKcs_ok (fun _ => smDo_ok (fun t ht => partitionReset_ok _ t ht) hs) hs

@[simp] theorem execPtear_ok [F.ButBytes] [∀ g, F.Reg g] (r : Fin 132) (g : Guard) (t : Fin 16) (a : Fin 32) (s : State)
    (hs : F.Ok (s.out F)) : StaysOk F (execPtear r g t a s) := by
  refine smKcs_ok (fun _ => kindA_ok (fun _ => ?_) hs) hs
  dsimp only
  split <;> simp [hs]

@[simp] theorem execLease_ok [F.ButBytes] [∀ g, F.Reg g] (r : Fin 132) (g : Guard) (b c : Fin 32) (s : State)
    (hs : F.Ok (s.out F)) : StaysOk F (execLease r g b c s) := by
  unfold execLease
  grind [setLease_ok, smDo_ok, smKcs_ok, endAt_out]

@[simp] theorem execSign_ok [F.ButBytes] [∀ g, F.Reg g] (r : Fin 132) (g : Guard) (da t : Fin 16) (s : State)
    (hs : F.Ok (s.out F)) : StaysOk F (execSign r g da t s) := by
  unfold execSign
  grind [State.draw_out, kindA_ok, smKcs_ok, issueDone_out, ringWrite_ok, endAt_out]

@[simp] theorem execKeySlotUe_ok [F.ButBytes] [∀ g, F.Reg g] (slot : Fin 32) (s : State) (hs : F.Ok (s.out F)) :
    StaysOk F (execKeySlotUe slot s) := by
  simp [execKeySlotUe, hs]

end Sys2Proof.Machine
end

section
/-! SUPPORT. The form of the bytes is kept. The audit log's commands: records entering the log, checkpoints, the drain,
bank failures, SEALED-HALT and the log's start. -/

namespace Sys2Proof.Machine

variable {F : Foot}

@[simp] theorem sealedHalt_ok [F.ButBytes] [∀ g, F.Reg g] (waits : List LogRec) (s : State) (hs : F.Ok (s.out F)) :
    F.Ok ((sealedHalt waits s).out F) := by
  refine nextHaltTear_ok _ ?_
  simp [hs]

@[simp] theorem execLogRecordAppend_ok [F.ButBytes] [∀ g, F.Reg g] (okA okB : Bool) (ceA ceB : Byte) (s : State)
    (hs : F.Ok (s.out F)) : StaysOk F (execLogRecordAppend okA okB ceA ceB s) := by
  unfold execLogRecordAppend
  dsimp only
  split
  · simp [hs]
  · split <;> simp [hs]

@[simp] theorem execTombstoneFinal_ok [F.ButBytes] [∀ g, F.Reg g] (s : State) (hs : F.Ok (s.out F)) : StaysOk F
    (execTombstoneFinal s) := by
  unfold execTombstoneFinal
  split <;> simp [hs]

@[simp] theorem drainBankFails_ok [F.ButBytes] [∀ g, F.Reg g] (bank seq : Nat) (s : State) (hs : F.Ok (s.out F)) :
    F.Ok ((drainBankFails bank seq s).out F) := by
  simp [drainBankFails, hs]

@[simp] theorem drainRead_ok [F.ButBytes] [∀ g, F.Reg g] (okA okB : Bool) (seq : Nat) (s : State) (hs : F.Ok (s.out F))
    : F.Ok ((drainRead okA okB seq s).out F) := by
  simp [drainRead, hs]

@[simp] theorem execDrainCopy_ok [F.ButBytes] [∀ g, F.Reg g] (okA okB dma : Bool) (ceA ceB : Byte) (s : State)
    (hs : F.Ok (s.out F)) : StaysOk F (execDrainCopy okA okB dma ceA ceB s) := by
  unfold execDrainCopy
  dsimp only
  split <;> simp [hs]

@[simp] theorem startHalt_ok [F.ButBytes] [∀ g, F.Reg g] (s : State) (hs : F.Ok (s.out F)) :
    F.Ok ((startHalt s).out F) := by
  simp [startHalt, hs]

@[simp] theorem execLogStartRecords_ok [F.ButBytes] [∀ g, F.Reg g] (okA okB chainA chainB : Bool) (s : State)
    (hs : F.Ok (s.out F)) : StaysOk F (execLogStartRecords okA okB chainA chainB s) := by
  simp [execLogStartRecords, hs]

end Sys2Proof.Machine
end

section
/-! SUPPORT. The form of the bytes is kept. Steward commands but for register accesses: sessions, reason codes, and each
command's effect. -/

namespace Sys2Proof.Machine

variable {F : Foot}

@[simp] theorem steward_ok [F.ButBytes] [∀ g, F.Reg g] {q : StewReq} {cmd : Nat} {haltOk : Bool}
    {body : State → Except (Nat × Nat) State} {s : State} (h : StaysOkOr F (body s)) (hs : F.Ok (s.out F)) : StaysOk F
    (steward q cmd haltOk body s) := by
  unfold steward
  (repeat' split) <;> simp_all

@[simp] theorem logged_ok [F.ButBytes] [∀ g, F.Reg g] {run : State → State} {s : State} (h : F.Ok ((run s).out F))
    (hs : F.Ok (s.out F)) : StaysOkOr F (logged run s) := by
  simp [logged, h, hs]

@[simp] theorem malformed_ok (reason : Nat) : StaysOkOr F (malformed reason) := staysOkOr_error _

@[simp] theorem okNow_ok [F.ButBytes] [∀ g, F.Reg g] (q : StewReq) (cmd : Nat) (results : List Byte) (s : State) :
    StaysOkOr F (okNow q cmd results s) ↔ F.Ok (s.out F) := by
  simp [okNow]

@[simp] theorem execPartReset_ok [F.ButBytes] [∀ g, F.Reg g] (q : StewReq) (p : Byte) (s : State) (hs : F.Ok (s.out F))
    :
    StaysOk F (execPartReset q p s) := by
  have h := partitionReset_ok (F := F) p.toNat s hs
  refine steward_ok (staysOkOr_of_ite (by simp) (staysOkOr_of_ite ?_ (by simp))) hs
  simp [h]

@[simp] theorem execPartTear_ok [F.ButBytes] [∀ g, F.Reg g] (q : StewReq) (p : Byte) (s : State) (hs : F.Ok (s.out F)) :
    StaysOk F (execPartTear q p s) := by
  have h := startTear_ok (F := F) { part := p.toNat, init := 0, record := true, req := some q, ring := none } s hs
  refine steward_ok (staysOkOr_of_ite (by simp) (staysOkOr_of_ite ?_ (by simp))) hs
  simp [h, hs]

@[simp] theorem loadRegion_ok [F.ButBytes] [∀ g, F.Reg g] (gs : List Nat) (k off : Nat) (data : List Byte) (s : State)
    (hs : F.Ok (s.out F)) : F.Ok ((loadRegion gs k off data s).2.out F) := by
  induction k generalizing off data s with
  | zero => exact hs
  | succ k ih =>
    unfold loadRegion
    dsimp only
    split_ifs <;> simp [ih, hs]

@[simp] theorem execRegionLoad_ok [F.ButBytes] [∀ g, F.Reg g] (q : StewReq) (n : Byte) (off len : W64) (host : Bool)
    (data : Option (List Byte)) (s : State) (hs : F.Ok (s.out F)) :
    StaysOk F (execRegionLoad q n off len host data s) := by
  unfold execRegionLoad
  refine staysOk_of_ite (by simp) (steward_ok ?_ hs)
  refine staysOkOr_of_ite (by simp) (staysOkOr_of_ite (by simp)
    (staysOkOr_of_ite (by simp) (staysOkOr_of_ite (by simp) ?_)))
  split
  · simp
  · rename_i d
    have h := loadRegion_ok (F := F) (s.granulesWhere fun x => x == .shared n.toNat)
      ((s.granulesWhere fun x => x == .shared n.toNat).length + 1) off.toNat d s
    refine staysOkOr_of_ite (by simp [hs]) ?_
    split <;> simp_all

@[simp] theorem execStewardLease_ok [F.ButBytes] [∀ g, F.Reg g] (q : StewReq) (res holder : Byte) (s : State)
    (hs : F.Ok (s.out F)) : StaysOk F (execStewardLease q res holder s) := by
  refine steward_ok (staysOkOr_of_ite (by simp) ?_) hs
  split
  · simp [hs]
  · simp
@[simp] theorem firmware_ok [F.ButBytes] [∀ g, F.Reg g] {q : StewReq} {cmd : Nat}
    {body : State → Except (Nat × Nat) State} {s : State} (h : StaysOkOr F (body s)) (hs : F.Ok (s.out F)) : StaysOk F
    (firmware q cmd body s) := by
  unfold firmware
  (repeat' split) <;> simp_all

@[simp] theorem execNodeReset_ok [F.ButBytes] [∀ g, F.Reg g] (q : StewReq) (code : BitVec 16) (lost : Bool) (s : State)
    (hs : F.Ok (s.out F)) : StaysOk F (execNodeReset q code lost s) := by
  unfold execNodeReset
  split
  · simp [hs]
  · simp [hs]

end Sys2Proof.Machine
end

section
/-! SUPPORT. The form of the bytes is kept. The SMB mailbox, SPDM sessions and measurements, TDISP, IDE streams and peer
admission. -/

namespace Sys2Proof.Machine

variable {F : Foot}

@[simp] theorem execSpdmFragment_ok [F.ButBytes] [∀ g, F.Reg g] (k : Fin 6) (p : Packet) (s : State)
    (hs : F.Ok (s.out F)) : StaysOk F (execSpdmFragment k p s) := by
  simp [execSpdmFragment, hs]

@[simp] theorem tdisp_ok [F.ButBytes] [∀ g, F.Reg g] {sess : W32} {body : State → Bool × State} {s : State}
    (h : F.Ok ((body s).2.out F)) (hs : F.Ok (s.out F)) : StaysOk F (tdisp sess body s) := by
  unfold tdisp
  split
  · simp [hs]
  · split_ifs <;> simp [h, hs]

@[simp] theorem execStopInterface_ok [F.ButBytes] [∀ g, F.Reg g] (sess : W32) (p : Fin 16) (s : State)
    (hs : F.Ok (s.out F)) : StaysOk F (execStopInterface sess p s) := by
  unfold execStopInterface
  grind [State.setTdi_out, partitionReset_ok, tdisp_ok]

@[simp] theorem execIdeIntegrityFailure_ok [F.ButBytes] [∀ g, F.Reg g] (p : Fin 16) (s : State) (hs : F.Ok (s.out F)) :
    StaysOk F (execIdeIntegrityFailure p s) := by
  simp [execIdeIntegrityFailure, hs]

end Sys2Proof.Machine
end

section
/-! SUPPORT. The form of the bytes is kept. The host side and the sideband: PCIe link and functions, MSI-X, event
queues, I3C and MCTP, power and temperature. -/

namespace Sys2Proof.Machine

variable {F : Foot}

@[simp] theorem execVfFlr_ok [F.ButBytes] [∀ g, F.Reg g] (p : Fin 16) (s : State) (hs : F.Ok (s.out F)) : StaysOk F
    (execVfFlr p s) := by
  simp [execVfFlr, hs]

@[simp] theorem onTransport_ok [F.ButBytes] [∀ g, F.Reg g] {t : Fin 3} {f : State → State} {s : State}
    (h : F.Ok ((f s).out F)) (hs : F.Ok (s.out F)) : StaysOk F (onTransport t f s) := by
  simp [onTransport, h, hs]

@[simp] theorem execSensorUpdate_ok [F.ButBytes] [∀ g, F.Reg g] (rs : List (Option (BitVec 12))) (s : State)
    (hs : F.Ok (s.out F)) : StaysOk F (execSensorUpdate rs s) := by
  simp [execSensorUpdate, hs]

end Sys2Proof.Machine
end

section
/-! SUPPORT. The form of the bytes is kept. The test island: the TAP and pad control, and test jobs. -/

namespace Sys2Proof.Machine

variable {F : Foot}

@[simp] theorem enterPads_ok [F.ButBytes] [∀ g, F.Reg g] (op : Nat) (s : State) (hs : F.Ok (s.out F)) :
    F.Ok ((enterPads op s).out F) := by
  simp [enterPads, hs]

@[simp] theorem execTapInstruction_ok [F.ButBytes] [∀ g, F.Reg g] (op : Byte) (forming : Bool) (s : State)
    (hs : F.Ok (s.out F)) : StaysOk F (execTapInstruction op forming s) := by
  simp [execTapInstruction, hs]

@[simp] theorem execPadControlExit_ok [F.ButBytes] [∀ g, F.Reg g] (op : Byte) (s : State) (hs : F.Ok (s.out F)) :
    StaysOk F (execPadControlExit op s) := by
  simp [execPadControlExit, hs]

end Sys2Proof.Machine
end

section
/-! SUPPORT. The form of the bytes is kept. Island resets: CKR_ISL_RST. -/

namespace Sys2Proof.Machine

variable {F : Foot}

@[simp] theorem resetRaster_ok [F.ButBytes] [∀ g, F.Reg g] (s : State) (hs : F.Ok (s.out F)) :
    F.Ok ((resetRaster s).out F) := by
  rw [resetRaster, loadIsland_out, State.out_ras]
  refine State.each_ok _ _ (fun sh t ht => ?_) (by simp [hs])
  split <;> simp [ht]

@[simp] theorem resetPvid_ok [F.ButBytes] [∀ g, F.Reg g] (s : State) (hs : F.Ok (s.out F)) :
    F.Ok ((resetPvid s).out F) := by
  simp [resetPvid, hs]

@[simp] theorem resetPctl_ok [F.ButBytes] [∀ g, F.Reg g] (s : State) (hs : F.Ok (s.out F)) :
    F.Ok ((resetPctl s).out F) := by
  simp [resetPctl, hs]

@[simp] theorem islandReset_ok [F.ButBytes] [∀ g, F.Reg g] (n : Nat) (s : State) (hs : F.Ok (s.out F)) :
    F.Ok ((islandReset n s).out F) := by
  simp [islandReset, hs]

@[simp] theorem islRstWrite_ok [F.ButBytes] [∀ g, F.Reg g] (v : Nat) (s : State) (hs : F.Ok (s.out F)) :
    F.Ok ((islRstWrite v s).out F) := by
  simp +contextual [islRstWrite, hs]

@[simp] theorem execIslandReset_ok [F.ButBytes] [∀ g, F.Reg g] (n : Fin 25) (s : State) (hs : F.Ok (s.out F)) :
    StaysOk F (execIslandReset n s) := by
  simp [execIslandReset, hs]

end Sys2Proof.Machine
end

section
/-! SUPPORT. The form of the bytes is kept. The memory commands: line requests, lazy clean and scrub, device retirement,
row repair, channel faults and memory start. -/

namespace Sys2Proof.Machine

variable {F : Foot}

@[simp] theorem execLineRead_ok [F.ButBytes] [∀ g, F.Reg g] (line : Nat) (errs : List (Nat × List (Nat × Nat)))
    (l2bad : List Nat) (s : State) (hs : F.Ok (s.out F)) : StaysOk F (execLineRead line errs l2bad s) := by
  simp [execLineRead, hs]

@[simp] theorem execLineWrite_ok [F.ButBytes] [∀ g, F.Reg g] (line : Nat) (data : List Byte) (s : State)
    (hs : F.Ok (s.out F)) : StaysOk F (execLineWrite line data s) := by
  simp [execLineWrite, hs]

@[simp] theorem execPartialLineWrite_ok [F.ButBytes] [∀ g, F.Reg g] (line : Nat) (mask : W64) (data : List Byte)
    (s : State) (hs : F.Ok (s.out F)) : StaysOk F (execPartialLineWrite line mask data s) := by
  simp [execPartialLineWrite, hs]

@[simp] theorem softPprDone_ok [F.ButBytes] [∀ g, F.Reg g] (r : RowRepair) (s : State) (hs : F.Ok (s.out F)) :
    F.Ok ((softPprDone r s).out F) := by
  simp [softPprDone, hs]

@[simp] theorem execSoftPprDone_ok [F.ButBytes] [∀ g, F.Reg g] (i : Nat) (s : State) (hs : F.Ok (s.out F)) : StaysOk F
    (execSoftPprDone i s) := by
  unfold execSoftPprDone
  split <;> simp [hs]

@[simp] theorem hardPprDone_ok [F.ButBytes] [∀ g, F.Reg g] (ch : Nat) (s : State) (hs : F.Ok (s.out F)) :
    F.Ok ((hardPprDone ch s).out F) := by
  simp [hardPprDone, hs]

@[simp] theorem execHardPprDone_ok [F.ButBytes] [∀ g, F.Reg g] (s : State) (hs : F.Ok (s.out F)) : StaysOk F
    (execHardPprDone s) := by
  unfold execHardPprDone
  split <;> simp [hs]

@[simp] theorem execChannelRetrainDone_ok [F.ButBytes] [∀ g, F.Reg g] (ch : Fin 24) (ok : Bool) (s : State)
    (hs : F.Ok (s.out F)) : StaysOk F (execChannelRetrainDone ch ok s) := by
  simp [execChannelRetrainDone, hs]

@[simp] theorem openPool_ok [F.ButBytes] [∀ g, F.Reg g] (s : State) (hs : F.Ok (s.out F)) :
    F.Ok ((openPool s).out F) := by
  simp [openPool, hs]

@[simp] theorem trainingEnd_ok [F.ButBytes] [∀ g, F.Reg g] (s : State) (hs : F.Ok (s.out F)) :
    F.Ok ((trainingEnd s).out F) := by
  simp [trainingEnd, hs]

@[simp] theorem memoryStart_ok [F.ButBytes] [∀ g, F.Reg g] (pops : List DimmPop) (s : State) (hs : F.Ok (s.out F)) :
    F.Ok ((memoryStart pops s).out F) := by
  simp [memoryStart, hs]

@[simp] theorem memoryReturn_ok [F.ButBytes] [∀ g, F.Reg g] (cfg gran : Nat) (up : NSet) (s : State)
    (hs : F.Ok (s.out F)) : F.Ok ((memoryReturn cfg gran up s).out F) := by
  simp [memoryReturn, hs]

@[simp] theorem execMemoryStart_ok [F.ButBytes] [∀ g, F.Reg g] (pops : List DimmPop) (s : State) (hs : F.Ok (s.out F)) :
    StaysOk F (execMemoryStart pops s) := by
  unfold execMemoryStart
  (repeat' split) <;> simp_all

@[simp] theorem execChannelTrainingDone_ok [F.ButBytes] [∀ g, F.Reg g] (ch : Fin 24) (ok : Bool) (s : State)
    (hs : F.Ok (s.out F)) : StaysOk F (execChannelTrainingDone ch ok s) := by
  simp [execChannelTrainingDone, hs]

end Sys2Proof.Machine
end

section
/-! SUPPORT. The form of the bytes is kept. Register accesses: what each register reads as, what a write of it does,
half- width accesses, who reaches what, and the steward's REG_READ and REG_WRITE. -/

namespace Sys2Proof.Machine

variable {F : Foot}

@[simp] theorem nodeRstWrite_ok [F.ButBytes] [∀ g, F.Reg g] (code : Nat) (s : State) (hs : F.Ok (s.out F)) :
    F.Ok ((nodeRstWrite code s).out F) := by
  simp [nodeRstWrite, hs]

@[simp] theorem mgmtWrite_ok [F.ButBytes] [∀ g, F.Reg g] (name : String) (key b i v : Nat) (e : RegEnv) (s : State)
    (hs : F.Ok (s.out F)) : F.Ok ((mgmtWrite name key b i v e s).out F) := by
  unfold mgmtWrite
  split <;> simp [hs]

@[simp] theorem windowWrite_ok [F.ButBytes] [∀ g, F.Reg g] (name : String) (key p i v : Nat) (e : RegEnv) (s : State)
    (hs : F.Ok (s.out F)) : F.Ok ((windowWrite name key p i v e s).out F) := by
  unfold windowWrite
  split <;> simp [hs]

@[simp] theorem regWrite_ok [F.ButBytes] [∀ g, F.Reg g] (key v : Nat) (e : RegEnv) (s : State) (hs : F.Ok (s.out F)) :
    F.Ok ((regWrite key v e s).out F) := by
  unfold regWrite
  split <;> simp [hs]

@[simp] theorem write32_ok [F.ButBytes] [∀ g, F.Reg g] (key v : Nat) (e : RegEnv) (s : State) (hs : F.Ok (s.out F)) :
    F.Ok ((write32 key v e s).out F) := by
  unfold write32
  grind [State.out_heldLow, regWrite_ok]

@[simp] theorem write64_ok [F.ButBytes] [∀ g, F.Reg g] (key v : Nat) (e : RegEnv) (s : State) (hs : F.Ok (s.out F)) :
    F.Ok ((write64 key v e s).out F) := by
  simp [write64, hs]

@[simp] theorem execRegisterWrite_ok [F.ButBytes] [∀ g, F.Reg g] (path : RegPath) (off : BitVec 24) (wide : Bool)
    (v : W64) (e : RegEnv) (lost : Bool) (s : State) (hs : F.Ok (s.out F)) : StaysOk F
    (execRegisterWrite path off wide v e lost s) := by
  unfold execRegisterWrite
  dsimp only
  split
  · simp
  · split <;> simp [hs]

@[simp] theorem execRegWrite_ok [F.ButBytes] [∀ g, F.Reg g] (q : StewReq) (off : W32) (width : Byte) (v : W64)
    (e : RegEnv) (lost : Option Byte) (s : State) (hs : F.Ok (s.out F)) : StaysOk F
    (execRegWrite q off width v e lost s) := by
  unfold execRegWrite
  dsimp only
  split
  · simp [hs]
  · split <;> simp [hs]

end Sys2Proof.Machine
end

section
/-! SUPPORT. The form of the bytes is kept. The stages of start-up that end with a verified firmware image and with
built- in self-test: keys, the board and repair records, and the maps of logical onto physical units. -/

namespace Sys2Proof.Machine

variable {F : Foot}

@[simp] theorem boardEntry_ok [F.ButBytes] [∀ g, F.Reg g] (e : Nat × Nat) (s : State) (hs : F.Ok (s.out F)) :
    F.Ok ((boardEntry e s).out F) := by
  simp [boardEntry, hs]

@[simp] theorem startImage_ok [F.ButBytes] [∀ g, F.Reg g] (i : Image) (s : State) (hs : F.Ok (s.out F)) :
    F.Ok ((startImage i s).out F) := by
  simp +contextual [startImage, hs]

@[simp] theorem execFirmwareImageLoaded_ok [F.ButBytes] [∀ g, F.Reg g] (flash : Option (Image × Image))
    (erase keysOk : Bool) (s : State) (hs : F.Ok (s.out F)) :
    StaysOk F (execFirmwareImageLoaded flash erase keysOk s) := by
  unfold execFirmwareImageLoaded
  dsimp only
  (repeat' split) <;> simp [hs]

end Sys2Proof.Machine
end

section
/-! SUPPORT. The form of the bytes is kept. KCS instructions that a core runs itself: control, scalar arithmetic,
predicates, descriptor assembly, scalar memory access and the core store. -/

namespace Sys2Proof.Machine

variable {F : Foot}

@[simp] theorem execDld_ok [F.ButBytes] [∀ g, F.Reg g] (r : Fin 132) (g : Guard) (a : Fin 16) (b : Fin 32) (s : State)
    (hs : F.Ok (s.out F)) : StaysOk F (execDld r g a b s) := by
  unfold execDld
  grind [ringRead_ok, access_ok, kcs_ok, State.setProg_out, endAt_out]

@[simp] theorem execDst_ok [F.ButBytes] [∀ g, F.Reg g] (r : Fin 132) (g : Guard) (a : Fin 16) (b : Fin 32) (s : State)
    (hs : F.Ok (s.out F)) : StaysOk F (execDst r g a b s) := by
  unfold execDst
  grind [access_ok, kcs_ok, ringWrite_ok, State.setProg_out, endAt_out]

@[simp] theorem loadOp_ok [F.ButBytes] [∀ g, F.Reg g] (r : Fin 132) (g : Guard) (opc : Nat) (signed : Bool)
    (a b : Fin 32) (sz : Fin 4) (imm : BitVec 36) (s : State) (hs : F.Ok (s.out F)) : StaysOk F
    (loadOp r g opc signed a b sz imm s) := by
  unfold loadOp
  grind [ringRead_ok, access_ok, kcs_ok, State.setProg_out, endAt_out]

@[simp] theorem execLd_ok [F.ButBytes] [∀ g, F.Reg g] (r : Fin 132) (g : Guard) (a b : Fin 32) (sz : Fin 4)
    (imm : BitVec 36) (s : State) (hs : F.Ok (s.out F)) : StaysOk F (execLd r g a b sz imm s) := by
  simp [execLd, hs]

@[simp] theorem execLds_ok [F.ButBytes] [∀ g, F.Reg g] (r : Fin 132) (g : Guard) (a b : Fin 32) (sz : Fin 4)
    (imm : BitVec 36) (s : State) (hs : F.Ok (s.out F)) : StaysOk F (execLds r g a b sz imm s) := by
  simp [execLds, hs]

@[simp] theorem execSt_ok [F.ButBytes] [∀ g, F.Reg g] (r : Fin 132) (g : Guard) (a b : Fin 32) (sz : Fin 4)
    (imm : BitVec 36) (s : State) (hs : F.Ok (s.out F)) : StaysOk F (execSt r g a b sz imm s) := by
  unfold execSt
  grind [access_ok, kcs_ok, ringWrite_ok, State.setProg_out, endAt_out]

@[simp] theorem execKcsAtom_ok [F.ButBytes] [∀ g, F.Reg g] (r : Fin 132) (g : Guard) (a b c : Fin 32) (op : Fin 8)
    (wide : Bool) (s : State) (hs : F.Ok (s.out F)) : StaysOk F (execKcsAtom r g a b c op wide s) := by
  unfold execKcsAtom
  grind [access_ok, kcs_ok, ringAtomic_ok, State.setProg_out, endAt_out]

@[simp] theorem execEvraise_ok [F.ButBytes] [∀ g, F.Reg g] (r : Fin 132) (g : Guard) (n : Fin 16) (s : State)
    (hs : F.Ok (s.out F)) : StaysOk F (execEvraise r g n s) := by
  unfold execEvraise
  split_ifs <;> simp [hs]

end Sys2Proof.Machine
end

section
/-! SUPPORT. The commands that may change the pool's bytes keep their form, as every other command does by its frame. A
cycle of TIMEBASE is the answer to the fabric's requests that wait, at a tick of Sorrel. -/

namespace Sys2Proof.Machine

/-- Everything but the pool's bytes. -/
def butBytes : Foot := { part := fun x => x ≠ .bytes, reg := fun _ => True }

theorem butBytes_reg (g : RegFam) : butBytes.Reg g := ⟨fun _ _ => trivial⟩

theorem butBytes_butBytes : butBytes.ButBytes :=
  { bytes := fun h => h rfl, events := nofun, sent := nofun, toHost := nofun, memory := nofun,
    repair := nofun, free := nofun, translation := nofun, captures := nofun, heldLow := nofun, power := nofun,
    clocks := nofun, pins := nofun, seals := nofun, log := nofun, rings := nofun, hatch := nofun,
    raster := nofun, display := nofun, path := nofun, drypoint := nofun, tansy := nofun, inputs := nofun,
    leases := nofun, fabric := nofun, trust := nofun, test := nofun, hifPba := trivial, fabDrop := trivial,
    qStatus := trivial, qTail := trivial, mcRetire := fun _ => trivial, pprStatus := trivial, rprStatus := trivial,
    poison := trivial, xltStatus := trivial, pwPba := fun _ => trivial, occurred := fun _ => trivial,
    ce := fun _ => trivial, errLog := fun _ => trivial, pwQStatus := fun _ => trivial,
    pwQTail := fun _ => trivial, dev := fun _ _ => trivial }

variable {F : Foot} {s t : State}

theorem exec_ok_of_bytes [F.ButBytes] [∀ g, F.Reg g] (c : Instr) (hc : (frameOf c).parts.contains .bytes = true)
    (s : State) (hs : F.Ok (s.out F)) : StaysOk F (exec c s) := by
  cases c
  case registerWrite => exact execRegisterWrite_ok _ _ _ _ _ _ s hs
  case porstNFall => exact execPorstNFall_ok s hs
  case wrstNPulse => exact execWrstNPulse_ok _ s hs
  case mrstNPulse => exact execMrstNPulse_ok _ s hs
  case warmResetRequest => exact execWarmResetRequest_ok _ s hs
  case mrwResetRequest => exact execMrwResetRequest_ok _ s hs
  case prsIlkInFall => exact execPrsIlkInFall_ok s hs
  case vddIo33Loss => exact execVddIo33Loss_ok s hs
  case crystalStop => exact execCrystalStop_ok s hs
  case thermalTrip => exact execThermalTrip_ok s hs
  case undervoltage => exact execUndervoltage_ok _ s hs
  case smWatchdogExpiry => exact execSmWatchdogExpiry_ok s hs
  case resetPrologueDone => exact execResetPrologueDone_ok s hs
  case mrwPrologueTimeout => exact execMrwPrologueTimeout_ok s hs
  case islandReset => exact execIslandReset_ok _ s hs
  case partitionReset => exact execPartitionReset_ok _ s hs
  case firmwareImageLoaded => exact execFirmwareImageLoaded_ok _ _ _ s hs
  case synLockDeclared => exact execSynLockDeclared_ok _ s hs
  case monitorWindowEnd => exact execMonitorWindowEnd_ok _ _ _ s hs
  case syn11LockTimeout => exact execSyn11LockTimeout_ok s hs
  case quadrantHoldExpiry => exact execQuadrantHoldExpiry_ok _ s hs
  case quadrantRecentreDone => exact execQuadrantRecentreDone_ok _ s hs
  case lineRead => exact execLineRead_ok _ _ _ s hs
  case lineWrite => exact execLineWrite_ok _ _ s hs
  case partialLineWrite => exact execPartialLineWrite_ok _ _ _ s hs
  case softPprDone => exact execSoftPprDone_ok _ s hs
  case hardPprDone => exact execHardPprDone_ok s hs
  case channelRetrainDone => exact execChannelRetrainDone_ok _ _ s hs
  case memoryStart => exact execMemoryStart_ok _ s hs
  case channelTrainingDone => exact execChannelTrainingDone_ok _ _ s hs
  case inv => exact execInv_ok _ _ s hs
  case invalidationAck => exact execInvalidationAck_ok _ s hs
  case teardownDrainComplete => exact execTeardownDrainComplete_ok _ s hs
  case flitReceive => exact execFlitReceive_ok _ _ _ _ _ _ s hs
  case rd => exact execRd_ok _ _ s hs
  case wr => exact execWr_ok _ _ s hs
  case wrp => exact execWrp_ok _ _ s hs
  case atom => exact execAtom_ok _ _ s hs
  case forwardPacket => exact execForwardPacket_ok _ _ s hs
  case rspData => exact execRspData_ok _ _ s hs
  case hello => exact execHello_ok _ _ s hs
  case claim => exact execClaim_ok _ _ s hs
  case dup => exact execDup_ok _ _ s hs
  case report => exact execReport_ok _ _ s hs
  case reportDone => exact execReportDone_ok _ _ s hs
  case assign => exact execAssign_ok _ _ s hs
  case beacon => exact execBeacon_ok _ _ s hs
  case syncReq => exact execSyncReq_ok _ _ _ _ s hs
  case syncRsp => exact execSyncRsp_ok _ _ _ s hs
  case ringEnable => exact execRingEnable_ok _ _ _ s hs
  case ringDisable => exact execRingDisable_ok _ s hs
  case ringConfigWrite => exact execRingConfigWrite_ok _ _ _ s hs
  case doorbell => exact execDoorbell_ok _ _ s hs
  case fabricDoorbell => exact execFabricDoorbell_ok _ _ s hs
  case entryFetch => exact execEntryFetch_ok _ _ s hs
  case programStart => exact execProgramStart_ok _ _ s hs
  case programEnd => exact execProgramEnd_ok _ _ s hs
  case cqHeadWrite => exact execCqHeadWrite_ok _ _ s hs
  case ringResume => exact execRingResume_ok _ s hs
  case ringFlush => exact execRingFlush_ok _ _ s hs
  case stewardHold => exact execStewardHold_ok _ s hs
  case dld => exact execDld_ok _ _ _ _ s hs
  case dst => exact execDst_ok _ _ _ _ s hs
  case ld => exact execLd_ok _ _ _ _ _ _ s hs
  case lds => exact execLds_ok _ _ _ _ _ _ s hs
  case st => exact execSt_ok _ _ _ _ _ _ s hs
  case kcsAtom => exact execKcsAtom_ok _ _ _ _ _ _ _ s hs
  case copy => exact execCopy_ok _ _ _ _ s hs
  case fill => exact execFill_ok _ _ _ _ s hs
  case plopen => exact execPlopen_ok _ _ _ _ s hs
  case plread => exact execPlread_ok _ _ _ _ _ s hs
  case plskip => exact execPlskip_ok _ _ _ _ s hs
  case attn => exact execAttn_ok _ _ _ _ _ s hs
  case rcommit => exact execRcommit_ok _ _ _ _ _ s hs
  case pqueue => exact execPqueue_ok _ _ _ _ _ s hs
  case pengine => exact execPengine_ok _ _ _ _ s hs
  case tload => exact execTload_ok _ _ _ _ _ _ s hs
  case tctl => exact execTctl_ok _ _ _ _ _ s hs
  case evraise => exact execEvraise_ok _ _ _ s hs
  case prst => exact execPrst_ok _ _ _ s hs
  case ptear => exact execPtear_ok _ _ _ _ s hs
  case lease => exact execLease_ok _ _ _ _ s hs
  case sign => exact execSign_ok _ _ _ _ s hs
  case tallyComplete => exact execTallyComplete_ok _ _ s hs
  case programRestart => exact execProgramRestart_ok _ s hs
  case taskDispatch => exact execTaskDispatch_ok _ _ s hs
  case tileTaskDone => exact execTileTaskDone_ok _ _ _ _ s hs
  case invoke => exact execInvoke_ok _ _ s hs
  case invokeTaken => exact execInvokeTaken_ok _ s hs
  case partReset => exact execPartReset_ok _ _ s hs
  case partTear => exact execPartTear_ok _ _ s hs
  case regionLoad => exact execRegionLoad_ok _ _ _ _ _ _ s hs
  case stewardLease => exact execStewardLease_ok _ _ _ s hs
  case regWrite => exact execRegWrite_ok _ _ _ _ _ _ s hs
  case nodeReset => exact execNodeReset_ok _ _ _ s hs
  case spdmFragment => exact execSpdmFragment_ok _ _ s hs
  case stopInterface => exact execStopInterface_ok _ _ s hs
  case ideIntegrityFailure => exact execIdeIntegrityFailure_ok _ s hs
  case keySlotUe => exact execKeySlotUe_ok _ s hs
  case logRecordAppend => exact execLogRecordAppend_ok _ _ _ _ s hs
  case tombstoneFinal => exact execTombstoneFinal_ok s hs
  case drainCopy => exact execDrainCopy_ok _ _ _ _ _ s hs
  case logStartRecords => exact execLogStartRecords_ok _ _ _ _ s hs
  case rasterTile => exact execRasterTile_ok s hs
  case dpLinkTrained => exact execDpLinkTrained_ok _ s hs
  case hdcpAuthentication => exact execHdcpAuthentication_ok _ _ _ s hs
  case hpdUnplug => exact execHpdUnplug_ok s hs
  case irqHpd => exact execIrqHpd_ok _ s hs
  case vblankLatch => exact execVblankLatch_ok s hs
  case engineConditionsMet => exact execEngineConditionsMet_ok s hs
  case engineConditionLost => exact execEngineConditionLost_ok s hs
  case pathEmpty => exact execPathEmpty_ok s hs
  case engineLost => exact execEngineLost_ok s hs
  case imagingStart => exact execImagingStart_ok s hs
  case sensorEdge => exact execSensorEdge_ok _ _ s hs
  case jam => exact execJam_ok s hs
  case spoil => exact execSpoil_ok s hs
  case hvLimit => exact execHvLimit_ok _ s hs
  case zcdLost => exact execZcdLost_ok s hs
  case otComparatorTrip => exact execOtComparatorTrip_ok _ s hs
  case hashPassDone => exact execHashPassDone_ok s hs
  case plateHashMismatch => exact execPlateHashMismatch_ok s hs
  case bdEdge => exact execBdEdge_ok _ _ _ _ s hs
  case bdWindowClose => exact execBdWindowClose_ok s hs
  case lateLineData => exact execLateLineData_ok s hs
  case apcCapture => exact execApcCapture_ok _ s hs
  case apcUpdate => exact execApcUpdate_ok _ s hs
  case dryConfigWrite => exact execDryConfigWrite_ok _ _ s hs
  case adcCheck => exact execAdcCheck_ok _ _ _ s hs
  case slotStrobe => exact execSlotStrobe_ok _ s hs
  case slotStorageUe => exact execSlotStorageUe_ok _ s hs
  case vfFlr => exact execVfFlr_ok _ s hs
  case sensorUpdate => exact execSensorUpdate_ok _ s hs
  case tapInstruction => exact execTapInstruction_ok _ _ s hs
  case padControlExit => exact execPadControlExit_ok _ s hs
  case hpdPlug => exact execHpdPlug_ok s hs
  case bdWindowOpen => exact execBdWindowOpen_ok s hs
  case vddAonLoss => exact execVddAonLoss_ok s hs
  all_goals exact nomatch hc

/-- Every command keeps the form of the pool's bytes: one whose frame leaves the bytes keeps the bytes themselves. -/
theorem exec_poolOk {c : Instr} (hs : s.poolOk = true) (h : exec c s = .next t) : t.poolOk = true := by
  by_cases hc : (frameOf c).parts.contains .bytes = true
  · have := butBytes_butBytes
    have := butBytes_reg
    exact poolOk_of_ok (exec_ok_of_bytes c hc s (ok_of_poolOk (F := butBytes) hs) t h)
  · have hCells := (exec_frame h).1 .bytes (by simpa using hc)
    simp only [Comp.same] at hCells
    rwa [State.poolOk, hCells]

theorem tick_poolOk (hs : s.poolOk = true) : (tick s).poolOk = true := by
  have := butBytes_butBytes
  have := butBytes_reg
  have hTicks : butBytes.Ok (({ s with ticks := s.ticks + 1 } : State).out butBytes) := ok_of_poolOk hs
  refine poolOk_of_ok (F := butBytes) (retryWaiting_ok _ ?_)
  split
  · rwa [sorrelTick_out]
  · exact hTicks

/-- Settles O6: the canonical form is kept by every command and by a cycle of TIMEBASE. -/
theorem poolFormKept : Obligations.PoolFormKept := by
  intro s t hs h
  unfold step at h
  split at h
  · cases h
    exact tick_poolOk hs
  · rename_i c rest _
    exact exec_poolOk (s := { s with pending := rest }) hs h

end Sys2Proof.Machine
end

section
/-! SUPPORT. A descriptor slot may hold more than its eight words in a state that no run reaches; DST then stores past
its line. -/

set_option maxRecDepth 100000

namespace Sys2Proof.Machine

open Sys2Proof.Tests

/-- The words of DST with slot 3 and the address 0. -/
def dstWord : W64 := encR 0x41 ⟨0, false⟩ 3 0 0 0

/-- The program of an SM ring that stands at DST, its slot 3 with nine words. -/
def nineWords : Prog := kd [dstWord] [(3, List.replicate 9 1)]

/-- Its node, whose pool holds no byte but zero. -/
def beforeDst : State := smPool nineWords []

theorem dst_past_its_line :
    cellRead (nx (.dst 128 ⟨0, false⟩ 3 0) beforeDst).pool.cells 64 = 1 ∧ cellRead beforeDst.pool.cells 64 = 0 := by
  decide

/-- Refutes O17: a slot of nine words is stored over two lines, and the statement is about every state. -/
theorem not_storesReachOneLine : ¬Obligations.StoresReachOneLine := by
  intro ⟨_, hDst, _⟩
  have h := hDst beforeDst _ 128 ⟨0, false⟩ 3 0 nineWords (by decide) (by decide) (nx_eq (by decide))
  have hByte := h 64 (by decide)
  obtain ⟨hAfter, hBefore⟩ := dst_past_its_line
  rw [hAfter, hBefore] at hByte
  exact absurd hByte (by decide)

end Sys2Proof.Machine
end

section
/-! SUPPORT. Commands that complete: those of a form that a sender can give answer a next state. -/

namespace Sys2Proof.Machine

/-- A next state is the answer. -/
def Answers (o : Out) : Prop := ∃ t, o = .next t

@[simp] theorem answers_next (t : State) : Answers (.next t) := ⟨t, rfl⟩

@[simp] theorem answers_ite (c : Prop) [Decidable c] (a b : Out) :
    Answers (if c then a else b) ↔ if c then Answers a else Answers b := by split_ifs <;> rfl

@[simp] theorem kcs_answers (r : Fin 132) (g : Guard) (w : W64) (ext : List W64) (body : Prog → State → State)
    (s : State) : Answers (kcs r g w ext body s) := by
  obtain h | ⟨p, -, -, ⟨-, h⟩ | ⟨-, h⟩⟩ := kcs_cases r g w ext body s <;> exact ⟨_, h⟩

@[simp] theorem kcsReg_answers (r : Fin 132) (g : Guard) (w : W64) (ext : List W64) (f : Prog → Prog) (s : State) :
    Answers (kcsReg r g w ext f s) := by
  simp [kcsReg]

@[simp] theorem smKcs_answers (r : Fin 132) (g : Guard) (w : W64) (body : Prog → State → State) (s : State) :
    Answers (smKcs r g w body s) := by
  simp [smKcs]

@[simp] theorem inWindow_answers (r : Nat) (f : State → State) (s : State) : Answers (inWindow r f s) := by
  simp [inWindow]

@[simp] theorem steward_answers (q : StewReq) (cmd : Nat) (haltOk : Bool) (body : State → Except (Nat × Nat) State)
    (s : State) : Answers (steward q cmd haltOk body s) := by
  obtain h | ⟨st, d, h⟩ | ⟨t, -, h⟩ := steward_cases q cmd haltOk body s <;> exact ⟨_, h⟩

@[simp] theorem firmware_answers (q : StewReq) (cmd : Nat) (body : State → Except (Nat × Nat) State) (s : State) :
    Answers (firmware q cmd body s) := by
  unfold firmware
  (repeat' split) <;> simp

@[simp] theorem tdisp_answers (sess : W32) (body : State → Bool × State) (s : State) : Answers (tdisp sess body s) := by
  unfold tdisp
  (repeat' split) <;> simp

@[simp] theorem onTransport_answers (t : Fin 3) (f : State → State) (s : State) : Answers (onTransport t f s) := by
  simp [onTransport]

@[simp] theorem loadOp_answers (r : Fin 132) (g : Guard) (opc : Nat) (signed : Bool) (a b : Fin 32) (sz : Fin 4)
    (imm : BitVec 36) (s : State) : Answers (loadOp r g opc signed a b sz imm s) := by
  simp [loadOp]

theorem execResetPrologueDone_answers (s : State) : Answers (execResetPrologueDone s) := by
  unfold execResetPrologueDone
  (repeat' split) <;> simp

theorem execFirmwareImageLoaded_answers (flash : Option (Image × Image)) (erase keysOk : Bool) (s : State) :
    Answers (execFirmwareImageLoaded flash erase keysOk s) := by
  unfold execFirmwareImageLoaded
  dsimp only
  (repeat' split) <;> simp

theorem execSelfTestComplete_answers (engines : List (Fin 4 × Fin 13)) (cores : List (Fin 4 × Fin 18)) (rows : List
    (Byte × BitVec 16 × BitVec 16)) (s : State) :
    Answers (execSelfTestComplete engines cores rows s) := by
  unfold execSelfTestComplete
  dsimp only
  (repeat' split) <;> simp

theorem execMemRequestHoldExpiry_answers (i : Nat) (s : State) : Answers (execMemRequestHoldExpiry i s) := by
  unfold execMemRequestHoldExpiry
  (repeat' split) <;> simp

theorem execSynCtlSmApply_answers (n : Fin 12) (s : State) : Answers (execSynCtlSmApply n s) := by
  unfold execSynCtlSmApply
  (repeat' split) <;> simp

theorem execPatrolScrubRead_answers (errs : List (Nat × List (Nat × Nat))) (s : State) :
    Answers (execPatrolScrubRead errs s) := by
  unfold execPatrolScrubRead
  dsimp only
  (repeat' split) <;> simp

theorem execSoftPprDone_answers (i : Nat) (s : State) : Answers (execSoftPprDone i s) := by
  unfold execSoftPprDone
  (repeat' split) <;> simp

theorem execHardPprDone_answers (s : State) : Answers (execHardPprDone s) := by
  unfold execHardPprDone
  (repeat' split) <;> simp

theorem execInvalidationAck_answers (p : Fin 16) (s : State) : Answers (execInvalidationAck p s) := by
  unfold execInvalidationAck
  (repeat' split) <;> simp

theorem execGranuleReleaseComplete_answers (g : Fin 16384) (s : State) : Answers (execGranuleReleaseComplete g s) := by
  unfold execGranuleReleaseComplete
  (repeat' split) <;> simp

theorem execTeardownDrainComplete_answers (p : Fin 16) (s : State) : Answers (execTeardownDrainComplete p s) := by
  unfold execTeardownDrainComplete
  dsimp only
  (repeat' split) <;> simp

theorem execRequestRetryTimeout_answers (tag : BitVec 12) (s : State) : Answers (execRequestRetryTimeout tag s) := by
  unfold execRequestRetryTimeout
  (repeat' split) <;> simp

theorem execProgramStart_answers (r : Fin 132) (sm : List W64) (s : State) : Answers (execProgramStart r sm s) := by
  unfold execProgramStart
  dsimp only
  (repeat' split) <;> simp

theorem execProgramEnd_answers (r : Fin 132) (dmaFail : Bool) (s : State) : Answers (execProgramEnd r dmaFail s) := by
  unfold execProgramEnd
  (repeat' split) <;> simp

theorem execTallyComplete_answers (r : Fin 132) (t : Fin 16) (s : State) : Answers (execTallyComplete r t s) := by
  unfold execTallyComplete
  (repeat' split) <;> simp

theorem execProgramRestart_answers (r : Fin 128) (s : State) : Answers (execProgramRestart r s) := by
  unfold execProgramRestart
  (repeat' split) <;> simp

theorem execTaskDispatch_answers (cl : Fin 4) (eng : Fin 13) (s : State) : Answers (execTaskDispatch cl eng s) := by
  unfold execTaskDispatch
  (repeat' split) <;> simp

theorem execTileTaskDone_answers (cl : Fin 4) (eng : Fin 13) (wrong : Option (List Nat)) (differ : Bool) (s : State) :
    Answers (execTileTaskDone cl eng wrong differ s) := by
  unfold execTileTaskDone
  dsimp only
  (repeat' split) <;> simp

theorem execLockstepMismatch_answers (cl : Fin 4) (phys : Fin 18) (s : State) :
    Answers (execLockstepMismatch cl phys s) := by
  unfold execLockstepMismatch
  (repeat' split) <;> simp

theorem execStagingEccUe_answers (cl : Fin 4) (w : StageWord) (s : State) : Answers (execStagingEccUe cl w s) := by
  unfold execStagingEccUe
  dsimp only
  (repeat' split) <;> simp

theorem execInvokeTaken_answers (r : Fin 128) (s : State) : Answers (execInvokeTaken r s) := by
  unfold execInvokeTaken
  dsimp only
  (repeat' split) <;> simp

theorem execResultSend_answers (r : Fin 128) (s : State) : Answers (execResultSend r s) := by
  unfold execResultSend
  (repeat' split) <;> simp

theorem execSpareSwitchIn_answers (cl : Fin 4) (hatch : Bool) (pass : Bool) (s : State) :
    Answers (execSpareSwitchIn cl hatch pass s) := by
  unfold execSpareSwitchIn
  dsimp only
  (repeat' split) <;> simp

theorem execSpdmSessionEnd_answers (id : W32) (s : State) : Answers (execSpdmSessionEnd id s) := by
  unfold execSpdmSessionEnd
  (repeat' split) <;> simp

theorem execGetDeviceInterfaceReport_answers (sess : W32) (p : Fin 16) (s : State) :
    Answers (execGetDeviceInterfaceReport sess p s) := by
  unfold execGetDeviceInterfaceReport
  (repeat' split) <;> simp

theorem execLogRecordAppend_answers (okA okB : Bool) (ceA ceB : Byte) (s : State) :
    Answers (execLogRecordAppend okA okB ceA ceB s) := by
  unfold execLogRecordAppend
  dsimp only
  (repeat' split) <;> simp

theorem execCheckpointSigned_answers (s : State) : Answers (execCheckpointSigned s) := by
  unfold execCheckpointSigned
  (repeat' split) <;> simp

theorem execTombstoneFinal_answers (s : State) : Answers (execTombstoneFinal s) := by
  unfold execTombstoneFinal
  (repeat' split) <;> simp

theorem execDrainCopy_answers (okA okB dma : Bool) (ceA ceB : Byte) (s : State) :
    Answers (execDrainCopy okA okB dma ceA ceB s) := by
  unfold execDrainCopy
  dsimp only
  (repeat' split) <;> simp

theorem execRasterTile_answers (s : State) : Answers (execRasterTile s) := by
  unfold execRasterTile
  (repeat' split) <;> simp

theorem execBandRequest_answers (s : State) : Answers (execBandRequest s) := by
  unfold execBandRequest
  dsimp only
  (repeat' split) <;> simp

theorem execTileBufferUe_answers (s : State) : Answers (execTileBufferUe s) := by
  unfold execTileBufferUe
  (repeat' split) <;> simp

theorem execCommitHandshake_answers (r : Fin 132) (s : State) : Answers (execCommitHandshake r s) := by
  unfold execCommitHandshake
  (repeat' split) <;> simp

theorem execPickLatch_answers (s : State) : Answers (execPickLatch s) := by
  unfold execPickLatch
  (repeat' split) <;> simp

theorem execImagingStart_answers (s : State) : Answers (execImagingStart s) := by
  unfold execImagingStart
  dsimp only
  (repeat' split) <;> simp

theorem execSensorEdge_answers (n : Fin 24) (high : Bool) (s : State) : Answers (execSensorEdge n high s) := by
  unfold execSensorEdge
  dsimp only
  (repeat' split) <;> simp

theorem execSheetExit_answers (s : State) : Answers (execSheetExit s) := by
  unfold execSheetExit
  (repeat' split) <;> simp

theorem execHvLimit_answers (k : Fin 4) (s : State) : Answers (execHvLimit k s) := by
  unfold execHvLimit
  (repeat' split) <;> simp

theorem execFuserGateEnd_answers (k : Fin 2) (s : State) : Answers (execFuserGateEnd k s) := by
  unfold execFuserGateEnd
  (repeat' split) <;> simp

theorem execZcdLost_answers (s : State) : Answers (execZcdLost s) := by
  unfold execZcdLost
  (repeat' split) <;> simp

theorem execHashPassDone_answers (s0 : State) : Answers (execHashPassDone s0) := by
  unfold execHashPassDone
  (repeat' split) <;> simp

theorem execPlateHashMismatch_answers (s : State) : Answers (execPlateHashMismatch s) := by
  unfold execPlateHashMismatch
  (repeat' split) <;> simp

theorem execApcUpdate_answers (b : Fin 8) (s : State) : Answers (execApcUpdate b s) := by
  unfold execApcUpdate
  (repeat' split) <;> simp

theorem execAdcConversionDone_answers (m : Fin 2) (v : BitVec 12) (s : State) :
    Answers (execAdcConversionDone m v s) := by
  unfold execAdcConversionDone
  dsimp only
  (repeat' split) <;> simp

theorem execSampleInstant_answers (n : Fin 16) (s : State) : Answers (execSampleInstant n s) := by
  unfold execSampleInstant
  dsimp only
  (repeat' split) <;> simp

theorem execOutputApply_answers (n : Fin 16) (late : Bool) (s : State) : Answers (execOutputApply n late s) := by
  unfold execOutputApply
  dsimp only
  (repeat' split) <;> simp

theorem execEvtQEnable_answers (part : Option (Fin 16)) (size : BitVec 5) (ctx : BitVec 12) (s : State) :
    Answers (execEvtQEnable part size ctx s) := by
  unfold execEvtQEnable
  (repeat' split) <;> simp

theorem execEvtQHeadWrite_answers (part : Option (Fin 16)) (v : W32) (s : State) :
    Answers (execEvtQHeadWrite part v s) := by
  unfold execEvtQHeadWrite
  (repeat' split) <;> simp

theorem execI3cCcc_answers (c : I3cCcc) (s : State) : Answers (execI3cCcc c s) := by
  unfold execI3cCcc
  (repeat' split) <;> simp

theorem execTapInstruction_answers (op : Byte) (forming : Bool) (s : State) :
    Answers (execTapInstruction op forming s) := by
  simp [execTapInstruction]

theorem execPadControlExit_answers (op : Byte) (s : State) : Answers (execPadControlExit op s) := by
  simp [execPadControlExit, execTapInstruction_answers]

theorem execTstJobEnd_answers (locked : BitVec 9) (bitsN errs : W64) (targetFailed : Bool) (s : State) :
    Answers (execTstJobEnd locked bitsN errs targetFailed s) := by
  unfold execTstJobEnd
  (repeat' split) <;> simp

theorem execSelfTestJobDone_answers (rows : List (BitVec 16)) (pass : Bool) (s : State) :
    Answers (execSelfTestJobDone rows pass s) := by
  unfold execSelfTestJobDone
  (repeat' split) <;> simp

theorem execTstErrThrReached_answers (locked : BitVec 9) (bitsN errs : W64) (s : State) :
    Answers (execTstErrThrReached locked bitsN errs s) := by
  unfold execTstErrThrReached
  (repeat' split) <;> simp

theorem pktCmd_answers {ok : Bool} {p : Packet} (h : (ok && p.wf) = true) (k stamp turn : Nat) (s : State) :
    Answers (pktCmd ok k p stamp turn s) := by
  simp [pktCmd, h]

theorem execRegisterWrite_answers {path : RegPath} {off : BitVec 24} (h : inBar path off.toNat = true) (wide : Bool)
    (v : W64) (e : RegEnv) (lost : Bool) (s : State) : Answers (execRegisterWrite path off wide v e lost s) := by
  unfold execRegisterWrite
  rw [h]
  cases s.reach path off.toNat wide with
  | none => simp
  | some key => simp

theorem execLowerHalfRead_answers {path : RegPath} {off : BitVec 24} (h : inBar path off.toNat = true) (wide : Bool)
    (s : State) : Answers (execLowerHalfRead path off wide s) := by
  unfold execLowerHalfRead
  rw [h]
  cases s.reach path off.toNat wide <;> simp

theorem execMemoryStart_answers {pops : List DimmPop}
    (h : (pops.length == 24 && pops.all (fun p => p.rows != 0)) = true)
    (s : State) : Answers (execMemoryStart pops s) := by
  have hOk : ¬(pops.length ≠ 24 || pops.any (fun p => p.rows == 0)) = true := by
    simp_all
  unfold execMemoryStart
  rw [if_neg hOk]
  cases s.pool.saved <;> simp

theorem execFlitReceive_answers {b : List Byte} (h : (b.length == 256) = true) (k : Fin 6) (fecOk : Bool)
    (fec : List (Fin 6 × Byte × Byte)) (stamp : BitVec 26) (turn : BitVec 40) (s : State) :
    Answers (execFlitReceive k b fecOk fec stamp turn s) := by
  simp_all [execFlitReceive]

theorem execDsetx_answers {b : Fin 8} {ws : List W64}
    (h : (ws.length != 0 && ws.length ≤ 3 && b.val + ws.length ≤ 8) = true) (r : Fin 132) (g : Guard) (a : Fin 16)
    (s : State) : Answers (execDsetx r g a b ws s) := by
  have hOk : ¬(ws.length = 0 ∨ 3 < ws.length ∨ 8 < b.val + ws.length) := by
    simp only [Bool.and_eq_true, bne_iff_ne, decide_eq_true_eq] at h
    omega
  unfold execDsetx
  rw [if_neg hOk]
  exact kcsReg_answers ..

theorem execOwnerClaim_answers {roots : List (BitVec 384)} (h : (roots.length == 8) = true) (q : StewReq)
    (anchor : BitVec 384) (ok : Bool) (s : State) : Answers (execOwnerClaim q anchor roots ok s) := by
  simp_all [execOwnerClaim]

theorem execOwnerSet_answers {roots : List (BitVec 384)} (h : (roots.length == 8) = true) (q : StewReq)
    (anchor : BitVec 384) (ok : Bool) (s : State) : Answers (execOwnerSet q anchor roots ok s) := by
  simp_all [execOwnerSet]

theorem execRegionLoad_answers {len : W64} {data : Option (List Byte)}
    (h : (!data.any (fun d => d.length != len.toNat)) = true) (q : StewReq) (n : Byte) (off : W64) (host : Bool)
    (s : State) : Answers (execRegionLoad q n off len host data s) := by
  unfold execRegionLoad
  rw [if_neg (by simpa using h)]
  exact steward_answers ..

theorem execMsixUnmask_answers {fn : Fin 17} {vec : Fin 64} (h : decide (vec.val < vectors fn.val) = true) (s : State) :
    Answers (execMsixUnmask fn vec s) := by
  simp_all [execMsixUnmask]

theorem execSensorUpdate_answers {rs : List (Option (BitVec 12))} (h : (rs.length == 15) = true) (s : State) :
    Answers (execSensorUpdate rs s) := by
  simp_all [execSensorUpdate]

/-- The command asks for a line that does not exist. -/
def NoLine (c : Instr) (s : State) : Prop :=
  ∃ line, s.lineExists line = false ∧ ((∃ e b, c = .lineRead line e b) ∨ (∃ d, c = .lineWrite line d) ∨
    ∃ m d, c = .partialLineWrite line m d)

variable {s : State}

theorem execLineRead_answers {line : Nat} {e : List (Nat × List (Nat × Nat))} {b : List Nat}
    (h : ¬NoLine (.lineRead line e b) s) : Answers (execLineRead line e b s) := by
  have hLine : s.lineExists line = true := by
    by_contra hNo
    exact h ⟨line, by simpa using hNo, .inl ⟨e, b, rfl⟩⟩
  simp [execLineRead, hLine]

theorem execLineWrite_answers {line : Nat} {d : List Byte} (hd : (d.length == 64) = true)
    (h : ¬NoLine (.lineWrite line d) s) : Answers (execLineWrite line d s) := by
  have hLine : s.lineExists line = true := by
    by_contra hNo
    exact h ⟨line, by simpa using hNo, .inr (.inl ⟨d, rfl⟩)⟩
  simp_all [execLineWrite]

theorem execPartialLineWrite_answers {line : Nat} {m : W64} {d : List Byte} (hd : (d.length == 64) = true)
    (h : ¬NoLine (.partialLineWrite line m d) s) : Answers (execPartialLineWrite line m d s) := by
  have hLine : s.lineExists line = true := by
    by_contra hNo
    exact h ⟨line, by simpa using hNo, .inr (.inr ⟨m, d, rfl⟩)⟩
  simp_all [execPartialLineWrite]

theorem exec_of_noLine {c : Instr} (hc : c.wf = true) (h : NoLine c s) : exec c s = .fault .noSuchAddress := by
  obtain ⟨line, hLine, ⟨e, b, rfl⟩ | ⟨d, rfl⟩ | ⟨m, d, rfl⟩⟩ := h
  · simp [exec, execLineRead, hLine]
  · simp_all [exec, execLineWrite, Instr.wf]
  · simp_all [exec, execPartialLineWrite, Instr.wf]

theorem pktCmd_refused {ok : Bool} {p : Packet} (h : (ok && p.wf) = false) (k stamp turn : Nat) (s : State) :
    pktCmd ok k p stamp turn s = .refused .illFormed := by
  simp [pktCmd, h]

/-- Every well-formed command completes, but for a request of a line that does not exist. -/
theorem exec_answers (c : Instr) (hc : c.wf = true) (hLine : ¬NoLine c s) : Answers (exec c s) := by
  cases c
  case registerWrite => exact execRegisterWrite_answers hc ..
  case lowerHalfRead => exact execLowerHalfRead_answers hc ..
  case vddAonApply => simp [exec, execVddAonApply]
  case porstNFall => simp [exec, execPorstNFall]
  case porstNRise => simp [exec, execPorstNRise]
  case wrstNPulse => exact ⟨_, rfl⟩
  case mrstNPulse => exact ⟨_, rfl⟩
  case warmResetRequest => simp [exec, execWarmResetRequest]
  case mrwResetRequest => simp [exec, execMrwResetRequest]
  case pciePerstNAssert => exact ⟨_, rfl⟩
  case prsIlkInFall => exact ⟨_, rfl⟩
  case vddIo33Loss => exact ⟨_, rfl⟩
  case crystalStop => simp [exec, execCrystalStop]
  case thermalTrip => exact ⟨_, rfl⟩
  case undervoltage => simp [exec, execUndervoltage]
  case smWatchdogExpiry => simp [exec, execSmWatchdogExpiry]
  case resetPrologueDone => exact execResetPrologueDone_answers ..
  case mrwPrologueTimeout => simp [exec, execMrwPrologueTimeout]
  case islandReset => exact ⟨_, rfl⟩
  case partitionReset => simp [exec, execPartitionReset]
  case firmwareImageLoaded => exact execFirmwareImageLoaded_answers ..
  case selfTestComplete => exact execSelfTestComplete_answers ..
  case fabricReady => simp [exec, execFabricReady]
  case memRequestHoldExpiry => exact execMemRequestHoldExpiry_answers ..
  case atomWindowEnd => exact ⟨_, rfl⟩
  case avsbusAck => simp [exec, execAvsbusAck]
  case avsCommandTimeout => simp [exec, execAvsCommandTimeout]
  case synEnable => simp [exec, execSynEnable]
  case synDisable => exact ⟨_, rfl⟩
  case synConfigWrite => exact ⟨_, rfl⟩
  case synCtlStewardWrite => exact ⟨_, rfl⟩
  case synCtlSmApply => exact execSynCtlSmApply_answers ..
  case synLockDeclared => simp [exec, execSynLockDeclared]
  case synLossOfLock => simp [exec, execSynLossOfLock]
  case synLossOfReference => simp [exec, execSynLossOfReference]
  case synRelock => simp [exec, execSynRelock]
  case monitorWindowEnd => simp [exec, execMonitorWindowEnd]
  case synCoastLimit => simp [exec, execSynCoastLimit]
  case syn11LockTimeout => simp [exec, execSyn11LockTimeout]
  case refclkReturn => exact ⟨_, rfl⟩
  case clkoutWrite => exact ⟨_, rfl⟩
  case quadrantHoldExpiry => simp [exec, execQuadrantHoldExpiry]
  case quadrantQuiesced => simp [exec, execQuadrantQuiesced]
  case quadrantRecentreDone => simp [exec, execQuadrantRecentreDone]
  case lineRead => exact execLineRead_answers hLine
  case lineWrite => exact execLineWrite_answers hc hLine
  case partialLineWrite => exact execPartialLineWrite_answers hc hLine
  case lazyCleanVisit => simp [exec, execLazyCleanVisit]
  case patrolScrubRead => exact execPatrolScrubRead_answers ..
  case mcCmdRetire => exact ⟨_, rfl⟩
  case softPprDone => exact execSoftPprDone_answers ..
  case hardPprCmd => exact ⟨_, rfl⟩
  case hardPprDone => exact execHardPprDone_answers ..
  case rcdAlert => simp [exec, execRcdAlert]
  case channelRetrainDone => simp [exec, execChannelRetrainDone]
  case memoryStart => exact execMemoryStart_answers hc ..
  case channelTrainingDone => simp [exec, execChannelTrainingDone]
  case gtEntryRewrite => simp [exec, execGtEntryRewrite]
  case violationAggregate => simp [exec, execViolationAggregate]
  case inv => exact pktCmd_answers hc ..
  case pwInvSubmit => simp [exec, execPwInvSubmit]
  case invalidationAck => exact execInvalidationAck_answers ..
  case pwXltCtxWrite => simp [exec, execPwXltCtxWrite]
  case granuleReleaseComplete => exact execGranuleReleaseComplete_answers ..
  case teardownDrainComplete => exact execTeardownDrainComplete_answers ..
  case regionWithdrawComplete => simp [exec, execRegionWithdrawComplete]
  case flitReceive => exact execFlitReceive_answers hc ..
  case nakReceive => simp [exec, execNakReceive]
  case fastRetrainDone => simp [exec, execFastRetrainDone]
  case fastRetrainTimeout => simp [exec, execFastRetrainTimeout]
  case errorWindowEnd => simp [exec, execErrorWindowEnd]
  case partnerLoss => simp [exec, execPartnerLoss]
  case holdoffExpiry => simp [exec, execHoldoffExpiry]
  case lrst => exact ⟨_, rfl⟩
  case groupEnClear => exact ⟨_, rfl⟩
  case linkDetect => simp [exec, execLinkDetect]
  case equalizationDone => simp [exec, execEqualizationDone]
  case laneTestDone => simp [exec, execLaneTestDone]
  case trainConfig => simp [exec, execTrainConfig]
  case lcfSend => simp [exec, execLcfSend]
  case linkKeysInstalled => simp [exec, execLinkKeysInstalled]
  case keyUpdate => simp [exec, execKeyUpdate]
  case rd => exact pktCmd_answers hc ..
  case wr => exact pktCmd_answers hc ..
  case wrp => exact pktCmd_answers hc ..
  case atom => exact pktCmd_answers hc ..
  case forwardPacket => exact pktCmd_answers hc ..
  case rspData => exact pktCmd_answers hc ..
  case requestRetryTimeout => exact execRequestRetryTimeout_answers ..
  case hello => exact pktCmd_answers hc ..
  case claim => exact pktCmd_answers hc ..
  case dup => exact pktCmd_answers hc ..
  case quietExpiry => exact ⟨_, rfl⟩
  case report => exact pktCmd_answers hc ..
  case reportDone => exact pktCmd_answers hc ..
  case assign => exact pktCmd_answers hc ..
  case beaconTick => exact ⟨_, rfl⟩
  case beacon => exact pktCmd_answers hc ..
  case beaconTimeout => exact ⟨_, rfl⟩
  case deadMarkExpiry => exact ⟨_, rfl⟩
  case parentLinkDown => exact ⟨_, rfl⟩
  case priorityWrite => exact ⟨_, rfl⟩
  case syncIntTick => exact ⟨_, rfl⟩
  case syncReq => exact pktCmd_answers hc ..
  case syncRsp => exact pktCmd_answers hc ..
  case sorrelHoldoverTimeout => exact ⟨_, rfl⟩
  case topoSrlSet => exact ⟨_, rfl⟩
  case ringEnable => exact inWindow_answers ..
  case ringDisable => exact inWindow_answers ..
  case ringConfigWrite => simp [exec, execRingConfigWrite]
  case ringBindWrite => exact ⟨_, rfl⟩
  case doorbell => exact inWindow_answers ..
  case fabricDoorbell => exact pktCmd_answers hc ..
  case entryFetch => simp [exec, execEntryFetch]
  case programStart => exact execProgramStart_answers ..
  case programEnd => exact execProgramEnd_answers ..
  case completionInterrupt => simp [exec, execCompletionInterrupt]
  case cqHeadWrite => exact inWindow_answers ..
  case ringResume => exact inWindow_answers ..
  case ringFlush => exact inWindow_answers ..
  case stewardHold => exact ⟨_, rfl⟩
  case stewardRelease => exact ⟨_, rfl⟩
  case nop => exact kcsReg_answers ..
  case kcsEnd => simp [exec, execKcsEnd]
  case jmp => simp [exec, execJmp]
  case loop => simp [exec, execLoop]
  case jz => simp [exec, execJz]
  case jnz => simp [exec, execJnz]
  case add => exact kcsReg_answers ..
  case sub => exact kcsReg_answers ..
  case mul => exact kcsReg_answers ..
  case mulhu => exact kcsReg_answers ..
  case divu => exact kcsReg_answers ..
  case remu => exact kcsReg_answers ..
  case and => exact kcsReg_answers ..
  case or => exact kcsReg_answers ..
  case xor => exact kcsReg_answers ..
  case shl => exact kcsReg_answers ..
  case shr => exact kcsReg_answers ..
  case sra => exact kcsReg_answers ..
  case minu => exact kcsReg_answers ..
  case maxu => exact kcsReg_answers ..
  case min => exact kcsReg_answers ..
  case max => exact kcsReg_answers ..
  case addi => exact kcsReg_answers ..
  case andi => exact kcsReg_answers ..
  case ori => exact kcsReg_answers ..
  case xori => exact kcsReg_answers ..
  case shli => exact kcsReg_answers ..
  case shri => exact kcsReg_answers ..
  case srai => exact kcsReg_answers ..
  case li => exact kcsReg_answers ..
  case lix => exact kcsReg_answers ..
  case sel => exact kcsReg_answers ..
  case time => exact kcsReg_answers ..
  case rinfo => simp [exec, execRinfo]
  case ceq => exact kcsReg_answers ..
  case cne => exact kcsReg_answers ..
  case cltu => exact kcsReg_answers ..
  case clt => exact kcsReg_answers ..
  case cgeu => exact kcsReg_answers ..
  case cge => exact kcsReg_answers ..
  case ceqi => exact kcsReg_answers ..
  case cltui => exact kcsReg_answers ..
  case pand => exact kcsReg_answers ..
  case por => exact kcsReg_answers ..
  case pxor => exact kcsReg_answers ..
  case pandn => exact kcsReg_answers ..
  case pset => exact kcsReg_answers ..
  case dld => simp [exec, execDld]
  case dst => simp [exec, execDst]
  case dget => exact kcsReg_answers ..
  case dset => exact kcsReg_answers ..
  case dseti => exact kcsReg_answers ..
  case dsetx => exact execDsetx_answers hc ..
  case dclr => exact kcsReg_answers ..
  case dmov => exact kcsReg_answers ..
  case ld => exact loadOp_answers ..
  case lds => exact loadOp_answers ..
  case st => simp [exec, execSt]
  case kcsAtom => simp [exec, execKcsAtom]
  case copy => simp [exec, execCopy]
  case fill => simp [exec, execFill]
  case lsld => simp [exec, execLsld]
  case lsst => simp [exec, execLsst]
  case ctxset => exact kcsReg_answers ..
  case plopen => simp [exec, execPlopen]
  case plread => simp [exec, execPlread]
  case plskip => simp [exec, execPlskip]
  case plemit => simp [exec, execPlemit]
  case plend => simp [exec, execPlend]
  case hgemm => simp [exec, execHgemm]
  case hsmax => simp [exec, execHsmax]
  case helt => simp [exec, execHelt]
  case attn => simp [exec, execAttn]
  case amerge => simp [exec, execAmerge]
  case rdraw => simp [exec, execRdraw]
  case rclear => simp [exec, execRclear]
  case rcommit => simp [exec, execRcommit]
  case pqueue => simp [exec, execPqueue]
  case pcancel => simp [exec, execPcancel]
  case pengine => simp [exec, execPengine]
  case pstat => simp [exec, execPstat]
  case tload => simp [exec, execTload]
  case tset => simp [exec, execTset]
  case tctl => simp [exec, execTctl]
  case tcap => simp [exec, execTcap]
  case wait => simp [exec, execWait]
  case waitany => simp [exec, execWaitany]
  case tst => exact kcsReg_answers ..
  case fence => exact kcsReg_answers ..
  case evraise => simp [exec, execEvraise]
  case evtime => simp [exec, execEvtime]
  case evtimeReached => exact ⟨_, rfl⟩
  case pform => exact smKcs_answers ..
  case pseal => exact smKcs_answers ..
  case prst => exact smKcs_answers ..
  case ptear => exact smKcs_answers ..
  case gassign => exact smKcs_answers ..
  case grelease => exact smKcs_answers ..
  case rcreate => exact smKcs_answers ..
  case radd => exact smKcs_answers ..
  case rpub => exact smKcs_answers ..
  case rreaders => exact smKcs_answers ..
  case rwdraw => exact smKcs_answers ..
  case lease => exact smKcs_answers ..
  case logapp => exact smKcs_answers ..
  case sign => exact smKcs_answers ..
  case random => exact smKcs_answers ..
  case tallyComplete => exact execTallyComplete_answers ..
  case programRestart => exact execProgramRestart_answers ..
  case taskDispatch => exact execTaskDispatch_answers ..
  case tileTaskDone => exact execTileTaskDone_answers ..
  case lockstepMismatch => exact execLockstepMismatch_answers ..
  case stagingEccUe => exact execStagingEccUe_answers ..
  case invoke => exact pktCmd_answers hc ..
  case invokeTaken => exact execInvokeTaken_answers ..
  case resultSend => exact execResultSend_answers ..
  case spareSwitchIn => exact execSpareSwitchIn_answers ..
  case clusterReturn => simp [exec, execClusterReturn]
  case sramRowTest => simp [exec, execSramRowTest]
  case sramRowTestDone => simp [exec, execSramRowTestDone]
  case repairRecordWrite => simp [exec, execRepairRecordWrite]
  case ownerClaim => exact execOwnerClaim_answers hc ..
  case ownerSet => exact execOwnerSet_answers hc ..
  case partForm => simp [exec, execPartForm]
  case partSeal => simp [exec, execPartSeal]
  case partReset => simp [exec, execPartReset]
  case partTear => simp [exec, execPartTear]
  case granAssign => simp [exec, execGranAssign]
  case granRelease => simp [exec, execGranRelease]
  case regionCreate => simp [exec, execRegionCreate]
  case regionAdd => simp [exec, execRegionAdd]
  case regionLoad => exact execRegionLoad_answers hc ..
  case regionPublish => simp [exec, execRegionPublish]
  case regionReaders => simp [exec, execRegionReaders]
  case regionWithdraw => simp [exec, execRegionWithdraw]
  case stewardLease => simp [exec, execStewardLease]
  case violRead => simp [exec, execViolRead]
  case violClear => simp [exec, execViolClear]
  case repairRead => simp [exec, execRepairRead]
  case repairDelete => simp [exec, execRepairDelete]
  case regRead => simp [exec, execRegRead]
  case regWrite => simp [exec, execRegWrite]
  case mmioGrant => simp [exec, execMmioGrant]
  case fwStage => exact firmware_answers ..
  case fwCommit => exact firmware_answers ..
  case fwCommitSvn => simp [exec, execFwCommitSvn]
  case tombstoneRead => simp [exec, execTombstoneRead]
  case tombstoneClear => simp [exec, execTombstoneClear]
  case nodeReset => simp [exec, execNodeReset]
  case smbGo => exact ⟨_, rfl⟩
  case smbAbort => exact ⟨_, rfl⟩
  case getMeasurements => simp [exec, execGetMeasurements]
  case spdmFragment => exact pktCmd_answers hc ..
  case spdmSessionEstablished => simp [exec, execSpdmSessionEstablished]
  case spdmSessionEnd => exact execSpdmSessionEnd_answers ..
  case lockInterface => simp [exec, execLockInterface]
  case getDeviceInterfaceReport => exact execGetDeviceInterfaceReport_answers ..
  case startInterface => simp [exec, execStartInterface]
  case stopInterface => simp [exec, execStopInterface]
  case ideIntegrityFailure => simp [exec, execIdeIntegrityFailure]
  case pwAdmitWrite => simp [exec, execPwAdmitWrite]
  case trngHealthFailure => exact ⟨_, rfl⟩
  case keySlotUe => simp [exec, execKeySlotUe]
  case logRecordAppend => exact execLogRecordAppend_answers ..
  case checkpointSigned => exact execCheckpointSigned_answers ..
  case tombstoneFinal => exact execTombstoneFinal_answers ..
  case drainCopy => exact execDrainCopy_answers ..
  case logDrainHeadWrite => exact ⟨_, rfl⟩
  case drainEnable => exact ⟨_, rfl⟩
  case drainDisable => exact ⟨_, rfl⟩
  case logRecords => exact ⟨_, rfl⟩
  case logStartRecords => simp [exec, execLogStartRecords]
  case rasterTile => exact execRasterTile_answers ..
  case bandRequest => exact execBandRequest_answers ..
  case tileBufferUe => exact execTileBufferUe_answers ..
  case rasThrDataWrite => exact ⟨_, rfl⟩
  case rasCtxOwnerWrite => exact ⟨_, rfl⟩
  case dspEnable => exact ⟨_, rfl⟩
  case dspDisable => exact ⟨_, rfl⟩
  case dpLinkTrained => simp [exec, execDpLinkTrained]
  case hdcpAuthentication => simp [exec, execHdcpAuthentication]
  case dspAuxGo => exact ⟨_, rfl⟩
  case hpdUnplug => simp [exec, execHpdUnplug]
  case irqHpd => simp [exec, execIrqHpd]
  case dspRetryTimer => simp [exec, execDspRetryTimer]
  case commitHandshake => exact execCommitHandshake_answers ..
  case vblankLatch => simp [exec, execVblankLatch]
  case engineConditionsMet => simp [exec, execEngineConditionsMet]
  case engineConditionLost => simp [exec, execEngineConditionLost]
  case pathEmpty => simp [exec, execPathEmpty]
  case engineLost => exact ⟨_, rfl⟩
  case pickLatch => exact execPickLatch_answers ..
  case imagingStart => exact execImagingStart_answers ..
  case sensorEdge => exact execSensorEdge_answers ..
  case jam => simp [exec, execJam]
  case clutchActuation => exact ⟨_, rfl⟩
  case spoil => exact ⟨_, rfl⟩
  case sheetExit => exact execSheetExit_answers ..
  case heartbeatTick => exact ⟨_, rfl⟩
  case hvrefPwmPeriod => exact ⟨_, rfl⟩
  case hvLimit => exact execHvLimit_answers ..
  case zcdEdge => simp [exec, execZcdEdge]
  case fuserGateEnd => exact execFuserGateEnd_answers ..
  case zcdLost => exact execZcdLost_answers ..
  case otComparatorTrip => simp [exec, execOtComparatorTrip]
  case otTripClear => exact ⟨_, rfl⟩
  case hashPassDone => exact execHashPassDone_answers ..
  case plateHashMismatch => exact execPlateHashMismatch_answers ..
  case prsConfigWrite => exact ⟨_, rfl⟩
  case bdEdge => simp [exec, execBdEdge]
  case bdWindowClose => simp [exec, execBdWindowClose]
  case eosEdge => simp [exec, execEosEdge]
  case lateLineData => exact ⟨_, rfl⟩
  case apcCapture => simp [exec, execApcCapture]
  case apcUpdate => exact execApcUpdate_answers ..
  case dryConfigWrite => exact ⟨_, rfl⟩
  case adcConversionDone => exact execAdcConversionDone_answers ..
  case adcCheck => simp [exec, execAdcCheck]
  case tachEdge => simp [exec, execTachEdge]
  case sampleInstant => exact execSampleInstant_answers ..
  case slotStrobe => simp [exec, execSlotStrobe]
  case outputApply => exact execOutputApply_answers ..
  case slotStorageUe => simp [exec, execSlotStorageUe]
  case evtQEnable => exact execEvtQEnable_answers ..
  case evtQHeadWrite => exact execEvtQHeadWrite_answers ..
  case msixUnmask => exact execMsixUnmask_answers hc ..
  case vfFlr => simp [exec, execVfFlr]
  case pf0Flr => exact ⟨_, rfl⟩
  case i3cCcc => exact execI3cCcc_answers ..
  case mctpMessage => simp [exec, execMctpMessage]
  case telemetry => exact onTransport_answers ..
  case alertAck => exact onTransport_answers ..
  case avsCurrentRead => simp [exec, execAvsCurrentRead]
  case sensorUpdate => exact execSensorUpdate_answers hc ..
  case prochotNChange => exact ⟨_, rfl⟩
  case tapInstruction => exact execTapInstruction_answers ..
  case padControlExit => exact execPadControlExit_answers ..
  case trstNAssert => exact ⟨_, rfl⟩
  case tstJobStart => exact ⟨_, rfl⟩
  case tstJobAbort => exact ⟨_, rfl⟩
  case tstJobEnd => exact execTstJobEnd_answers ..
  case selfTestJobDone => exact execSelfTestJobDone_answers ..
  case prsIlkInRise => exact ⟨_, rfl⟩
  case hpdPlug => simp [exec, execHpdPlug]
  case pcieLinkUp => simp [exec, execPcieLinkUp]
  case pcieLinkDown => exact ⟨_, rfl⟩
  case bdWindowOpen => simp [exec, execBdWindowOpen]
  case pwmPeriod => simp [exec, execPwmPeriod]
  case ideKm => simp [exec, execIdeKm]
  case drbgReseed => exact ⟨_, rfl⟩
  case vddAonLoss => simp [exec, execVddAonLoss]
  case testLogicReset => exact ⟨_, rfl⟩
  case tstErrThrReached => exact execTstErrThrReached_answers ..

/-- Every command that is not well formed is refused. -/
theorem exec_of_notWf (c : Instr) (hc : c.wf = false) (s : State) : exec c s = .refused .illFormed := by
  cases c
  case registerWrite path off wide v e lost => exact if_pos (by simp [show inBar path off.toNat = false from hc])
  case lowerHalfRead path off wide => exact if_pos (by simp [show inBar path off.toNat = false from hc])
  case lineWrite line data => exact if_pos (by simpa [Instr.wf] using hc)
  case partialLineWrite line m data => exact if_pos (by simpa [Instr.wf] using hc)
  case memoryStart pops => exact if_pos (by simpa [Instr.wf, imp_iff_not_or] using hc)
  case flitReceive k b ok fec stamp turn => exact if_pos (by simpa [Instr.wf] using hc)
  case dsetx r g a b ws =>
    refine if_pos ?_
    simp only [Instr.wf, Bool.and_eq_false_iff, bne_eq_false_iff_eq, decide_eq_false_iff_not] at hc
    omega
  case ownerClaim q anchor roots ok => exact if_pos (by simpa [Instr.wf] using hc)
  case ownerSet q anchor roots ok => exact if_pos (by simpa [Instr.wf] using hc)
  case regionLoad q n off len host data => exact if_pos (by simpa [Instr.wf] using hc)
  case msixUnmask fn vec => exact if_pos (by simpa [Instr.wf] using hc)
  case sensorUpdate rs => exact if_pos (by simpa [Instr.wf] using hc)
  case inv => exact pktCmd_refused hc ..
  case rd => exact pktCmd_refused hc ..
  case wr => exact pktCmd_refused hc ..
  case wrp => exact pktCmd_refused hc ..
  case atom => exact pktCmd_refused hc ..
  case forwardPacket => exact pktCmd_refused hc ..
  case rspData => exact pktCmd_refused hc ..
  case hello => exact pktCmd_refused hc ..
  case claim => exact pktCmd_refused hc ..
  case dup => exact pktCmd_refused hc ..
  case report => exact pktCmd_refused hc ..
  case reportDone => exact pktCmd_refused hc ..
  case assign => exact pktCmd_refused hc ..
  case beacon => exact pktCmd_refused hc ..
  case syncReq => exact pktCmd_refused hc ..
  case syncRsp => exact pktCmd_refused hc ..
  case fabricDoorbell => exact pktCmd_refused hc ..
  case invoke => exact pktCmd_refused hc ..
  case spdmFragment => exact pktCmd_refused hc ..
  all_goals exact nomatch hc

/-- Settles O4. -/
theorem onlyIllFormedCommandsStop : Obligations.OnlyIllFormedCommandsStop := by
  refine ⟨fun s c hc => exec_of_notWf c hc s, fun s c hc => ?_⟩
  by_cases hLine : NoLine c s
  · exact .inr ⟨exec_of_noLine hc hLine, hLine⟩
  · exact .inl (exec_answers c hc hLine)

end Sys2Proof.Machine
end

section
/-! SUPPORT. Statements about every state that a state no run reaches breaks, or whose command also stores an event of
a partition: the witness of each. -/

set_option maxRecDepth 100000

namespace Sys2Proof.Machine

open Sys2Proof.Tests

theorem of_completes {c : Instr} {s t : State} {P : State → Prop} (ht : exec c s = .next t) (h : completes c s P) :
    P t := by
  obtain ⟨u, hu, hP⟩ := h
  rw [ht] at hu
  cases hu
  exact hP

/-- Partition 2 with its event queue enabled in its direct context, and its first ring enabled. -/
def queued : State :=
  (((parted.put (F.PW_EVT_Q_CFG_EN 2) 1).put (F.PW_EVT_Q_CFG_CTX 2) 4095).put (F.PW_EVT_Q_CFG_LOG2SIZE 2) 5).put
    (F.PW_RING_CFG_EN 2 0) 1

theorem partitionReset_stores_event : (nx (.partitionReset 2) queued).pool.cells ≠ queued.pool.cells := by decide

/-- Refutes O34: the reset's RING_RESET event is stored in the event queue, which may lie in the partition's memory. -/
theorem not_partitionCompletions : ¬Obligations.PartitionCompletions := by
  intro ⟨hReset, _⟩
  obtain ⟨_, hPool, _⟩ := of_completes (nx_eq (by decide)) (hReset queued 2 (by decide))
  exact partitionReset_stores_event hPool

/-- The registers of an engine that warms up with each of its conditions met. -/
def warmedRegs : List (Fld × Nat) :=
  [(F.PRS_STATUS_STATE, engWarming), (F.CKR_SYN_STATUS_STATE 10, synLocked), (F.DRY_STATUS_LOCK, 1), (F.PRS_OT_EN 0, 1),
    (F.CKR_ISL_STATE_IN_RESET, 0), (F.CKR_ISL_CLK_RUNNING, 16)]

/-- That engine, its press lease with the partition whose event queue is enabled. -/
def warming : State :=
  { (warmedRegs.foldl (fun t p => t.put p.1 p.2) queued) with
    leases := { queued.leases with press := some 2 }
    pressIn := { queued.pressIn with ilk := true, erdy := true } }

theorem engineConditionsMet_stores_event : (nx .engineConditionsMet warming).pool.cells ≠ warming.pool.cells := by
  decide

/-- Refutes O46: the change to READY is reported in the holder's event queue, which may lie in pool memory. -/
theorem not_engineSheetsAndInterlock : ¬Obligations.EngineSheetsAndInterlock := by
  intro ⟨_, _, _, _, _, _, _, hMet, _⟩
  obtain ⟨_, _, hPool⟩ := of_completes (nx_eq (by decide)) (hMet warming (by decide) (by decide))
  exact engineConditionsMet_stores_event (congrArg (·.cells) hPool)

/-- A capture of partition 2 with one sample to write at the address 0 of its direct context. -/
def aCapture : Capture :=
  { ring := 16, t := 0, part := 2, f := [0xFFF0000000000000], done := [], inj := 0, phase := 0, lfsr := 0,
    buf := [(0, 5)], bad := none }

/-- Its press lease waits to be released until the log holds a record. -/
def releasingLease : State :=
  { parted with
    leases := { parted.leases with press := some 2 }
    prs := { parted.prs with releasing := true }
    tns := { parted.tns with cap := some aCapture }
    log := { LogState.init with started := true, waiting := [aRec] } }

theorem logRecordAppend_flushes_capture :
    (nx (.logRecordAppend true true 0 0) releasingLease).pool.cells ≠ releasingLease.pool.cells := by decide

/-- Refutes O50: the record may let the press lease go, and its capture is then flushed to pool memory. -/
theorem not_auditLog : ¬Obligations.AuditLog := by
  intro ⟨hAppend, _⟩
  obtain ⟨_, _, _, hPool⟩ := of_completes (nx_eq (by decide)) (hAppend releasingLease 0 aRec 0 0 (by decide) (by decide)
    (by decide) (by decide) (by decide) (by decide) (by decide))
  exact logRecordAppend_flushes_capture hPool

/-- Registers out of order: the log's last list field hides CKR_INCARNATION until the warm reset loads it. -/
def unsortedRegs : State :=
  { State.reset with
    regs := [(R.LOG_DRAIN_TAIL, 0), (R.CKR_INCARNATION, 5)]
    pwr := { State.reset.pwr with prologue := some .warm } }

theorem incarnation_uncovered :
    (nx .resetPrologueDone unsortedRegs).get F.CKR_INCARNATION_COUNT = 6 ∧
      unsortedRegs.get F.CKR_INCARNATION_COUNT = 0 := by decide

/-- Refutes O24: where the registers stand out of order, the warm reset of one changes what another reads as. -/
theorem not_resetAndStartUpProgress : ¬Obligations.ResetAndStartUpProgress := by
  intro ⟨hDone, _⟩
  obtain ⟨_, _, _, hCount⟩ := of_completes (nx_eq (by decide)) (hDone unsortedRegs (by decide) (by decide))
  obtain ⟨hAfter, hBefore⟩ := incarnation_uncovered
  rw [hAfter, hBefore] at hCount
  exact absurd hCount (by decide)

/-- The MSI-X enable of a function that the node has not. -/
def strayMsix : State := { State.reset with evt := { State.reset.evt with msixEn := [17] } }

theorem strayMsix_kept : (nx .pciePerstNAssert strayMsix).evt.msixEn ≠ [] := by decide

/-- Refutes O27: PERST_N clears the enables of functions 0 to 16, and the list may hold a number past them. -/
theorem not_hostLinkAndFunctions : ¬Obligations.HostLinkAndFunctions := by
  intro ⟨hPerst, _⟩
  obtain ⟨_, _, _, hMsix, _⟩ := of_completes (nx_eq (by decide)) (hPerst strayMsix)
  exact strayMsix_kept hMsix

/-- A program that has ended and pauses its ring. -/
def pausingProg : Prog := { kp [1] with ended := true, entry := anEntry, fault := some (0x30, 0, 0) }

/-- Its ring, with the completion queue and the event queue of its partition in host memory. -/
def pausingRing : State :=
  { ring16 { Ring.init with prog := some pausingProg }
      (ringIn 1 [(F.PW_RING_CQ_BASE_LOC 2 0, 1), (F.PW_EVT_Q_CFG_EN 2, 1), (F.PW_EVT_Q_CFG_LOG2SIZE 2, 6),
        (F.PW_EVT_Q_BASE_LOC 2, 1)]) with
    pwr := { PwrState.init with pcieUp := true } }

theorem pausingRing_sends_twice : (nx (.programEnd 16 false) pausingRing).hostOut.length = 2 := by decide

/-- Refutes O36: a completion that pauses its ring is followed by the event RING_PAUSE, which also goes to the host. -/
theorem not_entriesProgramsAndInvokes : ¬Obligations.EntriesProgramsAndInvokes := by
  intro ⟨_, _, _, _, _, _, hEnd, _⟩
  obtain ⟨_, _, hOut, _⟩ := of_completes (nx_eq (by decide)) (hEnd pausingRing 16 pausingProg (by decide) (by decide)
    (by decide) (by decide) (by decide) (by decide) (by decide) (by decide) (by decide) (by decide))
  have hTwo := pausingRing_sends_twice
  simp only [show ((16 : Fin 128).castLE (by omega) : Fin 132) = 16 from rfl] at hOut
  rw [hOut] at hTwo
  exact absurd hTwo (by decide)

/-- A link that is up and whose peer is not attested, on a node that sends FAB_UNATT_DATA to another link. -/
def unattestedPeer : State :=
  [(F.FP_STATUS_STATE 0, 5), (F.FP_STATUS_VCS_NEG 0, 8), (F.FP_CTL_EN 0, 1), (F.EVT_ROUTE_EN 0x26, 1),
    (F.EVT_ROUTE_FAB 0x26, 1), (F.EVT_FAB_TGT_LINKS, 2)].foldl (fun t p => t.put p.1 p.2) linked

theorem unattestedPeer_sends : (nx (.rd 0 (aPkt 0 0 0 0 [])) unattestedPeer).fabOut.length = 1 := by decide

/-- Refutes O54: a packet of an unattested peer raises FAB_UNATT_DATA, whose event packet may leave on another link. -/
theorem not_packetsForTheNode : ¬Obligations.PacketsForTheNode := by
  intro ⟨_, _, _, _, _, _, _, _, _, _, _, _, _, _, _, _, _, _, _, hUnattested, _⟩
  obtain ⟨_, hOut, _⟩ := of_completes (nx_eq (by decide)) (hUnattested unattestedPeer 0 (aPkt 0 0 0 0 []) (by decide)
    (by decide) (by decide) (by decide) (by decide) (by decide) (by decide))
  have hSent := unattestedPeer_sends
  rw [hOut] at hSent
  exact absurd hSent (by decide)

/-- A leading node in ELECTING that has sent its report. -/
def reportedLeader : State :=
  atStep0 { Campion.init with quiet := true, best := some ⟨0, 1, 1, 1, 1, 0, none⟩, reported := true }

theorem reportedLeader_waits : (nx .quietExpiry reportedLeader).campState ≠ campAssigned := by decide

/-- Refutes O56: a node that has sent its report assigns nothing when its quiet timer ends. -/
theorem not_campionTimersAndSorrel : ¬Obligations.CampionTimersAndSorrel := by
  intro ⟨_, _, hQuiet, _⟩
  obtain ⟨hAssigned, _⟩ := of_completes (nx_eq (by decide)) (hQuiet reportedLeader (by decide) (by decide) (by decide)
    (by decide) (by decide) (by decide))
  exact reportedLeader_waits hAssigned

/-- The steward asks VIOL_CLEAR through the mailbox. -/
def mailboxAsked : State :=
  { asked.put F.SMB_STATUS_BUSY 1 with
    trust := { asked.trust with
      sessions := [{ aSession with transport := 4 }]
      mailbox := some (leBytes 2 0x41 ++ leBytes 2 0 ++ leBytes 4 aQ.tag.toNat) } }

theorem mailboxAsked_writes : (nx (.violClear aQ 2) mailboxAsked).regs ≠ mailboxAsked.regs := by decide

/-- Refutes O58: VIOL_CLEAR over the mailbox is answered in the mailbox's registers. -/
theorem not_stewardOwnerFirmwareAndResets : ¬Obligations.StewardOwnerFirmwareAndResets := by
  intro ⟨_, _, _, _, hClear, _⟩
  obtain ⟨_, hRegs⟩ := of_completes (nx_eq (by decide)) (hClear mailboxAsked aQ 2 (by decide))
  exact mailboxAsked_writes hRegs

end Sys2Proof.Machine
end

section
/-! SUPPORT. What an access to pool memory and the events of a partition leave: everything but the pool, the event
queues, the repair record, the caches and violations of the translation, what is sent, and the registers of `accKey`. -/

namespace Sys2Proof.Machine

/-- The registers that an access or the event of a partition may write: those of event delivery, of the memory channels
and of the partitions' event queues. -/
def accKey (k : Nat) : Bool :=
  evtKey k || (decide (0x100000 ≤ k) && decide (k < 0x280000)) ||
    [R.MEMG_POISON, R.MEMG_PPR_STATUS, R.XLT_STATUS, R.RPR_STATUS].contains k ||
    (decide (0x100000000 ≤ k) && [0xb800, 0xc00c, 0xc014].contains (k % 0x10000))

/-- What an access and the event of a partition leave of a state. -/
def State.rest (s : State) : (Nat → W64) × State :=
  (fun k => if accKey k then 0 else s.reg k,
    { s with regs := [], freeCtr := 0, pool := PoolState.init, rpr := State.reset.rpr, fabOut := [], hostOut := []
             xlt := { s.xlt with ctxC := [], walkC := [], leafC := [], vio := [] }
             evt := { EvtState.init with msixEn := s.evt.msixEn, msixMask := s.evt.msixMask, numVfs := s.evt.numVfs,
                                         vfMse := s.evt.vfMse } })

variable {s t : State}

theorem reg_of_rest (h : t.rest = s.rest) {k : Nat} (hk : accKey k = false) : t.reg k = s.reg k := by
  simpa [State.rest, hk] using congrFun (congrArg Prod.fst h) k

theorem get_of_rest (h : t.rest = s.rest) {f : Fld} (hk : accKey f.key = false) : t.get f = s.get f := by
  simp only [State.get, reg_of_rest h hk]

theorem acks_of_rest (h : t.rest = s.rest) : t.xlt.acks = s.xlt.acks := congrArg (fun r => r.2.xlt.acks) h

/-- An update of other parts, over registers that agree. -/
@[simp] theorem State.rest_mk (s t : State) {freeCtr : Nat} {pool : PoolState} {xlt : XltState} {evt : EvtState}
    {rpr : RprState} {fabOut : List (Nat × Packet)} {hostOut : List HostOut} (hRegs : t.rest = s.rest)
    (hGran : xlt.gran = s.xlt.gran) (hUe : xlt.gtUe = s.xlt.gtUe) (hAcks : xlt.acks = s.xlt.acks)
    (hInv : xlt.invWord = s.xlt.invWord) (hDrawn : xlt.withdrawing = s.xlt.withdrawing)
    (hPart : xlt.partKeys = s.xlt.partKeys) (hRegion : xlt.regionKeys = s.xlt.regionKeys)
    (hEn : evt.msixEn = s.evt.msixEn) (hMask : evt.msixMask = s.evt.msixMask) (hVfs : evt.numVfs = s.evt.numVfs)
    (hMse : evt.vfMse = s.evt.vfMse) :
    (State.mk t.regs s.cap s.capFrac s.heldLow s.ticks freeCtr s.fuses s.pwr s.clk pool xlt evt s.press s.seals
      s.nextSeal s.log s.rings s.hatch s.ras s.dsp s.prs s.dry s.tns s.pressIn s.leases rpr s.fab s.trust s.tst fabOut
      hostOut s.pending).rest = s.rest := by
  have hReg := congrArg Prod.fst hRegs
  simp only [State.rest, Prod.mk.injEq] at hReg ⊢
  exact ⟨hReg, by rw [hGran, hUe, hAcks, hInv, hDrawn, hPart, hRegion, hEn, hMask, hVfs, hMse]⟩

@[simp] theorem State.rest_setReg {k : Nat} (h : accKey k = true) (s : State) (v : W64) :
    (s.setReg k v).rest = s.rest := by
  refine Prod.ext (funext fun j => ?_) rfl
  simp only [State.rest]
  split
  · rfl
  · exact State.reg_setReg_ne s v fun e => by simp_all

@[simp] theorem State.rest_put {f : Fld} (h : accKey f.key = true) (s : State) (x : Nat) : (s.put f x).rest = s.rest :=
  State.rest_setReg h s _

@[simp] theorem State.rest_bump {f : Fld} (h : accKey f.key = true) (s : State) (x : Nat) : (s.bump f x).rest = s.rest :=
  State.rest_put h s _

@[simp] theorem State.rest_orBits {f : Fld} (h : accKey f.key = true) (s : State) (x : Nat) :
    (s.orBits f x).rest = s.rest :=
  State.rest_put h s _

@[simp] theorem State.rest_draw (s : State) : s.draw.rest = s.rest := rfl

@[simp] theorem State.rest_host (s : State) (o : HostOut) : (s.host o).rest = s.rest := rfl

@[simp] theorem State.rest_send (s : State) (k : Nat) (p : Packet) : (s.send k p).rest = s.rest := rfl

theorem State.rest_ite (c : Prop) [Decidable c] (a b : State) : (if c then a else b).rest = if c then a.rest else b.rest :=
  apply_ite State.rest c a b

theorem State.rest_each {α : Type} (s : State) (l : List α) (f : α → State → State)
    (h : ∀ a ∈ l, ∀ t, (f a t).rest = t.rest) : (s.each l f).rest = s.rest :=
  State.each_eq s State.rest l f fun a ha t => h a ha t

end Sys2Proof.Machine
end
section
/-! SUPPORT. The rest of the state is left by the delivery of an event, and by what a line access counts and records. -/

namespace Sys2Proof.Machine

@[simp] theorem sendMsix_rest (fn vec : Nat) (s : State) : (sendMsix fn vec s).rest = s.rest := by
  have hKey : accKey (msixPba fn).key = true := by
    unfold msixPba
    split
    · decide
    · simp [accKey, R.PW_PBA]
      omega
  simp [sendMsix, State.rest_ite, hKey]

@[simp] theorem raiseAlert_rest (src : Nat) (s : State) : (raiseAlert src s).rest = s.rest := by
  simp [raiseAlert]

@[simp] theorem offerSteward_rest (e : Event) (vec : Nat) (s : State) : (offerSteward e vec s).rest = s.rest := by
  simp (decide := true) [offerSteward, State.rest_ite]

@[simp] theorem sendEventPackets_rest (e : Event) (s : State) : (sendEventPackets e s).rest = s.rest := by
  refine State.rest_each _ _ _ fun k _ t => ?_
  simp (decide := true) [State.rest_ite]

theorem accKey_of_evtKey {k : Nat} (h : evtKey k = true) : accKey k = true := by simp [accKey, h]

@[simp] theorem raiseNode_rest {e : Event} (h : e.src < 256) (s : State) : (raiseNode e s).rest = s.rest := by
  have hKey := accKey_of_evtKey (evtKey_occurred h)
  simp [raiseNode, State.rest_ite, hKey]

@[simp] theorem repairAdd_rest (type flags serial loc : Nat) (s : State) :
    (repairAdd type flags serial loc s).rest = s.rest := by
  simp (decide := true) [repairAdd, State.rest_ite]

/-- The registers of a memory channel are in `accKey`. -/
theorem accKey_of_channel {c o : Nat} (hc : c < 24) (ho : o < 0x10000) : accKey (0x100000 + 0x10000 * c + o) = true := by
  simp [accKey]
  omega

theorem errLog_rest {a : DramAddr} (ha : a.ch < 24) (outcome nsym dev : Nat) (s : State) :
    (errLog outcome nsym dev a s).rest = s.rest := by
  have hKey : accKey (R.MC_ERR_LOG a.ch) = true := by
    convert accKey_of_channel ha (o := 0x20) (by decide) using 2
    unfold R.MC_ERR_LOG
    omega
  simp [errLog, State.rest_ite, hKey]

theorem memEvent_rest {src : Nat} (h : src < 256) (d : Nat) (urgent : Bool) (a : DramAddr) (s : State) :
    (memEvent src d urgent a s).rest = s.rest := by
  simp [memEvent, h]

theorem retireDevice_rest {a : DramAddr} (ha : a.ch < 24) (d : Nat) (s : State) :
    (retireDevice a d s).rest = s.rest := by
  have hKey : accKey (R.MC_RETIRE a.ch) = true := by
    convert accKey_of_channel ha (o := 0x8) (by decide) using 2
    unfold R.MC_RETIRE
    omega
  simp (decide := true) [retireDevice, memEvent_rest, hKey]

theorem burstEvent_rest {a : DramAddr} (ha : a.ch < 24) (d : Nat) (s : State) : (burstEvent a d s).rest = s.rest := by
  unfold burstEvent
  dsimp only
  (repeat' split) <;> simp (decide := true) [retireDevice_rest ha, memEvent_rest]

theorem rowFault_rest (r : RowRepair) (s : State) : (rowFault r s).rest = s.rest := by
  simp (decide := true) [rowFault, State.rest_ite, memEvent_rest]

theorem rowError_rest (a : DramAddr) (d : Nat) (s : State) : (rowError a d s).rest = s.rest := by
  simp [rowError, State.rest_ite, rowFault_rest]

theorem xorFold_lt (h : Nat) : xorFold h < 8 :=
  List.foldlRecOn (motive := (· < 8)) _ _ (by decide) fun b hb i _ =>
    Nat.xor_lt_two_pow (n := 3) hb (Nat.mod_lt _ (by decide))

theorem channelOf_lt (ppa : Nat) : channelOf ppa < 24 := by
  have hx : (ppa / 256 % 8) ^^^ xorFold (ppa / 2048) < 8 :=
    Nat.xor_lt_two_pow (n := 3) (Nat.mod_lt _ (by decide)) (xorFold_lt _)
  unfold channelOf
  omega

theorem placeLine_ch_lt (s : State) (line : Nat) : (s.placeLine line).ch < 24 := by
  unfold State.placeLine
  split <;> exact channelOf_lt _

theorem placeLine_sub_lt (s : State) (line : Nat) : (s.placeLine line).sub < 2 := by
  unfold State.placeLine
  split <;> exact Nat.mod_lt _ (by decide)

theorem devErrors_lt {e : List SymErr} {x : Nat × Nat} (h : x ∈ devErrors e) : x.1 < 10 := by
  simp only [devErrors, List.mem_filter, List.mem_map, List.mem_range] at h
  obtain ⟨⟨d, hd, rfl⟩, -⟩ := h
  exact hd

theorem noteCorrected_rest {a : DramAddr} (hCh : a.ch < 24) (hSub : a.sub < 2) (outcome : Nat) (e : List SymErr)
    (s : State) : (noteCorrected outcome a e s).rest = s.rest := by
  have hCe : accKey (R.MC_CE a.ch) = true := by
    convert accKey_of_channel hCh (o := 0x18) (by decide) using 2
    unfold R.MC_CE
    omega
  have hDev : ∀ x ∈ devErrors e, accKey (R.MC_DEV a.ch (devIndex a x.1)) = true := fun x hx => by
    have := devErrors_lt hx
    convert accKey_of_channel hCh (o := 0x100 + 4 * devIndex a x.1) (by unfold devIndex; omega) using 2
    unfold R.MC_DEV
    omega
  unfold noteCorrected
  extract_lets ds s1 s2 s3 most ties dev s4 last due pool s5 s6
  have h1 : s1.rest = s.rest := State.rest_bump hCe s 1
  have h2 : s2.rest = s1.rest := State.rest_each _ _ _ fun x hx t => State.rest_bump (hDev x hx) t _
  have h3 : s3.rest = s2.rest :=
    State.rest_each _ _ _ fun x hx t => State.rest_bump (hDev x (List.mem_filter.mp hx).1) t _
  have h4 : s4.rest = s3.rest := errLog_rest hCh _ _ _ _
  have h5 : s5.rest = s4.rest := by
    simp only [s5, pool]
    split
    · rw [memEvent_rest (by decide)]
      simp
    · rfl
  have h6 : s6.rest = s5.rest := State.rest_each _ _ _ fun x _ t => burstEvent_rest hCh x.1 t
  rw [State.rest_each _ _ _ fun x _ t => rowError_rest a x.1 t, h6, h5, h4, h3, h2, h1]

@[simp] theorem codewordRead_rest (isMeta : Bool) (line : Nat) (s : State) :
    (codewordRead isMeta line s).2.rest = s.rest := by
  have hCh := placeLine_ch_lt s line
  have hSub := placeLine_sub_lt s line
  unfold codewordRead
  dsimp only
  split
  · rfl
  · split
    · split <;> simp (decide := true) [memEvent_rest, errLog_rest hCh]
    · rfl
    · rw [noteCorrected_rest hCh hSub]
      split <;> simp

@[simp] theorem noteL2Ue_rest (g : Nat) (s : State) : (noteL2Ue g s).rest = s.rest := by
  simp (decide := true) [noteL2Ue, State.rest_ite]

@[simp] theorem hierarchy_rest (line : Nat) (s : State) : (hierarchy line s).2.rest = s.rest := by
  unfold hierarchy
  grind [noteL2Ue_rest, codewordRead_rest]

@[simp] theorem readServed_rest (line : Nat) (s : State) : (readServed line s).2.rest = s.rest := by
  unfold readServed
  grind [hierarchy_rest, codewordRead_rest]

@[simp] theorem storeLine_rest (line : Nat) (data : List Byte) (s : State) : (storeLine line data s).rest = s.rest := by
  simp [storeLine, setValid, openGranule, cleanL1, State.rest_ite]

@[simp] theorem writeServed_rest (line : Nat) (data : List Byte) (s : State) :
    (writeServed line data s).2.rest = s.rest := by
  unfold writeServed
  grind [hierarchy_rest, storeLine_rest]

@[simp] theorem partServed_rest (line mask : Nat) (data : List Byte) (s : State) :
    (partServed line mask data s).2.rest = s.rest := by
  unfold partServed
  grind [storeLine_rest, readServed_rest]

@[simp] theorem lineOp_rest (line : Nat) (op : MemOp) (s : State) : (lineOp line op s).2.rest = s.rest := by
  unfold lineOp opServed
  split
  · rfl
  · rfl
  · split <;> simp

@[simp] theorem readAt_rest (ppa n : Nat) (s : State) : (readAt ppa n s).2.rest = s.rest := by
  unfold readAt
  grind [lineOp_rest]

/-- With the next three, an update of one part, in the form that `grind` uses. -/
theorem State.rest_vio (s : State) (v : Tab VioRec) : ({ s with xlt := { s.xlt with vio := v } } : State).rest = s.rest :=
  rfl

theorem State.rest_ctxC (s : State) (l : List CachedCtx) :
    ({ s with xlt := { s.xlt with ctxC := l } } : State).rest = s.rest :=
  rfl

theorem State.rest_walkC (s : State) (l : List CachedWalk) :
    ({ s with xlt := { s.xlt with walkC := l } } : State).rest = s.rest :=
  rfl

theorem State.rest_leafC (s : State) (l : List CachedLeaf) :
    ({ s with xlt := { s.xlt with leafC := l } } : State).rest = s.rest :=
  rfl

@[simp] theorem recordViolation_rest (p : Nat) (kind : Viol) (op va cid : Nat) (src : Src) (s : State) :
    (recordViolation p kind op va cid src s).rest = s.rest :=
  State.rest_vio s _

@[simp] theorem cacheLook_rest {α : Type} (o : Option α) (s : State) : (cacheLook o s).2.rest = s.rest := by
  unfold cacheLook
  split
  · rfl
  · split
    · rfl
    · simp (decide := true) [State.rest_ite]

@[simp] theorem contextEntry_rest (cid : Nat) (s : State) : (contextEntry cid s).2.rest = s.rest := by
  unfold contextEntry
  grind [State.rest_ctxC, cacheLook_rest, readAt_rest]

@[simp] theorem walk_rest (p cid va lvl t : Nat) (s : State) : (walk p cid va lvl t s).2.rest = s.rest := by
  induction lvl generalizing t s with
  | zero => rfl
  | succ lvl ih =>
    unfold walk
    grind [State.rest_walkC, readAt_rest]

@[simp] theorem leafOf_rest (ce : CachedCtx) (va : Nat) (s : State) : (leafOf ce va s).2.rest = s.rest := by
  unfold leafOf
  dsimp only
  split <;> simp <;> grind [State.rest_leafC, cacheLook_rest, walk_rest]

@[simp] theorem translateBy_rest (own : Option Nat) (src : Src) (cid va : Nat) (op : AccOp) (s : State) :
    (translateBy own src cid va op s).2.rest = s.rest := by
  unfold translateBy
  grind [contextEntry_rest, leafOf_rest]

@[simp] theorem translate_rest (src : Src) (cid va : Nat) (op : AccOp) (s : State) :
    (translate src cid va op s).2.rest = s.rest :=
  translateBy_rest none src cid va op s

@[simp] theorem countAccess_rest (src : Src) (cid : Nat) (op : AccOp) (rs : AccRes × State) :
    (countAccess src cid op rs).2.rest = rs.2.rest := by
  unfold countAccess
  split
  · rfl
  · simp only
    split <;> simp

theorem foldl_snd_rest {α β : Type} (l : List α) (f : β × State → α → β × State)
    (h : ∀ b a, (f b a).2.rest = b.2.rest) (b : β × State) : (l.foldl f b).2.rest = b.2.rest :=
  List.foldlRecOn (motive := fun c => c.2.rest = b.2.rest) l f rfl fun c hc a _ => (h c a).trans hc

theorem readPiece_rest (src : Src) (cid : Nat) (pc : Nat × Nat) (rs : AccRes × State) :
    (readPiece src cid pc rs).2.rest = rs.2.rest := by
  unfold readPiece
  grind [translate_rest, readAt_rest]

@[simp] theorem readVA_rest (src : Src) (cid va n : Nat) (s : State) : (readVA src cid va n s).2.rest = s.rest := by
  rw [readVA, countAccess_rest, foldl_snd_rest _ _ fun b a => readPiece_rest src cid a b]

theorem writePiece_rest (own : Option Nat) (src : Src) (cid base : Nat) (data : List Byte) (pc : Nat × Nat)
    (rs : AccRes × State) : (writePiece own src cid base data pc rs).2.rest = rs.2.rest := by
  unfold writePiece
  grind [translateBy_rest, lineOp_rest]

@[simp] theorem writeVABy_rest (own : Option Nat) (src : Src) (cid va : Nat) (data : List Byte) (s : State) :
    (writeVABy own src cid va data s).2.rest = s.rest := by
  rw [writeVABy, countAccess_rest, foldl_snd_rest _ _ fun b a => writePiece_rest own src cid va data a b]

@[simp] theorem writeVA_rest (src : Src) (cid va : Nat) (data : List Byte) (s : State) :
    (writeVA src cid va data s).2.rest = s.rest :=
  writeVABy_rest none src cid va data s

@[simp] theorem accKey_pwEvtQStatus (p : Nat) : accKey (R.PW_EVT_Q_STATUS p) = true := by
  simp [accKey, R.PW_EVT_Q_STATUS]
  omega

@[simp] theorem accKey_pwEvtQTail (p : Nat) : accKey (R.PW_EVT_Q_TAIL p) = true := by
  simp [accKey, R.PW_EVT_Q_TAIL]
  omega

@[simp] theorem partQFault_rest (p : Nat) (s : State) : (partQFault p s).rest = s.rest := by
  simp [partQFault]

@[simp] theorem offerPart_rest (p : Nat) (e : Event) (s : State) : (offerPart p e s).rest = s.rest := by
  simp [offerPart, State.rest_ite]

@[simp] theorem raisePart_rest {e : Event} (h : e.src < 256) (p : Nat) (s : State) :
    (raisePart p e s).rest = s.rest := by
  simp [raisePart, State.rest_ite, h]

@[simp] theorem raiseHolder_rest {src : Nat} (h : src < 256) (holder : Option Nat) (a0 a1 a2 : Nat) (s : State) :
    (raiseHolder holder src a0 a1 a2 s).rest = s.rest := by
  unfold raiseHolder
  split <;> simp [h]

end Sys2Proof.Machine
end

section
/-! SUPPORT. Fields after the register updates: bits, saturating counters, and updates of other parts. -/

namespace Sys2Proof.Machine

variable {f g : Fld}

@[simp] theorem State.get_mk (t : State) {cap : Tab Nat} {capFrac : Option Nat} {heldLow : Tab Nat} {ticks : Nat}
    {freeCtr : Nat} {fuses : Fuses} {pwr : PwrState} {clk : ClkState} {pool : PoolState} {xlt : XltState}
    {evt : EvtState} {press : PressPins} {seals : List Seal} {nextSeal : Nat} {log : LogState} {rings : RingState}
    {hatch : HatchState} {ras : RasState} {dsp : DispState} {prs : PrsState} {dry : DryState} {tns : TnsState}
    {pressIn : PressIn} {leases : Leases} {rpr : RprState} {fab : FabState} {trust : TrustState} {tst : TestState}
    {fabOut : List (Nat × Packet)} {hostOut : List HostOut} {pending : List Instr} :
    (State.mk t.regs cap capFrac heldLow ticks freeCtr fuses pwr clk pool xlt evt press seals nextSeal log rings hatch ras
      dsp prs dry tns pressIn leases rpr fab trust tst fabOut hostOut pending).get f = t.get f :=
  (rfl)

@[simp] theorem State.on_mk (t : State) {cap : Tab Nat} {capFrac : Option Nat} {heldLow : Tab Nat} {ticks : Nat}
    {freeCtr : Nat} {fuses : Fuses} {pwr : PwrState} {clk : ClkState} {pool : PoolState} {xlt : XltState}
    {evt : EvtState} {press : PressPins} {seals : List Seal} {nextSeal : Nat} {log : LogState} {rings : RingState}
    {hatch : HatchState} {ras : RasState} {dsp : DispState} {prs : PrsState} {dry : DryState} {tns : TnsState}
    {pressIn : PressIn} {leases : Leases} {rpr : RprState} {fab : FabState} {trust : TrustState} {tst : TestState}
    {fabOut : List (Nat × Packet)} {hostOut : List HostOut} {pending : List Instr} :
    (State.mk t.regs cap capFrac heldLow ticks freeCtr fuses pwr clk pool xlt evt press seals nextSeal log rings hatch ras
      dsp prs dry tns pressIn leases rpr fab trust tst fabOut hostOut pending).on f = t.on f :=
  (rfl)

theorem State.on_put_self (s : State) (x : Nat) (h : f.ok) : (s.put f x).on f = (x % f.size == 1) := by
  rw [State.on, State.get_put_self s f x h]

theorem State.on_put_key (s : State) (x : Nat) (h : g.key ≠ f.key) : (s.put f x).on g = s.on g := by
  rw [State.on, State.get_put_key s f g x h, State.on]

theorem State.get_bump_self (s : State) (k : Nat) (h : f.ok) :
    (s.bump f k).get f = min (f.size - 1) (s.get f + k) := by
  have hSat : satAt (f.size - 1) (s.get f + k) = min (f.size - 1) (s.get f + k) := by
    unfold satAt
    split <;> omega
  have hPos := Nat.two_pow_pos (f.hi + 1 - f.lo)
  rw [State.bump, State.get_put_self s f _ h, hSat]
  exact Nat.mod_eq_of_lt (by unfold Fld.size at *; omega)

theorem b2n_lt (b : Bool) : b2n b < 2 := by cases b <;> decide

theorem on_of_get_eq {s t : State} (h : t.get f = s.get f) : t.on f = s.on f := by simp only [State.on, h]

/-- A window's registers are no access's but for its event queue's and its pending bits. -/
theorem accKey_window {k : Nat} (h : 0x100000000 ≤ k) (hOff : k % 0x10000 ∉ [0xb800, 0xc00c, 0xc014]) :
    accKey k = false := by
  have hOther : k ∉ [R.MEMG_POISON, R.MEMG_PPR_STATUS, R.XLT_STATUS, R.RPR_STATUS] := by
    simp only [R.MEMG_POISON, R.MEMG_PPR_STATUS, R.XLT_STATUS, R.RPR_STATUS, List.mem_cons, List.not_mem_nil, or_false]
    omega
  simp only [accKey, evtKey, List.contains_eq_mem, hOff, hOther]
  simp
  omega

end Sys2Proof.Machine
end
section
/-! SUPPORT. Granule table repair, window invalidations, their acknowledgements and the context base. -/

namespace Sys2Proof.Machine

theorem takeAck_p {p : Nat} {l rest : List InvAck} {a : InvAck} (h : takeAck p l = some (a, rest)) : a.p = p := by
  induction l generalizing rest with
  | nil => simp [takeAck] at h
  | cons b l ih =>
    rw [takeAck] at h
    split at h
    next hp => simp_all
    next =>
      obtain ⟨⟨c, r⟩, hc, hEq⟩ := Option.map_eq_some_iff.mp h
      simp only [Prod.mk.injEq] at hEq
      exact ih (hEq.1 ▸ hc)

theorem InvDesc.part_lt (d : InvDesc) : d.cid / 4096 < 16 := by
  have : d.cid < 65536 := Nat.mod_lt _ (by decide)
  omega

theorem applyInvalidation_regs (d : InvDesc) (s : State) : (applyInvalidation d s).regs = s.regs := by
  unfold applyInvalidation
  dsimp only
  (repeat' split) <;> rfl

theorem applyInvalidation_acks (d : InvDesc) (s : State) : (applyInvalidation d s).xlt.acks = s.xlt.acks := by
  unfold applyInvalidation
  dsimp only
  (repeat' split) <;> rfl

theorem takeEpoch_get {f g : Fld} (h : g.key ≠ f.key) (epoch : Nat) (s : State) :
    (takeEpoch f epoch s).get g = s.get g := by
  unfold takeEpoch
  split
  · exact State.get_put_key _ _ _ _ h
  · rfl

theorem takeEpoch_xlt (f : Fld) (epoch : Nat) (s : State) : (takeEpoch f epoch s).xlt = s.xlt := by
  unfold takeEpoch
  split <;> rfl

/-- A new invalidation joins the queue, whatever its acknowledgement says. -/
theorem acceptInvalidation_acks (fr : InvFrom) (src : Src) (entitled : Bool) (d : InvDesc) (s : State) :
    (acceptInvalidation fr src entitled d s).xlt.acks.length = s.xlt.acks.length + 1 := by
  unfold acceptInvalidation
  dsimp only
  split_ifs
  · simp [recordViolation]
  · simp
  · simp
  · simp [takeEpoch_xlt, applyInvalidation_acks]

/-- It leaves every register but its partition's epoch. -/
theorem acceptInvalidation_get (fr : InvFrom) (src : Src) (entitled : Bool) (d : InvDesc) (s : State) {f : Fld}
    (hKey : ∀ i < 16, f.key ≠ R.XLT_EPOCH_CUR i) : (acceptInvalidation fr src entitled d s).get f = s.get f := by
  unfold acceptInvalidation
  dsimp only
  split_ifs
  · rfl
  · rfl
  · rfl
  · rw [State.get_mk, takeEpoch_get (hKey _ d.part_lt)]
    simp only [State.get, State.reg, applyInvalidation_regs]

theorem giveEpoch_acks (c : Prop) [Decidable c] (f : Fld) (epoch : Nat) (s : State) :
    (if c then takeEpoch f epoch s else s).xlt.acks = s.xlt.acks := by
  split
  · rw [takeEpoch_xlt]
  · rfl

theorem giveEpoch_get (c : Prop) [Decidable c] {f g : Fld} (h : g.key ≠ f.key) (epoch : Nat) (s : State) :
    (if c then takeEpoch f epoch s else s).get g = s.get g := by
  split
  · exact takeEpoch_get h epoch s
  · rfl

theorem accKey_pwInv {n : Nat} : accKey (R.PW_INV_ACK n) = false ∧ accKey (R.PW_INV_STATUS n) = false := by
  unfold R.PW_INV_ACK R.PW_INV_STATUS
  exact ⟨accKey_window (by omega) (by simp), accKey_window (by omega) (by simp)⟩

/-- Settles O31: an entry's mark, the window's queue of invalidations and its acknowledgement, and the context base. -/
theorem translationCommands : Obligations.TranslationCommands := by
  refine ⟨fun s x => ⟨_, rfl, NSet.contains_ins_self _ _, rfl, rfl⟩, fun s x hUe => ⟨_, if_pos hUe, ?_⟩,
    fun s n w3 hWindow hFull => ⟨_, if_pos hWindow, ?_⟩, fun s n w3 hWindow hRoom hAcks => ⟨_, if_pos hWindow, ?_⟩,
    fun s n a rest hTake hFrom hPending => ?_, fun s n v hWindow => ⟨_, if_pos hWindow, ?_⟩⟩
  · have hSrc : Ev.XLT_GT_UE < 256 := by decide
    refine ⟨?_, ?_⟩
    · rw [raiseNode_xlt _ _ hSrc]
      exact NSet.contains_del_self _ _
    · rw [raiseNode_get _ _ _ hSrc (by decide), State.get_bump_self _ _ (by decide), State.get_mk]
  · rw [windowInvalidate, if_pos hFull]
    exact ⟨State.on_put_self _ _ (by simp [Fld.ok]), rfl⟩
  · rw [windowInvalidate, if_neg (by omega)]
    refine ⟨?_, ?_⟩
    · rw [acceptInvalidation_get _ _ _ _ _ fun i hi => by simp only [R.PW_INV_STATUS, R.XLT_EPOCH_CUR]; omega, State.incr,
        State.get_put_self _ _ _ (by simp [Fld.ok])]
      exact Nat.mod_eq_of_lt (show _ < 2 ^ 5 by omega)
    · rw [acceptInvalidation_acks, State.incr_xlt, hAcks, List.length_nil]
  · have hPart := takeAck_p hTake
    refine ⟨_, show execInvalidationAck n s = _ by rw [execInvalidationAck, hTake], ?_⟩
    have hEpoch : (F.PW_INV_STATUS_PENDING n).key ≠ (F.XLT_EPOCH_ACK_EPOCH n).key := by
      simp only [R.PW_INV_STATUS, R.XLT_EPOCH_ACK]
      omega
    have hSrc : Ev.INV_ACK < 256 := by decide
    obtain ⟨hAck, hStatus⟩ := accKey_pwInv (n := n)
    simp only [giveInvAck, hFrom, hPart]
    refine ⟨?_, ?_, ?_⟩
    · rw [acks_of_rest (raisePart_rest hSrc _ _)]
      simp only [State.put_xlt, giveEpoch_acks]
    · rw [get_of_rest (raisePart_rest hSrc _ _) hAck]
      simp [State.get_put_of, State.get_put_self, Fld.ok, Fld.size]
    · rw [get_of_rest (raisePart_rest hSrc _ _) hStatus]
      have hLt := s.get_lt (F.PW_INV_STATUS_PENDING n)
      simp [State.get_put_of, State.get_put_self, Fld.ok, giveEpoch_get _ hEpoch]
      exact Nat.mod_eq_of_lt (by omega)
  · simp [xltCtxWrite, dropCaches, State.on, State.get_put_of, State.get_put_self, Fld.ok, Fld.size, bits, bit]

end Sys2Proof.Machine
end

section
/-! SUPPORT. One part at a time: what a footprint lemma says of a part that no argument of it names. -/

namespace Sys2Proof.Machine

variable {s t : State}

/-- Every part but these, and any register. -/
def allBut (l : List Comp) : Frame where
  parts := [.captures, .heldLow, .ticks, .free, .fuses, .power, .clocks, .bytes, .memory, .translation, .events, .pins,
    .seals, .log, .rings, .hatch, .raster, .display, .path, .drypoint, .tansy, .inputs, .leases, .repair, .fabric, .trust,
    .test, .sent, .toHost, .queue].filter (fun x => !l.contains x)
  regs := none

/-- An operation whose footprint is within `allBut l` leaves each part of `l`. -/
theorem same_of_out {l : List Comp} (x : Comp) (h : t.out (allBut l).foot = s.out (allBut l).foot)
    (hx : x ∈ l := by simp) : x.same s t :=
  (State.out_eq_iff.mp h).part x fun hPart => by simp [Frame.foot, allBut, hx] at hPart

theorem Foot.EvRegs.any {f : Frame} (h : f.regs = none := by rfl) : f.foot.EvRegs := (Foot.PevRegs.any h).toEvRegs

theorem Foot.AccRegs.any {f : Frame} (h : f.regs = none := by rfl) : f.foot.AccRegs := (Foot.PevRegs.any h).toAccRegs

end Sys2Proof.Machine
end
section
/-! SUPPORT. The registers that moving a lease, ending a page or halting the engine leave. -/

namespace Sys2Proof.Machine

/-- The registers that the press, a moved lease and a record of the log may write. -/
def workKey (k : Nat) : Bool := accKey k || [R.DRY_STATUS, R.DSP_DISPLACED, R.PRS_STATUS, R.PRS_HALTS].contains k

/-- The registers of a state but for those. -/
def State.kept (s : State) : Nat → W64 := fun k => if workKey k then 0 else s.reg k

variable {s t : State}

theorem get_of_kept (h : t.kept = s.kept) {f : Fld} (hk : workKey f.key = false) : t.get f = s.get f := by
  have hReg : t.reg f.key = s.reg f.key := by simpa [State.kept, hk] using congrFun h f.key
  simp only [State.get, hReg]

theorem kept_of_rest (h : t.rest = s.rest) : t.kept = s.kept := by
  funext k
  simp only [State.kept, workKey]
  by_cases hAcc : accKey k = true
  · simp [hAcc]
  · rw [reg_of_rest h (by simpa using hAcc)]

@[simp] theorem State.kept_mk (t : State) {cap : Tab Nat} {capFrac : Option Nat} {heldLow : Tab Nat} {ticks : Nat}
    {freeCtr : Nat} {fuses : Fuses} {pwr : PwrState} {clk : ClkState} {pool : PoolState} {xlt : XltState}
    {evt : EvtState} {press : PressPins} {seals : List Seal} {nextSeal : Nat} {log : LogState} {rings : RingState}
    {hatch : HatchState} {ras : RasState} {dsp : DispState} {prs : PrsState} {dry : DryState} {tns : TnsState}
    {pressIn : PressIn} {leases : Leases} {rpr : RprState} {fab : FabState} {trust : TrustState} {tst : TestState}
    {fabOut : List (Nat × Packet)} {hostOut : List HostOut} {pending : List Instr} :
    (State.mk t.regs cap capFrac heldLow ticks freeCtr fuses pwr clk pool xlt evt press seals nextSeal log rings hatch ras
      dsp prs dry tns pressIn leases rpr fab trust tst fabOut hostOut pending).kept = t.kept :=
  (rfl)

@[simp] theorem State.kept_put {f : Fld} (h : workKey f.key = true) (s : State) (x : Nat) : (s.put f x).kept = s.kept := by
  funext k
  simp only [State.kept]
  split
  · rfl
  · exact State.reg_put_ne s f x fun e => by simp_all

@[simp] theorem State.kept_bump {f : Fld} (h : workKey f.key = true) (s : State) (x : Nat) :
    (s.bump f x).kept = s.kept :=
  State.kept_put h s _

theorem State.kept_ite (c : Prop) [Decidable c] (a b : State) :
    (if c then a else b).kept = if c then a.kept else b.kept :=
  apply_ite State.kept c a b

@[simp] theorem State.kept_each {α : Type} (s : State) (l : List α) (f : α → State → State)
    (h : ∀ a t, (f a t).kept = t.kept) : (s.each l f).kept = s.kept :=
  State.each_eq s State.kept l f fun a _ t => h a t

@[simp] theorem raiseNode_kept {e : Event} (h : e.src < 256) (s : State) : (raiseNode e s).kept = s.kept :=
  kept_of_rest (raiseNode_rest h s)

@[simp] theorem raiseHolder_kept {src : Nat} (h : src < 256) (holder : Option Nat) (a0 a1 a2 : Nat) (s : State) :
    (raiseHolder holder src a0 a1 a2 s).kept = s.kept :=
  kept_of_rest (raiseHolder_rest h holder a0 a1 a2 s)

@[simp] theorem checkNearFull_kept (s : State) : (checkNearFull s).kept = s.kept := by
  simp (decide := true) [checkNearFull, logEvent, State.kept_ite]

@[simp] theorem logSubmit_kept (cls : LogClass) (urgent : Bool) (type : Nat) (merged : Bool) (subject : Nat)
    (payload : List Byte) (resv : Option Nat) (cont : LogCont) (s : State) :
    (logSubmit cls urgent type merged subject payload resv cont s).kept = s.kept := by
  simp (decide := true) [logSubmit, logWaits, logEvent, State.kept_ite]

@[simp] theorem logOrdinary_kept (type subject : Nat) (payload : List Byte) (cont : LogCont) (s : State) :
    (logOrdinary type subject payload cont s).kept = s.kept :=
  logSubmit_kept ..

@[simp] theorem tallyDone_kept (r t status detail : Nat) (s : State) : (tallyDone r t status detail s).kept = s.kept := by
  unfold tallyDone onProg
  split <;> simp [State.setProg, State.setRing]

@[simp] theorem pageTally_kept (p : Page) (status detail : Nat) (s : State) :
    (pageTally p status detail s).kept = s.kept := by
  unfold pageTally
  split <;> simp

@[simp] theorem removePage_kept (id : Nat) (s : State) : (removePage id s).kept = s.kept := by
  unfold removePage
  split <;> simp [dropSeal]

@[simp] theorem dropPage_kept (id : Nat) (s : State) : (dropPage id s).kept = s.kept := by
  unfold dropPage
  split
  · rfl
  · simp only [pageTally_kept, removePage_kept]
    split <;> simp [releaseReservation]

@[simp] theorem dropHashing_kept (id : Nat) (s : State) : (dropHashing id s).kept = s.kept := by
  unfold dropHashing
  split <;> simp [dropSeal]

@[simp] theorem dropPages_kept (f : Page → Bool) (s : State) : (dropPages f s).kept = s.kept := by
  simp [dropPages]

@[simp] theorem dropQueuedJobs_kept (n : Nat) (s : State) : (dropQueuedJobs n s).kept = s.kept := by
  simp [dropQueuedJobs, State.setRasQueue]

@[simp] theorem lockLost_kept (s : State) : (lockLost s).kept = s.kept := by
  simp (decide := true) [lockLost, unlock, dryEvent, State.kept_ite]

@[simp] theorem beamsOff_kept (s : State) : (beamsOff s).kept = s.kept := by
  simp [beamsOff]

@[simp] theorem drive_kept (s : State) : (drive s).kept = s.kept := by
  simp [drive, State.kept_ite]

@[simp] theorem enterEng_kept (st : Nat) (s : State) : (enterEng st s).kept = s.kept := by
  simp (decide := true) [enterEng, startHunting, State.kept_ite]

@[simp] theorem recordPage_kept (sp : SheetPage) (o : Nat) (requeue : Bool) (s : State) :
    (recordPage sp o requeue s).kept = s.kept := by
  simp [recordPage, logIssuance, State.kept_ite]

@[simp] theorem interruptPath_kept (s : State) : (interruptPath s).kept = s.kept := by
  simp [interruptPath, unrequeue, onPage]

@[simp] theorem halt_kept (cause : Nat) (s : State) : (halt cause s).kept = s.kept := by
  simp (decide := true) [halt, prsEvent, bandLost, State.kept_ite]

@[simp] theorem pressMoved_kept (old new : Option Nat) (s : State) : (pressMoved old new s).kept = s.kept := by
  unfold pressMoved
  split <;> simp [State.kept_ite]

@[simp] theorem capFlush_kept (s : State) : (capFlush s).kept = s.kept := by
  unfold capFlush
  split
  · rfl
  · rw [State.kept_mk]
    refine List.foldlRecOn (motive := fun x : List (Nat × Nat) × Option (Nat × Nat) × State => x.2.2.kept = s.kept) _ _ rfl fun x hx w _ => ?_
    dsimp only
    split
    · exact hx
    · exact (kept_of_rest (writeVA_rest _ _ _ _ _)).trans hx

@[simp] theorem capNext_kept (s : State) : (capNext s).kept = s.kept := by
  simp [capNext, State.kept_ite]

@[simp] theorem capEnd_kept (status detail : Nat) (s : State) : (capEnd status detail s).kept = s.kept := by
  unfold capEnd
  dsimp only
  split <;> simp

@[simp] theorem capLeaseMoved_kept (s : State) : (capLeaseMoved s).kept = s.kept := by
  simp [capLeaseMoved]

@[simp] theorem releaseCommit_kept (c : Commit) (s : State) : (releaseCommit c s).kept = s.kept := by
  unfold releaseCommit
  dsimp only
  split <;> split <;> (try split) <;> simp [dropSeal, releaseReservation]

@[simp] theorem displaceFrame_kept (s : State) : (displaceFrame s).kept = s.kept := by
  unfold displaceFrame
  split <;> simp (decide := true)

@[simp] theorem proofMoved_kept (s : State) : (proofMoved s).kept = s.kept := by
  unfold proofMoved endShownSeal displaceAll
  dsimp only
  split <;> simp

@[simp] theorem setLease_kept (res : Nat) (new : Option Nat) (cont : LogCont) (s : State) :
    (setLease res new cont s).kept = s.kept := by
  simp [setLease, State.kept_ite]

@[simp] theorem releaseLeases_kept (p : Nat) (s : State) : (releaseLeases p s).kept = s.kept := by
  simp [releaseLeases, State.kept_ite]

end Sys2Proof.Machine
end
section
/-! SUPPORT. The mailbox, SPDM sessions, interfaces and streams. -/

namespace Sys2Proof.Machine

variable {s t : State}

/-- A two-bit entry of a packed word, cut to 32 bits. -/
theorem pack2_self {p : Nat} (h : p < 16) (w v : Nat) : pack2 w p v % 2 ^ 32 / 4 ^ p % 4 = v % 4 := by
  have hSplit : (2 : Nat) ^ 32 = 4 ^ p * 4 ^ (16 - p) := by rw [← pow_add, show p + (16 - p) = 16 by omega]; norm_num
  have hDvd : 4 ∣ 4 ^ (16 - p) := dvd_pow_self 4 (by omega)
  have hPack : pack2 w p v = 4 ^ p * (4 * (w / 4 ^ (p + 1)) + v % 4) + w % 4 ^ p := by
    rw [pack2, pow_succ]
    ring
  rw [hSplit, Nat.mod_mul_right_div_self, Nat.mod_mod_of_dvd _ hDvd, hPack,
    Nat.mul_add_div (by positivity), Nat.div_eq_of_lt (Nat.mod_lt _ (by positivity))]
  omega

theorem State.tdi_setTdi (s : State) {p : Nat} (h : p < 16) (v : Nat) : (s.setTdi p v).tdi p = v % 4 := by
  rw [State.tdi, State.setTdi, State.get_put_self _ _ _ (by decide)]
  exact pack2_self h _ v

@[simp] theorem State.lc_setTdi (s : State) (p q v : Nat) : (s.setTdi p v).lc q = s.lc q := by
  rw [State.lc, State.setTdi, State.get_put_key _ _ _ _ (by decide)]
  rfl

theorem tdi_of_kept (h : t.kept = s.kept) (p : Nat) : t.tdi p = s.tdi p := by
  rw [State.tdi, State.tdi, get_of_kept h (by decide)]

theorem partitionReset_tdi {p : Nat} (h : p < 16) (s : State) : (partitionReset p s).tdi p = 0 := by
  rw [partitionReset, tdi_of_kept (releaseLeases_kept _ _), State.tdi_setTdi _ h]

/-- A TDISP message over PF0's DOE acts on the state and is answered. -/
theorem tdisp_of_doe {id : W32} {x : Session} (hSession : s.session id.toNat = some x) (hDoe : x.transport = 0)
    (body : State → Bool × State) : tdisp id body s = .next (smSend (some x.id) (.answer (body s).1) (body s).2) := by
  simp [tdisp, hSession, hDoe]

theorem tdisp_elsewhere {id : W32} (h : (s.session id.toNat).all (fun x => x.transport != 0) = true)
    (body : State → Bool × State) : tdisp id body s = .next s := by
  unfold tdisp
  split
  · rfl
  · simp_all

theorem session_id {i : Nat} {x : Session} (h : s.session i = some x) : x.id = i := by
  simpa using List.find?_some h

/-- The sessions and the grant that a state has left of another's. -/
structure SessionsLeft (s t : State) : Prop where
  sessions : t.trust.sessions ⊆ s.trust.sessions
  grant : ∀ g, t.trust.grant = some g → s.trust.grant = some g

theorem SessionsLeft.of_trust (h : t.trust = s.trust) : SessionsLeft s t :=
  ⟨h ▸ List.Subset.refl _, fun _ hg => h ▸ hg⟩

theorem SessionsLeft.trans {u : State} (h : SessionsLeft s t) (g : SessionsLeft t u) : SessionsLeft s u :=
  ⟨List.Subset.trans g.sessions h.sessions, fun x hx => h.grant x (g.grant x hx)⟩

theorem endSessions_left (f : Session → Bool) (s : State) : SessionsLeft s (endSessions f s) :=
  ⟨List.filter_subset_self _, fun _ hg => (Option.filter_eq_some_iff.mp hg).1⟩

theorem linkDown_trust (k : Nat) (causes : List Cause) (s : State) :
    (linkDown k causes s).trust = (endLinkSessions k s).trust := by
  have hIdle : ∀ u : State, (campionIdle u).trust = u.trust := fun u =>
    same_of_out (l := [.trust]) .trust (@campionIdle_out _ .mem .any .any u)
  have hRoute : ∀ ps (u : State), (reroute k ps u).trust = u.trust := fun ps u =>
    same_of_out (l := [.trust]) .trust (@reroute_out _ .mem .any k ps u)
  have hState : ∀ u : State, (setLinkState k 7 u).trust = u.trust := fun u =>
    same_of_out (l := [.trust]) .trust (@setLinkState_out _ .any k 7 u)
  have hSecure : ∀ u : State, (setSecure k false u).trust = u.trust := fun u =>
    same_of_out (l := [.trust]) .trust (@setSecure_out _ .any k false u)
  simp (decide := true) [linkDown, hIdle, hRoute, raiseNode_trust, hSecure, hState, State.setLink]

theorem fullReset_trust (k : Nat) (s : State) : (fullReset k s).trust = s.trust :=
  same_of_out (l := [.trust]) .trust (@fullReset_out _ .mem .mem .mem .mem .any (fun _ => .any) k s)

theorem linkDown_left (k : Nat) (causes : List Cause) (s : State) : SessionsLeft s (linkDown k causes s) := by
  have hEnd := endSessions_left (fun x => x.transport == 3 && x.link == k) s
  refine hEnd.trans ⟨?_, ?_⟩ <;> rw [linkDown_trust]
  · exact List.Subset.refl _
  · exact fun _ hg => hg

theorem endLinkSession_left (k : Nat) (s : State) : SessionsLeft s (endLinkSession k s) := by
  by_cases hUp : s.linkState k = 5 ∨ s.linkState k = 6
  · rw [endLinkSession, if_pos hUp, resetLink, if_pos hUp]
    exact (linkDown_left k _ s).trans (.of_trust (fullReset_trust k _))
  · rw [endLinkSession, if_neg hUp]
    exact .of_trust rfl

theorem session_append (l : List Session) (x : Session) (h : l.find? (fun y => y.id == x.id) = none) :
    (l ++ [x]).find? (fun y => y.id == x.id) = some x := by
  simp [h]

theorem slice_length {α : Type} (d : α) (l : List α) (o n : Nat) : (slice d l o n).length = n := by simp [slice]

/-- A fragment of a SPDM message on its link, past the checks of a packet. -/
theorem spdmFragment_of_message {k : Fin 6} {p : Packet} (h : s.takesMessage k.val 2 1 p = true) :
    exec (.spdmFragment k p) s = .next (takeFragment k.val p (s.credited k.val p)) ∧
      ofLeBytes (slice 0 p.data 4 2) ≤ 240 := by
  obtain ⟨hOn, hOpc, hSub, hTy, hSrc, -⟩ := State.takesMessage_iff.mp h
  obtain ⟨hWf, hEmpty, -, -, -, hOk⟩ := State.takesOn_iff.mp hOn
  refine ⟨?_, ?_⟩
  · show pktCmd (p.opc == 8 && p.w1 % 256 == 2) k.val p 0 0 s = _
    rw [pktCmd, if_pos (by simp [hOpc, hSub, hWf]), retryWaiting_of_empty hEmpty, receivePacket_of_takesMessage h]
    simp [takeMgmt, hSub]
  · simp [State.packetOk, hOpc, mgmtOk, hSub, spdmOk] at hOk ⊢
    omega

theorem takeFragment_last {k : Nat} {p : Packet} (hByte : p.byte 1 = 3) (hLen : ofLeBytes (slice 0 p.data 4 2) ≤ 240) :
    (takeFragment k p s).trust.msgs = s.trust.msgs ++ [(k, p.byte 0, slice 0 p.data 16 (ofLeBytes (slice 0 p.data 4 2)))] ∧
      (takeFragment k p s).regs = s.regs := by
  have hFit : ¬4096 < (slice (0 : Byte) p.data 16 (ofLeBytes (slice 0 p.data 4 2))).length := by
    rw [slice_length]
    omega
  have h0 : bit (p.byte 1) 0 = true := by rw [hByte]; decide
  have h1 : bit (p.byte 1) 1 = true := by rw [hByte]; decide
  simp only [takeFragment, h0, h1, if_true, List.nil_append, if_neg hFit, and_self]

theorem tab_set_find_isSome {α : Type} (l : Tab α) (k : Nat) (a : α) :
    ((Tab.set l k a).find? (fun e => e.1 == k)).isSome = true := by
  induction l with
  | nil => simp [Tab.set]
  | cons e l ih =>
    unfold Tab.set
    split_ifs <;> simp_all

theorem takeFragment_first {k : Nat} {p : Packet} (hByte : p.byte 1 = 1) (hLen : ofLeBytes (slice 0 p.data 4 2) ≤ 240) :
    (takeFragment k p s).trust.msgs = s.trust.msgs ∧
      ((takeFragment k p s).trust.reasm.find? (fun e => e.1 == k)).isSome = true := by
  have hFit : ¬4096 < (slice (0 : Byte) p.data 16 (ofLeBytes (slice 0 p.data 4 2))).length := by
    rw [slice_length]
    omega
  have h0 : bit (p.byte 1) 0 = true := by rw [hByte]; decide
  have h1 : bit (p.byte 1) 1 = false := by rw [hByte]; decide
  simp only [takeFragment, h0, h1, if_true, List.nil_append, if_neg hFit, true_and, Bool.false_eq_true, if_false]
  exact tab_set_find_isSome _ _ _

/-- Settles O59: the mailbox, the sessions and their end, the interfaces, the streams and the admission entries. -/
theorem sessionsAndInterfaces : Obligations.SessionsAndInterfaces := by
  refine ⟨fun s x hRun => ⟨_, rfl, ?_⟩, fun s x hBusy => ?_, fun s => rfl, fun s x hRun => if_pos hRun, fun s x hRun => ?_,
    fun s k p hTakes hByte => ?_, fun s k p hTakes hByte => ?_,
    fun s id tr k m r ds hRun hRoom hNew hUp => ?_, fun s id tr k m r ds hNot => ?_, fun s id x hSession => ?_,
    fun s id hNone => ?_, fun s id x p hSession hDoe => ?_, fun s id x p hSession hDoe hLc => ?_,
    fun s id p op b hElse => ?_, fun s id x p hSession hDoe => ?_, fun s p hRun => ⟨_, if_pos hRun, ?_⟩,
    fun s p hNot => if_neg hNot, fun s id x n hSession hDoe hNone hRoom => ?_, fun s id x n hSession hDoe => ?_,
    fun s p i j v hWindow => ?_, fun s p i j v hWindow => ?_⟩
  · unfold smbGo
    split
    next hBusy => simp [hBusy]
    next hBusy => simp [hRun, State.on_put_self, Fld.ok, Fld.size]
  · show Host.Outcome.next (smbGo x s) = _
    rw [smbGo, if_pos hBusy]
  · exact if_neg (by simp [hRun])
  · obtain ⟨hExec, hLen⟩ := spdmFragment_of_message hTakes
    obtain ⟨-, -, -, hTy, -, -⟩ := State.takesMessage_iff.mp hTakes
    obtain ⟨hMsgs, hRegs⟩ := takeFragment_last (s := s.credited k.val p) (k := k.val) hByte hLen
    exact ⟨_, hExec, hTy ▸ hMsgs, hRegs⟩
  · obtain ⟨hExec, hLen⟩ := spdmFragment_of_message hTakes
    exact ⟨_, hExec, takeFragment_first hByte hLen⟩
  · have hNot : ¬(s.trust.running.isNone || decide (32 ≤ s.trust.sessions.length) || (s.session id.toNat).isSome ||
        !s.carriesSession tr.val k.val) = true := by
      simpa [hNew, hUp, hRoom, Option.isSome_iff_ne_none] using hRun
    have hFind := session_append s.trust.sessions ⟨id.toNat, tr.val, m, r.toNat,
      m && s.trust.owner.any (fun o => o.anchor == r.toNat), k.val⟩ hNew
    show ∃ t, execSpdmSessionEstablished id tr k m r ds s = .next t ∧ _
    rw [execSpdmSessionEstablished, if_neg hNot]
    split_ifs with hYarrow
    · exact ⟨_, rfl, hFind, fun _ => Tab.get_set_self _ _ _ _⟩
    · exact ⟨_, rfl, hFind, fun h => absurd h hYarrow⟩
  · exact if_pos (by rcases hNot with h | h | h | h <;> simp [h])
  · refine ⟨_, show execSpdmSessionEnd id s = _ by rw [execSpdmSessionEnd, hSession], ?_⟩
    have hId := session_id hSession
    have hLeft : SessionsLeft (endSessions (fun y => y.id == x.id) s)
        (if x.transport = 3 then endLinkSession x.link (endSessions (fun y => y.id == x.id) s)
          else endSessions (fun y => y.id == x.id) s) := by
      split
      · exact endLinkSession_left _ _
      · exact .of_trust rfl
    refine ⟨List.find?_eq_none.mpr fun y hy => ?_, fun g hg => ?_⟩
    · have hKeep := (List.mem_filter.mp (hLeft.sessions hy)).2
      simpa [hId] using hKeep
    · obtain ⟨hWas, hLive⟩ := Option.filter_eq_some_iff.mp (hLeft.grant g hg)
      refine ⟨hWas, fun hGone => ?_⟩
      obtain ⟨y, hy, hEq⟩ := List.any_eq_true.mp hLive
      have hKeep := (List.mem_filter.mp hy).2
      simp_all
  · show execSpdmSessionEnd id s = _
    rw [execSpdmSessionEnd, hNone]
  · refine ⟨⟨_, show execLockInterface id p s = _ from tdisp_of_doe hSession hDoe _, ?_⟩,
      ⟨_, show execStartInterface id p s = _ from tdisp_of_doe hSession hDoe _, ?_⟩⟩
    · by_cases h : s.lc p.val = 2 ∧ s.tdi p.val = 0
      · simp only [h, and_self, if_true, decide_true, smSend]
        exact ⟨State.tdi_setTdi s p.isLt 1, (State.lc_setTdi s _ _ 1).trans h.1, rfl⟩
      · simp only [h, if_false, decide_false, smSend]
        exact ⟨rfl, rfl, trivial⟩
    · by_cases h : s.lc p.val = 2 ∧ s.tdi p.val = 1
      · simp only [h, and_self, if_true, smSend]
        exact ⟨State.tdi_setTdi s p.isLt 2, (State.lc_setTdi s _ _ 2).trans h.1⟩
      · simp only [h, if_false, smSend]
        exact ⟨rfl, rfl⟩
  · refine ⟨_, show execStopInterface id p s = _ from tdisp_of_doe hSession hDoe _, ?_⟩
    rw [if_neg (by simp [hLc])]
    by_cases h : s.tdi p.val = 2
    · rw [if_pos h]
      exact partitionReset_tdi p.isLt s
    · rw [if_neg h]
      exact State.tdi_setTdi s p.isLt 0
  · refine ⟨show execLockInterface id p s = _ from tdisp_elsewhere hElse _,
      show execStartInterface id p s = _ from tdisp_elsewhere hElse _,
      show execStopInterface id p s = _ from tdisp_elsewhere hElse _, ?_,
      show execIdeKm id op b s = _ from tdisp_elsewhere hElse _⟩
    show execGetDeviceInterfaceReport id p s = _
    unfold execGetDeviceInterfaceReport
    split
    · rfl
    · exact if_pos (by simp_all)
  · show execGetDeviceInterfaceReport id p s = _
    simp only [execGetDeviceInterfaceReport, hSession, hDoe]
    split_ifs <;> simp_all [smSend]
  · exact partitionReset_tdi p.isLt _
  · refine ⟨_, show execIdeKm id 0 n s = _ from tdisp_of_doe hSession hDoe _, ?_⟩
    simp [hNone, smSend, Nat.not_le.mpr hRoom]
  · refine ⟨⟨_, show execIdeKm id 1 n s = _ from tdisp_of_doe hSession hDoe _, ?_⟩,
      ⟨_, show execIdeKm id 2 n s = _ from tdisp_of_doe hSession hDoe _, ?_⟩⟩
    · simp only [smSend, Fin.isValue, one_ne_zero, if_false, if_true, List.all_map, List.all_eq_true, Function.comp]
      intro y _
      split <;> simp_all
    · simp only [smSend, endStreams, Fin.isValue, Fin.reduceEq, if_false, List.any_filter]
      refine ⟨by simp, ?_⟩
      cases s.trust.grant with
      | none => rfl
      | some g =>
        cases hHas : s.trust.streams.any (fun y => y.id == n.toNat) <;> simp_all [Option.filter]
        obtain ⟨y, hy, hId⟩ := hHas
        split
        next hKept => simp [Ne.symm (hKept y hy hId)]
        next => rfl
  · show execPwAdmitWrite p i j v s = _
    rw [execPwAdmitWrite, if_pos hWindow, admitWrite, BitVec.ofNat_toNat, BitVec.setWidth_eq]
  · exact if_neg (by simp [hWindow])

end Sys2Proof.Machine
end

section
/-! SUPPORT. The sideband, power and temperature. -/

namespace Sys2Proof.Machine

variable {s t : State}

theorem onTransport_of_lt {t : Fin 3} (h : t.val < 2) (f : State → State) (s : State) : onTransport t f s = .next (f s) :=
  if_neg fun hDown => by rw [hDown.1] at h; exact absurd h (by decide)

theorem onTransport_pcie_down (h : s.pwr.pcieUp = false) (f : State → State) : onTransport 2 f s = .next s :=
  if_pos ⟨rfl, by simp [h]⟩

theorem leBytes_length (n v : Nat) : (leBytes n v).length = n := by
  induction n generalizing v with
  | zero => rfl
  | succ n ih => simp [leBytes, ih]

theorem telemetry_length (s : State) : s.telemetry.length = 32 := by simp [State.telemetry, leBytes_length]

/-- The effect of one sensor's reading. -/
def takeReading (x : Nat × Option (BitVec 12)) (t : State) : State :=
  match x.2 with
  | some v => (t.put (F.PWR_TEMP_VALID x.1) 1).put (F.PWR_TEMP_TEMP x.1) v.toNat
  | none => t.put (F.PWR_TEMP_VALID x.1) 0

theorem takeReading_valid (k j : Nat) (r : Option (BitVec 12)) (t : State) :
    (takeReading (j, r) t).on (F.PWR_TEMP_VALID k) = if k = j then r.isSome else t.on (F.PWR_TEMP_VALID k) := by
  by_cases h : k = j
  · subst h
    cases r <;> simp [takeReading, State.on, State.get_put_of, State.get_put_self, Fld.ok, Fld.size]
  · have hKey : R.PWR_TEMP k ≠ R.PWR_TEMP j := by
      simp only [R.PWR_TEMP]
      omega
    cases r <;> simp [takeReading, State.on, h, State.get_put_key]

theorem takeReadings_valid (k : Nat) (rs : List (Option (BitVec 12))) (i : Nat) (t : State) :
    (t.each ((List.range' i rs.length).zip rs) takeReading).on (F.PWR_TEMP_VALID k) =
      if i ≤ k ∧ k < i + rs.length then ((rs[k - i]?).getD none).isSome else t.on (F.PWR_TEMP_VALID k) := by
  induction rs generalizing i t with
  | nil => simp [State.each_nil]; omega
  | cons r rs ih =>
    rw [List.length_cons, List.range'_succ, List.zip_cons_cons, State.each_cons, ih, takeReading_valid]
    obtain hLt | rfl | hGt := lt_trichotomy k i
    · rw [if_neg (by omega), if_neg hLt.ne, if_neg (by omega)]
    · simp
    · rw [if_neg hGt.ne']
      have hIff : i + 1 ≤ k ∧ k < i + 1 + rs.length ↔ i ≤ k ∧ k < i + (rs.length + 1) := by omega
      have hSub : k - i = k - (i + 1) + 1 := by omega
      simp only [hIff, hSub, List.getElem?_cons_succ]

/-- Only registers change. -/
def OnlyRegs (s t : State) : Prop := ∃ regs, t = { s with regs := regs }

theorem OnlyRegs.refl (s : State) : OnlyRegs s s := ⟨s.regs, rfl⟩

theorem OnlyRegs.put (h : OnlyRegs s t) (f : Fld) (x : Nat) : OnlyRegs s (t.put f x) := by
  obtain ⟨regs, rfl⟩ := h
  exact ⟨_, rfl⟩

theorem OnlyRegs.each {α : Type} (h : OnlyRegs s t) (l : List α) (f : α → State → State)
    (hf : ∀ a u, OnlyRegs s u → OnlyRegs s (f a u)) : OnlyRegs s (t.each l f) :=
  State.each_ind t l f (fun a _ u hu => hf a u hu) h

theorem OnlyRegs.pool (h : OnlyRegs s t) : t.pool = s.pool := by
  obtain ⟨regs, rfl⟩ := h
  rfl

theorem OnlyRegs.rings (h : OnlyRegs s t) : t.rings = s.rings := by
  obtain ⟨regs, rfl⟩ := h
  rfl

theorem OnlyRegs.pwr (h : OnlyRegs s t) : t.pwr = s.pwr := by
  obtain ⟨regs, rfl⟩ := h
  rfl

/-- What the sensors' readings leave: only registers change, and VALID of a sensor is its reading's. -/
theorem takeReadings_spec {rs : List (Option (BitVec 12))} (hLen : rs.length = 15) (s : State) :
    OnlyRegs s (takeReadings rs s) ∧
      ∀ k < 15, (takeReadings rs s).on (F.PWR_TEMP_VALID k) = ((rs[k]?).getD none).isSome := by
  have hEach : ∀ k < 15, (s.each ((List.range 15).zip rs) takeReading).on (F.PWR_TEMP_VALID k) =
      ((rs[k]?).getD none).isSome := fun k hk => by
    rw [List.range_eq_range', ← hLen, takeReadings_valid, if_pos (by omega), Nat.sub_zero]
  have hRegs : OnlyRegs s (s.each ((List.range 15).zip rs) takeReading) :=
    (OnlyRegs.refl s).each _ _ fun x u hu => by
      unfold takeReading
      split
      · exact (hu.put _ _).put _ _
      · exact hu.put _ _
  have hOther : ∀ k < 15, R.PWR_TEMP k ≠ R.PWR_TEMP 15 ∧ R.PWR_TEMP k ≠ R.PWR_THERM_STATUS := fun k hk => by
    simp only [R.PWR_TEMP, R.PWR_THERM_STATUS]
    omega
  unfold takeReadings
  dsimp only
  split
  · exact ⟨hRegs.put _ _, fun k hk => (State.on_put_key _ _ (hOther k hk).1).trans (hEach k hk)⟩
  · exact ⟨((hRegs.put _ _).put _ _).put _ _, fun k hk => (State.on_put_key _ _ (hOther k hk).2).trans <|
      (State.on_put_key _ _ (hOther k hk).1).trans <| (State.on_put_key _ _ (hOther k hk).1).trans (hEach k hk)⟩

theorem nodeReset_powerOn_pwr (s : State) : (nodeReset .powerOn s).pwr = keptPwr .powerOn s := by
  have hVoid : ∀ p (u : State), (loadVoidWindow p u).pwr = u.pwr := fun _ _ => rfl
  have hBack : ∀ p (u : State), (returnPartition p u).pwr = u.pwr := fun p u => by
    rw [returnPartition, State.each_eq (g := State.pwr)]
    · rfl
    · intro k _ t
      split <;> rfl
  simp only [nodeReset]
  rw [State.each_eq (g := State.pwr) _ _ _ fun p _ u => hBack p u,
    State.each_eq (g := State.pwr) _ _ _ fun p _ u => hVoid p u]
  rfl

theorem evtKey_pwrTemp {k : Nat} (h : k < 15) : evtKey (R.PWR_TEMP k) = false := by
  simp [evtKey, R.PWR_TEMP]
  omega

/-- What evaluating WARN leaves. -/
theorem evalWarn_spec (had : Bool) (s : State) :
    (∀ k < 15, (evalWarn had s).on (F.PWR_TEMP_VALID k) = s.on (F.PWR_TEMP_VALID k)) ∧
      (evalWarn had s).pool = s.pool ∧ (evalWarn had s).rings = s.rings ∧ (evalWarn had s).pwr = s.pwr := by
  have hSrc : Ev.THERMAL_WARN < 256 := by decide
  have hStatus : ∀ k < 15, R.PWR_TEMP k ≠ R.PWR_THERM_STATUS := fun k hk => by
    simp only [R.PWR_TEMP, R.PWR_THERM_STATUS]
    omega
  unfold evalWarn
  dsimp only
  split
  · split
    · exact ⟨fun k hk => on_of_get_eq (raiseNode_get _ _ _ hSrc (evtKey_pwrTemp hk)), raiseNode_pool _ _ hSrc,
        raiseNode_rings _ _ hSrc, raiseNode_pwr _ _ hSrc⟩
    · exact ⟨fun _ _ => rfl, rfl, rfl, rfl⟩
  · split
    · split
      · exact ⟨fun k hk => State.on_put_key _ _ (hStatus k hk), rfl, rfl, rfl⟩
      · exact ⟨fun _ _ => rfl, rfl, rfl, rfl⟩
    · split
      · exact ⟨fun k hk => (on_of_get_eq (raiseNode_get _ _ _ hSrc (evtKey_pwrTemp hk))).trans
          (State.on_put_key _ _ (hStatus k hk)), raiseNode_pool _ _ hSrc, raiseNode_rings _ _ hSrc,
          raiseNode_pwr _ _ hSrc⟩
      · exact ⟨fun _ _ => rfl, rfl, rfl, rfl⟩

/-- What evaluating throttling leaves. -/
theorem evalThrottle_spec (s : State) :
    (∀ k < 15, (evalThrottle s).on (F.PWR_TEMP_VALID k) = s.on (F.PWR_TEMP_VALID k)) ∧
      (evalThrottle s).pool = s.pool ∧ (evalThrottle s).rings = s.rings ∧ (evalThrottle s).pwr = s.pwr := by
  have hSrc : Ev.THERMAL_THROTTLE < 256 := by decide
  have hStatus : ∀ k < 15, R.PWR_TEMP k ≠ R.PWR_THERM_STATUS := fun k hk => by
    simp only [R.PWR_TEMP, R.PWR_THERM_STATUS]
    omega
  unfold evalThrottle
  extract_lets hot cool was now
  split
  · exact ⟨fun _ _ => rfl, rfl, rfl, rfl⟩
  · exact ⟨fun k hk => (on_of_get_eq (raiseNode_get _ _ _ hSrc (evtKey_pwrTemp hk))).trans
      (State.on_put_key _ _ (hStatus k hk)), raiseNode_pool _ _ hSrc, raiseNode_rings _ _ hSrc,
      raiseNode_pwr _ _ hSrc⟩

theorem thermalTrip_low {s : State} (hHeld : s.isHeld = false) : (thermalTrip s).pwr.thermtripLow = true := by
  simp only [State.isHeld, Bool.or_eq_false_iff, Bool.not_eq_false'] at hHeld
  obtain ⟨⟨hPor, hLoss⟩, hAon⟩ := hHeld
  unfold thermalTrip
  split
  next h => simpa [hAon] using h
  next =>
    have hStart : ∀ u, (startUp (powerReset u)).pwr = keptPwr .powerOn u := fun u => by
      rw [startUp, powerReset, State.incr_pwr, nodeReset_powerOn_pwr]
    simp [State.isHeld, hPor, hLoss, hAon, hStart, keptPwr]

theorem execProchotNChange_spec (low held : Bool) (s : State) : ∃ u, execProchotNChange low held s = .next u ∧
    u.pwr.prochotLow = low ∧ u.pwr.prochotOn = (low && (held || s.pwr.prochotOn)) ∧ u.pool = s.pool := by
  unfold execProchotNChange
  refine ⟨_, rfl, ?_⟩
  obtain ⟨-, hPool, -, hPwr⟩ := evalThrottle_spec _
  rw [hPwr, hPool]
  split
  next hSame => exact ⟨hSame.symm, rfl, rfl⟩
  next => simp (decide := true) [raiseNode_pwr, raiseNode_pool]

theorem execAvsCurrentRead_exact {c : BitVec 16} (hOwned : s.on F.PWR_AVS_STATUS_SM_OWNED = true)
    (hExact : c.toNat * s.get F.PWR_AVS_STATUS_VCORE_MV % 1000 = 0) :
    execAvsCurrentRead c s = .next ((s.put F.PWR_POWER_CURRENT c.toNat).put F.PWR_POWER_POWER
      (min 65535 (c.toNat * s.get F.PWR_AVS_STATUS_VCORE_MV / 1000))) := by
  have hSat : satAt 65535 (c.toNat * s.get F.PWR_AVS_STATUS_VCORE_MV / 1000) =
      min 65535 (c.toNat * s.get F.PWR_AVS_STATUS_VCORE_MV / 1000) := by
    unfold satAt
    split <;> omega
  simp [execAvsCurrentRead, hOwned, hExact, b2n, hSat]

/-- The sensors' readings, then WARN, then throttling. -/
def readSensors (rs : List (Option (BitVec 12))) (s : State) : State :=
  evalThrottle (evalWarn (s.on (F.PWR_TEMP_VALID 15) || s.get F.PWR_THERM_STATUS_THROTTLING == 0) (takeReadings rs s))

theorem execSensorUpdate_eq {rs : List (Option (BitVec 12))} (hLen : rs.length = 15) (hHeld : s.isHeld = false) :
    execSensorUpdate rs s = .next (if rs.any (fun r => r.any (fun v => decide (920 < toSigned 12 v.toNat)))
      then thermalTrip (readSensors rs s) else readSensors rs s) := by
  rw [execSensorUpdate, if_neg (by simp [hLen]), hHeld]
  rfl

theorem readSensors_spec {rs : List (Option (BitVec 12))} (hLen : rs.length = 15) (s : State) :
    (∀ k < 15, (readSensors rs s).on (F.PWR_TEMP_VALID k) = ((rs[k]?).getD none).isSome) ∧
      (readSensors rs s).pool = s.pool ∧ (readSensors rs s).rings = s.rings ∧ (readSensors rs s).pwr = s.pwr := by
  obtain ⟨hRegs, hValid⟩ := takeReadings_spec hLen s
  obtain ⟨hT, hTPool, hTRings, hTPwr⟩ := evalThrottle_spec (evalWarn (s.on (F.PWR_TEMP_VALID 15) ||
    s.get F.PWR_THERM_STATUS_THROTTLING == 0) (takeReadings rs s))
  obtain ⟨hW, hWPool, hWRings, hWPwr⟩ := evalWarn_spec (s.on (F.PWR_TEMP_VALID 15) ||
    s.get F.PWR_THERM_STATUS_THROTTLING == 0) (takeReadings rs s)
  refine ⟨fun k hk => (hT k hk).trans ((hW k hk).trans (hValid k hk)), hTPool.trans (hWPool.trans hRegs.pool),
    hTRings.trans (hWRings.trans hRegs.rings), hTPwr.trans (hWPwr.trans hRegs.pwr)⟩

/-- Settles O28: the I3C target, the transports, alerts, the current's power, the sensors and PROCHOT. -/
theorem sidebandPowerAndTemperature : Obligations.SidebandPowerAndTemperature := by
  refine ⟨fun s x y hNone => ⟨?_, ?_, fun hOther => ?_⟩, fun s => ⟨rfl, rfl, rfl, rfl, rfl, rfl, rfl, rfl⟩,
    fun s t e ht => ⟨_, show execMctpMessage t (.setEid e) s = _ from onTransport_of_lt ht _ _,
      Tab.get_set_self _ _ _ _, rfl, rfl⟩,
    fun s t b ht => show execMctpMessage t (.spdm b) s = _ from onTransport_of_lt ht _ _,
    fun s m hDown => ⟨show execMctpMessage 2 m s = _ from onTransport_pcie_down hDown _,
      show execTelemetry 2 s = _ from onTransport_pcie_down hDown _,
      show execAlertAck 2 s = _ from onTransport_pcie_down hDown _⟩,
    fun s t ht => ⟨⟨_, show execTelemetry t s = _ from onTransport_of_lt ht _ _, rfl, rfl, rfl, rfl⟩, telemetry_length s⟩,
    fun s t ht => ⟨_, show execAlertAck t s = _ from onTransport_of_lt ht _ _, ?_⟩, fun s c hOwned hExact => ?_, fun s c hOwned => ?_,
    fun s rs hLen hHeld hCool => ?_, fun s rs hLen hHeld hHot => ?_, fun s rs hLen hHeld => ?_,
    fun s low held => ?_⟩
  · show Host.Outcome.next _ = _
    rw [if_pos (by simp [hNone])]
  · show Host.Outcome.next _ = _
    rw [if_pos (by simp [hNone])]
    rfl
  · show Host.Outcome.next _ = _
    rw [if_neg]
    simp [hNone, State.i3cStatic, hOther]
  · unfold alertAck mctpSend
    split <;> simp_all [leBytes]
  · refine ⟨_, show execAvsCurrentRead c s = _ from execAvsCurrentRead_exact hOwned hExact, ?_, ?_, rfl⟩
    · rw [State.get_put_of _ _ _ _ (by decide), State.get_put_self _ _ _ (by decide)]
      exact Nat.mod_eq_of_lt c.isLt
    · rw [State.get_put_self _ _ _ (by decide)]
      exact Nat.mod_eq_of_lt (show _ < 65536 by omega)
  · exact if_pos (by simp [hOwned])
  · obtain ⟨hValid, hPool, hRings, -⟩ := readSensors_spec hLen s
    exact ⟨_, show execSensorUpdate rs s = _ by rw [execSensorUpdate_eq hLen hHeld, if_neg (by simp [hCool])],
      fun k => ⟨hValid k k.isLt, hPool, hRings⟩⟩
  · obtain ⟨-, -, -, hPwr⟩ := readSensors_spec hLen s
    exact ⟨_, show execSensorUpdate rs s = _ by rw [execSensorUpdate_eq hLen hHeld, if_pos hHot],
      thermalTrip_low (by rw [State.isHeld, hPwr]; exact hHeld)⟩
  · show execSensorUpdate rs s = _
    simp [execSensorUpdate, hLen, hHeld]
  · obtain ⟨u, hExec, hLow, hOn, hPool⟩ := execProchotNChange_spec low held s
    exact ⟨u, hExec, hLow, hOn, hPool⟩

end Sys2Proof.Machine
end

section
/-! SUPPORT. Line requests to the pool. -/

namespace Sys2Proof.Machine

variable {s t : State} {line : Nat}

theorem hierarchy_closed (hUe : s.pool.l2ue = []) (h : s.pool.l2.contains (line / 16777216) = false) :
    hierarchy line s = (.zero, s) := by
  simp only [hierarchy, hUe, h]
  rfl

theorem codewordRead_clean (h : s.pool.sym = []) (isMeta : Bool) (n : Nat) : codewordRead isMeta n s = (some [], s) := by
  simp [codewordRead, h, Tab.get]

/-- With no symbol in error and no uncorrectable entry, the metadata says what it holds. -/
theorem hierarchy_clean (hUe : s.pool.l2ue = []) (hSym : s.pool.sym = []) :
    hierarchy line s = (if s.pool.l2.contains (line / 16777216) && s.pool.l1.contains (line / 1024) &&
      s.pool.l0.contains line then .stored else .zero, s) := by
  simp only [hierarchy, hUe, codewordRead_clean hSym]
  cases s.pool.l2.contains (line / 16777216) <;> cases s.pool.l1.contains (line / 1024) <;>
    cases s.pool.l0.contains line <;> rfl

theorem openGranule_spec (g : Nat) (s : State) : (openGranule g s).pool.l2.contains g = true ∧
    (openGranule g s).pool.done = s.pool.done ∧ (openGranule g s).regs = s.regs := by
  unfold openGranule cleanL1
  dsimp only
  split
  next h => exact ⟨h, rfl, rfl⟩
  next =>
    split <;> exact ⟨NSet.contains_ins_self _ _, rfl, rfl⟩

/-- A stored line is readable: its granule, its block and itself are valid. -/
theorem storeLine_valid (data : List Byte) (s : State) :
    (storeLine line data s).pool.l2.contains (line / 16777216) = true ∧
      (storeLine line data s).pool.l1.contains (line / 1024) = true ∧
      (storeLine line data s).pool.l0.contains line = true ∧ (storeLine line data s).pool.done = s.pool.done ∧
      (storeLine line data s).regs = s.regs := by
  obtain ⟨hL2, hDone, hRegs⟩ := openGranule_spec (line / 16777216) s
  unfold storeLine setValid
  dsimp only
  split
  next hL1 => exact ⟨hL2, hL1, NSet.contains_ins_self _ _, hDone, hRegs⟩
  next => exact ⟨hL2, NSet.contains_ins_self _ _, NSet.contains_ins_self _ _, hDone, hRegs⟩

theorem storeLine_reads {data : List Byte} (hLen : data.length = 64) (hPool : s.poolOk = true) :
    cellsRead (storeLine line data s).pool.cells (line * 64) 64 = data := by
  have hSlice : slice 0 data 0 64 = data := by
    refine List.ext_getElem (by simp [slice, hLen]) fun i _ hi => ?_
    simp [slice, hi]
  refine List.ext_getElem (by simp [cellsRead, hLen]) fun i _ hi => ?_
  simp only [storeLine, setValid_cells, hSlice, cellsRead, List.getElem_map, List.getElem_range]
  rw [cellRead_cellsWrite_self _ _ _ _ hPool hi]
  simp [hi]

/-- A served request leaves the pool as its operation does, and its answer is the last one. -/
theorem lineRequest_served {op : MemOp} {r : MemRes} {u : State} (hServe : s.avail line = .serve)
    (hOp : opServed line op s = (r, u)) (hHeld : r ≠ .held) :
    (lineRequest line op s).pool = { u.pool with done := u.pool.done ++ [⟨line, op, r⟩] } ∧
      (lineRequest line op s).regs = u.regs := by
  simp only [lineRequest, lineOp, hServe, hOp]
  exact ⟨trivial, trivial⟩

/-- A request that ends as a store of its line: the line is readable at every level and reads as what it stored. -/
theorem lineRequest_stored {op : MemOp} {data : List Byte} (hServe : s.avail line = .serve)
    (hOp : opServed line op s = (.ok [], storeLine line data s)) (hLen : data.length = 64) (hPool : s.poolOk = true) :
    ((lineRequest line op s).pool.l2.contains (line / 16777216) = true ∧
      (lineRequest line op s).pool.l1.contains (line / 1024) = true ∧
      (lineRequest line op s).pool.l0.contains line = true) ∧
    cellsRead (lineRequest line op s).pool.cells (line * 64) 64 = data ∧
    (lineRequest line op s).pool.done = s.pool.done ++ [⟨line, op, .ok []⟩] ∧
    (lineRequest line op s).regs = s.regs := by
  obtain ⟨hL2, hL1, hL0, hDone, hRegs⟩ := storeLine_valid (line := line) data s
  have hReads := storeLine_reads (line := line) hLen hPool
  generalize storeLine line data s = u at *
  obtain ⟨hEq, hEqRegs⟩ := lineRequest_served hServe hOp (by simp)
  rw [hEq, hEqRegs]
  exact ⟨⟨hL2, hL1, hL0⟩, hReads, congrArg (· ++ _) hDone, hRegs⟩

theorem exec_lineRead (h : s.lineExists line = true) :
    exec (.lineRead line [] []) s = .next (lineRequest line .read s) :=
  if_pos h

theorem exec_lineWrite {data : List Byte} (h : s.lineExists line = true) (hLen : data.length = 64) :
    exec (.lineWrite line data) s = .next (lineRequest line (.write data) s) := by
  show execLineWrite line data s = _
  rw [execLineWrite, if_neg (by simp [hLen]), if_pos h]

theorem exec_partialLineWrite {data : List Byte} (h : s.lineExists line = true) (hLen : data.length = 64) (m : W64) :
    exec (.partialLineWrite line m data) s = .next (lineRequest line (.part m.toNat data) s) := by
  show execPartialLineWrite line m data s = _
  rw [execPartialLineWrite, if_neg (by simp [hLen]), if_pos h]

theorem exec_memRequestHoldExpiry {k : Nat} {x : HeldReq} (h : s.pool.held[k]? = some x) :
    exec (.memRequestHoldExpiry k) s = .next { s with pool := { s.pool with
      held := s.pool.held.eraseIdx k, done := s.pool.done ++ [⟨x.line, x.op, .unavailable⟩] } } := by
  show execMemRequestHoldExpiry k s = _
  rw [execMemRequestHoldExpiry, h]

/-- Settles O29: the reads, the full and partial writes, the requests that wait or end, and those of no line. -/
theorem lineRequests : Obligations.LineRequests := by
  refine ⟨fun s line hLine hServe hUe hClosed => ⟨_, exec_lineRead hLine, ?_⟩,
    fun s line hLine hServe hUe hSym hL2 hL1 hL0 => ⟨_, exec_lineRead hLine, ?_⟩,
    fun s line data hLine hServe hUe hSym hPool hLen => ⟨_, exec_lineWrite hLine hLen, ?_⟩,
    fun s line m data hLine hServe hUe hSym hPool hLen hMask hClosed => ⟨_, exec_partialLineWrite hLine hLen m, ?_⟩,
    fun s line data hLine hServe hLen => ⟨_, exec_partialLineWrite hLine hLen 0, ?_⟩,
    fun s line data hLine hHold hLen => ⟨_, exec_lineWrite hLine hLen, ?_⟩,
    fun s line hLine hGone => ⟨_, exec_lineRead hLine, ?_⟩,
    fun s line errs bad m data hBeyond hLen => ?_, fun s k x hHeld => ?_⟩
  · have hOp : opServed line .read s = (.ok (List.replicate 64 0), s) := by
      simp only [opServed, readServed, hierarchy_closed hUe hClosed]
    exact lineRequest_served hServe hOp (by simp)
  · have hOp : opServed line .read s = (.ok (cellsRead s.pool.cells (line * 64) 64), s) := by
      simp only [opServed, readServed, hierarchy_clean hUe hSym, hL2, hL1, hL0, Bool.and_self, if_true,
        codewordRead_clean hSym]
      rfl
    exact lineRequest_served hServe hOp (by simp)
  · have hOp : opServed line (.write data) s = (.ok [], storeLine line data s) := by
      rw [opServed, writeServed, hierarchy_clean hUe hSym]
      cases s.pool.l2.contains (line / 16777216) && s.pool.l1.contains (line / 1024) && s.pool.l0.contains line <;> rfl
    obtain ⟨⟨hL2, hL1, hL0⟩, hRest⟩ := lineRequest_stored hServe hOp hLen hPool
    exact ⟨hL2, hL1, hL0, hRest⟩
  · have hSome : ¬m.toNat % 2 ^ 64 = 0 := by
      rw [Nat.mod_eq_of_lt m.isLt]
      exact fun h => hMask (BitVec.eq_of_toNat_eq h)
    have hOp : opServed line (.part m.toNat data) s =
        (.ok [], storeLine line (mergeLine m.toNat data (List.replicate 64 0)) s) := by
      rw [opServed, partServed, if_neg hSome, readServed, hierarchy_closed hUe hClosed]
    obtain ⟨⟨-, -, hL0⟩, hReads, -, hRegs⟩ := lineRequest_stored hServe hOp (by simp [mergeLine]) hPool
    refine ⟨hReads.trans (List.map_congr_left fun i hi => ?_), hL0, hRegs⟩
    simp only [bit_eq_testBit, List.getD_replicate _ (List.mem_range.mp hi)]
  · have hOp : opServed line (.part (0 : W64).toNat data) s = (.ok [], s) := by
      rw [opServed, partServed]
      exact if_pos rfl
    exact lineRequest_served hServe hOp (by simp)
  · simp only [lineRequest, lineOp, hHold, and_self]
  · simp only [lineRequest, lineOp, hGone, and_self]
  · have hNone : ¬s.lineExists line = true := by simpa [State.lineExists] using hBeyond
    refine ⟨if_neg hNone, ?_, ?_⟩
    · show execLineWrite line data s = _
      rw [execLineWrite, if_neg (by simp [hLen]), if_neg hNone]
    · show execPartialLineWrite line m data s = _
      rw [execPartialLineWrite, if_neg (by simp [hLen]), if_neg hNone]
  · exact ⟨_, exec_memRequestHoldExpiry hHeld, rfl, rfl⟩

end Sys2Proof.Machine
end

section
/-! SUPPORT. The granule table and the registers of the partitions' states over the work that a steward command does:
neither the log, a lease nor a partition reset changes a granule. -/

namespace Sys2Proof.Machine

variable {s t : State}

/-- The frame of an operation that may change every part but writes no register. -/
def noRegister : Frame where
  parts := (allBut []).parts
  regs := some []

/-- An operation whose footprint names no register leaves each. -/
theorem reg_of_out (h : t.out noRegister.foot = s.out noRegister.foot) (k : Nat) : t.reg k = s.reg k :=
  (State.out_eq_iff.mp h).reg k (by simp [Frame.foot, noRegister])

theorem cancelWork_reg (p : Nat) (s : State) (k : Nat) : (cancelWork p s).reg k = s.reg k :=
  reg_of_out (@cancelWork_out _ .mem .mem .mem .mem .mem .mem .mem .mem .mem p s) k

theorem gran_of_rest (h : t.rest = s.rest) : t.xlt.gran = s.xlt.gran := congrArg (fun r => r.2.xlt.gran) h

theorem State.xltGran_ite (c : Prop) [Decidable c] (a b : State) :
    (if c then a else b).xlt.gran = if c then a.xlt.gran else b.xlt.gran :=
  apply_ite (fun u : State => u.xlt.gran) c a b

@[simp] theorem raiseHolder_gran {src : Nat} (h : src < 256) (holder : Option Nat) (a0 a1 a2 : Nat) (s : State) :
    (raiseHolder holder src a0 a1 a2 s).xlt.gran = s.xlt.gran :=
  gran_of_rest (raiseHolder_rest h holder a0 a1 a2 s)

/-- The log takes a record: of the model's parts only the log itself and the events move. -/
theorem logOrdinary_same {x : Comp} (type subject : Nat) (payload : List Byte) (cont : LogCont) (s : State)
    (h : x ∈ [Comp.bytes, .translation, .trust, .leases]) : x.same s (logOrdinary type subject payload cont s) :=
  same_of_out x (@logOrdinary_out _ .mem .mem .any type subject payload cont s) h

@[simp] theorem logOrdinary_xlt (type subject : Nat) (payload : List Byte) (cont : LogCont) (s : State) :
    (logOrdinary type subject payload cont s).xlt = s.xlt :=
  logOrdinary_same (x := .translation) type subject payload cont s (by simp)

@[simp] theorem logOrdinary_cells (type subject : Nat) (payload : List Byte) (cont : LogCont) (s : State) :
    (logOrdinary type subject payload cont s).pool.cells = s.pool.cells :=
  logOrdinary_same (x := .bytes) type subject payload cont s (by simp)

@[simp] theorem logOrdinary_trust (type subject : Nat) (payload : List Byte) (cont : LogCont) (s : State) :
    (logOrdinary type subject payload cont s).trust = s.trust :=
  logOrdinary_same (x := .trust) type subject payload cont s (by simp)

@[simp] theorem logOrdinary_leases (type subject : Nat) (payload : List Byte) (cont : LogCont) (s : State) :
    (logOrdinary type subject payload cont s).leases = s.leases :=
  logOrdinary_same (x := .leases) type subject payload cont s (by simp)

@[simp] theorem logOrdinary_get {f : Fld} (h : workKey f.key = false) (type subject : Nat) (payload : List Byte)
    (cont : LogCont) (s : State) : (logOrdinary type subject payload cont s).get f = s.get f :=
  get_of_kept (logOrdinary_kept ..) h

theorem dropPages_gran (f : Page → Bool) (s : State) : (dropPages f s).xlt.gran = s.xlt.gran :=
  congrArg XltState.gran (same_of_out (l := [.translation]) .translation (@dropPages_out _ .mem .mem .mem .mem .mem f s))

theorem dropQueuedJobs_gran (n : Nat) (s : State) : (dropQueuedJobs n s).xlt.gran = s.xlt.gran :=
  congrArg XltState.gran (same_of_out (l := [.translation]) .translation (@dropQueuedJobs_out _ .mem .mem n s))

theorem proofMoved_gran (s : State) : (proofMoved s).xlt.gran = s.xlt.gran :=
  congrArg XltState.gran (same_of_out (l := [.translation]) .translation (@proofMoved_out _ .mem .mem .mem .any s))

theorem tallyDone_gran (r t status detail : Nat) (s : State) : (tallyDone r t status detail s).xlt.gran = s.xlt.gran :=
  congrArg XltState.gran (same_of_out (l := [.translation]) .translation (@tallyDone_out _ .mem r t status detail s))

theorem capNext_gran (s : State) : (capNext s).xlt.gran = s.xlt.gran :=
  congrArg XltState.gran (same_of_out (l := [.translation]) .translation (@capNext_out _ .mem .mem s))

theorem cancelWork_gran (p : Nat) (s : State) : (cancelWork p s).xlt.gran = s.xlt.gran :=
  congrArg XltState.gran (same_of_out (l := [.translation]) .translation
    (@cancelWork_out _ .mem .mem .mem .mem .mem .mem .mem .mem .mem p s))

theorem drive_gran (s : State) : (drive s).xlt.gran = s.xlt.gran := by
  simp (decide := true) [drive, lockLost, unlock, dryEvent, beamsOff, State.xltGran_ite]

theorem enterEng_gran (st : Nat) (s : State) : (enterEng st s).xlt.gran = s.xlt.gran := by
  simp (decide := true) [enterEng, startHunting, State.xltGran_ite, drive_gran]

theorem pressMoved_gran (old new : Option Nat) (s : State) : (pressMoved old new s).xlt.gran = s.xlt.gran := by
  unfold pressMoved
  split <;> simp [State.xltGran_ite, dropPages_gran, dropQueuedJobs_gran, enterEng_gran]

theorem capFlush_gran (s : State) : (capFlush s).xlt.gran = s.xlt.gran := by
  unfold capFlush
  split
  · rfl
  · refine List.foldlRecOn (motive := fun x : List (Nat × Nat) × Option (Nat × Nat) × State =>
      x.2.2.xlt.gran = s.xlt.gran) _ _ rfl fun x hx w _ => ?_
    dsimp only
    split
    · exact hx
    · exact (gran_of_rest (writeVA_rest _ _ _ _ _)).trans hx

theorem capEnd_gran (status detail : Nat) (s : State) : (capEnd status detail s).xlt.gran = s.xlt.gran := by
  unfold capEnd
  dsimp only
  split <;> simp [capNext_gran, tallyDone_gran, capFlush_gran]

theorem capLeaseMoved_gran (s : State) : (capLeaseMoved s).xlt.gran = s.xlt.gran := by
  rw [capLeaseMoved, capEnd_gran]
  exact State.each_eq (g := fun u : State => u.xlt.gran) _ _ _ fun c _ u => tallyDone_gran ..

theorem setLease_gran (res : Nat) (new : Option Nat) (cont : LogCont) (s : State) :
    (setLease res new cont s).xlt.gran = s.xlt.gran := by
  simp [setLease, State.xltGran_ite, pressMoved_gran, capLeaseMoved_gran, proofMoved_gran]

theorem releaseLeases_gran (p : Nat) (s : State) : (releaseLeases p s).xlt.gran = s.xlt.gran := by
  simp [releaseLeases, State.xltGran_ite, setLease_gran]

theorem pauseEvent_rest (r cause p : Nat) (s : State) : (raisePart p ⟨Ev.RING_PAUSE, r, cause, p, 0⟩ s).rest = s.rest :=
  raisePart_rest (show Ev.RING_PAUSE < 256 by decide) p s

theorem pauseRing_gran (r cause : Nat) (s : State) : (pauseRing r cause s).xlt.gran = s.xlt.gran := by
  unfold pauseRing
  split
  · rfl
  · dsimp only
    rw [gran_of_rest (pauseEvent_rest ..), State.put_xlt, State.put_xlt]

/-- A partition reset, once its work is cancelled, loads the partition's registers. -/
def resetDomain (p : Nat) (s : State) : State :=
  let s := emptyEvents p (s.loadDomains (fun d => d == .part p))
  { s with xlt := { s.xlt with invWord := s.xlt.invWord.filter (fun e => e.1 / 4 != p) } }

/-- A ring of a partition whose reset finds it enabled is paused. -/
def resetRing (p k : Nat) (t : State) : State := if t.on (F.PW_RING_CFG_EN p k) then pauseRing (8 * p + k) 1 t else t

theorem partitionReset_eq (p : Nat) (s : State) :
    partitionReset p s = releaseLeases p (((resetDomain p (cancelWork p s)).each (List.range 8) (resetRing p)).setTdi p 0) :=
  (rfl)

theorem resetRing_gran (p k : Nat) (s : State) : (resetRing p k s).xlt.gran = s.xlt.gran := by
  unfold resetRing
  split
  · exact pauseRing_gran ..
  · rfl

theorem resetDomain_gran (p : Nat) (s : State) : (resetDomain p s).xlt.gran = s.xlt.gran := rfl

/-- A partition reset changes no granule. -/
theorem partitionReset_gran (p : Nat) (s : State) : (partitionReset p s).xlt.gran = s.xlt.gran := calc
  _ = ((resetDomain p (cancelWork p s)).each (List.range 8) (resetRing p)).xlt.gran := by
    rw [partitionReset_eq, releaseLeases_gran, State.setTdi, State.put_xlt]
  _ = (resetDomain p (cancelWork p s)).xlt.gran :=
    State.each_eq (g := fun u : State => u.xlt.gran) _ _ _ fun k _ u => resetRing_gran p k u
  _ = s.xlt.gran := (resetDomain_gran p _).trans (cancelWork_gran p s)

theorem partitionReset_trust (p : Nat) (s : State) : (partitionReset p s).trust = s.trust :=
  same_of_out (l := [.trust]) .trust (@partitionReset_out _ .mem .mem .mem .mem .mem .mem .mem .mem .mem .mem .mem .mem
    .mem .mem .any (fun _ => .any) p s)

/-! A register that does not read its reset value stands in the table before every higher one, so loading other domains
leaves it. -/

theorem tab_get_cons {α : Type} (d : α) (i : Nat) (v : α) (l : Tab α) (k : Nat) :
    Tab.get d ((i, v) :: l) k = if i = k then v else if k < i then d else Tab.get d l k :=
  (rfl)

theorem tab_get_filter {α : Type} {d : α} {l : Tab α} {k : Nat} {f : Nat × α → Bool} (h : Tab.get d l k ≠ d)
    (hf : ∀ v, f (k, v) = true) : Tab.get d (l.filter f) k = Tab.get d l k := by
  induction l with
  | nil => rfl
  | cons e l ih =>
    obtain ⟨i, v⟩ := e
    rw [tab_get_cons] at h ⊢
    split_ifs at h with hEq hLt
    · subst hEq
      rw [List.filter_cons_of_pos (hf v), if_pos rfl, tab_get_cons, if_pos rfl]
    · exact absurd rfl h
    · rw [if_neg hEq, if_neg hLt, ← ih h, List.filter_cons]
      split
      · rw [tab_get_cons, if_neg hEq, if_neg hLt]
      · rfl

theorem State.reg_loadDomains {p : Dom → Bool} {k : Nat} (h : s.reg k ≠ BitVec.ofNat 64 (resetNat k))
    (hDom : p (domainOf k) = false) : (s.loadDomains p).reg k = s.reg k :=
  tab_get_filter h fun v => by simp [hDom]

theorem pauseRing_get {f : Fld} (hk : accKey f.key = false) (hLow : f.key < 0x100000000) (r cause : Nat) (s : State) :
    (pauseRing r cause s).get f = s.get f := by
  have hKey : f.key ≠ R.PW_RING_STATUS (r / 8) (r % 8) := by simp only [R.PW_RING_STATUS]; omega
  unfold pauseRing
  split
  · rfl
  · rw [get_of_rest (pauseEvent_rest ..) hk, State.get_put_key _ _ _ _ hKey, State.get_put_key _ _ _ _ hKey]

theorem resetRing_get {f : Fld} (hk : accKey f.key = false) (hLow : f.key < 0x100000000) (p k : Nat) (s : State) :
    (resetRing p k s).get f = s.get f := by
  unfold resetRing
  split
  · exact pauseRing_get hk hLow ..
  · rfl

theorem resetDomain_get {f : Fld} {p : Nat} (hDom : domainOf f.key ≠ .part p)
    (h : s.reg f.key ≠ BitVec.ofNat 64 (resetNat f.key)) : (resetDomain p s).get f = s.get f := by
  have hReg : (resetDomain p s).reg f.key = s.reg f.key := 
    State.reg_loadDomains (s := s) (p := fun d => d == .part p) h (by simpa using hDom)
  rw [State.get, State.get, hReg]

/-- A partition reset leaves a register of another domain that does not read its reset value. -/
theorem partitionReset_get {f : Fld} {p : Nat} (hk : workKey f.key = false) (hLow : f.key < 0x100000000)
    (hTdi : f.key ≠ R.SMB_TDI) (hDom : domainOf f.key ≠ .part p) (h : s.reg f.key ≠ BitVec.ofNat 64 (resetNat f.key)) :
    (partitionReset p s).get f = s.get f := by
  have hAcc : accKey f.key = false := (Bool.or_eq_false_iff.mp hk).1
  calc (partitionReset p s).get f
    _ = ((resetDomain p (cancelWork p s)).each (List.range 8) (resetRing p)).get f := by
      rw [partitionReset_eq, get_of_kept (releaseLeases_kept p _) hk, State.setTdi, State.get_put_key _ _ _ _ hTdi]
    _ = (resetDomain p (cancelWork p s)).get f :=
      State.each_eq (g := fun u : State => u.get f) _ _ _ fun k _ u => resetRing_get hAcc hLow p k u
    _ = (cancelWork p s).get f := resetDomain_get hDom (by rwa [cancelWork_reg])
    _ = s.get f := by rw [State.get, State.get, cancelWork_reg]

/-! A list of granules set to one state. -/

theorem State.each_setGran_usable {α : Type} (f : α → Nat) (x : GState) (l : List α) (s : State) :
    (s.each l fun a t => t.setGran (f a) x).usable = s.usable :=
  State.each_eq (g := State.usable) s l _ fun _ _ _ => rfl

theorem State.gran_setGran {x : GState} (hx : x ≠ .free) (g h : Nat) (s : State) :
    (s.setGran h x).gran g = if s.usable ≤ g then .reserved else if g = h then x else s.gran g := by
  have hSet : (s.setGran h x).xlt.gran = Tab.set s.xlt.gran h x := if_neg hx
  by_cases hg : s.usable ≤ g
  · rw [if_pos hg, State.gran, State.usable_setGran, if_pos hg]
  · rw [State.gran, State.usable_setGran, if_neg hg, hSet, Tab.get_set, if_neg hg, State.gran, if_neg hg]

theorem State.gran_each_setGran_of_mem {α : Type} {f : α → Nat} {x : GState} (hx : x ≠ .free) {l : List α} {g : Nat}
    (hg : g < s.usable) (h : g ∈ l.map f) : (s.each l fun a t => t.setGran (f a) x).gran g = x := by
  induction l using List.reverseRecOn with
  | nil => simp at h
  | append_singleton l a ih =>
    rw [State.each, List.foldl_append, List.foldl_cons, List.foldl_nil, State.gran_setGran hx]
    have hUse := State.each_setGran_usable f x l s
    unfold State.each at hUse ih
    rw [hUse, if_neg (by omega)]
    split
    · rfl
    · exact ih (by simp_all)

theorem State.gran_each_setGran_of_notMem {α : Type} {f : α → Nat} {x : GState} (hx : x ≠ .free) {l : List α} {g : Nat}
    (h : g ∉ l.map f) : (s.each l fun a t => t.setGran (f a) x).gran g = s.gran g :=
  State.each_eq (g := fun u : State => u.gran g) s l _ fun a ha t => by
    have hNe : g ≠ f a := fun e => h (e ▸ List.mem_map_of_mem ha)
    rw [State.gran_setGran hx, if_neg hNe, State.gran]
    split <;> rfl

/-- The granules that the table gives a state are among those that the scan of the table finds. -/
theorem mem_granulesWhere {g : Nat} {x : GState} (hFree : x ≠ .free) (hRes : x ≠ .reserved) (h : s.gran g = x) :
    g < s.usable ∧ g ∈ s.granulesWhere fun y => y == x := by
  unfold State.gran at h
  split at h
  · exact absurd h.symm hRes
  · next hLt =>
    refine ⟨by omega, ?_⟩
    have hMem : ∀ l : Tab GState, Tab.get .free l g = x → (g, x) ∈ l := by
      intro l
      induction l with
      | nil => exact fun e => absurd e.symm hFree
      | cons e l ih =>
        rw [tab_get_cons]
        split_ifs with hEq hBelow
        · rintro rfl
          subst hEq
          exact List.mem_cons_self
        · exact fun e => absurd e.symm hFree
        · exact fun e => List.mem_cons_of_mem _ (ih e)
    exact List.mem_map.mpr ⟨(g, x), List.mem_filter.mpr ⟨hMem _ h, by simp⟩, rfl⟩

end Sys2Proof.Machine
end

section
/-! The steward's commands over partitions, granules, regions and leases (Table 14.9). -/

namespace Sys2Proof.Machine

variable {s t : State} {p : Nat}

theorem byte_toNat_of_fin (p : Fin 16) : (BitVec.ofNat 8 p.val).toNat = p.val := by
  rw [BitVec.toNat_ofNat]
  omega

/-! The partitions' states and the granules over the record that a command writes. -/

theorem State.lc_setLc (s : State) (h : p < 16) (v : Nat) : (s.setLc p v).lc p = v % 4 := by
  rw [State.lc, State.setLc, State.get_put_self _ _ _ (by decide)]
  exact pack2_self h _ v

@[simp] theorem logOrdinary_lc (type subject : Nat) (payload : List Byte) (cont : LogCont) (s : State) (p : Nat) :
    (logOrdinary type subject payload cont s).lc p = s.lc p := by
  rw [State.lc, State.lc, logOrdinary_get (by decide)]

@[simp] theorem logOrdinary_gran (type subject : Nat) (payload : List Byte) (cont : LogCont) (s : State) (g : Nat) :
    (logOrdinary type subject payload cont s).gran g = s.gran g := by
  have hUse : (logOrdinary type subject payload cont s).usable = s.usable := logOrdinary_get (by decide) ..
  rw [State.gran, State.gran, hUse, logOrdinary_xlt]

theorem formPart_lc (h : p < 16) (init : Nat) (cont : LogCont) (s : State) : (formPart p init cont s).lc p = 1 := by
  rw [formPart, logLifecycle, logOrdinary_lc]
  exact State.lc_setLc _ h 1

theorem sealPart_lc (h : p < 16) (init : Nat) (cont : LogCont) (s : State) : (sealPart p init cont s).lc p = 2 := by
  rw [sealPart, logLifecycle, logOrdinary_lc]
  exact State.lc_setLc _ h 2

/-! A teardown. -/

theorem partitionReset_lc (h : s.lc p = 3) : (partitionReset p s).lc p = 3 := by
  have hReg : s.reg R.SMB_LIFECYCLE ≠ BitVec.ofNat 64 (resetNat R.SMB_LIFECYCLE) := by
    intro e
    have hGet : s.get F.SMB_LIFECYCLE_LC = 0 := by
      rw [State.get, e]
      decide
    simp [State.lc, hGet] at h
  rw [State.lc, partitionReset_get (by decide) (by decide) (by decide) ?_ hReg]
  · exact h
  · rw [show domainOf F.SMB_LIFECYCLE_LC.key = .mrw by decide]
    simp

theorem partitionReset_usable (h : s.usable ≠ 0) : (partitionReset p s).usable = s.usable := by
  refine partitionReset_get (by decide) (by decide) (by decide) ?_ ?_
  · rw [show domainOf F.MEMG_GRANULES_USABLE.key = .mrw by decide]
    simp
  · intro e
    refine h ?_
    rw [State.usable, State.get, e]
    decide

theorem startTear_eq {x : Tear} (h : x.record = true) (s : State) : startTear x s =
    (fun u : State => { u with trust := { u.trust with tears := u.trust.tears ++ [x] } })
      ((fun u : State => u.each (u.ownedBy? x.part) fun g t => t.setGran g (.releasing false x.part))
        (partitionReset x.part (logLifecycle x.part 3 (s.lc x.part) x.init .none (s.setLc x.part 3)))) := by
  rw [startTear, if_pos h]

theorem startTear_lc {x : Tear} (h : x.record = true) (hp : x.part < 16) (s : State) :
    (startTear x s).lc x.part = 3 := by
  have hStart : (logLifecycle x.part 3 (s.lc x.part) x.init .none (s.setLc x.part 3)).lc x.part = 3 := by
    rw [logLifecycle, logOrdinary_lc]
    exact State.lc_setLc _ hp 3
  rw [startTear_eq h]
  refine Eq.trans ?_ (partitionReset_lc hStart)
  exact State.each_eq (g := fun u : State => u.lc x.part) _ _ _ fun g _ t => by
    rw [State.lc, State.lc, State.get_setGran]

theorem startTear_tears {x : Tear} (h : x.record = true) (s : State) :
    (startTear x s).trust.tears = s.trust.tears ++ [x] := by
  rw [startTear_eq h]
  refine congrArg (· ++ [x]) ?_
  refine (congrArg TrustState.tears (State.each_eq (g := State.trust) _ _ _ fun g _ t => ?_)).trans ?_
  · rfl
  · rw [partitionReset_trust, logLifecycle, logOrdinary_trust, State.setLc, State.put_trust]

theorem startTear_gran {x : Tear} (h : x.record = true) {g : Nat} (hg : s.gran g = .owned x.part) :
    (startTear x s).gran g = .releasing false x.part := by
  obtain ⟨hLt, -⟩ := mem_granulesWhere (by simp) (by simp) hg
  have hLog : ∀ u, u = logLifecycle x.part 3 (s.lc x.part) x.init .none (s.setLc x.part 3) →
      (partitionReset x.part u).gran g = .owned x.part := by
    rintro u rfl
    have hUse : (logLifecycle x.part 3 (s.lc x.part) x.init .none (s.setLc x.part 3)).usable = s.usable := by
      rw [State.usable, logLifecycle, logOrdinary_get (by decide), State.setLc, State.get_put_key _ _ _ _ (by decide)]
      rfl
    have hReset := partitionReset_usable (p := x.part) (by rw [hUse]; omega)
    rw [State.gran, hReset, hUse, partitionReset_gran, logLifecycle, logOrdinary_xlt, State.setLc, State.put_xlt]
    exact hg
  obtain ⟨hIn, hMem⟩ := mem_granulesWhere (by simp) (by simp) (hLog _ rfl)
  rw [startTear_eq h]
  exact State.gran_each_setGran_of_mem (f := id) (by simp) hIn (by simpa [State.ownedBy?] using hMem)

/-! Runs of granules. -/

theorem State.runIs_iff {first count : Nat} {x : GState} :
    s.runIs first count x = true ↔ ∀ i < count, s.gran (first + i) = x := by
  simp [State.runIs]

/-- The granules of a run are given a state. -/
def setRun (first count : Nat) (x : GState) (s : State) : State :=
  s.each (List.range count) fun i t => t.setGran (first + i) x

theorem setRun_runIs {first count : Nat} {x y : GState} (hx : x ≠ .free) (hy : y ≠ .reserved)
    (h : s.runIs first count y = true) : (setRun first count x s).runIs first count x = true := by
  rw [State.runIs_iff] at h ⊢
  intro i hi
  refine State.gran_each_setGran_of_mem hx ?_ (List.mem_map_of_mem (List.mem_range.mpr hi))
  by_contra hOut
  exact hy ((h i hi).symm.trans (State.gran_eq_reserved_of_usable_le (by omega)))

theorem setRun_gran_outside {first count g : Nat} {x : GState} (hx : x ≠ .free) (h : g < first ∨ first + count ≤ g) :
    (setRun first count x s).gran g = s.gran g := by
  refine State.gran_each_setGran_of_notMem hx fun hMem => ?_
  obtain ⟨i, hi, e⟩ := List.mem_map.mp hMem
  have := List.mem_range.mp hi
  omega

theorem setRun_get (first count : Nat) (x : GState) (s : State) (f : Fld) : (setRun first count x s).get f = s.get f :=
  State.each_eq (g := fun u : State => u.get f) _ _ _ fun _ _ t => State.get_setGran t _ _ f

theorem setRun_trust (first count : Nat) (x : GState) (s : State) : (setRun first count x s).trust = s.trust :=
  State.each_eq (g := State.trust) _ _ _ fun _ _ _ => rfl

@[simp] theorem logOrdinary_runIs (type subject : Nat) (payload : List Byte) (cont : LogCont) (s : State)
    (first count : Nat) (x : GState) :
    (logOrdinary type subject payload cont s).runIs first count x = s.runIs first count x := by
  simp [State.runIs]

theorem startRelease_run (p first count : Nat) (req : Option StewReq) (ring : Option (Nat × Nat)) (s : State) :
    startRelease { part := p, first := first, count := count, left := (List.range count).map (fun i => first + i),
                   req := req, ring := ring } s =
      (fun u : State => { u with trust := { u.trust with releases := u.trust.releases ++
        [{ part := p, first := first, count := count, left := (List.range count).map (fun i => first + i),
           req := req, ring := ring }] } }) (setRun first count (.releasing false p) s) := by
  simp only [startRelease, setRun, State.each, List.foldl_map]

/-! Regions. -/

@[simp] theorem logOrdinary_region (type subject : Nat) (payload : List Byte) (cont : LogCont) (s : State) (n : Fin 16) :
    (logOrdinary type subject payload cont s).region n.val = s.region n.val :=
  logOrdinary_get (by revert n; decide) ..

theorem createRegion_spec (n : Fin 16) (cont : LogCont) (s : State) :
    (createRegion n.val cont s).region n.val = 1 ∧ (createRegion n.val cont s).get (F.XLT_SHR_GRANULES n.val) = 0 := by
  have hState : workKey (F.XLT_SHR_STATE n.val).key = false := by revert n; decide
  have hCount : workKey (F.XLT_SHR_GRANULES n.val).key = false := by revert n; decide
  constructor
  · simp [createRegion, logRegion, State.region, logOrdinary_get hState, State.get_put_of, State.get_put_self, Fld.ok,
      Fld.size]
  · simp [createRegion, logRegion, logOrdinary_get hCount, State.get_put_self, Fld.ok, Fld.size]

theorem setReaders_spec (n : Fin 16) (r : BitVec 16) (op : Nat) (cont : LogCont) (s : State) :
    (setReaders n.val r.toNat op cont s).region n.val = 2 ∧
      (setReaders n.val r.toNat op cont s).get (F.XLT_SHR_READERS n.val) = r.toNat := by
  have hState : workKey (F.XLT_SHR_STATE n.val).key = false := by revert n; decide
  have hReaders : workKey (F.XLT_SHR_READERS n.val).key = false := by revert n; decide
  constructor
  · simp [setReaders, logRegion, State.region, logOrdinary_get hState, State.get_put_of, State.get_put_self, Fld.ok,
      Fld.size]
  · simp only [setReaders, logRegion, logOrdinary_get hReaders]
    rw [State.get_put_self _ _ _ (by simp [Fld.ok])]
    exact Nat.mod_eq_of_lt r.isLt

theorem addRegion_region (n : Fin 16) (first count : Nat) (cont : LogCont) (s : State) :
    (addRegion n.val first count cont s).region n.val = s.region n.val := by
  have hRun := setRun_get first count (.shared n.val) s (F.XLT_SHR_STATE n.val)
  simp only [addRegion, logRegion, logOrdinary_region]
  rw [State.region, State.incr, State.get_put_of _ _ _ _ (by simp)]
  exact hRun

theorem addRegion_runIs (n : Fin 16) {first count : Nat} (cont : LogCont) (h : s.runIs first count .free = true) :
    (addRegion n.val first count cont s).runIs first count (.shared n.val) = true := by
  have hUse : F.MEMG_GRANULES_USABLE.key ≠ (F.XLT_SHR_GRANULES n.val).key := by revert n; decide
  have hPut : ∀ (u : State) (k g : Nat), (u.incr (F.XLT_SHR_GRANULES n.val) k).gran g = u.gran g := fun u k g => by
    rw [State.gran, State.usable, State.incr, State.get_put_key _ _ _ _ hUse, State.put_xlt]
    rfl
  have hRun := setRun_runIs (x := .shared n.val) (by simp) (by simp) h
  simp only [addRegion, logRegion, logOrdinary_runIs]
  simp only [State.runIs, hPut]
  exact hRun

theorem startWithdraw_gran {x : Withdraw} {g : Nat} (h : s.gran g = .shared x.region) :
    (startWithdraw x s).gran g = .releasing true x.region := by
  obtain ⟨hLt, hMem⟩ := mem_granulesWhere (by simp) (by simp) h
  exact State.gran_each_setGran_of_mem (f := id) (by simp) hLt (by simpa using hMem)

/-! Leases. -/

theorem setLease_press (new : Option Nat) (cont : LogCont) (s : State) :
    (setLease 0 new cont s).leases = { s.leases with press := new } := by
  have hCap : (capLeaseMoved s).leases = s.leases :=
    same_of_out (l := [.leases]) .leases (@capLeaseMoved_out _ .mem .mem .mem .any s)
  have hMoved : ∀ old (u : State), (pressMoved old new u).leases = u.leases := fun old u =>
    same_of_out (l := [.leases]) .leases (@pressMoved_out _ .mem .mem .mem .mem .mem .mem .mem .mem .any .any .any old new u)
  simp only [setLease, logOrdinary_leases, if_true]
  split
  next hSame => rw [hSame]; rfl
  next => simp only [hMoved, hCap]

theorem setLease_proof (new : Option Nat) (cont : LogCont) (s : State) :
    (setLease 1 new cont s).leases = { s.leases with proof := new } := by
  have hMoved : (proofMoved s).leases = s.leases :=
    same_of_out (l := [.leases]) .leases (@proofMoved_out _ .mem .mem .mem .any s)
  simp only [setLease, logOrdinary_leases, Nat.one_ne_zero, if_false]
  split
  next hSame => rw [hSame]; rfl
  next => simp only [hMoved]

theorem newHolder_fin (p : Fin 16) (s : State) :
    s.newHolder p.val = if s.lc p.val = 2 then some (some p.val) else none := by
  have h := p.isLt
  rw [State.newHolder, if_neg (by omega)]
  simp [h]

/-- Settles O57: each command's effect on the partitions, granules, regions and leases, and its refusals. -/
theorem stewardPartitionsAndRegions : Obligations.StewardPartitionsAndRegions := by
  have hFin : ∀ p : Fin 16, ¬16 ≤ p.val := fun p => by omega
  have hByte : ∀ p : Fin 16, p.val % 256 = p.val := fun p => by omega
  refine ⟨fun s q p hAsk hLog hMode hTrng hLc hPads => ⟨formPart p.val 0 (okCont (some q) 0x10) s, ?_,
      formPart_lc p.isLt _ _ _, ?_, ?_⟩,
    fun s q p hAsk => ⟨fun hp => ?_, fun hp hMode hTrng hLc => ?_, fun hp hMode => ?_⟩,
    fun s q p x i hRun hSess hFind hStew hTr hMail => ?_, fun s q p x i hRun hSess hFind hStew hHalt hMail => ?_,
    fun s q p hAsk hLog hLc hOwn => ⟨sealPart p.val 0 (okCont (some q) 0x11) s, ?_, sealPart_lc p.isLt _ _ _, ?_⟩,
    fun s q p hAsk hBad => ?_, fun s q p hAsk => ?_,
    fun s q p hAsk hLog hLc => ⟨startTear ⟨p.val, 0, true, some q, none⟩ s, ?_,
      startTear_lc (x := ⟨p.val, 0, true, some q, none⟩) rfl p.isLt s,
      fun g hg => startTear_gran (x := ⟨p.val, 0, true, some q, none⟩) rfl hg, startTear_tears rfl s⟩,
    fun s q p hAsk hForm hSeal => ?_,
    fun s q p g n hAsk hLog hRun hLc hFree =>
      ⟨assignGranules p.val g.toNat n.toNat (okCont (some q) 0x14) s, ?_, ?_, fun x hx => ?_⟩,
    fun s q p g n hAsk => ⟨fun hRun => ?_, fun hRun hFree => ?_⟩,
    fun s q p g n hAsk hLog hRun hOwn => ⟨startRelease ⟨p, g.toNat, n.toNat,
      (List.range n.toNat).map (fun i => g.toNat + i), some q, none⟩ s, ?_, ?_⟩,
    fun s q n hAsk hLog hTrng hNone => ⟨createRegion n.val (okCont (some q) 0x20) s, ?_, createRegion_spec n _ s⟩,
    fun s q n hAsk hBad => ?_,
    fun s q n g c hAsk hLog hRun hLoad hFree => ⟨addRegion n.val g.toNat c.toNat (okCont (some q) 0x21) s, ?_,
      addRegion_runIs n _ hFree, (addRegion_region n _ _ _ s).trans hLoad⟩,
    fun s q n off len h hAsk => ⟨fun hLoad => ?_, fun hLoad hLen => ?_⟩,
    fun s u q n off len d hAsk hLog hLoad hLen hData hFit hDone => ?_,
    fun s q n r hAsk hLog hLoad => ⟨setReaders n.val r.toNat 3 (okCont (some q) 0x23) s, ?_, setReaders_spec n r _ _ s⟩,
    fun s q n r hAsk hLog hPub => ⟨setReaders n.val r.toNat 4 (okCont (some q) 0x24) s, ?_, setReaders_spec n r _ _ s⟩,
    fun s q n r hAskP hAskR hAskW => ⟨fun hLoad => ?_, fun hPub => ⟨?_, ?_⟩⟩,
    fun s q n hAsk hLog hPub hNot => ⟨startWithdraw ⟨n.val, some q, none⟩ s, ?_, NSet.contains_ins_self _ _,
      fun g hg => startWithdraw_gran hg, ?_⟩,
    fun s q p hAsk hLog hLc => ⟨⟨setLease 0 (some p.val) (okCont (some q) 0x30) s, ?_, ?_⟩,
      ⟨setLease 1 (some p.val) (okCont (some q) 0x30) s, ?_, ?_⟩⟩,
    fun s q p hAsk hLc => ⟨?_, ?_⟩, fun s q p hAsk hStart hFull hLc hOwn => ?_⟩
  · show execPartForm q _ s = _
    exact steward_of_ok hAsk (by decide)
      (by simp [hByte, hFin, hMode, hTrng, hLc, hPads, logged_of_logsNow hLog])
  · simp [formPart, logLifecycle, State.setLc, drbgDraw]
  · simp [formPart, logLifecycle, State.setLc, drbgDraw]
  · show execPartForm q _ s = _
    exact steward_of_error hAsk (by decide) (e := (0x50, 6)) (by simp [hp, malformed])
  · show execPartForm q _ s = _
    exact steward_of_error hAsk (by decide) (e := (0x50, 2)) (by simp [hp, hMode, hTrng, hLc, malformed])
  · show execPartForm q _ s = _
    exact steward_of_error hAsk (by decide) (e := (0x50, 4)) (by simp [hp, hMode, malformed])
  · show execPartForm q _ s = _
    simp [execPartForm, steward, hMail, hSess, hFind, hStew, Option.isSome_iff_ne_none.mp hRun]
  · show execPartSeal q _ s = _
    simp [execPartSeal, steward, hMail, hSess, hFind, hStew, hHalt, Option.isSome_iff_ne_none.mp hRun]
  · show execPartSeal q _ s = _
    exact steward_of_ok hAsk (by decide) (by simp [hByte, hFin, hLc, hOwn, logged_of_logsNow hLog])
  · simp [sealPart, logLifecycle, State.setLc]
  · show execPartSeal q _ s = _
    exact steward_of_error hAsk (by decide) (e := (0x50, 2)) (by
      simp only [byte_toNat_of_fin, hFin, if_false, malformed]
      rw [if_pos (by simpa using hBad)])
  · show execPartReset q _ s = _
    split
    next hLc => exact steward_of_ok hAsk (by decide) (by simp [hByte, hFin, hLc, okNow])
    next hLc =>
      exact steward_of_error hAsk (by decide) (e := (0x50, 2)) (by simp [hByte, hFin, hLc, malformed])
  · show execPartTear q _ s = _
    exact steward_of_ok hAsk (by decide) (by simp [hByte, hFin, hLc, logged_of_logsNow hLog])
  · show execPartTear q _ s = _
    exact steward_of_error hAsk (by decide) (e := (0x50, 2)) (by
      simp [hByte, hFin, hForm, hSeal, malformed])
  · show execGranAssign q _ _ _ s = _
    exact steward_of_ok hAsk (by decide) (by
      simp [hByte, hFin, hRun, hLc, hFree, logged_of_logsNow hLog])
  · rw [assignGranules, logGranule, logOrdinary_runIs]
    exact setRun_runIs (by simp) (by simp) hFree
  · rw [assignGranules, logGranule, logOrdinary_gran]
    exact setRun_gran_outside (by simp) hx
  · show execGranAssign q _ _ _ s = _
    exact steward_of_error hAsk (by decide) (e := (0x50, 6)) (by simp [hRun, malformed])
  · show execGranAssign q _ _ _ s = _
    exact steward_of_error hAsk (by decide) (e := (0x50, 2)) (by
      simp [hByte, hFin, hRun, hFree, malformed])
  · have hPos : 0 < n.toNat := by
      simp only [State.runOk, Bool.and_eq_true, decide_eq_true_eq] at hRun
      omega
    have hFirst : s.gran g.toNat = .owned p := State.runIs_iff.mp hOwn 0 hPos
    show execGranRelease q _ _ s = _
    exact steward_of_ok hAsk (by decide) (by simp [hRun, hFirst, hOwn, logged_of_logsNow hLog])
  · rw [startRelease_run]
    refine ⟨setRun_runIs (by simp) (by simp) hOwn, ?_⟩
    simp [setRun_trust]
  · show execRegionCreate q _ s = _
    exact steward_of_ok hAsk (by decide) (by simp [hByte, hFin, hTrng, hNone, logged_of_logsNow hLog])
  · show execRegionCreate q _ s = _
    exact steward_of_error hAsk (by decide) (e := (0x50, if s.trust.trngFail then 5 else 2)) (by
      simp only [byte_toNat_of_fin, hFin, if_false, malformed]
      split
      next => rfl
      next hTrng => rw [if_pos (hBad.resolve_left hTrng)])
  · show execRegionAdd q _ _ _ s = _
    exact steward_of_ok hAsk (by decide) (by
      simp [hByte, hFin, hRun, hLoad, hFree, logged_of_logsNow hLog])
  · show execRegionLoad q _ _ _ _ _ s = _
    rw [execRegionLoad, if_neg (by simp)]
    exact steward_of_error hAsk (by decide) (e := (0x50, 2)) (by simp [hByte, hFin, hLoad, malformed])
  · show execRegionLoad q _ _ _ _ _ s = _
    rw [execRegionLoad, if_neg (by simp)]
    exact steward_of_error hAsk (by decide) (e := (0x50, 6)) (by
      simp [hByte, hFin, hLoad, hLen, malformed])
  · obtain ⟨hStart, hAcc⟩ := Bool.and_eq_true_iff.mp hLog
    have hRange : ¬(len = 0#64 ∨ (s.granulesWhere fun x => x == .shared n.val).length * 1073741824 <
        off.toNat + len.toNat) := fun h => h.elim hLen (Nat.not_lt.mpr hFit)
    show execRegionLoad q _ _ _ _ _ s = _
    rw [execRegionLoad, if_neg (by simp [hData])]
    exact steward_of_ok hAsk (by decide) (by
      simp [hByte, hFin, hLoad, hStart, hAcc, hDone, hRange])
  · show execRegionPublish q _ _ s = _
    exact steward_of_ok hAsk (by decide) (by simp [hByte, hFin, hLoad, logged_of_logsNow hLog])
  · show execRegionReaders q _ _ s = _
    exact steward_of_ok hAsk (by decide) (by simp [hByte, hFin, hPub, logged_of_logsNow hLog])
  · show execRegionPublish q _ _ s = _
    exact steward_of_error hAskP (by decide) (e := (0x50, 2)) (by simp [hByte, hFin, hLoad, malformed])
  · show execRegionReaders q _ _ s = _
    exact steward_of_error hAskR (by decide) (e := (0x50, 2)) (by simp [hByte, hFin, hPub, malformed])
  · show execRegionWithdraw q _ s = _
    exact steward_of_error hAskW (by decide) (e := (0x50, 2)) (by simp [hByte, hFin, hPub, malformed])
  · show execRegionWithdraw q _ s = _
    exact steward_of_ok hAsk (by decide) (by
      simp only [byte_toNat_of_fin, hFin, if_false, hPub, hNot, logged_of_logsNow hLog]
      simp)
  · have hEach : ∀ l : List Nat, (s.each l fun g t => t.setGran g (.releasing true n.val)).trust = s.trust := fun l =>
      State.each_eq (g := State.trust) _ _ _ fun _ _ _ => rfl
    simp [startWithdraw, hEach]
  · show execStewardLease q _ _ s = _
    exact steward_of_ok hAsk (by decide) (by
      simp [hByte, hFin, newHolder_fin, hLc, logged_of_logsNow hLog])
  · dsimp only
    rw [setLease_press]
    exact ⟨rfl, rfl⟩
  · show execStewardLease q _ _ s = _
    exact steward_of_ok hAsk (by decide) (by
      simp [hByte, hFin, newHolder_fin, hLc, logged_of_logsNow hLog])
  · dsimp only
    rw [setLease_proof]
    exact ⟨rfl, rfl⟩
  · show execStewardLease q _ _ s = _
    exact steward_of_error hAsk (by decide) (e := (0x50, 2)) (by
      simp [hByte, hFin, newHolder_fin, hLc, malformed])
  · show execStewardLease q _ _ s = _
    exact steward_of_error hAsk (by decide) (e := (0x50, 6)) (by simp [malformed])
  · show execPartSeal q _ s = _
    exact steward_of_ok hAsk (by decide) (by simp [hByte, hFin, hLc, hOwn, logged, hStart, hFull])

end Sys2Proof.Machine
end

section
/-! Ring configuration, doorbells, holds, RESUME and FLUSH (R333 to R354). -/

namespace Sys2Proof.Machine

variable {s t : State} {r : Nat}

/-! A ring's record and its registers. -/

@[simp] theorem State.get_setRing (s : State) (r : Nat) (x : Ring) (f : Fld) : (s.setRing r x).get f = s.get f := (rfl)

@[simp] theorem State.on_setRing (s : State) (r : Nat) (x : Ring) (f : Fld) : (s.setRing r x).on f = s.on f := (rfl)

@[simp] theorem State.ringState_setRing (s : State) (r : Nat) (x : Ring) (n : Nat) :
    (s.setRing r x).ringState n = s.ringState n := (rfl)

@[simp] theorem State.freeCtr_setRing (s : State) (r : Nat) (x : Ring) : (s.setRing r x).freeCtr = s.freeCtr := (rfl)

@[simp] theorem State.ring_setRing (s : State) (r : Nat) (x : Ring) : (s.setRing r x).ring r = x :=
  Tab.get_set_self _ _ _ _

theorem State.ringState_of_lt (h : r < 128) (s : State) :
    s.ringState r = s.get (F.PW_RING_STATUS_STATE (r / 8) (r % 8)) :=
  if_neg (by simp [smRing]; omega)

theorem setRingState_of_lt (h : r < 128) (st : Nat) (s : State) : setRingState r st s =
    if st = 2 then s.put (F.PW_RING_STATUS_STATE (r / 8) (r % 8)) st
    else (s.put (F.PW_RING_STATUS_STATE (r / 8) (r % 8)) st).put (F.PW_RING_STATUS_CAUSE (r / 8) (r % 8)) 0 :=
  if_neg (by simp [smRing]; omega)

theorem pauseRing_of_lt (h : r < 128) (cause : Nat) (s : State) : pauseRing r cause s =
    raisePart (r / 8) ⟨Ev.RING_PAUSE, r, cause, r / 8, 0⟩
      ((s.put (F.PW_RING_STATUS_STATE (r / 8) (r % 8)) 2).put (F.PW_RING_STATUS_CAUSE (r / 8) (r % 8)) cause) :=
  if_neg (by simp [smRing]; omega)

/-- The registers of a ring lie outside what an event writes. -/
theorem accKey_ring (h : r < 128) {k : Nat} (hLo : 0x100000000 + 0x10000 * (r / 8) + 0x100 * (r % 8) ≤ k)
    (hHi : k < 0x100000100 + 0x10000 * (r / 8) + 0x100 * (r % 8)) : accKey k = false := by
  refine accKey_window (by omega) ?_
  have : k % 0x10000 < 0x800 := by omega
  simp
  omega

theorem accKey_ringStatus (h : r < 128) : accKey (R.PW_RING_STATUS (r / 8) (r % 8)) = false :=
  accKey_ring h (by simp) (by simp)

theorem accKey_ringSqTail (h : r < 128) : accKey (R.PW_RING_SQ_TAIL (r / 8) (r % 8)) = false :=
  accKey_ring h (by simp) (by simp)

theorem rings_of_rest (h : t.rest = s.rest) : t.rings = s.rings := congrArg (fun r => r.2.rings) h

theorem pauseRing_rings (r cause : Nat) (s : State) : (pauseRing r cause s).rings = s.rings := by
  unfold pauseRing
  split
  · rfl
  · dsimp only
    rw [rings_of_rest (pauseEvent_rest ..), State.put_rings, State.put_rings]

theorem settleRing_of_ne (h : s.ringState r ≠ 3) : settleRing r s = s := if_neg fun hAll => h hAll.1

theorem retryHeld_of_none (h : (s.ring r).held = none) (fail : Bool) : retryHeld r fail s = s := by
  rw [retryHeld, h]

/-! Enabling and disabling. -/

@[simp] theorem State.ring_put (s : State) (f : Fld) (x : Nat) (r : Nat) : (s.put f x).ring r = s.ring r := (rfl)

/-- A ring whose EN has become 1, before the steward's hold is looked at. -/
def startRing (r : Nat) (s : State) : State :=
  let s := zeroIndices r (s.put (F.PW_RING_CFG_EN (r / 8) (r % 8)) 1)
  setRingState r 1 (s.setRing r { s.ring r with fetched := [] })

theorem startRing_ring (hr : r < 128) (s : State) : (startRing r s).ring r = { s.ring r with fetched := [] } := by
  have hZero : ∀ u : State, (zeroIndices r u).ring r = u.ring r := fun u => by
    simp only [zeroIndices, syncCqFull, State.putB, State.ring_put]
  rw [startRing, setRingState_of_lt hr, if_neg (by decide), State.ring_put, State.ring_put, State.ring_setRing, hZero,
    State.ring_put]

theorem enableRing_eq (hr : r < 128) (s : State) :
    enableRing r s = if (s.ring r).hold then pauseRing r 4 (startRing r s) else startRing r s := by
  have hHold := congrArg Ring.hold (startRing_ring hr s)
  show (if ((startRing r s).ring r).hold then pauseRing r 4 (startRing r s) else startRing r s) = _
  rw [hHold]

theorem startRing_pool (hr : r < 128) (s : State) : (startRing r s).pool = s.pool := by
  have hZero : ∀ u : State, (zeroIndices r u).pool = u.pool := fun u => by
    simp only [zeroIndices, syncCqFull, State.putB, State.put_pool]
  rw [startRing, setRingState_of_lt hr, if_neg (by decide), State.put_pool, State.put_pool, State.setRing, hZero,
    State.put_pool]

/-- A started ring: its registers one by one, the full queue's flag and the ring's record being of no account here. -/
theorem startRing_eq (hr : r < 128) (s : State) : ∃ full x, startRing r s =
    ((((((((s.put (F.PW_RING_CFG_EN (r / 8) (r % 8)) 1).put (F.PW_RING_SQ_HEAD_HEAD (r / 8) (r % 8)) 0).put
      (F.PW_RING_SQ_TAIL_TAIL (r / 8) (r % 8)) 0).put (F.PW_RING_CQ_TAIL_TAIL (r / 8) (r % 8)) 0).put
      (F.PW_RING_CQ_HEAD_HEAD (r / 8) (r % 8)) 0).put (F.PW_RING_STATUS_CQ_FULL (r / 8) (r % 8)) full).setRing r x).put
      (F.PW_RING_STATUS_STATE (r / 8) (r % 8)) 1).put (F.PW_RING_STATUS_CAUSE (r / 8) (r % 8)) 0 :=
  ⟨_, _, by rw [startRing, setRingState_of_lt hr, if_neg (by decide), zeroIndices, syncCqFull, State.putB]⟩

/-- What a started ring's registers read. -/
theorem startRing_reads (hr : r < 128) (s : State) :
    ((startRing r s).ringState r = 1 ∧ (startRing r s).sqHead r = 0 ∧ (startRing r s).sqTail r = 0 ∧
      (startRing r s).cqHead r = 0 ∧ (startRing r s).cqTail r = 0) ∧
    ((startRing r s).ringSize r = s.ringSize r ∧
      (startRing r s).get (F.PW_RING_CFG_CTX (r / 8) (r % 8)) = s.get (F.PW_RING_CFG_CTX (r / 8) (r % 8)) ∧
      (startRing r s).on (F.PW_RING_CFG_EN (r / 8) (r % 8)) = true) := by
  obtain ⟨full, x, h⟩ := startRing_eq hr s
  rw [h]
  simp [State.ringState_of_lt hr, State.sqHead, State.sqTail, State.cqHead, State.cqTail,
    State.ringSize, State.on, State.get_put_of, State.get_put_self, Fld.ok, Fld.size]

theorem pauseRing_get_ring (hr : r < 128) (cause : Nat) {f : Fld} (hk : accKey f.key = false) (s : State) :
    (pauseRing r cause s).get f = ((s.put (F.PW_RING_STATUS_STATE (r / 8) (r % 8)) 2).put
      (F.PW_RING_STATUS_CAUSE (r / 8) (r % 8)) cause).get f := by
  rw [pauseRing_of_lt hr, get_of_rest (pauseEvent_rest ..) hk]

/-- What a ring's registers read after a pause. -/
theorem pauseRing_reads (hr : r < 128) (cause : Nat) (s : State) :
    (pauseRing r cause s).ringState r = 2 ∧
      (pauseRing r cause s).get (F.PW_RING_STATUS_CAUSE (r / 8) (r % 8)) = cause % 32 ∧
      (pauseRing r cause s).sqTail r = s.sqTail r := by
  have hStatus : accKey (F.PW_RING_STATUS_STATE (r / 8) (r % 8)).key = false := accKey_ringStatus hr
  have hTail : accKey (F.PW_RING_SQ_TAIL_TAIL (r / 8) (r % 8)).key = false := accKey_ringSqTail hr
  refine ⟨?_, ?_, ?_⟩
  · rw [State.ringState_of_lt hr, pauseRing_get_ring hr _ hStatus]
    simp [State.get_put_of, State.get_put_self, Fld.ok, Fld.size]
  · have hCause : accKey (F.PW_RING_STATUS_CAUSE (r / 8) (r % 8)).key = false := hStatus
    rw [pauseRing_get_ring hr _ hCause]
    simp [State.get_put_self, Fld.ok, Fld.size]
  · rw [State.sqTail, State.sqTail, pauseRing_get_ring hr _ hTail]
    simp [State.get_put_of]

theorem pauseRing_ring (cause n : Nat) (s : State) : (pauseRing r cause s).ring n = s.ring n := by
  rw [State.ring, pauseRing_rings, State.ring]

/-- Disabling a ring that runs: EN goes, and the ring is idle at once when nothing of it is left. -/
theorem disableRing_reads (hr : r < 128) (s : State) :
    (disableRing r s).on (F.PW_RING_CFG_EN (r / 8) (r % 8)) = false ∧
      (disableRing r s).ringState r = (if (s.ring r).prog.isNone ∧ (s.ring r).held.isNone then 0 else 3) ∧
      (disableRing r s).rings = s.rings ∧ (disableRing r s).sqTail r = s.sqTail r := by
  have hStop : ∀ u, u = setRingState r 3 (s.put (F.PW_RING_CFG_EN (r / 8) (r % 8)) 0) →
      u.ringState r = 3 ∧ u.ring r = s.ring r ∧ u.rings = s.rings ∧
        u.on (F.PW_RING_CFG_EN (r / 8) (r % 8)) = false ∧ u.sqTail r = s.sqTail r := by
    rintro u rfl
    rw [setRingState_of_lt hr, if_neg (by decide)]
    simp [State.ringState_of_lt hr, State.sqTail, State.on, State.get_put_of, State.get_put_self, Fld.ok, Fld.size]
  obtain ⟨hState, hRing, hRings, hEn, hTail⟩ := hStop _ rfl
  unfold disableRing settleRing
  generalize setRingState r 3 _ = u at *
  simp only [hState, hRing, true_and]
  split
  next =>
    rw [setRingState_of_lt hr, if_neg (by decide)]
    refine ⟨?_, ?_, ?_, ?_⟩
    · rw [State.on_put_key _ _ (by simp), State.on_put_key _ _ (by simp), hEn]
    · simp [State.ringState_of_lt hr, State.get_put_of, State.get_put_self, Fld.ok, Fld.size]
    · rw [State.put_rings, State.put_rings, hRings]
    · rw [State.sqTail, State.get_put_key _ _ _ _ (by simp), State.get_put_key _ _ _ _ (by simp)]
      exact hTail
  next => exact ⟨hEn, hState, hRings, hTail⟩

/-! Completions, RESUME and FLUSH. -/

theorem resumeRing_free (hr : r < 128) (hState : s.ringState r = 2) (hHold : (s.ring r).hold = false)
    (hHeld : (s.ring r).held = none) (hEn : s.on (F.PW_RING_CFG_EN (r / 8) (r % 8)) = true) :
    resumeRing r s = (s.put (F.PW_RING_STATUS_STATE (r / 8) (r % 8)) 1).put (F.PW_RING_STATUS_CAUSE (r / 8) (r % 8)) 0 := by
  have hRun : setRingState r 1 s = (s.put (F.PW_RING_STATUS_STATE (r / 8) (r % 8)) 1).put
      (F.PW_RING_STATUS_CAUSE (r / 8) (r % 8)) 0 := by
    rw [setRingState_of_lt hr, if_neg (by decide)]
  have hGo : ¬(s.ringState r ≠ 2 ∨ (s.ring r).hold = true) := by simp [hState, hHold]
  rw [resumeRing, if_neg hGo, if_pos hEn, hRun]
  dsimp only
  rw [retryHeld_of_none (by rwa [State.ring_put, State.ring_put]), settleRing_of_ne]
  simp [State.ringState_of_lt hr, State.get_put_of, State.get_put_self, Fld.ok, Fld.size]

/-- A ring that RESUME takes up runs, and its queues are as they were. -/
theorem resumeRing_reads (hr : r < 128) (hState : s.ringState r = 2) (hHold : (s.ring r).hold = false)
    (hHeld : (s.ring r).held = none) (hEn : s.on (F.PW_RING_CFG_EN (r / 8) (r % 8)) = true) :
    (resumeRing r s).ringState r = 1 ∧ (resumeRing r s).get (F.PW_RING_STATUS_CAUSE (r / 8) (r % 8)) = 0 ∧
      (resumeRing r s).cqTail r = s.cqTail r := by
  rw [resumeRing_free hr hState hHold hHeld hEn]
  simp [State.ringState_of_lt hr, State.cqTail, State.get_put_of, State.get_put_self, Fld.ok, Fld.size]

theorem fetchAll_of_empty (h : s.sqHead r = s.sqTail r) (n : Nat) (host : List (List Byte)) :
    fetchAll r n host s = some s := by
  cases n with
  | zero => rfl
  | succ n => exact if_pos h

/-- A completion that neither signals nor pauses: it is written, and CQ_TAIL moves. -/
theorem completionWritten_quiet (hr : r < 128) {c : Completion} (hNotify : c.notify = false) (hPauses : c.pauses = false)
    (hState : s.ringState r ≠ 3) : completionWritten r c s =
      syncCqFull r ((s.setRing r { s.ring r with held := none }).incr (F.PW_RING_CQ_TAIL_TAIL (r / 8) (r % 8)) 1) := by
  have hSync : ∀ u : State, u.ringState r ≠ 3 → (syncCqFull r u).ringState r ≠ 3 := fun u hu => by
    rw [State.ringState_of_lt hr] at hu ⊢
    rwa [syncCqFull, State.putB, State.get_put_of _ _ _ _ (by simp)]
  simp only [completionWritten, hNotify, hPauses, Bool.false_and, Bool.false_eq_true, if_false]
  refine settleRing_of_ne (hSync _ ?_)
  rw [State.ringState_of_lt hr] at hState ⊢
  rwa [State.incr, State.get_put_key _ _ _ _ (by simp), State.get_setRing]

theorem postCompletion_host {c : Completion} (hFull : s.cqFull r = false)
    (hLoc : s.on (F.PW_RING_CQ_BASE_LOC (r / 8) (r % 8)) = true) (hUp : s.pwr.pcieUp = true) :
    postCompletion r c false s = completionWritten r c (s.host (.dma
      (s.get (F.PW_RING_CQ_BASE_ADDR (r / 8) (r % 8)) * 4096 + s.cqTail r % s.ringSize r * 32)
      (completionBytes (s.ringSize r) s.now c))) := by
  simp [postCompletion, hFull, hLoc, hUp]

/-- Conditions under which a ring's flushed entry completes into its host queue at once, without a signal. -/
structure DrainsNow (r : Nat) (s : State) : Prop where
  full : s.cqFull r = false
  host : s.on (F.PW_RING_CQ_BASE_LOC (r / 8) (r % 8)) = true
  up : s.pwr.pcieUp = true
  paused : s.ringState r = 2
  prog : (s.ring r).prog = none
  held : (s.ring r).held = none

/-- The completion of an entry that a flush ends, written to its host queue. -/
def flushedEntry (r : Nat) (e : EntryCopy) (s : State) : HostOut :=
  .dma (s.get (F.PW_RING_CQ_BASE_ADDR (r / 8) (r % 8)) * 4096 + s.cqTail r % s.ringSize r * 32)
    (completionBytes (s.ringSize r) s.now (unstarted e 0x51 0 0 s))

/-- The state in which the one flushed entry of a ring has completed. -/
def drained (r : Nat) (e : EntryCopy) (s : State) : State :=
  let s := (s.setRing r { s.ring r with fetched := [], consec := 0 }).draw.host (flushedEntry r e s)
  syncCqFull r ((s.setRing r { s.ring r with held := none }).incr (F.PW_RING_CQ_TAIL_TAIL (r / 8) (r % 8)) 1)

theorem drainFlushed_one (hr : r < 128) {e : EntryCopy} (h : DrainsNow r s) (hFetched : (s.ring r).fetched = [e])
    (hBad : e.bad = some (0x51, 0)) (hNotify : bit e.w0 9 = false) : drainFlushed r 1 s = drained r e s := by
  obtain ⟨hFull, hLoc, hUp, hState, hProg, hHeld⟩ := h
  have hPost : completeUnstarted r e 0x51 0 0 s = drained r e s := by
    rw [completeUnstarted, postCompletion_host (by exact hFull) (by exact hLoc) (by exact hUp),
      completionWritten_quiet hr (by exact hNotify) rfl ?_]
    · simp only [hFetched]
      rfl
    · show s.ringState r ≠ 3
      omega
  unfold drainFlushed
  simp only [hFetched, hProg, hHeld, hFull, hBad, Option.isSome_none, Option.isNone_some, Bool.or_self, Bool.false_eq_true,
    if_false, Option.getD_some, hPost, drainFlushed]

theorem drained_reads (hr : r < 128) (e : EntryCopy) (s : State) :
    (drained r e s).ring r = { s.ring r with fetched := [], consec := 0, held := none } ∧
      (drained r e s).ringState r = s.ringState r ∧ (drained r e s).cqTail r = (s.cqTail r + 1) % 2 ^ 32 ∧
      (drained r e s).on (F.PW_RING_CFG_EN (r / 8) (r % 8)) = s.on (F.PW_RING_CFG_EN (r / 8) (r % 8)) ∧
      (drained r e s).hostOut = s.hostOut ++ [flushedEntry r e s] := by
  unfold drained
  dsimp only
  have hGet : ∀ f, ((s.setRing r { s.ring r with fetched := [], consec := 0 }).draw.host (flushedEntry r e s)).get f =
      s.get f := fun f => rfl
  have hRing : ((s.setRing r { s.ring r with fetched := [], consec := 0 }).draw.host (flushedEntry r e s)).ring r =
      { s.ring r with fetched := [], consec := 0 } := State.ring_setRing ..
  have hOut : ((s.setRing r { s.ring r with fetched := [], consec := 0 }).draw.host (flushedEntry r e s)).hostOut =
      s.hostOut ++ [flushedEntry r e s] := rfl
  generalize (s.setRing r { s.ring r with fetched := [], consec := 0 }).draw.host (flushedEntry r e s) = u at *
  have hEnd : ∀ v : State, v.rings = (u.setRing r { u.ring r with held := none }).rings →
      v.ring r = { s.ring r with fetched := [], consec := 0, held := none } := fun v hv => by
    rw [State.ring, hv, ← State.ring, State.ring_setRing, hRing]
  refine ⟨hEnd _ ?_, ?_, ?_, ?_, ?_⟩
  · rw [syncCqFull, State.putB_rings, State.incr, State.put_rings]
  · rw [State.ringState_of_lt hr, State.ringState_of_lt hr, ← hGet]
    simp [syncCqFull, State.putB, State.incr, State.get_put_of]
  · rw [State.cqTail, State.cqTail, ← hGet]
    simp [syncCqFull, State.putB, State.incr, State.get_put_of, State.get_put_self, Fld.ok, Fld.size]
  · rw [State.on, State.on, ← hGet]
    simp [syncCqFull, State.putB, State.incr, State.get_put_of]
  · rw [syncCqFull, State.putB_hostOut, State.incr, State.put_hostOut]
    exact hOut

/-! The commands. -/

theorem exec_of_window {c : Instr} {f : State → State} (hExec : exec c s = inWindow r f s)
    (h : s.window (r / 8) = true) : exec c s = .next (f s) :=
  hExec.trans (if_pos h)

theorem exec_of_shut {c : Instr} {f : State → State} (hExec : exec c s = inWindow r f s)
    (h : s.window (r / 8) = false) : exec c s = .next s :=
  hExec.trans (if_neg (by simp [h]))

theorem exec_ringEnable (r : Fin 128) (ctx : BitVec 12) (size : BitVec 5) (s : State) :
    exec (.ringEnable r ctx size) s = inWindow r.val (ringCfgWrite r.val true ctx.toNat size.toNat) s :=
  (rfl)

theorem exec_ringDisable (r : Fin 128) (s : State) :
    exec (.ringDisable r) s = inWindow r.val (ringCfgWrite r.val false (s.get (F.PW_RING_CFG_CTX (r.val / 8) (r.val % 8)))
      (s.get (F.PW_RING_CFG_LOG2SIZE (r.val / 8) (r.val % 8)))) s :=
  (rfl)

theorem exec_ringConfigWrite_sq (r : Fin 128) (v : W64) (s : State) :
    exec (.ringConfigWrite r 0 v) s = inWindow r.val (ringBaseWrite r.val false v.toNat) s := by
  show execRingConfigWrite r 0 v s = _
  simp [execRingConfigWrite]

theorem exec_ringConfigWrite_cq (r : Fin 128) (v : W64) (s : State) :
    exec (.ringConfigWrite r 1 v) s = inWindow r.val (ringBaseWrite r.val true v.toNat) s := by
  show execRingConfigWrite r 1 v s = _
  simp [execRingConfigWrite]

theorem exec_doorbell (r : Fin 128) (t : W32) (s : State) :
    exec (.doorbell r t) s = inWindow r.val (applyDoorbell r.val t.toNat) s :=
  (rfl)

theorem exec_cqHeadWrite (r : Fin 128) (v : W32) (s : State) :
    exec (.cqHeadWrite r v) s = inWindow r.val (cqHeadWrite r.val v.toNat) s :=
  (rfl)

theorem exec_ringResume (r : Fin 128) (s : State) : exec (.ringResume r) s = inWindow r.val (resumeRing r.val) s := (rfl)

theorem exec_ringFlush (r : Fin 128) (host : List (List Byte)) (s : State) :
    exec (.ringFlush r host) s = inWindow r.val (flushRing r.val host) s :=
  (rfl)

/-- CFG is written with the ring's CTX and a size. -/
def ringCfg (r ctx size : Nat) (s : State) : State :=
  (s.put (F.PW_RING_CFG_CTX (r / 8) (r % 8)) ctx).put (F.PW_RING_CFG_LOG2SIZE (r / 8) (r % 8))
    (if 6 ≤ size ∧ size ≤ 16 then size else s.get (F.PW_RING_CFG_LOG2SIZE (r / 8) (r % 8)))

theorem ringCfg_reads {ctx size : Nat} (hCtx : ctx < 4096) (hLo : 6 ≤ size) (hHi : size ≤ 16) (s : State) :
    (ringCfg r ctx size s).ringSize r = 2 ^ size ∧
      (ringCfg r ctx size s).get (F.PW_RING_CFG_CTX (r / 8) (r % 8)) = ctx := by
  rw [ringCfg, if_pos ⟨hLo, hHi⟩, State.ringSize, State.get_put_self _ _ _ (by simp [Fld.ok]),
    State.get_put_of _ _ _ _ (by simp), State.get_put_self _ _ _ (by simp [Fld.ok])]
  exact ⟨congrArg (2 ^ ·) (Nat.mod_eq_of_lt (by simp only [Fld.size]; omega)), Nat.mod_eq_of_lt hCtx⟩

theorem ringCfgWrite_enable_eq (hr : r < 128) (hState : s.ringState r = 0)
    (hEn : s.on (F.PW_RING_CFG_EN (r / 8) (r % 8)) = false) (ctx size : Nat) :
    ringCfgWrite r true ctx size s = if (s.ring r).hold then pauseRing r 4 (startRing r (ringCfg r ctx size s))
      else startRing r (ringCfg r ctx size s) := by
  have hWrite : ringCfgWrite r true ctx size s = enableRing r (ringCfg r ctx size s) := by
    simp [ringCfgWrite, ringCfg, hState, hEn]
  have hRing : (ringCfg r ctx size s).ring r = s.ring r := by rw [ringCfg, State.ring_put, State.ring_put]
  rw [hWrite, enableRing_eq hr, hRing]

theorem ringEnable_free (hr : r < 128) {ctx size : Nat} (hState : s.ringState r = 0)
    (hEn : s.on (F.PW_RING_CFG_EN (r / 8) (r % 8)) = false) (hHold : (s.ring r).hold = false) (hCtx : ctx < 4096)
    (hLo : 6 ≤ size) (hHi : size ≤ 16) : ∃ t, ringCfgWrite r true ctx size s = t ∧
      t.ringState r = 1 ∧ t.sqHead r = 0 ∧ t.sqTail r = 0 ∧ t.cqHead r = 0 ∧ t.cqTail r = 0 ∧
      t.ringSize r = 2 ^ size ∧ t.get (F.PW_RING_CFG_CTX (r / 8) (r % 8)) = ctx ∧
      t.on (F.PW_RING_CFG_EN (r / 8) (r % 8)) = true ∧ (t.ring r).fetched = [] ∧ t.pool = s.pool := by
  obtain ⟨⟨hRun, hSqHead, hSqTail, hCqHead, hCqTail⟩, hSize, hKept, hEnd⟩ := startRing_reads hr (ringCfg r ctx size s)
  obtain ⟨hCfgSize, hCfgCtx⟩ := ringCfg_reads (r := r) hCtx hLo hHi s
  refine ⟨startRing r (ringCfg r ctx size s), ?_, hRun, hSqHead, hSqTail, hCqHead, hCqTail, hSize.trans hCfgSize,
    hKept.trans hCfgCtx, hEnd, ?_, ?_⟩
  · rw [ringCfgWrite_enable_eq hr hState hEn, hHold, if_neg Bool.false_ne_true]
  · rw [startRing_ring hr]
  · rw [startRing_pool hr, ringCfg, State.put_pool, State.put_pool]

theorem ringEnable_held (hr : r < 128) (ctx size : Nat) (hState : s.ringState r = 0)
    (hEn : s.on (F.PW_RING_CFG_EN (r / 8) (r % 8)) = false) (hHold : (s.ring r).hold = true) :
    ∃ t, ringCfgWrite r true ctx size s = t ∧ t.ringState r = 2 ∧
      t.get (F.PW_RING_STATUS_CAUSE (r / 8) (r % 8)) = 4 ∧ t.sqTail r = 0 := by
  obtain ⟨hPaused, hCause, hTail⟩ := pauseRing_reads hr 4 (startRing r (ringCfg r ctx size s))
  obtain ⟨⟨-, -, hZero, -, -⟩, -⟩ := startRing_reads hr (ringCfg r ctx size s)
  refine ⟨pauseRing r 4 (startRing r (ringCfg r ctx size s)), ?_, hPaused, hCause, hTail.trans hZero⟩
  rw [ringCfgWrite_enable_eq hr hState hEn, if_pos hHold]

theorem ringDisable_eq (hState : s.ringState r = 1) (hEn : s.on (F.PW_RING_CFG_EN (r / 8) (r % 8)) = true)
    (hLo : 6 ≤ s.get (F.PW_RING_CFG_LOG2SIZE (r / 8) (r % 8)))
    (hHi : s.get (F.PW_RING_CFG_LOG2SIZE (r / 8) (r % 8)) ≤ 16) :
    ringCfgWrite r false (s.get (F.PW_RING_CFG_CTX (r / 8) (r % 8))) (s.get (F.PW_RING_CFG_LOG2SIZE (r / 8) (r % 8))) s =
      disableRing r s := by
  have hCtx : s.get (F.PW_RING_CFG_CTX (r / 8) (r % 8)) % 4096 = s.get (F.PW_RING_CFG_CTX (r / 8) (r % 8)) :=
    Nat.mod_eq_of_lt (State.get_lt s (F.PW_RING_CFG_CTX (r / 8) (r % 8)))
  simp [ringCfgWrite, hState, hLo, hHi, hCtx, hEn]

/-- A base takes its address and location from the written word. -/
theorem ringBase_reads {a l : Fld} (hHi : a.hi = 63) (hLo : a.lo = 12) (hLoc : l.hi = 0 ∧ l.lo = 0)
    (v : W64) (s : State) : ((s.put a (bits v.toNat 63 12)).put l (v.toNat % 2)).get a = v.toNat / 4096 ∧
      ((s.put a (bits v.toNat 63 12)).put l (v.toNat % 2)).get l = v.toNat % 2 := by
  obtain ⟨hHi', hLo'⟩ := hLoc
  have hv := v.isLt
  constructor
  · rw [State.get_put_of _ _ _ _ (by omega), State.get_put_self _ _ _ (by simp only [Fld.ok]; omega)]
    simp only [bits, Fld.size, hHi, hLo]
    omega
  · rw [State.get_put_self _ _ _ (by simp only [Fld.ok]; omega)]
    simp only [Fld.size, hHi', hLo']
    omega

theorem applyDoorbell_moves (hState : s.ringState r = 1) {n : Nat} (hNe : sub32 n (s.sqTail r) ≠ 0)
    (hLt : sub32 n (s.sqTail r) < 2147483648) (hFit : sub32 n (s.sqHead r) ≤ s.ringSize r) :
    applyDoorbell r n s = s.put (F.PW_RING_SQ_TAIL_TAIL (r / 8) (r % 8)) n := by
  simp [applyDoorbell, hState, hNe, Nat.not_le.mpr hLt, hFit]

theorem applyDoorbell_past (hState : s.ringState r = 1) {n : Nat} (hNe : sub32 n (s.sqTail r) ≠ 0)
    (hLt : sub32 n (s.sqTail r) < 2147483648) (hPast : s.ringSize r < sub32 n (s.sqHead r)) :
    applyDoorbell r n s = pauseRing r 2 s := by
  simp [applyDoorbell, hState, hNe, Nat.not_le.mpr hLt, Nat.not_le.mpr hPast]

/-- CQ_HEAD frees its space when no completion is held. -/
theorem cqHeadWrite_reads {n : Nat} (hn : n < 2 ^ 32) (hFit : sub32 (s.cqTail r) n ≤ s.ringSize r)
    (hHeld : (s.ring r).held = none) : (cqHeadWrite r n s).cqHead r = n ∧
      (cqHeadWrite r n s).on (F.PW_RING_STATUS_CQ_FULL (r / 8) (r % 8)) = (sub32 (s.cqTail r) n == s.ringSize r) ∧
      (cqHeadWrite r n s).rings = s.rings := by
  have hFull : (s.put (F.PW_RING_CQ_HEAD_HEAD (r / 8) (r % 8)) n).cqFull r = (sub32 (s.cqTail r) n == s.ringSize r) := by
    rw [State.cqFull, State.cqTail, State.cqHead, State.ringSize, State.get_put_key _ _ _ _ (by simp),
      State.get_put_self _ _ _ (by simp [Fld.ok]), State.get_put_key _ _ _ _ (by simp)]
    simp only [Fld.size]
    rw [Nat.mod_eq_of_lt hn, State.cqTail, State.ringSize]
  rw [cqHeadWrite, if_neg (Nat.not_lt.mpr hFit), retryHeld_of_none (by rwa [syncCqFull, State.ring, State.putB_rings,
    State.put_rings]), syncCqFull, hFull]
  refine ⟨?_, ?_, by rw [State.putB_rings, State.put_rings]⟩
  · rw [State.cqHead, State.putB, State.get_put_key _ _ _ _ (by simp), State.get_put_self _ _ _ (by simp [Fld.ok])]
    exact Nat.mod_eq_of_lt hn
  · rw [State.putB, State.on_put_self _ _ (by simp [Fld.ok])]
    cases sub32 (s.cqTail r) n == s.ringSize r <;> rfl

theorem bindRing_reads (h : s.ringState r = 0) (v : Nat) : bindRing r v s =
    (s.put (F.RING_BIND_CLUSTER r) (bits v 5 4)).put (F.RING_BIND_CORE r) (bits v 3 0) :=
  if_pos h

theorem holdRing_running (h : s.ringState r = 1) :
    holdRing r s = pauseRing r 4 (s.setRing r { s.ring r with hold := true }) :=
  if_pos (Or.inl h)

/-- The fetched entries of a ring are to complete RING_PAUSED. -/
def markFlushed (x : Ring) : Ring := { x with fetched := x.fetched.map fun e => { e with bad := some (0x51, 0) } }

theorem flushRing_fetched (host : List (List Byte)) (hState : s.ringState r = 2) (hHold : (s.ring r).hold = false)
    (hEmpty : s.sqHead r = s.sqTail r) : flushRing r host s =
      resumeRing r (drainFlushed r (s.ring r).fetched.length (s.setRing r (markFlushed (s.ring r)))) := by
  have hGo : ¬(s.ringState r ≠ 2 ∨ (s.ring r).hold = true) := by simp [hState, hHold]
  rw [flushRing, if_neg hGo, fetchAll_of_empty hEmpty]
  rfl

/-- FLUSH of a ring with nothing to complete resumes it. -/
theorem flushRing_empty (hr : r < 128) (host : List (List Byte)) (hState : s.ringState r = 2)
    (hHold : (s.ring r).hold = false) (hHeld : (s.ring r).held = none) (hFetched : (s.ring r).fetched = [])
    (hEmpty : s.sqHead r = s.sqTail r) (hEn : s.on (F.PW_RING_CFG_EN (r / 8) (r % 8)) = true) :
    (flushRing r host s).ringState r = 1 ∧ (flushRing r host s).cqTail r = s.cqTail r ∧
      (flushRing r host s).hostOut = s.hostOut := by
  have hHold' : (markFlushed (s.ring r)).hold = false := hHold
  have hHeld' : (markFlushed (s.ring r)).held = none := hHeld
  rw [flushRing_fetched host hState hHold hEmpty, hFetched, List.length_nil, drainFlushed]
  generalize markFlushed (s.ring r) = x at *
  rw [← State.ring_setRing s r x] at hHold' hHeld'
  rw [← State.ringState_setRing s r x] at hState
  rw [← State.on_setRing s r x] at hEn
  obtain ⟨hRun, -, hSame⟩ := resumeRing_reads hr hState hHold' hHeld' hEn
  refine ⟨hRun, hSame.trans ?_, ?_⟩
  · rw [State.cqTail, State.get_setRing, State.cqTail]
  · rw [resumeRing_free hr hState hHold' hHeld' hEn, State.put_hostOut, State.put_hostOut, State.setRing]

/-- What a flushed entry's completion depends on is not in the ring's record. -/
theorem flushedEntry_setRing (e : EntryCopy) (bad : Option (Nat × Nat)) (x : Ring) (s : State) :
    flushedEntry r { e with bad := bad } (s.setRing r x) = flushedEntry r e s := by
  simp only [flushedEntry, State.get_setRing, State.cqTail, State.ringSize, State.now, unstarted, EntryCopy.w0,
    State.freeCtr_setRing]

theorem DrainsNow.setRing {x : Ring} (h : DrainsNow r s) (hProg : x.prog = none) (hHeld : x.held = none) :
    DrainsNow r (s.setRing r x) where
  full := by simpa [State.cqFull, State.cqTail, State.cqHead, State.ringSize] using h.full
  host := by simpa using h.host
  up := h.up
  paused := by simpa using h.paused
  prog := by simpa using hProg
  held := by simpa using hHeld

/-- FLUSH of a ring with one entry completes it into the host's queue and resumes the ring. -/
theorem flushRing_one (hr : r < 128) (host : List (List Byte)) {e : EntryCopy} (h : DrainsNow r s)
    (hHold : (s.ring r).hold = false) (hFetched : (s.ring r).fetched = [e])
    (hEmpty : s.sqHead r = s.sqTail r) (hEn : s.on (F.PW_RING_CFG_EN (r / 8) (r % 8)) = true)
    (hNotify : bit e.w0 9 = false) :
    (flushRing r host s).ringState r = 1 ∧ ((flushRing r host s).ring r).fetched = [] ∧
      (flushRing r host s).cqTail r = (s.cqTail r + 1) % 2 ^ 32 ∧
      (flushRing r host s).hostOut = s.hostOut ++ [flushedEntry r e s] := by
  have hMark : (markFlushed (s.ring r)).fetched = [{ e with bad := some (0x51, 0) }] := by
    rw [markFlushed, hFetched]
    rfl
  have hHold' : (markFlushed (s.ring r)).hold = false := hHold
  have hDrains : DrainsNow r (s.setRing r (markFlushed (s.ring r))) := h.setRing h.prog h.held
  rw [flushRing_fetched host h.paused hHold hEmpty, hFetched, List.length_singleton]
  generalize markFlushed (s.ring r) = x at *
  rw [← State.ring_setRing s r x] at hMark
  rw [drainFlushed_one hr hDrains hMark rfl hNotify]
  obtain ⟨hRing, hState, hTail, hEnd, hOut⟩ := drained_reads hr { e with bad := some (0x51, 0) } (s.setRing r x)
  rw [State.ring_setRing] at hRing
  rw [State.ringState_setRing, h.paused] at hState
  rw [State.on_setRing, hEn] at hEnd
  rw [flushedEntry_setRing] at hOut
  rw [State.cqTail, State.cqTail, State.get_setRing] at hTail
  generalize drained r { e with bad := some (0x51, 0) } (s.setRing r x) = u at *
  have hHoldU : (u.ring r).hold = false := by rw [hRing]; exact hHold'
  have hHeldU : (u.ring r).held = none := by rw [hRing]
  obtain ⟨hRun, -, hKept⟩ := resumeRing_reads hr hState hHoldU hHeldU hEnd
  refine ⟨hRun, ?_, hKept.trans hTail, ?_⟩ <;> rw [resumeRing_free hr hState hHoldU hHeldU hEnd]
  · rw [State.ring_put, State.ring_put, hRing]
  · rw [State.put_hostOut, State.put_hostOut, hOut, State.setRing]

/-- Settles O35: a ring's configuration, its doorbells, its holds and pauses, RESUME, FLUSH and CQ_HEAD. -/
theorem ringControl : Obligations.RingControl := by
  refine ⟨fun s r ctx size x v t hShut => ?_, fun s r ctx size hWin hState hEn hHold hLo hHi => ?_,
    fun s r ctx size hWin hState hEn hHold => ?_, fun s r hWin hState hEn hLo hHi => ?_,
    fun s r v hWin hState => ⟨?_, ?_⟩, fun s r v hWin hState => ⟨?_, ?_⟩,
    fun s n v hState => ?_, fun s n v hState => ?_,
    fun s r t hWin hState hNe hLt hFit => ?_, fun s r t hWin hState hStale => ?_,
    fun s r t hWin hState hNe hLt hPast => ?_, fun s r t hWin hState => ?_,
    fun s n hState => ?_, fun s n => ?_,
    fun s r hWin hState hHold hHeld hEn => ?_, fun s r hWin hState => ?_,
    fun s r hWin hState hHold hHeld hFetched hEmpty hEn => ?_,
    fun s r e hWin hState hHold hHeld hProg hFetched hEmpty hFull hEn hLoc hUp hNotify => ?_,
    fun s r v hWin hFit hHeld => ?_, fun s r v hWin hPast => ?_⟩
  · have hConfig : exec (.ringConfigWrite r x v) s = .next s := if_neg (by simp [hShut])
    exact ⟨exec_of_shut (exec_ringEnable ..) hShut, exec_of_shut (exec_ringDisable ..) hShut, hConfig,
      exec_of_shut (exec_doorbell ..) hShut, exec_of_shut (exec_cqHeadWrite ..) hShut,
      exec_of_shut (exec_ringResume ..) hShut, exec_of_shut (exec_ringFlush ..) hShut⟩
  · obtain ⟨t, hWrite, hReads⟩ := ringEnable_free r.isLt hState hEn hHold ctx.isLt hLo hHi
    exact ⟨t, by rw [exec_of_window (exec_ringEnable ..) hWin, hWrite], hReads⟩
  · obtain ⟨t, hWrite, hReads⟩ := ringEnable_held r.isLt ctx.toNat size.toNat hState hEn hHold
    exact ⟨t, by rw [exec_of_window (exec_ringEnable ..) hWin, hWrite], hReads⟩
  · exact ⟨_, by rw [exec_of_window (exec_ringDisable ..) hWin, ringDisable_eq hState hEn hLo hHi],
      disableRing_reads r.isLt s⟩
  · obtain ⟨hAddr, hLoc⟩ := ringBase_reads (a := F.PW_RING_SQ_BASE_ADDR (r.val / 8) (r.val % 8))
      (l := F.PW_RING_SQ_BASE_LOC (r.val / 8) (r.val % 8)) rfl rfl ⟨rfl, rfl⟩ v s
    refine ⟨_, by rw [exec_of_window (exec_ringConfigWrite_sq ..) hWin, ringBaseWrite, if_neg (not_not.mpr hState),
      if_neg Bool.false_ne_true], hAddr, hLoc, ?_⟩
    rw [State.put_rings, State.put_rings]
  · obtain ⟨hAddr, hLoc⟩ := ringBase_reads (a := F.PW_RING_CQ_BASE_ADDR (r.val / 8) (r.val % 8))
      (l := F.PW_RING_CQ_BASE_LOC (r.val / 8) (r.val % 8)) rfl rfl ⟨rfl, rfl⟩ v s
    exact ⟨_, by rw [exec_of_window (exec_ringConfigWrite_cq ..) hWin, ringBaseWrite, if_neg (not_not.mpr hState),
      if_pos rfl], hAddr, hLoc⟩
  · rw [exec_of_window (exec_ringConfigWrite_sq ..) hWin, ringBaseWrite, if_pos hState]
  · rw [exec_of_window (exec_ringConfigWrite_cq ..) hWin, ringBaseWrite, if_pos hState]
  · refine ⟨_, congrArg Host.Outcome.next (bindRing_reads hState v.toNat), ?_⟩
    refine ⟨?_, ?_, by rw [State.put_rings, State.put_rings]⟩
    · rw [State.get_put_of _ _ _ _ (by simp), State.get_put_self _ _ _ (by simp [Fld.ok])]
      simp only [bits, Fld.size]
      omega
    · rw [State.get_put_self _ _ _ (by simp [Fld.ok])]
      simp only [bits, Fld.size]
      omega
  · exact congrArg Host.Outcome.next (if_neg hState)
  · refine ⟨_, by rw [exec_of_window (exec_doorbell ..) hWin, applyDoorbell_moves hState hNe hLt hFit],
      ?_, ?_, ?_, by rw [State.put_rings], by rw [State.put_evt]⟩
    · rw [State.sqTail, State.get_put_self _ _ _ (by simp [Fld.ok])]
      exact Nat.mod_eq_of_lt t.isLt
    · rw [State.sqHead, State.get_put_key _ _ _ _ (by simp), State.sqHead]
    · rw [State.ringState_of_lt r.isLt, State.get_put_key _ _ _ _ (by simp), ← State.ringState_of_lt r.isLt, hState]
  · have hGo : ¬(s.ringState r.val ≠ 1 ∧ s.ringState r.val ≠ 2) := by omega
    have hSome : ¬sub32 t.toNat (s.sqTail r.val) = 0 := by omega
    rw [exec_of_window (exec_doorbell ..) hWin, applyDoorbell, if_neg hGo]
    dsimp only
    rw [if_neg hSome, if_pos hStale]
  · obtain ⟨hPaused, hCause, hTail⟩ := pauseRing_reads r.isLt 2 s
    exact ⟨_, by rw [exec_of_window (exec_doorbell ..) hWin, applyDoorbell_past hState hNe hLt hPast], hTail, hPaused, hCause⟩
  · have hNot : s.ringState r.val ≠ 1 ∧ s.ringState r.val ≠ 2 := by omega
    rw [exec_of_window (exec_doorbell ..) hWin, applyDoorbell, if_pos hNot]
  · obtain ⟨hPaused, hCause, -⟩ := pauseRing_reads n.isLt 4 (s.setRing n.val { s.ring n.val with hold := true })
    refine ⟨_, congrArg Host.Outcome.next (holdRing_running hState), ?_, hPaused, hCause, ?_⟩
    · rw [pauseRing_ring, State.ring_setRing]
    · rw [State.prog, pauseRing_ring, State.ring_setRing, State.prog]
  · refine ⟨s.setRing n.val { s.ring n.val with hold := false }, rfl, ?_, State.ringState_setRing .., ?_, rfl⟩
    · rw [State.ring_setRing]
    · rw [State.prog, State.ring_setRing, State.prog]
  · obtain ⟨hRun, hCause, -⟩ := resumeRing_reads r.isLt hState hHold hHeld hEn
    refine ⟨_, exec_of_window (exec_ringResume ..) hWin, hRun, hCause, ?_, ?_⟩ <;>
      rw [resumeRing_free r.isLt hState hHold hHeld hEn]
    · rw [State.put_rings, State.put_rings]
    · rw [State.put_evt, State.put_evt]
  · rw [exec_of_window (exec_ringResume ..) hWin, exec_of_window (exec_ringFlush ..) hWin, resumeRing, flushRing, if_pos hState,
      if_pos hState]
    exact ⟨rfl, rfl⟩
  · exact ⟨_, exec_of_window (exec_ringFlush ..) hWin, flushRing_empty r.isLt [] hState hHold hHeld hFetched hEmpty hEn⟩
  · exact ⟨_, exec_of_window (exec_ringFlush ..) hWin,
      flushRing_one r.isLt [] ⟨hFull, hLoc, hUp, hState, hProg, hHeld⟩ hHold hFetched hEmpty hEn hNotify⟩
  · exact ⟨_, exec_of_window (exec_cqHeadWrite ..) hWin, cqHeadWrite_reads v.isLt hFit hHeld⟩
  · rw [exec_of_window (exec_cqHeadWrite ..) hWin, cqHeadWrite, if_pos hPast]

end Sys2Proof.Machine
end

section
/-! SUPPORT. Orders of a ring program and the tally that they use; Tansy's slots and converters. -/

namespace Sys2Proof.Machine

-- One proof at a time: the check compiles the whole text within a fixed memory.
set_option Elab.async false

variable {s t u : State} {p : Prog} {r n : Nat}

/-! An order that its tally and its fabric let through. -/

theorem Prog.tally_setT (p : Prog) (t : Nat) (x : Tally) : (p.setT t x).tally t = x := Tab.get_set_self _ _ _ _

theorem kindA_idle {t : Nat} (h : (p.tally t).st = 0) (issue : Prog → State → State) :
    kindA r t p s issue = issue (p.setT t Tally.idle) s := by
  simp [kindA, h]

theorem orderOf_sent {code : Nat} {run : Prog → State → State} : orderOf r code false p s run = run p s :=
  if_neg Bool.false_ne_true

theorem pressOrder_holder {refused run : State → State} (hSm : smRing r = false) (hLease : s.leases.press = some (r / 8)) :
    pressOrder r p s refused run = run s := by
  rw [pressOrder, hSm, if_neg Bool.false_ne_true, if_pos hLease]

@[simp] theorem Prog.pc_setT (p : Prog) (t : Nat) (x : Tally) : (p.setT t x).pc = p.pc := (rfl)

@[simp] theorem Prog.dreg_setT (p : Prog) (t : Nat) (x : Tally) (a : Nat) : (p.setT t x).dreg a = p.dreg a := (rfl)

@[simp] theorem Prog.sreg_setT (p : Prog) (t : Nat) (x : Tally) (a : Nat) : (p.setT t x).sreg a = p.sreg a := (rfl)

theorem Prog.issue_pc (p : Prog) (t : Nat) : (p.issue t).pc = p.pc + 1 := (rfl)

theorem Prog.issue_tally (p : Prog) (t : Nat) : (p.issue t).tally t = { Tally.idle with st := 1, pc := p.pc } :=
  Tab.get_set_self _ _ _ _

/-- A tally that ends while its program does not wait. -/
theorem Prog.done_running {t status detail : Nat} (h : p.stall = .no) :
    (p.done t status detail).pc = p.pc ∧ ((p.done t status detail).tally t).st = 2 ∧
      ((p.done t status detail).tally t).status = status := by
  have hWake : ∀ q : Prog, q.stall = .no → q.wake = q := fun q hq => by rw [Prog.wake, hq]
  have hTally := p.tally_setT t { p.tally t with st := 2, status := status, detail := detail, order := p.orders }
  rw [Prog.done, hWake _ (by exact h)]
  exact ⟨rfl, congrArg Tally.st hTally, congrArg Tally.status hTally⟩

theorem issueDone_eq (r t status detail : Nat) (p : Prog) (s : State) :
    issueDone r t status detail p s = (s.setProg r (p.issue t)).setProg r ((p.issue t).done t status detail) := by
  have hBusy : ((p.issue t).tally t).st = 1 := by rw [Prog.issue_tally]
  rw [issueDone, tallyDone, onProg, State.prog_setProg]
  dsimp only
  rw [if_pos hBusy]

/-- The program of an order that completes at once stands at the next word with its tally DONE. -/
theorem issueDone_prog (r t status detail : Nat) (p : Prog) (s : State) :
    ((issueDone r t status detail p s).prog r).map (fun q => (q.pc, (q.tally t).st, (q.tally t).status)) =
      some (p.pc + 1, 2, status) := by
  obtain ⟨hPc, hSt, hStatus⟩ := Prog.done_running (p := p.issue t) (t := t) (status := status) (detail := detail) rfl
  rw [issueDone_eq, State.prog_setProg, Option.map_some, hPc, hSt, hStatus, Prog.issue_pc]

/-! Slots. -/

@[simp] theorem State.slot_setProg (s : State) (r : Nat) (p : Prog) (n : Nat) : (s.setProg r p).slot n = s.slot n := (rfl)

@[simp] theorem State.press_setProg (s : State) (r : Nat) (p : Prog) : (s.setProg r p).press = s.press := (rfl)

@[simp] theorem State.slot_setSlot (s : State) (n : Nat) (x : Slot) : (s.setSlot n x).slot n = x :=
  Tab.get_set_self _ _ _ _

@[simp] theorem State.slot_setConv (s : State) (m : Nat) (x : Conv) (n : Nat) : (s.setConv m x).slot n = s.slot n := (rfl)

@[simp] theorem State.conv_setConv (s : State) (m : Nat) (x : Conv) : (s.setConv m x).conv m = x :=
  Tab.get_set_self _ _ _ _

@[simp] theorem State.slot_put (s : State) (f : Fld) (x n : Nat) : (s.put f x).slot n = s.slot n := (rfl)

theorem slot_of_tns (h : t.tns.slot = s.tns.slot) (n : Nat) : t.slot n = s.slot n := by rw [State.slot, h, State.slot]

theorem tns_of_rest (h : t.rest = s.rest) : t.tns = s.tns := congrArg (fun r => r.2.tns) h

theorem press_of_rest (h : t.rest = s.rest) : t.press = s.press := congrArg (fun r => r.2.press) h

theorem prs_of_rest (h : t.rest = s.rest) : t.prs = s.prs := congrArg (fun r => r.2.prs) h

@[simp] theorem convStart_slot (m n : Nat) (s : State) : (convStart m s).slot n = s.slot n := by
  unfold convStart
  dsimp only
  split
  · rfl
  · split
    · exact State.slot_setConv ..
    · split
      · exact State.slot_setConv ..
      · cases s.bgNext m with
        | none => rfl
        | some k => exact State.slot_setConv ..

@[simp] theorem convStart_regs (m : Nat) (s : State) : (convStart m s).regs = s.regs := by
  unfold convStart
  dsimp only
  split
  · rfl
  · split
    · rfl
    · split
      · rfl
      · cases s.bgNext m <;> rfl

theorem convStart_press (m : Nat) (s : State) : (convStart m s).press = s.press :=
  same_of_out (l := [.pins]) .pins (@convStart_out _ .mem m s)

/-! The end of a capture: slots and registers outside the accesses stay. -/

theorem tallyDone_tns (r t status detail : Nat) (s : State) : (tallyDone r t status detail s).tns = s.tns :=
  same_of_out (l := [.tansy]) .tansy (@tallyDone_out _ .mem r t status detail s)

theorem capFlush_slot (s : State) : (capFlush s).tns.slot = s.tns.slot := by
  unfold capFlush
  cases s.tns.cap with
  | none => rfl
  | some c =>
    refine List.foldlRecOn (motive := fun x : List (Nat × Nat) × Option (Nat × Nat) × State =>
      x.2.2.tns.slot = s.tns.slot) _ _ rfl fun x hx w _ => ?_
    dsimp only
    split
    · exact hx
    · exact (congrArg TnsState.slot (tns_of_rest (writeVA_rest _ _ _ _ _))).trans hx

theorem capNext_slot (s : State) : (capNext s).tns.slot = s.tns.slot :=
  State.each_eq (g := fun u : State => u.tns.slot) _ _ _ fun c _ t => by
    dsimp only
    split
    · rfl
    · split
      · rfl
      · rw [tallyDone_tns]

theorem capEnd_slot (status detail : Nat) (s : State) : (capEnd status detail s).tns.slot = s.tns.slot := by
  rw [← capFlush_slot s]
  unfold capEnd
  dsimp only
  generalize capFlush s = u
  cases u.tns.cap with
  | none => rfl
  | some c => rw [capNext_slot, tallyDone_tns]

theorem slotLeft_slot (n : Nat) (s : State) : (slotLeft n s).tns.slot = s.tns.slot := by
  unfold slotLeft
  cases s.tns.cap with
  | none => rfl
  | some c =>
    dsimp only
    split
    · exact capEnd_slot ..
    · rfl

/-- A stopped slot starts over, with its record. -/
theorem stopSlot_slot (n : Nat) (s : State) :
    (stopSlot n s).slot n = { Slot.init with loaded := (s.slot n).loaded, rec_ := (s.slot n).rec_ } := by
  rw [stopSlot, slot_of_tns (slotLeft_slot _ _), State.slot_setSlot]

theorem capFlush_get {f : Fld} (hk : accKey f.key = false) (s : State) : (capFlush s).get f = s.get f := by
  unfold capFlush
  cases s.tns.cap with
  | none => rfl
  | some c =>
    rw [State.get_mk]
    refine List.foldlRecOn (motive := fun x : List (Nat × Nat) × Option (Nat × Nat) × State =>
      x.2.2.get f = s.get f) _ _ rfl fun x hx w _ => ?_
    dsimp only
    split
    · exact hx
    · exact (get_of_rest (writeVA_rest _ _ _ _ _) hk).trans hx

theorem get_of_out (h : t.out noRegister.foot = s.out noRegister.foot) (f : Fld) : t.get f = s.get f := by
  rw [State.get, reg_of_out h, State.get]

theorem capEnd_get {f : Fld} (hk : accKey f.key = false) (status detail : Nat) (s : State) :
    (capEnd status detail s).get f = s.get f := by
  rw [← capFlush_get hk s]
  unfold capEnd
  dsimp only
  generalize capFlush s = u
  cases u.tns.cap with
  | none => rfl
  | some c => rw [get_of_out (@capNext_out _ .mem .mem _), get_of_out (@tallyDone_out _ .mem _ _ _ _ _), State.get_mk]

theorem slotLeft_get {f : Fld} (hk : accKey f.key = false) (n : Nat) (s : State) : (slotLeft n s).get f = s.get f := by
  unfold slotLeft
  cases s.tns.cap with
  | none => rfl
  | some c =>
    dsimp only
    split
    · exact capEnd_get hk ..
    · rfl

/-- A slot's stop writes no register but for the accesses of a capture that it ends. -/
theorem stopSlot_get {f : Fld} (hk : accKey f.key = false) (n : Nat) (s : State) : (stopSlot n s).get f = s.get f := by
  rw [stopSlot, slotLeft_get hk]
  dsimp only
  split <;> rfl

/-! The press halts. -/

theorem lockLost_press (s : State) : (lockLost s).press = s.press :=
  same_of_out (l := [.pins]) .pins (@lockLost_out _ .mem .mem .any .any s)

theorem interruptPath_press (s : State) : (interruptPath s).press = s.press :=
  same_of_out (l := [.pins]) .pins (@interruptPath_out _ .mem .mem .mem .mem .mem .any s)

theorem prsEvent_rest {src : Nat} (h : src < 256) (page job : Nat) (s : State) : (prsEvent src page job s).rest = s.rest :=
  raiseHolder_rest h ..

/-- A halted engine: its state and cause, with the high voltages and the fuser off. -/
theorem halt_reads {cause : Nat} (hRuns : s.engRuns = true) :
    (halt cause s).eng = engHalted ∧ (halt cause s).get F.PRS_STATUS_HALT_CAUSE = cause % F.PRS_STATUS_HALT_CAUSE.size ∧
      (halt cause s).press.hvDuty = [] ∧ (halt cause s).press.fusGate = [] := by
  have hRest : ∀ u : State, (prsEvent Ev.PRS_HALT 0 0 u).rest = u.rest := fun u => prsEvent_rest (by decide) 0 0 u
  have hNot : ¬(!s.engRuns) = true := by simp [hRuns]
  rw [halt, if_neg hNot]
  dsimp only
  refine ⟨?_, ?_, ?_, ?_⟩
  · rw [State.eng, get_of_rest (hRest _) (by decide), State.bump, State.get_put_key _ _ _ _ (by decide),
      State.get_put_of _ _ _ _ (by decide), State.get_put_self _ _ _ (by decide)]
    decide
  · rw [get_of_rest (hRest _) (by decide), State.bump, State.get_put_key _ _ _ _ (by decide),
      State.get_put_self _ _ _ (by decide)]
  all_goals rw [press_of_rest (hRest _), State.bump, State.put_press, State.put_press, State.put_press]
  all_goals simp only [bandLost, interruptPath_press, lockLost_press, beamsOff, PressPins.safe]

end Sys2Proof.Machine
end

section
/-! Tansy's instructions, converters, tachs, samples and pins (R636 to R639, R672 to R702). -/

namespace Sys2Proof.Machine

-- One proof at a time: the check compiles the whole text within a fixed memory.
set_option Elab.async false

variable {s t u : State} {p : Prog} {r n : Nat}

/-! The instructions. -/

theorem tload_loads {t : Nat} {f : List W64} {x : AccRes} {s0 : State} (hn : n < 16)
    (hAlign : bits (fld f 0) 51 0 % 64 = 0) (hBits : onlyBits f [mask 63 0] = true) (hSm : smRing r = false)
    (hLease : s.leases.press = some (r / 8))
    (hRead : ringRead r (bits (fld f 0) 63 52) (bits (fld f 0) 51 0) 320 s = (x, u)) (hHeld : x.held = false)
    (hOk : x.bad = none) (hRec : slotRecBad n x.data (slotRecOf x.data) u = false) (hStop : (u.slot n).st = 0) :
    tload r t f n p s0 s =
      issueDone r t 0 0 p (u.setSlot n { u.slot n with rec_ := slotRecOf x.data, loaded := true }) := by
  have hWell : ¬(decide (16 ≤ n) || bits (fld f 0) 51 0 % 64 != 0 || !onlyBits f [mask 63 0]) = true := by
    simp [hAlign, hBits, hn]
  have hGood : ¬(slotRecBad n x.data (slotRecOf x.data) u ||
      ((u.slot n).st != 0 && !slotRecFixed (u.slot n).rec_ (slotRecOf x.data))) = true := by
    simp [hRec, hStop]
  rw [tload, if_neg hWell, pressOrder_holder hSm hLease, hRead]
  dsimp only
  rw [hHeld, if_neg Bool.false_ne_true, hOk]
  dsimp only
  rw [if_neg hGood]

theorem ringRead_rest (hSm : smRing r = false) (ctx va k : Nat) (s : State) : (ringRead r ctx va k s).2.rest = s.rest := by
  rw [ringRead, hSm, if_neg Bool.false_ne_true, readVA_rest]

theorem issueDone_tns (r t status detail : Nat) (p : Prog) (s : State) : (issueDone r t status detail p s).tns = s.tns :=
  same_of_out (l := [.tansy]) .tansy (@issueDone_out _ .mem r t status detail p s)

theorem issueDone_press (r t status detail : Nat) (p : Prog) (s : State) :
    (issueDone r t status detail p s).press = s.press :=
  same_of_out (l := [.pins]) .pins (@issueDone_out _ .mem r t status detail p s)

theorem tctl_run (hStop : (s.slot n).st = 0) : tctl n 1 s = s.setSlot n { Slot.init with
    loaded := (s.slot n).loaded, rec_ := (s.slot n).rec_, st := 1, nextAt := some ((s.slot n).rec_.instantAfter s.now) } := by
  rw [tctl, if_neg (by decide), if_pos rfl, if_pos hStop]

theorem tctl_stop (n : Nat) (s : State) : tctl n 0 s = stopSlot n s := by
  rw [tctl, if_pos rfl]

/-- TCTL of the press lease holder, past its operands' ranges. -/
theorem exec_tctl {r : Fin 132} {g : Guard} {a b : Fin 32} (hRuns : s.runsAt r g (encU 0x8A g 0 0 0 a.val b.val 0 0)
    [] p = true)
    (hn : n = (p.sreg a.val).toNat) (hLt : n < 16) (hCode : (p.sreg b.val).toNat ≤ 2) (hSm : smRing r.val = false)
    (hLease : s.leases.press = some (r.val / 8)) : exec (.tctl r g a b false) s = .next (
      if (p.sreg b.val).toNat == 1 && !(s.slot n).loaded then endAt r.val 0x50 0 p s
      else if (p.sreg b.val).toNat == 1 && !s.pressIn.ilk && s.slotEnergises n then endAt r.val 0x10 2 p s
      else (tctl n (p.sreg b.val).toNat s).setProg r.val (p.next 1)) := by
  show execTctl r g a b false s = _
  rw [execTctl, kcs_of_runsAt hRuns, orderOf_sent]
  dsimp only
  have hNot : ¬(decide (16 ≤ n) || decide (2 < (p.sreg b.val).toNat)) = true := by simp; omega
  rw [← hn, if_neg hNot, pressOrder_holder hSm hLease]

/-- The capture that a TCAP of a ring asks for. -/
def captureOf (r t : Nat) (f : List W64) : Capture :=
  { ring := r, t := t, part := r / 8, f := f, done := [], inj := 0, phase := 0, lfsr := bits (fld f 5) 14 0, buf := [],
    bad := none }

/-- A capture starts, or waits while another one is under way. -/
def addCapture (c : Capture) (s : State) : State :=
  if s.tns.cap.isSome then { s with tns := { s.tns with capWait := s.tns.capWait ++ [c] } }
  else { s with tns := { s.tns with cap := some c } }

theorem exec_tcap {r : Fin 132} {g : Guard} {da t : Fin 16}
    (hRuns : s.runsAt r g (encU 0x8B g da.val 0 t.val 0 0 0 0) [] p = true) (hIdle : (p.tally t.val).st = 0)
    (hSm : smRing r.val = false) (hLease : s.leases.press = some (r.val / 8)) (hGood : tcapBad (p.dreg da.val) s = false)
    (hIlk : s.pressIn.ilk = true) : exec (.tcap r g da t false) s = .next (
      addCapture (captureOf r.val t.val (p.dreg da.val)) (s.setProg r.val ((p.setT t.val Tally.idle).issue t.val))) := by
  have hNo : ¬(capKind (p.dreg da.val) != 0 && !s.pressIn.ilk && s.slotEnergises (capSlot (p.dreg da.val))) = true := by
    simp [hIlk]
  show execTcap r g da t false s = _
  rw [execTcap, kcs_of_runsAt hRuns, kindA_idle hIdle, orderOf_sent, pressOrder_holder hSm hLease, Prog.dreg_setT]
  dsimp only
  rw [hGood, if_neg Bool.false_ne_true, if_neg hNo]
  rfl

/-! Converters. -/

theorem hvReading_slot (ch code n : Nat) (s : State) : (hvReading ch code s).slot n = s.slot n := by
  unfold hvReading
  dsimp only
  split <;> rfl

theorem hvReading_regs (ch code : Nat) (s : State) : (hvReading ch code s).regs = s.regs := by
  unfold hvReading
  dsimp only
  split <;> rfl

theorem hvReading_press (ch code : Nat) (s : State) : (hvReading ch code s).press = s.press :=
  same_of_out (l := [.pins]) .pins (@hvReading_out _ .mem ch code s)

/-- The register and, for a slot's request, the slot take a conversion's code. -/
def codeTaken (m ch n v : Nat) (s : State) : State :=
  let s := hvReading ch v (((s.incr (F.TNS_ADC_SEQ ch) 1).put (F.TNS_ADC_VALID ch) 1).put (F.TNS_ADC_CODE ch) v)
  let s := s.setSlot n { s.slot n with raw := v, waiting := false, strobe := true }
  s.setConv m { s.conv m with cur := none, isApc := false }

theorem exec_adcConversionDone {m : Fin 2} {ch : Nat} (v : BitVec 12) (hPress : s.hasPress = true)
    (hConv : s.conv m.val = { Conv.init with cur := some (ch, some n) }) (hCh : ch < 27) :
    exec (.adcConversionDone m v) s = .next (convStart m.val (codeTaken m.val ch n v.toNat s)) := by
  have hStart : convStart m.val s = s := by
    rw [convStart, hConv]
    exact if_pos rfl
  have hNot : ¬(!s.hasPress) = true := by simp [hPress]
  show execAdcConversionDone m v s = _
  rw [execAdcConversionDone, if_neg hNot, hStart]
  dsimp only
  rw [hConv]
  dsimp only
  rw [if_pos hCh]
  rfl

theorem get_of_regs (h : t.regs = s.regs) (f : Fld) : t.get f = s.get f := by
  rw [State.get, State.reg, h, State.get, State.reg]

theorem codeTaken_get (m ch n v : Nat) (s : State) (f : Fld) : (codeTaken m ch n v s).get f =
    (((s.incr (F.TNS_ADC_SEQ ch) 1).put (F.TNS_ADC_VALID ch) 1).put (F.TNS_ADC_CODE ch) v).get f :=
  get_of_regs (hvReading_regs ..) f

theorem codeTaken_press (m ch n v : Nat) (s : State) : (codeTaken m ch n v s).press = s.press := calc
  _ = (hvReading ch v (((s.incr (F.TNS_ADC_SEQ ch) 1).put (F.TNS_ADC_VALID ch) 1).put (F.TNS_ADC_CODE ch) v)).press := rfl
  _ = s.press := by rw [hvReading_press, State.put_press, State.put_press, State.incr, State.put_press]

theorem codeTaken_slot (m ch n v : Nat) (s : State) :
    (codeTaken m ch n v s).slot n = { s.slot n with raw := v, waiting := false, strobe := true } := by
  rw [codeTaken, State.slot_setConv, State.slot_setSlot, hvReading_slot]
  rfl

theorem adcFaultBand_conv (m : Nat) (s : State) : (adcFaultBand s).conv m = s.conv m :=
  State.each_eq (g := fun u : State => u.conv m) _ _ _ fun n _ t => by
    dsimp only
    split <;> rfl

theorem adcFaultBand_regs (s : State) : (adcFaultBand s).regs = s.regs :=
  State.each_eq (g := State.regs) _ _ _ fun n _ t => by
    dsimp only
    split <;> rfl

theorem adcFaultBand_press (s : State) : (adcFaultBand s).press = s.press :=
  State.each_eq (g := State.press) _ _ _ fun n _ t => by
    dsimp only
    split <;> rfl

/-- A converter's fourth failure in a row. -/
def failedCheck (m : Nat) (s : State) : State :=
  let c := s.conv m
  let s := s.setConv m { c with fails := 4, passes := 0, clearing := false }
  if !bit (s.get F.TNS_STATUS_ADC_FAULT) m then
    tnsEvent Ev.TNS_ADC_FAULT m (adcFaultBand (s.orBits F.TNS_STATUS_ADC_FAULT (2 ^ m)))
  else s

theorem failedCheck_reads (m : Fin 2) (s : State) :
    bit ((failedCheck m.val s).get F.TNS_STATUS_ADC_FAULT) m.val = true ∧ ((failedCheck m.val s).conv m.val).fails = 4 ∧
      (failedCheck m.val s).press = s.press := by
  have hRest : ∀ u : State, (tnsEvent Ev.TNS_ADC_FAULT m.val u).rest = u.rest := fun u => raiseHolder_rest (by decide) ..
  unfold failedCheck
  dsimp only
  by_cases hBit : bit ((s.setConv m.val { s.conv m.val with fails := 4, passes := 0, clearing := false }).get
      F.TNS_STATUS_ADC_FAULT) m.val = true
  · rw [hBit, Bool.not_true, if_neg Bool.false_ne_true]
    exact ⟨hBit, by rw [State.conv_setConv], rfl⟩
  · rw [Bool.eq_false_of_not_eq_true hBit, Bool.not_false, if_pos rfl]
    refine ⟨?_, ?_, ?_⟩
    · rw [get_of_rest (hRest _) (by decide), get_of_regs (adcFaultBand_regs _), State.orBits,
        State.get_put_self _ _ _ (by decide), bit_eq_testBit, show F.TNS_STATUS_ADC_FAULT.size = 2 ^ 2 from rfl,
        Nat.testBit_mod_two_pow]
      simp [m.isLt]
    · rw [State.conv, tns_of_rest (hRest _), ← State.conv, adcFaultBand_conv, State.orBits, State.conv, State.put_tns,
        ← State.conv, State.conv_setConv]
    · rw [press_of_rest (hRest _), adcFaultBand_press]
      rfl

/-! Samples. -/

theorem requestConv_keeps (n : Nat) (s : State) : ((requestConv n s).slot n).nextAt = (s.slot n).nextAt ∧
    ((requestConv n s).slot n).rec_ = (s.slot n).rec_ ∧ ((requestConv n s).slot n).q = (s.slot n).q := by
  unfold requestConv
  dsimp only
  split
  · exact ⟨rfl, rfl, rfl⟩
  · rw [convStart_slot, State.slot_setSlot]
    exact ⟨rfl, rfl, rfl⟩

/-- A sample leaves its slot's instant, record and output. -/
theorem takeSample_keeps (n : Nat) (s : State) : ((takeSample n s).slot n).nextAt = (s.slot n).nextAt ∧
    ((takeSample n s).slot n).rec_ = (s.slot n).rec_ ∧ ((takeSample n s).slot n).q = (s.slot n).q := by
  unfold takeSample
  split
  · exact requestConv_keeps n s
  · rw [State.slot_setSlot]
    exact ⟨rfl, rfl, rfl⟩

theorem capInject_idle (h : s.tns.cap = none) : capInject n s = (none, s) := by rw [capInject, h]

theorem capSample_idle (h : s.tns.cap = none) (x e q u : Int) : capSample n x e q u s = s := by rw [capSample, h]

/-- A slot after its strobe, with the results of its computation. -/
def strobed (n : Nat) (y : Sample) (s : State) : Slot :=
  let k := s.slot n
  let k := { k with x := y.x, e := y.e, strobe := false }
  if s.slotRuns n then
    let run := if y.e ≤ k.rec_.band ∧ -k.rec_.band ≤ y.e then min (max 1 k.rec_.bandN) (k.runIn + 1) else 0
    let due := if bit k.rec_.flags 0 then s.ticks + 64 else k.nextAt.getD s.now
    { k with u := y.u, s1 := y.s1, s2 := y.s2, frozen := y.frozen, sat := y.q != y.u, runIn := run,
             inBand := run == max 1 k.rec_.bandN, pend := some (y.q, due) }
  else { k with runIn := 0, inBand := false }

theorem exec_slotStrobe {n : Fin 16} (hSt : (s.slot n.val).st ≠ 0) (hStrobe : (s.slot n.val).strobe = true)
    (hCap : s.tns.cap = none) : exec (.slotStrobe n) s =
      .next (s.setSlot n.val (strobed n.val ((s.slot n.val).sample (s.slotRaw n.val) none) s)) := by
  have hGo : ¬((s.slot n.val).st = 0 || !(s.slot n.val).strobe) = true := by simp [hSt, hStrobe]
  show execSlotStrobe n s = _
  rw [execSlotStrobe]
  dsimp only
  rw [if_neg hGo, capInject_idle hCap, capSample_idle (by exact hCap)]
  rfl

theorem strobed_reads (n : Nat) (y : Sample) (s : State) : (strobed n y s).strobe = false ∧ (strobed n y s).x = y.x ∧
    (strobed n y s).e = y.e ∧ (strobed n y s).q = (s.slot n).q ∧
      (s.slotRuns n = true → (strobed n y s).u = y.u ∧ (strobed n y s).pend.map (·.1) = some y.q) := by
  unfold strobed
  cases hRuns : s.slotRuns n with
  | false =>
    simp
  | true =>
    simp

/-! Pins and tachs. -/

theorem tab_find_set_self {α : Type} (l : Tab α) (k : Nat) (a : α) :
    (Tab.set l k a).find? (fun e => e.1 == k) = some (k, a) := by
  induction l with
  | nil => simp [Tab.set]
  | cons e l ih =>
    obtain ⟨i, v⟩ := e
    unfold Tab.set
    split_ifs with hBelow hEq
    · simp
    · simp
    · simp [hEq, ih]

theorem tab_get_del_self {α : Type} (d : α) (l : Tab α) (k : Nat) : Tab.get d (Tab.del l k) k = d := by
  induction l with
  | nil => rfl
  | cons e l ih =>
    obtain ⟨i, v⟩ := e
    by_cases hEq : i = k
    · rw [Tab.del, List.filter_cons_of_neg (by simp [hEq])]
      exact ih
    · rw [Tab.del, List.filter_cons_of_pos (by simp [hEq]), tab_get_cons, if_neg hEq]
      split
      · rfl
      · exact ih

theorem gating_of_regs (hRegs : t.regs = s.regs) (hSafe : t.prs.aonSafe = s.prs.aonSafe) : t.gating = s.gating := by
  have hEng : t.eng = s.eng := get_of_regs hRegs _
  have hOn : ∀ f, t.on f = s.on f := fun f => by rw [State.on, get_of_regs hRegs, State.on]
  simp only [State.gating, State.engRuns, hEng, hSafe, hOn]

/-- What an edge of the zero crossing leaves of the press: its accumulators and, while gating is permitted, its gates
move. -/
structure ZcdLeft (s t : State) : Prop where
  gating : t.gating = s.gating
  regs : t.regs = s.regs
  lastZcd : t.prs.lastZcd = s.prs.lastZcd
  press : s.gating = false → t.press = s.press

theorem zcdLeft_acc (s : State) (a : Tab Nat) : ZcdLeft s { s with prs := { s.prs with acc := a } } :=
  ⟨gating_of_regs rfl rfl, rfl, rfl, fun _ => rfl⟩

theorem zcdLeft_fire (hGating : s.gating = true) (e : Tab Nat) (g : NSet) :
    ZcdLeft s { s with prs := { s.prs with gateEnd := e }, press := { s.press with fusGate := g } } :=
  ⟨gating_of_regs rfl rfl, rfl, rfl, fun h => nomatch h.symm.trans hGating⟩

theorem ZcdLeft.trans {u : State} (h : ZcdLeft s t) (g : ZcdLeft t u) : ZcdLeft s u :=
  ⟨g.gating.trans h.gating, g.regs.trans h.regs, g.lastZcd.trans h.lastZcd,
    fun hOff => (g.press (h.gating.trans hOff)).trans (h.press hOff)⟩

theorem zcdGate_left (k slot : Nat) (s : State) : ZcdLeft s (zcdGate k slot s) := by
  unfold zcdGate
  extract_lets sum acc old t ends
  have hAcc : ZcdLeft s t := zcdLeft_acc s _
  by_cases hSum : sum < 4096
  · rw [if_pos hSum]
    exact zcdLeft_acc s _
  · rw [if_neg hSum]
    cases hGate : t.gating with
    | false =>
      rw [Bool.not_false, if_pos rfl]
      exact hAcc
    | true =>
      rw [Bool.not_true, if_neg Bool.false_ne_true]
      exact hAcc.trans (zcdLeft_fire hGate _ _)

/-- Settles O48: the slots' orders, the converters and tachs, samples and outputs, and the press pins they drive. -/
theorem tansyCommands : Obligations.TansyCommands := by
  refine ⟨fun s u r g da t a p x n hRuns hIdle hn hLt hAlign hBits hSm hLease hRead hHeld hOk hRec hStop => ?_,
    fun s r g a b p n hRuns hn hLt hSm hLease => ?_, fun s r g a b p hRuns hn => ?_,
    fun s r g a b p n hRuns hn hLt hCode hSm hLease hLoaded hStop hIlk => ?_,
    fun s r g a b p n hRuns hn hLt hCode hSm hLease => ?_,
    fun s r g a b p n hRuns hn hLt hCode hSm hLease hLoaded hIlk hEnergy => ?_,
    fun s r g da t p hRuns hIdle hSm hLease hGood hIlk => ?_,
    fun s m v ch n hPress hConv hn hCh => ?_, fun s m half vss hPress hBad hFails => ?_,
    fun s m half vss hPress hLo hHi hVss hClear => ?_, fun s k hPress => ?_,
    fun s n hNot => ?_, fun s n a hNext hSt hDue => ?_, fun s n hNot => ?_, fun s n hSt hStrobe hCap => ?_,
    fun s n late q due hPend hDue => ?_, fun s n late hPend => ?_, fun s n hPress => ?_, fun s k hPress hStill => ?_,
    fun s k => ?_, fun s k n hRuns hRun hLong => ?_, fun s k hRun => ?_, fun s hPress => ?_,
    fun s k n hGate hEnd => ?_, fun s k hGate => ?_, fun s n hLast hGating hLong => ?_, fun s hGating => ?_⟩
  · have hRest : u.rest = s.rest := by
      have := ringRead_rest hSm (bits (fld (p.dreg da.val) 0) 63 52) (bits (fld (p.dreg da.val) 0) 51 0) 320 s
      rwa [hRead] at this
    have hSlot : u.slot n = s.slot n := slot_of_tns (congrArg TnsState.slot (tns_of_rest hRest)) n
    refine ⟨issueDone r.val t.val 0 0 (p.setT t.val Tally.idle)
      (u.setSlot n { u.slot n with rec_ := slotRecOf x.data, loaded := true }), ?_, ?_, ?_, ?_, issueDone_prog .., ?_⟩
    · show execTload r g da t a false s = _
      rw [execTload, kcs_of_runsAt hRuns, kindA_idle hIdle, orderOf_sent, Prog.dreg_setT, Prog.sreg_setT, ← hn,
        tload_loads hLt hAlign hBits hSm hLease hRead hHeld hOk hRec (by rw [hSlot, hStop])]
    · rw [slot_of_tns (congrArg TnsState.slot (issueDone_tns ..)), State.slot_setSlot]
    · rw [slot_of_tns (congrArg TnsState.slot (issueDone_tns ..)), State.slot_setSlot]
    · rw [slot_of_tns (congrArg TnsState.slot (issueDone_tns ..)), State.slot_setSlot, hSlot, hStop]
    · rw [issueDone_press]
      exact (rfl : _ = u.press).trans (press_of_rest hRest)
  · refine ⟨(s.setSlot n { s.slot n with
      rec_ := { (s.slot n).rec_ with setpoint := toSigned 32 ((p.sreg b.val).toNat % 2 ^ 32) } }).setProg r.val (p.next 1),
      ?_, ?_, ?_, rfl⟩
    · show execTset r g a b false s = _
      rw [execTset, kcs_of_runsAt hRuns, orderOf_sent]
      dsimp only
      rw [← hn, if_neg (by omega), pressOrder_holder hSm hLease]
    · rw [State.slot_setProg, State.slot_setSlot]
    · rw [State.prog_setProg]
      rfl
  · show execTset r g a b false s = _
    rw [execTset, kcs_of_runsAt hRuns, orderOf_sent]
    dsimp only
    rw [if_pos hn]
  · refine ⟨(tctl n 1 s).setProg r.val (p.next 1), ?_, ?_, ?_, ?_, ?_, ?_⟩
    · rw [exec_tctl hRuns hn hLt (by simp [hCode]) hSm hLease, hCode]
      simp [hLoaded, hIlk]
    all_goals rw [tctl_run hStop]
    · rw [State.slot_setProg, State.slot_setSlot]
    · rw [State.slot_setProg, State.slot_setSlot]
    · rw [State.slot_setProg, State.slot_setSlot]
      rfl
    · rw [State.slot_setProg, State.slot_setSlot]
    · rw [State.prog_setProg]
      rfl
  · rw [exec_tctl hRuns hn hLt (by simp [hCode]) hSm hLease, hCode]
    simp [tctl_stop]
  · rw [exec_tctl hRuns hn hLt (by simp [hCode]) hSm hLease, hCode]
    simp [hLoaded, hIlk, hEnergy]
  · refine ⟨_, exec_tcap hRuns hIdle hSm hLease hGood hIlk, ?_⟩
    have hProg : ∀ c : Capture, (addCapture c (s.setProg r.val ((p.setT t.val Tally.idle).issue t.val))).prog r.val =
        some ((p.setT t.val Tally.idle).issue t.val) := fun c => by
      rw [addCapture]
      split <;> exact State.prog_setProg ..
    refine ⟨fun hNone => ?_, fun hSome => ?_, ?_, ?_⟩
    · have hNo : ¬(s.setProg r.val ((p.setT t.val Tally.idle).issue t.val)).tns.cap.isSome = true := by
        rw [show (s.setProg r.val ((p.setT t.val Tally.idle).issue t.val)).tns = s.tns from rfl, hNone]
        simp
      rw [addCapture, if_neg hNo]
      rfl
    · have hYes : (s.setProg r.val ((p.setT t.val Tally.idle).issue t.val)).tns.cap.isSome = true := hSome
      rw [addCapture, if_pos hYes]
      exact ⟨rfl, List.length_append⟩
    · rw [hProg, Option.map_some, Prog.issue_pc, Prog.issue_tally, Prog.pc_setT]
    · rw [addCapture]
      split <;> rfl
  · refine ⟨_, exec_adcConversionDone v hPress hConv hCh, ?_, ?_, ?_, ?_, ?_, ?_⟩
    · rw [get_of_regs (convStart_regs ..), codeTaken_get, State.get_put_self _ _ _ (by simp [Fld.ok])]
      exact Nat.mod_eq_of_lt v.isLt
    · rw [State.on, get_of_regs (convStart_regs ..), codeTaken_get, State.get_put_of _ _ _ _ (by simp),
        State.get_put_self _ _ _ (by simp [Fld.ok])]
      rfl
    · rw [convStart_slot, codeTaken_slot]
    · rw [convStart_slot, codeTaken_slot]
    · rw [convStart_slot, codeTaken_slot]
    · rw [convStart_press, codeTaken_press]
  · have hNot : ¬(!s.hasPress) = true := by simp [hPress]
    have hFail : ¬(decide (2032 ≤ half.toNat) && decide (half.toNat ≤ 2064) && decide (vss.toNat ≤ 16)) = true := by
      simp
      omega
    have hExec : exec (.adcCheck m half vss) s = .next (failedCheck m.val s) := by
      show execAdcCheck m half vss s = _
      rw [execAdcCheck, if_neg hNot]
      dsimp only
      rw [if_neg hFail, hFails]
      simp only [true_and]
      exact (apply_ite Host.Outcome.next _ _ _).symm
    exact ⟨_, hExec, failedCheck_reads m s⟩
  · have hNot : ¬(!s.hasPress) = true := by simp [hPress]
    have hPass : (decide (2032 ≤ half.toNat) && decide (half.toNat ≤ 2064) && decide (vss.toNat ≤ 16)) = true := by
      simp [hLo, hHi, hVss]
    refine ⟨s.setConv m.val { s.conv m.val with fails := 0, passes := 0 }, ?_, State.conv_setConv .., rfl⟩
    show execAdcCheck m half vss s = _
    rw [execAdcCheck, if_neg hNot]
    dsimp only
    rw [if_pos hPass, hClear, Bool.false_and, if_neg Bool.false_ne_true, if_neg Bool.false_ne_true, ← hClear]
  · have hNot : ¬(!s.hasPress) = true := by simp [hPress]
    refine ⟨_, if_neg hNot, ?_, rfl⟩
    rw [tab_find_set_self]
    simp
  · show execSampleInstant n s = _
    rw [execSampleInstant]
    split
    next => rfl
    next a hNext =>
      have hWait : (s.slot n.val).st = 0 ∨ s.now < a := by simpa [hNext] using hNot
      rw [if_pos hWait]
  · have hGo : ¬((s.slot n.val).st = 0 ∨ s.now < a) := by omega
    have hExec : exec (.sampleInstant n) s = .next (takeSample n.val (s.setSlot n.val
        { s.slot n.val with nextAt := some ((s.slot n.val).rec_.instantAfter s.now) })) := by
      show execSampleInstant n s = _
      rw [execSampleInstant]
      dsimp only
      rw [hNext]
      dsimp only
      rw [if_neg hGo]
    obtain ⟨hNextAt, hRec, hQ⟩ := takeSample_keeps n.val
      (s.setSlot n.val { s.slot n.val with nextAt := some ((s.slot n.val).rec_.instantAfter s.now) })
    rw [State.slot_setSlot] at hNextAt hRec hQ
    exact ⟨_, hExec, hNextAt, hRec, hQ⟩
  · refine if_pos ?_
    rcases hNot with hNot | hNot <;> simp [hNot]
  · have hReads := strobed_reads n.val ((s.slot n.val).sample (s.slotRaw n.val) none) s
    rw [← State.slot_setSlot s n.val (strobed n.val ((s.slot n.val).sample (s.slotRaw n.val) none) s)] at hReads
    exact ⟨_, exec_slotStrobe (by omega) hStrobe hCap, hReads⟩
  · have hGo : ¬(if bit (s.slot n.val).rec_.flags 0 then s.ticks else s.now) < due := by omega
    have hExec : exec (.outputApply n late) s = .next (if late then
        (s.setSlot n.val { s.slot n.val with q := q, pend := none }).bump (F.TNS_SLOT_COUNTS_LATE n.val) 1
        else s.setSlot n.val { s.slot n.val with q := q, pend := none }) := by
      show execOutputApply n late s = _
      rw [execOutputApply]
      dsimp only
      rw [hPend]
      dsimp only
      rw [if_neg hGo]
    refine ⟨_, hExec, ?_⟩
    cases late with
    | true =>
      rw [if_pos rfl, if_pos rfl, State.bump, State.slot_put, State.slot_setSlot]
      exact ⟨rfl, State.get_bump_self _ _ (by simp [Fld.ok])⟩
    | false =>
      rw [if_neg Bool.false_ne_true, if_neg Bool.false_ne_true, State.slot_setSlot]
      exact ⟨rfl, rfl⟩
  · show execOutputApply n late s = _
    rw [execOutputApply]
    dsimp only
    rw [hPend]
  · have hRest : ∀ u : State, (tnsEvent Ev.TNS_SLOT_FAULT n.val u).rest = u.rest := fun u => raiseHolder_rest (by decide) ..
    refine ⟨_, if_neg (by simp [hPress]), ?_, ?_, ?_⟩
    · rw [slot_of_tns (congrArg TnsState.slot (tns_of_rest (hRest _))), State.slot_setSlot]
    · rw [slot_of_tns (congrArg TnsState.slot (tns_of_rest (hRest _))), State.slot_setSlot, stopSlot_slot]
      rfl
    · rw [State.eng, get_of_rest (hRest _) (by decide)]
      exact stopSlot_get (by decide) n.val s
  · have hOff : (s.engRuns && !s.prs.aonSafe) = false := by rcases hStill with h | h <;> simp [h]
    refine ⟨_, if_neg (by simp [hPress]), ?_, rfl, rfl⟩
    simp [hOff, tab_get_del_self]
  · refine ⟨_, rfl, ?_, rfl, rfl⟩
    dsimp only
    generalize (if (s.engHot && s.pressIn.ilk && !s.prs.aonSafe) = true then _ else _) = duty
    split
    next hZero => rw [tab_get_del_self, hZero]
    next => exact Tab.get_set_self ..
  · obtain ⟨hEng, hCause, hDuty, -⟩ := halt_reads (cause := 6) hRuns
    refine ⟨halt 6 s, ?_, hEng, hCause, hDuty⟩
    have hFind : s.tns.hvRun.find? (fun e => e.1 == k.val) = some (k.val, n) := by simp [hRun]
    show execHvLimit k s = _
    rw [execHvLimit, hFind]
    exact congrArg Host.Outcome.next (if_pos hLong)
  · show execHvLimit k s = _
    rw [execHvLimit, hRun]
    rfl
  · have hLeft := (zcdGate_left 0 (s.get F.PRS_FUS_SLOT_0) { s with prs := { s.prs with lastZcd := some s.ticks } }).trans
      (zcdGate_left 1 (s.get F.PRS_FUS_SLOT_1) _)
    have hGating : ({ s with prs := { s.prs with lastZcd := some s.ticks } } : State).gating = s.gating :=
      gating_of_regs rfl rfl
    exact ⟨_, if_neg (by simp [hPress]), hLeft.lastZcd, fun hOff => hLeft.press (hGating.trans hOff), hLeft.regs⟩
  · have hFind : s.prs.gateEnd.find? (fun e => e.1 == k.val) = some (k.val, n) := by simp [hGate]
    have hExec : exec (.fuserGateEnd k) s = .next { s with
        prs := { s.prs with gateEnd := s.prs.gateEnd.del k.val },
        press := { s.press with fusGate := NSet.del s.press.fusGate k.val } } := by
      show execFuserGateEnd k s = _
      rw [execFuserGateEnd, hFind]
      exact if_neg (Nat.not_lt.mpr hEnd)
    refine ⟨_, hExec, NSet.contains_del_self .., ?_, rfl⟩
    simp [hGate, Tab.del]
  · show execFuserGateEnd k s = _
    rw [execFuserGateEnd, hGate]
    rfl
  · have hRuns : s.engRuns = true := by
      simp only [State.gating, Bool.and_eq_true] at hGating
      exact hGating.1.1
    obtain ⟨hEng, hCause, -, hGates⟩ := halt_reads (cause := 5) hRuns
    refine ⟨halt 5 s, ?_, hEng, hCause, hGates⟩
    show execZcdLost s = _
    rw [execZcdLost, hLast]
    exact congrArg Host.Outcome.next (if_pos (by
      rw [hGating, Bool.true_and]
      exact decide_eq_true hLong))
  · show execZcdLost s = _
    rw [execZcdLost]
    cases s.prs.lastZcd with
    | none => rfl
    | some t => exact congrArg Host.Outcome.next (if_neg (by simp [hGating]))

end Sys2Proof.Machine
end

section
/-! SUPPORT. The registers that a synthesizer's setting leaves, what scan-out leaves, the display's link and the raster
contexts. -/

namespace Sys2Proof.Machine

-- One proof at a time: the check compiles the whole text within a fixed memory.
set_option Elab.async false

variable {s t : State}

theorem State.get_bump_key (s : State) (k : Nat) {f g : Fld} (h : g.key ≠ f.key) : (s.bump f k).get g = s.get g :=
  State.get_put_key _ _ _ _ h

/-! A register outside those of the synthesizer. -/

section
variable {f : Fld} {n : Nat} (hStatus : f.key ≠ R.CKR_SYN_STATUS n) (hClk : f.key ≠ R.CKR_ISL_CLK)
include hStatus hClk

theorem setSynState_get (st : Nat) (s : State) : (setSynState n st s).get f = s.get f := by
  unfold setSynState setIslandClock
  dsimp only
  rw [State.get_put_key _ _ _ _ hClk]
  split
  · rw [State.get_put_key _ _ _ _ hStatus, State.get_put_key _ _ _ _ hStatus, State.setSyn, State.get_mk]
  · rw [State.get_put_key _ _ _ _ hStatus, State.setSyn, State.get_mk]

theorem gateAndRestart_get (off : Bool) (s : State) : (gateAndRestart n off s).get f = s.get f := by
  have hPut : ∀ (u : State) (x : Nat), (u.put (F.CKR_SYN_STATUS_REF_LOST n) x).get f = u.get f := fun u x =>
    State.get_put_key _ _ _ _ hStatus
  unfold gateAndRestart
  split
  · rw [setSynState_get hStatus hClk, hPut]
  · dsimp only
    split
    · exact setSynState_get hStatus hClk _ _
    · rw [hPut, setSynState_get hStatus hClk]

theorem applySynWrite_get (s : State) : (applySynWrite n s).get f = s.get f := by
  unfold applySynWrite
  dsimp only
  split
  · split
    · exact gateAndRestart_get hStatus hClk _ _
    · rfl
  · cases synQuad n with
    | none => exact gateAndRestart_get hStatus hClk _ _
    | some q =>
      dsimp only
      rw [apply_ite (fun u : State => u.get f), gateAndRestart_get hStatus hClk, setQuad, State.get_mk, State.get_mk,
        ite_self]

theorem writeCtl_get (hCtl : f.key ≠ R.CKR_SYN_CTL n) (hFrac : f.key ≠ R.CKR_SYN_FRAC n) (en : Bool)
    (odiv nint nfrac : Nat) (s : State) : (writeCtl n en odiv nint nfrac s).get f = s.get f := by
  unfold writeCtl State.putB
  split
  · dsimp only
    rw [applySynWrite_get hStatus hClk, State.get_put_key _ _ _ _ hFrac, State.get_put_key _ _ _ _ hCtl,
      State.get_put_key _ _ _ _ hCtl, State.get_put_key _ _ _ _ hCtl]
  · exact State.get_put_key _ _ _ _ hStatus

end

theorem dspEvent_rest {src : Nat} (h : src < 256) (s : State) : (dspEvent src s).rest = s.rest := raiseHolder_rest h ..

/-- What scan-out leaves: what an access leaves, but for the count of poisoned lines. -/
def State.scanned (s : State) : (Nat → W64) × State :=
  (fun k => if k = F.DSP_POISONED_COUNT.key then 0 else s.rest.1 k, s.rest.2)

theorem scanned_of_rest (h : t.rest = s.rest) : t.scanned = s.scanned := by rw [State.scanned, h, State.scanned]

theorem get_of_scanned (h : t.scanned = s.scanned) {f : Fld} (hk : accKey f.key = false)
    (hNe : f.key ≠ F.DSP_POISONED_COUNT.key) : t.get f = s.get f := by
  have hReg : t.reg f.key = s.reg f.key := by
    simpa [State.scanned, State.rest, hk, hNe] using congrFun (congrArg Prod.fst h) f.key
  rw [State.get, hReg, State.get]

theorem poisonCount_scanned (s : State) : (s.bump F.DSP_POISONED_COUNT 1).scanned = s.scanned := by
  refine Prod.ext (funext fun k => ?_) (rfl)
  simp only [State.scanned]
  split
  · rfl
  next hNe =>
    simp only [State.rest]
    split
    · rfl
    · exact State.reg_put_ne s _ _ hNe

theorem foldl_snd_scanned {α β : Type} (l : List α) (f : β × State → α → β × State)
    (h : ∀ x a, (f x a).2.scanned = x.2.scanned) (x : β × State) : (l.foldl f x).2.scanned = x.2.scanned :=
  List.foldlRecOn (motive := fun y => y.2.scanned = x.2.scanned) l f rfl fun y hy a _ => (h y a).trans hy

theorem scanRead_scanned (ring cid va n : Nat) (s : State) : (scanRead ring cid va n s).2.scanned = s.scanned := by
  unfold scanRead
  refine (scanned_of_rest (countAccess_rest ..)).trans ?_
  refine List.foldlRecOn (motive := fun y : List ScanByte × AccRes × State => y.2.2.scanned = s.scanned) _ _ rfl
    fun x hx pc _ => ?_
  have hRead := (scanned_of_rest (readPiece_rest (.ring ring) cid pc (AccRes.empty, x.2.2))).trans hx
  dsimp only
  split
  · exact (scanned_of_rest (dspEvent_rest (by decide) _)).trans ((poisonCount_scanned _).trans hRead)
  · split <;> exact hRead

theorem scanRow_scanned (ring : Nat) (f : Surf) (fl : Flags) (y : Nat) (s : State) :
    (scanRow ring f fl y s).2.scanned = s.scanned := by
  unfold scanRow
  refine foldl_snd_scanned _ _ (fun x tx => ?_) _
  dsimp only
  split
  · rfl
  · exact scanRead_scanned ..

theorem composeRow_scanned (c : Commit) (x : Xform) (bfl pfl : Flags) (w v : Nat) (s : State) :
    (composeRow c x bfl pfl w v s).2.scanned = s.scanned := by
  have hRow : ∀ (b : Bool) (f : Surf) (fl : Flags) (y : Nat) (t : State),
      (if b = true then scanRow c.ring f fl y t else ([], t)).2.scanned = t.scanned := fun b f fl y t => by
    split
    · exact scanRow_scanned ..
    · rfl
  unfold composeRow
  exact (hRow ..).trans (hRow ..)

theorem scanFlags_scanned (ring : Nat) (f : Surf) (s : State) : (scanFlags ring f s).2.scanned = s.scanned :=
  scanRead_scanned ..

/-- Scanning out a frame gives its pixels and leaves the rest of the display. -/
theorem scanFrame_scanned (s : State) : ∃ (px : List Nat) (t : State), t.scanned = s.scanned ∧
    scanFrame s = { t with dsp := { t.dsp with lastPix := px } } := by
  unfold scanFrame
  cases s.dsp.shown with
  | none => exact ⟨_, s, rfl, rfl⟩
  | some c =>
    dsimp only
    split
    · exact ⟨_, s, rfl, rfl⟩
    · refine ⟨_, _, (foldl_snd_scanned (List.range (s.get F.DSP_V_ACTIVE)) _ (fun x v => ?_) _).trans ?_, rfl⟩
      · exact composeRow_scanned (w := s.get F.DSP_H_ACTIVE) ..
      split
      · exact (scanFlags_scanned ..).trans (scanFlags_scanned ..)
      · exact scanFlags_scanned ..

/-- The commit that RCOMMIT of a transform or of a frame without a plate hands on. -/
def plainCommit (r : Nat) (f : List W64) : Commit :=
  { ring := r, part := r / 8, f := f, sealId := none, hash := [], resv := none, new := false }

/-- A frame that a latch shows with its own transform, no other frame having been shown before. -/
def latched (c : Commit) (s : State) : State :=
  let u := s.put F.DSP_FRAME_SEQ_SEQ (nextFrame (s.get F.DSP_FRAME_SEQ_SEQ))
  { u with dsp := { u.dsp with blankEnd := false, shown := some { c with new := false }, frame := none, black := false,
                               cur := xformOf c.f, xform := none } }

/-- A latch with no frame pending and none shown. -/
def reprojected (s : State) : State :=
  let u := (s.put F.DSP_FRAME_SEQ_SEQ (nextFrame (s.get F.DSP_FRAME_SEQ_SEQ))).bump F.DSP_REPROJ_COUNT 1
  { u with dsp := { u.dsp with blankEnd := false, cur := u.dsp.xform.getD u.dsp.cur, xform := none } }

theorem nextFrame_lt (s : State) : nextFrame (s.get F.DSP_FRAME_SEQ_SEQ) < 2 ^ 32 := by
  have hSeq : s.get F.DSP_FRAME_SEQ_SEQ < 2 ^ 32 := Nat.mod_lt _ (by decide)
  unfold nextFrame
  split <;> omega

theorem State.dsp_self (h : s.dsp.blankEnd = false) : ({ s with dsp := { s.dsp with blankEnd := false } } : State) = s := by
  rw [← h]

theorem execVblankLatch_frame {c : Commit} (hEnd : s.dsp.blankEnd = false) (hActive : s.dspState = 2)
    (hFrame : s.dsp.frame = some c) (hShown : s.dsp.shown = none) (hNew : c.new = false) (hXform : s.dsp.xform = none) :
    execVblankLatch s = .next (scanFrame (latched c s)) := by
  rw [execVblankLatch]
  dsimp only
  rw [State.dsp_self hEnd, hEnd, Bool.false_and, Bool.false_or, if_neg (by simp [hActive])]
  rw [State.put_dsp, hFrame]
  dsimp only
  rw [endShownSeal, State.put_dsp, hShown]
  dsimp only
  rw [reviewRecord, hNew, if_neg Bool.false_ne_true, State.put_dsp, hXform, Option.getD_none, latched, ← hEnd]
  rfl

theorem execVblankLatch_none (hEnd : s.dsp.blankEnd = false) (hActive : s.dspState = 2) (hFrame : s.dsp.frame = none) :
    execVblankLatch s = .next (scanFrame (reprojected s)) := by
  rw [execVblankLatch]
  dsimp only
  rw [State.dsp_self hEnd, hEnd, Bool.false_and, Bool.false_or, if_neg (by simp [hActive])]
  rw [State.put_dsp, hFrame]
  dsimp only
  rw [reprojected, ← hEnd]
  rfl

/-! The display's link. -/

theorem rxAllowed_of_get (h : ∀ f : Fld, f.key ≠ R.DSP_HDCP_RXID → t.get f = s.get f) (n : Nat) :
    t.rxAllowed n = s.rxAllowed n := by
  have hKey : ∀ i < 4, R.DSP_HDCP_ALLOW i ≠ R.DSP_HDCP_RXID := by decide
  have hAny : ∀ i ∈ List.range 4, (t.on (F.DSP_HDCP_ALLOW_EN i) && t.get (F.DSP_HDCP_ALLOW_RXID i) == n) =
      (s.on (F.DSP_HDCP_ALLOW_EN i) && s.get (F.DSP_HDCP_ALLOW_RXID i) == n) := fun i hi => by
    have hi' := hKey i (List.mem_range.mp hi)
    rw [on_of_get_eq (h (F.DSP_HDCP_ALLOW_EN i) hi'), h (F.DSP_HDCP_ALLOW_RXID i) hi']
  unfold State.rxAllowed
  rw [Bool.eq_iff_iff, List.any_eq_true, List.any_eq_true]
  exact exists_congr fun i => and_congr_right fun hi => by rw [hAny i hi]

/-- The pool is what its bytes and the rest of it are. -/
theorem pool_of_out (h : t.out (allBut [.bytes, .memory]).foot = s.out (allBut [.bytes, .memory]).foot) :
    t.pool = s.pool := by
  have hCells : t.pool.cells = s.pool.cells := same_of_out .bytes h
  have hRest : ({ t.pool with cells := [] } : PoolState) = { s.pool with cells := [] } := same_of_out .memory h
  calc t.pool = { ({ t.pool with cells := [] } : PoolState) with cells := t.pool.cells } := rfl
    _ = s.pool := by rw [hRest, hCells]

/-- The display with scan-out DISABLED. -/
def dspOff (s : State) : State :=
  let u := ((s.put F.DSP_CTL_EN 0).put F.DSP_STATUS_TRAINED 0).put F.DSP_STATUS_ADMITTED 0
  { u with dsp := { u.dsp with blankEnd := false, failed := false } }

theorem execDspDisable_idle (hPress : s.hasPress = true) (hEn : s.on F.DSP_CTL_EN = true) (hShown : s.dsp.shown = none)
    (hFrame : s.dsp.frame = none) : execDspDisable s = .next (dspOff s) := by
  have hGo : ¬(!s.hasPress || !s.on F.DSP_CTL_EN) = true := by simp [hPress, hEn]
  have hNone : endShownSeal (dspOff s) = dspOff s := by
    have hOff : (dspOff s).dsp.shown = none := hShown
    rw [endShownSeal, hOff]
  have hSeals : endCommitSeals (dspOff s) = dspOff s := by
    have hOff : (dspOff s).dsp.frame = none := hFrame
    rw [endCommitSeals, hNone, hOff]
  rw [execDspDisable, dspDisable, if_neg hGo]
  exact congrArg Host.Outcome.next hSeals

theorem dspCtlFields_rate (v : W32) (s : State) : (dspCtlFields v s).get F.DSP_CTL_RATE = v.toNat % 4 := by
  rw [dspCtlFields, State.get_put_self _ _ _ (by decide)]
  simp [bits, Fld.size]

theorem dspCtlFields_dsp (v : W32) (s : State) : (dspCtlFields v s).dsp = s.dsp ∧ (dspCtlFields v s).pool = s.pool := by
  unfold dspCtlFields
  dsimp only
  split <;> exact ⟨rfl, rfl⟩

theorem execDspEnable_good {v : W32} (hPress : s.hasPress = true) (hEn : s.on F.DSP_CTL_EN = false)
    (hJob : s.jobRuns 4 = false) (hMode : (dspCtlFields v s).dspModeBad = false) : ∃ odiv nint nfrac,
    execDspEnable v s = .next (writeCtl 9 true odiv nint nfrac ((dspCtlFields v s).put F.DSP_CTL_EN 1)) := by
  have hGo : ¬(!s.hasPress || s.on F.DSP_CTL_EN || s.jobRuns 4) = true := by simp [hPress, hEn, hJob]
  refine ⟨(dspCtlFields v s).get F.DSP_PIXCLK_ODIV, (dspCtlFields v s).get F.DSP_PIXCLK_NINT,
    (dspCtlFields v s).get F.DSP_PIXFRAC_NFRAC, ?_⟩
  rw [execDspEnable, dspEnable, if_neg hGo]
  dsimp only
  rw [if_neg (by simp [hMode])]

/-- The fields of an AUX transaction. -/
def auxFields (v : W32) (s : State) : State :=
  (((s.putB F.DSP_AUX_CMD_I2C (bit v.toNat 28)).putB F.DSP_AUX_CMD_WRITE (bit v.toNat 27)).put F.DSP_AUX_CMD_LENM1
    (bits v.toNat 23 20 + 1 - 1)).put F.DSP_AUX_CMD_ADDRESS (bits v.toNat 19 0)

theorem auxFields_address (v : W32) (s : State) : (auxFields v s).get F.DSP_AUX_CMD_ADDRESS = bits v.toNat 19 0 := by
  rw [auxFields, State.get_put_self _ _ _ (by decide)]
  simp [bits, Fld.size]

/-- A native transaction that touches the HDCP registers is not sent. -/
theorem auxGo_hdcp {v : W32} {reply : Option (List Byte)} (hPress : s.hasPress = true) (hBit : bit v.toNat 28 = false)
    (hLo : 0x68000 ≤ bits v.toNat 19 0) (hHi : bits v.toNat 19 0 ≤ 0x69FFF) :
    auxGo v reply s = (auxFields v s).put F.DSP_AUX_CMD_AUX_ERR 1 := by
  have hTouch : (!bit v.toNat 28 && decide (bits v.toNat 19 0 ≤ 0x69FFF) &&
      decide (0x68000 ≤ bits v.toNat 19 0 + (bits v.toNat 23 20 + 1) - 1)) = true := by
    simp [hBit]
    omega
  rw [auxGo, if_neg (by simp [hPress])]
  exact if_pos hTouch

/-- A transaction over I2C that no reply ends. -/
theorem auxGo_silent {v : W32} (hPress : s.hasPress = true) (hBit : bit v.toNat 28 = true) : ∃ e,
    auxGo v none s = ({ auxFields v s with dsp := { s.dsp with aux := s.dsp.aux ++ [e] } } : State).put
      F.DSP_AUX_CMD_AUX_ERR 1 := by
  have hFree : ¬(!bit v.toNat 28 && decide (bits v.toNat 19 0 ≤ 0x69FFF) &&
      decide (0x68000 ≤ bits v.toNat 19 0 + (bits v.toNat 23 20 + 1) - 1)) = true := by
    simp [hBit]
  refine ⟨(v.toNat % 2 ^ 31, bits v.toNat 23 20 + 1, if bit v.toNat 27 = true then slice 0 ((List.range 4).flatMap
    (fun i => leBytes 4 ((auxFields v s).get (F.DSP_AUX_DATA_DATA i)))) 0 (bits v.toNat 23 20 + 1) else []), ?_⟩
  rw [auxGo, if_neg (by simp [hPress])]
  exact if_neg hFree

theorem dspEvent_get {src : Nat} (h : src < 256) {f : Fld} (hk : accKey f.key = false) (s : State) :
    (dspEvent src s).get f = s.get f :=
  get_of_rest (dspEvent_rest h s) hk

theorem dspEvent_on {src : Nat} (h : src < 256) {f : Fld} (hk : accKey f.key = false) (s : State) :
    (dspEvent src s).on f = s.on f :=
  on_of_get_eq (dspEvent_get h hk s)

theorem dspEvent_dsp {src : Nat} (h : src < 256) (s : State) : (dspEvent src s).dsp = s.dsp :=
  congrArg (fun r => r.2.dsp) (dspEvent_rest h s)

/-! Raster contexts. -/

@[simp] theorem State.rasQueue_setProg (s : State) (r : Nat) (p : Prog) (n : Nat) : (s.setProg r p).rasQueue n =
    s.rasQueue n :=
  (rfl)

theorem State.rasQueue_setRasQueue (s : State) (n : Nat) (l : List RasJob) : (s.setRasQueue n l).rasQueue n = l := by
  rw [State.setRasQueue, State.rasQueue]
  cases l with
  | nil => exact tab_get_del_self [] s.ras.queue n
  | cons j l => exact Tab.get_set_self [] (j :: l) s.ras.queue n

/-- The job that an order of RDRAW or RCLEAR queues. -/
def rasJobOf (r t n : Nat) (clear : Bool) (f : List W64) : RasJob :=
  { ring := r, t := t, part := r / 8, rctx := n, clear := clear, f := f, started := false, list := [], next := 0,
    retiles := 0 }

/-- An order of a context's owner queues its job. -/
theorem rasIssue_owner {r t n : Nat} {clear : Bool} {f : List W64} {p : Prog} (hGood : surfBad clear f = false)
    (hn : n = bits (fld f 3) 43 41) (hSm : smRing r = false) (hOwner : s.rasOwner n = some (r / 8))
    (hRoom : (s.rasQueue n).length < 16) (s0 : State) : rasIssue r t clear f p s0 s =
      (s.setRasQueue n (s.rasQueue n ++ [rasJobOf r t n clear f])).setProg r (p.issue t) := by
  rw [rasIssue, if_neg (by simp [hGood])]
  dsimp only
  rw [if_neg (by simp [hSm]), ← hn, if_neg (by simp [hOwner]), if_neg (by omega)]
  rfl

/-- Such an order leaves one more job, and the program past the order with its tally BUSY. -/
theorem rasJob_queued (s : State) (r t n : Nat) (j : RasJob) (p : Prog) :
    let u := (s.setRasQueue n (s.rasQueue n ++ [j])).setProg r (p.issue t)
    u.rasQueue n = s.rasQueue n ++ [j] ∧ (u.prog r).map (fun q => (q.pc, (q.tally t).st)) = some (p.pc + 1, 1) := by
  refine ⟨by rw [State.rasQueue_setProg, State.rasQueue_setRasQueue], ?_⟩
  rw [State.prog_setProg, Option.map_some, Prog.issue_pc, Prog.issue_tally]

theorem rasIssue_bad {r t : Nat} {clear : Bool} {f : List W64} {p : Prog} (hBad : surfBad clear f = true) (s0 : State) :
    rasIssue r t clear f p s0 s = endAt r 0x50 0 p s := if_pos hBad

/-- A cell of a threshold array that is in no use. -/
def loadCell (v : Nat) (s : State) : State :=
  let k := s.get F.RAS_THR_SEL_ARRAY * 16384 + s.get F.RAS_THR_SEL_CELL
  { s with ras := { s.ras with
      thr := if v % 2 ^ 24 = thrReset then s.ras.thr.del k else Tab.set s.ras.thr k (v % 2 ^ 24) } }

theorem thrDataWrite_free {v : Nat} (hPress : s.hasPress = true)
    (hFree : s.thrInUse (s.get F.RAS_THR_SEL_ARRAY) = false) :
    thrDataWrite v s = (loadCell v s).put F.RAS_THR_SEL_CELL ((s.get F.RAS_THR_SEL_CELL + 1) % 16384) := by
  rw [thrDataWrite, if_neg (by simp [hPress])]
  dsimp only
  rw [if_neg (by simp [hFree])]
  rfl

theorem loadCell_cell (v : Nat) (s : State) : Tab.get thrReset (loadCell v s).ras.thr
    (s.get F.RAS_THR_SEL_ARRAY * 16384 + s.get F.RAS_THR_SEL_CELL) = v % 2 ^ 24 := by
  unfold loadCell
  split
  next hReset => rw [tab_get_del_self, hReset]
  next => exact Tab.get_set_self ..

/-- A context none of whose jobs waits has none dropped. -/
theorem dropQueuedJobs_started {n : Nat} (h : (s.rasQueue n).all (·.started) = true) :
    dropQueuedJobs n s = s.setRasQueue n (s.rasQueue n) := by
  have hAll : (s.rasQueue n).filter (·.started) = s.rasQueue n := by simpa using h
  have hNone : (s.rasQueue n).filter (fun j => !j.started) = [] := by simpa using h
  rw [dropQueuedJobs]
  rw [hAll, hNone]
  rfl

end Sys2Proof.Machine
end
section
/-! Raster orders and the proof display. -/

namespace Sys2Proof.Machine

-- One proof at a time: the check compiles the whole text within a fixed memory.
set_option Elab.async false

/-- Settles O47: the raster orders, the commits and their latches, and the display's link. -/
theorem rasterAndProofCommands : Obligations.RasterAndProofCommands := by
  refine ⟨fun s r g da t p n hRuns hIdle hGood hn hSm hOwner hRoom => ?_,
    fun s r g da t p n hRuns hIdle hGood hn hSm hOwner hRoom => ?_, fun s r g da t p hRuns hIdle hBad => ?_,
    fun s r g da t p hRuns hIdle hGood hSm hOwner => ?_, fun s r g da a p hRuns hGood hXform hSm hLease => ?_,
    fun s r g da a p hRuns hGood hLease => ?_, fun s r g da a p hRuns hBad => ?_, fun s v hPress hFree => ?_,
    fun s v hPress hUse => ?_, fun s n v hPress hn hv hAll => ?_, fun s n v hn => ?_, fun s n j hCur hQueue => ?_,
    fun s hCur => ?_, fun s r c p a hHand hRing hNew hFrame hLease hNone hProg hStall => ?_, fun s r hHand => ?_,
    fun s c hEnd hActive hFrame hShown hNew hXform => ?_, fun s hEnd hActive hFrame hShown => ?_,
    fun s hActive hEnd => ?_, fun s v hPress hEn hJob hMode => ?_, fun s v hPress hEn hJob hMode => ?_,
    fun s v hNot => ?_, fun s hPress hEn hShown hFrame => ?_, fun s hEn hHpd => ?_, fun s ok id rep hEn hTrained => ?_,
    fun s v reply hPress hBit hLo hHi => ?_, fun s v hPress hBit => ?_, fun s hPress => ?_, fun s ok hPress hHpd => ?_,
    fun s hPress hHpd => ?_, fun s => ?_⟩
  · have hJob := rasJob_queued s r.val t.val n (rasJobOf r.val t.val n false (p.dreg da.val)) (p.setT t.val Tally.idle)
    refine ⟨_, ?_, ?_, ?_, hJob.2, (rfl)⟩
    · show execRdraw r g da t false s = _
      rw [execRdraw, kcs_of_runsAt hRuns, kindA_idle hIdle, orderOf_sent, Prog.dreg_setT,
        rasIssue_owner hGood hn hSm hOwner hRoom]
    · rw [hJob.1, List.length_append]
      rfl
    · rw [hJob.1, List.getLast?_concat]
      rfl
  · have hJob := rasJob_queued s r.val t.val n (rasJobOf r.val t.val n true (p.dreg da.val)) (p.setT t.val Tally.idle)
    refine ⟨_, ?_, ?_, ?_, hJob.2⟩
    · show execRclear r g da t false s = _
      rw [execRclear, kcs_of_runsAt hRuns, kindA_idle hIdle, orderOf_sent, Prog.dreg_setT,
        rasIssue_owner hGood hn hSm hOwner hRoom]
    · rw [hJob.1, List.length_append]
      rfl
    · rw [hJob.1, List.getLast?_concat]
      rfl
  · show execRdraw r g da t false s = _
    rw [execRdraw, kcs_of_runsAt hRuns, kindA_idle hIdle, orderOf_sent, Prog.dreg_setT, rasIssue_bad hBad]
  · refine ⟨issueDone r.val t.val 0 0 (p.setT t.val Tally.idle)
      (orderViolation r.val .permission 1 0 (ringCid r.val (p.setT t.val Tally.idle).ctx) s), ?_, ?_, ?_, issueDone_prog ..⟩
    · show execRdraw r g da t false s = _
      rw [execRdraw, kcs_of_runsAt hRuns, kindA_idle hIdle, orderOf_sent, Prog.dreg_setT, rasIssue,
        if_neg (by simp [hGood])]
      dsimp only
      rw [if_neg (by simp [hSm]), if_pos hOwner]
    · rw [issueDone_eq]
      rfl
    · rw [issueDone_eq]
      rfl
  · refine ⟨({ s with dsp := { s.dsp with hand := s.dsp.hand ++ [plainCommit r.val (p.dreg da.val)] } } :
        State).setProg r.val { p with stall := .commit a.val },
      ?_, List.length_append, ?_, ?_, (rfl)⟩
    · show execRcommit r g da a false s = _
      rw [execRcommit, kcs_of_runsAt hRuns, orderOf_sent, rcommit, if_neg (by simp [hGood]),
        if_neg (by simp [hSm, hLease]), if_pos (by simp [hXform])]
      rfl
    · show ((s.dsp.hand ++ [_]).getLast?).map _ = _
      rw [List.getLast?_concat]
      rfl
    · rw [State.prog_setProg]
      rfl
  · refine ⟨(if smRing r.val then s else orderViolation r.val .permission 1 0 (ringCid r.val p.ctx) s).setProg r.val
      ((p.setS a.val 0).next 1), ?_, ?_, State.prog_setProg ..⟩
    · show execRcommit r g da a false s = _
      rw [execRcommit, kcs_of_runsAt hRuns, orderOf_sent, rcommit, if_neg (by simp [hGood]),
        if_pos (by simp [hLease])]
      rfl
    · exact (apply_ite State.dsp _ s (orderViolation _ _ _ _ _ s)).trans (ite_self _)
  · show execRcommit r g da a false s = _
    rw [execRcommit, kcs_of_runsAt hRuns, orderOf_sent, rcommit, if_pos hBad]
  · refine ⟨_, congrArg Host.Outcome.next (thrDataWrite_free hPress hFree), ?_, ?_, ?_⟩
    · exact loadCell_cell v.toNat s
    · rw [State.get_put_self _ _ _ (by simp [Fld.ok])]
      simp [Fld.size]
    · rfl
  · show execRasThrDataWrite v s = _
    rw [execRasThrDataWrite, thrDataWrite, if_neg (by simp [hPress]), if_pos hUse]
  · have hGo : ¬(!s.hasPress || decide (n.val < 3) ||
        !(decide (v.toNat % 256 < 16) || v.toNat % 256 == 255)) = true := by
      simp [hPress]
      omega
    by_cases hSame : v.toNat % 256 = s.get (F.RAS_CTX_OWNER_OWNER n.val)
    · refine ⟨s, ?_, hSame.symm, rfl⟩
      show execRasCtxOwnerWrite n v s = _
      rw [execRasCtxOwnerWrite, ctxOwnerWrite, if_neg hGo, if_pos hSame]
    · refine ⟨(s.put (F.RAS_CTX_OWNER_OWNER n.val) (v.toNat % 256)).setRasQueue n.val (s.rasQueue n.val), ?_, ?_,
        State.rasQueue_setRasQueue ..⟩
      · show execRasCtxOwnerWrite n v s = _
        rw [execRasCtxOwnerWrite, ctxOwnerWrite, if_neg hGo, if_neg hSame, dropQueuedJobs_started (by exact hAll)]
        rfl
      · rw [State.setRasQueue, State.get_mk, State.get_put_self _ _ _ (by simp [Fld.ok])]
        simp [Fld.size]
  · show execRasCtxOwnerWrite n v s = _
    rw [execRasCtxOwnerWrite, ctxOwnerWrite, if_pos (by simp [hn])]
  · have hOn : (s.bump F.RAS_RETILES_COUNT 1).rasQueue n = [j] := hQueue
    refine ⟨(s.bump F.RAS_RETILES_COUNT 1).setRasQueue n [{ j with retiles := j.retiles + 1 }], ?_, ?_, ?_, (rfl)⟩
    · show execTileBufferUe s = _
      rw [execTileBufferUe, hCur]
      dsimp only
      rw [onJob, hOn]
    · rw [State.rasQueue_setRasQueue]
      rfl
    · rw [State.setRasQueue, State.get_mk, State.get_bump_self _ _ (by simp [Fld.ok])]
  · show execTileBufferUe s = _
    rw [execTileBufferUe, hCur]
  · refine ⟨({ s with dsp := { s.dsp with hand := [], frame := some c, xform := none } } : State).setProg r.val
      ((p.setS a (BitVec.ofNat 64 (nextFrame (s.get F.DSP_FRAME_SEQ_SEQ)))).next 1), ?_, rfl, rfl, rfl,
      State.prog_setProg ..⟩
    have hFind : s.dsp.hand.find? (fun x => x.ring == r.val) = some c := by simp [hHand, hRing]
    have hRest : s.dsp.hand.filter (fun x => x.ring != r.val) = [] := by simp [hHand, hRing]
    show execCommitHandshake r s = _
    rw [execCommitHandshake, hFind]
    dsimp only
    rw [hNew, Bool.false_and, if_neg Bool.false_ne_true, hRest, if_neg (by simp [hLease]), hFrame,
      if_neg Bool.false_ne_true, displaceFrame]
    dsimp only
    rw [hNone]
    dsimp only
    rw [finishCommit, onProg]
    have hProg' : ∀ d : DispState, ({ s with dsp := d } : State).prog r.val = some p := fun _ => hProg
    rw [hProg']
    dsimp only
    rw [hStall, State.get_mk]
  · show execCommitHandshake r s = _
    rw [execCommitHandshake, hHand]
    rfl
  · have hExec : exec .vblankLatch s = .next (scanFrame (latched c s)) :=
      execVblankLatch_frame hEnd hActive hFrame hShown hNew hXform
    obtain ⟨px, t, hScan, hPx⟩ := scanFrame_scanned (latched c s)
    have hDsp : t.dsp = (latched c s).dsp := congrArg (fun r => r.2.dsp) hScan
    have hPrs : t.prs = (latched c s).prs := congrArg (fun r => r.2.prs) hScan
    rw [hPx] at hExec
    refine ⟨_, hExec, ?_, ?_, ?_, ?_, hPrs⟩
    · dsimp only
      rw [hDsp]
      rfl
    · exact congrArg DispState.frame hDsp
    · exact congrArg DispState.cur hDsp
    · rw [State.get_mk, get_of_scanned hScan (by decide) (by decide), latched, State.get_mk,
        State.get_put_self _ _ _ (by decide)]
      exact Nat.mod_eq_of_lt (nextFrame_lt s)
  · have hExec : exec .vblankLatch s = .next (scanFrame (reprojected s)) := execVblankLatch_none hEnd hActive hFrame
    have hBlack : scanFrame (reprojected s) = { reprojected s with dsp := { (reprojected s).dsp with
        lastPix := List.replicate (s.get F.DSP_H_ACTIVE * s.get F.DSP_V_ACTIVE) 0 } } := by
      have hNone : (reprojected s).dsp.shown = none := hShown
      have hKept : ∀ f : Fld, f.key ≠ R.DSP_REPROJ → f.key ≠ R.DSP_FRAME_SEQ → (reprojected s).get f = s.get f :=
        fun f hReproj hSeq => by
          rw [reprojected, State.get_mk, State.get_bump_key _ _ hReproj, State.get_put_key _ _ _ _ hSeq]
      rw [scanFrame, hNone, hKept _ (by decide) (by decide), hKept _ (by decide) (by decide)]
    rw [hBlack] at hExec
    refine ⟨_, hExec, ?_, ?_, rfl, hShown⟩
    · rw [State.get_mk, reprojected, State.get_mk, State.get_bump_key _ _ (by decide),
        State.get_put_self _ _ _ (by decide)]
      exact Nat.mod_eq_of_lt (nextFrame_lt s)
    · rw [State.get_mk, reprojected, State.get_mk, State.get_bump_self _ _ (by decide),
        State.get_put_key _ _ _ _ (by decide)]
  · have hSelf : ({ s with dsp := { s.dsp with blankEnd := false } } : State) = s := by rw [← hEnd]
    show execVblankLatch s = _
    rw [execVblankLatch]
    dsimp only
    rw [hSelf, hEnd, Bool.false_and, Bool.false_or, if_pos (by simp [hActive])]
  · obtain ⟨odiv, nint, nfrac, hExec⟩ := execDspEnable_good hPress hEn hJob hMode
    have hKept : ∀ f : Fld, f.key = R.DSP_CTL → (writeCtl 9 true odiv nint nfrac
        ((dspCtlFields v s).put F.DSP_CTL_EN 1)).get f = ((dspCtlFields v s).put F.DSP_CTL_EN 1).get f := fun f hf =>
      writeCtl_get (by rw [hf]; decide) (by rw [hf]; decide) (by rw [hf]; decide) (by rw [hf]; decide) ..
    refine ⟨_, hExec, ?_, ?_, ?_, ?_⟩
    · rw [on_of_get_eq (hKept _ rfl), State.on_put_self _ _ (by decide)]
      rfl
    · rw [hKept _ rfl, State.get_put_of _ _ _ _ (by simp), dspCtlFields_rate]
    · exact (same_of_out (l := [.display]) .display (@writeCtl_out _ .mem .any .any .any .any ..)).trans
        ((State.put_dsp ..).trans (dspCtlFields_dsp v s).1)
    · exact (pool_of_out (@writeCtl_out _ .mem .any .any .any .any ..)).trans
        ((State.put_pool ..).trans (dspCtlFields_dsp v s).2)
  · have hGo : ¬(!s.hasPress || s.on F.DSP_CTL_EN || s.jobRuns 4) = true := by simp [hPress, hEn, hJob]
    show execDspEnable v s = _
    rw [execDspEnable, dspEnable, if_neg hGo]
    dsimp only
    rw [if_pos hMode]
  · show execDspEnable v s = _
    rw [execDspEnable, dspEnable, if_pos (by simpa [or_assoc] using hNot)]
  · refine ⟨_, execDspDisable_idle hPress hEn hShown hFrame, ?_, ?_, ?_, ?_⟩
    all_goals simp [dspOff, State.dspState, State.on, State.get_put_of, State.get_put_self, Fld.ok, Fld.size]
  · have hGo : ¬(!s.on F.DSP_CTL_EN || !s.dsp.hpd) = true := by simp [hEn, hHpd]
    refine ⟨⟨{ ((s.putB F.DSP_STATUS_TRAINED true).put F.DSP_STATUS_ADMITTED 0) with
      dsp := { s.dsp with failed := false } }, if_neg hGo, ?_, ?_, rfl⟩, ⟨dspEvent Ev.DSP_LINK_FAIL
        { ((s.putB F.DSP_STATUS_TRAINED false).put F.DSP_STATUS_ADMITTED 0) with dsp := { s.dsp with failed := true } },
        if_neg hGo, ?_, ?_, ?_⟩⟩
    · simp [State.putB, State.on, State.get_put_of, State.get_put_self, Fld.ok, Fld.size, b2n]
    · simp [State.on, State.get_put_self, Fld.ok, Fld.size]
    · rw [dspEvent_on (by decide) (by decide)]
      simp [State.putB, State.on, State.get_put_of, State.get_put_self, Fld.ok, Fld.size, b2n]
    · rw [dspEvent_on (by decide) (by decide)]
      simp [State.on, State.get_put_self, Fld.ok, Fld.size]
    · rw [dspEvent_dsp (by decide)]
  · have hGo : ¬(!s.on F.DSP_CTL_EN || !s.on F.DSP_STATUS_TRAINED) = true := by simp [hEn, hTrained]
    let u := if ok then s.put F.DSP_HDCP_RXID_RXID id.toNat else s
    have hExec : exec (.hdcpAuthentication ok id rep) s = if (ok && u.rxAllowed id.toNat && !rep) = true then
          .next { u.put F.DSP_STATUS_ADMITTED 1 with dsp := { u.dsp with failed := false } }
        else .next (dspEvent Ev.DSP_HDCP_FAIL { u.put F.DSP_STATUS_ADMITTED 0 with dsp := { u.dsp with failed := true } }) :=
      if_neg hGo
    have hGet : ∀ f : Fld, f.key ≠ R.DSP_HDCP_RXID → u.get f = s.get f := fun f hf => by
      dsimp only [u]
      split
      · exact State.get_put_key _ _ _ _ hf
      · rfl
    have hAllowed : u.rxAllowed id.toNat = s.rxAllowed id.toNat := rxAllowed_of_get hGet _
    rw [hAllowed] at hExec
    cases hOk : ok && s.rxAllowed id.toNat && !rep with
    | true =>
      rw [if_pos hOk] at hExec
      refine ⟨_, hExec, ?_, rfl, ?_⟩
      · rw [State.on_mk, State.on_put_self _ _ (by decide)]
        rfl
      · rw [State.on_mk, on_of_get_eq (State.get_put_of _ _ _ _ (by simp)), on_of_get_eq (hGet _ (by decide)), hTrained]
    | false =>
      rw [if_neg (by simp [hOk])] at hExec
      refine ⟨_, hExec, ?_, ?_, ?_⟩
      · rw [dspEvent_on (by decide) (by decide), State.on_mk, State.on_put_self _ _ (by decide)]
        rfl
      · rw [dspEvent_dsp (by decide)]
        rfl
      · rw [dspEvent_on (by decide) (by decide), State.on_mk, on_of_get_eq (State.get_put_of _ _ _ _ (by simp)),
          on_of_get_eq (hGet _ (by decide)), hTrained]
  · refine ⟨_, congrArg Host.Outcome.next (auxGo_hdcp hPress hBit hLo hHi), ?_, rfl⟩
    rw [State.on_put_self _ _ (by decide)]
    rfl
  · obtain ⟨e, hGo⟩ := auxGo_silent hPress hBit
    refine ⟨_, congrArg Host.Outcome.next hGo, ?_, List.length_append, ?_⟩
    · rw [State.on_put_self _ _ (by decide)]
      rfl
    · rw [State.get_put_of _ _ _ _ (by simp), State.get_mk, auxFields_address]
  · have hNot : ¬(!s.hasPress) = true := by simp [hPress]
    have hTrained : ∀ d, (dspEvent Ev.DSP_HPD (({ s with dsp := d } : State).put F.DSP_STATUS_TRAINED 0 |>.put
        F.DSP_STATUS_ADMITTED 0)).on F.DSP_STATUS_TRAINED = false := fun d => by
      rw [dspEvent_on (by decide) (by decide), on_of_get_eq (State.get_put_of _ _ _ _ (by simp)),
        State.on_put_self _ _ (by decide)]
      rfl
    refine ⟨_, if_neg hNot, ?_, hTrained _, ?_, ?_⟩
    · rw [dspEvent_dsp (by decide)]
      rfl
    · rw [dspEvent_on (by decide) (by decide), State.on_put_self _ _ (by decide)]
      rfl
    · rw [State.dspState, hTrained, Bool.false_and, Bool.false_and, if_neg (c := false = true) Bool.false_ne_true]
      split <;> decide
  · have hGo : ¬(!s.hasPress || !s.dsp.hpd) = true := by simp [hPress, hHpd]
    refine ⟨dspEvent Ev.DSP_HPD ((if ok then s else s.put F.DSP_STATUS_TRAINED 0).put F.DSP_STATUS_ADMITTED 0),
      if_neg hGo, ?_, ?_, ?_⟩
    · rw [dspEvent_on (by decide) (by decide), State.on_put_self _ _ (by decide)]
      rfl
    · rw [dspEvent_on (by decide) (by decide), on_of_get_eq (State.get_put_of _ _ _ _ (by simp))]
      cases ok with
      | true => rfl
      | false => rw [if_neg Bool.false_ne_true, State.on_put_self _ _ (by decide)]; rfl
    · rw [dspEvent_dsp (by decide), State.put_dsp]
      cases ok <;> rfl
  · have hGo : ¬(!s.hasPress || s.dsp.hpd) = true := by simp [hPress, hHpd]
    exact ⟨_, if_neg hGo, dspEvent_dsp (src := Ev.DSP_HPD) (by decide) _,
      (prs_of_rest (dspEvent_rest (src := Ev.DSP_HPD) (by decide) _)).trans rfl⟩
  · by_cases hBoth : (s.dsp.hpd && s.dsp.failed) = true
    · refine ⟨_, if_pos hBoth, ?_, rfl⟩
      simp_all
    · refine ⟨s, if_neg hBoth, ?_, rfl⟩
      cases hHpd : s.dsp.hpd <;> simp_all

end Sys2Proof.Machine
end

section
/-! Drypoint's count of scans, which is wider than its statement says. -/

namespace Sys2Proof.Machine

-- One proof at a time: the check compiles the whole text within a fixed memory.
set_option Elab.async false

open Sys2Proof.Tests

/-- A node whose window is open and that has counted 2^32 - 1 scans. -/
def scansCounted : State :=
  { st [(F.DRY_SCANS_COUNT, 2 ^ 32 - 1)] with dry := { DryState.init with window := true } }

theorem scansCounted_goes_on : (nx (.bdEdge 0 true true 5) scansCounted).get F.DRY_SCANS_COUNT = 2 ^ 32 := by decide

/-- Refutes O49: DRY_SCANS.COUNT has 64 bits (chapter 18), so an accepted edge takes it past 2^32 - 1. -/
theorem not_drypointScansAndPower : ¬Obligations.DrypointScansAndPower := by
  intro ⟨_, _, hEdge, _⟩
  obtain ⟨hScans, _⟩ := of_completes (nx_eq (by decide)) (hEdge scansCounted 0 true 5 (by decide) (by decide) (by decide)
    (by decide) (by decide) (by decide))
  have hOn := scansCounted_goes_on
  rw [hScans] at hOn
  exact absurd hOn (by decide)

end Sys2Proof.Machine
end

section
/-! SUPPORT. Synthesizers: what entering a state, gating and an applied setting give and leave. -/

namespace Sys2Proof.Machine

-- One proof at a time: the check compiles the whole text within a fixed memory.
set_option Elab.async false

variable {s t : State} {f : Fld} {n : Nat}

/-- Every part, and these families of registers. -/
def families (l : List RegFam) : Frame where
  parts := [.captures, .heldLow, .ticks, .free, .fuses, .power, .clocks, .bytes, .memory, .translation, .events, .pins,
    .seals, .log, .rings, .hatch, .raster, .display, .path, .drypoint, .tansy, .inputs, .leases, .repair, .fabric, .trust,
    .test, .sent, .toHost, .queue]
  regs := some l

/-- A register outside the families that an operation's footprint names reads as before. -/
theorem get_of_families {l : List RegFam} (h : t.out (families l).foot = s.out (families l).foot)
    (hk : ∀ g ∈ l, ∀ b i, g b i ≠ f.key) : t.get f = s.get f := by
  have hReg : t.reg f.key = s.reg f.key := (State.out_eq_iff.mp h).reg f.key fun hMay => by
    obtain ⟨g, hg, b, i, e⟩ := hMay l rfl
    exact hk g hg b i e
  rw [State.get, hReg, State.get]

theorem status_ne_islClk (n : Nat) : R.CKR_SYN_STATUS n ≠ R.CKR_ISL_CLK := by
  simp only [R.CKR_SYN_STATUS, R.CKR_ISL_CLK]
  omega

theorem ctl_ne_islClk (n : Nat) : R.CKR_SYN_CTL n ≠ R.CKR_ISL_CLK := by
  simp only [R.CKR_SYN_CTL, R.CKR_ISL_CLK]
  omega

theorem ctl_ne_status (n : Nat) : R.CKR_SYN_CTL n ≠ R.CKR_SYN_STATUS n := by
  simp only [R.CKR_SYN_CTL, R.CKR_SYN_STATUS]
  omega

theorem ctl_ne_frac (n : Nat) : R.CKR_SYN_CTL n ≠ R.CKR_SYN_FRAC n := by
  simp only [R.CKR_SYN_CTL, R.CKR_SYN_FRAC]
  omega

/-- A field of the status register that entering a state leaves: any but STATE, and but DRIFT on entry to LOCKED. -/
theorem setSynState_status {st : Nat} (hKey : f.key = R.CKR_SYN_STATUS n) (hHi : f.hi < 29)
    (hDrift : st ≠ synLocked ∨ 15 < f.lo) (s : State) : (setSynState n st s).get f = s.get f := by
  have hState : ∀ u : State, (u.put (F.CKR_SYN_STATUS_STATE n) st).get f = u.get f := fun u =>
    State.get_put_of _ _ _ _ (.inr ⟨by simp, by simp, .inl hHi⟩)
  unfold setSynState setIslandClock
  dsimp only
  rw [State.get_put_key _ _ _ _ (by rw [hKey]; exact status_ne_islClk n)]
  split
  next hLocked =>
    rw [State.get_put_of _ _ _ _ (.inr ⟨by simp, by simp, .inr (by simpa [hLocked] using hDrift)⟩), hState,
      State.setSyn, State.get_mk]
  next => rw [hState, State.setSyn, State.get_mk]

theorem setSynState_state {st : Nat} (hSt : st < 8) (s : State) : (setSynState n st s).synState n = st := by
  have hPut : ∀ u : State, (u.put (F.CKR_SYN_STATUS_STATE n) st).get (F.CKR_SYN_STATUS_STATE n) = st := fun u => by
    rw [State.get_put_self _ _ _ (by simp [Fld.ok])]
    exact Nat.mod_eq_of_lt hSt
  unfold setSynState setIslandClock State.synState
  dsimp only
  rw [State.get_put_key _ _ _ _ (status_ne_islClk n)]
  split
  · rw [State.get_put_of _ _ _ _ (by simp), hPut]
  · exact hPut _

theorem setSynState_drift (s : State) : (setSynState n synLocked s).get (F.CKR_SYN_STATUS_DRIFT n) = 0 := by
  unfold setSynState setIslandClock
  dsimp only
  rw [State.get_put_key _ _ _ _ (status_ne_islClk n), if_pos rfl, State.get_put_self _ _ _ (by simp [Fld.ok])]
  exact Nat.zero_mod _

/-- What a synthesizer keeps beside its registers when it enters a state. -/
def synEnters (st old : Nat) (x : Syn) : Syn :=
  { x with pureWin := x.pureWin && synClass old == synClass st && synClass st != 0,
           refCount := if synClass st = 0 then none else x.refCount,
           frozen := st = synCoasting ∨ st = synGated }

theorem setSynState_clk (n st : Nat) (s : State) : (setSynState n st s).clk =
    { s.clk with syn := Tab.set s.clk.syn n (synEnters st (s.synState n) (s.syn n)) } := by
  unfold setSynState setIslandClock
  dsimp only
  split <;> rfl

theorem syn_setSyn (s : State) (n : Nat) (x : Syn) : (s.setSyn n x).syn n = x := Tab.get_set_self ..

theorem quadMode_setQuad (s : State) (q : Nat) (m : QuadMode) : (setQuad q m s).quadMode q = m := Tab.get_set_self ..

theorem gateAndRestart_state (off : Bool) (s : State) :
    (gateAndRestart n off s).synState n = if off then synOff else synAcquiring := by
  unfold gateAndRestart
  cases off with
  | true => exact setSynState_state (by decide) _
  | false =>
    dsimp only
    rw [if_neg Bool.false_ne_true, if_neg Bool.false_ne_true]
    split
    · exact setSynState_state (by decide) _
    · rw [State.synState, State.get_put_of _ _ _ _ (by simp)]
      exact setSynState_state (by decide) _

theorem gateAndRestart_clk (n : Nat) (off : Bool) (s : State) : ∃ st, (gateAndRestart n off s).clk =
    { s.clk with syn := Tab.set s.clk.syn n (synEnters st (s.synState n) (s.syn n)) } := by
  unfold gateAndRestart
  cases off with
  | true =>
    rw [if_pos rfl, setSynState_clk]
    have hOld : (s.put (F.CKR_SYN_STATUS_REF_LOST n) 0).synState n = s.synState n := State.get_put_of _ _ _ _ (by simp)
    rw [hOld]
    exact ⟨_, rfl⟩
  | false =>
    rw [if_neg Bool.false_ne_true]
    have hPut : ∀ u : State, (u.put (F.CKR_SYN_STATUS_REF_LOST n) 1).clk = u.clk := fun _ => rfl
    rw [apply_ite State.clk, hPut, ite_self, setSynState_clk]
    exact ⟨_, rfl⟩

/-- A write of a synthesizer keeps what waits for the SM. -/
theorem gateAndRestart_pendCtl (off : Bool) (s : State) : ((gateAndRestart n off s).syn n).pendCtl = (s.syn n).pendCtl := by
  obtain ⟨st, hClk⟩ := gateAndRestart_clk n off s
  rw [State.syn, hClk, Tab.get_set_self]
  rfl

theorem applySynWrite_pendCtl (s : State) : ((applySynWrite n s).syn n).pendCtl = (s.syn n).pendCtl := by
  unfold applySynWrite
  dsimp only
  split
  · split
    · exact gateAndRestart_pendCtl ..
    · rfl
  · cases synQuad n with
    | none => exact gateAndRestart_pendCtl ..
    | some q =>
      dsimp only
      split
      · rfl
      · exact gateAndRestart_pendCtl ..

/-- The registers of an accepted setting. -/
def synSet (n : Nat) (en : Bool) (odiv nint nfrac : Nat) (s : State) : State :=
  (((s.putB (F.CKR_SYN_CTL_EN n) en).put (F.CKR_SYN_CTL_ODIV n) odiv).put (F.CKR_SYN_CTL_NINT n) nint).put
    (F.CKR_SYN_FRAC_NFRAC n) nfrac

section
variable {en : Bool} {odiv nint nfrac : Nat}

theorem writeCtl_good (h : synSettingOk n nint nfrac odiv = true) :
    writeCtl n en odiv nint nfrac s = applySynWrite n (synSet n en odiv nint nfrac s) := if_pos h

theorem writeCtl_bad (h : synSettingOk n nint nfrac odiv = false) :
    writeCtl n en odiv nint nfrac s = s.put (F.CKR_SYN_STATUS_REFUSED n) 1 := by rw [writeCtl, h, if_neg Bool.false_ne_true]

theorem synSet_en : (synSet n en odiv nint nfrac s).on (F.CKR_SYN_CTL_EN n) = en := by
  rw [synSet, State.on, State.get_put_key _ _ _ _ (ctl_ne_frac n), State.get_put_of _ _ _ _ (by simp),
    State.get_put_of _ _ _ _ (by simp), State.putB, State.get_put_self _ _ _ (by simp [Fld.ok])]
  cases en <;> rfl

theorem synSet_odiv (h : odiv < 256) : (synSet n en odiv nint nfrac s).get (F.CKR_SYN_CTL_ODIV n) = odiv := by
  rw [synSet, State.get_put_key _ _ _ _ (ctl_ne_frac n), State.get_put_of _ _ _ _ (by simp),
    State.get_put_self _ _ _ (by simp [Fld.ok])]
  exact Nat.mod_eq_of_lt h

theorem synSet_nint (h : nint < 256) : (synSet n en odiv nint nfrac s).get (F.CKR_SYN_CTL_NINT n) = nint := by
  rw [synSet, State.get_put_key _ _ _ _ (ctl_ne_frac n), State.get_put_self _ _ _ (by simp [Fld.ok])]
  exact Nat.mod_eq_of_lt h

theorem synSet_get (hCtl : f.key ≠ R.CKR_SYN_CTL n) (hFrac : f.key ≠ R.CKR_SYN_FRAC n) :
    (synSet n en odiv nint nfrac s).get f = s.get f := by
  rw [synSet, State.get_put_key _ _ _ _ hFrac, State.get_put_key _ _ _ _ hCtl, State.get_put_key _ _ _ _ hCtl, State.putB,
    State.get_put_key _ _ _ _ hCtl]

theorem synSet_state : (synSet n en odiv nint nfrac s).synState n = s.synState n :=
  synSet_get (ctl_ne_status n).symm (by simp only [R.CKR_SYN_STATUS, R.CKR_SYN_FRAC]; omega)

theorem synSet_clk : (synSet n en odiv nint nfrac s).clk = s.clk := (rfl)

/-- The control register after an accepted setting. -/
theorem writeCtl_reads (h : synSettingOk n nint nfrac odiv = true) (hOdiv : odiv < 256) (hNint : nint < 256) :
    (writeCtl n en odiv nint nfrac s).on (F.CKR_SYN_CTL_EN n) = en ∧
      (writeCtl n en odiv nint nfrac s).get (F.CKR_SYN_CTL_ODIV n) = odiv ∧
      (writeCtl n en odiv nint nfrac s).get (F.CKR_SYN_CTL_NINT n) = nint := by
  rw [writeCtl_good h]
  have hGet : ∀ {f : Fld}, f.key = R.CKR_SYN_CTL n → ∀ u, (applySynWrite n u).get f = u.get f := fun hf u =>
    applySynWrite_get (hf ▸ ctl_ne_status n) (hf ▸ ctl_ne_islClk n) u
  exact ⟨(on_of_get_eq (hGet rfl _)).trans synSet_en, (hGet rfl _).trans (synSet_odiv hOdiv),
    (hGet rfl _).trans (synSet_nint hNint)⟩

end

/-! The fields of a write of CTL. -/

theorem ctlOf_lt (n : Nat) (v : W32) (s : State) : (ctlOf n v s).2.1 < 256 ∧ (ctlOf n v s).2.2 < 256 := by
  have hBits : ∀ h l, h + 1 - l = 8 → bits v.toNat h l < 256 := fun h l hl => by
    rw [bits, hl]
    exact Nat.mod_lt _ (by decide)
  unfold ctlOf
  dsimp only
  constructor
  · split
    · exact hBits 23 16 rfl
    · exact State.get_lt ..
  · split
    · exact hBits 15 8 rfl
    · exact State.get_lt ..

/-- Writing CTL back with another EN keeps its fields. -/
theorem ctlOf_ctlWithEn (n : Nat) (en : Bool) (s : State) : ctlOf n (s.ctlWithEn n en) s =
    (en, s.get (F.CKR_SYN_CTL_ODIV n), s.get (F.CKR_SYN_CTL_NINT n)) := by
  have hOdiv : s.get (F.CKR_SYN_CTL_ODIV n) < 256 := State.get_lt ..
  have hNint : s.get (F.CKR_SYN_CTL_NINT n) < 256 := State.get_lt ..
  have hEn := b2n_lt en
  have hWord : (s.ctlWithEn n en).toNat =
      b2n en * 2 ^ 31 + s.get (F.CKR_SYN_CTL_ODIV n) * 2 ^ 16 + s.get (F.CKR_SYN_CTL_NINT n) * 2 ^ 8 := by
    rw [State.ctlWithEn, BitVec.toNat_ofNat]
    exact Nat.mod_eq_of_lt (by omega)
  have hB1 : bits (s.ctlWithEn n en).toNat 23 16 = s.get (F.CKR_SYN_CTL_ODIV n) := by
    rw [hWord, bits]
    omega
  have hB2 : bits (s.ctlWithEn n en).toNat 15 8 = s.get (F.CKR_SYN_CTL_NINT n) := by
    rw [hWord, bits]
    omega
  have hB3 : bit (s.ctlWithEn n en).toNat 31 = en := by
    rw [hWord, bit]
    cases en <;> simp [b2n] <;> omega
  rw [ctlOf, hB1, hB2, hB3, ite_self, ite_self]

/-! The writers of CTL. -/

theorem synAbsent_of_ne (h9 : n ≠ 9) (h10 : n ≠ 10) (s : State) : s.synAbsent n = false := by simp [State.synAbsent, h9, h10]

theorem synCtlWrite_sm (h9 : n ≠ 9) (h10 : n ≠ 10) (v : W32) (s : State) : synCtlWrite .sm n v s =
    writeCtl n (ctlOf n v s).1 (ctlOf n v s).2.1 (ctlOf n v s).2.2 (s.get (F.CKR_SYN_FRAC_NFRAC n)) s := by
  rw [synCtlWrite, synAbsent_of_ne h9 h10, if_neg (by simp [mayWriteCtl, h9, h10]), if_neg (by decide)]

theorem synCtlWrite_steward (hn : n < 4 ∨ n = 8) (v : W32) (s : State) : synCtlWrite .steward n v s = stewardCtl n v s := by
  rw [synCtlWrite, synAbsent_of_ne (by omega) (by omega), if_neg (by simp [mayWriteCtl]; omega), if_pos rfl]

theorem stewardCtl_kept {v : W32}
    (hOk : synSettingOk n (ctlOf n v s).2.2 (s.get (F.CKR_SYN_FRAC_NFRAC n)) (ctlOf n v s).2.1 = true)
    (hFused : s.overFused n (ctlOf n v s).2.2 (s.get (F.CKR_SYN_FRAC_NFRAC n)) (ctlOf n v s).2.1 = false) :
    stewardCtl n v s = s.setSyn n { s.syn n with pendCtl := some v } := by
  unfold stewardCtl
  generalize ctlOf n v s = c at hOk hFused ⊢
  exact if_neg (by rw [hOk, hFused]; decide)

theorem stewardCtl_over {v : W32}
    (hFused : s.overFused n (ctlOf n v s).2.2 (s.get (F.CKR_SYN_FRAC_NFRAC n)) (ctlOf n v s).2.1 = true) :
    stewardCtl n v s = s.put (F.CKR_SYN_STATUS_REFUSED n) 1 := by
  unfold stewardCtl
  generalize ctlOf n v s = c at hFused ⊢
  exact if_pos (by rw [hFused, Bool.or_true])

theorem startStage_get (hStage : f.key ≠ R.CKR_START_STAGE) (hIsl : f.key ≠ R.CKR_ISL_STATE) (n : Nat) (s : State) :
    (startStage n s).get f = s.get f := by
  unfold startStage releaseIslands
  dsimp only
  split
  · rfl
  · split
    · exact State.get_put_key _ _ _ _ hStage
    · split
      · rw [State.get_put_key _ _ _ _ hIsl, State.get_put_key _ _ _ _ hStage]
      · rfl

theorem applySynWrite_starts (hOff : s.synState n = synOff) (hEn : s.on (F.CKR_SYN_CTL_EN n) = true) :
    applySynWrite n s = gateAndRestart n false s := by
  rw [applySynWrite, hEn]
  exact if_pos hOff

theorem applySynWrite_stops (hOn : s.synState n ≠ synOff) (hEn : s.on (F.CKR_SYN_CTL_EN n) = false)
    (hQuad : (synQuad n).all (fun q => !s.memStarted || s.quadMode q == .selfRefresh || s.quadMode q == .expired) = true) :
    applySynWrite n s = gateAndRestart n true s := by
  rw [applySynWrite, hEn, if_neg hOn]
  cases hq : synQuad n with
  | none => rfl
  | some q =>
    rw [hq] at hQuad
    have hFree : ¬(s.memStarted && (s.quadMode q == .running || s.quadMode q == .recentring)) = true := by
      simp only [Option.all_some, Bool.or_eq_true, Bool.not_eq_true', beq_iff_eq] at hQuad
      rcases hQuad with (h | h) | h <;> simp [h]
    exact if_neg hFree

theorem applySynWrite_quiesces {q : Nat} (hOn : s.synState n ≠ synOff) (hEn : s.on (F.CKR_SYN_CTL_EN n) = false)
    (hq : synQuad n = some q) (hStarted : s.memStarted = true) (hMode : s.quadMode q = .running) : applySynWrite n s =
      setQuad q .quiescing { s with clk := { s.clk with quadOff := NSet.ins s.clk.quadOff q } } := by
  rw [applySynWrite, hEn, if_neg hOn, hq]
  exact if_pos (by simp [hStarted, hMode])

theorem refuseRaise_get (hKey : ∀ n, f.key ≠ R.CKR_SYN_STATUS n) (n : Nat) (s : State) : (refuseRaise n s).get f =
    s.get f := by
  unfold refuseRaise
  split
  · rfl
  · dsimp only
    split
    · rw [State.get_put_key _ _ _ _ (hKey n), State.setSyn, State.get_mk]
    · rfl

end Sys2Proof.Machine
end
section
/-! Synthesizers' settings. -/

namespace Sys2Proof.Machine

-- One proof at a time: the check compiles the whole text within a fixed memory.
set_option Elab.async false

/-- Settles O25: what the SM's and the steward's writes of a synthesizer do, and the steps of VDD_CORE. -/
theorem synthesizerConfiguration : Obligations.SynthesizerConfiguration := by
  refine ⟨fun s n h9 h10 hOff hOk => ?_, fun s n hn hOk hFused => ?_, fun s n h9 h10 hOn hOk hQuad => ?_,
    fun s q hOn hOk hStarted hMode => ?_, fun s n v h9 h10 hLo hHi => ?_, fun s sm n v => rfl,
    fun s n v h9 h10 hN hWin hOff => ?_, fun s n v h9 h10 hOk => ?_, fun s n v h9 h10 hBad => ?_,
    fun s n v hn hOk hFused => ?_, fun s n v hn hFused => ?_, fun s n v hPend hVolts hOk => ?_,
    fun s hOwned hLo hHi => ?_, fun s hOwned hLo hHi hOff => ?_, fun s hOwned => ?_⟩
  · have hKeep : ¬(true && n.val == 11 && s.starting && s.get F.CKR_START_STAGE_STAGE == 0 && s.synState 11 == synLocked) =
        true := by
      intro h
      simp only [Bool.and_eq_true, beq_iff_eq] at h
      obtain ⟨⟨⟨⟨-, h11⟩, -⟩, -⟩, hLocked⟩ := h
      rw [h11, hLocked] at hOff
      exact absurd hOff (by decide)
    have hState : (synSet n.val true (s.get (F.CKR_SYN_CTL_ODIV n.val)) (s.get (F.CKR_SYN_CTL_NINT n.val))
        (s.get (F.CKR_SYN_FRAC_NFRAC n.val)) s).synState n.val = synOff := synSet_state.trans hOff
    have hWrite : synCtlWrite .sm n.val (s.ctlWithEn n.val true) s = gateAndRestart n.val false (synSet n.val true
        (s.get (F.CKR_SYN_CTL_ODIV n.val)) (s.get (F.CKR_SYN_CTL_NINT n.val)) (s.get (F.CKR_SYN_FRAC_NFRAC n.val)) s) := by
      rw [synCtlWrite_sm h9 h10, ctlOf_ctlWithEn, writeCtl_good hOk, applySynWrite_starts hState synSet_en]
    refine ⟨startStage n.val (synCtlWrite .sm n.val (s.ctlWithEn n.val true) s), ?_, ?_, ?_⟩
    · show execSynEnable true n s = _
      rw [execSynEnable, if_neg hKeep, if_pos rfl]
      exact congrArg Host.Outcome.next (if_pos rfl)
    · rw [on_of_get_eq (startStage_get (by simp [R.CKR_SYN_CTL, R.CKR_START_STAGE]; omega)
        (by simp [R.CKR_SYN_CTL, R.CKR_ISL_STATE]; omega) _ _), hWrite,
        on_of_get_eq (gateAndRestart_get (ctl_ne_status _) (ctl_ne_islClk _) _ _), synSet_en]
    · rw [State.synState, startStage_get (by simp [R.CKR_SYN_STATUS, R.CKR_START_STAGE]; omega)
        (by simp [R.CKR_SYN_STATUS, R.CKR_ISL_STATE]; omega), hWrite]
      exact gateAndRestart_state false _
  · have hKeep : ¬(false && n.val == 11 && s.starting && s.get F.CKR_START_STAGE_STAGE == 0 && s.synState 11 == synLocked) =
        true := by simp
    refine ⟨s.setSyn n.val { s.syn n.val with pendCtl := some (s.ctlWithEn n.val true) }, ?_, ?_, rfl⟩
    · show execSynEnable false n s = _
      have hCtl := ctlOf_ctlWithEn n.val true s
      rw [execSynEnable, if_neg hKeep, if_neg Bool.false_ne_true, synCtlWrite_steward hn,
        stewardCtl_kept (by rw [hCtl]; exact hOk) (by rw [hCtl]; exact hFused)]
      exact congrArg Host.Outcome.next (if_neg Bool.false_ne_true)
    · rw [syn_setSyn]
  · have hWrite : synCtlWrite .sm n.val (s.ctlWithEn n.val false) s = gateAndRestart n.val true (synSet n.val false
        (s.get (F.CKR_SYN_CTL_ODIV n.val)) (s.get (F.CKR_SYN_CTL_NINT n.val)) (s.get (F.CKR_SYN_FRAC_NFRAC n.val)) s) := by
      have hStarted : (synSet n.val false (s.get (F.CKR_SYN_CTL_ODIV n.val)) (s.get (F.CKR_SYN_CTL_NINT n.val))
          (s.get (F.CKR_SYN_FRAC_NFRAC n.val)) s).memStarted = s.memStarted := by
        rw [State.memStarted, synSet_get, State.memStarted]
        all_goals
          simp only [R.MEMG_CFG, R.CKR_SYN_CTL, R.CKR_SYN_FRAC]
          omega
      rw [synCtlWrite_sm h9 h10, ctlOf_ctlWithEn, writeCtl_good hOk, applySynWrite_stops (by rwa [synSet_state]) synSet_en]
      rw [hStarted]
      exact hQuad
    refine ⟨gateAndRestart n.val true (synSet n.val false (s.get (F.CKR_SYN_CTL_ODIV n.val))
      (s.get (F.CKR_SYN_CTL_NINT n.val)) (s.get (F.CKR_SYN_FRAC_NFRAC n.val)) s), ?_, ?_, gateAndRestart_state true _⟩
    · show execSynDisable true n s = _
      rw [execSynDisable, if_pos rfl, hWrite]
    · rw [on_of_get_eq (gateAndRestart_get (ctl_ne_status _) (ctl_ne_islClk _) _ _), synSet_en]
  · let u := synSet (4 + q.val) false (s.get (F.CKR_SYN_CTL_ODIV (4 + q.val))) (s.get (F.CKR_SYN_CTL_NINT (4 + q.val)))
      (s.get (F.CKR_SYN_FRAC_NFRAC (4 + q.val))) s
    have hq : synQuad (4 + q.val) = some q.val := by
      simp [synQuad]
      omega
    have hStill : u.memStarted = true := by
      rw [State.memStarted, synSet_get]
      · exact hStarted
      all_goals
        simp only [R.MEMG_CFG, R.CKR_SYN_CTL, R.CKR_SYN_FRAC]
        omega
    refine ⟨setQuad q.val .quiescing { u with clk := { u.clk with quadOff := NSet.ins u.clk.quadOff q.val } }, ?_,
      quadMode_setQuad .., ?_, ?_⟩
    · show execSynDisable true ⟨4 + q.val, _⟩ s = _
      rw [execSynDisable, if_pos rfl, synCtlWrite_sm (n := 4 + q.val) (by omega) (by omega), ctlOf_ctlWithEn,
        writeCtl_good hOk, applySynWrite_quiesces (by rwa [synSet_state]) synSet_en hq hStill hMode]
    · rw [State.synState, setQuad, State.get_mk, State.get_mk]
      exact synSet_state
    · rw [setQuad, State.on_mk, State.on_mk]
      exact synSet_en
  · have hLegal : legalIn [(250, 2000)] (bits v.toNat 15 0) = true := by
      simp [legalIn, bits, hLo, hHi]
    have hBits : bits v.toNat 15 0 = v.toNat % 65536 := by simp [bits]
    refine ⟨s.put (F.CKR_SYN_GUARD_GUARD_PPM n.val) (bits v.toNat 15 0), ?_, ?_, ?_⟩
    · show execSynConfigWrite true n 3 v s = _
      rw [execSynConfigWrite, if_pos rfl, synRegWrite, if_neg (by decide), if_neg (by decide), if_pos (by decide),
        synGuardWrite, synAbsent_of_ne h9 h10, if_neg (by simp [mayWriteGuard]), if_pos hLegal]
    · rw [State.get_put_self _ _ _ (by simp [Fld.ok]), hBits]
      exact Nat.mod_eq_of_lt (Nat.mod_lt _ (by decide))
    · exact State.get_put_key _ _ _ _ (by simp only [R.CKR_SYN_STATUS, R.CKR_SYN_GUARD]; omega)
  · have hBits : bits v.toNat 31 16 = v.toNat / 65536 := by
      have := v.isLt
      simp only [bits]
      omega
    have hWin' : bits v.toNat 7 0 = v.toNat % 256 := by simp [bits]
    have hLegal : legalIn [(16, 65535)] (bits v.toNat 31 16) = true := by
      have := v.isLt
      simp only [legalIn, hBits, List.isEmpty_cons, List.any_cons, List.any_nil, Bool.or_false, Bool.false_or,
        Bool.and_eq_true, decide_eq_true_eq]
      omega
    have hLegal' : legalIn [(1, 255)] (bits v.toNat 7 0) = true := by
      simp only [legalIn, hWin', List.isEmpty_cons, List.any_cons, List.any_nil, Bool.or_false, Bool.false_or,
        Bool.and_eq_true, decide_eq_true_eq]
      omega
    let u := (s.put (F.CKR_SYN_LOCK_LOCK_N n.val) (bits v.toNat 31 16)).put (F.CKR_SYN_LOCK_LOCK_WIN n.val) (bits v.toNat 7 0)
    have hKey : R.CKR_SYN_STATUS n.val ≠ R.CKR_SYN_LOCK n.val := by
      simp only [R.CKR_SYN_STATUS, R.CKR_SYN_LOCK]
      omega
    have hState : u.synState n.val = synOff :=
      ((State.get_put_key _ _ _ _ hKey).trans (State.get_put_key _ _ _ _ hKey)).trans hOff
    refine ⟨u, ?_, ?_, ?_⟩
    · show execSynConfigWrite true n 2 v s = _
      rw [execSynConfigWrite, if_pos rfl, synRegWrite, if_neg (by decide), if_pos (by decide), synLockWrite,
        synAbsent_of_ne h9 h10, if_neg (by simp [mayWriteLock, h9, h10])]
      dsimp only
      rw [if_pos hLegal, if_pos hLegal']
      exact congrArg Host.Outcome.next (if_pos hState)
    · rw [State.get_put_of _ _ _ _ (by simp), State.get_put_self _ _ _ (by simp [Fld.ok]), hBits]
      exact Nat.mod_eq_of_lt (by have := v.isLt; simp only [Fld.size]; omega)
    · rw [State.get_put_self _ _ _ (by simp [Fld.ok]), hWin']
      exact Nat.mod_eq_of_lt (Nat.mod_lt _ (by decide))
  · refine ⟨_, ?_, writeCtl_reads (s := s) hOk (ctlOf_lt n v s).1 (ctlOf_lt n v s).2⟩
    show execSynConfigWrite true n 0 v s = _
    rw [execSynConfigWrite, if_pos rfl, synRegWrite, if_pos (by decide), synCtlWrite_sm h9 h10]
    rfl
  · refine ⟨s.put (F.CKR_SYN_STATUS_REFUSED n.val) 1, ?_, ?_, ?_, ?_, ?_⟩
    · show execSynConfigWrite true n 0 v s = _
      rw [execSynConfigWrite, if_pos rfl, synRegWrite, if_pos (by decide), synCtlWrite_sm h9 h10, writeCtl_bad hBad]
    · rw [State.on_put_self _ _ (by simp [Fld.ok])]
      rfl
    · exact State.get_put_of _ _ _ _ (by simp)
    · exact State.reg_put_ne _ _ _ (ctl_ne_status n)
    · exact State.reg_put_ne _ _ _ (by simp only [R.CKR_SYN_FRAC, R.CKR_SYN_STATUS]; omega)
  · refine ⟨s.setSyn n.val { s.syn n.val with pendCtl := some v }, ?_, ?_, rfl⟩
    · show execSynCtlStewardWrite n v s = _
      rw [execSynCtlStewardWrite, synCtlWrite_steward hn, stewardCtl_kept hOk hFused]
    · rw [syn_setSyn]
  · refine ⟨s.put (F.CKR_SYN_STATUS_REFUSED n.val) 1, ?_, ?_, rfl, fun k hk => State.reg_put_ne _ _ _ hk⟩
    · show execSynCtlStewardWrite n v s = _
      rw [execSynCtlStewardWrite, synCtlWrite_steward hn, stewardCtl_over hFused]
    · rw [State.on_put_self _ _ (by simp [Fld.ok])]
      rfl
  · let u := s.setSyn n.val { s.syn n.val with pendCtl := none }
    refine ⟨writeCtl n.val (ctlOf n.val v s).1 (ctlOf n.val v s).2.1 (ctlOf n.val v s).2.2
      (s.get (F.CKR_SYN_FRAC_NFRAC n.val)) u, ?_, ?_, writeCtl_reads hOk (ctlOf_lt n v s).1 (ctlOf_lt n v s).2⟩
    · show execSynCtlSmApply n s = _
      rw [execSynCtlSmApply, hPend]
      dsimp only
      generalize ctlOf n.val v s = c at hVolts ⊢
      rw [if_neg (by rw [hVolts]; exact Bool.false_ne_true)]
      rfl
    · rw [writeCtl_good hOk, applySynWrite_pendCtl, State.syn, synSet_clk]
      exact congrArg Syn.pendCtl (syn_setSyn s n.val { s.syn n.val with pendCtl := none })
  · have hGo : ¬(!s.on F.PWR_AVS_STATUS_SM_OWNED || decide (s.get F.PWR_AVS_STATUS_VCORE_MV + 5 < 650) ||
        decide (850 < s.get F.PWR_AVS_STATUS_VCORE_MV + 5) || false) = true := by
      simp [hOwned]
      omega
    refine ⟨(s.put F.PWR_AVS_STATUS_VCORE_MV (s.get F.PWR_AVS_STATUS_VCORE_MV + 5)).put F.PWR_AVS_STATUS_FAULT 0,
      if_neg hGo, ?_, ?_⟩
    · rw [State.get_put_of _ _ _ _ (by simp), State.get_put_self _ _ _ (by decide)]
      exact Nat.mod_eq_of_lt (by simp only [Fld.size]; omega)
    · rw [State.on_put_self _ _ (by decide)]
      rfl
  · have hLow : ([0, 1, 2, 3, 8].any fun n => s.synState n != synOff &&
        decide (s.get F.PWR_AVS_STATUS_VCORE_MV - 5 < Config.vddFor n (s.synKhz n))) = false := by
      rw [List.any_eq_false]
      intro n hn
      have hState := List.all_eq_true.mp hOff n hn
      simp_all
    have hGo : ¬(!s.on F.PWR_AVS_STATUS_SM_OWNED || decide (s.get F.PWR_AVS_STATUS_VCORE_MV - 5 < 650) ||
        decide (850 < s.get F.PWR_AVS_STATUS_VCORE_MV - 5) || ([0, 1, 2, 3, 8].any fun n => s.synState n != synOff &&
          decide (s.get F.PWR_AVS_STATUS_VCORE_MV - 5 < Config.vddFor n (s.synKhz n)))) = true := by
      rw [hLow]
      simp [hOwned]
      omega
    refine ⟨(s.put F.PWR_AVS_STATUS_VCORE_MV (s.get F.PWR_AVS_STATUS_VCORE_MV - 5)).put F.PWR_AVS_STATUS_FAULT 0,
      if_neg hGo, ?_, ?_⟩
    · rw [State.get_put_of _ _ _ _ (by simp), State.get_put_self _ _ _ (by decide),
        Nat.mod_eq_of_lt (by simp only [Fld.size]; omega)]
      omega
    · rw [State.on_put_self _ _ (by decide)]
      rfl
  · have hEach : (s.each [0, 1, 2, 3, 8] refuseRaise).get F.PWR_AVS_STATUS_VCORE_MV = s.get F.PWR_AVS_STATUS_VCORE_MV :=
      State.each_eq s (State.get · F.PWR_AVS_STATUS_VCORE_MV) _ _ fun n _ t =>
        refuseRaise_get (fun n => by simp only [R.PWR_AVS_STATUS, R.CKR_SYN_STATUS]; omega) n t
    have hRest : ∀ (mv : Nat) (u : State), (raiseNode ⟨Ev.AVS_FAULT, 0, mv, 0, 0⟩ u).rest = u.rest := fun mv u =>
      raiseNode_rest (e := ⟨Ev.AVS_FAULT, 0, mv, 0, 0⟩) (show Ev.AVS_FAULT < 256 by decide) u
    refine ⟨_, if_neg (by simp [hOwned]), ?_, ?_⟩
    · rw [on_of_get_eq (get_of_rest (hRest ..) (by decide)), State.on_put_self _ _ (by decide)]
      rfl
    · rw [get_of_rest (hRest ..) (by decide), State.get_put_of _ _ _ _ (by simp), hEach]

end Sys2Proof.Machine
end

section
/-! SUPPORT. Locks, coasts, trips and quadrants. -/

namespace Sys2Proof.Machine

-- One proof at a time: the check compiles the whole text within a fixed memory.
set_option Elab.async false

variable {s t : State} {f : Fld} {n q : Nat}

theorem synEvent_rest {src : Nat} (h : src < 256) (n : Nat) (s : State) : (synEvent src n s).rest = s.rest :=
  raiseNode_rest h s

theorem synEvent_get {src : Nat} (h : src < 256) (hk : accKey f.key = false) (n : Nat) (s : State) :
    (synEvent src n s).get f = s.get f :=
  get_of_rest (synEvent_rest h n s) hk

/-- A synthesizer's registers are no access's. -/
theorem accKey_status (hn : n < 12) : accKey (R.CKR_SYN_STATUS n) = false := by
  interval_cases n <;> decide

/-- A synthesizer's event leaves the status registers. -/
theorem synEvent_status {src m : Nat} (h : src < 256) (hf : f.key = R.CKR_SYN_STATUS n) (hn : n < 12) (s : State) :
    (synEvent src m s).get f = s.get f :=
  synEvent_get h (by rw [hf]; exact accKey_status hn) m s

theorem quadRelock_get (q : Nat) (s : State) : (quadRelock q s).get f = s.get f := by
  unfold quadRelock
  split
  · rfl
  · split <;> rfl

/-- Entry to LOCKED leaves the registers as the lock's own writes do. -/
theorem enterLocked_get (n : Nat) (s : State) (f : Fld) : (enterLocked n s).get f =
    (setSynState n synLocked ((s.put (F.CKR_SYN_STATUS_REF_LOST n) 0).put (F.CKR_SYN_STATUS_COAST_LIMIT n) 0)).get f := by
  unfold enterLocked
  dsimp only
  generalize setSynState n synLocked _ = u
  have hQuad : (match synQuad n with | some q => quadRelock q u | none => u).get f = u.get f := by
    split
    · exact quadRelock_get ..
    · rfl
  refine Eq.trans ?_ hQuad
  split <;> split <;> rfl

theorem enterLocked_state (s : State) : (enterLocked n s).synState n = synLocked :=
  (enterLocked_get n s _).trans (setSynState_state (by decide) _)

theorem enterLocked_limit (s : State) : (enterLocked n s).on (F.CKR_SYN_STATUS_COAST_LIMIT n) = false := by
  rw [on_of_get_eq ((enterLocked_get n s _).trans (setSynState_status rfl (by simp) (.inr (by simp)) _)),
    State.on_put_self _ _ (by simp [Fld.ok])]
  rfl

theorem enterLocked_refLost (s : State) : (enterLocked n s).on (F.CKR_SYN_STATUS_REF_LOST n) = false := by
  rw [on_of_get_eq ((enterLocked_get n s _).trans (setSynState_status rfl (by simp) (.inr (by simp)) _)),
    on_of_get_eq (State.get_put_of _ _ _ _ (by simp)), State.on_put_self _ _ (by simp [Fld.ok])]
  rfl

theorem enterLocked_drift (s : State) : (enterLocked n s).get (F.CKR_SYN_STATUS_DRIFT n) = 0 :=
  (enterLocked_get n s _).trans (setSynState_drift _)

/-- What no quadrant's response changes: registers outside the memory's, and the clocks' other parts. -/
theorem moveChannels_get {q old new : Nat} (hk : ∀ c, f.key ≠ R.MC_STATUS c) (s : State) :
    (moveChannels q old new s).get f = s.get f :=
  State.each_eq s (State.get · f) _ _ fun c _ t => by
    show (if t.get (F.MC_STATUS_STATE c) = old then t.put (F.MC_STATUS_STATE c) new else t).get f = t.get f
    split
    · exact State.get_put_key _ _ _ _ (hk c)
    · rfl

/-- A quadrant's running hard-repair commit is abandoned. -/
def abandonCommit (q : Nat) (s : State) : State :=
  match s.pool.hardCh with
  | some c => if quadOf c = q then
      ({ s with pool := { s.pool with hardCh := none } }.put F.MEMG_PPR_STATUS_BUSY 0).put F.MEMG_PPR_STATUS_ABORTED 1
        |>.put (F.MC_STATUS_STATE c) 2
    else s
  | none => s

theorem quadSelfRefresh_eq (q : Nat) (s : State) :
    quadSelfRefresh q s = setQuad q .selfRefresh (moveChannels q 2 3 (abandonCommit q s)) := (rfl)

theorem abandonCommit_get (hMc : ∀ c, f.key ≠ R.MC_STATUS c) (hPpr : f.key ≠ R.MEMG_PPR_STATUS) (q : Nat) (s : State) :
    (abandonCommit q s).get f = s.get f := by
  unfold abandonCommit
  split
  · split
    · rw [State.get_put_key _ _ _ _ (hMc _), State.get_put_key _ _ _ _ hPpr, State.get_put_key _ _ _ _ hPpr, State.get_mk]
    · rfl
  · rfl

theorem abandonCommit_clk (q : Nat) (s : State) : (abandonCommit q s).clk = s.clk := by
  unfold abandonCommit
  split
  · split <;> rfl
  · rfl

theorem moveChannels_clk (q old new : Nat) (s : State) : (moveChannels q old new s).clk = s.clk :=
  State.each_eq s State.clk _ _ fun c _ t => by
    show (if t.get (F.MC_STATUS_STATE c) = old then t.put (F.MC_STATUS_STATE c) new else t).clk = t.clk
    split <;> rfl

theorem setQuad_clk (q : Nat) (m : QuadMode) (s : State) :
    (setQuad q m s).clk = { s.clk with quad := Tab.set s.clk.quad q m } := (rfl)

theorem setQuad_get (q : Nat) (m : QuadMode) (s : State) : (setQuad q m s).get f = s.get f := (rfl)

theorem quadSelfRefresh_get (hk : f.key < 0x90000) (q : Nat) (s : State) : (quadSelfRefresh q s).get f = s.get f := by
  have hMc : ∀ c, f.key ≠ R.MC_STATUS c := fun c => by
    simp only [R.MC_STATUS]
    omega
  have hPpr : f.key ≠ R.MEMG_PPR_STATUS := by
    simp only [R.MEMG_PPR_STATUS]
    omega
  rw [quadSelfRefresh_eq, setQuad_get, moveChannels_get hMc, abandonCommit_get hMc hPpr]

theorem quadSelfRefresh_clk (q : Nat) (s : State) : (quadSelfRefresh q s).clk =
    { s.clk with quad := Tab.set s.clk.quad q .selfRefresh } := by
  rw [quadSelfRefresh_eq, setQuad_clk, moveChannels_clk, abandonCommit_clk]

/-- A loss of lock is counted, and a coast without a reference marked. -/
def coastMarked (n : Nat) (s : State) : State :=
  let u := s.bump (F.CKR_SYN_STATUS_LOSS_COUNT n) 1
  if (u.syn n).refCount.isNone then u.put (F.CKR_SYN_STATUS_NOMREF n) 1 else u

/-- The synthesizer COASTING, and its event. -/
def coastEntered (n : Nat) (s : State) : State := synEvent Ev.SYN_COAST n (setSynState n synCoasting (coastMarked n s))

theorem startCoast_eq (n : Nat) (s : State) : startCoast n s =
    match synQuad n with
    | some q => if (coastEntered n s).quadMode q = .running ∨ (coastEntered n s).quadMode q = .recentring then
        quadSelfRefresh q (coastEntered n s) else coastEntered n s
    | none => coastEntered n s := (rfl)

theorem startCoast_get (hk : f.key < 0x90000) (hAcc : accKey f.key = false) (n : Nat) (s : State) : (startCoast n s).get f =
    (setSynState n synCoasting (coastMarked n s)).get f := by
  have hEvent : (coastEntered n s).get f = (setSynState n synCoasting (coastMarked n s)).get f :=
    synEvent_get (by decide) hAcc n _
  rw [startCoast_eq]
  cases synQuad n with
  | none => exact hEvent
  | some q =>
    dsimp only
    rw [apply_ite (State.get · f), quadSelfRefresh_get hk, ite_self, hEvent]

theorem coastMarked_count (s : State) : (coastMarked n s).get (F.CKR_SYN_STATUS_LOSS_COUNT n) =
    min 255 (s.get (F.CKR_SYN_STATUS_LOSS_COUNT n) + 1) := by
  have hBump : (s.bump (F.CKR_SYN_STATUS_LOSS_COUNT n) 1).get (F.CKR_SYN_STATUS_LOSS_COUNT n) =
      min 255 (s.get (F.CKR_SYN_STATUS_LOSS_COUNT n) + 1) := State.get_bump_self _ _ (by simp [Fld.ok])
  unfold coastMarked
  dsimp only
  split
  · rw [State.get_put_of _ _ _ _ (by simp), hBump]
  · exact hBump

theorem coastEntered_present (n : Nat) (s : State) : (coastEntered n s).clk.refPresent = s.clk.refPresent := by
  have hEvent : (coastEntered n s).clk = (setSynState n synCoasting (coastMarked n s)).clk :=
    congrArg (fun r => r.2.clk) (synEvent_rest (src := Ev.SYN_COAST) (by decide) n _)
  have hMarked : (coastMarked n s).clk = s.clk := by
    unfold coastMarked
    dsimp only
    split <;> rfl
  rw [hEvent, setSynState_clk, hMarked]

theorem startCoast_present (n : Nat) (s : State) : (startCoast n s).clk.refPresent = s.clk.refPresent := by
  rw [startCoast_eq]
  cases synQuad n with
  | none => exact coastEntered_present n s
  | some q =>
    dsimp only
    rw [apply_ite (fun t : State => t.clk.refPresent), quadSelfRefresh_clk, ite_self, coastEntered_present]

theorem coast_get (n : Nat) (s : State) (f : Fld) : (coast n s).get f = (startCoast n s).get f := by
  unfold coast
  dsimp only
  split
  · rfl
  · split <;> rfl

theorem coast_present (n : Nat) (s : State) : (coast n s).clk.refPresent = s.clk.refPresent := by
  refine Eq.trans ?_ (startCoast_present n s)
  unfold coast
  dsimp only
  split
  · rfl
  · split <;> rfl

theorem coast_reads (hn : n < 12) (s : State) : (coast n s).synState n = synCoasting ∧
    (coast n s).get (F.CKR_SYN_STATUS_LOSS_COUNT n) = min 255 (s.get (F.CKR_SYN_STATUS_LOSS_COUNT n) + 1) := by
  have hKey : R.CKR_SYN_STATUS n < 0x90000 := by
    simp only [R.CKR_SYN_STATUS]
    omega
  have hGet : ∀ f : Fld, f.key = R.CKR_SYN_STATUS n → (coast n s).get f =
      (setSynState n synCoasting (coastMarked n s)).get f := fun f hf => by
    rw [coast_get, startCoast_get (hf ▸ hKey) (hf ▸ accKey_status hn)]
  constructor
  · rw [State.synState, hGet _ rfl]
    exact setSynState_state (by decide) _
  · rw [hGet _ rfl, setSynState_status rfl (by simp) (.inr (by simp)), coastMarked_count]

theorem clusterOut_get (hk : f.key < 0x90000) (cl : Nat) (s : State) : (clusterOut cl s).get f = s.get f := by
  refine get_of_families (@clusterOut_out (families [many R.CC_HATCH, many R.CC_RERUNS, many R.CC_STIPPLE_RET,
    many R.CC_STIPPLE_SVC, many R.RPR_HOST, many R.RPR_SPARE]).foot .mem .mem .mem .mem .mem .mem .mem .mem .mem cl s) ?_
  simp only [List.forall_mem_cons, many, R.CC_HATCH, R.CC_RERUNS, R.CC_STIPPLE_RET, R.CC_STIPPLE_SVC, R.RPR_HOST, R.RPR_SPARE]
  refine ⟨?_, ?_, ?_, ?_, ?_, ?_, nofun⟩ <;> omega

theorem and_sub_and (r : Nat) : (r - (r &&& 30)) &&& 30 = 0 := by
  have hSmall : ∀ b < 32, b &&& 30 = b - b % 2 := by decide
  have hAnd : ∀ x, x &&& 30 = x % 32 - x % 2 := fun x => by
    have hLt : x &&& 30 < 32 := Nat.lt_of_le_of_lt Nat.and_le_right (by decide)
    have hMod := @Nat.and_mod_two_pow x 30 5
    rw [Nat.mod_eq_of_lt (by exact hLt)] at hMod
    rw [hMod, show (2 ^ 5 : Nat) = 32 from rfl, show 30 % 32 = 30 from rfl, hSmall _ (Nat.mod_lt _ (by decide))]
    omega
  rw [hAnd r, hAnd]
  omega

/-- SYN_11's entry to LOCKED. -/
theorem enterLocked_11 (s : State) : enterLocked 11 s = (setSynState 11 synLocked
    ((s.put (F.CKR_SYN_STATUS_REF_LOST 11) 0).put (F.CKR_SYN_STATUS_COAST_LIMIT 11) 0)).faultRelease .syn11Gated := by
  rw [enterLocked]
  exact if_pos rfl

/-- SYN_11's first lock in start-up releases islands 1 to 4. -/
def islandsReleased (s : State) : State := releaseIslands 0x1E (s.put F.CKR_START_STAGE_STAGE 2)

theorem islandsReleased_reads (s : State) : (islandsReleased s).synState 11 = s.synState 11 ∧
    (islandsReleased s).get F.CKR_START_STAGE_STAGE = 2 ∧
    (islandsReleased s).get F.CKR_ISL_STATE_IN_RESET &&& 0x1E = 0 := by
  unfold islandsReleased releaseIslands
  dsimp only
  refine ⟨?_, ?_, ?_⟩
  · rw [State.synState, State.get_put_key _ _ _ _ (by decide), State.get_put_key _ _ _ _ (by decide), State.synState]
  · rw [State.get_put_key _ _ _ _ (by decide), State.get_put_self _ _ _ (by decide)]
    rfl
  · have hLt := State.get_lt s F.CKR_ISL_STATE_IN_RESET
    rw [State.get_put_self _ _ _ (by decide), State.get_put_key _ _ _ _ (by decide),
      Nat.mod_eq_of_lt (Nat.lt_of_le_of_lt (Nat.sub_le _ _) hLt)]
    exact and_sub_and _

theorem execSynLockDeclared_11 (hAcq : s.synState 11 = synAcquiring) (hRef : s.clk.refPresent = true)
    (hStarting : s.starting = true) (hStage : s.get F.CKR_START_STAGE_STAGE = 1) (hKept : s.clk.syn11Lost = false) :
    execSynLockDeclared 11 s = .next (islandsReleased (enterLocked 11 s)) := by
  have hLost : (enterLocked 11 s).clk.syn11Lost = false := by
    rw [enterLocked_11, State.faultRelease, setSynState_clk]
    exact hKept
  have hBack : syn11Back (enterLocked 11 s) = enterLocked 11 s := by
    rw [syn11Back, hLost, Bool.not_false, if_pos rfl]
  have hOn : (enterLocked 11 s).get F.CKR_START_STAGE_STAGE = 1 := by
    rw [enterLocked_get, setSynState_get (by decide) (by decide), State.get_put_key _ _ _ _ (by decide),
      State.get_put_key _ _ _ _ (by decide), hStage]
  have hPwr : (setSynState 11 synLocked ((s.put (F.CKR_SYN_STATUS_REF_LOST 11) 0).put
      (F.CKR_SYN_STATUS_COAST_LIMIT 11) 0)).pwr = s.pwr := by
    unfold setSynState setIslandClock
    dsimp only
    split <;> rfl
  have hGoes : (enterLocked 11 s).starting = true := by
    rw [enterLocked_11, State.starting, State.faultRelease, hPwr]
    exact hStarting
  have h11 : ((11 : Fin 12) : Nat) = 11 := rfl
  rw [execSynLockDeclared, h11, if_neg (by simp [hAcq, hRef])]
  dsimp only
  rw [if_pos rfl, hBack, hGoes, hOn, if_pos (by decide), islandsReleased]

/-! DRIFT, trips and relocks. -/

theorem drift_signed {z : Int} (hLo : -32768 ≤ z) (hHi : z ≤ 32767) : toSigned 16 (ofSigned 16 z % 65536) = z := by
  unfold toSigned ofSigned
  split <;> omega

theorem driftOf_bounds (count num den : Nat) : -32768 ≤ driftOf count num den ∧ driftOf count num den ≤ 32767 := by
  unfold driftOf clampInt
  split
  · omega
  · split <;> omega

/-- DRIFT reads as the drift it was given. -/
theorem drift_put (s : State) (n count num den : Nat) :
    (s.put (F.CKR_SYN_STATUS_DRIFT n) (ofSigned 16 (driftOf count num den))).drift n = driftOf count num den := by
  obtain ⟨hLo, hHi⟩ := driftOf_bounds count num den
  rw [State.drift, State.get_put_self _ _ _ (by simp [Fld.ok])]
  exact drift_signed hLo hHi

/-- The trip of a guarded synthesizer of a cluster. -/
theorem guardTrip_cluster (hn : n < 4) (s : State) : (guardTrip n s).synState n = synGated ∧
    bit ((guardTrip n s).get F.CKR_SYN_TRIP_TRIP) n = true := by
  have hEq : guardTrip n s =
      clusterOut n (synEvent Ev.SYN_GATED n (setSynState n synGated (s.orBits F.CKR_SYN_TRIP_TRIP (2 ^ n)))) := by
    rw [guardTrip, if_pos hn]
  rw [hEq]
  constructor
  · rw [State.synState, clusterOut_get (by simp only [R.CKR_SYN_STATUS]; omega),
      synEvent_status (by decide) rfl (by omega)]
    exact setSynState_state (by decide) _
  · rw [clusterOut_get (by decide), synEvent_get (by decide) (by decide),
      setSynState_get (by simp only [R.CKR_SYN_TRIP, R.CKR_SYN_STATUS]; omega) (by decide),
      State.get_orBits_self _ _ _ (by decide), bit_eq_testBit]
    show Nat.testBit (_ % 2 ^ 12) n = true
    rw [Nat.testBit_mod_two_pow]
    simp
    omega

theorem relock_reads (hn : n < 12) (hSt : s.synState n = synCoasting ∨ s.synState n = synGated) :
    (relock n s).synState n = synLocked ∧ (relock n s).on (F.CKR_SYN_STATUS_COAST_LIMIT n) = false ∧
      (relock n s).get (F.CKR_SYN_STATUS_DRIFT n) = 0 := by
  have hGet : ∀ f : Fld, f.key = R.CKR_SYN_STATUS n → (relock n s).get f = (enterLocked n s).get f := fun f hf => by
    refine Eq.trans ?_ (synEvent_status (src := Ev.SYN_RELOCK) (m := n) (by decide) hf hn (enterLocked n s))
    rw [relock, if_pos hSt]
    generalize synEvent Ev.SYN_RELOCK n (enterLocked n s) = u
    split <;> rfl
  exact ⟨(hGet _ rfl).trans (enterLocked_state s), (on_of_get_eq (hGet _ rfl)).trans (enterLocked_limit s),
    (hGet _ rfl).trans (enterLocked_drift s)⟩

/-- With no request held, a quadrant that serves changes no register. -/
theorem serveHeld_none (h : s.pool.held = []) : serveHeld s = s := by
  rw [serveHeld, h]
  show ({ s with pool := { s.pool with held := [] } } : State) = s
  rw [← h]

theorem clkout_fields (s : State) (n en err fmt drive src div : Nat) :
    let t := (((((s.put (F.CKR_CLKOUT_EN n) en).put (F.CKR_CLKOUT_ERR n) err).put (F.CKR_CLKOUT_FORMAT n) fmt).put
      (F.CKR_CLKOUT_DRIVE n) drive).put (F.CKR_CLKOUT_SRC n) src).put (F.CKR_CLKOUT_DIV n) div
    t.get (F.CKR_CLKOUT_EN n) = en % 2 ∧ t.get (F.CKR_CLKOUT_ERR n) = err % 2 ∧ t.get (F.CKR_CLKOUT_FORMAT n) = fmt % 4 ∧
      t.get (F.CKR_CLKOUT_DRIVE n) = drive % 4 ∧ t.get (F.CKR_CLKOUT_SRC n) = src % 4 ∧
      t.get (F.CKR_CLKOUT_DIV n) = div % 65536 := by
  simp [State.get_put_of, State.get_put_self, Fld.ok, Fld.size]

end Sys2Proof.Machine
end
section
/-! Lock, coast and quadrants. -/

namespace Sys2Proof.Machine

-- One proof at a time: the check compiles the whole text within a fixed memory.
set_option Elab.async false

/-- Settles O26: what locks, coasts, trips, the clocks' outputs and the quadrants' responses leave. -/
theorem synthesizerLockAndCoast : Obligations.SynthesizerLockAndCoast := by
  refine ⟨fun s n hAcq hRef hn => ?_, fun s hAcq hRef hStarting hStage hKept => ?_, fun s n hLocked => ?_,
    fun s n hLocked => ?_, fun s n hSt hRef => ?_, fun s n count same hLocked hPure hn => ?_,
    fun s n count c hn hCoast hPure hCount hGuard => ?_, fun s n hSt hLimit => ?_, fun s => ⟨_, rfl, rfl, rfl⟩,
    fun s n v hSrc hDiv hMax => ?_, fun s n v hSrc hDiv hMax => ?_, fun s q hMode hState hHeld => ?_,
    fun s q hMode => ?_, fun s q hMode hHeld => ?_⟩
  · refine ⟨enterLocked n.val s, ?_, enterLocked_state s, enterLocked_refLost s, enterLocked_limit s⟩
    show execSynLockDeclared n s = _
    rw [execSynLockDeclared, if_neg (by simp [hAcq, hRef])]
    exact if_neg hn
  · refine ⟨_, execSynLockDeclared_11 hAcq hRef hStarting hStage hKept, ?_, (islandsReleased_reads _).2.1,
      (islandsReleased_reads _).2.2⟩
    rw [(islandsReleased_reads _).1, enterLocked_state]
  · exact ⟨coast n.val s, if_pos hLocked, coast_reads n.isLt s⟩
  · let u : State := { s with clk := { s.clk with refPresent := false } }
    obtain ⟨hState, -⟩ := coast_reads n.isLt u
    refine ⟨synEvent Ev.SYN_REF_LOST n.val ((coast n.val u).put (F.CKR_SYN_STATUS_REF_LOST n.val) 1), ?_, ?_, ?_, ?_⟩
    · show execSynLossOfReference n s = _
      rw [execSynLossOfReference, hLocked]
      rfl
    · rw [State.synState, synEvent_status (by decide) rfl n.isLt, State.get_put_of _ _ _ _ (by simp)]
      exact hState
    · rw [on_of_get_eq (synEvent_status (by decide) rfl n.isLt _), State.on_put_self _ _ (by simp [Fld.ok])]
      rfl
    · have hClk : (synEvent Ev.SYN_REF_LOST n.val ((coast n.val u).put (F.CKR_SYN_STATUS_REF_LOST n.val) 1)).clk =
          (coast n.val u).clk := congrArg (fun r => r.2.clk) (synEvent_rest (src := Ev.SYN_REF_LOST) (by decide) n.val _)
      rw [hClk, coast_present]
  · exact ⟨relock n.val s, if_pos hRef, relock_reads n.isLt hSt⟩
  · let x : Syn := { s.syn n.val with pureWin := true, refCount := some count }
    refine ⟨(s.setSyn n.val x).put (F.CKR_SYN_STATUS_NOMREF n.val) 0, ?_, ?_, ?_⟩
    · show execMonitorWindowEnd n count same s = _
      rw [execMonitorWindowEnd]
      dsimp only
      rw [hPure, hLocked, if_pos rfl, if_pos rfl, if_neg hn]
      rfl
    · exact congrArg Syn.refCount (syn_setSyn s n.val x)
    · rw [State.on_put_self _ _ (by simp [Fld.ok])]
      rfl
  · let u := (s.setSyn n.val { s.syn n.val with pureWin := true, refCount := some c }).put
      (F.CKR_SYN_STATUS_DRIFT n.val) (ofSigned 16 (driftOf count c 1))
    have hDrift : u.drift n.val = driftOf count c 1 := drift_put ..
    have hGuardAt : u.get (F.CKR_SYN_GUARD_GUARD_PPM n.val) = s.get (F.CKR_SYN_GUARD_GUARD_PPM n.val) :=
      State.get_put_key _ _ _ _ (by simp only [R.CKR_SYN_GUARD, R.CKR_SYN_STATUS]; omega)
    refine ⟨guardTrip n.val u, ?_, guardTrip_cluster hn u⟩
    have hRef : (s.setSyn n.val { s.syn n.val with pureWin := true, refCount := some c }).refCycles n.val = (c, 1) := by
      rw [State.refCycles, syn_setSyn]
    show execMonitorWindowEnd n count false s = _
    rw [execMonitorWindowEnd]
    dsimp only
    rw [hPure, hCoast, hCount, if_neg (show ¬synCoasting = synLocked by decide), if_pos (.inl rfl),
      show (true && synCoasting == synLocked) = false from rfl, if_neg Bool.false_ne_true, hRef]
    dsimp only
    rw [if_pos rfl, if_neg (show ¬n.val = 10 by omega), Bool.false_and, if_neg Bool.false_ne_true]
    refine congrArg Host.Outcome.next (if_pos ?_)
    rw [hDrift, hGuardAt]
    simpa using hGuard
  · have hGo : (s.synState n.val = synCoasting ∨ s.synState n.val = synGated) ∧
        (!s.on (F.CKR_SYN_STATUS_COAST_LIMIT n.val)) = true := ⟨hSt, by simp [hLimit]⟩
    refine ⟨synEvent Ev.SYN_COAST_LIMIT n.val (s.put (F.CKR_SYN_STATUS_COAST_LIMIT n.val) 1), if_pos hGo, ?_, ?_⟩
    · rw [on_of_get_eq (synEvent_status (by decide) rfl n.isLt _), State.on_put_self _ _ (by simp [Fld.ok])]
      rfl
    · rw [State.synState, synEvent_status (by decide) rfl n.isLt, State.get_put_of _ _ _ _ (by simp), State.synState]
  · obtain ⟨hEn, hErr, hFmt, hDrive, hSrc', hDiv'⟩ := clkout_fields s n.val (bits v.toNat 31 31) 0 (bits v.toNat 27 26)
      (bits v.toNat 25 24) (bits v.toNat 17 16) (bits v.toNat 15 0)
    refine ⟨_, ?_, hEn.trans ?_, hErr, hFmt.trans ?_, hDrive.trans ?_, hSrc'.trans ?_, hDiv'.trans ?_⟩
    · show execClkoutWrite n v s = _
      rw [execClkoutWrite, clkoutWrite, if_neg hSrc, if_neg hDiv, if_neg (by omega)]
    all_goals exact Nat.mod_mod _ _
  · refine ⟨s.put (F.CKR_CLKOUT_ERR n.val) 1, ?_, ?_, ?_, ?_⟩
    · show execClkoutWrite n v s = _
      rw [execClkoutWrite, clkoutWrite, if_neg hSrc, if_neg hDiv, if_pos hMax]
    · rw [State.get_put_self _ _ _ (by simp [Fld.ok])]
      rfl
    · exact State.get_put_of _ _ _ _ (by simp)
    · exact State.get_put_of _ _ _ _ (by simp)
  · refine ⟨setQuad q.val .expired s, ?_, quadMode_setQuad .., rfl⟩
    show execQuadrantHoldExpiry q s = _
    rw [execQuadrantHoldExpiry, if_pos (by simp [hMode, hState]), serveHeld_none (by exact hHeld)]
  · let u := quadSelfRefresh q.val s
    let w : State := { u with clk := { u.clk with quadOff := NSet.del u.clk.quadOff q.val } }
    have hClk : u.clk = { s.clk with quad := Tab.set s.clk.quad q.val .selfRefresh } := quadSelfRefresh_clk ..
    obtain ⟨st, hAfter⟩ := gateAndRestart_clk (4 + q.val) (s.clk.quadOff.contains q.val) w
    refine ⟨gateAndRestart (4 + q.val) (s.clk.quadOff.contains q.val) w, ?_, ?_, gateAndRestart_state _ w, ?_⟩
    · show execQuadrantQuiesced q s = _
      rw [execQuadrantQuiesced, if_neg (by simp [hMode])]
    · rw [State.quadMode, hAfter]
      show Tab.get .running u.clk.quad q.val = _
      rw [hClk]
      exact Tab.get_set_self ..
    · rw [hAfter]
      exact NSet.contains_del_self ..
  · have hNone : (setQuad q.val .running (moveChannels q.val 3 2 s)).pool.held = [] := by
      have hMove : (moveChannels q.val 3 2 s).pool = s.pool := State.each_eq s State.pool _ _ fun c _ t => by
        show (if t.get (F.MC_STATUS_STATE c) = 3 then t.put (F.MC_STATUS_STATE c) 2 else t).pool = t.pool
        split <;> rfl
      exact (congrArg PoolState.held hMove).trans hHeld
    refine ⟨setQuad q.val .running (moveChannels q.val 3 2 s), ?_, quadMode_setQuad ..⟩
    show execQuadrantRecentreDone q s = _
    rw [execQuadrantRecentreDone, if_pos (by simp [hMode]), quadServe, serveHeld_none hNone]

end Sys2Proof.Machine
end

section
/-! SUPPORT. The work that Hatch and attention orders issue, and the cursors of page lists. -/

namespace Sys2Proof.Machine

-- One proof at a time: the check compiles the whole text within a fixed memory.
set_option Elab.async false

variable {s t u : State} {p : Prog} {r n : Nat}

/-! An order that adds one job. -/

/-- The state after an order that adds a job. -/
def withJob (j : Job) (r t : Nat) (p : Prog) (s : State) : State := addJob j (s.setProg r (p.issue t))

theorem hatchIssue_adds {t tiles : Nat} {kind : JobKind} {f : List W64} (hEngine : s.anyEngine p.cluster = true) :
    hatchIssue r t kind f false tiles p s = withJob (newJob s.hatch.next r t p.cluster kind f [] tiles) r t p s := by
  rw [hatchIssue, if_neg Bool.false_ne_true, hEngine, Bool.not_true, if_neg Bool.false_ne_true, withJob]

theorem hatchIssue_bad {t tiles : Nat} {kind : JobKind} {f : List W64} :
    hatchIssue r t kind f true tiles p s = endAt r 0x50 0 p s := if_pos rfl

theorem hatchIssue_noEngine {t tiles : Nat} {kind : JobKind} {f : List W64} (hEngine : s.anyEngine p.cluster = false) :
    hatchIssue r t kind f false tiles p s = issueDone r t 0x30 (clusterIsland p.cluster) p s := by
  rw [hatchIssue, if_neg Bool.false_ne_true, hEngine, Bool.not_false, if_pos rfl]

theorem withJob_jobs (j : Job) (r t : Nat) (p : Prog) (s : State) :
    (withJob j r t p s).hatch.jobs = s.hatch.jobs ++ [j] := (rfl)

theorem withJob_pool (j : Job) (r t : Nat) (p : Prog) (s : State) : (withJob j r t p s).pool = s.pool := (rfl)

theorem withJob_regs (j : Job) (r t : Nat) (p : Prog) (s : State) : (withJob j r t p s).regs = s.regs := (rfl)

@[simp] theorem State.prog_addJob (j : Job) (s : State) (r : Nat) : (addJob j s).prog r = s.prog r := (rfl)

@[simp] theorem State.hatch_setProg (s : State) (r : Nat) (p : Prog) : (s.setProg r p).hatch = s.hatch := (rfl)

/-- The program of an order that was issued stands at the next word with its tally BUSY. -/
theorem issued_prog (s : State) (r t : Nat) (p : Prog) :
    ((s.setProg r (p.issue t)).prog r).map (fun q => (q.pc, (q.tally t).st)) = some (p.pc + 1, 1) := by
  rw [State.prog_setProg, Option.map_some, Prog.issue_pc, Prog.issue_tally]

theorem withJob_prog (j : Job) (r t : Nat) (p : Prog) (s : State) :
    ((withJob j r t p s).prog r).map (fun q => (q.pc, (q.tally t).st)) = some (p.pc + 1, 1) := by
  rw [withJob, State.prog_addJob, issued_prog]

/-- An order that completes at once, with its DETAIL. -/
theorem issueDone_detail (r t status detail : Nat) (p : Prog) (s : State) :
    ((issueDone r t status detail p s).prog r).map
      (fun q => (q.pc, (q.tally t).st, (q.tally t).status, (q.tally t).detail)) = some (p.pc + 1, 2, status, detail) := by
  obtain ⟨hPc, hSt, hStatus⟩ := Prog.done_running (p := p.issue t) (t := t) (status := status) (detail := detail) rfl
  have hDetail : (((p.issue t).done t status detail).tally t).detail = detail :=
    congrArg Tally.detail ((p.issue t).tally_setT t _)
  rw [issueDone_eq, State.prog_setProg, Option.map_some, hPc, hSt, hStatus, hDetail, Prog.issue_pc]

/-! What dealing leaves of a job. -/

/-- What no dealing of tasks changes in a job. -/
def Job.head (j : Job) : Nat × Nat × Nat × JobKind × Bool := (j.id, j.ring, j.t, j.kind, j.open_)

@[simp] theorem Job.head_setSeq (j : Job) (i : Nat) (q : Seq) : (j.setSeq i q).head = j.head := (rfl)

@[simp] theorem Job.head_dealTask (j : Job) (order : List Nat) (tile step : Nat) :
    (j.dealTask order tile step).head = j.head := (rfl)

theorem Job.head_stop (j : Job) (st d : Nat) : (j.stop st d).head = j.head := by
  unfold Job.stop
  dsimp only
  split
  · rfl
  · rw [apply_ite Job.head]
    exact ite_self _

/-- A fold whose every step leaves a job's head leaves it. -/
theorem Job.head_foldl {α : Type} (l : List α) (f : Job → α → Job) (h : ∀ j a, (f j a).head = j.head) (j : Job) :
    (l.foldl f j).head = j.head :=
  List.foldlRecOn (motive := fun k => k.head = j.head) l f rfl fun k hk a _ => (h k a).trans hk

@[simp] theorem Job.head_dealChunks (j : Job) (order : List Nat) (sq upTo : Nat) :
    (j.dealChunks order sq upTo).head = j.head := by
  unfold Job.dealChunks
  dsimp only
  rw [Job.head_setSeq]
  exact Job.head_foldl _ _ (fun k c => Job.head_foldl _ _ (fun i h => i.head_dealTask order _ _) k) j

@[simp] theorem Job.head_dealMerges (j : Job) (order : List Nat) (cl : Nat) :
    (j.dealMerges order cl).head = j.head := by
  unfold Job.dealMerges
  dsimp only
  split
  · rfl
  · refine Job.head_foldl _ _ (fun k x => ?_) j
    split
    · split <;> rfl
    · rfl

/-- One task for each of a list of tiles. -/
theorem Job.dealTasks_eq (order : List Nat) (l : List Nat) (j : Job) :
    let k := l.foldl (fun j i => j.dealTask order i 0) j
    k.head = j.head ∧ k.left = j.left ∧ k.ready.map (·.tile) = j.ready.map (·.tile) ++ l := by
  induction l generalizing j with
  | nil => exact ⟨rfl, rfl, by simp⟩
  | cons i l ih =>
    obtain ⟨hHead, hLeft, hReady⟩ := ih (j.dealTask order i 0)
    refine ⟨hHead.trans (j.head_dealTask ..), hLeft, hReady.trans ?_⟩
    simp [Job.dealTask, Task.new]

/-! ATTN. -/

theorem planSeq_hatch (r : Nat) (a : AttnDesc) (i : Nat) (s : State) : (planSeq r a i s).2.hatch = s.hatch :=
  same_of_out (l := [.hatch]) .hatch (@planSeq_out _ .mem .any r a i s)

theorem planSeq_rings (r : Nat) (a : AttnDesc) (i : Nat) (s : State) : (planSeq r a i s).2.rings = s.rings :=
  same_of_out (l := [.rings]) .rings (@planSeq_out _ .mem .any r a i s)

/-- A job being planned is still that job, and its dispatchers and rings are as they were. -/
def StillPlanned (j : Job) (s : State) (x : Option (Job × State)) : Prop :=
  ∀ y, x = some y → y.1.head = j.head ∧ y.2.hatch = s.hatch ∧ y.2.rings = s.rings

/-- A started ATTN adds one job, which is the order's. -/
theorem attnStart_adds {t cl : Nat} {f d : List W64} (h : attnStart r t cl f d s = some u) :
    ∃ j : Job, j.head = (s.hatch.next, r, t, .attn, (attnOf f d).emit) ∧ u.hatch.jobs = s.hatch.jobs ++ [j] ∧
      u.rings = s.rings := by
  unfold attnStart at h
  extract_lets sel a order j0 j step at h
  have hStep : ∀ x, StillPlanned j s x → ∀ i, StillPlanned j s (step x i) := by
    intro x hx i y hy
    cases x with
    | none => cases hy
    | some x =>
      obtain ⟨k, v⟩ := x
      obtain ⟨hHead, hHatch, hRings⟩ := hx _ rfl
      have hHatch' := (planSeq_hatch r a i v).trans hHatch
      have hRings' := (planSeq_rings r a i v).trans hRings
      dsimp only [step] at hy
      split at hy
      · cases hy
        exact ⟨hHead, hHatch, hRings⟩
      · generalize planSeq r a i v = w at hy hHatch' hRings'
        obtain ⟨res, w⟩ := w
        cases res with
        | error c =>
          cases c with
          | none => cases hy
          | some c =>
            cases hy
            exact ⟨(Job.head_stop ..).trans hHead, hHatch', hRings'⟩
        | ok q =>
          cases hy
          exact ⟨hHead, hHatch', hRings'⟩
  have hFold : StillPlanned j s ((List.range a.batch).foldl step (some (j, s))) :=
    List.foldlRecOn (motive := StillPlanned j s) _ _ (fun y hy => by cases hy; exact ⟨rfl, rfl, rfl⟩)
      fun x hx i _ => hStep x hx i
  generalize (List.range a.batch).foldl step (some (j, s)) = x at h hFold
  cases x with
  | none => cases h
  | some x =>
    obtain ⟨k, v⟩ := x
    obtain ⟨hHead, hHatch, hRings⟩ := hFold _ rfl
    dsimp only at h hHead hHatch hRings
    cases h
    have hJobs : v.hatch.jobs = s.hatch.jobs := congrArg HatchState.jobs hHatch
    refine ⟨_, ?_, congrArg (· ++ [_]) hJobs, hRings⟩
    rw [Job.head_dealMerges]
    refine Eq.trans ?_ hHead
    split
    · rfl
    · exact Job.head_foldl _ _ (fun i c => Job.head_dealChunks ..) k

/-! Cursors. -/

theorem bits_lt (v hi lo : Nat) : bits v hi lo < 2 ^ (hi + 1 - lo) := Nat.mod_lt _ (by positivity)

/-- The index and the entry count of a cursor that moves within 16 bits. -/
theorem cursorMove_fields {c : List W64} {k : Nat} (hLen : 1 < c.length) (hk : bits (fld c 1) 15 0 + k < 65536) :
    bits (fld (cursorMove c k) 1) 15 0 = bits (fld c 1) 15 0 + k ∧
      bits (fld (cursorMove c k) 1) 31 16 = bits (fld c 1) 31 16 := by
  have hLt : fld c 1 < 2 ^ 64 := BitVec.isLt _
  have hFld : fld (cursorMove c k) 1 = fld c 1 / 65536 * 65536 + (bits (fld c 1) 15 0 + k) := by
    rw [fld, cursorMove, List.getD_eq_getElem?_getD, List.getElem?_set_self hLen, Option.getD_some, BitVec.toNat_ofNat,
      Nat.mod_eq_of_lt hk, Nat.mod_eq_of_lt]
    omega
  rw [hFld]
  generalize fld c 1 = w at *
  simp only [bits] at *
  omega

theorem fld_cursorMove {c : List W64} {k i : Nat} (h : i ≠ 1) : fld (cursorMove c k) i = fld c i := by
  rw [fld, cursorMove, List.getD_eq_getElem?_getD, List.getElem?_set_ne h.symm, fld, List.getD_eq_getElem?_getD]

/-- A descriptor slot with a nonzero second word has two words. -/
theorem length_of_fld {c : List W64} {hi lo : Nat} (h : 0 < bits (fld c 1) hi lo) : 1 < c.length := by
  by_contra hLen
  have hZero : fld c 1 = 0 := by
    rw [fld, List.getD_eq_default _ _ (by omega)]
    rfl
  rw [hZero, bits, Nat.zero_div, Nat.zero_mod] at h
  omega

theorem cursorLoad_within {c : List W64} (h : bits (fld c 1) 15 0 < bits (fld c 1) 31 16) (s : State) :
    cursorLoad r c s = (.at c, s) := if_pos h

theorem cursorLoad_ended {c : List W64} (h : bits (fld c 1) 31 16 ≤ bits (fld c 1) 15 0) (hNext : bits (fld c 2) 51 0 = 0)
    (s : State) : cursorLoad r c s = (.done, s) := by
  rw [cursorLoad]
  dsimp only
  rw [if_neg (by omega), if_pos hNext]

theorem cursorLoad_next {c : List W64} {h : List Byte} (hEnd : bits (fld c 1) 31 16 ≤ bits (fld c 1) 15 0)
    (hNext : bits (fld c 2) 51 0 ≠ 0) (hAlign : bits (fld c 2) 51 0 % 64 = 0)
    (hRead : walkRead r (bits (fld c 3) 11 0) (bits (fld c 2) 51 0) 16 s = (.ok h, u)) (hGood : segmentBad h = false) :
    cursorLoad r c s = (.at (cursorAt (bits (fld c 2) 51 0) (bits (fld c 3) 11 0) h), u) := by
  rw [cursorLoad]
  dsimp only
  rw [if_neg (by omega), if_neg hNext, if_neg (by omega), hRead]
  dsimp only
  rw [hGood, if_neg Bool.false_ne_true]

theorem cursorStep_of_load {c d : List W64} {k : Nat} (h : cursorLoad r (cursorMove c k) s = (.at d, u)) :
    cursorStep r c k s = (.at d, u) := by
  rw [cursorStep, h]

theorem cursorStep_within {c : List W64} {k : Nat} (h : bits (fld c 1) 15 0 + k < bits (fld c 1) 31 16) (s : State) :
    cursorStep r c k s = (.at (cursorMove c k), s) := by
  have hLt : bits (fld c 1) 31 16 < 65536 := bits_lt ..
  have hLen : 1 < c.length := length_of_fld (hi := 31) (lo := 16) (by omega)
  obtain ⟨hIdx, hCount⟩ := cursorMove_fields hLen (k := k) (by omega)
  exact cursorStep_of_load (cursorLoad_within (by omega) s)

theorem cursorSkip_within {c : List W64} {k : Nat} (hk : 0 < k) (h : bits (fld c 1) 15 0 + k < bits (fld c 1) 31 16)
    (s : State) : cursorSkip r (k + 1) c k s = (.at (cursorMove c k), s) := by
  have hHere : min k (bits (fld c 1) 31 16 - bits (fld c 1) 15 0) = k := by omega
  obtain ⟨m, rfl⟩ := Nat.exists_eq_add_of_lt hk
  rw [cursorSkip, if_neg (by omega), cursorLoad_within (by omega)]
  dsimp only
  rw [hHere, cursorStep_within h]
  dsimp only
  rw [Nat.sub_self, cursorSkip, if_pos rfl]

/-- A PLREAD of an entry within its segment, up to the cursor's step. -/
theorem execPlread_entry {r : Fin 132} {g : Guard} {da : Fin 16} {a : Fin 32} {f : Fin 8} {v : State} {d : List Byte}
    {c' : List W64} (hRuns : s.runsAt r g (encU 0x61 g da.val 0 0 a.val 0 0 f.val) [] p = true)
    (hIdx : bits (fld (p.dreg da.val) 1) 15 0 < bits (fld (p.dreg da.val) 1) 31 16)
    (hRead : walkRead r.val (bits (fld (p.dreg da.val) 3) 11 0) (fld (p.dreg da.val) 0 + 16 + 4 * bits (fld
      (p.dreg da.val) 1) 15 0) 4 s = (.ok d, u)) (hStep : cursorStep r.val (p.dreg da.val) 1 u = (.at c', v)) :
    execPlread r g da a f s = .next (v.setProg r.val ((((p.setS a.val (BitVec.ofNat 64 (ofLeBytes d))).setP f.val
      false).setD da.val c').next 1)) := by
  rw [execPlread, kcs_of_runsAt hRuns, cursorLoad_within hIdx]
  dsimp only
  rw [hRead, plAccess, hStep]

/-! Emission. -/

theorem Job.seq_setSeq {j : Job} {i : Nat} (h : i < j.seqs.length) (q : Seq) : (j.setSeq i q).seq i = q := by
  rw [Job.seq, Job.setSeq, List.getD_eq_getElem?_getD, List.getElem?_set_self h, Option.getD_some]

theorem Job.seqs_dealTask (j : Job) (order : List Nat) (tile step : Nat) : (j.dealTask order tile step).seqs = j.seqs :=
  (rfl)

theorem Job.seqs_foldl {α : Type} (l : List α) (f : Job → α → Job) (h : ∀ j a, (f j a).seqs = j.seqs) (j : Job) :
    (l.foldl f j).seqs = j.seqs :=
  List.foldlRecOn (motive := fun k => k.seqs = j.seqs) l f rfl fun k hk a _ => (h k a).trans hk

theorem Job.pages_dealChunks {j : Job} {sq : Nat} (h : sq < j.seqs.length) (order : List Nat) (upTo : Nat) :
    ((j.dealChunks order sq upTo).seq sq).pages = (j.seq sq).pages := by
  unfold Job.dealChunks
  dsimp only
  rw [Job.seq_setSeq]
  rwa [Job.seqs_foldl _ _ fun k c => Job.seqs_foldl _ _ (fun i h => i.seqs_dealTask order _ _) k]

theorem putJob_single {j k : Job} (hJobs : s.hatch.jobs = [j]) (hId : k.id = j.id) : (putJob k s).hatch.jobs = [k] := by
  rw [putJob]
  dsimp only
  rw [hJobs, List.map_singleton, hId, beq_self_eq_true, if_pos rfl]

theorem Job.id_of_head {j k : Job} (h : k.head = j.head) : k.id = j.id := congrArg Prod.fst h

/-- The state after a step of emission. -/
theorem emitted_reads (k : Job) (s : State) (r : Nat) (p : Prog) :
    ((putJob k s).setProg r (p.next 1)).hatch = (putJob k s).hatch ∧
      (((putJob k s).setProg r (p.next 1)).prog r).map (·.pc) = some (p.pc + 1) ∧
      ((putJob k s).setProg r (p.next 1)).pool = s.pool := by
  refine ⟨State.hatch_setProg .., ?_, (rfl)⟩
  rw [State.prog_setProg]
  rfl

/-- A PLEMIT that finds room appends its page. -/
theorem execPlemit_adds {r : Fin 132} {g : Guard} {t : Fin 16} {a b c : Fin 32} {j : Job}
    (hRuns : s.runsAt r g (encU 0x63 g 0 0 t.val a.val b.val c.val 0) [] p = true)
    (hJob : s.emitJob r.val t.val = some j) (hBatch : (p.sreg a.val).toNat < j.attn.batch)
    (hSeqs : (p.sreg a.val).toNat < j.seqs.length) (hCount : 0 < bits (p.sreg c.val).toNat 31 16)
    (hSlots : bits (p.sreg c.val).toNat 15 0 + bits (p.sreg c.val).toNat 31 16 ≤ j.attn.slots) (hRoom : j.unconsumed < 256) :
    ∃ k : Job, k.head = j.head ∧ (k.seq (p.sreg a.val).toNat).pages = (j.seq (p.sreg a.val).toNat).pages ++
        [⟨bits (p.sreg b.val).toNat 31 0, bits (p.sreg c.val).toNat 15 0, bits (p.sreg c.val).toNat 31 16⟩] ∧
      execPlemit r g t a b c s = .next ((putJob k s).setProg r.val (p.next 1)) := by
  rw [execPlemit, kcs_of_runsAt hRuns, hJob]
  dsimp only
  rw [if_neg (by omega), if_neg (by omega)]
  refine ⟨_, ?_, ?_, rfl⟩ <;> split
  · exact Job.head_setSeq ..
  · exact (Job.head_dealChunks ..).trans (Job.head_setSeq ..)
  · rw [Job.seq_setSeq hSeqs]
  · rw [Job.pages_dealChunks (by rwa [Job.setSeq, List.length_set]), Job.seq_setSeq hSeqs]

/-- A PLEND closes its job's emission. -/
theorem execPlend_closes {r : Fin 132} {g : Guard} {t : Fin 16} {j : Job}
    (hRuns : s.runsAt r g (encU 0x64 g 0 0 t.val 0 0 0 0) [] p = true) (hJob : s.emitJob r.val t.val = some j) :
    ∃ k : Job, k.head = (j.id, j.ring, j.t, j.kind, false) ∧
      execPlend r g t s = .next ((putJob k s).setProg r.val (p.next 1)) := by
  rw [execPlend, kcs_of_runsAt hRuns, hJob]
  dsimp only
  unfold closeEmit
  refine ⟨_, ?_, rfl⟩
  split
  · rfl
  · exact Job.head_dealMerges ..

@[simp] theorem Prog.cluster_setT (p : Prog) (t : Nat) (x : Tally) : (p.setT t x).cluster = p.cluster := (rfl)

/-! The orders at their instruction, with an idle tally. -/

section
variable {R : Fin 132} {g : Guard} {da db T : Fin 16} (hIdle : (p.tally T.val).st = 0)
include hIdle

theorem execHgemm_idle (hRuns : s.runsAt R g (encU 0x68 g da.val 0 T.val 0 0 0 0) [] p = true) :
    execHgemm R g da T s = .next (hatchIssue R.val T.val .hgemm (p.dreg da.val) (gemmBad (p.dreg da.val))
      (gemmOf (p.dreg da.val)).tiles (p.setT T.val Tally.idle) s) := by
  rw [execHgemm, kcs_of_runsAt hRuns, kindA_idle hIdle, Prog.dreg_setT]

theorem execHsmax_idle (hRuns : s.runsAt R g (encU 0x69 g da.val 0 T.val 0 0 0 0) [] p = true) :
    execHsmax R g da T s = .next (hatchIssue R.val T.val .hsmax (p.dreg da.val) (hsmaxBad (p.dreg da.val))
      (bits (fld (p.dreg da.val) 3) 23 0) (p.setT T.val Tally.idle) s) := by
  rw [execHsmax, kcs_of_runsAt hRuns, kindA_idle hIdle, Prog.dreg_setT]

theorem execHelt_idle (hRuns : s.runsAt R g (encU 0x6A g da.val 0 T.val 0 0 0 0) [] p = true) :
    execHelt R g da T s = .next (hatchIssue R.val T.val .helt (p.dreg da.val) (heltBad (p.dreg da.val))
      ((bits (fld (p.dreg da.val) 4) 39 0 + 255) / 256) (p.setT T.val Tally.idle) s) := by
  rw [execHelt, kcs_of_runsAt hRuns, kindA_idle hIdle, Prog.dreg_setT]
  rfl

theorem execAttn_idle (hRuns : s.runsAt R g (encU 0x70 g da.val db.val T.val 0 0 0 0) [] p = true) :
    execAttn R g da db T s = .next (attnIssue R.val T.val (p.dreg da.val) (p.dreg db.val) (p.setT T.val Tally.idle) s) := by
  rw [execAttn, kcs_of_runsAt hRuns, kindA_idle hIdle, Prog.dreg_setT, Prog.dreg_setT]

theorem execAmerge_idle (hRuns : s.runsAt R g (encU 0x71 g da.val 0 T.val 0 0 0 0) [] p = true) :
    execAmerge R g da T s = .next (amergeIssue R.val T.val (p.dreg da.val) (p.setT T.val Tally.idle) s) := by
  rw [execAmerge, kcs_of_runsAt hRuns, kindA_idle hIdle, Prog.dreg_setT]

end

/-- The job of an AMERGE before its tasks are dealt. -/
def mergeJob (r t : Nat) (f : List W64) (p : Prog) (s : State) : Job :=
  { newJob s.hatch.next r t p.cluster .merge f [] (mergeCount f) with
    sel := s.get F.ATT_CFG_CLUSTERS
    first := (s.dealOrder (s.get F.ATT_CFG_CLUSTERS) s.hatch.last).headD p.cluster }

/-- The state after a merge job that received its first task was added. -/
def withMerge (j : Job) (r t : Nat) (p : Prog) (s : State) : State :=
  { withJob j r t p s with hatch := { (withJob j r t p s).hatch with last := j.first } }

/-- A good AMERGE with a cluster to run it adds its job, with one task for each row. -/
theorem amergeIssue_adds {t : Nat} {f : List W64} (hGood : amergeBad f = false)
    (hClusters : (s.attnClusters (s.get F.ATT_CFG_CLUSTERS)).isEmpty = false) : ∃ j : Job,
    j.head = (s.hatch.next, r, t, .merge, false) ∧ j.left = mergeCount f ∧
      j.ready.map (·.tile) = List.range (mergeCount f) ∧ amergeIssue r t f p s = withMerge j r t p s := by
  obtain ⟨hHead, hLeft, hReady⟩ := Job.dealTasks_eq (s.dealOrder (s.get F.ATT_CFG_CLUSTERS) s.hatch.last)
    (List.range (mergeCount f)) (mergeJob r t f p s)
  refine ⟨_, hHead, hLeft, hReady, ?_⟩
  rw [amergeIssue, hGood, if_neg Bool.false_ne_true, hClusters, if_neg Bool.false_ne_true]
  rfl

end Sys2Proof.Machine
end

section
namespace Sys2Proof

open Sys2Proof.Machine

/-- Settles O43. -/
theorem hatchAndAttentionInstructions : Obligations.HatchAndAttentionInstructions := by
  unfold Obligations.HatchAndAttentionInstructions
  refine ⟨?_, ?_, ?_, ?_, ?_, ?_, ?_, ?_, ?_, ?_, ?_, ?_, ?_, ?_, ?_, ?_, ?_, ?_⟩
  case refine_1 =>
    intro s r g da t p hRuns hIdle hGood hEngine
    refine ⟨_, (execHgemm_idle hIdle hRuns).trans (congrArg Host.Outcome.next ?_),
      withJob_jobs _ r.val t.val (p.setT t.val Tally.idle) s,
      withJob_prog .., withJob_pool .., withJob_regs ..⟩
    rw [hGood, hatchIssue_adds (p := p.setT t.val Tally.idle) hEngine, Prog.cluster_setT]
  case refine_2 =>
    intro s r g da t p hRuns hIdle hBad
    exact (execHgemm_idle hIdle hRuns).trans (by rw [hBad, hatchIssue_bad])
  case refine_3 =>
    intro s r g da t p hRuns hIdle hGood hEngine
    refine ⟨_, (execHgemm_idle hIdle hRuns).trans (congrArg Host.Outcome.next ?_), ?_,
      issueDone_detail _ _ _ _ (p.setT t.val Tally.idle) s⟩
    · rw [hGood, hatchIssue_noEngine (p := p.setT t.val Tally.idle) hEngine, Prog.cluster_setT]
    · rw [issueDone_eq, State.hatch_setProg, State.hatch_setProg]
  case refine_4 =>
    intro s r g da t p hRuns hIdle hGood hEngine
    refine ⟨_, (execHsmax_idle hIdle hRuns).trans (congrArg Host.Outcome.next ?_),
      withJob_jobs _ r.val t.val (p.setT t.val Tally.idle) s,
      withJob_prog .., withJob_pool ..⟩
    rw [hGood, hatchIssue_adds (p := p.setT t.val Tally.idle) hEngine, Prog.cluster_setT]
  case refine_5 =>
    intro s r g da t p hRuns hIdle hGood hEngine
    refine ⟨_, (execHelt_idle hIdle hRuns).trans (congrArg Host.Outcome.next ?_),
      withJob_jobs _ r.val t.val (p.setT t.val Tally.idle) s,
      withJob_prog .., withJob_pool ..⟩
    rw [hGood, hatchIssue_adds (p := p.setT t.val Tally.idle) hEngine, Prog.cluster_setT]
  case refine_6 =>
    intro s u r g da db t p hRuns hIdle hGood hClusters hStart
    obtain ⟨j, hHead, hJobs, hRings⟩ := attnStart_adds hStart
    refine ⟨u, (execAttn_idle hIdle hRuns).trans (congrArg Host.Outcome.next ?_), rfl, ?_, ?_, ?_⟩
    · unfold attnIssue
      rw [hGood, if_neg Bool.false_ne_true, hClusters, if_neg Bool.false_ne_true, Prog.cluster_setT, hStart]
    · rw [hJobs, List.length_append, State.hatch_setProg]
      rfl
    · rw [hJobs, List.getLast?_append, List.getLast?_singleton, Option.some_or, Option.map_some]
      exact congrArg some hHead
    · rw [State.prog, State.ring, hRings]
      exact issued_prog s r.val t.val (p.setT t.val Tally.idle)
  case refine_7 =>
    intro s r g da db t p hRuns hIdle hBad
    exact (execAttn_idle hIdle hRuns).trans (by rw [attnIssue, if_pos hBad])
  case refine_8 =>
    intro s r g da t p hRuns hIdle hGood hClusters
    obtain ⟨j, hHead, hLeft, hReady, hExec⟩ :=
      amergeIssue_adds (r := r.val) (t := t.val) (p := p.setT t.val Tally.idle) hGood hClusters
    have hJobs := withJob_jobs j r.val t.val (p.setT t.val Tally.idle) s
    refine ⟨_, (execAmerge_idle hIdle hRuns).trans (congrArg Host.Outcome.next hExec), ?_, ?_,
      withJob_prog j r.val t.val (p.setT t.val Tally.idle) s,
      withJob_pool j r.val t.val (p.setT t.val Tally.idle) s⟩ <;> rw [withMerge]
    · rw [hJobs, List.length_append]
      rfl
    · rw [hJobs, List.getLast?_append, List.getLast?_singleton, Option.some_or, Option.map_some, hLeft, hReady]
      injection hHead with hId hHead
      injection hHead with _ hHead
      injection hHead with _ hHead
      injection hHead with hKind _
      rw [hId, hKind]
  case refine_9 =>
    intro s u r g da a p h hRuns hAlign hRead hGood
    show execPlopen r g da a s = _
    rw [execPlopen, kcs_of_runsAt hRuns]
    dsimp only
    rw [if_neg (by omega), hRead, plAccess, hGood, if_neg Bool.false_ne_true]
  case refine_10 =>
    intro s r g da a p hRuns hAlign
    show execPlopen r g da a s = _
    rw [execPlopen, kcs_of_runsAt hRuns]
    exact congrArg Host.Outcome.next (if_pos hAlign)
  case refine_11 =>
    intro s u r g da a f p d hRuns hIdx hRead
    exact execPlread_entry hRuns (by omega) hRead (cursorStep_within hIdx u)
  case refine_12 =>
    intro s u v r g da a f p d h hRuns hIdx hRead hNext hAlign hLink hGood
    have hLt : bits (fld (p.dreg da.val) 1) 31 16 < 65536 := bits_lt ..
    have hLen : 1 < (p.dreg da.val).length := length_of_fld (hi := 31) (lo := 16) (by omega)
    obtain ⟨hMoved, hCount⟩ := cursorMove_fields hLen (k := 1) (by omega)
    have hTwo : fld (cursorMove (p.dreg da.val) 1) 2 = fld (p.dreg da.val) 2 := fld_cursorMove (by decide)
    have hThree : fld (cursorMove (p.dreg da.val) 1) 3 = fld (p.dreg da.val) 3 := fld_cursorMove (by decide)
    have hLoad := cursorLoad_next (c := cursorMove (p.dreg da.val) 1) (r := r.val) (s := u) (u := v) (h := h) (by omega)
      (by rwa [hTwo]) (by rwa [hTwo]) (by rwa [hTwo, hThree]) hGood
    rw [hTwo, hThree] at hLoad
    exact execPlread_entry hRuns (by omega) hRead (cursorStep_of_load hLoad)
  case refine_13 =>
    intro s r g da a f p hRuns hIdx hNext
    show execPlread r g da a f s = _
    rw [execPlread, kcs_of_runsAt hRuns, cursorLoad_ended hIdx hNext]
  case refine_14 =>
    intro s r g da a p hRuns hk hIdx
    show execPlskip r g da a s = _
    rw [execPlskip, kcs_of_runsAt hRuns, cursorSkip_within hk hIdx]
  case refine_15 =>
    intro s r g t a b c p j hRuns hJob hJobs hBatch hSeqs hCount hSlots hRoom
    obtain ⟨k, hHead, hPages, hExec⟩ := execPlemit_adds hRuns hJob hBatch hSeqs hCount hSlots hRoom
    obtain ⟨hHatch, hPc, hPool⟩ := emitted_reads k s r.val p
    refine ⟨_, hExec, ?_, hPc, hPool⟩
    rw [hHatch, putJob_single hJobs (Job.id_of_head hHead), List.map_singleton, hPages, Job.id_of_head hHead]
  case refine_16 =>
    intro s r g t a b c p hRuns hNone
    show execPlemit r g t a b c s = _
    rw [execPlemit, kcs_of_runsAt hRuns, hNone]
  case refine_17 =>
    intro s r g t p j hRuns hJob hJobs
    obtain ⟨k, hHead, hExec⟩ := execPlend_closes hRuns hJob
    obtain ⟨hHatch, hPc, hPool⟩ := emitted_reads k s r.val p
    have hId : k.id = j.id := congrArg Prod.fst hHead
    have hOpen : k.open_ = false := congrArg (fun x => x.2.2.2.2) hHead
    refine ⟨_, hExec, ?_, hPc, hPool⟩
    rw [hHatch, putJob_single hJobs hId, List.map_singleton, hId, hOpen]
  case refine_18 =>
    intro s r g t p hRuns hNone
    show execPlend r g t s = _
    rw [execPlend, kcs_of_runsAt hRuns, hNone]

end Sys2Proof
end

section
/-! SUPPORT. What a power-on reset leaves in the registers, and the start of a prologue. -/

namespace Sys2Proof.Machine

-- One proof at a time: the check compiles the whole text within a fixed memory.
set_option Elab.async false

variable {s t u : State} {k : Nat} {v : W64}

/-! A register that the table lists is found there whatever else the table loses. -/

/-- The register table lists a value for a key. -/
def State.Lists (s : State) (k : Nat) (v : W64) : Prop := ∀ d, Tab.get d s.regs k = v

/-- The register table has no entry of a key. -/
def State.Unlisted (s : State) (k : Nat) : Prop := ∀ e ∈ s.regs, e.1 ≠ k

theorem State.Lists.reg (h : s.Lists k v) : s.reg k = v := h _

theorem State.lists_setReg (s : State) (k : Nat) (v : W64) : (s.setReg k v).Lists k v := fun _ => Tab.get_set_self _ _ _ _

theorem State.lists_put (s : State) (f : Fld) (x : Nat) : (s.put f x).Lists f.key (f.into x (s.reg f.key)) :=
  s.lists_setReg _ _

theorem State.Lists.setReg (h : s.Lists k v) {j : Nat} (hj : k ≠ j) (w : W64) : (s.setReg j w).Lists k v := fun d =>
  (Tab.get_set_ne _ _ _ hj).trans (h d)

theorem tab_get_found {α : Type} {c d : α} {l : Tab α} (h : Tab.get c l k ≠ c) : Tab.get d l k = Tab.get c l k := by
  induction l with
  | nil => exact absurd rfl h
  | cons e l ih =>
    obtain ⟨i, w⟩ := e
    simp only [tab_get_cons] at h ⊢
    split_ifs at h ⊢ with hEq hLt
    · rfl
    · exact absurd rfl h
    · exact ih h

theorem State.Lists.filter {f : Nat × W64 → Bool} (h : s.Lists k v) (hf : ∀ w, f (k, w) = true)
    (ht : t.regs = s.regs.filter f) : t.Lists k v := fun d => by
  have hNe : Tab.get (v + 1) s.regs k ≠ v + 1 := by
    rw [h (v + 1)]
    bv_omega
  have hGet : Tab.get (v + 1) t.regs k = v := by rw [ht, tab_get_filter hNe hf, h]
  rw [← hGet]
  exact tab_get_found (by rw [hGet]; bv_omega)

theorem State.Unlisted.reg (h : s.Unlisted k) : s.reg k = BitVec.ofNat 64 (resetNat k) := by
  unfold State.reg
  unfold State.Unlisted at h
  generalize s.regs = l at h
  induction l with
  | nil => rfl
  | cons e l ih =>
    obtain ⟨i, w⟩ := e
    have hNe : i ≠ k := h (i, w) (by simp)
    rw [tab_get_cons, if_neg hNe, ih fun e he => h e (by simp [he])]
    exact ite_self _

theorem State.Unlisted.filter {f : Nat × W64 → Bool} (h : s.Unlisted k) (ht : t.regs = s.regs.filter f) : t.Unlisted k :=
  fun e he => h e (List.mem_of_mem_filter (ht ▸ he))

theorem mem_tab_set {α : Type} {l : Tab α} {j : Nat} {w : α} {e : Nat × α} (h : e ∈ Tab.set l j w) : e = (j, w) ∨ e ∈ l := by
  induction l with
  | nil => simpa [Tab.set] using h
  | cons x l ih =>
    obtain ⟨i, y⟩ := x
    rw [Tab.set] at h
    split_ifs at h with hLt hEq
    · simpa using h
    · rcases List.mem_cons.mp h with h | h
      · exact .inl h
      · exact .inr (List.mem_cons_of_mem _ h)
    · rcases List.mem_cons.mp h with h | h
      · exact .inr (h ▸ List.mem_cons_self)
      · exact (ih h).imp_right (List.mem_cons_of_mem _)

theorem State.Unlisted.setReg (h : s.Unlisted k) {j : Nat} (hj : k ≠ j) (w : W64) : (s.setReg j w).Unlisted k :=
  fun e he => by
  rcases mem_tab_set he with rfl | he
  · exact hj.symm
  · exact h e he

/-! The power-on reset. -/

/-- Neither the node's straps nor a partition window. -/
def nodeKey (k : Nat) : Prop := k ≠ R.GLB_STRAP ∧ k < 0x100000000

theorem loadRange_lists {lo hi : Nat} (hk : k < lo) (h : s.Lists k v) : (loadRange lo hi s).Lists k v :=
  h.filter (fun w => by simp [hk]) rfl

theorem loadVoidWindow_lists (hk : k < 0x100000000) (p : Nat) (h : s.Lists k v) : (loadVoidWindow p s).Lists k v :=
  have hWin : ∀ off, k < winKey p off := fun off => by unfold winKey; omega
  loadRange_lists (hWin _) (loadRange_lists (hWin _) (loadRange_lists (hWin _) h))

theorem loadVoidWindow_unlisted (p : Nat) (h : s.Unlisted k) : (loadVoidWindow p s).Unlisted k :=
  State.Unlisted.filter (State.Unlisted.filter (h.filter rfl) rfl) rfl

/-- The state of a power-on reset before the partition windows take their reset values. -/
def powerState (s : State) : State :=
  { State.reset with
    regs := (s.loadDomains ResetKind.powerOn.loads).regs, heldLow := (s.loadDomains ResetKind.powerOn.loads).heldLow,
    ticks := s.ticks, freeCtr := s.freeCtr, fuses := s.fuses, pwr := keptPwr .powerOn s, clk := keptClk .powerOn s,
    pool := keptPool .powerOn s, xlt := keptXlt .powerOn s, evt := keptEvt .powerOn s, nextSeal := s.nextSeal,
    log := keptLog .powerOn s, rings := keptRings .powerOn s,
    dsp := { DispState.init with hpd := s.dsp.hpd, aux := s.dsp.aux },
    press := { PressPins.safe with driven := s.press.driven }, pressIn := s.pressIn, rpr := keptRpr s,
    trust := keptTrust .powerOn s, fabOut := s.fabOut, hostOut := s.hostOut,
    fab := { FabState.init with flits := s.fab.flits },
    pending := s.pending, tst := TestState.init }

theorem powerReset_eq (s : State) : powerReset s =
    ((powerState s).setReg R.GLB_STRAP (s.reg R.GLB_STRAP)).each ((List.range 16).filter fun p => !([] : List Nat).contains p)
      loadVoidWindow := by
  rw [powerReset, nodeReset]
  simp only [reduceCtorEq, if_false]
  rw [powerState, State.each, List.foldl_nil]

/-- What the reset of the windows keeps, a power-on reset keeps. -/
theorem powerReset_ind {P : State → Prop} (s : State) (hStart : P ((powerState s).setReg R.GLB_STRAP (s.reg R.GLB_STRAP)))
    (hWindow : ∀ p u, P u → P (loadVoidWindow p u)) : P (powerReset s) := by
  rw [powerReset_eq]
  exact State.each_ind _ _ _ (fun p _ u hu => hWindow p u hu) hStart

theorem powerReset_lists (hk : nodeKey k) (hDom : domainOf k = .aon) (h : s.Lists k v) : (powerReset s).Lists k v := by
  refine powerReset_ind (P := fun u => u.Lists k v) s (State.Lists.setReg ?_ hk.1 _) fun p _ => loadVoidWindow_lists hk.2 p
  exact h.filter (fun w => by simp [hDom, ResetKind.loads]) rfl

theorem powerReset_loads (hk : nodeKey k) (hDom : ResetKind.powerOn.loads (domainOf k) = true) :
    (powerReset s).reg k = BitVec.ofNat 64 (resetNat k) := by
  refine State.Unlisted.reg (powerReset_ind (P := fun u => u.Unlisted k) s (State.Unlisted.setReg ?_ hk.1 _)
    fun p _ => loadVoidWindow_unlisted p)
  intro e he hEq
  have hKeep : ResetKind.powerOn.loads (domainOf e.1) = false := by simpa using (List.mem_filter.mp he).2
  rw [hEq, hDom] at hKeep
  cases hKeep

/-- The parts that a power-on reset gives. -/
theorem powerReset_parts (s : State) : (powerReset s).pwr = keptPwr .powerOn s ∧ (powerReset s).pool = keptPool .powerOn s ∧
    (powerReset s).press = { PressPins.safe with driven := s.press.driven } :=
  powerReset_ind (P := fun u => u.pwr = keptPwr .powerOn s ∧ u.pool = keptPool .powerOn s ∧
    u.press = { PressPins.safe with driven := s.press.driven }) s ⟨rfl, rfl, rfl⟩ fun _ _ h => h

/-- A start changes the incarnation and nothing else. -/
theorem startUp_lists (hk : k ≠ R.CKR_INCARNATION) (h : s.Lists k v) : (startUp s).Lists k v := h.setReg hk _

theorem startUp_get {f : Fld} (hk : f.key ≠ R.CKR_INCARNATION) (s : State) : (startUp s).get f = s.get f :=
  State.get_put_key _ _ _ _ hk

theorem powerReset_inReset (s : State) : (powerReset s).get F.CKR_ISL_STATE_IN_RESET = 0x1FFFFFE := by
  rw [State.get, powerReset_loads (k := F.CKR_ISL_STATE_IN_RESET.key) ⟨by decide, by decide⟩ (by decide)]
  decide

/-- A cause that was set before a power-on reset reads after it. -/
theorem powerReset_cause {f g : Fld} (hKey : f.key = R.CKR_RST_CAUSE) (hSame : g.key = f.key) (x : Nat) (s : State) :
    (powerReset (s.put f x)).get g = (s.put f x).get g ∧ (startUp (powerReset (s.put f x))).get g = (s.put f x).get g := by
  have hList := powerReset_lists (k := f.key) (by rw [hKey]; exact ⟨by decide, by decide⟩) (by rw [hKey]; decide)
    (s.lists_put f x)
  have hStart := startUp_lists (by rw [hKey]; decide) hList
  have hPut := s.lists_put f x
  rw [← hSame] at hList hStart hPut
  exact ⟨by rw [State.get, State.get, hList.reg, hPut.reg], by rw [State.get, State.get, hStart.reg, hPut.reg]⟩

theorem nodeReset_cause {f : Fld} {x : Nat} (hKey : f.key = R.CKR_RST_CAUSE) (hOk : f.ok) (s : State) :
    (powerReset (s.put f x)).get f = x % f.size ∧ (startUp (powerReset (s.put f x))).get f = x % f.size := by
  obtain ⟨hReset, hStart⟩ := powerReset_cause hKey rfl x s
  exact ⟨hReset.trans (State.get_put_self _ _ _ hOk), hStart.trans (State.get_put_self _ _ _ hOk)⟩

theorem powerReset_cells (s : State) : (powerReset s).pool.cells = [] := by
  rw [(powerReset_parts s).2.1]
  rfl

theorem startUp_pwr (s : State) : (startUp s).pwr = s.pwr := (rfl)

theorem startUp_pool (s : State) : (startUp s).pool = s.pool := (rfl)

theorem startUp_powerReset_pwr (s : State) : (startUp (powerReset s)).pwr = keptPwr .powerOn s := by
  rw [startUp_pwr, (powerReset_parts s).1]

theorem startUp_inReset (s : State) : (startUp (powerReset s)).get F.CKR_ISL_STATE_IN_RESET = 0x1FFFFFE :=
  (startUp_get (by decide) _).trans (powerReset_inReset s)

/-- FAULT_N low for one more cause: the pin, and nothing else. -/
theorem faultLow_reads (c : FaultCause) (s : State) : (s.faultLow c).pwr.faultN.contains c = true ∧
    (∀ f, (s.faultLow c).get f = s.get f) ∧ (s.faultLow c).pool = s.pool ∧ (s.faultLow c).pwr.held = s.pwr.held ∧
    (s.faultLow c).pwr.xtalRunning = s.pwr.xtalRunning := by
  unfold State.faultLow
  split
  next h => exact ⟨h, fun _ => rfl, rfl, rfl, rfl⟩
  next => exact ⟨by simp, fun _ => rfl, rfl, rfl, rfl⟩

/-! The start of a prologue. -/

theorem lockLost_prs (s : State) : (lockLost s).prs = s.prs :=
  same_of_out (l := [.path]) .path (@lockLost_out _ .mem .mem .any .any s)

theorem logSubmit_prs (cls : LogClass) (urgent : Bool) (type : Nat) (merged : Bool) (subject : Nat) (payload : List Byte)
    (resv : Option Nat) (cont : LogCont) (s : State) :
    (logSubmit cls urgent type merged subject payload resv cont s).prs = s.prs :=
  same_of_out (l := [.path]) .path (@logSubmit_out _ .mem .mem .any cls urgent type merged subject payload resv cont s)

theorem logSubmit_press (cls : LogClass) (urgent : Bool) (type : Nat) (merged : Bool) (subject : Nat) (payload : List Byte)
    (resv : Option Nat) (cont : LogCont) (s : State) :
    (logSubmit cls urgent type merged subject payload resv cont s).press = s.press :=
  same_of_out (l := [.pins]) .pins (@logSubmit_out _ .mem .mem .any cls urgent type merged subject payload resv cont s)

theorem recordPage_aonSafe (sp : SheetPage) (o : Nat) (requeue : Bool) (s : State) :
    (recordPage sp o requeue s).prs.aonSafe = s.prs.aonSafe := by
  unfold recordPage
  split
  · unfold removePage
    split <;> rfl
  · split
    · rfl
    · rw [logIssuance, logSubmit_prs]

theorem interruptPrologue_aonSafe (s : State) : (interruptPrologue s).prs.aonSafe = s.prs.aonSafe := by
  unfold interruptPrologue
  dsimp only
  refine State.each_eq s (g := fun u => u.prs.aonSafe) _ _ fun sp _ u => ?_
  exact (recordPage_aonSafe ..).trans rfl

theorem interruptPrologue_press (s : State) : (interruptPrologue s).press = s.press :=
  same_of_out (l := [.pins]) .pins (@interruptPrologue_out _ .mem .mem .mem .mem .mem .any s)

@[simp] theorem aonSafe_kept (s : State) : (aonSafe s).kept = s.kept := by
  simp [aonSafe]

@[simp] theorem interruptPrologue_kept (s : State) : (interruptPrologue s).kept = s.kept := by
  simp [interruptPrologue, unrequeue, onPage]

theorem aonSafe_reads (s : State) : (aonSafe s).prs.aonSafe = true ∧ (aonSafe s).press.driven = s.press.driven := by
  rw [aonSafe, lockLost_prs, lockLost_press]
  exact ⟨rfl, rfl⟩

theorem startPrologue_reads (kind : ResetKind) (s : State) : (startPrologue kind s).pwr.prologue = some kind ∧
    (startPrologue kind s).prs.aonSafe = true ∧ (startPrologue kind s).press.driven = s.press.driven ∧
    (startPrologue kind s).kept = s.kept := by
  obtain ⟨hSafe, hDriven⟩ := aonSafe_reads s
  have hPrs := (interruptPrologue_aonSafe (aonSafe s)).trans hSafe
  have hPress := (congrArg PressPins.driven (interruptPrologue_press (aonSafe s))).trans hDriven
  have hKept : (interruptPrologue (aonSafe s)).kept = s.kept := by simp
  unfold startPrologue
  dsimp only
  refine ⟨rfl, ?_, ?_, ?_⟩
  · split
    · rw [logSubmit_prs, hPrs]
    · exact hPrs
  · split
    · rw [logSubmit_press, hPress]
    · exact hPress
  · rw [State.kept_mk]
    split
    · rw [logSubmit_kept, hKept]
    · exact hKept

/-- An accepted reset outside a prologue starts one, with its cause set. -/
theorem acceptReset_starts {kind : ResetKind} {cause : Fld} (hHeld : s.isHeld = false) (hNone : s.pwr.prologue = none)
    (hOk : cause.ok) (hSize : cause.size = 2) (hKey : workKey cause.key = false) :
    (acceptReset kind cause s).pwr.prologue = some kind ∧ (acceptReset kind cause s).on cause = true ∧
      (acceptReset kind cause s).prs.aonSafe = true ∧ (acceptReset kind cause s).press.driven = s.press.driven := by
  have hStart : acceptReset kind cause s = startPrologue kind (s.put cause 1) := by
    rw [acceptReset, hHeld, if_neg Bool.false_ne_true]
    dsimp only
    rw [State.put_pwr, hNone]
  obtain ⟨hPrologue, hSafe, hDriven, hKept⟩ := startPrologue_reads kind (s.put cause 1)
  rw [hStart]
  refine ⟨hPrologue, ?_, hSafe, hDriven⟩
  rw [State.on, get_of_kept hKept hKey, State.get_put_self _ _ _ hOk, hSize]
  rfl

/-- A warm request during a memory-retaining prologue starts a warm one. -/
theorem acceptReset_demotes (hHeld : s.isHeld = false) (hPrologue : s.pwr.prologue = some .memoryRetaining) :
    acceptReset .warm F.CKR_RST_CAUSE_WARM_REQ s =
      startPrologue .warm ((s.put F.CKR_RST_CAUSE_WARM_REQ 1).put F.CKR_RST_CAUSE_MRW_DEMOTED 1) := by
  rw [acceptReset, hHeld, if_neg Bool.false_ne_true]
  dsimp only
  rw [State.put_pwr, hPrologue]
  exact if_pos rfl

/-! The supply, the crystal and the trip. -/

theorem isHeld_eq (s : State) : s.isHeld = (s.pwr.porstLow || s.pwr.held || !s.pwr.aonUp) := (rfl)

theorem aonUp_of_running (h : s.isHeld = false) : s.pwr.porstLow = false ∧ s.pwr.held = false ∧ s.pwr.aonUp = true := by
  simpa [isHeld_eq, and_assoc] using h

theorem on_of_get {f : Fld} (h : s.get f = 1 % f.size) (hSize : f.size = 2) : s.on f = true := by
  rw [State.on, h, hSize]
  rfl

/-- A state with its power part replaced. -/
def State.withPwr (s : State) (w : PwrState) : State := { s with pwr := w }

theorem State.withPwr_get (s : State) (w : PwrState) (f : Fld) : (s.withPwr w).get f = s.get f := (rfl)

theorem State.withPwr_on (s : State) (w : PwrState) (f : Fld) : (s.withPwr w).on f = s.on f := (rfl)

theorem State.withPwr_pwr (s : State) (w : PwrState) : (s.withPwr w).pwr = w := (rfl)

theorem State.withPwr_pool (s : State) (w : PwrState) : (s.withPwr w).pool = s.pool := (rfl)

theorem State.withPwr_press (s : State) (w : PwrState) : (s.withPwr w).press = s.press := (rfl)

/-- The causes that hold FAULT_N low when PORST_N falls. -/
def porFaults (s : State) : List FaultCause := if s.pwr.xtalRunning then [] else [.xtalStop]

/-- Power while PORST_N is low. -/
def porPwr (faults : List FaultCause) (w : PwrState) : PwrState :=
  { w with porstLow := true, held := false, thermtripLow := false, faultN := faults }

theorem execPorstNFall_eq (hPor : s.pwr.porstLow = false) (hAon : s.pwr.aonUp = true) :
    execPorstNFall s = .next ((powerReset (s.put F.CKR_RST_CAUSE_POR 1)).withPwr
      (porPwr (porFaults s) (powerReset (s.put F.CKR_RST_CAUSE_POR 1)).pwr)) := by
  rw [execPorstNFall, if_neg (by simp [hPor, hAon])]
  dsimp only
  rw [State.withPwr, porPwr, porFaults]

/-- The node after PORST_N has risen, before its straps. -/
def porRisen (s : State) : State :=
  { s with pwr := { s.pwr with porstLow := false, held := false, xtalRunning := true, io33Up := true, faultN := [] }
           press := PressPins.safe }

/-- The straps as PORST_N samples them. -/
def strapped (testMode : Bool) (strap : Nat) (s : State) : State :=
  (((s.putB F.GLB_STRAP_TEST_MODE testMode).put F.GLB_STRAP_I3C_ADDR (bits strap 3 2)).put F.GLB_STRAP_FAB_MODE
    (bits strap 1 1)).put F.GLB_STRAP_BOOT_CS (bits strap 0 0)

theorem execPorstNRise_eq (hPor : s.pwr.porstLow = true) (hAon : s.pwr.aonUp = true) (testMode : Bool) (strap : BitVec 4) :
    execPorstNRise testMode strap s = .next (startUp (strapped testMode strap.toNat (porRisen s))) := by
  rw [execPorstNRise, if_neg (by simp [hPor, hAon])]
  dsimp only
  rw [strapped, porRisen]

theorem strapped_reads (testMode : Bool) {strap : Nat} (h : strap < 16) (s : State) :
    (strapped testMode strap s).on F.GLB_STRAP_TEST_MODE = testMode ∧
      (strapped testMode strap s).get F.GLB_STRAP_I3C_ADDR = strap / 4 ∧
      (strapped testMode strap s).get F.GLB_STRAP_FAB_MODE = strap / 2 % 2 ∧
      (strapped testMode strap s).get F.GLB_STRAP_BOOT_CS = strap % 2 := by
  unfold strapped
  refine ⟨?_, ?_, ?_, ?_⟩
  · rw [State.on, State.get_put_of _ _ _ _ (by decide), State.get_put_of _ _ _ _ (by decide),
      State.get_put_of _ _ _ _ (by decide), State.putB, State.get_put_self _ _ _ (by decide)]
    cases testMode <;> rfl
  · rw [State.get_put_of _ _ _ _ (by decide), State.get_put_of _ _ _ _ (by decide), State.get_put_self _ _ _ (by decide)]
    show strap / 4 % 4 % 4 = strap / 4
    omega
  · rw [State.get_put_of _ _ _ _ (by decide), State.get_put_self _ _ _ (by decide)]
    show strap / 2 % 2 % 2 = strap / 2 % 2
    omega
  · rw [State.get_put_self _ _ _ (by decide)]
    show strap / 1 % 2 % 2 = strap % 2
    omega

theorem strapped_get {f : Fld} (h : f.key ≠ R.GLB_STRAP) (testMode : Bool) (strap : Nat) (s : State) :
    (strapped testMode strap s).get f = s.get f := by
  rw [strapped, State.get_put_key _ _ _ _ h, State.get_put_key _ _ _ _ h, State.get_put_key _ _ _ _ h, State.putB,
    State.get_put_key _ _ _ _ h]

theorem strapped_pwr (testMode : Bool) (strap : Nat) (s : State) : (strapped testMode strap s).pwr = s.pwr := (rfl)

theorem startUp_incarnation (s : State) : (startUp s).get F.CKR_INCARNATION_COUNT =
    (s.get F.CKR_INCARNATION_COUNT + 1) % F.CKR_INCARNATION_COUNT.size :=
  State.get_put_self _ _ _ (by decide)

theorem uv_of_orBits (rail : Fin 4) (s : State) :
    bit ((s.orBits F.CKR_RST_CAUSE_UV (2 ^ rail.val)).get F.CKR_RST_CAUSE_UV) rail = true := by
  have hSize : F.CKR_RST_CAUSE_UV.size = 2 ^ 4 := rfl
  rw [State.get_orBits_self _ _ _ (by decide), bit_eq_testBit, hSize, Nat.testBit_mod_two_pow, Nat.testBit_or,
    Nat.testBit_two_pow_self]
  simp

theorem execUndervoltage_eq (hHeld : s.isHeld = false) (rail : Fin 4) : execUndervoltage rail s =
    .next ((startUp (powerReset (s.orBits F.CKR_RST_CAUSE_UV (2 ^ rail.val)))).faultLow .undervoltage) := by
  obtain ⟨-, -, hAon⟩ := aonUp_of_running hHeld
  have hNot : (s.orBits F.CKR_RST_CAUSE_UV (2 ^ rail.val)).isHeld = false := hHeld
  rw [execUndervoltage, if_neg (by simp [hAon])]
  dsimp only
  rw [hNot, if_neg Bool.false_ne_true]

/-- The node whose crystal stopped, before its power part says so. -/
def xtalReset (s : State) : State :=
  if s.isHeld then s.put F.CKR_RST_CAUSE_XTAL_STOP 1 else startUp (powerReset (s.put F.CKR_RST_CAUSE_XTAL_STOP 1))

/-- Power without the crystal. -/
def xtalPwr (w : PwrState) : PwrState := { w with xtalRunning := false, held := true }

theorem execCrystalStop_eq (hAon : s.pwr.aonUp = true) (hXtal : s.pwr.xtalRunning = true) :
    execCrystalStop s = .next (((xtalReset s).withPwr (xtalPwr (xtalReset s).pwr)).faultLow .xtalStop) := by
  have hHeld : (s.put F.CKR_RST_CAUSE_XTAL_STOP 1).isHeld = s.isHeld := (rfl)
  rw [execCrystalStop, if_neg (by simp [hAon, hXtal])]
  dsimp only
  rw [hHeld, xtalReset, State.withPwr, xtalPwr]

theorem xtalReset_cause (s : State) : (xtalReset s).on F.CKR_RST_CAUSE_XTAL_STOP = true := by
  refine on_of_get ?_ rfl
  rw [xtalReset]
  split
  · exact State.get_put_self _ _ _ (by decide)
  · exact (nodeReset_cause (by decide) (by decide) s).2

/-- Power after a trip of a node whose PORST_N is high. -/
def tripPwr (w : PwrState) : PwrState := { w with thermtripLow := !w.porstLow, held := !w.porstLow }

theorem thermalTrip_eq (hHeld : s.isHeld = false) (hTrip : s.pwr.thermtripLow = false) : thermalTrip s =
    (startUp (powerReset (s.put F.CKR_RST_CAUSE_THERMTRIP 1))).withPwr
      (tripPwr (startUp (powerReset (s.put F.CKR_RST_CAUSE_THERMTRIP 1))).pwr) := by
  obtain ⟨-, -, hAon⟩ := aonUp_of_running hHeld
  have hNot : (s.put F.CKR_RST_CAUSE_THERMTRIP 1).isHeld = false := hHeld
  rw [thermalTrip, if_neg (by simp [hAon, hTrip])]
  dsimp only
  rw [hNot, if_neg Bool.false_ne_true, State.withPwr, tripPwr]

/-- The node without VDD_AON. -/
def aonLost (s t : State) : State :=
  { t with regs := [], heldLow := [], log := LogState.init
           rpr := { RprState.init with copyA := s.rpr.copyA, copyB := s.rpr.copyB }
           trust := { keptTrust .powerOn s with retention := 0 }, press := { PressPins.safe with driven := false }
           pwr := { t.pwr with aonUp := false, held := true, thermtripLow := false, faultN := [] } }

theorem execVddAonLoss_eq (hAon : s.pwr.aonUp = true) : execVddAonLoss s = .next (aonLost s (powerReset s)) := by
  rw [execVddAonLoss, if_neg (by simp [hAon])]
  dsimp only
  rw [aonLost]

theorem aonLost_reads (s t : State) : (aonLost s t).regs = [] ∧ (aonLost s t).pwr.aonUp = false ∧
    (aonLost s t).press.driven = false ∧ (aonLost s t).trust.flash = s.trust.flash :=
  ⟨rfl, rfl, rfl, rfl⟩

end Sys2Proof.Machine
end

section
namespace Sys2Proof

open Sys2Proof.Machine

/-- Settles O23. -/
theorem resetInputs : Obligations.ResetInputs := by
  unfold Obligations.ResetInputs
  refine ⟨?_, ?_, ?_, ?_, ?_, ?_, ?_, ?_, ?_, ?_, ?_, ?_, ?_, ?_, ?_, ?_⟩
  case refine_1 =>
    intro s hPor hAon
    obtain ⟨-, -, hPress⟩ := powerReset_parts (s.put F.CKR_RST_CAUSE_POR 1)
    have hCause := (nodeReset_cause (f := F.CKR_RST_CAUSE_POR) (x := 1) (by decide) (by decide) s).1
    refine ⟨_, execPorstNFall_eq hPor hAon, ?_, ?_, ?_, ?_, ?_, ?_, ?_⟩
    · rw [State.withPwr_pwr, porPwr]
    · rw [State.withPwr_on, on_of_get hCause rfl]
    · rw [State.withPwr_get, powerReset_inReset]
    · rw [State.withPwr_pool, powerReset_cells]
    · rw [State.withPwr_press, hPress, State.put_press]
    · rw [State.withPwr_pwr, porPwr]
    · rw [State.withPwr_pwr, porPwr]
  case refine_2 =>
    intro s testMode strap hPor hAon
    obtain ⟨hTest, hAddr, hMode, hBoot⟩ := strapped_reads testMode strap.isLt (porRisen s)
    have hPwr : (startUp (strapped testMode strap.toNat (porRisen s))).pwr = (porRisen s).pwr := by
      rw [startUp_pwr, strapped_pwr]
    refine ⟨_, execPorstNRise_eq hPor hAon testMode strap, by rw [hPwr, porRisen], by rw [hPwr, porRisen], ?_, ?_, ?_, ?_, ?_⟩
    · rw [State.on, startUp_get (by decide)]
      exact hTest
    · rw [startUp_get (by decide), hAddr]
    · rw [startUp_get (by decide), hMode]
    · rw [startUp_get (by decide), hBoot]
    · rw [startUp_incarnation, strapped_get (by decide)]
      rfl
  case refine_3 =>
    intro s cycles hLong hHeld hNone
    obtain ⟨hPrologue, hCause, hSafe, hDriven⟩ :=
      acceptReset_starts (kind := .warm) (cause := F.CKR_RST_CAUSE_WARM_PIN) hHeld hNone (by decide) (by decide) (by decide)
    refine ⟨_, ?_, hPrologue, hCause, hDriven, hSafe⟩
    show execWrstNPulse cycles s = _
    rw [execWrstNPulse, pulseAccepted, if_pos hLong]
    exact congrArg Host.Outcome.next (if_pos rfl)
  case refine_4 =>
    intro s cycles hShort
    have hPulse : pulseAccepted cycles s = (false, s) := by
      rw [pulseAccepted, if_neg (by omega), if_pos hShort]
    constructor
    · show execWrstNPulse cycles s = _
      rw [execWrstNPulse, hPulse]
      exact congrArg Host.Outcome.next (if_neg Bool.false_ne_true)
    · show execMrstNPulse cycles s = _
      rw [execMrstNPulse, hPulse]
      exact congrArg Host.Outcome.next (if_neg Bool.false_ne_true)
  case refine_5 =>
    intro s cycles hLong hHeld hNone
    obtain ⟨hPrologue, hCause, -, -⟩ := acceptReset_starts (kind := .memoryRetaining) (cause := F.CKR_RST_CAUSE_MRW_PIN)
      hHeld hNone (by decide) (by decide) (by decide)
    refine ⟨_, ?_, hPrologue, hCause⟩
    show execMrstNPulse cycles s = _
    rw [execMrstNPulse, pulseAccepted, if_pos hLong]
    exact congrArg Host.Outcome.next (if_pos rfl)
  case refine_6 =>
    intro s hHeld hNone
    obtain ⟨hPrologue, hCause, -, -⟩ := acceptReset_starts (kind := .warm) (cause := F.CKR_RST_CAUSE_WARM_REQ) hHeld hNone
      (by decide) (by decide) (by decide)
    exact ⟨_, rfl, hPrologue, hCause⟩
  case refine_7 =>
    intro s hHeld hPrologue
    obtain ⟨hStarted, -, -, hKept⟩ :=
      startPrologue_reads .warm ((s.put F.CKR_RST_CAUSE_WARM_REQ 1).put F.CKR_RST_CAUSE_MRW_DEMOTED 1)
    refine ⟨_, congrArg Host.Outcome.next (acceptReset_demotes hHeld hPrologue), hStarted, ?_, ?_⟩
    · refine on_of_get ?_ rfl
      rw [get_of_kept hKept (by decide), State.get_put_of _ _ _ _ (by decide), State.get_put_self _ _ _ (by decide)]
    · refine on_of_get ?_ rfl
      rw [get_of_kept hKept (by decide), State.get_put_self _ _ _ (by decide)]
  case refine_8 =>
    intro s
    exact ⟨⟨_, rfl, State.get_bump_self (h := by decide) .., rfl⟩, _, rfl, State.get_bump_self (h := by decide) .., rfl⟩
  case refine_9 =>
    intro s hHeld hNone
    obtain ⟨hPrologue, hCause, -, -⟩ := acceptReset_starts (kind := .memoryRetaining) (cause := F.CKR_RST_CAUSE_MRW_REQ)
      hHeld hNone (by decide) (by decide) (by decide)
    exact ⟨_, rfl, hPrologue, hCause⟩
  case refine_10 =>
    intro s hRuns hHeld hNone
    obtain ⟨hPrologue, hCause, -, -⟩ := acceptReset_starts (kind := .warm) (cause := F.CKR_RST_CAUSE_WATCHDOG) hHeld hNone
      (by decide) (by decide) (by decide)
    exact ⟨_, if_pos hRuns, hPrologue, hCause⟩
  case refine_11 =>
    intro s hLost hLock hHeld hNone
    obtain ⟨hPrologue, -, -, -⟩ := acceptReset_starts (kind := .warm) (cause := F.CKR_RST_CAUSE_WARM_REQ) hHeld hNone
      (by decide) (by decide) (by decide)
    exact ⟨_, if_pos (by simp [hLost, hLock]), hPrologue⟩
  case refine_12 =>
    intro s rail hHeld
    obtain ⟨hFault, hGet, hPool, -, -⟩ :=
      faultLow_reads .undervoltage (startUp (powerReset (s.orBits F.CKR_RST_CAUSE_UV (2 ^ rail.val))))
    have hCause := (powerReset_cause (f := F.CKR_RST_CAUSE_UV) (g := F.CKR_RST_CAUSE_UV) (by decide) rfl
      (s.get F.CKR_RST_CAUSE_UV ||| 2 ^ rail.val) s).2
    refine ⟨_, execUndervoltage_eq hHeld rail, ?_, hFault, ?_, ?_⟩
    · rw [hGet, State.orBits, hCause]
      exact uv_of_orBits rail s
    · rw [hGet, startUp_inReset]
    · rw [hPool, startUp_pool, powerReset_cells]
  case refine_13 =>
    intro s hAon hXtal
    obtain ⟨hFault, hGet, -, hHeld, hRunning⟩ :=
      faultLow_reads .xtalStop ((xtalReset s).withPwr (xtalPwr (xtalReset s).pwr))
    refine ⟨_, execCrystalStop_eq hAon hXtal, ?_, ?_, ?_, hFault⟩
    · rw [State.on, hGet, State.withPwr_get]
      exact xtalReset_cause s
    · rw [hHeld, State.withPwr_pwr, xtalPwr]
    · rw [hRunning, State.withPwr_pwr, xtalPwr]
  case refine_14 =>
    intro s hHeld hTrip
    obtain ⟨hPor, -, -⟩ := aonUp_of_running hHeld
    have hCause := (nodeReset_cause (f := F.CKR_RST_CAUSE_THERMTRIP) (x := 1) (by decide) (by decide) s).2
    have hPwr := startUp_powerReset_pwr (s.put F.CKR_RST_CAUSE_THERMTRIP 1)
    have hLow : (keptPwr .powerOn (s.put F.CKR_RST_CAUSE_THERMTRIP 1)).porstLow = false := hPor
    refine ⟨_, congrArg Host.Outcome.next (thermalTrip_eq hHeld hTrip), ?_, ?_, ?_, ?_⟩
    · rw [State.withPwr_on, on_of_get hCause rfl]
    · rw [State.withPwr_pwr, hPwr, tripPwr, hLow, Bool.not_false]
    · rw [State.withPwr_pwr, hPwr, tripPwr, hLow, Bool.not_false]
    · rw [State.withPwr_get, startUp_inReset]
  case refine_15 =>
    intro s hAon
    exact ⟨_, execVddAonLoss_eq hAon, aonLost_reads ..⟩
  case refine_16 =>
    intro s hAon
    exact ⟨_, if_neg (by simp [hAon]), rfl, rfl, rfl⟩

end Sys2Proof
end

section
/-! SUPPORT. What Campion's operations leave of its state and of the registers. -/

namespace Sys2Proof.Machine

-- One proof at a time: the check compiles the whole text within a fixed memory.
set_option Elab.async false

variable {s t u : State} {f : Fld} {k n : Nat}

/-! The parts that an operation does not write. -/

theorem campEvent_rest {src : Nat} (h : src < 256) (link uid : Nat) (s : State) : (campEvent src link uid s).rest = s.rest :=
  raiseNode_rest h s

theorem campEvent_get {src : Nat} (h : src < 256) (hk : accKey f.key = false) (link uid : Nat) (s : State) :
    (campEvent src link uid s).get f = s.get f := get_of_rest (campEvent_rest h link uid s) hk

theorem campEvent_fab (src link uid : Nat) (s : State) : (campEvent src link uid s).fab = s.fab :=
  same_of_out (l := [.fabric]) .fabric (@campEvent_out _ .mem .any src link uid s)

theorem syncTree_fab (s : State) : (syncTree s).fab = s.fab :=
  same_of_out (l := [.fabric]) .fabric (@syncTree_out _ .any .any s)

theorem syncTree_fuses (s : State) : (syncTree s).fuses = s.fuses :=
  same_of_out (l := [.fuses]) .fuses (@syncTree_out _ .any .any s)

theorem sorrelUnassigned_fab (s : State) : (sorrelUnassigned s).fab = s.fab :=
  same_of_out (l := [.fabric]) .fabric (@sorrelUnassigned_out _ .mem .any .any .any s)

theorem floodClaim_fab (s : State) : (floodClaim s).fab = s.fab :=
  same_of_out (l := [.fabric]) .fabric (@floodClaim_out _ .mem s)

theorem setExcluded_fab (k : Nat) (s : State) : (setExcluded k s).fab = s.fab :=
  same_of_out (l := [.fabric]) .fabric (@setExcluded_out _ .mem .any .any k s)

theorem sendDup_get (v : Nat) (s : State) (f : Fld) : (sendDup v s).get f = s.get f :=
  get_of_out (@sendDup_out _ .mem .mem v s) f

theorem sendDup_fuses (v : Nat) (s : State) : (sendDup v s).fuses = s.fuses :=
  same_of_out (l := [.fuses]) .fuses (@sendDup_out _ .mem .mem v s)

/-! Registers. -/

theorem onCampion_get (g : Campion → Campion) (s : State) (f : Fld) : (onCampion g s).get f = s.get f := (rfl)

theorem setNbr_get (k : Nat) (x : Nbr) (s : State) (f : Fld) : (s.setNbr k x).get f = s.get f := (rfl)

/-- A field that the tree's registers do not hold. -/
def offTree (f : Fld) : Prop := f.key ≠ R.TOPO_PARENT ∧ ∀ k, f.key ≠ R.TOPO_NBR_INFO k ∨ f.hi < 29 ∨ 29 < f.lo

theorem syncTree_get (hf : offTree f) (s : State) : (syncTree s).get f = s.get f := by
  obtain ⟨hParent, hChild⟩ := hf
  unfold syncTree
  dsimp only
  rw [State.each_eq (g := fun u => u.get f)]
  · split
    · rw [State.get_put_key _ _ _ _ hParent, State.get_put_key _ _ _ _ hParent, State.get_put_key _ _ _ _ hParent]
    · rw [State.get_put_key _ _ _ _ hParent, State.get_put_key _ _ _ _ hParent, State.get_put_key _ _ _ _ hParent]
  · intro k _ u
    exact State.get_put_of _ _ _ _ ((hChild k).imp id fun h => ⟨Nat.le_refl _, by simp, h⟩)

theorem sorrelUnassigned_get (hk : accKey f.key = false) (hStatus : f.key ≠ R.TOPO_SRL_STATUS)
    (hRate : f.key ≠ R.TOPO_SRL_RATE) (s : State) : (sorrelUnassigned s).get f = s.get f := by
  unfold sorrelUnassigned sorrelHoldover srlEvent
  split
  · exact State.get_put_key _ _ _ _ hStatus
  · split
    · rw [campEvent_get (by decide) hk, State.get_put_key _ _ _ _ hRate, State.get_put_key _ _ _ _ hStatus]
    · rfl

/-! The claim tree. -/

/-- What Campion has learnt: the best claim, barred UIDs, UIDs of duplicates, and its neighbours. -/
def State.learnt (s : State) : Option Best × NSet × NSet × Tab Nbr :=
  (s.fab.campion.best, s.fab.campion.barred, s.fab.campion.dups, s.fab.campion.nbr)

theorem learnt_of_fab (h : t.fab = s.fab) : t.learnt = s.learnt := by rw [State.learnt, h, State.learnt]

theorem enterElecting_learnt (s : State) : (enterElecting s).learnt = s.learnt := by
  have hFab := sorrelUnassigned_fab ((onCampion (fun c => { c with quiet := true, reports := [], reported := false }) s).put
    F.TOPO_STATUS_STATE campElecting)
  unfold enterElecting
  exact congrArg (fun x => (x.campion.best, x.campion.barred, x.campion.dups, x.campion.nbr)) hFab

theorem enterElecting_quiet (s : State) : (enterElecting s).fab.campion.quiet = true := by
  have hFab := sorrelUnassigned_fab ((onCampion (fun c => { c with quiet := true, reports := [], reported := false }) s).put
    F.TOPO_STATUS_STATE campElecting)
  exact congrArg (fun x => x.campion.quiet) hFab

theorem bestChanged_learnt (s : State) : (bestChanged s).learnt = s.learnt := by
  unfold bestChanged
  dsimp only
  rw [learnt_of_fab (syncTree_fab _)]
  split
  · exact enterElecting_learnt _
  · rfl

theorem bestChanged_quiet (s : State) : (bestChanged s).fab.campion.quiet = true := by
  unfold bestChanged
  dsimp only
  rw [syncTree_fab]
  split
  · exact enterElecting_quiet _
  · rfl

theorem sendAll_fab (l : List Nat) (sub : Nat) (d : List Byte) (s : State) :
    (s.each l fun k t => sendMgmt k sub d t).fab = s.fab := State.each_eq s (g := State.fab) l _ fun _ _ _ => rfl

/-- A DUP goes out at most once for a UID. -/
theorem sendDup_fab (v : Nat) (s : State) : (sendDup v s).fab.campion.dups.contains v = true ∧
    (sendDup v s).fab.campion.best = s.fab.campion.best ∧ (sendDup v s).fab.campion.nbr = s.fab.campion.nbr ∧
    (sendDup v s).fab.campion.barred = s.fab.campion.barred := by
  unfold sendDup
  split
  next h => exact ⟨h, rfl, rfl, rfl⟩
  next =>
    dsimp only
    rw [sendAll_fab]
    exact ⟨NSet.contains_ins_self .., rfl, rfl, rfl⟩

/-! What the best claim and the comparison with it read. -/

theorem State.best_congr (hBest : t.fab.campion.best = s.fab.campion.best) (hFuses : t.fuses = s.fuses)
    (hPrio : t.priority = s.priority) : t.best = s.best := by
  rw [State.best, State.best, hBest, hPrio, State.uid, State.uid, hFuses]

theorem State.betterClaim_congr (hBest : t.best = s.best) (hUid : ∀ k, t.nbrUid k = s.nbrUid k) (k : Nat) (c : Claim) :
    t.betterClaim k c = s.betterClaim k c := by
  rw [State.betterClaim, State.betterClaim, hBest]
  simp only [hUid]

theorem offTree_priority : offTree F.TOPO_CFG_PRIORITY :=
  ⟨by decide, fun k => .inl (by simp only [R.TOPO_NBR_INFO, R.TOPO_CFG]; omega)⟩

theorem offTree_state : offTree F.TOPO_STATUS_STATE :=
  ⟨by decide, fun k => .inl (by simp only [R.TOPO_NBR_INFO, R.TOPO_STATUS]; omega)⟩

theorem offTree_uid (k : Nat) : offTree (F.TOPO_NBR_UID_UID k) :=
  ⟨by simp only [R.TOPO_NBR_UID, R.TOPO_PARENT]; omega, fun j => .inl (by simp only [R.TOPO_NBR_INFO, R.TOPO_NBR_UID]; omega)⟩

/-! A claim that is heard. -/

/-- The node with a claim noted for a link. -/
def heard (k : Nat) (c : Claim) (s : State) : State := syncTree (s.setNbr k { s.nbr k with claim := some c })

theorem heard_fab (k : Nat) (c : Claim) (s : State) :
    (heard k c s).fab = (s.setNbr k { s.nbr k with claim := some c }).fab := syncTree_fab _

theorem heard_claim (k : Nat) (c : Claim) (s : State) : ((heard k c s).nbr k).claim = some c := by
  rw [State.nbr, heard_fab]
  exact congrArg Nbr.claim (Tab.get_set_self _ _ _ _)

theorem heard_get (hf : offTree f) (k : Nat) (c : Claim) (s : State) : (heard k c s).get f = s.get f := syncTree_get hf _

theorem heard_fuses (k : Nat) (c : Claim) (s : State) : (heard k c s).fuses = s.fuses := syncTree_fuses _

theorem heard_campion (k : Nat) (c : Claim) (s : State) : (heard k c s).fab.campion.best = s.fab.campion.best ∧
    (heard k c s).fab.campion.barred = s.fab.campion.barred ∧ (heard k c s).fab.campion.dead = s.fab.campion.dead := by
  rw [heard_fab]
  exact ⟨rfl, rfl, rfl⟩

theorem heard_best (k : Nat) (c : Claim) (s : State) : (heard k c s).best = s.best :=
  State.best_congr (heard_campion k c s).1 (heard_fuses ..) (heard_get offTree_priority ..)

theorem heard_betterClaim (k j : Nat) (c d : Claim) (s : State) : (heard k c s).betterClaim j d = s.betterClaim j d :=
  State.betterClaim_congr (heard_best ..) (fun i => heard_get (offTree_uid i) ..) j d

theorem heard_campState (k : Nat) (c : Claim) (s : State) : (heard k c s).campState = s.campState :=
  heard_get offTree_state ..

/-- The best claim that a claim heard on a link makes. -/
def Claim.best (c : Claim) (k : Nat) : Best := ⟨c.prio, c.uid, c.inc, c.nonce, c.gen, c.hops + 1, some k⟩

theorem onCampion_campState (g : Campion → Campion) (s : State) : (onCampion g s).campState = s.campState := (rfl)

/-- The node with a better claim adopted; an ASSIGNED node that takes another candidate elects again. -/
def adopted (k : Nat) (c : Claim) (s : State) : State :=
  if s.campState = campAssigned ∧ !s.best.any (fun b => sameCandidate c b) then
    enterElecting (onCampion (fun x => { x with best := some (c.best k) }) s)
  else onCampion (fun x => { x with best := some (c.best k) }) s

theorem adopted_learnt (k : Nat) (c : Claim) (s : State) :
    (adopted k c s).learnt = (some (c.best k), s.fab.campion.barred, s.fab.campion.dups, s.fab.campion.nbr) := by
  unfold adopted
  split
  · rw [enterElecting_learnt]
    rfl
  · rfl

/-- A claim that is better than the best one becomes the best. -/
theorem takeClaim_better {c : Claim} (hBarred : s.fab.campion.barred.contains c.uid = false)
    (hDead : s.fab.campion.dead.contains (c.uid, c.inc) = false) (hState : s.campState ≠ campDuplicate)
    (hUid : c.uid ≠ s.uid)
    (hNonce : s.best.any (fun b => c.uid == b.uid && c.inc == b.inc && c.nonce != b.nonce) = false)
    (hBetter : s.betterClaim k c = true) :
    (takeClaim k c s).fab.campion.best = some (c.best k) ∧ (takeClaim k c s).fab.campion.quiet = true ∧
      ((takeClaim k c s).nbr k).claim = some c := by
  obtain ⟨hBest, hBar, hDed⟩ := heard_campion k c s
  have hOther : (heard k c s).uid = s.uid := congrArg Fuses.uid (heard_fuses ..)
  have hEq : takeClaim k c s = floodClaim (bestChanged (adopted k c (heard k c s))) := by
    unfold takeClaim
    dsimp only
    rw [← heard, if_neg (by simp [hBar, hDed, hBarred, hDead, heard_campState, hState, -List.contains_eq_mem]),
      if_neg (by rw [hOther]; exact hUid), heard_best, hNonce, if_neg Bool.false_ne_true, heard_betterClaim, hBetter,
      Bool.not_true, if_neg Bool.false_ne_true, onCampion_campState, adopted, heard_best, Claim.best]
  have hLearnt := (bestChanged_learnt (adopted k c (heard k c s))).trans (adopted_learnt k c _)
  rw [hEq, floodClaim_fab, State.nbr, floodClaim_fab]
  refine ⟨congrArg Prod.fst hLearnt, bestChanged_quiet _, ?_⟩
  have hTab : (bestChanged (adopted k c (heard k c s))).fab.campion.nbr = (heard k c s).fab.campion.nbr :=
    congrArg (fun x => x.2.2.2) hLearnt
  rw [hTab]
  exact heard_claim k c s

/-- A claim that is barred or no better leaves the best one. -/
theorem takeClaim_worse {c : Claim} (h : s.fab.campion.barred.contains c.uid = true ∨ s.betterClaim k c = false) :
    (takeClaim k c s).fab.campion.best = s.fab.campion.best ∧ ((takeClaim k c s).nbr k).claim = some c ∧
      (takeClaim k c s).campState = s.campState := by
  obtain ⟨hBest, hBar, -⟩ := heard_campion k c s
  have hStay : ∃ u, takeClaim k c s = u ∧ (u = heard k c s ∨ ∃ v, u = sendDup v (heard k c s)) := by
    refine ⟨_, rfl, ?_⟩
    unfold takeClaim
    dsimp only
    rw [← heard]
    split_ifs with h1 h2 h3 h4 h5 h6
    · exact .inl rfl
    · exact .inl rfl
    · exact .inr ⟨_, rfl⟩
    · exact .inl rfl
    · exact .inr ⟨_, rfl⟩
    · exact .inl rfl
    all_goals
      rw [heard_betterClaim] at h6
      simp_all [-List.contains_eq_mem]
  obtain ⟨u, rfl, hu | ⟨v, hu⟩⟩ := hStay
  · rw [hu]
    exact ⟨hBest, heard_claim k c s, heard_campState k c s⟩
  · obtain ⟨-, hTop, hNbr, -⟩ := sendDup_fab v (heard k c s)
    rw [hu, State.nbr, hNbr]
    exact ⟨hTop.trans hBest, heard_claim k c s, (sendDup_get ..).trans (heard_campState k c s)⟩

/-! HELLO. -/

theorem accKey_nbr (k : Fin 6) : accKey (R.TOPO_NBR_INFO k.val) = false ∧ accKey (R.TOPO_NBR_UID k.val) = false ∧
    accKey (R.TOPO_NBR_INC k.val) = false := by
  revert k
  decide

theorem setExcluded_get (hk : accKey f.key = false) (hf : f.key ≠ R.TOPO_NBR_INFO k ∨ f.hi < 30 ∨ 30 < f.lo) (s : State) :
    (setExcluded k s).get f = s.get f := by
  have hPut : ∀ v, (s.putB (F.TOPO_NBR_INFO_EXCLUDED k) v).get f = s.get f := fun v =>
    State.get_put_of _ _ _ _ (hf.imp id fun h => ⟨Nat.le_refl _, by simp, h⟩)
  unfold setExcluded
  dsimp only
  split
  · rfl
  · split
    · rw [campEvent_get (by decide) hk, hPut]
    · rw [hPut]

theorem setExcluded_excluded (hk : accKey (R.TOPO_NBR_INFO k) = false) (s : State) :
    (setExcluded k s).excluded k = ((s.nbr k).excl || (s.nbr k).clash) := by
  have hPut : ∀ v, (s.putB (F.TOPO_NBR_INFO_EXCLUDED k) v).excluded k = v := fun v => by
    rw [State.excluded, State.on, State.putB, State.get_put_self _ _ _ (by simp [Fld.ok])]
    cases v <;> rfl
  unfold setExcluded
  dsimp only
  split
  next h => exact h.symm
  next =>
    split
    · rw [State.excluded, State.on, campEvent_get (by decide) hk]
      exact hPut _
    · exact hPut _

/-- The neighbour's registers with a HELLO. -/
def greeted (k : Nat) (p : Packet) (s : State) : State :=
  (((((s.put (F.TOPO_NBR_UID_UID k) (ofLeBytes (slice 0 p.data 8 8))).put (F.TOPO_NBR_INFO_V k) 1).put
    (F.TOPO_NBR_INFO_LABEL k) (p.byte 4)).put (F.TOPO_NBR_INFO_ROLE k) (p.byte 2)).put (F.TOPO_NBR_INFO_PRIORITY k)
    (p.byte 3)).put (F.TOPO_NBR_INC_INC k) (ofLeBytes (slice 0 p.data 16 4))

theorem ofLeBytes_lt (l : List Byte) : ofLeBytes l < 256 ^ l.length := by
  induction l with
  | nil => exact Nat.one_pos
  | cons b l ih =>
    have hb : b.toNat < 256 := b.isLt
    rw [ofLeBytes, List.length_cons, Nat.pow_succ]
    omega

theorem ofLeBytes_slice_lt (l : List Byte) (o n : Nat) : ofLeBytes (slice 0 l o n) < 256 ^ n := by
  have := ofLeBytes_lt (slice 0 l o n)
  rwa [slice_length] at this

theorem greeted_reads (k : Nat) {p : Packet} (hLabel : p.byte 4 < 8) (s : State) :
    (greeted k p s).get (F.TOPO_NBR_UID_UID k) = ofLeBytes (slice 0 p.data 8 8) ∧
      (greeted k p s).get (F.TOPO_NBR_INFO_V k) = 1 ∧ (greeted k p s).get (F.TOPO_NBR_INFO_LABEL k) = p.byte 4 ∧
      (greeted k p s).get (F.TOPO_NBR_INFO_ROLE k) = p.byte 2 ∧ (greeted k p s).get (F.TOPO_NBR_INFO_PRIORITY k) = p.byte 3 ∧
      (greeted k p s).get (F.TOPO_NBR_INC_INC k) = ofLeBytes (slice 0 p.data 16 4) := by
  have hByte : ∀ i, p.byte i < 256 := fun i => BitVec.isLt _
  have hUid := ofLeBytes_slice_lt p.data 8 8
  have hInc := ofLeBytes_slice_lt p.data 16 4
  have hUidInfo : R.TOPO_NBR_UID k ≠ R.TOPO_NBR_INFO k := by simp only [R.TOPO_NBR_UID, R.TOPO_NBR_INFO]; omega
  have hUidInc : R.TOPO_NBR_UID k ≠ R.TOPO_NBR_INC k := by simp only [R.TOPO_NBR_UID, R.TOPO_NBR_INC]; omega
  have hInfoInc : R.TOPO_NBR_INFO k ≠ R.TOPO_NBR_INC k := by simp only [R.TOPO_NBR_INFO, R.TOPO_NBR_INC]; omega
  unfold greeted
  refine ⟨?_, ?_, ?_, ?_, ?_, ?_⟩
  · rw [State.get_put_key _ _ _ _ hUidInc, State.get_put_key _ _ _ _ hUidInfo, State.get_put_key _ _ _ _ hUidInfo,
      State.get_put_key _ _ _ _ hUidInfo, State.get_put_key _ _ _ _ hUidInfo, State.get_put_self _ _ _ (by simp [Fld.ok])]
    exact Nat.mod_eq_of_lt hUid
  · rw [State.get_put_key _ _ _ _ hInfoInc, State.get_put_of _ _ _ _ (by simp), State.get_put_of _ _ _ _ (by simp),
      State.get_put_of _ _ _ _ (by simp), State.get_put_self _ _ _ (by simp [Fld.ok])]
    rfl
  · rw [State.get_put_key _ _ _ _ hInfoInc, State.get_put_of _ _ _ _ (by simp), State.get_put_of _ _ _ _ (by simp),
      State.get_put_self _ _ _ (by simp [Fld.ok])]
    exact Nat.mod_eq_of_lt hLabel
  · rw [State.get_put_key _ _ _ _ hInfoInc, State.get_put_of _ _ _ _ (by simp), State.get_put_self _ _ _ (by simp [Fld.ok])]
    exact Nat.mod_eq_of_lt (hByte 2)
  · rw [State.get_put_key _ _ _ _ hInfoInc, State.get_put_self _ _ _ (by simp [Fld.ok])]
    exact Nat.mod_eq_of_lt (hByte 3)
  · rw [State.get_put_self _ _ _ (by simp [Fld.ok])]
    exact Nat.mod_eq_of_lt hInc

/-- A HELLO's MODE or LABEL does not match. -/
def State.clashes (s : State) (k : Nat) (p : Packet) : Bool :=
  (p.byte 5 / 64 == 1) == s.torus || (s.torus && p.byte 4 != (s.labelOf k ^^^ 1))

/-- The node with a HELLO noted. -/
def noted (k : Nat) (p : Packet) (s : State) : State :=
  noteGen (ofLeBytes (slice 0 p.data 20 4)) ((greeted k p s).setNbr k { (greeted k p s).nbr k with clash := s.clashes k p })

theorem takeHello_eq (k : Nat) (p : Packet) (s : State) : takeHello k p s = syncTree (setExcluded k (noted k p s)) := by
  rw [takeHello, noted, State.clashes, greeted]

theorem noted_get (k : Nat) (p : Packet) (s : State) (f : Fld) : (noted k p s).get f = (greeted k p s).get f := by
  rw [noted, noteGen, onCampion_get, setNbr_get]

theorem noted_nbr (k : Nat) (p : Packet) (s : State) :
    (noted k p s).nbr k = { s.nbr k with clash := s.clashes k p } := Tab.get_set_self _ _ _ _

/-- A field of the neighbour's registers but for EXCLUDED and CHILD reads after a HELLO as the HELLO gave it. -/
theorem takeHello_get (hk : accKey f.key = false) (hParent : f.key ≠ R.TOPO_PARENT)
    (hInfo : (∀ j, f.key ≠ R.TOPO_NBR_INFO j) ∨ f.hi < 29 ∨ 30 < f.lo) (p : Packet) (s : State) :
    (takeHello k p s).get f = (greeted k p s).get f := by
  rw [takeHello_eq, syncTree_get ⟨hParent, fun j => ?_⟩, setExcluded_get hk ?_, noted_get]
  · exact hInfo.imp (fun h => h k) fun h => by omega
  · exact hInfo.imp (fun h => h j) fun h => by omega

theorem takeHello_excluded (hk : accKey (R.TOPO_NBR_INFO k) = false) (p : Packet) (s : State) :
    (takeHello k p s).excluded k = ((s.nbr k).excl || s.clashes k p) := by
  have hParent : R.TOPO_NBR_INFO k ≠ R.TOPO_PARENT := by simp only [R.TOPO_NBR_INFO, R.TOPO_PARENT]; omega
  rw [takeHello_eq, State.excluded, State.on, syncTree_get ⟨hParent, fun j => .inr (.inr (by simp))⟩]
  refine (setExcluded_excluded hk _).trans ?_
  rw [noted_nbr]

/-! DUP. -/

/-- A node in DUPLICATE with no best claim. -/
def InDuplicate (barred : NSet) (s : State) : Prop :=
  s.campState = campDuplicate ∧ s.fab.campion.best = none ∧ s.fab.campion.barred = barred

theorem campionIdle_duplicate (h : s.campState = campDuplicate) : campionIdle s = s := by
  have hState : s.get F.TOPO_STATUS_STATE = 4 := h
  rw [campionIdle, hState, if_pos (by simp)]

/-- A register that no link holds. -/
def offLinks (j : Nat) : Prop := j % 65536 = 4

theorem setLinkState_get (hf : offLinks f.key) (k st : Nat) (s : State) : (setLinkState k st s).get f = s.get f := by
  refine State.each_eq s (g := fun u => u.get f) _ _ fun g _ u => State.get_put_key _ _ _ _ ?_
  simp only [offLinks, R.FP_STATUS] at hf ⊢
  omega

theorem setSecure_get (hf : offLinks f.key) (k : Nat) (v : Bool) (s : State) : (setSecure k v s).get f = s.get f := by
  refine State.each_eq s (g := fun u => u.get f) _ _ fun g _ u => State.get_put_key _ _ _ _ ?_
  simp only [offLinks, R.FP_STATUS] at hf ⊢
  omega

theorem reroute_get (hf : offLinks f.key) (k : Nat) (ps : List Packet) (s : State) : (reroute k ps s).get f = s.get f := by
  refine State.each_eq s (g := fun u => u.get f) _ _ fun p _ u => ?_
  dsimp only
  generalize hBack : (u.torus && p.rev == 0 && u.routable (if k % 2 = 0 then k + 1 else k - 1)) = b
  cases b
  · rw [if_neg Bool.false_ne_true]
    refine State.get_bump_key _ _ ?_
    simp only [offLinks, R.FP_UNROUTABLE] at hf ⊢
    omega
  · rfl

theorem reroute_fab (k : Nat) (ps : List Packet) (s : State) : (reroute k ps s).fab = s.fab :=
  same_of_out (l := [.fabric]) .fabric (@reroute_out _ .mem .any k ps s)

theorem setLinkState_fab (k st : Nat) (s : State) : (setLinkState k st s).fab = s.fab :=
  same_of_out (l := [.fabric]) .fabric (@setLinkState_out _ .any k st s)

theorem setSecure_fab (k : Nat) (v : Bool) (s : State) : (setSecure k v s).fab = s.fab :=
  same_of_out (l := [.fabric]) .fabric (@setSecure_out _ .any k v s)

theorem linkDown_duplicate {b : NSet} (h : InDuplicate b s) (k : Nat) (causes : List Cause) :
    InDuplicate b (linkDown k causes s) := by
  obtain ⟨hState, hBest, hBarred⟩ := h
  have hOff : offLinks F.TOPO_STATUS_STATE.key := by unfold offLinks; decide
  have hCause : ∀ k, F.TOPO_STATUS_STATE.key ≠ R.FP_DOWN_CAUSE k := fun k => by
    simp only [R.FP_DOWN_CAUSE, R.TOPO_STATUS]; omega
  have hDowns : ∀ k, F.TOPO_STATUS_STATE.key ≠ R.FP_DOWNS k := fun k => by simp only [R.FP_DOWNS, R.TOPO_STATUS]; omega
  have hRest : ∀ a u, (raiseNode ⟨Ev.FAB_LINK_DOWN, k, a, 0, 0⟩ u).rest = u.rest := fun _ u =>
    raiseNode_rest (by show Ev.FAB_LINK_DOWN < 256; decide) u
  unfold linkDown
  extract_lets mine own s1 f1 s2 w l0 s3 s4 s5 s6
  have hLost : s6.get F.TOPO_STATUS_STATE = s5.get F.TOPO_STATUS_STATE := get_of_rest (hRest _ s5) (by decide)
  have hFab : s6.fab = s5.fab := congrArg (fun r => r.2.fab) (hRest _ s5)
  have hLow : s5.get F.TOPO_STATUS_STATE = s3.get F.TOPO_STATUS_STATE :=
    (State.get_bump_key _ _ (hDowns k)).trans (State.get_put_key _ _ _ _ (hCause k))
  have hOpen : s3.get F.TOPO_STATUS_STATE = s.get F.TOPO_STATUS_STATE :=
    (setSecure_get hOff ..).trans (setLinkState_get hOff ..)
  have hCamp : s3.fab.campion = s.fab.campion :=
    (congrArg FabState.campion ((setSecure_fab k false _).trans (setLinkState_fab k 7 _))).trans rfl
  generalize (mine.filter fun x => x.2.src != own && x.2.opc != 8).map (·.2) = ps
  have hGet : (reroute k ps s6).campState = s.campState :=
    (reroute_get hOff ..).trans (hLost.trans (hLow.trans hOpen))
  have hCamp : (reroute k ps s6).fab.campion = s.fab.campion := by
    rw [reroute_fab, hFab]
    exact hCamp
  rw [campionIdle_duplicate (hGet.trans hState)]
  exact ⟨hGet.trans hState, by rw [hCamp, hBest], by rw [hCamp, hBarred]⟩

theorem campState_ne_reset (h : s.campState = campDuplicate) :
    s.reg R.TOPO_STATUS ≠ BitVec.ofNat 64 (resetNat R.TOPO_STATUS) := fun e => by
  rw [State.campState, State.get, e] at h
  revert h
  decide

theorem loadLink_campState (h : s.campState = campDuplicate) (g : Nat) :
    (s.loadDomains fun d => d == .link g).campState = campDuplicate := by
  have hDom : domainOf R.TOPO_STATUS = .warm := by decide
  have hReg := State.reg_loadDomains (p := fun d => d == .link g) (campState_ne_reset h) (by rw [hDom]; rfl)
  rw [State.campState, State.get, hReg]
  exact h

theorem testDone_get (hk : accKey f.key = false) (inst result reason : Nat) (s : State) :
    (testDone inst result reason s).get f = s.get f :=
  get_of_rest (raiseNode_rest (by show Ev.TST_JOB_DONE < 256; decide) s) hk

theorem abortJobIf_campState (g : TestJob → Bool) (s : State) : (abortJobIf g s).campState = s.campState := by
  unfold abortJobIf
  split
  · unfold endTest
    cases s.tst.job with
    | none => rfl
    | some j =>
      dsimp only
      rw [State.campState, State.each_eq (g := fun u => u.get F.TOPO_STATUS_STATE)]
      · rw [testDone_get (by decide), State.get_put_key _ _ _ _ (by decide),
          State.get_put_key _ _ _ _ (by decide), State.get_put_key _ _ _ _ (by decide)]
        rfl
      · intro g _ u
        exact State.get_put_key _ _ _ _ (by simp only [R.FP_CTL, R.TOPO_STATUS]; omega)
  · rfl

theorem abortJobIf_fab (g : TestJob → Bool) (s : State) : (abortJobIf g s).fab = s.fab :=
  same_of_out (l := [.fabric]) .fabric (@abortJobIf_out _ .mem .mem .any .any .any g s)

theorem fullReset_duplicate {b : NSet} (h : InDuplicate b s) (k : Nat) : InDuplicate b (fullReset k s) := by
  obtain ⟨hState, hBest, hBarred⟩ := h
  unfold fullReset
  extract_lets gs s1 s2 c
  have hLoad : ∀ u : State, u.campState = campDuplicate → u.fab = s.fab → (u.each gs fun g t => t.loadDomains
      fun d => d == .link g).campState = campDuplicate ∧ (u.each gs fun g t => t.loadDomains
      fun d => d == .link g).fab = s.fab := fun u hu hFab =>
    State.each_ind (P := fun t => t.campState = campDuplicate ∧ t.fab = s.fab) u gs _
      (fun g _ t ht => ⟨loadLink_campState ht.1 g, ht.2⟩) ⟨hu, hFab⟩
  obtain ⟨hKept, hFab⟩ := hLoad s1 ((abortJobIf_campState ..).trans hState) (abortJobIf_fab ..)
  exact ⟨hKept, (congrArg (fun x => x.campion.best) hFab).trans hBest, (congrArg (fun x => x.campion.barred)
      hFab).trans hBarred⟩

theorem endLinkSession_duplicate {b : NSet} (h : InDuplicate b s) (k : Nat) : InDuplicate b (endLinkSession k s) := by
  unfold endLinkSession
  split
  next hUp =>
    rw [resetLink, if_pos hUp]
    exact fullReset_duplicate (linkDown_duplicate h k _) k
  next => exact h

/-- The node in DUPLICATE, before its links' sessions end. -/
def duplicated (v : Nat) (s : State) : State :=
  sorrelUnassigned (onCampion (fun c => { c with best := none, quiet := false, reports := [], barred := NSet.ins c.barred v })
    ((s.put F.TOPO_STATUS_STATE campDuplicate).put F.TOPO_STATUS_COORD 0))

theorem duplicated_inDuplicate (v : Nat) (s : State) :
    InDuplicate (NSet.ins s.fab.campion.barred v) (duplicated v s) := by
  have hFab : (duplicated v s).fab = _ := sorrelUnassigned_fab _
  have hState : ((s.put F.TOPO_STATUS_STATE campDuplicate).put F.TOPO_STATUS_COORD 0).get F.TOPO_STATUS_STATE = 4 := by
    rw [State.get_put_of _ _ _ _ (by decide), State.get_put_self _ _ _ (by decide)]
    rfl
  refine ⟨?_, congrArg (fun x => x.campion.best) hFab, congrArg (fun x => x.campion.barred) hFab⟩
  rw [State.campState, duplicated, sorrelUnassigned_get (by decide) (by decide) (by decide), onCampion_get, hState]

/-- A DUP for the node's own UID. -/
theorem takeDup_own (hState : s.campState ≠ campDuplicate) : ∃ b, InDuplicate b (takeDup s.uid s) ∧ b.contains s.uid
    = true := by
  have hSent : (sendDup s.uid s).campState = s.campState := sendDup_get ..
  have hUid : (sendDup s.uid s).uid = s.uid := congrArg Fuses.uid (sendDup_fuses ..)
  have hEq : takeDup s.uid s = campEvent Ev.DUPLICATE_IDENTITY 0 s.uid
      (syncTree ((duplicated s.uid (sendDup s.uid s)).each (List.range 6) endLinkSession)) := by
    rw [takeDup, if_pos hUid.symm, if_neg (by rw [hSent]; exact hState), duplicated]
  refine ⟨_, ?_, NSet.contains_ins_self (sendDup s.uid s).fab.campion.barred s.uid⟩
  obtain ⟨hKept, hBest, hBarred⟩ := State.each_ind (P := InDuplicate (NSet.ins (sendDup s.uid s).fab.campion.barred s.uid))
    (duplicated s.uid (sendDup s.uid s)) (List.range 6) endLinkSession (fun k _ t ht => endLinkSession_duplicate ht k)
    (duplicated_inDuplicate ..)
  rw [hEq]
  generalize (duplicated s.uid (sendDup s.uid s)).each (List.range 6) endLinkSession = x at hKept hBest hBarred
  have hFab : (campEvent Ev.DUPLICATE_IDENTITY 0 s.uid (syncTree x)).fab = x.fab := (campEvent_fab ..).trans (syncTree_fab _)
  refine ⟨?_, by rw [hFab, hBest], by rw [hFab, hBarred]⟩
  rw [State.campState, campEvent_get (by decide) (by decide), syncTree_get offTree_state]
  exact hKept

theorem fallBack_learnt (s : State) : ∃ b, (fallBack s).learnt = (b, s.fab.campion.barred, s.fab.campion.dups,
    s.fab.campion.nbr) := by
  refine ⟨s.ownClaim, ?_⟩
  rw [fallBack, learnt_of_fab (floodClaim_fab _), bestChanged_learnt, enterElecting_learnt]
  rfl

/-- A DUP for another UID. -/
theorem takeDup_other {v : Nat} (hUid : v ≠ s.uid) : (takeDup v s).fab.campion.barred.contains v = true ∧
    (takeDup v s).fab.campion.dups.contains v = true ∧
    (s.best.any (fun b => b.uid == v) = false → (takeDup v s).fab.campion.best = s.fab.campion.best) := by
  obtain ⟨hDups, hTop, -, -⟩ := sendDup_fab v s
  have hSame : (sendDup v s).uid = s.uid := congrArg Fuses.uid (sendDup_fuses ..)
  have hBest : (onCampion (fun c => { c with barred := NSet.ins c.barred v }) (sendDup v s)).best = s.best :=
    State.best_congr hTop (sendDup_fuses ..) (sendDup_get ..)
  unfold takeDup
  dsimp only
  rw [hSame, if_neg hUid, hBest]
  split
  next h =>
    obtain ⟨b, hLearnt⟩ := fallBack_learnt (onCampion (fun c => { c with barred := NSet.ins c.barred v }) (sendDup v s))
    have hBar : (fallBack (onCampion (fun c => { c with barred := NSet.ins c.barred v }) (sendDup v s))).fab.campion.barred =
        NSet.ins (sendDup v s).fab.campion.barred v := congrArg (fun x => x.2.1) hLearnt
    have hDup : (fallBack (onCampion (fun c => { c with barred := NSet.ins c.barred v }) (sendDup v s))).fab.campion.dups =
        (sendDup v s).fab.campion.dups := congrArg (fun x => x.2.2.1) hLearnt
    refine ⟨by rw [hBar, NSet.contains_ins_self], by rw [hDup, hDups], fun hNone => ?_⟩
    rw [hNone] at h
    cases h
  next => exact ⟨NSet.contains_ins_self .., hDups, fun _ => hTop⟩

/-- A CLAIM of the node's own UID with a newer INCARNATION. -/
theorem takeClaim_own {c : Claim} (hBarred : s.fab.campion.barred.contains s.uid = false) (hDead : s.fab.campion.dead = [])
    (hState : s.campState ≠ campDuplicate) (hUid : c.uid = s.uid) (hNewer : newer c.inc s.incarnation = true) :
    (takeClaim k c s).fab.campion.dups.contains s.uid = true ∧
      (takeClaim k c s).fab.campion.best = s.fab.campion.best := by
  obtain ⟨hBest, hBar, hDed⟩ := heard_campion k c s
  have hSame : (heard k c s).uid = s.uid := congrArg Fuses.uid (heard_fuses ..)
  have hOff : offTree F.CKR_INCARNATION_COUNT :=
    ⟨by decide, fun k => .inl (by simp only [R.TOPO_NBR_INFO, R.CKR_INCARNATION]; omega)⟩
  have hInc : (heard k c s).incarnation = s.incarnation := heard_get hOff ..
  have hDiffer : c.inc ≠ s.incarnation := fun e => by
    rw [e, newer] at hNewer
    simp at hNewer
  have hEq : takeClaim k c s = sendDup s.uid (heard k c s) := by
    unfold takeClaim
    dsimp only
    rw [← heard, if_neg (by simp [hBar, hDed, hUid, hBarred, hDead, heard_campState, hState, -List.contains_eq_mem]),
      hSame, if_pos hUid, hInc, if_neg (fun h => hDiffer h.1), hNewer, Bool.true_or, if_pos rfl]
  obtain ⟨hDups, hTop, -, -⟩ := sendDup_fab s.uid (heard k c s)
  rw [hEq]
  exact ⟨hDups, hTop.trans hBest⟩

/-! Reports and assignment. -/

theorem toParent_fab (d : List Byte) (s : State) : (toParent d s).fab = s.fab := by
  unfold toParent
  split <;> rfl

/-- A child's REPORT is held. -/
theorem takeReport_child (hChild : s.isChild k = true) (d : List Byte) :
    (takeReport k d s).fab.campion.reports = s.fab.campion.reports ++ [⟨some k, d⟩] ∧
      (takeReport k d s).fab.campion.topGen = max s.fab.campion.topGen (repGen d) := by
  unfold takeReport
  rw [hChild, Bool.not_true, if_neg Bool.false_ne_true]
  dsimp only
  split
  · rw [toParent_fab]
    exact ⟨rfl, rfl⟩
  · exact ⟨rfl, rfl⟩

/-- A child's REPORT_DONE during ELECTING is recorded. -/
theorem takeReportDone_electing (hChild : s.isChild k = true) (hState : s.campState = campElecting) (count : Nat)
    (d : List Byte) : ((takeReportDone k count d s).nbr k).done = some count := by
  have hSet : (s.setNbr k { s.nbr k with done := some count }).campState = campElecting := hState
  have hEq : takeReportDone k count d s = s.setNbr k { s.nbr k with done := some count } := by
    unfold takeReportDone
    rw [hChild, Bool.not_true, if_neg Bool.false_ne_true]
    dsimp only
    rw [if_neg (by rw [hSet]; decide), tryReport, if_pos (.inl (by rw [hSet]; decide))]
  rw [hEq]
  exact congrArg Nbr.done (Tab.get_set_self _ _ _ _)

/-- A field that only an assignment writes. -/
def offCampion (f : Fld) : Prop :=
  accKey f.key = false ∧ f.key ≠ R.TOPO_PARENT ∧ f.key ≠ R.TOPO_SRL_STATUS ∧ f.key ≠ R.TOPO_SRL_RATE ∧
    ∀ k, f.key ≠ R.TOPO_NBR_INFO k

/-- A later state of an assignment: its fields and marks stand. -/
def Follows (s t : State) : Prop := (∀ f, offCampion f → t.get f = s.get f) ∧ t.fab.assigned = s.fab.assigned ∧
  t.fab.campion.quiet = s.fab.campion.quiet

theorem Follows.refl (s : State) : Follows s s := ⟨fun _ _ => rfl, rfl, rfl⟩

theorem Follows.trans (h : Follows s t) (g : Follows t u) : Follows s u := by
  obtain ⟨hGet, hMark, hQuiet⟩ := h
  obtain ⟨gGet, gMark, gQuiet⟩ := g
  exact ⟨fun f hf => (gGet f hf).trans (hGet f hf), gMark.trans hMark, gQuiet.trans hQuiet⟩

theorem Follows.each {α : Type} (l : List α) (g : α → State → State) (h : ∀ a t, Follows t (g a t)) (s : State) :
    Follows s (s.each l g) :=
  State.each_ind (P := Follows s) s l g (fun a _ t ht => ht.trans (h a t)) (.refl s)

theorem follows_of_fab (hGet : ∀ f, offCampion f → t.get f = s.get f) (hFab : t.fab = s.fab) : Follows s t :=
  ⟨hGet, by rw [hFab], by rw [hFab]⟩

theorem campEvent_follows {src : Nat} (h : src < 256) (link uid : Nat) (s : State) : Follows s (campEvent src link uid s) :=
  follows_of_fab (fun _ hf => campEvent_get h hf.1 link uid s) (campEvent_fab ..)

theorem syncTree_follows (s : State) : Follows s (syncTree s) :=
  follows_of_fab (fun _ hf => syncTree_get ⟨hf.2.1, fun k => .inl (hf.2.2.2.2 k)⟩ s) (syncTree_fab s)

theorem setExcluded_follows (k : Nat) (s : State) : Follows s (setExcluded k s) :=
  follows_of_fab (fun _ hf => setExcluded_get hf.1 (.inl (hf.2.2.2.2 k)) s) (setExcluded_fab k s)

theorem onSorrel_follows (g : Sorrel → Sorrel) (s : State) : Follows s (onSorrel g s) := ⟨fun _ _ => rfl, rfl, rfl⟩

theorem srlState_follows (v : Nat) (s : State) : Follows s (s.put F.TOPO_SRL_STATUS_STATE v) :=
  ⟨fun _ hf => State.get_put_key _ _ _ _ hf.2.2.1, rfl, rfl⟩

theorem sorrelAssigned_follows (old master : Nat) (s : State) : Follows s (sorrelAssigned old master s) := by
  unfold sorrelAssigned
  dsimp only
  split
  · exact srlState_follows 1 s
  · split
    · split
      · exact .refl s
      · refine Follows.trans ?_ (onSorrel_follows _ _)
        refine Follows.trans ?_ (srlState_follows 2 _)
        split
        · exact campEvent_follows (by decide) 0 _ s
        · exact .refl s
    · split
      · exact .refl s
      · exact (srlState_follows 2 s).trans (onSorrel_follows _ _)

/-- The registers that an ASSIGN writes. -/
def assignRegs (d : List Byte) (s : State) : State :=
  let s := (((s.put F.TOPO_STATUS_STATE campAssigned).putB F.TOPO_STATUS_COORD (ofLeBytes (slice 0 d 16 8) == s.uid)).put
    F.TOPO_STATUS_TORUS (ofLeBytes (slice 0 d 1 1) % 2)).put F.TOPO_STATUS_ADDR (ofLeBytes (slice 0 d 2 2))
  let s := ((s.put F.TOPO_SIZES_SX (ofLeBytes (slice 0 d 4 1))).put F.TOPO_SIZES_SY (ofLeBytes (slice 0 d 5 1))).put
    F.TOPO_SIZES_SZ (ofLeBytes (slice 0 d 6 1))
  (s.put F.TOPO_GEN_GEN (ofLeBytes (slice 0 d 24 4))).put F.TOPO_COORD_UID (ofLeBytes (slice 0 d 16 8))

theorem assignRegs_reads (d : List Byte) (s : State) :
    (assignRegs d s).get F.TOPO_STATUS_STATE = campAssigned ∧
      (assignRegs d s).get F.TOPO_STATUS_ADDR = ofLeBytes (slice 0 d 2 2) ∧
      (assignRegs d s).get F.TOPO_SIZES_SX = ofLeBytes (slice 0 d 4 1) % 32 ∧
      (assignRegs d s).get F.TOPO_GEN_GEN = ofLeBytes (slice 0 d 24 4) ∧
      (assignRegs d s).get F.TOPO_COORD_UID = ofLeBytes (slice 0 d 16 8) := by
  have hAddr := ofLeBytes_slice_lt d 2 2
  have hGen := ofLeBytes_slice_lt d 24 4
  have hCoord := ofLeBytes_slice_lt d 16 8
  unfold assignRegs
  dsimp only [State.putB]
  refine ⟨?_, ?_, ?_, ?_, ?_⟩
  · rw [State.get_put_key _ _ _ _ (by decide), State.get_put_key _ _ _ _ (by decide), State.get_put_key _ _ _ _ (by decide),
      State.get_put_key _ _ _ _ (by decide), State.get_put_key _ _ _ _ (by decide), State.get_put_of _ _ _ _ (by decide),
      State.get_put_of _ _ _ _ (by decide), State.get_put_of _ _ _ _ (by decide), State.get_put_self _ _ _ (by decide)]
    rfl
  · rw [State.get_put_key _ _ _ _ (by decide), State.get_put_key _ _ _ _ (by decide), State.get_put_key _ _ _ _ (by decide),
      State.get_put_key _ _ _ _ (by decide), State.get_put_key _ _ _ _ (by decide), State.get_put_self _ _ _ (by decide)]
    exact Nat.mod_eq_of_lt hAddr
  · rw [State.get_put_key _ _ _ _ (by decide), State.get_put_key _ _ _ _ (by decide), State.get_put_of _ _ _ _ (by decide),
      State.get_put_of _ _ _ _ (by decide), State.get_put_self _ _ _ (by decide)]
    rfl
  · rw [State.get_put_key _ _ _ _ (by decide), State.get_put_self _ _ _ (by decide)]
    exact Nat.mod_eq_of_lt hGen
  · rw [State.get_put_self _ _ _ (by decide)]
    exact Nat.mod_eq_of_lt hCoord

/-- The node with an ASSIGN's registers and marks. -/
def assignMarked (d : List Byte) (s : State) : State :=
  onCampion (fun c => { c with quiet := false })
    { noteGen (ofLeBytes (slice 0 d 24 4)) (assignRegs d s) with
      fab := { (noteGen (ofLeBytes (slice 0 d 24 4)) (assignRegs d s)).fab with assigned := true } }

theorem assignMarked_get (d : List Byte) (s : State) (f : Fld) : (assignMarked d s).get f = (assignRegs d s).get f := by
  rw [assignMarked, onCampion_get, State.get_mk, noteGen, onCampion_get]

theorem assignMarked_marks (d : List Byte) (s : State) :
    (assignMarked d s).fab.assigned = true ∧ (assignMarked d s).fab.campion.quiet = false := ⟨rfl, rfl⟩

/-- An ASSIGN that keeps the node's address ends no session: what follows its registers leaves them. -/
theorem applyAssign_follows (d : List Byte) (hOld : s.ownAddr = 0xFFFF ∨ s.ownAddr = ofLeBytes (slice 0 d 2 2)) :
    Follows (assignMarked d s) (applyAssign d s) := by
  have hNbr : ∀ k (t : State) x, Follows t (t.setNbr k x) := fun k t x => ⟨fun _ _ => rfl, rfl, rfl⟩
  have hHello : ∀ k t, Follows t (sendHello k t) := fun k t => ⟨fun _ _ => rfl, rfl, rfl⟩
  unfold applyAssign
  extract_lets addr coord gen excl old oldCoord s1 s2 genNew s3 f3 s4 s5 s6 s7 s8 s9 s10
  have h5 : s5 = assignMarked d s := by rfl
  have h6 : Follows s5 s6 := Follows.each _ _ (fun k t => by
    split
    · exact (hNbr k t _).trans (setExcluded_follows k _)
    · exact .refl t) s5
  have h7 : Follows s6 s7 := by
    dsimp only [s7]
    split
    · exact Follows.each _ _ hHello s6
    · exact .refl s6
  have h8 : Follows s7 s8 := (sorrelAssigned_follows oldCoord coord s7).trans (syncTree_follows _)
  have h9 : Follows s8 s9 := campEvent_follows (by decide) 0 _ s8
  have h10 : Follows s9 s10 := by
    dsimp only [s10]
    split
    · exact .refl s9
    · exact campEvent_follows (by decide) 0 _ s9
  rw [if_neg (by rintro ⟨h1, h2⟩; exact hOld.elim h1 h2), ← h5]
  exact h6.trans (h7.trans (h8.trans (h9.trans h10)))

theorem offCampion_of (hk : accKey f.key = false) (hParent : f.key ≠ R.TOPO_PARENT) (hStatus : f.key ≠ R.TOPO_SRL_STATUS)
    (hRate : f.key ≠ R.TOPO_SRL_RATE) (hLt : f.key < R.TOPO_NBR_INFO 0) : offCampion f :=
  ⟨hk, hParent, hStatus, hRate, fun k => by simp only [R.TOPO_NBR_INFO] at hLt ⊢; omega⟩

/-- The parent's ASSIGN for the node itself. -/
theorem takeAssign_own {d : List Byte} (hParent : s.best.bind (·.link) = some k) (hUid : ofLeBytes (slice 0 d 8 8) = s.uid)
    (hState : s.campState = campReporting ∨ s.campState = campAssigned) :
    takeAssign k d s = applyAssign d (noteGen (ofLeBytes (slice 0 d 24 4)) s) := by
  have hNote : (noteGen (ofLeBytes (slice 0 d 24 4)) s).campState = s.campState := onCampion_campState ..
  have hSame : (noteGen (ofLeBytes (slice 0 d 24 4)) s).uid = s.uid := (rfl)
  unfold takeAssign
  dsimp only
  rw [if_neg (by rw [hParent]; simp), hSame, if_pos hUid, hNote, if_pos hState]

/-! Packets to several links. -/

theorem sendAll_length (l : List Nat) (sub : Nat) (d : List Byte) (s : State) :
    (s.each l fun k t => sendMgmt k sub d t).fabOut.length = s.fabOut.length + l.length := by
  induction l generalizing s with
  | nil => rfl
  | cons k l ih =>
    rw [State.each_cons, ih, sendMgmt, State.send, List.length_append, List.length_singleton, List.length_cons,
      Nat.add_assoc, Nat.add_comm 1]

theorem sendAll_regs (l : List Nat) (sub : Nat) (d : List Byte) (s : State) :
    (s.each l fun k t => sendMgmt k sub d t).regs = s.regs := State.each_eq s (g := State.regs) l _ fun _ _ _ => rfl

/-! Sorrel's exchanges. -/

/-- A Sorrel message's command does what the message does once its credit is back. -/
theorem pktCmd_sorrel {p : Packet} {ty stamp turn : Nat} (h : s.takesMessage k 1 ty p = true) (hExcl : s.excluded k = false)
    (hSec : s.secure k = true) : pktCmd (isSorrel ty p) k p stamp turn s = .next (if ty = 1 then
      takeSyncReq k p.data stamp turn (s.credited k p) else takeSyncRsp k p.data stamp (s.credited k p)) := by
  obtain ⟨hOn, hOpc, hSub, hTy, hSrc, -⟩ := State.takesMessage_iff.mp h
  obtain ⟨hWf, hEmpty, -, -, -, -⟩ := State.takesOn_iff.mp hOn
  have hKind : (isSorrel ty p && p.wf) = true := by simp [isSorrel, hOpc, hSub, hTy, hWf]
  have hMgmt : takeMgmt k p stamp turn (s.credited k p) = if ty = 1 then
      takeSyncReq k p.data stamp turn (s.credited k p) else takeSyncRsp k p.data stamp (s.credited k p) := by
    simp [takeMgmt, hSub, hSrc, hExcl, hSec, hTy]
  rw [pktCmd, if_pos hKind, retryWaiting_of_empty hEmpty, receivePacket_of_takesMessage h, hMgmt]

theorem ofLeBytes_leBytes (n v : Nat) : ofLeBytes (leBytes n v) = v % 256 ^ n := by
  induction n generalizing v with
  | zero => simp [leBytes, ofLeBytes, Nat.mod_one]
  | succ n ih =>
    rw [leBytes, ofLeBytes, ih, BitVec.toNat_ofNat, Nat.mod_mod, Nat.pow_succ', Nat.mod_mul]

theorem slice_skip {α : Type} {d : α} {a l : List α} {o n : Nat} (h : a.length ≤ o) :
    slice d (a ++ l) o n = slice d l (o - a.length) n := by
  refine List.map_congr_left fun i _ => ?_
  rw [List.getD_append_right _ _ _ _ (by omega)]
  congr 1
  omega

theorem slice_first {α : Type} {d : α} {a l : List α} {n : Nat} (h : a.length = n) : slice d (a ++ l) 0 n = a := by
  subst h
  refine List.ext_getElem (slice_length ..) fun i h1 h2 => ?_
  simp only [slice, List.getElem_map, List.getElem_range, Nat.zero_add]
  rw [List.getD_append _ _ _ _ h2, List.getD_eq_getElem _ _ h2]

/-- A SYNC_RSP's data behind its first two bytes. -/
def answerTail (b : List Byte) (t2 t3 : Nat) (s : State) : List Byte :=
  slice 0 b 2 2 ++ leBytes 4 (s.get F.TOPO_GEN_GEN) ++
    leBytes 8 (s.get F.TOPO_COORD_UID) ++ slice 0 b 16 12 ++ leBytes 4 0 ++ leBytes 8 (t2 / 2 ^ 24) ++ leBytes 4 (t2
        % 2 ^ 24) ++
    leBytes 4 0 ++ leBytes 8 (t3 / 2 ^ 24) ++ leBytes 4 (t3 % 2 ^ 24) ++ leBytes 4 0

theorem answerTail_seq (b : List Byte) (t2 t3 : Nat) (s : State) :
    slice 0 (answerTail b t2 t3 s) 0 2 = slice 0 b 2 2 := by
  simp only [answerTail, List.append_assoc]
  exact slice_first (slice_length ..)

theorem answerTail_stamp (b : List Byte) (t2 t3 : Nat) (s : State) :
    slice 0 (answerTail b t2 t3 s) 30 8 = leBytes 8 (t2 / 2 ^ 24) := by
  simp only [answerTail, List.append_assoc]
  iterate 5 rw [slice_skip (by simp only [slice_length, leBytes_length]; omega)]
  simp only [slice_length, leBytes_length]
  exact slice_first (leBytes_length ..)

/-- What a SYNC_REQ's answer says. -/
theorem takeSyncReq_answer (k : Nat) (b : List Byte) (d2 turn : Nat) (s : State) :
    ((takeSyncReq k b d2 turn s).fabOut.getLast?).map (fun e => (e.1, e.2.byte 0, e.2.byte 1,
        ofLeBytes (slice 0 e.2.data 2 2),
      ofLeBytes (slice 0 e.2.data 32 8))) =
      some (k, 2, b2n s.traceable, ofLeBytes (slice 0 b 2 2), (s.sorrelTime + d2) / 2 ^ 24 % 2 ^ 64) := by
  have hData : takeSyncReq k b d2 turn s = sendMgmt k 1 (leBytes 1 2 ++ (leBytes 1 (b2n s.traceable) ++
      answerTail b (s.sorrelTime + d2) (s.sorrelTime + d2 + turn) s)) s := by
    simp only [takeSyncReq, answerTail, List.append_assoc]
  have hSkip : ∀ o n, 2 ≤ o → slice 0 (leBytes 1 2 ++ (leBytes 1 (b2n s.traceable) ++
      answerTail b (s.sorrelTime + d2) (s.sorrelTime + d2 + turn) s)) o n =
      slice 0 (answerTail b (s.sorrelTime + d2) (s.sorrelTime + d2 + turn) s) (o - 2) n := fun o n ho => by
    rw [slice_skip (by rw [leBytes_length]; omega), slice_skip (by simp only [leBytes_length]; omega),
        leBytes_length, leBytes_length,
      Nat.sub_sub]
  have hBit : ((BitVec.ofNat 8 (b2n s.traceable % 256)) : Byte).toNat = b2n s.traceable := by cases s.traceable <;> rfl
  rw [hData, sendMgmt, State.send]
  dsimp only
  rw [List.getLast?_append, List.getLast?_singleton, Option.some_or, Option.map_some]
  dsimp only
  rw [hSkip 2 2 (by omega), hSkip 32 8 (by omega), answerTail_seq, answerTail_stamp, ofLeBytes_leBytes]
  exact congrArg some (congrArg (Prod.mk k) (congrArg (Prod.mk 2) (congrArg (·, _) hBit)))

/-! SYNC_RSP. -/

/-- A SYNC_RSP that no open request awaits changes nothing. -/
theorem takeSyncRsp_unawaited {b : List Byte} (h : (s.nbr k).open_ = false ∨ ofLeBytes (slice 0 b 2 2) ≠ (s.nbr k).seq)
    (d : Nat) : takeSyncRsp k b d s = s := by
  unfold takeSyncRsp
  exact if_pos (by simpa using h)

/-- A SYNC_RSP of a link that is not the parent's measures the delay and closes the request. -/
theorem takeSyncRsp_measured {b : List Byte} (hOpen : (s.nbr k).open_ = true)
    (hSeq : ofLeBytes (slice 0 b 2 2) = (s.nbr k).seq) (hParent : s.best.bind (·.link) ≠ some k) (d : Nat) :
    takeSyncRsp k b d s = (s.setNbr k { s.nbr k with open_ := false }).put (F.TOPO_SRL_DELAY_DELAY k)
      (ofSigned 32 (((stampAt b 32 - stampAt b 16) + (((s.sorrelTime + d : Nat) : Int) - stampAt b 48)) / 2 / 65536)) := by
  have hBest : ∀ v, ((s.setNbr k { s.nbr k with open_ := false }).put (F.TOPO_SRL_DELAY_DELAY k) v).best = s.best := fun v =>
    State.best_congr rfl rfl (State.get_put_key _ _ _ _ (by simp only [R.TOPO_SRL_DELAY, R.TOPO_CFG]; omega))
  unfold takeSyncRsp
  extract_lets x n t t1 t2 t3 t4 theta delay u
  rw [if_neg (by simpa [x, hOpen] using hSeq), if_pos (.inl (by rw [hBest]; exact hParent))]
  rfl

/-! BEACON. -/

theorem children_noteGen (g : Nat) (s : State) : (noteGen g s).children = s.children := (rfl)

theorem takeBeacon_reads (d : List Byte) (s : State) : (takeBeacon d s).regs = s.regs ∧
    (takeBeacon d s).fab.campion.topGen = max s.fab.campion.topGen (ofLeBytes (slice 0 d 4 4)) ∧
    (takeBeacon d s).fabOut.length = s.fabOut.length + s.children.length := by
  unfold takeBeacon
  dsimp only
  rw [sendAll_regs, sendAll_fab, sendAll_length, children_noteGen]
  exact ⟨rfl, rfl, rfl⟩

/-! What a message of each type does once its credit is back. -/

/-- The CLAIM that a packet holds. -/
def Packet.claim (p : Packet) : Claim :=
  ⟨p.byte 1, p.byte 2, ofLeBytes (slice 0 p.data 4 4), ofLeBytes (slice 0 p.data 8 8), ofLeBytes (slice 0 p.data 16 4),
    ofLeBytes (slice 0 p.data 20 4), ofLeBytes (slice 0 p.data 24 8)⟩

theorem takeCampion_hello {p : Packet} (hTy : p.byte 0 = 1) : takeCampion k p s = takeHello k p s := by
  simp [takeCampion, hTy]

/-- What a message but HELLO does by its type on a SECURE link that is not excluded. -/
def takeTree (k : Nat) (p : Packet) (s : State) : State :=
  if p.byte 0 = 2 then takeClaim k p.claim (noteGen (ofLeBytes (slice 0 p.data 20 4)) s)
  else if p.byte 0 = 3 then takeReport k (slice 0 p.data 0 112) s
  else if p.byte 0 = 4 then takeReportDone k (ofLeBytes (slice 0 p.data 4 4)) (slice 0 p.data 0 16) s
  else if p.byte 0 = 5 then takeAssign k (slice 0 p.data 0 32) s
  else if p.byte 0 = 6 then takeBeacon (slice 0 p.data 0 16) s
  else takeDup (ofLeBytes (slice 0 p.data 8 8)) s

theorem takeCampion_tree {p : Packet} (hTy : p.byte 0 ≠ 1) (hExcl : s.excluded k = false) (hSec : s.secure k = true) :
    takeCampion k p s = takeTree k p s := by
  simp [takeCampion, takeTree, Packet.claim, hTy, hExcl, hSec]

/-- A message's command but HELLO's. -/
theorem pktCmd_tree {p : Packet} {ty : Nat} (hTy : ty ≠ 1) (h : s.takesMessage k 0 ty p = true) (hExcl : s.excluded k = false)
    (hSec : s.secure k = true) : pktCmd (isCampion ty p) k p 0 0 s = .next (takeTree k p (s.credited k p)) := by
  obtain ⟨-, -, -, hByte, -, -⟩ := State.takesMessage_iff.mp h
  rw [pktCmd_campion h, takeCampion_tree (by rwa [hByte]) (by rwa [State.excluded_credited]) (by rwa [State.secure_credited])]

theorem byte_of_takesMessage {p : Packet} {sub ty : Nat} (h : s.takesMessage k sub ty p = true) : p.byte 0 = ty :=
  (State.takesMessage_iff.mp h).2.2.2.1

/-- A well-formed HELLO holds a link label. -/
theorem hello_label {p : Packet} (h : s.takesMessage k 0 1 p = true) : p.byte 4 < 8 := by
  obtain ⟨hOn, hOpc, hSub, hTy, -, -⟩ := State.takesMessage_iff.mp h
  obtain ⟨-, -, -, -, -, hOk⟩ := State.takesOn_iff.mp hOn
  have hMgmt : mgmtOk p = true := by
    simp only [State.packetOk, hOpc, Bool.and_eq_true] at hOk
    exact hOk.2
  have hCamp : campionOk p = true := by
    simp only [mgmtOk, hSub, if_true, Bool.and_eq_true] at hMgmt
    exact hMgmt.2.2
  simp only [campionOk, hTy, if_true, Bool.and_eq_true, decide_eq_true_eq] at hCamp
  omega

/-- A slice of a slice from its start. -/
theorem slice_slice {α : Type} {d : α} {l : List α} {m o n : Nat} (h : o + n ≤ m) : slice d (slice d l 0 m) o n =
    slice d l o n := by
  refine List.map_congr_left fun i hi => ?_
  have hLt : o + i < m := by
    rw [List.mem_range] at hi
    omega
  rw [List.getD_eq_getElem _ _ (by rw [slice_length]; exact hLt)]
  simp only [slice, List.getElem_map, List.getElem_range, Nat.zero_add]

/-! The node behind a returned credit, or with a generation noted, is the node as far as Campion reads it. -/

theorem State.get_credited (p : Packet) (s : State) (f : Fld) : (s.credited k p).get f = s.get f := (rfl)

theorem State.nbr_credited (j : Nat) (p : Packet) (s : State) : (s.credited k p).nbr j = s.nbr j := (rfl)

theorem State.campion_credited (p : Packet) (s : State) : (s.credited k p).fab.campion = s.fab.campion := (rfl)

theorem State.uid_credited (p : Packet) (s : State) : (s.credited k p).uid = s.uid := (rfl)

theorem State.children_credited (p : Packet) (s : State) : (s.credited k p).children = s.children := (rfl)

theorem State.fabOut_credited (p : Packet) (s : State) : (s.credited k p).fabOut = s.fabOut := (rfl)

theorem State.regs_credited (p : Packet) (s : State) : (s.credited k p).regs = s.regs := (rfl)

theorem State.traceable_credited (p : Packet) (s : State) : (s.credited k p).traceable = s.traceable := (rfl)

theorem State.sorrelTime_credited (p : Packet) (s : State) : (s.credited k p).sorrelTime = s.sorrelTime := (rfl)

theorem State.best_noteGen (g : Nat) (s : State) : (noteGen g s).best = s.best :=
  State.best_congr (t := noteGen g s) (s := s) rfl rfl (onCampion_get ..)

theorem State.betterClaim_noteGen (g j : Nat) (c : Claim) (s : State) : (noteGen g s).betterClaim j c = s.betterClaim j c :=
  State.betterClaim_congr (State.best_noteGen g s) (fun _ => onCampion_get ..) j c

theorem State.betterClaim_credited (p : Packet) (j : Nat) (c : Claim) (s : State) :
    (s.credited k p).betterClaim j c = s.betterClaim j c :=
  State.betterClaim_congr (State.best_credited s k p) (fun _ => State.get_credited ..) j c

/-! The node's messages by their types. -/

variable {p : Packet}

theorem clashes_credited (p : Packet) (s : State) : (s.credited k p).clashes k p =
    ((p.byte 5 / 64 == 1) == s.torus || (s.torus && p.byte 4 != (s.labelOf k ^^^ 1))) := (rfl)

theorem hello_reads {k : Fin 6} (h : s.takesMessage k.val 0 1 p = true) : completes (.hello k p) s (fun t => t.nbrUid
    k.val = ofLeBytes (slice 0 p.data 8 8) ∧ t.get (F.TOPO_NBR_INFO_V k.val) = 1 ∧ t.get (F.TOPO_NBR_INFO_LABEL k.val) =
    p.byte 4 ∧ t.get (F.TOPO_NBR_INFO_ROLE k.val) = p.byte 2 ∧ t.get (F.TOPO_NBR_INFO_PRIORITY k.val) = p.byte 3 ∧ t.get
    (F.TOPO_NBR_INC_INC k.val) = ofLeBytes (slice 0 p.data 16 4) ∧ t.excluded k.val = ((s.nbr k.val).excl || ((p.byte 5 /
    64 == 1) == s.torus || (s.torus && p.byte 4 != (s.labelOf k.val ^^^ 1))))) := by
  obtain ⟨hAccInfo, hAccUid, hAccInc⟩ := accKey_nbr k
  obtain ⟨hUid, hV, hLabel, hRole, hPrio, hInc⟩ := greeted_reads k.val (hello_label h) (s.credited k.val p)
  have hInfo : R.TOPO_NBR_INFO k.val ≠ R.TOPO_PARENT := by simp only [R.TOPO_NBR_INFO, R.TOPO_PARENT]; omega
  refine ⟨_, pktCmd_campion h, ?_⟩
  rw [takeCampion_hello (byte_of_takesMessage h)]
  refine ⟨?_, ?_, ?_, ?_, ?_, ?_, ?_⟩
  · rw [State.nbrUid, takeHello_get (f := F.TOPO_NBR_UID_UID k.val) hAccUid
      (by simp only [R.TOPO_NBR_UID, R.TOPO_PARENT]; omega)
      (.inl fun j => by simp only [R.TOPO_NBR_UID, R.TOPO_NBR_INFO]; omega)]
    exact hUid
  · rw [takeHello_get (f := F.TOPO_NBR_INFO_V k.val) hAccInfo hInfo (.inr (.inr (show 30 < 31 by decide)))]
    exact hV
  · rw [takeHello_get (f := F.TOPO_NBR_INFO_LABEL k.val) hAccInfo hInfo (.inr (.inl (show 26 < 29 by decide)))]
    exact hLabel
  · rw [takeHello_get (f := F.TOPO_NBR_INFO_ROLE k.val) hAccInfo hInfo (.inr (.inl (show 23 < 29 by decide)))]
    exact hRole
  · rw [takeHello_get (f := F.TOPO_NBR_INFO_PRIORITY k.val) hAccInfo hInfo (.inr (.inl (show 7 < 29 by decide)))]
    exact hPrio
  · rw [takeHello_get (f := F.TOPO_NBR_INC_INC k.val) hAccInc (by simp only [R.TOPO_NBR_INC, R.TOPO_PARENT]; omega)
      (.inl fun j => by simp only [R.TOPO_NBR_INC, R.TOPO_NBR_INFO]; omega)]
    exact hInc
  · rw [takeHello_excluded hAccInfo, clashes_credited, State.nbr_credited]

theorem takeTree_claim (hTy : p.byte 0 = 2) (s : State) :
    takeTree k p s = takeClaim k p.claim (noteGen (ofLeBytes (slice 0 p.data 20 4)) s) := if_pos hTy

theorem takeTree_report (hTy : p.byte 0 = 3) (s : State) : takeTree k p s = takeReport k (slice 0 p.data 0 112) s := by
  simp [takeTree, hTy]

theorem takeTree_reportDone (hTy : p.byte 0 = 4) (s : State) :
    takeTree k p s = takeReportDone k (ofLeBytes (slice 0 p.data 4 4)) (slice 0 p.data 0 16) s := by simp [takeTree, hTy]

theorem takeTree_assign (hTy : p.byte 0 = 5) (s : State) : takeTree k p s = takeAssign k (slice 0 p.data 0 32) s := by
  simp [takeTree, hTy]

theorem takeTree_beacon (hTy : p.byte 0 = 6) (s : State) : takeTree k p s = takeBeacon (slice 0 p.data 0 16) s := by
  simp [takeTree, hTy]

theorem takeTree_dup (hTy : p.byte 0 = 7) (s : State) : takeTree k p s = takeDup (ofLeBytes (slice 0 p.data 8 8)) s := by
  simp [takeTree, hTy]

/-- The node a CLAIM acts on: its credit is back and its generation noted. -/
def claimed (k : Nat) (p : Packet) (s : State) : State := noteGen (ofLeBytes (slice 0 p.data 20 4)) (s.credited k p)

theorem claimed_best (k : Nat) (p : Packet) (s : State) : (claimed k p s).best = s.best :=
  (State.best_noteGen ..).trans (State.best_credited ..)

theorem claimed_betterClaim (k : Nat) (p : Packet) (j : Nat) (c : Claim) (s : State) :
    (claimed k p s).betterClaim j c = s.betterClaim j c :=
  (State.betterClaim_noteGen ..).trans (State.betterClaim_credited ..)

theorem claimed_campState (k : Nat) (p : Packet) (s : State) : (claimed k p s).campState = s.campState :=
  onCampion_campState ..

/-- A CLAIM's command. -/
theorem exec_claim {k : Fin 6} (h : s.takesMessage k.val 0 2 p = true) (hExcl : s.excluded k.val = false)
    (hSec : s.secure k.val = true) : exec (.claim k p) s = .next (takeClaim k.val p.claim (claimed k.val p s)) := by
  refine (pktCmd_tree (by decide) h hExcl hSec).trans ?_
  rw [takeTree_claim (byte_of_takesMessage h), claimed]

theorem exec_report {k : Fin 6} (h : s.takesMessage k.val 0 3 p = true) (hExcl : s.excluded k.val = false)
    (hSec : s.secure k.val = true) : exec (.report k p) s =
      .next (takeReport k.val (slice 0 p.data 0 112) (s.credited k.val p)) := by
  refine (pktCmd_tree (by decide) h hExcl hSec).trans ?_
  rw [takeTree_report (byte_of_takesMessage h)]

theorem exec_reportDone {k : Fin 6} (h : s.takesMessage k.val 0 4 p = true) (hExcl : s.excluded k.val = false)
    (hSec : s.secure k.val = true) : exec (.reportDone k p) s =
      .next (takeReportDone k.val (ofLeBytes (slice 0 p.data 4 4)) (slice 0 p.data 0 16) (s.credited k.val p)) := by
  refine (pktCmd_tree (by decide) h hExcl hSec).trans ?_
  rw [takeTree_reportDone (byte_of_takesMessage h)]

theorem exec_assign {k : Fin 6} (h : s.takesMessage k.val 0 5 p = true) (hExcl : s.excluded k.val = false)
    (hSec : s.secure k.val = true) : exec (.assign k p) s =
      .next (takeAssign k.val (slice 0 p.data 0 32) (s.credited k.val p)) := by
  refine (pktCmd_tree (by decide) h hExcl hSec).trans ?_
  rw [takeTree_assign (byte_of_takesMessage h)]

theorem exec_beacon {k : Fin 6} (h : s.takesMessage k.val 0 6 p = true) (hExcl : s.excluded k.val = false)
    (hSec : s.secure k.val = true) : exec (.beacon k p) s =
      .next (takeBeacon (slice 0 p.data 0 16) (s.credited k.val p)) := by
  refine (pktCmd_tree (by decide) h hExcl hSec).trans ?_
  rw [takeTree_beacon (byte_of_takesMessage h)]

theorem exec_dup {k : Fin 6} (h : s.takesMessage k.val 0 7 p = true) (hExcl : s.excluded k.val = false)
    (hSec : s.secure k.val = true) : exec (.dup k p) s =
      .next (takeDup (ofLeBytes (slice 0 p.data 8 8)) (s.credited k.val p)) := by
  refine (pktCmd_tree (by decide) h hExcl hSec).trans ?_
  rw [takeTree_dup (byte_of_takesMessage h)]

theorem exec_syncReq {k : Fin 6} {d : BitVec 26} {w : BitVec 40} (h : s.takesMessage k.val 1 1 p = true)
    (hExcl : s.excluded k.val = false) (hSec : s.secure k.val = true) :
    exec (.syncReq k p d w) s = .next (takeSyncReq k.val p.data d.toNat w.toNat (s.credited k.val p)) := by
  refine (pktCmd_sorrel h hExcl hSec).trans ?_
  rw [if_pos rfl]

theorem exec_syncRsp {k : Fin 6} {d : BitVec 26} (h : s.takesMessage k.val 1 2 p = true) (hExcl : s.excluded k.val = false)
    (hSec : s.secure k.val = true) :
    exec (.syncRsp k p d) s = .next (takeSyncRsp k.val p.data d.toNat (s.credited k.val p)) := by
  refine (pktCmd_sorrel h hExcl hSec).trans ?_
  rw [if_neg (by decide)]

theorem assign_reads {k : Fin 6} (h : s.takesMessage k.val 0 5 p = true) (hExcl : s.excluded k.val = false)
    (hSec : s.secure k.val = true) (hParent : s.best.bind (·.link) = some k.val)
    (hState : s.campState = campReporting ∨ s.campState = campAssigned) (hUid : ofLeBytes (slice 0 p.data 8 8) = s.uid)
    (hOld : s.ownAddr = 0xFFFF ∨ s.ownAddr = ofLeBytes (slice 0 p.data 2 2)) : completes (.assign k p) s (fun t =>
      t.campState = campAssigned ∧ t.ownAddr = ofLeBytes (slice 0 p.data 2 2) ∧ t.get F.TOPO_SIZES_SX =
      ofLeBytes (slice 0 p.data 4 1) % 32 ∧ t.get F.TOPO_GEN_GEN = ofLeBytes (slice 0 p.data 24 4) ∧ t.get F.TOPO_COORD_UID
      = ofLeBytes (slice 0 p.data 16 8) ∧ t.addrUsed = true ∧ t.fab.campion.quiet = false) := by
  have hSlice : ∀ o n, o + n ≤ 32 → slice 0 (slice 0 p.data 0 32) o n = slice 0 p.data o n := fun o n ho => slice_slice ho
  have hExec := exec_assign h hExcl hSec
  rw [takeAssign_own (s := s.credited k.val p) (by rw [State.best_credited]; exact hParent)
    (by rw [hSlice 8 8 (by decide), State.uid_credited, hUid]) hState] at hExec
  generalize hNote : noteGen (ofLeBytes (slice 0 (slice 0 p.data 0 32) 24 4)) (s.credited k.val p) = x at hExec
  have hAddr : x.ownAddr = s.ownAddr := by rw [← hNote]; exact onCampion_get ..
  obtain ⟨hGet, hMark, hQuiet⟩ := applyAssign_follows (slice 0 p.data 0 32) (s := x)
    (by rw [hAddr, hSlice 2 2 (by decide)]; exact hOld)
  obtain ⟨rState, rAddr, rSx, rGen, rCoord⟩ := assignRegs_reads (slice 0 p.data 0 32) x
  rw [hSlice _ _ (by decide)] at rAddr rSx rGen rCoord
  have hRead : ∀ f : Fld, offCampion f → (applyAssign (slice 0 p.data 0 32) x).get f =
      (assignRegs (slice 0 p.data 0 32) x).get f := fun f hf => (hGet f hf).trans (assignMarked_get ..)
  have hAssigned : (applyAssign (slice 0 p.data 0 32) x).campState = campAssigned :=
    (hRead _ (offCampion_of (by decide) (by decide) (by decide) (by decide) (by decide))).trans rState
  have hOwn : (applyAssign (slice 0 p.data 0 32) x).ownAddr = ofLeBytes (slice 0 p.data 2 2) :=
    (hRead _ (offCampion_of (by decide) (by decide) (by decide) (by decide) (by decide))).trans rAddr
  refine ⟨_, hExec, hAssigned, hOwn,
    (hRead _ (offCampion_of (by decide) (by decide) (by decide) (by decide) (by decide))).trans rSx,
    (hRead _ (offCampion_of (by decide) (by decide) (by decide) (by decide) (by decide))).trans rGen,
    (hRead _ (offCampion_of (by decide) (by decide) (by decide) (by decide) (by decide))).trans rCoord, ?_,
    hQuiet.trans (assignMarked_marks ..).2⟩
  rw [State.addrUsed, hMark, (assignMarked_marks ..).1, Bool.true_and]
  exact bne_iff_ne.mpr (by rw [← State.campState, hAssigned]; decide)

theorem takeSyncReq_regs (k : Nat) (b : List Byte) (d2 turn : Nat) (s : State) : (takeSyncReq k b d2 turn s).regs =
    s.regs := (rfl)

theorem ofSigned_lt (w : Nat) (i : Int) : ofSigned w i < 2 ^ w := by
  have hPos : (0 : Int) < ((2 ^ w : Nat) : Int) := Int.natCast_pos.mpr (Nat.two_pow_pos w)
  have := Int.emod_lt_of_pos i hPos
  have := Int.emod_nonneg i hPos.ne'
  unfold ofSigned
  omega

theorem syncRsp_measures {k : Fin 6} {d : BitVec 26} (h : s.takesMessage k.val 1 2 p = true) (hExcl : s.excluded
    k.val = false)
    (hSec : s.secure k.val = true) (hOpen : (s.nbr k.val).open_ = true)
    (hSeq : ofLeBytes (slice 0 p.data 2 2) = (s.nbr k.val).seq) (hParent : s.best.bind (·.link) ≠ some k.val) :
    completes (.syncRsp k p d) s (fun t => t.get (F.TOPO_SRL_DELAY_DELAY k.val) = ofSigned 32
      (((stampAt p.data 32 - stampAt p.data 16) + (((s.sorrelTime + d.toNat : Nat) : Int) - stampAt p.data 48)) / 2 /
      65536) ∧ (t.nbr k.val).open_ = false ∧ t.srl = s.srl) := by
  refine ⟨_, exec_syncRsp h hExcl hSec, ?_⟩
  rw [takeSyncRsp_measured (by rw [State.nbr_credited]; exact hOpen) (by rw [State.nbr_credited]; exact hSeq)
    (by rw [State.best_credited]; exact hParent), State.sorrelTime_credited]
  refine ⟨?_, congrArg Nbr.open_ (Tab.get_set_self _ _ _ _), State.get_put_key _ _ _ _
    (by simp only [R.TOPO_SRL_DELAY, R.TOPO_SRL_STATUS]; omega)⟩
  rw [State.get_put_self _ _ _ (by simp [Fld.ok])]
  exact Nat.mod_eq_of_lt (ofSigned_lt ..)

/-- Settles O55. Each message passes its link's checks, and the rule of its type says what it leaves. -/
theorem campionMessages : Obligations.CampionMessages := by
  refine ⟨fun s k p h => hello_reads h, ?_, ?_, ?_, ?_, ?_, ?_, ?_, ?_, ?_, ?_, ?_, ?_, ?_⟩
  · intro s k p c h hExcl hSec hClaim hBarred hDead hState hUid hNonce hBetter
    subst hClaim
    refine ⟨_, exec_claim h hExcl hSec, ?_⟩
    exact takeClaim_better (s := claimed k.val p s) hBarred hDead (by rw [claimed_campState]; exact hState) hUid
      (by rw [claimed_best]; exact hNonce) (by rw [claimed_betterClaim]; exact hBetter)
  · intro s k p c h hExcl hSec hClaim hWorse
    subst hClaim
    obtain ⟨hBest, hHeard, hState⟩ := takeClaim_worse (s := claimed k.val p s) (k := k.val) (c := p.claim)
      (hWorse.imp id fun hB => by rw [claimed_betterClaim]; exact hB)
    exact ⟨_, exec_claim h hExcl hSec, hBest, hHeard, hState.trans (claimed_campState ..)⟩
  · intro s k p h hExcl hSec hBarred hDead hState hUid hNewer
    exact ⟨_, exec_claim h hExcl hSec, takeClaim_own (s := claimed k.val p s) hBarred hDead
      (by rw [claimed_campState]; exact hState) hUid hNewer⟩
  · intro s k p q a hp hq ha hExcl hSec hChild hNone
    have hParent : s.best.bind (·.link) ≠ some k.val := by rw [hNone]; exact fun h => Option.noConfusion rfl (heq_of_eq h)
    exact ⟨pktCmd_stray hp (.inl rfl) hExcl hSec hChild hParent,
      pktCmd_stray hq (.inr (.inl rfl)) hExcl hSec hChild hParent,
      pktCmd_stray ha (.inr (.inr rfl)) hExcl hSec hChild hParent⟩
  · intro s k p h hExcl hSec hChild
    refine ⟨_, exec_report h hExcl hSec, ?_⟩
    exact takeReport_child (s := s.credited k.val p) (by rw [State.isChild_credited]; exact hChild) _
  · intro s k p h hExcl hSec hChild hState
    refine ⟨_, exec_reportDone h hExcl hSec, ?_⟩
    exact takeReportDone_electing (s := s.credited k.val p) (by rw [State.isChild_credited]; exact hChild) hState _ _
  · intro s k p h hExcl hSec hParent hState hUid hOld
    exact assign_reads h hExcl hSec hParent hState hUid hOld
  · intro s k p h hExcl hSec
    refine ⟨_, exec_beacon h hExcl hSec, ?_⟩
    obtain ⟨hRegs, hGen, hOut⟩ := takeBeacon_reads (slice 0 p.data 0 16) (s.credited k.val p)
    rw [slice_slice (by decide), State.campion_credited] at hGen
    rw [State.children_credited, State.fabOut_credited] at hOut
    exact ⟨hRegs, hGen, hOut⟩
  · intro s k p h hExcl hSec hUid hState
    refine ⟨_, exec_dup h hExcl hSec, ?_⟩
    rw [hUid]
    obtain ⟨b, ⟨hDup, hBest, hBarred⟩, hMem⟩ := takeDup_own (s := s.credited k.val p) hState
    rw [State.uid_credited] at hDup hBest hBarred hMem
    exact ⟨hDup, hBest, by rw [hBarred, hMem]⟩
  · intro s k p u h hExcl hSec hUid hOther
    refine ⟨_, exec_dup h hExcl hSec, ?_⟩
    rw [← hUid]
    obtain ⟨hBarred, hDups, hBest⟩ := takeDup_other (s := s.credited k.val p) (by rw [State.uid_credited]; exact hOther)
    rw [State.best_credited, State.campion_credited] at hBest
    exact ⟨hBarred, hDups, hBest⟩
  · intro s k p d w h hExcl hSec
    have hAnswer := takeSyncReq_answer k.val p.data d.toNat w.toNat (s.credited k.val p)
    rw [State.traceable_credited, State.sorrelTime_credited] at hAnswer
    refine ⟨takeSyncReq k.val p.data d.toNat w.toNat (s.credited k.val p), exec_syncReq h hExcl hSec, ?_, hAnswer⟩
    rw [takeSyncReq_regs, State.regs_credited]
  · intro s k p d h hExcl hSec hClosed
    rw [exec_syncRsp h hExcl hSec, takeSyncRsp_unawaited (by rw [State.nbr_credited]; exact hClosed)]
  · intro s k p d h hExcl hSec hOpen hSeq hParent
    exact syncRsp_measures h hExcl hSec hOpen hSeq hParent

end Sys2Proof.Machine
end

section
/-! SUPPORT. Memory start, training, the cleaner and the scrubber, retirement, row repair and channel faults. -/

namespace Sys2Proof.Machine

-- One proof at a time: the check compiles the whole text within a fixed memory.
set_option Elab.async false

variable {s t : State} {f : Fld} {line : Nat}

/-! Memory start. -/

theorem smSetRate_training (rate : Nat) (s : State) : (smSetRate rate s).pool.training = s.pool.training := by
  have h : Comp.memory.same s (smSetRate rate s) :=
    same_of_out (l := [.memory]) .memory (@smSetRate_out _ .mem .any .any .any .any rate s)
  exact (congrArg PoolState.training h :)

/-- A register that no synthesizer holds. -/
def offSyn (k : Nat) : Prop := k ≠ R.CKR_ISL_CLK ∧ ∀ n < 8, k ≠ R.CKR_SYN_CTL n ∧ k ≠ R.CKR_SYN_FRAC n ∧ k ≠
    R.CKR_SYN_STATUS n

theorem smSetRate_get (h : offSyn f.key) (rate : Nat) (s : State) : (smSetRate rate s).get f = s.get f := by
  obtain ⟨hClk, hSyn⟩ := h
  refine State.each_eq s (g := fun u => u.get f) _ _ fun n hn u => ?_
  obtain ⟨hCtl, hFrac, hStatus⟩ := hSyn n (by simp at hn; omega)
  split
  · exact writeCtl_get hStatus hClk hCtl hFrac ..
  · rfl

theorem loadDramRecord_get (hRetire : ∀ ch, f.key ≠ R.MC_RETIRE ch) (hPpr : f.key ≠ R.MEMG_PPR_STATUS) (s : State) :
    (loadDramRecord s).get f = s.get f := by
  unfold loadDramRecord
  extract_lets ok all u rows hard v
  rw [State.get_bump_key _ _ hPpr, State.get_mk]
  refine State.each_eq s (g := fun u => u.get f) _ _ fun e _ u => ?_
  dsimp only
  split
  · rfl
  · exact State.get_put_key _ _ _ _ (hRetire _)

theorem loadDramRecord_training (s : State) : (loadDramRecord s).pool.training = s.pool.training := by
  unfold loadDramRecord
  extract_lets ok all u rows hard v
  refine State.each_eq s (g := fun u => u.pool.training) _ _ fun e _ u => ?_
  dsimp only
  split <;> rfl

theorem DimmPop.sameAs_self (x : DimmPop) : x.sameAs x = true := by simp [DimmPop.sameAs]

theorem selectRate_bounds {pops : List DimmPop} (h : ∀ p ∈ pops, 1 ≤ p.maxRate) :
    1 ≤ selectRate pops ∧ selectRate pops ≤ 3 := by
  refine List.foldlRecOn (motive := fun m => 1 ≤ m ∧ m ≤ 3) pops _ (by decide) fun m hm p hp => ?_
  have := h p hp
  split <;> omega

/-- The registers of a start with one population in every channel. -/
def started (x : DimmPop) (rate : Nat) (s : State) : State :=
  let s := ((((s.put F.MEMG_CFG_SPEED rate).put F.MEMG_CFG_DPC x.dimms).put F.MEMG_CFG_STACK (stackCode x.stack)).put
    F.MEMG_CFG_RANKS x.ranks).put F.MEMG_CFG_DIMM_GIB x.gib
  (s.put F.MEMG_GRANULES_INSTALLED (24 * x.dimms * x.gib)).put F.MEMG_GRANULES_USABLE
    (24 * x.dimms * x.gib - rMeta (24 * x.dimms * x.gib))

theorem started_reads {x : DimmPop} (h : x.inTable = true) (rate : Nat) (s : State) :
    (started x rate s).installed = 24 * x.dimms * x.gib ∧
      (started x rate s).usable = 24 * x.dimms * x.gib - rMeta (24 * x.dimms * x.gib) := by
  have hLt : 24 * x.dimms * x.gib < 65536 := by
    simp only [DimmPop.inTable, Bool.and_eq_true, Bool.or_eq_true, beq_iff_eq, decide_eq_true_eq] at h
    obtain ⟨⟨⟨⟨⟨⟨-, hDimms⟩, -⟩, hGib⟩, -⟩, -⟩, -⟩ := h
    rcases hDimms with e | e <;> rw [e] <;> omega
  unfold started State.installed State.usable
  constructor
  · rw [State.get_put_of _ _ _ _ (by decide), State.get_put_self _ _ _ (by decide)]
    exact Nat.mod_eq_of_lt hLt
  · rw [State.get_put_self _ _ _ (by decide)]
    exact Nat.mod_eq_of_lt (by show _ < 65536; omega)

theorem State.put_regs_congr (h : t.regs = s.regs) (f : Fld) (x : Nat) : (t.put f x).regs = (s.put f x).regs := by
  simp only [State.put, State.setReg, State.reg, h]

theorem started_congr (h : t.regs = s.regs) (x : DimmPop) (rate : Nat) : (started x rate t).regs = (started x rate
    s).regs := by
  have hPut : ∀ {u v : State} (f : Fld) (n : Nat), u.regs = v.regs → (u.put f n).regs = (v.put f n).regs :=
    fun f n huv => State.put_regs_congr huv f n
  exact hPut _ _ (hPut _ _ (hPut _ _ (hPut _ _ (hPut _ _ (hPut _ _ (hPut _ _ h))))))

theorem started_get (hCfg : f.key ≠ R.MEMG_CFG) (hGran : f.key ≠ R.MEMG_GRANULES) (x : DimmPop) (rate : Nat) (s : State) :
    (started x rate s).get f = s.get f := by
  unfold started
  dsimp only
  rw [State.get_put_key _ _ _ _ hGran, State.get_put_key _ _ _ _ hGran, State.get_put_key _ _ _ _ hCfg,
    State.get_put_key _ _ _ _ hCfg, State.get_put_key _ _ _ _ hCfg, State.get_put_key _ _ _ _ hCfg,
        State.get_put_key _ _ _ _ hCfg]

/-- The channels put in training under a rate. -/
def trained (rate : Nat) (s : State) : State :=
  let s := s.each (List.range 24) (fun c t => t.put (F.MC_STATUS_STATE c) 1)
  loadDramRecord ((smSetRate rate (s.put F.MEMG_CFG_SPEED 0)).put F.MEMG_CFG_SPEED rate)

theorem trained_get (hCfg : f.key ≠ R.MEMG_CFG) (hStatus : ∀ c, f.key ≠ R.MC_STATUS c) (hRetire : ∀ c, f.key ≠ R.MC_RETIRE c)
    (hPpr : f.key ≠ R.MEMG_PPR_STATUS) (hSyn : offSyn f.key) (rate : Nat) (s : State) : (trained rate s).get f = s.get f := by
  unfold trained
  dsimp only
  rw [loadDramRecord_get hRetire hPpr, State.get_put_key _ _ _ _ hCfg, smSetRate_get hSyn, State.get_put_key _ _ _ _ hCfg]
  exact State.each_eq s (g := fun u => u.get f) _ _ fun c _ u => State.get_put_key _ _ _ _ (hStatus c)

theorem trained_training (rate : Nat) (s : State) : (trained rate s).pool.training = s.pool.training := by
  unfold trained
  dsimp only
  rw [loadDramRecord_training, State.put_pool, smSetRate_training, State.put_pool]
  exact State.each_eq s (g := fun u => u.pool.training) _ _ fun _ _ _ => rfl

theorem trained_memStarted {rate : Nat} (h : 1 ≤ rate ∧ rate ≤ 3) (s : State) : (trained rate s).memStarted = true := by
  have hRetire : ∀ c, F.MEMG_CFG_SPEED.key ≠ R.MC_RETIRE c := fun c => by simp only [R.MEMG_CFG, R.MC_RETIRE]; omega
  unfold trained
  dsimp only
  rw [State.memStarted, loadDramRecord_get hRetire (by decide), State.get_put_self _ _ _ (by decide)]
  exact bne_iff_ne.mpr (by rw [Nat.mod_eq_of_lt (by show _ < 16; omega)]; omega)

/-- A start with one population of the table in every channel trains every channel, under that population's registers. -/
theorem memoryStart_replicate {x : DimmPop} (h : x.inTable = true) (hStage : s.get F.CKR_START_STAGE_STAGE = 5) :
    ∃ rate y, (1 ≤ rate ∧ rate ≤ 3) ∧ y.pool.training = List.range 24 ∧
      (∀ f, y.get f = (started x rate (s.put F.CKR_START_STAGE_STAGE 6)).get f) ∧
      memoryStart (List.replicate 24 x) s = trained rate y := by
  have hRate : 1 ≤ x.maxRate := by
    simp only [DimmPop.inTable, Bool.and_eq_true, decide_eq_true_eq] at h
    exact h.2
  unfold memoryStart
  rw [show (List.replicate 24 x).getD 0 _ = x from rfl]
  extract_lets p0 good u1 w u3 u4 rate inst u5 u6 serials p u7 u8
  have hGood : good = List.range 24 := List.filter_eq_self.mpr fun c hc => by
    rw [List.getElem?_replicate_of_lt (List.mem_range.mp hc)]
    simp [p0, h, DimmPop.sameAs_self]
  have hStay : u4 = u3 := by
    dsimp only [u4]
    rw [hGood, show (List.range 24).filter (fun c => !(List.range 24).contains c) = [] by decide, State.each_nil]
  have hStart : u3.regs = (s.put F.CKR_START_STAGE_STAGE 6).regs := by
    dsimp only [u3, u1]
    rw [if_pos hStage]
  have hBounds : 1 ≤ rate ∧ rate ≤ 3 := selectRate_bounds fun p hp => by
    obtain ⟨c, hc, e⟩ := List.mem_map.mp hp
    rw [← e, List.getD_eq_getElem _ _ (by rw [hGood] at hc; simpa using hc), List.getElem_replicate]
    exact hRate
  have hPuts : u6 = started x rate u4 := rfl
  refine ⟨rate, u7, hBounds, hGood, fun f => ?_, ?_⟩
  · dsimp only [u7]
    rw [State.get_mk, hPuts, hStay, State.get, State.get, State.reg, State.reg, started_congr hStart]
  · rw [if_neg (by rw [hGood]; decide), trained, ← hGood]

/-- MEMORY_START with one population of the table in every channel. -/
theorem memoryStart_reads {x : DimmPop} (h : x.inTable = true) (hStage : s.get F.CKR_START_STAGE_STAGE = 5) {t : State}
    (ht : t = memoryStart (List.replicate 24 x) s) : t.pool.training = List.range 24 ∧
      t.get F.CKR_START_STAGE_STAGE = 6 ∧ t.memStarted = true ∧ t.installed = 24 * x.dimms * x.gib ∧
      t.usable = t.installed - rMeta t.installed := by
  obtain ⟨rate, y, hRate, hTrain, hGet, hEq⟩ := memoryStart_replicate h hStage
  obtain ⟨hInst, hUsable⟩ := started_reads h rate (s.put F.CKR_START_STAGE_STAGE 6)
  have hStatus : ∀ c, R.MEMG_GRANULES ≠ R.MC_STATUS c := fun c => by simp only [R.MEMG_GRANULES, R.MC_STATUS]; omega
  have hRetire : ∀ c, R.MEMG_GRANULES ≠ R.MC_RETIRE c := fun c => by simp only [R.MEMG_GRANULES, R.MC_RETIRE]; omega
  have hGran : ∀ g : Fld, g.key = R.MEMG_GRANULES → t.get g = (started x rate (s.put F.CKR_START_STAGE_STAGE 6)).get g :=
    fun g hg => by
      have hSyn : offSyn R.MEMG_GRANULES := by unfold offSyn; decide
      rw [ht, hEq, trained_get (by rw [hg]; decide) (by rwa [hg]) (by rwa [hg]) (by rw [hg]; decide) (by rwa [hg]), hGet]
  have hInstalled : t.installed = 24 * x.dimms * x.gib := (hGran _ rfl).trans hInst
  refine ⟨by rw [ht, hEq, trained_training, hTrain], ?_, by rw [ht, hEq]; exact trained_memStarted hRate y, hInstalled,
    by rw [hInstalled]; exact (hGran _ rfl).trans hUsable⟩
  have hStatus : ∀ c, R.CKR_START_STAGE ≠ R.MC_STATUS c := fun c => by simp only [R.CKR_START_STAGE, R.MC_STATUS]; omega
  have hRetire : ∀ c, R.CKR_START_STAGE ≠ R.MC_RETIRE c := fun c => by simp only [R.CKR_START_STAGE, R.MC_RETIRE]; omega
  have hSyn : offSyn R.CKR_START_STAGE := by unfold offSyn; decide
  rw [ht, hEq, trained_get (by decide) hStatus hRetire (by decide) hSyn, hGet, started_get (by decide) (by decide),
    State.get_put_self _ _ _ (by decide)]
  rfl

/-! Training. -/

theorem channelStartFail_pool (ch : Nat) (s : State) : (channelStartFail ch s).pool = s.pool :=
  raiseNode_pool _ _ (show Ev.MEM_START_FAIL < 256 by decide)

theorem evtKey_status (c : Fin 24) : evtKey (R.MC_STATUS c.val) = false := by
  revert c
  decide

theorem channelStartFail_state (c : Fin 24) (s : State) : (channelStartFail c.val s).get (F.MC_STATUS_STATE c.val) = 4 := by
  rw [channelStartFail, raiseNode_get _ _ _ (show Ev.MEM_START_FAIL < 256 by decide) (evtKey_status c),
      State.get_put_self _ _ _ (by simp [Fld.ok])]
  rfl

theorem putState_state (c v : Nat) (hv : v < 8) (s : State) :
    (s.put (F.MC_STATUS_STATE c) v).get (F.MC_STATUS_STATE c) = v := by
  rw [State.get_put_self _ _ _ (by simp [Fld.ok])]
  exact Nat.mod_eq_of_lt hv

theorem putState_other {c d : Nat} (h : d ≠ c) (v : Nat) (s : State) :
    (s.put (F.MC_STATUS_STATE c) v).get (F.MC_STATUS_STATE d) = s.get (F.MC_STATUS_STATE d) :=
  State.get_put_key _ _ _ _ (by simp only [R.MC_STATUS]; omega)

theorem openPool_eq (h : s.pool.held = []) : ∃ p : PoolState, p.training = s.pool.training ∧
    openPool s = raiseNode ⟨Ev.MEM_READY, 0, 0, 0, 0⟩ ({ s with pool := p }.put F.CKR_START_STAGE_MEM_READY 1) := by
  unfold openPool
  split
  · refine ⟨{ s.pool with scrubFrom := s.ticks }, rfl, serveHeld_none ?_⟩
    rw [raiseNode_pool _ _ (by decide)]
    exact h
  · refine ⟨{ s.pool with l2 := [], l1c := [], opening := [], cleanPos := 0, scrubPos := 0, scrubFrom := s.ticks }, rfl,
      serveHeld_none ?_⟩
    rw [raiseNode_pool _ _ (by decide)]
    exact h

theorem trainingEnd_waits (h : s.pool.training ≠ []) : trainingEnd s = s := if_pos h

/-- The node with a channel out of training. -/
def untrained (c : Nat) (s : State) : State := { s with pool := { s.pool with training := NSet.del s.pool.training c } }

theorem exec_trainingDone {ch : Fin 24} (hMem : s.pool.training.contains ch.val = true) (ok : Bool) :
    exec (.channelTrainingDone ch ok) s = .next (trainingEnd (if ok then (untrained ch.val s).put (F.MC_STATUS_STATE ch.val) 2
      else channelStartFail ch.val (untrained ch.val s))) := by
  show execChannelTrainingDone ch ok s = _
  rw [execChannelTrainingDone, hMem, Bool.not_true, if_neg Bool.false_ne_true, untrained]

theorem untrained_last {ch : Fin 24} (h : s.pool.training = [ch.val]) : (untrained ch.val s).pool.training = [] := by
  show NSet.del s.pool.training ch.val = []
  rw [h]
  simp [NSet.del]

/-- A channel's training that succeeds while others still train. -/
theorem trainingDone_more {ch : Fin 24} (hMem : s.pool.training.contains ch.val = true)
    (hMore : 2 ≤ (NSet.del s.pool.training ch.val).length) : completes (.channelTrainingDone ch true) s (fun t =>
      t.get (F.MC_STATUS_STATE ch) = 2 ∧ t.pool.training.contains ch.val = false) := by
  have hNe : ((untrained ch.val s).put (F.MC_STATUS_STATE ch.val) 2).pool.training ≠ [] := fun e => by
    rw [State.put_pool] at e
    have hNil : NSet.del s.pool.training ch.val = [] := e
    rw [hNil] at hMore
    exact absurd hMore (by decide)
  refine ⟨(untrained ch.val s).put (F.MC_STATUS_STATE ch.val) 2, ?_, putState_state _ 2 (by decide) _,
    NSet.contains_del_self ..⟩
  rw [exec_trainingDone hMem, if_pos rfl, trainingEnd_waits hNe]

/-- The last channel's training that succeeds opens the pool. -/
theorem trainingDone_last {ch : Fin 24} (hMem : s.pool.training = [ch.val])
    (hUp : (List.range 24).all (fun c => c == ch.val || s.get (F.MC_STATUS_STATE c) == 2) = true) (hHeld : s.pool.held = []) :
    completes (.channelTrainingDone ch true) s (fun t => t.on F.CKR_START_STAGE_MEM_READY = true ∧ t.pool.training = []) := by
  have hAll : (List.range 24).all (fun c => ((untrained ch.val s).put (F.MC_STATUS_STATE ch.val) 2).get
      (F.MC_STATUS_STATE c) == 2) = true := List.all_eq_true.mpr fun c hc => by
    have hOne := List.all_eq_true.mp hUp c hc
    by_cases e : c = ch.val
    · rw [e, putState_state _ 2 (by decide)]
      rfl
    · rw [putState_other e, untrained, State.get_mk]
      simpa [e] using hOne
  obtain ⟨p, hTrain, hOpen⟩ := openPool_eq (s := (untrained ch.val s).put (F.MC_STATUS_STATE ch.val) 2) hHeld
  refine ⟨_, exec_trainingDone (by simp [hMem]) true, ?_⟩
  rw [if_pos rfl, trainingEnd, if_neg (by rw [State.put_pool, untrained_last hMem]; exact fun h => h rfl), if_pos hAll, hOpen]
  refine ⟨?_, ?_⟩
  · rw [State.on, raiseNode_get _ _ _ (by decide) (by decide), State.get_put_self _ _ _ (by decide)]
    rfl
  · rw [raiseNode_pool _ _ (by decide), State.put_pool]
    exact hTrain.trans (untrained_last hMem)

/-- The last channel's training that fails leaves the pool closed. -/
theorem trainingDone_fails {ch : Fin 24} (hMem : s.pool.training = [ch.val]) (hHeld : s.pool.held = []) :
    completes (.channelTrainingDone ch false) s (fun t =>
      t.get (F.MC_STATUS_STATE ch) = 4 ∧ t.on F.CKR_START_STAGE_MEM_FAIL = true) := by
  have hState := channelStartFail_state ch (untrained ch.val s)
  have hAll : ¬ (List.range 24).all (fun c => (channelStartFail ch.val (untrained ch.val s)).get
      (F.MC_STATUS_STATE c) == 2) = true := fun h => by
    have hOne := List.all_eq_true.mp h ch.val (List.mem_range.mpr ch.isLt)
    rw [hState] at hOne
    exact absurd hOne (by decide)
  have hKey : R.MC_STATUS ch.val ≠ R.CKR_START_STAGE := by simp only [R.MC_STATUS, R.CKR_START_STAGE]; omega
  refine ⟨(channelStartFail ch.val (untrained ch.val s)).put F.CKR_START_STAGE_MEM_FAIL 1, ?_, ?_, ?_⟩
  · rw [exec_trainingDone (by simp [hMem]), if_neg Bool.false_ne_true, trainingEnd, if_neg (by
      rw [channelStartFail_pool, untrained_last hMem]; exact fun h => h rfl), if_neg hAll, serveHeld_none]
    rw [State.put_pool, channelStartFail_pool]
    exact hHeld
  · exact (State.get_put_key _ _ _ _ hKey).trans hState
  · rw [State.on, State.get_put_self _ _ _ (by decide)]
    rfl

/-! The cleaner and the scrubber. -/

/-- A visit of the lazy cleaner to a granule that is not open. -/
theorem lazyClean_reads (hPos : s.pool.cleanPos < s.usable) (hReady : s.on F.CKR_START_STAGE_MEM_READY = true)
    (hClosed : s.pool.l2.contains s.pool.cleanPos = false) (hUe : s.pool.l2ue = []) : completes .lazyCleanVisit s (fun t =>
      t.pool.l1c.contains s.pool.cleanPos = true ∧ t.pool.cleanPos = (s.pool.cleanPos + 1) % s.usable ∧
      t.pool.cells = s.pool.cells ∧ t.regs = s.regs) := by
  have hExec : exec .lazyCleanVisit s = .next (if s.pool.l1c.contains s.pool.cleanPos
      then { s with pool := { s.pool with cleanPos := (s.pool.cleanPos + 1) % s.usable } }
      else cleanL1 s.pool.cleanPos { s with pool := { s.pool with cleanPos := (s.pool.cleanPos + 1) % s.usable } }) := by
    show execLazyCleanVisit s = _
    rw [execLazyCleanVisit, if_neg (by simp [hReady]; omega), if_pos hPos]
    dsimp only
    rw [hClosed, hUe, Bool.false_or, show List.contains ([] : NSet) s.pool.cleanPos = false from rfl, Bool.or_false]
    split <;> rfl
  refine ⟨_, hExec, ?_⟩
  split
  next h => exact ⟨h, rfl, rfl, rfl⟩
  next => exact ⟨NSet.contains_ins_self .., rfl, rfl, rfl⟩

/-- A scrub pass that finds no line left. -/
theorem scrub_pass (hEn : s.on F.MEMG_SCRUB_EN = true) (hNone : s.pool.l0 = []) : completes (.patrolScrubRead []) s (fun t =>
    t.get F.MEMG_SCRUB_STATUS_PASSES = (s.get F.MEMG_SCRUB_STATUS_PASSES + 1) % F.MEMG_SCRUB_STATUS_PASSES.size ∧
    t.pool.scrubPos = 0 ∧ t.pool.cells = s.pool.cells) := by
  have hExec : exec (.patrolScrubRead []) s = .next (endPass s) := by
    show execPatrolScrubRead [] s = _
    rw [execPatrolScrubRead, hEn, Bool.not_true, if_neg Bool.false_ne_true, addErrors, State.each_nil]
    dsimp only
    rw [hNone]
    rfl
  refine ⟨_, hExec, ?_, rfl, rfl⟩
  rw [endPass, State.get_mk, State.putB, State.get_put_of _ _ _ _ (by decide), State.incr,
      State.get_put_self _ _ _ (by decide)]

theorem readServed_cells (line : Nat) (s : State) : (readServed line s).2.pool.cells = s.pool.cells :=
  same_of_out (l := [.bytes]) .bytes (@readServed_out _ .mem .mem .mem .any line s)

/-- A scrub read of a line without error goes on to the next. -/
theorem scrub_line (hEn : s.on F.MEMG_SCRUB_EN = true) (hOne : s.pool.l0 = [line]) (hPos : s.pool.scrubPos ≤ line)
    (hLine : s.scrubable line = true) (hServe : s.avail line = .serve) :
    completes (.patrolScrubRead []) s (fun t => t.pool.scrubPos = line + 1 ∧ t.pool.cells = s.pool.cells) := by
  refine ⟨{ (readServed line s).2 with pool := { (readServed line s).2.pool with scrubPos := line + 1 } }, ?_, rfl,
    readServed_cells line s⟩
  show execPatrolScrubRead [] s = _
  rw [execPatrolScrubRead, hEn, Bool.not_true, if_neg Bool.false_ne_true, addErrors, State.each_nil]
  dsimp only
  rw [hOne]
  rw [List.find?_cons_of_pos (by simp [hPos, hLine])]
  dsimp only
  rw [hServe]

/-! Device retirement and row repair. -/

theorem repairAdd_pool (type flags serial loc : Nat) (s : State) : (repairAdd type flags serial loc s).pool = s.pool := by
  unfold repairAdd
  dsimp only
  split
  · rfl
  · split
    · split
      · rw [raiseNode_pool _ _ (by decide)]
        rfl
      · rfl
    · rfl

theorem repairAdd_get (hEvt : evtKey f.key = false) (hRpr : f.key ≠ R.RPR_STATUS) (type flags serial loc : Nat) (s : State) :
    (repairAdd type flags serial loc s).get f = s.get f := by
  unfold repairAdd
  dsimp only
  split
  · rfl
  · split
    · split
      · rw [raiseNode_get _ _ _ (by decide) hEvt, State.get_put_key _ _ _ _ hRpr, State.get_mk]
      · rfl
    · rfl

theorem memEvent_pool {src : Nat} (h : src < 256) (d : Nat) (urgent : Bool) (a : DramAddr) (s : State) :
    (memEvent src d urgent a s).pool = s.pool := raiseNode_pool _ _ h

theorem memEvent_get {src : Nat} (h : src < 256) (hEvt : evtKey f.key = false) (d : Nat) (urgent : Bool) (a : DramAddr)
    (s : State) : (memEvent src d urgent a s).get f = s.get f := raiseNode_get _ _ _ h hEvt

theorem retireDevice_pool (a : DramAddr) (d : Nat) (s : State) : (retireDevice a d s).pool = s.pool := by
  unfold retireDevice
  dsimp only
  rw [memEvent_pool (by decide), memEvent_pool (by decide), repairAdd_pool, State.put_pool]

/-- A byte of a word replaced reads as the new byte. -/
theorem digit_replaced (v d e : Nat) (hd : d < 256) :
    (v / 2 ^ (8 * e + 8) * 2 ^ (8 * e + 8) + d * 2 ^ (8 * e) + v % 2 ^ (8 * e)) / 2 ^ (8 * e) % 256 = d := by
  have hPow : 2 ^ (8 * e + 8) = 2 ^ (8 * e) * 256 := Nat.pow_add ..
  have hPos := Nat.two_pow_pos (8 * e)
  have hLow : v % 2 ^ (8 * e) < 2 ^ (8 * e) := Nat.mod_lt _ hPos
  have hSum : v / 2 ^ (8 * e + 8) * 2 ^ (8 * e + 8) + d * 2 ^ (8 * e) + v % 2 ^ (8 * e) =
      2 ^ (8 * e) * (v / 2 ^ (8 * e + 8) * 256 + d) + v % 2 ^ (8 * e) := by rw [hPow]; ring
  rw [hSum, Nat.mul_add_div hPos, Nat.div_eq_of_lt hLow]
  omega

theorem digit_replaced_lt (v d e : Nat) (hd : d < 256) (he : e < 8) (hv : v < 2 ^ 64) :
    v / 2 ^ (8 * e + 8) * 2 ^ (8 * e + 8) + d * 2 ^ (8 * e) + v % 2 ^ (8 * e) < 2 ^ 64 := by
  interval_cases e <;> norm_num <;> omega

theorem evtKey_retire (c : Fin 24) : evtKey (R.MC_RETIRE c.val) = false ∧ R.MC_RETIRE c.val ≠ R.RPR_STATUS := by
  revert c
  decide

theorem retireDevice_retires (c : Fin 24) (e : Fin 8) (d : Fin 10) (s : State) {a : DramAddr} (hCh : a.ch = c.val)
    (hEntry : a.entry = e.val) : (retireDevice a d.val s).retiredDev c.val e.val = some d.val := by
  obtain ⟨hEvt, hRpr⟩ := evtKey_retire c
  have hD : 128 + d.val < 256 := by omega
  have hLt := digit_replaced_lt (s.get (F.MC_RETIRE_ENTRIES c.val)) (128 + d.val) e.val hD e.isLt (State.get_lt ..)
  have hGet : (retireDevice a d.val s).get (F.MC_RETIRE_ENTRIES c.val) =
      s.get (F.MC_RETIRE_ENTRIES c.val) / 2 ^ (8 * e.val + 8) * 2 ^ (8 * e.val + 8) + (128 + d.val) * 2 ^ (8 * e.val) +
        s.get (F.MC_RETIRE_ENTRIES c.val) % 2 ^ (8 * e.val) := by
    unfold retireDevice
    rw [hEntry, hCh]
    dsimp only
    rw [memEvent_get (by decide) hEvt, memEvent_get (by decide) hEvt, repairAdd_get hEvt hRpr,
      State.get_put_self _ _ _ (by simp [Fld.ok])]
    exact Nat.mod_eq_of_lt hLt
  rw [State.retiredDev, hGet, digit_replaced _ _ _ hD, if_pos (by omega)]
  congr 1
  omega

/-- MC_n_CMD retires a device position. -/
theorem mcCmd_retires (c : Fin 24) (e : Fin 8) (d : Fin 10) (hNone : s.retiredDev c.val e.val = none) :
    completes (.mcCmdRetire c (BitVec.ofNat 32 (0x52540000 + e.val * 256 + d.val))) s (fun t =>
      t.retiredDev c.val e.val = some d.val ∧ t.pool = s.pool) := by
  have hWord : (BitVec.ofNat 32 (0x52540000 + e.val * 256 + d.val)).toNat = 0x52540000 + e.val * 256 + d.val := by
    rw [BitVec.toNat_ofNat, Nat.mod_eq_of_lt (by omega)]
  have hE : bits (0x52540000 + e.val * 256 + d.val) 10 8 = e.val := by simp only [bits]; omega
  have hDev : bits (0x52540000 + e.val * 256 + d.val) 3 0 = d.val := by simp only [bits]; omega
  have hCode : bits (0x52540000 + e.val * 256 + d.val) 31 16 = 0x5254 := by simp only [bits]; omega
  have hExec : exec (.mcCmdRetire c (BitVec.ofNat 32 (0x52540000 + e.val * 256 + d.val))) s = .next (retireDevice
      { ch := c.val, sub := e.val / 4, slot := e.val / 2 % 2, cs := e.val % 2, cid := 0, bg := 0, ba := 0, row := 0,
          col := 0 }
      d.val s) := by
    show execMcCmdRetire c _ s = _
    rw [execMcCmdRetire, mcCmdWrite, hWord, hE, hDev, hCode]
    rw [hNone, if_pos ⟨rfl, d.isLt, rfl⟩]
  refine ⟨_, hExec, retireDevice_retires c e d s rfl ?_, retireDevice_pool ..⟩
  simp only [DramAddr.entry]
  omega

/-- The repair of a row ends. -/
theorem softPpr_done {k : Nat} {x : RowRepair} (hRun : s.pool.softRun[k]? = some x)
    (hMode : s.quadMode (quadOf x.addr.ch) = .running) (hHeld : s.pool.held = []) : completes (.softPprDone k) s (fun t =>
      t.pool.soft = s.pool.soft ++ [x] ∧ t.pool.softRun = s.pool.softRun.erase x ∧ t.get F.MEMG_PPR_STATUS_SOFT =
      min (F.MEMG_PPR_STATUS_SOFT.size - 1) (s.get F.MEMG_PPR_STATUS_SOFT + 1) ∧ t.pool.cells = s.pool.cells) := by
  have hExec : exec (.softPprDone k) s = .next (softPprDone x s) := by
    show execSoftPprDone k s = _
    rw [execSoftPprDone, hRun]
    exact if_pos hMode
  have hDone : ∃ p : PoolState, p.soft = s.pool.soft ++ [x] ∧ p.softRun = s.pool.softRun.erase x ∧ p.cells = s.pool.cells ∧
      ∃ serial, softPprDone x s = memEvent Ev.MEM_PPR_DONE x.dev false x.addr (repairAdd 6 0 serial (locDramRow x)
        (({ s with pool := p } : State).bump F.MEMG_PPR_STATUS_SOFT 1)) := by
    refine ⟨_, ?_, ?_, ?_, _, serveHeld_none ?_⟩
    case refine_4 =>
      rw [memEvent_pool (by decide), repairAdd_pool, State.bump, State.put_pool]
      exact hHeld
    all_goals rfl
  obtain ⟨p, hSoft, hLeft, hCells, serial, hEq⟩ := hDone
  have hPool : (softPprDone x s).pool = p := by
    rw [hEq, memEvent_pool (by decide), repairAdd_pool, State.bump, State.put_pool]
  refine ⟨_, hExec, by rw [hPool, hSoft], by rw [hPool, hLeft], ?_, by rw [hPool, hCells]⟩
  rw [hEq, memEvent_get (by decide) (by decide), repairAdd_get (by decide) (by decide),
      State.get_bump_self _ _ (by decide), State.get_mk]

/-- A row-repair commit of a channel begins. -/
theorem hardPpr_starts {ch : Fin 24} (hIdle : s.on F.MEMG_PPR_STATUS_BUSY = false) :
    completes (.hardPprCmd (BitVec.ofNat 32 (0x48500000 + ch.val))) s (fun t => t.pool.hardCh = some ch.val ∧
      t.on F.MEMG_PPR_STATUS_BUSY = true ∧ t.get (F.MC_STATUS_STATE ch) = 5) := by
  have hWord : (BitVec.ofNat 32 (0x48500000 + ch.val)).toNat = 0x48500000 + ch.val := by
    rw [BitVec.toNat_ofNat, Nat.mod_eq_of_lt (by omega)]
  have hCh : bits (0x48500000 + ch.val) 4 0 = ch.val := by simp only [bits]; omega
  have hCode : bits (0x48500000 + ch.val) 31 16 = 0x4850 := by simp only [bits]; omega
  have hKey : R.MEMG_PPR_STATUS ≠ R.MC_STATUS ch.val := by simp only [R.MEMG_PPR_STATUS, R.MC_STATUS]; omega
  refine ⟨(({ s with pool := { s.pool with hardCh := some ch.val } } : State).put F.MEMG_PPR_STATUS_BUSY 1).put
    (F.MC_STATUS_STATE ch.val) 5, ?_, rfl, ?_, putState_state _ 5 (by decide) _⟩
  · show execHardPprCmd _ s = _
    rw [execHardPprCmd, pprCmdWrite, hWord, hCh, hCode, if_pos ⟨rfl, ch.isLt, by rw [hIdle]; decide⟩]
  · rw [State.on, State.get_put_key _ _ _ _ hKey, State.get_put_self _ _ _ (by decide)]
    rfl

/-- A row-repair commit ends. -/
theorem hardPpr_done {ch : Fin 24} (hCh : s.pool.hardCh = some ch.val) (hHeld : s.pool.held = []) :
    completes .hardPprDone s (fun t => t.pool.hardCh = none ∧ t.on F.MEMG_PPR_STATUS_BUSY = false ∧
      t.get (F.MC_STATUS_STATE ch) = 2 ∧ t.pool.soft = s.pool.soft.filter (fun r => r.addr.ch != ch.val)) := by
  have hExec : exec .hardPprDone s = .next (hardPprDone ch.val s) := by
    show execHardPprDone s = _
    rw [execHardPprDone, hCh]
  have hDone : ∃ p : PoolState, p.soft = s.pool.soft.filter (fun r => r.addr.ch != ch.val) ∧ p.hardCh = none ∧ ∃ u : State,
      u.pool = p ∧ u.on F.MEMG_PPR_STATUS_BUSY = false ∧ hardPprDone ch.val s = u.put (F.MC_STATUS_STATE ch.val) 2 := by
    unfold hardPprDone
    extract_lets mine p s1 s2 s3 s4
    have hPool : s4.pool = s1.pool :=
      (State.each_eq s3 (g := State.pool) mine _ fun r _ u => repairAdd_pool ..).trans rfl
    have hBusy : s4.on F.MEMG_PPR_STATUS_BUSY = s3.on F.MEMG_PPR_STATUS_BUSY :=
      State.each_eq s3 (g := fun u => u.on F.MEMG_PPR_STATUS_BUSY) mine _ fun r _ u => by
        rw [State.on, State.on, repairAdd_get (f := F.MEMG_PPR_STATUS_BUSY) (by decide) (by decide)]
    refine ⟨s1.pool, rfl, rfl, s4, hPool, ?_, serveHeld_none ?_⟩
    · rw [hBusy, State.on, State.get_put_self _ _ _ (by decide)]
      rfl
    · rw [State.put_pool, hPool]
      exact hHeld
  obtain ⟨p, hSoft, hNone, u, hPool, hBusy, hEq⟩ := hDone
  have hKey : R.MEMG_PPR_STATUS ≠ R.MC_STATUS ch.val := by simp only [R.MEMG_PPR_STATUS, R.MC_STATUS]; omega
  have hPut : (u.put (F.MC_STATUS_STATE ch.val) 2).pool = p := by rw [State.put_pool, hPool]
  exact ⟨_, hExec.trans (congrArg _ hEq), by rw [hPut, hNone], (State.on_put_key _ _ hKey).trans hBusy,
    putState_state _ 2 (by decide) _, by rw [hPut, hSoft]⟩

/-! Channel faults. -/

theorem Tab.get_del_self {α : Type} (d : α) (t : Tab α) (x : Nat) : Tab.get d (Tab.del t x) x = d := by
  induction t with
  | nil => rfl
  | cons e t ih =>
    obtain ⟨k, v⟩ := e
    by_cases h : k = x
    · rw [Tab.del, List.filter_cons_of_neg (by simp [h])]
      exact ih
    · rw [Tab.del, List.filter_cons_of_pos (by simp [h]), Tab.get, if_neg h]
      split
      · rfl
      · exact ih

/-- An alert of a channel that is not in retraining. -/
theorem rcdAlert_reads {ch : Fin 24} (hIdle : Tab.get 0 s.pool.retrain ch = 0) :
    completes (.rcdAlert ch true false) s (fun t => Tab.get 0 t.pool.replays ch = 0 ∧ t.regs = s.regs) ∧
      completes (.rcdAlert ch true true) s (fun t => t.get (F.MC_STATUS_STATE ch) = 4 ∧ Tab.get 0 t.pool.retrain ch = 1) := by
  have hRest : ¬ 0 < Tab.get 0 s.pool.retrain ch.val := by rw [hIdle]; exact Nat.lt_irrefl 0
  have hReplay : exec (.rcdAlert ch true false) s =
      .next { s with pool := { s.pool with replays := s.pool.replays.del ch.val } } := by
    show execRcdAlert ch true false s = _
    rw [execRcdAlert]
    dsimp only
    rw [if_neg hRest]
    rfl
  have hFault : exec (.rcdAlert ch true true) s = .next (channelFault ch.val s) := by
    show execRcdAlert ch true true s = _
    rw [execRcdAlert]
    dsimp only
    rw [if_neg hRest, Bool.true_or, if_pos rfl]
  refine ⟨⟨_, hReplay, Tab.get_del_self .., rfl⟩, _, hFault, ?_, ?_⟩
  · unfold channelFault
    dsimp only
    rw [raiseNode_get _ _ _ (show Ev.MEM_CHANNEL_FAULT < 256 by decide) (evtKey_status ch), State.bump,
      State.get_put_of _ _ _ _ (.inr ⟨Nat.zero_le 7, show 7 < 64 by decide, .inr (show 7 < 29 by decide)⟩),
          putState_state _ 4 (by decide)]
  · unfold channelFault
    dsimp only
    rw [raiseNode_pool _ _ (show Ev.MEM_CHANNEL_FAULT < 256 by decide)]
    exact Tab.get_set_self _ _ _ _

/-- A retraining ends. -/
theorem retrain_done {ch : Fin 24} (hRun : 0 < Tab.get 0 s.pool.retrain ch) (hHeld : s.pool.held = []) :
    completes (.channelRetrainDone ch true) s (fun t => t.get (F.MC_STATUS_STATE ch) = 2 ∧ Tab.get 0 t.pool.retrain ch = 0) ∧
      completes (.channelRetrainDone ch false) s (fun t => Tab.get 0 t.pool.retrain ch =
        (if Tab.get 0 s.pool.retrain ch < 3 then Tab.get 0 s.pool.retrain ch + 1 else 0) ∧
        t.get (F.MC_STATUS_STATE ch) = s.get (F.MC_STATUS_STATE ch)) := by
  have hNe : Tab.get 0 s.pool.retrain ch.val ≠ 0 := hRun.ne'
  constructor
  · refine ⟨({ s with pool := { s.pool with retrain := s.pool.retrain.del ch.val } } : State).put (F.MC_STATUS_STATE
        ch.val) 2,
      ?_, putState_state _ 2 (by decide) _, Tab.get_del_self ..⟩
    show execChannelRetrainDone ch true s = _
    rw [execChannelRetrainDone]
    dsimp only
    rw [if_neg hNe, if_pos rfl, serveHeld_none (by rw [State.put_pool]; exact hHeld)]
  · by_cases hMore : Tab.get 0 s.pool.retrain ch.val < 3
    · refine ⟨({ s with pool := { s.pool with retrain := Tab.set s.pool.retrain ch.val (Tab.get 0 s.pool.retrain
          ch.val + 1) } }
        : State).bump (F.MC_STATUS_RETRAINS ch.val) 1, ?_, ?_, ?_⟩
      · show execChannelRetrainDone ch false s = _
        rw [execChannelRetrainDone]
        dsimp only
        rw [if_neg hNe, if_neg Bool.false_ne_true, if_pos hMore]
      · rw [if_pos hMore]
        exact Tab.get_set_self _ _ _ _
      · rw [State.bump, State.get_put_of _ _ _ _ (.inr ⟨Nat.zero_le 7, show 7 < 64 by decide,
            .inr (show 7 < 29 by decide)⟩), State.get_mk]
    · refine ⟨{ s with pool := { s.pool with retrain := s.pool.retrain.del ch.val } }, ?_, ?_, rfl⟩
      · show execChannelRetrainDone ch false s = _
        rw [execChannelRetrainDone]
        dsimp only
        rw [if_neg hNe, if_neg Bool.false_ne_true, if_neg hMore]
      · rw [if_neg hMore]
        exact Tab.get_del_self ..

/-- Settles O30. Each command's effect is that of the operation it runs. -/
theorem memoryUpkeep : Obligations.MemoryUpkeep := by
  refine ⟨fun s x hTable hRows hIdle hStage hFresh => ?_, fun s ch hMem hMore => trainingDone_more hMem hMore,
    fun s ch hMem hUp hHeld => trainingDone_last hMem hUp hHeld, fun s ch hMem hHeld => trainingDone_fails hMem hHeld,
    fun s hPos hReady hClosed hUe => lazyClean_reads hPos hReady hClosed hUe, fun s hEn hNone => scrub_pass hEn hNone,
    fun s line hEn hOne hPos hLine hServe _ => scrub_line hEn hOne hPos hLine hServe,
    fun s ch e d hNone => mcCmd_retires ch e d hNone, fun s k x hRun hMode hHeld => softPpr_done hRun hMode hHeld,
    fun s ch hIdle => hardPpr_starts hIdle, fun s ch hCh hHeld => hardPpr_done hCh hHeld,
    fun s ch hIdle => rcdAlert_reads hIdle, fun s ch hRun hHeld => retrain_done hRun hHeld⟩
  refine ⟨memoryStart (List.replicate 24 x) s, ?_, memoryStart_reads hTable hStage rfl⟩
  show execMemoryStart _ s = _
  have hWf : ((List.replicate 24 x).length ≠ 24 || (List.replicate 24 x).any (fun p => p.rows == 0)) = false := by
    simp [hRows]
  rw [execMemoryStart, hWf, if_neg Bool.false_ne_true, if_neg (by simp [hIdle, hStage]), hFresh]

end Sys2Proof.Machine
end

section
/-! The end of a job whose program an invoke started: its return copy reads pool memory. -/

set_option maxRecDepth 100000

namespace Sys2Proof.Machine

-- One proof at a time: the check compiles the whole text within a fixed memory.
set_option Elab.async false

open Sys2Proof.Tests

/-- A HELT job that poison has stopped, of the first tally of a ring of the SM. -/
def stoppedHelt : Job := { newJob 0 128 0 0 .helt [] [] 1 with bad := some (0x20, 0) }

/-- The program that issued it, with the invoke that asks for a return copy to address 64 (RET_VA at byte 128). -/
def invokedSm : Prog :=
  { Prog.start ⟨0, [], none⟩ (some ⟨0, { Packet.empty with data := List.replicate 128 0 ++ [64] }⟩) [] 64 with
    t := [(0, { Tally.idle with st := 1 })] }

/-- A pool that serves, and whose first granule has an uncorrectable L2 entry that no read has found yet. -/
def unreadUe : State :=
  let s := st [(F.CKR_START_STAGE_MEM_READY, 1), (F.MEMG_GRANULES_USABLE, 1), (F.MC_STATUS_STATE 0, 2)]
  { s.setProg 128 invokedSm with hatch := { s.hatch with jobs := [stoppedHelt] }, pool := { s.pool with l2ue := [0] } }

/-! A transfer whose first piece meets poison ends at once. -/

variable {x : DmaTask} {s e : State} {n : Nat} {pc : Nat × Nat}

theorem dmaRead_poison (hFill : x.fill = false) (hPiece : linePieces (x.src + x.pos) n = [pc])
    (hHeld : (ringRead x.ring x.sctx (pc.1 % 2 ^ 52) pc.2 s).1.held = false)
    (hPoison : (ringRead x.ring x.sctx (pc.1 % 2 ^ 52) pc.2 s).1.poison = true) :
    dmaRead x e x.pos n s = (.bad 0x20 (pc.1 / 64 - x.src / 64), (ringRead x.ring x.sctx (pc.1 % 2 ^ 52) pc.2 s).2.draw) := by
  unfold dmaRead
  rw [hFill, if_neg Bool.false_ne_true, hPiece, List.foldl_cons, List.foldl_nil]
  dsimp only
  generalize ringRead x.ring x.sctx (pc.1 % 2 ^ 52) pc.2 s = res at hHeld hPoison
  obtain ⟨r, u⟩ := res
  dsimp only at hHeld hPoison ⊢
  cases Config.copyEarly u.freeCtr with
  | false => rw [if_neg Bool.false_ne_true, dmaLine, hHeld, if_neg Bool.false_ne_true, hPoison, if_pos rfl]
  | true => rw [if_pos rfl, dmaLine, hHeld, if_neg Bool.false_ne_true, hPoison, if_pos rfl]

theorem dmaFinish_pool (x : DmaTask) (status detail : Nat) (s : State) : (dmaFinish x status detail s).pool = s.pool := by
  rw [dmaFinish, pool_of_out (@tallyDone_out _ .mem ..)]

theorem dmaAdvance_poison (hWaits : x.waits = false) (hLeft : ¬x.len ≤ x.pos) (hSrc : x.srcRemote = false)
    (hFill : x.fill = false) (hPiece : linePieces (x.src + x.pos) (x.piece x.dst x.pos) = [pc])
    (hHeld : (ringRead x.ring x.sctx (pc.1 % 2 ^ 52) pc.2 s).1.held = false)
    (hPoison : (ringRead x.ring x.sctx (pc.1 % 2 ^ 52) pc.2 s).1.poison = true) :
    (dmaAdvance x s).pool = (ringRead x.ring x.sctx (pc.1 % 2 ^ 52) pc.2 s).2.pool := by
  unfold dmaAdvance
  rw [hWaits, if_neg Bool.false_ne_true, if_neg hLeft, hSrc, if_neg Bool.false_ne_true,
      dmaRead_poison hFill hPiece hHeld hPoison]
  dsimp only
  rw [dmaFinish_pool]
  rfl

/-- The state when the job has completed. -/
def heltDone : State := (finishJob stoppedHelt unreadUe).getD unreadUe

/-- The return copy of the invoke. -/
def returnCopy : DmaTask := ⟨128, 1, false, [0, 64, 128, 0x20000000, 0, 0, 0, 0].map (BitVec.ofNat 64), 0, false⟩

/-- The state in which it is taken on. -/
def returning : State :=
  let s := heltDone.setProg 128 (((heltDone.prog 128).getD invokedSm).setT 1 { Tally.idle with st := 1 })
  { s with rings := { s.rings with dma := s.rings.dma ++ [returnCopy] } }

theorem tallyComplete_returns : exec (.tallyComplete 128 0) unreadUe = .next (dmaAdvance returnCopy returning) := by
  rfl

theorem returnCopy_finds_ue : (dmaAdvance returnCopy returning).pool.l2ueSeen = [0] ∧ unreadUe.pool.l2ueSeen = [] := by
  rw [dmaAdvance_poison (pc := (0, 64)) (by decide) (by decide) (by decide) (by decide) (by decide) (by decide) (by decide)]
  decide

/-- Refutes O44: the end of a program's job starts the return copy of its invoke (R462), whose first read may change the
pool: here it finds an uncorrectable L2 entry. The statement does not ask that no invoke started the program. -/
theorem not_tasksUnitsAndRows : ¬Obligations.TasksUnitsAndRows := by
  intro ⟨_, _, _, _, _, _, hTally, _⟩
  obtain ⟨_, _, hPool⟩ := of_completes tallyComplete_returns (hTally unreadUe 128 0 stoppedHelt 0x20 0 invokedSm (by decide)
    (by decide) (by decide) (by decide) (by decide) (by decide) (by decide) (by decide) (by decide) (by decide) (by decide))
  obtain ⟨hSeen, hUnseen⟩ := returnCopy_finds_ue
  rw [hPool, hUnseen] at hSeen
  exact absurd hSeen (by decide)

end Sys2Proof.Machine
end
